-- ==== Sys2Proof/Config.lean ====
section
/-! DEFINITION. Config.lean: what the spec leaves open or defines by a published standard, as uninterpreted constants. -/

namespace Sys2Proof.Machine

/-- The settings of a block memory that its frames hold (R88-R93, R109-R113). `shapeA` and `shapeB` number the rows of
R88's table from 0; a port mode is 0 WRITE_FIRST, 1 READ_FIRST, 2 NO_CHANGE; each port has its own output register setting
(DESIGN CHOICE, notes/assumptions/45.md: R91 and R93 speak of "the output register" beside two ports); `netA` and `netB` are
the leaf networks of the ports (R153); `qmode` is coded as BM_QSTAT.QMODE. -/
structure BmCfg where
  shapeA : Nat
  shapeB : Nat
  ecc : Bool
  commonClk : Bool
  netA : Nat
  netB : Nat
  modeA : Nat
  modeB : Nat
  outRegA : Bool
  outRegB : Bool
  outInitA : BitVec 72
  outInitB : BitVec 72
  qmode : Nat
  fwft : Bool
  casc : Nat
  aeTh : Nat
  afTh : Nat
  deriving DecidableEq, Repr, Inhabited

/-- The settings of an arithmetic slice and of its group head (04_arithmetic_slices.md). `psub` 0 ADD, 1 SUB, 2 PORT;
`rnd` 0 TRUNC, 1 HALF_UP, 2 CONV; `cycSrc` 0 NONE, 1 FABRIC, 2 CONE; `regs` the register stages in use, bit 0 I1, 1 I2, 2 PS, 3 PR, 4 SO (R129); `net` the
leaf network of the group. -/
structure SliceCfg where
  psub : Nat
  presum : Bool
  yChain : Bool
  satEn : Bool
  rnd : Nat
  ow : Nat
  grpShift : Bool
  shBase : Nat
  guard : Nat
  grpStart : Bool
  detEn : Bool
  accCyc : Bool
  blkLen : Nat
  cycSrc : Nat
  cycCone : Nat
  regs : Nat
  net : Nat
  deriving DecidableEq, Repr, Inhabited

/-- A source of a clock (R150, R152, R153): SYS_REFCLK, an output of a fabric PLL, a clock-capable input of an I/O bank, the
recovered clock of a lane quad, a clock-injection cell of a sector, a global network. -/
inductive ClkSrc where
  | off
  | sysRef
  | fpll (sector output : Nat)
  | pin (bank input : Nat)
  | recovered (quad : Nat)
  | inject (sector cell : Nat)
  | gclk (n : Nat)
  deriving DecidableEq, Repr, Inhabited

/-- The settings in a sector's clock frames (R150, R151): the fabric PLL with its reference, dividers and output phases, the
source of each leaf network, 0-31 a global network, 32-35 an output of the sector's fabric PLL, any other value OFF (R153),
the leaf networks with LEAF_CE_EN as a mask (R154), and the clock-injection cells in use, with the global network each is
placed on (R152). -/
structure ClkCfg where
  used : Bool
  run : Bool
  ref : ClkSrc
  n : Nat
  m : Nat
  d : List Nat
  phase : List Nat
  leaf : List Nat
  leafCe : Nat
  inj : List Nat
  deriving DecidableEq, Repr, Inhabited

/-- The options of a flip-flop beside INIT (R44): D from X or from O0/O1; SRVAL; SRTYPE 0 NONE, 1 SYNC, 2 ASYNC; CLKSEL; CESEL 0,
1, any other value ALWAYS; SRSEL. -/
structure FfCfg where
  fromX : Bool
  srVal : Bool
  srType : Nat
  clkSel : Bool
  ceSel : Nat
  srSel : Bool
  deriving DecidableEq, Repr, Inhabited

/-- The settings of a logic element (R42, R44, R50): mode 0 SINGLE, 1 DUAL, 2 ARITH; the table; CIN_SEL 0 constant 0, 1 constant
1, 2 the X input, any other value CHAIN; the two flip-flops. -/
structure LeCfg where
  mode : Nat
  table : BitVec 64
  cin : Nat
  ff0 : FfCfg
  ff1 : FfCfg
  deriving DecidableEq, Repr, Inhabited

/-- What the frames of a logic tile configure (R42-R57), each as a list of entries; what is not listed is 0: logic elements
by index; the leaf networks of CLK0 and CLK1 by `2 * cluster + pin` (R48); multiplexer selects by number in the tile (R52);
bus-tap lines by tap; isolation cells by the number of the wire that leaves the tile, 1 for held at 1, 2 for LAST (R249). -/
structure TileCfg where
  le : List (Nat × LeCfg)
  clk : List (Nat × Nat)
  mux : List (Nat × Nat)
  tap : List (Nat × Nat)
  iso : List (Nat × Nat)
  deriving DecidableEq, Repr, Inhabited

/-- A net of the fabric (02_logic_fabric.md): output `o` of a logic element (0 O0, 1 O1, 2 Q0, 3 Q1), its carry in and carry out, what a
multiplexer drives, a bus line of a sector, and a signal that comes from a hard block or a user I/O. -/
inductive Net where
  | out (le o : Nat)
  | cin (le : Nat)
  | cout (le : Nat)
  | mux (m : Nat)
  | line (sector l : Nat)
  | ext (n : Nat)
  deriving DecidableEq, Repr, Inhabited

end Sys2Proof.Machine

namespace Sys2Proof.Config

open Sys2Proof.Machine (BmCfg SliceCfg ClkCfg ClkSrc TileCfg Net)

/-- SHA3-256 of a byte string (R174, R183, R186). Uninterpreted: notes/assumptions/4.md. -/
opaque sha3 : List Byte → BitVec 256

/-- ML-DSA-44 verification with an empty context string: public key, message, signature (R186, R556). -/
opaque mldsaVerify : List Byte → List Byte → List Byte → Bool

/-- ML-DSA-44 signature of a message under the secret half of a key pair (R575). -/
opaque mldsaSign : BitVec 256 → List Byte → List Byte

/-- The public key of ML-DSA.KeyGen from a 256-bit seed (R574). -/
opaque mldsaPublic : BitVec 256 → List Byte

/-- KMAC256 of SP 800-185: key, data, customisation string (R571, R574). -/
opaque kmac : BitVec 256 → List Byte → List Byte → BitVec 256

/-- AES-256-GCM without additional data: key, IV, stored block, tag; none when the tag does not match (R184). -/
opaque gcmOpen : BitVec 256 → List Byte → List Byte → List Byte → Option (List Byte)

/-- Expansion of one raw DEFLATE stream (R185); none on an error. -/
opaque inflate : List Byte → Option (List Byte)

/-- The Decica firmware-key digests V0 and V1 held in the boot ROM (R555). -/
opaque firmwareKey : Nat → BitVec 256

/-- The security block's random source: draw `n` (R569, R571). A free value. -/
opaque random : Nat → BitVec 256

/-- The bus-driver cells that a frame configures, each with its line: frame position and its 64 data words. The places of
the cells in a frame are not in the spec (R215): notes/assumptions/5.md. -/
opaque busCells : Nat → List Word → List (Nat × Nat)

/-- The settings of a block memory after one of its frames is written: position, data words, settings before (R216). -/
opaque bmCfg : Nat → List Word → BmCfg → BmCfg

/-- The settings of a slice after one of its frames is written. -/
opaque sliceCfg : Nat → List Word → SliceCfg → SliceCfg

/-- The INIT values of a tile's flip-flops after one of its frames is written (R44). -/
opaque initVals : Nat → List Word → BitVec 1024 → BitVec 1024

/-- The settings in the sector clock frames after one of them is written (R151). -/
opaque clkCfg : Nat → List Word → ClkCfg → ClkCfg

/-- The settings of a logic tile after one of its frames is written: position, data words, settings before (R215). -/
opaque tileCfg : Nat → List Word → TileCfg → TileCfg

/-- The selectors of the global networks that a sector clock frame configures, each with its source (R152). The spec does not
say which frames hold them: notes/assumptions/46.md. -/
opaque gclkCfg : Nat → List Word → List (Nat × ClkSrc)

/-- The sides of sector-boundary crossing FIFOs that a frame of a sector-edge tile configures: side, leaf network, threshold
(R161, R215). -/
opaque crossCfg : Nat → List Word → List (Nat × Nat × Nat)

/-- The number of inputs of a routing multiplexer (R52): Huarid's assignment. -/
opaque muxSize : Nat → Nat

/-- What input `k` of a multiplexer is, as an index into what can reach it (R52, R53): Huarid's assignment. -/
opaque muxSource : Nat → Nat → Nat

/-- The value of a net that the model does not evaluate (draw, net): a signal from a hard block or a user I/O, a carry in whose
CHAIN has no link, a combinational loop. A free value. -/
opaque freeNet : Nat → Net → Bool

/-- The tile of an edge that holds a crossing FIFO's side, counted along the edge (R215). -/
opaque crossTile : Nat → Nat

/-- Whether the user port of a fabric network interface, or of lane `e - 64`, is configured after a frame of its sector-edge tile is
written: position, port, data words, whether before (R215, R320, R373). -/
opaque userPort : Nat → Nat → List Word → Bool → Bool

/-- Whether a block memory is a designated probe-capture block after one of its frames is written (R78). -/
opaque captureBlock : Nat → List Word → Bool → Bool

/-- Stored bits of a block-memory word that nothing has written since its contents were lost: loss count, word (R107). -/
opaque freeBm : Nat → Nat → BitVec 72

/-- The eight check bits of 64 data bits (R90, R96): the spec does not give the code. -/
opaque checkBits : BitVec 64 → BitVec 8

/-- What the decoder of a code (0 block memories, 1 frames, 2 RLD memory, 3 scratchpad) makes of a stored code word whose check
bits do not come from its data or that holds three or more errors (R96, R108): 0 nothing, 1 a correction, 2 a double-bit error; and
the data that a correction presents. -/
opaque freeEcc : Nat → BitVec 72 → Nat × BitVec 64

/-- A stored word of RLD memory, data and check bits, that nothing has written since its contents were lost: loss count,
place (R471, R491). -/
opaque freeRld : Nat → Nat → BitVec 72

/-- The tile row that holds the fabric port of fabric network interface `e`, or of lane `e - 64`, taken modulo 20 (R215). -/
opaque niRow : Nat → Nat

/-- The tile that holds the interrupt port cells of user line `u`, taken modulo 640 (R581). -/
opaque irqTile : Nat → Nat

/-- Whether the slew term of SLEWR `n` is rounded up to a unit of 2^-48 (R423, R429): the spec gives 2^n ppm, which is no
whole number of units. -/
opaque slewUp : Nat → Bool

/-- The tile that holds the capture port cell of fabric port `4 s + p`, taken modulo 640 (R448). -/
opaque capTile : Nat → Nat

/-- Symbol `n` of SSPRQ, numbered by level (R361): IEEE 802.3 clause 120. -/
opaque ssprq : Nat → Nat

/-- What the codeword alignment of IEEE 802.3 puts before codeword `k` of a CODE (R390). -/
opaque cwAlign : Nat → Nat → List Bool

/-- A free word: draw `n`. Stands for a value that the spec does not fix. -/
opaque freeWord : Nat → BitVec 64

end Sys2Proof.Config
end

