-- ==== Sys2Proof/Syntax.lean ====
section
/-! DEFINITION. Syntax.lean: the commands of the block, one constructor for each row of spec/opcode_table.json. An
operand carries what the sender, the board or the hardware's own timing decides (notes/assumptions/3.md). -/

namespace Sys2Proof

/-- The paths a packet stream comes by: the boot flash, a mailbox, the NoC (CFG_STG_CTRL), the JTAG port, the
hold-load stream, and the boot flash as the boot ROM reads firmware from it (R168, R222, R256, R518). -/
inductive LoadPath where
  | flash | mailbox | noc | jtag | hold | rom
  deriving DecidableEq, Repr

/-- What user logic behind a fabric network interface does with its oldest request (R320): leaves it, takes it, or
answers the oldest request taken, with a status of success or bad data. -/
inductive UserAct where
  | leave
  | take
  | answer (data : List Byte) (poison : Bool)
  deriving DecidableEq, Repr

/-- What the other port of a block memory does on the same edge (R94): its address, what it writes under which byte enables (none:
it reads), whether a write reads too, and its synchronous reset. -/
structure PortOp where
  addr : Nat
  write : Option (BitVec 72 × BitVec 8)
  rd : Bool
  sr : Bool
  deriving DecidableEq, Repr

/-- A queue: that of a block memory, or a sector-boundary crossing FIFO (R161) by its source sector, the direction it leads in (0
north, 1 east, 2 south, 3 west) and its index. -/
inductive QueueId where
  | block (sec : Fin 32) (b : Fin 256)
  | crossing (sec : Fin 32) (dir : Fin 4) (i : Fin 128)
  deriving DecidableEq, Repr

/-- A block that a region binding names (R235). -/
inductive Bound where
  | quad (q : Fin 36)
  | group (g : Fin 16)
  | ni (e : Fin 256)
  | probe (s : Fin 32)
  deriving DecidableEq, Repr

/-- What a link does to a packet on a hop (R305). -/
inductive LinkErr where
  | none | corrected | header | data
  deriving DecidableEq, Repr


/-- What the core does at its private port (R517, R522, R526): reads a word, writes bytes of a word from byte `off` on, or
names the handler window of `2^log` bytes at a multiple of its size. -/
inductive PadOp where
  | read (w : Fin 524288)
  | write (w : Fin 524288) (off : Fin 8) (bytes : List (BitVec 8))
  | window (base log : Nat)
  deriving DecidableEq, Repr

/-- A boot flash device that the board fits (R171, R172): whether 8D-8D-8D reads work, and its bytes where the board has
written them anew (none: as they were). -/
structure FlashDev where
  octal : Bool
  bytes : Option (List (Nat × BitVec 8))
  deriving DecidableEq, Repr

/-- The commands. Each docstring is the row's own summary and rule. -/
inductive Instr where
  /-- REGISTER_WRITE (R18): A CSR write to a register that has no row of its own updates its LIVE fields, stages its STAGED fields and judges its LOCKED fields against the block enable. -/
  | registerWrite (ep : Fin 256) (off : Nat) (v : BitVec 32)
  /-- COUNTER_READ_CLEAR (R12): A read of an RC counter field returns its value and then clears it; a debug-tagged read leaves it unchanged. -/
  | counterReadClear (ep : Fin 256) (off : Nat)
  /-- SUPPLY_VALID (R641): A supply rail rises above its valid threshold. -/
  | supplyValid (rail : Fin 8)
  /-- SUPPLY_INVALID (R641): A monitored rail falls below its invalid threshold for more than 20 ns and puts the device in RESET within 1 us. -/
  | supplyInvalid (rail : Fin 7)
  /-- POWER_ON_RESET_RELEASE (R641): The internal power-on reset ends 100 us after the last monitored rail becomes valid. -/
  | powerOnResetRelease
  /-- PORST_N_LOW (R644): PORST_N held low for at least 1 us causes a power-on reset and holds the system PLL in reset. -/
  | porstNLow
  /-- PORST_N_HIGH (R644): PORST_N rises with all supplies valid and the system PLL starts to lock. -/
  | porstNHigh
  /-- RESET_EXIT (R201): With supplies valid, PORST_N high and the system PLL locked, the device leaves RESET, samples BOOT_MODE and starts the boot ROM. -/
  | resetExit (mode : Fin 8) (i2c : Fin 4) (pullSel startN : Bool) (flash0 flash1 : Option FlashDev)
  /-- VCCIO_CHANGE (R643): A bank's VCCIO becomes valid or invalid and the bank takes or leaves the behaviour of the phase. -/
  | vccioChange (bank : Fin 40) (valid : Bool)
  /-- FIRMWARE_VERIFIED (R520): A firmware container passes its checks; firmware starts, sets MBX_VER, enables the time PLL and completes BOOT. -/
  | firmwareVerified (p : LoadPath)
  /-- CONTAINER_HEADER_CHECK (R186): Once header, signature and digest and tag tables have arrived, the device runs checks 1 to 5 of a container. -/
  | containerHeaderCheck (p : LoadPath)
  /-- CONTAINER_BLOCK_CHECK (R187): When a whole payload block has arrived, it is digested, decrypted and expanded, and the packets it completes are executed. -/
  | containerBlockCheck (p : LoadPath)
  /-- NOP (R189): A NOP packet is ignored. -/
  | nop (p : LoadPath) (count : Nat) (data : List (BitVec 32))
  /-- SET_FAR (R189): A SET_FAR packet sets the current frame address after validation. -/
  | setFar (p : LoadPath) (count : Nat) (data : List (BitVec 32))
  /-- WRITE_FRAMES (R189): A WRITE_FRAMES packet writes frames at consecutive addresses after CRC, owner-count and region checks. -/
  | writeFrames (p : LoadPath) (count : Nat) (data : List (BitVec 32)) (upset : Option (Nat × List (Fin 2336)))
  /-- REPEAT_FRAME (R189): A REPEAT_FRAME packet writes one frame at n consecutive addresses. -/
  | repeatFrame (p : LoadPath) (count : Nat) (data : List (BitVec 32)) (upset : Option (Nat × List (Fin 2336)))
  /-- ZERO_FRAMES (R189): A ZERO_FRAMES packet writes n all-zero frames at consecutive addresses. -/
  | zeroFrames (p : LoadPath) (count : Nat) (data : List (BitVec 32)) (upset : Option (Nat × List (Fin 2336)))
  /-- BM_CONTENTS (R192): A BM_CONTENTS packet writes one block memory through its load port. -/
  | bmContents (p : LoadPath) (count : Nat) (data : List (BitVec 32))
  /-- CSR_WRITE (R193): A CSR_WRITE packet writes data-plane CSRs, or the staging copies of STAGED fields in a partial container. -/
  | csrWrite (p : LoadPath) (count : Nat) (data : List (BitVec 32))
  /-- END (R194): An END packet checks the frame count and trailing bytes and ends the load, stream or staging. -/
  | endPacket (p : LoadPath) (count : Nat) (data : List (BitVec 32))
  /-- CLEARING_DONE (R200): A clearing of both planes and owner counts completes after 7.5 ms. -/
  | clearingDone
  /-- CFG_DONE_OBSERVED (R205): CFG_DONE is observed high on 4 consecutive samples and start-up runs its seven steps. -/
  | cfgDoneObserved
  /-- CFG_START_N_FALL (R210): A falling edge on CFG_START_N restarts configuration from BOOT. -/
  | cfgStartNFall
  /-- CFG_START_N_RISE (R211): CFG_START_N rising lets a device held in BOOT start its load. -/
  | cfgStartNRise
  /-- CFG_RESTART (R210): A write of 0xC0DE to CFG_RESTART.KEY restarts configuration from BOOT. -/
  | cfgRestart (ep : Fin 256) (v : BitVec 32)
  /-- BUS_CONTENTION_DETECT (R62): Within 1 us of a configuration change leaving two driver cells on a bus line, the detector disables them and logs a source 31 record. -/
  | busContentionDetect (sec : Fin 32) (line : Fin 64)
  /-- FAB_BUS_CONT_CLEAR (R64): Writing 1 to a FAB_BUS_CONT bit re-enables the line's driver cells. -/
  | fabBusContClear (ep : Fin 256) (sec : Fin 32) (hi : Bool) (v : BitVec 32)
  /-- FAB_PRB_APPLY (R73): An APPLY write to FAB_PRB_CTRL stages its fields and applies every staged probe field of the sector. -/
  | fabPrbApply (ep : Fin 256) (sec : Fin 32) (v : BitVec 32)
  /-- FAB_PRB_ARM (R80): An ARM write checks the capture blocks and starts a capture or sets BAD_TARGET. -/
  | fabPrbArm (ep : Fin 256) (sec : Fin 32) (v : BitVec 32)
  /-- FAB_PRB_STOP (R82): A STOP write ends a running capture in ABORTED. -/
  | fabPrbStop (ep : Fin 256) (sec : Fin 32) (v : BitVec 32)
  /-- PROBE_TRIGGER (R81): The first sample matching MASK and VAL triggers the capture and records its index. -/
  | probeTrigger (sec : Fin 32) (before : Nat)
  /-- PROBE_CAPTURE_DONE (R82): After min(POST, C - 1) further samples the capture enters DONE. -/
  | probeCaptureDone (sec : Fin 32)
  /-- BM_READ (R91): A block-memory port read presents its data, with ECC decode and error reporting. -/
  | bmRead (sec : Fin 32) (b : Fin 256) (portB : Bool) (addr : Nat) (sr busy : Bool) (upset : List (Fin 72))
  /-- BM_WRITE (R92): A full-width block-memory port write stores the word with new check bits. -/
  | bmWrite (sec : Fin 32) (b : Fin 256) (portB : Bool) (addr : Nat) (data : BitVec 72) (be : BitVec 8) (rd sr busy : Bool) (other : Option PortOp)
  /-- BM_NARROW_WRITE (R98): A narrow write to an ECC block performs a read-modify-write over two edges with WAIT high. -/
  | bmNarrowWrite (sec : Fin 32) (b : Fin 256) (portB : Bool) (addr : Nat) (data : BitVec 72) (be : BitVec 8) (rd sr busy : Bool)
  /-- QUEUE_WRITE (R115): A queue write is taken, or refused with OVF when FULL is high. -/
  | queueWrite (q : QueueId) (data : BitVec 72)
  /-- QUEUE_READ (R115): A queue read is taken, or refused with UDF when EMPTY is high. -/
  | queueRead (q : QueueId)
  /-- QUEUE_CROSSING (R117): A write or read taken on one side becomes visible to the other side's counts and flags after the crossing latency. -/
  | queueCrossing (q : QueueId) (toRead : Bool)
  /-- QUEUE_RESET (R118): Asserting RST asynchronously resets a queue's pointers, counts and flags. -/
  | queueReset (q : QueueId)
  /-- QUEUE_RESET_RELEASE (R118): Each side of a queue leaves reset on the third edge of its clock after RST falls or GSR is released. -/
  | queueResetRelease (q : QueueId) (readSide : Bool)
  /-- SLICE_OPERATION (R126): An arithmetic slice takes an operation and loads ACC with the function its FN names. -/
  | sliceOperation (sec : Fin 32) (a : Fin 384) (x0 x1 : BitVec 27) (y : BitVec 24) (k : BitVec 58) (fn : Fin 16) (psub valid ce rst : Bool)
  /-- EXPONENT_BLOCK_CLOSE (R134): An exponent group's block closes when the sample count reaches BLK_LEN, and the group headroom H is computed. -/
  | exponentBlockClose (sec : Fin 32) (a : Fin 384)
  /-- CONTROL_CYCLE_START (R141): The group head takes a control-cycle start from CYC_IN or a cone, closes the block and raises CYC_PULSE. -/
  | controlCycleStart (sec : Fin 32) (a : Fin 384) (cycIn : Bool)
  /-- SHIFT_UPDATE (R137): Seven edges after a close the new shift takes effect and GRP_H and EXP_INC are presented. -/
  | shiftUpdate (sec : Fin 32) (a : Fin 384)
  /-- CLOCK_LOSS_DECLARED (R164): A clock monitor declares a loss; the device enters holdover, gates leaves or fails channels and logs a source 5 record. -/
  | clockLossDeclared (id : Fin 256)
  /-- REFERENCE_RECOVERED (R165): A reference that recovers takes its PLLs out of holdover without a further record. -/
  | referenceRecovered (time : Bool)
  /-- PLL_LOCK (R149): A PLL locks or relocks after enable, reference recovery or a settings change. -/
  | pllLock (id : Fin 256)
  /-- LEAF_GATE_REOPEN (R156): Leaf gates closed by a fabric PLL change or unlock reopen 1 us after relock. -/
  | leafGateReopen (sec : Fin 32)
  /-- NOC_FREQ_CHANGE (R159): A write to CLK_NOC_CTRL.FREQ moves every router to the new frequency within 20 us without losing flits. -/
  | nocFreqChange (ep : Fin 256) (v : BitVec 32)
  /-- CLK_MEAS_START (R166): A START write to CLK_MEAS_CTRL begins measuring the clock named in CLKID. -/
  | clkMeasStart (ep : Fin 256) (v : BitVec 32)
  /-- CLK_MEAS_DONE (R166): A measurement ends after 1,000 start-up clock cycles, updates COUNT and clears BUSY. -/
  | clkMeasDone (edges : BitVec 16)
  /-- CFG_STG_START (R226): A START write to CFG_STG_CTRL starts a NoC-path staging load after phase, region and address checks. -/
  | cfgStgStart (ep : Fin 256) (v : BitVec 32)
  /-- SHADOW_VERIFIED (R232): Within 10 us of a valid END with every region frame written, the shadow becomes VERIFIED and MODE takes the descriptor's flag. -/
  | shadowVerified (r : Fin 32)
  /-- BIND_WRITE (R235): A write to a CFG_BIND register binds blocks to a region, or is refused with CTRL_REFUSED. -/
  | bindWrite (ep : Fin 256) (off : Nat) (v : BitVec 32)
  /-- SHD_GEN_WRITE (R238): A write to CFG_RGN_GEN.SHD_GEN sets the shadow tag, or is refused while ARMED. -/
  | shdGenWrite (ep : Fin 256) (r : Fin 32) (v : BitVec 32)
  /-- CFG_ARM (R237): An ARM write moves a region's shadow from VERIFIED to ARMED on the next configuration-clock edge. -/
  | cfgArm (ep : Fin 256) (v : BitVec 32)
  /-- CFG_DISARM (R237): A DISARM write moves a region's shadow from ARMED to VERIFIED. -/
  | cfgDisarm (ep : Fin 256) (v : BitVec 32)
  /-- CFG_FIRE_GO (R239): A GO write to CFG_FIRE requests a firing of one region or of the regions in CFG_FIRE_MASK. -/
  | cfgFireGo (ep : Fin 256) (v : BitVec 32)
  /-- FIRE_STROBE_EDGE (R244): A rising edge on FIRE_STROBE requests a firing of every region with STROBE_EN. -/
  | fireStrobeEdge
  /-- FIRING (R247): On its firing edge the gate judges the requests and each accepted region isolates, swaps planes and starts its minimum hold. -/
  | firing
  /-- FIRING_CROSSING (R251): Bound blocks exchange staged and in-effect values and route tables at the first own-clock edge after the crossing. -/
  | firingCrossing (b : Bound)
  /-- MINIMUM_HOLD_END (R247): The minimum hold ends and raises source 20; the region is released unless POST_HOLD, a relock or a stream keeps it held. -/
  | minimumHoldEnd (r : Fin 32)
  /-- CFG_HOLD_RELEASE (R255): A RELEASE write ends the hold of a region, or is kept until the minimum hold ends. -/
  | cfgHoldRelease (ep : Fin 256) (v : BitVec 32)
  /-- CFG_HOLD_ENTER (R255): An ENTER write holds a region from the next configuration-clock edge. -/
  | cfgHoldEnter (ep : Fin 256) (v : BitVec 32)
  /-- CFG_HLD_START (R256): A START write to CFG_HLD_CTRL starts a hold-load stream for a held region. -/
  | cfgHldStart (ep : Fin 256) (v : BitVec 32)
  /-- WEDGING_START (R267): GAP ms after the previous wedging ends, all scrubber engines start a wedging together. -/
  | wedgingStart
  /-- SCRUB_POSITION (R265): A scrubber engine finishes reading a frame position in both planes and handles any finding. -/
  | scrubPosition (sec : Fin 32) (upA : List (Fin 2336)) (upS : List (Fin 2336))
  /-- WEDGING_END (R267): The last engine finishes; PASS_CNT and SCR_PASS_TIME update and source 32 is raised. -/
  | wedgingEnd (ns : BitVec 32)
  /-- MAP_LOOKUP_DONE (R277): An essential-bit map lookup completes and the finding's record is sent. -/
  | mapLookupDone (lost : List Nat)
  /-- MAP_CHECK_DONE (R276): The whole-map check of a newly valid plane completes, marking the map BAD on failure. -/
  | mapCheckDone (region : Option (Fin 32)) (shd : Bool)
  /-- REFETCH (R283): A frame reaching the head of the refetch queue is fetched from its candidates and checked. -/
  | refetch (lost : Bool)
  /-- REFETCH_DONE (R283): A refetch writes the repaired frame or declares it not repaired and flags the region or invalidates the shadow. -/
  | refetchDone
  /-- VOTER_DISAGREEMENT (R290): A disagreement among the scrubber's voted copies is corrected, counted and logged with source 40. -/
  | voterDisagreement
  /-- SCR_INJ_GO (R292): A GO write to SCR_INJ_CTRL inverts one or two stored bits of a frame. -/
  | scrInjGo (ep : Fin 256) (v : BitVec 32)
  /-- SCR_INJ_VOTER (R293): A VOTER write inverts one copy of one voted scrubber register. -/
  | scrInjVoter (ep : Fin 256) (v : BitVec 32)
  /-- NOC_REQUEST_ISSUE (R313): An endpoint presents a request; its NI decodes it, reserves tag and pool space and injects it. -/
  | nocRequestIssue (ni : Fin 256) (cmd : Nat) (vn : Nat) (addr : BitVec 48) (len : Fin 512) (data : List (BitVec 8)) (ltag : Fin 256)
  /-- ROUTER_HOP (R306): A router forwards a packet on its current hop, checking link ECC and deliverability. -/
  | routerHop (k : Nat) (err : LinkErr)
  /-- NOC_REQUEST_ARRIVAL (R316): A request or posted write reaches its target, which performs it or answers with an error status. -/
  | nocRequestArrival (e : Fin 256) (act : UserAct)
  /-- NOC_RESPONSE_ARRIVAL (R314): A response arrives at the requesting NI, which accepts it into its pool and releases the tag. -/
  | nocResponseArrival (e : Fin 256)
  /-- NI_REQUEST_TIMEOUT (R317): A tag with no response for NI_TIMEOUT.REQ completes with TIMEOUT. -/
  | niRequestTimeout (e : Fin 256) (ltag : Fin 256)
  /-- NI_TARGET_TIMEOUT (R320): A request not taken by user logic within NI_TIMEOUT.TGT is answered NORESP and dropped. -/
  | niTargetTimeout (e : Fin 64)
  /-- NI_RT_HI_WRITE (R309): A write to NI_RT_HI checks the staged route and stores it or refuses it with ROUTE_REJ. -/
  | niRtHiWrite (ep : Fin 256) (e : Fin 256) (d : Fin 256) (v : BitVec 32)
  /-- NI_APPLY (R310): An APPLY write to NI_CTRL applies the staged route table. -/
  | niApply (ep : Fin 256) (e : Fin 256) (v : BitVec 32)
  /-- NOC_APPLY (R325): An APPLY write to NOC_CTRL starts applying the staged port enables. -/
  | nocApply (ep : Fin 256) (n : Fin 64) (v : BitVec 32)
  /-- NOC_PORT_CHANGE_DONE (R325): Each changed port changes at its next packet boundary and RCFG_BUSY clears. -/
  | nocPortChangeDone (n : Fin 64)
  /-- LINK_STATE_CHANGE (R326): A router learns a change at the far end of a link through the handshake and updates NOC_STAT.UP. -/
  | linkStateChange (n : Fin 64) (port : Fin 14) (up : Bool)
  /-- FENCE_CLOSE (R323): A FENCING fence whose NI has no outstanding tag, taken request or flit becomes CLOSED. -/
  | fenceClose (n : Fin 64)
  /-- FENCE_OPEN (R324): After the domain's NIs leave reset, a fence becomes OPEN. -/
  | fenceOpen (sec : Fin 32)
  /-- LQ_APPLY (R341): An APPLY write to LQ_CTRL checks and applies every staged field of the quad and its lanes. -/
  | lqApply (ep : Fin 256) (q : Fin 36) (v : BitVec 32)
  /-- LANE_SAFE_POINT (R343): At a lane-safe point, pending PMA settings take effect and a rate change begins. -/
  | laneSafePoint (n : Fin 144)
  /-- LANE_PLL_LOCKED (R344): The lane's PLL locks at the new frequency; CHANGING clears and the transmitter leaves idle. -/
  | lanePllLocked (n : Fin 144)
  /-- CDR_LOCK (R357): Two consecutive windows within 300 ppm with LOS at 0 clear LOL. -/
  | cdrLock (n : Fin 144)
  /-- LOL_SET (R357): A 4 us window showing more than 1,000 ppm, or LOS, sets LOL. -/
  | lolSet (n : Fin 144)
  /-- LOS_SET (R356): The amplitude stays below the off threshold for DLY and LOS is set. -/
  | losSet (n : Fin 144) (mv : Nat)
  /-- LOS_CLEAR (R356): The amplitude stays above the on threshold for 4 us and LOS clears. -/
  | losClear (n : Fin 144) (mv : Nat)
  /-- ADAPTATION_DONE (R353): Initial adaptation converges and sets RX_READY. -/
  | adaptationDone (n : Fin 144) (ctle : Fin 32) (taps : List (BitVec 8))
  /-- ADAPTATION_TIMEOUT (R354): Adaptation not converged within its limit sets ADAPT_FAIL, counts a retry and restarts. -/
  | adaptationTimeout (n : Fin 144)
  /-- REF_CLOCK_LOST (R338): A quad declares a reference input lost and logs a quad record. -/
  | refClockLost (q : Fin 36) (one : Bool)
  /-- REF_CLOCK_PRESENT (R338): After three good windows a quad declares a reference present again. -/
  | refClockPresent (q : Fin 36) (one : Bool) (hz : Nat)
  /-- LANE_PLL_UNLOCK (R359): An LC or ring PLL loses lock; its lanes enter electrical idle and set LOL. -/
  | lanePllUnlock (q : Fin 36) (ring : Option (Fin 4))
  /-- PMA_RST (R353): A PMA_RST write restarts the CDR and initial adaptation. -/
  | pmaRst (ep : Fin 256) (n : Fin 144) (v : BitVec 32)
  /-- PRBS_INJ (R362): An INJ write inverts one bit of the next generated symbol. -/
  | prbsInj (ep : Fin 256) (n : Fin 144) (v : BitVec 32)
  /-- PRBS_CLR (R363): A CLR write zeroes LN_PRBS_ERR and LN_PRBS_BITS. -/
  | prbsClr (ep : Fin 256) (n : Fin 144) (v : BitVec 32)
  /-- PRBS_SYNC (R363): The checker acquires sync after 64 error-free bits. -/
  | prbsSync (n : Fin 144)
  /-- PRBS_LOST (R363): 16 or more errors in 64 bits make the checker lose sync and set PRBS_LOST. -/
  | prbsLost (n : Fin 144) (bits errs : Nat)
  /-- EYE_SCAN_START (R365): A START write to LN_ES_CTRL starts a scan or is refused with ES_REJ. -/
  | eyeScanStart (ep : Fin 256) (n : Fin 144) (v : BitVec 32)
  /-- EYE_SCAN_DONE (R364): A scan completes its count, or aborts, and BUSY falls. -/
  | eyeScanDone (n : Fin 144) (errs : Nat)
  /-- LOCK_ACQUIRED (R376): A lane locks in its coding mode (ALIGNED, BLOCK_LOCK or FEC_LOCK) and LOCKED rises. -/
  | lockAcquired (n : Fin 144) (pos : Fin 10)
  /-- LOCK_LOST (R376): LOCKED falls, setting LOCK_LOST and logging code 0x21. -/
  | lockLost (n : Fin 144)
  /-- SLIP (R385): A SLIP write in MANUAL mode starts a one-bit boundary slip. -/
  | slip (ep : Fin 256) (n : Fin 144) (v : BitVec 32)
  /-- SLIP_DONE (R385): A slip completes within 32 symbol periods and BUSY clears. -/
  | slipDone (n : Fin 144)
  /-- HI_BER_SET (R388): CNT invalid headers within a WIN window set HI_BER and log code 0x22. -/
  | hiBerSet (n : Fin 144) (bad : Nat)
  /-- HI_BER_CLEAR (R388): A whole window with fewer invalid headers clears HI_BER. -/
  | hiBerClear (n : Fin 144) (bad : Nat)
  /-- FEC_UNCORRECTABLE (R391): A codeword beyond correction is delivered with ERR, counted and logged as code 0x23. -/
  | fecUncorrectable (n : Fin 144) (errs : List Nat)
  /-- TX_UNDERRUN (R372): A transmit slot without a valid word sends fill, sets TX_UNDER and is counted. -/
  | txUnderrun (n : Fin 144)
  /-- RX_WORD_DROP (R369): A receive word the crossing or a held port cannot accept is dropped and counted. -/
  | rxWordDrop (n : Fin 144)
  /-- GROUP_APPLY (R394): An APPLY of PCS_GRP_CTRL checks and applies the staged group fields. -/
  | groupApply (ep : Fin 256) (g : Fin 16) (v : BitVec 32)
  /-- GROUP_HOLDOFF_EXPIRY (R398): HOLDOFF microseconds elapse and the group moves to DESKEW. -/
  | groupHoldoffExpiry (g : Fin 16)
  /-- GROUP_DESKEW_DONE (R398): A marker or K28.3 column found on every member within R397 makes the group BONDED. -/
  | groupDeskewDone (g : Fin 16) (spread : Nat)
  /-- GROUP_DESKEW_FAIL (R398): Excess spread or no marker within two periods returns the group to FAULT. -/
  | groupDeskewFail (g : Fin 16) (spread : Option Nat) (lane : Fin 144)
  /-- GROUP_MARKER_ERROR (R398): A marker out of column in BONDED returns the group to FAULT with cause 0x06. -/
  | groupMarkerError (g : Fin 16) (lane : Fin 144)
  /-- SKM_ENABLE (R404): A write of EN at 1 enables a Skemer engine into DETECT or refuses it with CFG_REJ. -/
  | skmEnable (ep : Fin 256) (e : Fin 16) (v : BitVec 32)
  /-- SKM_DISABLE (R416): A write of EN at 0 takes the engine to OFF and releases the override. -/
  | skmDisable (ep : Fin 256) (e : Fin 16) (v : BitVec 32)
  /-- SKM_RESTART (R416): A RESTART write takes the engine to DETECT. -/
  | skmRestart (ep : Fin 256) (e : Fin 16) (v : BitVec 32)
  /-- SKM_RELEASE (R420): A RELEASE write in RELEASE_WAIT releases the override. -/
  | skmRelease (ep : Fin 256) (e : Fin 16) (v : BitVec 32)
  /-- SKM_REFIRE (R419): A REFIRE write presents the result to the firing gate again. -/
  | skmRefire (ep : Fin 256) (e : Fin 16) (v : BitVec 32)
  /-- SKM_ORDERED_SET_RECEIVED (R416): A valid ordered set arrives on the lead lane and may complete three matching sets for a transition. -/
  | skmOrderedSetReceived (e : Fin 16) (os : List (BitVec 8))
  /-- SKM_DETECT_TIMEOUT (R416): The lead lane at LOS 0 for 1 ms moves the engine from DETECT to OFFER. -/
  | skmDetectTimeout (e : Fin 16)
  /-- SKM_OFFER_TIMEOUT (R416): OFFER_MS without a valid ordered set moves the engine to LISTEN or BACKOFF. -/
  | skmOfferTimeout (e : Fin 16)
  /-- SKM_PROGRESS_TIMEOUT (R416): 10 ms without progress in ACK, SETTLE or COMMIT moves the engine to BACKOFF. -/
  | skmProgressTimeout (e : Fin 16)
  /-- SKM_COMMIT_TIMEOUT (R419): COMMIT elapses and the engine presents its result to the firing gate. -/
  | skmCommitTimeout (e : Fin 16)
  /-- SKM_BACKOFF_TIMEOUT (R416): BACKOFF elapses; the engine returns to OFFER or enters FAILED when retries are exhausted. -/
  | skmBackoffTimeout (e : Fin 16)
  /-- SKM_DWELL_TIMEOUT (R418): A LISTEN candidate dwell expires without lock and the next candidate is tried. -/
  | skmDwellTimeout (e : Fin 16)
  /-- SKM_LISTEN_LOCK (R418): The lead lane locks at a LISTEN candidate, giving a legacy result. -/
  | skmListenLock (e : Fin 16)
  /-- SKM_LANES_UP (R416): Every engine lane LOCKED in UP_WAIT moves the engine to UP. -/
  | skmLanesUp (e : Fin 16)
  /-- SKM_UP_TIMEOUT (R416): The UP timer elapses without all lanes locked; the generation is marked failed and the engine backs off. -/
  | skmUpTimeout (e : Fin 16)
  /-- SKM_REMOVAL_TIMEOUT (R416): The lead lane at LOS for 2 ms returns the engine to DETECT. -/
  | skmRemovalTimeout (e : Fin 16)
  /-- SKM_RENEG_TIMEOUT (R416): LOCKED at 0 in UP for RENEG moves the engine to BACKOFF. -/
  | skmRenegTimeout (e : Fin 16)
  /-- SET (R429): A SET action loads a domain's counter from W0 to W2. -/
  | timSetWrite (ep : Fin 256) (d : Fin 32) (v : BitVec 32)
  /-- STEP (R429): A STEP action adds a signed value to a domain's counter. -/
  | timStepWrite (ep : Fin 256) (d : Fin 32) (v : BitVec 32)
  /-- SLEW (R429): A SLEW action starts adding a value gradually through the slew term. -/
  | timSlewWrite (ep : Fin 256) (d : Fin 32) (v : BitVec 32)
  /-- SLEW_DONE (R429): The whole slew value has been added and SLEWING clears. -/
  | slewDone (d : Fin 32)
  /-- SNAP (R426): A SNAP action latches a domain's counter into the TIM_TD_T registers. -/
  | timSnapWrite (ep : Fin 256) (d : Fin 32) (v : BitVec 32)
  /-- SERVO_SAMPLE_SUBMIT (R435): A servo sample arrives from TIM_TD_OFFS_HI or PPS and is processed, held or replaces a held one. -/
  | servoSampleSubmit (ep : Fin 256) (d : Fin 32) (v : BitVec 32)
  /-- SERVO_SAMPLE_PROCESS (R433): The servo completes a sample in 100 ns and writes the new TIM_TD_FREQ. -/
  | servoSampleProcess (d : Fin 32)
  /-- SERVO_ENABLE (R436): SERVO_EN rising sets the integrator from the frequency in effect. -/
  | servoEnable (ep : Fin 256) (d : Fin 32) (v : BitVec 32)
  /-- PPS_IN_EDGE (R439): An accepted PPS_IN edge is time-stamped and submitted as a sample to each domain using it. -/
  | ppsInEdge (j : Fin 4) (rising : Bool) (after : Nat) (sub : Fin 8)
  /-- PPS_OUT_PULSE (R438): At each second boundary of its domain, PPS_OUT gives a pulse of WIDTH us. -/
  | ppsOutPulse (j : Fin 4)
  /-- CONE_ARM (R441): A write of EN at 1 arms a cone, firing at once or setting LATE if its target has passed. -/
  | coneArm (ep : Fin 256) (n : Fin 64) (v : BitVec 32)
  /-- CONE_DISARM (R443): A write of EN at 0 disarms a cone and clears ARMED and DONE. -/
  | coneDisarm (ep : Fin 256) (n : Fin 64) (v : BitVec 32)
  /-- CONE_EVENT (R440): A cone's domain reaches its target; the cone produces an event and advances or finishes. -/
  | coneEvent (n : Fin 64)
  /-- CONE_EVENT_DELIVERY (R162): A cone event reaches the firing gate, slice columns, RLD channels and TIME_EVT logic 6.0 ns after its time. -/
  | coneEventDelivery
  /-- CAPTURE_EDGE (R447): A selected edge on a capture pin or port is time-stamped into its FIFO group. -/
  | captureEdge (src : Fin 144) (rising : Bool) (after : Nat) (sub : Fin 8)
  /-- TIM_CAPF_W0_READ (R449): A read of TIM_CAPF_W0 removes the oldest capture entry and latches its other words. -/
  | timCapfW0Read (ep : Fin 256) (g : Fin 16)
  /-- RX_FRAME_START (R454): A received frame start is time-stamped and its TSW presented with the word. -/
  | rxFrameStart (n : Fin 144) (pos : Int) (after : Nat) (sub : Fin 8)
  /-- TX_FRAME_START (R458): A transmitted frame start carries a time-stamp command, executing one-step and two-step actions. -/
  | txFrameStart (n : Fin 144) (cmd : Fin 4) (tag : BitVec 16) (encap : Fin 3) (ptpoff : BitVec 8) (base : BitVec 64) (frame : List (BitVec 8)) (pos : Int) (after : Nat) (sub : Fin 8)
  /-- TIM_LN_TSF0_READ (R463): A read of TIM_LN_TSF0 pops the oldest two-step entry. -/
  | timLnTsf0Read (ep : Fin 256) (n : Fin 144)
  /-- TWO_STEP_PORT_POP (R463): User logic pops a two-step entry through the transmit port. -/
  | twoStepPortPop (n : Fin 144)
  /-- MC_ENABLE (R470): A write of EN at 1 in STOPPED moves the channel to READY or sets EN_REJ. -/
  | mcEnable (ep : Fin 256) (c : Fin 8) (v : BitVec 32)
  /-- MC_DISABLE (R468): A write of EN at 0 starts moving the channel to STOPPED. -/
  | mcDisable (ep : Fin 256) (c : Fin 8) (v : BitVec 32)
  /-- MC_QUEUES_DRAINED (R468): With EN at 0, the channel enters STOPPED once its bank queues are empty. -/
  | mcQueuesDrained (c : Fin 8)
  /-- MC_SR_ENTER (R486): An ENTER write in READY moves the channel to SR_ENTRY. -/
  | mcSrEnter (ep : Fin 256) (c : Fin 8) (v : BitVec 32)
  /-- MC_SR_EXIT (R468): An EXIT write starts leaving self-refresh. -/
  | mcSrExit (ep : Fin 256) (c : Fin 8) (v : BitVec 32)
  /-- MC_IDLE_TIMEOUT (R486): IDLE microseconds without a request move the channel to SR_ENTRY. -/
  | mcIdleTimeout (c : Fin 8)
  /-- MC_SELF_REFRESH_ENTRY (R486): With queues drained and refreshes issued, the self-refresh command is issued and SR_IN raised. -/
  | mcSelfRefreshEntry (c : Fin 8)
  /-- MC_SR_EXIT_START (R487): A waiting request and tCKESR elapsed start the exit from self-refresh. -/
  | mcSrExitStart (c : Fin 8)
  /-- MC_SR_EXIT_DONE (R468): tXS elapses; the channel returns to READY and raises SR_OUT. -/
  | mcSrExitDone (c : Fin 8)
  /-- MC_INIT (R493): An INIT write in READY starts the initialiser. -/
  | mcInit (ep : Fin 256) (c : Fin 8) (v : BitVec 32)
  /-- MC_INIT_DONE (R493): Every line has been written with zeros; the channel returns to READY and raises INIT_DONE. -/
  | mcInitDone (c : Fin 8)
  /-- MC_FREEZE (R498): A FREEZE write in READY enters FROZEN. -/
  | mcFreeze (ep : Fin 256) (c : Fin 8) (v : BitVec 32)
  /-- MC_UNFREEZE (R498): An UNFREEZE write leaves FROZEN. -/
  | mcUnfreeze (ep : Fin 256) (c : Fin 8) (v : BitVec 32)
  /-- MC_MAP_APPLY (R474): An APPLY write to MC_MAP_CTRL checks and distributes the channel map or sets MAP_REJ. -/
  | mcMapApply (ep : Fin 256) (v : BitVec 32)
  /-- MC_REQUEST_ADMIT (R480): A port admits a request and places its lines in the bank queues. -/
  | mcRequestAdmit (c : Fin 8) (port : Fin 4)
  /-- MC_COMMAND_ISSUE (R482): In a command slot the channel issues a refresh or the highest-urgency bank pick. -/
  | mcCommandIssue (c : Fin 8) (upset : List (Fin 576))
  /-- MC_READ_COMPLETE (R488): Read data return with SECDED correction or poisoning and the response leaves. -/
  | mcReadComplete (c : Fin 8)
  /-- MC_PARITY_ALERT (R495): ALERT_N low stops issue and discards buffered reads; repeated alerts fail the channel. -/
  | mcParityAlert (c : Fin 8)
  /-- MC_REPLAY (R495): After ALERT_N rises and tPAR_REC passes, the retry buffer is reissued. -/
  | mcReplay (c : Fin 8)
  /-- MT_START (R512): A START write to MT_CTRL moves the channel to TRAINING or sets START_REJ. -/
  | mtStart (ep : Fin 256) (c : Fin 8) (v : BitVec 32)
  /-- MT_END_PASS (R513): An END_PASS write commits and moves the channel to STOPPED. -/
  | mtEndPass (ep : Fin 256) (c : Fin 8) (v : BitVec 32)
  /-- MT_END_FAIL (R513): An END_FAIL write moves the channel to FAILED and logs code 0x11. -/
  | mtEndFail (ep : Fin 256) (c : Fin 8) (v : BitVec 32)
  /-- MT_COMMIT (R505): A COMMIT write requests the exchange of active and shadow delay sets. -/
  | mtCommit (ep : Fin 256) (c : Fin 8) (v : BitVec 32)
  /-- MT_COMMIT_DONE (R505): The delay sets exchange at a command-slot boundary and COMMITTED is set. -/
  | mtCommitDone (c : Fin 8)
  /-- MT_RUN_START (R508): A START write to MT_RUN starts a helper run in TRAINING or sets RUN_REJ. -/
  | mtRunStart (ep : Fin 256) (c : Fin 8) (v : BitVec 32)
  /-- MT_RUN_DONE (R511): A run ends with RUN_DONE, or ABORT if the channel left TRAINING. -/
  | mtRunDone (c : Fin 8) (fails : BitVec 72) (errs : Nat) (pass : List (BitVec 128))
  /-- MT_TRAINING_TIMEOUT (R513): TMO ms in TRAINING moves the channel to FAILED and logs code 0x12. -/
  | mtTrainingTimeout (c : Fin 8)
  /-- MT_PR_ENABLE (R514): A write of MT_PR_CTRL.EN at 1 enables retraining or sets PR_REJ. -/
  | mtPrEnable (ep : Fin 256) (c : Fin 8) (v : BitVec 32)
  /-- RETRAIN_PERIOD_EXPIRY (R515): PERIOD x 10 ms in IDLE loads the shadow from active and starts the read sweep. -/
  | retrainPeriodExpiry (c : Fin 8)
  /-- RETRAIN_SWEEP_DONE (R515): A read or write retraining sweep ends and sets the shadow, commits, pends or reports PR_NOSET. -/
  | retrainSweepDone (c : Fin 8) (pass : List (BitVec 128))
  /-- HSP_STATUS (R530): A STATUS transaction on the host serial port returns the status word. -/
  | hspStatus (n : Fin 65536)
  /-- HSP_WRITE (R531): A WRITE transaction commits one request, or drops it with DROPPED. -/
  | hspWrite (bytes : List (BitVec 8))
  /-- HSP_READ (R531): A READ transaction clocks out the head response, removing it if read whole. -/
  | hspRead (n : Fin 65536)
  /-- I2C_APPEND (R533): An I2C APPEND block write adds bytes to the request being assembled. -/
  | i2cAppend (bytes : List (BitVec 8)) (pec : Option (BitVec 8))
  /-- I2C_SEND (R532): An I2C SEND commits the assembled request. -/
  | i2cSend
  /-- I2C_CANCEL (R532): An I2C CANCEL discards the request being assembled. -/
  | i2cCancel
  /-- I2C_STATUS (R532): An I2C STATUS block read returns the status word. -/
  | i2cStatus (pec : Bool)
  /-- I2C_READ (R533): An I2C READ block read returns bytes of the head response and removes it at its end. -/
  | i2cRead (n : Fin 257)
  /-- I2C_REWIND (R532): An I2C REWIND resets the read pointer to byte 0 of the head response. -/
  | i2cRewind
  /-- I2C_SCL_TIMEOUT (R532): SCL held low for more than 30 ms releases the bus and discards a partial transfer. -/
  | i2cSclTimeout
  /-- MBX_SEND (R536): A SEND write to MBX_CTRL commits the assembled request. -/
  | mbxSend (ep : Fin 256) (m : Fin 7) (v : BitVec 32)
  /-- MBX_CANCEL (R536): A CANCEL write discards the request being assembled. -/
  | mbxCancel (ep : Fin 256) (m : Fin 7) (v : BitVec 32)
  /-- MBX_SKIP (R528): A SKIP write discards the rest of the head response. -/
  | mbxSkip (ep : Fin 256) (m : Fin 7) (v : BitVec 32)
  /-- MBX_WDATA (R536): A write to MBX_WDATA appends one word to the request being assembled. -/
  | mbxWdata (ep : Fin 256) (m : Fin 7) (v : BitVec 32)
  /-- MBX_RDATA (R536): A read of MBX_RDATA pops the next response word or sets UNDERRUN. -/
  | mbxRdata (ep : Fin 256) (m : Fin 7)
  /-- MBX_REQUEST_TAKE (R540): Firmware takes the next committed request of a mailbox and checks it in the order of R669. -/
  | mbxRequestTake (m : Fin 7)
  /-- GET_VERSIONS (R578): Lists the supported protocol version ranges. -/
  | getVersions (m : Fin 7)
  /-- OPEN_SESSION (R570): Opens a session or starts its challenge. -/
  | openSession (m : Fin 7)
  /-- AUTH_RESPONSE (R571): Completes a session challenge and returns the device proof. -/
  | authResponse (m : Fin 7)
  /-- CLOSE_SESSION (R573): Closes the session. -/
  | closeSession (m : Fin 7)
  /-- KEEPALIVE (R547): Restarts the session's idle timer. -/
  | keepalive (m : Fin 7)
  /-- GET_IDENTITY (R578): Returns IDCODE, binding ID, versions, design identity and attestation public key. -/
  | getIdentity (m : Fin 7)
  /-- GET_ATTESTATION (R575): Returns a signed attestation report. -/
  | getAttestation (m : Fin 7)
  /-- GET_BOOT_STATUS (R578): Returns the boot status registers. -/
  | getBootStatus (m : Fin 7)
  /-- LOAD_BEGIN (R549): Starts a full or partial mailbox load. -/
  | loadBegin (m : Fin 7)
  /-- LOAD_DATA (R549): Carries container bytes of a mailbox load. -/
  | loadData (m : Fin 7)
  /-- LOAD_END (R188): Ends a mailbox load and answers with its result. -/
  | loadEnd (m : Fin 7)
  /-- LOAD_DATA_TIMEOUT (R549): A load receiving no LOAD_DATA for 10 s fails with code 0x12. -/
  | loadDataTimeout
  /-- STAGE_FLASH (R222): Stages a PARTIAL directory entry from flash into a region. -/
  | stageFlash (m : Fin 7)
  /-- ARM (R547): Writes the region's tag, control and binding registers and then arms it. -/
  | armCommand (m : Fin 7)
  /-- FIRE (R547): Writes CFG_FIRE for one region or a mask. -/
  | fireCommand (m : Fin 7)
  /-- HOLD (R547): Writes CFG_HOLD or starts a hold-load stream from the shared region. -/
  | holdCommand (m : Fin 7)
  /-- REGION_STATUS (R547): Returns the region's CFG_RGN registers and SCR_RGN_MAP. -/
  | regionStatus (m : Fin 7)
  /-- FRAME_READBACK (R561): Reads up to 15 frames of either plane. -/
  | frameReadback (m : Fin 7)
  /-- FLASH_READ (R547): Reads up to 4,064 bytes of flash. -/
  | flashRead (m : Fin 7)
  /-- FLASH_WRITE (R173): Erases and programs flash. -/
  | flashWrite (m : Fin 7)
  /-- DIR_UPDATE (R178): Writes an image directory copy with the next sequence number. -/
  | dirUpdate (m : Fin 7)
  /-- RESTART_CONFIG (R547): Writes CFG_RESTART to restart configuration. -/
  | restartConfig (m : Fin 7)
  /-- REG_READ (R548): Reads 1 to 255 consecutive words as endpoint 0x68. -/
  | regRead (m : Fin 7)
  /-- REG_WRITE (R548): Writes 1 to 255 consecutive words as endpoint 0x68. -/
  | regWrite (m : Fin 7)
  /-- REG_MODIFY (R548): Reads, masks and writes one word. -/
  | regModify (m : Fin 7)
  /-- TIME_GET (R547): Snaps and returns one domain's time. -/
  | timeGet (m : Fin 7)
  /-- TIME_SET (R547): Performs SET, STEP or SLEW on a domain. -/
  | timeSet (m : Fin 7)
  /-- TIME_OFFSET (R547): Submits a servo sample. -/
  | timeOffset (m : Fin 7)
  /-- CONE_SET (R547): Programs and arms one cone. -/
  | coneSet (m : Fin 7)
  /-- LANE_STATUS (R547): Returns lane, PCS and group status of a quad. -/
  | laneStatus (m : Fin 7)
  /-- LANE_APPLY (R547): Writes staged lane fields and then LQ_CTRL.APPLY. -/
  | laneApply (m : Fin 7)
  /-- EYE_SCAN (R547): Runs a list of eye-scan points and returns the counts. -/
  | eyeScan (m : Fin 7)
  /-- SLOT_STATUS (R547): Returns a Skemer engine's status, peer word and result. -/
  | slotStatus (m : Fin 7)
  /-- SLOT_RESTART (R547): Writes a Skemer engine's RESTART. -/
  | slotRestart (m : Fin 7)
  /-- SLOT_RELEASE (R547): Writes a Skemer engine's RELEASE or REFIRE. -/
  | slotRelease (m : Fin 7)
  /-- SLOT_CONFIG (R547): Writes SKM_ENG_CFG and SKM_ENG_TMR with EN cleared and restored. -/
  | slotConfig (m : Fin 7)
  /-- MEM_STATUS (R547): Returns MC and MT status of one channel. -/
  | memStatus (m : Fin 7)
  /-- MEM_TRAIN (R547): Runs the initial training procedure of one channel. -/
  | memTrain (m : Fin 7)
  /-- MEM_MAP (R547): Writes and applies MC_MAP_CTRL and MC_MAP_CH. -/
  | memMap (m : Fin 7)
  /-- MEM_RETIRE (R547): Writes one MC_RETIRE entry. -/
  | memRetire (m : Fin 7)
  /-- LOG_POP (R605): Pops up to MAX error records. -/
  | logPop (m : Fin 7)
  /-- LOG_COUNTERS (R606): Returns lost counters and first-error registers, optionally clearing them. -/
  | logCounters (m : Fin 7)
  /-- SELFTEST_RUN (R637): Runs self-test slices and answers with IST_RUN_RES. -/
  | selftestRun (m : Fin 7)
  /-- INJECT (R638): Injects a configuration upset or scratchpad bit error. -/
  | injectCommand (m : Fin 7)
  /-- MARCH_RUN (R547): Runs march slices over a range of the shared region. -/
  | marchRun (m : Fin 7)
  /-- LC_GET (R578): Returns life-cycle state and key-slot status. -/
  | lcGet (m : Fin 7)
  /-- LC_ADVANCE (R554): Moves the device to the next life-cycle state. -/
  | lcAdvance (m : Fin 7)
  /-- KEY_PROGRAM (R578): Programs a key, digest or policy fuse field. -/
  | keyProgram (m : Fin 7)
  /-- KEY_REVOKE (R578): Revokes an owner, session or firmware key slot. -/
  | keyRevoke (m : Fin 7)
  /-- DEBUG_UNLOCK (R577): In DEPLOY sets BK_OFF, wipes the saggar, closes other sessions and opens debug. -/
  | debugUnlock (m : Fin 7)
  /-- SESSION_AUTH_TIMEOUT (R572): A pending session with no AUTH_RESPONSE within 10 s is discarded. -/
  | sessionAuthTimeout (handle : BitVec 32)
  /-- SESSION_LOCKOUT_END (R572): A mailbox's OPEN_SESSION lockout period ends. -/
  | sessionLockoutEnd (m : Fin 7)
  /-- SESSION_IDLE_TIMEOUT (R573): A session closes after its idle timeout without a request. -/
  | sessionIdleTimeout (handle : BitVec 32)
  /-- SCRATCHPAD_ACCESS (R522): The scratchpad port performs a word access, correcting or reporting ECC errors. -/
  | scratchpadAccess (op : PadOp) (upset : List (Fin 72))
  /-- MARCH_SLICE_DONE (R524): A march slice completes, logging any mismatches. -/
  | marchSliceDone (bad : List (Fin 524288))
  /-- MARCH_SLICE_YIELD (R527): A core access to the handler window makes a PRESERVING slice yield and be abandoned. -/
  | marchSliceYield (w : Fin 524288)
  /-- TAMPER_TRIP (R566): A tamper source trips; the device wipes, closes sessions and takes the policy action. -/
  | tamperTrip (j : Fin 6) (level : BitVec 6)
  /-- SEC_WIPE_START (R564): A START write to SEC_WIPE starts a saggar wipe. -/
  | secWipeStart (ep : Fin 256) (v : BitVec 32)
  /-- WIPE_DONE (R564): A saggar wipe completes and SEC_WIPE.COUNT increments. -/
  | wipeDone
  /-- SEC_FUSE_GO (R562): A GO write to SEC_FUSE_CTRL starts programming a fuse field. -/
  | secFuseGo (ep : Fin 256) (v : BitVec 32)
  /-- FUSE_PROGRAM_DONE (R563): Fuse programming ends with read-back, setting FAIL on a mismatch. -/
  | fuseProgramDone (ok : Bool)
  /-- SEC_DBG_OPEN (R577): Writing 1 to SEC_DBG.OPEN sets BK_OFF and then DBG_OPEN. -/
  | secDbgOpen (ep : Fin 256) (v : BitVec 32)
  /-- INTERRUPT_SOURCE_RAISE (R583): A pulse source is raised or a level source goes high and the source becomes pending. -/
  | interruptSourceRaise (n : Fin 1024) (level : Bool)
  /-- IC_TGT_CLAIM_READ (R586): A claim read takes the lowest-numbered presentable source of the target into service. -/
  | icTgtClaimRead (ep : Fin 256) (t : Fin 8)
  /-- IC_TGT_COMPLETE (R588): A completion write ends service of the named source, or sets BAD_COMPLETE. -/
  | icTgtComplete (ep : Fin 256) (t : Fin 8) (v : BitVec 32)
  /-- SW_PEND (R583): Writing SW_PEND makes a source pending. -/
  | swPend (ep : Fin 256) (n : Fin 1024) (v : BitVec 32)
  /-- DISCARD (R583): Writing DISCARD clears the pending state of a source not in service. -/
  | discard (ep : Fin 256) (n : Fin 1024) (v : BitVec 32)
  /-- HOLDOFF_EXPIRY (R592): A hold-off group's interval ends and its sources become presentable. -/
  | holdoffExpiry (g : Fin 64)
  /-- IC_SLEEP (R594): With SLEEP_EN and nothing pending, the interrupt controller stops its clock. -/
  | icSleep
  /-- IC_WAKE (R594): A latch, report or access restarts the interrupt controller clock. -/
  | icWake
  /-- ERROR_REPORT_ACCEPT (R598): The error collector accepts a report, coalescing, entering or dropping it. -/
  | errorReportAccept
  /-- ERR_POP0_READ (R604): A read of ERR_POP0 removes the oldest record and latches its other words. -/
  | errPop0Read (ep : Fin 256)
  /-- IST_SWEEP_START (R611): IST_PERIOD ms after a sweep ends, the next self-test sweep starts. -/
  | istSweepStart
  /-- IST_SLICE_START (R610): The controller starts a self-test slice when stagger, power and exclusion allow. -/
  | istSliceStart
  /-- IST_SLICE_DONE (R613): A self-test slice ends, counting and logging any failure. -/
  | istSliceDone (tgt : Fin 3) (fail : Bool)
  /-- IST_SLICE_ABANDON (R612): A slice yields or times out, counts as not run and may make its unit skipped. -/
  | istSliceAbandon (tgt : Fin 3)
  /-- IST_RUN_START (R614): A START write to IST_RUN runs COUNT units of a target. -/
  | istRunStart (ep : Fin 256) (v : BitVec 32)
  /-- TAP_RESET (R616): TRST_N low or Test-Logic-Reset resets the TAP and selects IDCODE. -/
  | tapReset
  /-- EXTEST (R620): The EXTEST instruction drives pins from the boundary register. -/
  | extest (cells : Option (BitVec 3508))
  /-- SAMPLE_PRELOAD (R617): The SAMPLE/PRELOAD instruction selects the boundary register. -/
  | samplePreload (cells : Option (BitVec 3508))
  /-- IDCODE (R617): The IDCODE instruction selects the identification register. -/
  | idcode
  /-- HIGHZ (R620): The HIGHZ instruction takes the pins and selects bypass. -/
  | highz
  /-- CLAMP (R620): The CLAMP instruction holds the pins from the boundary register and selects bypass. -/
  | clamp
  /-- EXTEST_PULSE (R366): The IEEE 1149.6 EXTEST_PULSE instruction drives the lane pins. -/
  | extestPulse (cells : Option (BitVec 3508))
  /-- EXTEST_TRAIN (R366): The IEEE 1149.6 EXTEST_TRAIN instruction drives the lane pins. -/
  | extestTrain (cells : Option (BitVec 3508))
  /-- BYPASS (R617): The BYPASS instruction, or an unlisted code, selects the bypass register. -/
  | bypass
  /-- MBX_ACCESS (R534): The MBX_ACCESS instruction selects the 40-bit mailbox register. -/
  | mbxAccess
  /-- JTAG_MBX_APPEND (R534): Operation 0b01 at Update-DR appends 32 bits to the request being assembled. -/
  | jtagMbxAppend (v : BitVec 32)
  /-- JTAG_MBX_COMMIT (R534): Operation 0b10 commits the assembled request. -/
  | jtagMbxCommit
  /-- JTAG_MBX_POP (R534): Operation 0b11 pops 4 bytes of the head response or sets UNDERRUN. -/
  | jtagMbxPop
  /-- CFG_LOAD (R621): The CFG_LOAD instruction selects the load register in boot mode 0b100. -/
  | cfgLoad
  /-- CFG_LOAD_APPEND (R621): Each Update-DR of CFG_LOAD appends 32 bits to the container being loaded. -/
  | cfgLoadAppend (v : BitVec 32)
  /-- DBG_ACCESS (R625): The locked DBG_ACCESS instruction selects the debug access register. -/
  | dbgAccess
  /-- DBG_ACCESS_READ (R625): OP 0b01 issues a debug-tagged read of ADDR. -/
  | dbgAccessRead (addr : BitVec 48)
  /-- DBG_ACCESS_WRITE (R625): OP 0b10 issues a debug-tagged write of DATA to ADDR. -/
  | dbgAccessWrite (addr : BitVec 48) (v : BitVec 32)
  /-- DEBUG_ACCESS_COMPLETE (R625): The debug master's outstanding access completes with data and status. -/
  | debugAccessComplete
  /-- RUN_CTRL (R627): The locked RUN_CTRL instruction selects the run-control register, whose bits act as DBG_RC. -/
  | runCtrl (v : Option (BitVec 8))
  /-- SCAN_ENTRY (R622): SCAN_ENTRY with debug open clears keys, sessions, pins, saggar, scratchpad, planes and block memories. -/
  | scanEntry
  /-- SCAN_STATE_REACHED (R622): After the clearing steps, DBG_STAT.SCAN is set and scan chains become reachable. -/
  | scanStateReached
  /-- SCAN_DATA (R617): The SCAN_DATA instruction reaches the internal scan chains once SCAN is set. -/
  | scanData
  /-- HALT (R628): A HALT write requests a halt of the management core. -/
  | halt (ep : Fin 256) (v : BitVec 32)
  /-- CORE_HALT (R628): The core halts at an instruction boundary, breaking a lock after 256 cycles, and the freeze matrix takes effect. -/
  | coreHalt (pc : BitVec 32) (broken : Bool)
  /-- RESUME (R630): A RESUME write releases the halted core and frozen blocks. -/
  | resume (ep : Fin 256) (v : BitVec 32)
  /-- DBG_STEP (R630): A STEP write releases the core for one instruction and then halts it again. -/
  | dbgStep (ep : Fin 256) (v : BitVec 32)
  /-- WDT_KICK (R633): A write to WDT_KICK reloads the count with the right key, or sets BADKEY. -/
  | wdtKick (ep : Fin 256) (v : BitVec 32)
  /-- WDT_EXPIRY (R634): The watchdog count reaches 0, raising source 4 on the first expiry and acting on the second. -/
  | wdtExpiry
  /-- WDT_DISABLE (R635): A write clearing WDT_CTRL.EN takes effect only with the key, otherwise sets BADKEY. -/
  | wdtDisable (ep : Fin 256) (v : BitVec 32)
  /-- SECTOR_POWER_DOWN (R645): A write of 1 to SYS_PD_REQ holds the sector's regions and sets its fences FENCING. -/
  | sectorPowerDown (ep : Fin 256) (sec : Fin 32)
  /-- SECTOR_SUPPLY_REMOVED (R645): With both fences CLOSED the sector supply is removed and SYS_PD_STAT is set. -/
  | sectorSupplyRemoved (sec : Fin 32)
  /-- SECTOR_POWER_UP (R646): A write of 0 to SYS_PD_REQ starts restoring the sector's power. -/
  | sectorPowerUp (ep : Fin 256) (sec : Fin 32)
  /-- SECTOR_POWER_RESTORED (R646): Power returns; flip-flops load INIT, queues and slices reset, NIs leave reset and the hold ends. -/
  | sectorPowerRestored (sec : Fin 32)
  /-- TEMP_SENSOR_UPDATE (R651): Every 1 ms SYS_TEMP updates and the alarm and maximum are checked. -/
  | tempSensorUpdate (temp : BitVec 16)
  /-- FENCE_TARGET_TIMEOUT (R322): A request already taken by user logic that is still unanswered NI_TIMEOUT.TGT microseconds after its fence entered FENCING is answered NORESP by the NI, recorded as event 0x0A, and any later user response to it is discarded. -/
  | fenceTargetTimeout (e : Fin 64)
  /-- FUSE_SUPPLY_INVALID (R642): VCC_FUSE becomes invalid, clearing SEC_STAT.FUSE_PWR and ending any fuse field being programmed under R563. -/
  | fuseSupplyInvalid
  /-- SKM_ABORT_TIMEOUT (R416): The 1 ms of ABORT ordered sets that a Skemer engine sends on finding no common generation ends, and the lead lane's transmitter goes to electrical idle in FAILED. -/
  | skmAbortTimeout (e : Fin 16)
  /-- CFG_DONE_FALL (R205): The CFG_DONE line falls below the input threshold, so the synchronised CFG_DONE_IN reads low and a device in WAIT restarts its count of high samples. -/
  | cfgDoneFall
  /-- RECEIVE_CODE_ERROR (R380): A received 8b/10b code with a code or disparity error, or a 64b/66b block with an invalid sync header, is flagged to the fabric and counted in PCS_LN_ERR_CNT. -/
  | receiveCodeError (n : Fin 144) (unit : BitVec 66)
  /-- INVALID_TRANSMIT_UNIT (R379): A transmit unit that cannot be sent as presented is replaced and sets TX_BAD: a K byte not in the control table is sent as K30.7, and a block with header 0b00 or 0b11 is sent as the /E/ block. -/
  | invalidTransmitUnit (n : Fin 144) (unit : BitVec 66)
  deriving DecidableEq, Repr

end Sys2Proof
end

