-- ==== Sys2Proof/Machine/Tbl.lean ====
section
/-! DEFINITION. Tbl.lean: sparse tables in one canonical form, sets of numbers, and the fields of a word. -/

namespace Sys2Proof

/-- A sparse table from keys to values. An unlisted key holds the default of the table's reader. -/
abbrev Tbl (α : Type) := List (Nat × α)

/-- The value at `k`; an unlisted key holds `d k`. -/
def Tbl.get {α : Type} (d : Nat → α) : Tbl α → Nat → α
  | [], k => d k
  | (a, v) :: r, k => if a = k then v else Tbl.get d r k

/-- Put `(k, v)` before the first key above `k`. -/
def Tbl.insert {α : Type} (k : Nat) (v : α) : Tbl α → Tbl α
  | [] => [(k, v)]
  | (a, w) :: r => if k < a then (k, v) :: (a, w) :: r else (a, w) :: Tbl.insert k v r

/-- The table without an entry at `k`. -/
def Tbl.erase {α : Type} (t : Tbl α) (k : Nat) : Tbl α := t.filter (fun p => p.1 != k)

/-- Set `k` to `v`, keeping the canonical form: a value equal to the default leaves no entry. -/
def Tbl.set {α : Type} [DecidableEq α] (d : Nat → α) (t : Tbl α) (k : Nat) (v : α) : Tbl α :=
  if v = d k then Tbl.erase t k else Tbl.insert k v (Tbl.erase t k)

/-- The canonical form: keys strictly rising, no entry equal to its default. -/
def Tbl.wf {α : Type} [DecidableEq α] (d : Nat → α) (t : Tbl α) : Prop :=
  t.Pairwise (fun p q => p.1 < q.1) ∧ ∀ p ∈ t, p.2 ≠ d p.1

/-- A set of numbers as a strictly rising list. -/
abbrev NSet := List Nat

/-- Membership. -/
def NSet.has (t : NSet) (n : Nat) : Bool := t.contains n

/-- Put `n` before the first member above it. -/
def NSet.insert (n : Nat) : NSet → NSet
  | [] => [n]
  | a :: r => if n < a then n :: a :: r else a :: NSet.insert n r

/-- The set without `n`. -/
def NSet.del (t : NSet) (n : Nat) : NSet := t.filter (fun a => a != n)

/-- The set with `n`. -/
def NSet.add (t : NSet) (n : Nat) : NSet := NSet.insert n (NSet.del t n)

/-- `n` in the set or out of it. -/
def NSet.put (t : NSet) (n : Nat) (b : Bool) : NSet := if b then NSet.add t n else NSet.del t n

/-- The members set in bits `base` and up of a 32-bit view. -/
def NSet.bits (t : NSet) (base : Nat) : Word :=
  BitVec.ofNat 32 (((t.filter (fun a => base ≤ a && a < base + 32)).map (fun a => 2 ^ (a - base))).sum)

/-- The bits of `v` that a field covers. -/
def Fld.mask (f : Fld) : Word := BitVec.ofNat 32 ((2 ^ f.w - 1) * 2 ^ f.lo)

/-- The field `f` of `v`. -/
def Word.fget (v : Word) (f : Fld) : Nat := (v.toNat >>> f.lo) % 2 ^ f.w

/-- `v` with the field `f` holding `n` (its low bits). -/
def Word.fput (v : Word) (f : Fld) (n : Nat) : Word :=
  (v &&& ~~~ f.mask) ||| BitVec.ofNat 32 ((n % 2 ^ f.w) * 2 ^ f.lo)

/-- Bit `i` of `v`. -/
def Word.bit (v : Word) (i : Nat) : Bool := v.getLsbD i

/-- A number read as two's complement of width `w` (R10). -/
def signed (w n : Nat) : Int :=
  if n % 2 ^ w < 2 ^ (w - 1) then (n % 2 ^ w : Nat) else ((n % 2 ^ w : Nat) : Int) - (2 ^ w : Nat)

/-- An integer as a `w`-bit two's complement field (R10). -/
def unsigned (w : Nat) (i : Int) : Nat := (i % (2 ^ w : Nat)).toNat

/-- Saturating count in `w` bits. -/
def satAdd (w a b : Nat) : Nat := min (a + b) (2 ^ w - 1)

/-- One bit as a number. -/
def b2n (b : Bool) : Nat := if b then 1 else 0

/-- The number that little-endian bytes hold (R9). -/
def leNat : List Byte → Nat
  | [] => 0
  | b :: r => b.toNat + 256 * leNat r

/-- `k` little-endian bytes of a number (R9). -/
def leBytes : Nat → Nat → List Byte
  | 0, _ => []
  | k + 1, n => BitVec.ofNat 8 n :: leBytes k (n / 256)

/-- Bits `hi` down to `lo` of a number. -/
def bitsOf (n hi lo : Nat) : Nat := (n >>> lo) % 2 ^ (hi + 1 - lo)

/-- Bytes `a` to `a + k - 1` of a list; a byte past the end reads 0. -/
def sliceBytes (l : List Byte) (a k : Nat) : List Byte :=
  (l.drop a).take k ++ List.replicate (k - (l.drop a).length) 0

end Sys2Proof
end

