-- ==== Sys2Proof/Machine/RegTable.lean ====
section
/-! DEFINITION. RegTable.lean: for each register table of spec/ the access and the update class of every bit (R12, R18)
and the Reset column (R17), as masks. A reset value that comes from a fuse, a pin or the bitstream stands as 0 here. -/

namespace Sys2Proof.Machine

/-- One register table: its offset in its window, its index ranges (count, stride), its reset value, and the bits of each
access and update class: `rw` RW LIVE, `stg` RW STAGED, `lck` RW LOCKED, `w1c` W1C, `w1s` W1S, `rc` RC, `wo` WO. -/
structure RegRow where
  base : Nat
  dims : List (Nat × Nat)
  rst : Word
  rw : Word
  stg : Word
  lck : Word
  w1c : Word
  w1s : Word
  rc : Word
  wo : Word
  deriving DecidableEq, Repr

/-- Register tables of the sys window. -/
def rows_sys : List RegRow := [
  ⟨0x0, [], 0x7F, 0x0, 0x0, 0x0, 0x0, 0x0, 0x0, 0x0⟩,
  ⟨0x4, [], 0x0, 0x0, 0x0, 0x0, 0x0, 0x0, 0x0, 0x0⟩,
  ⟨0x8, [], 0x0, 0x0, 0x0, 0x0, 0x0, 0x0, 0x0, 0x0⟩,
  ⟨0x10, [], 0x0, 0x0, 0x0, 0x0, 0x0, 0x0, 0x0, 0x0⟩,
  ⟨0x14, [], 0x0, 0x0, 0x0, 0x0, 0x0, 0x0, 0xFFFF, 0x0⟩,
  ⟨0x18, [], 0x300, 0xFFFF, 0x0, 0x0, 0x80000000, 0x0, 0x0, 0x0⟩,
  ⟨0x20, [], 0x0, 0xFFFFFFFF, 0x0, 0x0, 0x0, 0x0, 0x0, 0x0⟩,
  ⟨0x24, [], 0x0, 0x0, 0x0, 0x0, 0x0, 0x0, 0x0, 0x0⟩,
  ⟨0x28, [], 0x0, 0x0, 0x0, 0x0, 0x0, 0x0, 0x0, 0x0⟩,
  ⟨0x2C, [], 0x0, 0x0, 0x0, 0x0, 0x1, 0x0, 0x0, 0x0⟩]

/-- Register tables of the clk window. -/
def rows_clk : List RegRow := [
  ⟨0x0, [], 0x0, 0x0, 0x0, 0x0, 0x40, 0x0, 0x0, 0x0⟩,
  ⟨0x4, [], 0x0, 0x0, 0x0, 0x0, 0x7F, 0x0, 0x0, 0x0⟩,
  ⟨0x8, [], 0x0, 0x0, 0x0, 0x0, 0x0, 0x0, 0x0, 0x0⟩,
  ⟨0xC, [], 0x0, 0x0, 0x0, 0x0, 0xFFFFFFFF, 0x0, 0x0, 0x0⟩,
  ⟨0x10, [], 0x0, 0x0, 0x0, 0x0, 0xFFFFFFFF, 0x0, 0x0, 0x0⟩,
  ⟨0x14, [], 0x0, 0x0, 0x0, 0x0, 0xFFFFFFFF, 0x0, 0x0, 0x0⟩,
  ⟨0x18, [], 0x0, 0x0, 0x0, 0x0, 0xFF, 0x0, 0x0, 0x0⟩,
  ⟨0x20, [], 0x2, 0x80000000, 0x0, 0x7, 0x0, 0x0, 0x0, 0x0⟩,
  ⟨0x24, [], 0x0, 0x3, 0x0, 0x0, 0x0, 0x0, 0x0, 0x0⟩,
  ⟨0x30, [], 0x0, 0xFF, 0x0, 0x0, 0x0, 0x0, 0x0, 0x80000000⟩,
  ⟨0x34, [], 0x0, 0x0, 0x0, 0x0, 0x0, 0x0, 0x0, 0x0⟩,
  ⟨0x40, [(8, 0x4)], 0x20, 0x80000000, 0x0, 0x3F, 0x0, 0x0, 0x0, 0x0⟩,
  ⟨0x100, [(32, 0x4)], 0x0, 0x0, 0x0, 0x0, 0x0, 0x0, 0x0, 0x0⟩,
  ⟨0x200, [(32, 0x4)], 0x0, 0x0, 0x0, 0x0, 0x0, 0x0, 0x0, 0x0⟩]

/-- Register tables of the cfg window. -/
def rows_cfg_1 : List RegRow := [
  ⟨0x0, [], 0x100000, 0x0, 0x0, 0x0, 0x0, 0x0, 0x0, 0x0⟩,
  ⟨0x4, [], 0xFFFF, 0x0, 0x0, 0x0, 0x0, 0x0, 0x0, 0x0⟩,
  ⟨0x8, [], 0x0, 0x0, 0x0, 0x0, 0x0, 0x0, 0x0, 0x0⟩,
  ⟨0xC, [], 0x0, 0x0, 0x0, 0x0, 0x0, 0x0, 0x0, 0x0⟩,
  ⟨0x10, [], 0x0, 0x0, 0x0, 0x0, 0x0, 0x0, 0x0, 0x0⟩,
  ⟨0x14, [], 0x0, 0x0, 0x0, 0x0, 0x0, 0x0, 0x0, 0x0⟩,
  ⟨0x18, [], 0x0, 0x0, 0x0, 0x0, 0x0, 0x0, 0x0, 0x0⟩,
  ⟨0x20, [], 0x0, 0x0, 0x0, 0x0, 0x0, 0x0, 0x0, 0xFFFF⟩,
  ⟨0x24, [], 0x0, 0x0, 0x0, 0x0, 0x0, 0x0, 0x0, 0x0⟩,
  ⟨0x40, [], 0x0, 0x11F, 0x0, 0x0, 0x0, 0x0, 0x0, 0x80000000⟩,
  ⟨0x44, [], 0x0, 0xFFFFFFFF, 0x0, 0x0, 0x0, 0x0, 0x0, 0x0⟩,
  ⟨0x48, [], 0x0, 0x1F, 0x0, 0x0, 0x0, 0x0, 0x0, 0xC0000000⟩,
  ⟨0x4C, [], 0x0, 0x1F, 0x0, 0x0, 0x0, 0x0, 0x0, 0xC0000000⟩,
  ⟨0x50, [], 0x0, 0x0, 0x0, 0x0, 0x0, 0x0, 0x0, 0x0⟩,
  ⟨0x54, [], 0x0, 0x0, 0x0, 0x0, 0x0, 0x0, 0x0, 0x0⟩,
  ⟨0x58, [], 0x0, 0x0, 0x0, 0x0, 0x0, 0x0, 0x0, 0x0⟩,
  ⟨0x5C, [], 0x0, 0x0, 0x0, 0x0, 0x0, 0x0, 0x0, 0x0⟩,
  ⟨0x60, [], 0x0, 0xFFFFFFFF, 0x0, 0x0, 0x0, 0x0, 0x0, 0x0⟩,
  ⟨0x64, [], 0x0, 0xFFFF, 0x0, 0x0, 0x0, 0x0, 0x0, 0x0⟩,
  ⟨0x68, [], 0x0, 0xFFFFFFFF, 0x0, 0x0, 0x0, 0x0, 0x0, 0x0⟩]

/-- Register tables of the cfg window, part 2. -/
def rows_cfg_2 : List RegRow := [
  ⟨0x6C, [], 0x0, 0x1F, 0x0, 0x0, 0x0, 0x0, 0x0, 0x80000000⟩,
  ⟨0x70, [], 0x0, 0xFFFFFFFF, 0x0, 0x0, 0x0, 0x0, 0x0, 0x0⟩,
  ⟨0x74, [], 0x0, 0xFFFF, 0x0, 0x0, 0x0, 0x0, 0x0, 0x0⟩,
  ⟨0x78, [], 0x0, 0x1F, 0x0, 0x0, 0x0, 0x0, 0x0, 0x80000000⟩,
  ⟨0x80, [(8, 0x4)], 0x0, 0xFFFFFFFF, 0x0, 0x0, 0x0, 0x0, 0x0, 0x0⟩,
  ⟨0x100, [(32, 0x20)], 0x0, 0x0, 0x0, 0x0, 0x0, 0x0, 0x0, 0x0⟩,
  ⟨0x104, [(32, 0x20)], 0x0, 0x0, 0x0, 0x0, 0x0, 0x0, 0x0, 0x0⟩,
  ⟨0x108, [(32, 0x20)], 0x0, 0xF3F77, 0x0, 0x0, 0x0, 0x0, 0x0, 0x0⟩,
  ⟨0x10C, [(32, 0x20)], 0x0, 0x0, 0x0, 0x0, 0x80, 0x0, 0x0, 0x0⟩,
  ⟨0x110, [(32, 0x20)], 0x0, 0x0, 0x0, 0x0, 0x0, 0x0, 0x0, 0x0⟩,
  ⟨0x114, [(32, 0x20)], 0x0, 0xF, 0x0, 0x0, 0x0, 0x0, 0x0, 0x0⟩,
  ⟨0x118, [(32, 0x20)], 0x0, 0x0, 0x0, 0x0, 0x0, 0x0, 0x0, 0x0⟩,
  ⟨0x500, [(32, 0x20)], 0x0, 0xFFFFFFFF, 0x0, 0x0, 0x0, 0x0, 0x0, 0x0⟩,
  ⟨0x504, [(32, 0x20)], 0x0, 0xF, 0x0, 0x0, 0x0, 0x0, 0x0, 0x0⟩,
  ⟨0x508, [(32, 0x20)], 0x0, 0xFFFF, 0x0, 0x0, 0x0, 0x0, 0x0, 0x0⟩,
  ⟨0x50C, [(32, 0x20)], 0x0, 0xFFFFFFFF, 0x0, 0x0, 0x0, 0x0, 0x0, 0x0⟩,
  ⟨0xA00, [(32, 0x20), (8, 0x4)], 0x0, 0xFFFFFFFF, 0x0, 0x0, 0x0, 0x0, 0x0, 0x0⟩]

/-- Register tables of the cfg window. -/
def rows_cfg : List RegRow := rows_cfg_1 ++ rows_cfg_2

/-- Register tables of the scr window. -/
def rows_scr : List RegRow := [
  ⟨0x0, [], 0x7, 0x7, 0x0, 0xFF00, 0x0, 0x0, 0x0, 0x0⟩,
  ⟨0x4, [], 0x0, 0x0, 0x0, 0x0, 0x10000, 0x0, 0x0, 0x0⟩,
  ⟨0x8, [], 0x0, 0x0, 0x0, 0x0, 0x0, 0x0, 0x0, 0x0⟩,
  ⟨0xC, [], 0x0, 0x0, 0x0, 0x0, 0x0, 0x0, 0xFFFFFFFF, 0x0⟩,
  ⟨0x10, [], 0x0, 0x0, 0x0, 0x0, 0x0, 0x0, 0xFFFFFFFF, 0x0⟩,
  ⟨0x14, [], 0x0, 0x0, 0x0, 0x0, 0x0, 0x0, 0xFFFFFFFF, 0x0⟩,
  ⟨0x18, [], 0x0, 0x0, 0x0, 0x0, 0x0, 0x0, 0xFFFFFFFF, 0x0⟩,
  ⟨0x1C, [], 0x0, 0x0, 0x0, 0x0, 0x0, 0x0, 0xFFFFFFFF, 0x0⟩,
  ⟨0x20, [], 0x0, 0x0, 0x0, 0x0, 0x0, 0x0, 0xFFFFFFFF, 0x0⟩,
  ⟨0x24, [], 0x0, 0x0, 0x0, 0x0, 0x0, 0x0, 0xFFFFFFFF, 0x0⟩,
  ⟨0x28, [], 0x0, 0x0, 0x0, 0x0, 0x0, 0x0, 0xFFFFFFFF, 0x0⟩,
  ⟨0x30, [], 0x0, 0x0, 0x0, 0x0, 0x0, 0x0, 0x0, 0x0⟩,
  ⟨0x34, [], 0x0, 0x0, 0x0, 0x0, 0x0, 0x0, 0x0, 0x0⟩,
  ⟨0x38, [], 0x0, 0x0, 0x0, 0x0, 0x0, 0x0, 0x0, 0x0⟩,
  ⟨0x3C, [], 0x0, 0x0, 0x0, 0x0, 0x0, 0x0, 0x0, 0x0⟩,
  ⟨0x40, [], 0x0, 0xFFFFFFFF, 0x0, 0x0, 0x0, 0x0, 0x0, 0x0⟩,
  ⟨0x44, [], 0x0, 0x71F7F7F, 0x0, 0x0, 0x0, 0x0, 0x0, 0xC0000000⟩,
  ⟨0x100, [(32, 0x4)], 0x0, 0x0, 0x0, 0x0, 0x0, 0x0, 0x0, 0x0⟩]

/-- Register tables of the ic window. -/
def rows_ic : List RegRow := [
  ⟨0x0, [], 0x0, 0x1, 0x0, 0x0, 0x0, 0x0, 0x0, 0x0⟩,
  ⟨0x4, [], 0x0, 0x0, 0x0, 0x0, 0x0, 0x0, 0x0, 0x0⟩,
  ⟨0x100, [(8, 0x10)], 0x0, 0x0, 0x0, 0x0, 0x0, 0x0, 0xC00003FF, 0x0⟩,
  ⟨0x104, [(8, 0x10)], 0x0, 0x0, 0x0, 0x0, 0x0, 0x0, 0x0, 0x3FF⟩,
  ⟨0x108, [(8, 0x10)], 0x0, 0x801F00FF, 0x0, 0x0, 0x0, 0x0, 0x0, 0x0⟩,
  ⟨0x10C, [(8, 0x10)], 0x0, 0x0, 0x0, 0x0, 0x40000000, 0x0, 0x0, 0x0⟩,
  ⟨0x200, [(64, 0x4)], 0x0, 0xFFFF, 0x0, 0x0, 0x0, 0x0, 0x0, 0x0⟩,
  ⟨0x400, [(32, 0x4)], 0x0, 0x0, 0x0, 0x0, 0x0, 0x0, 0x0, 0x0⟩,
  ⟨0x1000, [(1024, 0x4)], 0x0, 0x171, 0x0, 0x0, 0x0, 0x8000000, 0x0, 0x4000000⟩]

/-- Register tables of the err window. -/
def rows_err : List RegRow := [
  ⟨0x0, [], 0x30, 0x7F, 0x0, 0x0, 0x0, 0x0, 0x0, 0x0⟩,
  ⟨0x4, [], 0x0, 0x0, 0x0, 0x0, 0xC0000000, 0x0, 0x0, 0x0⟩,
  ⟨0x8, [], 0xFFFFFFFF, 0x0, 0x0, 0x0, 0x0, 0x0, 0xFFFFFFFF, 0x0⟩,
  ⟨0xC, [], 0xFFFFFFFF, 0x0, 0x0, 0x0, 0x0, 0x0, 0x0, 0x0⟩,
  ⟨0x10, [], 0xFFFFFFFF, 0x0, 0x0, 0x0, 0x0, 0x0, 0x0, 0x0⟩,
  ⟨0x14, [], 0xFFFFFFFF, 0x0, 0x0, 0x0, 0x0, 0x0, 0x0, 0x0⟩,
  ⟨0x18, [], 0x0, 0x0, 0x0, 0x0, 0x0, 0x0, 0xFFFFFFFF, 0x0⟩,
  ⟨0x1C, [], 0x0, 0x0, 0x0, 0x0, 0x0, 0x0, 0xFFFFFFFF, 0x0⟩,
  ⟨0x100, [(32, 0x4)], 0x0, 0x0, 0x0, 0x0, 0x0, 0x0, 0xFFFFFFFF, 0x0⟩,
  ⟨0x200, [(2, 0x4)], 0x0, 0x0, 0x0, 0x0, 0xFFFFFFFF, 0x0, 0x0, 0x0⟩,
  ⟨0x400, [(64, 0x10), (4, 0x4)], 0x0, 0x0, 0x0, 0x0, 0x0, 0x0, 0x0, 0x0⟩]

/-- Register tables of the ist window. -/
def rows_ist : List RegRow := [
  ⟨0x0, [], 0xC0A091C, 0x1D, 0x0, 0xFFFF0F00, 0x0, 0x0, 0x0, 0x0⟩,
  ⟨0x4, [], 0x3E8, 0xFFFF, 0x0, 0x0, 0x0, 0x0, 0x0, 0x0⟩,
  ⟨0x8, [], 0x0, 0x0, 0x0, 0x0, 0x1000000, 0x0, 0x0, 0x0⟩,
  ⟨0xC, [], 0x0, 0x0, 0x0, 0x0, 0x0, 0x0, 0xFFFFFFFF, 0x0⟩,
  ⟨0x10, [], 0x0, 0x0, 0x0, 0x0, 0x0, 0x0, 0xFFFFFFFF, 0x0⟩,
  ⟨0x14, [], 0x0, 0x0, 0x0, 0x0, 0x0, 0x0, 0xFFFFFFFF, 0x0⟩,
  ⟨0x18, [], 0x0, 0x0, 0x0, 0x0, 0x0, 0x0, 0x0, 0x0⟩,
  ⟨0x20, [], 0x10000, 0x3FF0000, 0x0, 0x0, 0x0, 0x0, 0x0, 0x80000000⟩,
  ⟨0x24, [], 0x0, 0xFFFFF, 0x0, 0x0, 0x0, 0x0, 0x0, 0x0⟩,
  ⟨0x28, [], 0x0, 0x0, 0x0, 0x0, 0x0, 0x0, 0x0, 0x0⟩]

/-- Register tables of the dbg window. -/
def rows_dbg : List RegRow := [
  ⟨0x0, [], 0x0, 0x0, 0x0, 0x0, 0xF, 0x0, 0x0, 0x0⟩,
  ⟨0x4, [], 0x6, 0xF, 0x0, 0x0, 0x0, 0x0, 0x0, 0x0⟩,
  ⟨0x8, [], 0x0, 0x0, 0x0, 0x0, 0x0, 0x0, 0x0, 0xE0000000⟩,
  ⟨0xC, [], 0x0, 0x1F, 0x0, 0x0, 0x0, 0x0, 0x0, 0x0⟩,
  ⟨0x10, [], 0xFFFFFFFF, 0xFFFFFFFF, 0x0, 0x0, 0x0, 0x0, 0x0, 0x0⟩,
  ⟨0x14, [], 0x0, 0x0, 0x0, 0x0, 0x0, 0x0, 0x0, 0x0⟩,
  ⟨0x18, [], 0x0, 0x0, 0x0, 0x0, 0x0, 0x0, 0x0, 0x0⟩,
  ⟨0x100, [], 0x10, 0x1, 0x0, 0x30, 0x0, 0x0, 0x0, 0xFFFF0000⟩,
  ⟨0x104, [], 0x30D40, 0x0, 0x0, 0xFFFFFFFF, 0x0, 0x0, 0x0, 0x0⟩,
  ⟨0x108, [], 0x0, 0x0, 0x0, 0x0, 0x0, 0x0, 0x0, 0xFFFF⟩,
  ⟨0x10C, [], 0x30D40, 0x0, 0x0, 0x0, 0x0, 0x0, 0x0, 0x0⟩,
  ⟨0x110, [], 0x0, 0x0, 0x0, 0x0, 0x6, 0x0, 0x0, 0x0⟩]

/-- Register tables of the mbx window. -/
def rows_mbx : List RegRow := [
  ⟨0x0, [(7, 0x40)], 0x0, 0x0, 0x0, 0x0, 0x0, 0x0, 0x0, 0xE0000000⟩,
  ⟨0x4, [(7, 0x40)], 0x2, 0x0, 0x0, 0x0, 0x1F0, 0x0, 0x0, 0x0⟩,
  ⟨0x8, [(7, 0x40)], 0x0, 0x0, 0x0, 0x0, 0x0, 0x0, 0x0, 0xFFFFFFFF⟩,
  ⟨0xC, [(7, 0x40)], 0x0, 0x0, 0x0, 0x0, 0x0, 0x0, 0x0, 0x0⟩,
  ⟨0x10, [(7, 0x40)], 0x0, 0xFF, 0x0, 0x0, 0x0, 0x0, 0x0, 0x0⟩,
  ⟨0x14, [(7, 0x40)], 0x1, 0x3, 0x0, 0x0, 0x0, 0x0, 0x0, 0x0⟩,
  ⟨0x200, [], 0x0, 0x0, 0x0, 0x0, 0x0, 0x0, 0x0, 0x0⟩,
  ⟨0x204, [], 0x0, 0x0, 0x0, 0x0, 0x0, 0x0, 0x0, 0x0⟩]

/-- Register tables of the sec window. -/
def rows_sec : List RegRow := [
  ⟨0x0, [], 0x0, 0x0, 0x0, 0x0, 0x0, 0x0, 0x0, 0x0⟩,
  ⟨0x4, [], 0x0, 0x0, 0x0, 0x0, 0x0, 0x1, 0x0, 0x0⟩,
  ⟨0x8, [], 0x0, 0x0, 0x0, 0x0, 0x3F, 0x0, 0x0, 0x0⟩,
  ⟨0xC, [], 0x0, 0x0, 0x0, 0x0, 0x0, 0x0, 0x0, 0x0⟩,
  ⟨0x10, [], 0x0, 0x0, 0x0, 0x0, 0x0, 0x0, 0x0, 0x0⟩,
  ⟨0x14, [], 0x0, 0x0, 0x0, 0x0, 0x0, 0x0, 0x0, 0x0⟩,
  ⟨0x18, [], 0x0, 0x0, 0x0, 0x0, 0x0, 0x0, 0x0, 0x0⟩,
  ⟨0x1C, [], 0x0, 0x0, 0x0, 0x0, 0x0, 0x0, 0x0, 0x0⟩,
  ⟨0x20, [], 0x0, 0x0, 0x0, 0x0, 0x0, 0x0, 0x0, 0x80000000⟩,
  ⟨0x30, [], 0x0, 0xFF, 0x0, 0x0, 0x0, 0x0, 0x0, 0x80000000⟩,
  ⟨0x40, [(8, 0x4)], 0x0, 0x0, 0x0, 0x0, 0x0, 0x0, 0x0, 0xFFFFFFFF⟩,
  ⟨0x100, [(4, 0x20), (8, 0x4)], 0x0, 0x0, 0x0, 0x0, 0x0, 0x0, 0x0, 0x0⟩]

/-- Register tables of the tim window. -/
def rows_tim_1 : List RegRow := [
  ⟨0x0, [], 0x0, 0x0, 0x0, 0x0, 0x0, 0x0, 0x0, 0x0⟩,
  ⟨0x100, [(32, 0x40)], 0x0, 0x3F730, 0x0, 0x0, 0x0, 0x0, 0x0, 0xF⟩,
  ⟨0x104, [(32, 0x40)], 0x0, 0x0, 0x0, 0x0, 0x0, 0x0, 0x0, 0x0⟩,
  ⟨0x108, [(32, 0x40)], 0x0, 0x0, 0x0, 0x0, 0x0, 0x0, 0x0, 0x0⟩,
  ⟨0x10C, [(32, 0x40)], 0x0, 0x0, 0x0, 0x0, 0x0, 0x0, 0x0, 0x0⟩,
  ⟨0x110, [(32, 0x40)], 0x0, 0x0, 0x0, 0x0, 0x0, 0x0, 0x0, 0x0⟩,
  ⟨0x114, [(32, 0x40)], 0x0, 0xFFFFFFFF, 0x0, 0x0, 0x0, 0x0, 0x0, 0x0⟩,
  ⟨0x118, [(32, 0x40)], 0x0, 0xFFFFFFFF, 0x0, 0x0, 0x0, 0x0, 0x0, 0x0⟩,
  ⟨0x11C, [(32, 0x40)], 0x0, 0xFFFFFFFF, 0x0, 0x0, 0x0, 0x0, 0x0, 0x0⟩,
  ⟨0x120, [(32, 0x40)], 0x0, 0x0, 0x0, 0xFFFFFFFF, 0x0, 0x0, 0x0, 0x0⟩,
  ⟨0x124, [(32, 0x40)], 0x0, 0x0, 0x0, 0xFFFF, 0x0, 0x0, 0x0, 0x0⟩,
  ⟨0x128, [(32, 0x40)], 0x0, 0xFFFFFFFF, 0x0, 0x0, 0x0, 0x0, 0x0, 0x0⟩,
  ⟨0x12C, [(32, 0x40)], 0x0, 0xFFFFFFFF, 0x0, 0x0, 0x0, 0x0, 0x0, 0x0⟩,
  ⟨0x130, [(32, 0x40)], 0x4000B333, 0xFFFFFFFF, 0x0, 0x0, 0x0, 0x0, 0x0, 0x0⟩,
  ⟨0x134, [(32, 0x40)], 0x646440, 0xFFFFFFFF, 0x0, 0x0, 0x0, 0x0, 0x0, 0x0⟩,
  ⟨0x138, [(32, 0x40)], 0x0, 0x0, 0x0, 0x0, 0x3F, 0x0, 0x0, 0x0⟩,
  ⟨0x13C, [(32, 0x40)], 0x3C0000, 0x3FFFFF, 0x0, 0x0, 0x0, 0x0, 0x0, 0x0⟩,
  ⟨0x1000, [(64, 0x20)], 0x0, 0x9, 0x0, 0x1F6, 0x1C0000, 0x0, 0x0, 0x0⟩,
  ⟨0x1004, [(64, 0x20)], 0x0, 0x0, 0x0, 0xFFFFFFFF, 0x0, 0x0, 0x0, 0x0⟩,
  ⟨0x1008, [(64, 0x20)], 0x0, 0x0, 0x0, 0xFFFFFFFF, 0x0, 0x0, 0x0, 0x0⟩]

/-- Register tables of the tim window, part 2. -/
def rows_tim_2 : List RegRow := [
  ⟨0x100C, [(64, 0x20)], 0x0, 0x0, 0x0, 0xFFFFFFFF, 0x0, 0x0, 0x0, 0x0⟩,
  ⟨0x1010, [(64, 0x20)], 0x0, 0x0, 0x0, 0xFFFFFFFF, 0x0, 0x0, 0x0, 0x0⟩,
  ⟨0x1014, [(64, 0x20)], 0x0, 0x0, 0x0, 0xFFFFFFFF, 0x0, 0x0, 0x0, 0x0⟩,
  ⟨0x1018, [(64, 0x20)], 0x0, 0x0, 0x0, 0x0, 0x0, 0x0, 0x0, 0x0⟩,
  ⟨0x101C, [(64, 0x20)], 0x0, 0x0, 0x0, 0x0, 0x0, 0x0, 0xFFFFFFFF, 0x0⟩,
  ⟨0x2000, [(64, 0x4)], 0x2, 0x31F01F7, 0x0, 0x0, 0x0, 0x0, 0x0, 0x0⟩,
  ⟨0x2100, [(16, 0x20)], 0x0, 0x0, 0x0, 0x0, 0x0, 0x0, 0x0, 0x0⟩,
  ⟨0x2104, [(16, 0x20)], 0x0, 0x0, 0x0, 0x0, 0x0, 0x0, 0x0, 0x0⟩,
  ⟨0x2108, [(16, 0x20)], 0x0, 0x0, 0x0, 0x0, 0x0, 0x0, 0x0, 0x0⟩,
  ⟨0x210C, [(16, 0x20)], 0x0, 0x0, 0x0, 0x0, 0x0, 0x0, 0x0, 0x0⟩,
  ⟨0x2110, [(16, 0x20)], 0x100, 0x3F00, 0x0, 0x0, 0x8000, 0x0, 0xFFFF0000, 0x0⟩,
  ⟨0x2400, [(4, 0x8)], 0x0, 0x3, 0x0, 0x0, 0x0, 0x0, 0x0, 0x0⟩,
  ⟨0x2404, [(4, 0x8)], 0x0, 0xFFFFFFFF, 0x0, 0x0, 0x0, 0x0, 0x0, 0x0⟩,
  ⟨0x2440, [(4, 0x8)], 0x0, 0xFFFF01F3, 0x0, 0x0, 0x0, 0x0, 0x0, 0x0⟩,
  ⟨0x2444, [(4, 0x8)], 0x0, 0xFFFFFFFF, 0x0, 0x0, 0x0, 0x0, 0x0, 0x0⟩,
  ⟨0x2480, [(16, 0x4)], 0x10000, 0xFF3F03, 0x0, 0x0, 0x0, 0x0, 0x0, 0x0⟩,
  ⟨0x2500, [(32, 0x4)], 0x0, 0x1F1, 0x0, 0x0, 0x0, 0x0, 0x0, 0x0⟩,
  ⟨0x4000, [(144, 0x20)], 0x0, 0x1FB, 0x0, 0x4, 0x0, 0x0, 0x0, 0x0⟩,
  ⟨0x4004, [(144, 0x20)], 0x0, 0xFFFFFFFF, 0x0, 0x0, 0x0, 0x0, 0x0, 0x0⟩,
  ⟨0x4008, [(144, 0x20)], 0x0, 0xFFFFFFFF, 0x0, 0x0, 0x0, 0x0, 0x0, 0x0⟩]

/-- Register tables of the tim window, part 3. -/
def rows_tim_3 : List RegRow := [
  ⟨0x400C, [(144, 0x20)], 0x0, 0xFFFFFFFF, 0x0, 0x0, 0x0, 0x0, 0x0, 0x0⟩,
  ⟨0x4010, [(144, 0x20)], 0x0, 0x0, 0x0, 0x0, 0x0, 0x0, 0x0, 0x0⟩,
  ⟨0x4014, [(144, 0x20)], 0x0, 0x0, 0x0, 0x0, 0x0, 0x0, 0x0, 0x0⟩,
  ⟨0x4018, [(144, 0x20)], 0x0, 0x0, 0x0, 0x0, 0x0, 0x0, 0x0, 0x0⟩,
  ⟨0x401C, [(144, 0x20)], 0x0, 0x0, 0x0, 0x0, 0x700, 0x0, 0xFFFF0000, 0x0⟩]

/-- Register tables of the tim window. -/
def rows_tim : List RegRow := rows_tim_1 ++ rows_tim_2 ++ rows_tim_3

/-- Register tables of the skm window. -/
def rows_skm : List RegRow := [
  ⟨0x0, [(16, 0x1000)], 0x0, 0x1, 0x0, 0x0, 0x0, 0x0, 0x0, 0xE⟩,
  ⟨0x4, [(16, 0x1000)], 0x831F0100, 0x0, 0x0, 0xF71F3FFF, 0x0, 0x0, 0x0, 0x0⟩,
  ⟨0x8, [(16, 0x1000)], 0x32191432, 0xFFFFFFFF, 0x0, 0x0, 0x0, 0x0, 0x0, 0x0⟩,
  ⟨0xC, [(16, 0x1000)], 0x0, 0x0, 0x0, 0x0, 0x60000, 0x0, 0x0, 0x0⟩,
  ⟨0x10, [(16, 0x1000)], 0x0, 0x0, 0x0, 0x0, 0x0, 0x0, 0x0, 0x0⟩,
  ⟨0x14, [(16, 0x1000)], 0x0, 0x0, 0x0, 0x0, 0x0, 0x0, 0x0, 0x0⟩,
  ⟨0x18, [(16, 0x1000)], 0x0, 0x0, 0x0, 0x0, 0x3F, 0x0, 0x0, 0x0⟩,
  ⟨0x1C, [(16, 0x1000)], 0x3D, 0x3F, 0x0, 0x0, 0x0, 0x0, 0x0, 0x0⟩,
  ⟨0x100, [(16, 0x1000), (4, 0x10), (4, 0x4)], 0x0, 0x0, 0x0, 0xFFFFFFFF, 0x0, 0x0, 0x0, 0x0⟩]

/-- Register tables of the noc window. -/
def rows_noc : List RegRow := [
  ⟨0x0, [], 0x0, 0x0, 0x0, 0x0, 0x0, 0x0, 0x0, 0x1⟩,
  ⟨0x4, [], 0x0, 0x0, 0x3FFF, 0x0, 0x0, 0x0, 0x0, 0x0⟩,
  ⟨0x8, [], 0x0, 0x0, 0x0, 0x0, 0x0, 0x0, 0x0, 0x0⟩,
  ⟨0xC, [], 0x4242, 0xFFFF, 0x0, 0x0, 0x0, 0x0, 0x0, 0x0⟩,
  ⟨0x10, [], 0x2, 0x0, 0x0, 0x0, 0x0, 0x0, 0x0, 0x0⟩,
  ⟨0x14, [], 0x0, 0x0, 0x0, 0x0, 0x0, 0x0, 0xFFFFFFFF, 0x0⟩,
  ⟨0x18, [], 0x0, 0x0, 0x0, 0x0, 0x0, 0x0, 0xFFFFFFFF, 0x0⟩,
  ⟨0x1C, [], 0x0, 0x0, 0x0, 0x0, 0x0, 0x0, 0xFFFFFFFF, 0x0⟩,
  ⟨0x20, [], 0x0, 0x0, 0x0, 0x0, 0x0, 0x0, 0xFFFFFFFF, 0x0⟩,
  ⟨0x100, [(14, 0x4)], 0x0, 0x0, 0x0, 0x0, 0x0, 0x0, 0x0, 0x0⟩]

/-- Register tables of the ni window. -/
def rows_ni : List RegRow := [
  ⟨0x0, [], 0x2, 0x2, 0x0, 0x30, 0x0, 0x0, 0x0, 0x1⟩,
  ⟨0x4, [], 0xA0064, 0xFFFFFFFF, 0x0, 0x0, 0x0, 0x0, 0x0, 0x0⟩,
  ⟨0x8, [], 0x400, 0x0, 0x0, 0x0, 0xA0000000, 0x0, 0x0, 0x0⟩,
  ⟨0xC, [], 0x0, 0x0, 0x0, 0x0, 0x0, 0x0, 0xFFFFFFFF, 0x0⟩,
  ⟨0x10, [], 0x0, 0x0, 0x0, 0x0, 0x0, 0x0, 0xFFFFFFFF, 0x0⟩,
  ⟨0x14, [], 0x0, 0x0, 0x0, 0x0, 0x0, 0x0, 0xFFFFFFFF, 0x0⟩,
  ⟨0x18, [], 0x0, 0x0, 0x0, 0x0, 0x0, 0x0, 0xFFFFFFFF, 0x0⟩,
  ⟨0x800, [(256, 0x8)], 0x0, 0x0, 0xFFFFFFFF, 0x0, 0x0, 0x0, 0x0, 0x0⟩,
  ⟨0x804, [(256, 0x8)], 0x0, 0x0, 0xFFFF, 0x0, 0x0, 0x0, 0x0, 0x0⟩]

/-- Register tables of the lq window. -/
def rows_lq_1 : List RegRow := [
  ⟨0x0, [], 0x0, 0x2, 0x20, 0x0, 0x0, 0x0, 0x0, 0x1⟩,
  ⟨0x4, [], 0xAA, 0x0, 0x7FF, 0x0, 0x0, 0x0, 0x0, 0x0⟩,
  ⟨0x8, [], 0x0, 0x0, 0xFFFFFF, 0x0, 0x0, 0x0, 0x0, 0x0⟩,
  ⟨0xC, [], 0x0, 0x0, 0x0, 0x0, 0x10, 0x0, 0x0, 0x0⟩,
  ⟨0x10, [], 0x0, 0x0, 0x0, 0x0, 0xF, 0x0, 0x0, 0x0⟩,
  ⟨0x14, [], 0xF, 0xF, 0x0, 0x0, 0x0, 0x0, 0x0, 0x0⟩,
  ⟨0x18, [], 0xA5, 0x800303FF, 0x0, 0x0, 0x0, 0x0, 0x0, 0x0⟩,
  ⟨0x1C, [], 0x0, 0x0, 0x0, 0x1, 0x0, 0x0, 0x0, 0x0⟩,
  ⟨0x2000, [(4, 0x2000)], 0x2, 0xF, 0x0, 0x0, 0x0, 0x0, 0x0, 0x10⟩,
  ⟨0x2004, [(4, 0x2000)], 0x12, 0x0, 0x7F, 0x0, 0x0, 0x0, 0x0, 0x0⟩,
  ⟨0x2008, [(4, 0x2000)], 0x40, 0x0, 0x17FF, 0x0, 0x0, 0x0, 0x0, 0x0⟩,
  ⟨0x200C, [(4, 0x2000)], 0x0, 0x0, 0xFFFFFF, 0x0, 0x0, 0x0, 0x0, 0x0⟩,
  ⟨0x2010, [(4, 0x2000)], 0xFC00, 0x0, 0x3FFFFFF, 0x0, 0x0, 0x0, 0x0, 0x0⟩,
  ⟨0x2014, [(4, 0x2000)], 0x1EA, 0x0, 0x1FF, 0x0, 0x0, 0x0, 0x0, 0x0⟩,
  ⟨0x2018, [(4, 0x2000)], 0x0, 0x0, 0x0, 0x0, 0x0, 0x0, 0x0, 0x0⟩,
  ⟨0x201C, [(4, 0x2000)], 0x0, 0x0, 0x0, 0x3, 0x0, 0x0, 0x0, 0x0⟩,
  ⟨0x2020, [(4, 0x2000), (12, 0x4)], 0x0, 0xFF, 0x0, 0x0, 0x0, 0x0, 0x0, 0x0⟩,
  ⟨0x2050, [(4, 0x2000)], 0x14, 0x3F, 0x0, 0x0, 0x0, 0x0, 0x0, 0x0⟩,
  ⟨0x2054, [(4, 0x2000)], 0x43, 0x0, 0x0, 0x0, 0x80, 0x0, 0x0, 0x0⟩,
  ⟨0x2058, [(4, 0x2000)], 0x0, 0x0, 0x0, 0x0, 0x3FF, 0x0, 0x0, 0x0⟩]

/-- Register tables of the lq window, part 2. -/
def rows_lq_2 : List RegRow := [
  ⟨0x205C, [(4, 0x2000)], 0xF5, 0x3FF, 0x0, 0x0, 0x0, 0x0, 0x0, 0x0⟩,
  ⟨0x2060, [(4, 0x2000)], 0x0, 0x1F, 0x0, 0x0, 0x0, 0x0, 0x0, 0x20⟩,
  ⟨0x2064, [(4, 0x2000)], 0x0, 0x1F, 0x0, 0x0, 0x0, 0x0, 0x0, 0x80000000⟩,
  ⟨0x2068, [(4, 0x2000)], 0x0, 0x0, 0x0, 0x0, 0x0, 0x0, 0x0, 0x0⟩,
  ⟨0x206C, [(4, 0x2000)], 0x0, 0x0, 0x0, 0x0, 0x0, 0x0, 0x0, 0x0⟩,
  ⟨0x2070, [(4, 0x2000)], 0x0, 0x0, 0x0, 0x0, 0x0, 0x0, 0x0, 0x0⟩,
  ⟨0x2074, [(4, 0x2000)], 0x0, 0xFFFFFFFF, 0x0, 0x0, 0x0, 0x0, 0x0, 0x0⟩,
  ⟨0x2078, [(4, 0x2000)], 0x0, 0xFFFFFFFF, 0x0, 0x0, 0x0, 0x0, 0x0, 0x0⟩,
  ⟨0x2080, [(4, 0x2000)], 0x1100000, 0x31F3FFF, 0x0, 0x0, 0x0, 0x0, 0x0, 0x80000000⟩,
  ⟨0x2084, [(4, 0x2000)], 0x0, 0x0, 0x0, 0x0, 0x0, 0x0, 0x0, 0x0⟩,
  ⟨0x2088, [(4, 0x2000)], 0x0, 0x0, 0x0, 0x0, 0x0, 0x0, 0x0, 0x0⟩,
  ⟨0x208C, [(4, 0x2000)], 0x0, 0x0, 0x0, 0x0, 0x0, 0x0, 0x0, 0x0⟩,
  ⟨0x2100, [(4, 0x2000)], 0x21, 0x0, 0x1BF, 0x0, 0x0, 0x0, 0x0, 0x0⟩,
  ⟨0x2104, [(4, 0x2000)], 0x0, 0xF00, 0x0, 0x0, 0x0, 0x0, 0x0, 0x80000000⟩,
  ⟨0x2108, [(4, 0x2000)], 0x80, 0x0, 0x0, 0x0, 0xFE00, 0x0, 0x0, 0x0⟩,
  ⟨0x210C, [(4, 0x2000)], 0x0, 0x0, 0x0, 0x0, 0x0, 0x0, 0xFFFFFFFF, 0x0⟩,
  ⟨0x2110, [(4, 0x2000)], 0x0, 0x0, 0x0, 0x0, 0x0, 0x0, 0xFFFFFFFF, 0x0⟩,
  ⟨0x2114, [(4, 0x2000)], 0x0, 0x0, 0x0, 0x0, 0x0, 0x0, 0xFFFFFFFF, 0x0⟩,
  ⟨0x2118, [(4, 0x2000)], 0x0, 0x0, 0x0, 0x0, 0x0, 0x0, 0xFFFFFFFF, 0x0⟩,
  ⟨0x211C, [(4, 0x2000)], 0x0, 0x0, 0x0, 0x0, 0x0, 0x0, 0xFFFFFFFF, 0x0⟩]

/-- Register tables of the lq window, part 3. -/
def rows_lq_3 : List RegRow := [
  ⟨0x2120, [(4, 0x2000)], 0x0, 0x0, 0x0, 0x0, 0x0, 0x0, 0xFFFFFFFF, 0x0⟩,
  ⟨0x2124, [(4, 0x2000)], 0x0, 0x0, 0x0, 0x0, 0x0, 0x0, 0xFFFFFFFF, 0x0⟩,
  ⟨0x2128, [(4, 0x2000)], 0x7D10, 0xFFFFFF, 0x0, 0x0, 0x0, 0x0, 0x0, 0x0⟩,
  ⟨0xA000, [], 0x0, 0x0, 0x2, 0x0, 0x0, 0x0, 0x0, 0x1⟩,
  ⟨0xA004, [], 0x10400, 0x0, 0x31FFF, 0x0, 0x0, 0x0, 0x0, 0x0⟩,
  ⟨0xA008, [], 0x3E8, 0xFFFF, 0x0, 0x0, 0x0, 0x0, 0x0, 0x0⟩,
  ⟨0xA00C, [], 0xFF0000, 0x0, 0x0, 0x0, 0x0, 0x0, 0x0, 0x0⟩,
  ⟨0xA010, [], 0x0, 0x0, 0x0, 0x0, 0x0, 0x0, 0x0, 0x0⟩,
  ⟨0xA014, [], 0x0, 0x0, 0x0, 0x0, 0xF, 0x0, 0x0, 0x0⟩,
  ⟨0xA018, [], 0xE, 0xF, 0x0, 0x0, 0x0, 0x0, 0x0, 0x0⟩,
  ⟨0xA01C, [], 0x0, 0x0, 0x0, 0x0, 0x0, 0x0, 0xFFFFFFFF, 0x0⟩]

/-- Register tables of the lq window. -/
def rows_lq : List RegRow := rows_lq_1 ++ rows_lq_2 ++ rows_lq_3

/-- Register tables of the mc window. -/
def rows_mc_1 : List RegRow := [
  ⟨0x0, [], 0x0, 0x1D, 0x0, 0x0, 0x0, 0x0, 0x0, 0xE0⟩,
  ⟨0x4, [], 0x0, 0x0, 0x0, 0x0, 0xE0, 0x0, 0x0, 0x0⟩,
  ⟨0x8, [], 0x30801, 0xF0F00, 0x0, 0x1, 0x0, 0x0, 0x0, 0x0⟩,
  ⟨0x10, [(4, 0x4)], 0x0, 0x0, 0x0, 0x1FFFFFFF, 0x0, 0x0, 0x0, 0x0⟩,
  ⟨0x20, [], 0x2111008, 0x0, 0x0, 0xFFFFFFFF, 0x0, 0x0, 0x0, 0x0⟩,
  ⟨0x24, [], 0x18604004, 0x0, 0x0, 0xFFFFFFFF, 0x0, 0x0, 0x0, 0x0⟩,
  ⟨0x28, [], 0xC801E8, 0x0, 0x0, 0xFFFFFFFF, 0x0, 0x0, 0x0, 0x0⟩,
  ⟨0x40, [], 0x0, 0xFFFF, 0x0, 0x0, 0x0, 0x0, 0x0, 0xC0000000⟩,
  ⟨0x44, [], 0x0, 0x3F3F01, 0x0, 0x0, 0x0, 0x0, 0x0, 0x0⟩,
  ⟨0x50, [], 0x0, 0x0, 0x0, 0x0, 0x0, 0x0, 0xFFFFFFFF, 0x0⟩,
  ⟨0x54, [], 0x0, 0x0, 0x0, 0x0, 0x0, 0x0, 0xFFFFFFFF, 0x0⟩,
  ⟨0x58, [], 0x0, 0x0, 0x0, 0x0, 0x0, 0x0, 0xFFFFFFFF, 0x0⟩,
  ⟨0x5C, [], 0x0, 0x0, 0x0, 0x0, 0x0, 0x0, 0xFFFFFFFF, 0x0⟩,
  ⟨0x60, [], 0x0, 0x0, 0x0, 0x0, 0x0, 0x0, 0xFFFFFFFF, 0x0⟩,
  ⟨0x64, [], 0x0, 0x0, 0x0, 0x0, 0x0, 0x0, 0xFFFFFFFF, 0x0⟩,
  ⟨0x70, [], 0x0, 0x0, 0x0, 0x0, 0x7FF, 0x0, 0x0, 0x0⟩,
  ⟨0x74, [], 0x516, 0x7FF, 0x0, 0x0, 0x0, 0x0, 0x0, 0x0⟩,
  ⟨0x78, [], 0x0, 0x0, 0x0, 0x0, 0x0, 0x0, 0x0, 0x0⟩,
  ⟨0x80, [(4, 0x10)], 0x10000000, 0xFFFF03FF, 0x0, 0x0, 0x0, 0x0, 0x0, 0x0⟩,
  ⟨0x84, [(4, 0x10)], 0x0, 0x0, 0x0, 0x0, 0x0, 0x0, 0xFFFFFFFF, 0x0⟩]

/-- Register tables of the mc window, part 2. -/
def rows_mc_2 : List RegRow := [
  ⟨0x88, [(4, 0x10)], 0x0, 0x0, 0x0, 0x0, 0x0, 0x0, 0xFFFFFFFF, 0x0⟩,
  ⟨0x100, [(16, 0x4)], 0x0, 0x0, 0x0, 0x0, 0x0, 0x0, 0x0, 0x0⟩,
  ⟨0x200, [(64, 0x4)], 0x0, 0x8003FFFF, 0x0, 0x0, 0x0, 0x0, 0x0, 0x0⟩,
  ⟨0x7000, [], 0x20040, 0x0, 0x137770, 0x0, 0x0, 0x0, 0x0, 0x1⟩,
  ⟨0x7004, [], 0xFAC688, 0x0, 0xFFFFFF, 0x0, 0x0, 0x0, 0x0, 0x0⟩,
  ⟨0x8000, [], 0x1F4, 0xFFFF, 0x0, 0x0, 0x0, 0x0, 0x0, 0xF0FF0000⟩,
  ⟨0x8004, [], 0x0, 0x0, 0x0, 0x0, 0x7C, 0x0, 0x0, 0x0⟩,
  ⟨0x8008, [], 0x40, 0xF80FFFF, 0x0, 0x0, 0x0, 0x0, 0x0, 0x80000000⟩,
  ⟨0x800C, [], 0x7F0001, 0x37F7F07, 0x0, 0x0, 0x0, 0x0, 0x0, 0x0⟩,
  ⟨0x8010, [], 0x0, 0xFFFFFF, 0x0, 0x0, 0x0, 0x0, 0x0, 0x0⟩,
  ⟨0x8014, [], 0x0, 0x0, 0x0, 0x0, 0x0, 0x0, 0x0, 0x0⟩,
  ⟨0x8018, [], 0x0, 0x0, 0x0, 0x0, 0x0, 0x0, 0x0, 0x0⟩,
  ⟨0x801C, [], 0x0, 0x0, 0x0, 0x0, 0x0, 0x0, 0x0, 0x0⟩,
  ⟨0x8020, [], 0x0, 0x0, 0x0, 0x0, 0x0, 0x0, 0xFFFFFFFF, 0x0⟩,
  ⟨0x8040, [], 0x20641018, 0x80000000, 0x0, 0x60FF1F7F, 0x0, 0x0, 0x0, 0x0⟩,
  ⟨0x8044, [], 0x10000000, 0x0, 0x0, 0xFF03FFFF, 0x0, 0x0, 0x0, 0x0⟩,
  ⟨0x8048, [], 0xFF0000, 0x0, 0x0, 0x0, 0x0, 0x0, 0x0, 0x0⟩,
  ⟨0x804C, [], 0x0, 0x0, 0x0, 0x0, 0x0, 0x0, 0xFFFFFFFF, 0x0⟩,
  ⟨0x8050, [], 0x0, 0x0, 0x0, 0x0, 0x3F, 0x0, 0x0, 0x0⟩,
  ⟨0x8054, [], 0x1E, 0x3F, 0x0, 0x0, 0x0, 0x0, 0x0, 0x0⟩]

/-- Register tables of the mc window, part 3. -/
def rows_mc_3 : List RegRow := [
  ⟨0x8100, [(74, 0x4)], 0x0, 0x0, 0x0, 0x0, 0x0, 0x0, 0x0, 0x0⟩,
  ⟨0x8300, [(72, 0x4)], 0x2020, 0x0, 0x0, 0x7F7F, 0x0, 0x0, 0x0, 0x0⟩,
  ⟨0x8500, [(72, 0x4)], 0x2020, 0x0, 0x0, 0x0, 0x0, 0x0, 0x0, 0x0⟩,
  ⟨0x8700, [(2, 0x4)], 0x20, 0x0, 0x0, 0x7007F, 0x0, 0x0, 0x0, 0x0⟩,
  ⟨0x8708, [(2, 0x4)], 0x20, 0x0, 0x0, 0x0, 0x0, 0x0, 0x0, 0x0⟩]

/-- Register tables of the mc window. -/
def rows_mc : List RegRow := rows_mc_1 ++ rows_mc_2 ++ rows_mc_3

/-- Register tables of the sector window. -/
def rows_sector_1 : List RegRow := [
  ⟨0x0, [], 0x0, 0x0, 0x0, 0x0, 0xFFFFFFFF, 0x0, 0x0, 0x0⟩,
  ⟨0x4, [], 0x0, 0x0, 0x0, 0x0, 0xFFFFFFFF, 0x0, 0x0, 0x0⟩,
  ⟨0x8, [], 0x0, 0x0, 0x0, 0x0, 0x0, 0x0, 0x0, 0x0⟩,
  ⟨0xC, [], 0x0, 0x0, 0x0, 0x0, 0x0, 0x0, 0x0, 0x0⟩,
  ⟨0x10, [], 0x0, 0x0, 0x0, 0x0, 0x0, 0x0, 0x0, 0x0⟩,
  ⟨0x14, [], 0x0, 0x0, 0x0, 0x0, 0x0, 0x0, 0x0, 0x0⟩,
  ⟨0x18, [], 0x0, 0x0, 0x0, 0x0, 0x0, 0x0, 0x0, 0x0⟩,
  ⟨0x1C, [], 0x0, 0x0, 0x0, 0x0, 0x0, 0x0, 0x0, 0x0⟩,
  ⟨0x20, [], 0x1, 0x0, 0x0, 0x0, 0x0, 0x0, 0x0, 0x0⟩,
  ⟨0x100, [], 0x0, 0x0, 0xFF0, 0x0, 0x0, 0x0, 0x0, 0x7⟩,
  ⟨0x104, [], 0x0, 0x0, 0x0, 0x0, 0x0, 0x0, 0x0, 0x0⟩,
  ⟨0x108, [], 0x0, 0x0, 0xFFFF0FFF, 0x0, 0x0, 0x0, 0x0, 0x0⟩,
  ⟨0x10C, [], 0x0, 0x0, 0x0, 0x0, 0x0, 0x0, 0x0, 0x0⟩,
  ⟨0x110, [], 0x0, 0x0, 0xFFFFFFFF, 0x0, 0x0, 0x0, 0x0, 0x0⟩,
  ⟨0x114, [], 0x0, 0x0, 0xFFFFFFFF, 0x0, 0x0, 0x0, 0x0, 0x0⟩,
  ⟨0x118, [], 0x0, 0x0, 0xFFFFFFFF, 0x0, 0x0, 0x0, 0x0, 0x0⟩,
  ⟨0x11C, [], 0x0, 0x0, 0xFFFFFFFF, 0x0, 0x0, 0x0, 0x0, 0x0⟩,
  ⟨0x120, [], 0x0, 0x3FFF, 0x0, 0x0, 0x0, 0x0, 0x0, 0x0⟩,
  ⟨0x124, [], 0x0, 0x0, 0x0, 0x0, 0x0, 0x0, 0x0, 0x0⟩,
  ⟨0x128, [], 0x0, 0x0, 0x0, 0x0, 0x0, 0x0, 0x0, 0x0⟩]

/-- Register tables of the sector window, part 2. -/
def rows_sector_2 : List RegRow := [
  ⟨0x200, [(64, 0x4)], 0x0, 0x0, 0x3FF, 0x0, 0x0, 0x0, 0x0, 0x0⟩,
  ⟨0x8000, [(640, 0x20), (8, 0x4)], 0x0, 0x0, 0x7FF, 0x0, 0x0, 0x0, 0x0, 0x0⟩,
  ⟨0x1000, [], 0x3, 0x3, 0x0, 0x0, 0x0, 0x0, 0x0, 0x0⟩,
  ⟨0x1004, [], 0x0, 0x0, 0x0, 0x0, 0x0, 0x0, 0xFFFFFFFF, 0x0⟩,
  ⟨0x1008, [], 0x0, 0x0, 0x0, 0x0, 0x0, 0x0, 0xFFFFFFFF, 0x0⟩,
  ⟨0x100C, [], 0x0, 0x0, 0x0, 0x0, 0x0, 0x0, 0x0, 0x0⟩,
  ⟨0x1100, [(256, 0x4)], 0x30000000, 0x0, 0x0, 0x0, 0xC0000000, 0x0, 0x0, 0x0⟩,
  ⟨0x1500, [(8, 0x4)], 0x0, 0x0, 0x0, 0x0, 0x0, 0x0, 0x0, 0x0⟩,
  ⟨0x2000, [], 0x0, 0x0, 0x0, 0x0, 0x0, 0x0, 0x0, 0x0⟩,
  ⟨0x2004, [], 0x0, 0x0, 0x0, 0x0, 0x0, 0x0, 0x0, 0x0⟩]

/-- Register tables of the sector window. -/
def rows_sector : List RegRow := rows_sector_1 ++ rows_sector_2

end Sys2Proof.Machine
end

