-- ==== Sys2Proof/Machine/Regs.lean ====
section
/-! DEFINITION. Regs.lean: the CSR offsets of the registers and the places of their fields, as the register tables of
spec/ give them (R11, R39). Offsets are from 0x0300_0000_0000. A name is the table's own. -/

namespace Sys2Proof


/-! Register tables of 02_logic_fabric.md. -/

def R.FAB_BUS_CONT_LO (s : Nat) : Nat := 0x3000000 + 0x10000 * s
def F.FAB_BUS_CONT_LO_LINE : Fld := ⟨0, 32⟩
def R.FAB_BUS_CONT_HI (s : Nat) : Nat := 0x3000004 + 0x10000 * s
def F.FAB_BUS_CONT_HI_LINE : Fld := ⟨0, 32⟩
def R.FAB_BUS_ACT_LO (s : Nat) : Nat := 0x3000008 + 0x10000 * s
def F.FAB_BUS_ACT_LO_OWNED : Fld := ⟨0, 32⟩
def R.FAB_BUS_ACT_HI (s : Nat) : Nat := 0x300000C + 0x10000 * s
def F.FAB_BUS_ACT_HI_OWNED : Fld := ⟨0, 32⟩
def R.FAB_BUS_SHD_LO (s : Nat) : Nat := 0x3000010 + 0x10000 * s
def F.FAB_BUS_SHD_LO_OWNED : Fld := ⟨0, 32⟩
def R.FAB_BUS_SHD_HI (s : Nat) : Nat := 0x3000014 + 0x10000 * s
def F.FAB_BUS_SHD_HI_OWNED : Fld := ⟨0, 32⟩
def R.FAB_BUS_VAL_LO (s : Nat) : Nat := 0x3000018 + 0x10000 * s
def F.FAB_BUS_VAL_LO_VALUE : Fld := ⟨0, 32⟩
def R.FAB_BUS_VAL_HI (s : Nat) : Nat := 0x300001C + 0x10000 * s
def F.FAB_BUS_VAL_HI_VALUE : Fld := ⟨0, 32⟩
def R.FAB_GSR_STAT (s : Nat) : Nat := 0x3000020 + 0x10000 * s
def F.FAB_GSR_STAT_GSR_ACTIVE : Fld := ⟨0, 1⟩
def R.FAB_PRB_CTRL (s : Nat) : Nat := 0x3000100 + 0x10000 * s
def F.FAB_PRB_CTRL_CLKSEL : Fld := ⟨8, 4⟩
def F.FAB_PRB_CTRL_PIN_RATIO : Fld := ⟨6, 2⟩
def F.FAB_PRB_CTRL_PINS_EN : Fld := ⟨5, 1⟩
def F.FAB_PRB_CTRL_EN : Fld := ⟨4, 1⟩
def F.FAB_PRB_CTRL_STOP : Fld := ⟨2, 1⟩
def F.FAB_PRB_CTRL_ARM : Fld := ⟨1, 1⟩
def F.FAB_PRB_CTRL_APPLY : Fld := ⟨0, 1⟩
def R.FAB_PRB_STAT (s : Nat) : Nat := 0x3000104 + 0x10000 * s
def F.FAB_PRB_STAT_APPLY_SEQ : Fld := ⟨8, 8⟩
def F.FAB_PRB_STAT_WRAPPED : Fld := ⟨6, 1⟩
def F.FAB_PRB_STAT_BAD_TARGET : Fld := ⟨5, 1⟩
def F.FAB_PRB_STAT_PINS_DENIED : Fld := ⟨4, 1⟩
def F.FAB_PRB_STAT_PINS_ACTIVE : Fld := ⟨3, 1⟩
def F.FAB_PRB_STAT_STATE : Fld := ⟨0, 3⟩
def R.FAB_PRB_CAP (s : Nat) : Nat := 0x3000108 + 0x10000 * s
def F.FAB_PRB_CAP_POST : Fld := ⟨16, 16⟩
def F.FAB_PRB_CAP_COUNT : Fld := ⟨8, 4⟩
def F.FAB_PRB_CAP_FIRST : Fld := ⟨0, 8⟩
def R.FAB_PRB_TRIGPTR (s : Nat) : Nat := 0x300010C + 0x10000 * s
def F.FAB_PRB_TRIGPTR_INDEX : Fld := ⟨0, 14⟩
def R.FAB_PRB_MASK_LO (s : Nat) : Nat := 0x3000110 + 0x10000 * s
def F.FAB_PRB_MASK_LO_BITS : Fld := ⟨0, 32⟩
def R.FAB_PRB_MASK_HI (s : Nat) : Nat := 0x3000114 + 0x10000 * s
def F.FAB_PRB_MASK_HI_BITS : Fld := ⟨0, 32⟩
def R.FAB_PRB_VAL_LO (s : Nat) : Nat := 0x3000118 + 0x10000 * s
def F.FAB_PRB_VAL_LO_BITS : Fld := ⟨0, 32⟩
def R.FAB_PRB_VAL_HI (s : Nat) : Nat := 0x300011C + 0x10000 * s
def F.FAB_PRB_VAL_HI_BITS : Fld := ⟨0, 32⟩
def R.FAB_PRB_RDADDR (s : Nat) : Nat := 0x3000120 + 0x10000 * s
def F.FAB_PRB_RDADDR_INDEX : Fld := ⟨0, 14⟩
def R.FAB_PRB_RDDATA_LO (s : Nat) : Nat := 0x3000124 + 0x10000 * s
def F.FAB_PRB_RDDATA_LO_DATA : Fld := ⟨0, 32⟩
def R.FAB_PRB_RDDATA_HI (s : Nat) : Nat := 0x3000128 + 0x10000 * s
def F.FAB_PRB_RDDATA_HI_DATA : Fld := ⟨0, 32⟩
def R.FAB_PRB_BUS (s k : Nat) : Nat := 0x3000200 + 0x10000 * s + 0x4 * k
def F.FAB_PRB_BUS_TILE : Fld := ⟨0, 10⟩
def R.FAB_PRB_TILE (s t p : Nat) : Nat := 0x3008000 + 0x10000 * s + 0x20 * t + 0x4 * p
def F.FAB_PRB_TILE_SIG : Fld := ⟨0, 11⟩

/-! Register tables of 03_block_memories_and_queues.md. -/

def R.BM_ECC_CTRL (s : Nat) : Nat := 0x3001000 + 0x10000 * s
def F.BM_ECC_CTRL_DE_LOG : Fld := ⟨1, 1⟩
def F.BM_ECC_CTRL_CE_LOG : Fld := ⟨0, 1⟩
def R.BM_CE_CNT (s : Nat) : Nat := 0x3001004 + 0x10000 * s
def F.BM_CE_CNT_COUNT : Fld := ⟨0, 32⟩
def R.BM_DE_CNT (s : Nat) : Nat := 0x3001008 + 0x10000 * s
def F.BM_DE_CNT_COUNT : Fld := ⟨0, 32⟩
def R.BM_LAST_ERR (s : Nat) : Nat := 0x300100C + 0x10000 * s
def F.BM_LAST_ERR_TYPE : Fld := ⟨30, 2⟩
def F.BM_LAST_ERR_WORD : Fld := ⟨16, 10⟩
def F.BM_LAST_ERR_BLOCK : Fld := ⟨0, 8⟩
def R.BM_QSTAT (s b : Nat) : Nat := 0x3001100 + 0x10000 * s + 0x4 * b
def F.BM_QSTAT_OVF : Fld := ⟨31, 1⟩
def F.BM_QSTAT_UDF : Fld := ⟨30, 1⟩
def F.BM_QSTAT_FULL : Fld := ⟨29, 1⟩
def F.BM_QSTAT_EMPTY : Fld := ⟨28, 1⟩
def F.BM_QSTAT_QMODE : Fld := ⟨26, 2⟩
def F.BM_QSTAT_LEVEL : Fld := ⟨0, 19⟩
def R.BM_QERR_SUM (s j : Nat) : Nat := 0x3001500 + 0x10000 * s + 0x4 * j
def F.BM_QERR_SUM_BLOCKS : Fld := ⟨0, 32⟩

/-! Register tables of 05_clocks_and_islands.md. -/

def R.CLK_STAT : Nat := 0x10000
def F.CLK_STAT_LOCKED_WR : Fld := ⟨6, 1⟩
def F.CLK_STAT_HOLDOVER_TIME : Fld := ⟨5, 1⟩
def F.CLK_STAT_HOLDOVER_SYS : Fld := ⟨4, 1⟩
def F.CLK_STAT_TREF_OK : Fld := ⟨3, 1⟩
def F.CLK_STAT_TPLL_LOCK : Fld := ⟨2, 1⟩
def F.CLK_STAT_SYSREF_OK : Fld := ⟨1, 1⟩
def F.CLK_STAT_SYSPLL_LOCK : Fld := ⟨0, 1⟩
def R.CLK_LOSS : Nat := 0x10004
def F.CLK_LOSS_MCPLL : Fld := ⟨6, 1⟩
def F.CLK_LOSS_RTR : Fld := ⟨5, 1⟩
def F.CLK_LOSS_FPLL : Fld := ⟨4, 1⟩
def F.CLK_LOSS_TPLL : Fld := ⟨3, 1⟩
def F.CLK_LOSS_TREF : Fld := ⟨2, 1⟩
def F.CLK_LOSS_SYSPLL : Fld := ⟨1, 1⟩
def F.CLK_LOSS_SYSREF : Fld := ⟨0, 1⟩
def R.CLK_FPLL_LOCK : Nat := 0x10008
def F.CLK_FPLL_LOCK_LOCK : Fld := ⟨0, 32⟩
def R.CLK_FPLL_LOST : Nat := 0x1000C
def F.CLK_FPLL_LOST_LOST : Fld := ⟨0, 32⟩
def R.CLK_RTR_LOST_LO : Nat := 0x10010
def F.CLK_RTR_LOST_LO_LOST : Fld := ⟨0, 32⟩
def R.CLK_RTR_LOST_HI : Nat := 0x10014
def F.CLK_RTR_LOST_HI_LOST : Fld := ⟨0, 32⟩
def R.CLK_MC_LOST : Nat := 0x10018
def F.CLK_MC_LOST_LOCK : Fld := ⟨8, 8⟩
def F.CLK_MC_LOST_LOST : Fld := ⟨0, 8⟩
def R.CLK_TREF_CTRL : Nat := 0x10020
def F.CLK_TREF_CTRL_TPLL_EN : Fld := ⟨31, 1⟩
def F.CLK_TREF_CTRL_FREQ : Fld := ⟨0, 3⟩
def R.CLK_NOC_CTRL : Nat := 0x10024
def F.CLK_NOC_CTRL_FREQ : Fld := ⟨0, 2⟩
def R.CLK_MEAS_CTRL : Nat := 0x10030
def F.CLK_MEAS_CTRL_START : Fld := ⟨31, 1⟩
def F.CLK_MEAS_CTRL_BUSY : Fld := ⟨30, 1⟩
def F.CLK_MEAS_CTRL_CLKID : Fld := ⟨0, 8⟩
def R.CLK_MEAS_RES : Nat := 0x10034
def F.CLK_MEAS_RES_COUNT : Fld := ⟨0, 16⟩
def R.CLK_MCPLL (c : Nat) : Nat := 0x10040 + 0x4 * c
def F.CLK_MCPLL_EN : Fld := ⟨31, 1⟩
def F.CLK_MCPLL_MULT : Fld := ⟨0, 6⟩
def R.CLK_FPLL_CFG (s : Nat) : Nat := 0x10100 + 0x4 * s
def F.CLK_FPLL_CFG_USED : Fld := ⟨17, 1⟩
def F.CLK_FPLL_CFG_ON_UNLOCK : Fld := ⟨16, 1⟩
def F.CLK_FPLL_CFG_N : Fld := ⟨9, 7⟩
def F.CLK_FPLL_CFG_M : Fld := ⟨0, 9⟩
def R.CLK_LEAF (s : Nat) : Nat := 0x10200 + 0x4 * s
def F.CLK_LEAF_CONF : Fld := ⟨16, 16⟩
def F.CLK_LEAF_RUN : Fld := ⟨0, 16⟩

/-! Register tables of 06_configuration_loading.md. -/

def R.CFG_BOOT_STAT : Nat := 0x20000
def F.CFG_BOOT_STAT_USER_MODE : Fld := ⟨31, 1⟩
def F.CFG_BOOT_STAT_CFG_DONE_IN : Fld := ⟨30, 1⟩
def F.CFG_BOOT_STAT_CFG_ERR : Fld := ⟨29, 1⟩
def F.CFG_BOOT_STAT_PHASE : Fld := ⟨20, 4⟩
def F.CFG_BOOT_STAT_STEP : Fld := ⟨16, 4⟩
def F.CFG_BOOT_STAT_IMAGE : Fld := ⟨10, 2⟩
def F.CFG_BOOT_STAT_FALLBACK : Fld := ⟨9, 1⟩
def F.CFG_BOOT_STAT_QSPI : Fld := ⟨8, 1⟩
def F.CFG_BOOT_STAT_FLASH1 : Fld := ⟨7, 1⟩
def F.CFG_BOOT_STAT_MODE : Fld := ⟨0, 3⟩
def R.CFG_BOOT_ERR : Nat := 0x20004
def F.CFG_BOOT_ERR_ALT_CODE : Fld := ⟨24, 8⟩
def F.CFG_BOOT_ERR_PRI_CODE : Fld := ⟨16, 8⟩
def F.CFG_BOOT_ERR_BLOCK : Fld := ⟨0, 16⟩
def R.CFG_DIR_SEQ : Nat := 0x20008
def F.CFG_DIR_SEQ_SEQ : Fld := ⟨0, 32⟩
def R.CFG_DIR_SRC : Nat := 0x2000C
def F.CFG_DIR_SRC_USED : Fld := ⟨4, 2⟩
def F.CFG_DIR_SRC_VALID : Fld := ⟨0, 4⟩
def R.CFG_DESIGN_ID_LO : Nat := 0x20010
def F.CFG_DESIGN_ID_LO_ID : Fld := ⟨0, 32⟩
def R.CFG_DESIGN_ID_HI : Nat := 0x20014
def F.CFG_DESIGN_ID_HI_ID : Fld := ⟨0, 32⟩
def R.CFG_DESIGN_VER : Nat := 0x20018
def F.CFG_DESIGN_VER_VERSION : Fld := ⟨0, 32⟩
def R.CFG_RESTART : Nat := 0x20020
def F.CFG_RESTART_KEY : Fld := ⟨0, 16⟩
def R.CFG_LOAD_TIME : Nat := 0x20024
def F.CFG_LOAD_TIME_MICROS : Fld := ⟨0, 32⟩

/-! Register tables of 07_twin_planes_and_firing.md. -/

def R.CFG_FIRE : Nat := 0x20040
def F.CFG_FIRE_GO : Fld := ⟨31, 1⟩
def F.CFG_FIRE_USE_MASK : Fld := ⟨8, 1⟩
def F.CFG_FIRE_REGION : Fld := ⟨0, 5⟩
def R.CFG_FIRE_MASK : Nat := 0x20044
def F.CFG_FIRE_MASK_REGIONS : Fld := ⟨0, 32⟩
def R.CFG_ARM : Nat := 0x20048
def F.CFG_ARM_ARM : Fld := ⟨31, 1⟩
def F.CFG_ARM_DISARM : Fld := ⟨30, 1⟩
def F.CFG_ARM_REGION : Fld := ⟨0, 5⟩
def R.CFG_HOLD : Nat := 0x2004C
def F.CFG_HOLD_RELEASE : Fld := ⟨31, 1⟩
def F.CFG_HOLD_ENTER : Fld := ⟨30, 1⟩
def F.CFG_HOLD_REGION : Fld := ⟨0, 5⟩
def R.CFG_FIRE_LAST : Nat := 0x20050
def F.CFG_FIRE_LAST_SEQ : Fld := ⟨24, 8⟩
def F.CFG_FIRE_LAST_SRC : Fld := ⟨0, 4⟩
def R.CFG_FIRE_LAST_MASK : Nat := 0x20054
def F.CFG_FIRE_LAST_MASK_REGIONS : Fld := ⟨0, 32⟩
def R.CFG_FIRE_TIME_LO : Nat := 0x20058
def F.CFG_FIRE_TIME_LO_NS : Fld := ⟨0, 32⟩
def R.CFG_FIRE_TIME_HI : Nat := 0x2005C
def F.CFG_FIRE_TIME_HI_NS : Fld := ⟨0, 32⟩
def R.CFG_STG_ADDR_LO : Nat := 0x20060
def F.CFG_STG_ADDR_LO_ADDR : Fld := ⟨0, 32⟩
def R.CFG_STG_ADDR_HI : Nat := 0x20064
def F.CFG_STG_ADDR_HI_ADDR : Fld := ⟨0, 32⟩
def R.CFG_STG_LEN : Nat := 0x20068
def F.CFG_STG_LEN_BYTES : Fld := ⟨0, 32⟩
def R.CFG_STG_CTRL : Nat := 0x2006C
def F.CFG_STG_CTRL_START : Fld := ⟨31, 1⟩
def F.CFG_STG_CTRL_BUSY : Fld := ⟨30, 1⟩
def F.CFG_STG_CTRL_CODE : Fld := ⟨16, 8⟩
def F.CFG_STG_CTRL_REGION : Fld := ⟨0, 5⟩
def R.CFG_HLD_ADDR_LO : Nat := 0x20070
def F.CFG_HLD_ADDR_LO_ADDR : Fld := ⟨0, 32⟩
def R.CFG_HLD_ADDR_HI : Nat := 0x20074
def F.CFG_HLD_ADDR_HI_ADDR : Fld := ⟨0, 32⟩
def R.CFG_HLD_CTRL : Nat := 0x20078
def F.CFG_HLD_CTRL_START : Fld := ⟨31, 1⟩
def F.CFG_HLD_CTRL_BUSY : Fld := ⟨30, 1⟩
def F.CFG_HLD_CTRL_CODE : Fld := ⟨16, 8⟩
def F.CFG_HLD_CTRL_REGION : Fld := ⟨0, 5⟩
def R.CFG_EP_ALLOW (j : Nat) : Nat := 0x20080 + 0x4 * j
def F.CFG_EP_ALLOW_EP : Fld := ⟨0, 32⟩
def R.CFG_RGN_DESC (r : Nat) : Nat := 0x20100 + 0x20 * r
def F.CFG_RGN_DESC_TYPE : Fld := ⟨30, 2⟩
def F.CFG_RGN_DESC_SECTOR : Fld := ⟨25, 5⟩
def F.CFG_RGN_DESC_TCOL_HI : Fld := ⟨20, 5⟩
def F.CFG_RGN_DESC_TROW_HI : Fld := ⟨15, 5⟩
def F.CFG_RGN_DESC_TCOL_LO : Fld := ⟨10, 5⟩
def F.CFG_RGN_DESC_TROW_LO : Fld := ⟨5, 5⟩
def R.CFG_RGN_SMASK (r : Nat) : Nat := 0x20104 + 0x20 * r
def F.CFG_RGN_SMASK_SECTORS : Fld := ⟨0, 32⟩
def R.CFG_RGN_CTRL (r : Nat) : Nat := 0x20108 + 0x20 * r
def F.CFG_RGN_CTRL_SKM : Fld := ⟨16, 4⟩
def F.CFG_RGN_CTRL_CONE : Fld := ⟨8, 6⟩
def F.CFG_RGN_CTRL_SKM_EN : Fld := ⟨6, 1⟩
def F.CFG_RGN_CTRL_CONE_EN : Fld := ⟨5, 1⟩
def F.CFG_RGN_CTRL_STROBE_EN : Fld := ⟨4, 1⟩
def F.CFG_RGN_CTRL_POST_HOLD : Fld := ⟨2, 1⟩
def F.CFG_RGN_CTRL_AUTO_REARM : Fld := ⟨1, 1⟩
def F.CFG_RGN_CTRL_MODE : Fld := ⟨0, 1⟩
def R.CFG_RGN_STAT (r : Nat) : Nat := 0x2010C + 0x20 * r
def F.CFG_RGN_STAT_REFUSE : Fld := ⟨24, 8⟩
def F.CFG_RGN_STAT_LOAD_CODE : Fld := ⟨16, 8⟩
def F.CFG_RGN_STAT_CTRL_REFUSED : Fld := ⟨7, 1⟩
def F.CFG_RGN_STAT_HOLD_LOAD : Fld := ⟨6, 1⟩
def F.CFG_RGN_STAT_HELD : Fld := ⟨5, 1⟩
def F.CFG_RGN_STAT_SHADOW : Fld := ⟨0, 3⟩
def R.CFG_RGN_BADFAR (r : Nat) : Nat := 0x20110 + 0x20 * r
def F.CFG_RGN_BADFAR_FAR : Fld := ⟨0, 32⟩
def R.CFG_RGN_GEN (r : Nat) : Nat := 0x20114 + 0x20 * r
def F.CFG_RGN_GEN_ACT_GEN : Fld := ⟨4, 4⟩
def F.CFG_RGN_GEN_SHD_GEN : Fld := ⟨0, 4⟩
def R.CFG_RGN_COUNT (r : Nat) : Nat := 0x20118 + 0x20 * r
def F.CFG_RGN_COUNT_FIRINGS : Fld := ⟨0, 32⟩
def R.CFG_BIND_QUAD_LO (r : Nat) : Nat := 0x20500 + 0x20 * r
def F.CFG_BIND_QUAD_LO_BLOCKS : Fld := ⟨0, 32⟩
def R.CFG_BIND_QUAD_HI (r : Nat) : Nat := 0x20504 + 0x20 * r
def F.CFG_BIND_QUAD_HI_BLOCKS : Fld := ⟨0, 32⟩
def R.CFG_BIND_GROUP (r : Nat) : Nat := 0x20508 + 0x20 * r
def F.CFG_BIND_GROUP_BLOCKS : Fld := ⟨0, 32⟩
def R.CFG_BIND_PRB (r : Nat) : Nat := 0x2050C + 0x20 * r
def F.CFG_BIND_PRB_BLOCKS : Fld := ⟨0, 32⟩
def R.CFG_BIND_NI (r j : Nat) : Nat := 0x20A00 + 0x20 * r + 0x4 * j
def F.CFG_BIND_NI_NI : Fld := ⟨0, 32⟩
def R.FAB_ISO_STAT (s : Nat) : Nat := 0x3002000 + 0x10000 * s
def F.FAB_ISO_STAT_HELD : Fld := ⟨0, 32⟩
def R.FAB_PLANE_FIRES (s : Nat) : Nat := 0x3002004 + 0x10000 * s
def F.FAB_PLANE_FIRES_COUNT : Fld := ⟨0, 16⟩

/-! Register tables of 08_upset_scrubbing.md. -/

def R.SCR_CTRL : Nat := 0x30000
def F.SCR_CTRL_GAP : Fld := ⟨8, 8⟩
def F.SCR_CTRL_RF_EN : Fld := ⟨2, 1⟩
def F.SCR_CTRL_SHD_EN : Fld := ⟨1, 1⟩
def F.SCR_CTRL_EN : Fld := ⟨0, 1⟩
def R.SCR_STAT : Nat := 0x30004
def F.SCR_STAT_BUSY : Fld := ⟨31, 1⟩
def F.SCR_STAT_RF_BUSY : Fld := ⟨30, 1⟩
def F.SCR_STAT_RF_QUEUE : Fld := ⟨24, 6⟩
def F.SCR_STAT_LOCKED_WR : Fld := ⟨16, 1⟩
def F.SCR_STAT_PASS_CNT : Fld := ⟨0, 16⟩
def R.SCR_PASS_TIME : Nat := 0x30008
def F.SCR_PASS_TIME_NS : Fld := ⟨0, 32⟩
def R.SCR_CE_ACT : Nat := 0x3000C
def F.SCR_CE_ACT_COUNT : Fld := ⟨0, 32⟩
def R.SCR_CE_SHD : Nat := 0x30010
def F.SCR_CE_SHD_COUNT : Fld := ⟨0, 32⟩
def R.SCR_UE_ACT : Nat := 0x30014
def F.SCR_UE_ACT_COUNT : Fld := ⟨0, 32⟩
def R.SCR_UE_SHD : Nat := 0x30018
def F.SCR_UE_SHD_COUNT : Fld := ⟨0, 32⟩
def R.SCR_RF_OK : Nat := 0x3001C
def F.SCR_RF_OK_COUNT : Fld := ⟨0, 32⟩
def R.SCR_RF_FAIL : Nat := 0x30020
def F.SCR_RF_FAIL_COUNT : Fld := ⟨0, 32⟩
def R.SCR_SELF_CNT : Nat := 0x30024
def F.SCR_SELF_CNT_COUNT : Fld := ⟨0, 32⟩
def R.SCR_MAP_MISS : Nat := 0x30028
def F.SCR_MAP_MISS_COUNT : Fld := ⟨0, 32⟩
def R.SCR_LAST_FAR : Nat := 0x30030
def F.SCR_LAST_FAR_FAR : Fld := ⟨0, 32⟩
def R.SCR_LAST_INFO : Nat := 0x30034
def F.SCR_LAST_INFO_FINDING : Fld := ⟨28, 4⟩
def F.SCR_LAST_INFO_ESSENTIAL : Fld := ⟨27, 1⟩
def F.SCR_LAST_INFO_STATIC : Fld := ⟨21, 1⟩
def F.SCR_LAST_INFO_REGION : Fld := ⟨16, 5⟩
def F.SCR_LAST_INFO_WORD : Fld := ⟨0, 5⟩
def R.SCR_RGN_FLAG : Nat := 0x30038
def F.SCR_RGN_FLAG_REGIONS : Fld := ⟨0, 32⟩
def R.SCR_FLAG : Nat := 0x3003C
def F.SCR_FLAG_BASE_MAP : Fld := ⟨4, 2⟩
def F.SCR_FLAG_STATIC : Fld := ⟨0, 1⟩
def R.SCR_INJ_FAR : Nat := 0x30040
def F.SCR_INJ_FAR_FAR : Fld := ⟨0, 32⟩
def R.SCR_INJ_CTRL : Nat := 0x30044
def F.SCR_INJ_CTRL_GO : Fld := ⟨31, 1⟩
def F.SCR_INJ_CTRL_VOTER : Fld := ⟨30, 1⟩
def F.SCR_INJ_CTRL_DONE : Fld := ⟨29, 1⟩
def F.SCR_INJ_CTRL_DETECTED : Fld := ⟨28, 1⟩
def F.SCR_INJ_CTRL_INJ_ERR : Fld := ⟨27, 1⟩
def F.SCR_INJ_CTRL_PLANE : Fld := ⟨26, 1⟩
def F.SCR_INJ_CTRL_TARGET : Fld := ⟨25, 1⟩
def F.SCR_INJ_CTRL_DOUBLE : Fld := ⟨24, 1⟩
def F.SCR_INJ_CTRL_WORD : Fld := ⟨16, 5⟩
def F.SCR_INJ_CTRL_BIT1 : Fld := ⟨8, 7⟩
def F.SCR_INJ_CTRL_BIT0 : Fld := ⟨0, 7⟩
def R.SCR_RGN_MAP (r : Nat) : Nat := 0x30100 + 0x4 * r
def F.SCR_RGN_MAP_SHD_MAP : Fld := ⟨4, 2⟩
def F.SCR_RGN_MAP_ACT_MAP : Fld := ⟨0, 2⟩

/-! Register tables of 09_network_on_chip.md. -/

def R.NOC_CTRL (n : Nat) : Nat := 0x100000 + 0x10000 * n
def F.NOC_CTRL_APPLY : Fld := ⟨0, 1⟩
def R.NOC_PORT_EN (n : Nat) : Nat := 0x100004 + 0x10000 * n
def F.NOC_PORT_EN_EN : Fld := ⟨0, 14⟩
def R.NOC_STAT (n : Nat) : Nat := 0x100008 + 0x10000 * n
def F.NOC_STAT_RCFG_BUSY : Fld := ⟨31, 1⟩
def F.NOC_STAT_UP : Fld := ⟨0, 14⟩
def R.NOC_VN_WT (n : Nat) : Nat := 0x10000C + 0x10000 * n
def F.NOC_VN_WT_VN3 : Fld := ⟨12, 4⟩
def F.NOC_VN_WT_VN2 : Fld := ⟨8, 4⟩
def F.NOC_VN_WT_VN1 : Fld := ⟨4, 4⟩
def F.NOC_VN_WT_VN0 : Fld := ⟨0, 4⟩
def R.NOC_FENCE (n : Nat) : Nat := 0x100010 + 0x10000 * n
def F.NOC_FENCE_STATE : Fld := ⟨0, 2⟩
def R.NOC_CE_CNT (n : Nat) : Nat := 0x100014 + 0x10000 * n
def F.NOC_CE_CNT_COUNT : Fld := ⟨0, 32⟩
def R.NOC_UNDELIV_CNT (n : Nat) : Nat := 0x100018 + 0x10000 * n
def F.NOC_UNDELIV_CNT_COUNT : Fld := ⟨0, 32⟩
def R.NOC_DROP_CNT (n : Nat) : Nat := 0x10001C + 0x10000 * n
def F.NOC_DROP_CNT_COUNT : Fld := ⟨0, 32⟩
def R.NOC_FENCED_CNT (n : Nat) : Nat := 0x100020 + 0x10000 * n
def F.NOC_FENCED_CNT_COUNT : Fld := ⟨0, 32⟩
def R.NOC_FLITS (n p : Nat) : Nat := 0x100100 + 0x10000 * n + 0x4 * p
def F.NOC_FLITS_COUNT : Fld := ⟨0, 32⟩
def R.NI_CTRL (e : Nat) : Nat := 0x500000 + 0x1000 * e
def F.NI_CTRL_MCPORT : Fld := ⟨4, 2⟩
def F.NI_CTRL_EN : Fld := ⟨1, 1⟩
def F.NI_CTRL_APPLY : Fld := ⟨0, 1⟩
def R.NI_TIMEOUT (e : Nat) : Nat := 0x500004 + 0x1000 * e
def F.NI_TIMEOUT_TGT : Fld := ⟨16, 16⟩
def F.NI_TIMEOUT_REQ : Fld := ⟨0, 16⟩
def R.NI_STAT (e : Nat) : Nat := 0x500008 + 0x1000 * e
def F.NI_STAT_ROUTE_REJ : Fld := ⟨31, 1⟩
def F.NI_STAT_USER_PORT : Fld := ⟨30, 1⟩
def F.NI_STAT_LOCKED_WR : Fld := ⟨29, 1⟩
def F.NI_STAT_OUTSTANDING : Fld := ⟨16, 9⟩
def F.NI_STAT_POOL_FREE : Fld := ⟨0, 11⟩
def R.NI_DECERR_CNT (e : Nat) : Nat := 0x50000C + 0x1000 * e
def F.NI_DECERR_CNT_COUNT : Fld := ⟨0, 32⟩
def R.NI_TO_CNT (e : Nat) : Nat := 0x500010 + 0x1000 * e
def F.NI_TO_CNT_COUNT : Fld := ⟨0, 32⟩
def R.NI_LATE_CNT (e : Nat) : Nat := 0x500014 + 0x1000 * e
def F.NI_LATE_CNT_COUNT : Fld := ⟨0, 32⟩
def R.NI_DROP_CNT (e : Nat) : Nat := 0x500018 + 0x1000 * e
def F.NI_DROP_CNT_COUNT : Fld := ⟨0, 32⟩
def R.NI_RT_LO (e d : Nat) : Nat := 0x500800 + 0x1000 * e + 0x8 * d
def F.NI_RT_LO_ROUTE : Fld := ⟨0, 32⟩
def R.NI_RT_HI (e d : Nat) : Nat := 0x500804 + 0x1000 * e + 0x8 * d
def F.NI_RT_HI_ROUTE : Fld := ⟨0, 16⟩

/-! Register tables of 10_lanes_physical.md. -/

def R.LQ_CTRL (q : Nat) : Nat := 0x1000000 + 0x10000 * q
def F.LQ_CTRL_LC_EN : Fld := ⟨5, 1⟩
def F.LQ_CTRL_EN : Fld := ⟨1, 1⟩
def F.LQ_CTRL_APPLY : Fld := ⟨0, 1⟩
def R.LQ_LCPLL (q : Nat) : Nat := 0x1000004 + 0x10000 * q
def F.LQ_LCPLL_REFDIV : Fld := ⟨9, 2⟩
def F.LQ_LCPLL_MULT : Fld := ⟨0, 9⟩
def R.LQ_LCFRAC (q : Nat) : Nat := 0x1000008 + 0x10000 * q
def F.LQ_LCFRAC_FRAC : Fld := ⟨0, 24⟩
def R.LQ_STAT (q : Nat) : Nat := 0x100000C + 0x10000 * q
def F.LQ_STAT_LOCKED_WR : Fld := ⟨4, 1⟩
def F.LQ_STAT_APPLY_PEND : Fld := ⟨3, 1⟩
def F.LQ_STAT_REF1_OK : Fld := ⟨2, 1⟩
def F.LQ_STAT_REF0_OK : Fld := ⟨1, 1⟩
def F.LQ_STAT_LC_LOCK : Fld := ⟨0, 1⟩
def R.LQ_INT_STAT (q : Nat) : Nat := 0x1000010 + 0x10000 * q
def F.LQ_INT_STAT_EVENTS : Fld := ⟨0, 4⟩
def R.LQ_INT_EN (q : Nat) : Nat := 0x1000014 + 0x10000 * q
def F.LQ_INT_EN_EVENTS : Fld := ⟨0, 4⟩
def R.LQ_RCLK (q : Nat) : Nat := 0x1000018 + 0x10000 * q
def F.LQ_RCLK_EN : Fld := ⟨31, 1⟩
def F.LQ_RCLK_LANE : Fld := ⟨16, 2⟩
def F.LQ_RCLK_DIV : Fld := ⟨0, 10⟩
def R.LQ_CFG (q : Nat) : Nat := 0x100001C + 0x10000 * q
def F.LQ_CFG_REFSEL : Fld := ⟨0, 1⟩
def R.LN_CTRL (n : Nat) : Nat := 0x1002000 + 0x10000 * (n / 4) + 0x2000 * (n % 4)
def F.LN_CTRL_PMA_RST : Fld := ⟨4, 1⟩
def F.LN_CTRL_RX_POL : Fld := ⟨3, 1⟩
def F.LN_CTRL_TX_POL : Fld := ⟨2, 1⟩
def F.LN_CTRL_TX_IDLE : Fld := ⟨1, 1⟩
def F.LN_CTRL_EN : Fld := ⟨0, 1⟩
def R.LN_RATE (n : Nat) : Nat := 0x1002004 + 0x10000 * (n / 4) + 0x2000 * (n % 4)
def F.LN_RATE_RX_PRECODE : Fld := ⟨6, 1⟩
def F.LN_RATE_TX_PRECODE : Fld := ⟨5, 1⟩
def F.LN_RATE_DIV : Fld := ⟨2, 3⟩
def F.LN_RATE_PLLSEL : Fld := ⟨1, 1⟩
def F.LN_RATE_MOD : Fld := ⟨0, 1⟩
def R.LN_RPLL (n : Nat) : Nat := 0x1002008 + 0x10000 * (n / 4) + 0x2000 * (n % 4)
def F.LN_RPLL_REFSEL : Fld := ⟨12, 1⟩
def F.LN_RPLL_REFDIV : Fld := ⟨9, 2⟩
def F.LN_RPLL_MULT : Fld := ⟨0, 9⟩
def R.LN_RFRAC (n : Nat) : Nat := 0x100200C + 0x10000 * (n / 4) + 0x2000 * (n % 4)
def F.LN_RFRAC_FRAC : Fld := ⟨0, 24⟩
def R.LN_TX_FFE (n : Nat) : Nat := 0x1002010 + 0x10000 * (n / 4) + 0x2000 * (n % 4)
def F.LN_TX_FFE_POST2 : Fld := ⟨22, 4⟩
def F.LN_TX_FFE_POST1 : Fld := ⟨16, 6⟩
def F.LN_TX_FFE_MAIN : Fld := ⟨10, 6⟩
def F.LN_TX_FFE_PRE1 : Fld := ⟨4, 6⟩
def F.LN_TX_FFE_PRE2 : Fld := ⟨0, 4⟩
def R.LN_RX_EQ (n : Nat) : Nat := 0x1002014 + 0x10000 * (n / 4) + 0x2000 * (n % 4)
def F.LN_RX_EQ_CONT : Fld := ⟨8, 1⟩
def F.LN_RX_EQ_DFE_AD : Fld := ⟨7, 1⟩
def F.LN_RX_EQ_DFE_EN : Fld := ⟨6, 1⟩
def F.LN_RX_EQ_CTLE_AD : Fld := ⟨5, 1⟩
def F.LN_RX_EQ_CTLE : Fld := ⟨0, 5⟩
def R.LN_RX_EQ_STAT (n : Nat) : Nat := 0x1002018 + 0x10000 * (n / 4) + 0x2000 * (n % 4)
def F.LN_RX_EQ_STAT_RETRY : Fld := ⟨16, 8⟩
def F.LN_RX_EQ_STAT_CTLE : Fld := ⟨0, 5⟩
def R.LN_CFG (n : Nat) : Nat := 0x100201C + 0x10000 * (n / 4) + 0x2000 * (n % 4)
def F.LN_CFG_LOOPBACK : Fld := ⟨0, 2⟩
def R.LN_DFE (n k : Nat) : Nat := 0x1002020 + 0x10000 * (n / 4) + 0x2000 * (n % 4) + 0x4 * k
def F.LN_DFE_TAP : Fld := ⟨0, 8⟩
def R.LN_LOS (n : Nat) : Nat := 0x1002050 + 0x10000 * (n / 4) + 0x2000 * (n % 4)
def F.LN_LOS_DLY : Fld := ⟨4, 2⟩
def F.LN_LOS_TH : Fld := ⟨0, 4⟩
def R.LN_STAT (n : Nat) : Nat := 0x1002054 + 0x10000 * (n / 4) + 0x2000 * (n % 4)
def F.LN_STAT_LOCKED_WR : Fld := ⟨7, 1⟩
def F.LN_STAT_ELEC_IDLE : Fld := ⟨6, 1⟩
def F.LN_STAT_CHANGING : Fld := ⟨5, 1⟩
def F.LN_STAT_APPLY_PEND : Fld := ⟨4, 1⟩
def F.LN_STAT_RPLL_LOCK : Fld := ⟨3, 1⟩
def F.LN_STAT_RX_READY : Fld := ⟨2, 1⟩
def F.LN_STAT_LOL : Fld := ⟨1, 1⟩
def F.LN_STAT_LOS : Fld := ⟨0, 1⟩
def R.LN_INT_STAT (n : Nat) : Nat := 0x1002058 + 0x10000 * (n / 4) + 0x2000 * (n % 4)
def F.LN_INT_STAT_EVENTS : Fld := ⟨0, 10⟩
def R.LN_INT_EN (n : Nat) : Nat := 0x100205C + 0x10000 * (n / 4) + 0x2000 * (n % 4)
def F.LN_INT_EN_EVENTS : Fld := ⟨0, 10⟩
def R.LN_PRBS_TX (n : Nat) : Nat := 0x1002060 + 0x10000 * (n / 4) + 0x2000 * (n % 4)
def F.LN_PRBS_TX_INJ : Fld := ⟨5, 1⟩
def F.LN_PRBS_TX_EN : Fld := ⟨4, 1⟩
def F.LN_PRBS_TX_PATTERN : Fld := ⟨0, 4⟩
def R.LN_PRBS_RX (n : Nat) : Nat := 0x1002064 + 0x10000 * (n / 4) + 0x2000 * (n % 4)
def F.LN_PRBS_RX_CLR : Fld := ⟨31, 1⟩
def F.LN_PRBS_RX_SYNC : Fld := ⟨30, 1⟩
def F.LN_PRBS_RX_EN : Fld := ⟨4, 1⟩
def F.LN_PRBS_RX_PATTERN : Fld := ⟨0, 4⟩
def R.LN_PRBS_ERR (n : Nat) : Nat := 0x1002068 + 0x10000 * (n / 4) + 0x2000 * (n % 4)
def F.LN_PRBS_ERR_COUNT : Fld := ⟨0, 32⟩
def R.LN_PRBS_BITS_LO (n : Nat) : Nat := 0x100206C + 0x10000 * (n / 4) + 0x2000 * (n % 4)
def F.LN_PRBS_BITS_LO_COUNT : Fld := ⟨0, 32⟩
def R.LN_PRBS_BITS_HI (n : Nat) : Nat := 0x1002070 + 0x10000 * (n / 4) + 0x2000 * (n % 4)
def F.LN_PRBS_BITS_HI_COUNT : Fld := ⟨0, 32⟩
def R.LN_USR_PAT_LO (n : Nat) : Nat := 0x1002074 + 0x10000 * (n / 4) + 0x2000 * (n % 4)
def F.LN_USR_PAT_LO_BITS : Fld := ⟨0, 32⟩
def R.LN_USR_PAT_HI (n : Nat) : Nat := 0x1002078 + 0x10000 * (n / 4) + 0x2000 * (n % 4)
def F.LN_USR_PAT_HI_BITS : Fld := ⟨0, 32⟩
def R.LN_ES_CTRL (n : Nat) : Nat := 0x1002080 + 0x10000 * (n / 4) + 0x2000 * (n % 4)
def F.LN_ES_CTRL_START : Fld := ⟨31, 1⟩
def F.LN_ES_CTRL_BUSY : Fld := ⟨30, 1⟩
def F.LN_ES_CTRL_ES_REJ : Fld := ⟨29, 1⟩
def F.LN_ES_CTRL_ABORT : Fld := ⟨28, 1⟩
def F.LN_ES_CTRL_EYE : Fld := ⟨24, 2⟩
def F.LN_ES_CTRL_DWELL : Fld := ⟨16, 5⟩
def F.LN_ES_CTRL_PHASE : Fld := ⟨8, 6⟩
def F.LN_ES_CTRL_VOFF : Fld := ⟨0, 8⟩
def R.LN_ES_ERR (n : Nat) : Nat := 0x1002084 + 0x10000 * (n / 4) + 0x2000 * (n % 4)
def F.LN_ES_ERR_COUNT : Fld := ⟨0, 32⟩
def R.LN_ES_SMP_LO (n : Nat) : Nat := 0x1002088 + 0x10000 * (n / 4) + 0x2000 * (n % 4)
def F.LN_ES_SMP_LO_COUNT : Fld := ⟨0, 32⟩
def R.LN_ES_SMP_HI (n : Nat) : Nat := 0x100208C + 0x10000 * (n / 4) + 0x2000 * (n % 4)
def F.LN_ES_SMP_HI_COUNT : Fld := ⟨0, 32⟩

/-! Register tables of 11_lanes_coding_and_bonding.md. -/

def R.PCS_LN_MODE (n : Nat) : Nat := 0x1002100 + 0x10000 * (n / 4) + 0x2000 * (n % 4)
def F.PCS_LN_MODE_BYP_CORR : Fld := ⟨8, 1⟩
def F.PCS_LN_MODE_SCR_BYP : Fld := ⟨7, 1⟩
def F.PCS_LN_MODE_WIDTH : Fld := ⟨4, 2⟩
def F.PCS_LN_MODE_CODE : Fld := ⟨0, 4⟩
def R.PCS_LN_ALIGN (n : Nat) : Nat := 0x1002104 + 0x10000 * (n / 4) + 0x2000 * (n % 4)
def F.PCS_LN_ALIGN_SLIP : Fld := ⟨31, 1⟩
def F.PCS_LN_ALIGN_BUSY : Fld := ⟨30, 1⟩
def F.PCS_LN_ALIGN_ALIGN_B0 : Fld := ⟨11, 1⟩
def F.PCS_LN_ALIGN_COMMA_SEL : Fld := ⟨9, 2⟩
def F.PCS_LN_ALIGN_MODE : Fld := ⟨8, 1⟩
def F.PCS_LN_ALIGN_POS : Fld := ⟨0, 4⟩
def R.PCS_LN_STAT (n : Nat) : Nat := 0x1002108 + 0x10000 * (n / 4) + 0x2000 * (n % 4)
def F.PCS_LN_STAT_TX_UNDER : Fld := ⟨15, 1⟩
def F.PCS_LN_STAT_RX_OVF : Fld := ⟨14, 1⟩
def F.PCS_LN_STAT_FEC_UNC : Fld := ⟨13, 1⟩
def F.PCS_LN_STAT_HI_BER_SET : Fld := ⟨12, 1⟩
def F.PCS_LN_STAT_LOCK_LOST : Fld := ⟨11, 1⟩
def F.PCS_LN_STAT_PCS_REJ : Fld := ⟨10, 1⟩
def F.PCS_LN_STAT_TX_BAD : Fld := ⟨9, 1⟩
def F.PCS_LN_STAT_RX_LF : Fld := ⟨7, 1⟩
def F.PCS_LN_STAT_GROUPED : Fld := ⟨6, 1⟩
def F.PCS_LN_STAT_HI_BER : Fld := ⟨4, 1⟩
def F.PCS_LN_STAT_FEC_LOCK : Fld := ⟨3, 1⟩
def F.PCS_LN_STAT_BLOCK_LOCK : Fld := ⟨2, 1⟩
def F.PCS_LN_STAT_ALIGNED : Fld := ⟨1, 1⟩
def F.PCS_LN_STAT_LOCKED : Fld := ⟨0, 1⟩
def R.PCS_LN_ERR_CNT (n : Nat) : Nat := 0x100210C + 0x10000 * (n / 4) + 0x2000 * (n % 4)
def F.PCS_LN_ERR_CNT_COUNT : Fld := ⟨0, 32⟩
def R.PCS_LN_COMMA_CNT (n : Nat) : Nat := 0x1002110 + 0x10000 * (n / 4) + 0x2000 * (n % 4)
def F.PCS_LN_COMMA_CNT_COUNT : Fld := ⟨0, 32⟩
def R.PCS_LN_FEC_CW (n : Nat) : Nat := 0x1002114 + 0x10000 * (n / 4) + 0x2000 * (n % 4)
def F.PCS_LN_FEC_CW_COUNT : Fld := ⟨0, 32⟩
def R.PCS_LN_FEC_UNC (n : Nat) : Nat := 0x1002118 + 0x10000 * (n / 4) + 0x2000 * (n % 4)
def F.PCS_LN_FEC_UNC_COUNT : Fld := ⟨0, 32⟩
def R.PCS_LN_FEC_SYM (n : Nat) : Nat := 0x100211C + 0x10000 * (n / 4) + 0x2000 * (n % 4)
def F.PCS_LN_FEC_SYM_COUNT : Fld := ⟨0, 32⟩
def R.PCS_LN_RX_DROP (n : Nat) : Nat := 0x1002120 + 0x10000 * (n / 4) + 0x2000 * (n % 4)
def F.PCS_LN_RX_DROP_COUNT : Fld := ⟨0, 32⟩
def R.PCS_LN_TX_UNDER (n : Nat) : Nat := 0x1002124 + 0x10000 * (n / 4) + 0x2000 * (n % 4)
def F.PCS_LN_TX_UNDER_COUNT : Fld := ⟨0, 32⟩
def R.PCS_LN_BER (n : Nat) : Nat := 0x1002128 + 0x10000 * (n / 4) + 0x2000 * (n % 4)
def F.PCS_LN_BER_WIN : Fld := ⟨8, 16⟩
def F.PCS_LN_BER_CNT : Fld := ⟨0, 8⟩
def R.PCS_GRP_CTRL (g : Nat) : Nat := 0x100A000 + 0x10000 * g
def F.PCS_GRP_CTRL_EN : Fld := ⟨1, 1⟩
def F.PCS_GRP_CTRL_APPLY : Fld := ⟨0, 1⟩
def R.PCS_GRP_CFG (g : Nat) : Nat := 0x100A004 + 0x10000 * g
def F.PCS_GRP_CFG_GM_PER : Fld := ⟨16, 2⟩
def F.PCS_GRP_CFG_COUNT : Fld := ⟨8, 5⟩
def F.PCS_GRP_CFG_FIRST : Fld := ⟨0, 8⟩
def R.PCS_GRP_HOLD (g : Nat) : Nat := 0x100A008 + 0x10000 * g
def F.PCS_GRP_HOLD_HOLDOFF : Fld := ⟨0, 16⟩
def R.PCS_GRP_STAT (g : Nat) : Nat := 0x100A00C + 0x10000 * g
def F.PCS_GRP_STAT_FAULT_LANE : Fld := ⟨16, 8⟩
def F.PCS_GRP_STAT_CAUSE : Fld := ⟨8, 8⟩
def F.PCS_GRP_STAT_STATE : Fld := ⟨0, 3⟩
def R.PCS_GRP_SKEW (g : Nat) : Nat := 0x100A010 + 0x10000 * g
def F.PCS_GRP_SKEW_UI : Fld := ⟨0, 10⟩
def R.PCS_GRP_INT_STAT (g : Nat) : Nat := 0x100A014 + 0x10000 * g
def F.PCS_GRP_INT_STAT_EVENTS : Fld := ⟨0, 4⟩
def R.PCS_GRP_INT_EN (g : Nat) : Nat := 0x100A018 + 0x10000 * g
def F.PCS_GRP_INT_EN_EVENTS : Fld := ⟨0, 4⟩
def R.PCS_GRP_FAULTS (g : Nat) : Nat := 0x100A01C + 0x10000 * g
def F.PCS_GRP_FAULTS_COUNT : Fld := ⟨0, 32⟩

/-! Register tables of 12_slot_negotiation.md. -/

def R.SKM_ENG_CTRL (e : Nat) : Nat := 0xB0000 + 0x1000 * e
def F.SKM_ENG_CTRL_REFIRE : Fld := ⟨3, 1⟩
def F.SKM_ENG_CTRL_RELEASE : Fld := ⟨2, 1⟩
def F.SKM_ENG_CTRL_RESTART : Fld := ⟨1, 1⟩
def F.SKM_ENG_CTRL_EN : Fld := ⟨0, 1⟩
def R.SKM_ENG_CFG (e : Nat) : Nat := 0xB0004 + 0x1000 * e
def F.SKM_ENG_CFG_RETRY_MAX : Fld := ⟨28, 4⟩
def F.SKM_ENG_CFG_LISTEN : Fld := ⟨24, 3⟩
def F.SKM_ENG_CFG_ALLOW : Fld := ⟨16, 5⟩
def F.SKM_ENG_CFG_AUTO_REL : Fld := ⟨13, 1⟩
def F.SKM_ENG_CFG_COUNT : Fld := ⟨8, 5⟩
def F.SKM_ENG_CFG_FIRST : Fld := ⟨0, 8⟩
def R.SKM_ENG_TMR (e : Nat) : Nat := 0xB0008 + 0x1000 * e
def F.SKM_ENG_TMR_RENEG : Fld := ⟨24, 8⟩
def F.SKM_ENG_TMR_UP : Fld := ⟨16, 8⟩
def F.SKM_ENG_TMR_DWELL_MS : Fld := ⟨8, 8⟩
def F.SKM_ENG_TMR_OFFER_MS : Fld := ⟨0, 8⟩
def R.SKM_ENG_STAT (e : Nat) : Nat := 0xB000C + 0x1000 * e
def F.SKM_ENG_STAT_LOCKED_WR : Fld := ⟨18, 1⟩
def F.SKM_ENG_STAT_CFG_REJ : Fld := ⟨17, 1⟩
def F.SKM_ENG_STAT_OVERRIDE : Fld := ⟨16, 1⟩
def F.SKM_ENG_STAT_FAILED_GEN : Fld := ⟨8, 5⟩
def F.SKM_ENG_STAT_RETRIES : Fld := ⟨4, 4⟩
def F.SKM_ENG_STAT_STATE : Fld := ⟨0, 4⟩
def R.SKM_ENG_PEER (e : Nat) : Nat := 0xB0010 + 0x1000 * e
def F.SKM_ENG_PEER_WORD : Fld := ⟨0, 32⟩
def R.SKM_ENG_RES (e : Nat) : Nat := 0xB0014 + 0x1000 * e
def F.SKM_ENG_RES_WORD : Fld := ⟨0, 32⟩
def R.SKM_ENG_INT_STAT (e : Nat) : Nat := 0xB0018 + 0x1000 * e
def F.SKM_ENG_INT_STAT_EVENTS : Fld := ⟨0, 6⟩
def R.SKM_ENG_INT_EN (e : Nat) : Nat := 0xB001C + 0x1000 * e
def F.SKM_ENG_INT_EN_EVENTS : Fld := ⟨0, 6⟩
def R.SKM_TPL (e t k : Nat) : Nat := 0xB0100 + 0x1000 * e + 0x10 * t + 0x4 * k
def F.SKM_TPL_VALUE : Fld := ⟨0, 32⟩

/-! Register tables of 13_time_unit.md. -/

def R.TIM_STAT : Nat := 0xA0000
def F.TIM_STAT_HOLDOVER : Fld := ⟨1, 1⟩
def F.TIM_STAT_RUN : Fld := ⟨0, 1⟩
def R.TIM_TD_CTRL (d : Nat) : Nat := 0xA0100 + 0x40 * d
def F.TIM_TD_CTRL_FDOM : Fld := ⟨13, 5⟩
def F.TIM_TD_CTRL_FOLLOW : Fld := ⟨12, 1⟩
def F.TIM_TD_CTRL_OSRC : Fld := ⟨8, 3⟩
def F.TIM_TD_CTRL_STEP_EN : Fld := ⟨5, 1⟩
def F.TIM_TD_CTRL_SERVO_EN : Fld := ⟨4, 1⟩
def F.TIM_TD_CTRL_SLEW : Fld := ⟨3, 1⟩
def F.TIM_TD_CTRL_STEP : Fld := ⟨2, 1⟩
def F.TIM_TD_CTRL_SET : Fld := ⟨1, 1⟩
def F.TIM_TD_CTRL_SNAP : Fld := ⟨0, 1⟩
def R.TIM_TD_TFRAC (d : Nat) : Nat := 0xA0104 + 0x40 * d
def F.TIM_TD_TFRAC_VALUE : Fld := ⟨0, 32⟩
def R.TIM_TD_TNS (d : Nat) : Nat := 0xA0108 + 0x40 * d
def F.TIM_TD_TNS_VALUE : Fld := ⟨0, 32⟩
def R.TIM_TD_TSEC_LO (d : Nat) : Nat := 0xA010C + 0x40 * d
def F.TIM_TD_TSEC_LO_VALUE : Fld := ⟨0, 32⟩
def R.TIM_TD_TSEC_HI (d : Nat) : Nat := 0xA0110 + 0x40 * d
def F.TIM_TD_TSEC_HI_VALUE : Fld := ⟨0, 32⟩
def R.TIM_TD_W0 (d : Nat) : Nat := 0xA0114 + 0x40 * d
def F.TIM_TD_W0_VALUE : Fld := ⟨0, 32⟩
def R.TIM_TD_W1 (d : Nat) : Nat := 0xA0118 + 0x40 * d
def F.TIM_TD_W1_VALUE : Fld := ⟨0, 32⟩
def R.TIM_TD_W2 (d : Nat) : Nat := 0xA011C + 0x40 * d
def F.TIM_TD_W2_VALUE : Fld := ⟨0, 32⟩
def R.TIM_TD_FREQ_LO (d : Nat) : Nat := 0xA0120 + 0x40 * d
def F.TIM_TD_FREQ_LO_FREQ : Fld := ⟨0, 32⟩
def R.TIM_TD_FREQ_HI (d : Nat) : Nat := 0xA0124 + 0x40 * d
def F.TIM_TD_FREQ_HI_FREQ : Fld := ⟨0, 32⟩
def R.TIM_TD_OFFS_LO (d : Nat) : Nat := 0xA0128 + 0x40 * d
def F.TIM_TD_OFFS_LO_THETA : Fld := ⟨0, 32⟩
def R.TIM_TD_OFFS_HI (d : Nat) : Nat := 0xA012C + 0x40 * d
def F.TIM_TD_OFFS_HI_THETA : Fld := ⟨0, 32⟩
def R.TIM_TD_GAIN (d : Nat) : Nat := 0xA0130 + 0x40 * d
def F.TIM_TD_GAIN_KI : Fld := ⟨16, 16⟩
def F.TIM_TD_GAIN_KP : Fld := ⟨0, 16⟩
def R.TIM_TD_SERVO (d : Nat) : Nat := 0xA0134 + 0x40 * d
def F.TIM_TD_SERVO_STEP_TH : Fld := ⟨16, 16⟩
def F.TIM_TD_SERVO_FMAX : Fld := ⟨8, 8⟩
def F.TIM_TD_SERVO_SLEWR : Fld := ⟨4, 4⟩
def F.TIM_TD_SERVO_TAU : Fld := ⟨0, 4⟩
def R.TIM_TD_STAT (d : Nat) : Nat := 0xA0138 + 0x40 * d
def F.TIM_TD_STAT_SAMPLE_BUSY : Fld := ⟨9, 1⟩
def F.TIM_TD_STAT_SLEWING : Fld := ⟨8, 1⟩
def F.TIM_TD_STAT_LOCKED_WR : Fld := ⟨5, 1⟩
def F.TIM_TD_STAT_FSAT : Fld := ⟨4, 1⟩
def F.TIM_TD_STAT_OVERRUN : Fld := ⟨3, 1⟩
def F.TIM_TD_STAT_HOLDOVER : Fld := ⟨2, 1⟩
def F.TIM_TD_STAT_OFFS_ALARM : Fld := ⟨1, 1⟩
def F.TIM_TD_STAT_STEPPED : Fld := ⟨0, 1⟩
def R.TIM_TD_ALM (d : Nat) : Nat := 0xA013C + 0x40 * d
def F.TIM_TD_ALM_EN : Fld := ⟨16, 6⟩
def F.TIM_TD_ALM_TH : Fld := ⟨0, 16⟩
def R.TIM_CONE_CTRL (n : Nat) : Nat := 0xA1000 + 0x20 * n
def F.TIM_CONE_CTRL_LOCKED_WR : Fld := ⟨20, 1⟩
def F.TIM_CONE_CTRL_LATE : Fld := ⟨19, 1⟩
def F.TIM_CONE_CTRL_EVT : Fld := ⟨18, 1⟩
def F.TIM_CONE_CTRL_DONE : Fld := ⟨17, 1⟩
def F.TIM_CONE_CTRL_ARMED : Fld := ⟨16, 1⟩
def F.TIM_CONE_CTRL_DOM : Fld := ⟨4, 5⟩
def F.TIM_CONE_CTRL_IE : Fld := ⟨3, 1⟩
def F.TIM_CONE_CTRL_LATE_OK : Fld := ⟨2, 1⟩
def F.TIM_CONE_CTRL_PERIODIC : Fld := ⟨1, 1⟩
def F.TIM_CONE_CTRL_EN : Fld := ⟨0, 1⟩
def R.TIM_CONE_TNS (n : Nat) : Nat := 0xA1004 + 0x20 * n
def F.TIM_CONE_TNS_VALUE : Fld := ⟨0, 32⟩
def R.TIM_CONE_TSEC_LO (n : Nat) : Nat := 0xA1008 + 0x20 * n
def F.TIM_CONE_TSEC_LO_VALUE : Fld := ⟨0, 32⟩
def R.TIM_CONE_TSEC_HI (n : Nat) : Nat := 0xA100C + 0x20 * n
def F.TIM_CONE_TSEC_HI_VALUE : Fld := ⟨0, 32⟩
def R.TIM_CONE_PER (n : Nat) : Nat := 0xA1010 + 0x20 * n
def F.TIM_CONE_PER_VALUE : Fld := ⟨0, 32⟩
def R.TIM_CONE_PERF (n : Nat) : Nat := 0xA1014 + 0x20 * n
def F.TIM_CONE_PERF_VALUE : Fld := ⟨0, 32⟩
def R.TIM_CONE_EVCNT (n : Nat) : Nat := 0xA1018 + 0x20 * n
def F.TIM_CONE_EVCNT_COUNT : Fld := ⟨0, 32⟩
def R.TIM_CONE_MISSED (n : Nat) : Nat := 0xA101C + 0x20 * n
def F.TIM_CONE_MISSED_COUNT : Fld := ⟨0, 32⟩
def R.TIM_CAP_CFG (c : Nat) : Nat := 0xA2000 + 0x4 * c
def F.TIM_CAP_CFG_PORT : Fld := ⟨24, 2⟩
def F.TIM_CAP_CFG_SECTOR : Fld := ⟨16, 5⟩
def F.TIM_CAP_CFG_DOM : Fld := ⟨4, 5⟩
def F.TIM_CAP_CFG_EDGE : Fld := ⟨1, 2⟩
def F.TIM_CAP_CFG_EN : Fld := ⟨0, 1⟩
def R.TIM_CAPF_W0 (g : Nat) : Nat := 0xA2100 + 0x20 * g
def F.TIM_CAPF_W0_VALID : Fld := ⟨31, 1⟩
def F.TIM_CAPF_W0_EDGE : Fld := ⟨8, 2⟩
def F.TIM_CAPF_W0_CAP : Fld := ⟨0, 6⟩
def R.TIM_CAPF_W1 (g : Nat) : Nat := 0xA2104 + 0x20 * g
def F.TIM_CAPF_W1_VALUE : Fld := ⟨0, 32⟩
def R.TIM_CAPF_W2 (g : Nat) : Nat := 0xA2108 + 0x20 * g
def F.TIM_CAPF_W2_VALUE : Fld := ⟨0, 32⟩
def R.TIM_CAPF_W3 (g : Nat) : Nat := 0xA210C + 0x20 * g
def F.TIM_CAPF_W3_VALUE : Fld := ⟨0, 32⟩
def R.TIM_CAPF_STAT (g : Nat) : Nat := 0xA2110 + 0x20 * g
def F.TIM_CAPF_STAT_LOST : Fld := ⟨16, 16⟩
def F.TIM_CAPF_STAT_OVF : Fld := ⟨15, 1⟩
def F.TIM_CAPF_STAT_TH : Fld := ⟨8, 6⟩
def F.TIM_CAPF_STAT_LEVEL : Fld := ⟨0, 6⟩
def R.TIM_PPSI_CFG (i : Nat) : Nat := 0xA2400 + 0x8 * i
def F.TIM_PPSI_CFG_VALUE : Fld := ⟨0, 32⟩
def R.TIM_PPSI_DLY (i : Nat) : Nat := 0xA2404 + 0x8 * i
def F.TIM_PPSI_DLY_VALUE : Fld := ⟨0, 32⟩
def R.TIM_PPSO_CFG (j : Nat) : Nat := 0xA2440 + 0x8 * j
def F.TIM_PPSO_CFG_VALUE : Fld := ⟨0, 32⟩
def R.TIM_PPSO_OFS (j : Nat) : Nat := 0xA2444 + 0x8 * j
def F.TIM_PPSO_OFS_VALUE : Fld := ⟨0, 32⟩
def R.TIM_EVT_CFG (k : Nat) : Nat := 0xA2480 + 0x4 * k
def F.TIM_EVT_CFG_WIDTH : Fld := ⟨16, 8⟩
def F.TIM_EVT_CFG_CONE : Fld := ⟨8, 6⟩
def F.TIM_EVT_CFG_POL : Fld := ⟨1, 1⟩
def F.TIM_EVT_CFG_EN : Fld := ⟨0, 1⟩
def R.TIM_SEC_CFG (s : Nat) : Nat := 0xA2500 + 0x4 * s
def F.TIM_SEC_CFG_DOM : Fld := ⟨4, 5⟩
def F.TIM_SEC_CFG_EN : Fld := ⟨0, 1⟩
def R.TIM_LN_CFG (n : Nat) : Nat := 0xA4000 + 0x20 * n
def F.TIM_LN_CFG_DOM : Fld := ⟨4, 5⟩
def F.TIM_LN_CFG_TSF_CSR : Fld := ⟨3, 1⟩
def F.TIM_LN_CFG_ONESTEP_EN : Fld := ⟨2, 1⟩
def F.TIM_LN_CFG_TX_EN : Fld := ⟨1, 1⟩
def F.TIM_LN_CFG_RX_EN : Fld := ⟨0, 1⟩
def R.TIM_LN_RXADJ (n : Nat) : Nat := 0xA4004 + 0x20 * n
def F.TIM_LN_RXADJ_VALUE : Fld := ⟨0, 32⟩
def R.TIM_LN_TXADJ (n : Nat) : Nat := 0xA4008 + 0x20 * n
def F.TIM_LN_TXADJ_VALUE : Fld := ⟨0, 32⟩
def R.TIM_LN_ASYM (n : Nat) : Nat := 0xA400C + 0x20 * n
def F.TIM_LN_ASYM_VALUE : Fld := ⟨0, 32⟩
def R.TIM_LN_TSF0 (n : Nat) : Nat := 0xA4010 + 0x20 * n
def F.TIM_LN_TSF0_VALID : Fld := ⟨31, 1⟩
def F.TIM_LN_TSF0_TAG : Fld := ⟨0, 16⟩
def R.TIM_LN_TSF1 (n : Nat) : Nat := 0xA4014 + 0x20 * n
def F.TIM_LN_TSF1_TSW : Fld := ⟨0, 32⟩
def R.TIM_LN_TSF2 (n : Nat) : Nat := 0xA4018 + 0x20 * n
def F.TIM_LN_TSF2_TSW : Fld := ⟨0, 32⟩
def R.TIM_LN_TSSTAT (n : Nat) : Nat := 0xA401C + 0x20 * n
def F.TIM_LN_TSSTAT_LOST : Fld := ⟨16, 16⟩
def F.TIM_LN_TSSTAT_LOCKED_WR : Fld := ⟨10, 1⟩
def F.TIM_LN_TSSTAT_OS_ERR : Fld := ⟨9, 1⟩
def F.TIM_LN_TSSTAT_OVF : Fld := ⟨8, 1⟩
def F.TIM_LN_TSSTAT_LEVEL : Fld := ⟨0, 5⟩

/-! Register tables of 14_rld_controller.md. -/

def R.MC_CTRL (c : Nat) : Nat := 0x2000000 + 0x10000 * c
def F.MC_CTRL_INIT : Fld := ⟨7, 1⟩
def F.MC_CTRL_FREEZE : Fld := ⟨6, 1⟩
def F.MC_CTRL_UNFREEZE : Fld := ⟨5, 1⟩
def F.MC_CTRL_FRZ_UE : Fld := ⟨4, 1⟩
def F.MC_CTRL_FRZ_DBG : Fld := ⟨3, 1⟩
def F.MC_CTRL_REF_2X : Fld := ⟨2, 1⟩
def F.MC_CTRL_EN : Fld := ⟨0, 1⟩
def R.MC_STAT (c : Nat) : Nat := 0x2000004 + 0x10000 * c
def F.MC_STAT_OUTSTANDING : Fld := ⟨16, 11⟩
def F.MC_STAT_LOCKED_WR : Fld := ⟨7, 1⟩
def F.MC_STAT_EN_REJ : Fld := ⟨6, 1⟩
def F.MC_STAT_MAP_REJ : Fld := ⟨5, 1⟩
def F.MC_STAT_STATE : Fld := ⟨0, 4⟩
def R.MC_CFG (c : Nat) : Nat := 0x2000008 + 0x10000 * c
def F.MC_CFG_MAX_RETRY : Fld := ⟨16, 4⟩
def F.MC_CFG_DIR_MAX : Fld := ⟨8, 4⟩
def F.MC_CFG_PAR_EN : Fld := ⟨0, 1⟩
def R.MC_BANK_MAP (c b : Nat) : Nat := 0x2000010 + 0x10000 * c + 0x4 * b
def F.MC_BANK_MAP_BASE : Fld := ⟨24, 5⟩
def F.MC_BANK_MAP_XMASK : Fld := ⟨0, 24⟩
def R.MC_TP0 (c : Nat) : Nat := 0x2000020 + 0x10000 * c
def F.MC_TP0_VALUE : Fld := ⟨0, 32⟩
def R.MC_TP1 (c : Nat) : Nat := 0x2000024 + 0x10000 * c
def F.MC_TP1_VALUE : Fld := ⟨0, 32⟩
def R.MC_TP2 (c : Nat) : Nat := 0x2000028 + 0x10000 * c
def F.MC_TP2_VALUE : Fld := ⟨0, 32⟩
def R.MC_SR_CTRL (c : Nat) : Nat := 0x2000040 + 0x10000 * c
def F.MC_SR_CTRL_ENTER : Fld := ⟨31, 1⟩
def F.MC_SR_CTRL_EXIT : Fld := ⟨30, 1⟩
def F.MC_SR_CTRL_IDLE : Fld := ⟨0, 16⟩
def R.MC_MAINT (c : Nat) : Nat := 0x2000044 + 0x10000 * c
def F.MC_MAINT_OPEN : Fld := ⟨31, 1⟩
def F.MC_MAINT_CONE_CLOSE : Fld := ⟨16, 6⟩
def F.MC_MAINT_CONE_OPEN : Fld := ⟨8, 6⟩
def F.MC_MAINT_EN : Fld := ⟨0, 1⟩
def R.MC_CE_CNT (c : Nat) : Nat := 0x2000050 + 0x10000 * c
def F.MC_CE_CNT_COUNT : Fld := ⟨0, 32⟩
def R.MC_DE_CNT (c : Nat) : Nat := 0x2000054 + 0x10000 * c
def F.MC_DE_CNT_COUNT : Fld := ⟨0, 32⟩
def R.MC_ALERT_CNT (c : Nat) : Nat := 0x2000058 + 0x10000 * c
def F.MC_ALERT_CNT_COUNT : Fld := ⟨0, 32⟩
def R.MC_REF_FORCED (c : Nat) : Nat := 0x200005C + 0x10000 * c
def F.MC_REF_FORCED_COUNT : Fld := ⟨0, 32⟩
def R.MC_SR_ABORT (c : Nat) : Nat := 0x2000060 + 0x10000 * c
def F.MC_SR_ABORT_COUNT : Fld := ⟨0, 32⟩
def R.MC_RETIRED_HIT (c : Nat) : Nat := 0x2000064 + 0x10000 * c
def F.MC_RETIRED_HIT_COUNT : Fld := ⟨0, 32⟩
def R.MC_INT_STAT (c : Nat) : Nat := 0x2000070 + 0x10000 * c
def F.MC_INT_STAT_EVENTS : Fld := ⟨0, 11⟩
def R.MC_INT_EN (c : Nat) : Nat := 0x2000074 + 0x10000 * c
def F.MC_INT_EN_EVENTS : Fld := ⟨0, 11⟩
def R.MC_LAST_ERR (c : Nat) : Nat := 0x2000078 + 0x10000 * c
def F.MC_LAST_ERR_INFO : Fld := ⟨0, 32⟩
def R.MC_PORT_QOS (c p : Nat) : Nat := 0x2000080 + 0x10000 * c + 0x10 * p
def F.MC_PORT_QOS_VALUE : Fld := ⟨0, 32⟩
def R.MC_PORT_LATE (c p : Nat) : Nat := 0x2000084 + 0x10000 * c + 0x10 * p
def F.MC_PORT_LATE_VALUE : Fld := ⟨0, 32⟩
def R.MC_PORT_MAXLAT (c p : Nat) : Nat := 0x2000088 + 0x10000 * c + 0x10 * p
def F.MC_PORT_MAXLAT_VALUE : Fld := ⟨0, 32⟩
def R.MC_BANK_LVL (c b : Nat) : Nat := 0x2000100 + 0x10000 * c + 0x4 * b
def F.MC_BANK_LVL_LEVEL : Fld := ⟨0, 7⟩
def R.MC_RETIRE (c k : Nat) : Nat := 0x2000200 + 0x10000 * c + 0x4 * k
def F.MC_RETIRE_V : Fld := ⟨31, 1⟩
def F.MC_RETIRE_PAGE : Fld := ⟨0, 18⟩
def R.MC_MAP_CTRL : Nat := 0x2007000
def F.MC_MAP_CTRL_MODE : Fld := ⟨20, 1⟩
def F.MC_MAP_CTRL_CAP : Fld := ⟨16, 2⟩
def F.MC_MAP_CTRL_W2 : Fld := ⟨12, 3⟩
def F.MC_MAP_CTRL_W1 : Fld := ⟨8, 3⟩
def F.MC_MAP_CTRL_W0 : Fld := ⟨4, 3⟩
def F.MC_MAP_CTRL_APPLY : Fld := ⟨0, 1⟩
def R.MC_MAP_CH : Nat := 0x2007004
def F.MC_MAP_CH_ENTRIES : Fld := ⟨0, 24⟩

/-! Register tables of 15_rld_training.md. -/

def R.MT_CTRL (c : Nat) : Nat := 0x2008000 + 0x10000 * c
def F.MT_CTRL_START : Fld := ⟨31, 1⟩
def F.MT_CTRL_END_PASS : Fld := ⟨30, 1⟩
def F.MT_CTRL_END_FAIL : Fld := ⟨29, 1⟩
def F.MT_CTRL_COMMIT : Fld := ⟨28, 1⟩
def F.MT_CTRL_BIT : Fld := ⟨16, 8⟩
def F.MT_CTRL_TMO : Fld := ⟨0, 16⟩
def R.MT_STAT (c : Nat) : Nat := 0x2008004 + 0x10000 * c
def F.MT_STAT_START_REJ : Fld := ⟨6, 1⟩
def F.MT_STAT_RUN_REJ : Fld := ⟨5, 1⟩
def F.MT_STAT_COMMIT_REJ : Fld := ⟨4, 1⟩
def F.MT_STAT_LOCKED_WR : Fld := ⟨3, 1⟩
def F.MT_STAT_PR_REJ : Fld := ⟨2, 1⟩
def F.MT_STAT_ABORT : Fld := ⟨1, 1⟩
def R.MT_RUN (c : Nat) : Nat := 0x2008008 + 0x10000 * c
def F.MT_RUN_START : Fld := ⟨31, 1⟩
def F.MT_RUN_BUSY : Fld := ⟨30, 1⟩
def F.MT_RUN_OP : Fld := ⟨26, 2⟩
def F.MT_RUN_PAT : Fld := ⟨24, 2⟩
def F.MT_RUN_SWEEP : Fld := ⟨23, 1⟩
def F.MT_RUN_COUNT : Fld := ⟨0, 16⟩
def R.MT_SWEEP (c : Nat) : Nat := 0x200800C + 0x10000 * c
def F.MT_SWEEP_TARGET : Fld := ⟨24, 2⟩
def F.MT_SWEEP_HI : Fld := ⟨16, 7⟩
def F.MT_SWEEP_LO : Fld := ⟨8, 7⟩
def F.MT_SWEEP_STEP : Fld := ⟨0, 3⟩
def R.MT_LINE (c : Nat) : Nat := 0x2008010 + 0x10000 * c
def F.MT_LINE_LINE : Fld := ⟨0, 24⟩
def R.MT_FAIL0 (c : Nat) : Nat := 0x2008014 + 0x10000 * c
def F.MT_FAIL0_VALUE : Fld := ⟨0, 32⟩
def R.MT_FAIL1 (c : Nat) : Nat := 0x2008018 + 0x10000 * c
def F.MT_FAIL1_VALUE : Fld := ⟨0, 32⟩
def R.MT_FAIL2 (c : Nat) : Nat := 0x200801C + 0x10000 * c
def F.MT_FAIL2_VALUE : Fld := ⟨0, 32⟩
def R.MT_ERRCNT (c : Nat) : Nat := 0x2008020 + 0x10000 * c
def F.MT_ERRCNT_VALUE : Fld := ⟨0, 32⟩
def R.MT_PR_CTRL (c : Nat) : Nat := 0x2008040 + 0x10000 * c
def F.MT_PR_CTRL_EN : Fld := ⟨31, 1⟩
def F.MT_PR_CTRL_WIN : Fld := ⟨30, 1⟩
def F.MT_PR_CTRL_AUTO : Fld := ⟨29, 1⟩
def F.MT_PR_CTRL_PERIOD : Fld := ⟨16, 8⟩
def F.MT_PR_CTRL_RANGE : Fld := ⟨8, 5⟩
def F.MT_PR_CTRL_MIN_W : Fld := ⟨0, 7⟩
def R.MT_PR_PAGE (c : Nat) : Nat := 0x2008044 + 0x10000 * c
def F.MT_PR_PAGE_BURSTS : Fld := ⟨24, 8⟩
def F.MT_PR_PAGE_PAGE : Fld := ⟨0, 18⟩
def R.MT_PR_STAT (c : Nat) : Nat := 0x2008048 + 0x10000 * c
def F.MT_PR_STAT_LAST_BIT : Fld := ⟨16, 8⟩
def F.MT_PR_STAT_STATE : Fld := ⟨0, 3⟩
def R.MT_PR_NOSET (c : Nat) : Nat := 0x200804C + 0x10000 * c
def F.MT_PR_NOSET_COUNT : Fld := ⟨0, 32⟩
def R.MT_INT_STAT (c : Nat) : Nat := 0x2008050 + 0x10000 * c
def F.MT_INT_STAT_EVENTS : Fld := ⟨0, 6⟩
def R.MT_INT_EN (c : Nat) : Nat := 0x2008054 + 0x10000 * c
def F.MT_INT_EN_EVENTS : Fld := ⟨0, 6⟩
def R.MT_WIN (c k : Nat) : Nat := 0x2008100 + 0x10000 * c + 0x4 * k
def F.MT_WIN_NONE : Fld := ⟨31, 1⟩
def F.MT_WIN_RIGHT : Fld := ⟨16, 7⟩
def F.MT_WIN_LEFT : Fld := ⟨0, 7⟩
def R.MT_SHD_DQ (c k : Nat) : Nat := 0x2008300 + 0x10000 * c + 0x4 * k
def F.MT_SHD_DQ_WDLY : Fld := ⟨8, 7⟩
def F.MT_SHD_DQ_RDLY : Fld := ⟨0, 7⟩
def R.MT_ACT_DQ (c k : Nat) : Nat := 0x2008500 + 0x10000 * c + 0x4 * k
def F.MT_ACT_DQ_WDLY : Fld := ⟨8, 7⟩
def F.MT_ACT_DQ_RDLY : Fld := ⟨0, 7⟩
def R.MT_SHD_CMP (c m : Nat) : Nat := 0x2008700 + 0x10000 * c + 0x4 * m
def F.MT_SHD_CMP_RCV_EN : Fld := ⟨16, 3⟩
def F.MT_SHD_CMP_CA_DLY : Fld := ⟨0, 7⟩
def R.MT_ACT_CMP (c m : Nat) : Nat := 0x2008708 + 0x10000 * c + 0x4 * m
def F.MT_ACT_CMP_RCV_EN : Fld := ⟨16, 3⟩
def F.MT_ACT_CMP_CA_DLY : Fld := ⟨0, 7⟩

/-! Register tables of 16_management_mailboxes.md. -/

def R.MBX_CTRL (m : Nat) : Nat := 0x80000 + 0x40 * m
def F.MBX_CTRL_SEND : Fld := ⟨31, 1⟩
def F.MBX_CTRL_CANCEL : Fld := ⟨30, 1⟩
def F.MBX_CTRL_SKIP : Fld := ⟨29, 1⟩
def R.MBX_STAT (m : Nat) : Nat := 0x80004 + 0x40 * m
def F.MBX_STAT_RSP_LEN : Fld := ⟨16, 13⟩
def F.MBX_STAT_PEC_ERR : Fld := ⟨8, 1⟩
def F.MBX_STAT_OWNER_REJ : Fld := ⟨7, 1⟩
def F.MBX_STAT_UNDERRUN : Fld := ⟨6, 1⟩
def F.MBX_STAT_DROPPED : Fld := ⟨5, 1⟩
def F.MBX_STAT_MALFORMED : Fld := ⟨4, 1⟩
def F.MBX_STAT_RSP_CNT : Fld := ⟨2, 2⟩
def F.MBX_STAT_REQ_FREE : Fld := ⟨0, 2⟩
def R.MBX_WDATA (m : Nat) : Nat := 0x80008 + 0x40 * m
def F.MBX_WDATA_WORD : Fld := ⟨0, 32⟩
def R.MBX_RDATA (m : Nat) : Nat := 0x8000C + 0x40 * m
def F.MBX_RDATA_WORD : Fld := ⟨0, 32⟩
def R.MBX_OWNER (m : Nat) : Nat := 0x80010 + 0x40 * m
def F.MBX_OWNER_OWNER : Fld := ⟨0, 8⟩
def R.MBX_INT_EN (m : Nat) : Nat := 0x80014 + 0x40 * m
def F.MBX_INT_EN_ERR : Fld := ⟨1, 1⟩
def F.MBX_INT_EN_RSP : Fld := ⟨0, 1⟩
def R.MBX_SUM : Nat := 0x80200
def F.MBX_SUM_ERR : Fld := ⟨8, 7⟩
def F.MBX_SUM_RSP : Fld := ⟨0, 7⟩
def R.MBX_VER : Nat := 0x80204
def F.MBX_VER_MAJ : Fld := ⟨8, 8⟩
def F.MBX_VER_MIN : Fld := ⟨0, 8⟩

/-! Register tables of 17_security_and_lifecycle.md. -/

def R.SEC_STAT : Nat := 0x90000
def F.SEC_STAT_WIPE_BUSY : Fld := ⟨9, 1⟩
def F.SEC_STAT_FUSE_PWR : Fld := ⟨8, 1⟩
def F.SEC_STAT_FUSE_BUSY : Fld := ⟨7, 1⟩
def F.SEC_STAT_BK_OFF : Fld := ⟨6, 1⟩
def F.SEC_STAT_DBG_OPEN : Fld := ⟨5, 1⟩
def F.SEC_STAT_LC : Fld := ⟨0, 2⟩
def R.SEC_DBG : Nat := 0x90004
def F.SEC_DBG_OPEN : Fld := ⟨0, 1⟩
def R.SEC_TAMPER_STAT : Nat := 0x90008
def F.SEC_TAMPER_STAT_LEVEL : Fld := ⟨8, 6⟩
def F.SEC_TAMPER_STAT_TRIPPED : Fld := ⟨0, 6⟩
def R.SEC_TAMPER_POL : Nat := 0x9000C
def F.SEC_TAMPER_POL_POLICY : Fld := ⟨0, 32⟩
def R.SEC_BIND_LO : Nat := 0x90010
def F.SEC_BIND_LO_ID : Fld := ⟨0, 32⟩
def R.SEC_BIND_HI : Nat := 0x90014
def F.SEC_BIND_HI_ID : Fld := ⟨0, 32⟩
def R.SEC_KEY_STAT : Nat := 0x90018
def F.SEC_KEY_STAT_VREV : Fld := ⟨10, 2⟩
def F.SEC_KEY_STAT_BK : Fld := ⟨8, 2⟩
def F.SEC_KEY_STAT_OREV : Fld := ⟨4, 4⟩
def F.SEC_KEY_STAT_OKEY : Fld := ⟨0, 4⟩
def R.SEC_SKEY_STAT : Nat := 0x9001C
def F.SEC_SKEY_STAT_CEIL : Fld := ⟨16, 16⟩
def F.SEC_SKEY_STAT_SREV : Fld := ⟨8, 8⟩
def F.SEC_SKEY_STAT_SKEY : Fld := ⟨0, 8⟩
def R.SEC_WIPE : Nat := 0x90020
def F.SEC_WIPE_START : Fld := ⟨31, 1⟩
def F.SEC_WIPE_COUNT : Fld := ⟨0, 16⟩
def R.SEC_FUSE_CTRL : Nat := 0x90030
def F.SEC_FUSE_CTRL_GO : Fld := ⟨31, 1⟩
def F.SEC_FUSE_CTRL_BUSY : Fld := ⟨30, 1⟩
def F.SEC_FUSE_CTRL_FAIL : Fld := ⟨29, 1⟩
def F.SEC_FUSE_CTRL_FIELD : Fld := ⟨0, 8⟩
def R.SEC_FUSE_DATA (w : Nat) : Nat := 0x90040 + 0x4 * w
def F.SEC_FUSE_DATA_BITS : Fld := ⟨0, 32⟩
def R.SEC_OKEY_DIG (k w : Nat) : Nat := 0x90100 + 0x20 * k + 0x4 * w
def F.SEC_OKEY_DIG_DIGEST : Fld := ⟨0, 32⟩

/-! Register tables of 18_interrupts_and_error_log.md. -/

def R.IC_CTRL : Nat := 0x40000
def F.IC_CTRL_SLEEP_EN : Fld := ⟨0, 1⟩
def R.IC_STAT : Nat := 0x40004
def F.IC_STAT_ASSERTED : Fld := ⟨0, 8⟩
def R.IC_TGT_CLAIM (t : Nat) : Nat := 0x40100 + 0x10 * t
def F.IC_TGT_CLAIM_VALID : Fld := ⟨31, 1⟩
def F.IC_TGT_CLAIM_ASSERTED_AT_CLAIM : Fld := ⟨30, 1⟩
def F.IC_TGT_CLAIM_SOURCE : Fld := ⟨0, 10⟩
def R.IC_TGT_COMPLETE (t : Nat) : Nat := 0x40104 + 0x10 * t
def F.IC_TGT_COMPLETE_SOURCE : Fld := ⟨0, 10⟩
def R.IC_TGT_CFG (t : Nat) : Nat := 0x40108 + 0x10 * t
def F.IC_TGT_CFG_EN : Fld := ⟨31, 1⟩
def F.IC_TGT_CFG_SECTOR : Fld := ⟨16, 5⟩
def F.IC_TGT_CFG_OWNER : Fld := ⟨0, 8⟩
def R.IC_TGT_STAT (t : Nat) : Nat := 0x4010C + 0x10 * t
def F.IC_TGT_STAT_IN_SERVICE : Fld := ⟨31, 1⟩
def F.IC_TGT_STAT_BAD_COMPLETE : Fld := ⟨30, 1⟩
def F.IC_TGT_STAT_SOURCE : Fld := ⟨0, 10⟩
def R.IC_HOLDOFF (g : Nat) : Nat := 0x40200 + 0x4 * g
def F.IC_HOLDOFF_ACTIVE : Fld := ⟨31, 1⟩
def F.IC_HOLDOFF_TIME : Fld := ⟨0, 16⟩
def R.IC_PEND_SUM (j : Nat) : Nat := 0x40400 + 0x4 * j
def F.IC_PEND_SUM_PENDING : Fld := ⟨0, 32⟩
def R.IC_SRC (n : Nat) : Nat := 0x41000 + 0x4 * n
def F.IC_SRC_PENDING : Fld := ⟨31, 1⟩
def F.IC_SRC_IN_SERVICE : Fld := ⟨30, 1⟩
def F.IC_SRC_LEVEL : Fld := ⟨29, 1⟩
def F.IC_SRC_ASSERTED_AT_CLAIM : Fld := ⟨28, 1⟩
def F.IC_SRC_SW_PEND : Fld := ⟨27, 1⟩
def F.IC_SRC_DISCARD : Fld := ⟨26, 1⟩
def F.IC_SRC_TYPE : Fld := ⟨8, 1⟩
def F.IC_SRC_TARGET : Fld := ⟨4, 3⟩
def F.IC_SRC_EN : Fld := ⟨0, 1⟩
def R.ERR_CTRL : Nat := 0x50000
def F.ERR_CTRL_TH : Fld := ⟨0, 7⟩
def R.ERR_STAT : Nat := 0x50004
def F.ERR_STAT_LOST : Fld := ⟨31, 1⟩
def F.ERR_STAT_FE : Fld := ⟨30, 1⟩
def F.ERR_STAT_LEVEL : Fld := ⟨0, 7⟩
def R.ERR_POP0 : Nat := 0x50008
def F.ERR_POP0_WORD : Fld := ⟨0, 32⟩
def R.ERR_POP1 : Nat := 0x5000C
def F.ERR_POP1_WORD : Fld := ⟨0, 32⟩
def R.ERR_POP2 : Nat := 0x50010
def F.ERR_POP2_WORD : Fld := ⟨0, 32⟩
def R.ERR_POP3 : Nat := 0x50014
def F.ERR_POP3_WORD : Fld := ⟨0, 32⟩
def R.ERR_COUNT : Nat := 0x50018
def F.ERR_COUNT_COUNT : Fld := ⟨0, 32⟩
def R.ERR_DROPS : Nat := 0x5001C
def F.ERR_DROPS_COUNT : Fld := ⟨0, 32⟩
def R.ERR_LOST (j : Nat) : Nat := 0x50100 + 0x4 * j
def F.ERR_LOST_ODD : Fld := ⟨16, 16⟩
def F.ERR_LOST_EVEN : Fld := ⟨0, 16⟩
def R.ERR_FIRST_VALID (j : Nat) : Nat := 0x50200 + 0x4 * j
def F.ERR_FIRST_VALID_VALID : Fld := ⟨0, 32⟩
def R.ERR_FIRST (g w : Nat) : Nat := 0x50400 + 0x10 * g + 0x4 * w
def F.ERR_FIRST_WORD : Fld := ⟨0, 32⟩

/-! Register tables of 19_self_test_and_debug.md. -/

def R.IST_CTRL : Nat := 0x60000
def F.IST_CTRL_PWR_MAX : Fld := ⟨24, 8⟩
def F.IST_CTRL_STAGGER : Fld := ⟨16, 8⟩
def F.IST_CTRL_SPAD_W : Fld := ⟨8, 4⟩
def F.IST_CTRL_MCQ_EN : Fld := ⟨4, 1⟩
def F.IST_CTRL_LINK_EN : Fld := ⟨3, 1⟩
def F.IST_CTRL_SPAD_EN : Fld := ⟨2, 1⟩
def F.IST_CTRL_EN : Fld := ⟨0, 1⟩
def R.IST_PERIOD : Nat := 0x60004
def F.IST_PERIOD_MS : Fld := ⟨0, 16⟩
def R.IST_STAT : Nat := 0x60008
def F.IST_STAT_BUSY : Fld := ⟨31, 1⟩
def F.IST_STAT_LOCKED_WR : Fld := ⟨24, 1⟩
def F.IST_STAT_PWR_NOW : Fld := ⟨16, 8⟩
def F.IST_STAT_PASS_CNT : Fld := ⟨0, 16⟩
def R.IST_FAIL_CNT : Nat := 0x6000C
def F.IST_FAIL_CNT_COUNT : Fld := ⟨0, 32⟩
def R.IST_SKIP_CNT : Nat := 0x60010
def F.IST_SKIP_CNT_COUNT : Fld := ⟨0, 32⟩
def R.IST_YIELD_CNT : Nat := 0x60014
def F.IST_YIELD_CNT_COUNT : Fld := ⟨0, 32⟩
def R.IST_LAST : Nat := 0x60018
def F.IST_LAST_TARGET : Fld := ⟨20, 2⟩
def F.IST_LAST_UNIT : Fld := ⟨0, 20⟩
def R.IST_RUN : Nat := 0x60020
def F.IST_RUN_START : Fld := ⟨31, 1⟩
def F.IST_RUN_BUSY : Fld := ⟨30, 1⟩
def F.IST_RUN_TARGET : Fld := ⟨24, 2⟩
def F.IST_RUN_COUNT : Fld := ⟨16, 8⟩
def R.IST_RUN_FIRST : Nat := 0x60024
def F.IST_RUN_FIRST_UNIT : Fld := ⟨0, 20⟩
def R.IST_RUN_RES : Nat := 0x60028
def F.IST_RUN_RES_SKIPPED : Fld := ⟨16, 8⟩
def F.IST_RUN_RES_FAILED : Fld := ⟨8, 8⟩
def F.IST_RUN_RES_RUN : Fld := ⟨0, 8⟩
def R.DBG_STAT : Nat := 0x70000
def F.DBG_STAT_HALTED : Fld := ⟨31, 1⟩
def F.DBG_STAT_HALT_PEND : Fld := ⟨30, 1⟩
def F.DBG_STAT_SCAN : Fld := ⟨29, 1⟩
def F.DBG_STAT_DBG_OPEN : Fld := ⟨28, 1⟩
def F.DBG_STAT_OVERRUN : Fld := ⟨3, 1⟩
def F.DBG_STAT_LOCKED_IR : Fld := ⟨2, 1⟩
def F.DBG_STAT_LOCK_BROKEN : Fld := ⟨1, 1⟩
def F.DBG_STAT_HALT_ENTERED : Fld := ⟨0, 1⟩
def R.DBG_INT_EN : Nat := 0x70004
def F.DBG_INT_EN_EVENTS : Fld := ⟨0, 4⟩
def R.DBG_RC : Nat := 0x70008
def F.DBG_RC_HALT : Fld := ⟨31, 1⟩
def F.DBG_RC_RESUME : Fld := ⟨30, 1⟩
def F.DBG_RC_STEP : Fld := ⟨29, 1⟩
def R.DBG_FRZ : Nat := 0x7000C
def F.DBG_FRZ_TIM : Fld := ⟨4, 1⟩
def F.DBG_FRZ_NOC : Fld := ⟨3, 1⟩
def F.DBG_FRZ_SKM : Fld := ⟨2, 1⟩
def F.DBG_FRZ_LANE : Fld := ⟨1, 1⟩
def F.DBG_FRZ_FAB : Fld := ⟨0, 1⟩
def R.DBG_FRZ_SECT : Nat := 0x70010
def F.DBG_FRZ_SECT_SECTORS : Fld := ⟨0, 32⟩
def R.DBG_HALT_CNT : Nat := 0x70014
def F.DBG_HALT_CNT_VALUE : Fld := ⟨0, 32⟩
def R.DBG_PC : Nat := 0x70018
def F.DBG_PC_VALUE : Fld := ⟨0, 32⟩
def R.WDT_CTRL : Nat := 0x70100
def F.WDT_CTRL_KEY : Fld := ⟨16, 16⟩
def F.WDT_CTRL_ACTION : Fld := ⟨4, 2⟩
def F.WDT_CTRL_EN : Fld := ⟨0, 1⟩
def R.WDT_LOAD : Nat := 0x70104
def F.WDT_LOAD_US : Fld := ⟨0, 32⟩
def R.WDT_KICK : Nat := 0x70108
def F.WDT_KICK_KEY : Fld := ⟨0, 16⟩
def R.WDT_COUNT : Nat := 0x7010C
def F.WDT_COUNT_US : Fld := ⟨0, 32⟩
def R.WDT_STAT : Nat := 0x70110
def F.WDT_STAT_EXPIRIES : Fld := ⟨16, 16⟩
def F.WDT_STAT_LOCKED_WR : Fld := ⟨2, 1⟩
def F.WDT_STAT_BADKEY : Fld := ⟨1, 1⟩
def F.WDT_STAT_FIRST : Fld := ⟨0, 1⟩

/-! Register tables of 20_power_package_electrical.md. -/

def R.SYS_SUPPLY : Nat := 0x0
def F.SYS_SUPPLY_FUSE : Fld := ⟨7, 1⟩
def F.SYS_SUPPLY_MEM : Fld := ⟨6, 1⟩
def F.SYS_SUPPLY_LPLL : Fld := ⟨5, 1⟩
def F.SYS_SUPPLY_VTT : Fld := ⟨4, 1⟩
def F.SYS_SUPPLY_LANE : Fld := ⟨3, 1⟩
def F.SYS_SUPPLY_AUX : Fld := ⟨2, 1⟩
def F.SYS_SUPPLY_CFG : Fld := ⟨1, 1⟩
def F.SYS_SUPPLY_CORE : Fld := ⟨0, 1⟩
def R.SYS_VCCIO_LO : Nat := 0x4
def F.SYS_VCCIO_LO_VALID : Fld := ⟨0, 32⟩
def R.SYS_VCCIO_HI : Nat := 0x8
def F.SYS_VCCIO_HI_VALID : Fld := ⟨0, 32⟩
def R.SYS_TEMP : Nat := 0x10
def F.SYS_TEMP_VALUE : Fld := ⟨0, 16⟩
def R.SYS_TEMP_MAX : Nat := 0x14
def F.SYS_TEMP_MAX_VALUE : Fld := ⟨0, 16⟩
def R.SYS_TEMP_ALM : Nat := 0x18
def F.SYS_TEMP_ALM_ALM : Fld := ⟨31, 1⟩
def F.SYS_TEMP_ALM_TH : Fld := ⟨0, 16⟩
def R.SYS_PD_REQ : Nat := 0x20
def F.SYS_PD_REQ_SECTORS : Fld := ⟨0, 32⟩
def R.SYS_PD_STAT : Nat := 0x24
def F.SYS_PD_STAT_SECTORS : Fld := ⟨0, 32⟩
def R.SYS_PD_BUSY : Nat := 0x28
def F.SYS_PD_BUSY_SECTORS : Fld := ⟨0, 32⟩
def R.SYS_PD_REJ : Nat := 0x2C
def F.SYS_PD_REJ_REJ : Fld := ⟨0, 1⟩

end Sys2Proof
end

