-- ==== Sys2Proof/Machine/Csr.lean ====
section
/-! DEFINITION. Csr.lean: the windows of the CSR space (R39), the endpoints of the network (R296, R297), the default
routes (R308), and the reset value of every register (R17). -/

namespace Sys2Proof.Machine

/-- The blocks that own the windows of R39. -/
inductive Win where
  | sys | clk | cfg | scr | ic | err | ist | dbg | mbx | sec | tim | skm | noc | ni | lq | mc | sector
  deriving DecidableEq, Repr

/-- The window, its instance and the offset in it, of a CSR offset (R39). `none` outside every window. -/
def winOf (off : Nat) : Option (Win × Nat × Nat) :=
  if off < 0xC0000 then
    some ((match off / 0x10000 with
      | 0 => Win.sys | 1 => .clk | 2 => .cfg | 3 => .scr | 4 => .ic | 5 => .err | 6 => .ist | 7 => .dbg
      | 8 => .mbx | 9 => .sec | 10 => .tim | _ => .skm), 0, off % 0x10000)
  else if off < 0x100000 then none
  else if off < 0x500000 then some (.noc, (off - 0x100000) / 0x10000, off % 0x10000)
  else if off < 0x600000 then some (.ni, (off - 0x500000) / 0x1000, off % 0x1000)
  else if off < 0x1000000 then none
  else if off < 0x1240000 then some (.lq, (off - 0x1000000) / 0x10000, off % 0x10000)
  else if off < 0x2000000 then none
  else if off < 0x2080000 then some (.mc, (off - 0x2000000) / 0x10000, off % 0x10000)
  else if off < 0x3000000 then none
  else if off < 0x3200000 then some (.sector, (off - 0x3000000) / 0x10000, off % 0x10000)
  else none

/-- The register tables of a window. -/
def rowsOf : Win → List RegRow
  | .sys => rows_sys | .clk => rows_clk | .cfg => rows_cfg | .scr => rows_scr | .ic => rows_ic | .err => rows_err
  | .ist => rows_ist | .dbg => rows_dbg | .mbx => rows_mbx | .sec => rows_sec | .tim => rows_tim | .skm => rows_skm
  | .noc => rows_noc | .ni => rows_ni | .lq => rows_lq | .mc => rows_mc | .sector => rows_sector

/-- The index of a register in a row's ranges, for an offset from the row's base; `none` where no register lies. -/
def dimIndex : List (Nat × Nat) → Nat → Option (List Nat)
  | [], rel => if rel = 0 then some [] else none
  | (n, st) :: ds, rel =>
    let i := if ds.isEmpty then rel / st else min (rel / st) (n - 1)
    if i < n then (dimIndex ds (rel - i * st)).map (fun l => i :: l) else none

/-- The first row that holds the offset, with its index. -/
def findRow : List RegRow → Nat → Option (RegRow × List Nat)
  | [], _ => none
  | r :: rs, off =>
    if off < r.base then findRow rs off
    else match dimIndex r.dims (off - r.base) with
      | some ix => some (r, ix)
      | none => findRow rs off

/-- The register table row of a CSR offset. -/
def rowAt (off : Nat) : Option (RegRow × List Nat) :=
  match winOf off with
  | some (w, inst, loc) =>
    -- MC_MAP_CTRL and MC_MAP_CH exist at channel 0 only
    if w = .mc && inst != 0 && (loc = 0x7000 || loc = 0x7004) then none
    -- MB0 to MB6 only; bonding groups stand in the windows of LQ0 to LQ15 (11_lanes_coding_and_bonding.md)
    else if w = .lq && inst ≥ 16 && loc ≥ 0xA000 then none
    else findRow (rowsOf w) loc
  | none => none

/-- The router and its local port where an endpoint is attached (R296, R297). -/
def endpointAt (id : Nat) : Option (Nat × Nat) :=
  if id < 0x40 then some (id, 0)
  else if id < 0x60 then
    let c := (id - 0x40) / 4
    let p := id % 4
    let gx := 2 * (c % 4) + (if p < 2 then 0 else 1)
    some ((if c < 4 then 0 else 56) + gx, 6 + p % 2)
  else if id < 0x68 then
    let c := id - 0x60
    some ((if c < 4 then 0 else 56) + 2 * (c % 4) + 1, 2)
  else if id = 0x68 then some (27, 3)
  else if id = 0x69 then some (28, 3)
  else if id = 0x6A then some (27, 4)
  else if id = 0x6B then some (28, 4)
  else if id = 0x6C then some (27, 5)
  else if 0x70 ≤ id && id < 0x94 then
    let q := (id - 0x70) % 18
    let gx := if id - 0x70 < 18 then 0 else 7
    let place : Nat × Nat :=
      if q < 3 then (0, q) else if q < 9 then (1 + (q - 3) / 2, (q - 3) % 2)
      else if q < 12 then (4, q - 9) else (5 + (q - 12) / 2, (q - 12) % 2)
    some (8 * place.1 + gx, 3 + place.2)
  else if 0xA0 ≤ id && id < 0xC0 then some (2 * (id - 0xA0), 2)
  else if 0xC0 ≤ id && id < 0x100 then some (id - 0xC0, 1)
  else none

/-- The endpoint attached to a local port of a router. -/
def endpointOn (router port : Nat) : Option Nat :=
  (List.range 256).find? (fun id => endpointAt id == some (router, port))

/-- The router that a link port leads to (R295); `none` where the link does not exist. -/
def linkOf (n port : Nat) : Option Nat :=
  let gx := n % 8
  let gy := n / 8
  match port with
  | 8 => if gy < 7 then some (n + 8) else none
  | 9 => if gx < 7 then some (n + 1) else none
  | 10 => if 0 < gy then some (n - 8) else none
  | 11 => if 0 < gx then some (n - 1) else none
  | 12 => some (if gy < 4 then n + 32 else n - 32)
  | 13 => some (if gx < 4 then n + 4 else n - 4)
  | _ => none

/-- The port at the far end of a link. -/
def farPort : Nat → Nat
  | 8 => 10 | 9 => 11 | 10 => 8 | 11 => 9 | p => p

/-- The ports that exist at a router (R295, R296). -/
def portExists (n port : Nat) : Bool :=
  if port < 8 then (endpointOn n port).isSome else (linkOf n port).isSome

/-- The existing ports as a mask. -/
def portMask (n : Nat) : Nat := ((List.range 14).map (fun p => if portExists n p then 2 ^ p else 0)).sum

/-- The hops along one dimension from `s` to `d`: the express hop first (R308). -/
def dimHops (s d express up down : Nat) : List Nat :=
  let jump := (s < 4 && s + 3 ≤ d) || (4 ≤ s && d + 3 ≤ s)
  let s' := if jump then (if s < 4 then s + 4 else s - 4) else s
  (if jump then [express] else []) ++ List.replicate (d - s') up ++ List.replicate (s' - d) down

/-- A hop list as ROUTE: hop 0 in the lowest nibble, unused nibbles 0xF (R304, R306). -/
def packRoute (hops : List Nat) : Nat :=
  ((hops ++ List.replicate (12 - hops.length) 15).take 12).foldr (fun h a => h + 16 * a) 0

/-- The default route from router `n` to endpoint `id` (R308); all ones for an ID that names no endpoint (R307). -/
def defaultRoute (n id : Nat) : Nat :=
  match endpointAt id with
  | none => 2 ^ 48 - 1
  | some (r, p) => packRoute (dimHops (n % 8) (r % 8) 13 9 11 ++ dimHops (n / 8) (r / 8) 12 8 10 ++ [p])

/-- The reset value of NI `e`'s route to endpoint `d`. An NI window that names no endpoint holds the unused route. -/
def niRoute (e d : Nat) : Nat :=
  match endpointAt e with
  | none => 2 ^ 48 - 1
  | some (r, _) => defaultRoute r d

/-- Sources that a pulse raises (R579); user lines are decided by IC_SRC.TYPE. -/
def pulseSource (n : Nat) : Bool :=
  [2, 3, 4, 16, 17, 18, 19, 20, 21, 22, 23, 30, 31, 32].contains n || (33 ≤ n && n ≤ 41) || n = 48 ||
    (49 ≤ n && n ≤ 52) || (436 ≤ n && n ≤ 499)

/-- Reserved sources (R579, R582). -/
def reservedSource (n : Nat) : Bool :=
  (6 ≤ n && n ≤ 15) || (24 ≤ n && n ≤ 29) || (42 ≤ n && n ≤ 47) || (53 ≤ n && n ≤ 63) || (176 ≤ n && n ≤ 191) || n = 511 || 1024 ≤ n

/-- The templates of the Skemer engines at reset (SKM_TPL). -/
def skmTpl : Nat → Nat → Nat
  | 0, 0 => 0x12 | 0, 1 => 0x040 | 0, 3 => 0x21
  | 1, 0 => 0x0E | 1, 1 => 0x050 | 1, 3 => 0x21
  | 2, 0 => 0x06 | 2, 1 => 0x042 | 2, 3 => 0x02
  | 3, 0 => 0x02 | 3, 1 => 0x052 | 3, 2 => 0x800000 | 3, 3 => 0x13
  | _, _ => 0

/-- The resets that differ from one instance to another: the Reset columns of IC_SRC, IC_TGT_CFG, MBX_OWNER, SKM_TPL,
MC_BANK_MAP, NOC_PORT_EN, NI_STAT, NI_RT_LO and NI_RT_HI. -/
def instReset (w : Win) (inst loc : Nat) (ix : List Nat) : Nat :=
  match w, ix with
  | .ic, [i] =>
    if 0x1000 ≤ loc then (if i < 512 && pulseSource i then 0x100 else 0)
    else if loc % 16 = 8 && loc < 0x180 then (if i < 2 then 0x68 else 0xFF) else 0
  | .mbx, [m] => if loc % 0x40 = 0x10 then (if m < 3 then 0xFE else 0xFF) else 0
  | .skm, [_, t, k] => if 0x100 ≤ loc % 0x1000 then skmTpl t k else 0
  | .mc, [b] =>
    if 0x10 ≤ loc && loc < 0x20 then b * 2 ^ 24 + [0x010100, 0x020200, 0x040400, 0x080800].getD b 0 else 0
  | .noc, [] => if loc = 4 then portMask inst else 0
  | .ni, [] => if loc = 8 && 0x40 ≤ inst && (endpointAt inst).isSome then 2 ^ 30 else 0
  | .ni, [d] => if loc % 8 = 0 then niRoute inst d % 2 ^ 32 else niRoute inst d / 2 ^ 32
  | _, _ => 0

/-- The value of a register after power-on reset (R17); an offset that no table defines reads 0 (R16). -/
def resetOf (off : Nat) : Word :=
  match winOf off, rowAt off with
  | some (w, inst, loc), some (r, ix) => r.rst ||| BitVec.ofNat 32 (instReset w inst loc ix)
  | _, _ => 0

end Sys2Proof.Machine
end

