-- ==== Sys2Proof/Machine/State.lean ====
section
/-! DEFINITION. State.lean: everything the spec gives the EF9812 to hold, as plain data, and the machine after reset. -/

namespace Sys2Proof.Machine

/-! ## Interrupts and the error log (18_interrupts_and_error_log.md) -/

/-- A report on its way to the error collector: source number, severity (0 CE, 1 DE, 2 UE, 3 FE), class and
bytes 12-15 (R596, R597). -/
structure Report where
  src : Nat
  sev : Nat
  cls : Nat
  info : Nat
  deriving DecidableEq, Repr

/-- A report that waits at its reporter, one for each source number and unit (R601). -/
structure Waiting where
  unit : Nat
  rpt : Report
  rep : Nat
  deriving DecidableEq, Repr

/-- An entry of the error FIFO (R596). -/
structure LogEntry where
  time : Nat
  rpt : Report
  rep : Nat
  deriving DecidableEq, Repr

/-- A NoC access to the IC or ERR window that waits for the end of a debug halt (R595). -/
structure HeldAccess where
  ep : Nat
  write : Bool
  off : Nat
  value : Word
  deriving DecidableEq, Repr

/-- The interrupt controller (R579-R595): pending and latched sources, the source in service at each target, the
sources whose latest claim found their level high, those made pending by SW_PEND, the groups holding off, the user
lines whose input is high, whether the clock is stopped, and accesses held through a debug halt. -/
structure Ic where
  pending : NSet
  latch : NSet
  svc : Tbl (Option Nat)
  atClaim : NSet
  swPend : NSet
  holdoff : NSet
  userHigh : NSet
  asleep : Bool
  held : List HeldAccess
  deriving DecidableEq, Repr

/-- The error collector (R596-R604): the FIFO, oldest first; reports waiting at their reporters; the reports merged
or dropped during a halt (dropped: true), whose counts are made at the release (R595). -/
structure Err where
  fifo : List LogEntry
  waiting : List Waiting
  deferred : List (Report × Bool)
  deriving DecidableEq, Repr

/-! ## Planes (02, 03, 06, 07, 08) -/

/-- A stored frame (R261): the 64 data words and the CRC as written, and the stored bits that an upset or an injection
has inverted: bit `72 k + j` is bit `j` of code word `k`, bit `2304 + j` is bit `j` of the CRC. -/
structure Frame where
  words : List Word
  crc : Word
  flips : NSet
  deriving DecidableEq, Repr

/-- One configuration plane: its frames; the bus lines that each frame was written to drive, from which the owner counts come
(R61); and what its cells configure as they stand, bits inverted since included (R212, notes/assumptions/5.md): bus-driver
cells by frame, block memories, slices, flip-flop INIT values and logic settings by tile, sector clocks, global-network
selectors and crossing-FIFO sides by frame, fabric network interfaces with a user port, and designated probe-capture
blocks. -/
structure Plane where
  frames : Tbl Frame
  lines : Tbl (List Nat)
  cells : Tbl (List (Nat × Nat))
  bm : Tbl BmCfg
  sl : Tbl SliceCfg
  init : Tbl (BitVec 1024)
  logic : Tbl TileCfg
  clk : Tbl ClkCfg
  gclk : Tbl (List (Nat × ClkSrc))
  cross : Tbl (List (Nat × Nat × Nat))
  ports : NSet
  cap : NSet
  deriving DecidableEq, Repr

/-- What the device keeps of the container that filled a plane (R233, R283, R556): design ID and version, the digests of
its map, of its block digest table and of the container, whether it was encrypted, and where it came from (R275):
`origin` 0 nowhere, 1 flash, 2 NoC copy; `dev` and `addr` its place; the map's offset and length. -/
structure PlaneRec where
  id : Nat
  ver : Nat
  mapDig : Nat
  tabDig : Nat
  conDig : Nat
  enc : Bool
  origin : Nat
  dev : Nat
  addr : Nat
  mapOff : Nat
  mapLen : Nat
  deriving DecidableEq, Repr

/-- What the spec gives a region beside its registers: the minimum hold (R247), a RELEASE kept during it (R255), POST_HOLD at
the firing edge (R258), and the records of both planes (R233). -/
structure Rgn where
  minHold : Bool
  keptRel : Bool
  post : Bool
  act : Option PlaneRec
  shd : Option PlaneRec
  deriving DecidableEq, Repr

/-- The parts of a container header that later steps use (R181). -/
structure Header where
  flags : Nat
  id : Nat
  ver : Nat
  kind : Nat
  slot : Nat
  descs : List (List Byte)
  payLen : Nat
  payOff : Nat
  digOff : Nat
  blocks : Nat
  mapOff : Nat
  mapLen : Nat
  mapDig : Nat
  tagOff : Nat
  comp : Nat
  encAlg : Nat
  keySel : Nat
  iv : List Byte
  conDig : Nat
  tabDig : Nat
  deriving DecidableEq, Repr

/-- A load in progress (R181-R199, R221-R234): its path, the kind of container it takes (1 FULL, 2 PARTIAL, 3 FIRMWARE),
the region of a staging load, whether it tries the alternate image and after which failure code of
the primary (R667), its source, the bytes arrived (mailbox and JTAG), the
length the source gives, the header once checks 1 to 5 have passed, the next block, the packet bytes not yet executed,
the frame address, the frames written, the positions written (of a full load: the block memories given contents), whether
END has come, and whether a complete staging load waits for SHADOW_VERIFIED. -/
structure Load where
  path : LoadPath
  kind : Nat
  region : Nat
  alt : Bool
  pri : Option Nat
  dev : Nat
  addr : Nat
  len : Option Nat
  dirId : Option Nat
  bytes : List Byte
  hdr : Option Header
  blk : Nat
  buf : List Byte
  far : Option Nat
  frames : Nat
  written : NSet
  ended : Bool
  verify : Bool
  deriving DecidableEq, Repr

/-- The hold-load stream (R256, R257): its region and the index of its next packet. -/
structure HoldLoad where
  region : Nat
  index : Nat
  deriving DecidableEq, Repr

/-- A boot flash device (R171-R174): whether it answers, whether octal reads work, its bytes (an unlisted byte is erased,
0xFF). -/
structure Flash where
  fitted : Bool
  octal : Bool
  bytes : List Host.Cell
  deriving DecidableEq, Repr

/-- Boot and configuration state without a register (06_configuration_loading.md): the RESET phase; firmware verified and
running, its version and container digest; a clearing in progress and whether this configuration's first clearing has
completed; HOLD_LANES of the loaded container;
WIPE_HOLD holding the device in BOOT (R566); the loads and the hold-load stream; the flash devices. -/
structure Boot where
  inReset : Bool
  fw : Bool
  fwVer : Nat
  fwDig : Nat
  clearing : Bool
  cleared : Bool
  holdLanes : Bool
  wipeHold : Bool
  loads : List Load
  hold : Option HoldLoad
  flash0 : Flash
  flash1 : Flash
  deriving DecidableEq, Repr

/-- A firing request at the gate (R239): regions, source bit, the engine and generation of a Skemer result, and the regions that
were in their minimum hold when a strobe arrived (R245). -/
structure FireReq where
  regions : NSet
  src : Nat
  skm : Option (Nat × Nat)
  held : NSet
  deriving DecidableEq, Repr

/-- A finding waiting for its map lookup (R277, R278): frame position, plane (true: shadow), kind (1 correctable,
2 uncorrectable, 3 CRC mismatch only), the erroneous data bits as `64 k + j`, and whether a code word held two or more. -/
structure Finding where
  key : Nat
  shd : Bool
  kind : Nat
  bits : NSet
  words : NSet
  deriving DecidableEq, Repr

/-- The firing gate (R239-R243): requests for the next edge, and refusals of reason 0x06 that a halt keeps (region and
source bits, R241). -/
structure Gate where
  reqs : List FireReq
  kept : List (Nat × Nat)
  deriving DecidableEq, Repr

/-- A page of an essential-bit map in the cache (R277): the record of the plane it serves, its number, its bytes. -/
structure MapPage where
  rec_ : PlaneRec
  page : Nat
  bytes : List Byte
  deriving DecidableEq, Repr

/-- The scrubber (08): the position each engine reads next, the engines that skip this wedging, findings waiting for a
lookup, the map pages in the cache (most recent first), the refetch queue (position, plane, essential), the frames found
not repaired, the frame fetched and its words, the regions (32: none) with an uncorrectable active frame in this wedging, the
upset injected and not yet found, and
a voted register with one copy inverted. -/
structure Scrub where
  pos : Tbl Nat
  skip : NSet
  finished : NSet
  look : List Finding
  cache : List MapPage
  queue : List (Nat × Bool × Bool)
  lost : List (Nat × Bool)
  fetched : Option (Nat × Bool × Option (List Word))
  dirty : NSet
  inj : Option (Nat × Bool)
  voter : Bool
  deriving DecidableEq, Repr

/-- The probe path of a sector: next buffer index, samples left after the trigger, blocks of the capture last run (R79-R85);
alignment words still to send on the PROBE pins (R77); the samples taken and not yet delivered, oldest first, and the sample
delivered last (R72); the lanes, as tile and signal, that an apply has replaced and the sampling edges that still use them
(R73). -/
structure Probe where
  idx : Nat
  left : Nat
  first : Nat
  count : Nat
  align : Nat
  pipe : List (BitVec 64)
  word : BitVec 64
  old : List (Nat × Nat)
  oldLeft : Nat
  deriving DecidableEq, Repr

/-- A stored block-memory word (R89, R90, R261): its 72 bits as written, whether check bits were made for its data, and
the bits inverted since. -/
structure BmWord where
  raw : BitVec 72
  ecc : Bool
  flips : NSet
  deriving DecidableEq, Repr

/-- What a port presents (R91-R101): DOUT, SBE, DBE and WAIT. -/
structure PortOut where
  dout : BitVec 72
  sbe : Bool
  dbe : Bool
  wait : Bool
  deriving DecidableEq, Repr

/-- A read-modify-write that is not yet complete (R98, R100): its port and its stored word. -/
structure Rmw where
  portB : Bool
  word : Nat
  deriving DecidableEq, Repr

/-- A queue controller (R109-R119): write and read pointers, each side's count, effects still crossing to the other side,
the output buffer (FWFT) with the flags of each word, DOUT (none: nothing read since GSR) with SBE and DBE, OVF and UDF of the
latest cycle, RST, and the sides still in reset. -/
structure Queue where
  wp : Nat
  rp : Nat
  wrCount : Nat
  rdCount : Nat
  toRd : Nat
  toWr : Nat
  buf : List (BitVec 72 × Bool × Bool)
  dout : Option (BitVec 72)
  sbe : Bool
  dbe : Bool
  ovf : Bool
  udf : Bool
  rst : Bool
  rstW : Bool
  rstR : Bool
  deriving DecidableEq, Repr

/-- An operation as it is presented to a slice (R124-R129). -/
structure SliceOp where
  x0 : BitVec 27
  x1 : BitVec 27
  y : BitVec 24
  k : BitVec 58
  fn : Nat
  psub : Bool
  valid : Bool
  deriving DecidableEq, Repr

/-- An operation behind the pre-adder: the operation, the multiplier operand G, and PS. -/
structure SlicePs where
  op : SliceOp
  g : BitVec 24
  ps : BitVec 27
  deriving DecidableEq, Repr

/-- An operation behind the multiplier: the operation and PR. -/
structure SlicePr where
  op : SliceOp
  pr : BitVec 51
  deriving DecidableEq, Repr

/-- An arithmetic slice (R124-R131): the operation presented last; the register stages I1, I2, PS, PR, ACC with OVF, and SO with
OFLOW; VALID as it travels with ACC and OUT; and whether the next operation loads (R141). -/
structure Slice where
  inp : SliceOp
  i1 : SliceOp
  i2 : SliceOp
  ps : SlicePs
  pr : SlicePr
  acc : BitVec 58
  ovf : Bool
  accV : Bool
  out : BitVec 58
  oflow : Bool
  outV : Bool
  load : Bool
  deriving DecidableEq, Repr

/-- An exponent group, held at its head (R133-R142): samples counted, least headroom so far, headroom of the latest block
closed, the headroom that sets the shift in effect (none: OW - 1), the headrooms of closes not yet in effect, each with whether a
valid sample has come since, and the outputs EXP_LATE, CYC_PULSE and CYC_MISS; a cone start delivered and not yet taken. -/
structure Group where
  count : Nat
  low : Option Nat
  h : Option Nat
  eff : Option Nat
  next : List (Nat × Bool)
  expLate : Bool
  pulse : Bool
  miss : Bool
  cone : Bool
  deriving DecidableEq, Repr

/-- The fabric's memories: words written, loss counts by sector (R107), what the ports present (none: nothing since GSR, R93), the
read-modify-writes under way, queue controllers, the entries of the crossing FIFOs (R161), slices and exponent groups; the
sectors whose fabric PLL holds the gates of the networks it feeds closed after a loss (R164) or a change at a firing (R156);
probes and the sector on the PROBE pins; flip-flops that differ from the INIT value of their tile in the active plane (R44,
R65, R250); GSR, and the leaf networks that have had their release edge, as a mask by sector (R66, R67); what isolation cells
and user I/O cells hold (R248, R249); the sectors whose unlisted words a scan entry has written to zero (R622). -/
structure Fabric where
  words : Tbl (Option BmWord)
  loss : Tbl Nat
  out : Tbl (Option PortOut)
  rmw : Tbl (Option Rmw)
  queues : Tbl Queue
  entries : Tbl (BitVec 36)
  slices : Tbl Slice
  groups : Tbl Group
  stopped : NSet
  relock : NSet
  probe : Tbl Probe
  pins : Option Nat
  ff : Tbl (BitVec 1024)
  gsr : Bool
  released : Tbl Nat
  iso : Tbl (Option Bool)
  io : Tbl (Option (Bool × Bool))
  zero : NSet
  deriving DecidableEq, Repr

/-! ## The network on chip (09) -/

/-- A packet (R300). `loc` is the channel-local address that the requesting interface's map gave an RLD request (R472). -/
structure Packet where
  route : Nat
  vn : Nat
  dbg : Bool
  poison : Bool
  status : Nat
  cmd : Nat
  ltag : Nat
  src : Nat
  dst : Nat
  addr : Nat
  loc : Nat
  len : Nat
  data : List Byte
  deriving DecidableEq, Repr

/-- A packet in the network and the router that holds it. -/
structure Flight where
  at' : Nat
  pkt : Packet
  deriving DecidableEq, Repr

/-- An outstanding tag of a network interface: the request, and the pool flits reserved (R313). -/
structure Tag where
  ni : Nat
  ltag : Nat
  flits : Nat
  pkt : Packet
  deriving DecidableEq, Repr

/-- A response handed to an endpoint. -/
structure Completion where
  ni : Nat
  ltag : Nat
  status : Nat
  data : List Byte
  deriving DecidableEq, Repr

/-- The network: packets in flight, packets accepted by a target's NI and not yet performed, requests waiting at a fabric
NI for user logic, requests taken by user logic, outstanding tags, routers with a port change in progress and its new
mask, and the latest completions, newest first. -/
structure Noc where
  flight : List Flight
  arrived : List Packet
  held : List Packet
  taken : List Packet
  tags : List Tag
  rcfg : Tbl (Option Nat)
  done : List Completion
  deriving DecidableEq, Repr

/-! ## The security block (17) -/

/-- The fuses (R550). Each field is a number of its bits; `bad` holds the field codes whose read-back differed (R563). -/
structure Fuses where
  lc : Nat
  bind : Nat
  dus : Nat
  okey : Tbl Nat
  okeyP : Nat
  orev : Nat
  vrev : Nat
  bk : Tbl Nat
  bkP : Nat
  skey : Tbl Nat
  skeyP : Nat
  ceil : Nat
  srev : Nat
  pwd : Nat
  pwdP : Nat
  policy : Nat
  bad : NSet
  deriving DecidableEq, Repr

/-- A fuse field being programmed (R562): field code, value, ceiling of a session-key slot, and the mailbox whose request
waits for it. -/
structure FuseProg where
  field : Nat
  value : Nat
  ceil : Nat
  client : Option Nat
  deriving DecidableEq, Repr

/-- The security block beside its registers: a wipe in progress and wipes merged into it (R564), a fuse field being
programmed (R562), the data words of SEC_FUSE_DATA, keys held in the decryption engine (R559), the seed of
the attestation key pair (R574), draws taken from the random source. -/
structure Sec where
  wiping : Bool
  merged : Nat
  prog : Option FuseProg
  fdata : Tbl Word
  engine : List (LoadPath × Nat)
  attest : Option (BitVec 256)
  draws : Nat
  deriving DecidableEq, Repr

/-! ## Network time (13) -/

/-- A cone beside its registers (R440, R442): its current target in units of 2^-16 ns, and the events left (none: no
limit). -/
structure Cone where
  tgt : Nat
  left : Option Nat
  deriving DecidableEq, Repr

/-- An entry of a capture FIFO (R449): capture number, a falling edge, and the stamp in units of 2^-16 ns. -/
structure CapEntry where
  cap : Nat
  fall : Bool
  time : Nat
  deriving DecidableEq, Repr

/-- The time unit beside its registers (13): the domain counters in units of 2^-48 ns (R422, R423), the slew not yet added
(same unit, R429), the servo integrators in units of 2^-39 ppb (R433), the low words written to TIM_TD_OFFS_LO, the sample
in processing and the one held (R435), the time-clock cycles since the first lock, cones, events on their way with the cycle of their delivery (R162), the
cycle at which each TIME_EVT pulse ends (R446), the cycle after each PPS_OUT leading edge and the outputs whose domain
jumped since (R438), the cycle after each accepted PPS_IN edge (R439) and capture (R447), the capture and the two-step
FIFOs (R449, R463), the time-stamp word presented with the latest receive word (R454), the latest frame sent (R461), and the cycle
after each domain's latest jump (R451). -/
structure Tim where
  ctr : Tbl Nat
  slew : Tbl Int
  integ : Tbl Int
  offsLo : Tbl Word
  busy : Tbl (Option Int)
  wait : Tbl (Option Int)
  cycles : Nat
  cone : Tbl Cone
  deliv : List (Nat × Nat)
  evt : Tbl Nat
  ppsLead : Tbl Nat
  ppsJump : NSet
  ppsIn : Tbl Nat
  capLast : Tbl Nat
  fifo : Tbl (List CapEntry)
  tsf : Tbl (List (Nat × Nat))
  rxTs : Tbl (Option Nat)
  sent : Tbl (List Byte)
  jumpAt : Tbl Nat
  deriving DecidableEq, Repr

/-! ## Lanes, coding, Skemer (10, 11, 12) -/

/-- A lane beside its registers: the PMA settings it runs with since its last lane-safe point (R343), the coding mode in use
(R374, R405), initial adaptation in progress and due (R353), a PLL lost and not yet back (R359), errors to inject into the
next symbols (R362), and the length of the eye scan in progress (R364). -/
structure Lane where
  rate : Word
  rpll : Word
  rfrac : Word
  ffe : Word
  eq : Word
  mode : Word
  lcpll : Word
  lcfrac : Word
  adapt : Bool
  due : Bool
  relock : Bool
  inj : Nat
  dwell : Nat
  deriving DecidableEq, Repr

/-- A quad beside its registers: the settings its LC PLL runs with (R342, R344), and the frequencies of its reference inputs
in Hz (R338). -/
structure Quad where
  lcpll : Word
  lcfrac : Word
  lcOn : Bool
  ref0 : Nat
  ref1 : Nat
  deriving DecidableEq, Repr

/-- A Skemer engine beside its registers (R416): the template of the override, candidates still to try in LISTEN, the
latest ordered set (type, payload) with the number of equal ones in a row, ABORT still being sent, the generation of the
result, whether it came from LISTEN, a release that waits for the crossing after a firing (R420), and the units that the lead
lane has still to send of an ordered set or idle pattern it has begun (R410, R418). -/
structure Skm where
  tpl : Nat
  cands : List Nat
  last : Nat × Nat
  run : Nat
  abort : Bool
  gen : Nat
  legacy : Bool
  rel : Bool
  out : List (BitVec 66)
  deriving DecidableEq, Repr

/-- A unit that a receive port presents (R370): byte, block or 32 line bits, with its flags. -/
structure RxUnit where
  data : BitVec 66
  k : Bool
  ce : Bool
  de : Bool
  err : Bool
  deriving DecidableEq, Repr

/-- The coding layer of a lane: the running disparities (R380), `true` for RD+; the scramblers (R386); blocks since the latest group
marker and its next sequence number (R395); blocks that wait for their codeword and codewords sent (R390); the symbols sent
last, with the four before them, and the last one precoded, sent and received (R335, R347); the pattern generator's state and place (R361); commas
in a row and the errors among the latest symbols or headers (R382, R387), valid headers in a row; blocks still to come of an
uncorrectable codeword (R391); the receive word under way, the word that the port presents, and whether it is valid (R372); the column tag
(R401); the place in the local-fault sequence (R400). -/
structure Coder where
  txRd : Bool
  rxRd : Bool
  txScr : BitVec 58
  rxScr : BitVec 58
  blocks : Nat
  seq : Nat
  fec : List (BitVec 66)
  cw : Nat
  line : List Nat
  pre : Nat
  rxPre : Nat
  prbs : BitVec 31
  pos : Nat
  commas : Nat
  hist : List Bool
  good : Nat
  bad : Nat
  word : List RxUnit
  rx : List RxUnit
  valid : Bool
  gcol : Nat
  lf : Nat
  deriving DecidableEq, Repr

/-- All lanes, quads and engines. -/
structure Serdes where
  lane : Tbl Lane
  coder : Tbl Coder
  quad : Tbl Quad
  skm : Tbl Skm
  deriving DecidableEq, Repr

/-! ## Pins and supplies (06, 16, 20) -/

/-- Pins and supplies beside SYS_SUPPLY and SYS_VCCIO (R167, R170, R211, R532, R641, R644): the internal power-on reset is
asserted, PORST_N, CFG_START_N, PULL_SEL, I2C_ADDR as sampled, and the silicon revision
of IDCODE[31:28] (R4). -/
structure Board where
  por : Bool
  porstN : Bool
  startN : Bool
  pullSel : Bool
  i2c : Nat
  rev : Nat
  deriving DecidableEq, Repr

/-! ## The scratchpad (16) -/

/-- A march slice under way (R524-R527): its first word, its length, and PRESERVING mode. -/
structure March where
  first : Nat
  size : Nat
  preserve : Bool
  deriving DecidableEq, Repr

/-- The scratchpad (R521): words that differ from zero with correct check bits (R518), the march slice under way, and the
handler window as first byte and length (R526). -/
structure Pad where
  words : Tbl BmWord
  march : Option March
  window : Option (Nat × Nat)
  deriving DecidableEq, Repr

/-! ## Mailboxes and firmware (16, 17) -/

/-- A mailbox (R528-R540): the request being assembled (none: not begun), requests committed and not yet taken, the request
in progress with the protocol version it is processed at (256 VMAJ + VMIN), the steps firmware has done for it and the
payload gathered so far, responses waiting, the read pointer into the head response, the word of the latest JTAG pop with whether
it found one (R534), and a byte of the latest I2C APPEND that was not acknowledged (R533). -/
structure Mbx where
  asm : Option (List Byte)
  reqs : List (List Byte)
  cur : Option (List Byte)
  ver : Nat
  step : Nat
  got : List Byte
  rsps : List (List Byte)
  rp : Nat
  word : Word
  valid : Bool
  nack : Bool
  deriving DecidableEq, Repr

/-- A session (R569-R573): handle, mailbox, version, mode, slot, privilege, idle timeout in seconds, the two nonces, and
whether its challenge is complete. -/
structure Session where
  handle : Nat
  mbx : Nat
  vmaj : Nat
  vmin : Nat
  mode : Nat
  slot : Nat
  priv : Nat
  idle : Nat
  hostNonce : List Byte
  devNonce : List Byte
  isOpen : Bool
  deriving DecidableEq, Repr

/-- Firmware: sessions, consecutive authentication failures and the mailboxes locked out (R572), the totals of LOG_COUNTERS
by class and of drops (R606), the mailbox that began the latest load, that load's result once it has ended
(code and block; code 0 success), and the mailbox whose request waits for a staging load from flash. -/
structure Fw where
  sessions : List Session
  fails : Tbl Nat
  locked : NSet
  lost : Tbl Nat
  drops : Nat
  loader : Option Nat
  result : Option (Nat × Nat)
  stager : Option Nat
  deriving DecidableEq, Repr

/-! ## Self-test (19) -/

/-- A self-test slice under way: target, unit, whether it belongs to a run of R614, and for a scratchpad slice how its march
stands: 0 running, 1 passed, 2 failed, 3 yielded. -/
structure IstSlice where
  tgt : Nat
  unit : Nat
  run : Bool
  march : Nat
  deriving DecidableEq, Repr

/-- The self-test controller (R610-R614): slices under way; the next unit of each target of the sweep; units of the sweep to try again,
with their abandons in a row; the target, the units left and the next unit of the run, and its units to try again. -/
structure Ist where
  slices : List IstSlice
  next : Tbl (Option Nat)
  retry : List (Nat × Nat × Nat)
  tgt : Nat
  left : Nat
  unit : Nat
  again : List (Nat × Nat × Nat)
  deriving DecidableEq, Repr

/-! ## The test access port (19) -/

/-- The TAP (R616-R626): the instruction in effect, the cells of the boundary register (R619), the tag of the debug master's
outstanding access (0 a read, 1 a write), and the data and STATUS of its latest completed read. -/
structure Tap where
  ir : Nat
  cells : BitVec 3508
  busy : Option Nat
  data : Word
  status : Nat
  deriving DecidableEq, Repr

/-! ## Run control (19) -/

/-- Run control beside its registers: the freeze options sampled when the halt began (R631), a STEP in progress (R630), and
the clearing of SCAN_ENTRY in progress (R622). -/
structure Dbg where
  frz : Word
  frzSect : Word
  step : Bool
  scanning : Bool
  deriving DecidableEq, Repr

/-! ## The RLD controllers (14, 15) -/

/-- A request at a port of a channel (R477-R480): a number of its own, its port and packet, the command slot of its arrival,
the lines already placed in bank queues, and the bytes of the lines already read, with an uncorrectable error among them. -/
structure McReq where
  id : Nat
  port : Nat
  pkt : Packet
  slot : Nat
  next : Nat
  got : Tbl (List Byte)
  bad : Bool
  deriving DecidableEq, Repr

/-- A line in a bank queue (R480, R481): its request, port and arrival slot, bank and line index, and for a write the first
byte in the line, the bytes, and whether they arrived poisoned (R490). -/
structure McEnt where
  req : Nat
  port : Nat
  slot : Nat
  bank : Nat
  line : Nat
  write : Bool
  off : Nat
  bytes : List Byte
  poison : Bool
  deriving DecidableEq, Repr

/-- A command in the retry buffer (R495). -/
inductive McCmd where
  | access (e : McEnt)
  | refresh (bank : Nat)
  deriving DecidableEq, Repr

/-- A read issued whose data have not been returned: its slot, and each word with 0 good, 1 corrected, 2 double-bit error. -/
structure McRead where
  ent : McEnt
  slot : Nat
  words : List (BitVec 64 × Nat)
  deriving DecidableEq, Repr

/-- A channel beside its registers (14): its requests and queued lines, oldest first; reads under way; the retry buffer with
the slot of each command; the command slot; the slot at which each bank is free; refreshes owed by each bank, the time
toward the next, the bank it goes to (R484); the port each bank served last, the bank and the direction of the latest data
command and the commands in that direction in a row (R481, R482); the slots after the latest read and write command;
tokens taken from each port's bucket (R478); ALERT_N seen and not yet replayed, alerts in a row; frozen by a halt, a freeze
or a halt's freeze waiting for READY (R498); the slot of the self-refresh command; the next request number; a commit of the
delay sets that waits for its command slot (R505); the banks whose queue a line has reached, or whose channel has left READY, since
the latest self-test slice of the channel began (R609). -/
structure Mc where
  reqs : List McReq
  q : List McEnt
  reads : List McRead
  buf : List (Nat × McCmd)
  slot : Nat
  free : Tbl Nat
  owed : Tbl Nat
  acc : Nat
  rot : Nat
  lastPort : Tbl Nat
  lastBank : Nat
  dir : Option Bool
  run : Nat
  rdAt : Nat
  wrAt : Nat
  spent : Tbl Nat
  alert : Bool
  alerts : Nat
  halt : Bool
  want : Bool
  wantHalt : Bool
  srAt : Nat
  fresh : Nat
  commit : Bool
  arrived : NSet
  deriving DecidableEq, Repr

/-- RLD memory: the words written since the contents were lost, the loss count of each channel (R471), and the channels
whose other words the initialiser has written (R493). -/
structure Rld where
  words : Tbl (Option BmWord)
  loss : Tbl Nat
  zero : NSet
  deriving DecidableEq, Repr

/-! ## Clocks (05) -/

/-- The clock block beside its registers: the clock that a measurement in progress counts (R166), and the clocks that have been
enabled since power-on reset, by their codes (R163). -/
structure Clk where
  meas : Nat
  seen : NSet
  deriving DecidableEq, Repr

/-- What stops the machine with a fault. No command of this block does: every row of the table has an effect. -/
inductive Fault where
  /-- Raised by nothing. Safe: it could only stop the model early. -/
  | noSuchEffect
  deriving DecidableEq, Repr

/-- What the model refuses. -/
inductive Refusal where
  /-- A row of the opcode table without a meaning yet; only an arm of Dispatch.lean answers it. Safe: the model stops
  where the hardware goes on. -/
  | notModelled (mnemonic : String)
  deriving DecidableEq, Repr

/-- The state of the device. `cross` holds the blocks whose crossing of R251 is still to come, `out` the bytes that the latest
read, status transfer or capture gave outside (notes/assumptions/16.md), `draws` the free values drawn so far
(notes/assumptions/2.md). -/
structure State where
  csr : Tbl Word
  stg : Tbl Word
  ic : Ic
  err : Err
  act : Plane
  shd : Plane
  rgn : Tbl Rgn
  base : Option PlaneRec
  boot : Boot
  gate : Gate
  scrub : Scrub
  fab : Fabric
  noc : Noc
  fuses : Fuses
  sec : Sec
  tim : Tim
  ser : Serdes
  board : Board
  pad : Pad
  mbx : Tbl Mbx
  fw : Fw
  ist : Ist
  tap : Tap
  dbg : Dbg
  mc : Tbl Mc
  rld : Rld
  clk : Clk
  cross : List Bound
  out : List Byte
  draws : Nat
  pending : List Instr
  deriving DecidableEq, Repr

/-- A plane after power-on: nothing configured. -/
def Plane.reset : Plane := ⟨[], [], [], [], [], [], [], [], [], [], [], []⟩

/-- No flash device answers. -/
def Flash.reset : Flash := ⟨false, false, []⟩

/-- The fuses of a new device (notes/assumptions/8.md): BIND names the Decica base key, every other bit is 0. -/
def Fuses.reset : Fuses :=
  { lc := 0, bind := 1, dus := 0, okey := [], okeyP := 0, orev := 0, vrev := 0, bk := [], bkP := 0, skey := []
    skeyP := 0, ceil := 0, srev := 0, pwd := 0, pwdP := 0, policy := 0, bad := [] }

/-- The device at the end of power-on reset, in the RESET phase (R17, R201): every register at the value of its table,
every other part empty or at rest; pins, supplies and fuses as notes/assumptions/8.md and 10.md say. -/
def State.reset : State :=
  { csr := [], stg := []
    ic := { pending := [], latch := [], svc := [], atClaim := [], swPend := [], holdoff := [], userHigh := []
            asleep := false, held := [] }
    err := { fifo := [], waiting := [], deferred := [] }
    act := Plane.reset, shd := Plane.reset, rgn := [], base := none
    boot := { inReset := true, fw := false, fwVer := 0, fwDig := 0, clearing := false, cleared := false
              holdLanes := false, wipeHold := false, loads := [], hold := none, flash0 := Flash.reset
              flash1 := Flash.reset }
    gate := { reqs := [], kept := [] }
    scrub := { pos := [], skip := [], finished := [], look := [], cache := [], queue := [], lost := []
               fetched := none, dirty := [], inj := none, voter := false }
    fab := { words := [], loss := [], out := [], rmw := [], queues := [], entries := [], slices := [], groups := []
             stopped := [], relock := [], probe := [], pins := none, ff := [], gsr := true, released := [], iso := []
             io := [], zero := [] }
    noc := { flight := [], arrived := [], held := [], taken := [], tags := [], rcfg := [], done := [] }
    fuses := Fuses.reset
    sec := { wiping := false, merged := 0, prog := none, fdata := [], engine := [], attest := none, draws := 0 }
    tim := { ctr := [], slew := [], integ := [], offsLo := [], busy := [], wait := [], cycles := 0, cone := []
             deliv := [], evt := [], ppsLead := [], ppsJump := [], ppsIn := [], capLast := [], fifo := [], tsf := []
             rxTs := [], sent := [], jumpAt := [] }
    ser := { lane := [], coder := [], quad := [], skm := [] }
    board := { por := false, porstN := true, startN := true, pullSel := false, i2c := 0, rev := 1 }
    pad := { words := [], march := none, window := none }
    mbx := []
    fw := { sessions := [], fails := [], locked := [], lost := [], drops := 0, loader := none, result := none
            stager := none }
    ist := { slices := [], next := [], retry := [], tgt := 0, left := 0, unit := 0, again := [] }
    tap := { ir := 0x02, cells := 0, busy := none, data := 0, status := 0 }
    dbg := { frz := 0, frzSect := 0, step := false, scanning := false }
    mc := [], rld := { words := [], loss := [], zero := [] }, clk := { meas := 0, seen := [] }
    cross := [], out := [], draws := 0, pending := [] }

end Sys2Proof.Machine
end

