-- ==== Sys2Proof/Machine/Coding.lean ====
section
/-! DEFINITION. Coding.lean: the codes of the lanes: 8b/10b, 64b/66b, Reed-Solomon, PAM4 and the test patterns
(10_lanes_physical.md R335, R347, R361; 11_lanes_coding_and_bonding.md R372, R378-R401). Where the spec names a clause of
IEEE 802.3 and gives no table of its own, the table is that clause's (PRESUMED, notes/assumptions/48.md). -/

namespace Sys2Proof.Machine

/-! ## 8b/10b (R378-R381)

A code is a number of ten bits, bit a the highest: `abcdei fghj` as the spec writes it. -/

/-- The RD- form abcdei of D*x*. -/
def code6 : List Nat :=
  [0b100111, 0b011101, 0b101101, 0b110001, 0b110101, 0b101001, 0b011001, 0b111000] ++
  [0b111001, 0b100101, 0b010101, 0b110100, 0b001101, 0b101100, 0b011100, 0b010111] ++
  [0b011011, 0b100011, 0b010011, 0b110010, 0b001011, 0b101010, 0b011010, 0b111010] ++
  [0b110011, 0b100110, 0b010110, 0b110110, 0b001110, 0b101110, 0b011110, 0b101011]

/-- The form fghj of D*x*.*y* that follows a negative running disparity. -/
def code4 : List Nat := [0b1011, 0b1001, 0b0101, 0b1100, 0b1101, 0b1010, 0b0110, 0b1110]

/-- The control codes and their RD- forms (R378). -/
def codeK : List (Nat × Nat) :=
  [(0x1C, 0b0011110100), (0x3C, 0b0011111001), (0x5C, 0b0011110101), (0x7C, 0b0011110011), (0x9C, 0b0011110010)] ++
  [(0xBC, 0b0011111010), (0xDC, 0b0011110110), (0xFC, 0b0011111000), (0xF7, 0b1110101000), (0xFB, 0b1101101000)] ++
  [(0xFD, 0b1011101000), (0xFE, 0b0111101000)]

/-- The number of ones among the low `w` bits. -/
def ones (w n : Nat) : Nat := ((List.range w).filter (fun i => n.testBit i)).length

/-- The running disparity after `w` bits: that of the bits where they are not balanced, else as before (R380). `true` is RD+. -/
def rdAfter (w n : Nat) (rd : Bool) : Bool := if ones w n * 2 = w then rd else w < ones w n * 2

/-- A sub-block in the column of a running disparity: in the RD+ column the complement of one that is not balanced, and of those
balanced ones that the clause gives two forms. -/
def column (w n : Nat) (two : Bool) (rd : Bool) : Nat :=
  if rd && (ones w n * 2 != w || two) then 2 ^ w - 1 - n else n

/-- The code of a data byte. -/
def encodeD (byte : Nat) (rd : Bool) : Nat :=
  let x := byte % 32
  let y := byte / 32 % 8
  let six := column 6 (code6.getD x 0) (x == 7) rd
  let rd6 := rdAfter 6 six rd
  let a7 := y == 7 && (if rd6 then [11, 13, 14].contains x else [17, 18, 20].contains x)
  let four := if a7 then (if rd6 then 0b1000 else 0b0111) else column 4 (code4.getD y 0) (y == 3) rd6
  six * 16 + four

/-- The code of a byte with its K flag, none for a control byte that R378 does not list. -/
def encode10 (k : Bool) (byte : Nat) (rd : Bool) : Option Nat :=
  if k then (codeK.find? (fun q => q.1 == byte)).map (fun q => if rd then 1023 - q.2 else q.2) else some (encodeD byte rd)

/-- The byte and K flag of a code in the column of a running disparity. -/
def lookup10 (code : Nat) (rd : Bool) : Option (Bool × Nat) :=
  match codeK.find? (fun q => (if rd then 1023 - q.2 else q.2) == code) with
  | some q => some (true, q.1)
  | none => ((List.range 256).find? (fun b => encodeD b rd == code)).map (fun b => (false, b))

/-- A received code (R380): what the port presents, and the running disparity after it. -/
def decode10 (code : Nat) (rd : Bool) : RxUnit × Bool :=
  match lookup10 code rd, lookup10 code !rd with
  | some q, _ => (⟨BitVec.ofNat 66 q.2, q.1, false, false, false⟩, rdAfter 10 code rd)
  | none, some q => (⟨BitVec.ofNat 66 q.2, q.1, false, true, false⟩, rdAfter 10 code rd)
  | none, none => (⟨0xFE, true, true, false, false⟩, rdAfter 10 code rd)

/-- A code holds the comma that COMMA_SEL asks for (R381). -/
def isComma (sel code : Nat) : Bool :=
  let c := code / 8 % 128
  if sel = 1 then c == 0b0011111 else if sel = 2 then c == 0b1100000 else c == 0b0011111 || c == 0b1100000

/-- The bits of a code in the order in which they are sent. -/
def bits10 (code : Nat) : List Bool := (List.range 10).map (fun i => code.testBit (9 - i))

/-! ## 64b/66b (R372, R386, R395, R400)

A block has its header in bits 1-0 and its payload in bits 65-2; bit 0 is sent first. -/

/-- A block from its header and payload. -/
def block66 (header payload : Nat) : BitVec 66 := BitVec.ofNat 66 (header % 4 + 4 * payload)

/-- Header and payload of a block. -/
def header66 (b : BitVec 66) : Nat := b.toNat % 4
def payload66 (b : BitVec 66) : Nat := b.toNat / 4

/-- A header that a block may have (R386). -/
def headerGood (b : BitVec 66) : Bool := header66 b == 1 || header66 b == 2

/-- The control block of eight /E/ codes (R372). -/
def blockE : BitVec 66 := block66 2 (0x1E + ((List.range 8).map (fun i => 0x1E * 2 ^ (8 + 7 * i))).sum)

/-- The local-fault block (R400). -/
def blockLf : BitVec 66 := block66 2 0x0100004B

/-- A group marker (R395). -/
def marker66 (seq index : Nat) : BitVec 66 :=
  block66 2 (0x4B + 0x47 * 2 ^ 8 + seq % 256 * 2 ^ 16 + index % 256 * 2 ^ 24 + 0x0A * 2 ^ 32)

/-- A block is a group marker of some sequence number and member. -/
def isMarker (b : BitVec 66) : Bool := b == marker66 (payload66 b / 2 ^ 16) (payload66 b / 2 ^ 24)

/-- One bit of the self-synchronising scrambler 1 + x^39 + x^58 (R386): the state holds the line bits before it, the latest in bit 0. -/
def scrBit (s : BitVec 58) : Bool := s.getLsbD 38 ^^ s.getLsbD 57
def scrNext (s : BitVec 58) (line : Bool) : BitVec 58 := s <<< 1 ||| BitVec.ofNat 58 (if line then 1 else 0)

/-- A payload scrambled or, with `rx`, descrambled, and the state after it. -/
def scramble (rx : Bool) (s : BitVec 58) (payload : Nat) : Nat × BitVec 58 :=
  (List.range 64).foldl (fun t i =>
    let b := payload.testBit i
    let o := b ^^ scrBit t.2
    (t.1 + (if o then 2 ^ i else 0), scrNext t.2 (if rx then b else o))) (0, s)

/-- The bits of a number in the order in which they are sent. -/
def sendBits (w n : Nat) : List Bool := (List.range w).map (fun i => n.testBit i)

/-! ## Reed-Solomon (R390) -/

/-- The parity symbols of a codeword and the symbols that it corrects: RS(528,514), RS(544,514). -/
def rsParity (code : Nat) : Nat := if code = 3 then 14 else 30
def rsCorrects (code : Nat) : Nat := if code = 3 then 7 else 15

/-- Product in GF(2^10) over x^10 + x^3 + 1. -/
def gfMul (a b : Nat) : Nat :=
  (List.range 10).foldl (fun t i =>
    let u := if 512 ≤ t then (t * 2 % 1024) ^^^ 9 else t * 2
    if b.testBit (9 - i) then u ^^^ a else u) 0

/-- The generator polynomial with roots alpha^0 to alpha^(p - 1), lowest coefficient first, the leading 1 left out. -/
def rsGen (p : Nat) : List Nat :=
  ((List.range p).foldl (fun (t : List Nat × Nat) _ =>
    let g := t.1
    (((0 :: g).zip (g ++ [0])).map (fun q => q.1 ^^^ gfMul t.2 q.2), gfMul t.2 2)) ([1], 1)).1.take p

/-- The parity symbols of a message, highest coefficient first. -/
def rsEncode (p : Nat) (msg : List Nat) : List Nat :=
  let g := (rsGen p).reverse
  msg.foldl (fun r m =>
    let f := m ^^^ r.headD 0
    ((r.tail ++ [0]).zip g).map (fun (q : Nat × Nat) => q.1 ^^^ gfMul f q.2)) (List.replicate p 0)

/-- Four blocks transcoded into 257 bits (IEEE 802.3 clause 91): the flag of four data blocks, or one bit for each block and the
payloads without the second half of the first control block's type; the first five bits are scrambled with the eight after. -/
def transcode (bs : List (BitVec 66)) : List Bool :=
  let data := fun (b : BitVec 66) => header66 b == 1
  let pay := bs.flatMap (fun b => sendBits 64 (payload66 b))
  let raw := if bs.all data then true :: pay
    else
      let c := bs.findIdx (fun b => !data b)
      [false] ++ bs.map data ++ pay.take (64 * c + 4) ++ pay.drop (64 * c + 8)
  (List.range 5).map (fun i => raw.getD i false ^^ raw.getD (i + 8) false) ++ raw.drop 5

/-- The number that ten bits make, the first the lowest. -/
def bitsNat (l : List Bool) : Nat := l.foldr (fun b n => (if b then 1 else 0) + 2 * n) 0

/-- A codeword of eighty blocks as it is sent. -/
def codeword (code : Nat) (bs : List (BitVec 66)) : List Bool :=
  let bits := (List.range 20).flatMap (fun i => transcode ((bs.drop (4 * i)).take 4))
  let msg := (List.range 514).map (fun i => bitsNat ((bits.drop (10 * i)).take 10))
  bits ++ (rsEncode (rsParity code) msg).flatMap (fun x => sendBits 10 x)

/-! ## Symbols and levels (R335, R347) -/

/-- The Gray code of PAM4, numbered by level from -3 (0) to +3 (3); the first bit of a pair is the more significant. -/
def gray (first second : Bool) : Nat := if first then (if second then 2 else 3) else (if second then 1 else 0)

/-- The bits of a PAM4 symbol. -/
def symbolBits (x : Nat) : List Bool := [decide (2 ≤ x), x == 1 || x == 2]

/-- Bits as PAM4 symbols. -/
def pamSymbols : List Bool → List Nat
  | a :: b :: r => gray a b :: pamSymbols r
  | _ => []

/-- The 1/(1+D) mod 4 precoding (IEEE 802.3 clause 135): the symbols sent and the last of them. -/
def precode (last : Nat) : List Nat → List Nat
  | [] => []
  | x :: r => let y := (x + 4 - last % 4) % 4; y :: precode y r

/-- Precoding undone at the receiver. -/
def unprecode (last : Nat) : List Nat → List Nat
  | [] => []
  | x :: r => (x + last) % 4 :: unprecode x r

/-- The level of a symbol in thirds of full swing: -3 and +3 in NRZ, -3, -1, +1 or +3 in PAM4. -/
def symLevel (pam4 : Bool) (x : Nat) : Int := if pam4 then 2 * (x : Int) - 3 else if x = 0 then -3 else 3

/-- The output level of the third of five symbols in time order, in units of full swing / 189 (R347). -/
def ffeLevel (pam4 : Bool) (taps : List Int) (syms : List Nat) : Int :=
  ((taps.zip syms.reverse).map (fun q => q.1 * symLevel pam4 q.2)).sum

/-! ## Test patterns (R361, R362) -/

/-- The taps of the PRBS polynomials 0x0-0x6. -/
def prbsTaps : Nat → List Nat
  | 0 => [7, 6]
  | 1 => [9, 5]
  | 2 => [11, 9]
  | 3 => [13, 12, 2, 1]
  | 4 => [15, 14]
  | 5 => [23, 18]
  | _ => [31, 28]

/-- The next bit of a PRBS: the state holds the bits before it, the latest in bit 0. -/
def prbsBit (p : Nat) (s : BitVec 31) : Bool := (prbsTaps p).foldl (fun b t => b ^^ s.getLsbD (t - 1)) false

/-- `k` bits of a PRBS and the state after them. -/
def prbsBits (p : Nat) : Nat → BitVec 31 → List Bool × BitVec 31
  | 0, s => ([], s)
  | k + 1, s =>
    let b := prbsBit p s
    let r := prbsBits p k (s <<< 1 ||| BitVec.ofNat 31 (if b then 1 else 0))
    (b :: r.1, r.2)

end Sys2Proof.Machine
end

