-- ==== Sys2Proof/Machine/Ops.lean ====
section
/-! DEFINITION. Ops.lean: reading and writing registers, raising interrupt sources and sending error reports. -/

namespace Sys2Proof.Machine

/-! ## Registers -/

/-- The value in effect of the register at a CSR offset (R20). -/
def State.reg (s : State) (off : Nat) : Word := Tbl.get resetOf s.csr off

/-- Set a register's value in effect. -/
def State.setReg (s : State) (off : Nat) (v : Word) : State := { s with csr := Tbl.set resetOf s.csr off v }

/-- The staging copy of a register (R19, R22). -/
def State.staged (s : State) (off : Nat) : Word := Tbl.get resetOf s.stg off

/-- Set a register's staging copy. -/
def State.setStaged (s : State) (off : Nat) (v : Word) : State := { s with stg := Tbl.set resetOf s.stg off v }

/-- A field in effect. -/
def State.fld (s : State) (off : Nat) (f : Fld) : Nat := (s.reg off).fget f

/-- Set a field in effect. -/
def State.setFld (s : State) (off : Nat) (f : Fld) (n : Nat) : State := s.setReg off ((s.reg off).fput f n)

/-- A one-bit field as a truth value. -/
def State.flag (s : State) (off : Nat) (f : Fld) : Bool := s.fld off f != 0

/-- Set a one-bit field. -/
def State.setFlag (s : State) (off : Nat) (f : Fld) (b : Bool) : State := s.setFld off f (b2n b)

/-- Bit `i` of a register. -/
def State.bit (s : State) (off i : Nat) : Bool := (s.reg off).getLsbD i

/-- Set bit `i` of a register. -/
def State.setBit (s : State) (off i : Nat) (b : Bool) : State := s.setFld off ⟨i, 1⟩ (b2n b)

/-- A saturating count in a field (the RC counters of the register tables). -/
def State.count (s : State) (off : Nat) (f : Fld) (n : Nat) : State := s.setFld off f (satAdd f.w (s.fld off f) n)

/-- A wrapping count in a field. -/
def State.countWrap (s : State) (off : Nat) (f : Fld) (n : Nat) : State := s.setFld off f (s.fld off f + n)

/-- A fresh free value (notes/assumptions/2.md): the next draw, and the state with the draw taken. -/
def State.draw (s : State) : Nat × State := ((Config.freeWord s.draws).toNat, { s with draws := s.draws + 1 })

/-- Do `f` to the state for each member of a list, in order. -/
def State.forEach {α : Type} (s : State) (l : List α) (f : State → α → State) : State := l.foldl f s

/-- `f` where the condition holds, the state unchanged elsewhere. -/
def State.when (s : State) (b : Bool) (f : State → State) : State := if b then f s else s

/-! ## Phase, halt and time -/

/-- The phase that CFG_BOOT_STAT.PHASE shows (R201); the RESET phase is held apart. -/
def State.phase (s : State) : Nat := if s.boot.inReset then 0 else s.fld R.CFG_BOOT_STAT F.CFG_BOOT_STAT_PHASE

/-- The USER phase (R201). -/
def State.user (s : State) : Bool := s.phase == 5

/-- The core is halted (R26, R628). -/
def State.halted (s : State) : Bool := s.flag R.DBG_STAT F.DBG_STAT_HALTED

/-- A freeze option is in force: the core is halted and the option was set when the halt began (R631). -/
def State.frozen (s : State) (f : Fld) : Bool := s.halted && s.dbg.frz.fget f != 0

/-- The fabric of a sector stands still: frozen (R631) or without power (R645). -/
def State.fabFrozen (s : State) (sec : Nat) : Bool :=
  (s.frozen F.DBG_FRZ_FAB && s.dbg.frzSect.getLsbD sec) || s.bit R.SYS_PD_STAT sec

/-- TD0 time in nanoseconds as a 64-bit number (R427): the counter holds units of 2^-48 ns. -/
def State.td0 (s : State) : Nat := Tbl.get (fun _ => 0) s.tim.ctr 0 / 2 ^ 48 % 2 ^ 64

/-! ## Interrupt sources -/

/-- A source raised by pulses: those of R579, and a user line whose TYPE is PULSE. -/
def State.isPulse (s : State) (n : Nat) : Bool :=
  if n < 512 then pulseSource n else s.flag (R.IC_SRC n) F.IC_SRC_TYPE

/-- Raise source `n` (R583): it becomes pending, or is held in its latch while the controller's clock is stopped (R593)
or the core halted (R595). Reserved sources are never pending (R582), and the controller is in reset until RESET ends (R146). -/
def State.raise (s : State) (n : Nat) : State :=
  if reservedSource n || s.boot.inReset then s
  else if s.ic.asleep || s.halted then { s with ic := { s.ic with latch := NSet.add s.ic.latch n } }
  else { s with ic := { s.ic with pending := NSet.add s.ic.pending n } }

/-- Raise source `n` where it is a pulse source. -/
def State.pulse (s : State) (n : Nat) : State := s.when (s.isPulse n) (fun t => t.raise n)

/-- Whether source `n` is in service at some target. -/
def State.inService (s : State) (n : Nat) : Bool := s.ic.svc.any (fun p => p.2 == some n)

/-- A level source is high (R583): it becomes pending unless it is in service (R588). -/
def State.high (s : State) (n : Nat) : State := s.when (!s.inService n) (fun t => t.raise n)

/-! ## Error reports -/

/-- A report offered to the first-error register of its source's group (R602). -/
def State.offerFirst (s : State) (r : Report) (time : Nat) : State :=
  let g := r.src / 16
  if s.bit (R.ERR_FIRST_VALID (g / 32)) (g % 32) then s
  else
    (((((s.setBit (R.ERR_FIRST_VALID (g / 32)) (g % 32) true).setReg (R.ERR_FIRST g 0) (BitVec.ofNat 32 time)).setReg
      (R.ERR_FIRST g 1) (BitVec.ofNat 32 (time / 2 ^ 32))).setReg
      (R.ERR_FIRST g 2) (BitVec.ofNat 32 (r.src + 2 ^ 16 * (64 * r.sev + r.cls)))).setReg
      (R.ERR_FIRST g 3) (BitVec.ofNat 32 r.info))

/-- The counts of an accepted report (R602), and the FE flag (R603). -/
def State.countReport (s : State) (r : Report) (time : Nat) : State :=
  ((s.count R.ERR_COUNT F.ERR_COUNT_COUNT 1).offerFirst r time)

/-- The counts of a dropped report (R600); an FE report still sets ERR_STAT.FE. -/
def State.countDrop (s : State) (r : Report) : State :=
  let f : Fld := if r.cls % 2 = 0 then F.ERR_LOST_EVEN else F.ERR_LOST_ODD
  let t := (((s.count (R.ERR_LOST (r.cls / 2)) f 1).setFlag R.ERR_STAT F.ERR_STAT_LOST true).count
    R.ERR_DROPS F.ERR_DROPS_COUNT 1)
  ((t.when (r.sev == 3) (fun u => (u.setFlag R.ERR_STAT F.ERR_STAT_FE true).high 0)).high 509)

/-- A further report merged into a waiting one or dropped (R601); during a halt its counts wait for the release (R595). -/
def State.mergeReport (s : State) (r : Report) (dropped : Bool) : State :=
  if s.halted then { s with err := { s.err with deferred := s.err.deferred ++ [(r, dropped)] } }
  else (s.countReport r s.td0).when dropped (fun t => t.countDrop r)

/-- Send a report from the reporter of its source number and `unit` (R601). A pulse source is raised by it (R580) unless
it is a record of R24 (R25). The reporter holds one report; a further one merges or is dropped. -/
def State.report (s : State) (unit : Nat) (r : Report) : State :=
  let t := s.when (r.cls != 0x18) (fun u => u.pulse r.src)
  match t.err.waiting.find? (fun w => w.rpt.src == r.src && w.unit == unit) with
  | none => { t with err := { t.err with waiting := t.err.waiting ++ [⟨unit, r, 0⟩] } }
  | some w =>
    if w.rpt = r then
      let ws := t.err.waiting.map (fun x => if x = w then { x with rep := satAdd 8 x.rep 1 } else x)
      State.mergeReport { t with err := { t.err with waiting := ws } } r false
    else t.mergeReport r true

/-- A record for an ignored LOCKED write (R24, R25), from the block's reporter. -/
def State.lockedRecord (s : State) (src inst loc : Nat) (reporter : Nat := inst) : State :=
  s.report reporter ⟨src, 0, 0x18, loc % 2 ^ 16 + 2 ^ 16 * (inst % 256)⟩

/-! ## Generic register writes -/

/-- What a write leaves of a register's value in effect: RW LIVE bits take the value, LOCKED bits take it while the block
enable reads 0, W1C bits clear and W1S bits set (R12, R18, R24). -/
def RegRow.after (r : RegRow) (open_ : Bool) (old v : Word) : Word :=
  let take := r.rw ||| (if open_ then r.lck else 0)
  ((old &&& ~~~ take) ||| (v &&& take)) &&& ~~~ (v &&& r.w1c) ||| (v &&& r.w1s)

/-- The staging copy after a write: STAGED bits take the value (R19, R21). -/
def RegRow.afterStaged (r : RegRow) (old v : Word) : Word := (old &&& ~~~ r.stg) ||| (v &&& r.stg)

/-- A write that carries an ignored LOCKED field at another value than the one in effect (R24). -/
def RegRow.lockedHit (r : RegRow) (open_ : Bool) (old v : Word) : Bool :=
  !open_ && ((old ^^^ v) &&& r.lck) != 0

/-- The plain effect of a write on one register (R18, R19, R24) without the unit's own actions: the new state, and
whether a LOCKED field was refused. An offset no table defines ignores the write (R16). -/
def State.rawWrite (s : State) (open_ : Bool) (off : Nat) (v : Word) : State × Bool :=
  match rowAt off with
  | none => (s, false)
  | some (r, _) =>
    let old := s.reg off
    let s1 := s.setReg off (r.after open_ old v)
    let s2 := if r.stg = 0 then s1 else s1.setStaged off (r.afterStaged (s.staged off) v)
    (s2, r.lockedHit open_ old v)

/-- The masks of the register at an offset that a given access or update class covers. -/
def stgMask (off : Nat) : Word := match rowAt off with | some (r, _) => r.stg | none => 0

/-- The bits an RC field covers. -/
def rcMask (off : Nat) : Word := match rowAt off with | some (r, _) => r.rc | none => 0

/-- The bits that hold nothing to read (WO; R12). -/
def woMask (off : Nat) : Word := match rowAt off with | some (r, _) => r.wo | none => 0

/-- APPLY of one register: its STAGED fields in effect take the staging copy, which then holds the value in effect
(R19, R22). -/
def State.applyReg (s : State) (off : Nat) : State :=
  let m := stgMask off
  let v := (s.reg off &&& ~~~ m) ||| (s.staged off &&& m)
  (s.setReg off v).setStaged off v

/-- A firing of one register: its STAGED fields in effect and in the staging copy exchange (R23, R251). -/
def State.exchangeReg (s : State) (off : Nat) : State :=
  let m := stgMask off
  let a := s.reg off
  let b := s.staged off
  (s.setReg off ((a &&& ~~~ m) ||| (b &&& m))).setStaged off ((b &&& ~~~ m) ||| (a &&& m))

/-- The registers of a list whose staging copy or value in effect has left the reset value. -/
def State.touched (s : State) (lo hi : Nat) : List Nat :=
  ((s.stg.map (fun p => p.1)) ++ (s.csr.map (fun p => p.1))).filter (fun o => lo ≤ o && o < hi) |>.eraseDups

end Sys2Proof.Machine
end

