-- ==== Sys2Proof/Machine/Planes.lean ====
section
/-! DEFINITION. Planes.lean: frame addresses, implemented frames, regions, and the two configuration planes
(07_twin_planes_and_firing.md, R212-R219; 08_upset_scrubbing.md, R261-R263). -/

namespace Sys2Proof.Machine

/-! ## Frame positions -/

/-- The position of a frame address: FAR bits [27:6] (R214). -/
def farKey (far : Nat) : Nat := far / 64 % 2 ^ 22

/-- The FAR of a position; PLANE as given. -/
def keyFar (key : Nat) (plane : Bool) : Nat := key * 64 + (if plane then 2 ^ 31 else 0)

/-- SECTOR, TCOL, TROW and FRAME of a position. -/
def keySector (key : Nat) : Nat := key / 2 ^ 17 % 32
def keyTcol (key : Nat) : Nat := key / 2 ^ 12 % 32
def keyTrow (key : Nat) : Nat := key / 2 ^ 7 % 32
def keyFrame (key : Nat) : Nat := key % 128

/-- The position of a frame. -/
def mkKey (sector tcol trow frame : Nat) : Nat := sector * 2 ^ 17 + tcol * 2 ^ 12 + trow * 2 ^ 7 + frame

/-- The block memories of a column's position range whose settings lie in tile row `trow` (R216). -/
def blocksAt (tcol trow : Nat) : List Nat :=
  if tcol % 4 = 1 then (List.range 32).filter (fun i => 5 * i / 8 == trow) |>.map (fun i => 32 * (tcol / 4) + i) else []

/-- The slice groups whose settings lie in a tile (R216). -/
def groupsAt (tcol trow : Nat) : List Nat :=
  if tcol % 4 = 3 then (List.range 16).filter (fun j => 10 * j / 8 == trow) |>.map (fun j => 16 * (tcol / 4) + j) else []

/-- The number of frames from 80 up that a tile implements beside its logic frames (R215). -/
def extraFrames (tcol trow : Nat) : Nat := 12 * (blocksAt tcol trow).length + 30 * (groupsAt tcol trow).length

/-- Whether a tile implements a frame (R215). -/
def implemented (tcol trow frame : Nat) : Bool :=
  frame < 80 + extraFrames tcol trow || (tcol == 0 && trow == 0 && 124 ≤ frame && frame < 128)

/-- A valid frame address (R190): PLANE 1, reserved bits 0, and a frame that its tile implements. -/
def farValid (far : Nat) : Bool :=
  far / 2 ^ 31 % 2 == 1 && far / 2 ^ 28 % 8 == 0 && far % 64 == 0 && keyTrow (farKey far) < 20 &&
    implemented (keyTcol (farKey far)) (keyTrow (farKey far)) (keyFrame (farKey far))

/-- The block memory that a frame belongs to, as `sector * 256 + block`. -/
def frameBlock (key : Nat) : Option Nat :=
  let f := keyFrame key
  if f < 80 then none
  else ((blocksAt (keyTcol key) (keyTrow key))[(f - 80) / 12]?).map (fun b => 256 * keySector key + b)

/-- The slice that a frame belongs to, as `sector * 384 + slice`. -/
def frameSlice (key : Nat) : Option Nat :=
  let f := keyFrame key
  if f < 80 || 110 ≤ f then none
  else ((groupsAt (keyTcol key) (keyTrow key))[0]?).map (fun g => 384 * keySector key + 3 * g + (f - 80) / 10)

/-- A sector clock frame (R151, R215). -/
def isClockFrame (key : Nat) : Bool := keyTcol key == 0 && keyTrow key == 0 && 124 ≤ keyFrame key

/-- The tile of a frame as `sector * 640 + TROW * 32 + TCOL`. -/
def keyTile (key : Nat) : Nat := 640 * keySector key + 32 * keyTrow key + keyTcol key

/-- The next implemented position of a sector in pass order (R265): frame, then row, then column. -/
def nextPos (tcol trow frame : Nat) : Option (Nat × Nat × Nat) :=
  if frame + 1 < 80 + extraFrames tcol trow then some (tcol, trow, frame + 1)
  else if tcol == 0 && trow == 0 && frame < 127 then some (0, 0, max 124 (frame + 1))
  else if trow < 19 then some (tcol, trow + 1, 0)
  else if tcol < 31 then some (tcol + 1, 0, 0)
  else none

/-! ## Regions -/

/-- The region table defines region `r` (CFG_RGN_DESC.TYPE). -/
def State.rgnDefined (s : State) (r : Nat) : Bool := s.fld (R.CFG_RGN_DESC r) F.CFG_RGN_DESC_TYPE != 0

/-- Region `r` includes a tile (R218), whatever lower-numbered regions do. -/
def State.rgnCovers (s : State) (r sector tcol trow : Nat) : Bool :=
  let d := R.CFG_RGN_DESC r
  match s.fld d F.CFG_RGN_DESC_TYPE with
  | 1 => s.fld d F.CFG_RGN_DESC_SECTOR == sector && s.fld d F.CFG_RGN_DESC_TCOL_LO ≤ tcol &&
      tcol ≤ s.fld d F.CFG_RGN_DESC_TCOL_HI && s.fld d F.CFG_RGN_DESC_TROW_LO ≤ trow &&
      trow ≤ s.fld d F.CFG_RGN_DESC_TROW_HI
  | 2 => s.bit (R.CFG_RGN_SMASK r) sector
  | _ => false

/-- The region of a tile: the lowest-numbered that includes it (R218). -/
def State.tileRegion (s : State) (sector tcol trow : Nat) : Option Nat :=
  (List.range 32).find? (fun r => s.rgnCovers r sector tcol trow)

/-- The region of a frame; sector clock frames belong to the lowest-numbered sector-set region of the sector (R218). -/
def State.frameRegion (s : State) (key : Nat) : Option Nat :=
  if isClockFrame key then
    (List.range 32).find? (fun r => s.fld (R.CFG_RGN_DESC r) F.CFG_RGN_DESC_TYPE == 2 &&
      s.bit (R.CFG_RGN_SMASK r) (keySector key))
  else s.tileRegion (keySector key) (keyTcol key) (keyTrow key)

/-- The region of a block memory `sector * 256 + block` (R216, R219). -/
def State.blockRegion (s : State) (k : Nat) : Option Nat :=
  s.tileRegion (k / 256) (4 * (k % 256 / 32) + 1) (5 * (k % 32) / 8)

/-- The region of a slice `sector * 384 + slice` (R216, R219). -/
def State.sliceRegion (s : State) (k : Nat) : Option Nat :=
  s.tileRegion (k / 384) (4 * (k % 384 / 48) + 3) (10 * (k % 384 % 48 / 3) / 8)

/-- The sector where the fabric ports of a quad lie (R296, R368). -/
def portSector (q : Nat) : Nat :=
  let i := q % 18
  let r := if i < 3 then 0 else if i < 9 then 1 + (i - 3) / 2 else if i < 12 then 4 else 5 + (i - 12) / 2
  4 * r + (if q ≤ 17 then 0 else 3)

/-- The tile of the fabric port of fabric interface `e`, or of lane `e - 64`: sector, TCOL, TROW. That of an interface lies on the west
edge of its sector when `e` is even (R320), that of a lane on the edge that R368 gives its quad. -/
def portTile (e : Nat) : Nat × Nat × Nat :=
  if e < 64 then (e / 2, if e % 2 = 0 then 0 else 31, Config.niRow e % 20)
  else (portSector ((e - 64) / 4), if (e - 64) / 4 ≤ 17 then 0 else 31, Config.niRow e % 20)

/-- The region that holds it. -/
def State.niRegion (s : State) (e : Nat) : Option Nat := s.tileRegion (portTile e).1 (portTile e).2.1 (portTile e).2.2

/-- The region of user line `u`'s port cells (R581). -/
def State.lineRegion (s : State) (u : Nat) : Option Nat :=
  s.tileRegion (u / 16) (Config.irqTile u % 640 % 32) (Config.irqTile u % 640 / 32)

/-- The sectors that region `r` lies in. -/
def State.rgnSectors (s : State) (r : Nat) : List Nat :=
  let d := R.CFG_RGN_DESC r
  match s.fld d F.CFG_RGN_DESC_TYPE with
  | 1 => [s.fld d F.CFG_RGN_DESC_SECTOR]
  | 2 => (List.range 32).filter (fun k => s.bit (R.CFG_RGN_SMASK r) k)
  | _ => []

/-- A region is held (CFG_RGN_STAT.HELD). -/
def State.rgnHeld (s : State) (r : Nat) : Bool := s.flag (R.CFG_RGN_STAT r) F.CFG_RGN_STAT_HELD

/-- An optional region is held; what lies in no region never is. -/
def State.heldIn (s : State) : Option Nat → Bool
  | some r => s.rgnHeld r
  | none => false

/-- The shadow state of a region (R220): 0 INVALID, 1 STAGING, 2 VERIFIED, 3 ARMED. -/
def State.shadow (s : State) (r : Nat) : Nat := s.fld (R.CFG_RGN_STAT r) F.CFG_RGN_STAT_SHADOW

/-- Set the shadow state. -/
def State.setShadow (s : State) (r n : Nat) : State := s.setFld (R.CFG_RGN_STAT r) F.CFG_RGN_STAT_SHADOW n

/-- A region with nothing of its own yet. -/
def Rgn.empty : Rgn := ⟨false, false, false, none, none⟩

/-- What the device keeps of region `r` beside its registers. -/
def State.rg (s : State) (r : Nat) : Rgn := Tbl.get (fun _ => Rgn.empty) s.rgn r

/-- Set it. -/
def State.setRg (s : State) (r : Nat) (x : Rgn) : State := { s with rgn := Tbl.set (fun _ => Rgn.empty) s.rgn r x }

/-- The registers of the CFG window that are indexed by region (R217): 0x0100-0x04FF, 0x0500-0x08FF, 0x0A00-0x0DFF. -/
def regionReg (off : Nat) : Bool :=
  (0x20100 ≤ off && off < 0x20900) || (0x20A00 ≤ off && off < 0x20E00)

/-- The region that a region-indexed register belongs to. -/
def regionOfReg (off : Nat) : Nat := (if off < 0x20A00 then off - 0x20100 else off - 0x20A00) / 0x20 % 32

/-- Every region-indexed register at its reset value, and nothing kept of any region (R217). -/
def State.dropRegions (s : State) : State :=
  { s with csr := s.csr.filter (fun p => !regionReg p.1), rgn := [] }

/-- A sector is powered down or in transition. -/
def State.secGoing (s : State) (k : Nat) : Bool := s.bit R.SYS_PD_STAT k || s.bit R.SYS_PD_BUSY k

/-! ## Frames -/

/-- CRC-32C of bytes, bit by bit (R262): reflected polynomial 0x82F6_3B78. -/
def crcBit (c : Nat) : Nat := if c % 2 = 1 then (c / 2) ^^^ 0x82F63B78 else c / 2

/-- One byte of CRC-32C. -/
def crcByte (c b : Nat) : Nat := crcBit (crcBit (crcBit (crcBit (crcBit (crcBit (crcBit (crcBit (c ^^^ b))))))))

/-- CRC-32C with initial value and final exclusive-or 0xFFFF_FFFF (R262). -/
def crc32c (l : List Nat) : Nat := (l.foldl crcByte 0xFFFFFFFF) ^^^ 0xFFFFFFFF

/-- The little-endian bytes of a word (R9). -/
def wordBytes (w : Word) : List Nat := [w.toNat % 256, w.toNat / 256 % 256, w.toNat / 65536 % 256, w.toNat / 16777216]

/-- The frame CRC of 64 data words (R262). -/
def frameCrc (ws : List Word) : Nat := crc32c (ws.flatMap wordBytes)

/-- The frame that clearing leaves: all zero (R200), with the CRC of its data (R262). -/
def Frame.zero : Frame := ⟨List.replicate 64 0, 0xB872B190, []⟩

/-- The settings that a cleared plane gives a block memory: RAM mode, no cascade, ports on no leaf network. -/
def BmCfg.zero : BmCfg := ⟨0, 0, false, false, 16, 16, 0, 0, false, false, 0, 0, 0, false, 0, 0, 0⟩

/-- The settings that a cleared plane gives a slice. -/
def SliceCfg.zero : SliceCfg := ⟨0, false, false, false, 0, 8, false, 0, 0, false, false, false, 1, 0, 0, 0, 16⟩

/-- The settings that a cleared plane gives a sector's clocks. -/
def ClkCfg.zero : ClkCfg := ⟨false, false, .off, 0, 0, [], [], [], 0, []⟩

/-- The settings that a cleared plane gives a logic tile. -/
def TileCfg.zero : TileCfg := ⟨[], [], [], [], []⟩

/-- A cleared plane (R200). -/
def Plane.zero : Plane := ⟨[], [], [], [], [], [], [], [], [], [], [], []⟩

/-- The frame at a position. -/
def Plane.frame (p : Plane) (key : Nat) : Frame := Tbl.get (fun _ => Frame.zero) p.frames key
def Plane.bmCfg (p : Plane) (k : Nat) : BmCfg := Tbl.get (fun _ => BmCfg.zero) p.bm k
def Plane.slCfg (p : Plane) (k : Nat) : SliceCfg := Tbl.get (fun _ => SliceCfg.zero) p.sl k
def Plane.clkCfg (p : Plane) (k : Nat) : ClkCfg := Tbl.get (fun _ => ClkCfg.zero) p.clk k
def Plane.initVal (p : Plane) (k : Nat) : BitVec 1024 := Tbl.get (fun _ => 0) p.init k
def Plane.tileCfg (p : Plane) (k : Nat) : TileCfg := Tbl.get (fun _ => TileCfg.zero) p.logic k
def Plane.line (p : Plane) (key : Nat) : List Nat := Tbl.get (fun _ => []) p.lines key

/-- The bus-driver cells that a frame's words configure, each with its line; a zero frame configures none. -/
def cellsOf (key : Nat) (ws : List Word) : List (Nat × Nat) :=
  if ws.all (fun w => w == 0) then [] else (Config.busCells key ws).map (fun q => (q.1 % 4, q.2 % 64))

/-- The bus lines that a frame's words would drive. -/
def linesOf (key : Nat) (ws : List Word) : List Nat := (cellsOf key ws).map (fun q => q.2)

/-- The driver cells of a sector's line in a plane (the owner count, R58, R61), leaving out one frame. -/
def Plane.ownersBut (p : Plane) (sector line skip : Nat) : Nat :=
  ((p.lines.filter (fun q => keySector q.1 == sector && q.1 != skip)).map (fun q => q.2.count line)).sum

/-- The owner count of a sector's line (R61). -/
def Plane.owners (p : Plane) (sector line : Nat) : Nat :=
  ((p.lines.filter (fun q => keySector q.1 == sector)).map (fun q => q.2.count line)).sum

/-- Apply a decoder of settings, unless a zero frame meets settings that are still those of a cleared plane. -/
def decodeSet {α : Type} [DecidableEq α] (dflt : α) (f : Nat → List Word → α → α) (t : Tbl α) (k key : Nat)
    (ws : List Word) : Tbl α :=
  let old := Tbl.get (fun _ => dflt) t k
  if ws.all (fun w => w == 0) && old = dflt then t else Tbl.set (fun _ => dflt) t k (f key ws old)

/-- A sector-edge tile, which holds the crossing FIFOs and interface ports on its edge (R215). -/
def isEdgeTile (key : Nat) : Bool := keyTcol key == 0 || keyTcol key == 31 || keyTrow key == 0 || keyTrow key == 19

/-- The interfaces and lanes whose fabric ports lie in the tile of a frame. -/
def portsOf (key : Nat) : List Nat :=
  (List.range 208).filter (fun e => portTile e == (keySector key, keyTcol key, keyTrow key))

/-- What a frame configures follows its cells as they stand (R212); the owner counts do not (R61). -/
def Plane.decode (p : Plane) (key : Nat) (ws : List Word) : Plane :=
  let zero := ws.all (fun w => w == 0)
  let side := keyTcol key == 0 || keyTcol key == 31
  let logic := keyFrame key < 80
  { p with
    cells := Tbl.set (fun _ => []) p.cells key (cellsOf key ws)
    bm := match frameBlock key with
      | some k => decodeSet BmCfg.zero Config.bmCfg p.bm k key ws
      | none => p.bm
    sl := match frameSlice key with
      | some k => decodeSet SliceCfg.zero Config.sliceCfg p.sl k key ws
      | none => p.sl
    init := if logic then decodeSet 0 Config.initVals p.init (keyTile key) key ws else p.init
    logic := if logic then decodeSet TileCfg.zero Config.tileCfg p.logic (keyTile key) key ws else p.logic
    clk := if isClockFrame key then decodeSet ClkCfg.zero Config.clkCfg p.clk (keySector key) key ws else p.clk
    gclk := if isClockFrame key then Tbl.set (fun _ => []) p.gclk key (if zero then [] else Config.gclkCfg key ws) else p.gclk
    cross := if logic && isEdgeTile key then Tbl.set (fun _ => []) p.cross key (if zero then [] else Config.crossCfg key ws)
      else p.cross
    ports := if logic && side then
        (portsOf key).foldl (fun t e => NSet.put t e (if zero && !t.has e then false else Config.userPort key e ws (t.has e))) p.ports
      else p.ports
    cap := match frameBlock key with
      | some k => NSet.put p.cap k (if zero && !p.cap.has k then false else Config.captureBlock key ws (p.cap.has k))
      | none => p.cap }

/-- Write a frame into a plane: its words and CRC with fresh check bits (R261, R263), the owner counts (R61), and the settings
it configures. -/
def Plane.write (p : Plane) (key : Nat) (ws : List Word) (crc : Word) : Plane :=
  { p with
    frames := Tbl.set (fun _ => Frame.zero) p.frames key (if ws.all (fun w => w == 0) then Frame.zero else ⟨ws, crc, []⟩)
    lines := Tbl.set (fun _ => []) p.lines key (linesOf key ws) }.decode key ws

/-- The stored data words of a frame with the bits inverted since, then its CRC. -/
def Frame.stored (f : Frame) : List Word :=
  (List.range 64).map (fun i =>
    (f.flips.filter (fun b => b / 72 == i / 2 && b % 72 < 64 && b % 72 / 32 == i % 2 && b < 2304)).foldl
      (fun w b => w ^^^ BitVec.ofNat 32 (2 ^ (b % 72 % 32))) (f.words.getD i 0)) ++
    [(f.flips.filter (fun b => 2304 ≤ b)).foldl (fun w b => w ^^^ BitVec.ofNat 32 (2 ^ (b - 2304))) f.crc]

/-- Set a frame as it is stored, bits inverted since included; the settings taken from its cells follow (R212). -/
def Plane.store (p : Plane) (key : Nat) (f : Frame) : Plane :=
  { p with frames := Tbl.set (fun _ => Frame.zero) p.frames key f }.decode key (f.stored.take 64)

/-- A table with the entries that `sel` picks taken from another. -/
def takeWhere {α : Type} (sel : Nat → Bool) (a b : Tbl α) : Tbl α :=
  (b.filter (fun q => sel q.1)).foldl (fun t q => Tbl.insert q.1 q.2 t) (a.filter (fun q => !sel q.1))

/-- The same for sets. -/
def takeSet (sel : Nat → Bool) (a b : NSet) : NSet :=
  (b.filter sel).foldl (fun t q => NSet.insert q t) (a.filter (fun q => !sel q))

/-- Plane `a` with region `r`'s part taken from plane `b` (R246). -/
def State.planeTake (s : State) (r : Nat) (a b : Plane) : Plane :=
  let fr := fun k => s.frameRegion k == some r
  let bl := fun k => s.blockRegion k == some r
  let ti := fun k => s.tileRegion (k / 640) (k % 640 % 32) (k % 640 / 32) == some r
  { frames := takeWhere fr a.frames b.frames
    lines := takeWhere fr a.lines b.lines
    cells := takeWhere fr a.cells b.cells
    bm := takeWhere bl a.bm b.bm
    sl := takeWhere (fun k => s.sliceRegion k == some r) a.sl b.sl
    init := takeWhere ti a.init b.init
    logic := takeWhere ti a.logic b.logic
    clk := takeWhere (fun k => s.frameRegion (mkKey k 0 0 124) == some r) a.clk b.clk
    gclk := takeWhere fr a.gclk b.gclk
    cross := takeWhere fr a.cross b.cross
    ports := takeSet (fun k => s.niRegion k == some r) a.ports b.ports
    cap := takeSet bl a.cap b.cap }

/-- Exchange the planes of region `r` (R246, step 2 of the firing edge). -/
def State.swapPlanes (s : State) (r : Nat) : State :=
  { s with act := s.planeTake r s.act s.shd, shd := s.planeTake r s.shd s.act }

/-- The value of a tile's flip-flops: INIT while GSR is asserted (R65), else what the tile holds. -/
def State.ffs (s : State) (tile : Nat) : BitVec 1024 :=
  if s.fab.gsr then s.act.initVal tile else Tbl.get (fun k => s.act.initVal k) s.fab.ff tile

end Sys2Proof.Machine
end

