-- ==== Sys2Proof/Machine/Logic.lean ====
section
/-! DEFINITION. Logic.lean: the logic fabric as the active plane configures it: logic elements, carry chains, routing
multiplexers and wires, isolation cells, bus lines, flip-flops and user I/O (02_logic_fabric.md, R42-R57, R248, R249). -/

namespace Sys2Proof.Machine

/-! ## Places

A tile is `640 * sector + 32 * TROW + TCOL`, a logic element `512 * tile + index`, a multiplexer `65536 * tile + local`. The locals of
cluster `c` start at `512 * c`: LE input pins at 0 (7 for each LE, A to F and X), cluster inputs at 56, CE0, CE1, SR0 and SR1 at 96,
wires at 100 (56 for each direction N, E, S, W). From 32,768 on stand the tile's own sinks: D and OE of its bus-driver cells, from
32,784 the LEAF_CE inputs of a sector (in tile 0), from 32,832 output and output enable of user I/O cells. -/

/-- Column and row of a cluster in its sector. -/
def cluX (tile c : Nat) : Nat := tile % 32 * 8 + c % 8
def cluY (tile c : Nat) : Nat := tile % 640 / 32 * 8 + c / 8

/-- Tile and cluster at a place of a sector. -/
def cluAt (sector x y : Nat) : Nat × Nat := (640 * sector + 32 * (y / 8) + x / 8, y % 8 * 8 + x % 8)

/-- A local multiplexer of a tile. -/
def muxAt (tile loc : Nat) : Nat := 65536 * tile + loc

/-- Input pin `p` of a logic element: A to F are 0 to 5, X is 6. -/
def lePin (le p : Nat) : Net := .mux (muxAt (le / 512) (le % 512 / 8 * 512 + le % 8 * 7 + p))

/-- CE0, CE1, SR0 and SR1 of a logic element's cluster, as 0 to 3 (R48). -/
def ctlPin (le k : Nat) : Net := .mux (muxAt (le / 512) (le % 512 / 8 * 512 + 96 + k))

/-- D and OE of a bus-driver cell. -/
def cellPin (tile cell : Nat) (oe : Bool) : Net := .mux (muxAt tile (32768 + 2 * cell + b2n oe))

/-- The LEAF_CE input of a leaf network (R154). -/
def leafCePin (sector k : Nat) : Net := .mux (muxAt (640 * sector) (32784 + k))

/-- The span of wire `n` of a direction, 0 to 55 (R53): 8 direct links, 16 L1, 16 L2, 12 L4, 4 L16. -/
def wireSpan (n : Nat) : Nat := if n < 24 then 1 else if n < 40 then 2 else if n < 52 then 4 else 16

/-- Tap `j`, 0 to 79, that a cluster has of the wires of one direction (R53): the wire's number at its start, and the clusters from
there: the ends of direct, L1 and L2 wires, then L4 after 2 and 4, L16 after 4, 8, 12 and 16. -/
def wireTap (j : Nat) : Nat × Nat :=
  if j < 40 then (j, wireSpan j)
  else if j < 64 then (40 + (j - 40) % 12, 2 * ((j - 40) / 12 + 1))
  else (52 + (j - 64) % 4, 4 * ((j - 64) / 4 + 1))

/-- The place `dist` clusters from (x, y) against a direction: where a wire tapped there starts; none past the sector's edge (R54). -/
def wireStart (dir x y dist : Nat) : Option (Nat × Nat) :=
  match dir with
  | 0 => if dist ≤ y then some (x, y - dist) else none
  | 1 => if dist ≤ x then some (x - dist, y) else none
  | 2 => if y + dist < 160 then some (x, y + dist) else none
  | _ => if x + dist < 256 then some (x + dist, y) else none

/-- The tile next to a tile in a direction; none past the sector's edge. -/
def tileNext (tile dir : Nat) : Option Nat :=
  match dir with
  | 0 => if tile % 640 / 32 < 19 then some (tile + 32) else none
  | 1 => if tile % 32 < 31 then some (tile + 1) else none
  | 2 => if 0 < tile % 640 / 32 then some (tile - 32) else none
  | _ => if 0 < tile % 32 then some (tile - 1) else none

/-- The tiles that a wire leaves on its way over `dist` clusters from cluster `c` of a tile, the last one first. -/
def tilesLeft (tile c dir dist : Nat) : List Nat :=
  let along := fun (p : Nat) (up : Bool) => if up then (p + dist) / 8 - p / 8 else p / 8 - (p - dist) / 8
  let n := match dir with
    | 0 => along (cluY tile c) true
    | 1 => along (cluX tile c) true
    | 2 => along (cluY tile c) false
    | _ => along (cluX tile c) false
  let step := fun (i : Nat) => match dir with
    | 0 => tile + 32 * i
    | 1 => tile + i
    | 2 => tile - 32 * i
    | _ => tile - i
  ((List.range n).map step).reverse

/-! ## Regions at tile boundaries -/

/-- The region of a tile. -/
def State.regionOf (s : State) (tile : Nat) : Option Nat := s.tileRegion (tile / 640) (tile % 32) (tile % 640 / 32)

/-- The boundary between two tiles is that of a region being held (R55). -/
def State.cut (s : State) (a b : Nat) : Bool :=
  s.regionOf a != s.regionOf b && (s.heldIn (s.regionOf a) || s.heldIn (s.regionOf b))

/-- The isolation cell of a wire where it leaves a tile. -/
def isoKey (wire tile : Nat) : Nat := wire * 32768 + tile

/-- The direction of a wire from its number. -/
def wireDir (wire : Nat) : Nat := (wire % 65536 % 512 - 100) / 56

/-- The value of a wire, `here` at its start, after `dist` clusters (R55): the last isolation cell on the way that holds a value sets
it, else the wire is transparent. -/
def State.pass (s : State) (here : Bool) (wire dist : Nat) : Bool :=
  let dir := wireDir wire
  match (tilesLeft (wire / 65536) (wire % 65536 / 512) dir dist).find? (fun t => match tileNext t dir with
      | some u => s.cut t u
      | none => false) with
  | some t => (Tbl.get (fun _ => none) s.fab.iso (isoKey wire t)).getD false
  | none => here

/-! ## Settings -/

/-- The settings of a logic element: a cleared plane's table is 0 and its flip-flops obey CE0, which constant 0 drives. -/
def LeCfg.zero : LeCfg := ⟨0, 0, 0, ⟨false, false, 0, false, 0, false⟩, ⟨false, false, 0, false, 0, false⟩⟩
def State.leCfg (s : State) (le : Nat) : LeCfg := Tbl.get (fun _ => LeCfg.zero) (s.act.tileCfg (le / 512)).le (le % 512)
def LeCfg.ff (c : LeCfg) (f : Nat) : FfCfg := if f = 0 then c.ff0 else c.ff1

/-- The leaf network that clocks a flip-flop (R44, R48); 16 for none. -/
def State.ffNet (s : State) (le f : Nat) : Nat :=
  Tbl.get (fun _ => 16) (s.act.tileCfg (le / 512)).clk (2 * (le % 512 / 8) + b2n ((s.leCfg le).ff f).clkSel)

/-- The select of a multiplexer (R52). -/
def State.muxSel (s : State) (m : Nat) : Nat := Tbl.get (fun _ => 0) (s.act.tileCfg (m / 65536)).mux (m % 65536)

/-- The bus-driver cells of the active plane that are configured onto a line, by tile and cell. -/
def State.drivers (s : State) (sector l : Nat) : List (Nat × Nat) :=
  (s.act.cells.filter (fun q => keySector q.1 == sector)).flatMap (fun q =>
    (q.2.filter (fun x => x.2 == l)).map (fun x => (keyTile q.1, x.1)))

/-- A line's contention is recorded: its drivers are disabled (R62, R64). -/
def State.contended (s : State) (sector l : Nat) : Bool :=
  s.bit (if l < 32 then R.FAB_BUS_CONT_LO sector else R.FAB_BUS_CONT_HI sector) (l % 32)

/-- What a line's keeper holds (R56): FAB_BUS_VAL shows it. -/
def State.keeper (s : State) (sector l : Nat) : Bool :=
  s.bit (if l < 32 then R.FAB_BUS_VAL_LO sector else R.FAB_BUS_VAL_HI sector) (l % 32)

/-! ## Nets -/

/-- The stored value of a flip-flop: FF0 of a logic element is bit `2 * index` of its tile, FF1 the next one. -/
def State.ffBit (s : State) (le f : Nat) : Bool := (s.ffs (le / 512)).getLsbD (2 * (le % 512) + f)

/-- A flip-flop's local set/reset acts on it now: its line is 1, GSR has left it (R45, R66, R67), and its region is not held
(R248). -/
def State.srActive (s : State) (v : Net → Bool) (le f : Nat) : Bool :=
  let c := (s.leCfg le).ff f
  !s.fab.gsr && (Tbl.get (fun _ => 0) s.fab.released (le / 512 / 640)).testBit (s.ffNet le f) &&
    !s.heldIn (s.regionOf (le / 512)) && c.srType % 3 != 0 && v (ctlPin le (2 + b2n c.srSel))

/-- The output of a flip-flop: an ASYNC set/reset forces SRVAL (R46). -/
def State.ffOut (s : State) (v : Net → Bool) (le f : Nat) : Bool :=
  let c := (s.leCfg le).ff f
  if c.srType % 3 == 2 && s.srActive v le f then c.srVal else s.ffBit le f

/-- A table bit, indexed by pins, the last one the highest bit of the index (R42). -/
def tableBit (t : BitVec 64) (base : Nat) (pins : List Bool) : Bool :=
  t.getLsbD (base + pins.foldr (fun b n => b2n b + 2 * n) 0)

/-- T0 and T1 of DUAL and ARITH mode. -/
def State.t0 (s : State) (v : Net → Bool) (le : Nat) : Bool :=
  tableBit (s.leCfg le).table 0 ([0, 1, 2, 3, 4].map (fun p => v (lePin le p)))
def State.t1 (s : State) (v : Net → Bool) (le : Nat) : Bool :=
  tableBit (s.leCfg le).table 32 ([0, 1, 2, 3, 5].map (fun p => v (lePin le p)))

/-- The outputs of a logic element (R42): O0, O1, Q0, Q1. -/
def State.leOut (s : State) (v : Net → Bool) (le o : Nat) : Bool :=
  let m := (s.leCfg le).mode
  match o with
  | 0 =>
    if m = 0 then tableBit (s.leCfg le).table 0 ([0, 1, 2, 3, 4, 5].map (fun p => v (lePin le p)))
    else if m = 1 then s.t0 v le
    else (s.t0 v le).xor (v (.cin le))
  | 1 => if m = 0 then v (lePin le 6) else s.t1 v le
  | 2 => s.ffOut v le 0
  | _ => s.ffOut v le 1

/-- The logic element below in the carry chain (R49): the one south of it in its cluster, else the northmost of the cluster to the
south, in the tile's own sector; none where the tiles lie in different regions (R51). -/
def State.leBelow (s : State) (le : Nat) : Option Nat :=
  if le % 8 != 0 then some (le - 1)
  else if 8 ≤ le % 512 / 8 then some (le - 64 + 7)
  else match tileNext (le / 512) 2 with
    | some t => if s.regionOf t == s.regionOf (le / 512) then some (512 * t + 8 * (56 + le % 512 / 8) + 7) else none
    | none => none

/-- The carry in (R50, R51); where CIN_SEL is CHAIN and there is no link, a free value: the spec states none. -/
def State.leCin (s : State) (v : Net → Bool) (le : Nat) : Bool :=
  match (s.leCfg le).cin with
  | 0 => false
  | 1 => true
  | 2 => v (lePin le 6)
  | _ => match s.leBelow le with
    | some b => v (.cout b)
    | none => Config.freeNet s.draws (.cin le)

/-- The carry out (R43). -/
def State.leCout (s : State) (v : Net → Bool) (le : Nat) : Bool :=
  if s.t0 v le then v (.cin le) else s.t1 v le

/-- What can reach the multiplexers around cluster `c` of a tile (R52, R53): 0-31 the cluster's outputs, 32-351 the taps of the wires
of the four directions, 352-359 the tile's bus taps, anything else a signal from a hard block or a user I/O. -/
def State.reach (s : State) (v : Net → Bool) (m tile c j : Nat) : Bool :=
  if j < 32 then v (.out (512 * tile + 8 * c + j / 4) (j % 4))
  else if j < 352 then
    let dir := (j - 32) / 80
    let w := wireTap ((j - 32) % 80)
    match wireStart dir (cluX tile c) (cluY tile c) w.2 with
    | some (x, y) =>
      let a := cluAt (tile / 640) x y
      let wire := muxAt a.1 (512 * a.2 + 100 + 56 * dir + w.1)
      s.pass (v (.mux wire)) wire w.2
    | none => Config.freeNet s.draws (.ext m)
  else if j < 360 then
    match (s.act.tileCfg tile).tap.find? (fun q => q.1 == j - 352) with
    | some q => v (.line (tile / 640) (q.2 % 64))
    | none => v (.line (tile / 640) 0)
  else Config.freeNet s.draws (.ext m)

/-- What a multiplexer drives (R52): constant 0 for select 0 and for a select above its number of inputs. The 24 inputs of an LE pin
are cluster inputs and the cluster's own outputs. -/
def State.muxOut (s : State) (v : Net → Bool) (m : Nat) : Bool :=
  let sel := s.muxSel m
  let tile := m / 65536
  let loc := m % 65536
  if loc < 32768 && loc % 512 < 56 then
    if sel = 0 || 24 < sel then false
    else
      let j := Config.muxSource m sel % 72
      if j < 40 then v (.mux (muxAt tile (loc / 512 * 512 + 56 + j))) else v (.out (512 * tile + 8 * (loc / 512) + (j - 40) / 4) ((j - 40) % 4))
  else if sel = 0 || Config.muxSize m < sel then false
  else
    let j := Config.muxSource m sel
    s.reach v m tile (if loc < 32768 then loc / 512 else j / 361 % 64) (j % 361)

/-- The value of a bus line (R56, R57, R62): that of its one driver cell with OE at 1, else what its keeper holds; 0 where its
contention is recorded; a free value until two driver cells have been detected. -/
def State.lineOut (s : State) (v : Net → Bool) (sector l : Nat) : Bool :=
  if s.contended sector l then false
  else match s.drivers sector l with
    | [] => s.keeper sector l
    | [(tile, cell)] =>
      if !s.heldIn (s.regionOf tile) && v (cellPin tile cell true) then v (cellPin tile cell false) else s.keeper sector l
    | _ => Config.freeNet s.draws (.line sector l)

/-- The value of a net from the values of the nets that it depends on. -/
def State.netStep (s : State) (v : Net → Bool) : Net → Bool
  | .out le o => s.leOut v le o
  | .cin le => s.leCin v le
  | .cout le => s.leCout v le
  | .mux m => s.muxOut v m
  | .line sector l => s.lineOut v sector l
  | .ext n => Config.freeNet s.draws (.ext n)

/-- The value of a net over paths of at most `n` nets; past them a free value. -/
def State.netIn (s : State) : Nat → Net → Bool
  | 0, x => Config.freeNet s.draws x
  | n + 1, x => s.netStep (s.netIn n) x

/-- The value of a net. No path of a sector without a combinational loop passes more than 2^24 nets. -/
def State.net (s : State) (x : Net) : Bool := s.netIn (2 ^ 24) x

/-! ## Flip-flops at a clock edge -/

/-- A flip-flop after an edge of the leaf networks in `mask` (R45-R48, R65, R248): set/reset acts whether or not the clock enable is
asserted. -/
def State.ffNext (s : State) (mask le f : Nat) : Bool :=
  let c := (s.leCfg le).ff f
  let q := s.ffOut s.net le f
  if s.fab.gsr || s.heldIn (s.regionOf (le / 512)) || !mask.testBit (s.ffNet le f) then q
  else if s.srActive s.net le f then c.srVal
  else if c.ceSel < 2 && !s.net (ctlPin le c.ceSel) then q
  else if c.fromX then s.net (lePin le 6)
  else s.net (.out le f)

/-- One bit of a tile's flip-flops. -/
def putFf (x : BitVec 1024) (i : Nat) (b : Bool) : BitVec 1024 :=
  let m := BitVec.ofNat 1024 (2 ^ i)
  if b then x ||| m else x &&& ~~~ m

/-- A tile's flip-flops after an edge. -/
def State.tileNextFfs (s : State) (mask tile : Nat) : BitVec 1024 :=
  (s.act.tileCfg tile).le.foldl (fun x q =>
    putFf (putFf x (2 * (q.1 % 512)) (s.ffNext mask (512 * tile + q.1 % 512) 0)) (2 * (q.1 % 512) + 1)
      (s.ffNext mask (512 * tile + q.1 % 512) 1)) (s.ffs tile)

/-- The flip-flops of a sector take an edge of the leaf networks in `mask`, all of them together; an ASYNC set/reset that acts is
stored, so that its release shows at the next edge only (R46). -/
def State.ffEdge (s : State) (sector mask : Nat) : State :=
  if s.fab.gsr then s
  else
    let ts := (s.act.logic.map (fun q => q.1)).filter (fun t => t / 640 == sector)
    { s with fab := { s.fab with
        ff := ts.foldl (fun u t => Tbl.set (fun k => s.act.initVal k) u t (s.tileNextFfs mask t)) s.fab.ff } }

/-! ## Bus lines -/

/-- The lines of a sector with a driver cell. -/
def State.drivenLines (s : State) (sector : Nat) : List Nat :=
  ((s.act.cells.filter (fun q => keySector q.1 == sector)).flatMap (fun q => q.2.map (fun x => x.2))).eraseDups

/-- The keepers of a sector take the value of their lines (R56). -/
def State.keepLines (s : State) (sector : Nat) : State :=
  let ls := s.drivenLines sector
  if ls.isEmpty then s
  else
    ({ s with draws := s.draws + 1 }).forEach ls (fun t l =>
      t.setBit (if l < 32 then R.FAB_BUS_VAL_LO sector else R.FAB_BUS_VAL_HI sector) (l % 32) (s.net (.line sector l)))

/-! ## User I/O (R170, R202, R248, R643) -/

/-- The tile that drives user I/O cell `i`, and the local of its output; the output enable is the next one. -/
def ioLocal (i : Nat) : Nat := 32832 + 2 * i
def State.ioTile (s : State) (i : Nat) : Option Nat :=
  (s.act.logic.find? (fun q => q.2.mux.any (fun m => m.1 == ioLocal i || m.1 == ioLocal i + 1))).map (fun q => q.1)

/-- VCCIO of a bank is valid. -/
def State.bankOn (s : State) (b : Nat) : Bool :=
  if b < 32 then s.bit R.SYS_VCCIO_LO b else s.bit R.SYS_VCCIO_HI (b - 32)

/-- User I/O is enabled: start-up step 5 has passed (R202, R206). -/
def State.ioEnabled (s : State) : Bool := 5 ≤ s.fld R.CFG_BOOT_STAT F.CFG_BOOT_STAT_STEP

/-- Output and output enable of a user I/O cell as its design drives them. -/
def State.ioDrive (s : State) (i : Nat) : Bool × Bool :=
  match s.ioTile i with
  | some t => (s.net (.mux (muxAt t (ioLocal i))), s.net (.mux (muxAt t (ioLocal i + 1))))
  | none => (false, false)

/-- A boundary-scan instruction has the pins and the lanes (R366, R367, R620): EXTEST, HIGHZ, CLAMP, EXTEST_PULSE, EXTEST_TRAIN. -/
def State.bscan (s : State) : Bool := [0x00, 0x03, 0x04, 0x05, 0x06].contains s.tap.ir

/-- What boundary cell `i` gives its pin (R619, R659). -/
def State.cell (s : State) (i : Nat) : Bool := s.tap.cells.getLsbD i

/-- Output and output enable of a user I/O cell; a cell of a held region keeps what it drove (R248). -/
def State.ioHeld (s : State) (i : Nat) : Bool × Bool :=
  match Tbl.get (fun _ => none) s.fab.io i with
  | some x => x
  | none => s.ioDrive i

/-- What user I/O `i` (pin `i % 24` of bank `i / 24`) drives: none at high impedance; under a boundary-scan
instruction what its boundary cells say, under HIGHZ nothing (R620). -/
def State.ioPin (s : State) (i : Nat) : Option Bool :=
  if !s.bankOn (i / 24) then none
  else if s.bscan then (if s.tap.ir != 0x03 && s.cell (630 + 3 * i) then some (s.cell (629 + 3 * i)) else none)
  else if s.ioEnabled && (s.ioHeld i).2 then some (s.ioHeld i).1 else none

/-- The weak pull-ups of a bank are on (R170, R202). -/
def State.ioPull (s : State) (b : Nat) : Bool :=
  !s.ioEnabled && !s.bscan && s.board.pullSel && s.flag R.SYS_SUPPLY F.SYS_SUPPLY_AUX && s.bankOn b

/-! ## Holds -/

/-- The user I/O cells whose settings lie in a region's tiles. -/
def State.ioCells (s : State) (r : Nat) : List Nat :=
  ((s.act.logic.filter (fun q => s.regionOf q.1 == some r)).flatMap (fun q =>
    (q.2.mux.filter (fun m => 32832 ≤ m.1)).map (fun m => (m.1 - 32832) / 2))).eraseDups

/-- The isolation cells with a setting other than 0 on the boundary of a region: wire, tile left, setting. -/
def State.isoCells (s : State) (r : Nat) : List (Nat × Nat × Nat) :=
  s.act.logic.flatMap (fun q => q.2.iso.filterMap (fun x =>
    match tileNext q.1 (wireDir x.1) with
    | some u =>
      if s.regionOf q.1 != s.regionOf u && (s.regionOf q.1 == some r || s.regionOf u == some r) && !s.cut q.1 u then
        some (x.1, q.1, x.2)
      else none
    | none => none))

/-- The clusters from the start of a wire to the first cluster past a tile that it leaves. -/
def distPast (wire tile : Nat) : Nat :=
  let t := wire / 65536
  let c := wire % 65536 / 512
  match wireDir wire with
  | 0 => 8 * (tile % 640 / 32 + 1) - cluY t c
  | 1 => 8 * (tile % 32 + 1) - cluX t c
  | 2 => cluY t c + 1 - 8 * (tile % 640 / 32)
  | _ => cluX t c + 1 - 8 * (tile % 32)

/-- A hold of a region begins (R248, R249): its boundary cells take 0, 1 or the value that they passed just before, as the active
plane says at this moment; its user I/O cells keep what they drive. `pre` is the state just before. -/
def State.holdCells (s pre : State) (r : Nat) : State :=
  let iso := (pre.isoCells r).foldl (fun t x =>
    Tbl.set (fun _ => none) t (isoKey x.1 x.2.1)
      (some (x.2.2 == 1 || (x.2.2 == 2 && pre.pass (pre.net (.mux x.1)) x.1 (distPast x.1 x.2.1))))) s.fab.iso
  let io := (pre.ioCells r).foldl (fun t i => Tbl.set (fun _ => none) t i (some (pre.ioDrive i))) s.fab.io
  { s with fab := { s.fab with iso := iso, io := io } }

/-- A hold of a region ends: cells whose boundary is no longer that of a held region are transparent. Called after HELD is
cleared. -/
def State.freeCells (s : State) : State :=
  { s with fab := { s.fab with
      iso := s.fab.iso.filter (fun q => match tileNext (q.1 % 32768) (wireDir (q.1 / 32768)) with
        | some u => s.cut (q.1 % 32768) u
        | none => false)
      io := s.fab.io.filter (fun q => match s.ioTile q.1 with
        | some t => s.heldIn (s.regionOf t)
        | none => false) } }

end Sys2Proof.Machine
end

