-- ==== Sys2Proof/Machine/Fabric.lean ====
section
/-! DEFINITION. Fabric.lean: clock networks, block memories, queue controllers, arithmetic slices and probes
(02_logic_fabric.md to 05_clocks_and_islands.md): what they hold and what clock edges, firings and resets do to it. -/

namespace Sys2Proof.Machine

/-! ## Global and leaf networks (R152-R156) -/

/-- The source of a global network (R152): the selectors that the sector clock frames of the active plane hold. -/
def State.gclkSrc (s : State) (n : Nat) : ClkSrc :=
  match (s.act.gclk.flatMap (fun q => q.2)).find? (fun x => x.1 == n) with
  | some x => (match x.2 with
    | .gclk _ => .off
    | .sysRef => .off
    | y => y)
  | none => .off

/-- The source number of leaf network `k` (R153); 63 for OFF. -/
def ClkCfg.source (c : ClkCfg) (k : Nat) : Nat := let n := c.leaf.getD k 63; if n < 36 then n else 63

/-- The configured leaf networks of a sector: CLK_LEAF.CONF. -/
def ClkCfg.conf (c : ClkCfg) : Nat := ((List.range 16).map (fun k => if c.source k < 36 then 2 ^ k else 0)).sum

/-- Where the clock of a leaf network comes from, through its global network where it selects one. -/
def State.leafRoot (s : State) (sec k : Nat) : ClkSrc :=
  let n := (s.act.clkCfg sec).source k
  if n < 32 then s.gclkSrc n else if n < 36 then .fpll sec (n - 32) else .off

/-- A fabric PLL holds the gates of the networks it feeds closed: after a loss with ON_UNLOCK GATE (R164), or after a firing that
changed its N, M or D values (R156). -/
def State.pllStopped (s : State) (k : Nat) : Bool := s.fab.stopped.has k || s.fab.relock.has k

/-- The source of a leaf network is stopped (R154). A leaf network that selects another source is open (R155). -/
def State.leafStopped (s : State) (sec k : Nat) : Bool :=
  match s.leafRoot sec k with
  | .fpll p _ => s.pllStopped p
  | _ => false

/-- The leaf networks of a sector whose gate a stopped fabric PLL holds closed, directly or through a global network. -/
def State.gatedMask (s : State) (sec : Nat) : Nat :=
  ((List.range 16).map (fun k => if s.leafStopped sec k then 2 ^ k else 0)).sum

/-- LEAF_CE of a leaf network (R154): from the routing where LEAF_CE_EN is 1, else 1. -/
def State.leafCe (s : State) (sec k : Nat) : Bool := !(s.act.clkCfg sec).leafCe.testBit k || s.net (leafCePin sec k)

/-- The gate of a leaf network is open (R154, R631). -/
def State.leafOpen (s : State) (sec k : Nat) : Bool :=
  2 ≤ s.fld R.CFG_BOOT_STAT F.CFG_BOOT_STAT_STEP && !s.fabFrozen sec && (s.act.clkCfg sec).source k < 36 &&
    !s.leafStopped sec k && s.leafCe sec k

/-- The open gates of a sector: CLK_LEAF.RUN. -/
def State.leafRun (s : State) (sec : Nat) : Nat :=
  ((List.range 16).map (fun k => if s.leafOpen sec k then 2 ^ k else 0)).sum

/-- The quad's recovered clock is running (R340). -/
def State.rclkRuns (s : State) (q : Nat) : Bool :=
  let c := R.LQ_RCLK q
  q < 36 && s.flag c F.LQ_RCLK_EN && 8 ≤ s.fld c F.LQ_RCLK_DIV &&
    !s.flag (R.LN_STAT (4 * q + s.fld c F.LQ_RCLK_LANE)) F.LN_STAT_LOL

/-- A clock source gives a clock: an output that its fabric PLL has, a pin of a bank with its VCCIO (R643), a recovered
clock, an injection cell in use. -/
def State.sourceGives (s : State) : ClkSrc → Bool
  | .off => false
  | .fpll p o => (s.act.clkCfg p).used && o < 4
  | .inject p c => c < 2 && c < (s.act.clkCfg p).inj.length
  | .recovered q => s.rclkRuns q
  | .pin b _ => b < 40 && s.bankOn b
  | _ => true

/-- The settings of a fabric PLL lie within R150: the dividers, the phases, a reference of its four kinds, and where the reference
is SYS_REFCLK, whose frequency is known, 10-100 MHz behind N and a VCO of 2.0-4.0 GHz. -/
def ClkCfg.inRange (c : ClkCfg) : Bool :=
  let ref := match c.ref with
    | .sysRef => c.n ≤ 10 && 2000 * c.n ≤ 100 * c.m && 100 * c.m ≤ 4000 * c.n
    | .pin _ _ => true
    | .gclk n => n < 32
    | .recovered q => q < 36
    | _ => false
  !c.used || (1 ≤ c.n && c.n ≤ 80 && 20 ≤ c.m && c.m ≤ 400 && c.d.all (fun d => 4 ≤ d && d ≤ 128) &&
    c.phase.all (fun p => p ≤ 7) && ref)

/-- The reference of a fabric PLL is present (R149, R150): SYS_REFCLK within its limits, or a clock that its source gives. -/
def State.refPresent (s : State) : ClkSrc → Bool
  | .sysRef => s.flag R.CLK_STAT F.CLK_STAT_SYSREF_OK
  | .gclk n => s.sourceGives (s.gclkSrc n)
  | .off => false
  | .fpll _ _ => false
  | .inject _ _ => false
  | .recovered q => s.rclkRuns q
  | .pin b _ => b < 40 && s.bankOn b

/-- A leaf network's clock runs. -/
def State.netRuns (s : State) (sec k : Nat) : Bool := k < 16 && s.leafOpen sec k && s.sourceGives (s.leafRoot sec k)

/-- The running leaf networks of a sector. -/
def State.running (s : State) (sec : Nat) : Nat := ((List.range 16).map (fun k => if s.netRuns sec k then 2 ^ k else 0)).sum

/-- A running leaf network passes its GSR release edge (R66, R67); FAB_GSR_STAT of a sector clears once every configured one has. -/
def State.gsrSettle (s : State) (sec : Nat) : State :=
  if s.fab.gsr then s
  else
    let conf := (s.act.clkCfg sec).conf
    let rel := Tbl.get (fun _ => 0) s.fab.released sec ||| s.running sec
    ({ s with fab := { s.fab with released := Tbl.set (fun _ => 0) s.fab.released sec rel } }).when
      (conf &&& rel == conf) (fun t => t.setReg (R.FAB_GSR_STAT sec) 0)

/-! ## Block memories -/

/-- The width and the family of a shape of R88's table. -/
def shapeWidth : Nat → Nat
  | 0 => 64 | 1 => 32 | 2 => 16 | 3 => 8 | 4 => 4 | 5 => 72 | 6 => 36 | 7 => 18 | _ => 9

/-- The stored word's width in the family of a shape (R89). -/
def shapeFamily (n : Nat) : Nat := if n < 5 then 64 else 72

/-- The depth of a shape. -/
def shapeDepth (n : Nat) : Nat := shapeFamily n * 1024 / shapeWidth n

/-- The key of a stored word: sector, block, word. -/
def wordKey (sec b w : Nat) : Nat := (sec * 256 + b) * 1024 + w

/-- The loss count of a sector's contents (R107). -/
def State.lossOf (s : State) (sec : Nat) : Nat := Tbl.get (fun _ => 0) s.fab.loss sec

/-- A stored word; an unwritten one holds free bits (R107), or zero after a scan entry (R622). -/
def State.bmWord (s : State) (sec b w : Nat) : BmWord :=
  match Tbl.get (fun _ => none) s.fab.words (wordKey sec b w) with
  | some x => x
  | none => if s.fab.zero.has sec then ⟨0, true, []⟩ else ⟨Config.freeBm (s.lossOf sec) (wordKey sec b w), false, []⟩

/-- Store a word. -/
def State.setBmWord (s : State) (sec b w : Nat) (x : BmWord) : State :=
  { s with fab := { s.fab with words := Tbl.set (fun _ => none) s.fab.words (wordKey sec b w) (some x) } }

/-- A stored word's bits as written, without the check bits made for them, and with the inversions that happened since. -/
def BmWord.data (x : BmWord) : BitVec 72 := x.raw ^^^ BitVec.ofNat 72 ((x.flips.map (fun i => 2 ^ (i % 72))).sum)

/-- The 72 stored bits (R90): where check bits were made for the data, they stand in the upper eight. -/
def BmWord.bits (x : BmWord) : BitVec 72 :=
  if x.ecc then x.data ^^^ (((Config.checkBits (x.raw.setWidth 64)).setWidth 72) <<< 64) else x.data

/-- What a read of a stored word gives (R96, R101, R108): the bits presented, a correction, a double-bit error. With ECC
in force one inverted bit is corrected and two are detected; three or more, and check bits that were not made for the data, give
what the decoder makes of the stored bits: the stored data, with a double-bit error or nothing, or a free correction. -/
def BmWord.read (x : BmWord) (ecc : Bool) (code : Nat := 0) : BitVec 72 × Bool × Bool :=
  if !ecc then (x.bits, false, false)
  else if x.ecc && x.flips.length == 0 then (x.raw, false, false)
  else if x.ecc && x.flips.length == 1 then (x.raw, true, false)
  else if x.ecc && x.flips.length == 2 then (x.data, false, true)
  else
    let r := Config.freeEcc code x.bits
    match r.1 % 3 with
    | 0 => (x.data, false, false)
    | 1 => ((x.data &&& (0xFF#72 <<< 64)) ||| (r.2.setWidth 72), true, false)
    | _ => (x.data, false, true)

/-- An ECC report (R101): counters, BM_LAST_ERR, and a record of source 30 from the sector where its log is enabled. -/
def State.bmError (s : State) (sec b w : Nat) (de : Bool) : State :=
  let t := if de then s.count (R.BM_DE_CNT sec) F.BM_DE_CNT_COUNT 1 else s.count (R.BM_CE_CNT sec) F.BM_CE_CNT_COUNT 1
  let u := t.setReg (R.BM_LAST_ERR sec) (BitVec.ofNat 32 ((if de then 2 else 1) * 2 ^ 30 + w % 1024 * 2 ^ 16 + b % 256))
  let f := if de then F.BM_ECC_CTRL_DE_LOG else F.BM_ECC_CTRL_CE_LOG
  u.when (u.flag (R.BM_ECC_CTRL sec) f) (fun v =>
    v.report sec ⟨30, if de then 1 else 0, 0x04, w % 1024 * 2 ^ 16 + sec % 32 * 2 ^ 8 + b % 256⟩)

/-- Report the flags of one read. -/
def State.bmFlags (s : State) (sec b w : Nat) (sbe dbe : Bool) : State :=
  if dbe then s.bmError sec b w true else if sbe then s.bmError sec b w false else s

/-- Read a stored word through the decoder and report what it finds. -/
def State.bmFetch (s : State) (sec b w : Nat) (ecc : Bool) : BitVec 72 × Bool × Bool × State :=
  let r := (s.bmWord sec b w).read ecc
  (r.1, r.2.1, r.2.2, s.bmFlags sec b w r.2.1 r.2.2)

/-- The place of a port word: stored word and lowest bit (R89). -/
def portPlace (shape addr : Nat) : Nat × Nat :=
  let i := (addr % shapeDepth shape) * shapeWidth shape
  (i / shapeFamily shape, i % shapeFamily shape)

/-- The bits of a port word that byte enables cover (R88, R89); shapes without byte enables write the whole word. -/
def beMask (shape : Nat) (be : BitVec 8) : BitVec 72 :=
  let w := shapeWidth shape
  let bw := if shapeFamily shape = 64 then 8 else 9
  if w < bw then BitVec.ofNat 72 (2 ^ w - 1)
  else BitVec.ofNat 72 (((List.range (w / bw)).map (fun k => if be.getLsbD k then (2 ^ bw - 1) * 2 ^ (bw * k) else 0)).sum)

/-- A stored word's bits with a port word merged in at bit `lo` under a mask. -/
def mergeBits (old data mask : BitVec 72) (lo : Nat) : BitVec 72 :=
  (old &&& ~~~ (mask <<< lo)) ||| ((data &&& mask) <<< lo)

/-- The shape, the mode, the output register, OUT_INIT and the leaf network of a port. -/
def BmCfg.shape (c : BmCfg) (portB : Bool) : Nat := if portB then c.shapeB else c.shapeA
def BmCfg.mode (c : BmCfg) (portB : Bool) : Nat := if portB then c.modeB else c.modeA
def BmCfg.outReg (c : BmCfg) (portB : Bool) : Bool := if portB then c.outRegB else c.outRegA
def BmCfg.outInit (c : BmCfg) (portB : Bool) : BitVec 72 := if portB then c.outInitB else c.outInitA
def BmCfg.net (c : BmCfg) (portB : Bool) : Nat := if portB then c.netB else c.netA

/-- The key of a port. -/
def portKey (sec b : Nat) (portB : Bool) : Nat := (sec * 256 + b) * 2 + b2n portB

/-- What a port presents that nothing has loaded since GSR: OUT_INIT in its output register (R93). -/
def BmCfg.firstOut (c : BmCfg) (portB : Bool) : PortOut := ⟨if c.outReg portB then c.outInit portB else 0, false, false, false⟩

/-- A port's output (R91, R93): the output register holds OUT_INIT while GSR is asserted. -/
def State.portOut (s : State) (sec b : Nat) (portB : Bool) : PortOut :=
  let c := s.act.bmCfg (sec * 256 + b)
  let o := (Tbl.get (fun _ => none) s.fab.out (portKey sec b portB)).getD (c.firstOut portB)
  if s.fab.gsr && c.outReg portB then { c.firstOut portB with wait := o.wait } else o

/-- Set it. -/
def State.setPortOut (s : State) (sec b : Nat) (portB : Bool) (o : PortOut) : State :=
  { s with fab := { s.fab with out := Tbl.set (fun _ => none) s.fab.out (portKey sec b portB) (some o) } }

/-- The ports of a block may write: start-up step 3 has passed (R104) and the block's region is not held (R105). -/
def State.bmWritable (s : State) (sec b : Nat) : Bool :=
  3 ≤ s.fld R.CFG_BOOT_STAT F.CFG_BOOT_STAT_STEP && !s.heldIn (s.blockRegion (sec * 256 + b))

/-- A word written whole: with check bits when ECC is in force (R96), else the 64 data bits beside the upper eight as they
stand. -/
def freshWord (bits : BitVec 72) (old : BmWord) (ecc : Bool) : BmWord :=
  if ecc then ⟨bits &&& BitVec.ofNat 72 (2 ^ 64 - 1), true, []⟩
  else ⟨(old.bits &&& (0xFF#72 <<< 64)) ||| (bits &&& BitVec.ofNat 72 (2 ^ 64 - 1)), false, []⟩

/-- A write through the load port (R103): 64 data bits, or 72 stored bits where `w72`. -/
def State.loadPort (s : State) (sec b w : Nat) (bits : BitVec 72) (w72 : Bool) : State :=
  if w72 then s.setBmWord sec b w ⟨bits, false, []⟩
  else s.setBmWord sec b w (freshWord bits (s.bmWord sec b w) (s.act.bmCfg (sec * 256 + b)).ecc)

/-! ## Queue controllers -/

/-- A queue in reset (R118, R119). -/
def Queue.reset : Queue := ⟨0, 0, 0, 0, 0, 0, [], none, false, false, false, false, false, true, true⟩

/-- The key of a queue: a block memory as `sector * 256 + block`, then the crossing FIFOs. -/
def crossKey (sec dir i : Nat) : Nat := 8192 + (sec * 4 + dir) * 128 + i
def queueKey : QueueId → Nat
  | .block sec b => sec * 256 + b
  | .crossing sec dir i => crossKey sec dir i

/-- The queue with a key; before GSR is released it is in reset (R119). -/
def State.queueAt (s : State) (k : Nat) : Queue := Tbl.get (fun _ => Queue.reset) s.fab.queues k
def State.queue (s : State) (q : QueueId) : Queue := s.queueAt (queueKey q)

/-- Set it. -/
def State.setQueue (s : State) (q : QueueId) (x : Queue) : State :=
  { s with fab := { s.fab with queues := Tbl.set (fun _ => Queue.reset) s.fab.queues (queueKey q) x } }

/-- How a queue is configured: SYNC, FWFT, capacity D, latency L, thresholds, and the sector and leaf network of each side. -/
structure QCfg where
  sync : Bool
  fwft : Bool
  cap : Nat
  lat : Nat
  aeTh : Nat
  afTh : Nat
  netW : Nat × Nat
  netR : Nat × Nat
  deriving DecidableEq, Repr

/-- A block whose controller runs a queue. -/
def BmCfg.isQueue (c : BmCfg) : Bool := c.qmode == 1 || c.qmode == 2

/-- The capacity of a block's queue (R112), and its read latency (R91, R112). -/
def BmCfg.capacity (c : BmCfg) : Nat := max 1 c.casc * shapeDepth c.shapeA
def BmCfg.latency (c : BmCfg) : Nat := (if c.outRegB then 2 else 1) + (if 1 < c.casc then 1 else 0)

/-- The queue of a block (R109-R113): in SYNC mode both sides run on port A's clock. -/
def BmCfg.queue (c : BmCfg) (sec : Nat) : QCfg :=
  ⟨c.qmode == 1, c.fwft, c.capacity, c.latency, c.aeTh, c.afTh, (sec, c.netA), (sec, if c.qmode = 1 then c.netA else c.netB)⟩

/-- The sector next to a sector (R161): eight rows of four. -/
def sectorNext (sec dir : Nat) : Option Nat :=
  match dir with
  | 0 => if sec / 4 < 7 then some (sec + 4) else none
  | 1 => if sec % 4 < 3 then some (sec + 1) else none
  | 2 => if 0 < sec / 4 then some (sec - 4) else none
  | _ => if 0 < sec % 4 then some (sec - 1) else none

/-- The leaf network and the threshold that the frames of a sector give a side of a crossing FIFO; network 16 for none. -/
def Plane.crossSide (p : Plane) (sector side : Nat) : Nat × Nat :=
  match ((p.cross.filter (fun q => keySector q.1 == sector)).flatMap (fun q => q.2)).find? (fun x => x.1 == side) with
  | some x => x.2
  | none => (16, 0)

/-- The settings of a queue in the active plane. A crossing FIFO is an ASYNC queue in FWFT style, L = 1, 16 deep; its write side is
configured in the source sector and its read side in the destination (R161). -/
def State.qCfg (s : State) : QueueId → Option QCfg
  | .block sec b => let c := s.act.bmCfg (sec * 256 + b); if c.isQueue then some (c.queue sec) else none
  | .crossing sec dir i => (sectorNext sec dir).map (fun t =>
      let w := s.act.crossSide sec (2 * crossKey sec dir i)
      let r := s.act.crossSide t (2 * crossKey sec dir i + 1)
      ⟨false, true, 16, 1, r.2, w.2, (sec, w.1), (t, r.1)⟩)

/-- The tile that holds a side of a crossing FIFO: on the edge that the FIFO leaves by, or comes in by. -/
def edgeTile (sector dir pos : Nat) : Nat :=
  640 * sector + (match dir with
    | 0 => 32 * 19 + pos % 32
    | 1 => 32 * (pos % 20) + 31
    | 2 => pos % 32
    | _ => 32 * (pos % 20))

/-- The region of a side of a queue. -/
def State.qRegion (s : State) (q : QueueId) (readSide : Bool) : Option Nat :=
  match q with
  | .block sec b => s.blockRegion (sec * 256 + b)
  | .crossing sec dir i =>
    let pos := Config.crossTile (2 * crossKey sec dir i + b2n readSide)
    if readSide then s.regionOf (edgeTile ((sectorNext sec dir).getD sec) ((dir + 2) % 4) pos)
    else s.regionOf (edgeTile sec dir pos)

/-- The clock of a side of a queue runs. -/
def State.qRuns (s : State) (c : QCfg) (readSide : Bool) : Bool :=
  if readSide then s.netRuns c.netR.1 c.netR.2 else s.netRuns c.netW.1 c.netW.2

/-- FULL, EMPTY, AF and AE (R113, R114); all high while the side is in reset (R118). -/
def Queue.full (q : Queue) (c : QCfg) : Bool := q.rst || q.rstW || q.wrCount == c.cap
def Queue.empty (q : Queue) (c : QCfg) : Bool := q.rst || q.rstR || (if c.fwft then q.buf.isEmpty else q.rdCount == 0)
def Queue.almostFull (q : Queue) (c : QCfg) : Bool := q.rst || q.rstW || c.afTh ≤ q.wrCount
def Queue.almostEmpty (q : Queue) (c : QCfg) : Bool := q.rst || q.rstR || q.rdCount ≤ c.aeTh

/-! ## Arithmetic slices -/

/-- An operation of zeros. -/
def SliceOp.zero : SliceOp := ⟨0, 0, 0, 0, 0, false, false⟩

/-- A slice with every register 0 (R130). -/
def Slice.zero : Slice :=
  ⟨SliceOp.zero, SliceOp.zero, SliceOp.zero, ⟨SliceOp.zero, 0, 0⟩, ⟨SliceOp.zero, 0⟩, 0, false, false, 0, false, false, false⟩

/-- A group after GSR (R130, R136). -/
def Group.zero : Group := ⟨0, none, none, none, [], false, false, false, false⟩

def State.slice (s : State) (k : Nat) : Slice := Tbl.get (fun _ => Slice.zero) s.fab.slices k
def State.setSlice (s : State) (k : Nat) (x : Slice) : State :=
  { s with fab := { s.fab with slices := Tbl.set (fun _ => Slice.zero) s.fab.slices k x } }
def State.group (s : State) (k : Nat) : Group := Tbl.get (fun _ => Group.zero) s.fab.groups k
def State.setGroup (s : State) (k : Nat) (x : Group) : State :=
  { s with fab := { s.fab with groups := Tbl.set (fun _ => Group.zero) s.fab.groups k x } }

/-- The register stages in use (R129). -/
def SliceCfg.useI1 (c : SliceCfg) : Bool := c.regs.testBit 0
def SliceCfg.useI2 (c : SliceCfg) : Bool := c.regs.testBit 1
def SliceCfg.usePs (c : SliceCfg) : Bool := c.regs.testBit 2
def SliceCfg.usePr (c : SliceCfg) : Bool := c.regs.testBit 3
def SliceCfg.useSo (c : SliceCfg) : Bool := c.regs.testBit 4

/-- Slice `k` (as `sector * 384 + a`) is cascaded to the slice south of it: same column, same region (R131, R132). DESIGN CHOICE
(notes/assumptions/45.md): the southmost slice of a column reads 0, and two slices of one region are linked whatever lies between. -/
def State.linked (s : State) (k : Nat) : Bool := k % 48 != 0 && s.sliceRegion k == s.sliceRegion (k - 1)

/-- The head of the exponent group of a slice in a plane (R132): go south while the slice does not start a group. -/
def State.headOf (s : State) (p : Plane) : Nat → Nat → Nat
  | 0, k => k
  | n + 1, k => if (p.slCfg k).grpStart || !s.linked k then k else s.headOf p n (k - 1)

/-- The head in the active plane. -/
def State.head (s : State) (k : Nat) : Nat := s.headOf s.act 48 k

/-- The members of the group headed by `h`. -/
def State.members (s : State) (p : Plane) (h : Nat) : List Nat :=
  (List.range (48 - h % 48)).map (fun i => h + i) |>.filter (fun k => s.headOf p 48 k == h)

/-- The outputs EXP_LATE and CYC_PULSE stand for one edge of the group clock (R137, R141). -/
def Group.nextEdge (g : Group) : Group := { g with expLate := false, pulse := false }

/-- A cone start that waits to be taken is dropped with CYC_MISS where the group clock does not run or the region is held (R142). -/
def State.dropStarts (s : State) : State :=
  s.forEach ((s.fab.groups.filter (fun p => p.2.cone &&
      (!s.netRuns (p.1 / 384) (s.act.slCfg p.1).net || s.heldIn (s.sliceRegion p.1)))).map (fun p => p.1))
    (fun t k => t.setGroup k { t.group k with cone := false, miss := true })

/-! ## Reset and firing of what the fabric holds -/

/-- Every queue, slice and group of what `sel` picks goes to reset. -/
def Fabric.resetWhere (f : Fabric) (selQ selS : Nat → Bool) : Fabric :=
  { f with queues := f.queues.filter (fun q => !selQ q.1), slices := f.slices.filter (fun q => !selS q.1),
           groups := f.groups.filter (fun q => !selS q.1) }

/-- GSR asserted (R65, R68, R119, R130): flip-flops at INIT, queues and slices in reset, and block-memory outputs at their
initial values (R93). -/
def State.assertGsr (s : State) : State :=
  { s.forEach (List.range 32) (fun t k => t.setReg (R.FAB_GSR_STAT k) 1) with
      fab := { s.fab with gsr := true, released := [], ff := [], queues := [], slices := [], groups := [], out := []
                          rmw := [], iso := [], io := [] } }

/-- Whether the queue of a block keeps its pointers in a RETAIN firing: mode, shape, read style and cascade unchanged
(R120). -/
def BmCfg.sameQueue (a b : BmCfg) : Bool :=
  a.qmode == b.qmode && a.shapeA == b.shapeA && a.fwft == b.fwft && a.casc == b.casc

/-- Whether a slice keeps its registers in a RETAIN firing: group membership, OW and register use unchanged (R144). -/
def State.sameSlice (s : State) (k : Nat) : Bool :=
  let h := s.headOf s.act 48 k
  h == s.headOf s.shd 48 k && s.members s.act h == s.members s.shd h &&
    (s.act.slCfg k).ow == (s.shd.slCfg k).ow && (s.act.slCfg k).regs == (s.shd.slCfg k).regs

/-- A queue reset by a firing: RST is released at the edge unless user logic holds it, each side then waits for its third edge
(R118, R120). -/
def Queue.fired (q : Queue) : Queue := { Queue.reset with rst := q.rst, dout := q.dout }

/-- The ports of a region's blocks that nothing has loaded keep the OUT_INIT they present when their settings exchange. -/
def State.keepOuts (s : State) (r : Nat) : State :=
  let ks := ((s.act.bm ++ s.shd.bm).map (fun q => q.1)).eraseDups.filter (fun k => s.blockRegion k == some r)
  s.forEach (ks.flatMap (fun k => [(k, false), (k, true)])) (fun t p =>
    let a := (t.act.bmCfg p.1).firstOut p.2
    t.when ((Tbl.get (fun _ => none) t.fab.out (portKey 0 p.1 p.2)).isNone && a != (t.shd.bmCfg p.1).firstOut p.2)
      (fun u => u.setPortOut 0 p.1 p.2 a))

/-- The region of the queue with a key: that of its block, or of the write side of a crossing FIFO. -/
def State.queueRegion (s : State) (k : Nat) : Option Nat :=
  if k < 8192 then s.blockRegion k
  else
    let j := k - 8192
    s.regionOf (edgeTile (j / 512) (j / 128 % 4) (Config.crossTile (2 * k)))

/-- What a firing of region `r` does to queues, slices and groups, judged before the planes exchange (R120, R144). A crossing FIFO
keeps its pointers in RETAIN: its mode, depth and style are fixed (R161). -/
def State.fireFabric (s : State) (r : Nat) (init : Bool) : State :=
  let inS := fun k => s.sliceRegion k == some r
  let keepQ := fun k => !init && (8192 ≤ k || BmCfg.sameQueue (s.act.bmCfg k) (s.shd.bmCfg k))
  let keepS := fun k => !init && s.sameSlice k
  let t := s.keepOuts r
  let hit := (t.fab.queues.map (fun q => q.1)).filter (fun k => t.queueRegion k == some r && !keepQ k)
  { t with fab := { t.fab with
      queues := hit.foldl (fun u k => Tbl.set (fun _ => Queue.reset) u k (t.queueAt k).fired) t.fab.queues
      slices := t.fab.slices.filter (fun q => !inS q.1 || keepS q.1)
      groups := t.fab.groups.filter (fun q => !inS q.1 || keepS q.1) } }

/-- The flip-flops of region `r` across a firing: with MODE INIT they load INIT of the new plane (R246), with RETAIN they
keep their values (R250). Judged before the planes exchange. -/
def State.fireFfs (s : State) (r : Nat) (init : Bool) : State :=
  let sel := fun k => s.regionOf k == some r
  let rest := s.fab.ff.filter (fun q => !sel q.1)
  let keys := ((s.act.init ++ s.shd.init ++ s.fab.ff).map (fun q => q.1)).filter sel |>.eraseDups
  let kept := keys.foldl (fun (t : Tbl (BitVec 1024)) k =>
    let v := Tbl.get (fun j => s.act.initVal j) s.fab.ff k
    if v = s.shd.initVal k then t else Tbl.insert k v t) rest
  { s with fab := { s.fab with ff := if init then rest else kept } }

/-- The monitors of the fabric PLLs configured in the active plane keep on once they have left it (R163). -/
def State.seeClocks (s : State) : State :=
  { s with clk := { s.clk with
      seen := (s.act.clk.filter (fun q => q.2.used)).foldl (fun t q => NSet.add t (0x80 + 4 * q.1)) s.clk.seen } }

/-- Fabric PLLs at a firing that changes the sector clock frames (R156): one whose N, M or D values change closes the gates of the
leaf networks it feeds until it has relocked. Judged before the planes exchange. -/
def State.fireClocks (s : State) (r : Nat) : State :=
  ((List.range 32).filter (fun k => s.frameRegion (mkKey k 0 0 124) == some r)).foldl (fun t k =>
    let a := s.act.clkCfg k
    let b := s.shd.clkCfg k
    if (a.n, a.m, a.d) = (b.n, b.m, b.d) then t
    else ({ t with fab := { t.fab with relock := NSet.add t.fab.relock k } }).setBit R.CLK_FPLL_LOCK k false)
    s.seeClocks

/-! ## Probes -/

/-- A probe path at rest. -/
def Probe.zero : Probe := ⟨0, 0, 0, 0, 0, [], 0, [], 0⟩

/-- The probe path of a sector. -/
def State.probe (s : State) (sec : Nat) : Probe := Tbl.get (fun _ => Probe.zero) s.fab.probe sec

/-- Set it. -/
def State.setProbe (s : State) (sec : Nat) (p : Probe) : State :=
  { s with fab := { s.fab with probe := Tbl.set (fun _ => Probe.zero) s.fab.probe sec p } }

/-- STATE of the capture engine: 0 IDLE, 1 ARMED, 2 TRIGGERED, 3 DONE, 4 ABORTED. -/
def State.prbState (s : State) (sec : Nat) : Nat := s.fld (R.FAB_PRB_STAT sec) F.FAB_PRB_STAT_STATE

/-- End a running capture in ABORTED (R82, R83, R84). -/
def State.prbAbort (s : State) (sec : Nat) : State :=
  s.when (s.prbState sec == 1 || s.prbState sec == 2) (fun t => t.setFld (R.FAB_PRB_STAT sec) F.FAB_PRB_STAT_STATE 4)

/-- A sector asks for the PROBE pins (R75, R76): EN and PINS_EN, and PIN_RATIO other than 0b11. -/
def State.wantsPins (s : State) (sec : Nat) : Bool :=
  let c := R.FAB_PRB_CTRL sec
  s.flag c F.FAB_PRB_CTRL_EN && s.flag c F.FAB_PRB_CTRL_PINS_EN && s.fld c F.FAB_PRB_CTRL_PIN_RATIO != 3

/-- Output on the PROBE pins is possible: start-up step 5 has passed (R202). -/
def State.pinsOn (s : State) : Bool := 5 ≤ s.fld R.CFG_BOOT_STAT F.CFG_BOOT_STAT_STEP

/-- Settle which sector's bus is on the PROBE pins: none before start-up step 5 (R202), else the lowest-numbered that asks
(R75). A sector whose output starts first sends 32 alignment words (R77). -/
def State.settlePins (s : State) : State :=
  let on := if s.pinsOn then (List.range 32).find? (fun k => s.wantsPins k) else none
  if on = s.fab.pins then s
  else
    let t := match on with
      | some k => s.setProbe k { s.probe k with align := 32 }
      | none => s
    { t with fab := { t.fab with pins := on } }

/-- PINS_ACTIVE and PINS_DENIED of a sector (R75). -/
def State.pinsActive (s : State) (sec : Nat) : Bool := s.fab.pins == some sec
def State.pinsDenied (s : State) (sec : Nat) : Bool :=
  s.flag (R.FAB_PRB_CTRL sec) F.FAB_PRB_CTRL_EN && s.flag (R.FAB_PRB_CTRL sec) F.FAB_PRB_CTRL_PINS_EN && !s.pinsActive sec

/-- What PROBE pin `j` drives in slot `slot` of the sampling period (R75-R77): none at high impedance; 0 where no sector qualifies;
first the alignment words, then lane `j + 16 * slot` of the sample. -/
def State.probePin (s : State) (j slot : Nat) : Option Bool :=
  if !s.pinsOn then none
  else match s.fab.pins with
    | none => some false
    | some k => if 0 < (s.probe k).align then some (slot == 0) else some ((s.probe k).word.getLsbD (j % 16 + 16 * slot))

/-- Signals per PROBE pin. -/
def State.pinRatio (s : State) (sec : Nat) : Nat := 2 ^ s.fld (R.FAB_PRB_CTRL sec) F.FAB_PRB_CTRL_PIN_RATIO

/-- Samples reach the pins and the engine: EN, and CLKSEL names a configured network of the sector that runs (R71). -/
def State.prbSampling (s : State) (sec : Nat) : Bool :=
  s.flag (R.FAB_PRB_CTRL sec) F.FAB_PRB_CTRL_EN && s.netRuns sec (s.fld (R.FAB_PRB_CTRL sec) F.FAB_PRB_CTRL_CLKSEL)

/-- The tile and the tile signal of each lane, as the probe fields in effect select them (R69, R70). -/
def State.lanes (s : State) (sec : Nat) : List (Nat × Nat) :=
  (List.range 64).map (fun k =>
    let t := s.fld (R.FAB_PRB_BUS sec k) F.FAB_PRB_BUS_TILE
    (t, if t < 640 then s.fld (R.FAB_PRB_TILE sec t (k % 8)) F.FAB_PRB_TILE_SIG else 0))

/-- The value of a lane (R69, R70): signal `4 e + o` of the tile; constant 0 for tiles 640 and above. -/
def State.laneVal (s : State) (sec : Nat) (x : Nat × Nat) : Bool :=
  x.1 < 640 && s.net (.out (512 * (640 * sec + x.1) + x.2 / 4) (x.2 % 4))

/-- A sample of the probe bus. -/
def State.busSample (s : State) (sec : Nat) (ls : List (Nat × Nat)) : BitVec 64 :=
  BitVec.ofNat 64 ((ls.zipIdx.map (fun q => if s.laneVal sec q.1 then 2 ^ q.2 else 0)).sum)

/-- The probe registers of a sector with a STAGED field. -/
def probeRegs (sec : Nat) : List Nat :=
  [R.FAB_PRB_CTRL sec, R.FAB_PRB_CAP sec, R.FAB_PRB_MASK_LO sec, R.FAB_PRB_MASK_HI sec, R.FAB_PRB_VAL_LO sec,
   R.FAB_PRB_VAL_HI sec]

/-- Apply or exchange every staged probe field of a sector (R73, R74, R83): a running capture ends first, the next two sampling edges
still use the old lanes, APPLY_SEQ counts, the pins settle. -/
def State.prbApply (s : State) (sec : Nat) (f : State → Nat → State) : State :=
  let t := s.prbAbort sec
  let p := t.probe sec
  let t := t.when (p.oldLeft == 0 && t.prbSampling sec) (fun t => t.setProbe sec { p with old := t.lanes sec, oldLeft := 2 })
  let b := 0x3000000 + 0x10000 * sec
  let u := (probeRegs sec ++ t.touched (b + 0x200) (b + 0x300) ++ t.touched (b + 0x8000) (b + 0xD000)).foldl f t
  (u.countWrap (R.FAB_PRB_STAT sec) F.FAB_PRB_STAT_APPLY_SEQ 1).settlePins

/-- Capacity of a capture in samples (R79). -/
def Probe.capacity (p : Probe) : Nat := 1024 * (p.count + 1)

/-- A write to FAB_PRB_CTRL has been staged: its ARM, STOP and APPLY bits act (R73, R80, R82). DESIGN CHOICE
(notes/assumptions/45.md): APPLY acts first, then STOP, then ARM; an ARM while a capture runs ends it and starts another, or leaves
STATE at IDLE with BAD_TARGET. -/
def State.prbCtrl (s : State) (sec : Nat) (v : Word) : State :=
  let s1 := s.when (v.getLsbD 0) (fun t => t.prbApply sec State.applyReg)
  let s2 := s1.when (v.getLsbD 2) (fun t => t.prbAbort sec)
  let first := s2.fld (R.FAB_PRB_CAP sec) F.FAB_PRB_CAP_FIRST
  let count := s2.fld (R.FAB_PRB_CAP sec) F.FAB_PRB_CAP_COUNT
  let bad := 255 < first + count || (List.range (count + 1)).any (fun i => !s2.act.cap.has (sec * 256 + first + i))
  let st := R.FAB_PRB_STAT sec
  s2.when (v.getLsbD 1 && s2.flag (R.FAB_PRB_CTRL sec) F.FAB_PRB_CTRL_EN) (fun t =>
    if bad then (t.setFlag st F.FAB_PRB_STAT_BAD_TARGET true).setFld st F.FAB_PRB_STAT_STATE 0
    else (((t.setFlag st F.FAB_PRB_STAT_BAD_TARGET false).setFlag st F.FAB_PRB_STAT_WRAPPED false).setFld st
      F.FAB_PRB_STAT_STATE 1).setProbe sec { t.probe sec with idx := 0, left := 0, first := first, count := count })

/-- Store one sample of the probe bus (R79, R81): WRAPPED where index C - 1 is written by ARMED samples. -/
def State.prbStore (s : State) (sec : Nat) (x : BitVec 64) : State :=
  let p := s.probe sec
  let b := p.first + p.idx / 1024
  let ecc := (s.act.bmCfg (sec * 256 + b)).ecc
  let t := s.setBmWord sec b (p.idx % 1024) (freshWord (x.setWidth 72) (s.bmWord sec b (p.idx % 1024)) ecc)
  let u := t.when (p.idx + 1 == p.capacity && s.prbState sec == 1)
    (fun v => v.setFlag (R.FAB_PRB_STAT sec) F.FAB_PRB_STAT_WRAPPED true)
  u.setProbe sec { p with idx := (p.idx + 1) % p.capacity }

/-- A sample triggers (R81): it equals VAL in every bit that MASK sets. -/
def State.prbMatch (s : State) (sec : Nat) (x : BitVec 64) : Bool :=
  let m := (s.reg (R.FAB_PRB_MASK_HI sec)).append (s.reg (R.FAB_PRB_MASK_LO sec))
  let v := (s.reg (R.FAB_PRB_VAL_HI sec)).append (s.reg (R.FAB_PRB_VAL_LO sec))
  (x &&& m) == (v &&& m)

/-- The last of the samples after the trigger has been written (R82). -/
def State.prbDone (s : State) (sec : Nat) : State :=
  s.when (s.prbState sec == 2 && (s.probe sec).left == 0) (fun t => t.setFld (R.FAB_PRB_STAT sec) F.FAB_PRB_STAT_STATE 3)

/-- A sample reaches the capture engine (R81, R82): ARMED, it is written, and a match makes it the trigger; TRIGGERED, one of the
samples after the trigger is written. -/
def State.prbTake (s : State) (sec : Nat) (x : BitVec 64) : State :=
  let st := s.prbState sec
  if st = 1 then
    let at' := (s.probe sec).idx
    let t := s.prbStore sec x
    if s.prbMatch sec x then
      let p := t.probe sec
      ((t.setFld (R.FAB_PRB_STAT sec) F.FAB_PRB_STAT_STATE 2).setFld (R.FAB_PRB_TRIGPTR sec) F.FAB_PRB_TRIGPTR_INDEX at').setProbe
        sec { p with left := min (t.fld (R.FAB_PRB_CAP sec) F.FAB_PRB_CAP_POST) (p.capacity - 1) }
    else t
  else if st = 2 then
    if (s.probe sec).left = 0 then s.prbDone sec
    else
      let t := s.prbStore sec x
      let p := t.probe sec
      (t.setProbe sec { p with left := p.left - 1 }).prbDone sec
  else s

/-- A sampling edge of the probe bus (R71-R73, R77): a sample is taken, the one of four edges before is delivered to the pins and to
the capture engine. -/
def State.prbEdge (s : State) (sec : Nat) : State :=
  if !s.prbSampling sec then s
  else
    let p := s.probe sec
    let q := p.pipe ++ [s.busSample sec (if 0 < p.oldLeft then p.old else s.lanes sec)]
    let p := { p with oldLeft := p.oldLeft - 1, old := if p.oldLeft ≤ 1 then [] else p.old
                      align := if s.pinsActive sec then p.align - 1 else p.align }
    if q.length ≤ 4 then s.setProbe sec { p with pipe := q }
    else (s.setProbe sec { p with pipe := q.tail, word := q.headD 0 }).prbTake sec (q.headD 0)

/-! ## Clock edges -/

/-- The leaf networks in `mask` have an edge in a sector: the probe bus samples, flip-flops take their next values, one-edge outputs
fall, and the keepers hold what their lines carry. Signals from outside the model take fresh values. -/
def State.clockEdge (s : State) (sec mask : Nat) : State :=
  let on := mask &&& s.running sec
  if on = 0 then s
  else
    let t := ({ s with draws := s.draws + 1 }).keepLines sec
    let p := t.when (on.testBit (t.fld (R.FAB_PRB_CTRL sec) F.FAB_PRB_CTRL_CLKSEL)) (fun t => t.prbEdge sec)
    let f := p.fab
    let u := { p with fab := { f with ff := (t.ffEdge sec on).fab.ff
                                      groups := f.groups.map (fun (q : Nat × Group) =>
                                        if q.1 / 384 == sec && on.testBit (t.act.slCfg q.1).net then (q.1, q.2.nextEdge) else q) } }
    u.keepLines sec

/-- Time passes for the fabric: each sector with a configured clock has an edge of some of its running leaf networks; which ones is
free (notes/assumptions/11.md). -/
def State.fabricTick (s : State) : State :=
  s.forEach ((s.act.clk.map (fun q => q.1)).filter (fun k => k < 32)) (fun t k =>
    (t.gsrSettle k).clockEdge k (Config.freeWord t.draws).toNat)

/-- The sample at FAB_PRB_RDADDR (R85): 0 unless the capture is DONE or ABORTED and the index lies in it. The read of the
block reports its ECC flags (R101). -/
def State.prbRead (s : State) (sec : Nat) : BitVec 64 × State :=
  let p := s.probe sec
  let i := s.fld (R.FAB_PRB_RDADDR sec) F.FAB_PRB_RDADDR_INDEX
  if (s.prbState sec == 3 || s.prbState sec == 4) && i < p.capacity then
    let b := p.first + i / 1024
    let r := s.bmFetch sec b (i % 1024) (s.act.bmCfg (sec * 256 + b)).ecc
    (r.1.setWidth 64, r.2.2.2)
  else (0, s)

end Sys2Proof.Machine
end

