-- ==== Sys2Proof/Machine/FabricCmds.lean ====
section
/-! DEFINITION. FabricCmds.lean: the commands of the logic fabric, the block memories, the queue controllers and the
arithmetic slices (02, 03, 04) that are not register writes. -/

namespace Sys2Proof.Machine

/-! ## Bus lines and probes -/

/-- BUS_CONTENTION_DETECT (R62, R63): two driver cells of the active plane stand on the line: they are disabled, it reads 0 and its
keeper holds 0; one record of source 31. A line already recorded has no drivers left to detect. -/
def execBusContentionDetect (sec : Fin 32) (line : Fin 64) (s : State) : Host.Outcome State Fault Refusal :=
  let i := line.val % 32
  let c := if line.val < 32 then R.FAB_BUS_CONT_LO sec else R.FAB_BUS_CONT_HI sec
  let v := if line.val < 32 then R.FAB_BUS_VAL_LO sec else R.FAB_BUS_VAL_HI sec
  .next (if s.bit c i || (s.drivers sec line).length < 2 then s
    else ((s.setBit c i true).setBit v i false).report sec ⟨31, 2, 0x03, sec.val * 2 ^ 8 + line.val⟩)

/-- One edge of the sampling clock of a sector's probe bus. -/
def State.prbClock (s : State) (sec : Nat) : State := s.clockEdge sec (2 ^ s.fld (R.FAB_PRB_CTRL sec) F.FAB_PRB_CTRL_CLKSEL)

/-- Several. -/
def State.prbClocks (s : State) (sec : Nat) : Nat → State
  | 0 => s
  | n + 1 => (s.prbClocks sec n).prbClock sec

/-- PROBE_TRIGGER (R79, R81): `before` sampling edges pass without a trigger, and the next one delivers the trigger sample. It happens
only while ARMED, where the samples that the state gives are so. -/
def execProbeTrigger (sec : Fin 32) (before : Nat) (s : State) : Host.Outcome State Fault Refusal :=
  let t := s.prbClocks sec before
  .next (if s.prbState sec == 1 && t.prbState sec == 1 && (t.prbClock sec).prbState sec == 2 then t.prbClock sec else s)

/-- PROBE_CAPTURE_DONE (R82): the sampling edges pass that deliver the samples after the trigger; the capture is DONE. With sampling
stopped it never is. -/
def execProbeCaptureDone (sec : Fin 32) (s : State) : Host.Outcome State Fault Refusal :=
  let t := (s.prbClocks sec (s.probe sec).left).prbDone sec
  .next (if s.prbState sec == 2 && t.prbState sec == 3 then t else s)

/-! ## Block memories -/

/-- User logic reaches a port of a block: it is an ordinary memory and no capture block (R78, R109), and the port's
leaf network runs (R153, R631). -/
def State.bmUsable (s : State) (k : Nat) (portB : Bool) : Bool :=
  (s.act.bmCfg k).qmode == 0 && !s.act.cap.has k && s.netRuns (k / 256) ((s.act.bmCfg k).net portB)

/-- Upsets of stored bits that came before an access. -/
def State.bmUpset (s : State) (sec b w : Nat) (up : List (Fin 72)) : State :=
  if up.isEmpty then s
  else
    let x := s.bmWord sec b w
    s.setBmWord sec b w { x with flips := up.foldl (fun f i => NSet.put f i (!f.has i)) x.flips }

/-- The port word at a bit of a stored word. -/
def portWord (shape : Nat) (bits : BitVec 72) (lo : Nat) : BitVec 72 :=
  (bits >>> lo) &&& BitVec.ofNat 72 (2 ^ shapeWidth shape - 1)

/-- A write is narrow (R98): ECC in force and fewer than the 64 data bits. -/
def BmCfg.narrow (c : BmCfg) (portB : Bool) (be : BitVec 8) : Bool :=
  c.ecc && beMask (c.shape portB) be != BitVec.ofNat 72 (2 ^ 64 - 1)

/-- One port read (R89, R91, R93, R96); with the synchronous reset at 1 the output register takes OUT_INIT. -/
def State.bmPortRead (s : State) (sec b : Nat) (portB : Bool) (addr : Nat) (sr : Bool) : State :=
  let c := s.act.bmCfg (sec * 256 + b)
  if sr && c.outReg portB then s.setPortOut sec b portB (c.firstOut portB)
  else
    let p := portPlace (c.shape portB) addr
    let r := s.bmFetch sec b p.1 c.ecc
    r.2.2.2.setPortOut sec b portB ⟨portWord (c.shape portB) r.1 p.2, r.2.1, r.2.2.1, false⟩

/-- Store a port word (R88, R89, R96). A narrow write under ECC merges into the corrected data of the word (R98). -/
def State.bmStore (s : State) (sec b : Nat) (portB : Bool) (addr : Nat) (data : BitVec 72) (be : BitVec 8) : State :=
  let c := s.act.bmCfg (sec * 256 + b)
  let sh := c.shape portB
  let p := portPlace sh addr
  let m := beMask sh be
  let old := s.bmWord sec b p.1
  if c.narrow portB be then s.setBmWord sec b p.1 (freshWord (mergeBits (old.read true).1 data m p.2) old true)
  else if c.ecc then s.setBmWord sec b p.1 (freshWord (mergeBits 0 data m p.2) old true)
  else s.setBmWord sec b p.1 ⟨mergeBits old.bits data m p.2, false, []⟩

/-- What a writing operation reads before any write of its edge (R92, R94, R98): the word, and the decoder's flags; `none` where it
reads nothing. One read, reported once, serves a read-modify-write in READ_FIRST mode. -/
def State.bmBefore (s : State) (sec b : Nat) (portB : Bool) (addr : Nat) (be : BitVec 8) (rd : Bool) :
    Option (BitVec 72 × Bool × Bool) × State :=
  let c := s.act.bmCfg (sec * 256 + b)
  let p := portPlace (c.shape portB) addr
  if c.narrow portB be || (rd && c.mode portB == 1) then
    let r := s.bmFetch sec b p.1 c.ecc
    (some (portWord (c.shape portB) r.1 p.2, r.2.1, r.2.2.1), r.2.2.2)
  else (none, s)

/-- The store and the output of a writing operation (R92, R93, R98-R100): a read-modify-write whose read found a double-bit error is
not completed and presents DBE; WAIT follows a read-modify-write. -/
def State.bmAfter (s : State) (sec b : Nat) (portB : Bool) (addr : Nat) (data : BitVec 72) (be : BitVec 8) (rd sr : Bool)
    (pre : Option (BitVec 72 × Bool × Bool)) : State :=
  let c := s.act.bmCfg (sec * 256 + b)
  let p := portPlace (c.shape portB) addr
  let narrow := c.narrow portB be
  let lost := narrow && (pre.map (fun r => r.2.2)).getD false
  let t := if lost then s else s.bmStore sec b portB addr data be
  let keep := s.portOut sec b portB
  let read : PortOut := match pre with
    | some r =>
      if rd && (c.mode portB == 1 || (lost && c.mode portB == 0)) then ⟨r.1, r.2.1, r.2.2, narrow⟩
      else if rd && c.mode portB == 0 then
        ⟨portWord (c.shape portB) (t.bmWord sec b p.1).data p.2, r.2.1, r.2.2, narrow⟩
      else { keep with sbe := r.2.1, dbe := r.2.2, wait := narrow }
    | none =>
      if rd && c.mode portB == 0 then ⟨portWord (c.shape portB) (t.bmWord sec b p.1).bits p.2, false, false, false⟩
      else { keep with wait := false }
  let out := if sr && c.outReg portB then { c.firstOut portB with wait := narrow } else read
  let u := t.setPortOut sec b portB out
  if narrow then { u with fab := { u.fab with rmw := Tbl.set (fun _ => none) u.fab.rmw (sec * 256 + b) (some ⟨portB, p.1⟩) } } else u

/-- One port operation that writes, and reads as its mode says when `rd` (R92, R98, R99); where the ports are barred from writing it
only reads (R104, R105). -/
def State.bmPortWrite (s : State) (sec b : Nat) (portB : Bool) (addr : Nat) (data : BitVec 72) (be : BitVec 8)
    (rd sr : Bool) : State :=
  if !s.bmWritable sec b then s.when (rd || sr) (fun t => t.bmPortRead sec b portB addr sr)
  else
    let r := s.bmBefore sec b portB addr be rd
    r.2.bmAfter sec b portB addr data be rd sr r.1

/-- The read-modify-write under way in a block, while an edge lies within it (R98, R100). -/
def State.rmwOf (s : State) (sec b : Nat) : Option Rmw := Tbl.get (fun _ => none) s.fab.rmw (sec * 256 + b)

/-- A read-modify-write is complete: WAIT is low again on both ports. -/
def State.rmwEnd (s : State) (sec b : Nat) : State :=
  if (s.rmwOf sec b).isNone then s
  else
    let t := { s with fab := { s.fab with rmw := Tbl.set (fun _ => none) s.fab.rmw (sec * 256 + b) none } }
    [false, true].foldl (fun u p => u.setPortOut sec b p { u.portOut sec b p with wait := false }) t

/-- An edge that lies within a read-modify-write takes no operation: at the port's own next edge, which completes it (R98), and at an
edge of the other port that addresses its word, whose WAIT is then high (R100). `busy` says that the edge lies within one;
otherwise it has completed. -/
def State.bmOperate (s : State) (sec b : Nat) (portB : Bool) (addr : Nat) (busy : Bool) (f : State → State) : State :=
  let w := (portPlace ((s.act.bmCfg (sec * 256 + b)).shape portB) addr).1
  match s.rmwOf sec b with
  | none => f s
  | some m =>
    if !busy then f (s.rmwEnd sec b)
    else if m.portB == portB then s.rmwEnd sec b
    else if m.word == w then s.setPortOut sec b portB { s.portOut sec b portB with wait := true }
    else f s

/-- BM_READ (R91): the stored word as it stands after the upsets given, or OUT_INIT under the synchronous reset (R93). -/
def execBmRead (sec : Fin 32) (b : Fin 256) (portB : Bool) (addr : Nat) (sr busy : Bool) (upset : List (Fin 72))
    (s : State) : Host.Outcome State Fault Refusal :=
  let c := s.act.bmCfg (sec * 256 + b)
  let t := s.bmUpset sec b (portPlace (c.shape portB) addr).1 upset
  .next (if !s.bmUsable (sec * 256 + b) portB then t
    else t.bmOperate sec b portB addr busy (fun u => u.bmPortRead sec b portB addr sr))

/-- The same edge at both ports of a block with COMMON_CLK (R94): every read sees the word as it was before, then port B's write and
port A's take effect, so that A's byte stands where both enable it. -/
def State.bmTogether (s : State) (sec b : Nat) (portB : Bool) (o q : PortOp) : State :=
  match o.write, q.write with
  | some (d, be), none => (s.bmPortRead sec b (!portB) q.addr q.sr).bmPortWrite sec b portB o.addr d be o.rd o.sr
  | none, some (d, be) => (s.bmPortRead sec b portB o.addr o.sr).bmPortWrite sec b (!portB) q.addr d be q.rd q.sr
  | none, none => (s.bmPortRead sec b portB o.addr o.sr).bmPortRead sec b (!portB) q.addr q.sr
  | some x, some y =>
    let a := if portB then q else o
    let c := if portB then o else q
    let dA := if portB then y else x
    let dB := if portB then x else y
    if !s.bmWritable sec b then
      (s.bmPortWrite sec b false a.addr dA.1 dA.2 a.rd a.sr).bmPortWrite sec b true c.addr dB.1 dB.2 c.rd c.sr
    else
      let rA := s.bmBefore sec b false a.addr dA.2 a.rd
      let rB := rA.2.bmBefore sec b true c.addr dB.2 c.rd
      (rB.2.bmAfter sec b true c.addr dB.1 dB.2 c.rd c.sr rB.1).bmAfter sec b false a.addr dA.1 dA.2 a.rd a.sr rA.1

/-- One operation of a port. -/
def State.bmOne (s : State) (sec b : Nat) (portB : Bool) (o : PortOp) : State :=
  match o.write with
  | some (d, be) => s.bmPortWrite sec b portB o.addr d be o.rd o.sr
  | none => s.bmPortRead sec b portB o.addr o.sr

/-- BM_WRITE (R92-R95): a write, with what the other port does on the same edge in `other`. With COMMON_CLK the two act
together; otherwise the port named acts first. -/
def execBmWrite (sec : Fin 32) (b : Fin 256) (portB : Bool) (addr : Nat) (data : BitVec 72) (be : BitVec 8) (rd sr busy : Bool)
    (other : Option PortOp) (s : State) : Host.Outcome State Fault Refusal :=
  let k := sec.val * 256 + b.val
  let o : PortOp := ⟨addr, some (data, be), rd, sr⟩
  .next (if !s.bmUsable k portB then s
    else s.bmOperate sec b portB addr busy (fun t =>
      match other.filter (fun _ => t.bmUsable k (!portB)) with
      | none => t.bmOne sec b portB o
      | some q =>
        if (t.act.bmCfg k).commonClk then t.bmTogether sec b portB o q
        else (t.bmOne sec b portB o).bmOne sec b (!portB) q))

/-- BM_NARROW_WRITE (R98-R100): a read-modify-write under ECC, whole and indivisible. -/
def execBmNarrowWrite (sec : Fin 32) (b : Fin 256) (portB : Bool) (addr : Nat) (data : BitVec 72) (be : BitVec 8)
    (rd sr busy : Bool) (s : State) : Host.Outcome State Fault Refusal :=
  .next (if s.bmUsable (sec * 256 + b) portB && (s.act.bmCfg (sec * 256 + b)).narrow portB be then
      s.bmOperate sec b portB addr busy (fun t => t.bmPortWrite sec b portB addr data be rd sr)
    else s)

/-! ## Queue controllers -/

/-- The block, stored word and lowest bit of queue position `i` (R112). DESIGN CHOICE (notes/assumptions/45.md): the positions of a
cascade fill block `b`, then `b + 1`, and so on. -/
def queuePlace (c : BmCfg) (b i : Nat) : Nat × Nat :=
  let j := i % c.capacity
  (b + j / shapeDepth c.shapeA, j % shapeDepth c.shapeA)

/-- A block of a queue is a designated capture block, which user logic has no access to (R78). -/
def State.qCaptured (s : State) : QueueId → Bool
  | .block sec b => (List.range (max 1 (s.act.bmCfg (sec * 256 + b)).casc)).any (fun i => s.act.cap.has (sec * 256 + b + i))
  | .crossing _ _ _ => false

/-- A side of a queue acts: configured, its region not held (R105), no RST (R118), GSR released (R119), its clock running. -/
def State.queueOn (s : State) (q : QueueId) (readSide : Bool) : Bool :=
  match s.qCfg q with
  | none => false
  | some c => !s.heldIn (s.qRegion q readSide) && !s.fab.gsr && !(s.queue q).rst && s.qRuns c readSide && !s.qCaptured q

/-- Read the word at a queue position, in a block through the decoder: the word, SBE and DBE. -/
def State.queueFetch (s : State) (q : QueueId) (n : Nat) : (BitVec 72 × Bool × Bool) × State :=
  match q with
  | .block sec b =>
    let c := s.act.bmCfg (sec * 256 + b)
    let x := queuePlace c b n
    let p := portPlace c.shapeA x.2
    let r := s.bmFetch sec x.1 p.1 c.ecc
    ((portWord c.shapeA r.1 p.2, r.2.1, r.2.2.1), r.2.2.2)
  | .crossing sec dir i =>
    (((Tbl.get (fun _ => 0) s.fab.entries (16 * crossKey sec dir i + n % 16)).setWidth 72, false, false), s)

/-- Write the word at a queue position. A word narrower than 64 bits in a block with ECC is a read-modify-write (R98, R99, R101). -/
def State.queueStore (s : State) (q : QueueId) (n : Nat) (data : BitVec 72) : State :=
  match q with
  | .block sec b =>
    let c := s.act.bmCfg (sec * 256 + b)
    let x := queuePlace c b n
    let r := s.bmBefore sec x.1 false x.2 0xFF false
    if (r.1.map (fun y => y.2.2)).getD false then r.2 else r.2.bmStore sec x.1 false x.2 data 0xFF
  | .crossing sec dir i =>
    { s with fab := { s.fab with
        entries := Tbl.set (fun _ => 0) s.fab.entries (16 * crossKey sec dir i + n % 16) (data.setWidth 36) } }

/-- What a block's queue shows a status bit in (R115): a crossing FIFO has no status register. -/
def State.queueFlag (s : State) (q : QueueId) (f : Fld) : State :=
  match q with
  | .block sec b => s.setFlag (R.BM_QSTAT sec b) f true
  | .crossing _ _ _ => s

/-- FWFT prefetch of one word (R111): the output buffer holds up to L + 1 words and shows the oldest. -/
def State.queueRefill (s : State) (q : QueueId) (c : QCfg) : State :=
  let x := s.queue q
  if c.fwft && x.buf.length < c.lat + 1 && x.buf.length < x.rdCount then
    let r := s.queueFetch q x.rp
    let buf := x.buf ++ [r.1]
    let h := buf.headD r.1
    r.2.setQueue q { x with buf := buf, rp := (x.rp + 1) % c.cap, dout := some h.1, sbe := h.2.1, dbe := h.2.2 }
  else s

/-- QUEUE_WRITE (R114-R116): taken unless FULL; a write refused raises OVF. -/
def execQueueWrite (q : QueueId) (data : BitVec 72) (s : State) : Host.Outcome State Fault Refusal :=
  let x := s.queue q
  .next (match s.qCfg q with
    | none => s
    | some c =>
      if !s.queueOn q false || x.rstW then s
      else if x.full c then (s.setQueue q { x with ovf := true }).queueFlag q F.BM_QSTAT_OVF
      else (s.queueStore q x.wp data).setQueue q
        { x with wp := (x.wp + 1) % c.cap, wrCount := x.wrCount + 1, toRd := x.toRd + 1, ovf := false })

/-- QUEUE_READ (R111, R114, R115): taken unless EMPTY; a read refused keeps DOUT and raises UDF. -/
def execQueueRead (q : QueueId) (s : State) : Host.Outcome State Fault Refusal :=
  let x := s.queue q
  .next (match s.qCfg q with
    | none => s
    | some c =>
      if !s.queueOn q true || x.rstR then s
      else if x.empty c then (s.setQueue q { x with udf := true }).queueFlag q F.BM_QSTAT_UDF
      else if c.fwft then
        let y := { x with buf := x.buf.tail, rdCount := x.rdCount - 1, toWr := x.toWr + 1, udf := false }
        let z := match x.buf.tail with
          | [] => y
          | h :: _ => { y with dout := some h.1, sbe := h.2.1, dbe := h.2.2 }
        (s.setQueue q z).queueRefill q c
      else
        let r := s.queueFetch q x.rp
        r.2.setQueue q
          { x with rp := (x.rp + 1) % c.cap, rdCount := x.rdCount - 1, toWr := x.toWr + 1, udf := false
                   dout := some r.1.1, sbe := r.1.2.1, dbe := r.1.2.2 })

/-- QUEUE_CROSSING (R114, R116, R117): one operation of a side becomes visible to the other, at an edge of that side's clock. -/
def execQueueCrossing (q : QueueId) (toRead : Bool) (s : State) : Host.Outcome State Fault Refusal :=
  let x := s.queue q
  .next (match s.qCfg q with
    | none => s
    | some c =>
      if !s.qRuns c toRead then s
      else if toRead then
        if x.toRd = 0 then s
        else (s.setQueue q { x with toRd := x.toRd - 1, rdCount := x.rdCount + 1 }).queueRefill q c
      else if x.toWr = 0 then s else s.setQueue q { x with toWr := x.toWr - 1, wrCount := x.wrCount - 1 })

/-- QUEUE_RESET (R118): RST is asserted; pointers and counts are 0, stored contents and DOUT stay. -/
def execQueueReset (q : QueueId) (s : State) : Host.Outcome State Fault Refusal :=
  .next (s.setQueue q { Queue.reset with rst := true, dout := (s.queue q).dout })

/-- QUEUE_RESET_RELEASE (R118, R119): RST has fallen, and the side given has had the third edge of its clock; in SYNC mode both sides
run on one clock. It waits for GSR, and a side whose clock does not run stays in reset. -/
def execQueueResetRelease (q : QueueId) (readSide : Bool) (s : State) : Host.Outcome State Fault Refusal :=
  let x := s.queue q
  .next (match s.qCfg q with
    | none => s
    | some c =>
      if s.fab.gsr || !s.qRuns c readSide then s
      else s.setQueue q { x with rst := false, rstW := x.rstW && readSide && !c.sync, rstR := x.rstR && !readSide && !c.sync })

/-! ## Arithmetic slices -/

/-- The limits of a signed field of `w` bits. -/
def sMax (w : Nat) : Int := 2 ^ (w - 1) - 1
def sMin (w : Nat) : Int := -(2 ^ (w - 1))

/-- The true result of an accumulator function (R126). `load` is the first operation after a control-cycle start (R141). -/
def accResult (fn : Nat) (load : Bool) (acc pr k chain : Int) : Int :=
  match fn, load with
  | 1, _ => pr
  | 2, _ => -pr
  | 3, true => pr
  | 3, false => acc + pr
  | 4, true => -pr
  | 4, false => acc - pr
  | 5, _ => k + pr
  | 6, _ => k - pr
  | 7, _ => chain + pr
  | 8, _ => chain - pr
  | 9, _ => k
  | 10, true => k
  | 10, false => acc + k
  | 11, _ => chain
  | 12, _ => 0
  | _, _ => acc

/-- The accumulator after a result, and OVF (R127). -/
def accClamp (satEn : Bool) (x : Int) : BitVec 58 × Bool :=
  let ovfl := sMax 58 < x || x < sMin 58
  let y : Int := if ovfl && satEn then (if 0 < x then sMax 58 else sMin 58) else x
  (BitVec.ofInt 58 y, ovfl)

/-- The scaler (R128): arithmetic right shift by `sh` with rounding, saturated to `ow` bits. -/
def scaleOut (rnd sh ow : Nat) (acc : Int) : Int × Bool :=
  let q := acc / (2 ^ sh : Nat)
  let rem := acc % (2 ^ sh : Nat)
  let y : Int :=
    if sh = 0 || rnd = 0 then q
    else if rnd = 1 then (acc + (2 ^ (sh - 1) : Nat)) / (2 ^ sh : Nat)
    else if rem * 2 < (2 ^ sh : Nat) then q
    else if (2 ^ sh : Nat) < rem * 2 then q + 1
    else if q % 2 = 0 then q else q + 1
  if sMax ow < y then (sMax ow, true) else if y < sMin ow then (sMin ow, true) else (y, false)

/-- The headroom of an `ow`-bit value (R133): leading bits equal to the sign, less one. -/
def headroom (ow : Nat) (x : Int) : Nat :=
  let m : Nat := if 0 ≤ x then x.toNat else (-x - 1).toNat
  ow - 1 - (if m = 0 then 0 else Nat.log2 m + 1)

/-- The shift of a member (R136). -/
def SliceCfg.shift (c : SliceCfg) (h : Nat) : Nat := min 57 (c.shBase + (c.guard - h))

/-- The headroom that sets the shift in effect; none yet means OW - 1 (R136). -/
def Group.effective (g : Group) (ow : Nat) : Nat := g.eff.getD (ow - 1)

/-- The shift S that a slice uses, as its head `hd` stands (R136). -/
def State.shiftOf (s : State) (key hd : Nat) : Nat :=
  let c := s.act.slCfg key
  if c.grpShift then c.shift ((s.group hd).effective (s.act.slCfg hd).ow) else min 57 c.shBase

/-- The outputs GRP_H and EXP_INC of a head (R138). -/
def State.grpH (s : State) (hd : Nat) : Nat := (s.group hd).effective (s.act.slCfg hd).ow % 64
def State.expInc (s : State) (hd : Nat) : Nat := (s.shiftOf hd hd - min 57 (s.act.slCfg hd).shBase) % 8

/-- OUT and OFLOW of a slice (R128, R129): the scaler's register, or the scaler itself where the stage is bypassed. -/
def State.sliceOut (s : State) (key : Nat) : BitVec 58 × Bool :=
  let c := s.act.slCfg key
  let x := s.slice key
  if c.useSo then (x.out, x.oflow)
  else
    let o := scaleOut c.rnd (s.shiftOf key (s.head key)) c.ow x.acc.toInt
    (BitVec.ofInt 58 o.1, o.2)

/-- Close a block of the group at its head (R134, R135). DESIGN CHOICE (notes/assumptions/45.md): the head's OW gives H of a block
without samples. -/
def Group.close (g : Group) (ow : Nat) : Group :=
  let h := g.low.getD (ow - 1)
  { g with count := 0, low := none, h := some h, next := g.next ++ [(h, false)] }

/-- A block whose count has reached BLK_LEN closes (R134). -/
def State.closeDue (s : State) (key : Nat) : State :=
  let c := s.act.slCfg key
  s.when (0 < c.blkLen && c.blkLen ≤ (s.group key).count) (fun t => t.setGroup key ((t.group key).close c.ow))

/-- Y_N of a slice (R131): Y as it leaves the last input stage in use. -/
def SliceCfg.yNorth (c : SliceCfg) (x : Slice) : BitVec 24 :=
  if c.useI2 then x.i2.y else if c.useI1 then x.i1.y else x.inp.y

/-- A sample of a slice (R133): the group at its head takes its headroom, counts it where the slice is the head, and notes it for every
close that is not yet in effect (R137). -/
def State.sample (s : State) (key hd : Nat) (out : Int) : State :=
  let c := s.act.slCfg key
  let g := s.group hd
  let r := headroom c.ow out
  s.setGroup hd { g with
    low := if c.detEn then some (match g.low with | some m => min m r | none => r) else g.low
    count := if hd = key then g.count + 1 else g.count
    next := g.next.map (fun p => (p.1, true)) }

/-- The stages of a slice at an active edge with CE at 1 (R124-R129): `south` is the slice to the south, `yS` its Y_N. The result is
the slice with OUT as its new value where a sample stands there. A control-cycle start makes the operation load that next reaches the
accumulator (R141, notes/assumptions/45.md). -/
def SliceCfg.advance (c : SliceCfg) (sh : Nat) (x south : Slice) (yS : BitVec 24) (op : SliceOp) :
    Slice × Option Int :=
  let a := if c.useI1 then x.i1 else op
  let b := if c.useI2 then { x.i2 with x1 := a.x1, k := a.k } else a
  let ps := if c.psub = 1 || (c.psub = 2 && b.psub) then b.x1 - b.x0 else b.x1 + b.x0
  let m : SlicePs := ⟨b, if c.yChain then yS else b.y, ps⟩
  let n := if c.usePs then x.ps else m
  let p : SlicePr := ⟨n.op, BitVec.ofInt 51 ((if c.presum then n.ps else n.op.x0).toInt * n.g.toInt)⟩
  let e := if c.usePr then x.pr else p
  let res := accClamp c.satEn (accResult e.op.fn x.load x.acc.toInt e.pr.toInt e.op.k.toInt south.acc.toInt)
  let o := scaleOut c.rnd sh c.ow (if c.useSo then x.acc.toInt else res.1.toInt)
  let v := if c.useSo then x.accV else e.op.valid
  (⟨op, op, a, m, p, res.1, res.2, e.op.valid, BitVec.ofInt 58 o.1, o.2, v, false⟩, if v then some o.1 else none)

/-- SLICE_OPERATION (R124-R133): one active edge of the slice's clock with an operation presented; nothing while its region is held
(R143) or GSR asserted (R130). `rst` clears every stage, and at the head the group (R136, R142). Every stage obeys CE. The commands
of one edge come from north to south (notes/assumptions/45.md). -/
def execSliceOperation (sec : Fin 32) (a : Fin 384) (x0 x1 : BitVec 27) (y : BitVec 24) (k : BitVec 58) (fn : Fin 16)
    (psub valid ce rst : Bool) (s : State) : Host.Outcome State Fault Refusal :=
  let key := sec.val * 384 + a.val
  let c := s.act.slCfg key
  let hd := s.head key
  .next (if s.fab.gsr || s.heldIn (s.sliceRegion key) || !s.netRuns sec c.net then s
    else
      let s1 := s.when (hd == key) (fun t => (t.closeDue key).setGroup key ((t.closeDue key).group key).nextEdge)
      if rst then (s1.setSlice key Slice.zero).when (hd == key) (fun t => t.setGroup key Group.zero)
      else if !ce then s1
      else
        let south := if s1.linked key then s1.slice (key - 1) else Slice.zero
        let yS := if s1.linked key then (s1.act.slCfg (key - 1)).yNorth south else 0
        let r := c.advance (s1.shiftOf key hd) (s1.slice key) south yS ⟨x0, x1, y, k, fn, psub, valid⟩
        let t := s1.setSlice key r.1
        match r.2 with
        | some o => t.sample key hd o
        | none => t)

/-- EXPONENT_BLOCK_CLOSE (R134, R135): the count has reached BLK_LEN. -/
def execExponentBlockClose (sec : Fin 32) (a : Fin 384) (s : State) : Host.Outcome State Fault Refusal :=
  let key := sec.val * 384 + a.val
  .next (if s.head key == key && !s.fab.gsr && !s.heldIn (s.sliceRegion key) && s.netRuns sec (s.act.slCfg key).net then s.closeDue key
    else s)

/-- CONTROL_CYCLE_START (R139-R142): the head takes a start from CYC_IN or from a cone event delivered to it. A cone start that waits
where it cannot be taken is dropped. -/
def execControlCycleStart (sec : Fin 32) (a : Fin 384) (cycIn : Bool) (s : State) : Host.Outcome State Fault Refusal :=
  let key := sec.val * 384 + a.val
  let c := s.act.slCfg key
  let g := s.group key
  .next (if s.head key == key && !s.fab.gsr && !s.heldIn (s.sliceRegion key) && s.netRuns sec c.net &&
      ((c.cycSrc == 1 && cycIn) || (c.cycSrc == 2 && g.cone)) then
      let t := s.setGroup key { g.nextEdge.close c.ow with pulse := true, cone := false }
      (s.members s.act key).foldl (fun u m =>
        if (u.act.slCfg m).accCyc then u.setSlice m { u.slice m with load := true } else u) t
    else s.dropStarts)

/-- SHIFT_UPDATE (R137, R138): seven edges after a close the new shift is in effect; GRP_H and EXP_INC follow, and EXP_LATE where a
valid sample came before. Nothing while the region is held (R143) or the clock stands. -/
def execShiftUpdate (sec : Fin 32) (a : Fin 384) (s : State) : Host.Outcome State Fault Refusal :=
  let key := sec.val * 384 + a.val
  let g := s.group key
  .next (if s.fab.gsr || s.heldIn (s.sliceRegion key) || !s.netRuns sec (s.act.slCfg key).net then s
    else match g.next with
      | [] => s
      | (h, late) :: rest => s.setGroup key { g.nextEdge with eff := some h, next := rest, expLate := late })

end Sys2Proof.Machine
end

