-- ==== Sys2Proof/Machine/Time.lean ====
section
/-! DEFINITION. Time.lean: network time (13_time_unit.md): domain counters, jumps, slewing, the servo, cones and captures.
The counters hold units of 2^-48 ns (R422, R423). -/

namespace Sys2Proof.Machine

/-! ## Domain counters -/

/-- One nanosecond and one second in counter units; the counter wraps after 2^48 seconds (R422). -/
def nsU : Nat := 2 ^ 48
def secU : Nat := 10 ^ 9 * 2 ^ 48
def wrapU : Nat := 2 ^ 48 * secU

/-- The time PLL has locked since power-on reset (R424). -/
def State.timRun (s : State) : Bool := s.flag R.TIM_STAT F.TIM_STAT_RUN

/-- A domain's counter. -/
def State.ctr (s : State) (d : Nat) : Nat := Tbl.get (fun _ => 0) s.tim.ctr d

/-- Set it. -/
def State.setCtr (s : State) (d n : Nat) : State :=
  { s with tim := { s.tim with ctr := Tbl.set (fun _ => 0) s.tim.ctr d n } }

/-- The slew not yet added. -/
def State.slewLeft (s : State) (d : Nat) : Int := Tbl.get (fun _ => 0) s.tim.slew d

/-- Set it. -/
def State.setSlew (s : State) (d : Nat) (x : Int) : State :=
  { s with tim := { s.tim with slew := Tbl.set (fun _ => 0) s.tim.slew d x } }

/-- An integer held within ±m. -/
def clampI (m x : Int) : Int := max (-m) (min m x)

/-- TIM_TD_FREQ in effect: a signed 48-bit number held within ±2^38 (R423). -/
def State.freq (s : State) (d : Nat) : Int :=
  clampI (2 ^ 38) (signed 48 ((s.reg (R.TIM_TD_FREQ_LO d)).toNat + 2 ^ 32 * ((s.reg (R.TIM_TD_FREQ_HI d)).toNat % 2 ^ 16)))

/-- Set TIM_TD_FREQ. -/
def State.setFreq (s : State) (d : Nat) (f : Int) : State :=
  let n := unsigned 48 f
  (s.setReg (R.TIM_TD_FREQ_LO d) (BitVec.ofNat 32 n)).setReg (R.TIM_TD_FREQ_HI d) (BitVec.ofNat 32 (n / 2 ^ 32))

/-- The frequency terms without the slew term (R423). -/
def State.baseFreq (s : State) (d : Nat) : Int :=
  let c := R.TIM_TD_CTRL d
  let f := s.fld c F.TIM_TD_CTRL_FDOM
  s.freq d + (if s.flag c F.TIM_TD_CTRL_FOLLOW && f != d then s.freq f else 0)

/-- The slew term: 2^SLEWR ppm with the sign of the slew left (R429). -/
def State.slewTerm (s : State) (d : Nat) : Int :=
  let r := min 8 (s.fld (R.TIM_TD_SERVO d) F.TIM_TD_SERVO_SLEWR)
  let m : Nat := 2 ^ (48 + r) / 10 ^ 6 + b2n (Config.slewUp r)
  if s.slewLeft d = 0 then 0 else if 0 < s.slewLeft d then (m : Int) else -(m : Int)

/-- What a domain adds on each time-clock cycle without its slew, and the part of the slew term that the clamp lets in. -/
def State.perCycle (s : State) (d : Nat) : Int × Int :=
  let b := clampI (2 ^ 38) (s.baseFreq d)
  ((nsU : Int) + b, clampI (2 ^ 38) (s.baseFreq d + s.slewTerm d) - b)

/-- The slew added in `k` cycles. -/
def slewAdded (left part : Int) (k : Nat) : Int :=
  let m : Nat := min (k * part.natAbs) left.natAbs
  if left < 0 then -(m : Int) else (m : Int)

/-- One domain after `k` cycles (R423, R429). -/
def State.advanceDomain (s : State) (k d : Nat) : State :=
  let p := s.perCycle d
  let a := slewAdded (s.slewLeft d) p.2 k
  let c : Int := (s.ctr d : Int) + k * p.1 + a
  (s.setCtr d (c % (wrapU : Int)).toNat).setSlew d (s.slewLeft d - a)

/-- Let `k` time-clock cycles pass; before the first lock no domain counts (R424). -/
def State.advance (s : State) (k : Nat) : State :=
  if !s.timRun || k = 0 then s
  else
    let t := s.forEach (List.range 32) (fun t d => t.advanceDomain k d)
    { t with tim := { t.tim with cycles := t.tim.cycles + k } }

/-- Division rounded up. -/
def ceilDiv (a b : Nat) : Nat := (a + b - 1) / b

/-- The time-clock cycles until a domain's counter has reached `tgt`; 0 where it has. -/
def State.cyclesTo (s : State) (d tgt : Nat) : Nat :=
  let c := s.ctr d
  if tgt ≤ c then 0
  else
    let p := s.perCycle d
    let left := s.slewLeft d
    let part := p.2.natAbs
    let k1 := ceilDiv (tgt - c) (p.1 + (if left < 0 then -(part : Int) else part)).toNat
    if part = 0 || k1 * part ≤ left.natAbs then k1
    else max (ceilDiv ((tgt : Int) - c - left).toNat p.1.toNat) (left.natAbs / part + 1)

/-- Let time pass until a domain reaches `tgt` (notes/assumptions/12.md). -/
def State.advanceTo (s : State) (d tgt : Nat) : State := s.advance (s.cyclesTo d tgt)

/-- A domain's time in units of 2^-16 ns (the counter's own 96 bits, R422), and in eighths of a nanosecond. -/
def State.time16 (s : State) (d : Nat) : Nat := s.ctr d / 2 ^ 32
def State.time8 (s : State) (d : Nat) : Nat := s.ctr d / 2 ^ 45

/-- A moment within the current cycle, `sub` eighths of a nanosecond after its start, in units of 2^-16 ns and a multiple of
an eighth (R439, R448). -/
def State.stamp (s : State) (d sub : Nat) : Nat := (s.time8 d + sub) * 2 ^ 13

/-- The time-stamp word of a time in units of 2^-16 ns (R452). -/
def tswOf (t : Nat) : Nat :=
  let ns := t / 2 ^ 16
  (ns / 10 ^ 9 % 2 ^ 31) * 2 ^ 33 + (ns % 10 ^ 9) * 2 ^ 3 + t % 2 ^ 16 / 2 ^ 13

/-- The time in eighths of a nanosecond that a time-stamp word names. -/
def tswTime (w : Nat) : Nat := (w / 2 ^ 33 * 10 ^ 9 + w / 8 % 2 ^ 30) * 8 + w % 8

/-- What the time port of a sector presents: TIME_VALID and the time-stamp word; not valid at the edge at which a jump takes effect
(R451). -/
def State.timePort (s : State) (sec : Nat) : Option Nat :=
  let c := R.TIM_SEC_CFG sec
  let d := s.fld c F.TIM_SEC_CFG_DOM
  let jumped : Bool := Tbl.get (fun _ => 0) s.tim.jumpAt d == s.tim.cycles + 1
  if s.flag c F.TIM_SEC_CFG_EN && s.timRun && !jumped then some (tswOf (s.stamp d 0)) else none

/-! ## Interrupt levels -/

/-- Source 128 + d (R437). -/
def State.tdLevel (s : State) (d : Nat) : Bool :=
  (s.reg (R.TIM_TD_STAT d)).toNat % 64 &&& s.fld (R.TIM_TD_ALM d) F.TIM_TD_ALM_EN != 0

/-- Source 64 + n (R445). -/
def State.coneLevel (s : State) (n : Nat) : Bool :=
  let c := R.TIM_CONE_CTRL n
  (s.flag c F.TIM_CONE_CTRL_EVT && s.flag c F.TIM_CONE_CTRL_IE) || s.flag c F.TIM_CONE_CTRL_LATE

/-- The entries of a capture FIFO. -/
def State.capFifo (s : State) (g : Nat) : List CapEntry := Tbl.get (fun _ => []) s.tim.fifo g

/-- Source 160 + g (R450). -/
def State.capLevel (s : State) (g : Nat) : Bool :=
  let c := R.TIM_CAPF_STAT g
  max 1 (s.fld c F.TIM_CAPF_STAT_TH) ≤ (s.capFifo g).length || s.flag c F.TIM_CAPF_STAT_OVF

/-- A level source that is high becomes pending. -/
def State.settle (s : State) (n : Nat) (level : Bool) : State := s.when level (fun t => t.high n)

/-- Set an alarm bit of a domain and settle its source. -/
def State.alarm (s : State) (d : Nat) (f : Fld) : State :=
  let t := s.setFlag (R.TIM_TD_STAT d) f true
  t.settle (128 + d) (t.tdLevel d)

/-! ## Cones -/

/-- A cone's target and count. -/
def State.cone (s : State) (n : Nat) : Cone := Tbl.get (fun _ => ⟨0, none⟩) s.tim.cone n

/-- Set them. -/
def State.setCone (s : State) (n : Nat) (c : Cone) : State :=
  { s with tim := { s.tim with cone := Tbl.set (fun _ => ⟨0, none⟩) s.tim.cone n c } }

/-- The target that a cone's registers give, in units of 2^-16 ns (R440). -/
def State.coneTarget (s : State) (n : Nat) : Nat :=
  let hi := (s.reg (R.TIM_CONE_TSEC_HI n)).toNat
  let sec := (s.reg (R.TIM_CONE_TSEC_LO n)).toNat + 2 ^ 32 * (hi % 2 ^ 16)
  (sec * 10 ^ 9 + min (s.reg (R.TIM_CONE_TNS n)).toNat 999999999) * 2 ^ 16 + hi / 2 ^ 16

/-- A cone's period in units of 2^-16 ns, at least 16 ns (R442). -/
def State.conePeriod (s : State) (n : Nat) : Nat :=
  max (16 * 2 ^ 16) ((s.reg (R.TIM_CONE_PER n)).toNat * 2 ^ 16 + (s.reg (R.TIM_CONE_PERF n)).toNat % 2 ^ 16)

/-- The highest target that a domain time has reached: a cone's time is its target rounded down to 0.125 ns (R440). -/
def reached (ctr : Nat) : Nat := (ctr / 2 ^ 45 + 1) * 2 ^ 13 - 1

/-- The targets of a cone that lie at or before a limit. -/
def passed (tgt per limit : Nat) : Nat := if tgt ≤ limit then (limit - tgt) / per + 1 else 0

/-- Settle the source of a cone. -/
def State.settleCone (s : State) (n : Nat) : State := s.settle (64 + n) (s.coneLevel n)

/-- A cone produces an event (R440, R445): it goes on its way to every destination (R162, R444). -/
def State.coneProduce (s : State) (n : Nat) : State :=
  let t := (s.setFlag (R.TIM_CONE_CTRL n) F.TIM_CONE_CTRL_EVT true).countWrap (R.TIM_CONE_EVCNT n) F.TIM_CONE_EVCNT_COUNT 1
  { t with tim := { t.tim with deliv := t.tim.deliv ++ [(n, t.tim.cycles + 6)] } }

/-- A cone that waits no more (R441, R442). -/
def State.coneDone (s : State) (n : Nat) : State :=
  (s.setFlag (R.TIM_CONE_CTRL n) F.TIM_CONE_CTRL_ARMED false).setFlag (R.TIM_CONE_CTRL n) F.TIM_CONE_CTRL_DONE true

/-- After `k` targets of a cone have been dealt with, of which `served` (0 or 1) by an event (R441, R442). -/
def State.coneMove (s : State) (n k served : Nat) : State :=
  let c := s.cone n
  let left := c.left.map (fun m => m - served)
  if !s.flag (R.TIM_CONE_CTRL n) F.TIM_CONE_CTRL_PERIODIC || left == some 0 then s.coneDone n
  else (s.setCone n ⟨c.tgt + k * s.conePeriod n, left⟩).count (R.TIM_CONE_MISSED n) F.TIM_CONE_MISSED_COUNT (k - served)

/-- A cone is armed and its domain runs. -/
def State.coneArmed (s : State) (n : Nat) : Bool := s.flag (R.TIM_CONE_CTRL n) F.TIM_CONE_CTRL_ARMED && s.timRun

/-- The domain a cone watches. -/
def State.coneDom (s : State) (n : Nat) : Nat := s.fld (R.TIM_CONE_CTRL n) F.TIM_CONE_CTRL_DOM

/-- Arm a cone (R441). -/
def State.coneArm (s : State) (n : Nat) : State :=
  let c := R.TIM_CONE_CTRL n
  let cnt := (s.reg (R.TIM_CONE_PERF n)).toNat / 2 ^ 16
  let t := ((s.setFlag c F.TIM_CONE_CTRL_ARMED true).setFlag c F.TIM_CONE_CTRL_DONE false).setCone n
    ⟨s.coneTarget n, if cnt = 0 then none else some cnt⟩
  let k := passed (s.coneTarget n) (s.conePeriod n) (reached (s.ctr (s.coneDom n)))
  if !s.timRun || k = 0 then t
  else if s.flag c F.TIM_CONE_CTRL_LATE_OK then ((t.coneProduce n).coneMove n k 1).settleCone n
  else ((t.setFlag c F.TIM_CONE_CTRL_LATE true).coneMove n k 0).settleCone n

/-- Disarm a cone (R443): events on their way stay. -/
def State.coneDisarm (s : State) (n : Nat) : State :=
  (s.setFlag (R.TIM_CONE_CTRL n) F.TIM_CONE_CTRL_ARMED false).setFlag (R.TIM_CONE_CTRL n) F.TIM_CONE_CTRL_DONE false

/-- A jump forward past targets of an armed cone: one event and LATE (R442). -/
def State.coneJump (s : State) (n : Nat) : State :=
  let k := passed (s.cone n).tgt (s.conePeriod n) (reached (s.ctr (s.coneDom n)))
  if s.coneArmed n && k != 0 then
    ((((s.coneProduce n).setFlag (R.TIM_CONE_CTRL n) F.TIM_CONE_CTRL_LATE true).coneMove n k 1)).settleCone n
  else s

/-! ## Jumps -/

/-- A jump of a domain to a counter value (R431, R437, R438, R442). -/
def State.jump (s : State) (d : Nat) (new : Int) : State :=
  let fwd : Bool := (s.ctr d : Int) < new
  let t0 := { s with tim := { s.tim with jumpAt := Tbl.set (fun _ => 0) s.tim.jumpAt d (s.tim.cycles + 1) } }
  let t := (t0.setCtr d (new % (wrapU : Int)).toNat).alarm d F.TIM_TD_STAT_STEPPED
  let u := t.forEach ((List.range 4).filter (fun j => (s.reg (R.TIM_PPSO_CFG j)).toNat / 16 % 32 == d)) (fun u j =>
    { u with tim := { u.tim with ppsJump := NSet.add u.tim.ppsJump j } })
  u.when fwd (fun u => u.forEach ((List.range 64).filter (fun n => s.coneDom n == d)) (fun u n => u.coneJump n))

/-- The signed 64-bit operand {W1, W0} in units of 2^-16 ns (R429). -/
def State.operand (s : State) (d : Nat) : Int :=
  signed 64 ((s.reg (R.TIM_TD_W0 d)).toNat + 2 ^ 32 * (s.reg (R.TIM_TD_W1 d)).toNat)

/-- SET (R429): cancels a slew (R430). -/
def State.timSet (s : State) (d : Nat) : State :=
  let sec := (s.reg (R.TIM_TD_W1 d)).toNat + 2 ^ 32 * ((s.reg (R.TIM_TD_W2 d)).toNat % 2 ^ 16)
  (s.setSlew d 0).jump d (((sec * 10 ^ 9 + min (s.reg (R.TIM_TD_W0 d)).toNat 999999999) * 2 ^ 48 : Nat) : Int)

/-- STEP (R429): cancels a slew (R430). -/
def State.timStep (s : State) (d : Nat) : State := (s.setSlew d 0).jump d ((s.ctr d : Int) + s.operand d * 2 ^ 32)

/-- SLEW (R429, R430). -/
def State.timSlew (s : State) (d : Nat) : State := s.setSlew d (s.operand d * 2 ^ 32)

/-- SNAP (R426). -/
def State.timSnap (s : State) (d : Nat) : State :=
  let t := s.time16 d
  let ns := t / 2 ^ 16
  (((s.setReg (R.TIM_TD_TFRAC d) (BitVec.ofNat 32 (t % 2 ^ 16))).setReg (R.TIM_TD_TNS d)
    (BitVec.ofNat 32 (ns % 10 ^ 9))).setReg (R.TIM_TD_TSEC_LO d) (BitVec.ofNat 32 (ns / 10 ^ 9))).setReg (R.TIM_TD_TSEC_HI d)
    (BitVec.ofNat 32 (ns / 10 ^ 9 / 2 ^ 32))

/-! ## The servo -/

/-- The integrator, in units of 2^-39 ppb. -/
def State.integ (s : State) (d : Nat) : Int := Tbl.get (fun _ => 0) s.tim.integ d

/-- Set it. -/
def State.setInteg (s : State) (d : Nat) (x : Int) : State :=
  { s with tim := { s.tim with integ := Tbl.set (fun _ => 0) s.tim.integ d x } }

/-- The sample in processing and the sample held. -/
def State.busy (s : State) (d : Nat) : Option Int := Tbl.get (fun _ => none) s.tim.busy d
def State.waiting (s : State) (d : Nat) : Option Int := Tbl.get (fun _ => none) s.tim.wait d

/-- Set them. -/
def State.setSample (s : State) (d : Nat) (busy wait : Option Int) : State :=
  { s with tim := { s.tim with busy := Tbl.set (fun _ => none) s.tim.busy d busy
                               wait := Tbl.set (fun _ => none) s.tim.wait d wait } }

/-- The nearest integer, exact halves away from zero (R433). -/
def roundDiv (n : Int) (d : Nat) : Int :=
  let q : Int := ((2 * n.natAbs + d) / (2 * d) : Nat)
  if n < 0 then -q else q

/-- TIM_TD_OFFS reads back the latest sample processed (R432). -/
def State.showSample (s : State) (d : Nat) (theta : Int) : State :=
  let n := unsigned 64 theta
  (s.setReg (R.TIM_TD_OFFS_LO d) (BitVec.ofNat 32 n)).setReg (R.TIM_TD_OFFS_HI d) (BitVec.ofNat 32 (n / 2 ^ 32))

/-- A sample reaches the servo (R432, R435): processed, held, or in place of the one held; none before the first lock (R424)
or while the servo is frozen (R631). -/
def State.submit (s : State) (d : Nat) (theta : Int) : State :=
  if !s.flag (R.TIM_TD_CTRL d) F.TIM_TD_CTRL_SERVO_EN || !s.timRun || s.frozen F.DBG_FRZ_TIM then s
  else match s.busy d, s.waiting d with
    | none, w => s.setSample d (some theta) w
    | b, none => s.setSample d b (some theta)
    | b, some _ => (s.setSample d b (some theta)).alarm d F.TIM_TD_STAT_OVERRUN

/-- The servo's frequency for a correction `y` in units of 2^-39 ppb: round(-y * 2^48 / 10^9) of y in ppb (R433). -/
def servoFreq (y : Int) : Int := roundDiv (-y) 1953125

/-- The servo completes a sample (R433, R434, R437). -/
def State.servo (s : State) (d : Nat) (theta : Int) : State :=
  let c := R.TIM_TD_CTRL d
  let g := s.reg (R.TIM_TD_GAIN d)
  let sv := R.TIM_TD_SERVO d
  let th := s.fld (R.TIM_TD_ALM d) F.TIM_TD_ALM_TH
  let s1 := (s.showSample d theta).when (th != 0 && th * 2 ^ 16 < theta.natAbs) (fun t => t.alarm d F.TIM_TD_STAT_OFFS_ALARM)
  let stepTh := s.fld sv F.TIM_TD_SERVO_STEP_TH
  if s.flag c F.TIM_TD_CTRL_STEP_EN && stepTh != 0 && stepTh * 1000 * 2 ^ 16 ≤ theta.natAbs then
    (s1.setFreq d (servoFreq (s.integ d))).jump d ((s.ctr d : Int) - theta * 2 ^ 32)
  else
    -- p in units of 2^-23 ppb: theta is in 2^-16 ns and TAU is at most 7
    let tau := signed 4 (s.fld sv F.TIM_TD_SERVO_TAU)
    let p : Int := theta * 2 ^ (7 - tau).toNat
    let fmax : Int := (max 1 (s.fld sv F.TIM_TD_SERVO_FMAX) * 1000 * 2 ^ 39 : Nat)
    let i0 := s.integ d + (g.fget F.TIM_TD_GAIN_KI : Int) * p
    let i := clampI fmax i0
    let y0 := (g.fget F.TIM_TD_GAIN_KP : Int) * p + i
    let y := clampI fmax y0
    ((s1.setInteg d i).setFreq d (servoFreq y)).when (i != i0 || y != y0) (fun t => t.alarm d F.TIM_TD_STAT_FSAT)

/-! ## Captures -/

/-- Let an edge enter the FIFO of a capture (R449). -/
def State.capPush (s : State) (e : CapEntry) : State :=
  let g := e.cap / 4
  let c := R.TIM_CAPF_STAT g
  let t := if 32 ≤ (s.capFifo g).length then
      (s.setFlag c F.TIM_CAPF_STAT_OVF true).count c F.TIM_CAPF_STAT_LOST 1
    else { s with tim := { s.tim with fifo := Tbl.set (fun _ => []) s.tim.fifo g (s.capFifo g ++ [e]) } }
  t.settle (160 + g) (t.capLevel g)

/-- A read of TIM_CAPF_W0 (R449): the value returned, and the state after the removal. -/
def State.capPop (s : State) (g : Nat) : Word × State :=
  match s.capFifo g with
  | [] => (0, s)
  | e :: r =>
    let ns := e.time / 2 ^ 16
    let sec := ns / 10 ^ 9
    let t := { s with tim := { s.tim with fifo := Tbl.set (fun _ => []) s.tim.fifo g r } }
    let u := ((t.setReg (R.TIM_CAPF_W1 g) (BitVec.ofNat 32 (ns % 10 ^ 9))).setReg (R.TIM_CAPF_W2 g)
      (BitVec.ofNat 32 sec)).setReg (R.TIM_CAPF_W3 g)
      (BitVec.ofNat 32 (e.time % 2 ^ 16 * 2 ^ 16 + sec / 2 ^ 32 % 2 ^ 16))
    (BitVec.ofNat 32 (2 ^ 31 + (if e.fall then 2 else 1) * 2 ^ 8 + e.cap), u)

/-- The two-step FIFO of a lane: tag and time-stamp word (R463). -/
def State.tsFifo (s : State) (n : Nat) : List (Nat × Nat) := Tbl.get (fun _ => []) s.tim.tsf n

/-- Set it. -/
def State.setTsFifo (s : State) (n : Nat) (l : List (Nat × Nat)) : State :=
  { s with tim := { s.tim with tsf := Tbl.set (fun _ => []) s.tim.tsf n l } }

/-- A read of TIM_LN_TSF0 (R463): pops only with TSF_CSR at 1. -/
def State.tsPop (s : State) (n : Nat) : Word × State :=
  match s.flag (R.TIM_LN_CFG n) F.TIM_LN_CFG_TSF_CSR, s.tsFifo n with
  | true, (tag, w) :: r =>
    (BitVec.ofNat 32 (2 ^ 31 + tag % 2 ^ 16),
      ((s.setTsFifo n r).setReg (R.TIM_LN_TSF1 n) (BitVec.ofNat 32 w)).setReg (R.TIM_LN_TSF2 n) (BitVec.ofNat 32 (w / 2 ^ 32)))
  | _, _ => (0, s)

/-! ## Pins -/

/-- The level of PPS_OUT[j] (R438). -/
def State.ppsOutPin (s : State) (j : Nat) : Bool :=
  let c := (s.reg (R.TIM_PPSO_CFG j)).toNat
  let pol : Bool := c / 2 % 2 == 1
  let lead := Tbl.get (fun _ => 0) s.tim.ppsLead j
  let active : Bool := c % 2 == 1 && 0 < lead && s.tim.cycles < lead - 1 + 1000 * max 1 (c / 2 ^ 16)
  s.timRun && (active != pol)

/-- The level of TIME_EVT[k] (R446). -/
def State.timeEvtPin (s : State) (k : Nat) : Bool :=
  let c := R.TIM_EVT_CFG k
  let active : Bool := s.flag c F.TIM_EVT_CFG_EN && s.tim.cycles < Tbl.get (fun _ => 0) s.tim.evt k
  active != s.flag c F.TIM_EVT_CFG_POL

/-- A cone event reaches the TIME_EVT logic (R446). -/
def State.timeEvt (s : State) (n : Nat) : State :=
  s.forEach ((List.range 16).filter (fun k =>
    s.flag (R.TIM_EVT_CFG k) F.TIM_EVT_CFG_EN && s.fld (R.TIM_EVT_CFG k) F.TIM_EVT_CFG_CONE == n)) (fun t k =>
    let w := max 1 (s.fld (R.TIM_EVT_CFG k) F.TIM_EVT_CFG_WIDTH)
    { t with tim := { t.tim with evt := Tbl.set (fun _ => 0) t.tim.evt k (t.tim.cycles + 8 * w) } })

/-! ## The TIM window -/

/-- The register group of an offset in the TIM window: domain, cone, capture group or lane. -/
def timDom (loc : Nat) : Option Nat := if 0x100 ≤ loc && loc < 0x900 then some ((loc - 0x100) / 0x40) else none
def timCone (loc : Nat) : Option Nat := if 0x1000 ≤ loc && loc < 0x1800 then some ((loc - 0x1000) / 0x20) else none
def timGroup (loc : Nat) : Option Nat := if 0x2100 ≤ loc && loc < 0x2300 then some ((loc - 0x2100) / 0x20) else none
def timLane (loc : Nat) : Option Nat := if 0x4000 ≤ loc && loc < 0x5200 then some ((loc - 0x4000) / 0x20) else none

/-- What of a written value reaches the register: the reserved parts of the shared tables are cut off. -/
def timMask (loc : Nat) (v : Word) : Word :=
  if (timDom loc).isSome && (loc - 0x100) % 0x40 == 0x24 then v &&& 0xFFFF
  else if (timDom loc).isSome && (loc - 0x100) % 0x40 == 0x1C then v &&& 0xFFFF
  else if 0x2000 ≤ loc && loc < 0x2040 then v &&& 0x1FF
  else if 0x2400 ≤ loc && loc < 0x2420 && loc % 8 == 0 then v &&& 3
  else if 0x2440 ≤ loc && loc < 0x2460 && loc % 8 == 0 then v &&& 0xFFFF01F3
  else v

/-- The enable field of the LOCKED fields at an offset reads 0 (13: TIM_ registers). -/
def State.timOpen (s : State) (loc : Nat) : Bool :=
  match timDom loc, timCone loc, timLane loc with
  | some d, _, _ => !s.flag (R.TIM_TD_CTRL d) F.TIM_TD_CTRL_SERVO_EN
  | _, some n, _ => !s.flag (R.TIM_CONE_CTRL n) F.TIM_CONE_CTRL_EN
  | _, _, some n => !s.flag (R.TIM_LN_CFG n) F.TIM_LN_CFG_TX_EN
  | _, _, _ => true

/-- An ignored LOCKED write in the TIM window (R24, R25, R437, R445). -/
def State.timLocked (s : State) (loc : Nat) : State :=
  match timDom loc, timCone loc, timLane loc with
  | some d, _, _ => (s.alarm d F.TIM_TD_STAT_LOCKED_WR).lockedRecord (128 + d) d loc
  | _, some n, _ => (s.setFlag (R.TIM_CONE_CTRL n) F.TIM_CONE_CTRL_LOCKED_WR true).lockedRecord (64 + n) n loc
  | _, _, some n => (s.setFlag (R.TIM_LN_TSSTAT n) F.TIM_LN_TSSTAT_LOCKED_WR true).lockedRecord (192 + n) n loc
  | _, _, _ => s

/-- A write to TIM_TD_OFFS (R432): kept, submitted, or without effect while a PPS input is the source. -/
def State.timOffs (s : State) (d : Nat) (hi : Bool) (v : Word) : State :=
  if 4 ≤ s.fld (R.TIM_TD_CTRL d) F.TIM_TD_CTRL_OSRC then s
  else if hi then
    s.submit d (signed 64 ((Tbl.get (fun _ => 0) s.tim.offsLo d).toNat + 2 ^ 32 * v.toNat))
  else { s with tim := { s.tim with offsLo := Tbl.set (fun _ => 0) s.tim.offsLo d v } }

/-- What a write to a domain's control register starts (R429, R430, R433, R436): `en` is SERVO_EN before the write. -/
def State.timCtrl (s : State) (d : Nat) (en : Bool) (v : Word) : State :=
  let run := s.timRun
  let on := v.getLsbD 4
  let s1 := s.when (on && !en) (fun t => t.setInteg d (-(t.freq d) * 1953125))
  let s2 := s1.when (!on && en) (fun t =>
    (match t.busy d with | some x => t.showSample d x | none => t).setSample d none none)
  let s3 := s2.when (run && v.getLsbD 1) (fun t => t.timSet d)
  let s4 := s3.when (run && v.getLsbD 2) (fun t => t.timStep d)
  let s5 := s4.when (run && v.getLsbD 3) (fun t => t.timSlew d)
  s5.when (run && v.getLsbD 0) (fun t => t.timSnap d)

/-- What a register write in the TIM window does beside storing its fields; `old` is the state before it. -/
def State.timAct (s old : State) (loc : Nat) (v : Word) : State :=
  match timDom loc, timCone loc, timGroup loc with
  | some d, _, _ =>
    let t := s.when ((loc - 0x100) % 0x40 == 0) (fun t =>
      t.timCtrl d (old.flag (R.TIM_TD_CTRL d) F.TIM_TD_CTRL_SERVO_EN) v)
    t.settle (128 + d) (!old.tdLevel d && t.tdLevel d)
  | _, some n, _ =>
    if (loc - 0x1000) % 0x20 == 0 then
      let was := old.flag (R.TIM_CONE_CTRL n) F.TIM_CONE_CTRL_EN
      let t := (s.when (v.getLsbD 0 && !was) (fun t => t.coneArm n)).when (!v.getLsbD 0) (fun t => t.coneDisarm n)
      t.settle (64 + n) (!old.coneLevel n && t.coneLevel n)
    else s
  | _, _, some g => s.settle (160 + g) (!old.capLevel g && s.capLevel g)
  | _, _, _ => s

/-- Registers of the TIM window whose value follows from other state. -/
def State.timPeek (s : State) (loc : Nat) : Option Word :=
  match timDom loc, timGroup loc, timLane loc with
  | some d, _, _ =>
    match (loc - 0x100) % 0x40 with
    | 0x20 => some (BitVec.ofNat 32 (unsigned 48 (s.freq d)))
    | 0x24 => some (BitVec.ofNat 32 (unsigned 48 (s.freq d) / 2 ^ 32))
    | 0x38 => some (((s.reg (R.TIM_TD_STAT d)).fput F.TIM_TD_STAT_SLEWING (b2n (s.slewLeft d != 0))).fput
        F.TIM_TD_STAT_SAMPLE_BUSY (b2n (s.busy d).isSome))
    | _ => none
  | _, some g, _ =>
    match (loc - 0x2100) % 0x20 with
    | 0 => some (s.capPop g).1
    | 0x10 => some ((s.reg (R.TIM_CAPF_STAT g)).fput F.TIM_CAPF_STAT_LEVEL (s.capFifo g).length)
    | _ => none
  | _, _, some n =>
    match (loc - 0x4000) % 0x20 with
    | 0x10 => some (s.tsPop n).1
    | 0x1C => some ((s.reg (R.TIM_LN_TSSTAT n)).fput F.TIM_LN_TSSTAT_LEVEL (s.tsFifo n).length)
    | _ => none
  | _, _, _ => none

end Sys2Proof.Machine
end

