-- ==== Sys2Proof/Machine/Lanes.lean ====
section
/-! DEFINITION. Lanes.lean: lanes, coding modes, bonding groups and the override of the Skemer engines
(10_lanes_physical.md, 11_lanes_coding_and_bonding.md, 12_slot_negotiation.md): their state and what changes it. -/

namespace Sys2Proof.Machine

/-! ## Records -/

/-- A lane with its registers at reset. -/
def Lane.reset : Lane := ⟨0x12, 0x40, 0, 0xFC00, 0x1EA, 0x21, 0xAA, 0, false, true, false, 0, 0⟩

/-- A coding layer at rest (notes/assumptions/48.md). -/
def Coder.reset : Coder :=
  ⟨false, false, 0, 0, 0, 0, [], 0, [], 0, 0, BitVec.allOnes 31, 0, 0, [], 0, 0, [], [], false, 0, 0⟩

/-- A quad after reset. The reference frequency is the model's (notes/assumptions/13.md). -/
def Quad.reset : Quad := ⟨0xAA, 0, false, 156250000, 156250000⟩

/-- An engine after reset. -/
def Skm.reset : Skm := ⟨0, [], (0, 0), 0, false, 0, false, false, []⟩

def State.lane (s : State) (n : Nat) : Lane := Tbl.get (fun _ => Lane.reset) s.ser.lane n
def State.setLane (s : State) (n : Nat) (x : Lane) : State :=
  { s with ser := { s.ser with lane := Tbl.set (fun _ => Lane.reset) s.ser.lane n x } }
def State.coder (s : State) (n : Nat) : Coder := Tbl.get (fun _ => Coder.reset) s.ser.coder n
def State.setCoder (s : State) (n : Nat) (x : Coder) : State :=
  { s with ser := { s.ser with coder := Tbl.set (fun _ => Coder.reset) s.ser.coder n x } }
def State.quad (s : State) (q : Nat) : Quad := Tbl.get (fun _ => Quad.reset) s.ser.quad q
def State.setQuad (s : State) (q : Nat) (x : Quad) : State :=
  { s with ser := { s.ser with quad := Tbl.set (fun _ => Quad.reset) s.ser.quad q x } }
def State.skm (s : State) (e : Nat) : Skm := Tbl.get (fun _ => Skm.reset) s.ser.skm e
def State.setSkm (s : State) (e : Nat) (x : Skm) : State :=
  { s with ser := { s.ser with skm := Tbl.set (fun _ => Skm.reset) s.ser.skm e x } }

/-- A lane operates (R333). -/
def State.operates (s : State) (n : Nat) : Bool :=
  s.flag (R.LQ_CTRL (n / 4)) F.LQ_CTRL_EN && s.flag (R.LN_CTRL n) F.LN_CTRL_EN

/-! ## Rates (R334, R336) -/

/-- A frequency as a fraction of hertz. -/
abbrev Hz := Nat × Nat

/-- Comparison of fractions. -/
def Hz.le (a b : Hz) : Bool := a.1 * b.2 ≤ b.1 * a.2
def Hz.eq (a b : Hz) : Bool := a.1 * b.2 == b.1 * a.2

/-- A whole number of kilohertz. -/
def kHz (n : Nat) : Hz := (1000 * n, 1)

/-- A VCO frequency: reference, divider minus 1, multiplier, fraction (R336). -/
def vcoHz (ref div mult frac : Nat) : Hz := (ref * (mult * 2 ^ 24 + frac), (div + 1) * 2 ^ 24)

/-- A reference input's frequency. -/
def State.refHz (s : State) (q : Nat) (one : Bool) : Nat := if one then (s.quad q).ref1 else (s.quad q).ref0

/-- The LC PLL's VCO frequency for given LQ_LCPLL and LQ_LCFRAC. -/
def State.lcVco (s : State) (q : Nat) (pll frac : Word) : Hz :=
  vcoHz (s.refHz q (s.flag (R.LQ_CFG q) F.LQ_CFG_REFSEL)) (pll.fget F.LQ_LCPLL_REFDIV) (pll.fget F.LQ_LCPLL_MULT)
    (frac.fget F.LQ_LCFRAC_FRAC)

/-- A ring PLL's VCO frequency. -/
def State.ringVco (s : State) (q : Nat) (rpll rfrac : Word) : Hz :=
  vcoHz (s.refHz q (rpll.fget F.LN_RPLL_REFSEL != 0)) (rpll.fget F.LN_RPLL_REFDIV) (rpll.fget F.LN_RPLL_MULT)
    (rfrac.fget F.LN_RFRAC_FRAC)

/-- A lane selects the ring PLL. -/
def selRing (rate : Word) : Bool := rate.fget F.LN_RATE_PLLSEL != 0

/-- PAM4. -/
def isPam4 (rate : Word) : Bool := rate.fget F.LN_RATE_MOD != 0

/-- The symbol rate 2 * fVCO / DIV (R334). -/
def symRate (vco : Hz) (rate : Word) : Hz := (2 * vco.1, vco.2 * 2 ^ rate.fget F.LN_RATE_DIV)

/-- The symbol rate of a lane with given settings. -/
def State.symHz (s : State) (q : Nat) (rate rpll rfrac lcpll lcfrac : Word) : Hz :=
  symRate (if selRing rate then s.ringVco q rpll rfrac else s.lcVco q lcpll lcfrac) rate

/-- A PLL's settings lie in R336's table. -/
def pllValid (ref div mult : Nat) (vco lo hi : Hz) : Bool :=
  (kHz 50000).le (ref, div + 1) && Hz.le (ref, div + 1) (kHz 400000) && 32 ≤ mult && lo.le vco && vco.le hi

/-- The LC PLL settings are valid. -/
def State.lcValid (s : State) (q : Nat) (pll frac : Word) : Bool :=
  pllValid (s.refHz q (s.flag (R.LQ_CFG q) F.LQ_CFG_REFSEL)) (pll.fget F.LQ_LCPLL_REFDIV) (pll.fget F.LQ_LCPLL_MULT)
    (s.lcVco q pll frac) (kHz 14000000) (kHz 28125000)

/-- A lane's rate settings are valid (R334, R336, R342), with the LC PLL fields that will be in effect. -/
def State.rateValid (s : State) (q : Nat) (rate rpll rfrac lcpll lcfrac : Word) (lcOn : Bool) : Bool :=
  let f := s.symHz q rate rpll rfrac lcpll lcfrac
  pllValid (s.refHz q (rpll.fget F.LN_RPLL_REFSEL != 0)) (rpll.fget F.LN_RPLL_REFDIV) (rpll.fget F.LN_RPLL_MULT)
    (s.ringVco q rpll rfrac) (kHz 6000000) (kHz 13000000) &&
  rate.fget F.LN_RATE_DIV ≤ 5 && (selRing rate || lcOn) &&
  (if isPam4 rate then !selRing rate && Hz.le (kHz 26562500) f && f.le (kHz 56250000)
   else Hz.le (kHz 1000000) f && f.le (if selRing rate then kHz 26000000 else kHz 56250000))

/-- The FFE taps keep R347's sum. -/
def ffeValid (w : Word) : Bool :=
  (signed 4 (w.fget F.LN_TX_FFE_PRE2)).natAbs + (signed 6 (w.fget F.LN_TX_FFE_PRE1)).natAbs + w.fget F.LN_TX_FFE_MAIN +
    (signed 6 (w.fget F.LN_TX_FFE_POST1)).natAbs + (signed 4 (w.fget F.LN_TX_FFE_POST2)).natAbs ≤ 63

/-- A coding mode is valid with given PMA settings (R370, R375). -/
def modeValid (mode rate : Word) (f : Hz) : Bool :=
  mode.fget F.PCS_LN_MODE_WIDTH < 3 &&
  (mode.fget F.PCS_LN_MODE_BYP_CORR == 0 || mode.fget F.PCS_LN_MODE_CODE == 3) &&
  (match mode.fget F.PCS_LN_MODE_CODE with
   | 0 => true
   | 1 => !isPam4 rate && f.le (kHz 12500000)
   | 2 => true
   | 3 => !isPam4 rate
   | 4 => isPam4 rate
   | _ => false)

/-! ## Events of lanes, quads, groups and engines -/

/-- Source 192 + n (R360). -/
def State.lnLevel (s : State) (n : Nat) : Bool := (s.reg (R.LN_INT_STAT n) &&& s.reg (R.LN_INT_EN n)) != 0

/-- Source 336 + q. -/
def State.lqLevel (s : State) (q : Nat) : Bool := (s.reg (R.LQ_INT_STAT q) &&& s.reg (R.LQ_INT_EN q)) != 0

/-- Source 372 + g (R402). -/
def State.grpLevel (s : State) (g : Nat) : Bool := (s.reg (R.PCS_GRP_INT_STAT g) &&& s.reg (R.PCS_GRP_INT_EN g)) != 0

/-- Source 388 + e (R421). -/
def State.skmLevel (s : State) (e : Nat) : Bool := (s.reg (R.SKM_ENG_INT_STAT e) &&& s.reg (R.SKM_ENG_INT_EN e)) != 0

/-- Bytes 12-15 of a lane, quad or PCS record (R360, R377). -/
def laneInfo (code n : Nat) : Nat := code * 2 ^ 24 + n % 256

/-- An event of R360's table at a lane: its bit, the source, and a record where the event has a code. -/
def State.lnEvent (s : State) (n bit code sev : Nat) : State :=
  let t := (s.setBit (R.LN_INT_STAT n) bit true).when (code != 0) (fun t => t.report n ⟨192 + n, sev, 0x0C, laneInfo code n⟩)
  t.settle (192 + n) (t.lnLevel n)

/-- An event at a quad. -/
def State.lqEvent (s : State) (q bit code sev : Nat) : State :=
  let t := (s.setBit (R.LQ_INT_STAT q) bit true).report q ⟨336 + q, sev, 0x0C, laneInfo code q⟩
  t.settle (336 + q) (t.lqLevel q)

/-- A PCS record (R377). -/
def State.pcsRecord (s : State) (n code sev : Nat) : State := s.report n ⟨192 + n, sev, 0x0D, laneInfo code n⟩

/-- An event bit of a group. -/
def State.grpEvent (s : State) (g bit : Nat) : State :=
  let t := s.setBit (R.PCS_GRP_INT_STAT g) bit true
  t.settle (372 + g) (t.grpLevel g)

/-- A group record (R402). -/
def State.grpRecord (s : State) (g code cause lane : Nat) : State :=
  s.report g ⟨372 + g, 0, 0x0E, code * 2 ^ 24 + cause * 2 ^ 16 + lane % 256⟩

/-- Counters of the LN_, PCS_ and PCS_GRP_FAULTS registers hold while lanes are frozen (R631). -/
def State.lnCount (s : State) (off : Nat) (n : Nat) : State :=
  s.when (!s.frozen F.DBG_FRZ_LANE) (fun t => t.count off ⟨0, 32⟩ n)

/-! ## The override of the Skemer engines -/

/-- The lanes of an engine (R403). -/
def State.skmLanes (s : State) (e : Nat) : List Nat :=
  let c := R.SKM_ENG_CFG e
  (List.range (s.fld c F.SKM_ENG_CFG_COUNT)).map (fun i => s.fld c F.SKM_ENG_CFG_FIRST + i)

/-- The lead lane. -/
def State.lead (s : State) (e : Nat) : Nat := s.fld (R.SKM_ENG_CFG e) F.SKM_ENG_CFG_FIRST

/-- The engine that holds the override of a lane (R405). -/
def State.overrider (s : State) (n : Nat) : Option Nat :=
  (List.range 16).find? (fun e => s.flag (R.SKM_ENG_STAT e) F.SKM_ENG_STAT_OVERRIDE && (s.skmLanes e).contains n)

/-- State of an engine (R416). -/
def State.skmState (s : State) (e : Nat) : Nat := s.fld (R.SKM_ENG_STAT e) F.SKM_ENG_STAT_STATE

/-- The settings a lane is to run with: LN_RATE, LN_RPLL, LN_RFRAC, LN_TX_FFE and PCS_LN_MODE (R343, R405). -/
def State.target (s : State) (n : Nat) : Word × Word × Word × Word × Word :=
  match s.overrider n with
  | none => (s.reg (R.LN_RATE n), s.reg (R.LN_RPLL n), s.reg (R.LN_RFRAC n), s.reg (R.LN_TX_FFE n), s.reg (R.PCS_LN_MODE n))
  | some e =>
    let t := (s.skm e).tpl
    (s.reg (R.SKM_TPL e t 0), s.reg (R.SKM_TPL e t 1), s.reg (R.SKM_TPL e t 2), 0xFC00, s.reg (R.SKM_TPL e t 3))

/-- The transmitter of a lane is idle for its engine (R406, R416). -/
def State.skmIdle (s : State) (n : Nat) : Bool :=
  match s.overrider n with
  | none => false
  | some e =>
    n != s.lead e ||
      (match s.skmState e with
       | 0x1 => true
       | 0x7 => !(s.skm e).legacy
       | 0xA => true
       | 0xB => !(s.skm e).abort
       | _ => false)

/-! ## Coding modes -/

/-- The coding mode in use. -/
def State.code (s : State) (n : Nat) : Nat := (s.lane n).mode.fget F.PCS_LN_MODE_CODE

/-- A lane is locked (R376). -/
def State.locked (s : State) (n : Nat) : Bool := s.flag (R.PCS_LN_STAT n) F.PCS_LN_STAT_LOCKED

def State.los (s : State) (n : Nat) : Bool := s.flag (R.LN_STAT n) F.LN_STAT_LOS
def State.lol (s : State) (n : Nat) : Bool := s.flag (R.LN_STAT n) F.LN_STAT_LOL

/-- The lane's line rate in bits per second. -/
def State.lineRate (s : State) (n : Nat) : Hz :=
  let l := s.lane n
  let f := s.symHz (n / 4) l.rate l.rpll l.rfrac l.lcpll l.lcfrac
  if isPam4 l.rate then (2 * f.1, f.2) else f

/-! ## Bonding groups -/

def State.grpOn (s : State) (g : Nat) : Bool := s.flag (R.PCS_GRP_CTRL g) F.PCS_GRP_CTRL_EN
def State.grpState (s : State) (g : Nat) : Nat := s.fld (R.PCS_GRP_STAT g) F.PCS_GRP_STAT_STATE
def State.setGrpState (s : State) (g n : Nat) : State := s.setFld (R.PCS_GRP_STAT g) F.PCS_GRP_STAT_STATE n

/-- The lanes that a PCS_GRP_CFG value names. -/
def cfgLanes (cfg : Word) : List Nat :=
  (List.range (cfg.fget F.PCS_GRP_CFG_COUNT)).map (fun i => cfg.fget F.PCS_GRP_CFG_FIRST + i)

/-- The members of a group (R393). -/
def State.grpLanes (s : State) (g : Nat) : List Nat := cfgLanes (s.reg (R.PCS_GRP_CFG g))

/-- The enabled group of a lane. -/
def State.groupOf (s : State) (n : Nat) : Option Nat :=
  (List.range 16).find? (fun g => s.grpOn g && (s.grpLanes g).contains n)

/-- The lanes of a list run one CODE other than RAW at one line rate (R393). -/
def State.sameMode (s : State) (ls : List Nat) : Bool :=
  match ls with
  | [] => true
  | a :: r => s.code a != 0 && r.all (fun b => s.code b == s.code a && (s.lineRate b).eq (s.lineRate a))

/-- A configuration is valid for group `g` (R393). -/
def State.grpValid (s : State) (g : Nat) (cfg : Word) : Bool :=
  let ls := cfgLanes cfg
  2 ≤ ls.length && ls.length ≤ 16 && cfg.fget F.PCS_GRP_CFG_GM_PER < 3 &&
    (ls.all (fun n => n < 72) || ls.all (fun n => 72 ≤ n && n < 144)) && s.sameMode ls &&
    ls.all (fun n => (List.range 16).all (fun h => h == g || !s.grpOn h || !(s.grpLanes h).contains n))

/-- From FAULT the group goes on when every member is locked with matching mode and rate (R398). -/
def State.grpTry (s : State) (g : Nat) : State :=
  if s.grpState g == 1 && (s.grpLanes g).all (fun n => s.locked n) && s.sameMode (s.grpLanes g) then
    s.setGrpState g (if s.fld (R.PCS_GRP_HOLD g) F.PCS_GRP_HOLD_HOLDOFF = 0 then 3 else 2)
  else s

/-- Entry to FAULT (R398, R402). -/
def State.grpFault (s : State) (g cause lane : Nat) : State :=
  let st := R.PCS_GRP_STAT g
  let t := ((s.setFld st F.PCS_GRP_STAT_STATE 1).setFld st F.PCS_GRP_STAT_CAUSE cause).setFld st F.PCS_GRP_STAT_FAULT_LANE lane
  (((t.lnCount (R.PCS_GRP_FAULTS g) 1).grpRecord g 0x31 cause lane).grpEvent g 1).grpTry g

/-- A member's event takes its group from HOLDOFF, DESKEW or BONDED to FAULT. -/
def State.memberFault (s : State) (n cause : Nat) : State :=
  match s.groupOf n with
  | some g => s.when (2 ≤ s.grpState g && s.grpState g ≤ 4) (fun t => t.grpFault g cause n)
  | none => s

/-- A lane locked: its group may go on. -/
def State.memberLock (s : State) (n : Nat) : State :=
  match s.groupOf n with
  | some g => s.grpTry g
  | none => s

/-! ## Locks -/

/-- Every lock indication of a lane clears (R374, R376). `logged`: a fall of LOCKED that R376 logs. -/
def State.unlock (s : State) (n : Nat) (logged : Bool) (cause : Nat) : State :=
  let st := R.PCS_LN_STAT n
  let was := s.locked n
  let t := (s.setReg st (s.reg st &&& 0xFFFFFFF0)).setCoder n { s.coder n with commas := 0, hist := [], good := 0, bad := 0 }
  if !was then t
  else
    (t.when logged (fun u => (u.setFlag st F.PCS_LN_STAT_LOCK_LOST true).pcsRecord n 0x21 0)).memberFault n cause

/-- A lane locks in its mode (R376): the indication of the mode and LOCKED. -/
def State.lockUp (s : State) (n : Nat) : State :=
  let st := R.PCS_LN_STAT n
  let t := match s.code n with
    | 1 => s.setFlag st F.PCS_LN_STAT_ALIGNED true
    | 2 => s.setFlag st F.PCS_LN_STAT_BLOCK_LOCK true
    | 3 => s.setFlag st F.PCS_LN_STAT_FEC_LOCK true
    | 4 => s.setFlag st F.PCS_LN_STAT_FEC_LOCK true
    | _ => s
  (t.setFlag st F.PCS_LN_STAT_LOCKED true).memberLock n

/-- A running eye scan ends early, its counts kept (R365): they are free, since the spec gives no count for a part. -/
def State.scanAbort (s : State) (n : Nat) : State :=
  let c := R.LN_ES_CTRL n
  if !s.flag c F.LN_ES_CTRL_BUSY then s
  else
    let d1 := s.draw
    let smp := d1.1 % 2 ^ ((s.lane n).dwell + 8)
    let d2 := d1.2.draw
    ((((d2.2.setFlag c F.LN_ES_CTRL_BUSY false).setFlag c F.LN_ES_CTRL_ABORT true).setReg (R.LN_ES_ERR n)
      (BitVec.ofNat 32 (min (d2.1 % (smp + 1)) (2 ^ 32 - 1)))).setReg (R.LN_ES_SMP_LO n) (BitVec.ofNat 32 smp)).setReg
      (R.LN_ES_SMP_HI n) (BitVec.ofNat 32 (smp / 2 ^ 32))

/-- RX_READY; a scan ends when it falls (R365). -/
def State.setReady (s : State) (n : Nat) (b : Bool) : State :=
  (s.setFlag (R.LN_STAT n) F.LN_STAT_RX_READY b).when (!b) (fun t => t.scanAbort n)

/-- The checker is out of sync (R363). -/
def State.prbsOut (s : State) (n : Nat) : State := s.setFlag (R.LN_PRBS_RX n) F.LN_PRBS_RX_SYNC false

/-- LOL rises (R357-R360, R376); silent while CHANGING is 1 (R345). `cause` is the fault cause of a group of the lane. -/
def State.lolRise (s : State) (n cause : Nat) : State :=
  let t := ((s.setFlag (R.LN_STAT n) F.LN_STAT_LOL true).prbsOut n).unlock n true cause
  t.when (!s.lol n && !s.flag (R.LN_STAT n) F.LN_STAT_CHANGING) (fun u => u.lnEvent n 2 0x02 0)

/-- LOS rises, and LOL with it (R356, R357). -/
def State.losRise (s : State) (n : Nat) : State :=
  let t := (s.setFlag (R.LN_STAT n) F.LN_STAT_LOS true).when (!s.los n) (fun u => u.lnEvent n 0 0x01 0)
  (t.setLane n { t.lane n with due := true, adapt := false }).lolRise n 1

/-- LOL falls: the CDR has locked (R357). In RAW the lane is then locked (R376); an adaptation that is due starts (R353). -/
def State.lolFall (s : State) (n : Nat) : State :=
  let t := (s.setFlag (R.LN_STAT n) F.LN_STAT_LOL false).lnEvent n 3 0 0
  let u := t.when (t.lane n).due (fun u => (u.setReady n false).setLane n { u.lane n with due := false, adapt := true })
  u.when (u.code n == 0) (fun v => v.lockUp n)

/-! ## Changing the settings of a lane -/

/-- A coding layer starts in a mode: the encoder at RD- (R380), the decoder and the scramblers at free values. -/
def State.codeStart (s : State) (n : Nat) : State :=
  let a := s.draw
  let b := a.2.draw
  let c := b.2.coder n
  b.2.setCoder n { c with txRd := false, rxRd := a.1.testBit 63, txScr := BitVec.ofNat 58 a.1, rxScr := BitVec.ofNat 58 b.1
                          fec := [], word := [], valid := false, lf := 0 }

/-- The coding mode changes (R374): lock indications clear when CODE or WIDTH changes, without LOCK_LOST. -/
def State.setMode (s : State) (n : Nat) (mode : Word) : State :=
  let old := (s.lane n).mode
  let t := s.setLane n { s.lane n with mode := mode }
  if old.fget F.PCS_LN_MODE_CODE = mode.fget F.PCS_LN_MODE_CODE && old.fget F.PCS_LN_MODE_WIDTH = mode.fget F.PCS_LN_MODE_WIDTH
  then t
  else
    let cause := match s.groupOf n with | some g => if s.grpState g == 4 then 7 else 2 | none => 7
    ((t.unlock n false cause).codeStart n).when (mode.fget F.PCS_LN_MODE_CODE == 0 && !t.lol n) (fun u => u.lockUp n)

/-- A lane loses the PLL or the reference it uses (R359): electrical idle and LOL; it goes on from step 3 of R344 once the PLL has
relocked, so that an initial adaptation follows the lock of the CDR (step 5; DEDUCED, unsafe: notes/assumptions/49.md). -/
def State.pllGone (s : State) (n : Nat) : State :=
  (s.setLane n { s.lane n with relock := true, adapt := false, due := true }).lolRise n 1

/-- The LC PLL takes the settings of its quad's registers (R344). Switched off, it is gone for every lane that still selects it. -/
def State.lcTake (s : State) (q : Nat) : State :=
  let x := s.quad q
  let on := s.flag (R.LQ_CTRL q) F.LQ_CTRL_LC_EN
  let new := { x with lcpll := s.reg (R.LQ_LCPLL q), lcfrac := s.reg (R.LQ_LCFRAC q), lcOn := on }
  if new = x then s
  else ((s.setQuad q new).setFlag (R.LQ_STAT q) F.LQ_STAT_LC_LOCK false).when (x.lcOn && !on) (fun t =>
    t.forEach ((List.range 4).map (fun l => 4 * q + l)) (fun u n =>
      u.when (u.operates n && !selRing (u.target n).1) (fun v => v.pllGone n)))

/-- The lane takes its target settings at a lane-safe point (R343, R344, R346). -/
def State.laneTake (s0 : State) (n : Nat) : State :=
  let q := n / 4
  let st := R.LN_STAT n
  let (rate, rpll, rfrac, ffe, mode) := s0.target n
  let l := s0.lane n
  let lc := s0.reg (R.LQ_LCPLL q)
  let lf := s0.reg (R.LQ_LCFRAC q)
  let ring := selRing rate
  let pll := ring != selRing l.rate || (if ring then rpll != l.rpll || rfrac != l.rfrac else lc != l.lcpll || lf != l.lcfrac)
  let busy := s0.flag st F.LN_STAT_CHANGING
  let change := pll || busy || rate.fget ⟨0, 5⟩ != l.rate.fget ⟨0, 5⟩
  let s := s0.setMode n mode
  let s1 := s.setLane n { s.lane n with rate := rate, rpll := rpll, rfrac := rfrac, ffe := ffe, eq := s.reg (R.LN_RX_EQ n),
                                        lcpll := lc, lcfrac := lf }
  let s2 := (s1.setFlag st F.LN_STAT_APPLY_PEND false).scanAbort n
  if !change then s2.lcTake q
  else
    let s3 := s2.setLane n { s2.lane n with due := true, adapt := false }
    let cause := match s3.groupOf n with | some g => if s3.grpState g == 4 then 7 else 1 | none => 1
    let s5 := ((s3.setFlag st F.LN_STAT_CHANGING true).setReady n false).lolRise n cause
    (s5.when (pll && ring) (fun t => t.setFlag st F.LN_STAT_RPLL_LOCK false)).lcTake q

/-- New settings for a lane: taken at its next lane-safe point, or at once where the lane does not operate. -/
def State.lanePend (s : State) (n : Nat) : State :=
  if s.operates n then s.setFlag (R.LN_STAT n) F.LN_STAT_APPLY_PEND true
  else
    let (rate, rpll, rfrac, ffe, mode) := s.target n
    (s.setMode n mode).setLane n { (s.setMode n mode).lane n with
      rate := rate, rpll := rpll, rfrac := rfrac, ffe := ffe, eq := s.reg (R.LN_RX_EQ n),
      lcpll := s.reg (R.LQ_LCPLL (n / 4)), lcfrac := s.reg (R.LQ_LCFRAC (n / 4)) }

/-- A lane starts or stops operating (R333, R356). -/
def State.operateChange (s old : State) (n : Nat) : State :=
  let st := R.LN_STAT n
  if s.operates n == old.operates n then s
  else if s.operates n then
    let t := s.lanePend n
    (((t.setFlag st F.LN_STAT_LOS true).setFlag st F.LN_STAT_LOL true).setFlag st F.LN_STAT_APPLY_PEND false).setLane n
      { t.lane n with due := true }
  else
    let t := ((s.losRise n).setReady n false).setFlag st F.LN_STAT_RPLL_LOCK false
    ((t.setFlag st F.LN_STAT_CHANGING false).setFlag st F.LN_STAT_APPLY_PEND false).lanePend n

/-- Apply or exchange the staged fields of a quad and its lanes (R341, R342, R375); `f` is applyReg or exchangeReg. -/
def State.quadSet (s : State) (q : Nat) (f : State → Nat → State) : State :=
  let lcOk := s.lcValid q (s.staged (R.LQ_LCPLL q)) (s.staged (R.LQ_LCFRAC q))
  let s1 := if lcOk then f (f (f s (R.LQ_CTRL q)) (R.LQ_LCPLL q)) (R.LQ_LCFRAC q) else s.lqEvent q 3 0x14 0
  s1.forEach ((List.range 4).map (fun l => 4 * q + l)) (fun t n =>
    let ok := t.rateValid q (t.staged (R.LN_RATE n)) (t.staged (R.LN_RPLL n)) (t.staged (R.LN_RFRAC n))
      (t.reg (R.LQ_LCPLL q)) (t.reg (R.LQ_LCFRAC q)) (t.flag (R.LQ_CTRL q) F.LQ_CTRL_LC_EN)
    let t1 := if ok then f (f (f t (R.LN_RATE n)) (R.LN_RPLL n)) (R.LN_RFRAC n) else t.lnEvent n 6 0x05 0
    let t2 := if ffeValid (t1.staged (R.LN_TX_FFE n)) then f t1 (R.LN_TX_FFE n) else t1.lnEvent n 7 0x06 0
    let t3 := f t2 (R.LN_RX_EQ n)
    let rate := t3.reg (R.LN_RATE n)
    let hz := t3.symHz q rate (t3.reg (R.LN_RPLL n)) (t3.reg (R.LN_RFRAC n)) (t3.reg (R.LQ_LCPLL q)) (t3.reg (R.LQ_LCFRAC q))
    if modeValid (t3.staged (R.PCS_LN_MODE n)) rate hz then f t3 (R.PCS_LN_MODE n)
    else (t3.setFlag (R.PCS_LN_STAT n) F.PCS_LN_STAT_PCS_REJ true).pcsRecord n 0x24 0)

/-- A quad and its lanes act on the values in effect (R251, R252, R343). -/
def State.quadAct (s : State) (q : Nat) : State :=
  let s2 := s.forEach ((List.range 4).map (fun l => 4 * q + l)) (fun t n =>
    (if (t.overrider n).isSome then t else t.setMode n (t.reg (R.PCS_LN_MODE n))).lanePend n)
  s2.when (!((List.range 4).any (fun l => s2.operates (4 * q + l)))) (fun t => t.lcTake q)

/-- An APPLY of a quad. -/
def State.quadApply (s : State) (q : Nat) : State := (s.quadSet q State.applyReg).quadAct q

/-! ## Group configuration -/

/-- Apply or exchange the staged fields of a group (R394); an invalid configuration is refused where its staged EN is 1 (DESIGN
CHOICE, unsafe: notes/assumptions/49.md). -/
def State.grpSet (s : State) (g : Nat) (f : State → Nat → State) : State :=
  let ctrl := R.PCS_GRP_CTRL g
  let cfg := R.PCS_GRP_CFG g
  if (s.staged ctrl).fget F.PCS_GRP_CTRL_EN != 0 && !s.grpValid g (s.staged cfg) then (s.grpEvent g 3).grpRecord g 0x33 0 0xFF
  else f (f s ctrl) cfg

/-- Marker counting starts on every member, in one column (R395). -/
def State.markStart (s : State) (g : Nat) : State :=
  s.forEach (s.grpLanes g) (fun t n => t.setCoder n { t.coder n with blocks := 0, seq := 0 })

/-- A group acts on the values in effect: it goes to OFF, leaves it, or goes on (R398). -/
def State.grpAct (s : State) (g : Nat) : State :=
  if !s.grpOn g then s.setGrpState g 0
  else if s.grpState g = 0 then (s.markStart g).grpFault g 0x04 0xFF
  else s.grpTry g

/-- An APPLY of a group (R394, R399): a field in effect that changes takes it to FAULT. -/
def State.grpApply (s : State) (g : Nat) : State :=
  let t := s.grpSet g State.applyReg
  let moved : Bool := t.reg (R.PCS_GRP_CTRL g) != s.reg (R.PCS_GRP_CTRL g) || t.reg (R.PCS_GRP_CFG g) != s.reg (R.PCS_GRP_CFG g)
  let u := t.when (moved && t.grpOn g) (fun t => t.markStart g)
  if moved && 2 ≤ s.grpState g && t.grpOn g then u.grpFault g 0x03 0xFF else u.grpAct g

/-- A firing that names a group (R251, R252, R399): the fields exchange, and a group in HOLDOFF, DESKEW or BONDED goes to FAULT even
when nothing changes or the staged values are refused. -/
def State.grpFire (s : State) (g : Nat) : State :=
  let t := s.grpSet g State.exchangeReg
  if 2 ≤ s.grpState g then t.grpFault g 0x03 0xFF else t

/-! ## Pins and ports -/

/-- The PLL that a lane uses is locked and its reference is present (R348, R359). -/
def State.pllUp (s : State) (n : Nat) : Bool :=
  let l := s.lane n
  !l.relock &&
    (if selRing l.rate then s.flag (R.LN_STAT n) F.LN_STAT_RPLL_LOCK else s.flag (R.LQ_STAT (n / 4)) F.LQ_STAT_LC_LOCK)

/-- LN_STAT.ELEC_IDLE (R348, R406, R416). -/
def State.elecIdle (s : State) (n : Nat) : Bool :=
  s.fld R.CFG_BOOT_STAT F.CFG_BOOT_STAT_STEP < 6 || s.flag (R.LN_CTRL n) F.LN_CTRL_TX_IDLE || !s.operates n ||
    s.flag (R.LN_STAT n) F.LN_STAT_CHANGING || !s.pllUp n || s.skmIdle n

/-- The receive port presents local fault (R400, R406). -/
def State.localFault (s : State) (n : Nat) : Bool :=
  s.code n != 0 &&
    (match s.groupOf n with
     | some g => s.grpState g != 4 || (s.overrider n).isSome
     | none => !s.locked n || (s.overrider n).isSome)

/-! ## The windows -/

/-- The lane of an offset in the LQ windows. -/
def lqLane (inst loc : Nat) : Option Nat := if 0x2000 ≤ loc && loc < 0xA000 then some (4 * inst + (loc - 0x2000) / 0x2000) else none

/-- The enable field of the LOCKED fields (LQ_CTRL.EN, LN_CTRL.EN) reads 0. -/
def State.lqOpen (s : State) (inst loc : Nat) : Bool :=
  match lqLane inst loc with
  | some n => !s.flag (R.LN_CTRL n) F.LN_CTRL_EN
  | none => !s.flag (R.LQ_CTRL inst) F.LQ_CTRL_EN

/-- An ignored LOCKED write (R24, R25). DESIGN CHOICE, unsafe (notes/assumptions/45.md): the offset of an LN_ register in its record
counts from the start of the 64 KiB window of R39. -/
def State.lqLocked (s : State) (inst loc : Nat) : State :=
  match lqLane inst loc with
  | some n => (s.setFlag (R.LN_STAT n) F.LN_STAT_LOCKED_WR true).lockedRecord (192 + n) n loc
  | none => (s.setFlag (R.LQ_STAT inst) F.LQ_STAT_LOCKED_WR true).lockedRecord (336 + inst) inst loc

/-- PMA_RST (R353): the CDR restarts, and an initial adaptation follows its lock. -/
def State.pmaRst (s : State) (n : Nat) : State :=
  if !s.operates n || s.bscan then s
  else ((s.setLane n { s.lane n with due := true, adapt := false }).setReady n false).lolRise n 1

/-- START of an eye scan (R364, R365). -/
def State.scanStart (s : State) (n : Nat) : State :=
  let c := R.LN_ES_CTRL n
  let st := R.LN_STAT n
  let t := s.setFlag c F.LN_ES_CTRL_ES_REJ false
  let bad := !s.flag st F.LN_STAT_RX_READY || s.flag st F.LN_STAT_APPLY_PEND || s.flag st F.LN_STAT_CHANGING ||
    s.flag c F.LN_ES_CTRL_BUSY
  let u := t.setFlag c F.LN_ES_CTRL_ABORT false
  if bad then u.setFlag c F.LN_ES_CTRL_ES_REJ true
  else (u.setFlag c F.LN_ES_CTRL_BUSY true).setLane n { u.lane n with dwell := s.fld c F.LN_ES_CTRL_DWELL }

/-- A slip (R385). -/
def State.slip (s : State) (n : Nat) : State :=
  let a := R.PCS_LN_ALIGN n
  if !s.flag a F.PCS_LN_ALIGN_MODE || s.flag a F.PCS_LN_ALIGN_BUSY then s
  else
    ((s.setFld a F.PCS_LN_ALIGN_POS ((s.fld a F.PCS_LN_ALIGN_POS + 1) % 10)).setFlag a F.PCS_LN_ALIGN_BUSY true).when
      (s.code n == 1) (fun t => t.unlock n true 2)

/-- A DFE tap as it acts: held within its range (R352). -/
def tapOf (k n : Nat) : Nat := unsigned 8 (clampI (if k = 0 then 127 else 63) (signed 8 n))

/-- What a register write to a lane does beside storing its fields. -/
def State.lnAct (s old : State) (n loc : Nat) (v : Word) : State :=
  match loc % 0x2000 with
  | 0x000 => (s.operateChange old n).when (v.getLsbD 4) (fun t => t.pmaRst n)
  | 0x05C => s.settle (192 + n) (!old.lnLevel n && s.lnLevel n)
  | 0x060 => s.when (v.getLsbD 5) (fun t => t.setLane n { t.lane n with inj := (t.lane n).inj + 1 })
  | 0x064 =>
    let t := s.when (v.getLsbD 31) (fun t =>
      ((t.setReg (R.LN_PRBS_ERR n) 0).setReg (R.LN_PRBS_BITS_LO n) 0).setReg (R.LN_PRBS_BITS_HI n) 0)
    t.when (!v.getLsbD 4) (fun u => u.prbsOut n)
  | 0x080 => s.when (v.getLsbD 31) (fun t => t.scanStart n)
  | 0x104 => s.when (v.getLsbD 31) (fun t => t.slip n)
  | o =>
    if 0x020 ≤ o && o < 0x050 then
      let k := (o - 0x020) / 4
      -- a write to LN_DFE while DFE_AD in effect is 1 is ignored (R353)
      if s.flag (R.LN_RX_EQ n) F.LN_RX_EQ_DFE_AD then s.setReg (R.LN_DFE n k) (old.reg (R.LN_DFE n k))
      else s.setReg (R.LN_DFE n k) (BitVec.ofNat 32 (tapOf k (v.toNat % 256)))
    else s

/-- What a register write in an LQ window does beside storing its fields. -/
def State.lqAct (s old : State) (inst loc : Nat) (v : Word) : State :=
  match lqLane inst loc with
  | some n => s.lnAct old n loc v
  | none =>
    match loc with
    | 0x000 =>
      let t := s.when (v.getLsbD 0) (fun t => t.quadApply inst)
      t.forEach ((List.range 4).map (fun l => 4 * inst + l)) (fun u n => u.operateChange old n)
    | 0x014 => s.settle (336 + inst) (!old.lqLevel inst && s.lqLevel inst)
    | 0xA000 => s.when (v.getLsbD 0 && inst < 16) (fun t => t.grpApply inst)
    | 0xA018 => s.settle (372 + inst) (!old.grpLevel inst && s.grpLevel inst)
    | _ => s

/-- Registers of the LQ windows whose value follows from other state. -/
def State.lqPeek (s : State) (inst loc : Nat) : Option Word :=
  match lqLane inst loc with
  | some n =>
    match loc % 0x2000 with
    | 0x054 => some ((s.reg (R.LN_STAT n)).fput F.LN_STAT_ELEC_IDLE (b2n (s.elecIdle n)))
    | 0x108 => some (((s.reg (R.PCS_LN_STAT n)).fput F.PCS_LN_STAT_RX_LF (b2n (s.localFault n))).fput F.PCS_LN_STAT_GROUPED
        (b2n (s.groupOf n).isSome))
    | _ => none
  | none =>
    if loc = 0x00C then
      some ((s.reg (R.LQ_STAT inst)).fput F.LQ_STAT_APPLY_PEND
        (b2n ((List.range 4).any (fun l => s.flag (R.LN_STAT (4 * inst + l)) F.LN_STAT_APPLY_PEND))))
    else none

end Sys2Proof.Machine
end

