-- ==== Sys2Proof/Machine/LanePath.lean ====
section
/-! DEFINITION. LanePath.lean: what a lane sends and what its receive port presents (R335, R350, R361, R369-R401). -/

namespace Sys2Proof.Machine

/-- A lane's events happen: it operates and no boundary-scan instruction has it (R333, R367). -/
def State.laneLive (s : State) (n : Nat) : Bool := s.operates n && !s.bscan

/-- Receive data reaches the coding layer (R358). -/
def State.rxData (s : State) (n : Nat) : Bool := s.laneLive n && !s.los n && !s.lol n

/-- The units of a fabric word (R371). -/
def State.width (s : State) (n : Nat) : Nat := 2 ^ min 2 ((s.lane n).mode.fget F.PCS_LN_MODE_WIDTH)

/-- Words cross between a lane and the fabric (R373): the active plane has a port for the lane, its region is not held, and its sector
has power. -/
def State.laneCarries (s : State) (n : Nat) : Bool :=
  s.act.ports.has (64 + n) && !s.heldIn (s.niRegion (64 + n)) && !s.secGoing (portSector (n / 4))

/-- LN_CFG.LOOPBACK: 1 near-end, 2 far-end, anything else none (R350). -/
def State.loopback (s : State) (n : Nat) : Nat := s.fld (R.LN_CFG n) F.LN_CFG_LOOPBACK % 3

/-- The member index of a lane in its enabled group. -/
def State.memberIndex (s : State) (n g : Nat) : Nat := n - (s.grpLanes g).headD 0

/-! ## The line -/

/-- The bits of the pattern generator in place of `bits` (R361, R362), with its state after them. -/
def State.pattern (s : State) (n : Nat) (bits : List Bool) : List Bool × Coder :=
  let c := s.coder n
  let pam := isPam4 (s.lane n).rate
  let p := s.fld (R.LN_PRBS_TX n) F.LN_PRBS_TX_PATTERN
  let k := bits.length
  let kind := if p = 7 then 3 else if p = 8 || 12 ≤ p || (p = 9 && !pam) then 6 else p
  if kind < 7 then
    let r := prbsBits kind k c.prbs
    (r.1, { c with prbs := r.2 })
  else if kind = 9 then
    ((List.range (k / 2)).flatMap (fun i => symbolBits (Config.ssprq (c.pos + i) % 4)), { c with pos := c.pos + k / 2 })
  else if kind = 0xA then
    let m := if pam then k / 2 else k
    ((List.range m).flatMap (fun i => let hi := (c.pos + i) / 8 % 2 == 0; if pam then [hi, false] else [hi]),
      { c with pos := (c.pos + m) % 16 })
  else
    let u := (s.reg (R.LN_USR_PAT_LO n)).toNat + 2 ^ 32 * (s.reg (R.LN_USR_PAT_HI n)).toNat
    ((List.range k).map (fun i => u.testBit ((c.pos + i) % 64)), { c with pos := (c.pos + k) % 64 })

/-- One bit of the first symbol inverted for each INJ write (R362); which bit of a PAM4 symbol is free. -/
def State.injectBits (s : State) (n : Nat) (bits : List Bool) : List Bool :=
  let w := if isPam4 (s.lane n).rate then 2 else 1
  (List.range (s.lane n).inj).foldl (fun l i =>
    let j := (Config.freeWord (s.draws + i)).toNat % w
    l.set j !(l.getD j false)) bits

/-- Symbols go out (R335, R350): kept with the four before them. -/
def State.sendSymbols (s : State) (n : Nat) (xs : List Nat) : State :=
  let c := s.coder n
  let top := if isPam4 (s.lane n).rate then 3 else 1
  let ys := if s.flag (R.LN_CTRL n) F.LN_CTRL_TX_POL then xs.map (fun x => top - x) else xs
  s.setCoder n { c with line := c.line.drop (c.line.length - 4) ++ ys }

/-- Bits of the coding layer, or those of the pattern generator in their place, go out; in far-end loopback neither does. -/
def State.sendLine (s : State) (n : Nat) (bits : List Bool) : State :=
  let gen := s.flag (R.LN_PRBS_TX n) F.LN_PRBS_TX_EN
  let g := if gen then s.pattern n bits else (bits, s.coder n)
  let out := if gen then s.injectBits n g.1 else g.1
  let t := (s.setCoder n g.2).when gen (fun t =>
    { t.setLane n { t.lane n with inj := 0 } with draws := t.draws + (t.lane n).inj })
  if s.loopback n = 2 then t
  else if isPam4 (s.lane n).rate then
    let xs := pamSymbols out
    if (s.lane n).rate.fget F.LN_RATE_TX_PRECODE = 0 then t.sendSymbols n xs
    else
      let ys := precode (t.coder n).pre xs
      (t.setCoder n { t.coder n with pre := ys.getLastD (t.coder n).pre }).sendSymbols n ys
  else t.sendSymbols n (out.map b2n)

/-- The levels on a lane's transmit pins (R347, R348, R350), in units of full swing / 189, for the latest symbols with two after them;
none in electrical idle. -/
def State.txPins (s : State) (n : Nat) : Option (List Int) :=
  let f := (s.lane n).ffe
  let taps := [signed 4 (f.fget F.LN_TX_FFE_PRE2), signed 6 (f.fget F.LN_TX_FFE_PRE1), (f.fget F.LN_TX_FFE_MAIN : Int),
    signed 6 (f.fget F.LN_TX_FFE_POST1), signed 4 (f.fget F.LN_TX_FFE_POST2)]
  let l := (s.coder n).line
  if s.elecIdle n || s.loopback n = 1 then none
  else some ((List.range (l.length - 4)).map (fun i => ffeLevel (isPam4 (s.lane n).rate) taps ((l.drop i).take 5)))

/-! ## Transmit -/

/-- Eighty blocks make a codeword; the standard's codeword alignment goes before it (R390). -/
def State.sendBlock (s : State) (n : Nat) (b : BitVec 66) : State :=
  let l := s.lane n
  let c := s.coder n
  let r := if l.mode.fget F.PCS_LN_MODE_SCR_BYP = 0 then scramble false c.txScr (payload66 b) else (payload66 b, c.txScr)
  let x := block66 (header66 b) r.1
  let t := s.setCoder n { c with txScr := r.2 }
  if s.code n = 2 then t.sendLine n (sendBits 66 x.toNat)
  else if c.fec.length < 79 then t.setCoder n { t.coder n with fec := c.fec ++ [x] }
  else (t.setCoder n { t.coder n with fec := [], cw := c.cw + 1 }).sendLine n
    (Config.cwAlign (s.code n) c.cw ++ codeword (s.code n) (c.fec ++ [x]))

/-- A slot of a group marker (R395): once every GM_PER blocks on every member of an enabled group. -/
def State.markerDue (s : State) (n : Nat) : Option Nat :=
  match s.groupOf n with
  | some g =>
    if 2 ≤ s.code n && 4096 * 4 ^ s.fld (R.PCS_GRP_CFG g) F.PCS_GRP_CFG_GM_PER ≤ (s.coder n).blocks + 1 then some g else none
  | none => none

/-- The marker goes out; TX_READY is low for its slot. -/
def State.sendMarker (s : State) (n g : Nat) : State :=
  let c := s.coder n
  (s.setCoder n { c with blocks := 0, seq := (c.seq + 1) % 256 }).sendBlock n (marker66 c.seq (s.memberIndex n g))

/-- One unit goes out; an invalid one is replaced and sets TX_BAD (R379, R389). -/
def State.sendUnit (s : State) (n : Nat) (u : BitVec 66) : State :=
  let c := s.coder n
  let bad := fun (t : State) => t.setFlag (R.PCS_LN_STAT n) F.PCS_LN_STAT_TX_BAD true
  match s.code n with
  | 0 => s.sendLine n (sendBits 32 u.toNat)
  | 1 =>
    let e := encode10 (u.getLsbD 8) (u.toNat % 256) c.txRd
    let x := e.getD ((encode10 true 0xFE c.txRd).getD 0)
    ((s.when e.isNone bad).setCoder n { c with txRd := rdAfter 10 x c.txRd }).sendLine n (bits10 x)
  | _ => ((s.when (!headerGood u) bad).setCoder n { c with blocks := c.blocks + 1 }).sendBlock n
      (if headerGood u then u else blockE)

/-! ## What an engine sends (R409-R414, R418) -/

/-- One bit of CRC-8 with polynomial 0x07 (R409). -/
def crc8Bit (c : Nat) : Nat := if 128 ≤ c then (2 * c % 256) ^^^ 7 else 2 * c

/-- CRC-8 of bytes (R409). -/
def crc8 (l : List Nat) : Nat :=
  l.foldl (fun c b => crc8Bit (crc8Bit (crc8Bit (crc8Bit (crc8Bit (crc8Bit (crc8Bit (crc8Bit (c ^^^ b))))))))) 0

/-- The eight bytes are a valid ordered set (R409, R410): TYPE and PAYLOAD. -/
def orderedSet (os : List Byte) : Option (Nat × Nat) :=
  let b := os.map (fun x => x.toNat)
  let ty := b.getD 1 0
  if b.length = 8 && b.headD 0 = 0xBC && b.getD 7 0 = 0xB5 && crc8 ((b.drop 1).take 5) = b.getD 6 0 &&
      [0x5A, 0x5B, 0x5C, 0x5E].contains ty then some (ty, leNat ((os.drop 2).take 4))
  else none

/-- A capability word as read at an effective version (R413): GEN, LANES, MARKERS, PRECODE, CARD. -/
structure Cap where
  gen : Nat
  lanes : Nat
  markers : Bool
  precode : Bool
  card : Nat
  deriving DecidableEq, Repr

/-- Read a capability word at a version (R411, R413). -/
def capOf (w v : Nat) : Cap :=
  let bits := if v ≤ 1 then 2 else if v = 2 then 3 else if v = 3 then 4 else 5
  ⟨w % 2 ^ bits, max 1 (w / 2 ^ 8 % 32), 2 ≤ v && w.testBit 13, 4 ≤ v && w.testBit 14, w / 2 ^ 24 % 256⟩

/-- VERSION of a capability word (R413). -/
def capVersion (w : Nat) : Nat := min 4 (w / 2 ^ 16 % 16)

/-- The highest generation in a mask; 0 for none. -/
def topGen (m : Nat) : Nat := ([5, 4, 3, 2, 1].find? (fun g => m.testBit (g - 1))).getD 0

/-- The settle word of two capability words (R412, R414); none without a common generation. -/
def settleWord (a b : Nat) : Option Nat :=
  let v := min (capVersion a) (capVersion b)
  let x := capOf a v
  let y := capOf b v
  let g := topGen (x.gen &&& y.gen)
  if g = 0 then none
  else
    let m := x.markers && y.markers
    let lanes := if 2 ≤ g && !m then 1 else min x.lanes y.lanes
    let p := 4 ≤ g && x.precode && y.precode
    some (g + lanes * 2 ^ 8 + b2n m * 2 ^ 13 + b2n p * 2 ^ 14 + v * 2 ^ 16)

/-- The capability word that an engine sends (R413). -/
def State.ownCap (s : State) (e : Nat) : Nat :=
  let c := R.SKM_ENG_CFG e
  let gen := s.fld c F.SKM_ENG_CFG_ALLOW &&& (31 ^^^ s.fld (R.SKM_ENG_STAT e) F.SKM_ENG_STAT_FAILED_GEN)
  gen + s.fld c F.SKM_ENG_CFG_COUNT % 32 * 2 ^ 8 + 2 ^ 13 + 2 ^ 14 + 4 * 2 ^ 16

/-- The settle word an engine sends, from the latest capability word received. -/
def State.ownSettle (s : State) (e : Nat) : Option Nat := settleWord (s.ownCap e) (s.reg (R.SKM_ENG_PEER e)).toNat

/-- The units of an ordered set (R409). -/
def setUnits (ty payload : Nat) : List (BitVec 66) :=
  let p := ty :: (List.range 4).map (fun i => payload / 2 ^ (8 * i) % 256)
  ([0x1BC] ++ p ++ [crc8 p, 0xB5]).map (fun x => BitVec.ofNat 66 x)

/-- What the lead lane of an engine sends over and over in a state (R416): an ordered set, or the idle pattern of R418. -/
def State.skmUnits (s : State) (e : Nat) : List (BitVec 66) :=
  let settle := match s.ownSettle e with
    | some w => setUnits 0x5C w
    | none => []
  let idle : List (BitVec 66) := match s.code (s.lead e) with
    | 0 => []
    | 1 => [0x1BC, 0x50]
    | _ => [block66 2 0x1E]
  match s.skmState e with
  | 0x2 => setUnits 0x5A (s.ownCap e)
  | 0x3 => setUnits 0x5B (s.ownCap e)
  | 0x4 => settle
  | 0x5 => settle
  | 0x6 => idle
  | 0x7 => if (s.skm e).legacy then idle else []
  | 0xB => if (s.skm e).abort then setUnits 0x5E 0 else []
  | _ => []

/-- The lead lane sends a unit of its engine: the next of the set begun, or the first of a new one. -/
def State.skmSend (s : State) (n e : Nat) : State :=
  let k := s.skm e
  match (if k.out.isEmpty then s.skmUnits e else k.out) with
  | [] => s
  | u :: r => (s.setSkm e { k with out := r }).sendUnit n u

/-- A slot without a valid word (R372, R373): the substitute for each missing unit; under the override the lead lane sends what
its engine sends, and no other lane sends anything (R406, R410). -/
def State.underrun (s : State) (n : Nat) : State :=
  let t := (s.lnCount (R.PCS_LN_TX_UNDER n) 1).setFlag (R.PCS_LN_STAT n) F.PCS_LN_STAT_TX_UNDER true
  match s.overrider n with
  | some e => t.when (n == s.lead e) (fun t => (List.range (s.width n)).foldl (fun (t : State) _ => t.skmSend n e) t)
  | none =>
    let u : BitVec 66 := match s.code n with
      | 0 => 0
      | 1 => 0x1FE
      | _ => blockE
    let v := (List.range (s.width n)).foldl (fun (t : State) _ => t.sendUnit n u) t
    v.when (s.code n == 1) (fun t => t.setCoder n { t.coder n with txRd := false })

/-- A transmit slot (R372, R373, R395): `unit` is what user logic presents. -/
def State.transmit (s : State) (n : Nat) (unit : Option (BitVec 66)) : State :=
  match s.markerDue n, unit with
  | some g, _ => s.sendMarker n g
  | none, some u => if s.laneCarries n && (s.overrider n).isNone then s.sendUnit n u else s.underrun n
  | none, none => s.underrun n

/-! ## Receive -/

/-- The unit that a port presents as local fault (R400), `i` units into its word. -/
def State.lfUnit (s : State) (n i : Nat) : RxUnit :=
  if s.code n = 1 then
    let j := match s.groupOf n with
      | some g => s.memberIndex n g
      | none => (s.coder n).lf + i
    ⟨BitVec.ofNat 66 ([0x9C, 0x00, 0x00, 0x01].getD (j % 4) 0), j % 4 == 0, false, false, false⟩
  else ⟨blockLf, false, false, false, false⟩

/-- What a receive port presents (R372): RX_DATA with its flags, RX_VALID, RX_LF, RX_GCOL. -/
structure RxPort where
  units : List RxUnit
  valid : Bool
  lf : Bool
  gcol : Nat
  deriving DecidableEq, Repr

/-- The receive port of a lane (R372, R400, R401). -/
def State.rxPort (s : State) (n : Nat) : RxPort :=
  let c := s.coder n
  if s.localFault n then ⟨(List.range (s.width n)).map (fun i => s.lfUnit n i), true, true, c.gcol⟩
  else ⟨c.rx, c.valid && s.locked n, false, c.gcol⟩

/-- A unit joins the receive word; a full word goes to the port, or is dropped where it cannot cross (R369, R373). -/
def State.deliverUnit (s : State) (n : Nat) (x : RxUnit) : State :=
  let c := s.coder n
  let w := c.word ++ [x]
  if w.length < s.width n then s.setCoder n { c with word := w, valid := false }
  else
    let d := { c with word := [], valid := false, lf := (c.lf + w.length) % 4 }
    if s.localFault n then s.setCoder n d
    else if !s.laneCarries n then
      ((s.setCoder n d).lnCount (R.PCS_LN_RX_DROP n) 1).setFlag (R.PCS_LN_STAT n) F.PCS_LN_STAT_RX_OVF true
    else
      let bonded := match s.groupOf n with
        | some g => s.grpState g == 4
        | none => false
      s.setCoder n { d with rx := w, valid := !s.flag (R.PCS_LN_ALIGN n) F.PCS_LN_ALIGN_BUSY
                            gcol := if bonded then (c.gcol + 1) % 16 else c.gcol }

/-- Line bits as the receiver hands them on (R335, R350): polarity and precoding undone. -/
def State.recover (s : State) (n : Nat) (bits : List Bool) : List Bool × Nat :=
  let inv := s.flag (R.LN_CTRL n) F.LN_CTRL_RX_POL
  let c := s.coder n
  if isPam4 (s.lane n).rate then
    let xs := (pamSymbols bits).map (fun x => if inv then 3 - x else x)
    let ys := if (s.lane n).rate.fget F.LN_RATE_RX_PRECODE = 0 then xs else unprecode c.rxPre xs
    (ys.flatMap symbolBits, xs.getLastD c.rxPre)
  else (bits.map (fun b => b != inv), c.rxPre)

/-- An 8b/10b code at the symbol boundary (R380-R384). -/
def State.receive10 (s : State) (n : Nat) (bits : List Bool) : State :=
  let c := s.coder n
  let a := R.PCS_LN_ALIGN n
  let code := bitsNat bits.reverse
  let r := decode10 code c.rxRd
  let err := r.1.ce || r.1.de
  let comma := isComma (s.fld a F.PCS_LN_ALIGN_COMMA_SEL) code
  let hist := (err :: c.hist).take 16
  let commas := if err then 0 else if comma then c.commas + 1 else c.commas
  let t := ((s.when err (fun t => t.lnCount (R.PCS_LN_ERR_CNT n) 1)).when comma (fun t =>
    t.lnCount (R.PCS_LN_COMMA_CNT n) 1)).setCoder n { c with rxRd := r.2, hist := hist, commas := commas }
  let u :=
    if s.locked n then t.when (4 ≤ hist.count true) (fun t => t.unlock n true 2)
    else if 3 ≤ commas then
      (t.lockUp n).when (s.flag a F.PCS_LN_ALIGN_ALIGN_B0) (fun t => t.setCoder n { t.coder n with word := [] })
    else t
  u.deliverUnit n r.1

/-- A block (R386, R387, R391): headers are judged, the payload is descrambled, a group's markers are removed (R395). -/
def State.receiveBlock (s : State) (n : Nat) (b : BitVec 66) : State :=
  let c := s.coder n
  let x := if 0 < c.bad then block66 3 (payload66 b) else b
  let bad := !headerGood x
  let r := if (s.lane n).mode.fget F.PCS_LN_MODE_SCR_BYP = 0 then scramble true c.rxScr (payload66 x) else (payload66 x, c.rxScr)
  let hist := (bad :: c.hist).take 64
  let good := if bad then 0 else c.good + 1
  let t := (s.when bad (fun t => t.lnCount (R.PCS_LN_ERR_CNT n) 1)).setCoder n
    { c with rxScr := r.2, hist := hist, good := good, bad := c.bad - 1 }
  let u :=
    if s.code n != 2 then t
    else if s.locked n then t.when (16 ≤ hist.count true) (fun t => t.unlock n true 2)
    else t.when (64 ≤ good) (fun t => t.lockUp n)
  let y := block66 (header66 x) r.1
  if (s.groupOf n).isSome && !bad && isMarker y then u.setCoder n { u.coder n with valid := false }
  else u.deliverUnit n ⟨y, false, false, false, bad⟩

/-- A unit reaches the coding layer: `u` is its line bits, the first in bit 0, in the RS modes a block after decoding. In far-end
loopback the recovered data goes out again. -/
def State.receive (s : State) (n : Nat) (u : BitVec 66) : State :=
  let w := match s.code n with
    | 0 => 32
    | 1 => 10
    | _ => 66
  let r := s.recover n (sendBits w u.toNat)
  let t := if 3 ≤ s.code n then s else s.setCoder n { s.coder n with rxPre := r.2 }
  let v := t.when (s.loopback n == 2) (fun t =>
    t.sendSymbols n (if isPam4 (t.lane n).rate then pamSymbols r.1 else r.1.map b2n))
  match s.code n with
  | 0 => v.deliverUnit n ⟨BitVec.ofNat 66 (bitsNat r.1), false, false, false, false⟩
  | 1 => v.receive10 n r.1
  | 2 => v.receiveBlock n (BitVec.ofNat 66 (bitsNat r.1))
  | _ => v.receiveBlock n u

/-- Codewords reach the decoder (R391), each with its number of erroneous symbols: one beyond what the code corrects marks the eighty
blocks that it carries; with BYP_CORR nothing is corrected or marked. -/
def State.codewords (s : State) (n : Nat) (errs : List Nat) : State :=
  let byp := (s.lane n).mode.fget F.PCS_LN_MODE_BYP_CORR != 0
  s.forEach errs (fun t e =>
    if rsCorrects (s.code n) < e then
      let u := ((t.lnCount (R.PCS_LN_FEC_UNC n) 1).setFlag (R.PCS_LN_STAT n) F.PCS_LN_STAT_FEC_UNC true).pcsRecord n 0x23 1
      u.when (!byp) (fun u => u.setCoder n { u.coder n with bad := 80 })
    else t.when (0 < e && !byp) (fun t => (t.lnCount (R.PCS_LN_FEC_CW n) 1).lnCount (R.PCS_LN_FEC_SYM n) e))

end Sys2Proof.Machine
end

