-- ==== Sys2Proof/Machine/Skemer.lean ====
section
/-! DEFINITION. Skemer.lean: the Skemer slot engines (12_slot_negotiation.md): capability and settle words, transitions,
results and the release of the override. -/

namespace Sys2Proof.Machine

/-! ## The override -/

/-- Each lane of an engine takes what the override now gives it at its next lane-safe point (R407). -/
def State.skmPend (s : State) (ls : List Nat) : State := s.forEach ls (fun t n => t.lanePend n)

/-- Engage the override with a template, or change the template (R405, R407). -/
def State.engage (s : State) (e t : Nat) : State :=
  let f := R.SKM_ENG_STAT e
  let was := s.flag f F.SKM_ENG_STAT_OVERRIDE
  if was && (s.skm e).tpl = t then s
  else ((s.setFlag f F.SKM_ENG_STAT_OVERRIDE true).setSkm e { s.skm e with tpl := t, out := [] }).skmPend (s.skmLanes e)

/-- Release the override (R407). -/
def State.unengage (s : State) (e : Nat) : State :=
  let f := R.SKM_ENG_STAT e
  if s.flag f F.SKM_ENG_STAT_OVERRIDE then (s.setFlag f F.SKM_ENG_STAT_OVERRIDE false).skmPend (s.skmLanes e) else s

/-! ## Transitions (R416) -/

/-- An event bit of SKM_ENG_INT_STAT. -/
def State.skmEvent (s : State) (e bit : Nat) : State :=
  let t := s.setBit (R.SKM_ENG_INT_STAT e) bit true
  t.settle (388 + e) (t.skmLevel e)

/-- A record of an engine (R421). -/
def State.skmRecord (s : State) (e code gen sev : Nat) : State :=
  s.report e ⟨388 + e, sev, 0x0F, code * 2 ^ 24 + gen % 8 * 2 ^ 16 + s.lead e % 256⟩

/-- Enter a state: the matching of ordered sets starts anew. -/
def State.skmGo (s : State) (e st : Nat) : State :=
  (s.setFld (R.SKM_ENG_STAT e) F.SKM_ENG_STAT_STATE st).setSkm e
    { s.skm e with last := (0, 0), run := 0, abort := false, rel := false }

/-- Enter DETECT: FAILED_GEN and RETRIES clear; template 0. -/
def State.skmDetect (s : State) (e : Nat) : State :=
  let st := R.SKM_ENG_STAT e
  (((s.skmGo e 1).setFld st F.SKM_ENG_STAT_FAILED_GEN 0).setFld st F.SKM_ENG_STAT_RETRIES 0).engage e 0

/-- Enter OFFER. -/
def State.skmOffer (s : State) (e : Nat) : State := (s.skmGo e 2).engage e 0

/-- Enter BACKOFF. -/
def State.skmBackoff (s : State) (e : Nat) : State := (s.skmGo e 0xA).engage e 0

/-- Enter FAILED with a record; `abort` while ABORT sets are still sent. -/
def State.skmFail (s : State) (e code : Nat) (abort : Bool) : State :=
  let t := ((s.skmGo e 0xB).engage e 0).skmRecord e code 0 2
  (t.setSkm e { t.skm e with abort := abort }).skmEvent e 4

/-- Enter OFF: the override is released. -/
def State.skmOff (s : State) (e : Nat) : State := (s.skmGo e 0).unengage e

/-- The release of R420: UP_WAIT. -/
def State.skmRelease (s : State) (e : Nat) : State := (s.skmGo e 8).unengage e

/-- The regions that name an engine (R239). -/
def State.skmRegions (s : State) (e : Nat) : List Nat :=
  (List.range 32).filter (fun r => s.rgnDefined r && s.flag (R.CFG_RGN_CTRL r) F.CFG_RGN_CTRL_SKM_EN &&
    s.fld (R.CFG_RGN_CTRL r) F.CFG_RGN_CTRL_SKM == e)

/-- A request for the next firing edge (R239). -/
def State.gatePush (s : State) (q : FireReq) : State := { s with gate := { s.gate with reqs := s.gate.reqs ++ [q] } }

/-- Present the result in RELEASE_WAIT (R419, R420): the gate gets the request whether or not the engine releases at once. -/
def State.skmPresent (s : State) (e : Nat) : State :=
  let g := (s.skm e).gen
  let rs := s.skmRegions e
  let t := s.when (!rs.isEmpty) (fun t => t.gatePush ⟨rs, 8, some (e, g), []⟩)
  t.when (rs.any (fun r => s.fld (R.CFG_RGN_GEN r) F.CFG_RGN_GEN_ACT_GEN == g) ||
      (rs.isEmpty && s.flag (R.SKM_ENG_CFG e) F.SKM_ENG_CFG_AUTO_REL)) (fun t => t.skmRelease e)

/-- Enter RELEASE_WAIT with a result (R416, R419): generations 4 and 5 have no template and stay on the one in use. -/
def State.skmResult (s : State) (e gen : Nat) (legacy : Bool) (res : Nat) : State :=
  let t := (s.skmGo e 7).setReg (R.SKM_ENG_RES e) (BitVec.ofNat 32 res)
  let u := t.setSkm e { t.skm e with gen := gen, legacy := legacy }
  (u.when (gen ≤ 3) (fun v => v.engage e gen)).skmPresent e

/-- The candidates of LISTEN (R418), highest first. -/
def State.skmCands (s : State) (e : Nat) : List Nat :=
  [3, 2, 1].filter (fun g => (s.fld (R.SKM_ENG_CFG e) F.SKM_ENG_CFG_LISTEN).testBit (g - 1) &&
    !(s.fld (R.SKM_ENG_STAT e) F.SKM_ENG_STAT_FAILED_GEN).testBit (g - 1))

/-- Try the next candidate of LISTEN, or return to OFFER (R416, R418). -/
def State.skmListen (s : State) (e : Nat) : List Nat → State
  | [] => s.skmOffer e
  | g :: r =>
    let t := s.skmGo e 6
    (t.setSkm e { t.skm e with cands := g :: r }).engage e g

/-- The lanes of an engine keep R403. -/
def State.skmLanesOk (s : State) (e : Nat) : Bool :=
  let ls := s.skmLanes e
  1 ≤ ls.length && ls.length ≤ 16 && (ls.all (fun n => n < 72) || ls.all (fun n => 72 ≤ n && n < 144))

/-- The engine may be enabled (R404). -/
def State.skmOk (s : State) (e : Nat) : Bool :=
  s.skmLanesOk e && (List.range 16).all (fun f => f == e || !s.flag (R.SKM_ENG_CTRL f) F.SKM_ENG_CTRL_EN ||
    (s.skmLanes f).all (fun n => !(s.skmLanes e).contains n))

/-- Engines act from start-up step 6 on (R408). -/
def State.skmActive (s : State) : Bool := 6 ≤ s.fld R.CFG_BOOT_STAT F.CFG_BOOT_STAT_STEP

/-- Transitions happen while the engine is not frozen (R631). -/
def State.skmRuns (s : State) : Bool := !s.frozen F.DBG_FRZ_SKM && !s.bscan

/-- EN written at 1 to an engine in OFF (R404, R408, R416, R631). DESIGN CHOICE (notes/assumptions/49.md): a refused enable leaves EN
at 0. -/
def State.skmEnable (s : State) (e : Nat) : State :=
  if s.skmOk e then s.when (s.skmActive && s.skmRuns) (fun t => t.skmDetect e)
  else ((s.setFlag (R.SKM_ENG_CTRL e) F.SKM_ENG_CTRL_EN false).setFlag (R.SKM_ENG_STAT e) F.SKM_ENG_STAT_CFG_REJ true).skmRecord
    e 0x43 0 0

/-- Start-up step 6 starts the enabled engines (R408). -/
def State.skmStartAll (s : State) : State :=
  if !s.skmRuns then s else s.forEach (List.range 16) (fun t e =>
    t.when (t.flag (R.SKM_ENG_CTRL e) F.SKM_ENG_CTRL_EN && t.skmState e == 0) (fun u => u.skmDetect e))

/-- A restart of configuration returns every engine to OFF (R408). -/
def State.skmStopAll (s : State) : State := s.forEach (List.range 16) (fun t e => t.when (t.skmState e != 0) (fun u => u.skmOff e))

/-- AUTO_REL (R420): an engine in RELEASE_WAIT that no region names any longer releases its override. -/
def State.skmAuto (s : State) : State :=
  if !s.skmRuns then s
  else s.forEach (List.range 16) (fun t e =>
    t.when (t.skmState e == 7 && t.flag (R.SKM_ENG_CFG e) F.SKM_ENG_CFG_AUTO_REL && (t.skmRegions e).isEmpty) (fun u => u.skmRelease e))

/-- Engines that wait for a crossing release their override when the last block has crossed (R420). -/
def State.skmCrossed (s : State) : State :=
  if !s.cross.isEmpty || !s.skmRuns then s
  else s.forEach (List.range 16) (fun t e => t.when ((t.skm e).rel && t.skmState e == 7) (fun u => u.skmRelease e))

/-- The end of a freeze (R631): what the engines held back happens. -/
def State.skmThaw (s : State) : State := ((s.when s.skmActive (fun t => t.skmStartAll)).skmAuto).skmCrossed

/-! ## The SKM window -/

/-- The enable field of the LOCKED fields reads 0. -/
def State.skmOpen (s : State) (loc : Nat) : Bool := !s.flag (R.SKM_ENG_CTRL (loc / 0x1000)) F.SKM_ENG_CTRL_EN

/-- An ignored LOCKED write (R24, R25). -/
def State.skmLocked (s : State) (loc : Nat) : State :=
  let e := loc / 0x1000
  (s.setFlag (R.SKM_ENG_STAT e) F.SKM_ENG_STAT_LOCKED_WR true).lockedRecord (388 + e) e loc

/-- What of a written value reaches a template register: the fields of LN_RATE, LN_RPLL, LN_RFRAC and PCS_LN_MODE. -/
def skmMask (loc : Nat) (v : Word) : Word :=
  if 0x100 ≤ loc % 0x1000 then
    v &&& (match loc % 0x10 with | 0 => 0x7F | 4 => 0x17FF | 8 => 0xFFFFFF | _ => 0x1BF)
  else v

/-- What a register write in the SKM window does beside storing its fields: EN, then RESTART, RELEASE and REFIRE. -/
def State.skmAct (s old : State) (loc : Nat) (v : Word) : State :=
  let e := loc / 0x1000
  match loc % 0x1000 with
  | 0x000 =>
    let was := old.flag (R.SKM_ENG_CTRL e) F.SKM_ENG_CTRL_EN
    if !v.getLsbD 0 then s.when (s.skmState e != 0) (fun t => t.skmOff e)
    else
      let s1 := s.when (!was) (fun t => t.skmEnable e)
      let s2 := s1.when (v.getLsbD 1 && s1.skmState e != 0 && s1.skmRuns) (fun t => t.skmDetect e)
      let s3 := s2.when (v.getLsbD 2 && s2.skmState e == 7 && s2.skmRuns) (fun t => t.skmRelease e)
      s3.when (v.getLsbD 3 && s3.skmState e == 7 && s3.skmRuns) (fun t => t.skmPresent e)
  | 0x01C => s.settle (388 + e) (!old.skmLevel e && s.skmLevel e)
  | _ => s

end Sys2Proof.Machine
end

