-- ==== Sys2Proof/Machine/Noc.lean ====
section
/-! DEFINITION. Noc.lean: packets, routers, network interfaces and fences (09_network_on_chip.md). A packet moves whole,
one router at a time (notes/assumptions/14.md). -/

namespace Sys2Proof.Machine

/-! ## Packets -/

/-- Commands of R301. -/
def cmdRd : Nat := 1
def cmdWr : Nat := 2
def cmdPwr : Nat := 3
def cmdRdRsp : Nat := 0x81
def cmdWrRsp : Nat := 0x82

/-- A packet is a response (VN1, or a response command on VN3). -/
def Packet.isRsp (p : Packet) : Bool := p.vn == 1 || (p.vn == 3 && (p.cmd == cmdRdRsp || p.cmd == cmdWrRsp))

/-- The command and the virtual network match R301's table. -/
def Packet.matched (p : Packet) : Bool :=
  match p.vn with
  | 0 => p.cmd == cmdRd || p.cmd == cmdWr
  | 1 => p.cmd == cmdRdRsp || p.cmd == cmdWrRsp
  | 2 => p.cmd == cmdPwr
  | _ => p.cmd == cmdRd || p.cmd == cmdWr || p.cmd == cmdRdRsp || p.cmd == cmdWrRsp

/-- The flits of a packet: the header and its data (R303). -/
def Packet.flits (p : Packet) : Nat := 1 + (p.data.length + 31) / 32

/-- The flits that the response of a request needs (R313). -/
def rspFlits (cmd len : Nat) : Nat := if cmd = cmdRd then 1 + (len + 1 + 31) / 32 else 1

/-- A request's bytes lie in one aligned 4 KiB page (R302). -/
def Packet.onePage (p : Packet) : Bool := p.addr / 4096 == (p.addr + p.len) / 4096

/-- The router of an endpoint. -/
def routerOf (e : Nat) : Nat := match endpointAt e with | some (r, _) => r | none => 0

/-! ## Lists of packets -/

/-- Change the network. -/
def State.setNoc (s : State) (n : Noc) : State := { s with noc := n }

/-- Put a packet into a router. -/
def State.inject (s : State) (router : Nat) (p : Packet) : State :=
  s.setNoc { s.noc with flight := s.noc.flight ++ [⟨router, p⟩] }

/-- Take the first member of a list that satisfies a condition: the member and the rest. -/
def takeFirst {α : Type} (f : α → Bool) : List α → Option (α × List α)
  | [] => none
  | a :: r => if f a then some (a, r) else (takeFirst f r).map (fun p => (p.1, a :: p.2))

/-- A record of a router (unit n) or a network interface (unit 64 + e) (R319, R601). -/
def State.nocRecord (s : State) (unit router event sev port src dst : Nat) : State :=
  s.report unit ⟨436 + router, sev, if event ≤ 3 then 0x11 else 0x12, event * 2 ^ 24 + port * 2 ^ 16 + src * 2 ^ 8 + dst⟩

/-- Count at a network interface or a router. -/
def State.niDrop (s : State) (e : Nat) : State := s.count (R.NI_DROP_CNT e) F.NI_DROP_CNT_COUNT 1

/-! ## Network interfaces -/

/-- The crossing of R251 is still to come at a network interface: it acts on the values that the firing has put into the staging
copies; two firings before it cancel. -/
def State.niCrossing (s : State) (e : Nat) : Bool :=
  (s.cross.filter (fun b => match b with
    | .ni x => x.val == e
    | _ => false)).length % 2 == 1

/-- A word of the route table that a network interface uses. -/
def State.niTab (s : State) (e off : Nat) : Word := if s.niCrossing e then s.staged off else s.reg off

/-- The route from a network interface to an endpoint (R308). -/
def State.niRouteOf (s : State) (e d : Nat) : Nat :=
  (s.niTab e (R.NI_RT_LO e d)).toNat + 2 ^ 32 * ((s.niTab e (R.NI_RT_HI e d)).toNat % 2 ^ 16)

/-- NI_CTRL.EN. -/
def State.niOn (s : State) (e : Nat) : Bool := s.flag (R.NI_CTRL e) F.NI_CTRL_EN

/-- The fence state of a router: 0 OPEN, 1 FENCING, 2 CLOSED (R321). -/
def State.fence (s : State) (n : Nat) : Nat := s.fld (R.NOC_FENCE n) F.NOC_FENCE_STATE

/-- Set it. -/
def State.setFence (s : State) (n v : Nat) : State := s.setFld (R.NOC_FENCE n) F.NOC_FENCE_STATE v

/-- The domain of a network interface is open, where it has one (R321). -/
def State.niOpen (s : State) (e : Nat) : Bool := 64 ≤ e || s.fence e == 0

/-- The active plane configures a user port at a fabric network interface; every other has its endpoint (R320). -/
def State.userPort (s : State) (e : Nat) : Bool := 64 ≤ e || s.act.ports.has e

/-- User logic behind a fabric network interface is clocked and not held (R248, R320, R631). -/
def State.userRuns (s : State) (e : Nat) : Bool :=
  s.userPort e && !s.heldIn (s.niRegion e) && !s.fab.gsr && !s.fabFrozen (e / 2)

/-- A response of a network interface to a request it received (R302, R316). Only OK and DATAERR carry data. -/
def State.respond (s : State) (e : Nat) (q : Packet) (status : Nat) (data : List Byte) : State :=
  let rd := q.cmd == cmdRd
  let full := rd && (status == 0 || status == 6)
  s.inject (routerOf e)
    { q with route := s.niRouteOf e q.src, vn := if q.vn = 3 then 3 else 1, poison := full && status == 6
             status := status, cmd := if rd then cmdRdRsp else cmdWrRsp, src := e, dst := q.src
             dbg := e == 0x6B
             data := if full then sliceBytes data 0 (q.len + 1) else [] }

/-- A request that a target does not perform: an error response, or a drop that its network interface counts (R316). -/
def State.turnAway (s : State) (e : Nat) (q : Packet) (status : Nat) : State :=
  if q.vn = 2 then s.niDrop e else s.respond e q status []

/-- A completion handed to an endpoint; it replaces an earlier one of the same tag. -/
def State.complete (s : State) (c : Completion) : State :=
  s.setNoc { s.noc with done := c :: s.noc.done.filter (fun d => d.ni != c.ni || d.ltag != c.ltag) }

/-- The tags in use at a network interface, and the flits they reserve (R313). -/
def State.niTags (s : State) (e : Nat) : List Tag := s.noc.tags.filter (fun t => t.ni == e)
def State.poolFree (s : State) (e : Nat) : Nat := 1024 - ((s.niTags e).map (fun t => t.flits)).sum

/-! ## Routes (R307, R309) -/

/-- The order of a hop in a route: X1, east or west, X0, north or south, local (R307). -/
def hopRank (h : Nat) : Nat :=
  if h = 13 then 1 else if h = 9 || h = 11 then 2 else if h = 12 then 3 else if h = 8 || h = 10 then 4 else 5

/-- Hops from router `n`, the latest being `prev` (16: none), end at port `port` of router `r` by R307. -/
def hopsValid (r port : Nat) : List Nat → Nat → Nat → Bool
  | [], _, _ => false
  | h :: t, n, prev =>
    if h < 8 then n == r && h == port && t.all (fun x => x == 15)
    else
      let rank := if prev = 16 then 0 else hopRank prev
      (rank < hopRank h || (h == prev && (hopRank h == 2 || hopRank h == 4))) &&
        (match linkOf n h with | some m => hopsValid r port t m h | none => false)

/-- The 12 hops of a route. -/
def routeHops (route : Nat) : List Nat := (List.range 12).map (fun i => route / 16 ^ i % 16)

/-- A route from a network interface to an endpoint is valid (R307). -/
def routeValid (e d route : Nat) : Bool :=
  match endpointAt d with
  | none => route == 2 ^ 48 - 1
  | some (r, p) => hopsValid r p (routeHops route) (routerOf e) 16

/-! ## Routers -/

/-- Port `p` of router `n` is usable (NOC_STAT.UP, R326). -/
def State.portUp (s : State) (n p : Nat) : Bool := p < 14 && portExists n p && s.bit (R.NOC_STAT n) p

/-- The port enable in effect. -/
def State.portEn (s : State) (n p : Nat) : Bool := p == 1 || s.bit (R.NOC_PORT_EN n) p

/-- A port whose enable is about to change admits no new packet (R325). -/
def State.portChanging (s : State) (n p : Nat) : Bool :=
  match Tbl.get (fun _ => none) s.noc.rcfg n with
  | some m => m.testBit p != s.portEn n p
  | none => false

/-- A router turns a request into an error response, by the default route back (R318). -/
def State.routerAnswer (s : State) (n : Nat) (q : Packet) (status : Nat) : State :=
  s.inject n { q with route := defaultRoute n q.src, vn := if q.vn = 3 then 3 else 1, poison := false, status := status
                      cmd := if q.cmd = cmdRd then cmdRdRsp else cmdWrRsp, src := q.dst, dst := q.src, dbg := false
                      data := [] }

/-- An undeliverable packet at router `n` (R327). -/
def State.undeliverable (s : State) (n port : Nat) (p : Packet) : State :=
  let t := s.count (R.NOC_UNDELIV_CNT n) F.NOC_UNDELIV_CNT_COUNT 1
  if p.isRsp || p.vn = 2 then t.nocRecord n n 5 2 port p.src p.dst
  else (t.routerAnswer n p 3).nocRecord n n 4 2 port p.src p.dst

/-- The fence at port 0 lets a packet through (R321). -/
def State.fencePass (s : State) (n : Nat) (p : Packet) : Bool :=
  match s.fence n with
  | 0 => true
  | 1 => p.isRsp
  | _ => false

/-- A packet that the fence of router `n` stops (R321). -/
def State.fenced (s : State) (n : Nat) (p : Packet) : State :=
  if p.isRsp || p.vn = 2 then s.count (R.NOC_DROP_CNT n) F.NOC_DROP_CNT_COUNT 1
  else (s.count (R.NOC_FENCED_CNT n) F.NOC_FENCED_CNT_COUNT 1).routerAnswer n p 4

/-- A packet leaves router `n` through a local port to its endpoint, which compares DST with its own ID (R321, R327). -/
def State.deliver (s : State) (n port : Nat) (p : Packet) : State :=
  if port = 0 && !s.fencePass n p then s.fenced n p
  else if endpointOn n port != some p.dst then s.undeliverable n port p
  else
    let t := s.countWrap (R.NOC_FLITS n port) F.NOC_FLITS_COUNT p.flits
    t.setNoc { t.noc with arrived := t.noc.arrived ++ [p] }

/-- A packet leaves router `n` through a link to router `m` at place `k` of the flight list (R305, R306). -/
def State.linkHop (s : State) (k n port m : Nat) (p : Packet) (err : LinkErr) : State :=
  let t := s.countWrap (R.NOC_FLITS n port) F.NOC_FLITS_COUNT p.flits
  let q := { p with route := p.route / 16 + 15 * 2 ^ 44 }
  let put := fun (u : State) (x : Packet) => u.setNoc { u.noc with flight := u.noc.flight.set k ⟨m, x⟩ }
  let far := farPort port
  match err with
  | .none => put t q
  | .corrected =>
    ((put t q).count (R.NOC_CE_CNT m) F.NOC_CE_CNT_COUNT 1).nocRecord m m 1 0 far p.src p.dst
  | .header =>
    (t.setNoc { t.noc with flight := t.noc.flight.eraseIdx k }).nocRecord m m 2 2 far p.src p.dst
  | .data =>
    if p.data.isEmpty then put t q
    else (put t { q with poison := true }).nocRecord m m 3 1 far p.src p.dst

/-- An earlier packet of the same class, source, destination and route is still ahead of the `k`-th in its router (R315). -/
def Noc.blocked (l : List Flight) (k : Nat) (f : Flight) : Bool :=
  (l.take k).any (fun g => g.at' == f.at' && g.pkt.src == f.pkt.src && g.pkt.dst == f.pkt.dst && g.pkt.vn == f.pkt.vn &&
    g.pkt.isRsp == f.pkt.isRsp && g.pkt.route == f.pkt.route)

/-- ROUTER_HOP (R305, R306, R321, R325-R327): the `k`-th packet in the network moves on from its router. A packet that
waits for an earlier one or for a changing port stays. -/
def execRouterHop (k : Nat) (err : LinkErr) (s : State) : Host.Outcome State Fault Refusal :=
  .next (match s.noc.flight[k]? with
    | none => s
    | some f =>
      let n := f.at'
      let p := f.pkt
      let port := p.route % 16
      let out := s.setNoc { s.noc with flight := s.noc.flight.eraseIdx k }
      if Noc.blocked s.noc.flight k f || s.portChanging n port then s
      else if !p.matched || !s.portUp n port then out.undeliverable n port p
      else if port < 8 then out.deliver n port p
      else match linkOf n port with
        | none => out.undeliverable n port p
        | some m => if s.portChanging m (farPort port) then s else s.linkHop k n port m p err)

/-- NOC_PORT_CHANGE_DONE (R325, R326): every changed port has reached a packet boundary and changes. -/
def execNocPortChangeDone (n : Fin 64) (s : State) : Host.Outcome State Fault Refusal :=
  .next (match Tbl.get (fun _ => none) s.noc.rcfg n with
    | none => s
    | some m =>
      let t := s.setFld (R.NOC_PORT_EN n) F.NOC_PORT_EN_EN m
      let u := t.forEach (List.range 14) (fun u p =>
        if p < 8 then u.setBit (R.NOC_STAT n) p (portExists n p && t.portEn n p)
        else if t.portEn n p then u else u.setBit (R.NOC_STAT n) p false)
      u.setFlag (R.NOC_STAT n) F.NOC_STAT_RCFG_BUSY false |>.setNoc
        { u.noc with rcfg := Tbl.set (fun _ => none) u.noc.rcfg n none })

/-- LINK_STATE_CHANGE (R326): a router learns through the handshake whether both ends of a link enable it. -/
def execLinkStateChange (n : Fin 64) (port : Fin 14) (up : Bool) (s : State) : Host.Outcome State Fault Refusal :=
  .next (match linkOf n port with
    | none => s
    | some m =>
      if up == (s.portEn n port && s.portEn m (farPort port)) && !s.boot.inReset then s.setBit (R.NOC_STAT n) port up
      else s)

/-! ## Responses and timeouts -/

/-- The oldest packet that has reached an endpoint and satisfies a condition. -/
def State.takeArrived (s : State) (e : Nat) (rsp : Bool) : Option (Packet × State) :=
  (takeFirst (fun p => p.dst == e && p.isRsp == rsp) s.noc.arrived).map (fun r => (r.1, s.setNoc { s.noc with arrived := r.2 }))

/-- NOC_RESPONSE_ARRIVAL (R314, R317): the requesting interface takes a response; one whose tag is not outstanding is late. -/
def execNocResponseArrival (e : Fin 256) (s : State) : Host.Outcome State Fault Refusal :=
  .next (match s.takeArrived e true with
    | none => s
    | some (p, t) =>
      if t.noc.tags.any (fun g => g.ni == e.val && g.ltag == p.ltag) then
        (t.setNoc { t.noc with tags := t.noc.tags.filter (fun g => g.ni != e.val || g.ltag != p.ltag) }).complete
          ⟨e, p.ltag, if p.poison then 6 else p.status, p.data⟩
      else (t.count (R.NI_LATE_CNT e) F.NI_LATE_CNT_COUNT 1).nocRecord (64 + e) (routerOf e) 8 0 0 p.src p.dst)

/-- NI_REQUEST_TIMEOUT (R317, R322): a tag without a response completes with TIMEOUT. -/
def execNiRequestTimeout (e ltag : Fin 256) (s : State) : Host.Outcome State Fault Refusal :=
  let live := s.fld (R.NI_TIMEOUT e) F.NI_TIMEOUT_REQ != 0 || !s.niOpen e
  .next (match s.noc.tags.find? (fun g => g.ni == e.val && g.ltag == ltag.val) with
    | none => s
    | some g =>
      if live && !s.frozen F.DBG_FRZ_NOC &&
          !s.noc.arrived.any (fun p => p.isRsp && p.dst == e.val && p.ltag == ltag.val) then
        (((s.setNoc { s.noc with tags := s.noc.tags.erase g }).complete ⟨e, ltag, 8, []⟩).count (R.NI_TO_CNT e)
          F.NI_TO_CNT_COUNT 1).nocRecord (64 + e) (routerOf e) 7 2 0 e g.pkt.dst
      else s)

/-- NI_TARGET_TIMEOUT (R320): user logic has not taken the oldest request that waits at a fabric interface. -/
def execNiTargetTimeout (e : Fin 64) (s : State) : Host.Outcome State Fault Refusal :=
  .next (if s.fld (R.NI_TIMEOUT e) F.NI_TIMEOUT_TGT = 0 || s.frozen F.DBG_FRZ_NOC then s
    else match takeFirst (fun p => p.dst == e.val) s.noc.held with
      | none => s
      | some (p, r) =>
        let t := s.setNoc { s.noc with held := r }
        if p.vn = 2 then t.niDrop e else (t.respond e p 5 []).nocRecord (64 + e) (routerOf e) 0xA 2 0 p.src p.dst)

/-! ## Fences -/

/-- The domain of router `n`'s port 0 begins to power down (R321, R322): requests that user logic has not taken are answered
FENCED. -/
def State.fenceStart (s : State) (n : Nat) : State :=
  let mine := s.noc.held.filter (fun p => p.dst == n)
  let t := (s.setFence n 1).setNoc { s.noc with held := s.noc.held.filter (fun p => p.dst != n) }
  t.forEach mine (fun t p => t.turnAway n p 4)

/-- FENCE_CLOSE (R323). -/
def execFenceClose (n : Fin 64) (s : State) : Host.Outcome State Fault Refusal :=
  .next (if s.fence n == 1 && (s.niTags n).isEmpty && !s.noc.taken.any (fun p => p.dst == n.val) &&
      !s.noc.arrived.any (fun p => p.dst == n.val) then
      s.setFence n 2
    else s)

/-- FENCE_OPEN (R324): the interfaces of a powered sector have left reset. -/
def execFenceOpen (sec : Fin 32) (s : State) : Host.Outcome State Fault Refusal :=
  .next (if s.boot.inReset || s.bit R.SYS_PD_STAT sec || s.bit R.SYS_PD_BUSY sec then s
    else s.forEach [2 * sec.val, 2 * sec.val + 1] (fun t n => if t.fence n == 2 then t.setFence n 0 else t))

/-- FENCE_TARGET_TIMEOUT (R322): a request that user logic took is still unanswered; its later response is discarded. -/
def execFenceTargetTimeout (e : Fin 64) (s : State) : Host.Outcome State Fault Refusal :=
  .next (if s.fence e != 1 || s.frozen F.DBG_FRZ_NOC then s
    else match takeFirst (fun p => p.dst == e.val) s.noc.taken with
      | none => s
      | some (p, r) =>
        ((s.setNoc { s.noc with taken := r }).respond e p 5 []).nocRecord (64 + e) (routerOf e) 0xA 2 0 p.src p.dst)

/-! ## Issue -/

/-- Where R298 sends an address: nowhere, into two RLD channels (R473), or to an endpoint with its channel-local address. -/
inductive Dest where
  | none
  | split
  | endp (e loc : Nat)
  deriving DecidableEq, Repr

/-- An interface maps an address to no endpoint (R37, R298). -/
def State.decErr (s : State) (e : Nat) : State :=
  (s.count (R.NI_DECERR_CNT e) F.NI_DECERR_CNT_COUNT 1).nocRecord (64 + e) (routerOf e) 9 0 0 e 0

/-- An endpoint presents a request at its interface; `dst` is where R298 sends the address (R304, R311, R313, R316).
A request without a free tag or pool space is held at the endpoint. -/
def State.issue (s : State) (e cmd vn addr len : Nat) (data : List Byte) (ltag : Nat) (dst : Dest) : State :=
  let posted := cmd == cmdPwr
  let tagged := vn == 0 || vn == 3
  let give := fun (t : State) (status : Nat) => t.complete ⟨e, ltag, status, []⟩
  if (endpointAt e).isNone || s.boot.inReset || !s.niOpen e ||
      (tagged && s.noc.tags.any (fun g => g.ni == e && g.ltag == ltag)) then s
  else if !s.niOn e then (if posted then s.niDrop e else give s 7)
  else match dst with
    | .none => if posted then s.decErr e else give (s.decErr e) 1
    | .split => if posted then s.niDrop e else give s 2
    | .endp d loc =>
      let route := s.niRouteOf e d
      if route = 2 ^ 48 - 1 then (if posted then s.niDrop e else give s 3)
      else if tagged && s.poolFree e < rspFlits cmd len then s
      else
        let p : Packet := { route := route, vn := vn, dbg := e == 0x6B, poison := false, status := 0, cmd := cmd
                            ltag := ltag, src := e, dst := d, addr := addr, loc := loc, len := len
                            data := if cmd = cmdWr || cmd = cmdPwr then sliceBytes data 0 (len + 1) else [] }
        let t := s.inject (routerOf e) p
        if tagged then t.setNoc { t.noc with tags := t.noc.tags ++ [⟨e, ltag, rspFlits cmd len, p⟩] } else t

end Sys2Proof.Machine
end

