-- ==== Sys2Proof/Machine/Mc.lean ====
section
/-! DEFINITION. Mc.lean: the RLD memory controllers (14_rld_controller.md): the address map, stored words, requests, bank
queues, refresh and the states of a channel. Command slots are the unit of time (R467). -/

namespace Sys2Proof.Machine

/-! ## Records -/

def Mc.empty : Mc := ⟨[], [], [], [], 0, [], [], 0, 0, [], 0, none, 0, 0, 0, [], false, 0, false, false, false, 0, 0, false, []⟩
def State.mcOf (s : State) (c : Nat) : Mc := Tbl.get (fun _ => Mc.empty) s.mc c
def State.setMc (s : State) (c : Nat) (x : Mc) : State := { s with mc := Tbl.set (fun _ => Mc.empty) s.mc c x }

/-- The channel state (R468): 0 RESET, 1 TRAINING, 2 STOPPED, 3 READY, 4 SR_ENTRY, 5 SELF_REFRESH, 6 SR_EXIT, 7 INIT,
8 FROZEN, 9 FAILED. -/
def State.mcState (s : State) (c : Nat) : Nat := s.fld (R.MC_STAT c) F.MC_STAT_STATE

/-- Change the channel state; a retraining sweep is suspended outside READY and restarts there (R515); a self-test slice of the
channel's queues ends when READY does (R609). -/
def State.setMcState (s : State) (c n : Nat) : State :=
  let r := if n = 3 then s else s.setMc c { s.mcOf c with arrived := List.range 16 }
  let t := r.setFld (R.MC_STAT c) F.MC_STAT_STATE n
  let p := s.fld (R.MT_PR_STAT c) F.MT_PR_STAT_STATE
  if n != 3 && (p == 1 || p == 2) then t.setFld (R.MT_PR_STAT c) F.MT_PR_STAT_STATE 4
  else if n == 3 && p == 4 then t.setFld (R.MT_PR_STAT c) F.MT_PR_STAT_STATE 1
  else t

/-- The channel clock in MHz (R465, CLK_MCPLL). -/
def State.mcMhz (s : State) (c : Nat) : Nat := 800 + 25 * min 0x20 (s.fld (R.CLK_MCPLL c) F.CLK_MCPLL_MULT)

/-- Timing parameters (R467). -/
def State.tRC (s : State) (c : Nat) : Nat := (s.reg (R.MC_TP0 c)).toNat % 256
def State.tRL (s : State) (c : Nat) : Nat := (s.reg (R.MC_TP0 c)).toNat / 2 ^ 8 % 256
def State.tWL (s : State) (c : Nat) : Nat := (s.reg (R.MC_TP0 c)).toNat / 2 ^ 16 % 256
def State.tRTW (s : State) (c : Nat) : Nat := (s.reg (R.MC_TP0 c)).toNat / 2 ^ 24
def State.tWTR (s : State) (c : Nat) : Nat := (s.reg (R.MC_TP1 c)).toNat % 256
def State.tPAR (s : State) (c : Nat) : Nat := (s.reg (R.MC_TP1 c)).toNat / 2 ^ 8 % 256
def State.tPARREC (s : State) (c : Nat) : Nat := (s.reg (R.MC_TP1 c)).toNat / 2 ^ 16 % 256
def State.tCKESR (s : State) (c : Nat) : Nat := (s.reg (R.MC_TP1 c)).toNat / 2 ^ 24
def State.tREFI (s : State) (c : Nat) : Nat := (s.reg (R.MC_TP2 c)).toNat % 2 ^ 16
def State.tXS (s : State) (c : Nat) : Nat := (s.reg (R.MC_TP2 c)).toNat / 2 ^ 16

/-- Slots that cover a number of channel-clock cycles. -/
def slotsOf (tck : Nat) : Nat := (tck + 3) / 4

/-! ## Events and records (R500, R501) -/

/-- The levels of sources 404 + 4c, 406 + 4c and 407 + 4c: bits 0-4 and 10, 5-8, 9. -/
def State.mcLevel (s : State) (c k : Nat) : Bool :=
  let b := s.reg (R.MC_INT_STAT c) &&& s.reg (R.MC_INT_EN c)
  match k with
  | 0 => b &&& 0x41F != 0
  | 2 => b &&& 0x1E0 != 0
  | 3 => b &&& 0x200 != 0
  | _ => false

/-- Set an event bit of MC_INT_STAT and settle the channel's sources. -/
def State.mcEvent (s : State) (c bit : Nat) : State :=
  let t := s.setBit (R.MC_INT_STAT c) bit true
  ((t.settle (404 + 4 * c) (t.mcLevel c 0)).settle (406 + 4 * c) (t.mcLevel c 2)).settle (407 + 4 * c) (t.mcLevel c 3)

/-- An event record: code and detail. -/
def State.mcRecord (s : State) (c code sev detail : Nat) : State :=
  s.report c ⟨404 + 4 * c, sev, if code = 6 then 0x18 else 0x14, code * 2 ^ 24 + detail % 2 ^ 24⟩

/-- A memory record of type 1 CE, 2 DE or 3 UE, with its count and event (R488, R490, R492). -/
def State.mcMemory (s : State) (c type word line : Nat) : State :=
  let info := type * 2 ^ 30 + word % 8 * 2 ^ 24 + line % 2 ^ 24
  let t := (s.setReg (R.MC_LAST_ERR c) (BitVec.ofNat 32 info)).report c ⟨404 + 4 * c, type - 1, 0x13, info⟩
  let u := match type with
    | 1 => t.count (R.MC_CE_CNT c) F.MC_CE_CNT_COUNT 1
    | 2 => t.count (R.MC_DE_CNT c) F.MC_DE_CNT_COUNT 1
    | _ => t
  u.mcEvent c (type - 1)

/-! ## The address map (R472-R474) -/

/-- Ways of a set from its code. -/
def waysOf (code : Nat) : Nat := if code = 0 then 0 else 2 ^ (code - 1)

/-- The channel capacity in bytes (R466). -/
def capBytes (ctrl : Word) : Nat := 2 ^ (28 + ctrl.fget F.MC_MAP_CTRL_CAP)

/-- The channel and the channel-local address of an RLD address, by the sets from entry `k` on (R472). -/
def mapSets (ctrl ch : Word) : List Nat → Nat → Nat → Option (Nat × Nat)
  | [], _, _ => none
  | code :: r, k, o =>
    let w := code - 1
    let ways := waysOf code
    let g := if ctrl.fget F.MC_MAP_CTRL_MODE = 0 then 12 else 8
    if o < ways * capBytes ctrl then
      some ((ch.toNat >>> (3 * (k + o / 2 ^ g % 2 ^ w))) % 8, o / 2 ^ (g + w) * 2 ^ g + o % 2 ^ g)
    else mapSets ctrl ch r (k + ways) (o - ways * capBytes ctrl)

/-- The way codes of the three sets. -/
def mapWays (ctrl : Word) : List Nat :=
  [ctrl.fget F.MC_MAP_CTRL_W0, ctrl.fget F.MC_MAP_CTRL_W1, ctrl.fget F.MC_MAP_CTRL_W2]

/-- The map of an RLD address. -/
def rldMap (ctrl ch : Word) (a : Nat) : Option (Nat × Nat) := mapSets ctrl ch (mapWays ctrl) 0 a

/-- A staged map is valid (R474). -/
def mapValid (ctrl ch : Word) : Bool :=
  let ws := mapWays ctrl
  let n := (ws.map waysOf).sum
  ws.all (fun w => w ≤ 4) && ctrl.fget F.MC_MAP_CTRL_CAP < 3 &&
    (ws.getD 0 0 != 0 || (ws.getD 1 0 == 0 && ws.getD 2 0 == 0)) && (ws.getD 1 0 != 0 || ws.getD 2 0 == 0) &&
    1 ≤ n && n ≤ 8 && ((List.range n).map (fun k => (ch.toNat >>> (3 * k)) % 8)).Nodup

/-- The destination of an RLD request (R298, R472, R473). -/
def State.rldDest (s : State) (e addr len : Nat) : Dest :=
  let m := fun a => rldMap (s.reg R.MC_MAP_CTRL) (s.reg R.MC_MAP_CH) a
  match m addr, m (addr + len) with
  | some (c, l), some (d, k) =>
    if c == d && k == l + len then .endp (0x40 + 4 * c + s.fld (R.NI_CTRL e) F.NI_CTRL_MCPORT) l else .split
  | some _, none => .split
  | none, _ => .none

/-! ## Banks (R475, R476) -/

/-- The line-index bits (R466). -/
def State.lineBits (s : State) : Nat := 22 + min 2 (s.fld R.MC_MAP_CTRL F.MC_MAP_CTRL_CAP)

/-- Parity of a number's low 24 bits. -/
def parity24 (n : Nat) : Bool := (List.range 24).foldl (fun p i => p != n.testBit i) false

/-- The bank of a line (R475). -/
def State.bankOf (s : State) (c line : Nat) : Nat :=
  ((List.range 4).map (fun b =>
    let m := s.reg (R.MC_BANK_MAP c b)
    if line.testBit (m.fget F.MC_BANK_MAP_BASE) != parity24 (line &&& m.fget F.MC_BANK_MAP_XMASK) then 2 ^ b else 0)).sum

/-- The component address of a line: the line index without the four BASE bits (R475). -/
def State.compOf (s : State) (c line : Nat) : Nat :=
  let bases := (List.range 4).map (fun b => (s.reg (R.MC_BANK_MAP c b)).fget F.MC_BANK_MAP_BASE)
  (((List.range 24).filter (fun i => !bases.contains i)).foldl
    (fun p i => (p.1 + (if line.testBit i then p.2 else 0), 2 * p.2)) (0, 1)).1

/-- The bank map is valid (R476). -/
def State.bankValid (s : State) (c : Nat) : Bool :=
  let bases := (List.range 4).map (fun b => (s.reg (R.MC_BANK_MAP c b)).fget F.MC_BANK_MAP_BASE)
  let masks := (List.range 4).map (fun b => (s.reg (R.MC_BANK_MAP c b)).fget F.MC_BANK_MAP_XMASK)
  bases.Nodup && bases.all (fun x => x < s.lineBits && masks.all (fun m => !m.testBit x)) &&
    masks.all (fun m => m < 2 ^ s.lineBits)

/-- Every field of R467 lies in its range, and tRC lasts 5 to 20 ns (R470). -/
def State.timingValid (s : State) (c : Nat) : Bool :=
  let f := s.mcMhz c
  5 * f ≤ 1000 * s.tRC c && 1000 * s.tRC c ≤ 20 * f && 4 ≤ s.tRL c && s.tRL c ≤ 32 && 4 ≤ s.tWL c && s.tWL c ≤ 33 &&
    s.tRTW c ≤ 15 && s.tWTR c ≤ 15 && 8 ≤ s.tPAR c && s.tPAR c ≤ 128 && 8 ≤ s.tPARREC c && 8 ≤ s.tCKESR c &&
    100 ≤ s.tREFI c && s.tREFI c ≤ 3900 && 50 ≤ s.tXS c && s.tXS c ≤ 1000

/-! ## Stored words (R471, R488-R493) -/

/-- The key of a word: channel, line, word. -/
def rldKey (c line w : Nat) : Nat := (c * 2 ^ 24 + line) * 8 + w

def State.rldLoss (s : State) (c : Nat) : Nat := Tbl.get (fun _ => 0) s.rld.loss c

/-- A stored word: written, zero where the initialiser wrote it, else free bits (R491). -/
def State.rldWord (s : State) (c line w : Nat) : BmWord :=
  match Tbl.get (fun _ => none) s.rld.words (rldKey c line w) with
  | some x => x
  | none => if s.rld.zero.has c then ⟨0, true, []⟩ else ⟨Config.freeRld (s.rldLoss c) (rldKey c line w), false, []⟩

/-- Store a word. -/
def State.setRldWord (s : State) (c line w : Nat) (x : BmWord) : State :=
  { s with rld := { s.rld with words := Tbl.set (fun _ => none) s.rld.words (rldKey c line w) (some x) } }

/-- A channel's written words forgotten. -/
def State.rldDrop (s : State) (c : Nat) (zero : Bool) : State :=
  { s with rld := { words := s.rld.words.filter (fun p => p.1 / 2 ^ 27 != c)
                    loss := if zero then s.rld.loss else Tbl.set (fun _ => 0) s.rld.loss c (s.rldLoss c + 1)
                    zero := NSet.put s.rld.zero c zero } }

/-- Upsets of a line's stored bits. -/
def State.rldUpset (s : State) (c line : Nat) (upset : List Nat) : State :=
  s.forEach upset (fun t i =>
    let w := i / 72 % 8
    let x := t.rldWord c line w
    t.setRldWord c line w { x with flips := NSet.put x.flips (i % 72) (!x.flips.has (i % 72)) })

/-- What the decoder gives of a word: 64 bits and 0 good, 1 corrected, 2 double-bit error. -/
def State.rldRead (s : State) (c line w : Nat) : BitVec 64 × Nat :=
  let r := (s.rldWord c line w).read true 2
  (r.1.setWidth 64, if r.2.2 then 2 else if r.2.1 then 1 else 0)

/-- The bytes of a 64-bit word, lowest first. -/
def bytes64 (d : BitVec 64) : List Byte := leBytes 8 d.toNat

/-- Write one word of a line: `off` and `bytes` as the entry has them, `poison` as they arrived (R489, R490). -/
def State.rldWrite (s : State) (c line w off : Nat) (bytes : List Byte) (poison : Bool) : State :=
  let lo := 8 * w
  let touch := fun i => off ≤ lo + i && lo + i < off + bytes.length
  if !(List.range 8).any touch then s
  else
    let full := (List.range 8).all touch
    let old := s.rldRead c line w
    let d := (List.range 8).map (fun i =>
      if touch i then bytes.getD (lo + i - off) 0 else (bytes64 old.1).getD i 0)
    let bad := poison || (!full && old.2 == 2)
    let t := s.setRldWord c line w ⟨BitVec.ofNat 72 (leNat d), true, if bad then [64, 65] else []⟩
    let u := t.when (!full && old.2 == 1) (fun t => t.mcMemory c 1 w line)
    u.when bad (fun u => u.mcMemory c 3 w line)

/-- A write covers only part of some 8-byte word (R489). -/
def McEnt.partialWrite (e : McEnt) : Bool := e.write && (e.off % 8 != 0 || (e.off + e.bytes.length) % 8 != 0)

/-- Perform a read or write command on the stored words. A read's data are held until they return. -/
def State.mcPerform (s : State) (c : Nat) (e : McEnt) (slot : Nat) : State :=
  if e.write then s.forEach (List.range 8) (fun t w => t.rldWrite c e.line w e.off e.bytes e.poison)
  else
    let m := s.mcOf c
    s.setMc c { m with reads := m.reads ++ [⟨e, slot, (List.range 8).map (fun w => s.rldRead c e.line w)⟩] }

/-! ## States (R468) -/

/-- The channel reaches READY; a freeze that waits takes effect (R498). -/
def State.mcReady (s : State) (c : Nat) : State :=
  let m := s.mcOf c
  if m.want || m.wantHalt then
    let t := s.setMcState c 8
    (t.setMc c { t.mcOf c with want := false, wantHalt := false, halt := m.wantHalt }).mcEvent c 10
  else s.setMcState c 3

/-- A condition of R498: FROZEN from READY, else when the channel next reaches READY. -/
def State.mcFreeze (s : State) (c : Nat) (halt : Bool) : State :=
  let m := s.mcOf c
  let t := s.setMc c (if halt then { m with wantHalt := true } else { m with want := true })
  if s.mcState c = 3 then t.mcReady c else t

/-- The end of a freeze: READY, where a halt that asks for a freeze of its own takes effect. -/
def State.mcThaw (s : State) (c : Nat) : State :=
  if s.mcState c = 8 then (s.setMc c { s.mcOf c with halt := false, want := false }).mcReady c else s

/-- A DE or UE record (`b`) freezes a channel with FRZ_UE (R498). -/
def State.mcFreezeUe (s : State) (c : Nat) (b : Bool) : State :=
  s.when (b && s.flag (R.MC_CTRL c) F.MC_CTRL_FRZ_UE && s.mcState c != 8) (fun t => t.mcFreeze c false)

/-- Every request outstanding at a channel is answered DISABLED (R469, R496). -/
def State.mcAnswerAll (s : State) (c : Nat) : State :=
  let m := s.mcOf c
  (s.setMc c { m with reqs := [] }).forEach m.reqs (fun t r => t.turnAway (0x40 + 4 * c + r.port) r.pkt 7)

/-- The queues, the buffer and every condition of a channel forgotten. -/
def State.mcAbandon (s : State) (c : Nat) : State :=
  let m := s.mcOf c
  (s.mcAnswerAll c).setMc c { Mc.empty with slot := m.slot, fresh := m.fresh }

/-- The channel enters FAILED (R468, R471, R496). -/
def State.mcFail (s : State) (c code : Nat) : State :=
  ((((s.setMcState c 9).mcAbandon c).rldDrop c false).mcRecord c code 2 0).mcEvent c 4

/-! ## Time -/

/-- Refreshes fall due in these states: STOPPED, READY, SR_ENTRY, INIT, FROZEN. -/
def mcRefreshes (st : Nat) : Bool := st == 2 || st == 3 || st == 4 || st == 7 || st == 8

/-- One more refresh owed, by the next bank in rotation (R484). -/
def Mc.owe (m : Mc) : Mc :=
  { m with owed := Tbl.set (fun _ => 0) m.owed m.rot (Tbl.get (fun _ => 0) m.owed m.rot + 1), rot := (m.rot + 1) % 16 }

/-- Let `k` command slots pass: refreshes fall due, buckets fill, the retry buffer forgets commands older than tPAR. -/
def State.mcPass (s : State) (c k : Nat) : State :=
  let m := s.mcOf c
  let f := s.mcMhz c
  let per := max 1 (s.tREFI c * f)
  let acc := if mcRefreshes (s.mcState c) then
    m.acc + 4000 * k * (if s.flag (R.MC_CTRL c) F.MC_CTRL_REF_2X then 2 else 1) else m.acc
  let m1 := (List.range (acc / per)).foldl (fun m _ => m.owe) { m with acc := acc % per, slot := m.slot + k }
  let spent := (List.range 4).foldl (fun t p =>
    let rate := (s.reg (R.MC_PORT_QOS c p)).toNat / 2 ^ 16 % 256
    Tbl.set (fun _ => 0) t p (Tbl.get (fun _ => 0) t p - 25 * rate * k)) m1.spent
  s.setMc c { m1 with spent := spent
                      buf := if m1.alert then m1.buf else m1.buf.filter (fun b => m1.slot < b.1 + slotsOf (s.tPAR c)) }

/-- Let slots pass until a given slot. -/
def State.mcPassTo (s : State) (c slot : Nat) : State := s.mcPass c (slot - (s.mcOf c).slot)

/-- The age of a request in nanoseconds (R477). -/
def State.mcAge (s : State) (c slot : Nat) : Nat := ((s.mcOf c).slot - slot) * 4000 / s.mcMhz c

/-- A request completes at its age: MAXLAT, and LATE where it exceeds T (R479). -/
def State.mcAged (s : State) (c port slot : Nat) : State :=
  let age := s.mcAge c slot
  let tgt := (s.reg (R.MC_PORT_QOS c port)).toNat % 1024
  let late := tgt != 0 && 4 * tgt * s.mcMhz c < ((s.mcOf c).slot - slot) * 4000
  let t := s.setReg (R.MC_PORT_MAXLAT c port) (BitVec.ofNat 32 (max age (s.reg (R.MC_PORT_MAXLAT c port)).toNat))
  t.when late (fun t => (t.count (R.MC_PORT_LATE c port) F.MC_PORT_LATE_VALUE 1).mcEvent c 9)

/-! ## Requests (R469, R480, R499) -/

/-- The first and the last line of a request. -/
def McReq.first (r : McReq) : Nat := r.pkt.loc / 64
def McReq.lines (r : McReq) : Nat := (r.pkt.loc + r.pkt.len) / 64 + 1 - r.pkt.loc / 64

/-- A line lies in a retired page (R499). -/
def State.retired (s : State) (c line : Nat) : Bool :=
  (List.range 64).any (fun k => s.flag (R.MC_RETIRE c k) F.MC_RETIRE_V && s.fld (R.MC_RETIRE c k) F.MC_RETIRE_PAGE == line / 64)

/-- The queue entry of the request's line number `i`. -/
def State.mcEntry (s : State) (c : Nat) (r : McReq) (i : Nat) : McEnt :=
  let line := r.first + i
  let lo := max r.pkt.loc (64 * line)
  let hi := min (r.pkt.loc + r.pkt.len + 1) (64 * line + 64)
  let write := r.pkt.cmd != cmdRd
  { req := r.id, port := r.port, slot := r.slot, bank := s.bankOf c line, line := line, write := write
    off := lo - 64 * line, bytes := if write then sliceBytes r.pkt.data (lo - r.pkt.loc) (hi - lo) else []
    poison := r.pkt.poison }

/-- Place the lines of a request while their queues have room (R480). -/
def State.mcPlace (s : State) (c id : Nat) : Nat → State
  | 0 => s
  | k + 1 =>
    let m := s.mcOf c
    match m.reqs.find? (fun r => r.id == id) with
    | none => s
    | some r =>
      let e := s.mcEntry c r r.next
      if r.lines ≤ r.next || 64 ≤ (m.q.filter (fun x => x.bank == e.bank)).length then s
      else
        let rs := m.reqs.map (fun x => if x.id == id then { x with next := x.next + 1 } else x)
        State.mcPlace (s.setMc c { m with q := m.q ++ [e], reqs := rs, arrived := NSet.add m.arrived e.bank }) c id k

/-- Remove a request. -/
def State.mcForget (s : State) (c id : Nat) : State :=
  let m := s.mcOf c
  s.setMc c { m with reqs := m.reqs.filter (fun r => r.id != id) }

/-- A request reaches a port of a channel that admits it (R469, R487). -/
def State.mcArrive (s : State) (c port : Nat) (p : Packet) : State :=
  let m := s.mcOf c
  let t := s.setMc c { m with reqs := m.reqs ++ [⟨m.fresh, port, p, m.slot, 0, [], false⟩], fresh := m.fresh + 1 }
  if s.mcState c = 4 then (t.mcReady c).count (R.MC_SR_ABORT c) F.MC_SR_ABORT_COUNT 1 else t

/-- The request of a port that is next to be placed: requests of a port are admitted in arrival order (R480). -/
def State.mcHead (s : State) (c port : Nat) : Option McReq :=
  (s.mcOf c).reqs.find? (fun r => r.port == port && r.next < r.lines)

/-- A port admits its next request (R480, R499): a retired page turns it away; a write completes with its last line in its
queue. -/
def State.mcAdmit (s : State) (c port : Nat) : State :=
  match s.mcHead c port with
  | none => s
  | some r =>
    let e := 0x40 + 4 * c + port
    if r.next = 0 && (List.range r.lines).any (fun i => s.retired c (r.first + i)) then
      ((s.mcForget c r.id).turnAway e r.pkt 7).count (R.MC_RETIRED_HIT c) F.MC_RETIRED_HIT_COUNT 1
    else
      let t := s.mcPlace c r.id r.lines
      let done := (t.mcOf c).reqs.any (fun x => x.id == r.id && x.lines ≤ x.next)
      if done && r.pkt.cmd != cmdRd then
        let u := (t.mcForget c r.id).mcAged c port r.slot
        if r.pkt.vn = 2 then u else u.respond e r.pkt 0 []
      else t

/-! ## Scheduling (R477, R478, R481, R482) -/

/-- The tokens of a port's bucket: a line may go while one is left; in units of 1 / (4 f) token. -/
def State.overBudget (s : State) (c port : Nat) : Bool :=
  let q := (s.reg (R.MC_PORT_QOS c port)).toNat
  q / 2 ^ 16 % 256 != 0 &&
    (max 1 (q / 2 ^ 24) - 1) * (4 * s.mcMhz c) < Tbl.get (fun _ => 0) (s.mcOf c).spent port

/-- The effective urgency of a line plus 1: 0 over budget, 1 to 4 for urgency 0 to 3 (R477, R478). -/
def State.urgency (s : State) (c : Nat) (e : McEnt) : Nat :=
  let tgt := 4 * ((s.reg (R.MC_PORT_QOS c e.port)).toNat % 1024) * s.mcMhz c
  let age := ((s.mcOf c).slot - e.slot) * 4000
  if s.overBudget c e.port then 0
  else if tgt = 0 || 2 * age < tgt then 1 else if 4 * age < 3 * tgt then 2 else if age < tgt then 3 else 4

/-- The entries of a bank that no older entry conflicts with, oldest first (R481). -/
def eligible : List McEnt → List McEnt → List McEnt
  | _, [] => []
  | older, e :: r =>
    (if older.any (fun o => o.line == e.line && (o.write || e.write)) then [] else [e]) ++ eligible (older ++ [e]) r

/-- The best of a list by a rank, the first among equals. -/
def bestBy {α : Type} (rank : α → Nat) : List α → Option α
  | [] => none
  | a :: r => match bestBy rank r with
    | none => some a
    | some b => if rank a < rank b then some b else some a

/-- The pick of a bank (R481). -/
def State.pick (s : State) (c bank : Nat) : Option McEnt :=
  let m := s.mcOf c
  let last := Tbl.get (fun _ => 3) m.lastPort bank
  bestBy (fun e => 4 * s.urgency c e + (3 - (e.port + 3 - last % 4) % 4))
    (eligible [] (m.q.filter (fun e => e.bank == bank)))

/-- A bank's tRC has elapsed. -/
def Mc.bankFree (m : Mc) (bank : Nat) : Bool := Tbl.get (fun _ => 0) m.free bank ≤ m.slot

/-- The gap of a change of direction has passed (R467, R482). -/
def State.gapPassed (s : State) (c : Nat) (write : Bool) : Bool :=
  let m := s.mcOf c
  if write then m.rdAt == 0 || s.tRL c + 4 + s.tRTW c ≤ 4 * (m.slot + 1 - m.rdAt) + s.tWL c
  else m.wrAt == 0 || s.tWL c + 4 + s.tWTR c ≤ 4 * (m.slot + 1 - m.wrAt)

/-- The winner of a command slot among the picks (R482). -/
def State.winner (s : State) (c : Nat) : Option McEnt :=
  let m := s.mcOf c
  let limit := max 1 (s.fld (R.MC_CFG c) F.MC_CFG_DIR_MAX)
  let same := fun (e : McEnt) => m.dir == some e.write && m.run < limit
  bestBy (fun e => 32 * s.urgency c e + (if same e then 16 else 0) + (15 - (e.bank + 15 - m.lastBank % 16) % 16))
    ((List.range 16).filterMap (fun b => if m.bankFree b then s.pick c b else none))

/-- Maintenance defers refreshes: EN and no window open, in READY only (R484, R485). -/
def State.mcDefers (s : State) (c : Nat) : Bool :=
  s.mcState c == 3 && s.flag (R.MC_MAINT c) F.MC_MAINT_EN && !s.flag (R.MC_MAINT c) F.MC_MAINT_OPEN

/-- The bank to refresh in a slot, and whether the refresh is forced (R482, R484); ties in rotation. -/
def State.refreshPick (s : State) (c : Nat) : Option (Nat × Bool) :=
  let m := s.mcOf c
  let order := (List.range 16).map (fun i => (m.rot + i) % 16)
  let owes := fun b => Tbl.get (fun _ => 0) m.owed b
  let forced := order.find? (fun b => s.mcDefers c && 8 ≤ owes b && m.bankFree b)
  match forced with
  | some b => some (b, true)
  | none => (order.find? (fun b => 1 ≤ owes b && m.bankFree b &&
      (!s.mcDefers c || (eligible [] (m.q.filter (fun e => e.bank == b))).isEmpty))).map (fun b => (b, false))

/-- Occupy a bank for a number of channel-clock cycles. -/
def Mc.occupy (m : Mc) (bank tck : Nat) : Mc :=
  { m with free := Tbl.set (fun _ => 0) m.free bank (m.slot + max 1 (slotsOf tck)) }

/-- A refresh command (R484). -/
def State.issueRefresh (s : State) (c bank : Nat) (forced : Bool) : State :=
  let m := (s.mcOf c).occupy bank (s.tRC c)
  let t := s.setMc c { m with owed := Tbl.set (fun _ => 0) m.owed bank (Tbl.get (fun _ => 0) m.owed bank - 1)
                              buf := m.buf ++ [(m.slot, .refresh bank)] }
  t.when forced (fun t => (t.count (R.MC_REF_FORCED c) F.MC_REF_FORCED_COUNT 1).mcEvent c 5)

/-- A command poisons a word, and so logs a UE record (R490). -/
def State.mcBadWords (s : State) (c : Nat) (e : McEnt) : Bool :=
  e.write && (e.poison || ((List.range 8).any (fun w =>
    let touch := fun i => e.off ≤ 8 * w + i && 8 * w + i < e.off + e.bytes.length
    (List.range 8).any touch && !(List.range 8).all touch && (s.rldRead c e.line w).2 == 2)))

/-- A read or write command (R478, R480, R482, R489). -/
def State.issueEntry (s : State) (c : Nat) (e : McEnt) : State :=
  let m := s.mcOf c
  let m1 := m.occupy e.bank (if e.partialWrite then 2 * s.tRC c + s.tRL c + 4 else s.tRC c)
  let rate := (s.reg (R.MC_PORT_QOS c e.port)).toNat / 2 ^ 16 % 256
  let spent := if rate = 0 then m.spent
    else Tbl.set (fun _ => 0) m.spent e.port (Tbl.get (fun _ => 0) m.spent e.port + 4 * s.mcMhz c)
  let t := s.setMc c { m1 with q := m.q.erase e, buf := m.buf ++ [(m.slot, .access e)], spent := spent
                               lastPort := Tbl.set (fun _ => 3) m.lastPort e.bank e.port, lastBank := e.bank
                               dir := some e.write, run := if m.dir = some e.write then m.run + 1 else 1
                               rdAt := if e.write then m.rdAt else m.slot + 1
                               wrAt := if e.write then m.slot + 1 else m.wrAt }
  (t.mcPerform c e m.slot).mcFreezeUe c (s.mcBadWords c e)

end Sys2Proof.Machine
end

