-- ==== Sys2Proof/Machine/McCmds.lean ====
section
/-! DEFINITION. McCmds.lean: the events of the RLD channels and what their register writes start (14_rld_controller.md). -/

namespace Sys2Proof.Machine

/-! ## Requests and commands -/

/-- MC_REQUEST_ADMIT (R480): in READY, and in SR_ENTRY for requests that came before it. -/
def execMcRequestAdmit (c : Fin 8) (port : Fin 4) (s : State) : Host.Outcome State Fault Refusal :=
  .next (if s.mcState c = 3 || s.mcState c = 4 then s.mcAdmit c port else s)

/-- The data command of a slot (R482): the winner, once its gap of direction has passed. -/
def State.issueData (s : State) (c : Nat) (upset : List Nat) : State :=
  match s.winner c with
  | none => s
  | some e =>
    if s.gapPassed c e.write then (s.when (!e.write || e.partialWrite) (fun t => t.rldUpset c e.line upset)).issueEntry c e
    else s

/-- MC_COMMAND_ISSUE (R482, R484, R495, R498): one command slot passes; `upset` are stored bits of the line accessed that
have inverted since. -/
def execMcCommandIssue (c : Fin 8) (upset : List (Fin 576)) (s : State) : Host.Outcome State Fault Refusal :=
  let st := s.mcState c
  let t :=
    if !mcRefreshes st || (s.mcOf c).alert || !s.bit R.CLK_MC_LOST (8 + c) then s
    else match s.refreshPick c with
      | some (b, forced) => s.issueRefresh c b forced
      | none => if st = 3 || st = 4 then s.issueData c (upset.map (fun i => i.val)) else s
  .next (t.mcPass c 1)

/-- A read's line reaches its request (R480, R488): only the words that hold bytes of the request are checked. -/
def State.mcDeliver (s : State) (c : Nat) (rd : McRead) : State :=
  let m := s.mcOf c
  match m.reqs.find? (fun r => r.id == rd.ent.req) with
  | none => s
  | some r =>
    let lo := r.pkt.loc
    let hi := r.pkt.loc + r.pkt.len
    let ws := ((List.range 8).zip rd.words).filter (fun p =>
      lo ≤ 64 * rd.ent.line + 8 * p.1 + 7 && 64 * rd.ent.line + 8 * p.1 ≤ hi)
    let bad := ws.any (fun p => p.2.2 == 2)
    let got := Tbl.set (fun _ => []) r.got (rd.ent.line - r.first) (rd.words.flatMap (fun w => bytes64 w.1))
    let r' : McReq := { r with got := got, bad := r.bad || bad }
    let t := s.setMc c { m with reqs := m.reqs.map (fun x => if x.id == r.id then r' else x) }
    let u := (t.forEach ws (fun t p => if p.2.2 = 0 then t else t.mcMemory c p.2.2 p.1 rd.ent.line)).mcFreezeUe c bad
    if got.length < r.lines then u
    else
      let e := 0x40 + 4 * c + r.port
      ((u.mcForget c r.id).mcAged c r.port r.slot).respond e r.pkt (if r'.bad then 6 else 0)
        ((got.flatMap (fun p => p.2)).drop (r.pkt.loc % 64))

/-- MC_READ_COMPLETE (R467, R488, R495): the data of the oldest read return. After an alert the reads in the retry buffer
wait for the replay. -/
def execMcReadComplete (c : Fin 8) (s : State) : Host.Outcome State Fault Refusal :=
  let m := s.mcOf c
  .next (match m.reads with
    | [] => s
    | rd :: r =>
      if m.alert && m.buf.any (fun b => b.2 == .access rd.ent) then s
      else
        let t := s.mcPassTo c (rd.slot + slotsOf (s.tRL c + 4))
        (t.setMc c { t.mcOf c with reads := r }).mcDeliver c rd)

/-- MC_PARITY_ALERT (R494-R496): ALERT_N falls for a command in the retry buffer. -/
def execMcParityAlert (c : Fin 8) (s : State) : Host.Outcome State Fault Refusal :=
  let m := s.mcOf c
  .next (if !s.flag (R.MC_CFG c) F.MC_CFG_PAR_EN || m.buf.isEmpty then s
    else
      let n := m.alerts + 1
      let t := ((s.count (R.MC_ALERT_CNT c) F.MC_ALERT_CNT_COUNT 1).mcRecord c 1 0 n).mcEvent c 3
      if max 1 (s.fld (R.MC_CFG c) F.MC_CFG_MAX_RETRY) ≤ n then t.mcFail c 2
      else t.setMc c { m with alert := true, alerts := n })

/-- Reissue one command of the retry buffer (R495): a read whose data were discarded reads again. -/
def State.mcReissue (s : State) (c : Nat) (cmd : McCmd) : State :=
  let m := s.mcOf c
  match cmd with
  | .refresh _ => s
  | .access e =>
    if e.write then s.mcPerform c e m.slot
    else if m.reads.any (fun r => r.ent == e) then
      (s.setMc c { m with reads := m.reads.filter (fun r => r.ent != e) }).mcPerform c e m.slot
    else s

/-- MC_REPLAY (R495): ALERT_N is high and tPAR_REC has passed; every command in the buffer is reissued in order. -/
def execMcReplay (c : Fin 8) (s : State) : Host.Outcome State Fault Refusal :=
  let m := s.mcOf c
  .next (if !m.alert then s
    else
      let t := s.mcPass c (slotsOf (s.tPARREC c))
      let u := t.forEach (m.buf.map (fun b => b.2)) (fun t cmd => (t.mcReissue c cmd).mcPass c 1)
      let x := u.mcOf c
      u.setMc c { x with alert := false, alerts := 0
                         buf := ((List.range m.buf.length).zip m.buf).map (fun p =>
                           (x.slot - m.buf.length + p.1, p.2.2)) })

/-! ## States -/

/-- MC_QUEUES_DRAINED (R468, R469): EN is 0 and the bank queues are empty. -/
def execMcQueuesDrained (c : Fin 8) (s : State) : Host.Outcome State Fault Refusal :=
  let m := s.mcOf c
  .next (if s.mcState c = 3 && !s.flag (R.MC_CTRL c) F.MC_CTRL_EN && m.q.isEmpty && m.reads.isEmpty then
      (s.setMcState c 2).mcAnswerAll c
    else s)

/-- MC_IDLE_TIMEOUT (R486). -/
def execMcIdleTimeout (c : Fin 8) (s : State) : Host.Outcome State Fault Refusal :=
  .next (if s.mcState c = 3 && s.fld (R.MC_SR_CTRL c) F.MC_SR_CTRL_IDLE != 0 && (s.mcOf c).reqs.isEmpty then s.setMcState c 4
    else s)

/-- MC_SELF_REFRESH_ENTRY (R486): the queued lines are done and no refresh is owed. -/
def execMcSelfRefreshEntry (c : Fin 8) (s : State) : Host.Outcome State Fault Refusal :=
  let m := s.mcOf c
  .next (if s.mcState c = 4 && m.q.isEmpty && m.reads.isEmpty && m.reqs.isEmpty && m.owed.isEmpty && !m.alert then
      (s.setMc c { m with srAt := m.slot }).setMcState c 5 |>.mcEvent c 6
    else s)

/-- MC_SR_EXIT_START (R468, R487): a request waits, or EN was written 0; tCKESR passes first. -/
def execMcSrExitStart (c : Fin 8) (s : State) : Host.Outcome State Fault Refusal :=
  let m := s.mcOf c
  .next (if s.mcState c = 5 && (!m.reqs.isEmpty || !s.flag (R.MC_CTRL c) F.MC_CTRL_EN) then
      (s.mcPassTo c (m.srAt + slotsOf (s.tCKESR c))).setMcState c 6
    else s)

/-- MC_SR_EXIT_DONE (R468, R486, R487): tXS passes; owed refreshes are cleared. -/
def execMcSrExitDone (c : Fin 8) (s : State) : Host.Outcome State Fault Refusal :=
  .next (if s.mcState c = 6 then
      let t := s.mcPass c ((s.tXS c * s.mcMhz c + 3999) / 4000)
      ((t.setMc c { t.mcOf c with owed := [], acc := 0 }).mcReady c).mcEvent c 7
    else s)

/-- MC_INIT_DONE (R493): every line is written with zeros. -/
def execMcInitDone (c : Fin 8) (s : State) : Host.Outcome State Fault Refusal :=
  .next (if s.mcState c = 7 then ((s.rldDrop c true).mcReady c).mcEvent c 8 else s)

/-! ## Register writes -/

/-- A channel in self-refresh or on its way there is wanted in READY (R468, R487). -/
def State.mcWake (s : State) (c : Nat) : State :=
  if s.mcState c = 4 then (s.mcReady c).count (R.MC_SR_ABORT c) F.MC_SR_ABORT_COUNT 1 else s

/-- EN refused (R470). -/
def State.mcEnReject (s : State) (c : Nat) : State :=
  ((s.setFlag (R.MC_CTRL c) F.MC_CTRL_EN false).setFlag (R.MC_STAT c) F.MC_STAT_EN_REJ true).mcRecord c 9 0 0

/-- A write of MC_CTRL (R468, R470, R493, R498); `old` is the state before it. -/
def State.mcCtrl (s old : State) (c : Nat) (v : Word) : State :=
  let was := old.flag (R.MC_CTRL c) F.MC_CTRL_EN
  let st := old.mcState c
  let s1 :=
    if v.getLsbD 0 then
      if st = 2 then (if s.bankValid c && s.timingValid c then s.mcReady c else s.mcEnReject c)
      else if was then s else s.mcEnReject c
    else if was then s.mcWake c else s
  let s2 := s1.when (v.getLsbD 7 && st == 3) (fun t => t.setMcState c 7)
  let s3 := s2.when (v.getLsbD 6 && st == 3 && !v.getLsbD 7) (fun t => t.mcFreeze c false)
  s3.when (v.getLsbD 5) (fun t => t.mcThaw c)

/-- A write of MC_SR_CTRL (R468, R486). -/
def State.mcSrCtrl (s : State) (c : Nat) (v : Word) : State :=
  let t := s.when (v.getLsbD 31 && s.mcState c == 3) (fun t => t.setMcState c 4)
  t.when (v.getLsbD 30 && s.mcState c == 5) (fun t => t.setMcState c 6)

/-- A write of MC_MAP_CTRL with APPLY (R474). -/
def State.mcMapApply (s : State) : State :=
  if mapValid (s.staged R.MC_MAP_CTRL) (s.staged R.MC_MAP_CH) then (s.applyReg R.MC_MAP_CTRL).applyReg R.MC_MAP_CH
  else (s.setFlag (R.MC_STAT 0) F.MC_STAT_MAP_REJ true).mcRecord 0 7 0 0

/-- The enable field of the LOCKED fields (14: MC_ registers). -/
def State.mcOpen (s : State) (c : Nat) : Bool := !s.flag (R.MC_CTRL c) F.MC_CTRL_EN

/-- An ignored LOCKED write (R24, R500). -/
def State.mcLocked (s : State) (c loc : Nat) : State :=
  (s.setFlag (R.MC_STAT c) F.MC_STAT_LOCKED_WR true).mcRecord c 6 0 loc

/-- Reserved bits of MC_PORT_QOS. -/
def mcMask (loc : Nat) (v : Word) : Word := if 0x80 ≤ loc && loc < 0xC0 && loc % 16 == 0 then v &&& 0xFFFF03FF else v

/-- What a register write in a channel's window does beside storing its fields. -/
def State.mcAct (s old : State) (c loc : Nat) (v : Word) : State :=
  if loc = 0 then s.mcCtrl old c v
  else if loc = 0x40 then s.mcSrCtrl c v
  else if loc = 0x7000 && c = 0 && v.getLsbD 0 then s.mcMapApply
  else if loc = 0x74 then
    ((s.settle (404 + 4 * c) (!old.mcLevel c 0 && s.mcLevel c 0)).settle (406 + 4 * c) (!old.mcLevel c 2 && s.mcLevel c 2)).settle
      (407 + 4 * c) (!old.mcLevel c 3 && s.mcLevel c 3)
  else s

/-- Registers of a channel's window whose value follows from other state. -/
def State.mcPeek (s : State) (c loc : Nat) : Option Word :=
  let m := s.mcOf c
  if loc = 4 then some ((s.reg (R.MC_STAT c)).fput F.MC_STAT_OUTSTANDING m.q.length)
  else if 0x100 ≤ loc && loc < 0x140 then
    some (BitVec.ofNat 32 (m.q.filter (fun e => e.bank == (loc - 0x100) / 4)).length)
  else none

end Sys2Proof.Machine
end

