-- ==== Sys2Proof/Machine/Mt.lean ====
section
/-! DEFINITION. Mt.lean: the training helpers of the RLD channels (15_rld_training.md). What the interface itself does in a run
(which bits pass at which delay) comes with the command. -/

namespace Sys2Proof.Machine

/-! ## Events and records -/

/-- Source 405 + 4c. -/
def State.mtLevel (s : State) (c : Nat) : Bool := (s.reg (R.MT_INT_STAT c) &&& s.reg (R.MT_INT_EN c)) != 0

/-- Set an event bit of MT_INT_STAT: 0 RUN_DONE, 1 TRAIN_FAIL, 2 PR_DONE, 3 PR_NOSET, 4 PR_REJ, 5 COMMITTED. -/
def State.mtEvent (s : State) (c bit : Nat) : State :=
  let t := s.setBit (R.MT_INT_STAT c) bit true
  t.settle (405 + 4 * c) (t.mtLevel c)

/-- A record of training (R506, R512-R515). -/
def State.mtRecord (s : State) (c code sev detail : Nat) : State :=
  s.report c ⟨405 + 4 * c, sev, if code = 0x16 then 0x18 else 0x15, code * 2 ^ 24 + detail % 2 ^ 24⟩

/-! ## The delay sets (R504, R505) -/

/-- Exchange two registers. -/
def State.swapRegs (s : State) (a b : Nat) : State := (s.setReg a (s.reg b)).setReg b (s.reg a)

/-- The register pairs of the sets: active, shadow. -/
def mtPairs (c : Nat) : List (Nat × Nat) :=
  (List.range 72).map (fun k => (R.MT_ACT_DQ c k, R.MT_SHD_DQ c k)) ++
    (List.range 2).map (fun m => (R.MT_ACT_CMP c m, R.MT_SHD_CMP c m))

/-- A commit exchanges the sets as a whole (R505). -/
def State.mtExchange (s : State) (c : Nat) : State :=
  (s.forEach (mtPairs c) (fun t p => t.swapRegs p.1 p.2)).mtEvent c 5

/-- The shadow set loaded from the active set. -/
def State.mtReload (s : State) (c : Nat) : State := s.forEach (mtPairs c) (fun t p => t.setReg p.2 (t.reg p.1))

/-- COMMIT written (R505, R515). -/
def State.mtCommit (s : State) (c : Nat) : State :=
  let st := s.mcState c
  let p := s.fld (R.MT_PR_STAT c) F.MT_PR_STAT_STATE
  if (st = 1 || st = 2 || st = 3) && p != 1 && p != 2 then
    let t := s.setMc c { s.mcOf c with commit := true }
    if p = 3 then t.setFld (R.MT_PR_STAT c) F.MT_PR_STAT_STATE 0 else t
  else s.setFlag (R.MT_STAT c) F.MT_STAT_COMMIT_REJ true

/-- MT_COMMIT_DONE (R505): the command-slot boundary of a commit; in a state that takes no commit it is ignored. -/
def execMtCommitDone (c : Fin 8) (s : State) : Host.Outcome State Fault Refusal :=
  let m := s.mcOf c
  let st := s.mcState c
  .next (if !m.commit then s
    else
      let t := s.setMc c { m with commit := false }
      if st = 1 || st = 2 || st = 3 then t.mtExchange c else t.setFlag (R.MT_STAT c) F.MT_STAT_COMMIT_REJ true)

/-! ## Windows (R510) -/

/-- The values of a sweep from `lo` to `hi`. -/
def sweepValues (lo hi step : Nat) : List Nat := ((List.range 128).map (fun i => lo + i * max 1 step)).filter (fun v => v ≤ hi)

/-- The longest run of consecutive passing values, the lower of two as long: its first and last value. -/
def longestRun (pass : Nat → Bool) : List Nat → Option (Nat × Nat × Nat) → Option (Nat × Nat × Nat) → Option (Nat × Nat)
  | [], _, best => best.map (fun b => (b.1, b.2.1))
  | v :: r, cur, best =>
    if pass v then
      let cur' : Nat × Nat × Nat := match cur with | none => (v, v, 1) | some c => (c.1, v, c.2.2 + 1)
      let best' := match best with
        | none => some cur'
        | some b => if b.2.2 < cur'.2.2 then some cur' else some b
      longestRun pass r (some cur') best'
    else longestRun pass r none best

/-- The window of a bit over a sweep. -/
def window (pass : BitVec 128) (vs : List Nat) : Option (Nat × Nat) := longestRun (fun v => pass.getLsbD v) vs none none

/-- MT_WIN's value for a window. -/
def winWord : Option (Nat × Nat) → Word
  | none => 0x80000000
  | some (l, r) => BitVec.ofNat 32 (r * 2 ^ 16 + l)

/-! ## Training (R512, R513) -/

/-- A channel leaves TRAINING: a run in progress stops with ABORT (R511); the contents are indeterminate (R471). -/
def State.mtLeave (s : State) (c : Nat) : State :=
  let t := if s.flag (R.MT_RUN c) F.MT_RUN_BUSY then
      (s.setFlag (R.MT_RUN c) F.MT_RUN_BUSY false).setFlag (R.MT_STAT c) F.MT_STAT_ABORT true
    else s
  t.rldDrop c false

/-- Training fails (R513): the channel enters FAILED (R501). -/
def State.mtFail (s : State) (c code detail : Nat) : State :=
  (((((s.mtLeave c).setMcState c 9).mcAbandon c).mtRecord c code 2 detail).mtEvent c 1).mcEvent c 4

/-- START written (R512). -/
def State.mtStart (s : State) (c : Nat) : State :=
  let st := s.mcState c
  if (st = 0 || st = 2 || st = 9) && s.bit R.CLK_MC_LOST (8 + c) && 5 ≤ s.fld R.CFG_BOOT_STAT F.CFG_BOOT_STAT_STEP then
    ((s.mcAbandon c).setMcState c 1).rldDrop c false
  else (s.setFlag (R.MT_STAT c) F.MT_STAT_START_REJ true).mtRecord c 0x13 0 st

/-- A write of MT_CTRL: START, END_PASS, END_FAIL, COMMIT in this order. -/
def State.mtCtrl (s : State) (c : Nat) (v : Word) : State :=
  let s1 := s.when (v.getLsbD 31) (fun t => t.mtStart c)
  let s2 := s1.when (v.getLsbD 30 && s1.mcState c == 1) (fun t => ((t.mtExchange c).mtLeave c).setMcState c 2)
  let s3 := s2.when (v.getLsbD 29 && s2.mcState c == 1) (fun t => t.mtFail c 0x11 (v.fget F.MT_CTRL_BIT))
  s3.when (v.getLsbD 28) (fun t => t.mtCommit c)

/-- MT_TRAINING_TIMEOUT (R513): TMO milliseconds in TRAINING; the count holds during a halt. -/
def execMtTrainingTimeout (c : Fin 8) (s : State) : Host.Outcome State Fault Refusal :=
  .next (if s.mcState c = 1 && !s.halted then s.mtFail c 0x12 0 else s)

/-! ## Patterns (R507) -/

/-- The first `n` words of a pattern at bit `k`, in the order of the bursts and of the words in them. -/
def patBits (pat k n : Nat) : List Bool :=
  match pat with
  | 1 => (List.range n).map (fun i => (i % 8 + k) % 2 == 1)
  | 2 => (List.range n).map (fun i => i % 72 == k)
  | _ => (prbsBits 4 n (BitVec.ofNat 31 (k + 1))).1

/-- The raw bits of word `i` of a pattern given by its columns: where a bit is not known to be stored right it is free. -/
def patWord (cols : List (List Bool)) (ok : Nat → Bool) (free : BitVec 72) (i : Nat) : BitVec 72 :=
  BitVec.ofNat 72 ((List.range 72).foldl (fun a k =>
    if (if ok k then (cols.getD k []).getD i false else free.getLsbD k) then a + 2 ^ k else a) 0)

/-- A helper step writes `count` bursts of a pattern to consecutive lines from `line` on, wrapping within its 4 KiB page (R507, R508);
`ok` tells the bits that its comparison found right. -/
def State.helperStore (s : State) (c pat line count : Nat) (ok : Nat → Bool) : State :=
  let cols := (List.range 72).map (fun k => patBits pat k (8 * count))
  let n := min 64 count
  let d := s.draws
  { s.forEach (List.range (8 * n)) (fun t x =>
      let j := x / 8 + 64 * ((count - 1 - x / 8) / 64)
      let free := (Config.freeWord (d + 2 * x)).setWidth 72 <<< 8 ||| (Config.freeWord (d + 2 * x + 1)).setWidth 72
      t.setRldWord c (line / 64 * 64 + (line + x / 8) % 64) (x % 8) ⟨patWord cols ok free (8 * j + x % 8), false, []⟩)
    with draws := d + 16 * n }

/-! ## Runs (R508-R511) -/

/-- START of a run written (R508, R511). -/
def State.mtRun (s : State) (c : Nat) : State :=
  if s.mcState c = 1 && !s.flag (R.MT_RUN c) F.MT_RUN_BUSY then
    (((s.setFlag (R.MT_RUN c) F.MT_RUN_BUSY true).setFlag (R.MT_STAT c) F.MT_STAT_ABORT false).setReg (R.MT_FAIL0 c)
      0).setReg (R.MT_FAIL1 c) 0 |>.setReg (R.MT_FAIL2 c) 0
  else s.setFlag (R.MT_STAT c) F.MT_STAT_RUN_REJ true

/-- The bits of a component that pass: a CA_DLY step passes when all 36 do (R510). -/
def compPass (pass : List (BitVec 128)) (m : Nat) : BitVec 128 :=
  (List.range 36).foldl (fun a i => a &&& pass.getD (36 * m + i) 0) (BitVec.allOnes 128)

/-- MT_RUN_DONE (R508-R511): `fails` are the bits that failed a single step and `errs` the mismatching bits; `given` has for
each bit the delay values that passed a sweep. -/
def execMtRunDone (c : Fin 8) (fails : BitVec 72) (errs : Nat) (given : List (BitVec 128)) (s : State) :
    Host.Outcome State Fault Refusal :=
  .next (if s.mcState c != 1 || !s.flag (R.MT_RUN c) F.MT_RUN_BUSY then s
    else
      let sw := s.reg (R.MT_SWEEP c)
      let vs := sweepValues (sw.fget F.MT_SWEEP_LO) (sw.fget F.MT_SWEEP_HI) (sw.fget F.MT_SWEEP_STEP)
      let sweep := s.flag (R.MT_RUN c) F.MT_RUN_SWEEP
      let tgt := sw.fget F.MT_SWEEP_TARGET
      let op := if sweep && (tgt == 1 || tgt == 2) then 0 else s.fld (R.MT_RUN c) F.MT_RUN_OP
      -- a step that compares nothing passes
      let pass := if op = 2 then List.replicate 72 (BitVec.allOnes 128) else given
      let last := vs.getLastD 0
      let ok := fun k => op != 2 && (if !sweep then !fails.getLsbD k
        else if tgt = 2 then (compPass pass (k / 36)).getLsbD last else (pass.getD k 0).getLsbD last)
      let w := (s.setFlag (R.MT_RUN c) F.MT_RUN_BUSY false)
      let t := w.when (op != 1 && !(sweep && vs.isEmpty)) (fun t =>
        t.helperStore c (s.fld (R.MT_RUN c) F.MT_RUN_PAT) (s.fld (R.MT_LINE c) F.MT_LINE_LINE)
          (max 1 (s.fld (R.MT_RUN c) F.MT_RUN_COUNT)) ok)
      let u :=
        if sweep then
          if tgt = 2 then
            t.forEach (List.range 2) (fun t m => t.setReg (R.MT_WIN c (72 + m)) (winWord (window (compPass pass m) vs)))
          else t.forEach (List.range 72) (fun t k => t.setReg (R.MT_WIN c k) (winWord (window (pass.getD k 0) vs)))
        else if op = 2 then t
        else (((t.setReg (R.MT_FAIL0 c) (fails.setWidth 32)).setReg (R.MT_FAIL1 c) ((fails >>> 32).setWidth 32)).setReg
          (R.MT_FAIL2 c) ((fails >>> 64).setWidth 32 &&& 0xFF)).count (R.MT_ERRCNT c) F.MT_ERRCNT_VALUE errs
      u.mtEvent c 0)

/-! ## Retraining in service (R514-R516) -/

/-- State of the retraining: 0 IDLE, 1 READ, 2 WRITE, 3 PENDING, 4 SUSPENDED. -/
def State.prState (s : State) (c : Nat) : Nat := s.fld (R.MT_PR_STAT c) F.MT_PR_STAT_STATE
def State.setPr (s : State) (c n : Nat) : State := s.setFld (R.MT_PR_STAT c) F.MT_PR_STAT_STATE n

/-- Retraining is enabled. -/
def State.prOn (s : State) (c : Nat) : Bool := s.flag (R.MT_PR_CTRL c) F.MT_PR_CTRL_EN

/-- A valid MC_RETIRE entry names the retraining page (R514). -/
def State.prPage (s : State) (c : Nat) : Bool := s.retired c (64 * s.fld (R.MT_PR_PAGE c) F.MT_PR_PAGE_PAGE)

/-- EN cleared (R515): in READ or WRITE the shadow is reloaded. -/
def State.prStop (s : State) (c : Nat) : State :=
  (s.when (s.prState c == 1 || s.prState c == 2) (fun t => t.mtReload c)).setPr c 0

/-- Retraining refused or stopped: its page is not retired (R514). -/
def State.prReject (s : State) (c : Nat) : State :=
  (((s.setFlag (R.MT_PR_CTRL c) F.MT_PR_CTRL_EN false).setFlag (R.MT_STAT c) F.MT_STAT_PR_REJ true).mtEvent c 4).mtRecord
    c 0x15 0 0

/-- A write of MT_PR_CTRL; `was` is EN before it (R514, R515). -/
def State.prCtrl (s : State) (c : Nat) (was : Bool) (v : Word) : State :=
  if v.getLsbD 31 then (if was || s.prPage c then s else s.prReject c)
  else if was then s.prStop c else s

/-- A MC_RETIRE write that frees the page of a helper in service (R514). -/
def State.prRetire (s : State) (c : Nat) : State :=
  if s.prOn c && !s.prPage c then (s.prStop c).prReject c else s

/-- RETRAIN_PERIOD_EXPIRY (R515). -/
def execRetrainPeriodExpiry (c : Fin 8) (s : State) : Host.Outcome State Fault Refusal :=
  .next (if s.prOn c && s.prState c = 0 && s.mcState c = 3 && !(s.mcOf c).commit then (s.mtReload c).setPr c 1 else s)

/-- The windows of a retraining sweep around the active values (R515). -/
def State.prWindows (s : State) (c : Nat) (f : Fld) (pass : List (BitVec 128)) : List (Option (Nat × Nat)) :=
  let range := s.fld (R.MT_PR_CTRL c) F.MT_PR_CTRL_RANGE
  (List.range 72).map (fun k =>
    let a := s.fld (R.MT_ACT_DQ c k) f
    window (pass.getD k 0) (sweepValues (a - range) (min 127 (a + range)) 1))

/-- A bit finds a setting (R515). -/
def prFinds (minW : Nat) : Option (Nat × Nat) → Bool
  | none => false
  | some (l, r) => minW ≤ r - l

/-- RETRAIN_SWEEP_DONE (R515, R516): the sweep of READ or WRITE has ended; `pass` has the values that passed for each bit.
With WIN at 1 a sweep ends only while the window is open. -/
def execRetrainSweepDone (c : Fin 8) (pass : List (BitVec 128)) (s : State) : Host.Outcome State Fault Refusal :=
  let st := s.prState c
  let open_ := !s.flag (R.MT_PR_CTRL c) F.MT_PR_CTRL_WIN || s.flag (R.MC_MAINT c) F.MC_MAINT_OPEN
  .next (if !s.prOn c || (st != 1 && st != 2) || s.mcState c != 3 || !open_ then s
    else
      let f := if st = 1 then F.MT_ACT_DQ_RDLY else F.MT_ACT_DQ_WDLY
      let ws := s.prWindows c f pass
      let minW := s.fld (R.MT_PR_CTRL c) F.MT_PR_CTRL_MIN_W
      -- the read sweep writes with the active delays: a value that passes shows its bit stored right
      let ok := fun k => if st = 1 then pass.getD k 0 != 0
        else (pass.getD k 0).getLsbD (min 127 (s.fld (R.MT_ACT_DQ c k) f + s.fld (R.MT_PR_CTRL c) F.MT_PR_CTRL_RANGE))
      let w := s.helperStore c 0 (64 * s.fld (R.MT_PR_PAGE c) F.MT_PR_PAGE_PAGE)
        (max 1 (s.fld (R.MT_PR_PAGE c) F.MT_PR_PAGE_BURSTS)) ok
      let t := w.forEach ((List.range 72).zip ws) (fun t p => t.setReg (R.MT_WIN c p.1) (winWord p.2))
      match ((List.range 72).zip ws).find? (fun p => !prFinds minW p.2) with
      | some (k, w) =>
        let width := match w with | none => 0 | some (l, r) => r - l
        ((((((t.mtReload c).setPr c 0).count (R.MT_PR_NOSET c) F.MT_PR_NOSET_COUNT 1).setFld (R.MT_PR_STAT c)
          F.MT_PR_STAT_LAST_BIT k).mtEvent c 3)).mtRecord c 0x14 0 (k * 2 ^ 16 + width)
      | none =>
        let u := t.forEach ((List.range 72).zip ws) (fun t p => match p.2 with
          | none => t
          | some (l, r) => t.setFld (R.MT_SHD_DQ c p.1) f ((l + r) / 2))
        if st = 1 then u.setPr c 2
        else if s.flag (R.MT_PR_CTRL c) F.MT_PR_CTRL_AUTO then
          ((u.setPr c 0).setMc c { u.mcOf c with commit := true }).mtEvent c 2
        else (u.setPr c 3).mtEvent c 2)

/-! ## The MT registers -/

/-- The enable field of the LOCKED fields (R506). -/
def State.mtOpen (s : State) (c : Nat) : Bool := !s.prOn c

/-- An ignored LOCKED write (R506). DESIGN CHOICE, unsafe (notes/assumptions/45.md): the offset in its record counts from the start
of the channel's 64 KiB window of R39. -/
def State.mtLocked (s : State) (c loc : Nat) : State :=
  (s.setFlag (R.MT_STAT c) F.MT_STAT_LOCKED_WR true).mtRecord c 0x16 0 loc

/-- What a register write in the helper's part of a channel window does beside storing its fields. -/
def State.mtAct (s old : State) (c loc : Nat) (v : Word) : State :=
  if loc = 0x8000 then s.mtCtrl c v
  else if loc = 0x8008 then s.when (v.getLsbD 31) (fun t => t.mtRun c)
  else if loc = 0x8040 then s.prCtrl c (old.prOn c) v
  else if loc = 0x8054 then s.settle (405 + 4 * c) (!old.mtLevel c && s.mtLevel c)
  else s

end Sys2Proof.Machine
end

