-- ==== Sys2Proof/Machine/TimeCmds.lean ====
section
/-! DEFINITION. TimeCmds.lean: the events of the time unit (13_time_unit.md): servo samples, pins, cones, captures and the
time-stamps of the lanes. -/

namespace Sys2Proof.Machine

/-! ## Slews and the servo -/

/-- SLEW_DONE (R429): the cycles pass that the slew still needs; a slew held entirely by the clamp makes no progress. -/
def execSlewDone (d : Fin 32) (s : State) : Host.Outcome State Fault Refusal :=
  let part := (s.perCycle d).2.natAbs
  .next (if s.timRun && s.slewLeft d != 0 && part != 0 then s.advance (ceilDiv (s.slewLeft d).natAbs part) else s)

/-- SERVO_SAMPLE_PROCESS (R433-R435): the servo completes the sample in processing; the sample held follows. -/
def execServoSampleProcess (d : Fin 32) (s : State) : Host.Outcome State Fault Refusal :=
  .next (if s.frozen F.DBG_FRZ_TIM then s
    else match s.busy d with
      | none => s
      | some theta => (s.servo d theta).setSample d (s.waiting d) none)

/-! ## PPS -/

/-- θ of a PPS edge: a time in units of 2^-16 ns minus its nearest second; half a second counts toward the later (R439). -/
def ppsTheta (t : Int) : Int :=
  let sec : Int := 10 ^ 9 * 2 ^ 16
  t - (t + sec / 2) / sec * sec

/-- PPS_IN_EDGE (R439): an edge, `after` cycles and `sub` eighths of a nanosecond from now. -/
def execPpsInEdge (i : Fin 4) (rising : Bool) (after : Nat) (sub : Fin 8) (s : State) : Host.Outcome State Fault Refusal :=
  let t := s.advance after
  let c := (t.reg (R.TIM_PPSI_CFG i)).toNat
  let last := Tbl.get (fun _ => 0) t.tim.ppsIn i
  .next (if t.timRun && c % 2 == 1 && (c / 2 % 2 == 0) == rising && (last == 0 || last - 1 + 500000000 ≤ t.tim.cycles) then
      let u := { t with tim := { t.tim with ppsIn := Tbl.set (fun _ => 0) t.tim.ppsIn i (t.tim.cycles + 1) } }
      let dly := signed 32 (t.reg (R.TIM_PPSI_DLY i)).toNat * 2 ^ 8
      u.forEach ((List.range 32).filter (fun d => t.fld (R.TIM_TD_CTRL d) F.TIM_TD_CTRL_OSRC == 4 + i)) (fun u d =>
        u.submit d (ppsTheta ((t.stamp d sub : Int) - dly)))
    else t)

/-- The next second boundary of a domain shifted by OFS that lies after its time, in counter units (R438). -/
def State.ppsNext (s : State) (j : Nat) : Nat :=
  let d := (s.reg (R.TIM_PPSO_CFG j)).toNat / 16 % 32
  let ofs : Int := clampI 500000000 (signed 32 (s.reg (R.TIM_PPSO_OFS j)).toNat) * 2 ^ 48
  let sec : Int := secU
  ((((s.ctr d : Int) - ofs) / sec + 1) * sec + ofs).toNat

/-- PPS_OUT_PULSE (R438): time passes to the next boundary; after a jump a boundary within 500 ms of the previous edge is
skipped. -/
def execPpsOutPulse (j : Fin 4) (s : State) : Host.Outcome State Fault Refusal :=
  let c := (s.reg (R.TIM_PPSO_CFG j)).toNat
  .next (if !s.timRun || c % 2 == 0 then s
    else
      let t := s.advanceTo (c / 16 % 32) (s.ppsNext j)
      let last := Tbl.get (fun _ => 0) t.tim.ppsLead j
      if t.tim.ppsJump.contains j.val && last != 0 && t.tim.cycles < last - 1 + 500000000 then t
      else { t with tim := { t.tim with ppsLead := Tbl.set (fun _ => 0) t.tim.ppsLead j (t.tim.cycles + 1)
                                        ppsJump := NSet.del t.tim.ppsJump j } })

/-! ## Cones -/

/-- CONE_EVENT (R440, R442, R445): the cone's domain reaches its target. -/
def execConeEvent (n : Fin 64) (s : State) : Host.Outcome State Fault Refusal :=
  .next (if s.coneArmed n then
      let t := s.advanceTo (s.coneDom n) ((s.cone n).tgt / 2 ^ 13 * 2 ^ 13 * 2 ^ 32)
      ((t.coneProduce n).coneMove n 1 1).settleCone n
    else s)

/-- A cone start reaches the slice groups that follow it (R140, R142); GSR holds a group's registers at 0 (R130). -/
def State.coneSlices (s : State) (n : Nat) : State :=
  if s.fab.gsr then s
  else s.forEach ((s.act.sl.filter (fun p => p.2.cycSrc == 2 && p.2.cycCone == n && s.head p.1 == p.1)).map (fun p => p.1))
    (fun t key =>
      let g := t.group key
      if !t.netRuns (key / 384) (t.act.slCfg key).net || t.heldIn (t.sliceRegion key) then
        t.setGroup key { g with miss := true }
      else if g.cone then t.setGroup key { g with miss := true }
      else t.setGroup key { g with cone := true })

/-- A cone event opens or closes the maintenance windows of the RLD channels (R485). -/
def State.coneMaint (s : State) (n : Nat) : State :=
  s.forEach (List.range 8) (fun t c =>
    let m := R.MC_MAINT c
    let o := t.fld m F.MC_MAINT_CONE_OPEN == n
    let cl := t.fld m F.MC_MAINT_CONE_CLOSE == n
    if o && cl then t.setFlag m F.MC_MAINT_OPEN (!t.flag m F.MC_MAINT_OPEN)
    else if o then t.setFlag m F.MC_MAINT_OPEN true
    else if cl then t.setFlag m F.MC_MAINT_OPEN false
    else t)

/-- The regions whose gate takes an event of a cone (R239). -/
def State.coneRegions (s : State) (n : Nat) : List Nat :=
  (List.range 32).filter (fun r => s.flag (R.CFG_RGN_CTRL r) F.CFG_RGN_CTRL_CONE_EN &&
    s.fld (R.CFG_RGN_CTRL r) F.CFG_RGN_CTRL_CONE == n)

/-- CONE_EVENT_DELIVERY (R162, R444): the oldest event on its way reaches every destination, six time-clock cycles after its
time; time passes to that cycle where it has not come. -/
def execConeEventDelivery (s : State) : Host.Outcome State Fault Refusal :=
  .next (match s.tim.deliv with
    | [] => s
    | (n, due) :: r =>
      let t := { s with tim := { s.tim with deliv := r } }.advance (due - s.tim.cycles)
      let u := ((t.coneSlices n).coneMaint n).timeEvt n
      u.when (!(u.coneRegions n).isEmpty) (fun v => v.gatePush ⟨u.coneRegions n, 4, none, []⟩))

/-! ## Captures -/

/-- A capture watches a source: TIME_CAP pins are sources 0-15, port p of sector k is 16 + 4 k + p (R447). -/
def State.capWatches (s : State) (c src : Nat) : Bool :=
  let r := R.TIM_CAP_CFG c
  s.flag r F.TIM_CAP_CFG_EN &&
    (if c < 16 then src == c else src == 16 + 4 * s.fld r F.TIM_CAP_CFG_SECTOR + s.fld r F.TIM_CAP_CFG_PORT)

/-- A fabric capture port takes edges (R448). -/
def State.capPortUp (s : State) (src : Nat) : Bool :=
  let k := (src - 16) / 4
  let tile := Config.capTile (src - 16) % 640
  src < 16 || (!s.heldIn (s.tileRegion k (tile % 32) (tile / 32)) && !s.bit R.SYS_PD_STAT k &&
    4 ≤ s.fld R.CFG_BOOT_STAT F.CFG_BOOT_STAT_STEP)

/-- CAPTURE_EDGE (R447-R450): an edge at a source, `after` cycles and `sub` eighths of a nanosecond from now; one edge per
8 ns for each capture. -/
def execCaptureEdge (src : Fin 144) (rising : Bool) (after : Nat) (sub : Fin 8) (s : State) :
    Host.Outcome State Fault Refusal :=
  let t := s.advance after
  .next (if !t.timRun || !t.capPortUp src then t
    else t.forEach ((List.range 64).filter (fun c => t.capWatches c src)) (fun u c =>
      let edge := u.fld (R.TIM_CAP_CFG c) F.TIM_CAP_CFG_EDGE
      let last := Tbl.get (fun _ => 0) u.tim.capLast c
      if edge.testBit (if rising then 0 else 1) && (last == 0 || last - 1 + 8 ≤ u.tim.cycles) then
        let v := { u with tim := { u.tim with capLast := Tbl.set (fun _ => 0) u.tim.capLast c (u.tim.cycles + 1) } }
        v.capPush ⟨c, !rising, u.stamp (u.fld (R.TIM_CAP_CFG c) F.TIM_CAP_CFG_DOM) sub⟩
      else u))

/-! ## Frames on the lanes -/

/-- A number of line bits as time in units of 2^-16 ns, at a lane's line rate. -/
def State.bitsTime (s : State) (n bits : Nat) : Nat :=
  let f := s.lineRate n
  bits * 10 ^ 9 * 2 ^ 16 * f.2 / f.1

/-- The line bits of 66b blocks in a mode: RS528 and RS544 count from their own code rate (R455, R458). -/
def delayBits : Nat → Nat
  | 1 => 320 | 4 => 272 | _ => 264

/-- The latency between pin and tap without its position term, in units of 2^-16 ns (R455, R458). -/
def State.tsLatency (s : State) (n : Nat) (tx : Bool) : Nat :=
  let f := s.symHz (n / 4) (s.lane n).rate (s.lane n).rpll (s.lane n).rfrac (s.lane n).lcpll (s.lane n).lcfrac
  let p : Nat × Nat :=
    match s.code n, tx with
    | 1, true => (40, 240) | 1, false => (50, 280)
    | 2, true => (132, 240) | 2, false => (198, 280)
    | 3, true => (5280, 600) | 3, false => (10560, 640)
    | 4, true => (2720, 600) | 4, false => (5440, 640)
    | _, _ => (0, 0)
  p.1 * 10 ^ 9 * 2 ^ 16 * f.2 / f.1 + p.2 * 2 ^ 16 / 100 +
    (if tx && s.flag (R.TIM_LN_CFG n) F.TIM_LN_CFG_ONESTEP_EN then s.bitsTime n (delayBits (s.code n)) else 0)

/-- A signed adjustment register in units of 2^-8 ns, as 2^-16 ns (R456). -/
def State.tsAdj (s : State) (off : Nat) : Int := signed 32 (s.reg off).toNat * 2 ^ 8

/-- A lane's stamp: its time-stamp word (R452, R455-R457); `pos` is the position term in units of 2^-16 ns. -/
def State.laneStamp (s : State) (n : Nat) (tx : Bool) (pos : Int) (sub : Nat) : Nat :=
  let d := s.fld (R.TIM_LN_CFG n) F.TIM_LN_CFG_DOM
  let tap : Int := s.stamp d sub
  let lat : Int := (s.tsLatency n tx : Int) + pos
  let t := (if tx then tap + lat + s.tsAdj (R.TIM_LN_TXADJ n) else tap - lat - s.tsAdj (R.TIM_LN_RXADJ n)) - s.tsAdj (R.TIM_LN_ASYM n)
  tswOf (t % ((wrapU / 2 ^ 32 : Nat) : Int)).toNat

/-- A lane stamps frames (R424, R453). -/
def State.stamps (s : State) (n : Nat) : Bool :=
  s.timRun && s.operates n && s.locked n && 1 ≤ s.code n && s.code n ≤ 4

/-- RX_FRAME_START (R453, R454): a received frame start passes the tap, `after` cycles and `sub` eighths from now. -/
def execRxFrameStart (n : Fin 144) (pos : Int) (after : Nat) (sub : Fin 8) (s : State) : Host.Outcome State Fault Refusal :=
  let t := s.advance after
  let w := if t.stamps n && t.flag (R.TIM_LN_CFG n) F.TIM_LN_CFG_RX_EN then some (t.laneStamp n false pos sub) else none
  .next { t with tim := { t.tim with rxTs := Tbl.set (fun _ => none) t.tim.rxTs n w } }

/-- The CRC-32 of Ethernet over a byte, without inversions: it is linear (R461). -/
def ethBit (c : Nat) : Nat := if c % 2 = 1 then (c / 2) ^^^ 0xEDB88320 else c / 2
def ethByte (c b : Nat) : Nat := ethBit (ethBit (ethBit (ethBit (ethBit (ethBit (ethBit (ethBit (c ^^^ b))))))))

/-- Bytes `a` and on of a list replaced. -/
def putBytes (l : List Byte) (a : Nat) (v : List Byte) : List Byte := l.take a ++ v ++ l.drop (a + v.length)

/-- The 16-bit words of big-endian bytes. -/
def words16 : List Byte → List Nat
  | a :: b :: r => (256 * a.toNat + b.toNat) :: words16 r
  | _ => []

/-- Ones' complement addition of 16-bit words. -/
def onesAdd (a b : Nat) : Nat := if 65536 ≤ a + b then a + b - 65535 else a + b

/-- The UDP checksum after a change of words (R460, RFC 1624). -/
def udpUpdate (hc : Nat) (old new : List Nat) : Nat :=
  let sum := (old.zip new).foldl (fun a p => onesAdd (onesAdd a (65535 - p.1)) p.2) (65535 - hc)
  if 65535 - sum = 0 then 65535 else 65535 - sum

/-- The frame with Δ, in eighths of a nanosecond, added to its correctionField (R459-R461). -/
def oneStep (frame : List Byte) (encap ptpoff : Nat) (delta : Int) : List Byte :=
  let a := ptpoff + 8
  let old := sliceBytes frame a 8
  let sum := signed 64 (leNat old.reverse) + delta * 2 ^ 13
  let new := (leBytes 8 (if sum < -(2 ^ 63) || 2 ^ 63 ≤ sum then 2 ^ 63 - 1 else unsigned 64 sum)).reverse
  let f1 := putBytes frame a new
  let hc := leNat (sliceBytes frame (ptpoff - 2) 2).reverse
  let f2 := if encap = 0 || (encap = 1 && hc = 0) then f1
    else putBytes f1 (ptpoff - 2) (leBytes 2 (udpUpdate hc (words16 old) (words16 new))).reverse
  let body := frame.length - 4
  let diff := ((frame.take body).zip (f2.take body)).foldl (fun c p => ethByte c (p.1 ^^^ p.2).toNat) 0
  putBytes f2 body (leBytes 4 (leNat (frame.drop body) ^^^ diff))

/-- A record of R462 or R463 (R464). -/
def State.tsRecord (s : State) (n code : Nat) : State := s.report n ⟨192 + n, 0, 0x10, laneInfo code n⟩

/-- The two-step part of a command (R463). -/
def State.twoStep (s : State) (n tag w : Nat) : State :=
  if 16 ≤ (s.tsFifo n).length then
    (((s.setFlag (R.TIM_LN_TSSTAT n) F.TIM_LN_TSSTAT_OVF true).count (R.TIM_LN_TSSTAT n) F.TIM_LN_TSSTAT_LOST 1).tsRecord n 0x51)
  else s.setTsFifo n (s.tsFifo n ++ [(tag, w)])

/-- Δ of a transmit stamp and a BASE, both time-stamp words, in eighths: seconds modulo 2^31 (R459). -/
def stampDelta (w base : Nat) : Int :=
  let m : Int := 2 ^ 31 * 8 * 10 ^ 9
  let d := ((tswTime w : Int) - tswTime base) % m
  if 2 * d < m then d else d - m

/-- TX_FRAME_START (R458-R463): a frame leaves, with its time-stamp command; `frame` holds the octets after the SFD and the
frame check sequence. -/
def execTxFrameStart (n : Fin 144) (cmd : Fin 4) (tag : BitVec 16) (encap : Fin 3) (ptpoff : BitVec 8) (base : BitVec 64)
    (frame : List (BitVec 8)) (pos : Int) (after : Nat) (sub : Fin 8) (s : State) : Host.Outcome State Fault Refusal :=
  let t := s.advance after
  let put := fun (u : State) (f : List Byte) =>
    { u with tim := { u.tim with sent := Tbl.set (fun _ => []) u.tim.sent n f } }
  .next (if !t.operates n then t
    else if !t.stamps n || !t.flag (R.TIM_LN_CFG n) F.TIM_LN_CFG_TX_EN then put t frame
    else
      let w := t.laneStamp n true pos sub
      let u := t.when (cmd.val % 2 == 1) (fun u => u.twoStep n tag.toNat w)
      if cmd.val < 2 || !t.flag (R.TIM_LN_CFG n) F.TIM_LN_CFG_ONESTEP_EN then put u frame
      else
        let d := stampDelta w base.toNat
        if 8 * 10 ^ 9 ≤ d.natAbs || ptpoff.toNat < (if encap.val = 0 then 14 else 42) || frame.length < ptpoff.toNat + 20 then
          put ((u.setFlag (R.TIM_LN_TSSTAT n) F.TIM_LN_TSSTAT_OS_ERR true).tsRecord n 0x52) frame
        else put u (oneStep frame encap ptpoff.toNat d))

/-- TWO_STEP_PORT_POP (R463): user logic takes the oldest entry; with TSF_CSR at 1 the port sees the FIFO empty. -/
def execTwoStepPortPop (n : Fin 144) (s : State) : Host.Outcome State Fault Refusal :=
  .next (if s.flag (R.TIM_LN_CFG n) F.TIM_LN_CFG_TSF_CSR then s else s.setTsFifo n (s.tsFifo n).tail)

end Sys2Proof.Machine
end

