-- ==== Sys2Proof/Machine/Clock.lean ====
section
/-! DEFINITION. Clock.lean: clock monitors, PLL lock, holdover and frequency measurement (05_clocks_and_islands.md). -/

namespace Sys2Proof.Machine

/-- Source 5 (R165). -/
def State.clkLevel (s : State) : Bool := s.reg R.CLK_LOSS != 0

/-- A clock's PLL is enabled now. -/
def State.enabled (s : State) (id : Nat) : Bool :=
  if id < 2 then true
  else if id < 4 then s.flag R.CLK_TREF_CTRL F.CLK_TREF_CTRL_TPLL_EN
  else if 8 ≤ id && id < 16 then s.flag (R.CLK_MCPLL (id - 8)) F.CLK_MCPLL_EN
  else if 0x40 ≤ id && id < 0x80 then !s.boot.inReset
  else 0x80 ≤ id && id % 4 == 0 && (s.act.clkCfg ((id - 0x80) / 4)).used

/-- A clock is monitored (R163): continuously from the moment it is first enabled. -/
def State.monitored (s : State) (id : Nat) : Bool := s.enabled id || s.clk.seen.has id

/-- The time PLL enters holdover (R164, R428). -/
def State.timeHoldover (s : State) : State :=
  if s.flag R.CLK_STAT F.CLK_STAT_HOLDOVER_TIME then s
  else ((s.setFlag R.CLK_STAT F.CLK_STAT_HOLDOVER_TIME true).setFlag R.TIM_STAT F.TIM_STAT_HOLDOVER true).forEach
    (List.range 32) (fun t d => t.alarm d F.TIM_TD_STAT_HOLDOVER)

/-- It leaves holdover (R165). -/
def State.timeSteady (s : State) : State :=
  (s.setFlag R.CLK_STAT F.CLK_STAT_HOLDOVER_TIME false).setFlag R.TIM_STAT F.TIM_STAT_HOLDOVER false

/-- A channel's PLL is lost (R164, R468): every state but RESET and FAILED leads to FAILED. -/
def State.mcLost (s : State) (c : Nat) : State :=
  let t := s.when (s.mcState c == 1) (fun t => t.mtLeave c)
  if s.mcState c = 0 || s.mcState c = 9 then t else t.mcFail c 3

/-- What a declared loss does beside its record (R164, R165). -/
def State.loseClock (s : State) (id : Nat) : State :=
  let lost := fun (t : State) (f : Fld) => t.setFlag R.CLK_LOSS f true
  if id = 0 then
    ((lost s F.CLK_LOSS_SYSREF).setFlag R.CLK_STAT F.CLK_STAT_SYSREF_OK false).setFlag R.CLK_STAT F.CLK_STAT_HOLDOVER_SYS true
  else if id = 1 then (lost s F.CLK_LOSS_SYSPLL).setFlag R.CLK_STAT F.CLK_STAT_SYSPLL_LOCK false
  else if id = 2 then ((lost s F.CLK_LOSS_TREF).setFlag R.CLK_STAT F.CLK_STAT_TREF_OK false).timeHoldover
  else if id = 3 then ((lost s F.CLK_LOSS_TPLL).setFlag R.CLK_STAT F.CLK_STAT_TPLL_LOCK false).timeHoldover
  else if id < 16 then
    (((lost s F.CLK_LOSS_MCPLL).setBit R.CLK_MC_LOST id false).setBit R.CLK_MC_LOST (id - 8) true).mcLost (id - 8)
  else if id < 0x80 then
    let n := id - 0x40
    (lost s F.CLK_LOSS_RTR).setBit (if n < 32 then R.CLK_RTR_LOST_LO else R.CLK_RTR_LOST_HI) (n % 32) true
  else
    let k := (id - 0x80) / 4
    let t := ((lost s F.CLK_LOSS_FPLL).setBit R.CLK_FPLL_LOCK k false).setBit R.CLK_FPLL_LOST k true
    if (s.act.clkCfg k).run then t else { t with fab := { t.fab with stopped := NSet.add t.fab.stopped k } }.dropStarts

/-- CLOCK_LOSS_DECLARED (R163-R165): a monitor declares the loss of an enabled clock, by its code of R166. -/
def execClockLossDeclared (id : Fin 256) (s : State) : Host.Outcome State Fault Refusal :=
  .next (if s.monitored id then
      let t := s.loseClock id
      (t.settle 5 t.clkLevel).report 0 ⟨5, 2, 0x0A, id⟩
    else s)

/-- REFERENCE_RECOVERED (R165): TIME_REFCLK (`time`) or SYS_REFCLK is within its limits again. -/
def execReferenceRecovered (time : Bool) (s : State) : Host.Outcome State Fault Refusal :=
  .next (if time then
      let t := s.setFlag R.CLK_STAT F.CLK_STAT_TREF_OK true
      t.when (t.flag R.CLK_STAT F.CLK_STAT_TPLL_LOCK) (fun t => t.timeSteady)
    else (s.setFlag R.CLK_STAT F.CLK_STAT_SYSREF_OK true).setFlag R.CLK_STAT F.CLK_STAT_HOLDOVER_SYS false)

/-- PLL_LOCK (R149, R644): an enabled PLL with its reference present locks; the system PLL not while PORST_N holds it in reset. The
first lock of the time PLL starts the domains (R424). -/
def execPllLock (id : Fin 256) (s : State) : Host.Outcome State Fault Refusal :=
  let sysRef := s.flag R.CLK_STAT F.CLK_STAT_SYSREF_OK
  .next (if id.val = 1 then
      (if sysRef && s.board.porstN && !s.board.por then s.setFlag R.CLK_STAT F.CLK_STAT_SYSPLL_LOCK true else s)
    else if id.val = 3 then
      if s.enabled 3 && s.flag R.CLK_STAT F.CLK_STAT_TREF_OK &&
          s.fld R.CLK_TREF_CTRL F.CLK_TREF_CTRL_FREQ ≤ 4 then
        ((s.setFlag R.CLK_STAT F.CLK_STAT_TPLL_LOCK true).setFlag R.TIM_STAT F.TIM_STAT_RUN true).timeSteady
      else s
    else if 8 ≤ id.val && id.val < 16 then
      (if s.enabled id && sysRef then s.setBit R.CLK_MC_LOST id true else s)
    else if 0x80 ≤ id.val && s.enabled id && s.refPresent (s.act.clkCfg ((id - 0x80) / 4)).ref then
      s.setBit R.CLK_FPLL_LOCK ((id - 0x80) / 4) true
    else s)

/-- LEAF_GATE_REOPEN (R156, R164): 1 µs after a fabric PLL relocks, the gates it closed reopen. -/
def execLeafGateReopen (sec : Fin 32) (s : State) : Host.Outcome State Fault Refusal :=
  .next (if s.bit R.CLK_FPLL_LOCK sec then
      let t := { s with fab := { s.fab with stopped := NSet.del s.fab.stopped sec, relock := NSet.del s.fab.relock sec } }
      t.forEach ((t.act.clk.map (fun q => q.1)).filter (fun k => k < 32)) (fun t k => t.gsrSettle k)
    else s)

/-- CLK_MEAS_DONE (R166): `edges` of the clock measured in 1,000 start-up clock cycles; a reserved code counts 0. -/
def execClkMeasDone (edges : BitVec 16) (s : State) : Host.Outcome State Fault Refusal :=
  let id := s.clk.meas
  let known := id < 4 || (8 ≤ id && id < 16) || 0x40 ≤ id
  .next (if s.flag R.CLK_MEAS_CTRL F.CLK_MEAS_CTRL_BUSY then
      (s.setFlag R.CLK_MEAS_CTRL F.CLK_MEAS_CTRL_BUSY false).setFld R.CLK_MEAS_RES F.CLK_MEAS_RES_COUNT
        (if known then edges.toNat else 0)
    else s)

/-! ## The CLK registers -/

/-- The enable field of the LOCKED fields at an offset. -/
def State.clkOpen (s : State) (loc : Nat) : Bool :=
  if loc = 0x20 then !s.flag R.CLK_TREF_CTRL F.CLK_TREF_CTRL_TPLL_EN
  else if 0x40 ≤ loc && loc < 0x60 then !s.flag (R.CLK_MCPLL ((loc - 0x40) / 4)) F.CLK_MCPLL_EN
  else true

/-- An ignored LOCKED write (R24, R25): the block's source is 5. -/
def State.clkLocked (s : State) (loc : Nat) : State :=
  (s.setFlag R.CLK_STAT F.CLK_STAT_LOCKED_WR true).lockedRecord 5 0 loc

/-- What a register write in the CLK window does beside storing its fields. -/
def State.clkAct (s old : State) (loc : Nat) (v : Word) : State :=
  if loc = 0x30 && v.getLsbD 31 && !old.flag R.CLK_MEAS_CTRL F.CLK_MEAS_CTRL_BUSY then
    { s.setFlag R.CLK_MEAS_CTRL F.CLK_MEAS_CTRL_BUSY true with
        clk := { s.clk with meas := v.fget F.CLK_MEAS_CTRL_CLKID } }
  else if loc = 0x20 && !v.getLsbD 31 then s.setFlag R.CLK_STAT F.CLK_STAT_TPLL_LOCK false
  else if loc = 0x20 then { s with clk := { s.clk with seen := NSet.add (NSet.add s.clk.seen 2) 3 } }
  else if 0x40 ≤ loc && loc < 0x60 && !v.getLsbD 31 then s.setBit R.CLK_MC_LOST (8 + (loc - 0x40) / 4) false
  else if 0x40 ≤ loc && loc < 0x60 then { s with clk := { s.clk with seen := NSet.add s.clk.seen (8 + (loc - 0x40) / 4) } }
  else s

/-- Registers of the CLK window that follow from the active plane (CLK_FPLL_CFG, CLK_LEAF). -/
def State.clkPeek (s : State) (loc : Nat) : Option Word :=
  if 0x100 ≤ loc && loc < 0x180 then
    let c := s.act.clkCfg ((loc - 0x100) / 4)
    some (BitVec.ofNat 32 (b2n c.used * 2 ^ 17 + b2n c.run * 2 ^ 16 + c.n % 2 ^ 7 * 2 ^ 9 + c.m % 2 ^ 9))
  else if 0x200 ≤ loc && loc < 0x280 then
    let k := (loc - 0x200) / 4
    some (BitVec.ofNat 32 ((s.act.clkCfg k).conf * 2 ^ 16 + s.leafRun k))
  else none

end Sys2Proof.Machine
end

