-- ==== Sys2Proof/Machine/LaneCmds.lean ====
section
/-! DEFINITION. LaneCmds.lean: the events of lanes, coding layers, bonding groups and Skemer engines (10, 11, 12). While a
boundary-scan instruction has the lanes they report nothing (R367). -/

namespace Sys2Proof.Machine

/-- The reference of the PLL that a lane uses is present (R338, R359). -/
def State.refUp (s : State) (n : Nat) : Bool :=
  let q := n / 4
  let l := s.lane n
  let one := if selRing l.rate then l.rpll.fget F.LN_RPLL_REFSEL != 0 else s.flag (R.LQ_CFG q) F.LQ_CFG_REFSEL
  if one then s.flag (R.LQ_STAT q) F.LQ_STAT_REF1_OK else s.flag (R.LQ_STAT q) F.LQ_STAT_REF0_OK

/-! ## PMA -/

/-- LANE_SAFE_POINT (R343, R344, R346). -/
def execLaneSafePoint (n : Fin 144) (s : State) : Host.Outcome State Fault Refusal :=
  .next (if s.laneLive n && s.flag (R.LN_STAT n) F.LN_STAT_APPLY_PEND then s.laneTake n else s)

/-- LANE_PLL_LOCKED (R344 steps 2 and 3, R359): the PLL that the lane uses has locked. -/
def execLanePllLocked (n : Fin 144) (s : State) : Host.Outcome State Fault Refusal :=
  let q := n.val / 4
  let st := R.LN_STAT n
  let l := s.lane n
  let ring := selRing l.rate
  let changing := s.flag st F.LN_STAT_CHANGING
  .next (if s.laneLive n && (changing || !s.pllUp n) && s.refUp n && (ring || (s.quad q).lcOn) then
      let s1 := if ring then s.setFlag st F.LN_STAT_RPLL_LOCK true
        else (s.setFlag (R.LQ_STAT q) F.LQ_STAT_LC_LOCK true).setFlag st F.LN_STAT_RPLL_LOCK false
      let s2 := s1.setLane n { l with relock := false }
      s2.when (changing || l.relock) (fun t => (t.setFlag st F.LN_STAT_CHANGING false).lnEvent n 8 0 0)
    else s)

/-- CDR_LOCK (R357): LOL clears. -/
def execCdrLock (n : Fin 144) (s : State) : Host.Outcome State Fault Refusal :=
  .next (if s.laneLive n && !s.los n && s.lol n && !s.flag (R.LN_STAT n) F.LN_STAT_CHANGING && s.pllUp n then s.lolFall n else s)

/-- LOL_SET (R357). -/
def execLolSet (n : Fin 144) (s : State) : Host.Outcome State Fault Refusal :=
  .next (if s.laneLive n && !s.lol n then s.lolRise n 1 else s)

/-- The off threshold of the detector in millivolts (R356). -/
def State.losOff (s : State) (n : Nat) : Nat := 40 + 10 * s.fld (R.LN_LOS n) F.LN_LOS_TH

/-- LOS_SET (R356): an amplitude of `mv` has stayed below the off threshold, as far as ±25 % let it; LOL follows (R357). -/
def execLosSet (n : Fin 144) (mv : Nat) (s : State) : Host.Outcome State Fault Refusal :=
  .next (if s.laneLive n && !s.los n && 4 * mv < 5 * s.losOff n then s.losRise n else s)

/-- LOS_CLEAR (R356): an amplitude of `mv` has stayed above the on threshold, as far as ±25 % let it. -/
def execLosClear (n : Fin 144) (mv : Nat) (s : State) : Host.Outcome State Fault Refusal :=
  .next (if s.laneLive n && s.los n && 3 * (s.losOff n + 20) < 4 * mv then (s.setFlag (R.LN_STAT n) F.LN_STAT_LOS false).lnEvent n 1 0 0 else s)

/-- A value that moves by at most one towards another (R353). -/
def stepTo (old new : Int) : Int := if old < new then old + 1 else if new < old then old - 1 else old

/-- The CTLE code and the DFE taps in use (R352, R353): fields that are not adapted keep their settings. -/
def State.setEq (s : State) (n : Nat) (ctle : Nat) (taps : Nat → Int) : State :=
  let e := (s.lane n).eq
  let code := if e.fget F.LN_RX_EQ_CTLE_AD != 0 then ctle else e.fget F.LN_RX_EQ_CTLE
  (s.setFld (R.LN_RX_EQ_STAT n) F.LN_RX_EQ_STAT_CTLE code).when (e.fget F.LN_RX_EQ_DFE_AD != 0) (fun t =>
    t.forEach (List.range 12) (fun u k => u.setReg (R.LN_DFE n k) (BitVec.ofNat 32 (tapOf k (unsigned 8 (taps k))))))

/-- ADAPTATION_DONE (R352, R353): an initial adaptation ends with the code and the taps given, and RX_READY; it stands still while
LOL is 1 (R358). With CONT, while RX_READY is 1, each moves by one step towards them. -/
def execAdaptationDone (n : Fin 144) (ctle : Fin 32) (taps : List (BitVec 8)) (s : State) :
    Host.Outcome State Fault Refusal :=
  let tap := fun (k : Nat) => signed 8 (taps.getD k 0).toNat
  .next (if !s.laneLive n then s
    else if (s.lane n).adapt && !s.lol n then
      let t := (s.setEq n ctle tap).setFld (R.LN_RX_EQ_STAT n) F.LN_RX_EQ_STAT_RETRY 0
      (t.setLane n { t.lane n with adapt := false }).setReady n true
    else if s.flag (R.LN_STAT n) F.LN_STAT_RX_READY && (s.lane n).eq.fget F.LN_RX_EQ_CONT != 0 && s.rxData n then
      s.setEq n (stepTo (s.fld (R.LN_RX_EQ_STAT n) F.LN_RX_EQ_STAT_CTLE) ctle.val).toNat
        (fun k => stepTo (signed 8 ((s.reg (R.LN_DFE n k)).toNat % 256)) (tap k))
    else s)

/-- ADAPTATION_TIMEOUT (R354): the adaptation starts again. It stands still while LOL is 1 (R358). -/
def execAdaptationTimeout (n : Fin 144) (s : State) : Host.Outcome State Fault Refusal :=
  .next (if s.laneLive n && (s.lane n).adapt && !s.lol n then
      (s.count (R.LN_RX_EQ_STAT n) F.LN_RX_EQ_STAT_RETRY 1).lnEvent n 5 0x04 0
    else s)

/-- The lanes of a quad that a PLL or a reference feeds lose it (R359). -/
def State.losePll (s : State) (q : Nat) (uses : Lane → Bool) : State :=
  s.forEach ((List.range 4).map (fun l => 4 * q + l)) (fun t n =>
    if t.laneLive n && uses (t.lane n) then t.pllGone n else t)

/-- REF_CLOCK_LOST (R338, R359, R360). -/
def execRefClockLost (q : Fin 36) (one : Bool) (s : State) : Host.Outcome State Fault Refusal :=
  let f := if one then F.LQ_STAT_REF1_OK else F.LQ_STAT_REF0_OK
  let lc := s.flag (R.LQ_CFG q) F.LQ_CFG_REFSEL == one
  .next (if s.bscan || !s.flag (R.LQ_STAT q) f then s
    else
      let t := (s.setFlag (R.LQ_STAT q) f false).lqEvent q (if one then 2 else 1) (if one then 0x13 else 0x12) 2
      t.losePll q (fun l => if selRing l.rate then (l.rpll.fget F.LN_RPLL_REFSEL != 0) == one else lc))

/-- REF_CLOCK_PRESENT (R338): present, at a frequency. -/
def execRefClockPresent (q : Fin 36) (one : Bool) (hz : Nat) (s : State) : Host.Outcome State Fault Refusal :=
  let f := if one then F.LQ_STAT_REF1_OK else F.LQ_STAT_REF0_OK
  let x := s.quad q
  .next (if s.bscan then s
    else (s.setFlag (R.LQ_STAT q) f true).setQuad q (if one then { x with ref1 := hz } else { x with ref0 := hz }))

/-- LANE_PLL_UNLOCK (R359, R360): the LC PLL of a quad (none) or the ring PLL of one of its lanes. -/
def execLanePllUnlock (q : Fin 36) (ring : Option (Fin 4)) (s : State) : Host.Outcome State Fault Refusal :=
  .next (match ring with
    | none =>
      if s.bscan || !s.flag (R.LQ_STAT q) F.LQ_STAT_LC_LOCK then s
      else
        let t := (s.setFlag (R.LQ_STAT q) F.LQ_STAT_LC_LOCK false).when (s.flag (R.LQ_CTRL q) F.LQ_CTRL_LC_EN)
          (fun t => t.lqEvent q 0 0x11 2)
        t.losePll q (fun l => !selRing l.rate)
    | some i =>
      let n := 4 * q.val + i.val
      if !s.laneLive n || !s.flag (R.LN_STAT n) F.LN_STAT_RPLL_LOCK then s
      else
        let t := s.setFlag (R.LN_STAT n) F.LN_STAT_RPLL_LOCK false
        if selRing (s.lane n).rate then (t.lnEvent n 4 0x03 2).pllGone n else t)

/-- PRBS_SYNC (R363): patterns 0xA and 0xB are not checked. -/
def execPrbsSync (n : Fin 144) (s : State) : Host.Outcome State Fault Refusal :=
  let c := R.LN_PRBS_RX n
  let p := s.fld c F.LN_PRBS_RX_PATTERN
  .next (if s.laneLive n && s.flag c F.LN_PRBS_RX_EN && p != 0xA && p != 0xB && !s.los n && !s.lol n then
      s.setFlag c F.LN_PRBS_RX_SYNC true
    else s)

/-- PRBS_LOST (R363): the bits compared and the errors counted while in sync, and the loss. -/
def execPrbsLost (n : Fin 144) (bits errs : Nat) (s : State) : Host.Outcome State Fault Refusal :=
  let c := R.LN_PRBS_RX n
  .next (if s.laneLive n && s.flag c F.LN_PRBS_RX_SYNC && 16 ≤ errs then
      let old := (s.reg (R.LN_PRBS_BITS_LO n)).toNat + 2 ^ 32 * (s.reg (R.LN_PRBS_BITS_HI n)).toNat
      let b := satAdd 48 old bits
      let t := s.when (!s.frozen F.DBG_FRZ_LANE) (fun t =>
        ((t.count (R.LN_PRBS_ERR n) F.LN_PRBS_ERR_COUNT errs).setReg (R.LN_PRBS_BITS_LO n) (BitVec.ofNat 32 b)).setReg
          (R.LN_PRBS_BITS_HI n) (BitVec.ofNat 32 (b / 2 ^ 32)))
      (t.prbsOut n).lnEvent n 9 0 0
    else s)

/-- EYE_SCAN_DONE (R364): the count completes with the mismatches found. -/
def execEyeScanDone (n : Fin 144) (errs : Nat) (s : State) : Host.Outcome State Fault Refusal :=
  let c := R.LN_ES_CTRL n
  let smp := 2 ^ ((s.lane n).dwell + 8)
  .next (if s.flag c F.LN_ES_CTRL_BUSY && !s.bscan then
      (((s.setFlag c F.LN_ES_CTRL_BUSY false).setReg (R.LN_ES_ERR n) (BitVec.ofNat 32 (min (min errs smp) (2 ^ 32 - 1)))).setReg
        (R.LN_ES_SMP_LO n) (BitVec.ofNat 32 smp)).setReg (R.LN_ES_SMP_HI n) (BitVec.ofNat 32 (smp / 2 ^ 32))
    else s)

/-! ## Coding layers -/

/-- LOCK_ACQUIRED (R376, R382, R387, R392): in 8B10B at bit position `pos` after three commas. -/
def execLockAcquired (n : Fin 144) (pos : Fin 10) (s : State) : Host.Outcome State Fault Refusal :=
  let a := R.PCS_LN_ALIGN n
  .next (if s.rxData n && !s.locked n && s.code n != 0 then
      let t := s.when (s.code n == 1) (fun t =>
        (t.lnCount (R.PCS_LN_COMMA_CNT n) 3).when (!s.flag a F.PCS_LN_ALIGN_MODE) (fun u =>
          u.setFld a F.PCS_LN_ALIGN_POS pos.val))
      t.lockUp n
    else s)

/-- LOCK_LOST (R376, R382, R387): errors end the lock. -/
def execLockLost (n : Fin 144) (s : State) : Host.Outcome State Fault Refusal :=
  .next (if s.laneLive n && s.locked n && s.code n != 0 then s.unlock n true 2 else s)

/-- SLIP_DONE (R385). -/
def execSlipDone (n : Fin 144) (s : State) : Host.Outcome State Fault Refusal :=
  .next (if s.bscan then s else s.setFlag (R.PCS_LN_ALIGN n) F.PCS_LN_ALIGN_BUSY false)

/-- The invalid headers of a window that set HI_BER: CNT, where 0 acts as 1 (R388). -/
def State.berCount (s : State) (n : Nat) : Nat := max 1 (s.fld (R.PCS_LN_BER n) F.PCS_LN_BER_CNT)

/-- HI_BER_SET (R388): `bad` invalid headers in a window of a 64b/66b mode. -/
def execHiBerSet (n : Fin 144) (bad : Nat) (s : State) : Host.Outcome State Fault Refusal :=
  let st := R.PCS_LN_STAT n
  .next (if s.rxData n && 2 ≤ s.code n && !s.flag st F.PCS_LN_STAT_HI_BER && s.berCount n ≤ bad then
      ((s.setFlag st F.PCS_LN_STAT_HI_BER true).setFlag st F.PCS_LN_STAT_HI_BER_SET true).pcsRecord n 0x22 0
    else s)

/-- HI_BER_CLEAR (R388): a whole window has `bad` invalid headers. -/
def execHiBerClear (n : Fin 144) (bad : Nat) (s : State) : Host.Outcome State Fault Refusal :=
  .next (if s.laneLive n && bad < s.berCount n then s.setFlag (R.PCS_LN_STAT n) F.PCS_LN_STAT_HI_BER false else s)

/-- FEC_UNCORRECTABLE (R391): codewords with their erroneous symbols, among them uncorrectable ones. -/
def execFecUncorrectable (n : Fin 144) (errs : List Nat) (s : State) : Host.Outcome State Fault Refusal :=
  .next (if s.rxData n && 3 ≤ s.code n then s.codewords n errs else s)

/-- TX_UNDERRUN (R372): a transmit slot without a valid word. -/
def execTxUnderrun (n : Fin 144) (s : State) : Host.Outcome State Fault Refusal :=
  .next (if s.laneLive n then s.transmit n none else s)

/-- RX_WORD_DROP (R369, R373). -/
def execRxWordDrop (n : Fin 144) (s : State) : Host.Outcome State Fault Refusal :=
  .next (if s.laneLive n then
      (s.lnCount (R.PCS_LN_RX_DROP n) 1).setFlag (R.PCS_LN_STAT n) F.PCS_LN_STAT_RX_OVF true
    else s)

/-- RECEIVE_CODE_ERROR (R380, R387): a unit reaches the coding layer; a code or disparity error or an invalid header counts. -/
def execReceiveCodeError (n : Fin 144) (unit : BitVec 66) (s : State) : Host.Outcome State Fault Refusal :=
  .next (if s.rxData n then s.receive n unit else s)

/-- INVALID_TRANSMIT_UNIT (R379, R389): a transmit unit from user logic; an invalid one is replaced by K30.7 or the /E/ block. In
8B10B bit 8 is its K flag. -/
def execInvalidTransmitUnit (n : Fin 144) (unit : BitVec 66) (s : State) : Host.Outcome State Fault Refusal :=
  .next (if s.laneLive n then s.transmit n (some unit) else s)

/-! ## Bonding groups -/

/-- GROUP_HOLDOFF_EXPIRY (R398). -/
def execGroupHoldoffExpiry (g : Fin 16) (s : State) : Host.Outcome State Fault Refusal :=
  .next (if s.grpState g == 2 && !s.bscan then s.setGrpState g 3 else s)

/-- The spread that R397 allows. -/
def State.grpLimit (s : State) (g : Nat) : Nat := if s.code ((s.grpLanes g).headD 0) = 1 then 70 else 256

/-- DESKEW completes within R397 (R398); every member has the same column tag, which starts at a free value (R401). -/
def execGroupDeskewDone (g : Fin 16) (spread : Nat) (s : State) : Host.Outcome State Fault Refusal :=
  .next (if s.grpState g == 3 && spread ≤ s.grpLimit g && !s.bscan then
      let d := s.draw
      let t := d.2.forEach (s.grpLanes g) (fun t n => t.setCoder n { t.coder n with gcol := d.1 % 16 })
      ((t.setFld (R.PCS_GRP_SKEW g) F.PCS_GRP_SKEW_UI (min spread 1023)).setGrpState g 4).grpEvent g 0
    else s)

/-- DESKEW fails (R398): a spread beyond R397, or no marker (or K28.3 column) on a member in time. -/
def execGroupDeskewFail (g : Fin 16) (spread : Option Nat) (lane : Fin 144) (s : State) :
    Host.Outcome State Fault Refusal :=
  .next (if s.grpState g != 3 || s.bscan then s
    else match spread with
      | some x =>
        if x ≤ s.grpLimit g then s
        else
          let t := s.setFld (R.PCS_GRP_SKEW g) F.PCS_GRP_SKEW_UI (min x 1023)
          ((t.grpRecord g 0x32 0x05 lane).grpEvent g 2).grpFault g 0x05 lane
      | none => s.grpFault g 0x06 lane)

/-- A marker out of column in BONDED (R398). -/
def execGroupMarkerError (g : Fin 16) (lane : Fin 144) (s : State) : Host.Outcome State Fault Refusal :=
  .next (if s.grpState g == 4 && !s.bscan then s.grpFault g 0x06 lane else s)

/-! ## Skemer engines -/

/-- An event of an engine in state `st`: nothing in another state, before step 6 or while frozen (R408, R631). -/
def State.skmWhen (s : State) (e st : Nat) (f : State → State) : State :=
  s.when (s.skmState e == st && s.skmRuns && s.skmActive) f

/-- Enter SETTLE, or FAILED where no generation is common (R416). -/
def State.skmSettle (s : State) (e : Nat) : State :=
  match s.ownSettle e with
  | some _ => s.skmGo e 4
  | none => s.skmFail e 0x42 true

/-- A valid ordered set in OFFER to COMMIT (R416). -/
def State.skmReceive (s0 : State) (e ty p : Nat) : State :=
  let st := s0.skmState e
  let s1 := s0.when (ty == 0x5A || ty == 0x5B) (fun t => t.setReg (R.SKM_ENG_PEER e) (BitVec.ofNat 32 p))
  let k := s1.skm e
  let run := if k.last = (ty, p) then k.run + 1 else 1
  let s := s1.setSkm e { k with last := (ty, p), run := run }
  let three : Bool := 3 ≤ run
  let own := s.ownSettle e
  if ty = 0x5E then s.when (st != 2) (fun t => t.skmBackoff e)
  else if !three then s
  else if st = 2 then s.skmGo e 3
  else if ty = 0x5C && (st != 3 || own.isSome) && own != some p then s.skmBackoff e
  else if st = 3 && ty != 0x5A then s.skmSettle e
  else if st = 4 && ty = 0x5C then (s.skmGo e 5).skmEvent e 0
  else s

/-- SKM_ORDERED_SET_RECEIVED (R410, R416): eight bytes on the lead lane without CE or DE. -/
def execSkmOrderedSetReceived (e : Fin 16) (os : List (BitVec 8)) (s : State) : Host.Outcome State Fault Refusal :=
  .next (if 2 ≤ s.skmState e && s.skmState e ≤ 5 && s.skmRuns && s.locked (s.lead e) && s.code (s.lead e) == 1 then
      match orderedSet os with
      | some (ty, p) => s.skmReceive e ty p
      | none => s
    else s)

/-- SKM_DETECT_TIMEOUT (R408, R416). -/
def execSkmDetectTimeout (e : Fin 16) (s : State) : Host.Outcome State Fault Refusal :=
  .next (s.skmWhen e 1 (fun t =>
    t.when (!t.los (t.lead e) && !t.flag (R.LN_CTRL (t.lead e)) F.LN_CTRL_TX_IDLE) (fun u => u.skmOffer e)))

/-- SKM_OFFER_TIMEOUT (R415, R416): OFFER_MS has passed since OFFER began, and no valid ordered set has come in it (DEDUCED:
notes/assumptions/49.md). -/
def execSkmOfferTimeout (e : Fin 16) (s : State) : Host.Outcome State Fault Refusal :=
  .next (s.skmWhen e 2 (fun t =>
    if 0 < (t.skm e).run then t
    else if t.fld (R.SKM_ENG_CFG e) F.SKM_ENG_CFG_LISTEN = 0 then t.skmBackoff e else t.skmListen e (t.skmCands e)))

/-- SKM_PROGRESS_TIMEOUT (R416). -/
def execSkmProgressTimeout (e : Fin 16) (s : State) : Host.Outcome State Fault Refusal :=
  .next (s.when (3 ≤ s.skmState e && s.skmState e ≤ 5 && s.skmRuns) (fun t => t.skmBackoff e))

/-- SKM_COMMIT_TIMEOUT (R416, R419): the result. -/
def execSkmCommitTimeout (e : Fin 16) (s : State) : Host.Outcome State Fault Refusal :=
  .next (s.skmWhen e 5 (fun t =>
    match t.ownSettle e with
    | some w => t.skmResult e (w % 8) false (w + (t.reg (R.SKM_ENG_PEER e)).toNat / 2 ^ 24 * 2 ^ 24)
    | none => t.skmBackoff e))

/-- SKM_BACKOFF_TIMEOUT (R416). -/
def execSkmBackoffTimeout (e : Fin 16) (s : State) : Host.Outcome State Fault Refusal :=
  .next (s.skmWhen e 0xA (fun t =>
    let u := t.count (R.SKM_ENG_STAT e) F.SKM_ENG_STAT_RETRIES 1
    if max 1 (u.fld (R.SKM_ENG_CFG e) F.SKM_ENG_CFG_RETRY_MAX) ≤ u.fld (R.SKM_ENG_STAT e) F.SKM_ENG_STAT_RETRIES
    then u.skmFail e 0x44 false else u.skmOffer e))

/-- The template in use has reached the lead lane (R407, R418). -/
def State.skmTaken (s : State) (e : Nat) : Bool := !s.flag (R.LN_STAT (s.lead e)) F.LN_STAT_APPLY_PEND

/-- SKM_DWELL_TIMEOUT (R418): the dwell counts from the lane-safe point at which the template took effect. -/
def execSkmDwellTimeout (e : Fin 16) (s : State) : Host.Outcome State Fault Refusal :=
  .next (s.skmWhen e 6 (fun t => t.when (t.skmTaken e) (fun t => t.skmListen e (t.skm e).cands.tail)))

/-- SKM_LISTEN_LOCK (R418, R419). -/
def execSkmListenLock (e : Fin 16) (s : State) : Host.Outcome State Fault Refusal :=
  .next (s.skmWhen e 6 (fun t =>
    let g := (t.skm e).cands.headD 0
    t.when (t.skmTaken e && t.locked (t.lead e)) (fun u =>
      (u.skmEvent e 0).skmResult e g true (g + u.fld (R.SKM_ENG_CFG e) F.SKM_ENG_CFG_COUNT * 2 ^ 8 + 2 ^ 15))))

/-- SKM_LANES_UP (R416). -/
def execSkmLanesUp (e : Fin 16) (s : State) : Host.Outcome State Fault Refusal :=
  .next (s.skmWhen e 8 (fun t => t.when ((t.skmLanes e).all (fun n => t.locked n)) (fun u => (u.skmGo e 9).skmEvent e 1)))

/-- SKM_UP_TIMEOUT (R416, R421). -/
def execSkmUpTimeout (e : Fin 16) (s : State) : Host.Outcome State Fault Refusal :=
  .next (s.skmWhen e 8 (fun t =>
    let st := R.SKM_ENG_STAT e
    let g := (t.skm e).gen
    let u := t.setFld st F.SKM_ENG_STAT_FAILED_GEN (t.fld st F.SKM_ENG_STAT_FAILED_GEN ||| 2 ^ (g - 1))
    (((u.skmRecord e 0x41 g 0)).skmEvent e 3).skmBackoff e))

/-- SKM_REMOVAL_TIMEOUT (R416). -/
def execSkmRemovalTimeout (e : Fin 16) (s : State) : Host.Outcome State Fault Refusal :=
  .next (s.when (2 ≤ s.skmState e && s.skmRuns && s.los (s.lead e)) (fun t =>
    (t.when (t.skmState e == 9) (fun u => u.skmEvent e 2)).skmDetect e))

/-- SKM_RENEG_TIMEOUT (R416). -/
def execSkmRenegTimeout (e : Fin 16) (s : State) : Host.Outcome State Fault Refusal :=
  .next (s.skmWhen e 9 (fun t => t.when (!t.locked (t.lead e)) (fun u => (u.skmEvent e 2).skmBackoff e)))

/-- SKM_ABORT_TIMEOUT (R416): the transmitter goes to electrical idle in FAILED. -/
def execSkmAbortTimeout (e : Fin 16) (s : State) : Host.Outcome State Fault Refusal :=
  .next (s.skmWhen e 0xB (fun t => t.setSkm e { t.skm e with abort := false }))

end Sys2Proof.Machine
end

