-- ==== Sys2Proof/Machine/Fire.lean ====
section
/-! DEFINITION. Fire.lean: binding, arming, the firing gate, the firing edge and holds (07_twin_planes_and_firing.md). -/

namespace Sys2Proof.Machine

/-! ## Refused control writes -/

/-- A control write is refused (R237, R238): the flag of the region. -/
def State.ctrlFlag (s : State) (r : Nat) : State :=
  if s.rgnDefined r then s.setFlag (R.CFG_RGN_STAT r) F.CFG_RGN_STAT_CTRL_REFUSED true else s

/-- The same with a record of source 23 (R235, R236, R255). -/
def State.ctrlRefuse (s : State) (r : Nat) : State := (s.ctrlFlag r).report r ⟨23, 0, 0x02, r * 2 ^ 16⟩

/-! ## Binding (R235, R236) -/

/-- The binding register and bit of a block for region `r`. -/
def bindBit (r : Nat) : Bound → Nat × Nat
  | .quad q => (if q.val < 32 then R.CFG_BIND_QUAD_LO r else R.CFG_BIND_QUAD_HI r, q % 32)
  | .group g => (R.CFG_BIND_GROUP r, g)
  | .ni e => (R.CFG_BIND_NI r (e / 32), e % 32)
  | .probe k => (R.CFG_BIND_PRB r, k)

/-- A block is bound to region `r`. -/
def State.isBound (s : State) (r : Nat) (b : Bound) : Bool := s.rgnDefined r && s.bit (bindBit r b).1 (bindBit r b).2

/-- The region that a block is bound to. -/
def State.boundTo (s : State) (b : Bound) : Option Nat := (List.range 32).find? (fun r => s.isBound r b)

/-- The armed region that a block is bound to: an APPLY write to the block is ignored (R236). -/
def State.armedFor (s : State) (b : Bound) : Option Nat := (s.boundTo b).filter (fun r => s.shadow r == 3)

/-- Every block. -/
def allBounds : List Bound :=
  (List.finRange 36).map .quad ++ (List.finRange 16).map .group ++ (List.finRange 256).map .ni ++
    (List.finRange 32).map .probe

/-- The binding registers of a region in the same place as `off`, for the other regions. -/
def otherBinds (off : Nat) : List Nat :=
  let base := off - 0x20 * regionOfReg off
  ((List.range 32).map (fun r => base + 0x20 * r)).filter (fun o => o != off)

/-- A binding write (R235): refused where the region is armed or a block is bound to another region. -/
def State.bindWrite (s : State) (off : Nat) (v : Word) : State :=
  let r := regionOfReg off
  if !s.rgnDefined r then s
  else if s.shadow r = 3 ||
      (otherBinds off).any (fun o => s.rgnDefined (regionOfReg o) && (s.reg o &&& v) != 0) then s.ctrlRefuse r
  else (s.rawWrite true off v).1

/-- A write of CFG_RGN_GEN (R238). -/
def State.genWrite (s : State) (r : Nat) (v : Word) : State :=
  if !s.rgnDefined r then s
  else if s.shadow r = 3 then s.ctrlFlag r
  else s.setFld (R.CFG_RGN_GEN r) F.CFG_RGN_GEN_SHD_GEN (v.fget F.CFG_RGN_GEN_SHD_GEN)

/-! ## Arming (R237) -/

/-- A write to CFG_ARM that has no effect: both bits, or a region not in the state that the bit needs. -/
def State.armRefused (s : State) (v : Word) : Bool :=
  let r := v.fget F.CFG_ARM_REGION
  s.rgnDefined r && ((v.getLsbD 31 && (v.getLsbD 30 || s.shadow r != 2)) || (v.getLsbD 30 && s.shadow r != 3))

/-- The ARM and DISARM bits of a write to CFG_ARM. -/
def State.armAct (s : State) (v : Word) : State :=
  let r := v.fget F.CFG_ARM_REGION
  if !s.rgnDefined r then s
  else if s.armRefused v then s.ctrlFlag r
  else if v.getLsbD 31 then s.setShadow r 3
  else if v.getLsbD 30 then s.setShadow r 2
  else s

/-! ## Holds (R248, R255, R645) -/


/-- Holds of regions begin together: keepers take what their lines carry, boundary and user I/O cells take their values as they are
just before, HELD is set, and control-cycle starts that wait there are dropped (R142, R248, R249). -/
def State.holdAll (s : State) (rs : List Nat) : State :=
  let new := rs.filter (fun r => !s.rgnHeld r)
  if new.isEmpty then s
  else
    let pre := s.forEach ((new.flatMap (fun r => s.rgnSectors r)).eraseDups) (fun t k => t.keepLines k)
    let t := pre.forEach new (fun t r => t.holdCells pre r)
    (t.forEach new (fun t r => t.setFlag (R.CFG_RGN_STAT r) F.CFG_RGN_STAT_HELD true)).dropStarts

/-- The level of user line `u` as the controller sees it (R581). -/
def State.userLevel (s : State) (u : Nat) : Bool :=
  s.ic.userHigh.has (512 + u) && !s.heldIn (s.lineRegion u) && !s.bit R.SYS_PD_STAT (u / 16) &&
    4 ≤ s.fld R.CFG_BOOT_STAT F.CFG_BOOT_STAT_STEP

/-- The user lines whose level rises from the state `pre` raise their sources (R581, R583). -/
def State.linesRise (s pre : State) : State :=
  s.forEach (s.ic.userHigh.filter (fun n => !pre.userLevel (n - 512) && s.userLevel (n - 512)))
    (fun t n => if t.isPulse n then t.raise n else t.high n)

/-- HELD follows the reasons for a hold: minimum hold, a hold until RELEASE, a sector powering down. At its end the boundary cells are
transparent (R249). -/
def State.settleHold (s : State) (r : Nat) : State :=
  let x := s.rg r
  if x.minHold || x.post || (s.rgnSectors r).any (fun k => s.secGoing k) then s.holdAll [r]
  else s.when (s.rgnHeld r) (fun t => (t.setFlag (R.CFG_RGN_STAT r) F.CFG_RGN_STAT_HELD false).freeCells.linesRise s)

/-- A hold-load stream runs for a region. -/
def State.streaming (s : State) (r : Nat) : Bool :=
  match s.boot.hold with
  | some h => h.region == r
  | none => false

/-- A write to CFG_HOLD that is ignored and logged (R255). -/
def State.holdIgnored (s : State) (v : Word) : Bool :=
  let r := v.fget F.CFG_HOLD_REGION
  v.getLsbD 31 && (v.getLsbD 30 || (s.rgnDefined r && s.streaming r))

/-- The RELEASE and ENTER bits of a write to CFG_HOLD (R255). -/
def State.holdAct (s : State) (v : Word) : State :=
  let r := v.fget F.CFG_HOLD_REGION
  let x := s.rg r
  if s.holdIgnored v then s.ctrlRefuse r
  else if !s.rgnDefined r then s
  else match v.getLsbD 31, v.getLsbD 30 with
    | true, _ =>
      if x.minHold then s.setRg r { x with keptRel := true }
      else (s.setRg r { x with post := false }).settleHold r
    | false, true => (s.setRg r { x with post := true }).settleHold r
    | false, false => s

/-! ## Sector power (R645-R647) -/

/-- Step 1 of a power-down, once no firing or stream of the sector's regions is under way, or the start of a power-up; nothing
while the sector is in transition (R647). -/
def State.pdSettle (s : State) (k : Nat) : State :=
  let rs := (List.range 32).filter (fun r => (s.rgnSectors r).contains k)
  let down := s.bit R.SYS_PD_STAT k
  if s.bit R.SYS_PD_BUSY k || s.bit R.SYS_PD_REQ k == down then s
  else if down then s.setBit R.SYS_PD_BUSY k true
  else if rs.any (fun r => (s.rg r).minHold || s.streaming r) then s
  else (((s.setBit R.SYS_PD_BUSY k true).forEach rs (fun t r => t.settleHold r)).fenceStart (2 * k)).fenceStart (2 * k + 1)

/-- Settle every sector. -/
def State.pdSettleAll (s : State) : State := s.forEach (List.range 32) (fun t k => t.pdSettle k)

/-- A fabric PLL feeds a leaf network of some sector. -/
def State.feeds (s : State) (k : Nat) : Bool :=
  s.act.clk.any (fun q => (List.range 16).any (fun n => match s.leafRoot q.1 n with
    | .fpll p _ => p == k
    | _ => false))

/-- A leaf gate that the firing of a region closed for a relock has not reopened (R156, R247). -/
def State.relocking (s : State) (r : Nat) : Bool := (s.rgnSectors r).any (fun k => s.fab.relock.has k && s.feeds k)

/-- MINIMUM_HOLD_END (R247, R255): eight edges after the firing, unless a relock or a stream extends the hold. -/
def execMinimumHoldEnd (r : Fin 32) (s : State) : Host.Outcome State Fault Refusal :=
  let x := s.rg r
  .next (if !x.minHold || s.streaming r || s.relocking r then s
    else (((s.setRg r { x with minHold := false, keptRel := false, post := x.post && !x.keptRel }).settleHold r).pulse
      20).pdSettleAll)

/-! ## The firing gate (R239-R243) -/

/-- The regions in a mask. -/
def maskRegions (v : Word) : List Nat := (List.range 32).filter (fun r => v.getLsbD r)

/-- A GO write to CFG_FIRE (R239); the registers already hold the write's fields. -/
def State.fireAct (s : State) (v : Word) : State :=
  if !v.getLsbD 31 then s
  else s.gatePush ⟨if s.flag R.CFG_FIRE F.CFG_FIRE_USE_MASK then maskRegions (s.reg R.CFG_FIRE_MASK)
    else [s.fld R.CFG_FIRE F.CFG_FIRE_REGION], 1, none, []⟩

/-- FIRE_STROBE_EDGE (R239, R245): a rising edge at the pin; a region in its minimum hold when it arrives refuses it. -/
def execFireStrobeEdge (s : State) : Host.Outcome State Fault Refusal :=
  let rs := (List.range 32).filter (fun r => s.rgnDefined r && s.flag (R.CFG_RGN_CTRL r) F.CFG_RGN_CTRL_STROBE_EN)
  .next (if rs.isEmpty then s else s.gatePush ⟨rs, 2, none, rs.filter (fun r => (s.rg r).minHold)⟩)

/-- What the gate says to a request for a region (R240). -/
inductive Verdict where
  | accept
  | same
  | refuse (reason : Nat)
  deriving DecidableEq, Repr

/-- The verdict on a request: the lowest-numbered reason where several hold (notes/assumptions/15.md). -/
def State.verdict (s : State) (q : FireReq) (r : Nat) : Verdict :=
  let gen := s.reg (R.CFG_RGN_GEN r)
  let same : Bool := match q.skm with
    | some (_, g) => s.rgnDefined r && gen.fget F.CFG_RGN_GEN_ACT_GEN == g
    | none => false
  let wrongGen : Bool := match q.skm with
    | some (_, g) => gen.fget F.CFG_RGN_GEN_SHD_GEN != g
    | none => false
  if same then .same
  else if !s.user then .refuse 1
  else if !s.rgnDefined r || s.shadow r != 3 then .refuse 2
  else if (s.rg r).minHold || q.held.has r || s.streaming r then .refuse 3
  else if wrongGen then .refuse 4
  else if (s.rgnSectors r).any (fun k => s.secGoing k || s.bit R.SYS_PD_REQ k) then .refuse 5
  else if s.halted then .refuse 6
  else .accept

/-- The requests for a region on an edge. -/
def reqsFor (l : List FireReq) (r : Nat) : List FireReq := l.filter (fun q => q.regions.contains r)

/-- The source bits of requests (R241, R242). -/
def srcBits (l : List FireReq) : Nat := l.foldl (fun a q => a ||| q.src) 0

/-- Record a refusal (R241). -/
def State.refuseRecord (s : State) (r reason bits : Nat) : State :=
  (s.when (s.rgnDefined r) (fun t => t.setFld (R.CFG_RGN_STAT r) F.CFG_RGN_STAT_REFUSE reason)).report r
    ⟨21, 0, 0x02, reason * 2 ^ 24 + r * 2 ^ 16 + bits⟩

/-- Refuse a region's requests on an edge: reason 0x06 is kept until the halt ends (R241). -/
def State.refuseAt (s : State) (r reason bits : Nat) : State :=
  if reason = 6 then { s with gate := { s.gate with kept := s.gate.kept ++ [(r, bits)] } } else s.refuseRecord r reason bits

/-- The refusals of a halt are recorded at its end (R241). -/
def State.gateResume (s : State) : State :=
  ({ s with gate := { s.gate with kept := [] } }).forEach s.gate.kept (fun t p => t.refuseRecord p.1 6 p.2)

/-! ## The firing edge (R246-R254) -/

/-- The frames of a region leave the scrubber's refetch queue, and its flag clears; findings of it, corrections and a refetch under
way are abandoned (R253, R287). -/
def State.scrubForget (s : State) (r : Nat) : State :=
  let out := fun (k : Nat) => s.frameRegion k != some r
  let mine : Bool := match s.scrub.fetched with
    | some x => !out x.1
    | none => false
  let t := { s with scrub := { s.scrub with queue := s.scrub.queue.filter (fun q => out q.1)
                                            lost := s.scrub.lost.filter (fun q => out q.1)
                                            look := s.scrub.look.filter (fun f => out f.key)
                                            fetched := if mine then none else s.scrub.fetched } }
  (t.when mine (fun t => t.setFlag R.SCR_STAT F.SCR_STAT_RF_BUSY false)).setBit R.SCR_RGN_FLAG r false

/-- A capture whose blocks lie in the region ends in ABORTED (R84). -/
def State.fireProbes (s : State) (r : Nat) : State :=
  s.forEach (List.range 32) (fun t k =>
    let p := t.probe k
    t.when ((List.range (p.count + 1)).any (fun i => t.blockRegion (256 * k + (p.first + i) % 256) == some r))
      (fun u => u.prbAbort k))

/-- One region, already held, fires: planes, records and generations exchange, the minimum hold begins. -/
def State.fireRegion (s : State) (r : Nat) : State :=
  let c := R.CFG_RGN_CTRL r
  let init := s.flag c F.CFG_RGN_CTRL_MODE
  let gen := R.CFG_RGN_GEN r
  let a := s.fld gen F.CFG_RGN_GEN_ACT_GEN
  let b := s.fld gen F.CFG_RGN_GEN_SHD_GEN
  let x := s.rg r
  let s1 := ((((s.fireProbes r).fireFabric r init).fireFfs r init).fireClocks r).swapPlanes r
  let s2 := s1.setRg r { minHold := true, keptRel := false, post := s.flag c F.CFG_RGN_CTRL_POST_HOLD, act := x.shd
                         shd := x.act }
  let s3 := (s2.setFld gen F.CFG_RGN_GEN_ACT_GEN b).setFld gen F.CFG_RGN_GEN_SHD_GEN a
  let map := R.SCR_RGN_MAP r
  let ma := s.fld map F.SCR_RGN_MAP_ACT_MAP
  let s4 := (s3.setFld map F.SCR_RGN_MAP_ACT_MAP (s.fld map F.SCR_RGN_MAP_SHD_MAP)).setFld map F.SCR_RGN_MAP_SHD_MAP ma
  let s5 := (s4.setShadow r (if s.flag c F.CFG_RGN_CTRL_AUTO_REARM then 3 else 2)).countWrap (R.CFG_RGN_COUNT r)
    F.CFG_RGN_COUNT_FIRINGS 1
  s5.scrubForget r

/-- A tile or the clock frames of a sector belong to a region: they swap when it fires (R218, R254). -/
def State.swapsIn (s : State) (r k : Nat) : Bool :=
  (s.rgnSectors r).contains k &&
    ((List.range 640).any (fun i => s.tileRegion k (i % 32) (i / 32) == some r) || s.frameRegion (mkKey k 0 0 124) == some r)

/-- Set the 64-bit fire time (R254). -/
def State.fireTime (s : State) : State :=
  (s.setReg R.CFG_FIRE_TIME_LO (BitVec.ofNat 32 s.td0)).setReg R.CFG_FIRE_TIME_HI (BitVec.ofNat 32 (s.td0 / 2 ^ 32))

/-- A Skemer engine learns what became of its request (R420): the release waits for a crossing of R251; without a bound
quad it takes effect at the firing. -/
def State.skmFired (s : State) (fired : List Nat) (q : FireReq) : State :=
  match q.skm with
  | none => s
  | some (e, _) =>
    let mine := q.regions.filter (fun r => fired.contains r)
    let rs := q.regions.map (fun r => s.verdict q r)
    if s.skmState e != 7 then s
    else if !mine.isEmpty then
      if allBounds.any (fun b => mine.any (fun r => s.isBound r b)) then s.setSkm e { s.skm e with rel := true }
      else s.skmRelease e
    else if rs.all (fun v => match v with | .refuse _ => true | _ => false) then s.skmEvent e 5
    else s

/-- The route tables of a network interface are applied or exchange (R251). -/
def State.niTables (s : State) (e : Nat) (f : State → Nat → State) : State :=
  let b := 0x500000 + 0x1000 * e
  s.forEach (s.touched (b + 0x800) (b + 0x1000)) f

/-- A firing names a block (R74, R251): its staged and in-effect values exchange on the firing edge; a sector's probe block acts on
them as on an APPLY, every other block at its crossing. -/
def State.fireBound (s : State) (b : Bound) : State :=
  match b with
  | .quad q => { s.quadSet q State.exchangeReg with cross := s.cross ++ [b] }
  | .group g => { s.grpFire g with cross := s.cross ++ [b] }
  | .ni e => { s.niTables e State.exchangeReg with cross := s.cross ++ [b] }
  | .probe k => s.prbApply k State.exchangeReg

/-- The refusals of an edge (R241): one record for each region refused, with the sources of all its requests. -/
def State.fireRefuse (s pre : State) (reqs : List FireReq) (r : Nat) : State :=
  let mine := reqsFor reqs r
  match (mine.filterMap (fun q => match pre.verdict q r with | .refuse n => some n | _ => none)).min? with
  | some n => s.refuseAt r n (srcBits mine)
  | none => s

/-- FIRING (R240-R247, R251, R254): the gate judges every request of one configuration-clock edge; the regions accepted fire
together. -/
def execFiring (s : State) : Host.Outcome State Fault Refusal :=
  let reqs := s.gate.reqs
  let regions := (List.range 32).filter (fun r => reqs.any (fun q => q.regions.contains r))
  let fired := regions.filter (fun r => (reqsFor reqs r).any (fun q => s.verdict q r == .accept))
  let t0 := { s with gate := { s.gate with reqs := [] } }
  let t1 := t0.forEach regions (fun t r => t.fireRefuse s reqs r)
  let t2 := reqs.foldl (fun t q => t.skmFired fired q) t1
  .next (if fired.isEmpty then t2
    else
      let bound := allBounds.filter (fun b => fired.any (fun r => s.isBound r b))
      let t3 := (t2.holdAll fired).forEach fired (fun t r => t.fireRegion r)
      let t3 := (t3.forEach bound (fun t b => t.fireBound b)).dropStarts
      let sectors := (List.range 32).filter (fun k => fired.any (fun r => s.swapsIn r k))
      let t4 := t3.forEach sectors (fun t k => t.countWrap (R.FAB_PLANE_FIRES k) F.FAB_PLANE_FIRES_COUNT 1)
      let t5 := (t4.countWrap R.CFG_FIRE_LAST F.CFG_FIRE_LAST_SEQ 1).setFld R.CFG_FIRE_LAST F.CFG_FIRE_LAST_SRC
        (srcBits (reqs.filter (fun q => q.regions.any (fun r => fired.contains r && s.verdict q r == .accept))))
      (t5.setReg R.CFG_FIRE_LAST_MASK (NSet.bits fired 0)).fireTime)

/-- FIRING_CROSSING (R251, R252): a bound block acts on the values that the firing has exchanged. -/
def execFiringCrossing (b : Bound) (s : State) : Host.Outcome State Fault Refusal :=
  .next (if !s.cross.contains b then s
    else
      let t := { s with cross := s.cross.erase b }
      let u := match b with
        | .quad q => t.quadAct q
        | .group g => t.grpAct g
        | .ni _ => t
        | .probe _ => t
      u.skmCrossed)

end Sys2Proof.Machine
end

