-- ==== Sys2Proof/Machine/Pad.lean ====
section
/-! DEFINITION. Pad.lean: the scratchpad with its march engine (R518-R527), and the bytes of memory and boot flash as the
configuration controller reads them (R171-R173, R224, R256). -/

namespace Sys2Proof.Machine

/-! ## Scratchpad words -/

/-- A zero word with correct check bits (R518). -/
def padZero : BmWord := ⟨0, true, []⟩

/-- The words of the scratchpad, and the first word of the shared region and of the saggar (R521). -/
def padWords : Nat := 524288
def padShared : Nat := 262144
def padSaggar : Nat := 491520

/-- A word of the scratchpad. -/
def State.padWord (s : State) (w : Nat) : BmWord := Tbl.get (fun _ => padZero) s.pad.words w

/-- Set it. -/
def State.setPadWord (s : State) (w : Nat) (x : BmWord) : State :=
  { s with pad := { s.pad with words := Tbl.set (fun _ => padZero) s.pad.words w x } }

/-- A word written whole with new check bits. -/
def padFresh (d : BitVec 64) : BmWord := ⟨d.setWidth 72, true, []⟩

/-- What the decoder gives of a word (R523): 64 bits and 0 good, 1 corrected, 2 double-bit error. -/
def State.padDecode (s : State) (w : Nat) : BitVec 64 × Nat :=
  let r := (s.padWord w).read true 3
  (r.1.setWidth 64, if r.2.2 then 2 else if r.2.1 then 1 else 0)

/-- A record of source 48 (R523, R524): severity, type and word index. -/
def State.padRecord (s : State) (sev type w : Nat) : State := s.report 0 ⟨48, sev, 0x16, type * 2 ^ 30 + w % 2 ^ 19⟩

/-- Inversions of stored bits that came before an access. -/
def State.padUpset (s : State) (w : Nat) (up : List Nat) : State :=
  up.foldl (fun t i =>
    let x := t.padWord w
    t.setPadWord w { x with flips := NSet.put x.flips (i % 72) (!x.flips.has (i % 72)) }) s

/-- Read a word (R523): a single-bit error is corrected in place and recorded; a double-bit error is recorded, UE for the
core and DE for the network. -/
def State.padRead (s : State) (core : Bool) (w : Nat) : BitVec 64 × Bool × State :=
  let r := s.padDecode w
  match r.2 with
  | 0 => (r.1, false, s)
  | 1 => (r.1, false, (s.setPadWord w (padFresh r.1)).padRecord 0 1 w)
  | _ => (r.1, true, s.padRecord (if core then 2 else 1) 2 w)

/-- Write bytes `off` to `off + bytes.length - 1` of a word (R522): a word covered in part is read first. -/
def State.padWrite (s : State) (core : Bool) (w off : Nat) (bytes : List Byte) : State :=
  if bytes.isEmpty then s
  else if off = 0 && 8 ≤ bytes.length then s.setPadWord w (padFresh (BitVec.ofNat 64 (leNat (bytes.take 8))))
  else
    let r := s.padRead core w
    let old := bytes64 r.1
    let d := (List.range 8).map (fun i => if off ≤ i && i < off + bytes.length then bytes.getD (i - off) 0 else old.getD i 0)
    r.2.2.setPadWord w (padFresh (BitVec.ofNat 64 (leNat d)))

/-- Read `k` bytes from byte `a` on: the bytes, whether a double-bit error was among them, and the state. -/
def State.padReadBytes (s : State) (core : Bool) (a k : Nat) : List Byte × Bool × State :=
  let ws := (List.range ((a + k + 7) / 8 - a / 8)).map (fun i => a / 8 + i)
  let r := ws.foldl (fun (x : List Byte × Bool × State) w =>
    let q := x.2.2.padRead core w
    (x.1 ++ bytes64 q.1, x.2.1 || q.2.1, q.2.2)) ([], false, s)
  (sliceBytes r.1 (a % 8) k, r.2.1, r.2.2)

/-- Write bytes from byte `a` on, word by word. -/
def State.padWriteBytes (s : State) (core : Bool) (a : Nat) (bytes : List Byte) : State :=
  let ws := (List.range ((a + bytes.length + 7) / 8 - a / 8)).map (fun i => a / 8 + i)
  s.forEach ws (fun t w =>
    let lo := max a (8 * w)
    let hi := min (a + bytes.length) (8 * w + 8)
    t.padWrite core w (lo - 8 * w) ((bytes.drop (lo - a)).take (hi - lo)))

/-- Every word zero with correct check bits (R518, R622). -/
def State.padClear (s : State) : State := { s with pad := { s.pad with words := [], march := none } }

/-- The words of the saggar zero with correct check bits (R525, R564). -/
def State.padWipe (s : State) : State :=
  { s with pad := { s.pad with words := s.pad.words.filter (fun p => p.1 < padSaggar) } }

/-! ## The march engine -/

/-- A word lies in the march slice under way (R526), or in the saggar while it is wiped (R564). -/
def State.padBusy (s : State) (w : Nat) : Bool :=
  (match s.pad.march with
   | some m => m.first ≤ w && w < m.first + m.size
   | none => false) || (s.sec.wiping && padSaggar ≤ w)

/-- What a slice leaves (R523-R525): PRESERVING copies each word through the decoder, and writes the data back with new check
bits; DESTROYING leaves zero. Every word that `bad` names read differently from its background. -/
def State.marchSlice (s : State) (m : March) (bad : List Nat) : State :=
  let ws := (List.range m.size).map (fun i => m.first + i)
  let touched := ws.filter (fun w => s.pad.words.any (fun p => p.1 == w))
  let t := s.forEach touched (fun t w =>
    if m.preserve then
      let r := t.padRead true w
      r.2.2.setPadWord w (padFresh r.1)
    else t.setPadWord w padZero)
  t.forEach (bad.filter (fun w => m.first ≤ w && w < m.first + m.size)) (fun t w => t.padRecord 2 3 w)

/-- How a scratchpad slice of the self-test controller stands. -/
def State.setMarch (s : State) (st : Nat) : State :=
  { s with ist := { s.ist with slices := s.ist.slices.map (fun x => if x.tgt = 0 then { x with march := st } else x) } }

/-- MARCH_SLICE_DONE (R524, R525): the slice under way ends; `bad` are the words whose reads differed. The engine stops
during a halt (R615, R631). -/
def execMarchSliceDone (bad : List (Fin 524288)) (s : State) : Host.Outcome State Fault Refusal :=
  .next (match s.pad.march with
    | none => s
    | some m =>
      if s.halted then s
      else
        let mine := (bad.map (fun w => w.val)).filter (fun w => m.first ≤ w && w < m.first + m.size)
        let t := s.marchSlice m mine
        ({ t with pad := { t.pad with march := none } }).setMarch (if mine.isEmpty then 1 else 2))

/-- A byte lies in the handler window (R526). -/
def State.inWindow (s : State) (a : Nat) : Bool :=
  match s.pad.window with
  | some (b, k) => b ≤ a && a < b + k
  | none => false

/-- MARCH_SLICE_YIELD (R527): a core access to a word of the handler window makes the PRESERVING slice that holds it write the
saved data back and end; it logs no record of a march mismatch. -/
def execMarchSliceYield (w : Fin 524288) (s : State) : Host.Outcome State Fault Refusal :=
  .next (match s.pad.march with
    | none => s
    | some m =>
      if m.preserve && s.inWindow (8 * w) && s.padBusy w && !s.halted then
        let t := s.marchSlice m []
        ({ t with pad := { t.pad with march := none } }).setMarch 3
      else s)

/-- SCRATCHPAD_ACCESS (R522, R523, R526): a word access of the core over its private port, after the inversions given; a bus error
gives no data. An
access to a word of a running slice waits; so does every access during a halt (R631). -/
def execScratchpadAccess (op : PadOp) (upset : List (Fin 72)) (s : State) : Host.Outcome State Fault Refusal :=
  .next (if s.halted then s
    else match op with
    | .window base log => { s with pad := { s.pad with
        window := if 12 ≤ log && log ≤ 18 then some (base * 2 ^ log % 2 ^ 22, 2 ^ log) else s.pad.window } }
    | .read w =>
      if s.padBusy w then s
      else
        let r := (s.padUpset w (upset.map (fun i => i.val))).padRead true w
        { r.2.2 with out := if r.2.1 then [] else bytes64 r.1 }
    | .write w off bytes =>
      if s.padBusy w then s
      else (s.padUpset w (upset.map (fun i => i.val))).padWrite true w off (bytes.take (8 - off)))

/-! ## Bytes as the configuration controller reads them -/

/-- The CSR, scratchpad and RLD parts of the NoC address space (R36, R39). -/
def padBase : Nat := 0x030010000000
def csrBase : Nat := 0x030000000000

/-- A byte of RLD memory (R472): none where no channel serves it, its page is retired, or its word holds a double-bit error. -/
def State.rldByte (s : State) (a : Nat) : Option Byte :=
  match rldMap (s.reg R.MC_MAP_CTRL) (s.reg R.MC_MAP_CH) a with
  | none => none
  | some (c, l) =>
    let st := s.mcState c
    if st < 3 || 6 < st || s.retired c (l / 64) then none
    else
      let r := s.rldRead c (l / 64) (l % 64 / 8)
      if r.2 = 2 then none else some ((bytes64 r.1).getD (l % 8) 0)

/-- An address lies in the shared region of the scratchpad (R521). -/
def inShared (a : Nat) : Bool := padBase + 8 * padShared ≤ a && a < padBase + 8 * padSaggar

/-- An address lies in RLD memory as the map in effect lays it out. -/
def State.inRld (s : State) (a : Nat) : Bool := (rldMap (s.reg R.MC_MAP_CTRL) (s.reg R.MC_MAP_CH) a).isSome

/-- A byte that the configuration controller reads over the network (R224, R256). -/
def State.memByte (s : State) (a : Nat) : Option Byte :=
  if inShared a then
    let r := s.padDecode ((a - padBase) / 8)
    if r.2 = 2 then none else some ((bytes64 r.1).getD (a % 8) 0)
  else s.rldByte a

/-- A packet of endpoint-to-endpoint traffic gets through from router `n` along a route to endpoint `d` (R306, R321, R326, R327). -/
def State.travels (s : State) : Nat → Nat → Nat → Nat → Bool
  | 0, _, _, _ => false
  | k + 1, n, route, d =>
    let port := route % 16
    s.portUp n port &&
      (if port < 8 then endpointOn n port == some d
       else match linkOf n port with
         | some m => s.travels k m (route / 16 + 15 * 2 ^ 44) d
         | none => false)

/-- The configuration controller's interface has its requests to an endpoint performed and their responses back (R27, R308, R316). -/
def State.cfgAsks (s : State) (d : Nat) : Bool :=
  s.niOn 0x69 && s.niOn d && s.travels 13 (routerOf 0x69) (s.niRouteOf 0x69 d) d &&
    s.travels 13 (routerOf d) (s.niRouteOf d 0x69) 0x69

/-- The endpoints that a range of addresses asks. -/
def State.memPorts (s : State) (a k : Nat) : List Nat :=
  if inShared a then [0x6A]
  else ((List.range ((a + k + 63) / 64 - a / 64)).filterMap (fun i =>
    match s.rldDest 0x69 (a / 64 * 64 + 64 * i) 0 with
    | .endp d _ => some d
    | _ => none)).eraseDups

/-- Bytes that the configuration controller fetches over the network (R27): none where one of its requests fails. -/
def State.memBytes (s : State) (a k : Nat) : Option (List Byte) :=
  if (s.memPorts a k).all (fun d => s.cfgAsks d) then (List.range k).mapM (fun i => s.memByte (a + i)) else none

/-- What a fetch over the network leaves at its targets (R488, R523): counts, records, and corrections of scratchpad words. -/
def State.memNotice (s : State) (a k : Nat) : State :=
  if !(s.memPorts a k).all (fun d => s.cfgAsks d) then s
  else s.forEach (List.range ((a + k + 7) / 8 - a / 8)) (fun t i =>
    let b := a / 8 * 8 + 8 * i
    if inShared b then (t.padRead false ((b - padBase) / 8)).2.2
    else match rldMap (t.reg R.MC_MAP_CTRL) (t.reg R.MC_MAP_CH) b with
      | none => t
      | some (c, l) =>
        let r := t.rldRead c (l / 64) (l % 64 / 8)
        if r.2 = 0 then t else (t.mcMemory c r.2 (l % 64 / 8) (l / 64)).mcFreezeUe c (r.2 == 2))

/-- A range lies wholly within RLD memory or wholly within the shared region (R224). -/
def State.memRange (s : State) (a k : Nat) : Bool :=
  (inShared a && inShared (a + k - 1)) || (!inShared a && s.inRld a && s.inRld (a + k - 1))

/-- A flash device. -/
def State.flash (s : State) (dev : Nat) : Flash := if dev = 0 then s.boot.flash0 else s.boot.flash1

/-- A byte of flash; an unlisted one is erased. -/
def Flash.byte (f : Flash) (a : Nat) : Byte := Tbl.get (fun _ => 0xFF#8) f.bytes a

/-- Bytes of a flash device, or none where it does not answer (code 0x01). -/
def State.flashBytes (s : State) (dev a k : Nat) : Option (List Byte) :=
  if (s.flash dev).fitted then some ((List.range k).map (fun i => (s.flash dev).byte (a + i))) else none

/-- Bytes that a plane's or a load's source gives (R275): origin 1 flash, 2 the network. -/
def State.sourceBytes (s : State) (origin dev addr a k : Nat) : Option (List Byte) :=
  if origin = 1 then s.flashBytes dev (addr + a) k
  else if origin = 2 then s.memBytes (addr + a) k
  else none

/-- What the fetch of those bytes leaves where they came from. -/
def State.sourceNotice (s : State) (origin addr a k : Nat) : State := s.when (origin == 2) (fun t => t.memNotice (addr + a) k)

end Sys2Proof.Machine
end

