-- ==== Sys2Proof/Machine/Container.lean ====
section
/-! DEFINITION. Container.lean: the image directory and the bitstream container (R174-R187, R225, R552-R558). -/

namespace Sys2Proof.Machine

/-! ## Fuses as the checks read them (R550-R552, R563) -/

/-- The life-cycle state: 0 BLANK, 1 DEVELOP, 2 DEPLOY, 3 RETURN (R551). -/
def State.lc (s : State) : Nat :=
  if s.fuses.lc.testBit 2 then 3 else if s.fuses.lc.testBit 1 then 2 else if s.fuses.lc.testBit 0 then 1 else 0

/-- A fuse field whose read-back differed is never used (R563). -/
def State.fuseGood (s : State) (field : Nat) : Bool := !s.fuses.bad.has field

/-- The digest of an owner-key slot that may be used: programmed, read back well and not revoked. -/
def State.ownerKey (s : State) (n : Nat) : Option Nat :=
  if n < 4 && s.fuses.okeyP.testBit n && !s.fuses.orev.testBit n && s.fuseGood (0x10 + n) then
    some (Tbl.get (fun _ => 0) s.fuses.okey n)
  else none

/-- Bitstream keys are unusable (R560). -/
def State.bkOff (s : State) : Bool := s.lc == 3 || s.flag R.SEC_STAT F.SEC_STAT_BK_OFF

/-- The bitstream key that a selector names (R558). -/
def State.bitstreamKey (s : State) (sel : Nat) : Option Nat :=
  if (sel = 1 || sel = 2) && s.fuses.bkP.testBit (sel - 1) && s.fuseGood (0x30 + sel - 1) && !s.bkOff then
    some (Tbl.get (fun _ => 0) s.fuses.bk (sel - 1))
  else none

/-! ## The image directory (R174-R179) -/

/-- The bytes of a digest, in the order in which a container stores them. -/
def digBytes (d : BitVec 256) : List Byte := leBytes 32 d.toNat

/-- A little-endian field of a byte string (R9). -/
def leAt (l : List Byte) (o k : Nat) : Nat := leNat (sliceBytes l o k)

/-- An entry of a directory (R175). -/
structure DirEntry where
  kind : Nat
  role : Nat
  dev : Nat
  addr : Nat
  len : Nat
  id : Nat
  deriving DecidableEq, Repr

/-- A directory copy is valid (R176). -/
def dirValid (l : List Byte) : Bool :=
  leAt l 0 4 == 0x52494445 && leAt l 4 2 == 1 && leAt l 6 2 ≤ 126 &&
    Config.sha3 (sliceBytes l 0 0xFE0) == BitVec.ofNat 256 (leAt l 0xFE0 32)

/-- The bytes of directory copy `i`, in the order of CFG_DIR_SRC.USED (R177). -/
def State.dirCopy (s : State) (i : Nat) : Option (List Byte) := s.flashBytes (i / 2) (i % 2 * 0x10000) 4096

/-- Valid copies with their sequence numbers. -/
def State.dirCopies (s : State) : List (Nat × Nat × List Byte) :=
  (List.range 4).filterMap (fun i => match s.dirCopy i with
    | some l => if dirValid l then some (i, leAt l 8 4, l) else none
    | none => none)

/-- The highest of some numbers. -/
def maxOf (l : List Nat) : Nat := l.foldl max 0

/-- The copies that share the highest sequence number. -/
def State.dirBest (s : State) : List (Nat × Nat × List Byte) :=
  let c := s.dirCopies
  c.filter (fun x => x.2.1 == maxOf (c.map (fun y => y.2.1)))

/-- The entries of a directory copy, in order. -/
def dirEntries (l : List Byte) : List DirEntry :=
  (List.range (min 126 (leAt l 6 2))).map (fun i =>
    let o := 0x10 + 32 * i
    ⟨leAt l o 1, leAt l (o + 1) 1, leAt l (o + 2) 1, leAt l (o + 8) 8, leAt l (o + 16) 8, leAt l (o + 24) 8⟩)

/-- The entries of the directory in use (R176, R177). -/
def State.directory (s : State) : List DirEntry :=
  match s.dirBest with
  | [] => []
  | x :: _ => dirEntries x.2.2

/-- The first entry of a kind and role (R179). -/
def State.dirFind (s : State) (kind role : Nat) : Option DirEntry :=
  s.directory.find? (fun e => e.kind == kind && e.role == role)

/-- The device reads the directory: the CFG_DIR_ registers show what it found (R176, R177), and copies that differ under one
number are noted with source 18 (R177, R667). -/
def State.readDirectory (s : State) : State :=
  let best := s.dirBest
  let valid := (s.dirCopies.map (fun x => 2 ^ x.1)).sum
  match best with
  | [] => s.setReg R.CFG_DIR_SRC (BitVec.ofNat 32 valid)
  | x :: rest =>
    let t := (s.setReg R.CFG_DIR_SEQ (BitVec.ofNat 32 x.2.1)).setReg R.CFG_DIR_SRC (BitVec.ofNat 32 (valid + 16 * x.1))
    t.when (rest.any (fun y => y.2.2 != x.2.2)) (fun u =>
      u.report 0 ⟨18, 0, 0x01, 2 * 2 ^ 24 + 16 * x.1 + (best.map (fun y => 2 ^ y.1)).sum⟩)

/-! ## The container header (R180-R182) -/

/-- The header of 4,096 bytes. -/
def parseHeader (l : List Byte) : Header :=
  { flags := leAt l 0x0C 4, id := leAt l 0x18 8, ver := leAt l 0x20 4, kind := leAt l 0x24 1, slot := leAt l 0x25 1
    descs := (List.range (min 32 (leAt l 0x26 1))).map (fun i => sliceBytes l (0xC0 + 16 * i) 16)
    payLen := leAt l 0x28 8, payOff := leAt l 0x30 8, digOff := leAt l 0x38 8, blocks := leAt l 0x40 4
    mapOff := leAt l 0x48 8, mapLen := leAt l 0x50 8, mapDig := leAt l 0x58 32, tagOff := leAt l 0x78 8
    comp := leAt l 0x80 1, encAlg := leAt l 0x90 1, keySel := leAt l 0x91 1, iv := sliceBytes l 0x98 8
    conDig := 0, tabDig := 0 }

/-- Flags of a header (R181). -/
def Header.bound (h : Header) : Bool := h.flags.testBit 0
def Header.compressed (h : Header) : Bool := h.flags.testBit 1
def Header.encrypted (h : Header) : Bool := h.flags.testBit 2
def Header.holdLanes (h : Header) : Bool := h.flags.testBit 3

/-- The identity check (R186 check 1, R557): the failure code. -/
def State.identityCheck (s : State) (l : List Byte) : Option Nat :=
  let h := parseHeader l
  let ver := leAt l 4 2
  if leAt l 0 4 != 0x464D4C45 || (ver != 1 && ver != 2) || leAt l 6 2 != 0x1000 ||
      (ver == 1 && h.compressed && h.encrypted) || (h.kind == 3 && h.encrypted) then some 0x04
  else if leAt l 8 2 != 0xE981 || leAt l 0x0A 1 != 0x0E || s.board.rev < leAt l 0x0B 1 then some 0x05
  else none

/-- The parts behind the signature, as offset and length. -/
def Header.parts (h : Header) : List (Nat × Nat) :=
  [(h.digOff, 32 * h.blocks)] ++ (if h.encrypted then [(h.tagOff, 16 * h.blocks)] else []) ++ [(h.payOff, h.payLen)] ++
    (if h.kind = 3 then [] else [(h.mapOff, h.mapLen)])

/-- No two ranges share a byte. -/
def disjointParts : List (Nat × Nat) → Bool
  | [] => true
  | a :: r => r.all (fun b => a.1 + a.2 ≤ b.1 || b.1 + b.2 ≤ a.1 || a.2 = 0 || b.2 = 0) && disjointParts r

/-- The structure check (R186 check 1; notes/assumptions/17.md). -/
def Header.structureOk (h : Header) (total : Option Nat) : Bool :=
  h.blocks == (h.payLen + 2 ^ 20 - 1) / 2 ^ 20 && 0 < h.payLen && h.payOff % 4096 == 0 &&
    (h.encrypted || h.tagOff == 0) && (h.kind != 3 || h.mapLen == 0) &&
    h.parts.all (fun p => 0x2000 ≤ p.1 && (match total with | some n => p.1 + p.2 ≤ n | none => true)) &&
    disjointParts h.parts

/-- The bytes that checks 1 to 5 read beyond the header: the end of the tables. -/
def Header.tablesEnd (h : Header) : Nat :=
  max 0x2000 (max (h.digOff + 32 * h.blocks) (if h.encrypted then h.tagOff + 16 * h.blocks else 0))

/-! ## Region descriptors (R182, R217, R225) -/

/-- The CFG_RGN_DESC and CFG_RGN_SMASK values of a descriptor. -/
def descRegs (d : List Byte) : Nat × Nat :=
  let t := leAt d 1 1
  if t = 1 then
    ((((0 : Word).fput F.CFG_RGN_DESC_TYPE 1).fput F.CFG_RGN_DESC_SECTOR (leAt d 2 1)).fput F.CFG_RGN_DESC_TCOL_LO
      (leAt d 4 1) |>.fput F.CFG_RGN_DESC_TROW_LO (leAt d 5 1) |>.fput F.CFG_RGN_DESC_TCOL_HI (leAt d 6 1)
      |>.fput F.CFG_RGN_DESC_TROW_HI (leAt d 7 1)).toNat |> fun v => (v, 0)
  else if t = 2 then (((0 : Word).fput F.CFG_RGN_DESC_TYPE 2).toNat, leAt d 8 4)
  else (0, 0)

/-- A descriptor's region, flip-flop mode and generation tag (R238: a tag above 5 reads as 0). -/
def descRegion (d : List Byte) : Nat := leAt d 0 1
def descInit (d : List Byte) : Bool := leAt d 3 1 % 2 == 1
def descGen (d : List Byte) : Nat := let g := leAt d 12 1 % 16; if 5 < g then 0 else g

/-- The check of R225 between checks 2 and 3. -/
def State.descMatches (s : State) (h : Header) (region : Nat) : Bool :=
  match h.descs with
  | [d] =>
    descRegion d == region && s.rgnDefined region && descRegs d == ((s.reg (R.CFG_RGN_DESC region)).toNat,
      (s.reg (R.CFG_RGN_SMASK region)).toNat)
  | _ => false

/-! ## Checks 2 to 5 (R186, R225, R552, R555) -/

/-- Check 4. -/
def State.keyCheck (s : State) (h : Header) (pub : List Byte) : Bool :=
  if h.kind = 3 then
    h.slot < 2 && !s.fuses.vrev.testBit h.slot && Config.sha3 pub == Config.firmwareKey h.slot
  else s.lc == 0 || s.ownerKey h.slot == some (Config.sha3 pub).toNat

/-- Checks 2 to 5, for a load of a kind: the failure code. `region` is the region of a staging load, `dirId` the design ID of
the directory entry. -/
def State.headerChecks (s : State) (h : Header) (kind : Nat) (region : Option Nat) (dirId : Option Nat)
    (hdr tables sig : List Byte) : Option Nat :=
  if h.kind != kind || (match dirId with | some n => n != h.id | none => false) then some 0x07
  else if (match region with | some r => !s.descMatches h r | none => false) then some 0x17
  else if h.bound && leAt hdr 0x10 8 != s.fuses.bind then some 0x06
  else if !s.keyCheck h (sliceBytes hdr 0x2C0 1312) then some 0x08
  else if !Config.mldsaVerify (sliceBytes hdr 0x2C0 1312) (digBytes (Config.sha3 (hdr ++ tables))) sig then some 0x09
  else none

/-! ## A container at its source -/

/-- Bytes of a load's container: from its source, or what has arrived so far. -/
def State.loadBytes (s : State) (l : Load) (a k : Nat) : Option (List Byte) :=
  match l.path with
  | .flash | .rom => s.sourceBytes 1 l.dev l.addr a k
  | .noc | .hold => s.sourceBytes 2 l.dev l.addr a k
  | .mailbox | .jtag => if a + k ≤ l.bytes.length then some (sliceBytes l.bytes a k) else none

/-- What fetching them leaves where they came from. -/
def State.loadNotice (s : State) (l : Load) (a k : Nat) : State :=
  match l.path with
  | .noc | .hold => s.sourceNotice 2 l.addr a k
  | _ => s

/-- The bytes of a load have all to be at hand: a path whose bytes arrive one after another. -/
def LoadPath.streams : LoadPath → Bool
  | .mailbox | .jtag => true
  | _ => false

/-- Stored block `i` of a container, as offset and length (R183). -/
def Header.block (h : Header) (i : Nat) : Nat × Nat := (h.payOff + i * 2 ^ 20, min (2 ^ 20) (h.payLen - i * 2 ^ 20))

/-- The IV of a block (R184): the IV base, then the index with its most significant byte first. -/
def Header.ivOf (h : Header) (i : Nat) : List Byte := h.iv ++ (leBytes 4 i).reverse

/-- One block from its stored bytes, its digest entry and its tag (R186 check 6): the packet bytes, or the failure code. -/
def State.openBlock (s : State) (h : Header) (i : Nat) (stored dig tag : List Byte) : Except Nat (List Byte) :=
  if digBytes (Config.sha3 stored) != dig then .error 0x0A
  else
    let plain := if !h.encrypted then some stored
      else match s.bitstreamKey h.keySel with
        | some k => Config.gcmOpen (BitVec.ofNat 256 k) (h.ivOf i) stored tag
        | none => none
    match plain with
    | none => .error 0x0B
    | some b =>
      if !h.compressed then .ok b
      else match Config.inflate b with
        | some x => if x.length ≤ 2 ^ 24 then .ok x else .error 0x0C
        | none => .error 0x0C

end Sys2Proof.Machine
end

