-- ==== Sys2Proof/Machine/Scrub.lean ====
section
/-! DEFINITION. Scrub.lean: the upset scrubber, the essential-bit map and refetch (08_upset_scrubbing.md). -/

namespace Sys2Proof.Machine

def State.setScrub (s : State) (x : Scrub) : State := { s with scrub := x }

/-- The records of the plane that holds a frame (R233, R274): the region's own, else those of the full bitstream, with
whether they have device scope. -/
def State.recOf (s : State) (key : Nat) (shd : Bool) : Option (PlaneRec × Option Nat) :=
  match s.frameRegion key with
  | none => if shd then none else s.base.map (fun b => (b, none))
  | some r =>
    match (if shd then (s.rg r).shd else (s.rg r).act) with
    | some x => some (x, some r)
    | none => s.base.map (fun b => (b, none))

/-- The field of SCR_RGN_MAP that shows a plane's map. -/
def mapFld (shd : Bool) : Fld := if shd then F.SCR_RGN_MAP_SHD_MAP else F.SCR_RGN_MAP_ACT_MAP

/-- The map state of the plane that holds a frame: 0 none, 1 flash, 2 NoC copy, 3 BAD. -/
def State.mapState (s : State) (key : Nat) (shd : Bool) : Nat :=
  match s.frameRegion key with
  | none => if shd then 0 else s.fld R.SCR_FLAG F.SCR_FLAG_BASE_MAP
  | some r => s.fld (R.SCR_RGN_MAP r) (mapFld shd)

/-! ## Frame indexes (R265, R271) -/

/-- The frames of a tile that a scope counts, clock frames apart. -/
def State.tileCount (s : State) (scope : Option Nat) (sec c t : Nat) : Nat :=
  if scope.isNone || s.tileRegion sec c t == scope then 80 + extraFrames c t else 0

/-- The sector clock frames that a scope counts. -/
def State.clockCount (s : State) (scope : Option Nat) (sec : Nat) : Nat :=
  if scope.isNone || s.frameRegion (mkKey sec 0 0 124) == scope then 4 else 0

/-- The frames of a sector in the tiles before a tile, in pass order. -/
def State.framesBefore (s : State) (scope : Option Nat) (sec n : Nat) : Nat :=
  ((List.range n).map (fun i => s.tileCount scope sec (i / 20) (i % 20))).sum +
    (if n = 0 then 0 else s.clockCount scope sec)

/-- The sectors of a scope, in ascending order. -/
def State.scopeSectors (s : State) : Option Nat → List Nat
  | none => List.range 32
  | some r => s.rgnSectors r

/-- The map frame index of a position (R271). -/
def State.frameIndex (s : State) (scope : Option Nat) (key : Nat) : Nat :=
  let sec := keySector key
  let n := 20 * keyTcol key + keyTrow key
  let inTile := if isClockFrame key then s.tileCount scope sec 0 0 + keyFrame key - 124 else keyFrame key
  (((s.scopeSectors scope).filter (fun k => k < sec)).map (fun k => s.framesBefore scope k 640)).sum +
    s.framesBefore scope sec n + inTile

/-! ## The map (R270-R273, R275-R277) -/

/-- A page of a map, from its source. -/
def State.mapPage (s : State) (x : PlaneRec) (page : Nat) : Option (List Byte) :=
  s.sourceBytes x.origin x.dev x.addr (x.mapOff + 4096 * page) 4096

/-- The page CRC (R270). -/
def pageGood (l : List Byte) : Bool := crc32c ((l.take 4092).map (fun b => b.toNat)) == leAt l 4092 4

/-- What fetching a page of a map leaves where it came from. -/
def State.pageNotice (s : State) (x : PlaneRec) (page : Nat) : State :=
  s.sourceNotice x.origin x.addr (x.mapOff + 4096 * page) 4096

/-- Fetch a page through the cache (R277): the page, where its CRC holds, and the state. -/
def State.cachePage (s : State) (x : PlaneRec) (page : Nat) : Option (List Byte) × State :=
  match s.scrub.cache.find? (fun p => p.rec_ == x && p.page == page) with
  | some p =>
    (some p.bytes, s.setScrub { s.scrub with
      cache := p :: s.scrub.cache.filter (fun q => !(q.rec_ == x && q.page == page)) })
  | none =>
    let t := (s.count R.SCR_MAP_MISS F.SCR_MAP_MISS_COUNT 1).pageNotice x page
    match s.mapPage x page with
    | some l => if pageGood l then (some l, t.setScrub { t.scrub with cache := (⟨x, page, l⟩ :: t.scrub.cache).take 64 })
      else (none, t)
    | none => (none, t)

/-- Unit of the refetch engine among the reporters of sources 33 to 41 (R601). -/
def refetchUnit : Nat := 32

/-- The masks of a frame record (R272). -/
def recordMasks (m : List Byte) (o : Nat) : List Nat :=
  let cw := leAt m o 4
  let before := fun k => ((List.range k).filter (fun i => cw.testBit i)).length
  (List.range 32).map (fun k => if cw.testBit k then leAt m (o + 8 + 8 * before k) 8 else 0)

/-- What the map says of a frame (R271, R272): none where a page failed; else the mask of each code word. Its header page, like the
others, comes through the cache. -/
def State.frameMasks (s : State) (x : PlaneRec) (index : Nat) : Option (List Nat) × State :=
  let a := s.cachePage x 0
  match a.1 with
  | none => (none, a.2)
  | some h =>
    let r := a.2.cachePage x (leAt h 0x1C 4 + index / 1023)
    match r.1 with
    | none => (none, r.2)
    | some l =>
      let e := leAt l (4 * (index % 1023)) 4
      if e = 0 then (some (List.replicate 32 0), r.2)
      else if e = 0xFFFFFFFF then (some (List.replicate 32 (2 ^ 64 - 1)), r.2)
      else
        let q := r.2.cachePage x (e / 4096)
        (q.1.map (fun m => recordMasks m (e % 4096)), q.2)

/-- A finding is essential under the masks of its frame (R269). -/
def Finding.essential (f : Finding) (masks : List Nat) : Bool :=
  if f.kind = 3 then masks.any (fun m => m != 0)
  else f.bits.any (fun b => (masks.getD (b / 64) 0).testBit (b % 64)) || f.words.any (fun k => masks.getD k 0 != 0)

/-- The frames that a scope covers (R232, R268, R270). -/
def State.frameCount (s : State) : Option Nat → Nat
  | none => 32 * 58116
  | some r => ((s.rgnSectors r).map (fun k =>
      ((List.range 640).map (fun i => s.tileCount (some r) k (i / 20) (i % 20))).sum + s.clockCount (some r) k)).sum

/-- The header page of a map agrees with R270 and with the record of its container. -/
def State.mapHeaderGood (s : State) (x : PlaneRec) (scope : Option Nat) (l : List Byte) : Bool :=
  let pages := leAt l 0x24 4
  pageGood l && leAt l 0 4 == 0x50414D45 && leAt l 4 2 == 1 && leAt l 6 2 == 0xE981 && leAt l 8 8 == x.id &&
    leAt l 0x10 4 == x.ver && leAt l 0x14 1 == (if scope.isNone then 1 else 2) && leAt l 0x15 1 == scope.getD 0xFF &&
    leAt l 0x18 4 == s.frameCount scope && leAt l 0x1C 4 < pages && leAt l 0x20 4 < pages && pages * 4096 == x.mapLen &&
    (sliceBytes l 0x28 (0xFFC - 0x28)).all (fun b => b == 0)

/-- The whole map of a plane (R276): its length and digest, and its header. -/
def State.mapGood (s : State) (x : PlaneRec) (scope : Option Nat) : Bool :=
  match s.sourceBytes x.origin x.dev x.addr x.mapOff x.mapLen with
  | none => false
  | some l => Config.sha3 l == BitVec.ofNat 256 x.mapDig && s.mapHeaderGood x scope (l.take 4096)

/-- A CE record of source 41 (R276, R277); its FAR is that of the frame looked up. -/
def State.mapRecord (s : State) (far : Nat) : State := s.report refetchUnit ⟨41, 0, 0x08, far % 2 ^ 32⟩

/-- The map of a plane is BAD (R276): that of the full bitstream also for every plane of a region that still holds its part of it
(R274). The spec gives the record of this failure no FAR: the value is free. -/
def State.mapBad (s : State) (region : Option Nat) (shd : Bool) : State :=
  let d := s.draw
  let t := match region with
    | some r => d.2.setFld (R.SCR_RGN_MAP r) (mapFld shd) 3
    | none => (d.2.setFld R.SCR_FLAG F.SCR_FLAG_BASE_MAP 3).forEach (List.range 32) (fun t r =>
        [(false, (t.rg r).act), (true, (t.rg r).shd)].foldl (fun (u : State) (p : Bool × Option PlaneRec) =>
          u.when (p.2.isNone && u.fld (R.SCR_RGN_MAP r) (mapFld p.1) != 0) (fun u => u.setFld (R.SCR_RGN_MAP r) (mapFld p.1) 3)) t)
  t.mapRecord d.1

/-- MAP_CHECK_DONE (R276): the configuration controller has read the whole map of a plane that became valid; a map that fails makes
its plane one without a map. `region` none names the full bitstream. -/
def execMapCheckDone (region : Option (Fin 32)) (shd : Bool) (s : State) : Host.Outcome State Fault Refusal :=
  let rn := region.map (fun r => r.val)
  let x := match rn with
    | none => s.base
    | some r => if shd then (s.rg r).shd else (s.rg r).act
  let st := match rn with
    | none => s.fld R.SCR_FLAG F.SCR_FLAG_BASE_MAP
    | some r => s.fld (R.SCR_RGN_MAP r) (mapFld shd)
  .next (match x with
    | some y =>
      if s.halted || (st != 1 && st != 2) then s
      else
        let t := s.sourceNotice y.origin y.addr y.mapOff y.mapLen
        if s.mapGood y rn then t else t.mapBad rn shd
    | none => s)

/-! ## Reporting findings (R278) -/

/-- Latest finding (SCR_LAST_FAR, SCR_LAST_INFO) and DETECTED (R292). -/
def State.lastFinding (s : State) (key : Nat) (shd : Bool) (finding : Nat) (ess : Bool) (word : Nat) : State :=
  let t := s.setReg R.SCR_LAST_FAR (BitVec.ofNat 32 (keyFar key shd))
  let rg := s.frameRegion key
  let v := (((((0 : Word).fput F.SCR_LAST_INFO_FINDING finding).fput F.SCR_LAST_INFO_ESSENTIAL (b2n ess)).fput
    F.SCR_LAST_INFO_STATIC (b2n rg.isNone)).fput F.SCR_LAST_INFO_REGION (rg.getD 0)).fput F.SCR_LAST_INFO_WORD word
  let u := t.setReg R.SCR_LAST_INFO v
  if u.scrub.inj = some (key, shd) then
    (u.setFlag R.SCR_INJ_CTRL F.SCR_INJ_CTRL_DETECTED true).setScrub { u.scrub with inj := none }
  else u

/-- A scrubber record: source, severity, class; the FAR carries the plane. -/
def State.scrubRecord (s : State) (unit src sev cls key : Nat) (shd : Bool) : State :=
  s.report unit ⟨src, sev, cls, keyFar key shd⟩

/-- The plane of a frame. -/
def State.plane (s : State) (shd : Bool) : Plane := if shd then s.shd else s.act

/-- Replace a plane. -/
def State.setPlane (s : State) (shd : Bool) (p : Plane) : State := if shd then { s with shd := p } else { s with act := p }

/-- A frame is not repaired (R278, R285): its region is flagged, or its shadow becomes INVALID. -/
def State.notRepaired (s : State) (key : Nat) (shd ess : Bool) : State :=
  let t := (s.count R.SCR_RF_FAIL F.SCR_RF_FAIL_COUNT 1).lastFinding key shd 5 ess 0
  let u := t.setScrub { t.scrub with lost := t.scrub.lost ++ [(key, shd)] }
  if shd then
    let v := match s.frameRegion key with
      | some r => if s.shadow r = 2 || s.shadow r = 3 then u.setShadow r 0 else u
      | none => u
    v.scrubRecord refetchUnit 39 2 0x06 key true
  else
    let v := match s.frameRegion key with
      | some r => u.setBit R.SCR_RGN_FLAG r true
      | none => u.setFlag R.SCR_FLAG F.SCR_FLAG_STATIC true
    if ess then v.scrubRecord 0 2 3 0x06 key false else v.scrubRecord refetchUnit 39 2 0x06 key false

/-- Queue a frame for refetch (R281), or take it as not repaired where refetch is disabled. -/
def State.queueRefetch (s : State) (key : Nat) (shd ess : Bool) : State :=
  if !s.flag R.SCR_CTRL F.SCR_CTRL_RF_EN then s.notRepaired key shd ess
  else if s.scrub.queue.length < 32 then s.setScrub { s.scrub with queue := s.scrub.queue ++ [(key, shd, ess)] }
  else s

/-- The lowest erroneous code word of a finding. -/
def Finding.word (f : Finding) : Nat := ((f.bits.map (fun b => b / 64) ++ f.words).min?).getD 0

/-- Record a finding, judged (R278). -/
def State.settleFinding (s : State) (f : Finding) (ess : Bool) : State :=
  let u := keySector f.key
  let t := s.lastFinding f.key f.shd f.kind (ess && !f.shd) f.word
  if f.kind = 1 then
    if f.shd then (t.count R.SCR_CE_SHD F.SCR_CE_SHD_COUNT 1).scrubRecord u 35 0 0x05 f.key true
    else (t.count R.SCR_CE_ACT F.SCR_CE_ACT_COUNT 1).scrubRecord u (if ess then 33 else 34) 0 0x05 f.key false
  else if f.shd then
    ((t.count R.SCR_UE_SHD F.SCR_UE_SHD_COUNT 1).scrubRecord u 37 2 0x06 f.key true).queueRefetch f.key true false
  else
    let v := t.count R.SCR_UE_ACT F.SCR_UE_ACT_COUNT 1
    (if ess then v.scrubRecord 0 3 2 0x06 f.key false else v.scrubRecord u 36 0 0x06 f.key false).queueRefetch f.key false ess

/-- MAP_LOOKUP_DONE (R269, R277, R279, R291): the oldest finding is judged and recorded. A plane with no map, and a page that fails,
make every data bit essential. The cached pages whose places `lost` gives hold an uncorrectable error: they are discarded, and
fetched again where the lookup needs them. -/
def execMapLookupDone (lost : List Nat) (s : State) : Host.Outcome State Fault Refusal :=
  .next (if s.halted then s
    else match s.scrub.look with
    | [] => s
    | f :: rest =>
      let t := s.setScrub { s.scrub with
        look := rest, cache := (s.scrub.cache.zipIdx.filter (fun p => !lost.contains p.2)).map (fun p => p.1) }
      let all := List.replicate 32 (2 ^ 64 - 1)
      let st := s.mapState f.key f.shd
      if st != 1 && st != 2 then t.settleFinding f (f.essential all)
      else match s.recOf f.key f.shd with
        | none => t.settleFinding f (f.essential all)
        | some (x, scope) =>
          let r := t.frameMasks x (s.frameIndex scope f.key)
          match r.1 with
          | some m => r.2.settleFinding f (f.essential m)
          | none => (r.2.mapRecord (keyFar f.key f.shd)).settleFinding f (f.essential all))

/-! ## Scanning (R261-R267, R278-R280) -/

/-- The inverted bits of code word `k`. -/
def Frame.flipsOf (f : Frame) (k : Nat) : List Nat := (f.flips.filter (fun b => 72 * k ≤ b && b < 72 * k + 72)).map (fun b => b - 72 * k)

/-- What the decoder makes of code word `k` (R261): its 64 data bits, a correction, a double-bit error. -/
def Frame.decode (f : Frame) (k : Nat) : BitVec 64 × Bool × Bool :=
  let raw : BitVec 64 := (f.words.getD (2 * k + 1) 0).append (f.words.getD (2 * k) 0)
  let r := (BmWord.mk (raw.setWidth 72) true (f.flipsOf k)).read true 1
  (r.1.setWidth 64, r.2.1, r.2.2)

/-- The code words that a scan corrects, and those with a double-bit error. -/
def Frame.single (f : Frame) : List Nat := (List.range 32).filter (fun k => !(f.flipsOf k).isEmpty && (f.decode k).2.1)
def Frame.double (f : Frame) : List Nat := (List.range 32).filter (fun k => !(f.flipsOf k).isEmpty && (f.decode k).2.2)

/-- The frame with its single-bit errors corrected (R279), beside the CRC as it is stored. -/
def Frame.corrected (f : Frame) : Frame :=
  let one := f.single
  let st := f.stored
  ⟨(List.range 64).map (fun i => if one.contains (i / 2) then (if i % 2 = 0 then ((f.decode (i / 2)).1.setWidth 32)
      else (((f.decode (i / 2)).1 >>> 32).setWidth 32)) else st.getD i 0), st.getD 64 0, []⟩

/-- The data bits that the corrections change. -/
def Frame.fixedBits (f : Frame) : List Nat :=
  f.single.flatMap (fun k =>
    let raw : BitVec 64 := (f.stored.getD (2 * k + 1) 0).append (f.stored.getD (2 * k) 0)
    ((List.range 64).filter (fun b => raw.getLsbD b != (f.decode k).1.getLsbD b)).map (fun b => 64 * k + b))

/-- What a frame shows when it is read: none, or a finding (R278): correctable where every erroneous code word holds a single-bit
error and the CRC matches once they are corrected. -/
def Frame.finding (f : Frame) (key : Nat) (shd : Bool) : Option Finding :=
  let c := f.corrected
  let crcOk := c.crc.toNat == frameCrc c.words
  if f.single.isEmpty && f.double.isEmpty then (if crcOk then none else some ⟨key, shd, 3, [], []⟩)
  else if f.double.isEmpty && crcOk then some ⟨key, shd, 1, f.fixedBits, []⟩
  else some ⟨key, shd, 2, f.fixedBits, f.double⟩

/-- Invert stored bits of a frame. -/
def Frame.invert (f : Frame) (up : List Nat) : Frame :=
  { f with flips := up.foldl (fun t i => NSet.put t i (!t.has i)) f.flips }

/-- A frame that is read back agrees with its CRC (R231). -/
def Frame.readsBack (f : Frame) : Bool := frameCrc (f.stored.take 64) == (f.stored.getD 64 0).toNat

/-- Set a frame as it is stored; the settings taken from its cells follow (R212). -/
def State.storeFrame (s : State) (key : Nat) (shd : Bool) (f : Frame) : State := s.setPlane shd ((s.plane shd).store key f)

/-- The region whose flag a frame belongs to; 32 for a static frame. -/
def State.flagOf (s : State) (key : Nat) : Nat := (s.frameRegion key).getD 32

/-- Whether the scrubber checks a half of a position (R253, R266, R286). -/
def State.scrubChecks (s : State) (key : Nat) (shd : Bool) : Bool :=
  match s.frameRegion key with
  | none => !shd
  | some r => !(s.rg r).minHold && (!shd || (s.flag R.SCR_CTRL F.SCR_CTRL_SHD_EN && (s.shadow r == 2 || s.shadow r == 3)))

/-- Read one half of a position and handle what it shows (R278-R280). -/
def State.scrubFrame (s : State) (key : Nat) (shd : Bool) : State :=
  if !s.scrubChecks key shd then s
  else
    let f := (s.plane shd).frame key
    match f.finding key shd with
    | none => s
    | some x =>
      let waits := s.scrub.queue.any (fun q => q.1 == key && q.2.1 == shd) || s.scrub.lost.contains (key, shd)
      if x.kind = 1 then
        let t := s.storeFrame key shd f.corrected
        if shd then t.settleFinding x false else t.setScrub { t.scrub with look := t.scrub.look ++ [x] }
      else
        let t := if shd then s else s.setScrub { s.scrub with dirty := NSet.add s.scrub.dirty (s.flagOf key) }
        if waits || t.scrub.look.any (fun y => y.key == key && y.shd == shd) then t
        else if shd then t.settleFinding x false
        else t.setScrub { t.scrub with look := t.scrub.look ++ [x] }

/-- The scrubber runs (R264): after the LOAD phase, EN, no clearing and no halt. -/
def State.scrubRuns (s : State) : Bool :=
  3 ≤ s.phase && s.phase ≤ 5 && s.flag R.SCR_CTRL F.SCR_CTRL_EN && !s.boot.clearing && !s.halted

/-- A wedging is in progress. -/
def State.wedging (s : State) : Bool := s.flag R.SCR_STAT F.SCR_STAT_BUSY

/-- WEDGING_START (R267). -/
def execWedgingStart (s : State) : Host.Outcome State Fault Refusal :=
  .next (if s.scrubRuns && !s.wedging then
      (s.setFlag R.SCR_STAT F.SCR_STAT_BUSY true).setScrub { s.scrub with
        pos := [], finished := [], dirty := []
        skip := (List.range 32).filter (fun k => s.secGoing k) }
    else s)

/-- SCRUB_POSITION (R265, R266): an engine reads its next position, after the inversions of stored bits given. -/
def execScrubPosition (sec : Fin 32) (upA upS : List (Fin 2336)) (s : State) : Host.Outcome State Fault Refusal :=
  .next (if !s.scrubRuns || !s.wedging || s.scrub.skip.has sec || s.scrub.finished.has sec then s
    else
      let p := Tbl.get (fun _ => 0) s.scrub.pos sec
      let key := sec.val * 2 ^ 17 + p
      let hit := fun (t : State) (shd : Bool) (up : List (Fin 2336)) =>
        if up.isEmpty then t else t.storeFrame key shd (((t.plane shd).frame key).invert (up.map (fun i => i.val)))
      let t := ((hit (hit s false upA) true upS).scrubFrame key false).scrubFrame key true
      match nextPos (keyTcol p) (keyTrow p) (keyFrame p) with
      | some q => t.setScrub { t.scrub with pos := Tbl.set (fun _ => 0) t.scrub.pos sec (mkKey 0 q.1 q.2.1 q.2.2) }
      | none => t.setScrub { t.scrub with finished := NSet.add t.scrub.finished sec })

/-- Positions of the stored frames that an engine has still to read in this wedging. -/
def State.unread (s : State) : List Nat :=
  let keys := ((s.act.frames ++ s.shd.frames).map (fun p => p.1)).eraseDups
  keys.filter (fun k =>
    let sec := keySector k
    !s.scrub.skip.has sec && !s.scrub.finished.has sec && Tbl.get (fun _ => 0) s.scrub.pos sec ≤ k % 2 ^ 17)

/-- WEDGING_END (R267, R285): the engines have read what was left (notes/assumptions/12.md), PASS_CNT and SCR_PASS_TIME are
updated, source 32 is raised, and the flags of regions without an uncorrectable frame clear. -/
def execWedgingEnd (ns : BitVec 32) (s : State) : Host.Outcome State Fault Refusal :=
  .next (if !s.scrubRuns || !s.wedging then s
    else
      let t := s.forEach s.unread (fun t k => (t.scrubFrame k false).scrubFrame k true)
      let d := t.scrub.dirty
      let u := t.forEach ((List.range 32).filter (fun r => !d.has r)) (fun t r => t.setBit R.SCR_RGN_FLAG r false)
      let v := u.when (!d.has 32) (fun t => t.setFlag R.SCR_FLAG F.SCR_FLAG_STATIC false)
      let w := (v.setFlag R.SCR_STAT F.SCR_STAT_BUSY false).countWrap R.SCR_STAT F.SCR_STAT_PASS_CNT 1
      (w.setReg R.SCR_PASS_TIME ns).pulse 32)

/-! ## Refetch (R281-R285) -/

/-- The containers that may hold a frame of a plane (R282): origin, device and address. -/
def State.candidates (s : State) (x : PlaneRec) (full : Bool) : List (Nat × Nat × Nat) :=
  if x.origin = 2 then [(2, 0, x.addr)]
  else if x.origin = 1 then
    let es := if full then [s.dirFind 1 0, s.dirFind 1 1].filterMap id
      else (s.directory.filter (fun e => e.kind == 2 && e.id == x.id)).take 2
    es.map (fun e => (1, e.dev, e.addr))
  else []

/-- The 65 words of a frame at a byte of the expanded payload block `i`; a frame that runs on takes the next block too. -/
def State.frameAt (s : State) (read : Nat → Nat → Option (List Byte)) (h : Header) (i off : Nat) : Option (List Byte) :=
  let open_ := fun (j : Nat) =>
    match read (h.block j).1 (h.block j).2, read (h.digOff + 32 * j) 32, (if h.encrypted then read (h.tagOff + 16 * j) 16 else some []) with
    | some b, some d, some g => (s.openBlock h j b d g).toOption
    | _, _, _ => none
  match open_ i with
  | none => none
  | some b =>
    if off + 260 ≤ b.length then some (sliceBytes b off 260)
    else match open_ (i + 1) with
      | some c => if off + 260 ≤ b.length + c.length then some (sliceBytes (b ++ c) off 260) else none
      | none => none

/-- The words of a list of bytes. -/
def wordsOf (l : List Byte) (n : Nat) : List Word := (List.range n).map (fun i => BitVec.ofNat 32 (leAt l (4 * i) 4))

/-- Where the locator table puts a frame (R273): payload block, kind, and byte offset in the block; none where a page fails. -/
def State.locate (s : State) (x : PlaneRec) (index : Nat) : Option (Nat × Nat × Nat) × State :=
  let a := s.cachePage x 0
  match a.1 with
  | none => (none, a.2)
  | some h =>
    let r := a.2.cachePage x (leAt h 0x20 4 + index / 511)
    let o := 8 * (index % 511)
    (r.1.map (fun p => (leAt p o 2, leAt p (o + 2) 1, leAt p (o + 4) 4)), r.2)

/-- The checks of R283 on one candidate: the frame's words where every one passes. -/
def State.tryCandidate (s : State) (x : PlaneRec) (loc : Nat × Nat × Nat) (c : Nat × Nat × Nat) : Option (List Word) :=
  let read := fun a k => s.sourceBytes c.1 c.2.1 c.2.2 a k
  match read 0 4096 with
  | none => none
  | some l =>
    let h := parseHeader l
    if h.id != x.id || h.ver != x.ver then none
    else match read h.digOff (32 * h.blocks) with
      | some d =>
        if (Config.sha3 d).toNat != x.tabDig then none
        else if loc.2.1 = 1 then some (List.replicate 64 0)
        else match s.frameAt read h loc.1 loc.2.2 with
          | none => none
          | some b =>
            let ws := wordsOf b 64
            if leAt b 256 4 == frameCrc ws then some ws else none
      | none => none

/-- A refetch is in progress. -/
def State.refetching (s : State) : Bool := s.flag R.SCR_STAT F.SCR_STAT_RF_BUSY

/-- What the fetches of a candidate leave where they came from: its header, its digest table and the block. -/
def State.fetchNotice (s : State) (loc : Nat × Nat × Nat) (c : Nat × Nat × Nat) : State :=
  let t := s.sourceNotice c.1 c.2.2 0 4096
  match s.sourceBytes c.1 c.2.1 c.2.2 0 4096 with
  | some l =>
    let h := parseHeader l
    let b := h.block loc.1
    (t.sourceNotice c.1 c.2.2 h.digOff (32 * h.blocks)).sourceNotice c.1 c.2.2 b.1 b.2
  | none => t

/-- The words that repair a frame (R274, R282, R283), from the first candidate that passes; a locator page that fails is recorded
(R277). -/
def State.fetchFrame (s : State) (key : Nat) (shd : Bool) : Option (List Word) × State :=
  let st := s.mapState key shd
  if st != 1 && st != 2 then (none, s)
  else match s.recOf key shd with
    | none => (none, s)
    | some (x, scope) =>
      let l := s.locate x (s.frameIndex scope key)
      match l.1 with
      | none => (none, l.2.mapRecord (keyFar key shd))
      | some loc =>
        let cs := s.candidates x scope.isNone
        (cs.findSome? (fun c => s.tryCandidate x loc c), l.2.forEach cs (fun t c => t.fetchNotice loc c))

/-- REFETCH (R282, R283, R291): the frame at the head of the queue is fetched and checked; an entry with an uncorrectable error (`lost`)
is dropped instead, and with RF_EN at 0 the frame is not repaired. -/
def execRefetch (lost : Bool) (s : State) : Host.Outcome State Fault Refusal :=
  .next (match s.scrub.queue with
    | [] => s
    | q :: rest =>
      if s.refetching || s.halted then s
      else if lost then s.setScrub { s.scrub with queue := rest }
      else if !s.flag R.SCR_CTRL F.SCR_CTRL_RF_EN then (s.setScrub { s.scrub with queue := rest }).notRepaired q.1 q.2.1 q.2.2
      else
        let r := s.fetchFrame q.1 q.2.1
        (r.2.setFlag R.SCR_STAT F.SCR_STAT_RF_BUSY true).setScrub { r.2.scrub with fetched := some (q.1, q.2.1, r.1) })

/-- REFETCH_DONE (R283, R285, R289): the frame is written with new check bits, or it is not repaired. A frame that has left the
queue meanwhile is not written (R286, R287). -/
def execRefetchDone (s : State) : Host.Outcome State Fault Refusal :=
  .next (match s.scrub.fetched with
    | none => s
    | some (key, shd, ws) =>
      if s.halted then s
      else
        let t := (s.setFlag R.SCR_STAT F.SCR_STAT_RF_BUSY false).setScrub { s.scrub with fetched := none }
        match s.scrub.queue with
        | [] => t
        | q :: rest =>
          if q.1 != key || q.2.1 != shd then t
          else
            let u := t.setScrub { t.scrub with queue := rest }
            match ws with
            | none => u.notRepaired key shd q.2.2
            | some w =>
              let v := u.setPlane shd ((u.plane shd).write key w (BitVec.ofNat 32 (frameCrc w)))
              ((v.count R.SCR_RF_OK F.SCR_RF_OK_COUNT 1).lastFinding key shd 4 (q.2.2 && !shd) 0).scrubRecord refetchUnit 38 0
                0x07 key shd)

/-! ## Self-protection and injection (R290-R293) -/

/-- A voter disagreement: corrected, counted and logged (R290). -/
def State.voterFix (s : State) : State :=
  ((s.count R.SCR_SELF_CNT F.SCR_SELF_CNT_COUNT 1).setScrub { s.scrub with voter := false }).report 0 ⟨40, 0, 0x09, 0⟩

/-- VOTER_DISAGREEMENT (R290). -/
def execVoterDisagreement (s : State) : Host.Outcome State Fault Refusal := .next s.voterFix

/-- A write to SCR_INJ_CTRL from the management core (R292, R293); the registers already hold the write's fields. -/
def State.injectAct (s : State) (v : Word) : State :=
  let c := R.SCR_INJ_CTRL
  if v.fget F.SCR_INJ_CTRL_VOTER = 1 then s.setScrub { s.scrub with voter := true }
  else if v.fget F.SCR_INJ_CTRL_GO = 0 then s
  else
    let far := (s.reg R.SCR_INJ_FAR).toNat % 2 ^ 31
    let key := farKey far
    let shd := s.flag c F.SCR_INJ_CTRL_PLANE
    let t := (((s.setFlag c F.SCR_INJ_CTRL_DONE false).setFlag c F.SCR_INJ_CTRL_DETECTED false).setFlag c
      F.SCR_INJ_CTRL_INJ_ERR false).setScrub { s.scrub with inj := none }
    let ok := farValid (far + 2 ^ 31) && (!shd || (match s.frameRegion key with
      | some r => s.shadow r == 2 || s.shadow r == 3
      | none => false))
    if !ok then t.setFlag c F.SCR_INJ_CTRL_INJ_ERR true
    else
      let crc := s.flag c F.SCR_INJ_CTRL_TARGET
      let place := fun (b : Nat) => if crc then (if b < 32 then [2304 + b] else [])
        else (if b < 72 then [72 * s.fld c F.SCR_INJ_CTRL_WORD + b] else [])
      let bits := place (s.fld c F.SCR_INJ_CTRL_BIT0) ++
        (if s.flag c F.SCR_INJ_CTRL_DOUBLE then place (s.fld c F.SCR_INJ_CTRL_BIT1) else [])
      let u := t.storeFrame key shd (((t.plane shd).frame key).invert bits)
      (u.setFlag c F.SCR_INJ_CTRL_DONE true).setScrub { u.scrub with inj := some (key, shd) }

/-- The scrubber's registers: their enable, a refused LOCKED field, and views. -/
def State.scrOpen (s : State) : Bool := !s.flag R.SCR_CTRL F.SCR_CTRL_EN
def State.scrLocked (s : State) (loc : Nat) : State :=
  (s.setFlag R.SCR_STAT F.SCR_STAT_LOCKED_WR true).lockedRecord 32 0 loc
def State.scrPeek (s : State) (loc : Nat) : Option Word :=
  if loc = 4 then some ((s.reg R.SCR_STAT).fput F.SCR_STAT_RF_QUEUE s.scrub.queue.length) else none

/-- Clearing and restart (R264, R288): the queue empties, the flags clear and a wedging ends. -/
def State.scrubStop (s : State) : State :=
  let t := ((s.setReg R.SCR_RGN_FLAG 0).setReg R.SCR_FLAG 0).setFlag R.SCR_STAT F.SCR_STAT_BUSY false
  (t.setFlag R.SCR_STAT F.SCR_STAT_RF_BUSY false).setScrub { s.scrub with
    queue := [], lost := [], look := [], fetched := none, skip := [], finished := [], pos := [], dirty := [] }

/-- A region's shadow leaves the scrubber's hands when a staging load enters STAGING (R286). -/
def State.scrubStage (s : State) (r : Nat) : State :=
  let out := fun (k : Nat) (shd : Bool) => !shd || s.frameRegion k != some r
  s.setScrub { s.scrub with queue := s.scrub.queue.filter (fun q => out q.1 q.2.1)
                            lost := s.scrub.lost.filter (fun q => out q.1 q.2)
                            look := s.scrub.look.filter (fun f => out f.key f.shd) }

end Sys2Proof.Machine
end

