-- ==== Sys2Proof/Machine/Mbox.lean ====
section
/-! DEFINITION. Mbox.lean: the mailboxes, their slots and messages, and the ports that reach them (R528-R540). -/

namespace Sys2Proof.Machine

/-! ## Slots and messages -/

/-- A mailbox at rest. -/
def Mbx.empty : Mbx := ⟨none, [], none, 0, 0, [], [], 0, 0, false, false⟩

/-- Mailbox `m`. -/
def State.mb (s : State) (m : Nat) : Mbx := Tbl.get (fun _ => Mbx.empty) s.mbx m

/-- Set it. -/
def State.setMb (s : State) (m : Nat) (x : Mbx) : State := { s with mbx := Tbl.set (fun _ => Mbx.empty) s.mbx m x }

/-- Free request slots (R528): a slot frees when firmware takes its request. -/
def Mbx.reqFree (x : Mbx) : Nat := 2 - x.reqs.length

/-- Bytes of the head response. -/
def Mbx.rspLen (x : Mbx) : Nat := match x.rsps with | [] => 0 | r :: _ => r.length

/-- Source 500 + `m` is high. -/
def State.mbLevel (s : State) (m : Nat) : Bool :=
  let e := R.MBX_INT_EN m
  let v := s.reg (R.MBX_STAT m)
  m < 7 && ((s.flag e F.MBX_INT_EN_RSP && !(s.mb m).rsps.isEmpty) ||
    (s.flag e F.MBX_INT_EN_ERR && [F.MBX_STAT_OWNER_REJ, F.MBX_STAT_UNDERRUN, F.MBX_STAT_DROPPED, F.MBX_STAT_MALFORMED,
      F.MBX_STAT_PEC_ERR].any (fun f => v.fget f != 0)))

/-- Settle the mailbox's level source. -/
def State.mbSource (s : State) (m : Nat) : State := s.settle (500 + m) (s.mbLevel m)

/-- Set a flag of MBX_STAT. -/
def State.mbFlag (s : State) (m : Nat) (f : Fld) : State := (s.setFlag (R.MBX_STAT m) f true).mbSource m

/-- Header fields of a message (R537). -/
def msgCmd (l : List Byte) : Nat := leAt l 2 2
def msgSeq (l : List Byte) : Nat := leAt l 0 1
def msgLen (l : List Byte) : Nat := leAt l 6 2
def msgMaj (l : List Byte) : Nat := leAt l 5 1
def msgMin (l : List Byte) : Nat := leAt l 4 1
def msgSession (l : List Byte) : Nat := leAt l 8 4

/-- The payload of a message. -/
def msgPayload (l : List Byte) : List Byte := l.drop 16

/-- Argument word `i` of a request. -/
def msgWord (l : List Byte) (i : Nat) : Nat := leAt (msgPayload l) (4 * i) 4

/-- A response to a request (R537, R538): version, status code and detail, payload. -/
def mkResponse (q : List Byte) (vmaj vmin code detail : Nat) (payload : List Byte) : List Byte :=
  leBytes 4 (msgSeq q + 2 ^ 8 + 2 ^ 16 * msgCmd q) ++ leBytes 4 (vmin + 2 ^ 8 * vmaj + 2 ^ 16 * payload.length) ++
    leBytes 4 (msgSession q) ++ leBytes 4 (code % 2 ^ 16 + 2 ^ 16 * detail) ++ payload

/-- A committed request without the bytes of a header field that it holds in part only (R539). -/
def msgWhole (q : List Byte) : List Byte :=
  if q.length = 3 then q.take 2 else if q.length = 7 then q.take 6 else if 8 < q.length && q.length < 12 then q.take 8 else q

/-- The check of R539: a request holds exactly 16 + LEN bytes, and LEN is at most 4,080. -/
def msgFormed (l : List Byte) : Bool := l.length == 16 + msgLen l && msgLen l ≤ 4080

/-- The mailbox answers malformed requests that have reached the head of the queue itself (R539, R540). -/
def State.mbSettleN (s : State) (m : Nat) : Nat → State
  | 0 => s
  | n + 1 =>
    let x := s.mb m
    match x.reqs with
    | [] => s
    | q :: rest =>
      if msgFormed q || x.cur.isSome || 2 ≤ x.rsps.length then s
      else ((s.setMb m { x with reqs := rest, rsps := x.rsps ++ [mkResponse (msgWhole q) (msgMaj q) (msgMin q) 3 0 []] }).mbFlag m
        F.MBX_STAT_MALFORMED).mbSettleN m n

def State.mbSettle (s : State) (m : Nat) : State := s.mbSettleN m 2

/-- Commit a request, or drop it where no slot is free or it exceeds 4,096 bytes (R531). -/
def State.mbCommit (s : State) (m : Nat) (q : List Byte) : State :=
  let x := s.mb m
  if x.reqFree = 0 || 4096 < q.length then s.mbFlag m F.MBX_STAT_DROPPED
  else (s.setMb m { x with reqs := x.reqs ++ [q] }).mbSettle m

/-- Commit the assembled request (R532, R534, R536). -/
def State.mbSend (s : State) (m : Nat) (words : Bool) : State :=
  let x := s.mb m
  match x.asm with
  | none => s
  | some q =>
    let n := 16 + msgLen q
    let trim := if words && q.length == (n + 3) / 4 * 4 && (q.drop n).all (fun b => b == 0) then q.take n else q
    (s.setMb m { x with asm := none }).mbCommit m trim

/-- Discard the request being assembled. -/
def State.mbCancel (s : State) (m : Nat) : State := s.setMb m { s.mb m with asm := none }

/-- Append bytes to the request being assembled (R533, R536): with no free slot, or past 4,096 bytes, the request is discarded
with DROPPED. -/
def State.mbAppend (s : State) (m : Nat) (bytes : List Byte) : State :=
  let x := s.mb m
  let q := x.asm.getD [] ++ bytes
  if x.reqFree = 0 || 4096 < q.length then (s.setMb m { x with asm := none }).mbFlag m F.MBX_STAT_DROPPED
  else s.setMb m { x with asm := some q }

/-- Remove the head response. -/
def State.mbDropHead (s : State) (m : Nat) : State :=
  let x := s.mb m
  (s.setMb m { x with rsps := x.rsps.drop 1, rp := 0 }).mbSettle m

/-- The next word of the head response (R536); none where no response waits. -/
def Mbx.nextWord (x : Mbx) : Option Word :=
  match x.rsps with
  | [] => none
  | r :: _ => some (BitVec.ofNat 32 (leAt r x.rp 4))

/-- Pop the next word (R534, R536): 0 and UNDERRUN with no response waiting; the last word removes the response. -/
def State.mbPop (s : State) (m : Nat) : Word × State :=
  let x := s.mb m
  match x.nextWord with
  | none => (0, s.mbFlag m F.MBX_STAT_UNDERRUN)
  | some w => (w, if x.rspLen ≤ x.rp + 4 then s.mbDropHead m else s.setMb m { x with rp := x.rp + 4 })

/-- MBX_STAT as it reads (R528, R529). -/
def State.mbStat (s : State) (m : Nat) : Word :=
  let x := s.mb m
  (((s.reg (R.MBX_STAT m)).fput F.MBX_STAT_RSP_LEN x.rspLen).fput F.MBX_STAT_RSP_CNT x.rsps.length).fput
    F.MBX_STAT_REQ_FREE x.reqFree

/-- The status word (R529). -/
def State.mbStatus (s : State) (m : Nat) : List Byte :=
  let v := s.mbStat m
  leBytes 4 (v.fget F.MBX_STAT_REQ_FREE + 4 * v.fget F.MBX_STAT_RSP_CNT + 16 * v.fget F.MBX_STAT_DROPPED +
    32 * v.fget F.MBX_STAT_PEC_ERR + 256 * v.fget F.MBX_STAT_RSP_LEN)

/-- A status read of the host serial port or the I2C port clears DROPPED and PEC_ERR (R529). -/
def State.mbStatusRead (s : State) (m : Nat) : State :=
  (s.setFlag (R.MBX_STAT m) F.MBX_STAT_DROPPED false).setFlag (R.MBX_STAT m) F.MBX_STAT_PEC_ERR false

/-- Firmware answers the request in progress (R538, R540): status code, detail and payload, at the version of processing. -/
def State.mbAnswer (s : State) (m code detail : Nat) (payload : List Byte) : State :=
  let x := s.mb m
  match x.cur with
  | none => s
  | some q => ((s.setMb m { x with cur := none,
                                   rsps := x.rsps ++ [mkResponse q (x.ver / 256) (x.ver % 256) code detail payload] }).mbSettle m).mbSource m

/-- Every request not yet answered is discarded (R634). -/
def State.mbDiscard (s : State) : State :=
  { s with mbx := [] } |>.forEach (List.range 7) (fun t m =>
    let x := s.mb m
    t.setMb m { x with reqs := [], cur := none })

/-! ## Host serial port (R529-R531) -/

/-- The ports work once the device has left RESET. -/
def State.portsOn (s : State) : Bool := !s.boot.inReset && !s.dbg.scanning && !s.flag R.DBG_STAT F.DBG_STAT_SCAN

/-- HSP_STATUS: `n` bytes are clocked; past the status word they are 0x00. -/
def execHspStatus (n : Fin 65536) (s : State) : Host.Outcome State Fault Refusal :=
  .next (if s.portsOn then { s.mbStatusRead 0 with out := sliceBytes (s.mbStatus 0) 0 n } else s)

/-- HSP_WRITE: the rising edge of HSP_CS_N commits the request. -/
def execHspWrite (bytes : List (BitVec 8)) (s : State) : Host.Outcome State Fault Refusal :=
  .next (if s.portsOn then s.mbCommit 0 bytes else s)

/-- HSP_READ: `n` bytes of the head response are clocked out; it is removed where all of it was. -/
def execHspRead (n : Fin 65536) (s : State) : Host.Outcome State Fault Refusal :=
  let x := s.mb 0
  .next (if !s.portsOn then s
    else
      let t := { s with out := sliceBytes (x.rsps.headD []) 0 n }
      if x.rsps.isEmpty || n < x.rspLen then t else t.mbDropHead 0)

/-! ## I2C/SMBus target (R532, R533) -/

/-- The target's address byte for a write (R532). -/
def State.i2cByte (s : State) : Nat := 2 * (0x58 + s.board.i2c)

/-- The PEC of a block write: CRC-8 over the address, the command byte, the count and the bytes (R533; SMBus). -/
def State.pecWrite (s : State) (cmd : Nat) (bytes : List Byte) : Nat :=
  crc8 (s.i2cByte :: cmd :: bytes.length :: bytes.map (fun b => b.toNat))

/-- The PEC of a block read: the address for reading comes after the command byte. -/
def State.pecRead (s : State) (cmd : Nat) (bytes : List Byte) : Byte :=
  BitVec.ofNat 8 (crc8 (s.i2cByte :: cmd :: (s.i2cByte + 1) :: bytes.length :: bytes.map (fun b => b.toNat)))

/-- Whether the latest APPEND was acknowledged throughout. -/
def State.setNack (s : State) (b : Bool) : State := s.setMb 1 { s.mb 1 with nack := b }

/-- I2C_APPEND: a block write of 1 to 255 bytes, and the PEC where one came. With no free slot the command byte is not
acknowledged, and a byte past 4,096 is not. -/
def execI2cAppend (bytes : List (BitVec 8)) (pec : Option (BitVec 8)) (s : State) : Host.Outcome State Fault Refusal :=
  let x := s.mb 1
  let bad : Bool := match pec with
    | some p => p.toNat != s.pecWrite 0x10 bytes
    | none => false
  .next (if !s.portsOn || bytes.isEmpty || 255 < bytes.length then s
    else if x.reqFree = 0 then s.setNack true
    else if 4096 < (x.asm.getD []).length + bytes.length then (s.mbAppend 1 bytes).setNack true
    else if bad then (s.mbFlag 1 F.MBX_STAT_PEC_ERR).setNack false
    else (s.mbAppend 1 bytes).setNack false)

/-- I2C_SEND. -/
def execI2cSend (s : State) : Host.Outcome State Fault Refusal := .next (if s.portsOn then s.mbSend 1 false else s)

/-- I2C_CANCEL. -/
def execI2cCancel (s : State) : Host.Outcome State Fault Refusal := .next (if s.portsOn then s.mbCancel 1 else s)

/-- I2C_STATUS: the count 4, then the status word, then the PEC where the host reads one byte more. -/
def execI2cStatus (pec : Bool) (s : State) : Host.Outcome State Fault Refusal :=
  .next (if s.portsOn then
      { s.mbStatusRead 1 with out := 4#8 :: s.mbStatus 1 ++ (if pec then [s.pecRead 0x20 (s.mbStatus 1)] else []) }
    else s)

/-- I2C_READ: the count of the bytes that remain, at most 255, then as many of them as the host reads; the PEC where it reads one
more. -/
def execI2cRead (n : Fin 257) (s : State) : Host.Outcome State Fault Refusal :=
  let x := s.mb 1
  let left := min 255 (x.rspLen - x.rp)
  let k := min n.val left
  .next (if !s.portsOn then s
    else
      let got := sliceBytes (x.rsps.headD []) x.rp k
      let t := { s with out := BitVec.ofNat 8 left :: got ++ (if left < n.val then [s.pecRead 0x21 got] else []) }
      if x.rsps.isEmpty then t
      else if x.rspLen ≤ x.rp + k then t.mbDropHead 1
      else t.setMb 1 { x with rp := x.rp + k })

/-- I2C_REWIND. -/
def execI2cRewind (s : State) : Host.Outcome State Fault Refusal :=
  .next (if s.portsOn then s.setMb 1 { s.mb 1 with rp := 0 } else s)

/-- I2C_SCL_TIMEOUT: the target releases the bus. A transfer is one command here, so no partial transfer stands in the state
(notes/assumptions/12.md). -/
def execI2cSclTimeout (s : State) : Host.Outcome State Fault Refusal := .next s

/-! ## JTAG mailbox (R534) -/

/-- The mailbox register as Capture-DR loads it. -/
def State.mbCapture (s : State) : List Byte :=
  let x := s.mb 2
  leBytes 5 (x.word.toNat + 2 ^ 32 * b2n x.valid + 2 ^ 33 * x.reqFree + 2 ^ 35 * x.rsps.length +
    2 ^ 37 * s.fld (R.MBX_STAT 2) F.MBX_STAT_DROPPED)

/-- A scan of the mailbox register: what it captured goes out, then the operation acts at Update-DR. -/
def State.mbScan (s : State) (f : State → State) : State :=
  if s.portsOn && s.tap.ir == 0x10 then f { s with out := s.mbCapture } else s

/-- JTAG_MBX_APPEND. -/
def execJtagMbxAppend (v : BitVec 32) (s : State) : Host.Outcome State Fault Refusal :=
  .next (s.mbScan (fun t => t.mbAppend 2 (leBytes 4 v.toNat)))

/-- JTAG_MBX_COMMIT. -/
def execJtagMbxCommit (s : State) : Host.Outcome State Fault Refusal := .next (s.mbScan (fun t => t.mbSend 2 true))

/-- JTAG_MBX_POP. -/
def execJtagMbxPop (s : State) : Host.Outcome State Fault Refusal :=
  .next (s.mbScan (fun t =>
    let found := !(t.mb 2).rsps.isEmpty
    let r := t.mbPop 2
    r.2.setMb 2 { r.2.mb 2 with word := r.1, valid := found }))

end Sys2Proof.Machine
end

