-- ==== Sys2Proof/Machine/Boot.lean ====
section
/-! DEFINITION. Boot.lean: phases, clearing, restart, and the beginning and the end of loads
(06_configuration_loading.md; R220-R238, R256, R257). -/

namespace Sys2Proof.Machine

/-! ## Small operations -/

def State.setBoot (s : State) (b : Boot) : State := { s with boot := b }
def State.setFw (s : State) (f : Fw) : State := { s with fw := f }

/-- The boot mode (R167, R168): reserved codes act as 0b000. -/
def State.mode (s : State) : Nat :=
  let m := s.fld R.CFG_BOOT_STAT F.CFG_BOOT_STAT_MODE
  if m = 3 || 4 < m then 0 else m

/-- Enter a phase (R201). -/
def State.setPhase (s : State) (n : Nat) : State := s.setFld R.CFG_BOOT_STAT F.CFG_BOOT_STAT_PHASE n

/-- The load in progress on a path (R223). -/
def State.loadOn (s : State) (p : LoadPath) : Option Load := s.boot.loads.find? (fun l => l.path == p)

/-- Put a load in its path's place. -/
def State.putLoad (s : State) (l : Load) : State :=
  s.setBoot { s.boot with loads := l :: s.boot.loads.filter (fun x => x.path != l.path) }

/-- End the load of a path: its key leaves the decryption engine (R559). -/
def State.dropLoad (s : State) (p : LoadPath) : State :=
  { s with boot := { s.boot with loads := s.boot.loads.filter (fun x => x.path != p) }
           sec := { s.sec with engine := s.sec.engine.filter (fun x => x.1 != p) } }

/-- A load that has just begun. -/
def Load.start (path : LoadPath) (kind region : Nat) : Load :=
  { path := path, kind := kind, region := region, alt := false, pri := none, dev := 0, addr := 0, len := none, dirId := none, bytes := []
    hdr := none, blk := 0, buf := [], far := none, frames := 0, written := [], ended := false, verify := false }

/-- Every session closes (R554, R566, R573, R634). -/
def State.closeSessions (s : State) : State := s.setFw { s.fw with sessions := [] }

/-! ## Clearing and the RESET column (R200, R202) -/

/-- Both planes, every owner count and every keeper at 0 (R56, R200). A fabric PLL, no longer configured, loses its lock
(notes/assumptions/45.md); its monitors keep on (R163). -/
def State.clearPlanes (s : State) : State :=
  let t := s.seeClocks
  (({ t with act := Plane.zero, shd := Plane.zero, fab := { t.fab with stopped := [], relock := [] } }).setReg R.CLK_FPLL_LOCK
    0).forEach (List.range 32) (fun t k => (t.setReg (R.FAB_BUS_VAL_LO k) 0).setReg (R.FAB_BUS_VAL_HI k) 0)

/-- A clearing starts, or starts again from its beginning (R200, R210, R288). -/
def State.startClearing (s : State) : State :=
  let t := s.clearPlanes.scrubStop
  t.setBoot { t.boot with clearing := true }

/-- A channel goes to RESET and its lines are indeterminate (R468, R471). -/
def State.mcReset (s : State) (c : Nat) : State :=
  let t := s.when (s.mcState c == 1) (fun t => t.mtLeave c)
  ((t.setMcState c 0).mcAbandon c).rldDrop c false

/-- Pins and state as in the RESET column of R202. -/
def State.resetColumn (s : State) : State :=
  let b := R.CFG_BOOT_STAT
  let t := (((s.setFld b F.CFG_BOOT_STAT_STEP 0).setFlag b F.CFG_BOOT_STAT_USER_MODE false).setFlag b
    F.CFG_BOOT_STAT_CFG_DONE_IN false).assertGsr
  let u := t.forEach (List.range 144) (fun t n => t.setFlag (R.LN_CTRL n) F.LN_CTRL_TX_IDLE true)
  (u.forEach (List.range 8) (fun t c => t.mcReset c)).settlePins

/-! ## Flash loads (R174-R179, R197) -/

/-- Open a container of the directory in use: the load, or the failure code. -/
def State.openFlash (s : State) (path : LoadPath) (kind : Nat) (alt : Bool) : Except Nat Load :=
  if !s.boot.flash0.fitted && !s.boot.flash1.fitted then .error 0x01
  else if s.dirBest.isEmpty then .error 0x02
  else match s.dirFind kind (b2n alt) with
    | none => .error 0x03
    | some e =>
      if !(s.flash e.dev).fitted || 1 < e.dev then .error 0x01
      else .ok { Load.start path kind 0 with alt := alt, dev := e.dev, addr := e.addr, len := some e.len, dirId := some e.id }

/-- The image of a load, as R196 numbers them. -/
def Load.image (l : Load) : Nat :=
  match l.path with
  | .mailbox => 2
  | .jtag => 3
  | _ => b2n l.alt

/-- The record and registers of a failed attempt (R196). -/
def State.bootRecord (s : State) (image code block : Nat) : State :=
  let e := R.CFG_BOOT_ERR
  let t := s.setFld e (if image = 0 then F.CFG_BOOT_ERR_PRI_CODE else F.CFG_BOOT_ERR_ALT_CODE) code
  (t.setFld e F.CFG_BOOT_ERR_BLOCK block).report image ⟨16, 2, 0x01, code * 2 ^ 24 + image * 2 ^ 16 + block % 2 ^ 16⟩

/-- The FAILED phase (R198, R202). -/
def State.enterFailed (s : State) : State := (s.setPhase 6).setFlag R.CFG_BOOT_STAT F.CFG_BOOT_STAT_CFG_ERR true

/-- A firmware image that has no alternate left (R198, R668). -/
def State.lastFailed (s : State) (kind : Nat) : State := if kind = 3 && s.phase != 1 then s else s.enterFailed

/-- An alternate image may follow a failed primary (R168, R197, R668). -/
def State.hasFallback (s : State) (kind : Nat) : Bool := s.mode < 2 || (s.mode == 2 && kind == 3 && s.phase != 1)

/-- Begin the alternate image after a primary that failed with code `pri`. -/
def State.startAlternate (s : State) (path : LoadPath) (kind pri : Nat) : State :=
  match s.openFlash path kind true with
  | .ok l => s.putLoad { l with pri := some pri }
  | .error c => (s.bootRecord 1 c 0xFFFF).lastFailed kind

/-- Begin a load from the directory (R197): the primary, then the alternate. -/
def State.startFlash (s : State) (path : LoadPath) (kind : Nat) : State :=
  let t := s.readDirectory
  match t.openFlash path kind false with
  | .ok l => t.putLoad l
  | .error c =>
    let u := t.bootRecord 0 c 0xFFFF
    if s.hasFallback kind then u.startAlternate path kind c else u.lastFailed kind

/-! ## Failed loads -/

/-- A full load or a firmware load fails (R196-R199). -/
def State.bootFail (s : State) (l : Load) (code block : Nat) : State :=
  let t := (s.dropLoad l.path).bootRecord l.image code block
  match l.path with
  | .mailbox => (t.startClearing).setFw { t.fw with result := some (code, block) }
  | .jtag => if l.kind = 1 then t.startClearing else t
  | _ =>
    let u := t.when (l.frames != 0) (fun t => t.startClearing)
    if l.alt || !s.hasFallback l.kind then u.lastFailed l.kind else u.startAlternate l.path l.kind code

/-- The record of a staging load or of a hold-load stream (R234, R257). -/
def State.stageRecord (s : State) (src region code low : Nat) : State :=
  s.report region ⟨src, 2, 0x01, code * 2 ^ 24 + region * 2 ^ 16 + low % 2 ^ 16⟩

/-- Answer the request that waits for a staging load from flash. -/
def State.answerStager (s : State) (code detail : Nat) : State :=
  match s.fw.stager with
  | some m => (s.mbAnswer m code detail []).setFw { (s.mbAnswer m code detail []).fw with stager := none }
  | none => s

/-- What a staging load leaves when it ends: CODE and BUSY of the NoC path, LOAD_CODE of the region, and the answers. -/
def State.stageEnd (s : State) (path : LoadPath) (region code block : Nat) : State :=
  let t := s.when (s.rgnDefined region) (fun t => t.setFld (R.CFG_RGN_STAT region) F.CFG_RGN_STAT_LOAD_CODE code)
  match path with
  | .noc => (t.setFld R.CFG_STG_CTRL F.CFG_STG_CTRL_CODE code).setFlag R.CFG_STG_CTRL F.CFG_STG_CTRL_BUSY false
  | .mailbox => t.setFw { t.fw with result := some (code, block) }
  | _ => t.answerStager (if code = 0 then 0 else 0x100 + code) block

/-- A staging load fails (R226-R234): once it has entered STAGING the shadow becomes INVALID. -/
def State.stageFail (s : State) (l : Load) (code block : Nat) : State :=
  let t := s.dropLoad l.path
  let u := t.when (l.hdr.isSome && s.shadow l.region == 1) (fun t => t.setShadow l.region 0)
  (u.stageRecord 19 l.region code block).stageEnd l.path l.region code block

/-- A load fails. -/
def State.loadFail (s : State) (l : Load) (code block : Nat) : State :=
  if l.kind = 2 then s.stageFail l code block else s.bootFail l code block

/-! ## The hold-load stream (R256, R257) -/

/-- A hold-load stream ends: code 0, or a failure at packet `index`. -/
def State.holdEnd (s : State) (region code index : Nat) : State :=
  let t := (s.dropLoad .hold).setBoot { (s.dropLoad .hold).boot with hold := none }
  let u := ((t.setFld R.CFG_HLD_CTRL F.CFG_HLD_CTRL_CODE code).setFlag R.CFG_HLD_CTRL F.CFG_HLD_CTRL_BUSY false).when
    (s.rgnDefined region) (fun t => t.setFlag (R.CFG_RGN_STAT region) F.CFG_RGN_STAT_HOLD_LOAD false)
  (if code = 0 then u.pulse 22 else u.stageRecord 22 region code (min index 0xFFFE)).pdSettleAll

/-- A hold-load stream that fails before any packet. -/
def State.holdRefused (s : State) (region code : Nat) : State :=
  (s.setFld R.CFG_HLD_CTRL F.CFG_HLD_CTRL_CODE code).stageRecord 22 region code 0xFFFF

/-- The address in a pair of registers. -/
def State.addrAt (s : State) (lo hi : Nat) : Nat := (s.reg lo).toNat + 2 ^ 32 * ((s.reg hi).toNat % 2 ^ 16)

/-- A START write to CFG_HLD_CTRL (R256, R257); a stream that runs makes it ignored. The registers hold the write. -/
def State.holdStart (s : State) : State :=
  let r := s.fld R.CFG_HLD_CTRL F.CFG_HLD_CTRL_REGION
  let a := s.addrAt R.CFG_HLD_ADDR_LO R.CFG_HLD_ADDR_HI
  if s.boot.hold.isSome then s
  else if !s.rgnDefined r || !s.rgnHeld r then s.holdRefused r 0x1D
  else if !s.memRange a 4 then s.holdRefused r 0x1C
  else
    let t := (s.setFlag R.CFG_HLD_CTRL F.CFG_HLD_CTRL_BUSY true).setFlag (R.CFG_RGN_STAT r) F.CFG_RGN_STAT_HOLD_LOAD true
    (t.setBoot { t.boot with hold := some ⟨r, 0⟩ }).putLoad { Load.start .hold 2 r with addr := a }

/-! ## Staging loads begin (R221-R226) -/

/-- The reason for which a staging load is refused before its first fetch (R226). -/
def State.stageRefusal (s : State) (region : Nat) (noc : Bool) (addr len : Nat) : Option Nat :=
  if !s.user then some 0x1B
  else if (s.rgnDefined region && s.shadow region == 3) ||
      s.boot.loads.any (fun l => l.kind == 2 && l.path != .hold && l.region == region) then some 0x18
  else if noc && (len < 0x2000 || !s.memRange addr len) then some 0x1C
  else none

/-- Begin a staging load, or refuse it (R226). -/
def State.stageStart (s : State) (l : Load) (noc : Bool) : State :=
  match s.stageRefusal l.region noc l.addr (l.len.getD 0) with
  | some c => (s.stageRecord 19 l.region c 0xFFFF).stageEnd l.path l.region c 0xFFFF
  | none => s.putLoad l

/-- A START write to CFG_STG_CTRL (R223, R226); ignored while a NoC load runs. The registers hold the write. -/
def State.stgStart (s : State) : State :=
  let r := s.fld R.CFG_STG_CTRL F.CFG_STG_CTRL_REGION
  if (s.loadOn .noc).isSome then s
  else
    let l := { Load.start .noc 2 r with addr := s.addrAt R.CFG_STG_ADDR_LO R.CFG_STG_ADDR_HI
                                        len := some (s.reg R.CFG_STG_LEN).toNat }
    (s.setFlag R.CFG_STG_CTRL F.CFG_STG_CTRL_BUSY true).stageStart l true

/-! ## Phases (R201, R206, R210, R211) -/

/-- Leave BOOT for LOAD when firmware runs, the first clearing is complete and nothing holds the device (R201, R211, R566): a
full load from flash begins (R168). In a halt the start-up sequencer stands still (R26). -/
def State.tryLoad (s : State) : State :=
  if s.halted || s.phase != 1 || !s.boot.fw || !s.boot.cleared || s.boot.clearing || !s.board.startN || s.boot.wipeHold then s
  else
    let t := s.setPhase 2
    if t.mode < 2 then t.startFlash .flash 1 else t

/-- CLEARING_DONE (R200). -/
def execClearingDone (s : State) : Host.Outcome State Fault Refusal :=
  .next (if !s.boot.clearing || s.halted then s
    else
      let t := s.clearPlanes
      (t.setBoot { t.boot with clearing := false, cleared := true }).tryLoad)

/-- What BOOT seeks (R168, R169, R197, R518): mode 0b100 is refused in DEPLOY and RETURN; with no firmware verified and no
firmware load in progress the boot ROM seeks firmware at its source. A low CFG_START_N (R211) and a halt (R26) put this off
(notes/assumptions/43.md). -/
def State.bootAgain (s : State) : State :=
  if s.halted || !s.board.startN then s
  else if s.mode = 4 then s.when (2 ≤ s.lc) (fun t => (t.bootRecord 3 0x14 0xFFFF).enterFailed)
  else if s.boot.fw || (s.loadOn .rom).isSome then s
  else s.startFlash .rom 3

/-- BOOT goes on where something has held it. -/
def State.bootGoes (s : State) : State := s.when (s.phase == 1 && !s.boot.inReset) (fun t => t.bootAgain.tryLoad)

/-- The way back to BOOT from any phase after RESET (R210); firmware keeps running. In BOOT with no
firmware verified only the clearing starts again. -/
def State.backToBoot (s : State) : State :=
  if s.boot.inReset then s
  else if s.phase = 1 && !s.boot.fw then s.startClearing
  else
    let mb := s.loadOn .mailbox
    let t := ((s.boot.loads.filter (fun l => l.path != .rom && !(l.path == .jtag && l.kind == 3))).map (fun l => l.path)).foldl
      (fun u p => u.dropLoad p) (s.answerStager 8 0)
    let u := t.setBoot { t.boot with hold := none, cleared := false, holdLanes := false }
    let v := (u.setFlag R.CFG_STG_CTRL F.CFG_STG_CTRL_BUSY false).setFlag R.CFG_HLD_CTRL F.CFG_HLD_CTRL_BUSY false
    let w := ((v.setPhase 1).setFlag R.CFG_BOOT_STAT F.CFG_BOOT_STAT_CFG_ERR false).resetColumn.dropRegions
    let x := { w with base := none }
    let y := (x.setReg R.SYS_PD_REQ 0).pdSettleAll.skmStopAll.startClearing
    y.when mb.isSome (fun t => t.setFw { t.fw with loader := none, result := none })

/-- A restart of configuration (R210). -/
def State.restart (s : State) : State :=
  s.backToBoot.when (!s.boot.inReset && (s.phase != 1 || s.boot.fw)) (fun t => t.bootAgain)

/-- CFG_START_N_FALL (R210, R211). -/
def execCfgStartNFall (s : State) : Host.Outcome State Fault Refusal :=
  .next ({ s with board := { s.board with startN := false } }).restart

/-- CFG_START_N_RISE (R211). -/
def execCfgStartNRise (s : State) : Host.Outcome State Fault Refusal :=
  .next ({ s with board := { s.board with startN := true } }).bootGoes

/-- The device holds CFG_DONE low: in every phase before WAIT, and in FAILED (R202, R203); under a boundary-scan instruction where
its cell says so (R620, R659). -/
def State.cfgDoneLow (s : State) : Bool :=
  if s.bscan then s.tap.ir != 0x03 && !s.cell 1 else s.boot.inReset || s.phase < 3 || s.phase == 6

/-- The seven steps of start-up (R206); user lines reach the interrupt controller from step 4 on (R581). -/
def State.startUp (s : State) : State :=
  let b := R.CFG_BOOT_STAT
  let u := (s.setFld b F.CFG_BOOT_STAT_STEP 7).setPhase 5
  let v := (({ u with fab := { u.fab with gsr := false } }).setFlag b F.CFG_BOOT_STAT_USER_MODE true).settlePins.forEach
    (List.range 32) (fun x k => x.gsrSettle k)
  let w := v.when (!s.boot.holdLanes) (fun t =>
    t.forEach (List.range 144) (fun x n => x.setFlag (R.LN_CTRL n) F.LN_CTRL_TX_IDLE false))
  (w.skmStartAll.linesRise s).pulse 17

/-- CFG_DONE_OBSERVED (R205, R206): four samples in a row read high. A device in WAIT runs its seven steps, in a halt only after
the halt (R26); past step 1 the line has no effect (R208). A device that holds the line low cannot see it high. -/
def execCfgDoneObserved (s : State) : Host.Outcome State Fault Refusal :=
  .next (if s.cfgDoneLow then s
    else (s.setFlag R.CFG_BOOT_STAT F.CFG_BOOT_STAT_CFG_DONE_IN true).when (s.phase == 3 && !s.halted) (fun t => t.startUp))

/-- The start-up sequencer goes on after a halt (R26). -/
def State.sequencerGoes (s : State) : State :=
  s.bootGoes.when (s.phase == 3 && s.flag R.CFG_BOOT_STAT F.CFG_BOOT_STAT_CFG_DONE_IN) (fun t => t.startUp)

/-- CFG_DONE_FALL (R205, R208). -/
def execCfgDoneFall (s : State) : Host.Outcome State Fault Refusal :=
  .next (s.setFlag R.CFG_BOOT_STAT F.CFG_BOOT_STAT_CFG_DONE_IN false)

/-! ## The core restarts (R518, R634, R668) -/

/-- Firmware at rest. -/
def Fw.empty : Fw := ⟨[], [], [], [], 0, none, none, none⟩

/-- The boot ROM runs (R518): the scratchpad is zeroed, firmware is sought at its source. -/
def State.runRom (s : State) : State :=
  let t := ((s.padClear.setBoot { s.boot with fw := false }).setFw Fw.empty).setReg R.MBX_VER 0
  t.when (t.mode != 4) (fun u => u.bootAgain)

/-- The core restarts under the watchdog (R634): sessions close and requests not yet answered are discarded. -/
def State.coreRestart (s : State) : State :=
  let t := (s.dropLoad .rom).mbDiscard
  State.runRom { t with sec := { t.sec with prog := t.sec.prog.map (fun p => { p with client := none }) } }

/-! ## The end of a load (R194, R217, R220, R233, R238, R259) -/

/-- The map state of a container's source (R275): none for mailbox and JTAG. -/
def Load.mapCode (l : Load) : Nat :=
  match l.path with
  | .flash => 1
  | .noc => 2
  | _ => 0

/-- The records of a container (R233, R283, R556). -/
def Load.record (l : Load) (h : Header) : PlaneRec :=
  { id := h.id, ver := h.ver, mapDig := h.mapDig, tabDig := h.tabDig, conDig := h.conDig, enc := h.encrypted
    origin := l.mapCode, dev := l.dev, addr := l.addr, mapOff := h.mapOff, mapLen := h.mapLen }

/-- Notice 0x01 of source 18 and FALLBACK, where an alternate image has loaded in the BOOT or LOAD phase (R198, R667). -/
def State.fallbackNotice (s : State) (l : Load) : State :=
  if !l.alt || (s.phase != 1 && s.phase != 2) then s
  else (s.setFlag R.CFG_BOOT_STAT F.CFG_BOOT_STAT_FALLBACK true).report 0
    ⟨18, 0, 0x01, 2 ^ 24 + l.pri.getD 0 * 2 ^ 16 + (if l.kind = 3 then 3 else 1) * 2 ^ 8⟩

/-- The region table of a full bitstream takes effect (R182, R217, R238). -/
def State.installRegions (s : State) (h : Header) (map : Nat) : State :=
  s.dropRegions.forEach h.descs (fun t d =>
    let r := descRegion d % 32
    let v := descRegs d
    let u := (t.setReg (R.CFG_RGN_DESC r) (BitVec.ofNat 32 v.1)).setReg (R.CFG_RGN_SMASK r) (BitVec.ofNat 32 v.2)
    ((u.setFlag (R.CFG_RGN_CTRL r) F.CFG_RGN_CTRL_MODE (descInit d)).setFld (R.CFG_RGN_GEN r) F.CFG_RGN_GEN_ACT_GEN
      (descGen d)).setFld (R.SCR_RGN_MAP r) F.SCR_RGN_MAP_ACT_MAP map)

/-- Contents are lost once more in each of the first `n` sectors or channels. -/
def bumpLoss (t : Tbl Nat) (n : Nat) : Tbl Nat :=
  (List.range n).foldl (fun u k => Tbl.set (fun _ => 0) u k (Tbl.get (fun _ => 0) u k + 1)) t

/-- A full load ends successfully (R194, R201, R217): the device enters WAIT and releases CFG_DONE. A
block memory that it gave no contents holds indeterminate bits (R107). The time since BOOT began is
no state of the model: CFG_LOAD_TIME takes a free value (notes/assumptions/12.md). -/
def State.fullDone (s : State) (l : Load) (h : Header) : State :=
  let t := ((s.dropLoad l.path).fallbackNotice l).installRegions h l.mapCode
  let b := R.CFG_BOOT_STAT
  let u := ((t.setFld b F.CFG_BOOT_STAT_IMAGE l.image).setReg R.CFG_DESIGN_ID_LO (BitVec.ofNat 32 h.id)).setReg
    R.CFG_DESIGN_ID_HI (BitVec.ofNat 32 (h.id / 2 ^ 32))
  let v := ((u.setReg R.CFG_DESIGN_VER (BitVec.ofNat 32 h.ver)).setFld R.SCR_FLAG F.SCR_FLAG_BASE_MAP l.mapCode).setFlag
    R.SCR_FLAG F.SCR_FLAG_STATIC false
  let w := { v.setReg R.SCR_RGN_FLAG 0 with base := some (l.record h)
                                            fab := { v.fab with
                                              words := v.fab.words.filter (fun p => l.written.has (p.1 / 1024))
                                              loss := bumpLoss v.fab.loss 32, zero := [] } }
  let d := w.draw
  let x := (d.2.setReg R.CFG_LOAD_TIME (BitVec.ofNat 32 d.1)).setPhase 3
  let y := x.setBoot { x.boot with holdLanes := h.holdLanes }
  y.when (l.path == .mailbox) (fun t => t.setFw { t.fw with result := some (0, 0) })

end Sys2Proof.Machine
end

