-- ==== Sys2Proof/Machine/Irq.lean ====
section
/-! DEFINITION. Irq.lean: the interrupt controller and the error collector (18_interrupts_and_error_log.md). -/

namespace Sys2Proof.Machine

def State.setIc (s : State) (x : Ic) : State := { s with ic := x }

/-! ## Levels (R579, R581) -/

/-- Source 1 (R568). -/
def State.tamperLevel (s : State) : Bool := s.fld R.SEC_TAMPER_STAT F.SEC_TAMPER_STAT_TRIPPED != 0

/-- Source 508 (R603). -/
def State.errThLevel (s : State) : Bool :=
  let th := s.fld R.ERR_CTRL F.ERR_CTRL_TH
  th != 0 && th ≤ s.err.fifo.length

/-- Source 510 (R632). -/
def State.dbgLevel (s : State) : Bool := (s.reg R.DBG_STAT &&& s.reg R.DBG_INT_EN &&& 0xF) != 0

/-- The level of a level source (R579); a pulse source and a reserved one have none. -/
def State.levelOf (s : State) (n : Nat) : Bool :=
  if s.isPulse n || reservedSource n then false
  else if n = 0 then s.flag R.ERR_STAT F.ERR_STAT_FE
  else if n = 1 then s.tamperLevel
  else if n = 5 then s.clkLevel
  else if n < 64 then false
  else if n < 128 then s.coneLevel (n - 64)
  else if n < 160 then s.tdLevel (n - 128)
  else if n < 176 then s.capLevel (n - 160)
  else if n < 336 then s.lnLevel (n - 192)
  else if n < 372 then s.lqLevel (n - 336)
  else if n < 388 then s.grpLevel (n - 372)
  else if n < 404 then s.skmLevel (n - 388)
  else if n < 436 then
    (if (n - 404) % 4 = 1 then s.mtLevel ((n - 404) / 4) else s.mcLevel ((n - 404) / 4) ((n - 404) % 4))
  else if n < 500 then false
  else if n < 508 then s.mbLevel (n - 500)
  else if n = 508 then s.errThLevel
  else if n = 509 then s.flag R.ERR_STAT F.ERR_STAT_LOST
  else if n = 510 then s.dbgLevel
  else s.userLevel (n - 512)

/-- Settle one source by its level. -/
def State.settleOf (s : State) (n : Nat) : State := s.settle n (s.levelOf n)

/-! ## Presentation, claim and completion (R583-R592) -/

/-- A source is in service at a target. -/
def State.service (s : State) (t : Nat) : Option Nat := Tbl.get (fun _ => none) s.ic.svc t

/-- A source is presentable to a target (R584). -/
def State.presentable (s : State) (t n : Nat) : Bool :=
  s.ic.pending.has n && s.flag (R.IC_SRC n) F.IC_SRC_EN && s.fld (R.IC_SRC n) F.IC_SRC_TARGET == t &&
    !s.ic.holdoff.has (n / 16) && s.flag (R.IC_TGT_CFG t) F.IC_TGT_CFG_EN && (s.service t).isNone

/-- A target's output (R584, R594). -/
def State.asserted (s : State) (t : Nat) : Bool := !s.ic.asleep && s.ic.pending.any (fun n => s.presentable t n)

/-- The source that a claim takes: the lowest-numbered presentable one (R586). -/
def State.claimable (s : State) (t : Nat) : Option Nat := s.ic.pending.find? (fun n => s.presentable t n)

/-- The level a claim reports: a pulse source's is 1 (R586). -/
def State.claimLevel (s : State) (n : Nat) : Bool := s.isPulse n || s.levelOf n

/-- The word that a claim read returns (R586). -/
def State.claimWord (s : State) (t : Nat) : Word :=
  match s.claimable t with
  | none => 0
  | some n => BitVec.ofNat 32 (2 ^ 31 + 2 ^ 30 * b2n (s.claimLevel n) + n)

/-- What a claim changes (R586). -/
def State.claim (s : State) (t : Nat) : State :=
  match s.claimable t with
  | none => s
  | some n => s.setIc { s.ic with
      pending := NSet.del s.ic.pending n
      swPend := NSet.del s.ic.swPend n
      atClaim := NSet.put s.ic.atClaim n (s.claimLevel n)
      svc := Tbl.set (fun _ => none) s.ic.svc t (some n) }

/-- A completion write of source `n` at target `t` (R588, R592). -/
def State.completeAt (s : State) (t n : Nat) : State :=
  if s.service t = some n then
    let u := s.setIc { s.ic with svc := Tbl.set (fun _ => none) s.ic.svc t none }
    let v := u.settleOf n
    v.when (16 ≤ n && s.fld (R.IC_HOLDOFF (n / 16)) F.IC_HOLDOFF_TIME != 0) (fun w =>
      w.setIc { w.ic with holdoff := NSet.add w.ic.holdoff (n / 16) })
  else s.setFlag (R.IC_TGT_STAT t) F.IC_TGT_STAT_BAD_COMPLETE true

/-- HOLDOFF_EXPIRY (R592). -/
def execHoldoffExpiry (g : Fin 64) (s : State) : Host.Outcome State Fault Refusal :=
  .next (if s.halted then s else s.setIc { s.ic with holdoff := NSet.del s.ic.holdoff g })

/-- A write of DISCARD and SW_PEND to a source (R583). -/
def State.pendAct (s : State) (n : Nat) (v : Word) : State :=
  let d := s.when (v.fget F.IC_SRC_DISCARD == 1 && !s.inService n) (fun t =>
    (t.setIc { t.ic with pending := NSet.del t.ic.pending n, swPend := NSet.del t.ic.swPend n }).settleOf n)
  d.when (v.fget F.IC_SRC_SW_PEND == 1) (fun t =>
    t.setIc { t.ic with pending := NSet.add t.ic.pending n, swPend := NSet.add t.ic.swPend n })

/-- INTERRUPT_SOURCE_RAISE (R580, R581, R583): a pulse source is raised, a level source is sampled; a user line takes the value
given, and its rising edge raises it where its TYPE is PULSE. -/
def execInterruptSourceRaise (n : Fin 1024) (level : Bool) (s : State) : Host.Outcome State Fault Refusal :=
  .next (if s.boot.inReset then s
    else if n.val < 512 then (if s.isPulse n then s.raise n else s.settleOf n)
    else
      let t := s.setIc { s.ic with userHigh := NSet.put s.ic.userHigh n level }
      if s.isPulse n then t.when (!s.userLevel (n - 512) && t.userLevel (n - 512)) (fun u => u.raise n)
      else t.settleOf n)

/-! ## Sleep (R593, R594) -/

/-- The latches pass into the pending state and clear (R593); a level source in service does not become pending (R588). -/
def State.latchPass (s : State) : State :=
  s.setIc { s.ic with latch := []
                      pending := s.ic.latch.foldl (fun p n =>
                        if s.isPulse n || !s.inService n then NSet.add p n else p) s.ic.pending }

/-- The clock runs again. -/
def State.icWake (s : State) : State :=
  if s.ic.asleep then (s.setIc { s.ic with asleep := false }).latchPass else s

/-- IC_SLEEP (R594). -/
def execIcSleep (s : State) : Host.Outcome State Fault Refusal :=
  .next (if s.flag R.IC_CTRL F.IC_CTRL_SLEEP_EN && !s.halted && s.ic.pending.isEmpty &&
      s.ic.svc.all (fun p => p.2.isNone) && s.ic.holdoff.isEmpty && s.err.waiting.isEmpty && s.ic.latch.isEmpty then
      s.setIc { s.ic with asleep := true }
    else s)

/-- IC_WAKE (R593, R594): a set latch, a report or an access restarts the clock. -/
def execIcWake (s : State) : Host.Outcome State Fault Refusal := .next (if s.halted then s else s.icWake)

/-! ## The error collector (R596-R604) -/

def State.setErr (s : State) (x : Err) : State := { s with err := x }

/-- The waiting report that is accepted next: the lowest source number, then the order of sending (R598). -/
def nextReport : List Waiting → Option Waiting
  | [] => none
  | w :: r => match nextReport r with
    | some x => if x.rpt.src < w.rpt.src then some x else some w
    | none => some w

/-- An entry identical to a report (R599). -/
def LogEntry.same (e : LogEntry) (r : Report) : Bool := e.rpt == r

/-- Accept a report with its merged repeats (R598-R603). -/
def State.accept (s : State) (w : Waiting) : State :=
  let r := w.rpt
  let t := s.countReport r s.td0
  let u :=
    if s.err.fifo.any (fun e => e.same r) then
      t.setErr { t.err with fifo := t.err.fifo.map (fun e => if e.same r then { e with rep := satAdd 8 e.rep (w.rep + 1) } else e) }
    else if 64 ≤ s.err.fifo.length || (60 ≤ s.err.fifo.length && r.sev != 3) then t.countDrop r
    else t.setErr { t.err with fifo := t.err.fifo ++ [⟨s.td0, r, w.rep⟩] }
  let v := u.when (r.sev == 3) (fun x => (x.setFlag R.ERR_STAT F.ERR_STAT_FE true).high 0)
  v.settleOf 508

/-- ERROR_REPORT_ACCEPT (R598); the collector stops during a halt (R595) and in RESET (R146). -/
def execErrorReportAccept (s : State) : Host.Outcome State Fault Refusal :=
  .next (if s.halted || s.boot.inReset then s
    else match nextReport s.err.waiting with
    | none => s
    | some w => (s.icWake.setErr { s.icWake.err with waiting := s.icWake.err.waiting.erase w }).accept w)

/-- Word `w` of a record (R596). -/
def LogEntry.word (e : LogEntry) : Nat → Word
  | 0 => BitVec.ofNat 32 e.time
  | 1 => BitVec.ofNat 32 (e.time / 2 ^ 32)
  | 2 => BitVec.ofNat 32 (e.rpt.src % 2 ^ 16 + 2 ^ 16 * (64 * e.rpt.sev + e.rpt.cls) + 2 ^ 24 * e.rep)
  | _ => BitVec.ofNat 32 e.rpt.info

/-- Word `w` of the oldest entry, or all ones (R604). -/
def State.popWord (s : State) (w : Nat) : Word :=
  match s.err.fifo with
  | [] => 0xFFFFFFFF
  | e :: _ => e.word w

/-- What an ordinary read of ERR_POP0 changes (R604). -/
def State.popErr (s : State) : State :=
  let t := ((s.setReg R.ERR_POP1 (s.popWord 1)).setReg R.ERR_POP2 (s.popWord 2)).setReg R.ERR_POP3 (s.popWord 3)
  t.setErr { t.err with fifo := t.err.fifo.drop 1 }

/-! ## Registers of both windows -/

/-- What an IC register reads (R582, R583, R586). -/
def State.icPeek (s : State) (loc : Nat) : Option Word :=
  if loc = 4 then some (BitVec.ofNat 32 (((List.range 8).map (fun t => if s.asserted t then 2 ^ t else 0)).sum))
  else if 0x100 ≤ loc && loc < 0x180 then
    let t := (loc - 0x100) / 16
    if loc % 16 = 0 then some (s.claimWord t)
    else if loc % 16 = 0xC then some (match s.service t with
      | some n => ((s.reg (R.IC_TGT_STAT t)).fput F.IC_TGT_STAT_IN_SERVICE 1).fput F.IC_TGT_STAT_SOURCE n
      | none => s.reg (R.IC_TGT_STAT t))
    else none
  else if 0x200 ≤ loc && loc < 0x300 && loc % 4 = 0 then
    let g := (loc - 0x200) / 4
    some ((s.reg (R.IC_HOLDOFF g)).fput F.IC_HOLDOFF_ACTIVE (b2n (s.ic.holdoff.has g)))
  else if 0x400 ≤ loc && loc < 0x480 && loc % 4 = 0 then some (NSet.bits s.ic.pending (32 * ((loc - 0x400) / 4)))
  else if 0x1000 ≤ loc && loc < 0x2000 && loc % 4 = 0 then
    let n := (loc - 0x1000) / 4
    if reservedSource n then some 0
    else some (((((s.reg (R.IC_SRC n)).fput F.IC_SRC_PENDING (b2n (s.ic.pending.has n))).fput F.IC_SRC_IN_SERVICE
      (b2n (s.inService n))).fput F.IC_SRC_LEVEL (b2n (s.levelOf n))).fput F.IC_SRC_ASSERTED_AT_CLAIM
      (b2n (s.ic.atClaim.has n))|>.fput F.IC_SRC_SW_PEND (b2n (s.ic.swPend.has n)))
  else none

/-- The bits of a write that an IC register takes: TYPE of user lines only, reserved sources none (R582), the fixed fields of
targets 0 and 1 none (R591), TIME of group 0 none (R592). -/
def icMask (loc : Nat) (v : Word) : Word :=
  if 0x1000 ≤ loc && loc < 0x2000 then
    let n := (loc - 0x1000) / 4
    if reservedSource n then 0 else if n < 512 then v &&& ~~~ F.IC_SRC_TYPE.mask ||| (if pulseSource n then F.IC_SRC_TYPE.mask else 0)
    else v
  else if loc = 0x108 || loc = 0x118 then (v &&& F.IC_TGT_CFG_EN.mask) ||| 0x68
  else if loc = 0x200 then 0
  else v

/-- What a write to an IC register does beside storing its fields. -/
def State.icAct (s : State) (loc : Nat) (v : Word) : State :=
  if 0x1000 ≤ loc && loc < 0x2000 && loc % 4 = 0 then
    let n := (loc - 0x1000) / 4
    if reservedSource n then s else ((s.setFlag (R.IC_SRC n) F.IC_SRC_SW_PEND false).pendAct n v).settleOf n
  else s

/-- What an ERR register reads. -/
def State.errPeek (s : State) (loc : Nat) : Option Word :=
  if loc = 4 then some ((s.reg R.ERR_STAT).fput F.ERR_STAT_LEVEL s.err.fifo.length)
  else if loc = 8 then some (s.popWord 0)
  else none

/-! ## Accesses (R579, R591, R594, R595, R604) -/

/-- The endpoint may claim and complete at a target (R591). -/
def State.ownsTarget (s : State) (ep t : Nat) : Bool :=
  let o := s.fld (R.IC_TGT_CFG t) F.IC_TGT_CFG_OWNER
  ep == o || (o == 0xFF && ep < 0x40)

/-- Claim or completion register of a target, by its place in the window. -/
def icTarget (loc : Nat) (k : Nat) : Option Nat :=
  if 0x100 ≤ loc && loc < 0x180 && loc % 16 = k then some ((loc - 0x100) / 16) else none

/-- An access to the IC or ERR window is accepted (R591, R604). -/
def State.icAccepts (s : State) (ep : Nat) (dbg write : Bool) (off : Nat) : Bool :=
  let loc := off % 0x10000
  if off / 0x10000 = 4 then
    if write then (match icTarget loc 4 with
      | some t => s.ownsTarget ep t
      | none => ep == 0x68)
    else (match icTarget loc 0 with
      | some t => s.ownsTarget ep t || (ep == 0x6B && dbg)
      | none => true)
  else if write then ep == 0x68
  else loc != 8 || ep == 0x68 || (ep == 0x6B && dbg)

/-- What an IC or ERR register reads. -/
def State.icErrRead (s : State) (off : Nat) : Word :=
  let loc := off % 0x10000
  if off / 0x10000 = 4 then (s.icPeek loc).getD (s.reg off) else (s.errPeek loc).getD (s.reg off)

/-- The word a debug-tagged read returns: ERR_POP1 to ERR_POP3 show the oldest entry (R604). -/
def State.icErrDebug (s : State) (off : Nat) : Word :=
  if R.ERR_POP0 ≤ off && off ≤ R.ERR_POP3 then s.popWord ((off - R.ERR_POP0) / 4) else s.icErrRead off

/-- What an ordinary read changes: a claim, a pop, or an RC counter. -/
def State.icErrReadAct (s : State) (off : Nat) : State :=
  let loc := off % 0x10000
  if off / 0x10000 = 4 then (match icTarget loc 0 with
    | some t => s.claim t
    | none => s)
  else if loc = 8 then s.popErr
  else s.setReg off (s.reg off &&& ~~~ rcMask off)

/-- What an accepted write changes. -/
def State.icErrWrite (s : State) (off : Nat) (v : Word) : State :=
  let loc := off % 0x10000
  if off / 0x10000 = 4 then (match icTarget loc 4 with
    | some t => s.completeAt t (v.fget F.IC_TGT_COMPLETE_SOURCE)
    | none => ((s.rawWrite true off (icMask loc v)).1).icAct loc v)
  else ((s.rawWrite true off v).1).settleOf 508

/-- Serve an access that waited through a halt (R595). -/
def State.icServe (s : State) (a : HeldAccess) : State :=
  if !s.icAccepts a.ep false a.write a.off then s
  else if a.write then s.icErrWrite a.off a.value
  else { s.icErrReadAct a.off with out := leBytes 4 (s.icErrRead a.off).toNat }

end Sys2Proof.Machine
end

