-- ==== Sys2Proof/Machine/Run.lean ====
section
/-! DEFINITION. Run.lean: run control, the watchdog and the self-test controller (R607-R615, R627-R636). -/

namespace Sys2Proof.Machine

/-! ## Run control -/

/-- Set an event of DBG_STAT and settle source 510 (R632). -/
def State.dbgEvent (s : State) (f : Fld) : State := (s.setFlag R.DBG_STAT f true).settleOf 510

/-- A record of source 510 (R618): a broken lock, which comes with a halt, has a reporter of its own
(notes/assumptions/23.md). -/
def State.dbgRecord (s : State) (code detail : Nat) : State := s.report (b2n (code == 0x82)) ⟨510, 0, 0x1B, code * 2 ^ 24 + detail % 256⟩

/-- A halt request (R628, R630). -/
def State.haltAct (s : State) : State := s.when (!s.halted) (fun t => t.setFlag R.DBG_STAT F.DBG_STAT_HALT_PEND true)

/-- The count of the watchdog as it stands: it has run down by an amount of time that the model does not hold
(notes/assumptions/12.md). -/
def State.wdtNow (s : State) : Nat :=
  let c := (s.reg R.WDT_COUNT).toNat
  if s.flag R.WDT_CTRL F.WDT_CTRL_EN && !s.halted then (Config.freeWord s.draws).toNat % (c + 1) else c

/-- CORE_HALT (R628, R629, R631): the core stops at an instruction boundary, or breaks a locked sequence after 256 cycles. A
halt waits for the end of a wipe. -/
def execCoreHalt (pc : BitVec 32) (broken : Bool) (s : State) : Host.Outcome State Fault Refusal :=
  .next (if s.boot.inReset || s.halted || !s.flag R.DBG_STAT F.DBG_STAT_HALT_PEND || s.sec.wiping then s
    else
      let t := { (s.setReg R.WDT_COUNT (BitVec.ofNat 32 s.wdtNow)) with draws := s.draws + 1 }
      let u := t.forEach (List.range 8) (fun t c => t.when (t.flag (R.MC_CTRL c) F.MC_CTRL_FRZ_DBG) (fun t => t.mcFreeze c true))
      let v := { u with dbg := { u.dbg with frz := s.reg R.DBG_FRZ, frzSect := s.reg R.DBG_FRZ_SECT, step := false } }
      let w := ((v.setFlag R.DBG_STAT F.DBG_STAT_HALT_PEND false).setFlag R.DBG_STAT F.DBG_STAT_HALTED true).setReg R.DBG_PC pc
      let x := ((w.countWrap R.DBG_HALT_CNT F.DBG_HALT_CNT_VALUE 1).dbgEvent F.DBG_STAT_HALT_ENTERED).dbgRecord 0x81 0
      x.when broken (fun t => (t.dbgEvent F.DBG_STAT_LOCK_BROKEN).dbgRecord 0x82 0))

/-- A debug-tagged access of the debug master apart, an access to the IC or ERR window waits for the end of a halt (R595). -/
def State.icHold (s : State) (a : HeldAccess) : State := s.setIc { s.ic with held := s.ic.held ++ [a] }

/-- The release (R595, R630, R636, R241, R498): channels frozen by the halt go on, the watchdog has at least 1,000 µs, the counts
of merged and dropped reports are made, held activity passes into pending, refusals are recorded, held accesses are
served; the start-up sequencer goes on (R26). -/
def State.resumeAct (s : State) : State :=
  if !s.halted then s
  else
    let t := s.setFlag R.DBG_STAT F.DBG_STAT_HALTED false
    let u := (t.setReg R.WDT_COUNT (BitVec.ofNat 32 (max 1000 (s.reg R.WDT_COUNT).toNat))).forEach (List.range 8) (fun t c =>
      let m := t.mcOf c
      if m.halt then t.mcThaw c else t.setMc c { m with wantHalt := false })
    let v := (u.setErr { u.err with deferred := [] }).forEach s.err.deferred (fun t p => t.mergeReport p.1 p.2)
    let w := (v.latchPass.gateResume).forEach (List.range 32) (fun t k => t.gsrSettle k)
    ((w.setIc { w.ic with held := [] }).forEach s.ic.held (fun t a => t.icServe a)).skmThaw.sequencerGoes

/-- STEP (R630): one instruction, then a halt under R628. -/
def State.stepAct (s : State) : State :=
  if !s.halted then s
  else
    let t := s.resumeAct
    { (t.setFlag R.DBG_STAT F.DBG_STAT_HALT_PEND true) with dbg := { t.dbg with step := true } }

/-- A write to DBG_RC (R627, R630): the bits act in the order HALT, RESUME, STEP. -/
def State.rcAct (s : State) (v : Word) : State :=
  let t := s.when (v.fget F.DBG_RC_HALT == 1) (fun t => t.haltAct)
  let u := t.when (v.fget F.DBG_RC_RESUME == 1 && s.halted) (fun t => t.resumeAct)
  u.when (v.fget F.DBG_RC_STEP == 1 && s.halted) (fun t => t.stepAct)

/-! ## The watchdog (R633-R635, R668) -/

/-- The reload value. -/
def State.wdtLoad (s : State) : Word := BitVec.ofNat 32 (max 1000 (s.reg R.WDT_LOAD).toNat)

/-- A kick. -/
def State.wdtKick (s : State) (v : Word) : State :=
  if v.fget F.WDT_KICK_KEY = 0xC1A5 then (s.setReg R.WDT_COUNT s.wdtLoad).setFlag R.WDT_STAT F.WDT_STAT_FIRST false
  else s.setFlag R.WDT_STAT F.WDT_STAT_BADKEY true

/-- A write to WDT_CTRL that would clear EN without the key (R635). -/
def State.wdtBadClear (s : State) (v : Word) : Bool :=
  s.flag R.WDT_CTRL F.WDT_CTRL_EN && v.fget F.WDT_CTRL_EN == 0 && v.fget F.WDT_CTRL_KEY != 0xC1A5

/-- A record of the watchdog (R634). -/
def State.wdtRecord (s : State) (sev code : Nat) : State := s.report 0 ⟨4, sev, 0x1A, code * 2 ^ 24⟩

/-- WDT_EXPIRY (R634). -/
def execWdtExpiry (s : State) : Host.Outcome State Fault Refusal :=
  .next (if s.boot.inReset || !s.flag R.WDT_CTRL F.WDT_CTRL_EN || s.halted then s
    else
      let t := (s.setReg R.WDT_COUNT s.wdtLoad).countWrap R.WDT_STAT F.WDT_STAT_EXPIRIES 1
      if !s.flag R.WDT_STAT F.WDT_STAT_FIRST then (t.setFlag R.WDT_STAT F.WDT_STAT_FIRST true).wdtRecord 2 0x91
      else
        let u := (t.setFlag R.WDT_STAT F.WDT_STAT_FIRST false).wdtRecord 3 0x92
        match s.fld R.WDT_CTRL F.WDT_CTRL_ACTION with
        | 0 => u
        | 1 => u.coreRestart
        | _ => u.backToBoot.coreRestart.when (u.mode == 4) (fun t => t.bootAgain))

/-! ## Self-test (R607-R615) -/

def State.setIst (s : State) (x : Ist) : State := { s with ist := x }

/-- Words of a scratchpad slice (R607). -/
def State.istW (s : State) : Nat := 2 ^ (min 9 (s.fld R.IST_CTRL F.IST_CTRL_SPAD_W))

/-- The units of a target. -/
def State.istUnits (s : State) : Nat → Nat
  | 0 => 491520 / s.istW
  | 1 => 1024
  | 2 => 128
  | _ => 0

/-- The power of a slice in 10 mW (R607). -/
def istPower : Nat → Nat
  | 0 => 4
  | 1 => 3
  | _ => 2

/-- A link port exists and is usable at both ends, and its router changes no ports (R326, R607). -/
def State.linkUsable (s : State) (n port : Nat) : Bool :=
  match linkOf n port with
  | some m => s.portUp n port && s.portEn n port && s.portUp m (farPort port) && s.portEn m (farPort port) &&
      !s.flag (R.NOC_STAT n) F.NOC_STAT_RCFG_BUSY
  | none => false

/-- The channel of an MCQ unit is in READY. -/
def State.mcqReady (s : State) (u : Nat) : Bool := s.mcState (u / 16) == 3

/-- The bank queue of an MCQ unit is empty. -/
def State.mcqEmpty (s : State) (u : Nat) : Bool := !(s.mcOf (u / 16)).q.any (fun e => e.bank == u % 16)

/-- A unit exists and its condition of R607 holds. -/
def State.istRunnable (s : State) (tgt u : Nat) : Bool :=
  u < s.istUnits tgt && (match tgt with
    | 0 => true
    | 1 => u % 16 < 14 && s.linkUsable (u / 16) (u % 16)
    | 2 => s.mcqReady u && s.mcqEmpty u
    | _ => false)

/-- The sum of the running slices' power. -/
def Ist.power (x : Ist) : Nat := (x.slices.map (fun q => istPower q.tgt)).sum

/-- The exclusions and the power limit of R610; the one march engine is free (R524, R564); the stagger is time that has passed
(notes/assumptions/12.md). -/
def State.istFits (s : State) (tgt u : Nat) : Bool :=
  s.ist.power + istPower tgt ≤ s.fld R.IST_CTRL F.IST_CTRL_PWR_MAX &&
    !s.ist.slices.any (fun q => q.tgt == tgt && (tgt == 0 || q.unit / 16 == u / 16)) &&
    (tgt != 0 || (s.pad.march.isNone && !s.sec.wiping))

/-- A unit that a sweep passes over without count (R611). -/
def State.istPassed (s : State) (tgt u : Nat) : Bool := (tgt == 1 && !s.istRunnable 1 u) || (tgt == 2 && !s.mcqReady u)

/-- A sweep is in progress. -/
def State.sweeping (s : State) : Bool := s.flag R.IST_STAT F.IST_STAT_BUSY

/-- The targets enabled for a sweep. -/
def State.istTargets (s : State) : List Nat :=
  (if s.flag R.IST_CTRL F.IST_CTRL_SPAD_EN then [0] else []) ++ (if s.flag R.IST_CTRL F.IST_CTRL_LINK_EN then [1] else []) ++
    (if s.flag R.IST_CTRL F.IST_CTRL_MCQ_EN then [2] else [])

/-- The next unit of a target that a sweep takes, from `u` on: units that R611 passes over are skipped. -/
def State.istSeek (s : State) (tgt u : Nat) : Nat → Option Nat
  | 0 => none
  | k + 1 =>
    if s.istUnits tgt ≤ u then none
    else if !s.istPassed tgt u then some u
    else s.istSeek tgt (u + 1) k

/-- The unit a sweep has next in a target. -/
def State.istNext (s : State) (tgt : Nat) : Option Nat :=
  match Tbl.get (fun _ => none) s.ist.next tgt with
  | none => none
  | some u => s.istSeek tgt u 1100

/-- Set a target's next unit. -/
def Ist.setNext (x : Ist) (tgt : Nat) (u : Option Nat) : Ist := { x with next := Tbl.set (fun _ => none) x.next tgt u }

/-- The units to try again, of the run or of the sweep. -/
def Ist.late (x : Ist) (run : Bool) : List (Nat × Nat × Nat) := if run then x.again else x.retry
def Ist.setLate (x : Ist) (run : Bool) (l : List (Nat × Nat × Nat)) : Ist :=
  if run then { x with again := l } else { x with retry := l }

/-- Abandons in a row of a unit. -/
def Ist.tried (x : Ist) (run : Bool) (tgt u : Nat) : Nat :=
  match (x.late run).find? (fun q => q.1 == tgt && q.2.1 == u) with
  | some q => q.2.2
  | none => 0

/-- Forget a unit's abandons. -/
def Ist.forget (x : Ist) (run : Bool) (tgt u : Nat) : Ist :=
  x.setLate run ((x.late run).filter (fun q => !(q.1 == tgt && q.2.1 == u)))

/-- The end of a sweep (R611). -/
def State.sweepEnd (s : State) : State :=
  if s.sweeping && [0, 1, 2].all (fun t => (s.istNext t).isNone) && s.ist.retry.isEmpty && !s.ist.slices.any (fun q => !q.run) then
    (((s.setFlag R.IST_STAT F.IST_STAT_BUSY false).countWrap R.IST_STAT F.IST_STAT_PASS_CNT 1).setIst
      { s.ist with next := [], retry := [] }).pulse 49
  else s

/-- A run is in progress (R614). -/
def State.istRunning (s : State) : Bool := s.flag R.IST_RUN F.IST_RUN_BUSY

/-- The end of a run (R614). -/
def State.runEnd (s : State) : State :=
  if s.istRunning && s.ist.left == 0 && s.ist.again.isEmpty && !s.ist.slices.any (fun q => q.run) then
    (s.setFlag R.IST_RUN F.IST_RUN_BUSY false).pulse 52
  else s

/-- Move the run past units that do not exist or whose condition does not hold: each counts as skipped (R614). -/
def State.runSkip (s : State) : Nat → State
  | 0 => s
  | k + 1 =>
    if s.ist.left = 0 || s.istRunnable s.ist.tgt s.ist.unit then s
    else ((s.count R.IST_RUN_RES F.IST_RUN_RES_SKIPPED 1).setIst { s.ist with left := s.ist.left - 1, unit := s.ist.unit + 1 }).runSkip k

/-- IST_SWEEP_START (R611). -/
def execIstSweepStart (s : State) : Host.Outcome State Fault Refusal :=
  .next (if s.boot.inReset || s.halted || s.sweeping || !s.flag R.IST_CTRL F.IST_CTRL_EN then s
    else
      let x := s.istTargets.foldl (fun (x : Ist) t => x.setNext t (some 0)) { s.ist with next := [], retry := [] }
      ((s.setFlag R.IST_STAT F.IST_STAT_BUSY true).setIst x).sweepEnd)

/-- A record of sources 50 and 51 (R613). -/
def State.istRecord (s : State) (src sev code tgt u : Nat) : State :=
  s.report 0 ⟨src, sev, 0x19, code * 2 ^ 24 + tgt * 2 ^ 20 + u % 2 ^ 20⟩

/-- Start a slice: a scratchpad slice takes the march engine, a queue's waits for lines that arrive (R609). -/
def State.istStart (s : State) (tgt u : Nat) (run : Bool) : State :=
  let t := s.setIst { s.ist with slices := s.ist.slices ++ [⟨tgt, u, run, 0⟩] }
  let v := t.when (tgt == 0) (fun t => { t with pad := { t.pad with march := some ⟨u * s.istW, s.istW, true⟩ } })
  v.when (tgt == 2) (fun t => t.setMc (u / 16) { t.mcOf (u / 16) with arrived := [] })

/-- A unit counts as not run (R612): it is tried again, and after 8 times in a row passed over, with a record; a run counts it as
skipped. -/
def State.istPutOff (s : State) (tgt u : Nat) (run : Bool) : State :=
  let n := s.ist.tried run tgt u + 1
  let x := s.ist.forget run tgt u
  if 8 ≤ n then
    (((s.setIst x).when run (fun t => t.count R.IST_RUN_RES F.IST_RUN_RES_SKIPPED 1)).count R.IST_SKIP_CNT F.IST_SKIP_CNT_COUNT
      1).istRecord 51 0 0x72 tgt u
  else s.setIst (x.setLate run (x.late run ++ [(tgt, u, n)]))

/-- A unit to try again that can start now: no slice of it runs. -/
def State.istLate (s : State) (run : Bool) : Option (Nat × Nat × Nat) :=
  (s.ist.late run).find? (fun q => s.istFits q.1 q.2.1)

/-- Take a unit of a sweep: one whose queue is not empty is put off (R611). -/
def State.istTake (s : State) (tgt u : Nat) : State :=
  if s.istRunnable tgt u then s.istStart tgt u false else s.istPutOff tgt u false

/-- The sweep's next slice (R611): a unit not tried before of the first of SPAD, LINK and MCQ that has one that fits, else one to try
again. -/
def State.sweepNext (s : State) : State :=
  let t := s.setIst { s.ist with retry := s.ist.retry.filter (fun q => !s.istPassed q.1 q.2.1) }
  let new := [0, 1, 2].filterMap (fun k => match t.istNext k with
    | some u => if t.istFits k u then some (k, u) else none
    | none => none)
  match new, t.istLate false with
  | (k, u) :: _, _ => (t.setIst (t.ist.setNext k (some (u + 1)))).istTake k u
  | [], some q => t.istTake q.1 q.2.1
  | [], none => t.sweepEnd

/-- The run's next slice (R614): its next unit, else one to try again, which counts as skipped where its condition no longer holds. -/
def State.runNext (s : State) : State :=
  let t := s.runSkip 256
  if t.ist.left != 0 then
    (if t.istFits t.ist.tgt t.ist.unit then
      (t.setIst { t.ist with left := t.ist.left - 1, unit := t.ist.unit + 1 }).istStart t.ist.tgt t.ist.unit true
    else t)
  else match t.istLate true with
    | some q =>
      if t.istRunnable q.1 q.2.1 then t.istStart q.1 q.2.1 true
      else ((t.setIst (t.ist.forget true q.1 q.2.1)).count R.IST_RUN_RES F.IST_RUN_RES_SKIPPED 1).runEnd
    | none => t.runEnd

/-- IST_SLICE_START (R610, R611, R614): the next slice of a run while one is busy, else of the sweep. -/
def execIstSliceStart (s : State) : Host.Outcome State Fault Refusal :=
  .next (if s.boot.inReset || s.halted then s
    else if s.istRunning then s.runNext
    else if s.sweeping && s.flag R.IST_CTRL F.IST_CTRL_EN then s.sweepNext
    else s)

/-- The oldest running slice of a target. -/
def State.istSlice (s : State) (tgt : Nat) : Option IstSlice := s.ist.slices.find? (fun q => q.tgt == tgt)

/-- A slice leaves. -/
def State.istLeave (s : State) (q : IstSlice) : State := s.setIst { s.ist with slices := s.ist.slices.erase q }

/-- A slice has to yield (R527, R609): its march has, a line has reached its queue, or its channel has left READY. -/
def State.istYields (s : State) (q : IstSlice) : Bool :=
  q.march == 3 || (q.tgt == 2 && (s.mcOf (q.unit / 16)).arrived.has (q.unit % 16))

/-- A slice that has not ended: the march of a scratchpad slice goes on. -/
def IstSlice.going (q : IstSlice) : Bool := q.tgt == 0 && q.march == 0

/-- IST_SLICE_DONE (R613): `fail` is the result of a LINK or MCQ slice; a scratchpad slice takes its march's. A slice that has to
yield is not done. -/
def execIstSliceDone (tgt : Fin 3) (fail : Bool) (s : State) : Host.Outcome State Fault Refusal :=
  .next (match s.istSlice tgt with
    | none => s
    | some q =>
      if q.going || s.istYields q || s.boot.inReset then s
      else
        let bad := if tgt.val = 0 then q.march == 2 else fail
        let t := (s.istLeave q).setIst ((s.istLeave q).ist.forget q.run q.tgt q.unit)
        let u := t.when q.run (fun t => (t.count R.IST_RUN_RES F.IST_RUN_RES_RUN 1).when bad (fun t =>
          t.count R.IST_RUN_RES F.IST_RUN_RES_FAILED 1))
        let v := u.when bad (fun t =>
          let w := ((t.count R.IST_FAIL_CNT F.IST_FAIL_CNT_COUNT 1).setFld R.IST_LAST F.IST_LAST_TARGET q.tgt).setFld R.IST_LAST
            F.IST_LAST_UNIT q.unit
          if tgt.val = 0 then w.pulse 50 else w.istRecord 50 2 0x71 q.tgt q.unit)
        v.runEnd.sweepEnd)

/-- IST_SLICE_ABANDON (R608, R609, R612): a slice that has to yield, or a link's that ran out of time, counts as not run. -/
def execIstSliceAbandon (tgt : Fin 3) (s : State) : Host.Outcome State Fault Refusal :=
  .next (match s.istSlice tgt with
    | none => s
    | some q =>
      if (q.tgt != 1 && !s.istYields q) || s.boot.inReset then s
      else (((s.istLeave q).count R.IST_YIELD_CNT F.IST_YIELD_CNT_COUNT 1).istPutOff q.tgt q.unit q.run).runEnd.sweepEnd)

/-- A START write to IST_RUN (R614). The registers hold the write. -/
def State.runAct (s : State) (v : Word) : State :=
  if v.fget F.IST_RUN_START = 0 || s.istRunning || s.fld R.IST_RUN F.IST_RUN_TARGET = 3 then s
  else
    let n := max 1 (s.fld R.IST_RUN F.IST_RUN_COUNT)
    let t := (s.setReg R.IST_RUN_RES 0).setFlag R.IST_RUN F.IST_RUN_BUSY true
    ((t.setIst { t.ist with
        tgt := s.fld R.IST_RUN F.IST_RUN_TARGET, left := n, unit := s.fld R.IST_RUN_FIRST F.IST_RUN_FIRST_UNIT
        again := [] }).runSkip 256).runEnd

/-- LOCKED refusals and views of the two windows. -/
def State.istOpen (s : State) : Bool := !s.flag R.IST_CTRL F.IST_CTRL_EN
def State.istLocked (s : State) (loc : Nat) : State := (s.setFlag R.IST_STAT F.IST_STAT_LOCKED_WR true).lockedRecord 49 0 loc
def State.istPeek (s : State) (loc : Nat) : Option Word :=
  if loc = 8 then some ((s.reg R.IST_STAT).fput F.IST_STAT_PWR_NOW s.ist.power) else none
def State.wdtOpen (s : State) : Bool := !s.flag R.WDT_CTRL F.WDT_CTRL_EN
def State.wdtLocked (s : State) (loc : Nat) : State := (s.setFlag R.WDT_STAT F.WDT_STAT_LOCKED_WR true).lockedRecord 4 0 loc

end Sys2Proof.Machine
end

