-- ==== Sys2Proof/Machine/Sec.lean ====
section
/-! DEFINITION. Sec.lean: the security block: fuses, wipes, tamper, debug unlock (17_security_and_lifecycle.md). -/

namespace Sys2Proof.Machine

def State.setSec (s : State) (x : Sec) : State := { s with sec := x }

/-! ## Wiping (R564) -/

/-- A wipe is requested: while one runs the request is counted and merged. The attestation key pair, every session secret and every key
in an engine are cleared first. DEDUCED (notes/assumptions/49.md): the secrets of a session are its nonces. -/
def State.startWipe (s : State) : State :=
  if s.sec.wiping then s.setSec { s.sec with merged := s.sec.merged + 1 }
  else
    (s.setSec { s.sec with wiping := true, attest := none, engine := [] }).setFw
      { s.fw with sessions := s.fw.sessions.map (fun x => { x with hostNonce := [], devNonce := [] }) }

/-- WIPE_DONE (R525, R564): the saggar reads zero with correct check bits. -/
def execWipeDone (s : State) : Host.Outcome State Fault Refusal :=
  .next (if !s.sec.wiping then s
    else
      let t := (s.padWipe.countWrap R.SEC_WIPE F.SEC_WIPE_COUNT (1 + s.sec.merged))
      t.setSec { t.sec with wiping := false, merged := 0 })

/-! ## Tamper (R565-R568) -/

/-- The action of a tamper source (R566): 0 WIPE, 1 WIPE_RESTART, 3 WIPE_HOLD. -/
def State.tamperAction (s : State) (i : Nat) : Nat :=
  let a := s.fuses.policy / 4 ^ i % 4
  if a = 2 then 3 else a

/-- Every command in progress is answered with BAD_STATE (R566). -/
def State.abortCommands (s : State) : State :=
  let t := s.forEach (List.range 7) (fun t m => t.mbAnswer m 8 0 [])
  (t.setFw { t.fw with stager := none }).setSec { t.sec with prog := t.sec.prog.map (fun p => { p with client := none }) }

/-- TAMPER_TRIP (R565-R568, R629): source `i` trips; `level` are the sources that trip now. -/
def execTamperTrip (i : Fin 6) (level : BitVec 6) (s : State) : Host.Outcome State Fault Refusal :=
  .next (if s.boot.inReset then s
    else
      let a := s.tamperAction i
      let t := (s.setBit R.SEC_TAMPER_STAT i true).setFld R.SEC_TAMPER_STAT F.SEC_TAMPER_STAT_LEVEL level.toNat
      let u := (t.settleOf 1).resumeAct.startWipe.closeSessions.abortCommands
      let v := u.report 0 ⟨1, if a = 3 then 3 else 2, 0x0B, a * 2 ^ 8 + i.val⟩
      let w := v.when (a == 3) (fun t => t.setBoot { t.boot with wipeHold := true })
      w.when (a != 0) (fun t => t.restart))

/-! ## Fuses (R550, R562, R563) -/

/-- The bits of a fuse field; 0 for a code that names none. -/
def fuseWidth (field : Nat) : Nat :=
  if field = 0 then 3
  else if 0x10 ≤ field && field < 0x14 then 256
  else if 0x20 ≤ field && field < 0x28 then 256
  else if field = 0x30 || field = 0x31 then 256
  else if field = 0x40 then 256
  else if field = 0x41 then 32
  else if field = 0x50 then 4
  else if field = 0x51 then 8
  else if field = 0x52 then 2
  else 0

/-- Blow fuse bits (R550): a bit changes only from 0 to 1. -/
def orIn (t : Tbl Nat) (n v : Nat) : Tbl Nat := Tbl.set (fun _ => 0) t n (Tbl.get (fun _ => 0) t n ||| v)

/-- Set bits of a fuse field, and its programmed bit where it has one. -/
def Fuses.blow (f : Fuses) (field value ceil : Nat) : Fuses :=
  let v := value % 2 ^ fuseWidth field
  if field = 0 then { f with lc := f.lc ||| v }
  else if 0x10 ≤ field && field < 0x14 then
    { f with okey := orIn f.okey (field - 0x10) v, okeyP := f.okeyP ||| 2 ^ (field - 0x10) }
  else if 0x20 ≤ field && field < 0x28 then
    { f with skey := orIn f.skey (field - 0x20) v, skeyP := f.skeyP ||| 2 ^ (field - 0x20)
             ceil := f.ceil ||| (ceil % 4 * 4 ^ (field - 0x20)) }
  else if field = 0x30 || field = 0x31 then
    { f with bk := orIn f.bk (field - 0x30) v, bkP := f.bkP ||| 2 ^ (field - 0x30) }
  else if field = 0x40 then { f with pwd := f.pwd ||| v, pwdP := f.pwdP ||| 1 }
  else if field = 0x41 then { f with policy := f.policy ||| v }
  else if field = 0x50 then { f with orev := f.orev ||| v }
  else if field = 0x51 then { f with srev := f.srev ||| v }
  else if field = 0x52 then { f with vrev := f.vrev ||| v }
  else f

/-- The value in SEC_FUSE_DATA. -/
def State.fuseData (s : State) : Nat :=
  ((List.range 8).map (fun w => (Tbl.get (fun _ => (0 : Word)) s.sec.fdata w).toNat * 2 ^ (32 * w))).sum

/-- Begin to program a field (R562): not while one is in progress, nor without VCC_FUSE. -/
def State.fuseStart (s : State) (p : FuseProg) : State :=
  if s.sec.prog.isSome || !s.flag R.SYS_SUPPLY F.SYS_SUPPLY_FUSE || fuseWidth p.field = 0 then s
  else (s.setFlag R.SEC_FUSE_CTRL F.SEC_FUSE_CTRL_FAIL false).setSec { s.sec with prog := some p }

/-- A GO write to SEC_FUSE_CTRL. Which ceiling it gives a session-key slot is not said: the value is free. -/
def State.fuseAct (s : State) (v : Word) : State :=
  if v.fget F.SEC_FUSE_CTRL_GO = 0 then s
  else
    let d := s.draw
    d.2.fuseStart ⟨s.fld R.SEC_FUSE_CTRL F.SEC_FUSE_CTRL_FIELD, s.fuseData, d.1 % 4, none⟩

/-- The life-cycle state has changed (R554): debug as the new state gives it, the saggar wiped, every session closed. -/
def State.lifeCycleChanged (s : State) : State :=
  let open_ := s.lc != 2 || s.flag R.SEC_STAT F.SEC_STAT_BK_OFF
  ((s.setFlag R.SEC_STAT F.SEC_STAT_DBG_OPEN open_).startWipe).closeSessions

/-- Programming ends (R562, R563): SEC_FUSE_DATA clears. A field that reads back differently holds some of the bits; it is
reported as programmed and never used. -/
def State.fuseEnd (s : State) (ok : Bool) : State :=
  match s.sec.prog with
  | none => s
  | some p =>
    let t := s.setSec { s.sec with prog := none, fdata := [] }
    let u := if ok then { t with fuses := t.fuses.blow p.field p.value p.ceil }
      else
        let d := t.draw
        let f := d.2.fuses.blow p.field (p.value &&& (Config.random (s.sec.draws)).toNat) p.ceil
        ({ d.2 with fuses := { f with bad := NSet.add f.bad p.field }
                    sec := { d.2.sec with draws := d.2.sec.draws + 1 } }).setFlag R.SEC_FUSE_CTRL F.SEC_FUSE_CTRL_FAIL true
    let v := match p.client with
      | some m => u.mbAnswer m (if ok then 0 else 8) 0 []
      | none => u
    v.when (p.field == 0 && v.lc != s.lc) (fun t => t.lifeCycleChanged)

/-- FUSE_PROGRAM_DONE (R562, R563): `ok` is the read-back. -/
def execFuseProgramDone (ok : Bool) (s : State) : Host.Outcome State Fault Refusal := .next (s.fuseEnd ok)

/-- FUSE_SUPPLY_INVALID (R642): the field being programmed ends under R563. -/
def execFuseSupplyInvalid (s : State) : Host.Outcome State Fault Refusal :=
  .next ((s.setFlag R.SYS_SUPPLY F.SYS_SUPPLY_FUSE false).fuseEnd false)

/-! ## Debug (R560, R576, R577) -/

/-- Debug is open. -/
def State.dbgOpen (s : State) : Bool := s.flag R.SEC_STAT F.SEC_STAT_DBG_OPEN

/-- SEC_DBG.OPEN: BK_OFF, then DBG_OPEN. -/
def State.openDebug (s : State) : State :=
  (s.setFlag R.SEC_STAT F.SEC_STAT_BK_OFF true).setFlag R.SEC_STAT F.SEC_STAT_DBG_OPEN true

/-! ## Registers -/

/-- What a SEC register reads. -/
def State.secPeek (s : State) (loc : Nat) : Option Word :=
  let f := s.fuses
  if loc = 0 then some ((((((s.reg R.SEC_STAT).fput F.SEC_STAT_WIPE_BUSY (b2n s.sec.wiping)).fput F.SEC_STAT_FUSE_PWR
    (s.fld R.SYS_SUPPLY F.SYS_SUPPLY_FUSE)).fput F.SEC_STAT_FUSE_BUSY (b2n s.sec.prog.isSome)).fput F.SEC_STAT_BK_OFF
    (b2n s.bkOff)).fput F.SEC_STAT_LC s.lc)
  else if loc = 4 then some (BitVec.ofNat 32 (b2n s.dbgOpen))
  else if loc = 0xC then some (BitVec.ofNat 32 f.policy)
  else if loc = 0x10 then some (BitVec.ofNat 32 f.bind)
  else if loc = 0x14 then some (BitVec.ofNat 32 (f.bind / 2 ^ 32))
  else if loc = 0x18 then some (BitVec.ofNat 32 (f.okeyP % 16 + 16 * (f.orev % 16) + 2 ^ 8 * (f.bkP % 4) + 2 ^ 10 * (f.vrev % 4)))
  else if loc = 0x1C then some (BitVec.ofNat 32 (f.skeyP % 256 + 2 ^ 8 * (f.srev % 256) + 2 ^ 16 * (f.ceil % 2 ^ 16)))
  else if loc = 0x30 then some ((s.reg R.SEC_FUSE_CTRL).fput F.SEC_FUSE_CTRL_BUSY (b2n s.sec.prog.isSome))
  else if 0x40 ≤ loc && loc < 0x60 then some 0
  else if 0x100 ≤ loc && loc < 0x180 && loc % 4 = 0 then
    some (BitVec.ofNat 32 (Tbl.get (fun _ => 0) f.okey ((loc - 0x100) / 0x20) / 2 ^ (8 * (loc % 0x20))))
  else none

/-- What a write to a SEC register does beside storing its fields. -/
def State.secAct (s : State) (loc : Nat) (v : Word) : State :=
  if loc = 4 then (s.setReg R.SEC_DBG 0).when (v.getLsbD 0) (fun t => t.openDebug)
  else if loc = 0x20 then s.when (v.fget F.SEC_WIPE_START == 1) (fun t => t.startWipe)
  else if loc = 0x30 then s.fuseAct v
  else if 0x40 ≤ loc && loc < 0x60 && loc % 4 = 0 then
    s.setSec { s.sec with fdata := Tbl.set (fun _ => (0 : Word)) s.sec.fdata ((loc - 0x40) / 4) v }
  else s

end Sys2Proof.Machine
end

