-- ==== Sys2Proof/Machine/Power.lean ====
section
/-! DEFINITION. Power.lean: supplies, power-on reset, leaving RESET, sector power and temperature
(20_power_package_electrical.md, 06_configuration_loading.md). -/

namespace Sys2Proof.Machine

/-! ## Power-on reset (R17, R201, R641, R644) -/

/-- Every monitored supply is valid (R641). -/
def State.suppliesValid (s : State) : Bool := (s.reg R.SYS_SUPPLY).toNat % 2 ^ 7 == 2 ^ 7 - 1

/-- Power-on reset: every register at its reset value and every memory lost; what lies outside the device's volatile
state stays: fuses, flash, pins, the supply monitors, and the counts of free values drawn. -/
def State.powerOnReset (s : State) : State :=
  let z := State.reset
  let t := { z with fuses := s.fuses, board := s.board, draws := s.draws, pending := s.pending
                    sec := { z.sec with draws := s.sec.draws }
                    boot := { z.boot with flash0 := s.boot.flash0, flash1 := s.boot.flash1 }
                    fab := { z.fab with loss := bumpLoss s.fab.loss 32 }
                    rld := { z.rld with loss := bumpLoss s.rld.loss 8 } }
  ((t.setReg R.SYS_SUPPLY (s.reg R.SYS_SUPPLY)).setReg R.SYS_VCCIO_LO (s.reg R.SYS_VCCIO_LO)).setReg R.SYS_VCCIO_HI
    (s.reg R.SYS_VCCIO_HI)

/-- Set the level of the pins. -/
def State.setBoard (s : State) (b : Board) : State := { s with board := b }

/-- SUPPLY_VALID (R639, R641): rail `rail` as SYS_SUPPLY numbers it, 7 VCC_FUSE (R642). -/
def execSupplyValid (rail : Fin 8) (s : State) : Host.Outcome State Fault Refusal :=
  .next (s.setBit R.SYS_SUPPLY rail true)

/-- SUPPLY_INVALID (R641). -/
def execSupplyInvalid (rail : Fin 7) (s : State) : Host.Outcome State Fault Refusal :=
  let t := (s.setBit R.SYS_SUPPLY rail false).powerOnReset
  .next (t.setBoard { t.board with por := true })

/-- POWER_ON_RESET_RELEASE (R641): nothing while a monitored rail is invalid. -/
def execPowerOnResetRelease (s : State) : Host.Outcome State Fault Refusal :=
  .next (s.when s.suppliesValid (fun t => t.setBoard { t.board with por := false }))

/-- PORST_N_LOW (R644). -/
def execPorstNLow (s : State) : Host.Outcome State Fault Refusal :=
  let t := s.powerOnReset
  .next (t.setBoard { t.board with porstN := false })

/-- PORST_N_HIGH (R644). -/
def execPorstNHigh (s : State) : Host.Outcome State Fault Refusal := .next (s.setBoard { s.board with porstN := true })

/-! ## Leaving RESET (R167-R172, R201, R211, R532) -/

/-- A flash device as it answers after RESET: not fitted, or with the bytes the board has written. -/
def Flash.meet (f : Flash) : Option FlashDev → Flash
  | none => { f with fitted := false }
  | some d => ⟨true, d.octal, d.bytes.getD f.bytes⟩

/-- The routers' ports come up (R326). -/
def State.portsUp (s : State) : State :=
  s.forEach (List.range 64) (fun t n => t.setFld (R.NOC_STAT n) F.NOC_STAT_UP (portMask n))

/-- RESET_EXIT (R167, R169-R172, R201, R211, R532): the boot mode, the I2C address, PULL_SEL and CFG_START_N as their pins
stand, and the flash devices that answer. Mode 0b100 in DEPLOY or RETURN fails (R169); otherwise the boot ROM runs. -/
def execResetExit (mode : Fin 8) (i2c : Fin 4) (pullSel startN : Bool) (flash0 flash1 : Option FlashDev) (s : State) :
    Host.Outcome State Fault Refusal :=
  .next (if !s.boot.inReset || !s.suppliesValid || s.board.por || !s.board.porstN ||
      !s.flag R.CLK_STAT F.CLK_STAT_SYSPLL_LOCK then s
    else
      let b := R.CFG_BOOT_STAT
      let t := s.setBoot { s.boot with inReset := false, flash0 := s.boot.flash0.meet flash0
                                       flash1 := s.boot.flash1.meet flash1 }
      let u := t.setBoard { t.board with i2c := i2c, pullSel := pullSel, startN := startN }
      let narrow := fun (f : Flash) => f.fitted && !f.octal
      let some1 := u.boot.flash0.fitted || u.boot.flash1.fitted
      let quad := mode != 4 && some1 && (mode == 1 || narrow u.boot.flash0 || narrow u.boot.flash1)
      let v := (((u.setPhase 1).setFld b F.CFG_BOOT_STAT_MODE mode).setFlag b F.CFG_BOOT_STAT_FLASH1
        u.boot.flash1.fitted).setFlag b F.CFG_BOOT_STAT_QSPI quad
      let w := (v.portsUp.setFlag R.SEC_STAT F.SEC_STAT_DBG_OPEN (v.lc != 2)).startClearing
      let x := w.runRom.when (mode == 4) (fun t => t.bootAgain)
      [0, 1, 5, 508, 509].foldl (fun t k => t.settleOf k) x)

/-- VCCIO_CHANGE (R643). -/
def execVccioChange (bank : Fin 40) (valid : Bool) (s : State) : Host.Outcome State Fault Refusal :=
  .next (if bank.val < 32 then s.setBit R.SYS_VCCIO_LO bank valid else s.setBit R.SYS_VCCIO_HI (bank - 32) valid)

/-! ## Sector power (R645-R647) -/

/-- A write of SYS_PD_REQ: outside USER it is ignored with REJ (R645); a sector in transition takes it afterwards (R647). -/
def State.pdWrite (s : State) (v : Word) : State :=
  if s.user then (s.setReg R.SYS_PD_REQ v).pdSettleAll else s.setFlag R.SYS_PD_REJ F.SYS_PD_REJ_REJ true

/-- SECTOR_SUPPLY_REMOVED (R645 step 3, R647). -/
def execSectorSupplyRemoved (sec : Fin 32) (s : State) : Host.Outcome State Fault Refusal :=
  .next (if s.bit R.SYS_PD_BUSY sec && !s.bit R.SYS_PD_STAT sec && s.fence (2 * sec) == 2 && s.fence (2 * sec + 1) == 2 then
      ((s.setBit R.SYS_PD_STAT sec true).setBit R.SYS_PD_BUSY sec false).pdSettle sec
    else s)

/-- Registers of a range of offsets at their reset values. -/
def State.resetRange (s : State) (lo hi : Nat) : State :=
  let out := fun (k : Nat) => k < lo || hi ≤ k
  { s with csr := s.csr.filter (fun p => out p.1), stg := s.stg.filter (fun p => out p.1) }

/-- The queue with a key has a side in a sector: a block's, or a crossing FIFO out of it or into it. -/
def queueIn (sec k : Nat) : Bool :=
  if k < 8192 then k / 256 == sec
  else (k - 8192) / 512 == sec || sectorNext ((k - 8192) / 512) ((k - 8192) / 128 % 4) == some sec

/-- What a sector holds when its power returns (R107, R118, R144, R324, R646). -/
def State.sectorFresh (s : State) (sec : Nat) : State :=
  let f := s.fab.resetWhere (queueIn sec) (fun k => k / 384 == sec)
  let t := { s with fab := { f with ff := f.ff.filter (fun q => q.1 / 640 != sec)
                                    words := f.words.filter (fun q => q.1 / 1024 / 256 != sec)
                                    zero := NSet.del f.zero sec
                                    loss := Tbl.set (fun _ => 0) f.loss sec (Tbl.get (fun _ => 0) f.loss sec + 1)
                                    rmw := f.rmw.filter (fun q => q.1 / 256 != sec)
                                    out := f.out.filter (fun q => q.1 / 512 != sec) } }
  t.resetRange (R.NI_CTRL (2 * sec)) (R.NI_CTRL (2 * sec + 2))

/-- SECTOR_POWER_RESTORED (R646, R647): the hold ends unless a region of the sector is held for another reason. -/
def execSectorPowerRestored (sec : Fin 32) (s : State) : Host.Outcome State Fault Refusal :=
  .next (if s.bit R.SYS_PD_BUSY sec && s.bit R.SYS_PD_STAT sec then
      let t := ((s.sectorFresh sec).setBit R.SYS_PD_STAT sec false).setBit R.SYS_PD_BUSY sec false
      (t.forEach ((List.range 32).filter (fun r => (t.rgnSectors r).contains sec)) (fun u r => u.settleHold r)).linesRise s |>.pdSettle sec
    else s)

/-! ## Temperature (R651) -/

/-- TEMP_SENSOR_UPDATE (R651): the highest reading of the sensors; the maximum since the last read and the alarm. -/
def execTempSensorUpdate (temp : BitVec 16) (s : State) : Host.Outcome State Fault Refusal :=
  let t := s.setFld R.SYS_TEMP F.SYS_TEMP_VALUE temp.toNat
  let u := t.when (signed 16 (t.fld R.SYS_TEMP_MAX F.SYS_TEMP_MAX_VALUE) < signed 16 temp.toNat)
    (fun t => t.setFld R.SYS_TEMP_MAX F.SYS_TEMP_MAX_VALUE temp.toNat)
  .next (u.when (signed 16 (u.fld R.SYS_TEMP_ALM F.SYS_TEMP_ALM_TH) ≤ signed 16 temp.toNat)
    (fun t => t.setFlag R.SYS_TEMP_ALM F.SYS_TEMP_ALM_ALM true))

end Sys2Proof.Machine
end

