-- ==== Sys2Proof/Machine/Bus.lean ====
section
/-! DEFINITION. Bus.lean: an access to a register from an endpoint of the network: who may make it, what a write does, and
what a read gives and changes (R11-R25, R39-R41, and the register tables of every chapter). -/

namespace Sys2Proof.Machine

/-! ## Who may access what -/

/-- An endpoint can make an access: the device has left RESET, the endpoint exists, its fence is open, and the core is not halted
where it is the core's (R321, R322, R628). -/
def State.presents (s : State) (ep : Nat) : Bool :=
  !s.boot.inReset && (endpointAt ep).isSome && s.niOpen ep && !(ep == 0x68 && s.halted)

/-- The endpoint of a CSR offset (R298): none outside every window. -/
def csrDest (off : Nat) : Dest :=
  match winOf off with
  | none => .none
  | some (.noc, n, _) => .endp (0xC0 + n) 0
  | some (.ni, e, _) => if (endpointAt e).isSome then .endp e 0 else .none
  | some (.lq, q, _) => .endp (0x70 + q) 0
  | some (.mc, c, _) => .endp (0x60 + c) 0
  | some (.sector, k, _) => .endp (0xA0 + k) 0
  | some _ => .endp 0x6C 0

/-- An offset lies in the window of a network interface. -/
def niWindow (off : Nat) : Bool := match winOf off with | some (.ni, _, _) => true | _ => false

/-- The interface of an offset's endpoint is enabled, so that it does not answer DISABLED (R316). An interface answers accesses
to its own window in any case (R299). -/
def State.targetOn (s : State) (off : Nat) : Bool :=
  niWindow off || (match csrDest off with | .endp e _ => s.niOn e | _ => true)

/-- The access reaches a register's block: its endpoint can make it, by an interface that is enabled (R316), the window
exists, and its own interface is enabled (R299, R316); a fabric interface lies behind its fence (R298, R321). -/
def State.reaches (s : State) (ep off : Nat) : Bool :=
  s.presents ep && s.niOn ep && off % 4 == 0 && s.targetOn off &&
    (match winOf off with
     | none => false
     | some (.ni, e, _) => (endpointAt e).isSome && s.niOpen e
     | some _ => true)

/-- The registers of the CFG window whose writes R260 restricts, by their offsets: CFG_FIRE, CFG_FIRE_MASK, CFG_ARM and
CFG_HOLD, the CFG_STG and CFG_HLD registers, CFG_RGN_CTRL, CFG_RGN_STAT and CFG_RGN_GEN, and every CFG_BIND register. -/
def cfgControl (loc : Nat) : Bool :=
  (0x40 ≤ loc && loc < 0x50) || (0x60 ≤ loc && loc < 0x7C) ||
    (0x100 ≤ loc && loc < 0x500 && (loc % 0x20 == 8 || loc % 0x20 == 0xC || loc % 0x20 == 0x14)) ||
    (0x500 ≤ loc && loc < 0x900 && loc % 0x20 < 0x10) || (0xA00 ≤ loc && loc < 0xE00)

/-- An endpoint may use the configuration and firing controls (R260). -/
def State.cfgAllowed (s : State) (ep : Nat) : Bool := ep == 0x68 || s.bit (R.CFG_EP_ALLOW (ep / 32)) (ep % 32)

/-- The mailbox of an offset in the MBX window. -/
def mbxOf (loc : Nat) : Option Nat := if loc < 0x1C0 then some (loc / 0x40) else none

/-- An endpoint may use the host side of a mailbox (R535). -/
def State.mbxOwned (s : State) (ep m : Nat) : Bool :=
  let o := s.fld (R.MBX_OWNER m) F.MBX_OWNER_OWNER
  3 ≤ m && (ep == o || (o == 0xFF && ep < 0x40))

/-- A register of the host side of a mailbox: MBX_CTRL, MBX_WDATA, MBX_RDATA. -/
def mbxHost (loc : Nat) : Bool := (mbxOf loc).isSome && (loc % 0x40 == 0 || loc % 0x40 == 8 || loc % 0x40 == 0xC)

/-- An access to the MBX window is accepted (R535 and the MBX_ registers). -/
def State.mbxAccepts (s : State) (ep : Nat) (write : Bool) (loc : Nat) : Bool :=
  match mbxOf loc with
  | none => true
  | some m =>
    let o := loc % 0x40
    if mbxHost loc then s.mbxOwned ep m || (!write && o == 0xC && 3 ≤ m && ep == 0x6B)
    else if !write then true
    else if o = 0x10 then ep == 0x68
    else if o = 0x14 then ep == 0x68 || s.mbxOwned ep m
    else true

/-- An access to a window is accepted (R41, R210, R260, R292, R535, R591, R604, R632, R635, and the introductions of the
SYS_, IST_, DBG_, WDT_ and MBX_ registers). The debug master's accesses carry the debug tag (R304). -/
def State.csrAccepts (s : State) (ep : Nat) (write : Bool) (off : Nat) : Bool :=
  match winOf off with
  | none => false
  | some (w, _, loc) =>
    match w with
    | .sec => ep == 0x68
    | .mbx => s.mbxAccepts ep write loc
    | .ic | .err => s.icAccepts ep (ep == 0x6B) write off
    | .sys | .ist => !write || ep == 0x68
    | .cfg =>
      if !write then true
      else if loc = 0x20 || (0x80 ≤ loc && loc < 0xA0) then ep == 0x68
      else !cfgControl loc || s.cfgAllowed ep
    | .scr => !write || off != R.SCR_INJ_CTRL || ep == 0x68
    | .dbg =>
      if !write then true
      else if 0x100 ≤ loc then ep == 0x68
      else if loc = 8 then ep == 0x6B
      else ep == 0x68 || ep == 0x6B
    | _ => true

/-- The status that the endpoint of an access gets for it (R28, R316). The access is no packet: its completion has tag 0
(notes/assumptions/10.md). -/
def State.failed (s : State) (ep status : Nat) : State := s.complete ⟨ep, 0, status, []⟩

/-- What a refused access leaves (R41, R535): a record of the SEC window, the flag of a mailbox. -/
def State.csrRefused (s : State) (ep off : Nat) : State :=
  match winOf off with
  | some (.sec, _, _) => s.nocRecord (64 + 0x6C) 27 0xB 2 0 ep 0x6C
  | some (.mbx, _, loc) =>
    if mbxHost loc then s.mbFlag (loc / 0x40) F.MBX_STAT_OWNER_REJ else s
  | _ => s

/-- A refused access: its endpoint gets REFUSED (R28, R316). -/
def State.refuse (s : State) (ep off : Nat) : State := (s.csrRefused ep off).failed ep 2

/-- An access that reaches no register's block: DISABLED from its own interface or its target's, DECERR at an address of no
endpoint, FENCED at a closed fence, which its router counts, REFUSED where it is not aligned (R28, R40, R298, R316, R321). -/
def State.turned (s : State) (ep : Nat) (write : Bool) (off : Nat) : State :=
  if !s.presents ep then s
  else if !s.niOn ep || !s.targetOn off then s.failed ep 7
  else match winOf off with
    | none => (s.decErr ep).failed ep 1
    | some (.ni, e, _) =>
      if (endpointAt e).isNone then (s.decErr ep).failed ep 1 else if !s.niOpen e then (s.count (R.NOC_FENCED_CNT (routerOf e)) F.NOC_FENCED_CNT_COUNT 1).failed ep 4 else s.failed ep 2
    | some _ => if s.csrAccepts ep write off then s.failed ep 2 else s.refuse ep off

/-! ## Writes -/

/-- Store the fields of a write, and answer an ignored LOCKED field (R18, R19, R24). -/
def State.store (s : State) (open_ : Bool) (off : Nat) (v : Word) (locked : State → State) : State :=
  let r := s.rawWrite open_ off v
  r.1.when r.2 locked

/-- The bits of an APPLY write that act: none of APPLY while the block's region is armed (R236). -/
def State.applyBits (s : State) (b : Bound) (v : Word) : State × Word :=
  if v.getLsbD 0 then
    (match s.armedFor b with
     | some r => (s.ctrlRefuse r, v &&& ~~~ 1)
     | none => (s, v))
  else (s, v)

/-- A write to the CFG window. -/
def State.cfgWrite (s : State) (off : Nat) (v : Word) : State :=
  let t := (s.rawWrite true off v).1
  if off = R.CFG_RESTART then s.when (v.fget F.CFG_RESTART_KEY == 0xC0DE) (fun t => t.restart)
  else if off = R.CFG_FIRE then t.fireAct v
  else if off = R.CFG_ARM then (if s.armRefused v then s else t).armAct v
  else if off = R.CFG_HOLD then (if s.holdIgnored v then s else t).holdAct v
  else if off = R.CFG_STG_CTRL then t.when (v.getLsbD 31) (fun t => t.stgStart)
  else if off = R.CFG_HLD_CTRL then t.when (v.getLsbD 31) (fun t => t.holdStart)
  else if regionReg off then
    if !s.rgnDefined (regionOfReg off) then s
    else if 0x20500 ≤ off then s.bindWrite off v
    else if off % 0x20 = 0x14 then s.genWrite (regionOfReg off) v
    else if off < 0x20500 && off % 0x20 = 8 then t.skmAuto
    else t
  else t

/-- A write to the DBG and WDT window (R627, R630, R632-R635). -/
def State.dbgWrite (s : State) (loc off : Nat) (v : Word) : State :=
  if loc = 8 then s.rcAct v
  else if loc < 0x100 then ((s.rawWrite true off v).1).settleOf 510
  else if off = R.WDT_KICK then s.wdtKick v
  else if off = R.WDT_CTRL && s.wdtBadClear v then s.setFlag R.WDT_STAT F.WDT_STAT_BADKEY true
  else
    -- the count stands where it has run down to when EN clears
    let t := s.when (off == R.WDT_CTRL && s.flag R.WDT_CTRL F.WDT_CTRL_EN && v.fget F.WDT_CTRL_EN == 0)
      (fun t => { t.setReg R.WDT_COUNT (BitVec.ofNat 32 s.wdtNow) with draws := t.draws + 1 })
    t.store s.wdtOpen off v (fun t => t.wdtLocked loc)

/-- A write to the MBX window (R536). -/
def State.mbxWrite (s : State) (loc off : Nat) (v : Word) : State :=
  match mbxOf loc with
  | none => s
  | some m =>
    match loc % 0x40 with
    | 0x00 =>
      let t := if v.fget F.MBX_CTRL_CANCEL = 1 then s.mbCancel m
        else s.when (v.fget F.MBX_CTRL_SEND == 1) (fun t => t.mbSend m true)
      t.when (v.fget F.MBX_CTRL_SKIP == 1) (fun t => t.mbDropHead m)
    | 0x08 => s.mbAppend m (leBytes 4 v.toNat)
    | 0x0C => s
    | 0x10 => s.when (3 ≤ m) (fun t => (t.rawWrite true off v).1)
    | _ => ((s.rawWrite true off v).1).mbSource m

/-- The route that a write of NI_RT_HI forms with the staging copy of NI_RT_LO is checked (R309). -/
def State.niRtHi (s : State) (e d : Nat) (v : Word) : State :=
  let route := (s.staged (R.NI_RT_LO e d)).toNat + 2 ^ 32 * (v.toNat % 2 ^ 16)
  if routeValid e d route then (s.rawWrite true (R.NI_RT_HI e d) v).1
  else (s.setFlag (R.NI_STAT e) F.NI_STAT_ROUTE_REJ true).nocRecord (64 + e) (routerOf e) 6 0 0 e d

/-- A write to a network interface's window (R24, R309, R310, R320). -/
def State.niWrite (s : State) (e loc off : Nat) (v : Word) : State :=
  if loc = 0 then
    let a := s.applyBits (.ni (Fin.ofNat 256 e)) v
    let t := a.1.store (!s.niOn e) off v (fun t =>
      (t.setFlag (R.NI_STAT e) F.NI_STAT_LOCKED_WR true).lockedRecord (436 + routerOf e) e loc (64 + e))
    t.when (a.2.getLsbD 0) (fun t => t.niTables e State.applyReg)
  else if 0x800 ≤ loc && loc % 8 = 4 then s.niRtHi e ((loc - 0x800) / 8) v
  else if loc = 4 && 64 ≤ e then (s.rawWrite true off (v &&& 0xFFFF)).1
  else (s.rawWrite true off v).1

/-- A write to a router's window: APPLY starts the port change (R325, R326). -/
def State.nocWrite (s : State) (n loc off : Nat) (v : Word) : State :=
  if loc = 0 then
    s.when (v.getLsbD 0) (fun t =>
      let u := t.setNoc { t.noc with rcfg := Tbl.set (fun _ => none) t.noc.rcfg n
                                       (some ((t.staged (R.NOC_PORT_EN n)).fget F.NOC_PORT_EN_EN)) }
      u.setFlag (R.NOC_STAT n) F.NOC_STAT_RCFG_BUSY true)
  else if loc = 4 then (s.rawWrite true off (v ||| 2)).1
  else (s.rawWrite true off v).1

/-- A write to a sector's window: probes, bus lines, block-memory registers (R64, R73, R80, R82). -/
def State.sectorWrite (s : State) (k loc off : Nat) (v : Word) : State :=
  if loc = 0x100 then
    let a := s.applyBits (.probe (Fin.ofNat 32 k)) v
    ((a.1.rawWrite true off v).1).prbCtrl k a.2
  else (s.rawWrite true off v).1

/-- A write to a quad's window (R236, R341, R394). -/
def State.lqWrite (s : State) (q loc off : Nat) (v : Word) : State :=
  let a := if loc = 0 then s.applyBits (.quad (Fin.ofNat 36 q)) v
    else if loc = 0xA000 && q < 16 then s.applyBits (.group (Fin.ofNat 16 q)) v else (s, v)
  (a.1.store (s.lqOpen q loc) off v (fun t => t.lqLocked q loc)).lqAct s q loc a.2

/-- A write to a channel's window; a retirement may take the page of the helper (R514). -/
def State.mcWrite (s : State) (c loc off : Nat) (v : Word) : State :=
  if loc < 0x8000 then
    let t := (s.store (s.mcOpen c) off (mcMask loc v) (fun t => t.mcLocked c loc)).mcAct s c loc v
    t.when (0x200 ≤ loc && loc < 0x300) (fun t => t.prRetire c)
  else (s.store (s.mtOpen c) off v (fun t => t.mtLocked c loc)).mtAct s c loc v

/-- A write to the TIM window (R432). -/
def State.timWrite (s : State) (loc off : Nat) (v : Word) : State :=
  match timDom loc with
  | some d =>
    let o := (loc - 0x100) % 0x40
    if o = 0x28 then s.timOffs d false v
    else if o = 0x2C then s.timOffs d true v
    else
      -- while locked, TIM_TD_FREQ is judged by its value in effect (R24)
      let t := s.when ((o == 0x20 || o == 0x24) && !s.timOpen loc) (fun t => t.setFreq d (t.freq d))
      (t.store (t.timOpen loc) off (timMask loc v) (fun t => t.timLocked loc)).timAct s loc v
  | none => (s.store (s.timOpen loc) off (timMask loc v) (fun t => t.timLocked loc)).timAct s loc v

/-- What an accepted write does. A write to the IC or ERR window wakes the controller and waits through a halt (R594,
R595). -/
def State.csrWrite (s : State) (ep off : Nat) (v : Word) : State :=
  match winOf off with
  | none => s
  | some (w, inst, loc) =>
    match w with
    | .sys => if off = R.SYS_PD_REQ then s.pdWrite v else (s.rawWrite true off v).1
    | .clk => (s.store (s.clkOpen loc) off v (fun t => t.clkLocked loc)).clkAct s loc v
    | .cfg => s.cfgWrite off v
    | .scr =>
      let t := s.store s.scrOpen off v (fun t => t.scrLocked loc)
      if off = R.SCR_INJ_CTRL then t.injectAct v else t
    | .ic | .err =>
      if s.halted then s.icHold ⟨ep, true, off, v⟩ else s.icWake.icErrWrite off v
    | .ist =>
      let t := s.store s.istOpen off v (fun t => t.istLocked loc)
      if off = R.IST_RUN then t.runAct v else t
    | .dbg => s.dbgWrite loc off v
    | .mbx => s.mbxWrite loc off v
    | .sec => ((s.rawWrite true off v).1).secAct loc v
    | .tim => s.timWrite loc off v
    | .skm => (s.store (s.skmOpen loc) off (skmMask loc v) (fun t => t.skmLocked loc)).skmAct s loc v
    | .noc => s.nocWrite inst loc off v
    | .ni => s.niWrite inst loc off v
    | .lq => s.lqWrite inst loc off v
    | .mc => s.mcWrite inst loc off v
    | .sector => s.sectorWrite inst loc off v

/-- A write of a register from an endpoint. -/
def State.busWrite (s : State) (ep off : Nat) (v : Word) : State :=
  if !s.reaches ep off then s.turned ep true off
  else if !s.csrAccepts ep true off then s.refuse ep off
  else s.csrWrite ep off v

/-! ## Reads -/

/-- Bit `i` of a word for each `i` below 32 that satisfies a condition. -/
def bitsWhere (f : Nat → Bool) : Word := BitVec.ofNat 32 (((List.range 32).map (fun i => if f i then 2 ^ i else 0)).sum)

/-- BM_QSTAT as it reads (R114, R115). DESIGN CHOICE, unsafe (notes/assumptions/45.md): FULL and EMPTY read 0 at reset, where no
queue is configured, as their Meaning says, against their Reset column. -/
def State.qstat (s : State) (sec b : Nat) : Word :=
  let q := s.queueAt (sec * 256 + b)
  let w := (s.reg (R.BM_QSTAT sec b)).fput F.BM_QSTAT_QMODE (s.act.bmCfg (sec * 256 + b)).qmode
  match s.qCfg (.block (Fin.ofNat 32 sec) (Fin.ofNat 256 b)) with
  | some c => ((w.fput F.BM_QSTAT_FULL (b2n (q.full c))).fput F.BM_QSTAT_EMPTY (b2n (q.empty c))).fput F.BM_QSTAT_LEVEL q.rdCount
  | none => ((w.fput F.BM_QSTAT_FULL 0).fput F.BM_QSTAT_EMPTY 0).fput F.BM_QSTAT_LEVEL 0

/-- Registers of a sector's window whose value follows from other state (R58, R61, R248, BM_QSTAT, BM_QERR_SUM). -/
def State.sectorPeek (s : State) (k loc : Nat) : Option Word :=
  if loc = 0x08 then some (bitsWhere (fun i => s.act.owners k i == 1))
  else if loc = 0x0C then some (bitsWhere (fun i => s.act.owners k (32 + i) == 1))
  else if loc = 0x10 then some (bitsWhere (fun i => s.shd.owners k i == 1))
  else if loc = 0x14 then some (bitsWhere (fun i => s.shd.owners k (32 + i) == 1))
  else if loc = 0x104 then some (((s.reg (R.FAB_PRB_STAT k)).fput F.FAB_PRB_STAT_PINS_ACTIVE (b2n (s.pinsActive k))).fput
    F.FAB_PRB_STAT_PINS_DENIED (b2n (s.pinsDenied k)))
  else if loc = 0x124 then some ((s.prbRead k).1.setWidth 32)
  else if loc = 0x128 then some (((s.prbRead k).1 >>> 32).setWidth 32)
  else if 0x1100 ≤ loc && loc < 0x1500 && loc % 4 = 0 then some (s.qstat k ((loc - 0x1100) / 4))
  else if 0x1500 ≤ loc && loc < 0x1520 && loc % 4 = 0 then
    some (bitsWhere (fun i =>
      let w := s.reg (R.BM_QSTAT k (8 * (loc - 0x1500) + i))
      w.fget F.BM_QSTAT_OVF != 0 || w.fget F.BM_QSTAT_UDF != 0))
  else if loc = 0x2000 then some (bitsWhere (fun r => s.rgnDefined r && s.rgnHeld r && (s.rgnSectors r).contains k))
  else none

/-- Registers of a network interface's window whose value follows from other state. -/
def State.niPeek (s : State) (e loc : Nat) : Option Word :=
  if loc = 8 then some ((((s.reg (R.NI_STAT e)).fput F.NI_STAT_USER_PORT (b2n (s.userPort e))).fput F.NI_STAT_OUTSTANDING
    (s.niTags e).length).fput F.NI_STAT_POOL_FREE (s.poolFree e))
  else if loc = 4 && 64 ≤ e then some (s.reg (R.NI_TIMEOUT e) &&& 0xFFFF)
  else none

/-- An error flag of a mailbox is set (MBX_SUM.ERR). -/
def State.mbErr (s : State) (m : Nat) : Bool := (s.reg (R.MBX_STAT m)).toNat / 16 % 32 != 0

/-- Registers of the MBX window whose value follows from the slots. -/
def State.mbxPeek (s : State) (loc : Nat) : Option Word :=
  if loc = 0x200 then
    some (bitsWhere (fun i => (i < 7 && !(s.mb i).rsps.isEmpty) || (8 ≤ i && i < 15 && s.mbErr (i - 8))))
  else match mbxOf loc with
    | none => none
    | some m =>
      if loc % 0x40 = 4 then some (s.mbStat m)
      else if loc % 0x40 = 0xC then some ((s.mb m).nextWord.getD 0)
      else none

/-- Registers of the DBG and WDT window whose value follows from other state. -/
def State.dbgPeek (s : State) (loc : Nat) : Option Word :=
  if loc = 0 then some ((s.reg R.DBG_STAT).fput F.DBG_STAT_DBG_OPEN (b2n s.dbgOpen))
  else if loc = 0x10C then some (BitVec.ofNat 32 s.wdtNow)
  else none

/-- The value that a register shows: computed from other state, or held; write-only bits read 0 (R12, R20). Region-indexed
registers of a region that is not defined read 0. -/
def State.csrPeek (s : State) (off : Nat) : Word :=
  match winOf off with
  | none => 0
  | some (w, inst, loc) =>
    let held := s.reg off &&& ~~~ woMask off
    match w with
    | .cfg => if regionReg off && !s.rgnDefined (regionOfReg off) then 0 else held
    | .clk => (s.clkPeek loc).getD held
    | .scr => (s.scrPeek loc).getD held
    | .ic | .err => s.icErrRead off
    | .ist => (s.istPeek loc).getD held
    | .dbg => (s.dbgPeek loc).getD held
    | .mbx => (s.mbxPeek loc).getD held
    | .sec => (s.secPeek loc).getD held
    | .tim => (s.timPeek loc).getD held
    | .ni => (s.niPeek inst loc).getD held
    | .lq => (s.lqPeek inst loc).getD held
    | .mc => (s.mcPeek inst loc).getD held
    | .sector => (s.sectorPeek inst loc).getD held
    | .sys | .skm | .noc => held

/-- What any read does before its value is taken: bus lines are sampled (R56), the watchdog has counted (R633). -/
def State.readPre (s : State) (off : Nat) : State :=
  match winOf off with
  | some (.sector, k, loc) => s.when (loc == 0x18 || loc == 0x1C) (fun t => t.keepLines k)
  | _ => if off = R.WDT_COUNT then { s.setReg off (BitVec.ofNat 32 s.wdtNow) with draws := s.draws + 1 } else s

/-- What a read changes beside its value (R12, R85, R449, R463, R536): RC fields clear, FIFOs and mailboxes pop. -/
def State.readAct (s : State) (off : Nat) : State :=
  let rc := s.setReg off (s.reg off &&& ~~~ rcMask off)
  match winOf off with
  | none => s
  | some (w, inst, loc) =>
    match w with
    | .ic | .err => s.icErrReadAct off
    | .sector => if loc = 0x124 || loc = 0x128 then (s.prbRead inst).2 else rc
    | .tim =>
      match timGroup loc, timLane loc with
      | some g, _ => if (loc - 0x2100) % 0x20 = 0 then (s.capPop g).2 else rc
      | _, some n => if (loc - 0x4000) % 0x20 = 0x10 then (s.tsPop n).2 else rc
      | _, _ => rc
    | .mbx =>
      match mbxOf loc with
      | some m => if loc % 0x40 = 0xC then (s.mbPop m).2 else rc
      | none => rc
    | _ => rc

/-- A debug-tagged read has no side effect of these kinds (R15), but the decoder still reports (R101). -/
def State.readDebug (s : State) (off : Nat) : State :=
  match winOf off with
  | some (.sector, k, loc) => if loc = 0x124 || loc = 0x128 then (s.prbRead k).2 else s
  | _ => s

/-- The word that the value register of an accepted read gives a debug-tagged read. -/
def State.debugPeek (s : State) (off : Nat) : Word :=
  match winOf off with
  | some (.ic, _, _) | some (.err, _, _) => s.icErrDebug off
  | _ => s.csrPeek off

/-- What an accepted read gives in `out`, and what it changes. A read of the IC or ERR window wakes the controller, and
waits through a halt, the debug master's apart (R594, R595). -/
def State.csrRead (s0 : State) (ep off : Nat) : State :=
  let icErr := match winOf off with | some (.ic, _, _) | some (.err, _, _) => true | _ => false
  if icErr && s0.halted && ep != 0x6B then s0.icHold ⟨ep, false, off, 0⟩
  else
    let s := (s0.readPre off).when (icErr && !s0.halted) (fun t => t.icWake)
    if ep = 0x6B then { s.readDebug off with out := leBytes 4 (s.debugPeek off).toNat }
    else { s.readAct off with out := leBytes 4 (s.csrPeek off).toNat }

/-- A read of a register from an endpoint. -/
def State.busRead (s : State) (ep off : Nat) : State :=
  if !s.reaches ep off then s.turned ep false off
  else if !s.csrAccepts ep false off then s.refuse ep off
  else s.csrRead ep off

end Sys2Proof.Machine
end

