-- ==== Sys2Proof/Machine/NocCmds.lean ====
section
/-! DEFINITION. NocCmds.lean: requests that endpoints issue and targets perform (R36-R41, R298-R302, R313, R316, R320,
R521). -/

namespace Sys2Proof.Machine

/-! ## Addresses (R36-R39, R298) -/

/-- The CSR offset of an address. -/
def csrOff (addr : Nat) : Option Nat := if csrBase ≤ addr && addr < csrBase + 0x3200000 then some (addr - csrBase) else none

/-- Where the interface of endpoint `e` sends a request (R298). -/
def State.nocDest (s : State) (e addr len : Nat) : Dest :=
  let ap := 0x020000000000
  if addr < 2 ^ 33 then s.rldDest e addr len
  else if ap ≤ addr && addr < ap + 32 * 2 ^ 32 then .endp ((addr - ap) / 2 ^ 31) 0
  else if padBase ≤ addr && addr < padBase + 2 ^ 22 then .endp 0x6A 0
  else match csrOff addr with
    | some off => csrDest off
    | none => .none

/-! ## Issue -/

/-- An endpoint that issues requests of its own: user logic behind a fabric interface, the core while it is not halted, the
configuration controller. The debug master issues for DBG_ACCESS only (R624), agents and RLD ports issue none. -/
def State.issues (s : State) (e : Nat) : Bool :=
  if e < 64 then s.userRuns e else if e = 0x68 then !s.halted else e == 0x69

/-- NOC_REQUEST_ISSUE (R298, R304, R311, R313): LEN is one below the number of bytes. -/
def execNocRequestIssue (ni : Fin 256) (cmd vn : Nat) (addr : BitVec 48) (len : Fin 512) (data : List (BitVec 8))
    (ltag : Fin 256) (s : State) : Host.Outcome State Fault Refusal :=
  .next (if s.issues ni && vn < 4 && cmd < 0x80 then
      s.issue ni cmd vn addr.toNat len data ltag (s.nocDest ni addr.toNat len)
    else s)

/-! ## Arrival -/

/-- The words of the scratchpad that a request covers. -/
def Packet.padWords (p : Packet) : List Nat :=
  let a := p.addr - padBase
  (List.range ((a + p.len) / 8 + 1 - a / 8)).map (fun i => a / 8 + i)

/-- A request waits at its target: the IC and ERR windows and the scratchpad through a halt (R595, R631), the scratchpad's
words of a march slice or a wipe (R526, R564), a frozen channel (R469). -/
def State.reqWaits (s : State) (p : Packet) : Bool :=
  match csrOff p.addr with
  | some off => s.halted && (off / 0x10000 == 4 || off / 0x10000 == 5) && !(p.src == 0x6B && p.cmd == cmdRd)
  | none =>
    if p.dst = 0x6A then (s.halted && !p.dbg) || p.padWords.any (fun w => s.padBusy w)
    else if 0x40 ≤ p.dst && p.dst < 0x60 then s.mcState ((p.dst - 0x40) / 4) == 8
    else false

/-- The request that endpoint `e` performs next, with its place: the oldest that does not wait and has none of its source
before it (R315). -/
def State.nextRequest (s : State) (e : Nat) : List Packet → Nat → List Nat → Option (Nat × Packet)
  | [], _, _ => none
  | p :: r, k, blocked =>
    if p.dst != e || p.isRsp then s.nextRequest e r (k + 1) blocked
    else if blocked.contains p.src then s.nextRequest e r (k + 1) blocked
    else if s.reqWaits p then s.nextRequest e r (k + 1) (p.src :: blocked)
    else some (k, p)

/-- A request to a CSR agent or an interface's own window (R37, R39-R41, R299, R302). Who sends it is judged before its form. -/
def State.csrRequest (s : State) (e off : Nat) (p : Packet) : State :=
  if p.vn = 2 then s.niDrop e
  else if !s.csrAccepts p.src (p.cmd == cmdWr) off then (s.csrRefused p.src off).respond e p 2 []
  else if p.vn != 3 || p.len != 3 || p.addr % 4 != 0 then s.respond e p 2 []
  else if p.cmd = cmdWr then (s.csrWrite p.src off (BitVec.ofNat 32 (leNat p.data))).respond e p 0 []
  else
    let t := s.csrRead p.src off
    t.respond e p 0 t.out

/-- The regions of the scratchpad that a request covers let it in (R41, R521). -/
def padAllows (p : Packet) : Bool :=
  let ok := fun (a : Nat) =>
    let w := (a - padBase) / 8
    p.src == 0x68 || (padShared ≤ w && w < padSaggar) || (w < padShared && p.src == 0x6B && p.cmd == cmdRd)
  ok p.addr && ok (p.addr + p.len)

/-- A request to the scratchpad (R41, R302, R521-R523): who sends it is judged first. -/
def State.padRequest (s : State) (p : Packet) : State :=
  let a := p.addr - padBase
  if !padAllows p then (s.turnAway 0x6A p 2).nocRecord (64 + 0x6A) 27 0xB 2 0 p.src 0x6A
  else if !p.onePage then s.turnAway 0x6A p 2
  else if p.cmd = cmdRd then
    let r := s.padReadBytes false a (p.len + 1)
    r.2.2.respond 0x6A p (if r.2.1 then 6 else 0) r.1
  else
    let t := s.padWriteBytes false a (sliceBytes p.data 0 (p.len + 1))
    if p.vn = 2 then t else t.respond 0x6A p 0 []

/-- A request to a port of an RLD channel (R469). -/
def State.rldRequest (s : State) (e : Nat) (p : Packet) : State :=
  let c := (e - 0x40) / 4
  let st := s.mcState c
  if 3 ≤ st && st ≤ 6 then s.mcArrive c (e % 4) p else s.turnAway e p 7

/-- A request to a fabric interface (R320, R322): it waits for user logic. -/
def State.fabricRequest (s : State) (e : Nat) (p : Packet) : State :=
  if s.fence e != 0 then s.turnAway e p 4
  else if !s.userPort e then
    (if p.vn = 2 then s.niDrop e else (s.respond e p 5 []).nocRecord (64 + e) (routerOf e) 0xA 2 0 p.src p.dst)
  else s.setNoc { s.noc with held := s.noc.held ++ [p] }

/-- A target performs a request or answers it (R299, R302, R316): with its interface disabled, an access to the interface's own
window on VN3 alone is performed. -/
def State.perform (s : State) (e : Nat) (p : Packet) : State :=
  match csrOff p.addr with
    | some off => if !s.niOn e && (p.vn != 3 || !niWindow off) then s.turnAway e p 7 else s.csrRequest e off p
    | none =>
      if !s.niOn e then s.turnAway e p 7
      else if e = 0x6A then s.padRequest p
      else if !p.onePage then s.turnAway e p 2
      else if 0x40 ≤ e && e < 0x60 then s.rldRequest e p
      else if e < 64 then s.fabricRequest e p
      else s.turnAway e p 2

/-- User logic behind a fabric interface (R320): takes its oldest request, a posted write with it, or answers the oldest it
has taken. -/
def State.userAct (s : State) (e : Nat) : UserAct → State
  | .leave => s
  | .take =>
    if !s.userRuns e then s
    else match takeFirst (fun p => p.dst == e) s.noc.held with
      | none => s
      | some (p, r) => s.setNoc { s.noc with held := r, taken := if p.vn = 2 then s.noc.taken else s.noc.taken ++ [p] }
  | .answer data poison =>
    if !s.userRuns e then s
    else match takeFirst (fun p => p.dst == e) s.noc.taken with
      | none => s
      | some (p, r) => (s.setNoc { s.noc with taken := r }).respond e p (if poison then 6 else 0) data

/-- NOC_REQUEST_ARRIVAL (R299, R302, R315, R316, R320): the next request at an endpoint is performed or answered; then user
logic behind a fabric interface acts. -/
def execNocRequestArrival (e : Fin 256) (act : UserAct) (s : State) : Host.Outcome State Fault Refusal :=
  let t := match s.nextRequest e s.noc.arrived 0 [] with
    | none => s
    | some (k, p) => (s.setNoc { s.noc with arrived := s.noc.arrived.eraseIdx k }).perform e p
  .next (if e.val < 64 then t.userAct e act else t)

end Sys2Proof.Machine
end

