-- ==== Sys2Proof/Machine/Packets.lean ====
section
/-! DEFINITION. Packets.lean: the checks of a container, its packets, and the end of a load or of a hold-load stream
(06_configuration_loading.md, R220-R234, R256, R257, R518, R520). -/

namespace Sys2Proof.Machine

/-! ## Checks 1 to 5 (R186, R225) -/

/-- Bytes that a load needs are not there: a stream waits for them, a read from flash or memory has failed. -/
def State.bytesMissing (s : State) (l : Load) : State := if LoadPath.streams l.path then s else s.loadFail l 0x01 0xFFFF

/-- The digest table, then the GCM tag table where there is one (R186 check 5). -/
def State.tableBytes (s : State) (l : Load) (h : Header) : Option (List Byte) :=
  match s.loadBytes l h.digOff (32 * h.blocks) with
  | none => none
  | some d => if h.encrypted then (s.loadBytes l h.tagOff (16 * h.blocks)).map (fun t => d ++ t) else some d

/-- A load has passed checks 1 to 5: its key enters the decryption engine (R559); the shadow of a staging load enters STAGING,
unless it has been armed meanwhile (R221, R226, R238). -/
def State.headerPassed (s : State) (l : Load) (h : Header) : State :=
  let key := fun (t : State) => match if h.encrypted then t.bitstreamKey h.keySel else none with
    | some k => { t with sec := { t.sec with engine := (l.path, k) :: t.sec.engine } }
    | none => t
  if l.kind = 2 then
    if s.shadow l.region = 3 then s.loadFail l 0x18 0xFFFF
    else
      let t := (key (s.putLoad { l with hdr := some h })).setShadow l.region 1
      let u := t.setFld (R.CFG_RGN_GEN l.region) F.CFG_RGN_GEN_SHD_GEN 0
      (u.setRg l.region { u.rg l.region with shd := none }).scrubStage l.region
  else key (s.putLoad { l with hdr := some h })

/-- Checks 2 to 5 with the tables and the signature. -/
def State.tablesChecked (s : State) (l : Load) (hdr tables sig : List Byte) : State :=
  let h := parseHeader hdr
  match s.headerChecks h l.kind (if l.kind = 2 then some l.region else none) l.dirId hdr tables sig with
  | some c => s.loadFail l c 0xFFFF
  | none => s.headerPassed l { h with conDig := (Config.sha3 (hdr ++ tables)).toNat
                                      tabDig := (Config.sha3 (tables.take (32 * h.blocks))).toNat }

/-- The tables and the signature are fetched. -/
def State.tablesFetch (s : State) (l : Load) (h : Header) : State :=
  ((s.loadNotice l h.digOff (32 * h.blocks)).when h.encrypted (fun t => t.loadNotice l h.tagOff (16 * h.blocks))).loadNotice l
    0x1000 2420

/-- The identity check, the structure check, then checks 2 to 5. -/
def State.headerStep (s : State) (l : Load) : State :=
  match s.loadBytes l 0 4096 with
  | none => s.bytesMissing l
  | some hdr =>
    let s := s.loadNotice l 0 4096
    let h := parseHeader hdr
    match s.identityCheck hdr with
    | some c => s.loadFail l c 0xFFFF
    | none =>
      if !h.structureOk l.len then s.loadFail l 0x13 0xFFFF
      else match s.tableBytes l h, s.loadBytes l 0x1000 2420 with
        | some t, some g => (s.tablesFetch l h).tablesChecked l hdr t g
        | _, _ => s.bytesMissing l

/-- CONTAINER_HEADER_CHECK (R186, R187, R197). -/
def execContainerHeaderCheck (p : LoadPath) (s : State) : Host.Outcome State Fault Refusal :=
  .next (if s.halted then s
    else match s.loadOn p with
      | none => s
      | some l => if l.hdr.isSome || p == .hold then s else s.headerStep l)

/-! ## The next packet (R189) -/

/-- The data words of a packet; none for an unknown opcode or a COUNT that its opcode does not allow. -/
def packetWords (op count : Nat) : Option Nat :=
  match op with
  | 0 => some count
  | 1 => if count = 1 then some 1 else none
  | 2 => if 0 < count then some (65 * count) else none
  | 3 => if 0 < count then some 65 else none
  | 4 => if 0 < count then some 0 else none
  | 5 => if count = 2049 || count = 2305 then some count else none
  | 6 => if count % 3 = 0 then some count else none
  | 7 => if count = 1 then some 1 else none
  | _ => none

/-- Bytes of a load's packet stream: of the blocks opened, or of the memory that a hold-load stream lies in. -/
def State.streamBytes (s : State) (l : Load) (k : Nat) : Option (List Byte) :=
  if l.path = .hold then s.loadBytes l 0 k else if k ≤ l.buf.length then some (l.buf.take k) else none

/-- How the next packet of a stream stands. -/
inductive Front where
  | missing
  | bad
  | packet (op count : Nat) (data : List Word)
  deriving DecidableEq, Repr

/-- The little-endian words of a byte string. -/
def leWords (n : Nat) (l : List Byte) : List Word := (List.range n).map (fun i => BitVec.ofNat 32 (leAt l (4 * i) 4))

/-- The data words of a packet that a load's path takes: a hold-load stream takes NOP, BM_CONTENTS and END only (R256, R257). -/
def Load.words (l : Load) (op count : Nat) : Option Nat :=
  if l.path = .hold && op != 0 && op != 5 && op != 7 then none else packetWords op count

/-- The next packet of a load: its opcode and COUNT are judged before its data (R257). -/
def State.front (s : State) (l : Load) : Front :=
  match s.streamBytes l 4 with
  | none => .missing
  | some w =>
    let op := leAt w 3 1
    let count := leAt w 0 3
    match l.words op count with
    | none => .bad
    | some n =>
      match s.streamBytes l (4 + 4 * n) with
      | none => .missing
      | some b => .packet op count (leWords n (b.drop 4))

/-- A packet fails its load or stream. -/
def State.packetFail (s : State) (l : Load) (code : Nat) : State :=
  if l.path = .hold then
    match s.boot.hold with
    | some x => s.holdEnd x.region code x.index
    | none => s
  else s.loadFail l code (l.blk - 1)

/-- The packet just executed leaves the stream. -/
def State.consume (s : State) (l : Load) (n : Nat) : State :=
  if l.path = .hold then
    let t := s.putLoad { l with addr := l.addr + 4 + 4 * n }
    match t.boot.hold with
    | some x => t.setBoot { t.boot with hold := some { x with index := x.index + 1 } }
    | none => t
  else s.putLoad { l with buf := l.buf.drop (4 + 4 * n) }

/-! ## The end of a load (R194, R201, R232) -/

/-- The clock settings of the plane that a load has written lie within R150. -/
def State.clocksGood (s : State) (l : Load) : Bool :=
  if l.kind = 1 then s.act.clk.all (fun q => q.2.inRange)
  else s.shd.clk.all (fun q => q.2.inRange || s.frameRegion (mkKey q.1 0 0 124) != some l.region)

/-- Every block has been checked and END stands: what follows END must be 0 (R194), and clock settings that violate R150 are not
loaded (R151; which code that failure has is free, notes/assumptions/47.md); a full load is complete, a staging load waits for
SHADOW_VERIFIED where every frame of its region was written (R232). -/
def State.finish (s : State) (l : Load) (h : Header) : State :=
  if !l.buf.all (fun b => b == 0) then s.loadFail l 0x12 (l.blk - 1)
  else if l.blk < h.blocks then s.putLoad l
  else if !s.clocksGood l then
    ({ s with draws := s.draws + 1 }).loadFail l ((Config.freeWord s.draws).toNat % 255 + 1) (l.blk - 1)
  else if l.kind = 1 then s.fullDone l h
  else if l.written.length = s.frameCount (some l.region) then s.putLoad { l with verify := true }
  else s.loadFail l 0x19 (l.blk - 1)

/-- After a block has been opened or a packet executed: an END that stands, a bad packet, or a missing END. -/
def State.settleLoad (s : State) (l : Load) : State :=
  match l.hdr with
  | none => s.putLoad l
  | some h =>
    if l.kind = 3 then s.putLoad l
    else if l.ended then s.finish l h
    else match s.front l with
      | .bad => s.loadFail l 0x0D (l.blk - 1)
      | .missing => if l.blk < h.blocks then s.putLoad l else s.loadFail l 0x12 (l.blk - 1)
      | .packet _ _ _ => s.putLoad l

/-! ## Check 6 (R183-R187) -/

/-- A load is ready for its next block: its header has passed, no packet of the blocks before still waits, and no clearing
that a full load has to wait for runs (R187, R197). -/
def State.blockReady (s : State) (l : Load) (h : Header) : Bool :=
  l.blk < h.blocks && !(l.kind == 1 && s.boot.clearing) && (l.kind == 3 || l.ended || s.front l == .missing)

/-- The next block of a load is opened. -/
def State.blockStep (s : State) (l : Load) (h : Header) : State :=
  let b := h.block l.blk
  let tag := if h.encrypted then s.loadBytes l (h.tagOff + 16 * l.blk) 16 else some []
  match s.loadBytes l b.1 b.2, s.loadBytes l (h.digOff + 32 * l.blk) 32, tag with
  | some stored, some dig, some t =>
    let s := (s.loadNotice l b.1 b.2).loadNotice l (h.digOff + 32 * l.blk) 32
    (match s.openBlock h l.blk stored dig t with
     | .error c => s.loadFail l c l.blk
     | .ok x =>
       if l.kind = 3 && 2 ^ 21 < l.buf.length + x.length then s.loadFail l 0x13 l.blk
       else s.settleLoad { l with buf := l.buf ++ x, blk := l.blk + 1 })
  | _, _, _ => if LoadPath.streams l.path then s else s.loadFail l 0x01 l.blk

/-- CONTAINER_BLOCK_CHECK (R187): the packets that the block completes are the packet commands that follow. -/
def execContainerBlockCheck (p : LoadPath) (s : State) : Host.Outcome State Fault Refusal :=
  .next (if s.halted then s
    else match s.loadOn p with
      | none => s
      | some l =>
        match l.hdr with
        | none => s
        | some h => if s.blockReady l h then s.blockStep l h else s)

/-! ## Packets -/

/-- Execute the front packet of a path where it is the one named; a bad or missing one fails. A hold-load stream takes NOP,
BM_CONTENTS and END (R256). `f` answers the state and the load, with a failure code where the packet fails. -/
def State.packet (s : State) (p : LoadPath) (op count : Nat) (data : List Word)
    (f : State → Load → State × Load × Option Nat) : State :=
  if s.halted then s
  else match s.loadOn p with
    | none => s
    | some l =>
      if (l.hdr.isNone && p != .hold) || l.kind = 3 || l.ended then s
      else match s.front l with
        | .bad => s.packetFail l 0x0D
        | .missing => if p = .hold then s.packetFail l 0x12 else s
        | .packet o c d =>
          if o != op || c != count || d != data then s
          else
            let r := f (s.when (p == .hold) (fun t => t.loadNotice l 0 (4 + 4 * d.length))) l
            match r.2.2 with
            | some code => r.1.packetFail r.2.1 code
            | none =>
              let t := r.1.consume r.2.1 d.length
              match t.loadOn p with
              | some m => if p = .hold then t else t.settleLoad m
              | none => t

/-- NOP. -/
def execNop (p : LoadPath) (count : Nat) (data : List (BitVec 32)) (s : State) : Host.Outcome State Fault Refusal :=
  .next (s.packet p 0 count data (fun t l => (t, l, none)))

/-- SET_FAR (R190, R191, R214). -/
def execSetFar (p : LoadPath) (count : Nat) (data : List (BitVec 32)) (s : State) : Host.Outcome State Fault Refusal :=
  .next (s.packet p 1 count data (fun t l =>
    let far := (data.headD 0).toNat
    if farValid far then (t, { l with far := some far }, none) else (t, l, some 0x0F)))

/-! ## Frames (R58-R60, R189-R191, R213, R227, R228) -/

/-- A frame of a load would leave more than one driver cell on a line of the plane written (R58). -/
def Plane.doubleOwner (p : Plane) (key : Nat) (ws : List Word) : Bool :=
  let ls := linesOf key ws
  ls.any (fun n => 1 < ls.count n + p.ownersBut (keySector key) n key)

/-- A frame of a staging load would drive a line that the active plane drives outside the region (R59). -/
def State.foreignOwner (s : State) (r key : Nat) (ws : List Word) : Bool :=
  (linesOf key ws).any (fun n =>
    s.act.lines.any (fun q => keySector q.1 == keySector key && s.frameRegion q.1 != some r && q.2.contains n))

/-- The code for which a frame is refused, whose CRC has come with it. -/
def State.frameRefusal (s : State) (l : Load) (far : Nat) (ws : List Word) (crc : Word) : Option Nat :=
  let key := farKey far
  if !farValid far then some 0x0F
  else if frameCrc ws != crc.toNat then some 0x0E
  else if l.kind = 2 && s.frameRegion key != some l.region then some 0x15
  else if (if l.kind = 1 then s.act else s.shd).doubleOwner key ws then some 0x10
  else if l.kind = 2 && s.foreignOwner l.region key ws then some 0x16
  else none

/-- The stored bits of frame `i` of a packet that stand inverted when it is read back (notes/assumptions/29.md). -/
def upsetAt (up : Option (Nat × List (Fin 2336))) (i : Nat) : List Nat :=
  match up with
  | none => []
  | some x => if x.1 = i then x.2.map (fun b => b.val) else []

/-- Write one frame at the current address (R189): a full load writes the active plane, a staging load the shadow, where the
frame is read back (R231). -/
def State.frameWrite (s : State) (l : Load) (ws : List Word) (crc : Word) (up : List Nat) : State × Load × Option Nat :=
  match l.far with
  | none => (s, l, some 0x0F)
  | some far =>
    let key := farKey far
    match s.frameRefusal l far ws crc with
    | some c =>
      (s.when (l.kind == 2 && (c == 0x15 || c == 0x10 || c == 0x16))
        (fun t => t.setReg (R.CFG_RGN_BADFAR l.region) (BitVec.ofNat 32 far)), l, some c)
    | none =>
      let t := if l.kind = 1 then { s with act := s.act.write key ws crc } else { s with shd := s.shd.write key ws crc }
      let f := ((t.plane (l.kind != 1)).frame key).invert up
      (t.when (!up.isEmpty) (fun t => t.storeFrame key (l.kind != 1) f),
        { l with far := if keyFrame key = 127 then none else some (far + 64)
                 frames := l.frames + 1
                 written := if l.kind = 2 then NSet.add l.written key else l.written },
        if l.kind = 2 && !up.isEmpty && !f.readsBack then some 0x1A else none)

/-- Write frames one after another, each with its bits that stand inverted; the first that fails ends the load. -/
def State.frameWrites (s : State) (l : Load) : List ((List Word × Word) × List Nat) → State × Load × Option Nat
  | [] => (s, l, none)
  | f :: r =>
    let x := s.frameWrite l f.1.1 f.1.2 f.2
    match x.2.2 with
    | some c => (x.1, x.2.1, some c)
    | none => x.1.frameWrites x.2.1 r

/-- Frame `i` of packet data. -/
def frameAt (data : List Word) (i : Nat) : List Word × Word :=
  ((data.drop (65 * i)).take 64, (data.drop (65 * i + 64)).headD 0)

/-- The frames of a packet, `f` the contents of each. -/
def packetFrames (count : Nat) (up : Option (Nat × List (Fin 2336))) (f : Nat → List Word × Word) :
    List ((List Word × Word) × List Nat) := (List.range count).map (fun i => (f i, upsetAt up i))

/-- A frame of zeros and its CRC. -/
def zeroFrame : List Word × Word := (List.replicate 64 0, BitVec.ofNat 32 (frameCrc (List.replicate 64 0)))

/-- WRITE_FRAMES. -/
def execWriteFrames (p : LoadPath) (count : Nat) (data : List (BitVec 32)) (up : Option (Nat × List (Fin 2336))) (s : State) :
    Host.Outcome State Fault Refusal :=
  .next (s.packet p 2 count data (fun t l => t.frameWrites l (packetFrames count up (frameAt data))))

/-- REPEAT_FRAME. -/
def execRepeatFrame (p : LoadPath) (count : Nat) (data : List (BitVec 32)) (up : Option (Nat × List (Fin 2336))) (s : State) :
    Host.Outcome State Fault Refusal :=
  .next (s.packet p 3 count data (fun t l => t.frameWrites l (packetFrames count up (fun _ => frameAt data 0))))

/-- ZERO_FRAMES. -/
def execZeroFrames (p : LoadPath) (count : Nat) (data : List (BitVec 32)) (up : Option (Nat × List (Fin 2336))) (s : State) :
    Host.Outcome State Fault Refusal :=
  .next (s.packet p 4 count data (fun t l => t.frameWrites l (packetFrames count up (fun _ => zeroFrame))))

/-! ## Block memories (R103, R192, R229, R256) -/

/-- BM_CONTENTS (R192): 1,024 stored words of 64 or 72 bits, packed end to end. -/
def State.bmContents (s : State) (l : Load) (count : Nat) (data : List Word) : State × Load × Option Nat :=
  let h := (data.headD 0).toNat
  let w72 := h.testBit 31
  let k := h / 256 % 32 * 256 + h % 256
  if l.kind = 2 && l.path != .hold then (s, l, some 0x11)
  else if h / 2 ^ 13 % 2 ^ 18 != 0 then (s, l, some 0x11)
  else if count != (if w72 then 2305 else 2049) then (s, l, some 0x0D)
  else if l.path = .hold && s.blockRegion k != some l.region then (s, l, some 0x11)
  else
    let bytes := (data.drop 1).flatMap (fun w => leBytes 4 w.toNat)
    let n := if w72 then 9 else 8
    (s.forEach (List.range 1024) (fun t w => t.loadPort (k / 256) (k % 256) w (BitVec.ofNat 72 (leAt bytes (n * w) n)) w72),
      { l with written := if l.kind = 1 then NSet.add l.written k else l.written }, none)

/-- BM_CONTENTS. -/
def execBmContents (p : LoadPath) (count : Nat) (data : List (BitVec 32)) (s : State) : Host.Outcome State Fault Refusal :=
  .next (s.packet p 5 count data (fun t l => t.bmContents l count data))

/-! ## Registers (R193, R230) -/

/-- The windows that a CSR_WRITE may name (R193). -/
def dataPlane : Win → Bool
  | .lq | .ni | .noc | .tim | .skm => true
  | _ => false

/-- A CSR_WRITE triple of a full bitstream (R193): a write of the configuration controller over the network; none where the
response is not OK. -/
def State.tripleFull (s : State) (off : Nat) (v : Word) : Option State :=
  match winOf off with
  | some (w, _, _) =>
    if dataPlane w && s.reaches 0x69 off && s.niOn 0x69 && s.csrAccepts 0x69 true off then some (s.csrWrite 0x69 off v) else none
  | none => none

/-- The block that a register belongs to for a binding (R230, R235). -/
def boundOf (off : Nat) : Option Bound :=
  match winOf off with
  | some (.lq, q, loc) => some (if 0xA000 ≤ loc then .group (Fin.ofNat 16 q) else .quad (Fin.ofNat 36 q))
  | some (.ni, e, _) => some (.ni (Fin.ofNat 256 e))
  | _ => none

/-- A CSR_WRITE triple of a partial bitstream (R230): the staging copies of a register bound to the region. A route that R309
refuses is recorded. `none` in the second place: the triple fails. -/
def State.triplePart (s : State) (r off : Nat) (v : Word) : State × Bool :=
  match rowAt off, boundOf off with
  | some (row, _), some b =>
    if row.stg = 0 || (v &&& ~~~ row.stg) != 0 || !s.isBound r b then (s, false)
    else
      (match winOf off with
       | some (.ni, e, loc) =>
         if 0x800 ≤ loc && loc % 8 = 4 &&
             !routeValid e ((loc - 0x800) / 8) ((s.staged (off - 4)).toNat + 2 ^ 32 * (v.toNat % 2 ^ 16)) then
           (s.niRtHi e ((loc - 0x800) / 8) v, false)
         else (s.setStaged off (row.afterStaged (s.staged off) v), true)
       | _ => (s.setStaged off (row.afterStaged (s.staged off) v), true))
  | _, _ => (s, false)

/-- The triples of a CSR_WRITE packet in order; the first that fails ends the load. -/
def State.triples (s : State) (l : Load) : List Word → State × Load × Option Nat
  | lo :: hi :: v :: r =>
    match csrOff (lo.toNat + 2 ^ 32 * (hi.toNat % 2 ^ 16)) with
    | none => (s, l, some 0x11)
    | some off =>
      if l.kind = 1 then
        match s.tripleFull off v with
        | some t => t.triples l r
        | none => (s, l, some 0x11)
      else
        let x := s.triplePart l.region off v
        if x.2 then x.1.triples l r else (x.1, l, some 0x11)
  | _ => (s, l, none)

/-- CSR_WRITE. -/
def execCsrWrite (p : LoadPath) (count : Nat) (data : List (BitVec 32)) (s : State) : Host.Outcome State Fault Refusal :=
  .next (s.packet p 6 count data (fun t l => t.triples l data))

/-! ## END (R194, R256) -/

/-- END: its count is that of the frames written; of a hold-load stream 0. -/
def execEndPacket (p : LoadPath) (count : Nat) (data : List (BitVec 32)) (s : State) : Host.Outcome State Fault Refusal :=
  .next (if p = .hold then
      match s.boot.hold with
      | none => s
      | some x =>
        let t := s.packet .hold 7 count data (fun t l => (t, { l with ended := true },
          if (data.headD 0).toNat = 0 then none else some 0x12))
        match t.loadOn .hold with
        | some m => if m.ended then t.holdEnd x.region 0 0 else t
        | none => t
    else s.packet p 7 count data (fun t l =>
      if (data.headD 0).toNat = l.frames then (t, { l with ended := true }, none) else (t, l, some 0x12)))

/-! ## Staging and firmware complete -/

/-- SHADOW_VERIFIED (R232, R233, R238): the shadow of region `r` holds the design of the load just ended. -/
def execShadowVerified (r : Fin 32) (s : State) : Host.Outcome State Fault Refusal :=
  .next (if s.halted then s
    else match s.boot.loads.find? (fun l => l.kind == 2 && l.path != .hold && l.region == r.val && l.verify) with
      | none => s
      | some l =>
        match l.hdr with
        | none => s
        | some h =>
          let d := h.descs.headD []
          let t := ((s.dropLoad l.path).setShadow r 2).setFlag (R.CFG_RGN_CTRL r) F.CFG_RGN_CTRL_MODE (descInit d)
          let u := t.when (descGen d != 0) (fun t => t.setFld (R.CFG_RGN_GEN r) F.CFG_RGN_GEN_SHD_GEN (descGen d))
          let v := (u.setRg r { u.rg r with shd := some (l.record h) }).setFld (R.SCR_RGN_MAP r) F.SCR_RGN_MAP_SHD_MAP l.mapCode
          (v.stageEnd l.path r 0 0).pulse 19)

/-- The characters of "ATTEST" and of "EF9812 AK" (R574). -/
def attestData : List Byte := [0x41, 0x54, 0x54, 0x45, 0x53, 0x54]
def attestCustom : List Byte := [0x45, 0x46, 0x39, 0x38, 0x31, 0x32, 0x20, 0x41, 0x4B]

/-- The highest protocol version that firmware supports, as MBX_VER shows it (R520). -/
def fwVersion : Word := 0x0302

/-- Firmware starts (R518, R520, R574): its payload stands at scratchpad offset 0. -/
def State.firmwareStart (s : State) (l : Load) (h : Header) : State :=
  let t := ((s.dropLoad l.path).fallbackNotice l).padWriteBytes true 0 l.buf
  let u := t.setBoot { t.boot with fw := true, fwVer := h.ver, fwDig := h.conDig }
  let key := Config.kmac (BitVec.ofNat 256 u.fuses.dus) attestData attestCustom
  let v := ({ u with sec := { u.sec with attest := some key } }).setReg R.MBX_VER fwVersion
  (v.busWrite 0x68 R.CLK_TREF_CTRL ((v.reg R.CLK_TREF_CTRL).fput F.CLK_TREF_CTRL_TPLL_EN 1)).tryLoad

/-- FIRMWARE_VERIFIED (R520): every block of a firmware container has passed. -/
def execFirmwareVerified (p : LoadPath) (s : State) : Host.Outcome State Fault Refusal :=
  .next (if s.halted then s
    else match s.loadOn p with
      | none => s
      | some l =>
        match l.hdr with
        | none => s
        | some h => if l.kind = 3 && h.blocks ≤ l.blk then s.firmwareStart l h else s)

end Sys2Proof.Machine
end

