-- ==== Sys2Proof/Machine/Jtag.lean ====
section
/-! DEFINITION. Jtag.lean: the test access port: instructions, boundary scan, configuration load, debug master, run control
and scan (19_self_test_and_debug.md, R365-R367). -/

namespace Sys2Proof.Machine

def State.setTap (s : State) (x : Tap) : State := { s with tap := x }

/-! ## Instructions (R616-R618) -/

/-- IDCODE (R4). -/
def State.idcode (s : State) : Nat := s.board.rev % 16 * 2 ^ 28 + 0xE981 * 2 ^ 12 + 0x6E5

/-- What Capture-IR loads (R616). -/
def State.captureIr (s : State) : Nat :=
  1 + 4 * b2n s.dbgOpen + 8 * b2n s.halted + 16 * b2n (s.flag R.DBG_STAT F.DBG_STAT_SCAN)

/-- The end of a boundary-scan instruction for one lane (R367): it resumes from step 3 of R344 with LOL at 1, so that
an initial adaptation follows (step 5). -/
def State.laneResume (s : State) (n : Nat) : State :=
  if !s.operates n then s
  else
    let st := R.LN_STAT n
    let t := ((s.setFlag st F.LN_STAT_CHANGING true).setLane n { s.lane n with relock := false, adapt := false, due := true }).lolRise n 1
    (t.setFlag st F.LN_STAT_CHANGING false).lnEvent n 8 0 0

/-- Update-IR: an instruction takes effect (R616, R620); what Capture-IR loaded has gone out. -/
def State.loadIr (s : State) (ir : Nat) : State :=
  let t := { s with out := leBytes 1 s.captureIr, tap := { s.tap with ir := ir } }
  if s.bscan && !t.bscan then (t.forEach (List.range 144) (fun t n => t.laneResume n)).skmThaw else t

/-- The TAP is out of reset: the device is not held by power-on reset or PORST_N (R616, R623). -/
def State.tapLive (s : State) : Bool := !s.board.por && s.board.porstN

/-- Load an instruction. -/
def State.tapLoad (s : State) (ir : Nat) : State := if s.tapLive then s.loadIr ir else s

/-- Load a locked instruction (R618): with debug closed it acts as BYPASS, sets LOCKED_IR and logs code 0x83. -/
def State.tapLocked (s : State) (ir : Nat) (f : State → State) : State :=
  if !s.tapLive then s
  else if s.dbgOpen then f (s.loadIr ir)
  else ((s.loadIr 0xFF).dbgEvent F.DBG_STAT_LOCKED_IR).dbgRecord 0x83 ir

/-- What boundary cell `i` captures (R619, R659): what the device drives, and the levels of the pins that it holds; any other pin has
a level that the board gives, a free value. -/
def State.capture (s : State) (i : Nat) : Bool :=
  if i = 1 && s.cfgDoneLow then false
  else if i = 2 && s.phase == 6 then false
  else if i = 3 then s.board.startN
  else if i = 6 || i = 11 then true
  else if i = 7 && s.asserted 1 then false
  else if 16 ≤ i && i < 20 then s.ppsOutPin (i - 16)
  else if 36 ≤ i && i < 52 then s.timeEvtPin (i - 36)
  else if 628 ≤ i && i % 3 = 2 then (s.ioHeld ((i - 629) / 3)).1
  else if 628 ≤ i && i % 3 = 0 then (s.ioHeld ((i - 630) / 3)).2
  else (Config.freeWord (s.draws + i)).getLsbD 0

/-- The boundary register after Capture-DR. -/
def State.captureCells (s : State) : Nat := (List.range 3508).foldr (fun i n => b2n (s.capture i) + 2 * n) 0

/-- An instruction that selects the boundary register; `cells` are the values shifted into it and updated, if any (R619): what
Capture-DR loaded goes out. -/
def State.tapBoundary (s : State) (ir : Nat) (cells : Option (BitVec 3508)) : State :=
  let t := s.tapLoad ir
  match cells with
  | some c => t.when s.tapLive (fun t =>
      { t with out := t.out ++ leBytes 439 t.captureCells, draws := t.draws + 3508, tap := { t.tap with cells := c } })
  | none => t

/-- TAP_RESET (R616). -/
def execTapReset (s : State) : Host.Outcome State Fault Refusal :=
  .next ((s.tapLoad 0x02).when s.tapLive (fun t => { t with out := s.out }))

/-- EXTEST (R366, R620). -/
def execExtest (cells : Option (BitVec 3508)) (s : State) : Host.Outcome State Fault Refusal :=
  .next (s.tapBoundary 0x00 cells)

/-- SAMPLE_PRELOAD. -/
def execSamplePreload (cells : Option (BitVec 3508)) (s : State) : Host.Outcome State Fault Refusal :=
  .next (s.tapBoundary 0x01 cells)

/-- IDCODE (R4, R617): the identification register follows in `out`. -/
def execIdcode (s : State) : Host.Outcome State Fault Refusal :=
  .next ((s.tapLoad 0x02).when s.tapLive (fun t => { t with out := t.out ++ leBytes 4 s.idcode }))

/-- HIGHZ. -/
def execHighz (s : State) : Host.Outcome State Fault Refusal := .next (s.tapLoad 0x03)

/-- CLAMP. -/
def execClamp (s : State) : Host.Outcome State Fault Refusal := .next (s.tapLoad 0x04)

/-- EXTEST_PULSE. -/
def execExtestPulse (cells : Option (BitVec 3508)) (s : State) : Host.Outcome State Fault Refusal :=
  .next (s.tapBoundary 0x05 cells)

/-- EXTEST_TRAIN. -/
def execExtestTrain (cells : Option (BitVec 3508)) (s : State) : Host.Outcome State Fault Refusal :=
  .next (s.tapBoundary 0x06 cells)

/-- BYPASS. -/
def execBypass (s : State) : Host.Outcome State Fault Refusal := .next (s.tapLoad 0xFF)

/-- MBX_ACCESS (R534). -/
def execMbxAccess (s : State) : Host.Outcome State Fault Refusal := .next (s.tapLoad 0x10)

/-! ## Configuration load (R199, R621) -/

/-- CFG_LOAD. -/
def execCfgLoad (s : State) : Host.Outcome State Fault Refusal := .next (s.tapLoad 0x11)

/-- The kind of container that CFG_LOAD carries now: firmware while the boot ROM waits for one, else the full bitstream in the
LOAD phase. -/
def State.cfgLoadKind (s : State) : Option Nat :=
  if s.boot.inReset || s.mode != 4 || s.dbg.scanning || (s.phase == 6 && 2 ≤ s.lc) then none
  else if !s.boot.fw then some 3
  else if s.phase = 2 then some 1
  else none

/-- CFG_LOAD_APPEND (R621): Capture-DR has loaded CFG_BOOT_STAT. -/
def execCfgLoadAppend (v : BitVec 32) (s : State) : Host.Outcome State Fault Refusal :=
  .next (if s.tap.ir != 0x11 then s
    else match s.cfgLoadKind with
      | none => s
      | some k =>
        let t := { s with out := leBytes 4 (s.csrPeek R.CFG_BOOT_STAT).toNat }
        let l := match s.loadOn .jtag with
          | some l => if l.kind = k then l else Load.start .jtag k 0
          | none => Load.start .jtag k 0
        t.putLoad { l with bytes := l.bytes ++ leBytes 4 v.toNat })

/-! ## The debug master (R624-R626) -/

/-- What Capture-DR loads into the debug access register, 84 bits. -/
def State.captureDbg (s : State) : List Byte :=
  leBytes 11 (s.tap.data.toNat + 2 ^ 32 * (s.tap.status % 16) + 2 ^ 36 * b2n s.tap.busy.isSome)

/-- DBG_ACCESS. -/
def execDbgAccess (s : State) : Host.Outcome State Fault Refusal := .next (s.tapLocked 0x20 id)

/-- An access of the debug master: 4 bytes, aligned, on VN3 for CSR addresses and on VN0 otherwise (R624). -/
def State.dbgIssue (s : State) (write : Bool) (addr : Nat) (v : Word) : State :=
  let t := { s with out := s.captureDbg }
  if s.tap.ir != 0x20 || !s.dbgOpen || s.boot.inReset then s
  else if s.tap.busy.isSome then t.dbgEvent F.DBG_STAT_OVERRUN
  else
    let a := addr / 4 * 4
    let vn := if (csrOff a).isSome then 3 else 0
    let u := t.setTap { t.tap with busy := some (b2n write) }
    u.issue 0x6B (if write then cmdWr else cmdRd) vn a 3 (leBytes 4 v.toNat) (b2n write) (u.nocDest 0x6B a 3)

/-- DBG_ACCESS_READ. -/
def execDbgAccessRead (addr : BitVec 48) (s : State) : Host.Outcome State Fault Refusal := .next (s.dbgIssue false addr.toNat 0)

/-- DBG_ACCESS_WRITE. -/
def execDbgAccessWrite (addr : BitVec 48) (v : BitVec 32) (s : State) : Host.Outcome State Fault Refusal :=
  .next (s.dbgIssue true addr.toNat v)

/-- DEBUG_ACCESS_COMPLETE (R625): the response has reached the debug master. -/
def execDebugAccessComplete (s : State) : Host.Outcome State Fault Refusal :=
  .next (match s.tap.busy with
    | none => s
    | some n =>
      match s.noc.done.find? (fun c => c.ni == 0x6B && c.ltag == n) with
      | none => s
      | some c =>
        let t := (s.setNoc { s.noc with done := s.noc.done.erase c }).setTap { s.tap with busy := none }
        if n = 0 then t.setTap { t.tap with data := BitVec.ofNat 32 (leNat (c.data.take 4)), status := c.status } else t)

/-! ## Run control (R627) -/

/-- The word of DBG_RC that acts as a RUN_CTRL register does: HALT in [0], RESUME in [1], STEP in [2] (R627). -/
def rcWord (b : BitVec 8) : Word :=
  ((((0 : Word).fput F.DBG_RC_HALT (b.toNat % 2)).fput F.DBG_RC_RESUME (b.toNat / 2 % 2)).fput F.DBG_RC_STEP (b.toNat / 4 % 2))

/-- RUN_CTRL (R627): Capture-DR has loaded HALTED, HALT_PEND and LOCK_BROKEN; `v` is what Update-DR gives the register, if anything,
and acts as a write of DBG_RC with no access of the debug master. -/
def execRunCtrl (v : Option (BitVec 8)) (s : State) : Host.Outcome State Fault Refusal :=
  .next (s.tapLocked 0x21 (fun t =>
    let d := b2n s.halted + 2 * b2n (s.flag R.DBG_STAT F.DBG_STAT_HALT_PEND) + 4 * b2n (s.flag R.DBG_STAT F.DBG_STAT_LOCK_BROKEN)
    let u := { t with out := t.out ++ leBytes 1 d }
    match v with
    | some b => u.when (!u.boot.inReset) (fun u => u.rcAct (rcWord b))
    | none => u))

/-! ## Scan (R622, R623) -/

/-- The clearing of R622. -/
def State.scanClear (s : State) : State :=
  let t := (s.setFlag R.SEC_STAT F.SEC_STAT_BK_OFF true).closeSessions.resetColumn.skmStopAll
  let u := { t with boot := { t.boot with loads := [], hold := none, clearing := false }
                    gate := { t.gate with reqs := [] }
                    sec := { t.sec with engine := [] }
                    dbg := { t.dbg with scanning := true } }
  let v := u.startWipe.padClear.clearPlanes.scrubStop
  { v with fab := { v.fab with words := [], zero := List.range 32 } }

/-- SCAN_ENTRY. -/
def execScanEntry (s : State) : Host.Outcome State Fault Refusal :=
  .next (s.tapLocked 0x30 (fun t => if t.dbg.scanning || t.boot.inReset then t else t.scanClear))

/-- SCAN_STATE_REACHED: every step of the clearing is done. -/
def execScanStateReached (s : State) : Host.Outcome State Fault Refusal :=
  .next (if s.dbg.scanning && !s.sec.wiping then s.setFlag R.DBG_STAT F.DBG_STAT_SCAN true else s)

/-- SCAN_DATA. -/
def execScanData (s : State) : Host.Outcome State Fault Refusal := .next (s.tapLocked 0x31 id)

end Sys2Proof.Machine
end

