-- ==== Sys2Proof/Machine/Fw.lean ====
section
/-! DEFINITION. Fw.lean: what firmware does with requests: taking and checking them, sessions, and the accesses that its commands
are made of (16_management_mailboxes.md, R517-R520, R540-R549; 17_security_and_lifecycle.md, R569-R573). The layouts of
payloads that R547 leaves to the order of the Action are those of notes/assumptions/22.md and 44.md. -/

namespace Sys2Proof.Machine

/-! ## The catalogue (R547) -/

/-- A row of the catalogue: code; the rank it needs (0 none, 1 OBSERVE, 2 OPERATE, 3 CONFIGURE, 4 PROVISION); the version it is
defined since; the payload bytes it needs. -/
structure CmdRow where
  code : Nat
  rank : Nat
  since : Nat
  need : Nat
  deriving DecidableEq, Repr

/-- Families 0x00xx to 0x02xx. -/
def catalogueA : List CmdRow :=
  [⟨0x0001, 0, 0x100, 0⟩, ⟨0x0002, 0, 0x100, 40⟩, ⟨0x0003, 0, 0x100, 32⟩, ⟨0x0004, 1, 0x100, 0⟩, ⟨0x0005, 1, 0x100, 0⟩,
   ⟨0x0100, 0, 0x100, 0⟩, ⟨0x0101, 1, 0x300, 36⟩, ⟨0x0102, 0, 0x100, 0⟩,
   ⟨0x0200, 3, 0x100, 12⟩, ⟨0x0201, 3, 0x100, 0⟩, ⟨0x0202, 3, 0x100, 0⟩, ⟨0x0210, 3, 0x100, 8⟩, ⟨0x0211, 3, 0x100, 60⟩,
   ⟨0x0212, 2, 0x100, 4⟩, ⟨0x0213, 2, 0x100, 4⟩, ⟨0x0214, 1, 0x100, 4⟩, ⟨0x0215, 3, 0x100, 8⟩, ⟨0x0220, 3, 0x100, 12⟩,
   ⟨0x0221, 4, 0x100, 12⟩, ⟨0x0222, 4, 0x100, 4⟩, ⟨0x0230, 3, 0x100, 0⟩]

/-- Families 0x03xx to 0x05xx. -/
def catalogueB : List CmdRow :=
  [⟨0x0300, 1, 0x100, 8⟩, ⟨0x0301, 3, 0x100, 8⟩, ⟨0x0302, 3, 0x102, 12⟩,
   ⟨0x0400, 1, 0x101, 4⟩, ⟨0x0401, 3, 0x101, 20⟩, ⟨0x0402, 2, 0x101, 12⟩, ⟨0x0403, 3, 0x101, 28⟩,
   ⟨0x0500, 1, 0x102, 4⟩, ⟨0x0501, 3, 0x102, 4⟩, ⟨0x0502, 2, 0x102, 4⟩, ⟨0x0510, 1, 0x102, 4⟩, ⟨0x0511, 2, 0x102, 4⟩,
   ⟨0x0512, 2, 0x102, 8⟩, ⟨0x0513, 3, 0x102, 12⟩]

/-- Families 0x06xx to 0x08xx. -/
def catalogueC : List CmdRow :=
  [⟨0x0600, 1, 0x100, 4⟩, ⟨0x0601, 3, 0x100, 4⟩, ⟨0x0602, 3, 0x100, 8⟩, ⟨0x0603, 3, 0x201, 12⟩,
   ⟨0x0700, 2, 0x100, 4⟩, ⟨0x0701, 1, 0x100, 4⟩, ⟨0x0702, 2, 0x100, 8⟩, ⟨0x0703, 3, 0x100, 12⟩, ⟨0x0704, 2, 0x302, 12⟩,
   ⟨0x0800, 1, 0x100, 0⟩, ⟨0x0801, 4, 0x100, 4⟩, ⟨0x0802, 4, 0x100, 4⟩, ⟨0x0803, 4, 0x100, 4⟩, ⟨0x0804, 4, 0x200, 0⟩]

/-- The row of a command. -/
def cmdRow (code : Nat) : Option CmdRow := (catalogueA ++ catalogueB ++ catalogueC).find? (fun r => r.code == code)

/-- The highest minor supported of a major version: 1.0 to 1.2, 2.0 to 2.1, 3.0 to 3.2. -/
def topMinor : Nat → Option Nat
  | 1 => some 2
  | 2 => some 1
  | 3 => some 2
  | _ => none

/-- The version of R544: none where no version of the major is supported. -/
def versionFor (vmaj vmin : Nat) : Option Nat := (topMinor vmaj).map (fun n => 256 * vmaj + min vmin n)

/-! ## Arguments out of range (R542, R669) -/

/-- Check one argument: `bad` gives its offset. -/
def argIf (bad : Bool) (off : Nat) : Option Nat := if bad then some off else none

/-- The first argument out of range. -/
def firstBad (l : List (Option Nat)) : Option Nat := l.findSome? id

/-- The bytes that a register address takes, and the address (R547, version 2.0). -/
def regAddr (ver : Nat) (q : List Byte) : Nat × Nat :=
  if ver < 0x200 then (4, 0x030000000000 + msgWord q 0) else (8, msgWord q 0 + 2 ^ 32 * msgWord q 1)

/-- The argument of a request that is out of range, as its byte offset in the payload. -/
def badArg (ver : Nat) (q : List Byte) : Option Nat :=
  let w := msgWord q
  let a := regAddr ver q
  match msgCmd q with
  | 0x0002 => firstBad [argIf (w 0 % 4 == 3) 0, argIf (3600 < w 1) 4]
  | 0x0200 => firstBad [argIf (w 0 != 1 && w 0 != 2) 0, argIf (w 0 == 2 && 31 < w 1) 4]
  | 0x0210 => firstBad [argIf (125 < w 0) 0, argIf (31 < w 1) 4]
  | 0x0211 => argIf (31 < w 0) 0
  | 0x0213 => firstBad [argIf (1 < w 0) 0, argIf (w 0 == 1 && 31 < w 1) 4]
  | 0x0214 => argIf (31 < w 0) 0
  | 0x0215 => firstBad [argIf (!farValid (w 0 % 2 ^ 31 + 2 ^ 31)) 0, argIf (w 1 == 0 || 15 < w 1) 4]
  | 0x0220 => firstBad [argIf (1 < w 0) 0, argIf (4064 < w 2) 8]
  | 0x0221 => argIf (1 < w 0) 0
  | 0x0222 => argIf (126 < w 0) 0
  | 0x0300 => firstBad [argIf (a.2 % 4 != 0) 0, argIf (2 ^ 48 ≤ a.2) 4, argIf (leAt (msgPayload q) a.1 4 == 0 || 255 < leAt (msgPayload q) a.1 4) a.1]
  | 0x0301 => firstBad [argIf (a.2 % 4 != 0) 0, argIf (2 ^ 48 ≤ a.2) 4, argIf (leAt (msgPayload q) a.1 4 == 0 || 255 < leAt (msgPayload q) a.1 4) a.1]
  | 0x0302 => firstBad [argIf (a.2 % 4 != 0) 0, argIf (2 ^ 48 ≤ a.2) 4]
  | 0x0400 => argIf (31 < w 0) 0
  | 0x0401 => firstBad [argIf (31 < w 0) 0, argIf (w 1 != 2 && w 1 != 4 && w 1 != 8) 4]
  | 0x0402 => argIf (31 < w 0) 0
  | 0x0403 => argIf (63 < w 0) 0
  | 0x0500 => argIf (35 < w 0) 0
  | 0x0501 => firstBad (argIf (35 < w 0) 0 :: (List.range ((msgLen q - 4) / 8)).map (fun i =>
      let off := w (2 * i + 1)
      argIf (0xA000 ≤ off || (stgMask (R.LQ_CTRL (w 0) + off) == 0)) (4 + 8 * i)))
  | 0x0502 => firstBad [argIf (143 < w 0) 0, argIf (340 < (msgLen q - 4) / 4) 4]
  | 0x0510 => argIf (15 < w 0) 0
  | 0x0511 => argIf (15 < w 0) 0
  | 0x0512 => firstBad [argIf (15 < w 0) 0, argIf (1 < w 1) 4]
  | 0x0513 => argIf (15 < w 0) 0
  | 0x0600 => argIf (7 < w 0) 0
  | 0x0601 => argIf (7 < w 0) 0
  | 0x0603 => firstBad [argIf (7 < w 0) 0, argIf (63 < w 1) 4]
  | 0x0700 => argIf (w 0 % 256 == 0 || (if ver < 0x301 then 64 else 255) < w 0 % 256) 0
  | 0x0702 => argIf (w 0 % 4 == 3 || w 0 / 256 % 256 == 0) 0
  | 0x0703 => firstBad [argIf (1 < w 0 % 16) 0, argIf (w 0 % 16 == 1 && 229375 < w 1) 4,
      argIf (w 0 % 16 == 1 && (71 < w 2 % 128 || (w 2 / 2 ^ 16 % 2 == 1 && 71 < w 2 / 256 % 128))) 8]
  | 0x0704 => firstBad [argIf (229375 < w 0) 0, argIf (w 1 == 0 || 229376 < w 0 + w 1) 4, argIf (1 < w 2) 8]
  | 0x0801 => argIf (3 < w 0) 0
  | 0x0802 =>
    let slots := [4, 8, 2, 1, 1].getD (w 0 % 16) 0
    argIf (slots ≤ w 0 / 256 % 16) 0
  | 0x0803 =>
    let slots := [4, 8, 2].getD (w 0 % 16) 0
    argIf (slots ≤ w 0 / 256 % 16) 0
  | _ => none

/-- The payload bytes that a request needs at its version: a register address has 8 bytes from 2.0 on, LOAD_DATA an offset from 3.0
on; lists are as long as their counts say; FIRE has a mask where it uses one; a policy word takes one word
(notes/assumptions/44.md). -/
def needBytes (ver : Nat) (r : CmdRow) (q : List Byte) : Nat :=
  let a := regAddr ver q
  match r.code with
  | 0x0201 => if ver < 0x300 then 0 else 8
  | 0x0212 => if Word.fget (BitVec.ofNat 32 (msgWord q 0)) F.CFG_FIRE_USE_MASK = 1 then 8 else 4
  | 0x0213 => if msgWord q 0 = 0 then 8 else if msgWord q 0 != 1 then 4 else if ver < 0x200 then 12 else 16
  | 0x0222 => 4 + 32 * min 127 (msgWord q 0)
  | 0x0300 => a.1 + 4
  | 0x0301 => a.1 + 4 + 4 * min 256 (leAt (msgPayload q) a.1 4)
  | 0x0302 => a.1 + 8
  | 0x0802 => if msgWord q 0 % 16 = 4 then 8 else 36
  | _ => r.need

/-! ## Sessions (R543, R545, R569-R573) -/

/-- The session of a handle. -/
def State.session (s : State) (h : Nat) : Option Session := s.fw.sessions.find? (fun x => x.handle == h)

/-- Remove a session. -/
def State.dropSession (s : State) (h : Nat) : State :=
  s.setFw { s.fw with sessions := s.fw.sessions.filter (fun x => x.handle != h) }

/-- The rank that a request needs: LOG_COUNTERS with CLEAR needs OPERATE (R606). -/
def rankOf (r : CmdRow) (q : List Byte) : Nat := if r.code = 0x0701 && msgWord q 0 % 2 = 1 then 2 else r.rank

/-- Checks 4 to 6 of R669 at a version, with the rank that the request's session gives: the failure as code, detail and version
of the response, or the version of processing. -/
def checkCommand (ver rank : Nat) (q : List Byte) : Except (Nat × Nat × Nat) Nat :=
  match cmdRow (msgCmd q) with
  | none => .error (1, 0, ver)
  | some r =>
    if ver < r.since then .error (1, 0, ver)
    else if rank < rankOf r q then .error (5, 0, ver)
    else if msgLen q < needBytes ver r q then .error (3, 0, ver)
    else match badArg ver q with
      | some off => .error (7, off, ver)
      | none => .ok ver

/-- The checks of R669. The handle of a pending session is good for AUTH_RESPONSE alone (R571). -/
def State.checkRequest (s : State) (m : Nat) (q : List Byte) : Except (Nat × Nat × Nat) Nat :=
  match versionFor (msgMaj q) (msgMin q) with
  | none => .error (2, 0, 0x302)
  | some v =>
    if msgSession q = 0 then checkCommand v 0 q
    else match s.session (msgSession q) with
      | none => .error (4, 0, v)
      | some x =>
        if x.mbx != m || !(x.isOpen || msgCmd q == 0x0003) then .error (4, 0, v)
        else if msgMaj q != x.vmaj then .error (2, 0, 0x302)
        else checkCommand (256 * x.vmaj + x.vmin) (if x.isOpen then x.priv + 1 else 0) q

/-! ## Taking a request (R519, R540) -/

/-- Firmware, or the boot ROM, runs commands. -/
def State.coreRuns (s : State) : Bool := !s.halted && !s.boot.inReset && !s.dbg.scanning

/-- The boot ROM takes a request (R519): all but GET_IDENTITY and GET_BOOT_STATUS are answered NO_FIRMWARE. -/
def State.romTake (s : State) (m : Nat) (q : List Byte) : State :=
  if msgCmd q = 0x0100 || msgCmd q = 0x0102 then s else s.mbAnswer m 9 0 []

/-- MBX_REQUEST_TAKE (R540, R669). -/
def execMbxRequestTake (m : Fin 7) (s : State) : Host.Outcome State Fault Refusal :=
  let x := s.mb m
  .next (match x.reqs with
    | [] => s
    | q :: rest =>
      if !s.coreRuns || x.cur.isSome || 2 ≤ x.rsps.length || !msgFormed q then s
      else
        let take := fun (v : Nat) => s.setMb m { x with reqs := rest, cur := some q, ver := v, step := 0, got := [] }
        if !s.boot.fw then (take 0x100).romTake m q
        else match s.checkRequest m q with
          | .ok v => take v
          | .error e => (take e.2.2).mbAnswer m e.1 e.2.1 [])

/-- The parts of the device that a command needs for itself. -/
inductive Shared where
  | region (r : Nat)
  | flash
  | quad (q : Nat)
  | lane (n : Nat)
  | engine (e : Nat)
  | domain (d : Nat)
  | cone (n : Nat)
  | channel (c : Nat)
  | march
  deriving DecidableEq, Repr

/-- What a request needs for itself (R541). -/
def sharedOf (q : List Byte) : List Shared :=
  let w := msgWord q
  match msgCmd q with
  | 0x0200 => if w 0 = 2 then [.region (w 1)] else []
  | 0x0210 => [.flash, .region (w 1)]
  | 0x0211 => [.region (w 0)]
  | 0x0212 =>
    let v := BitVec.ofNat 32 (w 0)
    if Word.fget v F.CFG_FIRE_USE_MASK = 1 then ((List.range 32).filter (fun r => (w 1).testBit r)).map Shared.region
    else [.region (Word.fget v F.CFG_FIRE_REGION)]
  | 0x0213 => if w 0 = 0 then [.region (Word.fget (BitVec.ofNat 32 (w 1)) F.CFG_HOLD_REGION)] else [.region (w 1)]
  | 0x0220 => [.flash]
  | 0x0221 => [.flash]
  | 0x0222 => [.flash]
  | 0x0400 => [.domain (w 0)]
  | 0x0401 => [.domain (w 0)]
  | 0x0402 => [.domain (w 0)]
  | 0x0403 => [.cone (w 0)]
  | 0x0501 => [.quad (w 0)]
  | 0x0502 => [.lane (w 0), .quad (w 0 / 4)]
  | 0x0511 => [.engine (w 0)]
  | 0x0512 => [.engine (w 0)]
  | 0x0513 => [.engine (w 0)]
  | 0x0601 => [.channel (w 0)]
  | 0x0602 => (List.range 8).map Shared.channel
  | 0x0603 => [.channel (w 0)]
  | 0x0704 => [.march]
  | _ => []

/-- A command of another mailbox that is still in progress holds what a request needs (R541). -/
def State.fwHeld (s : State) (m : Nat) (q : List Byte) : Bool :=
  (List.range 7).any (fun k => k != m && 0 < (s.mb k).step &&
    (match (s.mb k).cur with
     | some p => (sharedOf p).any (fun x => (sharedOf q).contains x)
     | none => false))

/-- Firmware carries out the request in progress of mailbox `m` where it is the command `code`; BUSY before its first step where
another command holds what it needs (R541). -/
def State.fwCmd (s : State) (m code : Nat) (f : State → List Byte → State) : State :=
  if !s.coreRuns then s
  else match (s.mb m).cur with
    | none => s
    | some q => if msgCmd q != code then s else if (s.mb m).step = 0 && s.fwHeld m q then s.mbAnswer m 6 0 [] else f s q

/-- Answer OK with a payload. -/
def State.fwOk (s : State) (m : Nat) (payload : List Byte) : State := s.mbAnswer m 0 0 payload

/-- Firmware has done one more step of the request, and gathered bytes for the response. -/
def State.fwStep (s : State) (m : Nat) (bytes : List Byte) : State :=
  let x := s.mb m
  s.setMb m { x with step := x.step + 1, got := x.got ++ bytes }

/-- Firmware goes on with the request at a step. -/
def State.fwGoto (s : State) (m step : Nat) : State := s.setMb m { s.mb m with step := step }

/-- A word as payload bytes. -/
def pay (w : Word) : List Byte := leBytes 4 w.toNat

/-! ## Accesses of firmware (R548) -/

/-- An access of firmware as endpoint 0x68: the state, and the word or the failing STATUS once it is there. Registers and the
scratchpad answer at once; every other address is reached over the network, under a tag of the mailbox, and the response
is waited for. -/
def State.fwAccess (s : State) (m : Nat) (write : Bool) (addr : Nat) (v : Word) : State × Option (Except Nat Word) :=
  let far := fun (_ : Unit) =>
    let tag := 0xF0 + m
    match s.noc.done.find? (fun c => c.ni == 0x68 && c.ltag == tag) with
    | some c =>
      (s.setNoc { s.noc with done := s.noc.done.erase c },
        some (if c.status = 0 then .ok (BitVec.ofNat 32 (leNat (c.data.take 4))) else .error c.status))
    | none => (s.issue 0x68 (if write then cmdWr else cmdRd) 3 addr 3 (leBytes 4 v.toNat) tag (s.nocDest 0x68 addr 3), none)
  let near := s.niOn 0x68
  match csrOff addr with
  | some off =>
    if !near || csrDest off = .none || !s.reaches 0x68 off then far ()
    else if !s.csrAccepts 0x68 write off then (s.csrRefused 0x68 off, some (.error 2))
    else if write then (s.csrWrite 0x68 off v, some (.ok 0))
    else
      let t := s.csrRead 0x68 off
      (t, some (.ok (BitVec.ofNat 32 (leNat t.out))))
  | none =>
    if near && padBase ≤ addr && addr < padBase + 2 ^ 22 && s.niOn 0x6A then
      (if s.padBusy ((addr - padBase) / 8) then (s, none)
       else if write then (s.padWriteBytes false (addr - padBase) (leBytes 4 v.toNat), some (.ok 0))
       else
         let r := s.padReadBytes false (addr - padBase) 4
         (r.2.2, some (if r.2.1 then .error 6 else .ok (BitVec.ofNat 32 (leNat r.1)))))
    else far ()

/-- One step of what firmware does for a command on registers: write, read-modify-write of the bits outside `keep`, read into the
response, wait until all of some bits read 0 or until one reads 1, give up with BAD_STATE where one reads 1. -/
inductive FwOp where
  | wr (off : Nat) (v : Word)
  | rmw (off : Nat) (clear set_ : Word)
  | rd (off : Nat)
  | idle (off : Nat) (mask : Word)
  | until_ (off : Nat) (mask : Word)
  | unless_ (off : Nat) (mask : Word)
  deriving DecidableEq, Repr

/-- What an operation leads to: the step is done with bytes for the response, waits, or ends the command. -/
inductive FwRes where
  | done (bytes : List Byte)
  | wait
  | fail (code detail : Nat)
  deriving DecidableEq, Repr

/-- The outcome of a failed access (R542): STATUS and the index of the failing word. -/
def hwError (status index : Nat) : FwRes := .fail 0xA (status % 16 * 256 + index % 256)

/-- Perform one operation; `i` is its index. -/
def State.fwOp (s : State) (m i : Nat) (op : FwOp) : State × FwRes :=
  let rdOff := fun (off : Nat) (k : Word → State → State × FwRes) =>
    match s.fwAccess m false (csrBase + off) 0 with
    | (t, none) => (t, FwRes.wait)
    | (t, some (.error c)) => (t, hwError c i)
    | (t, some (.ok w)) => k w t
  let wrOff := fun (t : State) (off : Nat) (v : Word) =>
    match t.fwAccess m true (csrBase + off) v with
    | (u, none) => (u, FwRes.wait)
    | (u, some (.error c)) => (u, hwError c i)
    | (u, some (.ok _)) => (u, FwRes.done [])
  match op with
  | .wr off v => wrOff s off v
  | .rmw off clear set_ => rdOff off (fun w t => wrOff t off ((w &&& ~~~ clear) ||| set_))
  | .rd off => rdOff off (fun w t => (t, .done (pay w)))
  | .idle off mask => rdOff off (fun w t => (t, if w &&& mask = 0 then .done [] else .wait))
  | .until_ off mask => rdOff off (fun w t => (t, if w &&& mask = 0 then .wait else .done []))
  | .unless_ off mask => rdOff off (fun w t => (t, if w &&& mask = 0 then .done [] else .fail 8 0))

/-- Go on with a list of operations from the step that the request has reached; after the last, answer OK with what was read. -/
def State.fwRun (s : State) (m : Nat) : List FwOp → State
  | [] => s.fwOk m (s.mb m).got
  | op :: rest =>
    match s.fwOp m (s.mb m).step op with
    | (t, .done b) => (t.fwStep m b).fwRun m rest
    | (t, .wait) => t
    | (t, .fail c d) => t.mbAnswer m c d []

/-- Carry out a list of operations for the request of a mailbox. -/
def State.fwScript (s : State) (m : Nat) (ops : List FwOp) : State := s.fwRun m (ops.drop (s.mb m).step)

end Sys2Proof.Machine
end

