-- ==== Sys2Proof/Machine/FwSession.lean ====
section
/-! DEFINITION. FwSession.lean: the commands of families 0x00xx, 0x01xx and 0x08xx (17_security_and_lifecycle.md). -/

namespace Sys2Proof.Machine

/-! ## Versions and sessions (R569-R573, R578) -/

/-- GET_VERSIONS. -/
def execGetVersions (m : Fin 7) (s : State) : Host.Outcome State Fault Refusal :=
  .next (s.fwCmd m 0x0001 (fun t _ =>
    t.fwOk m (pay 3 ++ pay 0x00010002 ++ pay 0x00020001 ++ pay 0x00030002)))

/-- The limits of R570. -/
def State.mayOpen (s : State) (m mode slot priv : Nat) : Bool :=
  match mode with
  | 0 => s.fuses.skeyP.testBit slot && !s.fuses.srev.testBit slot && s.fuseGood (0x20 + slot) &&
      priv ≤ s.fuses.ceil / 4 ^ slot % 4 && !s.fw.locked.has m
  | 1 => m == 1 && s.fuses.pwdP.testBit 0 && s.fuseGood 0x40 && priv ≤ (if s.fuses.policy.testBit 16 then 1 else 0) &&
      !s.fw.locked.has m
  | 2 => s.lc == 0
  | _ => false

/-- A handle that is not zero and not in use, from a random word (R569). -/
def State.freshHandle (s : State) (v : Nat) : Nat :=
  ((List.range 18).map (fun i => (v + i) % 2 ^ 32)).find? (fun h => h != 0 && (s.session h).isNone) |>.getD 1

/-- OPEN_SESSION (R569-R571). -/
def State.openSession (s : State) (m : Nat) (q : List Byte) : State :=
  let w := msgWord q 0
  let mode := w % 4
  let slot := w / 256 % 8
  let priv := w / 2 ^ 16 % 4
  if !s.mayOpen m mode slot priv then s.mbAnswer m 5 0 []
  else if 16 ≤ s.fw.sessions.length then s.mbAnswer m 6 0 []
  else
    let h := s.freshHandle (Config.random s.sec.draws).toNat
    let nonce := digBytes (Config.random (s.sec.draws + 1))
    let v := (s.mb m).ver
    let ver := (versionFor (msgMaj q) (msgMin q)).getD v
    let idle := if msgWord q 1 = 0 then 300 else msgWord q 1
    let x : Session := ⟨h, m, ver / 256, ver % 256, mode, slot, priv, idle, sliceBytes (msgPayload q) 8 32, nonce, mode == 2⟩
    let t := { s with sec := { s.sec with draws := s.sec.draws + 2 }, fw := { s.fw with sessions := s.fw.sessions ++ [x] } }
    t.fwOk m (leBytes 4 h ++ (if mode = 2 then [] else nonce))

/-- OPEN_SESSION. -/
def execOpenSession (m : Fin 7) (s : State) : Host.Outcome State Fault Refusal :=
  .next (s.fwCmd m 0x0002 (fun t q => t.openSession m q))

/-- The bytes over which both proofs are made (R571). -/
def State.proofBytes (s : State) (x : Session) : List Byte :=
  leBytes 8 s.fuses.bind ++ leBytes 4 x.handle ++ leBytes 1 x.mbx ++ leBytes 1 x.mode ++ leBytes 1 x.slot ++
    leBytes 1 x.priv ++ leBytes 1 x.vmaj ++ leBytes 1 x.vmin ++ x.hostNonce ++ x.devNonce

/-- The key of a session (R571). -/
def State.sessionKey (s : State) (x : Session) : BitVec 256 :=
  BitVec.ofNat 256 (if x.mode = 0 then Tbl.get (fun _ => 0) s.fuses.skey x.slot else s.fuses.pwd)

/-- The characters of "EF9812 HOST" and "EF9812 DEV" (R571). -/
def hostTag : List Byte := [0x45, 0x46, 0x39, 0x38, 0x31, 0x32, 0x20, 0x48, 0x4F, 0x53, 0x54]
def devTag : List Byte := [0x45, 0x46, 0x39, 0x38, 0x31, 0x32, 0x20, 0x44, 0x45, 0x56]

/-- Consecutive failures on a mailbox. -/
def State.failsOf (s : State) (m : Nat) : Nat := Tbl.get (fun _ => 0) s.fw.fails m

/-- A record of a mailbox's sessions (R572): the lockout has a reporter of its own (notes/assumptions/23.md). -/
def State.sessionRecord (s : State) (m code slot : Nat) : State :=
  s.report (b2n (code == 0x62)) ⟨500 + m, 0, 0x17, code * 2 ^ 24 + slot % 256⟩

/-- An authentication fails (R572): the session is discarded; from the fourth failure in a row on, the mailbox is locked out. -/
def State.authFail (s : State) (x : Session) : State :=
  let n := s.failsOf x.mbx + 1
  let t := (s.dropSession x.handle).sessionRecord x.mbx 0x61 x.slot
  let u := t.setFw { t.fw with fails := Tbl.set (fun _ => 0) t.fw.fails x.mbx n }
  if n < 4 then u
  else (u.setFw { u.fw with locked := NSet.add u.fw.locked x.mbx }).sessionRecord x.mbx 0x62 x.slot

/-- The session opens (R571, R572). -/
def State.authPass (s : State) (x : Session) : State :=
  s.setFw { s.fw with sessions := s.fw.sessions.map (fun y => if y.handle = x.handle then { y with isOpen := true } else y)
                      fails := Tbl.set (fun _ => 0) s.fw.fails x.mbx 0 }

/-- AUTH_RESPONSE (R571, R572). A handle that names no pending session is answered NO_SESSION. -/
def State.authResponse (s : State) (m : Nat) (q : List Byte) : State :=
  match s.session (msgSession q) with
  | none => s.mbAnswer m 4 0 []
  | some x =>
    if x.isOpen then s.mbAnswer m 4 0 []
    else
      let k := s.sessionKey x
      if digBytes (Config.kmac k (s.proofBytes x) hostTag) = sliceBytes (msgPayload q) 0 32 then
        (s.authPass x).fwOk m (digBytes (Config.kmac k (s.proofBytes x) devTag) ++ leBytes 4 x.priv)
      else (s.authFail x).mbAnswer m 5 0 []

/-- AUTH_RESPONSE. -/
def execAuthResponse (m : Fin 7) (s : State) : Host.Outcome State Fault Refusal :=
  .next (s.fwCmd m 0x0003 (fun t q => t.authResponse m q))

/-- CLOSE_SESSION (R573). -/
def execCloseSession (m : Fin 7) (s : State) : Host.Outcome State Fault Refusal :=
  .next (s.fwCmd m 0x0004 (fun t q => (t.fwOk m []).dropSession (msgSession q)))

/-- KEEPALIVE (R547): the idle timer starts again; time is not held (notes/assumptions/12.md). -/
def execKeepalive (m : Fin 7) (s : State) : Host.Outcome State Fault Refusal :=
  .next (s.fwCmd m 0x0005 (fun t _ => t.fwOk m []))

/-- SESSION_AUTH_TIMEOUT (R572): a pending session has waited 10 s. -/
def execSessionAuthTimeout (handle : BitVec 32) (s : State) : Host.Outcome State Fault Refusal :=
  .next (if !s.coreRuns then s
    else match s.session handle.toNat with
      | none => s
      | some x => if x.isOpen then s else s.authFail x)

/-- SESSION_LOCKOUT_END (R572). -/
def execSessionLockoutEnd (m : Fin 7) (s : State) : Host.Outcome State Fault Refusal :=
  .next (if s.coreRuns then s.setFw { s.fw with locked := NSet.del s.fw.locked m } else s)

/-- SESSION_IDLE_TIMEOUT (R573). -/
def execSessionIdleTimeout (handle : BitVec 32) (s : State) : Host.Outcome State Fault Refusal :=
  .next (if !s.coreRuns then s
    else match s.session handle.toNat with
      | none => s
      | some x => if x.isOpen then s.dropSession x.handle else s)

/-! ## Identity, boot status, attestation (R575, R578) -/

/-- The design identity of the full bitstream, as its registers hold it. -/
def State.designId (s : State) : List Byte := pay (s.reg R.CFG_DESIGN_ID_LO) ++ pay (s.reg R.CFG_DESIGN_ID_HI)

/-- The version of the running firmware; 0 while none runs. -/
def State.fwVersionNow (s : State) : Nat := if s.boot.fw then s.boot.fwVer else 0

/-- GET_IDENTITY (R519, R578): the public key is absent when the boot ROM answers, or when no key pair is held. -/
def execGetIdentity (m : Fin 7) (s : State) : Host.Outcome State Fault Refusal :=
  .next (s.fwCmd m 0x0100 (fun t _ =>
    let key := match t.sec.attest with
      | some k => if t.boot.fw then sliceBytes (Config.mldsaPublic k) 0 1312 else []
      | none => []
    t.fwOk m (leBytes 4 t.idcode ++ leBytes 8 t.fuses.bind ++ leBytes 4 t.lc ++ leBytes 4 t.fwVersionNow ++ t.designId ++
      pay (t.reg R.CFG_DESIGN_VER) ++ key)))

/-- GET_BOOT_STATUS. -/
def execGetBootStatus (m : Fin 7) (s : State) : Host.Outcome State Fault Refusal :=
  .next (s.fwCmd m 0x0102 (fun t _ =>
    t.fwOk m ([R.CFG_BOOT_STAT, R.CFG_BOOT_ERR, R.CFG_DIR_SEQ, R.CFG_LOAD_TIME].flatMap (fun o => pay (t.csrPeek o)))))

/-- A region entry of a report (R575). -/
def State.attestRegion (s : State) (r : Nat) : List Byte :=
  let rec_ := match (s.rg r).act with | some x => some x | none => s.base
  let g := s.reg (R.CFG_RGN_GEN r)
  leBytes 1 r ++ leBytes 1 (s.shadow r) ++ leBytes 1 (16 * g.fget F.CFG_RGN_GEN_ACT_GEN + g.fget F.CFG_RGN_GEN_SHD_GEN) ++ [0] ++
    leBytes 4 ((rec_.map (fun x => x.ver)).getD 0) ++ leBytes 32 ((rec_.map (fun x => x.conDig)).getD 0)

/-- The report (R575). -/
def State.attestReport (s : State) (q : List Byte) : List Byte :=
  let p := msgPayload q
  let rs := (List.range 32).filter (fun r => (leAt p 32 4).testBit r && s.rgnDefined r)
  [0x45, 0x41, 0x54, 0x54] ++ leBytes 2 1 ++ leBytes 2 (144 + 40 * rs.length) ++ leBytes 8 s.fuses.bind ++
    leBytes 4 s.idcode ++ leBytes 1 s.lc ++ leBytes 1 (s.fuses.okeyP % 16 + 16 * (s.fuses.orev % 16)) ++
    leBytes 1 (b2n s.dbgOpen + 2 * b2n s.bkOff + 4 * (s.fuses.vrev % 4)) ++ [0] ++ leBytes 4 s.boot.fwVer ++
    leBytes 32 s.boot.fwDig ++ sliceBytes p 0 32 ++ leBytes 8 s.td0 ++ s.designId ++ pay (s.reg R.CFG_DESIGN_VER) ++
    leBytes 32 ((s.base.map (fun x => x.conDig)).getD 0) ++ rs.flatMap (fun r => s.attestRegion r)

/-- GET_ATTESTATION (R575). With no key pair held, as after a wipe, nothing can be signed: BAD_STATE. -/
def execGetAttestation (m : Fin 7) (s : State) : Host.Outcome State Fault Refusal :=
  .next (s.fwCmd m 0x0101 (fun t q =>
    match t.sec.attest with
    | none => t.mbAnswer m 8 0 []
    | some k => t.fwOk m (t.attestReport q ++ sliceBytes (Config.mldsaSign k (t.attestReport q)) 0 2420)))

/-! ## Life-cycle and fuses (R553, R554, R562, R563, R577, R578) -/

/-- LC_GET. -/
def execLcGet (m : Fin 7) (s : State) : Host.Outcome State Fault Refusal :=
  .next (s.fwCmd m 0x0800 (fun t _ =>
    t.fwOk m ([R.SEC_STAT, R.SEC_KEY_STAT, R.SEC_SKEY_STAT, R.SEC_TAMPER_POL].flatMap (fun o => pay (t.csrPeek o)) ++
      (List.range 32).flatMap (fun i => pay (t.csrPeek (R.SEC_OKEY_DIG (i / 8) (i % 8)))))))

/-- Fuses may be programmed now (R562). -/
def State.fusePower (s : State) : Bool := s.flag R.SYS_SUPPLY F.SYS_SUPPLY_FUSE

/-- The condition of R553 for leaving a life-cycle state. -/
def State.mayAdvance (s : State) : Bool :=
  let okey := fun n => s.fuses.okeyP.testBit n
  match s.lc with
  | 0 => (List.range 4).any okey
  | 1 => (List.range 4).any (fun n => okey n && !s.fuses.orev.testBit n) &&
      (List.range 8).any (fun n => s.fuses.skeyP.testBit n && !s.fuses.srev.testBit n && s.fuses.ceil / 4 ^ n % 4 == 3)
  | 2 => true
  | _ => false

/-- LC_ADVANCE (R553, R554): the response is sent first. -/
def execLcAdvance (m : Fin 7) (s : State) : Host.Outcome State Fault Refusal :=
  .next (s.fwCmd m 0x0801 (fun t q =>
    if t.sec.prog.isSome then t.mbAnswer m 6 0 []
    else if msgWord q 0 != t.lc + 1 || !t.mayAdvance || !t.fusePower then t.mbAnswer m 8 0 []
    else (t.fwOk m []).fuseStart ⟨0, 2 ^ t.lc, 0, none⟩))

/-- The field of a KEY_PROGRAM kind and slot. -/
def keyField (kind slot : Nat) : Nat :=
  match kind with
  | 0 => 0x10 + slot
  | 1 => 0x20 + slot
  | 2 => 0x30 + slot
  | 3 => 0x40
  | _ => 0x41

/-- The kinds that a life-cycle state lets be programmed (R552). -/
def State.kindAllowed (s : State) (kind : Nat) : Bool :=
  match s.lc with
  | 0 => kind ≤ 4
  | 1 => kind ≤ 4
  | 2 => kind == 0 || kind == 1 || kind == 4
  | _ => false

/-- A key slot is programmed. -/
def State.keyProgrammed (s : State) (kind slot : Nat) : Bool :=
  match kind with
  | 0 => s.fuses.okeyP.testBit slot
  | 1 => s.fuses.skeyP.testBit slot
  | 2 => s.fuses.bkP.testBit slot
  | 3 => s.fuses.pwdP.testBit 0
  | _ => false

/-- Firmware begins to program a field for a request, which is answered when the programming ends (R562). -/
def State.fwFuse (s : State) (m : Nat) (ok : Bool) (p : FuseProg) : State :=
  if 0 < (s.mb m).step then s
  else if s.sec.prog.isSome then s.mbAnswer m 6 0 []
  else if !ok || !s.fusePower then s.mbAnswer m 8 0 []
  else (s.fwStep m []).fuseStart p

/-- KEY_PROGRAM (R552, R562, R578). -/
def execKeyProgram (m : Fin 7) (s : State) : Host.Outcome State Fault Refusal :=
  .next (s.fwCmd m 0x0802 (fun t q =>
    let w := msgWord q 0
    let kind := w % 16
    let slot := w / 256 % 16
    t.fwFuse m (t.kindAllowed kind && !t.keyProgrammed kind slot)
      ⟨keyField kind slot, leAt (msgPayload q) 4 32, w / 2 ^ 16 % 4, some m⟩))

/-- KEY_REVOKE (R563, R578). -/
def execKeyRevoke (m : Fin 7) (s : State) : Host.Outcome State Fault Refusal :=
  .next (s.fwCmd m 0x0803 (fun t q =>
    let kind := msgWord q 0 % 16
    let slot := msgWord q 0 / 256 % 16
    let now := if kind = 0 then t.fuses.orev else if kind = 1 then t.fuses.srev else t.fuses.vrev
    let others := (List.range 4).any (fun n => n != slot && t.fuses.okeyP.testBit n && !t.fuses.orev.testBit n)
    t.fwFuse m (!now.testBit slot && !(kind == 0 && t.lc == 2 && t.fuses.okeyP.testBit slot && !others))
      ⟨0x50 + kind, 2 ^ slot, 0, some m⟩))

/-- DEBUG_UNLOCK (R577). -/
def execDebugUnlock (m : Fin 7) (s : State) : Host.Outcome State Fault Refusal :=
  .next (s.fwCmd m 0x0804 (fun t q =>
    if t.lc != 2 then t.fwOk m []
    else
      let u := (t.setFlag R.SEC_STAT F.SEC_STAT_BK_OFF true).startWipe
      let v := u.setFw { u.fw with sessions := u.fw.sessions.filter (fun x => x.handle == msgSession q) }
      (v.setFlag R.SEC_STAT F.SEC_STAT_DBG_OPEN true).fwOk m []))

end Sys2Proof.Machine
end

