-- ==== Sys2Proof/Machine/FwCmds.lean ====
section
/-! DEFINITION. FwCmds.lean: the commands of families 0x02xx to 0x07xx (R547-R549, R605, R606, R637, R638, and the procedure of
15_rld_training.md). The layouts of payloads that R547 leaves to the order of the Action are those of
notes/assumptions/22.md. -/

namespace Sys2Proof.Machine

/-- Word `i` of a request's payload. -/
def argW (q : List Byte) (i : Nat) : Word := BitVec.ofNat 32 (msgWord q i)

/-! ## Mailbox loads (R199, R223, R549) -/

/-- LOAD_BEGIN: kind, region, container length. -/
def State.loadBegin (s : State) (m : Nat) (q : List Byte) : State :=
  let r := msgWord q 1
  if msgWord q 0 = 1 then
    if s.phase != 2 || s.mode != 2 then s.mbAnswer m 8 0 []
    else if (s.loadOn .mailbox).isSome then s.mbAnswer m 6 0 []
    else
      let t := s.putLoad { Load.start .mailbox 1 0 with len := some (msgWord q 2) }
      (t.setFw { t.fw with loader := some m, result := none }).fwOk m []
  else if !s.user then s.mbAnswer m 8 0 []
  else if (s.loadOn .mailbox).isSome then s.mbAnswer m 6 0 []
  else
    let t := s.stageStart { Load.start .mailbox 2 r with len := some (msgWord q 2) } false
    if (t.loadOn .mailbox).isSome then (t.setFw { t.fw with loader := some m, result := none }).fwOk m []
    else (t.setFw { t.fw with result := s.fw.result }).mbAnswer m (0x100 + (s.stageRefusal r false 0 0).getD 0) 0xFFFF []

/-- LOAD_BEGIN. -/
def execLoadBegin (m : Fin 7) (s : State) : Host.Outcome State Fault Refusal :=
  .next (s.fwCmd m 0x0200 (fun t q => t.loadBegin m q))

/-- The result of a load that has ended, for its response (R199). -/
def State.loadResult (s : State) (m code block : Nat) : State :=
  if code = 0 then s.fwOk m [] else s.mbAnswer m (0x100 + code) block []

/-- LOAD_DATA: at 3.0 and later an offset of 8 bytes comes first. -/
def State.loadData (s : State) (m : Nat) (q : List Byte) : State :=
  let new := 0x300 ≤ (s.mb m).ver
  let off := leAt (msgPayload q) 0 8
  let data := if new then (msgPayload q).drop 8 else msgPayload q
  if s.fw.loader != some m then s.mbAnswer m 8 0 []
  else match s.loadOn .mailbox with
    | none => (match s.fw.result with
      | some x => s.loadResult m x.1 x.2
      | none => s.mbAnswer m 8 0 [])
    | some l =>
      if new && off < l.bytes.length then s.fwOk m []
      else if new && l.bytes.length < off then s.mbAnswer m 7 0 []
      else if l.len.getD 0 < l.bytes.length + data.length then s.mbAnswer m 7 (if new then 8 else 0) []
      else (s.putLoad { l with bytes := l.bytes ++ data }).fwOk m []

/-- LOAD_DATA. -/
def execLoadData (m : Fin 7) (s : State) : Host.Outcome State Fault Refusal :=
  .next (s.fwCmd m 0x0201 (fun t q => t.loadData m q))

/-- LOAD_END (R188): answered once the load has ended. -/
def execLoadEnd (m : Fin 7) (s : State) : Host.Outcome State Fault Refusal :=
  .next (s.fwCmd m 0x0202 (fun t _ =>
    if t.fw.loader != some m.val then t.mbAnswer m 8 0 []
    else match t.fw.result with
      | some x => State.loadResult (t.setFw { t.fw with loader := none, result := none }) m x.1 x.2
      | none => if (t.loadOn .mailbox).isSome then t else (t.setFw { t.fw with loader := none }).mbAnswer m 8 0 []))

/-- LOAD_DATA_TIMEOUT (R549): a load whose bytes have not all come has waited 10 s. -/
def execLoadDataTimeout (s : State) : Host.Outcome State Fault Refusal :=
  .next (if !s.coreRuns then s
    else match s.loadOn .mailbox with
      | none => s
      | some l => if l.bytes.length < l.len.getD 0 then s.loadFail l 0x12 (if l.hdr.isSome then l.blk else 0xFFFF) else s)

/-- A staging load from flash fails before it begins (R195, R226, R234). -/
def State.stageNone (s : State) (m region code : Nat) : State :=
  let t := s.when (s.rgnDefined region) (fun t => t.setFld (R.CFG_RGN_STAT region) F.CFG_RGN_STAT_LOAD_CODE code)
  (t.stageRecord 19 region code 0xFFFF).mbAnswer m (0x100 + code) 0xFFFF []

/-- STAGE_FLASH (R179, R222, R223): the number of a PARTIAL entry, and the region. -/
def State.stageFlash (s : State) (m : Nat) (q : List Byte) : State :=
  let r := msgWord q 1
  if 0 < (s.mb m).step then s
  else if s.fw.stager.isSome || (s.loadOn .flash).isSome then s.mbAnswer m 6 0 []
  else match s.stageRefusal r false 0 0 with
  | some c => s.stageNone m r c
  | none =>
    let t := s.readDirectory
    if !t.boot.flash0.fitted && !t.boot.flash1.fitted then t.stageNone m r 0x01
    else if t.dirBest.isEmpty then t.stageNone m r 0x02
    else match t.directory[msgWord q 0]? with
      | none => t.mbAnswer m 7 0 []
      | some e =>
        if e.kind != 2 then t.mbAnswer m 7 0 []
        else
          let u := (t.fwStep m []).setFw { t.fw with stager := some m }
          u.stageStart { Load.start .flash 2 r with dev := e.dev, addr := e.addr, len := some e.len, dirId := some e.id } false

/-- STAGE_FLASH. -/
def execStageFlash (m : Fin 7) (s : State) : Host.Outcome State Fault Refusal :=
  .next (s.fwCmd m 0x0210 (fun t q => t.stageFlash m q))

/-! ## Regions -/

/-- The binding registers of a region, in the order of their offsets. -/
def bindRegs (r : Nat) : List Nat :=
  [R.CFG_BIND_QUAD_LO r, R.CFG_BIND_QUAD_HI r, R.CFG_BIND_GROUP r, R.CFG_BIND_PRB r] ++
    (List.range 8).map (fun j => R.CFG_BIND_NI r j)

/-- ARM: region, CFG_RGN_GEN, CFG_RGN_CTRL, the binding registers; then CFG_ARM, which a region that is not VERIFIED refuses
(R237; notes/assumptions/44.md). -/
def execArmCommand (m : Fin 7) (s : State) : Host.Outcome State Fault Refusal :=
  .next (s.fwCmd m 0x0211 (fun t q =>
    let r := msgWord q 0
    t.fwScript m ([.wr (R.CFG_RGN_GEN r) (argW q 1), .wr (R.CFG_RGN_CTRL r) (argW q 2)] ++
      ((List.range 12).map (fun i => FwOp.wr ((bindRegs r).getD i 0) (argW q (3 + i)))) ++
      [.wr R.CFG_ARM (BitVec.ofNat 32 (2 ^ 31 + r))])))

/-- FIRE: REGION and USE_MASK as CFG_FIRE holds them, and the mask where USE_MASK is 1. -/
def execFireCommand (m : Fin 7) (s : State) : Host.Outcome State Fault Refusal :=
  .next (s.fwCmd m 0x0212 (fun t q =>
    let v := argW q 0
    t.fwScript m ((if v.fget F.CFG_FIRE_USE_MASK = 1 then [.wr R.CFG_FIRE_MASK (argW q 1)] else []) ++
      [.wr R.CFG_FIRE (((0 : Word).fput F.CFG_FIRE_GO 1).fput F.CFG_FIRE_USE_MASK (v.fget F.CFG_FIRE_USE_MASK) |>.fput
        F.CFG_FIRE_REGION (v.fget F.CFG_FIRE_REGION))])))

/-- The address of a hold-load stream in a HOLD request. -/
def holdAddr (ver : Nat) (q : List Byte) : Nat := if ver < 0x200 then 0x030000000000 + msgWord q 2 else msgWord q 2 + 2 ^ 32 * msgWord q 3

/-- HOLD: 0 and a CFG_HOLD value; or 1, a region and the address of a hold-load stream in the shared region. -/
def execHoldCommand (m : Fin 7) (s : State) : Host.Outcome State Fault Refusal :=
  .next (s.fwCmd m 0x0213 (fun t q =>
    let a := holdAddr (t.mb m).ver q
    if msgWord q 0 = 0 then t.fwScript m [.wr R.CFG_HOLD (argW q 1)]
    else if !inShared a then t.mbAnswer m 7 8 []
    else if t.boot.hold.isSome then t.mbAnswer m 6 0 []
    else t.fwScript m [.wr R.CFG_HLD_ADDR_LO (BitVec.ofNat 32 a), .wr R.CFG_HLD_ADDR_HI (BitVec.ofNat 32 (a / 2 ^ 32)),
      .wr R.CFG_HLD_CTRL (BitVec.ofNat 32 (2 ^ 31 + msgWord q 1))]))

/-- REGION_STATUS. -/
def execRegionStatus (m : Fin 7) (s : State) : Host.Outcome State Fault Refusal :=
  .next (s.fwCmd m 0x0214 (fun t q =>
    let r := msgWord q 0
    t.fwScript m [.rd (R.CFG_RGN_DESC r), .rd (R.CFG_RGN_SMASK r), .rd (R.CFG_RGN_CTRL r), .rd (R.CFG_RGN_STAT r),
      .rd (R.CFG_RGN_BADFAR r), .rd (R.CFG_RGN_GEN r), .rd (R.CFG_RGN_COUNT r), .rd (R.SCR_RGN_MAP r)]))

/-- `n` consecutive frame positions from one on; the last within its tile. -/
def framePositions (key n : Nat) : List Nat := (List.range n).map (fun i => key + i)

/-- FRAME_READBACK (R214, R561): FAR and count; each frame as 64 data words and its CRC. -/
def execFrameReadback (m : Fin 7) (s : State) : Host.Outcome State Fault Refusal :=
  .next (s.fwCmd m 0x0215 (fun t q =>
    let far := msgWord q 0
    let shd := far / 2 ^ 31 == 1
    let keys := framePositions (farKey (far % 2 ^ 31)) (msgWord q 1)
    if !keys.all (fun k => farValid (keyFar k true)) then t.mbAnswer m 7 4 []
    else if t.lc = 2 && keys.any (fun k => match t.recOf k shd with | some x => x.1.enc | none => false) then
      t.mbAnswer m 5 0 []
    else t.fwOk m (keys.flatMap (fun k => (((t.plane shd).frame k).stored).flatMap pay))))

/-- RESTART_CONFIG. -/
def execRestartConfig (m : Fin 7) (s : State) : Host.Outcome State Fault Refusal :=
  .next (s.fwCmd m 0x0230 (fun t _ => t.fwScript m [.wr R.CFG_RESTART 0xC0DE]))

/-! ## Boot flash (R173, R178) -/

/-- The flash is held by a load (R541). -/
def State.flashHeld (s : State) : Bool := (s.loadOn .flash).isSome || (s.loadOn .rom).isSome

/-- Replace a flash device's bytes. -/
def State.setFlash (s : State) (dev : Nat) (bytes : List Host.Cell) : State :=
  if dev = 0 then s.setBoot { s.boot with flash0 := { s.boot.flash0 with bytes := bytes } }
  else s.setBoot { s.boot with flash1 := { s.boot.flash1 with bytes := bytes } }

/-- FLASH_READ: device, offset, length. -/
def execFlashRead (m : Fin 7) (s : State) : Host.Outcome State Fault Refusal :=
  .next (s.fwCmd m 0x0220 (fun t q =>
    if t.flashHeld then t.mbAnswer m 6 0 []
    else match t.flashBytes (msgWord q 0) (msgWord q 1) (msgWord q 2) with
      | some b => t.fwOk m b
      | none => t.mbAnswer m 8 0 []))

/-- Erase the 4 KiB sectors from the one that holds offset `a` on. -/
def eraseFlash (l : List Host.Cell) (a n : Nat) : List Host.Cell :=
  let lo := a / 4096 * 4096
  l.filter (fun p => p.1 < lo || lo + 4096 * n ≤ p.1)

/-- Program bytes: a bit changes only from 1 to 0. -/
def programFlash (l : List Host.Cell) (a : Nat) : List Byte → List Host.Cell
  | [] => l
  | b :: r => programFlash (Tbl.set (fun _ => 0xFF#8) l a (Tbl.get (fun _ => 0xFF#8) l a &&& b)) (a + 1) r

/-- FLASH_WRITE: device, offset, sectors to erase; then the bytes to program. -/
def execFlashWrite (m : Fin 7) (s : State) : Host.Outcome State Fault Refusal :=
  .next (s.fwCmd m 0x0221 (fun t q =>
    let d := msgWord q 0
    let a := msgWord q 1
    if t.flashHeld then t.mbAnswer m 6 0 []
    else if !(t.flash d).fitted then t.mbAnswer m 8 0 []
    else (t.setFlash d (programFlash (eraseFlash (t.flash d).bytes a (msgWord q 2)) a ((msgPayload q).drop 12))).fwOk m []))

/-- A directory of some entries (R174). -/
def dirBytes (seq : Nat) (count : Nat) (entries : List Byte) : List Byte :=
  let l := leBytes 4 0x52494445 ++ leBytes 2 1 ++ leBytes 2 count ++ leBytes 4 seq ++ leBytes 4 0 ++
    sliceBytes (entries.take (32 * count)) 0 0xFC0 ++ List.replicate 16 0
  l ++ digBytes (Config.sha3 l)

/-- DIR_UPDATE (R178): entry count, then the entries. The copy not in use is the other copy of the same device, or device 0 copy
A where none is valid. -/
def execDirUpdate (m : Fin 7) (s : State) : Host.Outcome State Fault Refusal :=
  .next (s.fwCmd m 0x0222 (fun t q =>
    let used := (t.dirBest.head?).map (fun x => (x.1, x.2.1))
    let seq := (used.map (fun x => x.2 + 1)).getD 1
    let copy := match used with | some x => if x.1 % 2 = 0 then x.1 + 1 else x.1 - 1 | none => 0
    let a := copy % 2 * 0x10000
    if t.flashHeld then t.mbAnswer m 6 0 []
    else if !(t.flash (copy / 2)).fitted || 0xFFFFFFFE < seq then t.mbAnswer m 8 0 []
    else (t.setFlash (copy / 2) (programFlash (eraseFlash (t.flash (copy / 2)).bytes a 1) a
      (dirBytes seq (msgWord q 0) ((msgPayload q).drop 4)))).fwOk m []))

/-! ## Register access (R548) -/

/-- An address that register-access commands are denied. -/
def regDenied (write : Bool) (a : Nat) : Bool :=
  (match csrOff a with
   | some off => (match winOf off with | some (.sec, _, _) => true | _ => false) || off == R.CFG_RESTART ||
       off == R.SCR_INJ_CTRL || (R.CFG_EP_ALLOW 0 ≤ off && off < R.CFG_EP_ALLOW 8)
   | none =>
     padBase ≤ a && a < padBase + 2 ^ 22 &&
       (padSaggar ≤ (a - padBase) / 8 || (write && (a - padBase) / 8 < padShared)))

/-- Go on with the words of a REG_READ or REG_WRITE: `left` are still to do. -/
def State.regWords (s : State) (m : Nat) (write : Bool) (a : Nat) (value : Nat → Word) : Nat → State
  | 0 => s.fwOk m (s.mb m).got
  | left + 1 =>
    let i := (s.mb m).step
    match s.fwAccess m write (a + 4 * i) (value i) with
    | (t, none) => t
    | (t, some (.error c)) => t.mbAnswer m 0xA (c % 16 * 256 + i % 256) []
    | (t, some (.ok w)) => (t.fwStep m (if write then [] else pay w)).regWords m write a value left

/-- REG_READ and REG_WRITE: address, count, values. -/
def State.regAccess (s : State) (m : Nat) (write : Bool) (q : List Byte) : State :=
  let a := regAddr (s.mb m).ver q
  let n := leAt (msgPayload q) a.1 4
  if (List.range n).any (fun i => regDenied write (a.2 + 4 * i)) then s.mbAnswer m 5 0 []
  else s.regWords m write a.2 (fun i => BitVec.ofNat 32 (leAt (msgPayload q) (a.1 + 4 + 4 * i) 4)) (n - (s.mb m).step)

/-- REG_READ. -/
def execRegRead (m : Fin 7) (s : State) : Host.Outcome State Fault Refusal :=
  .next (s.fwCmd m 0x0300 (fun t q => t.regAccess m false q))

/-- REG_WRITE. -/
def execRegWrite (m : Fin 7) (s : State) : Host.Outcome State Fault Refusal :=
  .next (s.fwCmd m 0x0301 (fun t q => t.regAccess m true q))

/-- Step 1 of REG_MODIFY: the word read, masked, is written. -/
def State.regModifyWrite (s : State) (m a : Nat) (mask v : Word) : State :=
  let old := BitVec.ofNat 32 (leAt (s.mb m).got 0 4)
  match s.fwAccess m true a ((old &&& ~~~ mask) ||| (v &&& mask)) with
  | (t, none) => t
  | (t, some (.error c)) => t.mbAnswer m 0xA (c % 16 * 256) []
  | (t, some (.ok _)) => t.fwOk m (t.mb m).got

/-- REG_MODIFY: address, mask, value; the word read is returned. -/
def execRegModify (m : Fin 7) (s : State) : Host.Outcome State Fault Refusal :=
  .next (s.fwCmd m 0x0302 (fun t q =>
    let a := regAddr (t.mb m).ver q
    let mask := BitVec.ofNat 32 (leAt (msgPayload q) a.1 4)
    let v := BitVec.ofNat 32 (leAt (msgPayload q) (a.1 + 4) 4)
    if regDenied true a.2 then t.mbAnswer m 5 0 []
    else if (t.mb m).step != 0 then t.regModifyWrite m a.2 mask v
    else match t.fwAccess m false a.2 0 with
      | (u, none) => u
      | (u, some (.error c)) => u.mbAnswer m 0xA (c % 16 * 256) []
      | (u, some (.ok w)) => (u.fwStep m (pay w)).regModifyWrite m a.2 mask v))

/-! ## Time (R426, R429, R432, R443) -/

/-- TIME_GET: the domain. -/
def execTimeGet (m : Fin 7) (s : State) : Host.Outcome State Fault Refusal :=
  .next (s.fwCmd m 0x0400 (fun t q =>
    let d := msgWord q 0
    t.fwScript m [.rmw (R.TIM_TD_CTRL d) 0 1, .rd (R.TIM_TD_TFRAC d), .rd (R.TIM_TD_TNS d), .rd (R.TIM_TD_TSEC_LO d),
      .rd (R.TIM_TD_TSEC_HI d)]))

/-- TIME_SET: domain, the action bit of TIM_TD_CTRL, W0, W1, W2. -/
def execTimeSet (m : Fin 7) (s : State) : Host.Outcome State Fault Refusal :=
  .next (s.fwCmd m 0x0401 (fun t q =>
    let d := msgWord q 0
    t.fwScript m [.wr (R.TIM_TD_W0 d) (argW q 2), .wr (R.TIM_TD_W1 d) (argW q 3), .wr (R.TIM_TD_W2 d) (argW q 4),
      .rmw (R.TIM_TD_CTRL d) 0 (argW q 1)]))

/-- TIME_OFFSET: domain, the low and the high word of the offset. -/
def execTimeOffset (m : Fin 7) (s : State) : Host.Outcome State Fault Refusal :=
  .next (s.fwCmd m 0x0402 (fun t q =>
    let d := msgWord q 0
    t.fwScript m [.wr (R.TIM_TD_OFFS_LO d) (argW q 1), .wr (R.TIM_TD_OFFS_HI d) (argW q 2)]))

/-- CONE_SET: cone, TNS, TSEC_LO, TSEC_HI, PER, PERF, CTRL. EN is cleared first, since the fields are LOCKED. -/
def execConeSet (m : Fin 7) (s : State) : Host.Outcome State Fault Refusal :=
  .next (s.fwCmd m 0x0403 (fun t q =>
    let n := msgWord q 0
    t.fwScript m [.rmw (R.TIM_CONE_CTRL n) 1 0, .wr (R.TIM_CONE_CTRL n) (argW q 6 &&& ~~~ 1), .wr (R.TIM_CONE_TNS n) (argW q 1),
      .wr (R.TIM_CONE_TSEC_LO n) (argW q 2), .wr (R.TIM_CONE_TSEC_HI n) (argW q 3), .wr (R.TIM_CONE_PER n) (argW q 4),
      .wr (R.TIM_CONE_PERF n) (argW q 5), .wr (R.TIM_CONE_CTRL n) (argW q 6 ||| 1)]))

/-! ## Lanes and slots -/

/-- LANE_STATUS: quad; LQ_STAT, LN_STAT and PCS_LN_STAT of each lane, PCS_GRP_STAT of the quad's bonding group. -/
def execLaneStatus (m : Fin 7) (s : State) : Host.Outcome State Fault Refusal :=
  .next (s.fwCmd m 0x0500 (fun t q =>
    let k := msgWord q 0
    t.fwScript m (.rd (R.LQ_STAT k) :: ((List.range 4).flatMap (fun i => [.rd (R.LN_STAT (4 * k + i)), .rd (R.PCS_LN_STAT (4 * k + i))]) ++
      (if k < 16 then [.rd (R.PCS_GRP_STAT k)] else [])))))

/-- LANE_APPLY: quad; then an offset in the quad's window and a value for each staged register of its lanes. -/
def execLaneApply (m : Fin 7) (s : State) : Host.Outcome State Fault Refusal :=
  .next (s.fwCmd m 0x0501 (fun t q =>
    let k := msgWord q 0
    t.fwScript m ((List.range ((msgLen q - 4) / 8)).map (fun i => FwOp.wr (R.LQ_CTRL k + msgWord q (2 * i + 1)) (argW q (2 * i + 2))) ++
      [.rmw (R.LQ_CTRL k) 0 1])))

/-- EYE_SCAN: lane; then an LN_ES_CTRL value for each point. BAD_STATE where a START is refused (R365). -/
def execEyeScan (m : Fin 7) (s : State) : Host.Outcome State Fault Refusal :=
  .next (s.fwCmd m 0x0502 (fun t q =>
    let n := msgWord q 0
    t.fwScript m ((List.range ((msgLen q - 4) / 4)).flatMap (fun i =>
      [.wr (R.LN_ES_CTRL n) (argW q (i + 1) ||| 0x80000000), .unless_ (R.LN_ES_CTRL n) 0x20000000,
       .idle (R.LN_ES_CTRL n) 0x40000000, .rd (R.LN_ES_ERR n), .rd (R.LN_ES_SMP_LO n), .rd (R.LN_ES_SMP_HI n)]))))

/-- SLOT_STATUS: engine. -/
def execSlotStatus (m : Fin 7) (s : State) : Host.Outcome State Fault Refusal :=
  .next (s.fwCmd m 0x0510 (fun t q =>
    let e := msgWord q 0
    t.fwScript m [.rd (R.SKM_ENG_STAT e), .rd (R.SKM_ENG_PEER e), .rd (R.SKM_ENG_RES e)]))

/-- SLOT_RESTART: engine. -/
def execSlotRestart (m : Fin 7) (s : State) : Host.Outcome State Fault Refusal :=
  .next (s.fwCmd m 0x0511 (fun t q => t.fwScript m [.rmw (R.SKM_ENG_CTRL (msgWord q 0)) 0 2]))

/-- SLOT_RELEASE: engine; 0 RELEASE, 1 REFIRE. -/
def execSlotRelease (m : Fin 7) (s : State) : Host.Outcome State Fault Refusal :=
  .next (s.fwCmd m 0x0512 (fun t q =>
    t.fwScript m [.rmw (R.SKM_ENG_CTRL (msgWord q 0)) 0 (if msgWord q 1 = 0 then 4 else 8)]))

/-- SLOT_CONFIG: engine, SKM_ENG_CFG, SKM_ENG_TMR. -/
def execSlotConfig (m : Fin 7) (s : State) : Host.Outcome State Fault Refusal :=
  .next (s.fwCmd m 0x0513 (fun t q =>
    let e := msgWord q 0
    t.fwScript m [.rmw (R.SKM_ENG_CTRL e) 1 0, .wr (R.SKM_ENG_CFG e) (argW q 1), .wr (R.SKM_ENG_TMR e) (argW q 2),
      .rmw (R.SKM_ENG_CTRL e) 0 (t.reg (R.SKM_ENG_CTRL e) &&& 1)]))

/-! ## RLD memory -/

/-- MEM_STATUS: channel; MC_STAT, MC_INT_STAT, MC_LAST_ERR, MT_STAT, MT_PR_STAT, MT_INT_STAT. -/
def execMemStatus (m : Fin 7) (s : State) : Host.Outcome State Fault Refusal :=
  .next (s.fwCmd m 0x0600 (fun t q =>
    let c := msgWord q 0
    t.fwScript m [.rd (R.MC_STAT c), .rd (R.MC_INT_STAT c), .rd (R.MC_LAST_ERR c), .rd (R.MT_STAT c), .rd (R.MT_PR_STAT c),
      .rd (R.MT_INT_STAT c)]))

/-- Go on where firmware's accesses reach the block of a register; else HW_ERROR with the network's status, DISABLED (R316, R548). -/
def State.fwReach (s : State) (m off : Nat) (go : State → State) : State :=
  if s.reaches 0x68 off then go s else s.mbAnswer m 0xA (7 * 256) []

/-- Write a register as firmware. -/
def State.fwWr (s : State) (off : Nat) (v : Word) : State := s.busWrite 0x68 off v

/-- Set a field of a register as firmware. -/
def State.fwPut (s : State) (off : Nat) (f : Fld) (n : Nat) : State := s.busWrite 0x68 off ((s.csrPeek off).fput f n)

/-- MT_FAIL holds a bit of component `k`. -/
def State.compFails (s : State) (c k : Nat) : Bool :=
  let v := (s.reg (R.MT_FAIL0 c)).toNat + 2 ^ 32 * (s.reg (R.MT_FAIL1 c)).toNat + 2 ^ 64 * (s.reg (R.MT_FAIL2 c)).toNat
  v / 2 ^ (36 * k) % 2 ^ 36 != 0

/-- A run of the helper is over. -/
def State.mtIdle (s : State) (c : Nat) : Bool := !s.flag (R.MT_RUN c) F.MT_RUN_BUSY

/-- Start the run of read enable `r` for component `k` (step 3 + 2 (8 k + r)). -/
def State.trainRcv (s : State) (m c k r : Nat) : State :=
  ((s.fwPut (R.MT_SHD_CMP c k) F.MT_SHD_CMP_RCV_EN r).fwWr (R.MT_RUN c) 0x81000040).fwGoto m (4 + 2 * (8 * k + r))

/-- Start sweep `i`: command delays, then read, then write delays. -/
def State.trainSweep (s : State) (m c i : Nat) : State :=
  let t := [2, 0, 1].getD i 0
  ((s.fwWr (R.MT_SWEEP c) (BitVec.ofNat 32 (t * 2 ^ 24 + 0x007F0001))).fwWr (R.MT_RUN c) 0x80800040).fwGoto m (36 + 2 * i)

/-- Place the centres of sweep `i`; the first bit or component without a usable window. -/
def State.trainCentres (s : State) (c i : Nat) : List Nat → State × Option Nat
  | [] => (s, none)
  | k :: r =>
    let x := if i = 0 then 72 + k else k
    let w := s.csrPeek (R.MT_WIN c x)
    let l := w.fget F.MT_WIN_LEFT
    let h := w.fget F.MT_WIN_RIGHT
    if w.fget F.MT_WIN_NONE = 1 || h < l + 24 then (s, some x)
    else
      let v := (l + h) / 2
      let t := if i = 0 then s.fwPut (R.MT_SHD_CMP c k) F.MT_SHD_CMP_CA_DLY v
        else if i = 1 then s.fwPut (R.MT_SHD_DQ c k) F.MT_SHD_DQ_RDLY v
        else s.fwPut (R.MT_SHD_DQ c k) F.MT_SHD_DQ_WDLY v
      t.trainCentres c i r

/-- The procedure ends: MC_STAT tells the state reached. -/
def State.trainEnd (s : State) (m c : Nat) : State := s.fwOk m (pay (s.csrPeek (R.MC_STAT c)))

/-- One step of the initial training procedure: steps 0 to 2 the PLL and START, 3 to 34 the read enables, 35 to 40 the sweeps. -/
def State.trainStep (s : State) (m c : Nat) : State :=
  let n := (s.mb m).step
  if n = 0 then
    (s.fwWr (R.CLK_MCPLL c) 0x80000020).fwGoto m 1
  else if n = 1 then
    if (s.csrPeek R.CLK_MC_LOST).getLsbD (8 + c) then
      let t := s.fwWr (R.MT_CTRL c) 0x800001F4
      if (t.csrPeek (R.MT_STAT c)).getLsbD 6 then t.mbAnswer m 8 0 [] else t.trainRcv m c 0 0
    else s
  else if n < 36 then
    let j := (n - 4) / 2
    if !s.mtIdle c then s
    else if s.compFails c (j / 8) && j % 8 < 7 then s.trainRcv m c (j / 8) (j % 8 + 1)
    else if j / 8 = 0 then s.trainRcv m c 1 0
    else s.trainSweep m c 0
  else
    let i := (n - 36) / 2
    if !s.mtIdle c then s
    else
      let r := s.trainCentres c i (List.range (if i = 0 then 2 else 72))
      match r.2 with
      | some x => (r.1.fwWr (R.MT_CTRL c) (BitVec.ofNat 32 (0x200001F4 + x * 2 ^ 16))).trainEnd m c
      | none => if i < 2 then r.1.trainSweep m c (i + 1) else (r.1.fwWr (R.MT_CTRL c) 0x400001F4).trainEnd m c

/-- MEM_TRAIN: channel; the initial training procedure, as far as it goes until a run or a lock is waited for. Steps 0 and 1 use
the clock registers, all others the channel's. -/
def execMemTrain (m : Fin 7) (s : State) : Host.Outcome State Fault Refusal :=
  .next (s.fwCmd m 0x0601 (fun t q =>
    let c := msgWord q 0
    let go := fun (u : State) => u.fwReach m (R.MT_CTRL c) (fun v => v.trainStep m c)
    if (t.mb m).step = 0 then t.fwReach m (R.CLK_MCPLL c) (fun v => v.trainStep m c)
    else if (t.mb m).step = 1 then t.fwReach m (R.CLK_MCPLL c) go
    else go t))

/-- MEM_MAP: MC_MAP_CTRL, MC_MAP_CH. -/
def execMemMap (m : Fin 7) (s : State) : Host.Outcome State Fault Refusal :=
  .next (s.fwCmd m 0x0602 (fun t q =>
    t.fwScript m [.wr R.MC_MAP_CTRL (argW q 0 &&& ~~~ 1), .wr R.MC_MAP_CH (argW q 1), .wr R.MC_MAP_CTRL (argW q 0 ||| 1)]))

/-- MEM_RETIRE: channel, entry, MC_RETIRE value. -/
def execMemRetire (m : Fin 7) (s : State) : Host.Outcome State Fault Refusal :=
  .next (s.fwCmd m 0x0603 (fun t q =>
    t.fwScript m [.wr (R.MC_RETIRE (msgWord q 0) (msgWord q 1)) (argW q 2)]))

/-! ## Log (R605, R606) -/

/-- Pop up to `k` records. -/
def State.logPop (s : State) : Nat → List Byte → State × List Byte
  | 0, b => (s, b)
  | k + 1, b =>
    if s.err.fifo.isEmpty then (s, b)
    else
      let t := s.busRead 0x68 R.ERR_POP0
      t.logPop k (b ++ t.out ++ pay (t.csrPeek R.ERR_POP1) ++ pay (t.csrPeek R.ERR_POP2) ++ pay (t.csrPeek R.ERR_POP3))

/-- LOG_POP: MAX. -/
def execLogPop (m : Fin 7) (s : State) : Host.Outcome State Fault Refusal :=
  .next (s.fwCmd m 0x0700 (fun t q =>
    t.fwReach m R.ERR_POP0 (fun u =>
      let r := u.logPop (msgWord q 0 % 256) []
      r.1.fwOk m r.2)))

/-- Firmware takes the counts that reading clears into its totals (R606). -/
def State.logTotals (s : State) : State :=
  let t := s.forEach (List.range 32) (fun t j =>
    let u := t.busRead 0x68 (R.ERR_LOST j)
    let v := leNat u.out
    let add := fun (l : Tbl Nat) (k n : Nat) => Tbl.set (fun _ => 0) l k (satAdd 16 (Tbl.get (fun _ => 0) l k) n)
    u.setFw { u.fw with lost := add (add u.fw.lost (2 * j) (v % 2 ^ 16)) (2 * j + 1) (v / 2 ^ 16 % 2 ^ 16) })
  let u := t.busRead 0x68 R.ERR_DROPS
  u.setFw { u.fw with drops := satAdd 32 u.fw.drops (leNat u.out) }

/-- The response of LOG_COUNTERS (R606). -/
def State.logReport (s : State) : List Byte :=
  let valid := fun g => s.bit (R.ERR_FIRST_VALID (g / 32)) (g % 32)
  pay (s.csrPeek R.ERR_STAT) ++ (List.range 64).flatMap (fun k => leBytes 2 (Tbl.get (fun _ => 0) s.fw.lost k)) ++
    pay (s.reg (R.ERR_FIRST_VALID 0)) ++ pay (s.reg (R.ERR_FIRST_VALID 1)) ++
    ((List.range 64).filter valid).flatMap (fun g =>
      leBytes 4 g ++ (List.range 4).flatMap (fun w => pay (s.reg (R.ERR_FIRST g w))))

/-- CLEAR (R606). -/
def State.logClear (s : State) : State :=
  let t := s.setFw { s.fw with lost := [], drops := 0 }
  ((t.busWrite 0x68 R.ERR_STAT 0x80000000).busWrite 0x68 (R.ERR_FIRST_VALID 0) 0xFFFFFFFF).busWrite 0x68 (R.ERR_FIRST_VALID 1) 0xFFFFFFFF

/-- LOG_COUNTERS: CLEAR in bit 0. -/
def execLogCounters (m : Fin 7) (s : State) : Host.Outcome State Fault Refusal :=
  .next (s.fwCmd m 0x0701 (fun t q =>
    t.fwReach m R.ERR_POP0 (fun v =>
      let u := v.logTotals
      (u.when (msgWord q 0 % 2 == 1) State.logClear).fwOk m u.logReport)))

/-! ## Self-test, injection, march (R524-R527, R637, R638) -/

/-- SELFTEST_RUN (R637). -/
def execSelftestRun (m : Fin 7) (s : State) : Host.Outcome State Fault Refusal :=
  .next (s.fwCmd m 0x0702 (fun t q =>
    let w := msgWord q 0
    if (t.mb m).step = 0 && t.istRunning then t.mbAnswer m 6 0 []
    else t.fwScript m [.wr R.IST_RUN_FIRST (argW q 1), .wr R.IST_RUN (BitVec.ofNat 32 (2 ^ 31 + w % 4 * 2 ^ 24 + w / 256 % 256 * 2 ^ 16)),
      .idle R.IST_RUN 0x40000000, .rd R.IST_RUN_RES]))

/-- INJECT (R292, R638): KIND 0 a configuration upset, KIND 1 a scratchpad word of the shared region. -/
def execInjectCommand (m : Fin 7) (s : State) : Host.Outcome State Fault Refusal :=
  .next (s.fwCmd m 0x0703 (fun t q =>
    let v := msgWord q 2
    if msgWord q 0 % 16 = 0 then
      t.fwScript m [.wr R.SCR_INJ_FAR (argW q 1), .wr R.SCR_INJ_CTRL (argW q 2 ||| 0x80000000),
        .until_ R.SCR_INJ_CTRL 0x28000000, .rd R.SCR_INJ_CTRL]
    else (t.padUpset (padShared + msgWord q 1) (v % 128 :: (if v / 2 ^ 16 % 2 = 1 then [v / 256 % 128] else []))).fwOk m []))

/-- The march engine is free for firmware. -/
def State.marchFree (s : State) : Bool := s.pad.march.isNone && !s.ist.slices.any (fun x => x.tgt == 0) && !s.sec.wiping

/-- MARCH_RUN: first word and number of words in the shared region, mode (0 PRESERVING, 1 DESTROYING). Slices have the width of
IST_CTRL.SPAD_W; a range that is no whole number of them is BAD_ARG. -/
def execMarchRun (m : Fin 7) (s : State) : Host.Outcome State Fault Refusal :=
  .next (s.fwCmd m 0x0704 (fun t q =>
    let w := t.istW
    let i := (t.mb m).step
    if i = 0 && msgWord q 0 % w != 0 then t.mbAnswer m 7 0 []
    else if i = 0 && msgWord q 1 % w != 0 then t.mbAnswer m 7 4 []
    else if !t.marchFree then t
    else if msgWord q 1 ≤ w * i then t.fwOk m []
    else
      let u := t.fwStep m []
      { u with pad := { u.pad with march := some ⟨padShared + msgWord q 0 + w * i, w, msgWord q 2 == 0⟩ } }))

end Sys2Proof.Machine
end

