-- ==== Sys2Proof/Machine/RegCmds.lean ====
section
/-! DEFINITION. RegCmds.lean: the commands that are an access to one register from endpoint `ep`. A command that the table
names after a bit is a write whose other bits are given and which has that bit at the value the table says. -/

namespace Sys2Proof.Machine

/-- The write `v` with a bit at 1, or at 0. -/
def bitOn (v : Word) (f : Fld) : Word := v ||| f.mask
def bitOff (v : Word) (f : Fld) : Word := v &&& ~~~ f.mask

/-! ## Any register -/

/-- REGISTER_WRITE (R18, R19, R24: a write to a register). -/
def execRegisterWrite (ep : Fin 256) (off : Nat) (v : BitVec 32) (s : State) : Host.Outcome State Fault Refusal :=
  .next (s.busWrite ep off v)

/-! ## Configuration and firing -/

/-- CFG_RESTART (R210: a write to CFG_RESTART). -/
def execCfgRestart (ep : Fin 256) (v : BitVec 32) (s : State) : Host.Outcome State Fault Refusal :=
  .next (s.busWrite ep R.CFG_RESTART v)

/-- CFG_STG_START (R223, R226: a write of START). -/
def execCfgStgStart (ep : Fin 256) (v : BitVec 32) (s : State) : Host.Outcome State Fault Refusal :=
  .next (s.busWrite ep R.CFG_STG_CTRL (bitOn v F.CFG_STG_CTRL_START))

/-- SHD_GEN_WRITE (R238: a write to CFG_RGN_GEN). -/
def execShdGenWrite (ep : Fin 256) (r : Fin 32) (v : BitVec 32) (s : State) : Host.Outcome State Fault Refusal :=
  .next (s.busWrite ep (R.CFG_RGN_GEN r) v)

/-- CFG_ARM (R237: a write of ARM). -/
def execCfgArm (ep : Fin 256) (v : BitVec 32) (s : State) : Host.Outcome State Fault Refusal :=
  .next (s.busWrite ep R.CFG_ARM (bitOn v F.CFG_ARM_ARM))

/-- CFG_DISARM (R237: a write of DISARM). -/
def execCfgDisarm (ep : Fin 256) (v : BitVec 32) (s : State) : Host.Outcome State Fault Refusal :=
  .next (s.busWrite ep R.CFG_ARM (bitOn v F.CFG_ARM_DISARM))

/-- CFG_FIRE_GO (R239: a write of GO). -/
def execCfgFireGo (ep : Fin 256) (v : BitVec 32) (s : State) : Host.Outcome State Fault Refusal :=
  .next (s.busWrite ep R.CFG_FIRE (bitOn v F.CFG_FIRE_GO))

/-- CFG_HOLD_RELEASE (R255: a write of RELEASE). -/
def execCfgHoldRelease (ep : Fin 256) (v : BitVec 32) (s : State) : Host.Outcome State Fault Refusal :=
  .next (s.busWrite ep R.CFG_HOLD (bitOn v F.CFG_HOLD_RELEASE))

/-- CFG_HOLD_ENTER (R255: a write of ENTER). -/
def execCfgHoldEnter (ep : Fin 256) (v : BitVec 32) (s : State) : Host.Outcome State Fault Refusal :=
  .next (s.busWrite ep R.CFG_HOLD (bitOn v F.CFG_HOLD_ENTER))

/-- CFG_HLD_START (R256: a write of START). -/
def execCfgHldStart (ep : Fin 256) (v : BitVec 32) (s : State) : Host.Outcome State Fault Refusal :=
  .next (s.busWrite ep R.CFG_HLD_CTRL (bitOn v F.CFG_HLD_CTRL_START))

/-- SCR_INJ_GO (R292: a write of GO). -/
def execScrInjGo (ep : Fin 256) (v : BitVec 32) (s : State) : Host.Outcome State Fault Refusal :=
  .next (s.busWrite ep R.SCR_INJ_CTRL (bitOn v F.SCR_INJ_CTRL_GO))

/-- SCR_INJ_VOTER (R293: a write of VOTER). -/
def execScrInjVoter (ep : Fin 256) (v : BitVec 32) (s : State) : Host.Outcome State Fault Refusal :=
  .next (s.busWrite ep R.SCR_INJ_CTRL (bitOn v F.SCR_INJ_CTRL_VOTER))

/-! ## Fabric and sectors -/

/-- FAB_BUS_CONT_CLEAR (R64: a write of 1 to lines of FAB_BUS_CONT). -/
def execFabBusContClear (ep : Fin 256) (sec : Fin 32) (hi : Bool) (v : BitVec 32)
    (s : State) : Host.Outcome State Fault Refusal :=
  .next (s.busWrite ep (if hi then R.FAB_BUS_CONT_HI sec else R.FAB_BUS_CONT_LO sec) v)

/-- FAB_PRB_APPLY (R73: a write of APPLY). -/
def execFabPrbApply (ep : Fin 256) (sec : Fin 32) (v : BitVec 32) (s : State) : Host.Outcome State Fault Refusal :=
  .next (s.busWrite ep (R.FAB_PRB_CTRL sec) (bitOn v F.FAB_PRB_CTRL_APPLY))

/-- FAB_PRB_ARM (R80: a write of ARM). -/
def execFabPrbArm (ep : Fin 256) (sec : Fin 32) (v : BitVec 32) (s : State) : Host.Outcome State Fault Refusal :=
  .next (s.busWrite ep (R.FAB_PRB_CTRL sec) (bitOn v F.FAB_PRB_CTRL_ARM))

/-- FAB_PRB_STOP (R82: a write of STOP). -/
def execFabPrbStop (ep : Fin 256) (sec : Fin 32) (v : BitVec 32) (s : State) : Host.Outcome State Fault Refusal :=
  .next (s.busWrite ep (R.FAB_PRB_CTRL sec) (bitOn v F.FAB_PRB_CTRL_STOP))

/-! ## The network -/

/-- NI_RT_HI_WRITE (R309: a write to NI_RT_HI). -/
def execNiRtHiWrite (ep : Fin 256) (e : Fin 256) (d : Fin 256) (v : BitVec 32)
    (s : State) : Host.Outcome State Fault Refusal :=
  .next (s.busWrite ep (R.NI_RT_HI e d) v)

/-- NI_APPLY (R308, R310: a write of APPLY). -/
def execNiApply (ep : Fin 256) (e : Fin 256) (v : BitVec 32) (s : State) : Host.Outcome State Fault Refusal :=
  .next (s.busWrite ep (R.NI_CTRL e) (bitOn v F.NI_CTRL_APPLY))

/-- NOC_APPLY (R325: a write of APPLY). -/
def execNocApply (ep : Fin 256) (n : Fin 64) (v : BitVec 32) (s : State) : Host.Outcome State Fault Refusal :=
  .next (s.busWrite ep (R.NOC_CTRL n) (bitOn v F.NOC_CTRL_APPLY))

/-! ## Clocks -/

/-- NOC_FREQ_CHANGE (R159: a write to CLK_NOC_CTRL). -/
def execNocFreqChange (ep : Fin 256) (v : BitVec 32) (s : State) : Host.Outcome State Fault Refusal :=
  .next (s.busWrite ep R.CLK_NOC_CTRL v)

/-- CLK_MEAS_START (R166: a write of START). -/
def execClkMeasStart (ep : Fin 256) (v : BitVec 32) (s : State) : Host.Outcome State Fault Refusal :=
  .next (s.busWrite ep R.CLK_MEAS_CTRL (bitOn v F.CLK_MEAS_CTRL_START))

/-! ## Lanes, groups and Skemer engines -/

/-- LQ_APPLY (R341: a write of APPLY). -/
def execLqApply (ep : Fin 256) (q : Fin 36) (v : BitVec 32) (s : State) : Host.Outcome State Fault Refusal :=
  .next (s.busWrite ep (R.LQ_CTRL q) (bitOn v F.LQ_CTRL_APPLY))

/-- PMA_RST (R353: a write of PMA_RST). -/
def execPmaRst (ep : Fin 256) (n : Fin 144) (v : BitVec 32) (s : State) : Host.Outcome State Fault Refusal :=
  .next (s.busWrite ep (R.LN_CTRL n) (bitOn v F.LN_CTRL_PMA_RST))

/-- PRBS_INJ (R362: a write of INJ). -/
def execPrbsInj (ep : Fin 256) (n : Fin 144) (v : BitVec 32) (s : State) : Host.Outcome State Fault Refusal :=
  .next (s.busWrite ep (R.LN_PRBS_TX n) (bitOn v F.LN_PRBS_TX_INJ))

/-- PRBS_CLR (R363: a write of CLR). -/
def execPrbsClr (ep : Fin 256) (n : Fin 144) (v : BitVec 32) (s : State) : Host.Outcome State Fault Refusal :=
  .next (s.busWrite ep (R.LN_PRBS_RX n) (bitOn v F.LN_PRBS_RX_CLR))

/-- EYE_SCAN_START (R364, R365: a write of START). -/
def execEyeScanStart (ep : Fin 256) (n : Fin 144) (v : BitVec 32) (s : State) : Host.Outcome State Fault Refusal :=
  .next (s.busWrite ep (R.LN_ES_CTRL n) (bitOn v F.LN_ES_CTRL_START))

/-- SLIP (R385: a write of SLIP). -/
def execSlip (ep : Fin 256) (n : Fin 144) (v : BitVec 32) (s : State) : Host.Outcome State Fault Refusal :=
  .next (s.busWrite ep (R.PCS_LN_ALIGN n) (bitOn v F.PCS_LN_ALIGN_SLIP))

/-- GROUP_APPLY (R394: a write of APPLY). -/
def execGroupApply (ep : Fin 256) (g : Fin 16) (v : BitVec 32) (s : State) : Host.Outcome State Fault Refusal :=
  .next (s.busWrite ep (R.PCS_GRP_CTRL g) (bitOn v F.PCS_GRP_CTRL_APPLY))

/-- SKM_ENABLE (R404, R416: a write of EN at 1). -/
def execSkmEnable (ep : Fin 256) (e : Fin 16) (v : BitVec 32) (s : State) : Host.Outcome State Fault Refusal :=
  .next (s.busWrite ep (R.SKM_ENG_CTRL e) (bitOn v F.SKM_ENG_CTRL_EN))

/-- SKM_DISABLE (R416: a write of EN at 0). -/
def execSkmDisable (ep : Fin 256) (e : Fin 16) (v : BitVec 32) (s : State) : Host.Outcome State Fault Refusal :=
  .next (s.busWrite ep (R.SKM_ENG_CTRL e) (bitOff v F.SKM_ENG_CTRL_EN))

/-- SKM_RESTART (R416: a write of RESTART with EN at 1). -/
def execSkmRestart (ep : Fin 256) (e : Fin 16) (v : BitVec 32) (s : State) : Host.Outcome State Fault Refusal :=
  .next (s.busWrite ep (R.SKM_ENG_CTRL e) (bitOn (bitOn v F.SKM_ENG_CTRL_EN) F.SKM_ENG_CTRL_RESTART))

/-- SKM_RELEASE (R420: a write of RELEASE with EN at 1). -/
def execSkmRelease (ep : Fin 256) (e : Fin 16) (v : BitVec 32) (s : State) : Host.Outcome State Fault Refusal :=
  .next (s.busWrite ep (R.SKM_ENG_CTRL e) (bitOn (bitOn v F.SKM_ENG_CTRL_EN) F.SKM_ENG_CTRL_RELEASE))

/-- SKM_REFIRE (R419: a write of REFIRE with EN at 1). -/
def execSkmRefire (ep : Fin 256) (e : Fin 16) (v : BitVec 32) (s : State) : Host.Outcome State Fault Refusal :=
  .next (s.busWrite ep (R.SKM_ENG_CTRL e) (bitOn (bitOn v F.SKM_ENG_CTRL_EN) F.SKM_ENG_CTRL_REFIRE))

/-! ## Network time -/

/-- SET (R429: a write of SET). -/
def execTimSetWrite (ep : Fin 256) (d : Fin 32) (v : BitVec 32) (s : State) : Host.Outcome State Fault Refusal :=
  .next (s.busWrite ep (R.TIM_TD_CTRL d) (bitOn v F.TIM_TD_CTRL_SET))

/-- STEP (R429: a write of STEP). -/
def execTimStepWrite (ep : Fin 256) (d : Fin 32) (v : BitVec 32) (s : State) : Host.Outcome State Fault Refusal :=
  .next (s.busWrite ep (R.TIM_TD_CTRL d) (bitOn v F.TIM_TD_CTRL_STEP))

/-- SLEW (R429: a write of SLEW). -/
def execTimSlewWrite (ep : Fin 256) (d : Fin 32) (v : BitVec 32) (s : State) : Host.Outcome State Fault Refusal :=
  .next (s.busWrite ep (R.TIM_TD_CTRL d) (bitOn v F.TIM_TD_CTRL_SLEW))

/-- SNAP (R426: a write of SNAP). -/
def execTimSnapWrite (ep : Fin 256) (d : Fin 32) (v : BitVec 32) (s : State) : Host.Outcome State Fault Refusal :=
  .next (s.busWrite ep (R.TIM_TD_CTRL d) (bitOn v F.TIM_TD_CTRL_SNAP))

/-- SERVO_SAMPLE_SUBMIT (R432: a write to TIM_TD_OFFS_HI). -/
def execServoSampleSubmit (ep : Fin 256) (d : Fin 32) (v : BitVec 32)
    (s : State) : Host.Outcome State Fault Refusal :=
  .next (s.busWrite ep (R.TIM_TD_OFFS_HI d) v)

/-- SERVO_ENABLE (R433, R436: a write of SERVO_EN at 1). -/
def execServoEnable (ep : Fin 256) (d : Fin 32) (v : BitVec 32) (s : State) : Host.Outcome State Fault Refusal :=
  .next (s.busWrite ep (R.TIM_TD_CTRL d) (bitOn v F.TIM_TD_CTRL_SERVO_EN))

/-- CONE_ARM (R441: a write of EN at 1). -/
def execConeArm (ep : Fin 256) (n : Fin 64) (v : BitVec 32) (s : State) : Host.Outcome State Fault Refusal :=
  .next (s.busWrite ep (R.TIM_CONE_CTRL n) (bitOn v F.TIM_CONE_CTRL_EN))

/-- CONE_DISARM (R443: a write of EN at 0). -/
def execConeDisarm (ep : Fin 256) (n : Fin 64) (v : BitVec 32) (s : State) : Host.Outcome State Fault Refusal :=
  .next (s.busWrite ep (R.TIM_CONE_CTRL n) (bitOff v F.TIM_CONE_CTRL_EN))

/-! ## RLD channels -/

/-- MC_ENABLE (R470: a write of EN at 1). -/
def execMcEnable (ep : Fin 256) (c : Fin 8) (v : BitVec 32) (s : State) : Host.Outcome State Fault Refusal :=
  .next (s.busWrite ep (R.MC_CTRL c) (bitOn v F.MC_CTRL_EN))

/-- MC_DISABLE (R468: a write of EN at 0). -/
def execMcDisable (ep : Fin 256) (c : Fin 8) (v : BitVec 32) (s : State) : Host.Outcome State Fault Refusal :=
  .next (s.busWrite ep (R.MC_CTRL c) (bitOff v F.MC_CTRL_EN))

/-- MC_SR_ENTER (R486: a write of ENTER). -/
def execMcSrEnter (ep : Fin 256) (c : Fin 8) (v : BitVec 32) (s : State) : Host.Outcome State Fault Refusal :=
  .next (s.busWrite ep (R.MC_SR_CTRL c) (bitOn v F.MC_SR_CTRL_ENTER))

/-- MC_SR_EXIT (R468: a write of EXIT). -/
def execMcSrExit (ep : Fin 256) (c : Fin 8) (v : BitVec 32) (s : State) : Host.Outcome State Fault Refusal :=
  .next (s.busWrite ep (R.MC_SR_CTRL c) (bitOn v F.MC_SR_CTRL_EXIT))

/-- MC_INIT (R493: a write of INIT). -/
def execMcInit (ep : Fin 256) (c : Fin 8) (v : BitVec 32) (s : State) : Host.Outcome State Fault Refusal :=
  .next (s.busWrite ep (R.MC_CTRL c) (bitOn v F.MC_CTRL_INIT))

/-- MC_FREEZE (R498: a write of FREEZE). -/
def execMcFreeze (ep : Fin 256) (c : Fin 8) (v : BitVec 32) (s : State) : Host.Outcome State Fault Refusal :=
  .next (s.busWrite ep (R.MC_CTRL c) (bitOn v F.MC_CTRL_FREEZE))

/-- MC_UNFREEZE (R498: a write of UNFREEZE). -/
def execMcUnfreeze (ep : Fin 256) (c : Fin 8) (v : BitVec 32) (s : State) : Host.Outcome State Fault Refusal :=
  .next (s.busWrite ep (R.MC_CTRL c) (bitOn v F.MC_CTRL_UNFREEZE))

/-- MC_MAP_APPLY (R474: a write of APPLY). -/
def execMcMapApply (ep : Fin 256) (v : BitVec 32) (s : State) : Host.Outcome State Fault Refusal :=
  .next (s.busWrite ep R.MC_MAP_CTRL (bitOn v F.MC_MAP_CTRL_APPLY))

/-- MT_START (R512: a write of START). -/
def execMtStart (ep : Fin 256) (c : Fin 8) (v : BitVec 32) (s : State) : Host.Outcome State Fault Refusal :=
  .next (s.busWrite ep (R.MT_CTRL c) (bitOn v F.MT_CTRL_START))

/-- MT_END_PASS (R513: a write of END_PASS). -/
def execMtEndPass (ep : Fin 256) (c : Fin 8) (v : BitVec 32) (s : State) : Host.Outcome State Fault Refusal :=
  .next (s.busWrite ep (R.MT_CTRL c) (bitOn v F.MT_CTRL_END_PASS))

/-- MT_END_FAIL (R513: a write of END_FAIL). -/
def execMtEndFail (ep : Fin 256) (c : Fin 8) (v : BitVec 32) (s : State) : Host.Outcome State Fault Refusal :=
  .next (s.busWrite ep (R.MT_CTRL c) (bitOn v F.MT_CTRL_END_FAIL))

/-- MT_COMMIT (R505: a write of COMMIT). -/
def execMtCommit (ep : Fin 256) (c : Fin 8) (v : BitVec 32) (s : State) : Host.Outcome State Fault Refusal :=
  .next (s.busWrite ep (R.MT_CTRL c) (bitOn v F.MT_CTRL_COMMIT))

/-- MT_RUN_START (R508: a write of START). -/
def execMtRunStart (ep : Fin 256) (c : Fin 8) (v : BitVec 32) (s : State) : Host.Outcome State Fault Refusal :=
  .next (s.busWrite ep (R.MT_RUN c) (bitOn v F.MT_RUN_START))

/-- MT_PR_ENABLE (R514: a write of EN at 1). -/
def execMtPrEnable (ep : Fin 256) (c : Fin 8) (v : BitVec 32) (s : State) : Host.Outcome State Fault Refusal :=
  .next (s.busWrite ep (R.MT_PR_CTRL c) (bitOn v F.MT_PR_CTRL_EN))

/-! ## Security -/

/-- SEC_WIPE_START (R564: a write of START). -/
def execSecWipeStart (ep : Fin 256) (v : BitVec 32) (s : State) : Host.Outcome State Fault Refusal :=
  .next (s.busWrite ep R.SEC_WIPE (bitOn v F.SEC_WIPE_START))

/-- SEC_FUSE_GO (R562: a write of GO). -/
def execSecFuseGo (ep : Fin 256) (v : BitVec 32) (s : State) : Host.Outcome State Fault Refusal :=
  .next (s.busWrite ep R.SEC_FUSE_CTRL (bitOn v F.SEC_FUSE_CTRL_GO))

/-- SEC_DBG_OPEN (R577: a write of OPEN). -/
def execSecDbgOpen (ep : Fin 256) (v : BitVec 32) (s : State) : Host.Outcome State Fault Refusal :=
  .next (s.busWrite ep R.SEC_DBG (bitOn v F.SEC_DBG_OPEN))

/-! ## Interrupts -/

/-- IC_TGT_COMPLETE (R588: a completion write). -/
def execIcTgtComplete (ep : Fin 256) (t : Fin 8) (v : BitVec 32) (s : State) : Host.Outcome State Fault Refusal :=
  .next (s.busWrite ep (R.IC_TGT_COMPLETE t) v)

/-- SW_PEND (R583: a write of SW_PEND). -/
def execSwPend (ep : Fin 256) (n : Fin 1024) (v : BitVec 32) (s : State) : Host.Outcome State Fault Refusal :=
  .next (s.busWrite ep (R.IC_SRC n) (bitOn v F.IC_SRC_SW_PEND))

/-- DISCARD (R583: a write of DISCARD). -/
def execDiscard (ep : Fin 256) (n : Fin 1024) (v : BitVec 32) (s : State) : Host.Outcome State Fault Refusal :=
  .next (s.busWrite ep (R.IC_SRC n) (bitOn v F.IC_SRC_DISCARD))

/-! ## Mailboxes -/

/-- MBX_SEND (R536: a write of SEND). -/
def execMbxSend (ep : Fin 256) (m : Fin 7) (v : BitVec 32) (s : State) : Host.Outcome State Fault Refusal :=
  .next (s.busWrite ep (R.MBX_CTRL m) (bitOn v F.MBX_CTRL_SEND))

/-- MBX_CANCEL (R536: a write of CANCEL). -/
def execMbxCancel (ep : Fin 256) (m : Fin 7) (v : BitVec 32) (s : State) : Host.Outcome State Fault Refusal :=
  .next (s.busWrite ep (R.MBX_CTRL m) (bitOn v F.MBX_CTRL_CANCEL))

/-- MBX_SKIP (R536: a write of SKIP). -/
def execMbxSkip (ep : Fin 256) (m : Fin 7) (v : BitVec 32) (s : State) : Host.Outcome State Fault Refusal :=
  .next (s.busWrite ep (R.MBX_CTRL m) (bitOn v F.MBX_CTRL_SKIP))

/-- MBX_WDATA (R536: a write to MBX_WDATA). -/
def execMbxWdata (ep : Fin 256) (m : Fin 7) (v : BitVec 32) (s : State) : Host.Outcome State Fault Refusal :=
  .next (s.busWrite ep (R.MBX_WDATA m) v)

/-! ## Run control, watchdog and self-test -/

/-- HALT (R628: a write of HALT). -/
def execHalt (ep : Fin 256) (v : BitVec 32) (s : State) : Host.Outcome State Fault Refusal :=
  .next (s.busWrite ep R.DBG_RC (bitOn v F.DBG_RC_HALT))

/-- RESUME (R630: a write of RESUME). -/
def execResume (ep : Fin 256) (v : BitVec 32) (s : State) : Host.Outcome State Fault Refusal :=
  .next (s.busWrite ep R.DBG_RC (bitOn v F.DBG_RC_RESUME))

/-- DBG_STEP (R630: a write of STEP). -/
def execDbgStep (ep : Fin 256) (v : BitVec 32) (s : State) : Host.Outcome State Fault Refusal :=
  .next (s.busWrite ep R.DBG_RC (bitOn v F.DBG_RC_STEP))

/-- WDT_KICK (R633: a write to WDT_KICK). -/
def execWdtKick (ep : Fin 256) (v : BitVec 32) (s : State) : Host.Outcome State Fault Refusal :=
  .next (s.busWrite ep R.WDT_KICK v)

/-- WDT_DISABLE (R635: a write of EN at 0). -/
def execWdtDisable (ep : Fin 256) (v : BitVec 32) (s : State) : Host.Outcome State Fault Refusal :=
  .next (s.busWrite ep R.WDT_CTRL (bitOff v F.WDT_CTRL_EN))

/-- IST_RUN_START (R614: a write of START). -/
def execIstRunStart (ep : Fin 256) (v : BitVec 32) (s : State) : Host.Outcome State Fault Refusal :=
  .next (s.busWrite ep R.IST_RUN (bitOn v F.IST_RUN_START))

/-! ## Reads with a side effect -/

/-- COUNTER_READ_CLEAR (R12, R15: a read of a register). -/
def execCounterReadClear (ep : Fin 256) (off : Nat) (s : State) : Host.Outcome State Fault Refusal :=
  .next (s.busRead ep off)

/-- IC_TGT_CLAIM_READ (R586, R591: a claim read). -/
def execIcTgtClaimRead (ep : Fin 256) (t : Fin 8) (s : State) : Host.Outcome State Fault Refusal :=
  .next (s.busRead ep (R.IC_TGT_CLAIM t))

/-- ERR_POP0_READ (R604: a read of ERR_POP0). -/
def execErrPop0Read (ep : Fin 256) (s : State) : Host.Outcome State Fault Refusal := .next (s.busRead ep R.ERR_POP0)

/-- TIM_CAPF_W0_READ (R449: a read of TIM_CAPF_W0). -/
def execTimCapfW0Read (ep : Fin 256) (g : Fin 16) (s : State) : Host.Outcome State Fault Refusal :=
  .next (s.busRead ep (R.TIM_CAPF_W0 g))

/-- TIM_LN_TSF0_READ (R463: a read of TIM_LN_TSF0). -/
def execTimLnTsf0Read (ep : Fin 256) (n : Fin 144) (s : State) : Host.Outcome State Fault Refusal :=
  .next (s.busRead ep (R.TIM_LN_TSF0 n))

/-- MBX_RDATA (R536: a read of MBX_RDATA). -/
def execMbxRdata (ep : Fin 256) (m : Fin 7) (s : State) : Host.Outcome State Fault Refusal :=
  .next (s.busRead ep (R.MBX_RDATA m))

/-- BIND_WRITE (R235): a write to a binding register. -/
def execBindWrite (ep : Fin 256) (off : Nat) (v : BitVec 32) (s : State) : Host.Outcome State Fault Refusal :=
  .next (if regionReg off && 0x20500 ≤ off then s.busWrite ep off v else s)

/-- SECTOR_POWER_DOWN (R645): a write of SYS_PD_REQ with the sector's bit at 1 and the others as they are. -/
def execSectorPowerDown (ep : Fin 256) (sec : Fin 32) (s : State) : Host.Outcome State Fault Refusal :=
  .next (s.busWrite ep R.SYS_PD_REQ ((s.reg R.SYS_PD_REQ).fput ⟨sec, 1⟩ 1))

/-- SECTOR_POWER_UP (R646, R647): the same with the bit at 0. -/
def execSectorPowerUp (ep : Fin 256) (sec : Fin 32) (s : State) : Host.Outcome State Fault Refusal :=
  .next (s.busWrite ep R.SYS_PD_REQ ((s.reg R.SYS_PD_REQ).fput ⟨sec, 1⟩ 0))

end Sys2Proof.Machine
end

