-- ==== Sys2Proof/Machine/Dispatch.lean ====
section
/-! DEFINITION. Dispatch.lean: one arm for each command, each a call of that command's meaning. -/

namespace Sys2Proof.Machine

/-- The effect of a command on everything but the queue. -/
def exec (i : Instr) (s : State) : Host.Outcome State Fault Refusal :=
  match i with
  | .registerWrite ep off v => Sys2Proof.Machine.execRegisterWrite ep off v s
  | .counterReadClear ep off => Sys2Proof.Machine.execCounterReadClear ep off s
  | .supplyValid rail => Sys2Proof.Machine.execSupplyValid rail s
  | .supplyInvalid rail => Sys2Proof.Machine.execSupplyInvalid rail s
  | .powerOnResetRelease => Sys2Proof.Machine.execPowerOnResetRelease s
  | .porstNLow => Sys2Proof.Machine.execPorstNLow s
  | .porstNHigh => Sys2Proof.Machine.execPorstNHigh s
  | .resetExit mode i2c pullSel startN flash0 flash1 => Sys2Proof.Machine.execResetExit mode i2c pullSel startN flash0 flash1 s
  | .vccioChange bank valid => Sys2Proof.Machine.execVccioChange bank valid s
  | .firmwareVerified p => Sys2Proof.Machine.execFirmwareVerified p s
  | .containerHeaderCheck p => Sys2Proof.Machine.execContainerHeaderCheck p s
  | .containerBlockCheck p => Sys2Proof.Machine.execContainerBlockCheck p s
  | .nop p count data => Sys2Proof.Machine.execNop p count data s
  | .setFar p count data => Sys2Proof.Machine.execSetFar p count data s
  | .writeFrames p count data upset => Sys2Proof.Machine.execWriteFrames p count data upset s
  | .repeatFrame p count data upset => Sys2Proof.Machine.execRepeatFrame p count data upset s
  | .zeroFrames p count data upset => Sys2Proof.Machine.execZeroFrames p count data upset s
  | .bmContents p count data => Sys2Proof.Machine.execBmContents p count data s
  | .csrWrite p count data => Sys2Proof.Machine.execCsrWrite p count data s
  | .endPacket p count data => Sys2Proof.Machine.execEndPacket p count data s
  | .clearingDone => Sys2Proof.Machine.execClearingDone s
  | .cfgDoneObserved => Sys2Proof.Machine.execCfgDoneObserved s
  | .cfgStartNFall => Sys2Proof.Machine.execCfgStartNFall s
  | .cfgStartNRise => Sys2Proof.Machine.execCfgStartNRise s
  | .cfgRestart ep v => Sys2Proof.Machine.execCfgRestart ep v s
  | .busContentionDetect sec line => Sys2Proof.Machine.execBusContentionDetect sec line s
  | .fabBusContClear ep sec hi v => Sys2Proof.Machine.execFabBusContClear ep sec hi v s
  | .fabPrbApply ep sec v => Sys2Proof.Machine.execFabPrbApply ep sec v s
  | .fabPrbArm ep sec v => Sys2Proof.Machine.execFabPrbArm ep sec v s
  | .fabPrbStop ep sec v => Sys2Proof.Machine.execFabPrbStop ep sec v s
  | .probeTrigger sec before => Sys2Proof.Machine.execProbeTrigger sec before s
  | .probeCaptureDone sec => Sys2Proof.Machine.execProbeCaptureDone sec s
  | .bmRead sec b portB addr sr busy upset => Sys2Proof.Machine.execBmRead sec b portB addr sr busy upset s
  | .bmWrite sec b portB addr data be rd sr busy other => Sys2Proof.Machine.execBmWrite sec b portB addr data be rd sr busy other s
  | .bmNarrowWrite sec b portB addr data be rd sr busy => Sys2Proof.Machine.execBmNarrowWrite sec b portB addr data be rd sr busy s
  | .queueWrite q data => Sys2Proof.Machine.execQueueWrite q data s
  | .queueRead q => Sys2Proof.Machine.execQueueRead q s
  | .queueCrossing q toRead => Sys2Proof.Machine.execQueueCrossing q toRead s
  | .queueReset q => Sys2Proof.Machine.execQueueReset q s
  | .queueResetRelease q readSide => Sys2Proof.Machine.execQueueResetRelease q readSide s
  | .sliceOperation sec a x0 x1 y k fn psub valid ce rst => Sys2Proof.Machine.execSliceOperation sec a x0 x1 y k fn psub valid ce rst s
  | .exponentBlockClose sec a => Sys2Proof.Machine.execExponentBlockClose sec a s
  | .controlCycleStart sec a cycIn => Sys2Proof.Machine.execControlCycleStart sec a cycIn s
  | .shiftUpdate sec a => Sys2Proof.Machine.execShiftUpdate sec a s
  | .clockLossDeclared id => Sys2Proof.Machine.execClockLossDeclared id s
  | .referenceRecovered time => Sys2Proof.Machine.execReferenceRecovered time s
  | .pllLock id => Sys2Proof.Machine.execPllLock id s
  | .leafGateReopen sec => Sys2Proof.Machine.execLeafGateReopen sec s
  | .nocFreqChange ep v => Sys2Proof.Machine.execNocFreqChange ep v s
  | .clkMeasStart ep v => Sys2Proof.Machine.execClkMeasStart ep v s
  | .clkMeasDone edges => Sys2Proof.Machine.execClkMeasDone edges s
  | .cfgStgStart ep v => Sys2Proof.Machine.execCfgStgStart ep v s
  | .shadowVerified r => Sys2Proof.Machine.execShadowVerified r s
  | .bindWrite ep off v => Sys2Proof.Machine.execBindWrite ep off v s
  | .shdGenWrite ep r v => Sys2Proof.Machine.execShdGenWrite ep r v s
  | .cfgArm ep v => Sys2Proof.Machine.execCfgArm ep v s
  | .cfgDisarm ep v => Sys2Proof.Machine.execCfgDisarm ep v s
  | .cfgFireGo ep v => Sys2Proof.Machine.execCfgFireGo ep v s
  | .fireStrobeEdge => Sys2Proof.Machine.execFireStrobeEdge s
  | .firing => Sys2Proof.Machine.execFiring s
  | .firingCrossing b => Sys2Proof.Machine.execFiringCrossing b s
  | .minimumHoldEnd r => Sys2Proof.Machine.execMinimumHoldEnd r s
  | .cfgHoldRelease ep v => Sys2Proof.Machine.execCfgHoldRelease ep v s
  | .cfgHoldEnter ep v => Sys2Proof.Machine.execCfgHoldEnter ep v s
  | .cfgHldStart ep v => Sys2Proof.Machine.execCfgHldStart ep v s
  | .wedgingStart => Sys2Proof.Machine.execWedgingStart s
  | .scrubPosition sec upA upS => Sys2Proof.Machine.execScrubPosition sec upA upS s
  | .wedgingEnd ns => Sys2Proof.Machine.execWedgingEnd ns s
  | .mapLookupDone lost => Sys2Proof.Machine.execMapLookupDone lost s
  | .mapCheckDone region shd => Sys2Proof.Machine.execMapCheckDone region shd s
  | .refetch lost => Sys2Proof.Machine.execRefetch lost s
  | .refetchDone => Sys2Proof.Machine.execRefetchDone s
  | .voterDisagreement => Sys2Proof.Machine.execVoterDisagreement s
  | .scrInjGo ep v => Sys2Proof.Machine.execScrInjGo ep v s
  | .scrInjVoter ep v => Sys2Proof.Machine.execScrInjVoter ep v s
  | .nocRequestIssue ni cmd vn addr len data ltag => Sys2Proof.Machine.execNocRequestIssue ni cmd vn addr len data ltag s
  | .routerHop k err => Sys2Proof.Machine.execRouterHop k err s
  | .nocRequestArrival e act => Sys2Proof.Machine.execNocRequestArrival e act s
  | .nocResponseArrival e => Sys2Proof.Machine.execNocResponseArrival e s
  | .niRequestTimeout e ltag => Sys2Proof.Machine.execNiRequestTimeout e ltag s
  | .niTargetTimeout e => Sys2Proof.Machine.execNiTargetTimeout e s
  | .niRtHiWrite ep e d v => Sys2Proof.Machine.execNiRtHiWrite ep e d v s
  | .niApply ep e v => Sys2Proof.Machine.execNiApply ep e v s
  | .nocApply ep n v => Sys2Proof.Machine.execNocApply ep n v s
  | .nocPortChangeDone n => Sys2Proof.Machine.execNocPortChangeDone n s
  | .linkStateChange n port up => Sys2Proof.Machine.execLinkStateChange n port up s
  | .fenceClose n => Sys2Proof.Machine.execFenceClose n s
  | .fenceOpen sec => Sys2Proof.Machine.execFenceOpen sec s
  | .lqApply ep q v => Sys2Proof.Machine.execLqApply ep q v s
  | .laneSafePoint n => Sys2Proof.Machine.execLaneSafePoint n s
  | .lanePllLocked n => Sys2Proof.Machine.execLanePllLocked n s
  | .cdrLock n => Sys2Proof.Machine.execCdrLock n s
  | .lolSet n => Sys2Proof.Machine.execLolSet n s
  | .losSet n mv => Sys2Proof.Machine.execLosSet n mv s
  | .losClear n mv => Sys2Proof.Machine.execLosClear n mv s
  | .adaptationDone n ctle taps => Sys2Proof.Machine.execAdaptationDone n ctle taps s
  | .adaptationTimeout n => Sys2Proof.Machine.execAdaptationTimeout n s
  | .refClockLost q one => Sys2Proof.Machine.execRefClockLost q one s
  | .refClockPresent q one hz => Sys2Proof.Machine.execRefClockPresent q one hz s
  | .lanePllUnlock q ring => Sys2Proof.Machine.execLanePllUnlock q ring s
  | .pmaRst ep n v => Sys2Proof.Machine.execPmaRst ep n v s
  | .prbsInj ep n v => Sys2Proof.Machine.execPrbsInj ep n v s
  | .prbsClr ep n v => Sys2Proof.Machine.execPrbsClr ep n v s
  | .prbsSync n => Sys2Proof.Machine.execPrbsSync n s
  | .prbsLost n bits errs => Sys2Proof.Machine.execPrbsLost n bits errs s
  | .eyeScanStart ep n v => Sys2Proof.Machine.execEyeScanStart ep n v s
  | .eyeScanDone n errs => Sys2Proof.Machine.execEyeScanDone n errs s
  | .lockAcquired n pos => Sys2Proof.Machine.execLockAcquired n pos s
  | .lockLost n => Sys2Proof.Machine.execLockLost n s
  | .slip ep n v => Sys2Proof.Machine.execSlip ep n v s
  | .slipDone n => Sys2Proof.Machine.execSlipDone n s
  | .hiBerSet n bad => Sys2Proof.Machine.execHiBerSet n bad s
  | .hiBerClear n bad => Sys2Proof.Machine.execHiBerClear n bad s
  | .fecUncorrectable n errs => Sys2Proof.Machine.execFecUncorrectable n errs s
  | .txUnderrun n => Sys2Proof.Machine.execTxUnderrun n s
  | .rxWordDrop n => Sys2Proof.Machine.execRxWordDrop n s
  | .groupApply ep g v => Sys2Proof.Machine.execGroupApply ep g v s
  | .groupHoldoffExpiry g => Sys2Proof.Machine.execGroupHoldoffExpiry g s
  | .groupDeskewDone g spread => Sys2Proof.Machine.execGroupDeskewDone g spread s
  | .groupDeskewFail g spread lane => Sys2Proof.Machine.execGroupDeskewFail g spread lane s
  | .groupMarkerError g lane => Sys2Proof.Machine.execGroupMarkerError g lane s
  | .skmEnable ep e v => Sys2Proof.Machine.execSkmEnable ep e v s
  | .skmDisable ep e v => Sys2Proof.Machine.execSkmDisable ep e v s
  | .skmRestart ep e v => Sys2Proof.Machine.execSkmRestart ep e v s
  | .skmRelease ep e v => Sys2Proof.Machine.execSkmRelease ep e v s
  | .skmRefire ep e v => Sys2Proof.Machine.execSkmRefire ep e v s
  | .skmOrderedSetReceived e os => Sys2Proof.Machine.execSkmOrderedSetReceived e os s
  | .skmDetectTimeout e => Sys2Proof.Machine.execSkmDetectTimeout e s
  | .skmOfferTimeout e => Sys2Proof.Machine.execSkmOfferTimeout e s
  | .skmProgressTimeout e => Sys2Proof.Machine.execSkmProgressTimeout e s
  | .skmCommitTimeout e => Sys2Proof.Machine.execSkmCommitTimeout e s
  | .skmBackoffTimeout e => Sys2Proof.Machine.execSkmBackoffTimeout e s
  | .skmDwellTimeout e => Sys2Proof.Machine.execSkmDwellTimeout e s
  | .skmListenLock e => Sys2Proof.Machine.execSkmListenLock e s
  | .skmLanesUp e => Sys2Proof.Machine.execSkmLanesUp e s
  | .skmUpTimeout e => Sys2Proof.Machine.execSkmUpTimeout e s
  | .skmRemovalTimeout e => Sys2Proof.Machine.execSkmRemovalTimeout e s
  | .skmRenegTimeout e => Sys2Proof.Machine.execSkmRenegTimeout e s
  | .timSetWrite ep d v => Sys2Proof.Machine.execTimSetWrite ep d v s
  | .timStepWrite ep d v => Sys2Proof.Machine.execTimStepWrite ep d v s
  | .timSlewWrite ep d v => Sys2Proof.Machine.execTimSlewWrite ep d v s
  | .slewDone d => Sys2Proof.Machine.execSlewDone d s
  | .timSnapWrite ep d v => Sys2Proof.Machine.execTimSnapWrite ep d v s
  | .servoSampleSubmit ep d v => Sys2Proof.Machine.execServoSampleSubmit ep d v s
  | .servoSampleProcess d => Sys2Proof.Machine.execServoSampleProcess d s
  | .servoEnable ep d v => Sys2Proof.Machine.execServoEnable ep d v s
  | .ppsInEdge j rising after sub => Sys2Proof.Machine.execPpsInEdge j rising after sub s
  | .ppsOutPulse j => Sys2Proof.Machine.execPpsOutPulse j s
  | .coneArm ep n v => Sys2Proof.Machine.execConeArm ep n v s
  | .coneDisarm ep n v => Sys2Proof.Machine.execConeDisarm ep n v s
  | .coneEvent n => Sys2Proof.Machine.execConeEvent n s
  | .coneEventDelivery => Sys2Proof.Machine.execConeEventDelivery s
  | .captureEdge src rising after sub => Sys2Proof.Machine.execCaptureEdge src rising after sub s
  | .timCapfW0Read ep g => Sys2Proof.Machine.execTimCapfW0Read ep g s
  | .rxFrameStart n pos after sub => Sys2Proof.Machine.execRxFrameStart n pos after sub s
  | .txFrameStart n cmd tag encap ptpoff base frame pos after sub => Sys2Proof.Machine.execTxFrameStart n cmd tag encap ptpoff base frame pos after sub s
  | .timLnTsf0Read ep n => Sys2Proof.Machine.execTimLnTsf0Read ep n s
  | .twoStepPortPop n => Sys2Proof.Machine.execTwoStepPortPop n s
  | .mcEnable ep c v => Sys2Proof.Machine.execMcEnable ep c v s
  | .mcDisable ep c v => Sys2Proof.Machine.execMcDisable ep c v s
  | .mcQueuesDrained c => Sys2Proof.Machine.execMcQueuesDrained c s
  | .mcSrEnter ep c v => Sys2Proof.Machine.execMcSrEnter ep c v s
  | .mcSrExit ep c v => Sys2Proof.Machine.execMcSrExit ep c v s
  | .mcIdleTimeout c => Sys2Proof.Machine.execMcIdleTimeout c s
  | .mcSelfRefreshEntry c => Sys2Proof.Machine.execMcSelfRefreshEntry c s
  | .mcSrExitStart c => Sys2Proof.Machine.execMcSrExitStart c s
  | .mcSrExitDone c => Sys2Proof.Machine.execMcSrExitDone c s
  | .mcInit ep c v => Sys2Proof.Machine.execMcInit ep c v s
  | .mcInitDone c => Sys2Proof.Machine.execMcInitDone c s
  | .mcFreeze ep c v => Sys2Proof.Machine.execMcFreeze ep c v s
  | .mcUnfreeze ep c v => Sys2Proof.Machine.execMcUnfreeze ep c v s
  | .mcMapApply ep v => Sys2Proof.Machine.execMcMapApply ep v s
  | .mcRequestAdmit c port => Sys2Proof.Machine.execMcRequestAdmit c port s
  | .mcCommandIssue c upset => Sys2Proof.Machine.execMcCommandIssue c upset s
  | .mcReadComplete c => Sys2Proof.Machine.execMcReadComplete c s
  | .mcParityAlert c => Sys2Proof.Machine.execMcParityAlert c s
  | .mcReplay c => Sys2Proof.Machine.execMcReplay c s
  | .mtStart ep c v => Sys2Proof.Machine.execMtStart ep c v s
  | .mtEndPass ep c v => Sys2Proof.Machine.execMtEndPass ep c v s
  | .mtEndFail ep c v => Sys2Proof.Machine.execMtEndFail ep c v s
  | .mtCommit ep c v => Sys2Proof.Machine.execMtCommit ep c v s
  | .mtCommitDone c => Sys2Proof.Machine.execMtCommitDone c s
  | .mtRunStart ep c v => Sys2Proof.Machine.execMtRunStart ep c v s
  | .mtRunDone c fails errs pass => Sys2Proof.Machine.execMtRunDone c fails errs pass s
  | .mtTrainingTimeout c => Sys2Proof.Machine.execMtTrainingTimeout c s
  | .mtPrEnable ep c v => Sys2Proof.Machine.execMtPrEnable ep c v s
  | .retrainPeriodExpiry c => Sys2Proof.Machine.execRetrainPeriodExpiry c s
  | .retrainSweepDone c pass => Sys2Proof.Machine.execRetrainSweepDone c pass s
  | .hspStatus n => Sys2Proof.Machine.execHspStatus n s
  | .hspWrite bytes => Sys2Proof.Machine.execHspWrite bytes s
  | .hspRead n => Sys2Proof.Machine.execHspRead n s
  | .i2cAppend bytes pec => Sys2Proof.Machine.execI2cAppend bytes pec s
  | .i2cSend => Sys2Proof.Machine.execI2cSend s
  | .i2cCancel => Sys2Proof.Machine.execI2cCancel s
  | .i2cStatus pec => Sys2Proof.Machine.execI2cStatus pec s
  | .i2cRead n => Sys2Proof.Machine.execI2cRead n s
  | .i2cRewind => Sys2Proof.Machine.execI2cRewind s
  | .i2cSclTimeout => Sys2Proof.Machine.execI2cSclTimeout s
  | .mbxSend ep m v => Sys2Proof.Machine.execMbxSend ep m v s
  | .mbxCancel ep m v => Sys2Proof.Machine.execMbxCancel ep m v s
  | .mbxSkip ep m v => Sys2Proof.Machine.execMbxSkip ep m v s
  | .mbxWdata ep m v => Sys2Proof.Machine.execMbxWdata ep m v s
  | .mbxRdata ep m => Sys2Proof.Machine.execMbxRdata ep m s
  | .mbxRequestTake m => Sys2Proof.Machine.execMbxRequestTake m s
  | .getVersions m => Sys2Proof.Machine.execGetVersions m s
  | .openSession m => Sys2Proof.Machine.execOpenSession m s
  | .authResponse m => Sys2Proof.Machine.execAuthResponse m s
  | .closeSession m => Sys2Proof.Machine.execCloseSession m s
  | .keepalive m => Sys2Proof.Machine.execKeepalive m s
  | .getIdentity m => Sys2Proof.Machine.execGetIdentity m s
  | .getAttestation m => Sys2Proof.Machine.execGetAttestation m s
  | .getBootStatus m => Sys2Proof.Machine.execGetBootStatus m s
  | .loadBegin m => Sys2Proof.Machine.execLoadBegin m s
  | .loadData m => Sys2Proof.Machine.execLoadData m s
  | .loadEnd m => Sys2Proof.Machine.execLoadEnd m s
  | .loadDataTimeout => Sys2Proof.Machine.execLoadDataTimeout s
  | .stageFlash m => Sys2Proof.Machine.execStageFlash m s
  | .armCommand m => Sys2Proof.Machine.execArmCommand m s
  | .fireCommand m => Sys2Proof.Machine.execFireCommand m s
  | .holdCommand m => Sys2Proof.Machine.execHoldCommand m s
  | .regionStatus m => Sys2Proof.Machine.execRegionStatus m s
  | .frameReadback m => Sys2Proof.Machine.execFrameReadback m s
  | .flashRead m => Sys2Proof.Machine.execFlashRead m s
  | .flashWrite m => Sys2Proof.Machine.execFlashWrite m s
  | .dirUpdate m => Sys2Proof.Machine.execDirUpdate m s
  | .restartConfig m => Sys2Proof.Machine.execRestartConfig m s
  | .regRead m => Sys2Proof.Machine.execRegRead m s
  | .regWrite m => Sys2Proof.Machine.execRegWrite m s
  | .regModify m => Sys2Proof.Machine.execRegModify m s
  | .timeGet m => Sys2Proof.Machine.execTimeGet m s
  | .timeSet m => Sys2Proof.Machine.execTimeSet m s
  | .timeOffset m => Sys2Proof.Machine.execTimeOffset m s
  | .coneSet m => Sys2Proof.Machine.execConeSet m s
  | .laneStatus m => Sys2Proof.Machine.execLaneStatus m s
  | .laneApply m => Sys2Proof.Machine.execLaneApply m s
  | .eyeScan m => Sys2Proof.Machine.execEyeScan m s
  | .slotStatus m => Sys2Proof.Machine.execSlotStatus m s
  | .slotRestart m => Sys2Proof.Machine.execSlotRestart m s
  | .slotRelease m => Sys2Proof.Machine.execSlotRelease m s
  | .slotConfig m => Sys2Proof.Machine.execSlotConfig m s
  | .memStatus m => Sys2Proof.Machine.execMemStatus m s
  | .memTrain m => Sys2Proof.Machine.execMemTrain m s
  | .memMap m => Sys2Proof.Machine.execMemMap m s
  | .memRetire m => Sys2Proof.Machine.execMemRetire m s
  | .logPop m => Sys2Proof.Machine.execLogPop m s
  | .logCounters m => Sys2Proof.Machine.execLogCounters m s
  | .selftestRun m => Sys2Proof.Machine.execSelftestRun m s
  | .injectCommand m => Sys2Proof.Machine.execInjectCommand m s
  | .marchRun m => Sys2Proof.Machine.execMarchRun m s
  | .lcGet m => Sys2Proof.Machine.execLcGet m s
  | .lcAdvance m => Sys2Proof.Machine.execLcAdvance m s
  | .keyProgram m => Sys2Proof.Machine.execKeyProgram m s
  | .keyRevoke m => Sys2Proof.Machine.execKeyRevoke m s
  | .debugUnlock m => Sys2Proof.Machine.execDebugUnlock m s
  | .sessionAuthTimeout handle => Sys2Proof.Machine.execSessionAuthTimeout handle s
  | .sessionLockoutEnd m => Sys2Proof.Machine.execSessionLockoutEnd m s
  | .sessionIdleTimeout handle => Sys2Proof.Machine.execSessionIdleTimeout handle s
  | .scratchpadAccess op upset => Sys2Proof.Machine.execScratchpadAccess op upset s
  | .marchSliceDone bad => Sys2Proof.Machine.execMarchSliceDone bad s
  | .marchSliceYield w => Sys2Proof.Machine.execMarchSliceYield w s
  | .tamperTrip j level => Sys2Proof.Machine.execTamperTrip j level s
  | .secWipeStart ep v => Sys2Proof.Machine.execSecWipeStart ep v s
  | .wipeDone => Sys2Proof.Machine.execWipeDone s
  | .secFuseGo ep v => Sys2Proof.Machine.execSecFuseGo ep v s
  | .fuseProgramDone ok => Sys2Proof.Machine.execFuseProgramDone ok s
  | .secDbgOpen ep v => Sys2Proof.Machine.execSecDbgOpen ep v s
  | .interruptSourceRaise n level => Sys2Proof.Machine.execInterruptSourceRaise n level s
  | .icTgtClaimRead ep t => Sys2Proof.Machine.execIcTgtClaimRead ep t s
  | .icTgtComplete ep t v => Sys2Proof.Machine.execIcTgtComplete ep t v s
  | .swPend ep n v => Sys2Proof.Machine.execSwPend ep n v s
  | .discard ep n v => Sys2Proof.Machine.execDiscard ep n v s
  | .holdoffExpiry g => Sys2Proof.Machine.execHoldoffExpiry g s
  | .icSleep => Sys2Proof.Machine.execIcSleep s
  | .icWake => Sys2Proof.Machine.execIcWake s
  | .errorReportAccept => Sys2Proof.Machine.execErrorReportAccept s
  | .errPop0Read ep => Sys2Proof.Machine.execErrPop0Read ep s
  | .istSweepStart => Sys2Proof.Machine.execIstSweepStart s
  | .istSliceStart => Sys2Proof.Machine.execIstSliceStart s
  | .istSliceDone tgt fail => Sys2Proof.Machine.execIstSliceDone tgt fail s
  | .istSliceAbandon tgt => Sys2Proof.Machine.execIstSliceAbandon tgt s
  | .istRunStart ep v => Sys2Proof.Machine.execIstRunStart ep v s
  | .tapReset => Sys2Proof.Machine.execTapReset s
  | .extest cells => Sys2Proof.Machine.execExtest cells s
  | .samplePreload cells => Sys2Proof.Machine.execSamplePreload cells s
  | .idcode => Sys2Proof.Machine.execIdcode s
  | .highz => Sys2Proof.Machine.execHighz s
  | .clamp => Sys2Proof.Machine.execClamp s
  | .extestPulse cells => Sys2Proof.Machine.execExtestPulse cells s
  | .extestTrain cells => Sys2Proof.Machine.execExtestTrain cells s
  | .bypass => Sys2Proof.Machine.execBypass s
  | .mbxAccess => Sys2Proof.Machine.execMbxAccess s
  | .jtagMbxAppend v => Sys2Proof.Machine.execJtagMbxAppend v s
  | .jtagMbxCommit => Sys2Proof.Machine.execJtagMbxCommit s
  | .jtagMbxPop => Sys2Proof.Machine.execJtagMbxPop s
  | .cfgLoad => Sys2Proof.Machine.execCfgLoad s
  | .cfgLoadAppend v => Sys2Proof.Machine.execCfgLoadAppend v s
  | .dbgAccess => Sys2Proof.Machine.execDbgAccess s
  | .dbgAccessRead addr => Sys2Proof.Machine.execDbgAccessRead addr s
  | .dbgAccessWrite addr v => Sys2Proof.Machine.execDbgAccessWrite addr v s
  | .debugAccessComplete => Sys2Proof.Machine.execDebugAccessComplete s
  | .runCtrl v => Sys2Proof.Machine.execRunCtrl v s
  | .scanEntry => Sys2Proof.Machine.execScanEntry s
  | .scanStateReached => Sys2Proof.Machine.execScanStateReached s
  | .scanData => Sys2Proof.Machine.execScanData s
  | .halt ep v => Sys2Proof.Machine.execHalt ep v s
  | .coreHalt pc broken => Sys2Proof.Machine.execCoreHalt pc broken s
  | .resume ep v => Sys2Proof.Machine.execResume ep v s
  | .dbgStep ep v => Sys2Proof.Machine.execDbgStep ep v s
  | .wdtKick ep v => Sys2Proof.Machine.execWdtKick ep v s
  | .wdtExpiry => Sys2Proof.Machine.execWdtExpiry s
  | .wdtDisable ep v => Sys2Proof.Machine.execWdtDisable ep v s
  | .sectorPowerDown ep sec => Sys2Proof.Machine.execSectorPowerDown ep sec s
  | .sectorSupplyRemoved sec => Sys2Proof.Machine.execSectorSupplyRemoved sec s
  | .sectorPowerUp ep sec => Sys2Proof.Machine.execSectorPowerUp ep sec s
  | .sectorPowerRestored sec => Sys2Proof.Machine.execSectorPowerRestored sec s
  | .tempSensorUpdate temp => Sys2Proof.Machine.execTempSensorUpdate temp s
  | .fenceTargetTimeout e => Sys2Proof.Machine.execFenceTargetTimeout e s
  | .fuseSupplyInvalid => Sys2Proof.Machine.execFuseSupplyInvalid s
  | .skmAbortTimeout e => Sys2Proof.Machine.execSkmAbortTimeout e s
  | .cfgDoneFall => Sys2Proof.Machine.execCfgDoneFall s
  | .receiveCodeError n unit => Sys2Proof.Machine.execReceiveCodeError n unit s
  | .invalidTransmitUnit n unit => Sys2Proof.Machine.execInvalidTransmitUnit n unit s

end Sys2Proof.Machine
end

