-- ==== Sys2Proof/WellFormed.lean ====
section
/-! DEFINITION. WellFormed.lean: the operands that a sender, the board or the network can present. No meaning rests on it:
each is total and says what an operand outside these ranges does. -/

namespace Sys2Proof

/-- The words that follow the header of a packet of an opcode (R189): none where COUNT is not one the opcode allows. -/
def shapeWords (op count : Nat) : Option Nat :=
  match op with
  | 0 => some count
  | 1 => if count == 1 then some 1 else none
  | 2 => if count == 0 then none else some (65 * count)
  | 3 => if count == 0 then none else some 65
  | 4 => if count == 0 then none else some 0
  | 5 => if count == 2049 || count == 2305 then some count else none
  | 6 => if count % 3 == 0 then some count else none
  | 7 => if count == 1 then some 1 else none
  | _ => none

/-- COUNT fits its 24 bits and agrees with the opcode and the data (R189). -/
def packetShape (op count words : Nat) : Bool := count < 2 ^ 24 && shapeWords op count == some words

/-- A register's offset in the CSR space (R37, R39): a multiple of 4. -/
def regOff (off : Nat) : Bool := off % 4 == 0 && off < 0x3200000

/-- A port address of a block memory (R88): 16 bits hold the deepest shape. -/
def portAddr (addr : Nat) : Bool := addr < 2 ^ 16

/-- What the core may present at its private port (R517, R522, R526). -/
def padOp : PadOp → Bool
  | .read _ => true
  | .write _ off bytes => 0 < bytes.length && off.val + bytes.length ≤ 8
  | .window base log => 12 ≤ log && log ≤ 18 && base * 2 ^ log < 2 ^ 22

/-- A command that can be presented. -/
def Instr.wf (i : Instr) : Bool :=
  match i with
  | .registerWrite _ off _ => regOff off
  | .counterReadClear _ off => regOff off
  | .nop _ count data => packetShape 0 count data.length
  | .setFar _ count data => packetShape 1 count data.length
  | .writeFrames _ count data up => packetShape 2 count data.length && (match up with | some x => x.1 < count | none => true)
  | .repeatFrame _ count data up => packetShape 3 count data.length && (match up with | some x => x.1 < count | none => true)
  | .zeroFrames _ count data up => packetShape 4 count data.length && (match up with | some x => x.1 < count | none => true)
  | .bmContents _ count data => packetShape 5 count data.length
  | .csrWrite _ count data => packetShape 6 count data.length
  | .endPacket _ count data => packetShape 7 count data.length
  | .bmRead _ _ _ addr _ _ _ => portAddr addr
  | .bmWrite _ _ _ addr _ _ _ _ _ other => portAddr addr && (match other with | some x => portAddr x.addr | none => true)
  | .bmNarrowWrite _ _ _ addr _ _ _ _ _ => portAddr addr
  | .bindWrite _ off _ => regOff off
  | .nocRequestIssue _ cmd vn _ _ data _ => vn < 4 && cmd < 128 && data.length ≤ 512
  | .skmOrderedSetReceived _ os => os.length == 8
  | .mtRunDone _ _ _ pass => pass.length ≤ 72
  | .retrainSweepDone _ pass => pass.length ≤ 72
  | .scratchpadAccess op _ => padOp op
  | .hspWrite bytes => bytes.length ≤ 65536
  | .i2cAppend bytes _ => 0 < bytes.length && bytes.length ≤ 255
  | .firmwareVerified _ | .containerHeaderCheck _ | .containerBlockCheck _ | .clearingDone | .cfgDoneObserved
  | .cfgStartNFall | .cfgStartNRise | .cfgRestart _ _ | .busContentionDetect _ _ | .fabBusContClear _ _ _ _
  | .fabPrbApply _ _ _ | .fabPrbArm _ _ _ | .fabPrbStop _ _ _ | .probeTrigger _ _ | .probeCaptureDone _
  | .queueWrite _ _ | .queueRead _ | .queueCrossing _ _ | .queueReset _ | .queueResetRelease _ _ | .cfgStgStart _ _
  | .shadowVerified _ | .shdGenWrite _ _ _ | .cfgArm _ _ | .cfgDisarm _ _ | .cfgFireGo _ _ | .fireStrobeEdge
  | .firing | .firingCrossing _ | .minimumHoldEnd _ | .cfgHoldRelease _ _ | .cfgHoldEnter _ _ | .cfgHldStart _ _
  | .wedgingStart | .scrubPosition _ _ _ | .wedgingEnd _ | .mapLookupDone _ | .mapCheckDone _ _ | .refetch _
  | .refetchDone | .voterDisagreement | .scrInjGo _ _ | .scrInjVoter _ _ | .routerHop _ _ | .nocRequestArrival _ _
  | .nocResponseArrival _ | .niRequestTimeout _ _ | .niTargetTimeout _ | .niRtHiWrite _ _ _ _ | .niApply _ _ _
  | .nocApply _ _ _ | .nocPortChangeDone _ | .linkStateChange _ _ _ | .fenceClose _ | .fenceOpen _
  | .fenceTargetTimeout _ | .tamperTrip _ _ | .secWipeStart _ _ | .wipeDone | .secFuseGo _ _ | .fuseProgramDone _
  | .secDbgOpen _ _ | .interruptSourceRaise _ _ | .icTgtClaimRead _ _ | .icTgtComplete _ _ _ | .swPend _ _ _
  | .discard _ _ _ | .holdoffExpiry _ | .icSleep | .icWake | .errorReportAccept | .errPop0Read _
  | .sliceOperation _ _ _ _ _ _ _ _ _ _ _ | .exponentBlockClose _ _ | .controlCycleStart _ _ _ | .shiftUpdate _ _
  | .clockLossDeclared _ | .referenceRecovered _ | .pllLock _ | .leafGateReopen _ | .nocFreqChange _ _
  | .clkMeasStart _ _ | .clkMeasDone _ | .lqApply _ _ _ | .laneSafePoint _ | .lanePllLocked _ | .cdrLock _
  | .lolSet _ | .losSet _ _ | .losClear _ _ | .adaptationDone _ _ _ | .adaptationTimeout _ | .refClockLost _ _
  | .refClockPresent _ _ _ | .lanePllUnlock _ _ | .pmaRst _ _ _ | .prbsInj _ _ _ | .prbsClr _ _ _ | .prbsSync _
  | .prbsLost _ _ _ | .eyeScanStart _ _ _ | .eyeScanDone _ _ | .lockAcquired _ _ | .lockLost _ | .slip _ _ _
  | .slipDone _ | .hiBerSet _ _ | .hiBerClear _ _ | .fecUncorrectable _ _ | .txUnderrun _ | .rxWordDrop _
  | .receiveCodeError _ _ | .invalidTransmitUnit _ _ | .groupApply _ _ _ | .groupHoldoffExpiry _
  | .groupDeskewDone _ _ | .groupDeskewFail _ _ _ | .groupMarkerError _ _ | .skmEnable _ _ _ | .skmDisable _ _ _
  | .skmRestart _ _ _ | .skmRelease _ _ _ | .skmRefire _ _ _ | .skmDetectTimeout _ | .skmOfferTimeout _
  | .skmProgressTimeout _ | .skmCommitTimeout _ | .skmBackoffTimeout _ | .skmDwellTimeout _ | .skmListenLock _
  | .skmLanesUp _ | .skmUpTimeout _ | .skmRemovalTimeout _ | .skmRenegTimeout _ | .skmAbortTimeout _
  | .timSetWrite _ _ _ | .timStepWrite _ _ _ | .timSlewWrite _ _ _ | .slewDone _ | .timSnapWrite _ _ _
  | .servoSampleSubmit _ _ _ | .servoSampleProcess _ | .servoEnable _ _ _ | .ppsInEdge _ _ _ _ | .ppsOutPulse _
  | .coneArm _ _ _ | .coneDisarm _ _ _ | .coneEvent _ | .coneEventDelivery | .captureEdge _ _ _ _
  | .timCapfW0Read _ _ | .rxFrameStart _ _ _ _ | .txFrameStart _ _ _ _ _ _ _ _ _ _ | .timLnTsf0Read _ _
  | .twoStepPortPop _ | .mcEnable _ _ _ | .mcDisable _ _ _ | .mcQueuesDrained _ | .mcSrEnter _ _ _
  | .mcSrExit _ _ _ | .mcIdleTimeout _ | .mcSelfRefreshEntry _ | .mcSrExitStart _ | .mcSrExitDone _ | .mcInit _ _ _
  | .mcInitDone _ | .mcFreeze _ _ _ | .mcUnfreeze _ _ _ | .mcMapApply _ _ | .mcRequestAdmit _ _
  | .mcCommandIssue _ _ | .mcReadComplete _ | .mcParityAlert _ | .mcReplay _ | .mtStart _ _ _ | .mtEndPass _ _ _
  | .mtEndFail _ _ _ | .mtCommit _ _ _ | .mtCommitDone _ | .mtRunStart _ _ _ | .mtTrainingTimeout _
  | .mtPrEnable _ _ _ | .retrainPeriodExpiry _ | .marchSliceDone _ | .marchSliceYield _ | .supplyValid _
  | .supplyInvalid _ | .powerOnResetRelease | .porstNLow | .porstNHigh | .resetExit _ _ _ _ _ _ | .vccioChange _ _
  | .fuseSupplyInvalid | .cfgDoneFall | .sectorPowerDown _ _ | .sectorSupplyRemoved _ | .sectorPowerUp _ _
  | .sectorPowerRestored _ | .tempSensorUpdate _ | .hspStatus _ | .hspRead _ | .i2cSend | .i2cCancel | .i2cStatus _
  | .i2cRead _ | .i2cRewind | .i2cSclTimeout | .jtagMbxAppend _ | .jtagMbxCommit | .jtagMbxPop | .mbxSend _ _ _
  | .mbxCancel _ _ _ | .mbxSkip _ _ _ | .mbxWdata _ _ _ | .mbxRdata _ _ | .coreHalt _ _ | .halt _ _ | .resume _ _
  | .dbgStep _ _ | .wdtKick _ _ | .wdtExpiry | .wdtDisable _ _ | .istSweepStart | .istSliceStart
  | .istSliceDone _ _ | .istSliceAbandon _ | .istRunStart _ _ | .tapReset | .extest _ | .samplePreload _ | .idcode
  | .highz | .clamp | .extestPulse _ | .extestTrain _ | .bypass | .mbxAccess | .cfgLoad | .cfgLoadAppend _
  | .dbgAccess | .dbgAccessRead _ | .dbgAccessWrite _ _ | .debugAccessComplete | .runCtrl _ | .scanEntry
  | .scanStateReached | .scanData | .mbxRequestTake _ | .getVersions _ | .openSession _ | .authResponse _
  | .closeSession _ | .keepalive _ | .getIdentity _ | .getAttestation _ | .getBootStatus _ | .loadBegin _
  | .loadData _ | .loadEnd _ | .stageFlash _ | .armCommand _ | .fireCommand _ | .holdCommand _ | .regionStatus _
  | .frameReadback _ | .flashRead _ | .flashWrite _ | .dirUpdate _ | .restartConfig _ | .regRead _ | .regWrite _
  | .regModify _ | .timeGet _ | .timeSet _ | .timeOffset _ | .coneSet _ | .laneStatus _ | .laneApply _ | .eyeScan _
  | .slotStatus _ | .slotRestart _ | .slotRelease _ | .slotConfig _ | .memStatus _ | .memTrain _ | .memMap _
  | .memRetire _ | .logPop _ | .logCounters _ | .selftestRun _ | .injectCommand _ | .marchRun _ | .lcGet _
  | .lcAdvance _ | .keyProgram _ | .keyRevoke _ | .debugUnlock _ | .sessionAuthTimeout _ | .sessionLockoutEnd _
  | .sessionIdleTimeout _ | .loadDataTimeout => true

end Sys2Proof
end

