-- ==== Sys2Proof/Safety.lean ====
section
/-! DEFINITION. Safety.lean: what it is for a step to be safe, for a command to complete, for a next state to keep every
part but some, and the canonical forms of the state: the terms that the statements use. -/

namespace Sys2Proof.Machine

/-- A step is safe: it ends in a next state, not in a fault and not in a refusal. -/
def SafeAt (s : State) : Prop := ∃ t, step s = .next t

/-- Command `i` completes at `s` with a next state of which `P` holds. -/
def Completes (i : Instr) (s : State) (P : State → Prop) : Prop := ∃ t, exec i s = .next t ∧ P t

/-- The parts of the state. -/
inductive Part where
  | csr
  | stg
  | ic
  | err
  | act
  | shd
  | rgn
  | base
  | boot
  | gate
  | scrub
  | fab
  | noc
  | fuses
  | sec
  | tim
  | ser
  | board
  | pad
  | mbx
  | fw
  | ist
  | tap
  | dbg
  | mc
  | rld
  | clk
  | cross
  | out
  | draws
  | pending
  deriving DecidableEq, Repr

/-- Two states agree on a part. -/
def Part.same (s t : State) : Part → Prop
  | .csr => t.csr = s.csr
  | .stg => t.stg = s.stg
  | .ic => t.ic = s.ic
  | .err => t.err = s.err
  | .act => t.act = s.act
  | .shd => t.shd = s.shd
  | .rgn => t.rgn = s.rgn
  | .base => t.base = s.base
  | .boot => t.boot = s.boot
  | .gate => t.gate = s.gate
  | .scrub => t.scrub = s.scrub
  | .fab => t.fab = s.fab
  | .noc => t.noc = s.noc
  | .fuses => t.fuses = s.fuses
  | .sec => t.sec = s.sec
  | .tim => t.tim = s.tim
  | .ser => t.ser = s.ser
  | .board => t.board = s.board
  | .pad => t.pad = s.pad
  | .mbx => t.mbx = s.mbx
  | .fw => t.fw = s.fw
  | .ist => t.ist = s.ist
  | .tap => t.tap = s.tap
  | .dbg => t.dbg = s.dbg
  | .mc => t.mc = s.mc
  | .rld => t.rld = s.rld
  | .clk => t.clk = s.clk
  | .cross => t.cross = s.cross
  | .out => t.out = s.out
  | .draws => t.draws = s.draws
  | .pending => t.pending = s.pending

/-- State `t` agrees with `s` on every part but those listed. -/
def Only (ps : List Part) (s t : State) : Prop := ∀ p, p ∉ ps → p.same s t

/-- Every register but those listed reads in `t` as in `s`. -/
def RegsBut (offs : List Nat) (s t : State) : Prop := ∀ off, off ∉ offs → t.reg off = s.reg off

/-- The same, the registers of the error collector apart: a report that meets one still waiting is counted there (R600, R601). -/
def RegsOr (offs : List Nat) (s t : State) : Prop := ∀ off, off ∉ offs → off / 0x10000 ≠ 5 → t.reg off = s.reg off

/-- Registers and staging copies are held in canonical form: offsets strictly rising, none at its reset value (R17). -/
def State.regsCanon (s : State) : Prop := Tbl.wf resetOf s.csr ∧ Tbl.wf resetOf s.stg

/-- The scratchpad, the block memories and the RLD memory are held in canonical form: keys strictly rising, no entry at what an unlisted word holds. -/
def State.memsCanon (s : State) : Prop :=
  Tbl.wf (fun _ => padZero) s.pad.words ∧ Tbl.wf (fun _ => none) s.fab.words ∧ Tbl.wf (fun _ => none) s.rld.words

/-- An endpoint's write of a register reaches its block and is accepted (R40, R41, R210, R260, R298). -/
def State.mayWrite (s : State) (ep off : Nat) : Prop := s.reaches ep off = true ∧ s.csrAccepts ep true off = true

/-- The same for a read. -/
def State.mayRead (s : State) (ep off : Nat) : Prop := s.reaches ep off = true ∧ s.csrAccepts ep false off = true

/-- No report of a source waits at its reporter, so that the next one is taken as it is (R601). -/
def State.quiet (s : State) (src : Nat) : Prop := ∀ w ∈ s.err.waiting, w.rpt.src ≠ src

/-- Every bit of `a` is a bit of `b`. -/
def bitsIn (a b : Nat) : Prop := a ||| b = b

/-- Every fuse bit that is 1 in `f` is 1 in `g` (R550). The read-back results of R563 are no fuse bits. -/
def Fuses.within (f g : Fuses) : Prop :=
  bitsIn f.lc g.lc ∧ bitsIn f.bind g.bind ∧ bitsIn f.dus g.dus ∧ bitsIn f.okeyP g.okeyP ∧ bitsIn f.orev g.orev ∧
  bitsIn f.vrev g.vrev ∧ bitsIn f.bkP g.bkP ∧ bitsIn f.skeyP g.skeyP ∧ bitsIn f.ceil g.ceil ∧ bitsIn f.srev g.srev ∧
  bitsIn f.pwd g.pwd ∧ bitsIn f.pwdP g.pwdP ∧ bitsIn f.policy g.policy ∧
  (∀ k, bitsIn (Tbl.get (fun _ => 0) f.okey k) (Tbl.get (fun _ => 0) g.okey k)) ∧
  (∀ k, bitsIn (Tbl.get (fun _ => 0) f.bk k) (Tbl.get (fun _ => 0) g.bk k)) ∧
  (∀ k, bitsIn (Tbl.get (fun _ => 0) f.skey k) (Tbl.get (fun _ => 0) g.skey k))

end Sys2Proof.Machine
end

