-- ==== Sys2Proof/Certificates/Slice0/Obligations.lean ====
section
/-! DEFINITION. Obligations.lean: the statements for the provers, each a Prop, by chapter of the spec. -/

open Sys2Proof Sys2Proof.Machine

/-! ## The step, the reset state, and every command -/

/-- A step with a command at the front of the queue is exec of that command with the queue's rest; a step on an empty queue
is one cycle of the time clock and a tick of the fabric's clocks (the model's choice: notes/assumptions/11.md). -/
def Obligations.StepRunsFrontCommand : Prop :=
  (∀ (c : Instr) (q : List Instr) (s : State), step (s.withPending (c :: q)) = exec c (s.withPending q)) ∧
  (∀ s : State, step (s.withPending []) = .next ((s.withPending []).advance 1).fabricTick)

/-- R17, R16: after power-on reset every register reads the value of its table, and an offset that no table defines reads
0; the device is in RESET (R201), both planes are clear, no load, no packet, no session and no interrupt stands, and the queue
is empty. The choices for values the spec does not give are in notes/assumptions/8.md, 9.md and 10.md. -/
def Obligations.ResetLeavesTableValues : Prop :=
  (∀ off, State.reset.reg off = resetOf off) ∧ (∀ off, rowAt off = none → State.reset.reg off = 0) ∧
  (∀ off r ix w inst loc, winOf off = some (w, inst, loc) → rowAt off = some (r, ix) →
    State.reset.reg off = r.rst ||| BitVec.ofNat 32 (instReset w inst loc ix)) ∧
  State.reset.phase = 0 ∧ State.reset.boot.loads = [] ∧ State.reset.noc.flight = [] ∧ State.reset.fw.sessions = [] ∧
  State.reset.ic.pending = [] ∧ State.reset.err.fifo = [] ∧ (∀ k, State.reset.act.frame k = Frame.zero) ∧
  (∀ k, State.reset.shd.frame k = Frame.zero) ∧ State.reset.pending = []

namespace Sys2Proof

/-- Every command ends in a next state, whatever the state: no row of the table stops the block. -/
def EveryCommandEndsInNextState : Prop := ∀ (c : Instr) (s : State), ∃ t, exec c s = .next t

/-- No command but the ones placed from outside enters the queue: exec leaves the queue as it is, so a step shortens it by
the command it takes. -/
def QueueOnlyShrinks : Prop :=
  ∀ (s t : State), step s = .next t → t.pending = s.pending.tail

end Sys2Proof

/-- Every command ends in a next state, and a step takes one command from the queue. -/
def Obligations.EveryCommandEndsAndQueueShrinks : Prop := EveryCommandEndsInNextState ∧ QueueOnlyShrinks

/-- R550: a fuse bit programs once, from 0 to 1, and never returns. Stated as an invariant: whatever fuse bits a state has,
every state that a step leads to has them. -/
def Obligations.FuseBitsNeverReturn : Prop :=
  ∀ (f : Fuses) (s t : State), f.within s.fuses → step s = .next t → f.within t.fuses

/-- Registers, staging copies and the words of the memories stay in canonical form: keys strictly rising, none listed at its reset value or at what an
unlisted word holds, so that equal contents are equal data. -/
def Obligations.RegistersAndMemoriesStayCanonical : Prop :=
  (∀ s t : State, s.regsCanon → step s = .next t → t.regsCanon) ∧
  (∀ s t : State, s.memsCanon → step s = .next t → t.memsCanon)

/-- The reset state is in canonical form, and an empty fuse array lies within its fuses. -/
def Obligations.ResetMeetsTheInvariants : Prop :=
  State.reset.regsCanon ∧ State.reset.memsCanon ∧ State.reset.fuses.within State.reset.fuses

/-! ## Supplies, pins and power (20) -/

namespace Sys2Proof

/-- R639, R641, R643: a rail becoming valid or invalid shows in its bit of SYS_SUPPLY or SYS_VCCIO and in no other register;
an invalid monitored rail asserts the power-on reset, which leaves every register but the supply monitors at its reset value;
the power-on reset is released only with every monitored rail valid. The fuses, the flash and the pins outlive the reset. -/
def SuppliesAndPowerOnReset : Prop :=
  (∀ (rail : Fin 8) (s : State), Completes (.supplyValid rail) s (fun t =>
    (∀ j < 32, t.bit R.SYS_SUPPLY j = (if j = rail.val then true else s.bit R.SYS_SUPPLY j)) ∧
    RegsBut [R.SYS_SUPPLY] s t ∧ Only [.csr] s t)) ∧
  (∀ (rail : Fin 7) (s : State), Completes (.supplyInvalid rail) s (fun t =>
    t.board = { s.board with por := true } ∧ t.boot.inReset = true ∧ t.bit R.SYS_SUPPLY rail = false ∧
    (∀ off, off ∉ [R.SYS_SUPPLY, R.SYS_VCCIO_LO, R.SYS_VCCIO_HI] → t.reg off = resetOf off) ∧
    t.reg R.SYS_VCCIO_LO = s.reg R.SYS_VCCIO_LO ∧ t.reg R.SYS_VCCIO_HI = s.reg R.SYS_VCCIO_HI ∧
    t.fuses = s.fuses ∧ t.boot.flash0 = s.boot.flash0 ∧ t.boot.flash1 = s.boot.flash1 ∧ t.act = Plane.reset ∧
    t.shd = Plane.reset ∧ t.noc = State.reset.noc ∧ t.ic = State.reset.ic ∧ t.err = State.reset.err)) ∧
  (∀ s : State, s.suppliesValid = true →
    Completes .powerOnResetRelease s (fun t => t.board = { s.board with por := false } ∧ Only [.board] s t)) ∧
  (∀ s : State, s.suppliesValid = false → exec .powerOnResetRelease s = .next s)

/-- R644, R643, R211: PORST_N low is a power-on reset that holds the system PLL unlocked; its rise changes the pin alone; a
VCCIO supply shows in its bit of SYS_VCCIO_LO or SYS_VCCIO_HI and in no other register. -/
def PorstPinAndVccio : Prop :=
  (∀ s : State, Completes .porstNLow s (fun t =>
    t.board = { s.board with porstN := false } ∧ t.boot.inReset = true ∧ t.flag R.CLK_STAT F.CLK_STAT_SYSPLL_LOCK = false ∧
    (∀ off, off ∉ [R.SYS_SUPPLY, R.SYS_VCCIO_LO, R.SYS_VCCIO_HI] → t.reg off = resetOf off) ∧ t.fuses = s.fuses ∧
    t.stg = [] ∧ t.noc = State.reset.noc ∧ t.ic = State.reset.ic ∧ t.err = State.reset.err)) ∧
  (∀ s : State, Completes .porstNHigh s (fun t => t.board = { s.board with porstN := true } ∧ Only [.board] s t)) ∧
  (∀ (bank : Fin 40) (valid : Bool) (s : State), Completes (.vccioChange bank valid) s (fun t =>
    t.bit (if bank.val < 32 then R.SYS_VCCIO_LO else R.SYS_VCCIO_HI) (bank.val % 32) = valid ∧
    (∀ j < 32, j ≠ bank.val % 32 →
      t.bit (if bank.val < 32 then R.SYS_VCCIO_LO else R.SYS_VCCIO_HI) j =
        s.bit (if bank.val < 32 then R.SYS_VCCIO_LO else R.SYS_VCCIO_HI) j) ∧
    RegsBut [if bank.val < 32 then R.SYS_VCCIO_LO else R.SYS_VCCIO_HI] s t ∧ Only [.csr] s t))

end Sys2Proof

/-- R639, R641, R643, R644, R211: the supplies, PORST_N and the power-on reset. -/
def Obligations.SuppliesPinsAndPowerOnReset : Prop := SuppliesAndPowerOnReset ∧ PorstPinAndVccio

/-- R167, R169, R201: with every supply valid, no power-on reset, PORST_N high and the system PLL locked, the device leaves
RESET: it keeps the pins as sampled and a clearing starts; mode 0b100 is accepted in BLANK and DEVELOP, and in DEPLOY or RETURN
it leads to the FAILED phase, unless CFG_START_N is low or a halt stands, which put that off (the model's choice,
notes/assumptions/43.md). Where one of these does not hold, nothing changes. -/
def Obligations.ResetExitSamplesPins : Prop :=
  ∀ (mode : Fin 8) (i2c : Fin 4) (pull startN : Bool) (f0 f1 : Option FlashDev) (s : State),
  (s.boot.inReset = true ∧ s.suppliesValid = true ∧ s.board.por = false ∧ s.board.porstN = true ∧
      s.flag R.CLK_STAT F.CLK_STAT_SYSPLL_LOCK = true →
    Completes (.resetExit mode i2c pull startN f0 f1) s (fun t =>
      t.boot.inReset = false ∧ t.boot.clearing = true ∧
      t.board = { s.board with i2c := i2c.val, pullSel := pull, startN := startN } ∧
      t.fld R.CFG_BOOT_STAT F.CFG_BOOT_STAT_MODE = mode.val ∧ t.fuses = s.fuses ∧
      (mode = 4 → s.lc < 2 → t.phase = 1 ∧ t.boot.loads = s.boot.loads ∧ t.boot.fw = false ∧ t.fw = Fw.empty) ∧
      (mode = 4 → 2 ≤ s.lc → startN = true → s.halted = false → t.phase = 6 ∧
        t.fld R.CFG_BOOT_ERR F.CFG_BOOT_ERR_ALT_CODE = 0x14 ∧ t.boot.loads = s.boot.loads) ∧
      (startN = false ∨ s.halted = true → t.phase = 1 ∧ t.boot.loads = s.boot.loads))) ∧
  (s.boot.inReset = false ∨ s.suppliesValid = false ∨ s.board.por = true ∨ s.board.porstN = false ∨
      s.flag R.CLK_STAT F.CLK_STAT_SYSPLL_LOCK = false →
    exec (.resetExit mode i2c pull startN f0 f1) s = .next s)

/-! ## Clocks (05) -/

namespace Sys2Proof

/-- R163, R164, R165: a monitor that declares the loss of an enabled clock sets the flag of its kind in CLK_LOSS and the bits of
that clock, and sends a UE record of class 0x0A with the clock's code; the monitor of a clock that is not enabled and never was declares
nothing. -/
def ClockLossIsFlaggedAndReported : Prop :=
  ∀ (id : Fin 256) (s : State),
  (s.monitored id = true → (∀ w ∈ s.err.waiting, w.rpt.src ≠ 5) → Completes (.clockLossDeclared id) s (fun t =>
    ⟨0, ⟨5, 2, 0x0A, id⟩, 0⟩ ∈ t.err.waiting ∧
    (id.val = 0 → t.flag R.CLK_LOSS F.CLK_LOSS_SYSREF = true ∧ t.flag R.CLK_STAT F.CLK_STAT_SYSREF_OK = false ∧
      t.flag R.CLK_STAT F.CLK_STAT_HOLDOVER_SYS = true ∧ RegsBut [R.CLK_LOSS, R.CLK_STAT] s t ∧
      Only [.csr, .ic, .err] s t) ∧
    (id.val = 1 → t.flag R.CLK_LOSS F.CLK_LOSS_SYSPLL = true ∧ t.flag R.CLK_STAT F.CLK_STAT_SYSPLL_LOCK = false ∧
      RegsBut [R.CLK_LOSS, R.CLK_STAT] s t ∧ Only [.csr, .ic, .err] s t) ∧
    (id.val = 2 → t.flag R.CLK_LOSS F.CLK_LOSS_TREF = true ∧ t.flag R.CLK_STAT F.CLK_STAT_TREF_OK = false ∧
      t.flag R.CLK_STAT F.CLK_STAT_HOLDOVER_TIME = true) ∧
    (id.val = 3 → t.flag R.CLK_LOSS F.CLK_LOSS_TPLL = true ∧ t.flag R.CLK_STAT F.CLK_STAT_TPLL_LOCK = false ∧
      t.flag R.CLK_STAT F.CLK_STAT_HOLDOVER_TIME = true) ∧
    (8 ≤ id.val ∧ id.val < 16 → t.flag R.CLK_LOSS F.CLK_LOSS_MCPLL = true ∧ t.bit R.CLK_MC_LOST id = false ∧
      t.bit R.CLK_MC_LOST (id - 8) = true) ∧
    (0x40 ≤ id.val ∧ id.val < 0x80 → t.flag R.CLK_LOSS F.CLK_LOSS_RTR = true ∧
      t.bit (if id.val < 0x60 then R.CLK_RTR_LOST_LO else R.CLK_RTR_LOST_HI) (id % 32) = true) ∧
    (0x80 ≤ id.val → t.flag R.CLK_LOSS F.CLK_LOSS_FPLL = true ∧ t.bit R.CLK_FPLL_LOCK ((id - 0x80) / 4) = false ∧
      t.bit R.CLK_FPLL_LOST ((id - 0x80) / 4) = true))) ∧
  (s.monitored id = false → exec (.clockLossDeclared id) s = .next s)

/-- R149, R165, R424: a reference that recovers sets its OK bit; SYS_REFCLK ends the holdover it caused, TIME_REFCLK does where the
time PLL is locked. An enabled PLL with its reference present locks, the system PLL only without a power-on reset; the lock of the time
PLL ends its holdover and has the time unit run. -/
def ReferencesRecoverAndPllsLock : Prop :=
  (∀ s : State, Completes (.referenceRecovered false) s (fun t =>
    t.flag R.CLK_STAT F.CLK_STAT_SYSREF_OK = true ∧ t.flag R.CLK_STAT F.CLK_STAT_HOLDOVER_SYS = false ∧
    t.flag R.CLK_STAT F.CLK_STAT_TREF_OK = s.flag R.CLK_STAT F.CLK_STAT_TREF_OK ∧
    RegsBut [R.CLK_STAT] s t ∧ Only [.csr] s t)) ∧
  (∀ s : State, Completes (.referenceRecovered true) s (fun t =>
    t.flag R.CLK_STAT F.CLK_STAT_TREF_OK = true ∧
    (s.flag R.CLK_STAT F.CLK_STAT_TPLL_LOCK = true → t.flag R.CLK_STAT F.CLK_STAT_HOLDOVER_TIME = false ∧
      t.flag R.TIM_STAT F.TIM_STAT_HOLDOVER = false) ∧
    (s.flag R.CLK_STAT F.CLK_STAT_TPLL_LOCK = false → RegsBut [R.CLK_STAT] s t) ∧
    RegsBut [R.CLK_STAT, R.TIM_STAT] s t ∧ Only [.csr] s t)) ∧
  (∀ s : State, s.flag R.CLK_STAT F.CLK_STAT_SYSREF_OK = true → s.board.porstN = true → s.board.por = false →
    Completes (.pllLock 1) s (fun t => t.flag R.CLK_STAT F.CLK_STAT_SYSPLL_LOCK = true ∧
      RegsBut [R.CLK_STAT] s t ∧ Only [.csr] s t)) ∧
  (∀ s : State, s.board.porstN = false → exec (.pllLock 1) s = .next s) ∧
  (∀ s : State, s.flag R.CLK_TREF_CTRL F.CLK_TREF_CTRL_TPLL_EN = true → s.flag R.CLK_STAT F.CLK_STAT_TREF_OK = true →
    s.fld R.CLK_TREF_CTRL F.CLK_TREF_CTRL_FREQ ≤ 4 →
    Completes (.pllLock 3) s (fun t => t.flag R.CLK_STAT F.CLK_STAT_TPLL_LOCK = true ∧
      t.flag R.TIM_STAT F.TIM_STAT_RUN = true ∧ t.flag R.CLK_STAT F.CLK_STAT_HOLDOVER_TIME = false ∧
      RegsBut [R.CLK_STAT, R.TIM_STAT] s t ∧ Only [.csr] s t)) ∧
  (∀ (c : Fin 8) (s : State), s.flag (R.CLK_MCPLL c) F.CLK_MCPLL_EN = true → s.flag R.CLK_STAT F.CLK_STAT_SYSREF_OK = true →
    Completes (.pllLock ⟨8 + c.val, by omega⟩) s (fun t => t.bit R.CLK_MC_LOST (8 + c) = true ∧
      RegsBut [R.CLK_MC_LOST] s t ∧ Only [.csr] s t)) ∧
  (∀ (k : Fin 32) (s : State), (s.act.clkCfg k).used = true → s.refPresent (s.act.clkCfg k).ref = true →
    Completes (.pllLock ⟨0x80 + 4 * k.val, by omega⟩) s (fun t => t.bit R.CLK_FPLL_LOCK k = true ∧
      RegsBut [R.CLK_FPLL_LOCK] s t ∧ Only [.csr] s t)) ∧
  (∀ (k : Fin 32) (s : State), (s.act.clkCfg k).used = false ∨ s.refPresent (s.act.clkCfg k).ref = false →
    exec (.pllLock ⟨0x80 + 4 * k.val, by omega⟩) s = .next s)

end Sys2Proof

/-- R163, R164, R165, R149, R424: losses of clocks and their recovery. -/
def Obligations.ClocksAreLostAndRecover : Prop := ClockLossIsFlaggedAndReported ∧ ReferencesRecoverAndPllsLock

/-- R156, R159, R164, R166: a relocked fabric PLL holds no leaf gate closed any more, and one that is not locked stays as it is;
CLK_NOC_CTRL takes the frequency written; a measurement starts with the clock that CLKID names and ends with the edges counted, 0 for a
reserved code. -/
def Obligations.LeafGatesFrequencyAndMeasurement : Prop :=
  (∀ (k : Fin 32) (s : State), s.bit R.CLK_FPLL_LOCK k = true → Completes (.leafGateReopen k) s (fun t =>
    t.pllStopped k = false ∧ (∀ j : Nat, j ≠ k.val → t.pllStopped j = s.pllStopped j) ∧
    (∀ sec n : Nat, (∃ o, s.leafRoot sec n = .fpll k o) → t.leafStopped sec n = false) ∧
    RegsBut ((List.range 32).map (fun k => R.FAB_GSR_STAT k)) s t ∧ Only [.fab, .csr] s t)) ∧
  (∀ (k : Fin 32) (s : State), s.bit R.CLK_FPLL_LOCK k = false → exec (.leafGateReopen k) s = .next s) ∧
  (∀ (ep : Fin 256) (v : Word) (s : State), s.reaches ep R.CLK_NOC_CTRL = true → Completes (.nocFreqChange ep v) s (fun t =>
    t.fld R.CLK_NOC_CTRL F.CLK_NOC_CTRL_FREQ = v.fget F.CLK_NOC_CTRL_FREQ ∧ RegsBut [R.CLK_NOC_CTRL] s t ∧
    Only [.csr] s t)) ∧
  (∀ (ep : Fin 256) (v : Word) (s : State), s.reaches ep R.CLK_MEAS_CTRL = true →
    s.flag R.CLK_MEAS_CTRL F.CLK_MEAS_CTRL_BUSY = false → Completes (.clkMeasStart ep v) s (fun t =>
    t.flag R.CLK_MEAS_CTRL F.CLK_MEAS_CTRL_BUSY = true ∧ t.clk.meas = v.fget F.CLK_MEAS_CTRL_CLKID ∧
    RegsBut [R.CLK_MEAS_CTRL] s t ∧ Only [.csr, .clk] s t)) ∧
  (∀ (n : BitVec 16) (s : State), s.flag R.CLK_MEAS_CTRL F.CLK_MEAS_CTRL_BUSY = true → Completes (.clkMeasDone n) s (fun t =>
    t.flag R.CLK_MEAS_CTRL F.CLK_MEAS_CTRL_BUSY = false ∧
    t.fld R.CLK_MEAS_RES F.CLK_MEAS_RES_COUNT =
      (if s.clk.meas < 4 ∨ (8 ≤ s.clk.meas ∧ s.clk.meas < 16) ∨ 0x40 ≤ s.clk.meas then n.toNat else 0) ∧
    RegsBut [R.CLK_MEAS_CTRL, R.CLK_MEAS_RES] s t ∧ Only [.csr] s t)) ∧
  (∀ (n : BitVec 16) (s : State), s.flag R.CLK_MEAS_CTRL F.CLK_MEAS_CTRL_BUSY = false → exec (.clkMeasDone n) s = .next s)

/-! ## Boot phases (06) -/

namespace Sys2Proof

/-- R200, R201, R211, R26: the end of a clearing leaves both planes clear; with firmware running, CFG_START_N high and no wipe that holds
the device it then leaves BOOT for LOAD, where boot modes 0b010 and 0b100 wait for a load, and modes 0b000 and 0b001 with no flash device
fitted fail with code 0x01; where one of these does not hold the phase stays. Without a clearing, or in a halt, nothing changes. -/
def ClearingDoneLeadsToLoad : Prop :=
  ∀ s : State,
  (s.boot.clearing = true → s.halted = false → Completes .clearingDone s (fun t =>
    t.boot.clearing = false ∧ t.boot.cleared = true ∧ t.act = Plane.zero ∧ t.shd = Plane.zero ∧
    (s.phase = 1 → s.boot.fw = true → s.board.startN = true → s.boot.wipeHold = false → 2 ≤ s.mode →
      t.phase = 2 ∧ t.boot.loads = s.boot.loads) ∧
    (s.phase = 1 → s.boot.fw = true → s.board.startN = true → s.boot.wipeHold = false → s.mode < 2 →
      s.boot.flash0.fitted = false → s.boot.flash1.fitted = false → t.phase = 6 ∧
      t.fld R.CFG_BOOT_ERR F.CFG_BOOT_ERR_PRI_CODE = 0x01 ∧ t.fld R.CFG_BOOT_ERR F.CFG_BOOT_ERR_ALT_CODE = 0x01) ∧
    (s.phase ≠ 1 ∨ s.boot.fw = false ∨ s.board.startN = false ∨ s.boot.wipeHold = true →
      t.phase = s.phase ∧ t.boot.loads = s.boot.loads) ∧ t.fuses = s.fuses ∧ t.rld = s.rld ∧ t.pad = s.pad)) ∧
  (s.boot.clearing = false ∨ s.halted = true → exec .clearingDone s = .next s)

/-- What a restart of configuration leaves (R210): a clearing in progress, GSR asserted, both planes clear, no region, no hold-load
stream, no bitstream's records, and no start-up step. -/
def Restarted (s t : State) : Prop :=
  t.boot.clearing = true ∧ t.boot.cleared = false ∧ t.boot.hold = none ∧ t.fab.gsr = true ∧
  t.act = Plane.zero ∧ t.shd = Plane.zero ∧ t.rgn = [] ∧ t.base = none ∧
  (∀ r < 32, t.rgnDefined r = false) ∧
  t.flag R.CFG_BOOT_STAT F.CFG_BOOT_STAT_USER_MODE = false ∧ t.fld R.CFG_BOOT_STAT F.CFG_BOOT_STAT_STEP = 0 ∧
  t.boot.fw = s.boot.fw ∧ t.fuses = s.fuses ∧ t.tap = s.tap

/-- The BOOT phase, CFG_ERR_N released, and the boot ROM's load as it was. -/
def InBoot (s t : State) : Prop :=
  t.phase = 1 ∧ t.flag R.CFG_BOOT_STAT F.CFG_BOOT_STAT_CFG_ERR = false ∧ t.loadOn .rom = s.loadOn .rom

/-- R210, R211: a fall of CFG_START_N, and a write of the key 0xC0DE to CFG_RESTART, restart configuration from any phase after
RESET and lead to BOOT. With CFG_START_N high and no halt the boot ROM goes on at once: boot mode 0b100 fails again in DEPLOY and
RETURN, and with neither firmware nor its load nor a flash device the device fails with code 0x01; with the pin low, or in a halt, that
is put off (the model's choice, notes/assumptions/43.md). In BOOT with no firmware verified a fall only starts the clearing again. With
another key an accepted write changes nothing. -/
def RestartReturnsToBoot : Prop :=
  (∀ s : State, s.boot.inReset = false → (s.phase ≠ 1 ∨ s.boot.fw = true) → Completes .cfgStartNFall s (fun t =>
    Restarted s t ∧ InBoot s t ∧ t.board = { s.board with startN := false })) ∧
  (∀ s : State, s.boot.inReset = false → s.phase = 1 → s.boot.fw = false → Completes .cfgStartNFall s (fun t =>
    t.boot.clearing = true ∧ t.phase = 1 ∧ t.act = Plane.zero ∧ t.shd = Plane.zero ∧ t.boot.loads = s.boot.loads ∧
    t.rgn = s.rgn ∧ t.board = { s.board with startN := false })) ∧
  (∀ s : State, s.boot.inReset = true → Completes .cfgStartNFall s (fun t =>
    t.board = { s.board with startN := false } ∧ Only [.board] s t)) ∧
  (∀ (ep : Fin 256) (v : Word) (s : State), s.mayWrite ep R.CFG_RESTART → v.fget F.CFG_RESTART_KEY = 0xC0DE →
    (s.phase ≠ 1 ∨ s.boot.fw = true) → Completes (.cfgRestart ep v) s (fun t => Restarted s t ∧ t.board = s.board ∧
      (s.board.startN = false ∨ s.halted = true → InBoot s t) ∧
      (s.board.startN = true → s.halted = false →
        (s.mode = 4 → 2 ≤ s.lc → t.phase = 6 ∧ t.flag R.CFG_BOOT_STAT F.CFG_BOOT_STAT_CFG_ERR = true ∧
          t.fld R.CFG_BOOT_ERR F.CFG_BOOT_ERR_ALT_CODE = 0x14) ∧
        (s.mode = 4 → s.lc < 2 → InBoot s t) ∧
        (s.mode ≠ 4 → s.boot.fw = true ∨ s.loadOn .rom ≠ none → InBoot s t) ∧
        (s.mode ≠ 4 → s.boot.fw = false → s.loadOn .rom = none → s.boot.flash0.fitted = false →
          s.boot.flash1.fitted = false → t.phase = 6 ∧ t.flag R.CFG_BOOT_STAT F.CFG_BOOT_STAT_CFG_ERR = true ∧
          t.fld R.CFG_BOOT_ERR F.CFG_BOOT_ERR_PRI_CODE = 0x01)))) ∧
  (∀ (ep : Fin 256) (v : Word) (s : State), s.mayWrite ep R.CFG_RESTART → v.fget F.CFG_RESTART_KEY ≠ 0xC0DE →
    exec (.cfgRestart ep v) s = .next s)

/-- R205, R206, R208, R26: CFG_DONE seen high in WAIT, outside a halt, ends start-up: the device is in USER at step 7 with GSR released,
and source 17 is pending where the interrupt controller's clock runs. In WAIT during a halt, in START-UP and in USER only CFG_DONE_IN
follows the line; a device that holds the line low, before WAIT and in FAILED, sees no change. A fall clears CFG_DONE_IN. A rise of
CFG_START_N lets a device in BOOT that waited for it go on to LOAD. -/
def CfgDoneStartsUser : Prop :=
  (∀ s : State, s.boot.inReset = false → s.phase = 3 → s.bscan = false → s.halted = false →
    Completes .cfgDoneObserved s (fun t =>
    t.phase = 5 ∧ t.user = true ∧ t.fld R.CFG_BOOT_STAT F.CFG_BOOT_STAT_STEP = 7 ∧ t.fab.gsr = false ∧
    t.flag R.CFG_BOOT_STAT F.CFG_BOOT_STAT_USER_MODE = true ∧ t.flag R.CFG_BOOT_STAT F.CFG_BOOT_STAT_CFG_DONE_IN = true ∧
    (s.ic.asleep = false → t.ic.pending.has 17 = true) ∧
    t.act = s.act ∧ t.shd = s.shd ∧ t.rgn = s.rgn ∧ t.boot = s.boot ∧ t.fuses = s.fuses ∧ t.rld = s.rld)) ∧
  (∀ s : State, s.boot.inReset = false → s.bscan = false → (s.phase = 4 ∨ s.phase = 5 ∨ (s.phase = 3 ∧ s.halted = true)) →
    Completes .cfgDoneObserved s (fun t =>
    t.flag R.CFG_BOOT_STAT F.CFG_BOOT_STAT_CFG_DONE_IN = true ∧ t.phase = s.phase ∧ RegsBut [R.CFG_BOOT_STAT] s t ∧
    Only [.csr] s t)) ∧
  (∀ s : State, s.bscan = false → (s.phase < 3 ∨ s.phase = 6) → exec .cfgDoneObserved s = .next s) ∧
  (∀ s : State, Completes .cfgDoneFall s (fun t =>
    t.flag R.CFG_BOOT_STAT F.CFG_BOOT_STAT_CFG_DONE_IN = false ∧ t.phase = s.phase ∧ RegsBut [R.CFG_BOOT_STAT] s t ∧
    Only [.csr] s t)) ∧
  (∀ s : State, Completes .cfgStartNRise s (fun t => t.board = { s.board with startN := true } ∧
    (s.phase = 1 → s.halted = false → s.boot.fw = true → s.boot.cleared = true → s.boot.clearing = false →
      s.boot.wipeHold = false → s.mode = 2 ∨ (s.mode = 4 ∧ s.lc < 2) → t.phase = 2 ∧ t.boot.loads = s.boot.loads) ∧
    (s.phase ≠ 1 → Only [.board] s t)))

end Sys2Proof

/-- R200, R201, R211, R210, R205, R206, R208, R26: the phases of a boot. -/
def Obligations.BootClearsLoadsRestartsAndStarts : Prop := ClearingDoneLeadsToLoad ∧ RestartReturnsToBoot ∧ CfgDoneStartsUser

/-! ## Twin planes and firing (07) -/

namespace Sys2Proof

/-- R235: a binding write by an endpoint that may use the controls binds exactly the blocks whose bits it carries; while the
region is armed, or where a block is bound to another region, it is refused with CTRL_REFUSED and a record of source 23. -/
def BindingWritesBindOrAreRefused : Prop :=
  ∀ (ep : Fin 256) (r : Fin 32) (b : Bound) (v : Word) (s : State),
  s.mayWrite ep (bindBit r b).1 → s.rgnDefined r = true →
  (s.shadow r ≠ 3 →
    (∀ q < 32, q ≠ r.val → s.rgnDefined q = true → s.reg (bindBit q b).1 &&& v = 0) →
    Completes (.bindWrite ep (bindBit r b).1 v) s (fun t =>
      t.isBound r b = v.getLsbD (bindBit r b).2 ∧ RegsBut [(bindBit r b).1] s t ∧ Only [.csr] s t)) ∧
  ((s.shadow r = 3 ∨ ∃ q < 32, q ≠ r.val ∧ s.rgnDefined q = true ∧ s.reg (bindBit q b).1 &&& v ≠ 0) → s.quiet 23 →
    Completes (.bindWrite ep (bindBit r b).1 v) s (fun t =>
      t.flag (R.CFG_RGN_STAT r) F.CFG_RGN_STAT_CTRL_REFUSED = true ∧ t.shadow r = s.shadow r ∧
      t.err.waiting = s.err.waiting ++ [⟨r, ⟨23, 0, 0x02, r * 2 ^ 16⟩, 0⟩] ∧ RegsBut [R.CFG_RGN_STAT r] s t ∧
      Only [.csr, .ic, .err] s t))

/-- R237, R238: ARM moves a VERIFIED shadow to ARMED and DISARM moves it back; SHD_GEN takes the tag written while the region is
not armed. A write with both bits, or in any other state of the shadow, leaves the shadow as it is and sets CTRL_REFUSED; no other
register changes but CFG_ARM. A write of CFG_ARM by an endpoint that may not use the controls completes with REFUSED and changes
nothing else. -/
def ArmDisarmAndTag : Prop :=
  (∀ (ep : Fin 256) (v : Word) (s : State), s.mayWrite ep R.CFG_ARM →
    s.rgnDefined (v.fget F.CFG_ARM_REGION) = true → Completes (.cfgArm ep v) s (fun t =>
    (v.getLsbD 30 = false → s.shadow (v.fget F.CFG_ARM_REGION) = 2 → t.shadow (v.fget F.CFG_ARM_REGION) = 3) ∧
    (v.getLsbD 30 = true ∨ s.shadow (v.fget F.CFG_ARM_REGION) ≠ 2 →
      t.shadow (v.fget F.CFG_ARM_REGION) = s.shadow (v.fget F.CFG_ARM_REGION) ∧
      t.flag (R.CFG_RGN_STAT (v.fget F.CFG_ARM_REGION)) F.CFG_RGN_STAT_CTRL_REFUSED = true) ∧
    RegsBut [R.CFG_ARM, R.CFG_RGN_STAT (v.fget F.CFG_ARM_REGION)] s t ∧ Only [.csr] s t)) ∧
  (∀ (ep : Fin 256) (v : Word) (s : State), s.mayWrite ep R.CFG_ARM →
    s.rgnDefined (v.fget F.CFG_ARM_REGION) = true → Completes (.cfgDisarm ep v) s (fun t =>
    (v.getLsbD 31 = false → s.shadow (v.fget F.CFG_ARM_REGION) = 3 → t.shadow (v.fget F.CFG_ARM_REGION) = 2) ∧
    (v.getLsbD 31 = true ∨ s.shadow (v.fget F.CFG_ARM_REGION) ≠ 3 →
      t.shadow (v.fget F.CFG_ARM_REGION) = s.shadow (v.fget F.CFG_ARM_REGION) ∧
      t.flag (R.CFG_RGN_STAT (v.fget F.CFG_ARM_REGION)) F.CFG_RGN_STAT_CTRL_REFUSED = true) ∧
    RegsBut [R.CFG_ARM, R.CFG_RGN_STAT (v.fget F.CFG_ARM_REGION)] s t ∧ Only [.csr] s t)) ∧
  (∀ (ep : Fin 256) (r : Fin 32) (v : Word) (s : State), s.mayWrite ep (R.CFG_RGN_GEN r) → s.rgnDefined r = true →
    Completes (.shdGenWrite ep r v) s (fun t =>
    (s.shadow r ≠ 3 → t.fld (R.CFG_RGN_GEN r) F.CFG_RGN_GEN_SHD_GEN = v.fget F.CFG_RGN_GEN_SHD_GEN ∧
      RegsBut [R.CFG_RGN_GEN r] s t) ∧
    (s.shadow r = 3 → t.flag (R.CFG_RGN_STAT r) F.CFG_RGN_STAT_CTRL_REFUSED = true ∧ RegsBut [R.CFG_RGN_STAT r] s t) ∧
    t.fld (R.CFG_RGN_GEN r) F.CFG_RGN_GEN_ACT_GEN = s.fld (R.CFG_RGN_GEN r) F.CFG_RGN_GEN_ACT_GEN ∧ Only [.csr] s t)) ∧
  (∀ (ep : Fin 256) (v : Word) (s : State), s.reaches ep R.CFG_ARM = true → s.csrAccepts ep true R.CFG_ARM = false →
    Completes (.cfgArm ep v) s (fun t => t.noc.done.head? = some ⟨ep, 0, 2, []⟩ ∧ Only [.noc] s t) ∧
    Completes (.cfgDisarm ep v) s (fun t => t.noc.done.head? = some ⟨ep, 0, 2, []⟩ ∧ Only [.noc] s t))

end Sys2Proof

/-- R235, R237, R238: binding writes, arming and generation tags. -/
def Obligations.BindingArmingAndTags : Prop := BindingWritesBindOrAreRefused ∧ ArmDisarmAndTag

namespace Sys2Proof

/-- R239, R245: a write of GO, and an edge at FIRE_STROBE, put one request to the firing gate: for the region or, with USE_MASK, the
regions of CFG_FIRE_MASK, or for every defined region with STROBE_EN. A strobe notes which of its regions are in their minimum hold as
it arrives; with no such region the edge changes nothing. -/
def FiringRequestsReachTheGate : Prop :=
  (∀ (ep : Fin 256) (v : Word) (s : State), s.mayWrite ep R.CFG_FIRE → Completes (.cfgFireGo ep v) s (fun t =>
    t.gate.reqs = s.gate.reqs ++ [⟨if v.getLsbD 8 then maskRegions (s.reg R.CFG_FIRE_MASK)
      else [v.fget F.CFG_FIRE_REGION], 1, none, []⟩] ∧ t.gate.kept = s.gate.kept ∧
    RegsBut [R.CFG_FIRE] s t ∧ Only [.csr, .gate] s t)) ∧
  (∀ s : State, (∃ r < 32, s.rgnDefined r = true ∧ s.flag (R.CFG_RGN_CTRL r) F.CFG_RGN_CTRL_STROBE_EN = true) →
    Completes .fireStrobeEdge s (fun t => (∃ q, t.gate.reqs = s.gate.reqs ++ [q] ∧ q.src = 2 ∧ q.skm = none ∧
      ∀ r, r ∈ q.regions ↔ r < 32 ∧ s.rgnDefined r = true ∧
        s.flag (R.CFG_RGN_CTRL r) F.CFG_RGN_CTRL_STROBE_EN = true) ∧
      (∀ q ∈ t.gate.reqs.drop s.gate.reqs.length, ∀ r, r ∈ q.held ↔ r ∈ q.regions ∧ (s.rg r).minHold = true) ∧
      Only [.gate] s t)) ∧
  (∀ s : State, (∀ r < 32, s.rgnDefined r = true → s.flag (R.CFG_RGN_CTRL r) F.CFG_RGN_CTRL_STROBE_EN = false) →
    exec .fireStrobeEdge s = .next s)

/-- The gate accepts a request for region `r` at this edge (R240). -/
def FiresNow (s : State) (r : Nat) : Prop :=
  r < 32 ∧ ∃ q ∈ s.gate.reqs, r ∈ q.regions ∧ s.verdict q r = .accept

end Sys2Proof

/-- R240, R242, R243, R246, R247, R251, R254, R258: at a firing edge every region with an accepted request exchanges its frames, its
records and its generation tags, begins its minimum hold, and counts; its shadow becomes VERIFIED, or ARMED with AUTO_REARM;
every frame of a region that does not fire stays where it is, and so do its holds and records; the last mask and the time of the
firing show; a bound block other than a probe then waits for its crossing. -/
def Obligations.FiringExchangesThePlanes : Prop :=
  ∀ s : State, (∃ r, FiresNow s r) → Completes .firing s (fun t =>
    (∀ r, FiresNow s r →
      (t.rg r).minHold = true ∧ (t.rg r).act = (s.rg r).shd ∧ (t.rg r).shd = (s.rg r).act ∧
      (t.rg r).post = s.flag (R.CFG_RGN_CTRL r) F.CFG_RGN_CTRL_POST_HOLD ∧ t.rgnHeld r = true ∧
      t.shadow r = (if s.flag (R.CFG_RGN_CTRL r) F.CFG_RGN_CTRL_AUTO_REARM then 3 else 2) ∧
      t.fld (R.CFG_RGN_GEN r) F.CFG_RGN_GEN_ACT_GEN = s.fld (R.CFG_RGN_GEN r) F.CFG_RGN_GEN_SHD_GEN ∧
      t.fld (R.CFG_RGN_GEN r) F.CFG_RGN_GEN_SHD_GEN = s.fld (R.CFG_RGN_GEN r) F.CFG_RGN_GEN_ACT_GEN ∧
      t.fld (R.CFG_RGN_COUNT r) F.CFG_RGN_COUNT_FIRINGS =
        (s.fld (R.CFG_RGN_COUNT r) F.CFG_RGN_COUNT_FIRINGS + 1) % 2 ^ F.CFG_RGN_COUNT_FIRINGS.w ∧
      (t.reg R.CFG_FIRE_LAST_MASK).getLsbD r = true ∧
      (∀ k, s.frameRegion k = some r → t.act.frame k = s.shd.frame k ∧ t.shd.frame k = s.act.frame k)) ∧
    (∀ k, (∀ r, FiresNow s r → s.frameRegion k ≠ some r) → t.act.frame k = s.act.frame k ∧ t.shd.frame k = s.shd.frame k) ∧
    (∀ r < 32, ¬ FiresNow s r → t.rg r = s.rg r ∧ (t.reg R.CFG_FIRE_LAST_MASK).getLsbD r = false) ∧
    t.reg R.CFG_FIRE_TIME_LO = BitVec.ofNat 32 s.td0 ∧ t.reg R.CFG_FIRE_TIME_HI = BitVec.ofNat 32 (s.td0 / 2 ^ 32) ∧
    (∀ b r, FiresNow s r → s.isBound r b = true → (∀ k, b ≠ .probe k) → b ∈ t.cross) ∧ t.fuses = s.fuses ∧ t.rld = s.rld ∧ t.pad = s.pad)

namespace Sys2Proof

/-- R240, R241: an edge on which the one request, not of a Skemer engine, is refused for all its regions changes no plane; each region
that is defined shows the reason in CFG_RGN_STAT.REFUSE, except that reason 0x06, of a halt, is kept with the source of the
request until the halt ends. -/
def RefusedFiringChangesNothing : Prop :=
  ∀ (q : FireReq) (s : State), s.gate.reqs = [q] → q.skm = none → (∀ r ∈ q.regions, r < 32 → s.verdict q r ≠ .accept) →
  Completes .firing s (fun t =>
    t.act = s.act ∧ t.shd = s.shd ∧ t.rgn = s.rgn ∧ t.cross = s.cross ∧ t.gate.reqs = [] ∧
    (∀ r ∈ q.regions, r < 32 → s.rgnDefined r = true → ∀ n, n ≠ 6 → s.verdict q r = .refuse n →
      t.fld (R.CFG_RGN_STAT r) F.CFG_RGN_STAT_REFUSE = n ∧ t.shadow r = s.shadow r) ∧
    (∀ r ∈ q.regions, r < 32 → s.verdict q r = .refuse 6 → (r, q.src) ∈ t.gate.kept) ∧
    Only [.csr, .ic, .err, .gate] s t)

end Sys2Proof

/-- R239, R240, R241: firing requests and their refusals. -/
def Obligations.FiringRequestsAndRefusals : Prop := FiringRequestsReachTheGate ∧ RefusedFiringChangesNothing

namespace Sys2Proof

/-- R251: on the edge at which a region fires, the staged and in-effect values of a block bound to it exchange: the route table of
a network interface, the receive equaliser of every lane of a quad, the registers of a group that is staged off, and the capture register of a
sector's probe. Stated for edges without a Skemer request. -/
def FiringExchangesBoundValues : Prop :=
  ∀ (r : Fin 32) (s : State), FiresNow s r → (∀ q ∈ s.gate.reqs, q.skm = none) → Completes .firing s (fun t =>
    (∀ e d : Fin 256, s.isBound r (.ni e) = true →
      (t.reg (R.NI_RT_LO e d) &&& stgMask (R.NI_RT_LO e d)) = (s.staged (R.NI_RT_LO e d) &&& stgMask (R.NI_RT_LO e d)) ∧
      (t.staged (R.NI_RT_LO e d) &&& stgMask (R.NI_RT_LO e d)) = (s.reg (R.NI_RT_LO e d) &&& stgMask (R.NI_RT_LO e d)) ∧
      (t.reg (R.NI_RT_HI e d) &&& stgMask (R.NI_RT_HI e d)) = (s.staged (R.NI_RT_HI e d) &&& stgMask (R.NI_RT_HI e d)) ∧
      (t.staged (R.NI_RT_HI e d) &&& stgMask (R.NI_RT_HI e d)) = (s.reg (R.NI_RT_HI e d) &&& stgMask (R.NI_RT_HI e d))) ∧
    (∀ (q : Fin 36) (l : Fin 4), s.isBound r (.quad q) = true →
      (t.reg (R.LN_RX_EQ (4 * q + l)) &&& stgMask (R.LN_RX_EQ (4 * q + l))) =
        (s.staged (R.LN_RX_EQ (4 * q + l)) &&& stgMask (R.LN_RX_EQ (4 * q + l))) ∧
      (t.staged (R.LN_RX_EQ (4 * q + l)) &&& stgMask (R.LN_RX_EQ (4 * q + l))) =
        (s.reg (R.LN_RX_EQ (4 * q + l)) &&& stgMask (R.LN_RX_EQ (4 * q + l)))) ∧
    (∀ g : Fin 16, s.isBound r (.group g) = true → (s.staged (R.PCS_GRP_CTRL g)).fget F.PCS_GRP_CTRL_EN = 0 →
      (t.reg (R.PCS_GRP_CFG g) &&& stgMask (R.PCS_GRP_CFG g)) =
        (s.staged (R.PCS_GRP_CFG g) &&& stgMask (R.PCS_GRP_CFG g)) ∧
      (t.staged (R.PCS_GRP_CFG g) &&& stgMask (R.PCS_GRP_CFG g)) =
        (s.reg (R.PCS_GRP_CFG g) &&& stgMask (R.PCS_GRP_CFG g)) ∧ t.grpOn g = false) ∧
    (∀ k : Fin 32, s.isBound r (.probe k) = true →
      (t.reg (R.FAB_PRB_CAP k) &&& stgMask (R.FAB_PRB_CAP k)) = (s.staged (R.FAB_PRB_CAP k) &&& stgMask (R.FAB_PRB_CAP k)) ∧
      (t.staged (R.FAB_PRB_CAP k) &&& stgMask (R.FAB_PRB_CAP k)) = (s.reg (R.FAB_PRB_CAP k) &&& stgMask (R.FAB_PRB_CAP k)) ∧
      t.fld (R.FAB_PRB_STAT k) F.FAB_PRB_STAT_APPLY_SEQ =
        (s.fld (R.FAB_PRB_STAT k) F.FAB_PRB_STAT_APPLY_SEQ + 1) % 256))

/-- R251, R252: at its crossing after a firing a bound block no longer waits. A network interface does no more than that while
another block still waits; a group that is off in effect goes to OFF. A block that does not wait changes nothing. -/
def CrossingEndsTheWait : Prop :=
  (∀ (b : Bound) (s : State), b ∈ s.cross → Completes (.firingCrossing b) s (fun t =>
    t.cross = s.cross.erase b ∧ t.act = s.act ∧ t.shd = s.shd ∧ t.rgn = s.rgn ∧ t.fuses = s.fuses)) ∧
  (∀ (e : Fin 256) (s : State), Bound.ni e ∈ s.cross → s.cross.length ≠ 1 →
    Completes (.firingCrossing (.ni e)) s (fun t => t.cross = s.cross.erase (.ni e) ∧ Only [.cross] s t)) ∧
  (∀ (g : Fin 16) (s : State), Bound.group g ∈ s.cross → s.cross.length ≠ 1 → s.grpOn g = false →
    Completes (.firingCrossing (.group g)) s (fun t => t.grpState g = 0 ∧ RegsBut [R.PCS_GRP_STAT g] s t ∧
      Only [.csr, .cross] s t)) ∧
  (∀ (b : Bound) (s : State), b ∉ s.cross → exec (.firingCrossing b) s = .next s)

end Sys2Proof

/-- R251, R252: bound blocks exchange at the firing edge and act at their crossing. -/
def Obligations.CrossingExchangesBoundBlocks : Prop := FiringExchangesBoundValues ∧ CrossingEndsTheWait

/-- R247, R248, R255, R256: the minimum hold ends unless a stream or a fabric PLL that the firing unlocked extends it; the region is then
held only by POST_HOLD without a kept RELEASE, where no sector is powered down or about to be. RELEASE ends a hold, or is kept
through the minimum hold, or is refused while a stream runs; ENTER holds a region until a RELEASE; both bits are refused. -/
def Obligations.HoldsBeginAndEnd : Prop :=
  (∀ (r : Fin 32) (s : State), (s.rg r).minHold = true → s.streaming r = false →
    s.relocking r = false → Completes (.minimumHoldEnd r) s (fun t =>
    (t.rg r).minHold = false ∧ (t.rg r).keptRel = false ∧ (t.rg r).post = ((s.rg r).post && !(s.rg r).keptRel) ∧
    (t.rg r).act = (s.rg r).act ∧ (t.rg r).shd = (s.rg r).shd ∧
    (s.reg R.SYS_PD_REQ = 0 → s.reg R.SYS_PD_STAT = 0 → s.reg R.SYS_PD_BUSY = 0 →
      t.rgnHeld r = ((s.rg r).post && !(s.rg r).keptRel) ∧
      (∀ off, off ≠ R.CFG_RGN_STAT r → off / 2 ^ 24 ≠ 3 → t.reg off = s.reg off)) ∧
    t.act = s.act ∧ t.shd = s.shd)) ∧
  (∀ (r : Fin 32) (s : State), (s.rg r).minHold = false ∨ s.streaming r = true ∨ s.relocking r = true → exec (.minimumHoldEnd r) s = .next s) ∧
  (∀ (ep : Fin 256) (v : Word) (s : State), s.mayWrite ep R.CFG_HOLD → v.getLsbD 30 = false →
    s.rgnDefined (v.fget F.CFG_HOLD_REGION) = true → Completes (.cfgHoldRelease ep v) s (fun t =>
    (s.streaming (v.fget F.CFG_HOLD_REGION) = true →
      t.flag (R.CFG_RGN_STAT (v.fget F.CFG_HOLD_REGION)) F.CFG_RGN_STAT_CTRL_REFUSED = true ∧ t.rgn = s.rgn) ∧
    (s.streaming (v.fget F.CFG_HOLD_REGION) = false → (s.rg (v.fget F.CFG_HOLD_REGION)).minHold = true →
      t.rg (v.fget F.CFG_HOLD_REGION) = { s.rg (v.fget F.CFG_HOLD_REGION) with keptRel := true } ∧
      t.rgnHeld (v.fget F.CFG_HOLD_REGION) = s.rgnHeld (v.fget F.CFG_HOLD_REGION)) ∧
    (s.streaming (v.fget F.CFG_HOLD_REGION) = false → (s.rg (v.fget F.CFG_HOLD_REGION)).minHold = false →
      (t.rg (v.fget F.CFG_HOLD_REGION)).post = false ∧ t.rgnHeld (v.fget F.CFG_HOLD_REGION) =
        (s.rgnSectors (v.fget F.CFG_HOLD_REGION)).any (fun k => s.secGoing k)) ∧
    Only [.csr, .ic, .err, .rgn, .fab, .draws] s t)) ∧
  (∀ (ep : Fin 256) (v : Word) (s : State), s.mayWrite ep R.CFG_HOLD → v.getLsbD 31 = true →
    s.rgnDefined (v.fget F.CFG_HOLD_REGION) = true → Completes (.cfgHoldEnter ep v) s (fun t =>
    t.flag (R.CFG_RGN_STAT (v.fget F.CFG_HOLD_REGION)) F.CFG_RGN_STAT_CTRL_REFUSED = true ∧ t.rgn = s.rgn ∧
    t.rgnHeld (v.fget F.CFG_HOLD_REGION) = s.rgnHeld (v.fget F.CFG_HOLD_REGION) ∧ Only [.csr, .ic, .err] s t)) ∧
  (∀ (ep : Fin 256) (v : Word) (s : State), s.mayWrite ep R.CFG_HOLD → v.getLsbD 31 = false →
    s.rgnDefined (v.fget F.CFG_HOLD_REGION) = true → Completes (.cfgHoldEnter ep v) s (fun t =>
    t.rg (v.fget F.CFG_HOLD_REGION) = { s.rg (v.fget F.CFG_HOLD_REGION) with post := true } ∧
    t.rgnHeld (v.fget F.CFG_HOLD_REGION) = true ∧
    (∀ off, off ∉ [R.CFG_HOLD, R.CFG_RGN_STAT (v.fget F.CFG_HOLD_REGION)] → off / 2 ^ 24 ≠ 3 → t.reg off = s.reg off) ∧
    Only [.csr, .rgn, .fab, .draws] s t))

/-- R221, R223, R226, R232, R233, R256, R257: START begins a staging load from memory where nothing refuses it, and otherwise leaves the
code of R226 in CODE at once; it begins a hold-load stream for a defined, held region whose header lies in memory, and otherwise leaves
code 0x1D or 0x1C. SHADOW_VERIFIED makes the shadow of a complete staging load VERIFIED, with the load's record and map code; with no
such load, or in a halt, it changes nothing. -/
def Obligations.StagingAndHoldLoadsBegin : Prop :=
  (∀ (ep : Fin 256) (v : Word) (s : State), s.mayWrite ep R.CFG_STG_CTRL → s.loadOn .noc = none →
    (s.stageRefusal (v.fget F.CFG_STG_CTRL_REGION) true (s.addrAt R.CFG_STG_ADDR_LO R.CFG_STG_ADDR_HI)
      (s.reg R.CFG_STG_LEN).toNat = none → Completes (.cfgStgStart ep v) s (fun t =>
      t.flag R.CFG_STG_CTRL F.CFG_STG_CTRL_BUSY = true ∧
      t.loadOn .noc = some { Load.start .noc 2 (v.fget F.CFG_STG_CTRL_REGION) with
        addr := s.addrAt R.CFG_STG_ADDR_LO R.CFG_STG_ADDR_HI, len := some (s.reg R.CFG_STG_LEN).toNat } ∧
      (∀ p, p ≠ .noc → t.loadOn p = s.loadOn p) ∧ RegsBut [R.CFG_STG_CTRL] s t ∧ Only [.csr, .boot] s t)) ∧
    (∀ c, s.stageRefusal (v.fget F.CFG_STG_CTRL_REGION) true (s.addrAt R.CFG_STG_ADDR_LO R.CFG_STG_ADDR_HI)
      (s.reg R.CFG_STG_LEN).toNat = some c → Completes (.cfgStgStart ep v) s (fun t =>
      t.fld R.CFG_STG_CTRL F.CFG_STG_CTRL_CODE = c ∧ t.flag R.CFG_STG_CTRL F.CFG_STG_CTRL_BUSY = false ∧
      t.boot = s.boot ∧ t.shadow (v.fget F.CFG_STG_CTRL_REGION) = s.shadow (v.fget F.CFG_STG_CTRL_REGION)))) ∧
  (∀ (ep : Fin 256) (v : Word) (s : State), s.mayWrite ep R.CFG_HLD_CTRL → s.boot.hold = none →
    (s.rgnDefined (v.fget F.CFG_HLD_CTRL_REGION) = true → s.rgnHeld (v.fget F.CFG_HLD_CTRL_REGION) = true →
      s.memRange (s.addrAt R.CFG_HLD_ADDR_LO R.CFG_HLD_ADDR_HI) 4 = true → Completes (.cfgHldStart ep v) s (fun t =>
      t.flag R.CFG_HLD_CTRL F.CFG_HLD_CTRL_BUSY = true ∧ t.boot.hold = some ⟨v.fget F.CFG_HLD_CTRL_REGION, 0⟩ ∧
      t.flag (R.CFG_RGN_STAT (v.fget F.CFG_HLD_CTRL_REGION)) F.CFG_RGN_STAT_HOLD_LOAD = true ∧
      (t.loadOn .hold).isSome = true ∧ Only [.csr, .boot] s t)) ∧
    (s.rgnDefined (v.fget F.CFG_HLD_CTRL_REGION) = false ∨ s.rgnHeld (v.fget F.CFG_HLD_CTRL_REGION) = false →
      Completes (.cfgHldStart ep v) s (fun t => t.fld R.CFG_HLD_CTRL F.CFG_HLD_CTRL_CODE = 0x1D ∧
        Only [.csr, .ic, .err] s t)) ∧
    (s.rgnDefined (v.fget F.CFG_HLD_CTRL_REGION) = true → s.rgnHeld (v.fget F.CFG_HLD_CTRL_REGION) = true →
      s.memRange (s.addrAt R.CFG_HLD_ADDR_LO R.CFG_HLD_ADDR_HI) 4 = false → Completes (.cfgHldStart ep v) s (fun t =>
        t.fld R.CFG_HLD_CTRL F.CFG_HLD_CTRL_CODE = 0x1C ∧ Only [.csr, .ic, .err] s t))) ∧
  (∀ (r : Fin 32) (l : Load) (h : Header) (s : State), s.halted = false →
    s.boot.loads.find? (fun x => x.kind == 2 && x.path != .hold && x.region == r.val && x.verify) = some l →
    l.hdr = some h → s.rgnDefined r = true → Completes (.shadowVerified r) s (fun t =>
      t.shadow r = 2 ∧ (t.rg r).shd = some (l.record h) ∧ (t.rg r).act = (s.rg r).act ∧ t.loadOn l.path = none ∧
      t.fld (R.CFG_RGN_STAT r) F.CFG_RGN_STAT_LOAD_CODE = 0 ∧
      t.fld (R.SCR_RGN_MAP r) F.SCR_RGN_MAP_SHD_MAP = l.mapCode ∧ t.act = s.act ∧ t.shd = s.shd)) ∧
  (∀ (r : Fin 32) (s : State), s.halted = true ∨
    s.boot.loads.find? (fun x => x.kind == 2 && x.path != .hold && x.region == r.val && x.verify) = none →
    exec (.shadowVerified r) s = .next s)

/-! ## Logic fabric: bus lines and probes (02) -/

/-- R62, R63, R64: contention on a line of a sector, where two driver cells stand on it, is recorded once, clears its keeper and sends one UE
record of source 31; with fewer cells or a line already recorded nothing changes; a write of 1 to the line's bit of FAB_BUS_CONT clears
it. -/
def Obligations.BusContentionIsRecordedAndCleared : Prop :=
  (∀ (k : Fin 32) (line : Fin 64) (s : State),
    let c := if line.val < 32 then R.FAB_BUS_CONT_LO k else R.FAB_BUS_CONT_HI k
    let v := if line.val < 32 then R.FAB_BUS_VAL_LO k else R.FAB_BUS_VAL_HI k
    (s.bit c (line.val % 32) = false → 2 ≤ (s.drivers k line).length → s.quiet 31 →
      Completes (.busContentionDetect k line) s (fun t =>
      t.bit c (line.val % 32) = true ∧ t.bit v (line.val % 32) = false ∧
      (∀ j < 32, j ≠ line.val % 32 → t.bit c j = s.bit c j ∧ t.bit v j = s.bit v j) ∧
      t.err.waiting = s.err.waiting ++ [⟨k, ⟨31, 2, 0x03, k.val * 2 ^ 8 + line.val⟩, 0⟩] ∧
      RegsBut [c, v] s t ∧ Only [.csr, .ic, .err] s t)) ∧
    (s.bit c (line.val % 32) = true ∨ (s.drivers k line).length < 2 → exec (.busContentionDetect k line) s = .next s)) ∧
  (∀ (ep : Fin 256) (k : Fin 32) (hi : Bool) (v : Word) (s : State),
    let c := if hi then R.FAB_BUS_CONT_HI k else R.FAB_BUS_CONT_LO k
    s.mayWrite ep c → Completes (.fabBusContClear ep k hi v) s (fun t =>
      t.reg c = s.reg c &&& ~~~ v ∧ RegsBut [c] s t ∧ Only [.csr] s t))

/-- R73, R80, R82, R236: APPLY puts the staged probe fields of a sector into effect, ends a running capture and counts in APPLY_SEQ,
but is refused while a region that the probe is bound to is armed; ARM starts a capture of the designated blocks when EN is in
effect, or sets BAD_TARGET, and without EN starts none; STOP ends a running capture in ABORTED. Each is stated for a write that carries
no other of the three bits. -/
def Obligations.ProbeControlWrites : Prop :=
  (∀ (ep : Fin 256) (k : Fin 32) (v : Word) (s : State), s.mayWrite ep (R.FAB_PRB_CTRL k) → v.getLsbD 1 = false →
    v.getLsbD 2 = false →
    (s.armedFor (.probe k) = none → Completes (.fabPrbApply ep k v) s (fun t =>
      t.reg (R.FAB_PRB_CTRL k) &&& stgMask (R.FAB_PRB_CTRL k) = v &&& stgMask (R.FAB_PRB_CTRL k) ∧
      t.reg (R.FAB_PRB_CAP k) &&& stgMask (R.FAB_PRB_CAP k) = s.staged (R.FAB_PRB_CAP k) &&& stgMask (R.FAB_PRB_CAP k) ∧
      t.reg (R.FAB_PRB_MASK_LO k) = s.staged (R.FAB_PRB_MASK_LO k) ∧
      t.reg (R.FAB_PRB_VAL_HI k) = s.staged (R.FAB_PRB_VAL_HI k) ∧
      t.fld (R.FAB_PRB_STAT k) F.FAB_PRB_STAT_APPLY_SEQ = (s.fld (R.FAB_PRB_STAT k) F.FAB_PRB_STAT_APPLY_SEQ + 1) % 256 ∧
      t.prbState k = (if s.prbState k = 1 ∨ s.prbState k = 2 then 4 else s.prbState k) ∧ Only [.csr, .stg, .fab] s t)) ∧
    (∀ r, s.armedFor (.probe k) = some r → Completes (.fabPrbApply ep k v) s (fun t =>
      t.flag (R.CFG_RGN_STAT r) F.CFG_RGN_STAT_CTRL_REFUSED = true ∧ RegsOr [R.CFG_RGN_STAT r, R.FAB_PRB_CTRL k] s t ∧
      t.prbState k = s.prbState k))) ∧
  (∀ (ep : Fin 256) (k : Fin 32) (v : Word) (s : State), s.mayWrite ep (R.FAB_PRB_CTRL k) → v.getLsbD 0 = false →
    v.getLsbD 2 = false →
    let first := s.fld (R.FAB_PRB_CAP k) F.FAB_PRB_CAP_FIRST
    let count := s.fld (R.FAB_PRB_CAP k) F.FAB_PRB_CAP_COUNT
    let en := s.flag (R.FAB_PRB_CTRL k) F.FAB_PRB_CTRL_EN
    (en = true → first + count ≤ 255 → (∀ i ≤ count, k.val * 256 + first + i ∈ s.act.cap) →
      Completes (.fabPrbArm ep k v) s (fun t =>
      t.prbState k = 1 ∧ t.flag (R.FAB_PRB_STAT k) F.FAB_PRB_STAT_BAD_TARGET = false ∧
      t.flag (R.FAB_PRB_STAT k) F.FAB_PRB_STAT_WRAPPED = false ∧ (t.probe k).idx = 0 ∧ (t.probe k).first = first ∧
      (t.probe k).count = count ∧ Only [.csr, .stg, .fab] s t)) ∧
    (en = true → (255 < first + count ∨ ∃ i ≤ count, k.val * 256 + first + i ∉ s.act.cap) →
      Completes (.fabPrbArm ep k v) s (fun t =>
      t.prbState k = 0 ∧ t.flag (R.FAB_PRB_STAT k) F.FAB_PRB_STAT_BAD_TARGET = true ∧ Only [.csr, .stg] s t)) ∧
    (en = false → Completes (.fabPrbArm ep k v) s (fun t =>
      t.prbState k = s.prbState k ∧ RegsBut [R.FAB_PRB_CTRL k] s t ∧ Only [.csr, .stg] s t))) ∧
  (∀ (ep : Fin 256) (k : Fin 32) (v : Word) (s : State), s.mayWrite ep (R.FAB_PRB_CTRL k) → v.getLsbD 0 = false →
    v.getLsbD 1 = false → Completes (.fabPrbStop ep k v) s (fun t =>
      t.prbState k = (if s.prbState k = 1 ∨ s.prbState k = 2 then 4 else s.prbState k) ∧
      RegsBut [R.FAB_PRB_STAT k, R.FAB_PRB_CTRL k] s t ∧ Only [.csr, .stg] s t))

/-- R71, R72, R79, R81, R82: after `before` sampling edges that leave the capture ARMED, an edge that delivers a matching sample stores
it, records its index, and leaves POST more samples, at most the capacity less one, to follow; the edge that delivers the last of them
stores it and makes the capture DONE. Stated where LEAF_CE comes from no routing. A capture that is not ARMED does not trigger, and
one that is not TRIGGERED does not become DONE. -/
def Obligations.ProbeCaptures : Prop :=
  (∀ (k : Fin 32) (before : Nat) (s : State),
    let u := s.prbClocks k before
    let p := u.probe k
    let x := p.pipe.headD 0
    s.prbState k = 1 → u.prbState k = 1 → u.prbSampling k = true → (u.act.clkCfg k).leafCe = 0 → p.pipe.length = 4 →
    u.prbMatch k x = true → Completes (.probeTrigger k before) s (fun t =>
    t.prbState k = 2 ∧ t.fld (R.FAB_PRB_TRIGPTR k) F.FAB_PRB_TRIGPTR_INDEX = p.idx % 2 ^ 14 ∧
    (t.probe k).left = min (u.fld (R.FAB_PRB_CAP k) F.FAB_PRB_CAP_POST) (p.capacity - 1) ∧
    (t.probe k).idx = (p.idx + 1) % p.capacity ∧
    (t.bmWord k (p.first + p.idx / 1024) (p.idx % 1024)).bits.setWidth 64 = x ∧ Only [.csr, .fab, .draws] s t)) ∧
  (∀ (k : Fin 32) (s : State),
    let p := s.probe k
    s.prbState k = 2 → s.prbSampling k = true → (s.act.clkCfg k).leafCe = 0 → p.pipe.length = 4 → p.left = 1 →
    Completes (.probeCaptureDone k) s (fun t => t.prbState k = 3 ∧ (t.probe k).left = 0 ∧
      (t.bmWord k (p.first + p.idx / 1024) (p.idx % 1024)).bits.setWidth 64 = p.pipe.headD 0 ∧
      Only [.csr, .fab, .draws] s t)) ∧
  (∀ (k : Fin 32) (s : State), s.prbState k = 2 → (s.probe k).left = 0 → Completes (.probeCaptureDone k) s (fun t =>
    t.prbState k = 3 ∧ RegsBut [R.FAB_PRB_STAT k] s t ∧ Only [.csr] s t)) ∧
  (∀ (k : Fin 32) (before : Nat) (s : State), s.prbState k ≠ 1 → exec (.probeTrigger k before) s = .next s) ∧
  (∀ (k : Fin 32) (s : State), s.prbState k ≠ 2 → exec (.probeCaptureDone k) s = .next s)

/-! ## Block memories and queues (03) -/

namespace Sys2Proof

/-- Every stored block-memory word but one reads as before. -/
def WordsBut (sec b w : Nat) (s t : State) : Prop :=
  ∀ sec' b' w', wordKey sec' b' w' ≠ wordKey sec b w → t.bmWord sec' b' w' = s.bmWord sec' b' w'

/-- Every stored block-memory word reads as before. -/
def WordsSame (s t : State) : Prop := ∀ sec b w, t.bmWord sec b w = s.bmWord sec b w

/-- R89, R91, R93, R96, R101: a port read presents the port's bits of the stored word; with ECC a single inverted bit is corrected and
counted, two are reported and counted, and none is silent; under SR with the output register it presents OUT_INIT. What is stored
stays, except for the upsets that the command names. Stated with GSR released and no read-modify-write under way. -/
def BlockMemoryRead : Prop :=
  ∀ (k : Fin 32) (b : Fin 256) (portB : Bool) (addr : Nat) (busy : Bool) (s : State),
  let c := s.act.bmCfg (k.val * 256 + b.val)
  let p := portPlace (c.shape portB) addr
  let x := s.bmWord k b p.1
  s.bmUsable (k.val * 256 + b.val) portB = true → s.fab.gsr = false → s.rmwOf k b = none →
  (c.outReg portB = true → Completes (.bmRead k b portB addr true busy []) s (fun t =>
    t.portOut k b portB = ⟨c.outInit portB, false, false, false⟩ ∧ WordsSame s t ∧ Only [.fab] s t)) ∧
  (c.ecc = false → ∀ up, Completes (.bmRead k b portB addr false busy up) s (fun t =>
    t.portOut k b portB = ⟨portWord (c.shape portB) (t.bmWord k b p.1).bits p.2, false, false, false⟩ ∧
    (up = [] → (t.bmWord k b p.1) = x) ∧ WordsBut k b p.1 s t ∧ Only [.fab] s t)) ∧
  (c.ecc = true → x.ecc = true → x.flips = [] → Completes (.bmRead k b portB addr false busy []) s (fun t =>
    t.portOut k b portB = ⟨portWord (c.shape portB) x.raw p.2, false, false, false⟩ ∧ WordsSame s t ∧ Only [.fab] s t)) ∧
  (c.ecc = true → x.ecc = true → x.flips.length = 1 → Completes (.bmRead k b portB addr false busy []) s (fun t =>
    t.portOut k b portB = ⟨portWord (c.shape portB) x.raw p.2, true, false, false⟩ ∧
    t.reg (R.BM_CE_CNT k) = BitVec.ofNat 32 (min ((s.reg (R.BM_CE_CNT k)).toNat + 1) (2 ^ 32 - 1)) ∧
    WordsSame s t ∧ Only [.fab, .csr, .ic, .err] s t)) ∧
  (c.ecc = true → x.ecc = true → x.flips.length = 2 → Completes (.bmRead k b portB addr false busy []) s (fun t =>
    t.portOut k b portB = ⟨portWord (c.shape portB) x.data p.2, false, true, false⟩ ∧
    t.reg (R.BM_DE_CNT k) = BitVec.ofNat 32 (min ((s.reg (R.BM_DE_CNT k)).toNat + 1) (2 ^ 32 - 1)) ∧
    WordsSame s t ∧ Only [.fab, .csr, .ic, .err] s t))

/-- R88, R89, R92, R94, R95, R104, R105: a port write puts the enabled bytes into the stored word and leaves every other word; the
port's output follows its mode; before start-up step 3, or in a held region, it writes nothing. With both ports on one edge and
COMMON_CLK the bytes of port A stand, and a READ_FIRST read of port A sees the word as it was before both. Stated with GSR released and no
read-modify-write under way. -/
def BlockMemoryWrite : Prop :=
  ∀ (k : Fin 32) (b : Fin 256) (portB : Bool) (addr : Nat) (data : BitVec 72) (be : BitVec 8) (rd busy : Bool) (s : State),
  let c := s.act.bmCfg (k.val * 256 + b.val)
  let sh := c.shape portB
  let p := portPlace sh addr
  s.bmUsable (k.val * 256 + b.val) portB = true → s.fab.gsr = false → s.rmwOf k b = none →
  (s.bmWritable k b = true → c.narrow portB be = false → c.ecc = false →
    Completes (.bmWrite k b portB addr data be rd false busy none) s (fun t =>
      ((t.bmWord k b p.1).bits >>> p.2) &&& beMask sh be = data &&& beMask sh be ∧
      (t.bmWord k b p.1).bits &&& ~~~ (beMask sh be <<< p.2) = (s.bmWord k b p.1).bits &&& ~~~ (beMask sh be <<< p.2) ∧
      WordsBut k b p.1 s t ∧
      (rd = true → c.mode portB = 0 →
        t.portOut k b portB = ⟨portWord sh (t.bmWord k b p.1).bits p.2, false, false, false⟩) ∧
      (rd = true → c.mode portB = 1 →
        t.portOut k b portB = ⟨portWord sh (s.bmWord k b p.1).bits p.2, false, false, false⟩) ∧
      (c.mode portB = 2 ∨ rd = false → t.portOut k b portB = { s.portOut k b portB with wait := false }) ∧ Only [.fab] s t)) ∧
  (s.bmWritable k b = true → c.narrow portB be = false → c.ecc = true →
    Completes (.bmWrite k b portB addr data be false false busy none) s (fun t =>
      (t.bmWord k b p.1).raw = data &&& beMask sh be ∧ (t.bmWord k b p.1).ecc = true ∧ (t.bmWord k b p.1).flips = [] ∧
      WordsBut k b p.1 s t ∧ Only [.fab] s t)) ∧
  (s.bmWritable k b = false → exec (.bmWrite k b portB addr data be false false busy none) s = .next s) ∧
  (c.outReg portB = true → Completes (.bmWrite k b portB addr data be rd true busy none) s (fun t =>
      (t.portOut k b portB).dout = c.outInit portB)) ∧
  (∀ (d2 : BitVec 72) (be2 : BitVec 8), s.bmWritable k b = true → c.ecc = false → c.commonClk = true → portB = false →
    s.bmUsable (k.val * 256 + b.val) true = true →
    Completes (.bmWrite k b portB addr data be rd false busy (some ⟨addr, some (d2, be2), false, false⟩)) s (fun t =>
      ((t.bmWord k b p.1).bits >>> p.2) &&& beMask sh be = data &&& beMask sh be ∧
      (rd = true → c.modeA = 1 → (t.portOut k b false).dout = portWord sh (s.bmWord k b p.1).bits p.2)))

/-- R98, R99, R100: a narrow write under ECC reads the word, corrects it, merges the enabled bytes and writes the whole word with fresh
check bits, its port's WAIT is high, and the read-modify-write stands until the port's next edge; where the read finds a
double-bit error nothing is written and the port shows the error. A write that is not narrow is no such command. Stated with GSR
released. -/
def NarrowWriteReadsModifiesWrites : Prop :=
  ∀ (k : Fin 32) (b : Fin 256) (portB : Bool) (addr : Nat) (data : BitVec 72) (be : BitVec 8) (busy : Bool) (s : State),
  let c := s.act.bmCfg (k.val * 256 + b.val)
  let sh := c.shape portB
  let p := portPlace sh addr
  let x := s.bmWord k b p.1
  let low := BitVec.ofNat 72 (2 ^ 64 - 1)
  (s.bmUsable (k.val * 256 + b.val) portB = true → s.fab.gsr = false → s.rmwOf k b = none → s.bmWritable k b = true →
    c.narrow portB be = true → x.ecc = true →
    (x.flips.length ≤ 1 → Completes (.bmNarrowWrite k b portB addr data be false false busy) s (fun t =>
      (t.bmWord k b p.1).ecc = true ∧ (t.bmWord k b p.1).flips = [] ∧
      (t.bmWord k b p.1).raw = (mergeBits x.raw data (beMask sh be) p.2) &&& low ∧ WordsBut k b p.1 s t ∧
      (t.portOut k b portB).wait = true ∧ t.rmwOf k b = some ⟨portB, p.1⟩)) ∧
    (x.flips.length = 2 → Completes (.bmNarrowWrite k b portB addr data be false false busy) s (fun t =>
      WordsSame s t ∧ t.portOut k b portB = { s.portOut k b portB with sbe := false, dbe := true, wait := true }))) ∧
  (c.narrow portB be = false → exec (.bmNarrowWrite k b portB addr data be false false busy) s = .next s)

/-- R98, R100: while a read-modify-write stands, an edge of its own port takes no operation and ends it, with WAIT low; an edge of the
other port that addresses its word takes no operation, and its WAIT is high. -/
def OperationsWaitForReadModifyWrite : Prop :=
  ∀ (k : Fin 32) (b : Fin 256) (portB own : Bool) (addr w : Nat) (data : BitVec 72) (be : BitVec 8) (s : State),
  let c := s.act.bmCfg (k.val * 256 + b.val)
  s.bmUsable (k.val * 256 + b.val) portB = true → s.fab.gsr = false → s.rmwOf k b = some ⟨own, w⟩ →
  (own = portB → ∀ rd : Bool,
    Completes (if rd then .bmRead k b portB addr false true [] else .bmWrite k b portB addr data be false false true none) s
      (fun t => t.rmwOf k b = none ∧ (t.portOut k b portB).wait = false ∧ WordsSame s t ∧ Only [.fab] s t)) ∧
  (own = !portB → (portPlace (c.shape portB) addr).1 = w → ∀ rd : Bool,
    Completes (if rd then .bmRead k b portB addr false true [] else .bmWrite k b portB addr data be false false true none) s
      (fun t => t.rmwOf k b = some ⟨own, w⟩ ∧ t.portOut k b portB = { s.portOut k b portB with wait := true } ∧ WordsSame s t ∧
        Only [.fab] s t))

end Sys2Proof

/-- R89, R91, R93, R96, R101, R88, R92, R94, R95, R104, R105, R98, R99, R100: the block memories. -/
def Obligations.BlockMemoriesReadAndWrite : Prop :=
  BlockMemoryRead ∧ BlockMemoryWrite ∧ NarrowWriteReadsModifiesWrites ∧ OperationsWaitForReadModifyWrite

namespace Sys2Proof

/-- R111, R112, R114, R115, R116, R161: a queue of a block, or a crossing FIFO, takes a word unless FULL and gives one unless EMPTY; a refused write
sets OVF, a refused read UDF, and neither changes what is stored. -/
def QueueWritesAndReads : Prop :=
  ∀ (q : QueueId) (c : QCfg) (s : State), s.qCfg q = some c →
  let x := s.queue q
  (∀ data, s.queueOn q false = true → x.rstW = false → x.full c = false → Completes (.queueWrite q data) s (fun t =>
    t.queue q = { x with wp := (x.wp + 1) % c.cap, wrCount := x.wrCount + 1, toRd := x.toRd + 1, ovf := false } ∧
    (∀ (k : Fin 32) (b : Fin 256), q = .block k b → (s.act.bmCfg (k.val * 256 + b.val)).ecc = false →
      (s.act.bmCfg (k.val * 256 + b.val)).casc ≤ 1 →
      let sh := (s.act.bmCfg (k.val * 256 + b.val)).shapeA
      let p := portPlace sh (x.wp % shapeDepth sh)
      ((t.bmWord k b p.1).bits >>> p.2) &&& beMask sh 0xFF = data &&& beMask sh 0xFF ∧
      WordsBut k b p.1 s t ∧ Only [.fab] s t) ∧
    (∀ k d i, q = .crossing k d i →
      Tbl.get (fun _ => 0) t.fab.entries (16 * crossKey k d i + x.wp % 16) = data.setWidth 36 ∧ WordsSame s t ∧ Only [.fab] s t))) ∧
  (∀ data, s.queueOn q false = true → x.rstW = false → x.full c = true → Completes (.queueWrite q data) s (fun t =>
    t.queue q = { x with ovf := true } ∧ WordsSame s t ∧
    (∀ k b, q = .block k b → t.flag (R.BM_QSTAT k b) F.BM_QSTAT_OVF = true ∧ RegsBut [R.BM_QSTAT k b] s t) ∧
    Only [.fab, .csr] s t)) ∧
  (s.queueOn q true = true → x.rstR = false → x.empty c = false → c.fwft = false → Completes (.queueRead q) s (fun t =>
    t.queue q = { x with rp := (x.rp + 1) % c.cap, rdCount := x.rdCount - 1, toWr := x.toWr + 1, udf := false,
                         dout := some (s.queueFetch q x.rp).1.1, sbe := (s.queueFetch q x.rp).1.2.1,
                         dbe := (s.queueFetch q x.rp).1.2.2 } ∧ WordsSame s t)) ∧
  (s.queueOn q true = true → x.rstR = false → x.empty c = false → c.fwft = true → Completes (.queueRead q) s (fun t =>
    (t.queue q).rdCount = x.rdCount - 1 ∧ (t.queue q).toWr = x.toWr + 1 ∧ (t.queue q).udf = false ∧
    (∀ w rest, x.buf.tail = w :: rest → (t.queue q).dout = some w.1) ∧ WordsSame s t)) ∧
  (s.queueOn q true = true → x.rstR = false → x.empty c = true → Completes (.queueRead q) s (fun t =>
    t.queue q = { x with udf := true } ∧ WordsSame s t ∧
    (∀ k b, q = .block k b → t.flag (R.BM_QSTAT k b) F.BM_QSTAT_UDF = true ∧ RegsBut [R.BM_QSTAT k b] s t) ∧
    Only [.fab, .csr] s t))

/-- R114, R116, R117, R118, R119: an operation of one side reaches the other side's count at an edge of that side's running clock; RST puts pointers
and counts to 0 and keeps what is stored; once GSR is released each side leaves reset where its clock runs, in SYNC mode both
together; with GSR asserted neither does. -/
def QueueCrossingsAndResets : Prop :=
  (∀ (q : QueueId) (c : QCfg) (s : State), s.qCfg q = some c →
    let x := s.queue q
    (s.qRuns c true = true → x.toRd ≠ 0 → Completes (.queueCrossing q true) s (fun t =>
      (t.queue q).toRd = x.toRd - 1 ∧ (t.queue q).rdCount = x.rdCount + 1 ∧ (t.queue q).wp = x.wp ∧
      (t.queue q).wrCount = x.wrCount ∧ WordsSame s t)) ∧
    (s.qRuns c false = true → x.toWr ≠ 0 → Completes (.queueCrossing q false) s (fun t =>
      t.queue q = { x with toWr := x.toWr - 1, wrCount := x.wrCount - 1 } ∧ WordsSame s t ∧ Only [.fab] s t)) ∧
    (s.qRuns c true = false ∨ x.toRd = 0 → exec (.queueCrossing q true) s = .next s) ∧
    (∀ side, s.fab.gsr = false → s.qRuns c side = true → Completes (.queueResetRelease q side) s (fun t =>
      t.queue q = { x with rst := false, rstW := x.rstW && side && !c.sync, rstR := x.rstR && !side && !c.sync } ∧
      Only [.fab] s t)) ∧
    (∀ side, s.fab.gsr = true ∨ s.qRuns c side = false → exec (.queueResetRelease q side) s = .next s)) ∧
  (∀ (q : QueueId) (s : State), Completes (.queueReset q) s (fun t =>
    t.queue q = { Queue.reset with rst := true, dout := (s.queue q).dout } ∧ WordsSame s t ∧ Only [.fab] s t))

end Sys2Proof

/-- R111, R112, R114, R115, R116, R117, R118, R119: the queues. -/
def Obligations.QueuesHoldWordsInOrder : Prop := QueueWritesAndReads ∧ QueueCrossingsAndResets

/-! ## Arithmetic slices (04) -/

namespace Sys2Proof

/-- A slice acts: GSR released, its region not held, its leaf network running. -/
def SliceActs (k : Fin 32) (a : Fin 384) (s : State) : Prop :=
  s.fab.gsr = false ∧ s.heldIn (s.sliceRegion (k.val * 384 + a.val)) = false ∧
    s.netRuns k (s.act.slCfg (k.val * 384 + a.val)).net = true

/-- R124, R125, R126, R127, R128, R129, R143: with no register stage in use an operation forms the product of its operands, gives the
accumulator the result of its function, with OVF and saturation as SAT_EN says, and the scaled output; with every stage in use each stage
takes what the one before it held. Without CE the slice stays; RST puts it to 0; a slice that does not act changes nothing. -/
def SliceOperationComputes : Prop :=
  ∀ (k : Fin 32) (a : Fin 384) (x0 x1 : BitVec 27) (y : BitVec 24) (kk : BitVec 58) (fn : Fin 16) (ps valid : Bool) (s : State),
  let key := k.val * 384 + a.val
  let c := s.act.slCfg key
  let sl := s.slice key
  let chain := if s.linked key then (s.slice (key - 1)).acc.toInt else 0
  let sh := s.shiftOf key (s.head key)
  (SliceActs k a s →
    (c.regs = 0 → c.presum = false → c.yChain = false →
      Completes (.sliceOperation k a x0 x1 y kk fn ps valid true false) s (fun t =>
        let res := accClamp c.satEn (accResult fn sl.load sl.acc.toInt (x0.toInt * y.toInt) kk.toInt chain)
        (t.slice key).acc = res.1 ∧ (t.slice key).ovf = res.2 ∧
        (t.slice key).out = BitVec.ofInt 58 (scaleOut c.rnd sh c.ow res.1.toInt).1 ∧
        (t.slice key).oflow = (scaleOut c.rnd sh c.ow res.1.toInt).2 ∧ (t.slice key).load = false ∧
        (∀ j, j ≠ key → t.slice j = s.slice j) ∧ (∀ j, j ≠ s.head key → t.group j = s.group j) ∧ Only [.fab] s t)) ∧
    (c.regs = 0 → c.presum = true → c.yChain = false → c.psub = 0 →
      Completes (.sliceOperation k a x0 x1 y kk fn ps valid true false) s (fun t =>
        (t.slice key).acc = (accClamp c.satEn (accResult fn sl.load sl.acc.toInt ((x1 + x0).toInt * y.toInt) kk.toInt chain)).1)) ∧
    (c.regs = 31 → c.presum = false →
      Completes (.sliceOperation k a x0 x1 y kk fn ps valid true false) s (fun t =>
        (t.slice key).i1 = ⟨x0, x1, y, kk, fn, ps, valid⟩ ∧ (t.slice key).i2 = sl.i1 ∧
        (t.slice key).pr = ⟨sl.ps.op, BitVec.ofInt 51 (sl.ps.op.x0.toInt * sl.ps.g.toInt)⟩ ∧
        (t.slice key).acc = (accClamp c.satEn (accResult sl.pr.op.fn sl.load sl.acc.toInt sl.pr.pr.toInt sl.pr.op.k.toInt chain)).1 ∧
        (t.slice key).out = BitVec.ofInt 58 (scaleOut c.rnd sh c.ow sl.acc.toInt).1 ∧ (t.slice key).outV = sl.accV ∧
        (∀ j, j ≠ key → t.slice j = s.slice j) ∧ Only [.fab] s t)) ∧
    Completes (.sliceOperation k a x0 x1 y kk fn ps valid false false) s (fun t =>
      (∀ j, t.slice j = s.slice j) ∧ (∀ j, j ≠ s.head key → t.group j = s.group j) ∧ Only [.fab] s t) ∧
    (∀ ce, Completes (.sliceOperation k a x0 x1 y kk fn ps valid ce true) s (fun t =>
      t.slice key = Slice.zero ∧ (∀ j, j ≠ key → t.slice j = s.slice j) ∧ Only [.fab] s t))) ∧
  (s.fab.gsr = true ∨ s.heldIn (s.sliceRegion key) = true ∨ s.netRuns k c.net = false → ∀ ce rst,
    exec (.sliceOperation k a x0 x1 y kk fn ps valid ce rst) s = .next s)

/-- R126, R127: the accumulator functions, and that a result inside the 58-bit range is kept while one outside it sets OVF and, with
SAT_EN, stands at the limit, and wraps without it. -/
def AccumulatorFunctionsAndSaturation : Prop :=
  (∀ load acc pr k chain, accResult 1 load acc pr k chain = pr ∧ accResult 2 load acc pr k chain = -pr ∧
    accResult 3 false acc pr k chain = acc + pr ∧ accResult 3 true acc pr k chain = pr ∧
    accResult 4 false acc pr k chain = acc - pr ∧ accResult 5 load acc pr k chain = k + pr ∧
    accResult 7 load acc pr k chain = chain + pr ∧ accResult 9 load acc pr k chain = k ∧
    accResult 12 load acc pr k chain = 0 ∧ accResult 0 load acc pr k chain = acc) ∧
  (∀ (sat : Bool) (x : Int), sMin 58 ≤ x → x ≤ sMax 58 → (accClamp sat x).1.toInt = x ∧ (accClamp sat x).2 = false) ∧
  (∀ x : Int, sMax 58 < x → (accClamp true x).1.toInt = sMax 58 ∧ (accClamp true x).2 = true) ∧
  (∀ x : Int, x < sMin 58 → (accClamp true x).1.toInt = sMin 58 ∧ (accClamp true x).2 = true) ∧
  (∀ x : Int, x < sMin 58 ∨ sMax 58 < x → (accClamp false x).1 = BitVec.ofInt 58 x ∧ (accClamp false x).2 = true)

end Sys2Proof

/-- R134-R138, R140, R141, R143: a block of an exponent group closes when its count reaches BLK_LEN; a control-cycle start, from CYC_IN or from a cone
event that waits, closes it too and makes the accumulators with ACC_CYC load; the shift of a close takes effect at its update, which
drives GRP_H, EXP_INC and EXP_LATE. A group that does not act, or has nothing to close or to update, does none of it. -/
def Obligations.ExponentGroupsCloseAndShift : Prop :=
  ∀ (k : Fin 32) (a : Fin 384) (s : State),
  let key := k.val * 384 + a.val
  let c := s.act.slCfg key
  let g := s.group key
  (s.head key = key → 0 < c.blkLen → c.blkLen ≤ g.count → SliceActs k a s →
    Completes (.exponentBlockClose k a) s (fun t =>
      (t.group key).count = 0 ∧ (t.group key).low = none ∧ (t.group key).h = some (g.low.getD (c.ow - 1)) ∧
      (t.group key).next = g.next ++ [(g.low.getD (c.ow - 1), false)] ∧ (t.group key).eff = g.eff ∧
      (∀ j, t.slice j = s.slice j) ∧ Only [.fab] s t)) ∧
  (g.count < c.blkLen → exec (.exponentBlockClose k a) s = .next s) ∧
  (∀ cyc, s.head key = key → SliceActs k a s → (c.cycSrc = 1 ∧ cyc = true) ∨ (c.cycSrc = 2 ∧ g.cone = true) →
    Completes (.controlCycleStart k a cyc) s (fun t =>
      (t.group key).pulse = true ∧ (t.group key).cone = false ∧ (t.group key).count = 0 ∧
      (t.group key).next = g.next ++ [(g.low.getD (c.ow - 1), false)] ∧
      (∀ m ∈ s.members s.act key, (s.act.slCfg m).accCyc = true → t.slice m = { s.slice m with load := true }) ∧
      (∀ m, m ∉ s.members s.act key → t.slice m = s.slice m) ∧ Only [.fab] s t)) ∧
  (∀ cyc, c.cycSrc = 0 → (∀ p ∈ s.fab.groups, p.2.cone = false) → exec (.controlCycleStart k a cyc) s = .next s) ∧
  (∀ h late rest, SliceActs k a s → g.next = (h, late) :: rest → Completes (.shiftUpdate k a) s (fun t =>
    t.group key = { g with eff := some h, next := rest, expLate := late, pulse := false } ∧ t.grpH key = h % 64 ∧
    t.expInc key = (if c.grpShift then (c.shift h - min 57 c.shBase) % 8 else 0) ∧
    (∀ j, j ≠ key → t.group j = s.group j) ∧ Only [.fab] s t)) ∧
  (g.next = [] ∨ ¬ SliceActs k a s → exec (.shiftUpdate k a) s = .next s)

/-- R124, R125, R126, R127, R128, R143: what a slice computes. -/
def Obligations.SlicesComputeAndSaturate : Prop := SliceOperationComputes ∧ AccumulatorFunctionsAndSaturation

/-! ## Network time (13) -/

namespace Sys2Proof

/-- The write of a domain's control register carries no other action and leaves SERVO_EN as it is. -/
def OnlyAction (s : State) (d bit : Nat) (v : Word) : Prop :=
  (∀ j < 4, j ≠ bit → v.getLsbD j = false) ∧ v.getLsbD 4 = s.flag (R.TIM_TD_CTRL d) F.TIM_TD_CTRL_SERVO_EN

/-- R424, R426, R429, R430: SET gives a domain the time in W0 to W2, STEP adds the signed operand at once, and both cancel a slew
and set STEPPED; SLEW makes the operand the amount still to add; SNAP copies the time into its four registers. No other domain's
time changes. Before the first lock of the time PLL, SET leaves every time as it is. Each is stated for a write that carries no other of
the four bits and leaves SERVO_EN as it is. -/
def TimeControlActions : Prop :=
  ∀ (ep : Fin 256) (d : Fin 32) (v : Word) (s : State), s.mayWrite ep (R.TIM_TD_CTRL d) →
  (s.timRun = true → OnlyAction s d 1 v → Completes (.timSetWrite ep d v) s (fun t =>
    t.ctr d = (((s.reg (R.TIM_TD_W1 d)).toNat + 2 ^ 32 * ((s.reg (R.TIM_TD_W2 d)).toNat % 2 ^ 16)) * 10 ^ 9 +
      min (s.reg (R.TIM_TD_W0 d)).toNat 999999999) * 2 ^ 48 ∧
    t.slewLeft d = 0 ∧ t.flag (R.TIM_TD_STAT d) F.TIM_TD_STAT_STEPPED = true ∧
    (∀ j : Fin 32, j ≠ d → t.ctr j = s.ctr j ∧ t.slewLeft j = s.slewLeft j) ∧ t.gate = s.gate)) ∧
  (s.timRun = true → OnlyAction s d 2 v → Completes (.timStepWrite ep d v) s (fun t =>
    (t.ctr d : Int) = ((s.ctr d : Int) + s.operand d * 2 ^ 32) % (wrapU : Int) ∧ t.slewLeft d = 0 ∧
    t.flag (R.TIM_TD_STAT d) F.TIM_TD_STAT_STEPPED = true ∧
    (∀ j : Fin 32, j ≠ d → t.ctr j = s.ctr j ∧ t.slewLeft j = s.slewLeft j))) ∧
  (s.timRun = true → OnlyAction s d 3 v → Completes (.timSlewWrite ep d v) s (fun t =>
    t.slewLeft d = s.operand d * 2 ^ 32 ∧ (∀ j : Fin 32, t.ctr j = s.ctr j) ∧
    (∀ j : Fin 32, j ≠ d → t.slewLeft j = s.slewLeft j) ∧ RegsOr [R.TIM_TD_CTRL d, R.TIM_TD_STAT d] s t)) ∧
  (s.timRun = true → OnlyAction s d 0 v → Completes (.timSnapWrite ep d v) s (fun t =>
    t.reg (R.TIM_TD_TFRAC d) = BitVec.ofNat 32 (s.time16 d % 2 ^ 16) ∧
    t.reg (R.TIM_TD_TNS d) = BitVec.ofNat 32 (s.time16 d / 2 ^ 16 % 10 ^ 9) ∧
    t.reg (R.TIM_TD_TSEC_LO d) = BitVec.ofNat 32 (s.time16 d / 2 ^ 16 / 10 ^ 9) ∧
    t.reg (R.TIM_TD_TSEC_HI d) = BitVec.ofNat 32 (s.time16 d / 2 ^ 16 / 10 ^ 9 / 2 ^ 32) ∧ t.tim = s.tim)) ∧
  (s.timRun = false → OnlyAction s d 1 v → Completes (.timSetWrite ep d v) s (fun t =>
    t.tim = s.tim ∧ RegsOr [R.TIM_TD_CTRL d, R.TIM_TD_STAT d] s t))

/-- R423, R429, R430: when a slew that makes progress is done, the time-clock cycles it needs have passed and nothing of it is left; the
domain has moved by the whole of it beside its rate. -/
def SlewDoneAddsTheWholeSlew : Prop :=
  ∀ (d : Fin 32) (s : State), s.timRun = true → s.slewLeft d ≠ 0 → (s.perCycle d).2 ≠ 0 →
  Completes (.slewDone d) s (fun t =>
    t.slewLeft d = 0 ∧
    t.tim.cycles = s.tim.cycles + ceilDiv (s.slewLeft d).natAbs (s.perCycle d).2.natAbs ∧
    (t.ctr d : Int) = ((s.ctr d : Int) + ceilDiv (s.slewLeft d).natAbs (s.perCycle d).2.natAbs * (s.perCycle d).1 +
      s.slewLeft d) % (wrapU : Int) ∧
    t.csr = s.csr ∧ Only [.tim] s t)

/-- R432, R433, R435, R436: a sample written while the servo is on is processed, held, or replaces the one held with OVERRUN; a sample
processed reads back and, without a step, gives the integrator and the frequency of R433; enabling the servo starts the integrator from the frequency in
effect. -/
def ServoSamplesAndEnable : Prop :=
  (∀ (ep : Fin 256) (d : Fin 32) (v : Word) (s : State), s.mayWrite ep (R.TIM_TD_OFFS_HI d) → s.timRun = true →
    s.frozen F.DBG_FRZ_TIM = false → s.flag (R.TIM_TD_CTRL d) F.TIM_TD_CTRL_SERVO_EN = true →
    s.fld (R.TIM_TD_CTRL d) F.TIM_TD_CTRL_OSRC < 4 →
    let theta := signed 64 ((Tbl.get (fun _ => (0 : Word)) s.tim.offsLo d).toNat + 2 ^ 32 * v.toNat)
    Completes (.servoSampleSubmit ep d v) s (fun t =>
      (s.busy d = none → t.busy d = some theta ∧ t.waiting d = s.waiting d ∧ t.csr = s.csr) ∧
      (∀ x, s.busy d = some x → s.waiting d = none → t.busy d = some x ∧ t.waiting d = some theta ∧ t.csr = s.csr) ∧
      (∀ x y, s.busy d = some x → s.waiting d = some y → t.busy d = some x ∧ t.waiting d = some theta ∧
        t.flag (R.TIM_TD_STAT d) F.TIM_TD_STAT_OVERRUN = true) ∧
      (∀ j, j ≠ d.val → t.busy j = s.busy j ∧ t.waiting j = s.waiting j))) ∧
  (∀ (d : Fin 32) (theta : Int) (s : State), s.frozen F.DBG_FRZ_TIM = false → s.busy d = some theta →
    Completes (.servoSampleProcess d) s (fun t =>
      t.busy d = s.waiting d ∧ t.waiting d = none ∧
      t.reg (R.TIM_TD_OFFS_LO d) = BitVec.ofNat 32 (unsigned 64 theta) ∧
      t.reg (R.TIM_TD_OFFS_HI d) = BitVec.ofNat 32 (unsigned 64 theta / 2 ^ 32) ∧
      (s.flag (R.TIM_TD_CTRL d) F.TIM_TD_CTRL_STEP_EN = false →
        let p : Int := theta * 2 ^ (7 - signed 4 (s.fld (R.TIM_TD_SERVO d) F.TIM_TD_SERVO_TAU)).toNat
        let fmax : Int := (max 1 (s.fld (R.TIM_TD_SERVO d) F.TIM_TD_SERVO_FMAX) * 1000 * 2 ^ 39 : Nat)
        let i := clampI fmax (s.integ d + (s.fld (R.TIM_TD_GAIN d) F.TIM_TD_GAIN_KI : Int) * p)
        let y := clampI fmax ((s.fld (R.TIM_TD_GAIN d) F.TIM_TD_GAIN_KP : Int) * p + i)
        t.integ d = i ∧ t.reg (R.TIM_TD_FREQ_LO d) = BitVec.ofNat 32 (unsigned 48 (servoFreq y)) ∧ t.ctr d = s.ctr d))) ∧
  (∀ (d : Fin 32) (s : State), s.busy d = none → exec (.servoSampleProcess d) s = .next s) ∧
  (∀ (ep : Fin 256) (d : Fin 32) (v : Word) (s : State), s.mayWrite ep (R.TIM_TD_CTRL d) → (∀ j < 4, v.getLsbD j = false) →
    s.flag (R.TIM_TD_CTRL d) F.TIM_TD_CTRL_SERVO_EN = false → Completes (.servoEnable ep d v) s (fun t =>
      t.flag (R.TIM_TD_CTRL d) F.TIM_TD_CTRL_SERVO_EN = true ∧ t.integ d = -(s.freq d) * 1953125 ∧
      t.ctr d = s.ctr d ∧ RegsBut [R.TIM_TD_CTRL d] s t))

end Sys2Proof

/-- R424, R426, R429, R430, R423, R432, R433, R435, R436: the time domains. -/
def Obligations.TimeDomainsSlewAndServe : Prop := TimeControlActions ∧ SlewDoneAddsTheWholeSlew ∧ ServoSamplesAndEnable

namespace Sys2Proof

/-- R438, R439: an accepted edge at PPS_IN is remembered and gives its offset from the nearest second to each domain that it is the
source of; an edge of the other kind, or one too early, gives nothing. A PPS_OUT pulse comes when the domain reaches its next
second, shifted by OFS. -/
def PulsesPerSecond : Prop :=
  (∀ (j : Fin 4) (rising : Bool) (after : Nat) (sub : Fin 8) (s : State),
    let t := s.advance after
    let c := (t.reg (R.TIM_PPSI_CFG j)).toNat
    let last := Tbl.get (fun _ => 0) t.tim.ppsIn j
    (t.timRun = true → c % 2 = 1 → ((c / 2 % 2 = 0) ↔ rising = true) → (last = 0 ∨ last - 1 + 500000000 ≤ t.tim.cycles) →
      Completes (.ppsInEdge j rising after sub) s (fun u =>
        Tbl.get (fun _ => 0) u.tim.ppsIn j = t.tim.cycles + 1 ∧ u.tim.cycles = t.tim.cycles ∧
        (∀ d : Fin 32, t.fld (R.TIM_TD_CTRL d) F.TIM_TD_CTRL_OSRC = 4 + j →
          t.flag (R.TIM_TD_CTRL d) F.TIM_TD_CTRL_SERVO_EN = true → t.frozen F.DBG_FRZ_TIM = false → t.busy d = none →
          u.busy d = some (ppsTheta ((t.stamp d sub : Int) - signed 32 (t.reg (R.TIM_PPSI_DLY j)).toNat * 2 ^ 8))) ∧
        (∀ d : Fin 32, t.fld (R.TIM_TD_CTRL d) F.TIM_TD_CTRL_OSRC ≠ 4 + j → u.busy d = t.busy d))) ∧
    (c % 2 = 0 → exec (.ppsInEdge j rising after sub) s = .next t)) ∧
  (∀ (j : Fin 4) (s : State), s.timRun = true → (s.reg (R.TIM_PPSO_CFG j)).toNat % 2 = 1 →
    s.tim.ppsJump.contains j.val = false → Completes (.ppsOutPulse j) s (fun t =>
      t.tim.cycles = s.tim.cycles + s.cyclesTo ((s.reg (R.TIM_PPSO_CFG j)).toNat / 16 % 32) (s.ppsNext j) ∧
      Tbl.get (fun _ => 0) t.tim.ppsLead j = t.tim.cycles + 1 ∧ t.csr = s.csr ∧ Only [.tim] s t)) ∧
  (∀ (j : Fin 4) (s : State), s.timRun = false → exec (.ppsOutPulse j) s = .next s)

/-- R162, R440, R441, R442, R443, R445: arming a cone that is not enabled gives it its target and count; a target already passed gives an
event at once with LATE_OK and sets LATE otherwise; disarming keeps events on their way; an event of an armed cone is on its way for six
cycles, sets EVT, counts, and leaves a single cone done and a periodic one without a count at its next target. -/
def ConesArmFireAndDisarm : Prop :=
  (∀ (ep : Fin 256) (n : Fin 64) (v : Word) (s : State), s.mayWrite ep (R.TIM_CONE_CTRL n) →
    s.flag (R.TIM_CONE_CTRL n) F.TIM_CONE_CTRL_EN = false →
    let cnt := (s.reg (R.TIM_CONE_PERF n)).toNat / 2 ^ 16
    let k := passed (s.coneTarget n) (s.conePeriod n) (reached (s.ctr (v.fget F.TIM_CONE_CTRL_DOM)))
    (s.timRun = false ∨ k = 0 → Completes (.coneArm ep n v) s (fun t =>
      t.flag (R.TIM_CONE_CTRL n) F.TIM_CONE_CTRL_ARMED = true ∧ t.flag (R.TIM_CONE_CTRL n) F.TIM_CONE_CTRL_DONE = false ∧
      t.cone n = ⟨s.coneTarget n, if cnt = 0 then none else some cnt⟩ ∧ t.coneDom n = v.fget F.TIM_CONE_CTRL_DOM ∧
      t.tim.deliv = s.tim.deliv ∧ RegsBut [R.TIM_CONE_CTRL n] s t)) ∧
    (s.timRun = true → k ≠ 0 → v.getLsbD 2 = false → Completes (.coneArm ep n v) s (fun t =>
      t.flag (R.TIM_CONE_CTRL n) F.TIM_CONE_CTRL_LATE = true ∧ t.tim.deliv = s.tim.deliv)) ∧
    (s.timRun = true → k ≠ 0 → v.getLsbD 2 = true → Completes (.coneArm ep n v) s (fun t =>
      t.flag (R.TIM_CONE_CTRL n) F.TIM_CONE_CTRL_EVT = true ∧ t.tim.deliv = s.tim.deliv ++ [(n.val, s.tim.cycles + 6)]))) ∧
  (∀ (ep : Fin 256) (n : Fin 64) (v : Word) (s : State), s.mayWrite ep (R.TIM_CONE_CTRL n) →
    Completes (.coneDisarm ep n v) s (fun t =>
      t.flag (R.TIM_CONE_CTRL n) F.TIM_CONE_CTRL_ARMED = false ∧ t.flag (R.TIM_CONE_CTRL n) F.TIM_CONE_CTRL_DONE = false ∧
      t.flag (R.TIM_CONE_CTRL n) F.TIM_CONE_CTRL_EN = false ∧ t.tim.deliv = s.tim.deliv)) ∧
  (∀ (n : Fin 64) (s : State), s.coneArmed n = true → Completes (.coneEvent n) s (fun t =>
    t.tim.deliv = s.tim.deliv ++ [(n.val, t.tim.cycles + 6)] ∧ t.flag (R.TIM_CONE_CTRL n) F.TIM_CONE_CTRL_EVT = true ∧
    t.fld (R.TIM_CONE_EVCNT n) F.TIM_CONE_EVCNT_COUNT =
      (s.fld (R.TIM_CONE_EVCNT n) F.TIM_CONE_EVCNT_COUNT + 1) % 2 ^ F.TIM_CONE_EVCNT_COUNT.w ∧
    (s.flag (R.TIM_CONE_CTRL n) F.TIM_CONE_CTRL_PERIODIC = false →
      t.flag (R.TIM_CONE_CTRL n) F.TIM_CONE_CTRL_ARMED = false ∧ t.flag (R.TIM_CONE_CTRL n) F.TIM_CONE_CTRL_DONE = true) ∧
    (s.flag (R.TIM_CONE_CTRL n) F.TIM_CONE_CTRL_PERIODIC = true → (s.cone n).left = none →
      t.cone n = ⟨(s.cone n).tgt + s.conePeriod n, none⟩ ∧ t.flag (R.TIM_CONE_CTRL n) F.TIM_CONE_CTRL_ARMED = true))) ∧
  (∀ (n : Fin 64) (s : State), s.coneArmed n = false → exec (.coneEvent n) s = .next s)

/-- R162, R239, R444, R446: the oldest event on its way is delivered at its cycle: the firing gate takes one request for the regions that
follow the cone, and the TIME_EVT outputs that follow it start their pulse. With no event on its way nothing happens. -/
def ConeEventsAreDelivered : Prop :=
  (∀ (n due : Nat) (r : List (Nat × Nat)) (s : State), s.tim.deliv = (n, due) :: r → Completes .coneEventDelivery s (fun t =>
    t.tim.deliv = r ∧ (s.timRun = true → t.tim.cycles = max s.tim.cycles due) ∧
    t.gate.reqs = (if s.coneRegions n = [] then s.gate.reqs else s.gate.reqs ++ [⟨s.coneRegions n, 4, none, []⟩]) ∧
    (∀ k : Fin 16, s.flag (R.TIM_EVT_CFG k) F.TIM_EVT_CFG_EN = true → s.fld (R.TIM_EVT_CFG k) F.TIM_EVT_CFG_CONE = n →
      Tbl.get (fun _ => 0) t.tim.evt k =
        t.tim.cycles + 8 * max 1 (s.fld (R.TIM_EVT_CFG k) F.TIM_EVT_CFG_WIDTH)) ∧
    t.act = s.act ∧ t.shd = s.shd)) ∧
  (∀ s : State, s.tim.deliv = [] → exec .coneEventDelivery s = .next s)

end Sys2Proof

/-- R162, R239, R438, R439, R440, R441, R442, R443, R444, R445, R446: pulses per second and the cones. -/
def Obligations.PulsesAndCones : Prop := PulsesPerSecond ∧ ConesArmFireAndDisarm ∧ ConeEventsAreDelivered

namespace Sys2Proof

/-- R447, R448, R449: an edge at a source that one capture watches enters that capture's FIFO with its stamp, or is lost with OVF
where 32 wait; a read of TIM_CAPF_W0 gives and removes the oldest entry, and 0 where there is none. -/
def CapturesEnterAndLeaveTheFifo : Prop :=
  (∀ (src : Fin 144) (c : Fin 64) (rising : Bool) (after : Nat) (sub : Fin 8) (s : State),
    let t := s.advance after
    t.timRun = true → t.capPortUp src = true → t.capWatches c src = true → (∀ c' < 64, c' ≠ c.val → t.capWatches c' src = false) →
    (t.fld (R.TIM_CAP_CFG c) F.TIM_CAP_CFG_EDGE).testBit (if rising then 0 else 1) = true →
    (Tbl.get (fun _ => 0) t.tim.capLast c = 0 ∨ Tbl.get (fun _ => 0) t.tim.capLast c - 1 + 8 ≤ t.tim.cycles) →
    Completes (.captureEdge src rising after sub) s (fun u =>
      ((t.capFifo (c / 4)).length < 32 → u.capFifo (c / 4) =
        t.capFifo (c / 4) ++ [⟨c, !rising, t.stamp (t.fld (R.TIM_CAP_CFG c) F.TIM_CAP_CFG_DOM) sub⟩] ∧ u.csr = t.csr) ∧
      (32 ≤ (t.capFifo (c / 4)).length → u.capFifo (c / 4) = t.capFifo (c / 4) ∧
        u.flag (R.TIM_CAPF_STAT (c / 4)) F.TIM_CAPF_STAT_OVF = true) ∧
      (∀ g, g ≠ c.val / 4 → u.capFifo g = t.capFifo g))) ∧
  (∀ (ep : Fin 256) (g : Fin 16) (s : State), s.mayRead ep (R.TIM_CAPF_W0 g) → ep ≠ 0x6B →
    (∀ e r, s.capFifo g = e :: r → Completes (.timCapfW0Read ep g) s (fun t =>
      t.out = leBytes 4 ((2 ^ 31 + (if e.fall then 2 else 1) * 2 ^ 8 + e.cap) % 2 ^ 32) ∧ t.capFifo g = r ∧
      t.reg (R.TIM_CAPF_W1 g) = BitVec.ofNat 32 (e.time / 2 ^ 16 % 10 ^ 9) ∧
      t.reg (R.TIM_CAPF_W2 g) = BitVec.ofNat 32 (e.time / 2 ^ 16 / 10 ^ 9) ∧ Only [.csr, .tim, .out] s t)) ∧
    (s.capFifo g = [] → Completes (.timCapfW0Read ep g) s (fun t => t.out = [0, 0, 0, 0] ∧ t.tim = s.tim ∧ Only [.out] s t)))

/-- R453, R454, R458, R459, R463: a received frame start presents the stamp of the lane, or none where it does not stamp; a frame sent goes out as
given where the lane does not stamp or there is no command, with its time-stamp word in the two-step FIFO under a two-step command with
room in it, and with its correctionField updated under a one-step command that ONESTEP_EN, the range of the difference and the frame
allow; the FIFO is read through TIM_LN_TSF0 or the port, whichever TSF_CSR names. -/
def LaneTimeStamps : Prop :=
  (∀ (n : Fin 144) (pos : Int) (after : Nat) (sub : Fin 8) (s : State), Completes (.rxFrameStart n pos after sub) s (fun t =>
    let u := s.advance after
    Tbl.get (fun _ => none) t.tim.rxTs n =
      (if u.stamps n = true ∧ u.flag (R.TIM_LN_CFG n) F.TIM_LN_CFG_RX_EN = true then some (u.laneStamp n false pos sub)
       else none) ∧ t.csr = s.csr ∧ Only [.tim] s t)) ∧
  (∀ (n : Fin 144) (cmd : Fin 4) (tag : BitVec 16) (encap : Fin 3) (off : BitVec 8) (base : BitVec 64) (frame : List (BitVec 8))
    (pos : Int) (after : Nat) (sub : Fin 8) (s : State),
    let u := s.advance after
    u.operates n = true →
    (u.stamps n = false ∨ u.flag (R.TIM_LN_CFG n) F.TIM_LN_CFG_TX_EN = false ∨ cmd = 0 →
      Completes (.txFrameStart n cmd tag encap off base frame pos after sub) s (fun t =>
        Tbl.get (fun _ => []) t.tim.sent n = frame ∧ t.tsFifo n = s.tsFifo n ∧ t.csr = s.csr)) ∧
    (u.stamps n = true → u.flag (R.TIM_LN_CFG n) F.TIM_LN_CFG_TX_EN = true → cmd = 1 → (s.tsFifo n).length < 16 →
      Completes (.txFrameStart n cmd tag encap off base frame pos after sub) s (fun t =>
        Tbl.get (fun _ => []) t.tim.sent n = frame ∧
        t.tsFifo n = s.tsFifo n ++ [(tag.toNat, u.laneStamp n true pos sub)] ∧ t.csr = s.csr)) ∧
    (u.stamps n = true → u.flag (R.TIM_LN_CFG n) F.TIM_LN_CFG_TX_EN = true →
      u.flag (R.TIM_LN_CFG n) F.TIM_LN_CFG_ONESTEP_EN = true → cmd = 2 →
      (stampDelta (u.laneStamp n true pos sub) base.toNat).natAbs < 8 * 10 ^ 9 →
      (if encap = 0 then 14 else 42) ≤ off.toNat → off.toNat + 20 ≤ frame.length →
      Completes (.txFrameStart n cmd tag encap off base frame pos after sub) s (fun t =>
        Tbl.get (fun _ => []) t.tim.sent n =
          oneStep frame encap off.toNat (stampDelta (u.laneStamp n true pos sub) base.toNat) ∧
        t.tsFifo n = s.tsFifo n))) ∧
  (∀ (ep : Fin 256) (n : Fin 144) (tag w : Nat) (r : List (Nat × Nat)) (s : State), s.mayRead ep (R.TIM_LN_TSF0 n) → ep ≠ 0x6B →
    s.tsFifo n = (tag, w) :: r → s.flag (R.TIM_LN_CFG n) F.TIM_LN_CFG_TSF_CSR = true →
    Completes (.timLnTsf0Read ep n) s (fun t =>
      t.out = leBytes 4 (2 ^ 31 + tag % 2 ^ 16) ∧ t.tsFifo n = r ∧ t.reg (R.TIM_LN_TSF1 n) = BitVec.ofNat 32 w ∧
      t.reg (R.TIM_LN_TSF2 n) = BitVec.ofNat 32 (w / 2 ^ 32) ∧ Only [.csr, .tim, .out] s t)) ∧
  (∀ (n : Fin 144) (s : State),
    (s.flag (R.TIM_LN_CFG n) F.TIM_LN_CFG_TSF_CSR = false → Completes (.twoStepPortPop n) s (fun t =>
      t.tsFifo n = (s.tsFifo n).tail ∧ (∀ m, m ≠ n.val → t.tsFifo m = s.tsFifo m) ∧ Only [.tim] s t)) ∧
    (s.flag (R.TIM_LN_CFG n) F.TIM_LN_CFG_TSF_CSR = true → exec (.twoStepPortPop n) s = .next s))

end Sys2Proof

/-- R447, R448, R449, R453, R454, R458, R459, R463: captures and lane time stamps. -/
def Obligations.CapturesAndLaneTimeStamps : Prop := CapturesEnterAndLeaveTheFifo ∧ LaneTimeStamps

/-! ## Lanes (10) -/

namespace Sys2Proof

/-- R341, R342, R343: APPLY applies the staged fields of a quad and its four lanes together; settings that fail their check keep the
values in effect and set LC_REJ, RATE_REJ or FFE_REJ; an operating lane waits for its lane-safe point. Stated for a write that leaves LQ_CTRL.EN as it
is while no armed region binds the quad; while one does, nothing is applied (R236). -/
def QuadApplyChecksAndApplies : Prop :=
  ∀ (ep : Fin 256) (q : Fin 36) (v : Word) (s : State), s.mayWrite ep (R.LQ_CTRL q) →
  v.getLsbD 1 = s.flag (R.LQ_CTRL q) F.LQ_CTRL_EN →
  (s.armedFor (.quad q) = none → Completes (.lqApply ep q v) s (fun t =>
    (s.lcValid q (s.staged (R.LQ_LCPLL q)) (s.staged (R.LQ_LCFRAC q)) = true →
      (t.reg (R.LQ_LCPLL q) &&& 0x7FF) = (s.staged (R.LQ_LCPLL q) &&& 0x7FF) ∧
      (t.reg (R.LQ_LCFRAC q) &&& 0xFFFFFF) = (s.staged (R.LQ_LCFRAC q) &&& 0xFFFFFF) ∧
      t.flag (R.LQ_CTRL q) F.LQ_CTRL_LC_EN = v.getLsbD 5) ∧
    (s.lcValid q (s.staged (R.LQ_LCPLL q)) (s.staged (R.LQ_LCFRAC q)) = false →
      t.reg (R.LQ_LCPLL q) = s.reg (R.LQ_LCPLL q) ∧ t.reg (R.LQ_LCFRAC q) = s.reg (R.LQ_LCFRAC q) ∧
      t.staged (R.LQ_LCPLL q) = s.staged (R.LQ_LCPLL q) ∧
      t.flag (R.LQ_CTRL q) F.LQ_CTRL_LC_EN = s.flag (R.LQ_CTRL q) F.LQ_CTRL_LC_EN ∧ t.bit (R.LQ_INT_STAT q) 3 = true) ∧
    (∀ n : Fin 144, n.val / 4 = q.val →
      let ok := s.rateValid q (s.staged (R.LN_RATE n)) (s.staged (R.LN_RPLL n)) (s.staged (R.LN_RFRAC n))
        (t.reg (R.LQ_LCPLL q)) (t.reg (R.LQ_LCFRAC q)) (t.flag (R.LQ_CTRL q) F.LQ_CTRL_LC_EN)
      (ok = true → (t.reg (R.LN_RATE n) &&& 0x7F) = (s.staged (R.LN_RATE n) &&& 0x7F) ∧
        (t.reg (R.LN_RPLL n) &&& 0x17FF) = (s.staged (R.LN_RPLL n) &&& 0x17FF) ∧
        (t.reg (R.LN_RFRAC n) &&& 0xFFFFFF) = (s.staged (R.LN_RFRAC n) &&& 0xFFFFFF)) ∧
      (ok = false → t.reg (R.LN_RATE n) = s.reg (R.LN_RATE n) ∧ t.reg (R.LN_RPLL n) = s.reg (R.LN_RPLL n) ∧
        t.reg (R.LN_RFRAC n) = s.reg (R.LN_RFRAC n) ∧ t.staged (R.LN_RATE n) = s.staged (R.LN_RATE n) ∧
        t.bit (R.LN_INT_STAT n) 6 = true) ∧
      (ffeValid (s.staged (R.LN_TX_FFE n)) = true →
        (t.reg (R.LN_TX_FFE n) &&& 0x3FFFFFF) = (s.staged (R.LN_TX_FFE n) &&& 0x3FFFFFF)) ∧
      (ffeValid (s.staged (R.LN_TX_FFE n)) = false →
        t.reg (R.LN_TX_FFE n) = s.reg (R.LN_TX_FFE n) ∧ t.bit (R.LN_INT_STAT n) 7 = true) ∧
      (t.reg (R.LN_RX_EQ n) &&& 0x1FF) = (s.staged (R.LN_RX_EQ n) &&& 0x1FF) ∧
      (s.operates n = true → t.flag (R.LN_STAT n) F.LN_STAT_APPLY_PEND = true ∧ (t.lane n).rate = (s.lane n).rate)) ∧
    (∀ n : Fin 144, n.val / 4 ≠ q.val → t.lane n = s.lane n ∧ t.reg (R.LN_RATE n) = s.reg (R.LN_RATE n)) ∧
    Only [.csr, .stg, .ic, .err, .ser, .draws] s t)) ∧
  (∀ r, s.armedFor (.quad q) = some r → Completes (.lqApply ep q v) s (fun t =>
    t.flag (R.CFG_RGN_STAT r) F.CFG_RGN_STAT_CTRL_REFUSED = true ∧ RegsOr [R.CFG_RGN_STAT r] s t ∧ t.ser = s.ser))

/-- The registers that the loss of a lane's lock may touch: its own, and those of the group that it belongs to. -/
def lossRegs (s : State) (n : Nat) : List Nat :=
  [R.LN_STAT n, R.LN_INT_STAT n, R.LN_PRBS_RX n, R.PCS_LN_STAT n] ++
  (match s.groupOf n with | some g => [R.PCS_GRP_STAT g, R.PCS_GRP_FAULTS g, R.PCS_GRP_INT_STAT g] | none => [])

/-- Where the LC PLL of a lane's quad runs, its enable is still on. -/
def LcKept (s : State) (n : Nat) : Prop :=
  (s.quad (n / 4)).lcOn = true → s.flag (R.LQ_CTRL (n / 4)) F.LQ_CTRL_LC_EN = true

/-- R343, R344, R345, R357, R358, R359: at its lane-safe point a lane takes the settings in effect; where its rate changes it goes through the change with LOL
at 1 and no LOL_SET; when its PLL has locked CHANGING clears and CHANGE_DONE is set; when its CDR locks LOL clears. The LC PLL that stops with it is lost by every lane of the quad that
selects it. A lane that does not operate, or that boundary scan has, takes none of these events. -/
def LanesTakeNewSettings : Prop :=
  (∀ (n : Fin 144) (s : State), s.laneLive n = true → s.flag (R.LN_STAT n) F.LN_STAT_APPLY_PEND = true →
    Completes (.laneSafePoint n) s (fun t =>
      t.flag (R.LN_STAT n) F.LN_STAT_APPLY_PEND = false ∧
      ((t.lane n).rate, (t.lane n).rpll, (t.lane n).rfrac, (t.lane n).ffe, (t.lane n).mode) = s.target n ∧
      (t.lane n).eq = s.reg (R.LN_RX_EQ n) ∧ (t.lane n).lcpll = s.reg (R.LQ_LCPLL (n / 4)) ∧
      ((s.target n).1.fget ⟨0, 5⟩ ≠ (s.lane n).rate.fget ⟨0, 5⟩ →
        t.flag (R.LN_STAT n) F.LN_STAT_CHANGING = true ∧ t.lol n = true ∧ t.flag (R.LN_STAT n) F.LN_STAT_RX_READY = false ∧
        t.elecIdle n = true ∧ t.locked n = false ∧ t.reg (R.LN_INT_STAT n) = s.reg (R.LN_INT_STAT n)) ∧
      (s.target n = ((s.lane n).rate, (s.lane n).rpll, (s.lane n).rfrac, (s.target n).2.2.2.1, (s.lane n).mode) →
        s.reg (R.LQ_LCPLL (n / 4)) = (s.lane n).lcpll → s.reg (R.LQ_LCFRAC (n / 4)) = (s.lane n).lcfrac →
        s.flag (R.LN_STAT n) F.LN_STAT_CHANGING = false → LcKept s n →
        t.flag (R.LN_STAT n) F.LN_STAT_CHANGING = false ∧ t.lol n = s.lol n ∧
        t.flag (R.LN_STAT n) F.LN_STAT_RX_READY = s.flag (R.LN_STAT n) F.LN_STAT_RX_READY ∧ t.locked n = s.locked n) ∧
      (∀ m : Fin 144, m ≠ n → LcKept s n ∨ m.val / 4 ≠ n.val / 4 → t.lane m = s.lane m) ∧
      (¬ LcKept s n → ∀ m : Fin 144, m.val / 4 = n.val / 4 → s.operates m = true → selRing (s.target m).1 = false →
        t.lol m = true ∧ (t.lane m).relock = true ∧ (t.lane m).due = true ∧ t.elecIdle m = true))) ∧
  (∀ (n : Fin 144) (s : State), s.laneLive n = true → s.flag (R.LN_STAT n) F.LN_STAT_CHANGING = true → s.refUp n = true →
    (selRing (s.lane n).rate = true ∨ (s.quad (n / 4)).lcOn = true) → Completes (.lanePllLocked n) s (fun t =>
      t.flag (R.LN_STAT n) F.LN_STAT_CHANGING = false ∧ t.bit (R.LN_INT_STAT n) 8 = true ∧ t.pllUp n = true ∧
      t.lol n = s.lol n ∧ RegsBut [R.LN_STAT n, R.LN_INT_STAT n, R.LQ_STAT (n / 4)] s t ∧ Only [.csr, .ic, .ser] s t)) ∧
  (∀ (n : Fin 144) (s : State), s.laneLive n = true → s.los n = false → s.lol n = true →
    s.flag (R.LN_STAT n) F.LN_STAT_CHANGING = false → s.pllUp n = true → Completes (.cdrLock n) s (fun t =>
      t.lol n = false ∧ t.bit (R.LN_INT_STAT n) 3 = true ∧
      ((s.lane n).due = true → (t.lane n).adapt = true ∧ (t.lane n).due = false ∧
        t.flag (R.LN_STAT n) F.LN_STAT_RX_READY = false) ∧
      ((s.lane n).due = false → t.lane n = s.lane n ∧
        t.flag (R.LN_STAT n) F.LN_STAT_RX_READY = s.flag (R.LN_STAT n) F.LN_STAT_RX_READY) ∧
      (s.code n = 0 → t.locked n = true))) ∧
  (∀ (n : Fin 144) (mv : Nat) (s : State), s.laneLive n = false → exec (.laneSafePoint n) s = .next s ∧
    exec (.lanePllLocked n) s = .next s ∧ exec (.cdrLock n) s = .next s ∧ exec (.lolSet n) s = .next s ∧
    exec (.losSet n mv) s = .next s ∧ exec (.losClear n mv) s = .next s)

end Sys2Proof

/-- R341, R342, R343, R344, R345, R357, R358: settings of quads and lanes. The initial adaptation after a lost PLL is read from step 5 of R344 (the model's reading:
notes/assumptions/49.md). -/
def Obligations.QuadsAndLanesTakeSettings : Prop := QuadApplyChecksAndApplies ∧ LanesTakeNewSettings

namespace Sys2Proof

/-- R352, R353, R354, R356, R357, R358, R359, R363, R376: loss of signal brings loss of lock; LOL, LOS, REFn_OK and the PLL lock change as the detectors
say, with the event bits of R360; an amplitude that no threshold within ±25 % of its nominal value lets through changes nothing; an adaptation ends with
RX_READY or counts a retry, and stands still while LOL is 1; a continuous one moves each value by at most one step; PMA_RST restarts the receiver. -/
def ReceiversAndReferencesLoseAndRecover : Prop :=
  (∀ (n : Fin 144) (s : State), s.laneLive n = true → s.lol n = false → s.flag (R.LN_STAT n) F.LN_STAT_CHANGING = false →
    Completes (.lolSet n) s (fun t =>
      t.lol n = true ∧ t.bit (R.LN_INT_STAT n) 2 = true ∧ t.flag (R.LN_PRBS_RX n) F.LN_PRBS_RX_SYNC = false ∧
      t.locked n = false ∧ (s.locked n = true → t.flag (R.PCS_LN_STAT n) F.PCS_LN_STAT_LOCK_LOST = true) ∧
      RegsOr (lossRegs s n) s t ∧ Only [.csr, .ic, .err, .ser] s t)) ∧
  (∀ (n : Fin 144) (s : State), s.lol n = true → exec (.lolSet n) s = .next s) ∧
  (∀ (n : Fin 144) (mv : Nat) (s : State), s.laneLive n = true → s.los n = false → 4 * mv < 5 * s.losOff n →
    Completes (.losSet n mv) s (fun t =>
      t.los n = true ∧ t.lol n = true ∧ t.bit (R.LN_INT_STAT n) 0 = true ∧ t.locked n = false ∧
      (t.lane n).due = true ∧ (t.lane n).adapt = false ∧ t.flag (R.LN_PRBS_RX n) F.LN_PRBS_RX_SYNC = false ∧
      (s.quiet (192 + n) → ⟨n, ⟨192 + n, 0, 0x0C, 0x01000000 + n⟩, 0⟩ ∈ t.err.waiting) ∧
      Only [.csr, .ic, .err, .ser] s t)) ∧
  (∀ (n : Fin 144) (mv : Nat) (s : State), s.laneLive n = true → s.los n = true → 3 * (s.losOff n + 20) < 4 * mv →
    Completes (.losClear n mv) s (fun t =>
      t.los n = false ∧ t.bit (R.LN_INT_STAT n) 1 = true ∧ t.lol n = s.lol n ∧ RegsBut [R.LN_STAT n, R.LN_INT_STAT n] s t ∧
      Only [.csr, .ic] s t)) ∧
  (∀ (n : Fin 144) (mv : Nat) (s : State), (5 * s.losOff n ≤ 4 * mv → exec (.losSet n mv) s = .next s) ∧
    (4 * mv ≤ 3 * (s.losOff n + 20) → exec (.losClear n mv) s = .next s)) ∧
  (∀ (n : Fin 144) (c : Fin 32) (taps : List (BitVec 8)) (s : State), s.laneLive n = true → (s.lane n).adapt = true →
    s.lol n = false → Completes (.adaptationDone n c taps) s (fun t =>
      t.flag (R.LN_STAT n) F.LN_STAT_RX_READY = true ∧ (t.lane n).adapt = false ∧
      t.fld (R.LN_RX_EQ_STAT n) F.LN_RX_EQ_STAT_RETRY = 0 ∧
      t.fld (R.LN_RX_EQ_STAT n) F.LN_RX_EQ_STAT_CTLE =
        (if (s.lane n).eq.fget F.LN_RX_EQ_CTLE_AD ≠ 0 then c.val else (s.lane n).eq.fget F.LN_RX_EQ_CTLE) ∧
      (∀ k < 12, t.reg (R.LN_DFE n k) = if (s.lane n).eq.fget F.LN_RX_EQ_DFE_AD ≠ 0
        then BitVec.ofNat 32 (tapOf k (taps.getD k 0).toNat) else s.reg (R.LN_DFE n k)) ∧ Only [.csr, .ser] s t)) ∧
  (∀ (n : Fin 144) (c : Fin 32) (taps : List (BitVec 8)) (s : State), s.laneLive n = true → (s.lane n).adapt = false →
    (s.flag (R.LN_STAT n) F.LN_STAT_RX_READY = true → (s.lane n).eq.fget F.LN_RX_EQ_CONT ≠ 0 → s.rxData n = true →
      Completes (.adaptationDone n c taps) s (fun t =>
        t.fld (R.LN_RX_EQ_STAT n) F.LN_RX_EQ_STAT_CTLE = (if (s.lane n).eq.fget F.LN_RX_EQ_CTLE_AD ≠ 0
          then (stepTo (s.fld (R.LN_RX_EQ_STAT n) F.LN_RX_EQ_STAT_CTLE) c.val).toNat else (s.lane n).eq.fget F.LN_RX_EQ_CTLE) ∧
        (∀ k < 12, t.reg (R.LN_DFE n k) = if (s.lane n).eq.fget F.LN_RX_EQ_DFE_AD ≠ 0
          then BitVec.ofNat 32 (tapOf k (unsigned 8 (stepTo (signed 8 ((s.reg (R.LN_DFE n k)).toNat % 256))
            (signed 8 (taps.getD k 0).toNat)))) else s.reg (R.LN_DFE n k)) ∧ Only [.csr] s t)) ∧
    (s.flag (R.LN_STAT n) F.LN_STAT_RX_READY = false ∨ (s.lane n).eq.fget F.LN_RX_EQ_CONT = 0 →
      exec (.adaptationDone n c taps) s = .next s)) ∧
  (∀ (n : Fin 144) (s : State), s.laneLive n = true → (s.lane n).adapt = true → s.lol n = false →
    Completes (.adaptationTimeout n) s (fun t =>
      t.fld (R.LN_RX_EQ_STAT n) F.LN_RX_EQ_STAT_RETRY = min 255 (s.fld (R.LN_RX_EQ_STAT n) F.LN_RX_EQ_STAT_RETRY + 1) ∧
      t.bit (R.LN_INT_STAT n) 5 = true ∧ t.ser = s.ser ∧ Only [.csr, .ic, .err] s t)) ∧
  (∀ (n : Fin 144) (c : Fin 32) (taps : List (BitVec 8)) (s : State), (s.lane n).adapt = true → s.lol n = true →
    exec (.adaptationDone n c taps) s = .next s ∧ exec (.adaptationTimeout n) s = .next s) ∧
  (∀ (ep : Fin 256) (n : Fin 144) (v : Word) (s : State), s.mayWrite ep (R.LN_CTRL n) → s.laneLive n = true →
    v.getLsbD 0 = true → Completes (.pmaRst ep n v) s (fun t =>
      t.lol n = true ∧ t.flag (R.LN_STAT n) F.LN_STAT_RX_READY = false ∧ (t.lane n).due = true ∧ (t.lane n).adapt = false ∧
      t.los n = s.los n)) ∧
  (∀ (q : Fin 36) (one : Bool) (s : State), s.bscan = false →
    s.flag (R.LQ_STAT q) (if one then F.LQ_STAT_REF1_OK else F.LQ_STAT_REF0_OK) = true →
    Completes (.refClockLost q one) s (fun t =>
      t.flag (R.LQ_STAT q) (if one then F.LQ_STAT_REF1_OK else F.LQ_STAT_REF0_OK) = false ∧
      t.bit (R.LQ_INT_STAT q) (if one then 2 else 1) = true ∧
      (∀ n : Fin 144, n.val / 4 = q.val → s.laneLive n = true →
        (if selRing (s.lane n).rate then (s.lane n).rpll.fget F.LN_RPLL_REFSEL = b2n one
          else s.flag (R.LQ_CFG q) F.LQ_CFG_REFSEL = one) →
        t.lol n = true ∧ (t.lane n).relock = true ∧ (t.lane n).due = true ∧ t.elecIdle n = true) ∧
      (∀ n : Fin 144, n.val / 4 ≠ q.val → t.lane n = s.lane n) ∧ Only [.csr, .ic, .err, .ser] s t)) ∧
  (∀ (q : Fin 36) (one : Bool) (hz : Nat) (s : State), s.bscan = false → Completes (.refClockPresent q one hz) s (fun t =>
      t.flag (R.LQ_STAT q) (if one then F.LQ_STAT_REF1_OK else F.LQ_STAT_REF0_OK) = true ∧ t.refHz q one = hz ∧
      t.refHz q (!one) = s.refHz q (!one) ∧ RegsBut [R.LQ_STAT q] s t ∧ Only [.csr, .ser] s t)) ∧
  (∀ (q : Fin 36) (s : State), s.bscan = false → s.flag (R.LQ_STAT q) F.LQ_STAT_LC_LOCK = true →
    Completes (.lanePllUnlock q none) s (fun t =>
      t.flag (R.LQ_STAT q) F.LQ_STAT_LC_LOCK = false ∧
      (s.flag (R.LQ_CTRL q) F.LQ_CTRL_LC_EN = true → t.bit (R.LQ_INT_STAT q) 0 = true) ∧
      (∀ n : Fin 144, n.val / 4 = q.val → s.laneLive n = true → selRing (s.lane n).rate = false →
        t.lol n = true ∧ t.elecIdle n = true))) ∧
  (∀ (q : Fin 36) (i : Fin 4) (s : State), s.laneLive (4 * q.val + i.val) = true →
    s.flag (R.LN_STAT (4 * q.val + i.val)) F.LN_STAT_RPLL_LOCK = true → Completes (.lanePllUnlock q (some i)) s (fun t =>
      t.flag (R.LN_STAT (4 * q.val + i.val)) F.LN_STAT_RPLL_LOCK = false ∧
      (selRing (s.lane (4 * q.val + i.val)).rate = true → t.lol (4 * q.val + i.val) = true ∧
        t.bit (R.LN_INT_STAT (4 * q.val + i.val)) 4 = true ∧ t.elecIdle (4 * q.val + i.val) = true)))

/-- R362, R363, R364, R365: INJ asks for one error more; CLR zeroes both counters; the checker gains sync, and at 16 errors or more loses it, counting the
bits and errors it saw in sync (while its counters are not frozen); START begins a scan of a lane that is ready and is refused with ES_REJ elsewhere; a scan that completes gives its counts. -/
def PatternsAndEyeScans : Prop :=
  (∀ (ep : Fin 256) (n : Fin 144) (v : Word) (s : State), s.mayWrite ep (R.LN_PRBS_TX n) →
    Completes (.prbsInj ep n v) s (fun t => t.lane n = { s.lane n with inj := (s.lane n).inj + 1 } ∧
      t.fld (R.LN_PRBS_TX n) F.LN_PRBS_TX_PATTERN = v.fget F.LN_PRBS_TX_PATTERN ∧
      RegsBut [R.LN_PRBS_TX n] s t ∧ Only [.csr, .ser] s t)) ∧
  (∀ (ep : Fin 256) (n : Fin 144) (v : Word) (s : State), s.mayWrite ep (R.LN_PRBS_RX n) →
    Completes (.prbsClr ep n v) s (fun t => t.reg (R.LN_PRBS_ERR n) = 0 ∧ t.reg (R.LN_PRBS_BITS_LO n) = 0 ∧
      t.reg (R.LN_PRBS_BITS_HI n) = 0 ∧
      (v.getLsbD 4 = true → t.flag (R.LN_PRBS_RX n) F.LN_PRBS_RX_SYNC = s.flag (R.LN_PRBS_RX n) F.LN_PRBS_RX_SYNC) ∧
      (v.getLsbD 4 = false → t.flag (R.LN_PRBS_RX n) F.LN_PRBS_RX_SYNC = false) ∧
      RegsBut [R.LN_PRBS_RX n, R.LN_PRBS_ERR n, R.LN_PRBS_BITS_LO n, R.LN_PRBS_BITS_HI n] s t ∧ Only [.csr] s t)) ∧
  (∀ (n : Fin 144) (s : State),
    (s.laneLive n = true → s.flag (R.LN_PRBS_RX n) F.LN_PRBS_RX_EN = true → s.los n = false → s.lol n = false →
      s.fld (R.LN_PRBS_RX n) F.LN_PRBS_RX_PATTERN ≠ 0xA → s.fld (R.LN_PRBS_RX n) F.LN_PRBS_RX_PATTERN ≠ 0xB →
      Completes (.prbsSync n) s (fun t => t.flag (R.LN_PRBS_RX n) F.LN_PRBS_RX_SYNC = true ∧
        RegsBut [R.LN_PRBS_RX n] s t ∧ Only [.csr] s t)) ∧
    (s.fld (R.LN_PRBS_RX n) F.LN_PRBS_RX_PATTERN = 0xA ∨ s.fld (R.LN_PRBS_RX n) F.LN_PRBS_RX_PATTERN = 0xB ∨
      s.los n = true ∨ s.lol n = true → exec (.prbsSync n) s = .next s)) ∧
  (∀ (n : Fin 144) (bits errs : Nat) (s : State), s.laneLive n = true →
    s.flag (R.LN_PRBS_RX n) F.LN_PRBS_RX_SYNC = true → s.frozen F.DBG_FRZ_LANE = false → 16 ≤ errs →
    Completes (.prbsLost n bits errs) s (fun t => t.flag (R.LN_PRBS_RX n) F.LN_PRBS_RX_SYNC = false ∧
      t.bit (R.LN_INT_STAT n) 9 = true ∧
      (t.reg (R.LN_PRBS_ERR n)).toNat = min (2 ^ 32 - 1) ((s.reg (R.LN_PRBS_ERR n)).toNat + errs) ∧
      (t.reg (R.LN_PRBS_BITS_LO n)).toNat + 2 ^ 32 * (t.reg (R.LN_PRBS_BITS_HI n)).toNat =
        min (2 ^ 48 - 1) ((s.reg (R.LN_PRBS_BITS_LO n)).toNat + 2 ^ 32 * (s.reg (R.LN_PRBS_BITS_HI n)).toNat + bits) ∧
      RegsBut [R.LN_PRBS_RX n, R.LN_INT_STAT n, R.LN_PRBS_ERR n, R.LN_PRBS_BITS_LO n, R.LN_PRBS_BITS_HI n] s t ∧
      Only [.csr, .ic] s t)) ∧
  (∀ (n : Fin 144) (bits errs : Nat) (s : State), errs < 16 → exec (.prbsLost n bits errs) s = .next s) ∧
  (∀ (ep : Fin 256) (n : Fin 144) (v : Word) (s : State), s.mayWrite ep (R.LN_ES_CTRL n) →
    let bad := !s.flag (R.LN_STAT n) F.LN_STAT_RX_READY || s.flag (R.LN_STAT n) F.LN_STAT_APPLY_PEND ||
      s.flag (R.LN_STAT n) F.LN_STAT_CHANGING || s.flag (R.LN_ES_CTRL n) F.LN_ES_CTRL_BUSY
    Completes (.eyeScanStart ep n v) s (fun t =>
      t.flag (R.LN_ES_CTRL n) F.LN_ES_CTRL_ES_REJ = bad ∧
      (bad = false → t.flag (R.LN_ES_CTRL n) F.LN_ES_CTRL_BUSY = true ∧ (t.lane n).dwell = v.fget F.LN_ES_CTRL_DWELL) ∧
      (bad = true → t.flag (R.LN_ES_CTRL n) F.LN_ES_CTRL_BUSY = s.flag (R.LN_ES_CTRL n) F.LN_ES_CTRL_BUSY ∧ t.ser = s.ser) ∧
      RegsBut [R.LN_ES_CTRL n] s t ∧ Only [.csr, .ser] s t)) ∧
  (∀ (n : Fin 144) (errs : Nat) (s : State), s.bscan = false → s.flag (R.LN_ES_CTRL n) F.LN_ES_CTRL_BUSY = true →
    Completes (.eyeScanDone n errs) s (fun t => t.flag (R.LN_ES_CTRL n) F.LN_ES_CTRL_BUSY = false ∧
      t.reg (R.LN_ES_SMP_LO n) = BitVec.ofNat 32 (2 ^ ((s.lane n).dwell + 8)) ∧
      t.reg (R.LN_ES_SMP_HI n) = BitVec.ofNat 32 (2 ^ ((s.lane n).dwell + 8) / 2 ^ 32) ∧
      (errs < 2 ^ 32 → errs ≤ 2 ^ ((s.lane n).dwell + 8) → (t.reg (R.LN_ES_ERR n)).toNat = errs) ∧
      RegsBut [R.LN_ES_CTRL n, R.LN_ES_ERR n, R.LN_ES_SMP_LO n, R.LN_ES_SMP_HI n] s t ∧ Only [.csr] s t))

end Sys2Proof

/-- R353, R354, R356, R357, R358, R359, R362, R363, R364, R365, R376: receivers, references, patterns and eye scans. -/
def Obligations.ReceiversPatternsAndEyeScans : Prop := ReceiversAndReferencesLoseAndRecover ∧ PatternsAndEyeScans

/-! ## Coding layers and bonding groups (11) -/

namespace Sys2Proof

/-- R371, R376, R382, R385, R387, R392: a coding layer that receives data locks with the indication of its mode, and a loss of lock clears it, sets LOCK_LOST and is
recorded; a slip moves the bit position by one where MODE is 1 and no slip is under way, and in 8B10B ends the lock. -/
def CodingLayersLockAndSlip : Prop :=
  (∀ (n : Fin 144) (pos : Fin 10) (s : State), s.rxData n = true → s.locked n = false → s.code n ≠ 0 →
    Completes (.lockAcquired n pos) s (fun t => t.locked n = true ∧
      (s.code n = 1 → t.flag (R.PCS_LN_STAT n) F.PCS_LN_STAT_ALIGNED = true) ∧
      (s.code n = 2 → t.flag (R.PCS_LN_STAT n) F.PCS_LN_STAT_BLOCK_LOCK = true) ∧
      (s.code n = 3 ∨ s.code n = 4 → t.flag (R.PCS_LN_STAT n) F.PCS_LN_STAT_FEC_LOCK = true) ∧
      (s.code n = 1 → s.flag (R.PCS_LN_ALIGN n) F.PCS_LN_ALIGN_MODE = false →
        t.fld (R.PCS_LN_ALIGN n) F.PCS_LN_ALIGN_POS = pos) ∧
      (s.code n ≠ 1 → RegsOr (R.PCS_LN_STAT n :: lossRegs s n) s t) ∧
      RegsOr ([R.PCS_LN_STAT n, R.PCS_LN_ALIGN n, R.PCS_LN_COMMA_CNT n] ++ lossRegs s n) s t ∧ Only [.csr] s t)) ∧
  (∀ (n : Fin 144) (s : State), s.laneLive n = true → s.locked n = true → s.code n ≠ 0 → Completes (.lockLost n) s (fun t =>
      t.locked n = false ∧ t.flag (R.PCS_LN_STAT n) F.PCS_LN_STAT_LOCK_LOST = true ∧
      (s.quiet (192 + n) → ⟨n, ⟨192 + n, 0, 0x0D, 0x21000000 + n⟩, 0⟩ ∈ t.err.waiting) ∧
      RegsOr (lossRegs s n) s t ∧ Only [.csr, .ic, .err, .ser] s t)) ∧
  (∀ (n : Fin 144) (s : State), s.locked n = false → exec (.lockLost n) s = .next s) ∧
  (∀ (ep : Fin 256) (n : Fin 144) (v : Word) (s : State), s.mayWrite ep (R.PCS_LN_ALIGN n) →
    v.getLsbD 8 = true → s.flag (R.PCS_LN_ALIGN n) F.PCS_LN_ALIGN_BUSY = false → Completes (.slip ep n v) s (fun t =>
      t.fld (R.PCS_LN_ALIGN n) F.PCS_LN_ALIGN_POS = (s.fld (R.PCS_LN_ALIGN n) F.PCS_LN_ALIGN_POS + 1) % 10 ∧
      t.flag (R.PCS_LN_ALIGN n) F.PCS_LN_ALIGN_BUSY = true ∧ (s.code n = 1 → t.locked n = false) ∧
      (s.code n ≠ 1 → RegsBut [R.PCS_LN_ALIGN n] s t ∧ Only [.csr] s t))) ∧
  (∀ (ep : Fin 256) (n : Fin 144) (v : Word) (s : State), s.mayWrite ep (R.PCS_LN_ALIGN n) →
    v.getLsbD 8 = false ∨ s.flag (R.PCS_LN_ALIGN n) F.PCS_LN_ALIGN_BUSY = true → Completes (.slip ep n v) s (fun t =>
      t.fld (R.PCS_LN_ALIGN n) F.PCS_LN_ALIGN_POS = s.fld (R.PCS_LN_ALIGN n) F.PCS_LN_ALIGN_POS ∧
      RegsBut [R.PCS_LN_ALIGN n] s t ∧ Only [.csr] s t)) ∧
  (∀ (n : Fin 144) (s : State), s.bscan = false → Completes (.slipDone n) s (fun t =>
      t.flag (R.PCS_LN_ALIGN n) F.PCS_LN_ALIGN_BUSY = false ∧
      t.fld (R.PCS_LN_ALIGN n) F.PCS_LN_ALIGN_POS = s.fld (R.PCS_LN_ALIGN n) F.PCS_LN_ALIGN_POS ∧
      RegsBut [R.PCS_LN_ALIGN n] s t ∧ Only [.csr] s t))

/-- The registers that a unit received by a lane may touch. -/
def unitRegs (s : State) (n : Nat) : List Nat :=
  [R.PCS_LN_STAT n, R.PCS_LN_ERR_CNT n, R.PCS_LN_COMMA_CNT n, R.PCS_LN_RX_DROP n] ++ lossRegs s n

/-- R369, R372, R373, R379, R380, R387, R388, R389, R391, R395: HI_BER rises and falls with the invalid headers of a window; codewords count as corrected or
uncorrectable, and an uncorrectable one spoils its eighty blocks unless BYP_CORR is 1; a slot without a unit counts an underrun, the slot of a marker
carries the marker; a code with a code or disparity error and a block with an invalid header count one error; a transmit unit that cannot be sent is
replaced and sets TX_BAD. Counters are stated while DBG_FRZ does not freeze them. -/
def CodingLayersCountAndFlag : Prop :=
  (∀ (n : Fin 144) (bad : Nat) (s : State),
    (s.rxData n = true → 2 ≤ s.code n → s.flag (R.PCS_LN_STAT n) F.PCS_LN_STAT_HI_BER = false → s.berCount n ≤ bad →
      Completes (.hiBerSet n bad) s (fun t =>
        t.flag (R.PCS_LN_STAT n) F.PCS_LN_STAT_HI_BER = true ∧ t.flag (R.PCS_LN_STAT n) F.PCS_LN_STAT_HI_BER_SET = true ∧
        t.locked n = s.locked n ∧ (s.quiet (192 + n) → ⟨n, ⟨192 + n, 0, 0x0D, 0x22000000 + n⟩, 0⟩ ∈ t.err.waiting) ∧
        RegsOr [R.PCS_LN_STAT n] s t ∧ Only [.csr, .ic, .err] s t)) ∧
    (s.laneLive n = true → bad < s.berCount n → Completes (.hiBerClear n bad) s (fun t =>
        t.flag (R.PCS_LN_STAT n) F.PCS_LN_STAT_HI_BER = false ∧
        t.flag (R.PCS_LN_STAT n) F.PCS_LN_STAT_HI_BER_SET = s.flag (R.PCS_LN_STAT n) F.PCS_LN_STAT_HI_BER_SET ∧
        RegsBut [R.PCS_LN_STAT n] s t ∧ Only [.csr] s t)) ∧
    (bad < s.berCount n → exec (.hiBerSet n bad) s = .next s) ∧
    (s.berCount n ≤ bad → exec (.hiBerClear n bad) s = .next s)) ∧
  (∀ (n : Fin 144) (errs : List Nat) (s : State), s.rxData n = true → 3 ≤ s.code n → s.frozen F.DBG_FRZ_LANE = false →
    let unc := errs.filter (fun e => rsCorrects (s.code n) < e)
    let cor := errs.filter (fun e => 0 < e && e ≤ rsCorrects (s.code n))
    Completes (.fecUncorrectable n errs) s (fun t =>
      (t.reg (R.PCS_LN_FEC_UNC n)).toNat = min ((s.reg (R.PCS_LN_FEC_UNC n)).toNat + unc.length) (2 ^ 32 - 1) ∧
      (unc ≠ [] → t.flag (R.PCS_LN_STAT n) F.PCS_LN_STAT_FEC_UNC = true) ∧
      ((s.lane n).mode.fget F.PCS_LN_MODE_BYP_CORR = 0 →
        (t.reg (R.PCS_LN_FEC_CW n)).toNat = min ((s.reg (R.PCS_LN_FEC_CW n)).toNat + cor.length) (2 ^ 32 - 1) ∧
        (t.reg (R.PCS_LN_FEC_SYM n)).toNat = min ((s.reg (R.PCS_LN_FEC_SYM n)).toNat + cor.sum) (2 ^ 32 - 1) ∧
        (unc ≠ [] → (t.coder n).bad = 80) ∧ (unc = [] → t.coder n = s.coder n)) ∧
      ((s.lane n).mode.fget F.PCS_LN_MODE_BYP_CORR ≠ 0 → t.reg (R.PCS_LN_FEC_CW n) = s.reg (R.PCS_LN_FEC_CW n) ∧
        t.reg (R.PCS_LN_FEC_SYM n) = s.reg (R.PCS_LN_FEC_SYM n) ∧ t.coder n = s.coder n) ∧
      RegsOr [R.PCS_LN_STAT n, R.PCS_LN_FEC_UNC n, R.PCS_LN_FEC_CW n, R.PCS_LN_FEC_SYM n] s t ∧
      Only [.csr, .ic, .err, .ser] s t)) ∧
  (∀ (n : Fin 144) (s : State), s.laneLive n = true →
    (s.markerDue n = none → s.frozen F.DBG_FRZ_LANE = false → Completes (.txUnderrun n) s (fun t =>
      t.flag (R.PCS_LN_STAT n) F.PCS_LN_STAT_TX_UNDER = true ∧
      (t.reg (R.PCS_LN_TX_UNDER n)).toNat = min ((s.reg (R.PCS_LN_TX_UNDER n)).toNat + 1) (2 ^ 32 - 1) ∧
      RegsBut [R.PCS_LN_STAT n, R.PCS_LN_TX_UNDER n] s t ∧ Only [.csr, .ser, .draws] s t)) ∧
    (∀ g, s.markerDue n = some g → Completes (.txUnderrun n) s (fun t => (t.coder n).blocks = 0 ∧
      (t.coder n).seq = ((s.coder n).seq + 1) % 256 ∧ Only [.ser, .draws] s t)) ∧
    (s.frozen F.DBG_FRZ_LANE = false → Completes (.rxWordDrop n) s (fun t =>
      t.flag (R.PCS_LN_STAT n) F.PCS_LN_STAT_RX_OVF = true ∧
      (t.reg (R.PCS_LN_RX_DROP n)).toNat = min ((s.reg (R.PCS_LN_RX_DROP n)).toNat + 1) (2 ^ 32 - 1) ∧
      RegsBut [R.PCS_LN_STAT n, R.PCS_LN_RX_DROP n] s t ∧ Only [.csr] s t))) ∧
  (∀ (n : Fin 144) (u : BitVec 66) (s : State), s.rxData n = true → s.frozen F.DBG_FRZ_LANE = false →
    let line := (s.recover n (sendBits (if s.code n = 1 then 10 else 66) u.toNat)).1
    let x := decode10 (bitsNat line.reverse) (s.coder n).rxRd
    let b := if s.code n = 2 then BitVec.ofNat 66 (bitsNat line) else u
    Completes (.receiveCodeError n u) s (fun t =>
      (s.code n = 1 → (t.reg (R.PCS_LN_ERR_CNT n)).toNat =
        min ((s.reg (R.PCS_LN_ERR_CNT n)).toNat + b2n (x.1.ce || x.1.de)) (2 ^ 32 - 1) ∧ (t.coder n).rxRd = x.2) ∧
      (2 ≤ s.code n → (s.coder n).bad = 0 → (t.reg (R.PCS_LN_ERR_CNT n)).toNat =
        min ((s.reg (R.PCS_LN_ERR_CNT n)).toNat + b2n (!headerGood b)) (2 ^ 32 - 1)) ∧
      RegsOr (unitRegs s n) s t ∧ Only [.csr, .ic, .err, .ser] s t)) ∧
  (∀ (n : Fin 144) (u : BitVec 66) (s : State), s.laneLive n = true → s.markerDue n = none → s.laneCarries n = true →
    s.overrider n = none → Completes (.invalidTransmitUnit n u) s (fun t =>
      let c := encode10 (u.getLsbD 8) (u.toNat % 256) (s.coder n).txRd
      (s.code n = 1 → (t.flag (R.PCS_LN_STAT n) F.PCS_LN_STAT_TX_BAD =
          (c.isNone || s.flag (R.PCS_LN_STAT n) F.PCS_LN_STAT_TX_BAD)) ∧
        (t.coder n).txRd = rdAfter 10 (c.getD ((encode10 true 0xFE (s.coder n).txRd).getD 0)) (s.coder n).txRd) ∧
      (2 ≤ s.code n → t.flag (R.PCS_LN_STAT n) F.PCS_LN_STAT_TX_BAD =
        (!headerGood u || s.flag (R.PCS_LN_STAT n) F.PCS_LN_STAT_TX_BAD)) ∧
      (s.code n = 0 → t.csr = s.csr) ∧ RegsBut [R.PCS_LN_STAT n] s t ∧ Only [.csr, .ser, .draws] s t))

end Sys2Proof

/-- R369, R371, R372, R373, R376, R379, R380, R382, R385, R387, R388, R389, R391, R392, R395: coding layers. -/
def Obligations.CodingLayersLockCountAndFlag : Prop := CodingLayersLockAndSlip ∧ CodingLayersCountAndFlag

namespace Sys2Proof

/-- The registers of a bonding group that its faults touch. -/
def grpRegs (g : Nat) : List Nat := [R.PCS_GRP_STAT g, R.PCS_GRP_FAULTS g, R.PCS_GRP_INT_STAT g, R.PCS_GRP_SKEW g]

/-- The state in which a group is left by a fault: FAULT, or from there at once HOLDOFF or DESKEW where every member is locked with
one mode and rate (R398). -/
def AfterFault (s : State) (g : Nat) (t : State) : Prop :=
  (((s.grpLanes g).any (fun n => !s.locked n) ∨ s.sameMode (s.grpLanes g) = false) → t.grpState g = 1) ∧
  ((s.grpLanes g).all (fun n => s.locked n) → s.sameMode (s.grpLanes g) = true →
    t.grpState g = if s.fld (R.PCS_GRP_HOLD g) F.PCS_GRP_HOLD_HOLDOFF = 0 then 3 else 2)

end Sys2Proof

/-- R393, R394, R397, R398, R401, R402: a valid staged configuration takes effect on APPLY and enables a group that is OFF; an invalid one is refused; the group
goes through HOLDOFF and DESKEW to BONDED, where every member holds one column tag, and a fault takes it back with its cause and lane. -/
def Obligations.BondingGroupsFormAndFault : Prop :=
  (∀ (ep : Fin 256) (g : Fin 16) (v : Word) (s : State), s.mayWrite ep (R.PCS_GRP_CTRL g) → s.armedFor (.group g) = none →
    (v.getLsbD 1 = true → s.grpValid g (s.staged (R.PCS_GRP_CFG g)) = false → Completes (.groupApply ep g v) s (fun t =>
      t.bit (R.PCS_GRP_INT_STAT g) 3 = true ∧ t.reg (R.PCS_GRP_CFG g) = s.reg (R.PCS_GRP_CFG g) ∧
      t.reg (R.PCS_GRP_CTRL g) = s.reg (R.PCS_GRP_CTRL g) ∧
      (s.grpOn g = true → 2 ≤ s.grpState g → t.grpState g = s.grpState g) ∧ (s.grpOn g = false → t.grpState g = 0) ∧
      RegsOr (R.PCS_GRP_CTRL g :: grpRegs g) s t)) ∧
    (v.getLsbD 1 = true → s.grpValid g (s.staged (R.PCS_GRP_CFG g)) = true → s.grpOn g = false → s.grpState g = 0 →
      Completes (.groupApply ep g v) s (fun t => t.grpOn g = true ∧
        (t.reg (R.PCS_GRP_CFG g) &&& 0x31FFF) = (s.staged (R.PCS_GRP_CFG g) &&& 0x31FFF) ∧
        t.fld (R.PCS_GRP_STAT g) F.PCS_GRP_STAT_CAUSE = 4 ∧ t.fld (R.PCS_GRP_STAT g) F.PCS_GRP_STAT_FAULT_LANE = 0xFF ∧
        t.bit (R.PCS_GRP_INT_STAT g) 1 = true ∧ t.grpState g ≠ 0 ∧ t.grpState g ≠ 4)) ∧
    (v.getLsbD 1 = false → Completes (.groupApply ep g v) s (fun t =>
      t.grpOn g = false ∧ t.grpState g = 0 ∧ RegsBut [R.PCS_GRP_CTRL g, R.PCS_GRP_CFG g, R.PCS_GRP_STAT g] s t ∧
      Only [.csr, .stg] s t))) ∧
  (∀ (g : Fin 16) (s : State), s.bscan = false → s.grpState g = 2 → Completes (.groupHoldoffExpiry g) s (fun t =>
      t.grpState g = 3 ∧ RegsBut [R.PCS_GRP_STAT g] s t ∧ Only [.csr] s t)) ∧
  (∀ (g : Fin 16) (x : Nat) (s : State), s.bscan = false → s.grpState g = 3 → x ≤ s.grpLimit g →
    Completes (.groupDeskewDone g x) s (fun t => t.grpState g = 4 ∧ t.fld (R.PCS_GRP_SKEW g) F.PCS_GRP_SKEW_UI = x ∧
      t.bit (R.PCS_GRP_INT_STAT g) 0 = true ∧ (∃ k < 16, ∀ n ∈ s.grpLanes g, (t.coder n).gcol = k) ∧
      RegsBut (grpRegs g) s t ∧ Only [.csr, .ic, .ser, .draws] s t)) ∧
  (∀ (g : Fin 16) (x : Nat) (lane : Fin 144) (s : State), s.bscan = false → s.grpState g = 3 → s.grpLimit g < x →
    Completes (.groupDeskewFail g (some x) lane) s (fun t => AfterFault s g t ∧
      t.fld (R.PCS_GRP_STAT g) F.PCS_GRP_STAT_CAUSE = 5 ∧ t.fld (R.PCS_GRP_STAT g) F.PCS_GRP_STAT_FAULT_LANE = lane ∧
      t.fld (R.PCS_GRP_SKEW g) F.PCS_GRP_SKEW_UI = min x 1023 ∧ t.bit (R.PCS_GRP_INT_STAT g) 2 = true ∧
      t.bit (R.PCS_GRP_INT_STAT g) 1 = true ∧ RegsOr (grpRegs g) s t ∧ Only [.csr, .ic, .err] s t)) ∧
  (∀ (g : Fin 16) (lane : Fin 144) (s : State), s.bscan = false →
    (s.grpState g = 3 → Completes (.groupDeskewFail g none lane) s (fun t => AfterFault s g t ∧
      t.fld (R.PCS_GRP_STAT g) F.PCS_GRP_STAT_CAUSE = 6 ∧ t.fld (R.PCS_GRP_STAT g) F.PCS_GRP_STAT_FAULT_LANE = lane ∧
      RegsOr (grpRegs g) s t ∧ Only [.csr, .ic, .err] s t)) ∧
    (s.grpState g = 4 → Completes (.groupMarkerError g lane) s (fun t => AfterFault s g t ∧
      t.fld (R.PCS_GRP_STAT g) F.PCS_GRP_STAT_CAUSE = 6 ∧ t.fld (R.PCS_GRP_STAT g) F.PCS_GRP_STAT_FAULT_LANE = lane ∧
      t.bit (R.PCS_GRP_INT_STAT g) 1 = true ∧ RegsOr (grpRegs g) s t ∧ Only [.csr, .ic, .err] s t)) ∧
    (s.grpState g ≠ 4 → exec (.groupMarkerError g lane) s = .next s))

/-! ## Slot negotiation (12) -/

namespace Sys2Proof

/-- The write of an engine's control register carries EN and no action but those of the list. -/
def SkmWrite (acts : List Nat) (v : Word) : Prop := ∀ j, 1 ≤ j → j ≤ 3 → j ∉ acts → v.getLsbD j = false

/-- An engine's result of generation `g` is presented (R239, R419, R420): the gate gets a request for the regions that name the engine, if any do;
the engine releases its override at once where one of them is in that generation already, or where none names it and AUTO_REL is 1, and waits
otherwise. -/
def Presented (s : State) (e g : Nat) (t : State) : Prop :=
  let now := (s.skmRegions e).any (fun r => s.fld (R.CFG_RGN_GEN r) F.CFG_RGN_GEN_ACT_GEN == g) ||
    ((s.skmRegions e).isEmpty && s.flag (R.SKM_ENG_CFG e) F.SKM_ENG_CFG_AUTO_REL)
  t.skmState e = (if now then 8 else 7) ∧
  (s.skmRegions e ≠ [] → t.gate = { s.gate with reqs := s.gate.reqs ++ [⟨s.skmRegions e, 8, some (e, g), []⟩] }) ∧
  (s.skmRegions e = [] → t.gate = s.gate)

/-- R404, R405, R407, R408, R416, R419, R420, R631: EN starts an engine in DETECT with the override of template 0 (before start-up step 6 or while frozen it
only stands), or is refused with CFG_REJ, EN then reading 0 (the model's choice: notes/assumptions/49.md); EN at 0 returns it to OFF and releases the
override; RESTART, RELEASE and REFIRE act in the states that R416 gives. -/
def SkemerControlWrites : Prop :=
  ∀ (ep : Fin 256) (e : Fin 16) (v : Word) (s : State), s.mayWrite ep (R.SKM_ENG_CTRL e) →
  (SkmWrite [] v → s.flag (R.SKM_ENG_CTRL e) F.SKM_ENG_CTRL_EN = false → s.skmOk e = true → s.skmActive = true →
    s.skmRuns = true → Completes (.skmEnable ep e v) s (fun t => t.flag (R.SKM_ENG_CTRL e) F.SKM_ENG_CTRL_EN = true ∧ t.skmState e = 1 ∧
      t.flag (R.SKM_ENG_STAT e) F.SKM_ENG_STAT_OVERRIDE = true ∧ (t.skm e).tpl = 0 ∧
      t.fld (R.SKM_ENG_STAT e) F.SKM_ENG_STAT_FAILED_GEN = 0 ∧ t.fld (R.SKM_ENG_STAT e) F.SKM_ENG_STAT_RETRIES = 0 ∧
      (∀ f : Fin 16, f ≠ e → t.reg (R.SKM_ENG_STAT f) = s.reg (R.SKM_ENG_STAT f) ∧ t.skm f = s.skm f) ∧
      Only [.csr, .ic, .err, .ser, .draws] s t)) ∧
  (SkmWrite [] v → s.flag (R.SKM_ENG_CTRL e) F.SKM_ENG_CTRL_EN = false → s.skmOk e = true →
    s.skmActive = false ∨ s.skmRuns = false → Completes (.skmEnable ep e v) s (fun t =>
      t.flag (R.SKM_ENG_CTRL e) F.SKM_ENG_CTRL_EN = true ∧ t.skmState e = s.skmState e ∧
      RegsBut [R.SKM_ENG_CTRL e] s t ∧ Only [.csr] s t)) ∧
  (SkmWrite [] v → s.flag (R.SKM_ENG_CTRL e) F.SKM_ENG_CTRL_EN = false → s.skmOk e = false →
    Completes (.skmEnable ep e v) s (fun t => t.flag (R.SKM_ENG_CTRL e) F.SKM_ENG_CTRL_EN = false ∧
      t.skmState e = s.skmState e ∧ t.flag (R.SKM_ENG_STAT e) F.SKM_ENG_STAT_CFG_REJ = true ∧ t.ser = s.ser ∧
      RegsOr [R.SKM_ENG_CTRL e, R.SKM_ENG_STAT e] s t ∧ Only [.csr, .ic, .err] s t)) ∧
  (s.skmState e ≠ 0 → Completes (.skmDisable ep e v) s (fun t =>
      t.flag (R.SKM_ENG_CTRL e) F.SKM_ENG_CTRL_EN = false ∧ t.skmState e = 0 ∧
      t.flag (R.SKM_ENG_STAT e) F.SKM_ENG_STAT_OVERRIDE = false ∧
      (∀ f : Fin 16, f ≠ e → t.reg (R.SKM_ENG_STAT f) = s.reg (R.SKM_ENG_STAT f)) ∧ Only [.csr, .ic, .err, .ser, .draws] s t)) ∧
  (SkmWrite [1] v → s.flag (R.SKM_ENG_CTRL e) F.SKM_ENG_CTRL_EN = true → s.skmRuns = true → s.skmState e ≠ 0 →
    Completes (.skmRestart ep e v) s (fun t => t.skmState e = 1 ∧
      t.fld (R.SKM_ENG_STAT e) F.SKM_ENG_STAT_FAILED_GEN = 0 ∧ t.fld (R.SKM_ENG_STAT e) F.SKM_ENG_STAT_RETRIES = 0 ∧
      t.flag (R.SKM_ENG_STAT e) F.SKM_ENG_STAT_OVERRIDE = true ∧ (t.skm e).tpl = 0)) ∧
  (SkmWrite [2] v → s.flag (R.SKM_ENG_CTRL e) F.SKM_ENG_CTRL_EN = true → s.skmRuns = true → s.skmState e = 7 →
    Completes (.skmRelease ep e v) s (fun t => t.skmState e = 8 ∧
      t.flag (R.SKM_ENG_STAT e) F.SKM_ENG_STAT_OVERRIDE = false ∧ t.reg (R.SKM_ENG_RES e) = s.reg (R.SKM_ENG_RES e) ∧
      t.gate = s.gate)) ∧
  (SkmWrite [3] v → s.flag (R.SKM_ENG_CTRL e) F.SKM_ENG_CTRL_EN = true → s.skmRuns = true → s.skmState e = 7 →
    Completes (.skmRefire ep e v) s (fun t => Presented s e (s.skm e).gen t ∧
      t.reg (R.SKM_ENG_RES e) = s.reg (R.SKM_ENG_RES e) ∧ t.fuses = s.fuses ∧ t.act = s.act))

/-- What an engine's transition leaves alone: the planes, the fuses, the gate, and the state of every other engine. -/
def SkmFrame (s : State) (e : Fin 16) (t : State) : Prop :=
  (∀ f : Fin 16, f ≠ e → t.reg (R.SKM_ENG_STAT f) = s.reg (R.SKM_ENG_STAT f) ∧ t.skm f = s.skm f) ∧
  Only [.csr, .ic, .err, .ser, .gate, .draws] s t

/-- The generation goes through the override of a template: `tpl` in use, OVERRIDE at 1. -/
def Engaged (t : State) (e tpl : Nat) : Prop :=
  t.flag (R.SKM_ENG_STAT e) F.SKM_ENG_STAT_OVERRIDE = true ∧ (t.skm e).tpl = tpl

/-- R408, R416, R418, R419, R421: the transitions of the engine on its timers and on what its lanes do. SKM_OFFER_TIMEOUT ends
an OFFER in which no valid ordered set has come (the model's reading of R415: notes/assumptions/49.md). -/
def SkemerTransitions : Prop :=
  ∀ (e : Fin 16) (s : State), s.skmRuns = true → s.skmActive = true →
  (s.skmState e = 1 → s.los (s.lead e) = false → s.flag (R.LN_CTRL (s.lead e)) F.LN_CTRL_TX_IDLE = false →
    Completes (.skmDetectTimeout e) s (fun t => t.skmState e = 2 ∧ Engaged t e 0 ∧ SkmFrame s e t)) ∧
  (s.skmState e = 2 → (s.skm e).run = 0 → s.fld (R.SKM_ENG_CFG e) F.SKM_ENG_CFG_LISTEN = 0 →
    Completes (.skmOfferTimeout e) s (fun t => t.skmState e = 0xA ∧ Engaged t e 0 ∧ SkmFrame s e t)) ∧
  (s.skmState e = 2 → (s.skm e).run = 0 → s.fld (R.SKM_ENG_CFG e) F.SKM_ENG_CFG_LISTEN ≠ 0 → ∀ g l, s.skmCands e = g :: l →
    Completes (.skmOfferTimeout e) s (fun t => t.skmState e = 6 ∧ Engaged t e g ∧ (t.skm e).cands = g :: l ∧
      SkmFrame s e t)) ∧
  (s.skmState e = 2 → (s.skm e).run = 0 → s.fld (R.SKM_ENG_CFG e) F.SKM_ENG_CFG_LISTEN ≠ 0 → s.skmCands e = [] →
    Completes (.skmOfferTimeout e) s (fun t => t.skmState e = 2 ∧ Engaged t e 0 ∧ SkmFrame s e t)) ∧
  (0 < (s.skm e).run → exec (.skmOfferTimeout e) s = .next s) ∧
  (3 ≤ s.skmState e → s.skmState e ≤ 5 → Completes (.skmProgressTimeout e) s (fun t =>
      t.skmState e = 0xA ∧ Engaged t e 0 ∧ SkmFrame s e t)) ∧
  (∀ w, s.skmState e = 5 → s.ownSettle e = some w → Completes (.skmCommitTimeout e) s (fun t =>
      t.reg (R.SKM_ENG_RES e) = BitVec.ofNat 32 (w + (s.reg (R.SKM_ENG_PEER e)).toNat / 2 ^ 24 * 2 ^ 24) ∧
      (t.skm e).gen = w % 8 ∧ Presented s e (w % 8) t ∧ SkmFrame s e t)) ∧
  (s.skmState e = 5 → s.ownSettle e = none → Completes (.skmCommitTimeout e) s (fun t =>
      t.skmState e = 0xA ∧ Engaged t e 0 ∧ SkmFrame s e t)) ∧
  (s.skmState e = 0xA → Completes (.skmBackoffTimeout e) s (fun t =>
      t.fld (R.SKM_ENG_STAT e) F.SKM_ENG_STAT_RETRIES = min (s.fld (R.SKM_ENG_STAT e) F.SKM_ENG_STAT_RETRIES + 1) 15 ∧
      (max 1 (s.fld (R.SKM_ENG_CFG e) F.SKM_ENG_CFG_RETRY_MAX) ≤
          min (s.fld (R.SKM_ENG_STAT e) F.SKM_ENG_STAT_RETRIES + 1) 15 →
        t.skmState e = 0xB ∧ t.bit (R.SKM_ENG_INT_STAT e) 4 = true) ∧
      (min (s.fld (R.SKM_ENG_STAT e) F.SKM_ENG_STAT_RETRIES + 1) 15 <
          max 1 (s.fld (R.SKM_ENG_CFG e) F.SKM_ENG_CFG_RETRY_MAX) → t.skmState e = 2) ∧
      Engaged t e 0 ∧ SkmFrame s e t)) ∧
  (s.skmState e = 6 → s.skmTaken e = true → Completes (.skmDwellTimeout e) s (fun t =>
      ((s.skm e).cands.tail = [] → t.skmState e = 2 ∧ Engaged t e 0) ∧
      (∀ g l, (s.skm e).cands.tail = g :: l → t.skmState e = 6 ∧ Engaged t e g ∧ (t.skm e).cands = g :: l) ∧
      SkmFrame s e t)) ∧
  (s.skmState e = 6 → s.skmTaken e = false → exec (.skmDwellTimeout e) s = .next s ∧ exec (.skmListenLock e) s = .next s) ∧
  (∀ g l, s.skmState e = 6 → s.skmTaken e = true → (s.skm e).cands = g :: l → s.locked (s.lead e) = true →
    Completes (.skmListenLock e) s (fun t => t.bit (R.SKM_ENG_INT_STAT e) 0 = true ∧ (t.skm e).gen = g ∧
      t.reg (R.SKM_ENG_RES e) = BitVec.ofNat 32 (g + s.fld (R.SKM_ENG_CFG e) F.SKM_ENG_CFG_COUNT * 2 ^ 8 + 2 ^ 15) ∧
      Presented s e g t ∧ SkmFrame s e t)) ∧
  (s.skmState e = 8 → (∀ n ∈ s.skmLanes e, s.locked n = true) → Completes (.skmLanesUp e) s (fun t =>
      t.skmState e = 9 ∧ t.bit (R.SKM_ENG_INT_STAT e) 1 = true ∧
      RegsBut [R.SKM_ENG_STAT e, R.SKM_ENG_INT_STAT e] s t ∧ SkmFrame s e t)) ∧
  (s.skmState e = 8 → 1 ≤ (s.skm e).gen → (s.skm e).gen ≤ 5 → Completes (.skmUpTimeout e) s (fun t =>
      t.skmState e = 0xA ∧ t.bit (R.SKM_ENG_INT_STAT e) 3 = true ∧ Engaged t e 0 ∧
      t.fld (R.SKM_ENG_STAT e) F.SKM_ENG_STAT_FAILED_GEN =
        s.fld (R.SKM_ENG_STAT e) F.SKM_ENG_STAT_FAILED_GEN ||| 2 ^ ((s.skm e).gen - 1) ∧ SkmFrame s e t)) ∧
  (2 ≤ s.skmState e → s.los (s.lead e) = true → Completes (.skmRemovalTimeout e) s (fun t =>
      t.skmState e = 1 ∧ Engaged t e 0 ∧ t.fld (R.SKM_ENG_STAT e) F.SKM_ENG_STAT_FAILED_GEN = 0 ∧
      (s.skmState e = 9 → t.bit (R.SKM_ENG_INT_STAT e) 2 = true) ∧ SkmFrame s e t)) ∧
  (s.skmState e = 9 → s.locked (s.lead e) = false → Completes (.skmRenegTimeout e) s (fun t =>
      t.skmState e = 0xA ∧ Engaged t e 0 ∧ t.bit (R.SKM_ENG_INT_STAT e) 2 = true ∧ SkmFrame s e t)) ∧
  (s.skmState e = 0xB → Completes (.skmAbortTimeout e) s (fun t =>
      t.skm e = { s.skm e with abort := false } ∧ Only [.ser] s t))

end Sys2Proof

/-- R404, R405, R407, R408, R416, R419, R420, R418, R421: the slot-negotiation engines. -/
def Obligations.SkemerRegistersAndTransitions : Prop := SkemerControlWrites ∧ SkemerTransitions

/-- R409, R410, R412, R414, R416: a valid ordered set on the locked lead lane gives the peer's word; three equal ones in a row take the engine on, a differing settle word or
ABORT takes it to BACKOFF, and no common generation to FAILED; bytes that are no valid ordered set change nothing and do not break a row (the model's choice:
notes/assumptions/49.md). -/
def Obligations.SkemerOrderedSets : Prop :=
  ∀ (e : Fin 16) (os : List (BitVec 8)) (s : State), s.skmRuns = true → 2 ≤ s.skmState e → s.skmState e ≤ 5 →
  s.locked (s.lead e) = true → s.code (s.lead e) = 1 →
  (orderedSet os = none → exec (.skmOrderedSetReceived e os) s = .next s) ∧
  (∀ ty p, orderedSet os = some (ty, p) →
    (ty = 0x5A ∨ ty = 0x5B → Completes (.skmOrderedSetReceived e os) s (fun t =>
      t.reg (R.SKM_ENG_PEER e) = BitVec.ofNat 32 p)) ∧
    (ty = 0x5E → s.skmState e ≠ 2 → Completes (.skmOrderedSetReceived e os) s (fun t => t.skmState e = 0xA ∧ Engaged t e 0)) ∧
    (ty ≠ 0x5E → (s.skm e).last ≠ (ty, p) ∨ (s.skm e).run = 0 ∨ (s.skm e).run = 1 →
      Completes (.skmOrderedSetReceived e os) s (fun t => t.skmState e = s.skmState e ∧ (t.skm e).last = (ty, p) ∧
        (t.skm e).run = (if (s.skm e).last = (ty, p) then (s.skm e).run + 1 else 1) ∧
        RegsBut [R.SKM_ENG_PEER e] s t ∧ Only [.csr, .ser] s t)) ∧
    (ty ≠ 0x5E → (s.skm e).last = (ty, p) → 2 ≤ (s.skm e).run → s.skmState e = 2 →
      Completes (.skmOrderedSetReceived e os) s (fun t => t.skmState e = 3 ∧
        RegsBut [R.SKM_ENG_PEER e, R.SKM_ENG_STAT e] s t ∧ Only [.csr, .ser] s t)) ∧
    (ty = 0x5B → (s.skm e).last = (ty, p) → 2 ≤ (s.skm e).run → s.skmState e = 3 →
      Completes (.skmOrderedSetReceived e os) s (fun t =>
        ((settleWord (s.ownCap e) (p % 2 ^ 32)).isSome → t.skmState e = 4) ∧
        (settleWord (s.ownCap e) (p % 2 ^ 32) = none → t.skmState e = 0xB ∧ (t.skm e).abort = true))) ∧
    (ty = 0x5C → (s.skm e).last = (ty, p) → 2 ≤ (s.skm e).run → s.skmState e = 3 →
      Completes (.skmOrderedSetReceived e os) s (fun t =>
        (∀ w, s.ownSettle e = some w → t.skmState e = if w = p then 4 else 0xA) ∧ (s.ownSettle e = none → t.skmState e = 0xB))) ∧
    (ty = 0x5C → (s.skm e).last = (ty, p) → 2 ≤ (s.skm e).run → s.skmState e = 4 ∨ s.skmState e = 5 →
      Completes (.skmOrderedSetReceived e os) s (fun t =>
        (s.ownSettle e ≠ some p → t.skmState e = 0xA) ∧
        (s.ownSettle e = some p → s.skmState e = 4 → t.skmState e = 5 ∧ t.bit (R.SKM_ENG_INT_STAT e) 0 = true) ∧
        (s.ownSettle e = some p → s.skmState e = 5 → t.skmState e = 5))))

/-! ## Registers in general (01) and the network (09) -/

/-- R12, R15, R18, R19, R21, R24, R25, R28, R298, R316: a write to a LIVE field takes effect, to a W1C field clears the bits written at 1, to a STAGED field changes the
staging copy alone, and to a LOCKED field takes effect while the block is not enabled and is ignored and flagged while it is; a read of an RC counter returns it and clears it, but not
for the debug master. Stated on a register of each class of the lanes (in a record of one, the offset counts within the quad's window, the model's choice:
notes/assumptions/45.md), and for the read on every window whose reads do nothing else. An access that is refused or reaches no block
ends with the status of R316 at its endpoint, under tag 0 (the model's choice: notes/assumptions/10.md). -/
def Obligations.RegisterAccessesFollowTheirClasses : Prop :=
  (∀ (ep : Fin 256) (n : Fin 144) (v : Word) (s : State), s.mayWrite ep (R.LN_USR_PAT_LO n) →
    Completes (.registerWrite ep (R.LN_USR_PAT_LO n) v) s (fun t => t.reg (R.LN_USR_PAT_LO n) = v ∧
      RegsBut [R.LN_USR_PAT_LO n] s t ∧ Only [.csr] s t)) ∧
  (∀ (ep : Fin 256) (n : Fin 144) (v : Word) (s : State), s.mayWrite ep (R.LN_INT_STAT n) →
    Completes (.registerWrite ep (R.LN_INT_STAT n) v) s (fun t =>
      t.reg (R.LN_INT_STAT n) = s.reg (R.LN_INT_STAT n) &&& ~~~ (v &&& 0x3FF) ∧
      RegsBut [R.LN_INT_STAT n] s t ∧ Only [.csr] s t)) ∧
  (∀ (ep : Fin 256) (n : Fin 144) (v : Word) (s : State), s.mayWrite ep (R.LN_TX_FFE n) →
    Completes (.registerWrite ep (R.LN_TX_FFE n) v) s (fun t =>
      (t.staged (R.LN_TX_FFE n) &&& 0x3FFFFFF) = (v &&& 0x3FFFFFF) ∧ RegsBut [] s t ∧
      (∀ off, off ≠ R.LN_TX_FFE n → t.staged off = s.staged off) ∧ Only [.csr, .stg] s t)) ∧
  (∀ (ep : Fin 256) (n : Fin 144) (v : Word) (s : State), s.mayWrite ep (R.LN_CFG n) →
    (s.flag (R.LN_CTRL n) F.LN_CTRL_EN = false → Completes (.registerWrite ep (R.LN_CFG n) v) s (fun t =>
      t.fld (R.LN_CFG n) F.LN_CFG_LOOPBACK = v.fget F.LN_CFG_LOOPBACK ∧ RegsBut [R.LN_CFG n] s t ∧ Only [.csr] s t)) ∧
    (s.flag (R.LN_CTRL n) F.LN_CTRL_EN = true → s.fld (R.LN_CFG n) F.LN_CFG_LOOPBACK ≠ v.fget F.LN_CFG_LOOPBACK →
      s.quiet (192 + n) → Completes (.registerWrite ep (R.LN_CFG n) v) s (fun t =>
        t.reg (R.LN_CFG n) = s.reg (R.LN_CFG n) ∧ t.flag (R.LN_STAT n) F.LN_STAT_LOCKED_WR = true ∧
        t.err.waiting = s.err.waiting ++ [⟨n, ⟨192 + n, 0, 0x18, R.LN_CFG n % 2 ^ 16 + 2 ^ 16 * n⟩, 0⟩] ∧
        RegsBut [R.LN_STAT n] s t ∧ Only [.csr, .err] s t))) ∧
  (∀ (ep : Fin 256) (off inst loc : Nat) (win : Win) (s : State), s.mayRead ep off → winOf off = some (win, inst, loc) →
    win ∈ [Win.sys, .clk, .cfg, .scr, .ist, .sec, .skm, .noc, .ni, .lq, .mc] →
    (ep.val ≠ 0x6B → Completes (.counterReadClear ep off) s (fun t =>
      t.out = leBytes 4 (s.csrPeek off).toNat ∧ t.reg off = s.reg off &&& ~~~ rcMask off ∧
      (∀ o, o ≠ off → t.reg o = s.reg o) ∧ Only [.csr, .out] s t)) ∧
    (ep.val = 0x6B → Completes (.counterReadClear ep off) s (fun t =>
      t.out = leBytes 4 (s.csrPeek off).toNat ∧ Only [.out] s t))) ∧
  (∀ (ep : Fin 256) (off : Nat) (v : Word) (s : State), s.presents ep = false →
    exec (.registerWrite ep off v) s = .next s ∧ exec (.counterReadClear ep off) s = .next s) ∧
  (∀ (ep : Fin 256) (off : Nat) (v : Word) (s : State), s.presents ep = true →
    (s.niOn ep = false → Completes (.registerWrite ep off v) s (fun t =>
        t.noc.done.head? = some ⟨ep, 0, 7, []⟩ ∧ Only [.noc] s t) ∧
      Completes (.counterReadClear ep off) s (fun t => t.noc.done.head? = some ⟨ep, 0, 7, []⟩ ∧ Only [.noc] s t)) ∧
    (s.niOn ep = true → winOf off = none → Completes (.registerWrite ep off v) s (fun t =>
        t.noc.done.head? = some ⟨ep, 0, 1, []⟩ ∧
        (t.reg (R.NI_DECERR_CNT ep)).toNat = min ((s.reg (R.NI_DECERR_CNT ep)).toNat + 1) (2 ^ 32 - 1) ∧
        Only [.csr, .ic, .err, .noc] s t)) ∧
    (s.niOn ep = true → s.targetOn off = false → Completes (.registerWrite ep off v) s (fun t =>
        t.noc.done.head? = some ⟨ep, 0, 7, []⟩ ∧ Only [.noc] s t) ∧
      Completes (.counterReadClear ep off) s (fun t => t.noc.done.head? = some ⟨ep, 0, 7, []⟩ ∧ Only [.noc] s t)) ∧
    (s.reaches ep off = true → s.csrAccepts ep true off = false → Completes (.registerWrite ep off v) s (fun t =>
        t.noc.done.head? = some ⟨ep, 0, 2, []⟩ ∧ t.noc.flight = s.noc.flight ∧ Only [.csr, .ic, .err, .noc] s t)) ∧
    (s.reaches ep off = true → s.csrAccepts ep false off = false → Completes (.counterReadClear ep off) s (fun t =>
        t.noc.done.head? = some ⟨ep, 0, 2, []⟩ ∧ t.noc.flight = s.noc.flight ∧ Only [.csr, .ic, .err, .noc] s t)))

/-- R298, R304, R305, R306, R313, R315, R316, R327: a request enters the network with its route and a reserved tag, or completes at once with the
error of R316; a packet moves over a link with its route shifted, reaches the endpoint of a local port that has its DST, and is answered UNDELIV, or dropped where it expects no response, at a local port
of another endpoint, at a port that is not up, and where its command does not match its virtual network. A packet moves whole (notes/assumptions/14.md). -/
def Obligations.PacketsEnterMoveAndArrive : Prop :=
  (∀ (e : Fin 256) (cmd : Nat) (addr : BitVec 48) (len : Fin 512) (data : List (BitVec 8)) (ltag : Fin 256) (s : State),
    s.issues e = true → cmd = 1 ∨ cmd = 2 → (endpointAt e).isSome → s.boot.inReset = false → s.niOpen e = true →
    (∀ g ∈ s.noc.tags, g.ni = e.val → g.ltag ≠ ltag.val) →
    (∀ d loc, s.niOn e = true → s.nocDest e addr.toNat len = .endp d loc → s.niRouteOf e d ≠ 2 ^ 48 - 1 →
      rspFlits cmd len ≤ s.poolFree e → Completes (.nocRequestIssue e cmd 0 addr len data ltag) s (fun t =>
        ∃ p : Packet, p.route = s.niRouteOf e d ∧ p.vn = 0 ∧ p.cmd = cmd ∧ p.src = e ∧ p.dst = d ∧ p.ltag = ltag ∧
          p.addr = addr.toNat ∧ p.loc = loc ∧ p.len = len ∧ p.poison = false ∧ p.dbg = (e.val == 0x6B) ∧
          (cmd = 2 → p.data = sliceBytes data 0 (len + 1)) ∧ (cmd = 1 → p.data = []) ∧
          t.noc = { s.noc with
            flight := s.noc.flight ++ [⟨routerOf e, p⟩], tags := s.noc.tags ++ [⟨e, ltag, rspFlits cmd len, p⟩] } ∧ Only [.noc] s t)) ∧
    (s.niOn e = false → Completes (.nocRequestIssue e cmd 0 addr len data ltag) s (fun t =>
      t.noc.done.head? = some ⟨e, ltag, 7, []⟩ ∧ t.noc.flight = s.noc.flight ∧ t.noc.tags = s.noc.tags ∧ Only [.noc] s t)) ∧
    (s.niOn e = true → s.nocDest e addr.toNat len = .none → Completes (.nocRequestIssue e cmd 0 addr len data ltag) s (fun t =>
      t.noc.done.head? = some ⟨e, ltag, 1, []⟩ ∧ t.noc.flight = s.noc.flight ∧
      (t.reg (R.NI_DECERR_CNT e)).toNat = min ((s.reg (R.NI_DECERR_CNT e)).toNat + 1) (2 ^ 32 - 1) ∧
      Only [.csr, .ic, .err, .noc] s t))) ∧
  (∀ (k : Nat) (f : Flight) (err : LinkErr) (s : State), s.noc.flight[k]? = some f → f.at' < 64 →
    Noc.blocked s.noc.flight k f = false → s.portChanging f.at' (f.pkt.route % 16) = false → f.pkt.matched = true →
    s.portUp f.at' (f.pkt.route % 16) = true →
    (∀ m, 8 ≤ f.pkt.route % 16 → linkOf f.at' (f.pkt.route % 16) = some m →
      s.portChanging m (farPort (f.pkt.route % 16)) = false → Completes (.routerHop k err) s (fun t =>
        (err = .none → t.noc = { s.noc with
            flight := s.noc.flight.set k ⟨m, { f.pkt with route := f.pkt.route / 16 + 15 * 2 ^ 44 }⟩ } ∧
          RegsBut [R.NOC_FLITS f.at' (f.pkt.route % 16)] s t ∧ Only [.csr, .noc] s t) ∧
        (err = .corrected → t.noc.flight = s.noc.flight.set k ⟨m, { f.pkt with route := f.pkt.route / 16 + 15 * 2 ^ 44 }⟩ ∧
          (t.reg (R.NOC_CE_CNT m)).toNat = min ((s.reg (R.NOC_CE_CNT m)).toNat + 1) (2 ^ 32 - 1)) ∧
        (err = .header → t.noc = { s.noc with flight := s.noc.flight.eraseIdx k }) ∧
        (err = .data → f.pkt.data ≠ [] → t.noc.flight = s.noc.flight.set k
          ⟨m, { f.pkt with route := f.pkt.route / 16 + 15 * 2 ^ 44, poison := true }⟩) ∧
        (t.reg (R.NOC_FLITS f.at' (f.pkt.route % 16))).toNat =
          ((s.reg (R.NOC_FLITS f.at' (f.pkt.route % 16))).toNat + f.pkt.flits) % 2 ^ 32)) ∧
    (f.pkt.route % 16 < 8 → f.pkt.route % 16 ≠ 0 ∨ s.fencePass f.at' f.pkt = true →
      endpointOn f.at' (f.pkt.route % 16) = some f.pkt.dst → Completes (.routerHop k err) s (fun t =>
        t.noc = { s.noc with flight := s.noc.flight.eraseIdx k, arrived := s.noc.arrived ++ [f.pkt] } ∧
        RegsBut [R.NOC_FLITS f.at' (f.pkt.route % 16)] s t ∧ Only [.csr, .noc] s t)) ∧
    (f.pkt.route % 16 = 0 → s.fence f.at' = 2 → f.pkt.isRsp = false → f.pkt.vn ≠ 2 → Completes (.routerHop k err) s (fun t =>
        (∃ q : Packet, t.noc.flight = s.noc.flight.eraseIdx k ++ [⟨f.at', q⟩] ∧ q.status = 4 ∧ q.isRsp = true ∧
          q.dst = f.pkt.src ∧ q.ltag = f.pkt.ltag ∧ q.route = defaultRoute f.at' f.pkt.src) ∧
        (t.reg (R.NOC_FENCED_CNT f.at')).toNat = min ((s.reg (R.NOC_FENCED_CNT f.at')).toNat + 1) (2 ^ 32 - 1) ∧
        Only [.csr, .noc] s t)) ∧
    (f.pkt.route % 16 < 8 → f.pkt.route % 16 ≠ 0 → endpointOn f.at' (f.pkt.route % 16) ≠ some f.pkt.dst →
      Completes (.routerHop k err) s (fun t =>
        (t.reg (R.NOC_UNDELIV_CNT f.at')).toNat = min ((s.reg (R.NOC_UNDELIV_CNT f.at')).toNat + 1) (2 ^ 32 - 1) ∧
        t.noc.arrived = s.noc.arrived ∧
        (f.pkt.isRsp = true ∨ f.pkt.vn = 2 → t.noc.flight = s.noc.flight.eraseIdx k) ∧
        (f.pkt.isRsp = false → f.pkt.vn ≠ 2 → ∃ q : Packet, t.noc.flight = s.noc.flight.eraseIdx k ++ [⟨f.at', q⟩] ∧
          q.status = 3 ∧ q.dst = f.pkt.src ∧ q.ltag = f.pkt.ltag)))) ∧
  (∀ (k : Nat) (f : Flight) (err : LinkErr) (s : State), s.noc.flight[k]? = some f → f.at' < 64 →
    Noc.blocked s.noc.flight k f = false → s.portChanging f.at' (f.pkt.route % 16) = false →
    f.pkt.matched = false ∨ s.portUp f.at' (f.pkt.route % 16) = false → Completes (.routerHop k err) s (fun t =>
      (t.reg (R.NOC_UNDELIV_CNT f.at')).toNat = min ((s.reg (R.NOC_UNDELIV_CNT f.at')).toNat + 1) (2 ^ 32 - 1) ∧
      t.noc.arrived = s.noc.arrived ∧
      (f.pkt.isRsp = true ∨ f.pkt.vn = 2 → t.noc.flight = s.noc.flight.eraseIdx k) ∧
      (f.pkt.isRsp = false → f.pkt.vn ≠ 2 → ∃ q : Packet, t.noc.flight = s.noc.flight.eraseIdx k ++ [⟨f.at', q⟩] ∧
        q.status = 3 ∧ q.dst = f.pkt.src ∧ q.ltag = f.pkt.ltag))) ∧
  (∀ (k : Nat) (err : LinkErr) (s : State), s.noc.flight.length ≤ k → exec (.routerHop k err) s = .next s)

/-- R37, R39, R40, R299, R302, R314, R316, R317, R320, R322: a target performs the oldest request that does not wait, or answers it; the requester's interface takes the
response of an outstanding tag, counts a late one, and completes a tag with TIMEOUT; a fabric interface answers NORESP for user logic. -/
def Obligations.RequestsAreAnsweredAndTagsComplete : Prop :=
  (∀ (e : Fin 256) (act : UserAct) (k off : Nat) (p : Packet) (s : State), 64 ≤ e.val →
    s.nextRequest e s.noc.arrived 0 [] = some (k, p) → csrOff p.addr = some off → p.vn = 3 → p.len = 3 →
    p.addr % 4 = 0 → niWindow off = true ∨ s.niOn e = true →
    let u := s.setNoc { s.noc with arrived := s.noc.arrived.eraseIdx k }
    (u.csrAccepts p.src (p.cmd == cmdWr) off = false → Completes (.nocRequestArrival e act) s (fun t =>
      t = (u.csrRefused p.src off).respond e p 2 [])) ∧
    (u.csrAccepts p.src true off = true → p.cmd = cmdWr → Completes (.nocRequestArrival e act) s (fun t =>
      t = (u.csrWrite p.src off (BitVec.ofNat 32 (leNat p.data))).respond e p 0 [])) ∧
    (u.csrAccepts p.src false off = true → p.cmd = cmdRd → Completes (.nocRequestArrival e act) s (fun t =>
      t = (u.csrRead p.src off).respond e p 0 (u.csrRead p.src off).out))) ∧
  (∀ (e : Fin 256) (act : UserAct) (k off : Nat) (p : Packet) (s : State), 64 ≤ e.val →
    s.nextRequest e s.noc.arrived 0 [] = some (k, p) → csrOff p.addr = some off → p.vn ≠ 2 → niWindow off = false →
    s.niOn e = false → Completes (.nocRequestArrival e act) s (fun t =>
      t = (s.setNoc { s.noc with arrived := s.noc.arrived.eraseIdx k }).respond e p 7 [])) ∧
  (∀ (e : Fin 64) (k : Nat) (p : Packet) (s : State), s.nextRequest e s.noc.arrived 0 [] = some (k, p) → p.onePage = true →
    csrOff p.addr = none → s.niOn e = true → s.fence e = 0 →
    (s.userPort e = true → Completes (.nocRequestArrival (e.castLE (by decide)) .leave) s (fun t =>
      t.noc = { s.noc with arrived := s.noc.arrived.eraseIdx k, held := s.noc.held ++ [p] } ∧ Only [.noc] s t)) ∧
    (s.userPort e = false → p.vn ≠ 2 → Completes (.nocRequestArrival (e.castLE (by decide)) .leave) s (fun t =>
      t.noc.held = s.noc.held ∧ ∃ q : Packet, t.noc.flight = s.noc.flight ++ [⟨routerOf e, q⟩] ∧ q.status = 5 ∧
        q.dst = p.src ∧ q.ltag = p.ltag))) ∧
  (∀ (e : Fin 256) (p : Packet) (r : List Packet) (s : State),
    takeFirst (fun p => p.dst == e.val && p.isRsp == true) s.noc.arrived = some (p, r) →
    ((∃ g ∈ s.noc.tags, g.ni = e.val ∧ g.ltag = p.ltag) → Completes (.nocResponseArrival e) s (fun t =>
      t.noc.arrived = r ∧ t.noc.tags = s.noc.tags.filter (fun g => g.ni != e.val || g.ltag != p.ltag) ∧
      t.noc.done.head? = some ⟨e, p.ltag, if p.poison then 6 else p.status, p.data⟩ ∧ Only [.noc] s t)) ∧
    ((∀ g ∈ s.noc.tags, g.ni = e.val → g.ltag ≠ p.ltag) → Completes (.nocResponseArrival e) s (fun t =>
      t.noc = { s.noc with arrived := r } ∧
      (t.reg (R.NI_LATE_CNT e)).toNat = min ((s.reg (R.NI_LATE_CNT e)).toNat + 1) (2 ^ 32 - 1)))) ∧
  (∀ (e ltag : Fin 256) (g : Tag) (s : State), s.noc.tags.find? (fun g => g.ni == e.val && g.ltag == ltag.val) = some g →
    s.fld (R.NI_TIMEOUT e) F.NI_TIMEOUT_REQ ≠ 0 ∨ s.niOpen e = false → s.frozen F.DBG_FRZ_NOC = false →
    (∀ p ∈ s.noc.arrived, p.isRsp = true → p.dst = e.val → p.ltag ≠ ltag.val) → Completes (.niRequestTimeout e ltag) s (fun t =>
      t.noc.tags = s.noc.tags.erase g ∧ t.noc.done.head? = some ⟨e, ltag, 8, []⟩ ∧ t.noc.flight = s.noc.flight ∧
      (t.reg (R.NI_TO_CNT e)).toNat = min ((s.reg (R.NI_TO_CNT e)).toNat + 1) (2 ^ 32 - 1) ∧
      Only [.csr, .ic, .err, .noc] s t)) ∧
  (∀ (e : Fin 64) (p : Packet) (r : List Packet) (s : State), s.frozen F.DBG_FRZ_NOC = false →
    (s.fld (R.NI_TIMEOUT e) F.NI_TIMEOUT_TGT ≠ 0 → takeFirst (fun p => p.dst == e.val) s.noc.held = some (p, r) → p.vn ≠ 2 →
      Completes (.niTargetTimeout e) s (fun t => t.noc.held = r ∧ ∃ q : Packet, q.status = 5 ∧ q.dst = p.src ∧
        q.ltag = p.ltag ∧ t.noc.flight = s.noc.flight ++ [⟨routerOf e, q⟩] ∧ Only [.csr, .ic, .err, .noc] s t)) ∧
    (s.fence e = 1 → takeFirst (fun p => p.dst == e.val) s.noc.taken = some (p, r) →
      Completes (.fenceTargetTimeout e) s (fun t => t.noc.taken = r ∧ ∃ q : Packet, q.status = 5 ∧ q.dst = p.src ∧
        q.ltag = p.ltag ∧ t.noc.flight = s.noc.flight ++ [⟨routerOf e, q⟩] ∧ Only [.csr, .ic, .err, .noc] s t)))

/-- R307, R309, R310, R321, R323, R324, R325, R326: an invalid route is refused and a valid one staged; APPLY puts an interface's staged routes into effect; APPLY of a
router begins a port change, which ends at a packet boundary; a link port is up while both ends enable it; a fence closes when its interface is idle and opens
after power returns. -/
def Obligations.RoutesPortsAndFences : Prop :=
  (∀ (ep e d : Fin 256) (v : Word) (s : State), s.mayWrite ep (R.NI_RT_HI e d) →
    let route := (s.staged (R.NI_RT_LO e d)).toNat + 2 ^ 32 * (v.toNat % 2 ^ 16)
    (routeValid e d route = true → Completes (.niRtHiWrite ep e d v) s (fun t =>
      (t.staged (R.NI_RT_HI e d) &&& 0xFFFF) = (v &&& 0xFFFF) ∧ (s.niCrossing e = false → t.niRouteOf e d = s.niRouteOf e d) ∧ RegsBut [] s t)) ∧
    (routeValid e d route = false → Completes (.niRtHiWrite ep e d v) s (fun t =>
      t.staged (R.NI_RT_HI e d) = s.staged (R.NI_RT_HI e d) ∧ t.flag (R.NI_STAT e) F.NI_STAT_ROUTE_REJ = true ∧
      RegsOr [R.NI_STAT e] s t ∧ Only [.csr, .ic, .err] s t))) ∧
  (∀ (ep e : Fin 256) (v : Word) (s : State), s.mayWrite ep (R.NI_CTRL e) → s.armedFor (.ni e) = none →
    v.getLsbD 1 = s.niOn e → (v &&& 0x30) = (s.reg (R.NI_CTRL e) &&& 0x30) → Completes (.niApply ep e v) s (fun t =>
      (∀ d : Fin 256, (t.reg (R.NI_RT_LO e d) &&& stgMask (R.NI_RT_LO e d)) =
          (s.staged (R.NI_RT_LO e d) &&& stgMask (R.NI_RT_LO e d)) ∧
        (t.reg (R.NI_RT_HI e d) &&& stgMask (R.NI_RT_HI e d)) =
          (s.staged (R.NI_RT_HI e d) &&& stgMask (R.NI_RT_HI e d))) ∧
      (∀ (f d : Fin 256), f ≠ e → t.niRouteOf f d = s.niRouteOf f d) ∧ t.noc = s.noc ∧ Only [.csr, .stg] s t)) ∧
  (∀ (ep : Fin 256) (n : Fin 64) (v : Word) (s : State), s.mayWrite ep (R.NOC_CTRL n) → Completes (.nocApply ep n v) s (fun t =>
      t.flag (R.NOC_STAT n) F.NOC_STAT_RCFG_BUSY = true ∧ t.reg (R.NOC_PORT_EN n) = s.reg (R.NOC_PORT_EN n) ∧
      t.noc = { s.noc with
        rcfg := Tbl.set (fun _ => none) s.noc.rcfg n (some ((s.staged (R.NOC_PORT_EN n)).fget F.NOC_PORT_EN_EN)) } ∧
      RegsBut [R.NOC_STAT n] s t ∧ Only [.csr, .noc] s t)) ∧
  (∀ (n : Fin 64) (m : Nat) (s : State), Tbl.get (fun _ => none) s.noc.rcfg n = some m → m < 2 ^ 14 →
    Completes (.nocPortChangeDone n) s (fun t =>
      t.fld (R.NOC_PORT_EN n) F.NOC_PORT_EN_EN = m ∧ t.flag (R.NOC_STAT n) F.NOC_STAT_RCFG_BUSY = false ∧
      (∀ p < 8, t.bit (R.NOC_STAT n) p = (portExists n p && (p == 1 || m.testBit p))) ∧
      (∀ p, 8 ≤ p → p < 14 → t.bit (R.NOC_STAT n) p = (s.bit (R.NOC_STAT n) p && m.testBit p)) ∧
      Tbl.get (fun _ => none) t.noc.rcfg n = none ∧ RegsBut [R.NOC_PORT_EN n, R.NOC_STAT n] s t ∧ Only [.csr, .noc] s t)) ∧
  (∀ (n : Fin 64) (p : Fin 14) (m : Nat) (s : State), linkOf n p = some m → s.boot.inReset = false →
    Completes (.linkStateChange n p (s.portEn n p && s.portEn m (farPort p))) s (fun t =>
      t.bit (R.NOC_STAT n) p = (s.portEn n p && s.portEn m (farPort p)) ∧ RegsBut [R.NOC_STAT n] s t ∧ Only [.csr] s t)) ∧
  (∀ (n : Fin 64) (s : State), s.fence n = 1 → (∀ g ∈ s.noc.tags, g.ni ≠ n.val) → (∀ p ∈ s.noc.taken, p.dst ≠ n.val) →
    (∀ p ∈ s.noc.arrived, p.dst ≠ n.val) → Completes (.fenceClose n) s (fun t =>
      t.fence n = 2 ∧ RegsBut [R.NOC_FENCE n] s t ∧ Only [.csr] s t)) ∧
  (∀ (n : Fin 64) (s : State), s.fence n ≠ 1 → exec (.fenceClose n) s = .next s) ∧
  (∀ (k : Fin 32) (s : State), s.boot.inReset = false → s.bit R.SYS_PD_STAT k = false → s.bit R.SYS_PD_BUSY k = false →
    Completes (.fenceOpen k) s (fun t =>
      (s.fence (2 * k.val) = 2 → t.fence (2 * k.val) = 0) ∧ (s.fence (2 * k.val + 1) = 2 → t.fence (2 * k.val + 1) = 0) ∧
      (s.fence (2 * k.val) ≠ 2 → t.fence (2 * k.val) = s.fence (2 * k.val)) ∧
      RegsBut [R.NOC_FENCE (2 * k.val), R.NOC_FENCE (2 * k.val + 1)] s t ∧ Only [.csr] s t))

/-! ## RLD channels (14) and their training (15) -/

namespace Sys2Proof

/-- The other channels keep their states, their queues and their stored words. -/
def OtherChannels (s : State) (c : Fin 8) (t : State) : Prop :=
  ∀ d : Fin 8, d ≠ c → t.mcState d = s.mcState d ∧ t.mcOf d = s.mcOf d ∧
    ∀ line w, line < 2 ^ 24 → w < 8 → t.rldWord d line w = s.rldWord d line w

/-- The queue, the requests and the reads under way of a channel stay. -/
def WorkKept (s : State) (c : Nat) (t : State) : Prop :=
  (t.mcOf c).q = (s.mcOf c).q ∧ (t.mcOf c).reqs = (s.mcOf c).reqs ∧ (t.mcOf c).reads = (s.mcOf c).reads

end Sys2Proof

/-- R468, R469, R470, R474, R486, R487, R493, R498: the states of a channel and what moves it between them. -/
def Obligations.ChannelStatesChange : Prop :=
  (∀ (ep : Fin 256) (c : Fin 8) (v : Word) (s : State), s.mayWrite ep (R.MC_CTRL c) →
    (v.getLsbD 5 = false → v.getLsbD 6 = false → v.getLsbD 7 = false → s.mcState c = 2 →
      (s.bankValid c = true → s.timingValid c = true → (s.mcOf c).want = false → (s.mcOf c).wantHalt = false →
        Completes (.mcEnable ep c v) s (fun t => t.flag (R.MC_CTRL c) F.MC_CTRL_EN = true ∧ t.mcState c = 3 ∧
          t.mcOf c = s.mcOf c ∧ OtherChannels s c t ∧ RegsBut [R.MC_CTRL c, R.MC_STAT c, R.MT_PR_STAT c] s t)) ∧
      (s.bankValid c = false ∨ s.timingValid c = false → Completes (.mcEnable ep c v) s (fun t =>
          t.flag (R.MC_CTRL c) F.MC_CTRL_EN = false ∧ t.mcState c = 2 ∧ t.flag (R.MC_STAT c) F.MC_STAT_EN_REJ = true ∧
          OtherChannels s c t ∧ RegsOr [R.MC_CTRL c, R.MC_STAT c] s t))) ∧
    (v.getLsbD 5 = false → v.getLsbD 6 = false → v.getLsbD 7 = false → s.flag (R.MC_CTRL c) F.MC_CTRL_EN = true →
      s.mcState c = 3 → Completes (.mcDisable ep c v) s (fun t => t.flag (R.MC_CTRL c) F.MC_CTRL_EN = false ∧
        t.mcState c = 3 ∧ RegsBut [R.MC_CTRL c] s t ∧ Only [.csr] s t)) ∧
    (v.getLsbD 0 = true → s.flag (R.MC_CTRL c) F.MC_CTRL_EN = true → s.mcState c = 3 →
      Completes (.mcInit ep c v) s (fun t => t.mcState c = 7 ∧ WorkKept s c t ∧ OtherChannels s c t ∧
        RegsBut [R.MC_CTRL c, R.MC_STAT c, R.MT_PR_STAT c] s t ∧ Only [.csr, .mc] s t)) ∧
    (v.getLsbD 0 = true → v.getLsbD 7 = false → v.getLsbD 5 = false → s.flag (R.MC_CTRL c) F.MC_CTRL_EN = true →
      s.mcState c = 3 → Completes (.mcFreeze ep c v) s (fun t => t.mcState c = 8 ∧ t.bit (R.MC_INT_STAT c) 10 = true ∧
        WorkKept s c t ∧ t.rld = s.rld ∧ OtherChannels s c t)) ∧
    (v.getLsbD 0 = true → s.flag (R.MC_CTRL c) F.MC_CTRL_EN = true → s.mcState c = 8 →
      Completes (.mcUnfreeze ep c v) s (fun t => t.mcState c = (if (s.mcOf c).wantHalt then 8 else 3) ∧ WorkKept s c t ∧
        t.rld = s.rld ∧ OtherChannels s c t))) ∧
  (∀ (ep : Fin 256) (c : Fin 8) (v : Word) (s : State), s.mayWrite ep (R.MC_SR_CTRL c) →
    (v.getLsbD 30 = false → s.mcState c = 3 → Completes (.mcSrEnter ep c v) s (fun t => t.mcState c = 4 ∧
      WorkKept s c t ∧ OtherChannels s c t ∧ RegsBut [R.MC_SR_CTRL c, R.MC_STAT c, R.MT_PR_STAT c] s t ∧ Only [.csr, .mc] s t)) ∧
    (s.mcState c = 5 → Completes (.mcSrExit ep c v) s (fun t => t.mcState c = 6 ∧
      WorkKept s c t ∧ OtherChannels s c t ∧ RegsBut [R.MC_SR_CTRL c, R.MC_STAT c, R.MT_PR_STAT c] s t ∧ Only [.csr, .mc] s t))) ∧
  (∀ (c : Fin 8) (s : State),
    (s.mcState c = 3 → s.flag (R.MC_CTRL c) F.MC_CTRL_EN = false → (s.mcOf c).q = [] → (s.mcOf c).reads = [] →
      Completes (.mcQueuesDrained c) s (fun t => t.mcState c = 2 ∧ (t.mcOf c).reqs = [] ∧
        t.noc.flight.length = s.noc.flight.length + ((s.mcOf c).reqs.filter (fun r => r.pkt.vn ≠ 2)).length ∧
        OtherChannels s c t)) ∧
    (s.mcState c = 3 → s.fld (R.MC_SR_CTRL c) F.MC_SR_CTRL_IDLE ≠ 0 → (s.mcOf c).reqs = [] →
      Completes (.mcIdleTimeout c) s (fun t => t.mcState c = 4 ∧ RegsBut [R.MC_STAT c, R.MT_PR_STAT c] s t ∧
        OtherChannels s c t ∧ Only [.csr, .mc] s t)) ∧
    (s.mcState c = 4 → (s.mcOf c).q = [] → (s.mcOf c).reads = [] → (s.mcOf c).reqs = [] → (s.mcOf c).owed = [] →
      (s.mcOf c).alert = false → Completes (.mcSelfRefreshEntry c) s (fun t => t.mcState c = 5 ∧
        t.bit (R.MC_INT_STAT c) 6 = true ∧ (t.mcOf c).srAt = (s.mcOf c).slot ∧ OtherChannels s c t ∧
        RegsBut [R.MC_STAT c, R.MT_PR_STAT c, R.MC_INT_STAT c] s t ∧ Only [.csr, .ic, .mc] s t)) ∧
    (s.mcState c = 5 → (s.mcOf c).reqs ≠ [] ∨ s.flag (R.MC_CTRL c) F.MC_CTRL_EN = false →
      Completes (.mcSrExitStart c) s (fun t => t.mcState c = 6 ∧ (t.mcOf c).reqs = (s.mcOf c).reqs ∧
        (s.mcOf c).srAt + slotsOf (s.tCKESR c) ≤ (t.mcOf c).slot ∧ OtherChannels s c t ∧ Only [.csr, .mc] s t)) ∧
    (s.mcState c = 6 → (s.mcOf c).want = false → (s.mcOf c).wantHalt = false → Completes (.mcSrExitDone c) s (fun t =>
      t.mcState c = 3 ∧ t.bit (R.MC_INT_STAT c) 7 = true ∧ (t.mcOf c).owed = [] ∧ (t.mcOf c).reqs = (s.mcOf c).reqs ∧
      OtherChannels s c t ∧ Only [.csr, .ic, .mc] s t)) ∧
    (s.mcState c = 7 → (s.mcOf c).want = false → (s.mcOf c).wantHalt = false → Completes (.mcInitDone c) s (fun t =>
      t.mcState c = 3 ∧ t.bit (R.MC_INT_STAT c) 8 = true ∧
      (∀ line w, line < 2 ^ 24 → w < 8 → t.rldWord c line w = ⟨0, true, []⟩) ∧ OtherChannels s c t ∧
      Only [.csr, .ic, .rld] s t))) ∧
  (∀ (ep : Fin 256) (v : Word) (s : State), s.mayWrite ep R.MC_MAP_CTRL →
    let w := (s.staged R.MC_MAP_CTRL &&& ~~~ 0x137770) ||| (v &&& 0x137770)
    (mapValid w (s.staged R.MC_MAP_CH) = true → Completes (.mcMapApply ep v) s (fun t =>
      (t.reg R.MC_MAP_CTRL &&& 0x137770) = (v &&& 0x137770) ∧
      (t.reg R.MC_MAP_CH &&& 0xFFFFFF) = (s.staged R.MC_MAP_CH &&& 0xFFFFFF) ∧
      RegsBut [R.MC_MAP_CTRL, R.MC_MAP_CH] s t ∧ Only [.csr, .stg] s t)) ∧
    (mapValid w (s.staged R.MC_MAP_CH) = false → Completes (.mcMapApply ep v) s (fun t =>
      t.reg R.MC_MAP_CTRL = s.reg R.MC_MAP_CTRL ∧ t.reg R.MC_MAP_CH = s.reg R.MC_MAP_CH ∧
      t.flag (R.MC_STAT 0) F.MC_STAT_MAP_REJ = true ∧ RegsOr [R.MC_STAT 0] s t)))

/-- R467, R480, R481, R482, R484, R488, R489, R494, R495, R496, R499: a port's request takes its place in a bank queue or is turned away for a retired page; a command slot takes a
refresh that is due or the winning line; a read's line answers its request; an alert is replayed, or after too many the channel fails. Time moves by whole
command slots. -/
def Obligations.ChannelsServeRequests : Prop :=
  (∀ (c : Fin 8) (port : Fin 4) (r : McReq) (s : State), s.mcState c = 3 → s.mcHead c port = some r → r.next = 0 →
    (s.mcOf c).reqs.find? (fun x => x.id == r.id) = some r → r.lines = 1 →
    let e := s.mcEntry c r 0
    (s.retired c r.first = true → r.pkt.vn ≠ 2 → Completes (.mcRequestAdmit c port) s (fun t =>
      (t.mcOf c).q = (s.mcOf c).q ∧ (t.mcOf c).reqs = (s.mcOf c).reqs.filter (fun x => x.id != r.id) ∧
      (t.reg (R.MC_RETIRED_HIT c)).toNat = min ((s.reg (R.MC_RETIRED_HIT c)).toNat + 1) (2 ^ 32 - 1) ∧
      ∃ q : Packet, t.noc.flight = s.noc.flight ++ [⟨routerOf (0x40 + 4 * c + port), q⟩] ∧ q.status = 7 ∧
        q.dst = r.pkt.src ∧ q.ltag = r.pkt.ltag)) ∧
    (s.retired c r.first = false → ((s.mcOf c).q.filter (fun x => x.bank == e.bank)).length < 64 →
      (r.pkt.cmd = cmdRd → Completes (.mcRequestAdmit c port) s (fun t => (t.mcOf c).q = (s.mcOf c).q ++ [e] ∧
        (t.mcOf c).reqs.length = (s.mcOf c).reqs.length ∧ t.noc = s.noc ∧ t.rld = s.rld ∧ Only [.mc] s t)) ∧
      (r.pkt.cmd = cmdWr → r.pkt.vn ≠ 2 → Completes (.mcRequestAdmit c port) s (fun t =>
        (t.mcOf c).q = (s.mcOf c).q ++ [e] ∧ (t.mcOf c).reqs = (s.mcOf c).reqs.filter (fun x => x.id != r.id) ∧
        t.rld = s.rld ∧ ∃ q : Packet, t.noc.flight = s.noc.flight ++ [⟨routerOf (0x40 + 4 * c + port), q⟩] ∧ q.status = 0 ∧
          q.dst = r.pkt.src ∧ q.ltag = r.pkt.ltag)) ∧
      (r.pkt.cmd = cmdPwr → r.pkt.vn = 2 → Completes (.mcRequestAdmit c port) s (fun t =>
        (t.mcOf c).q = (s.mcOf c).q ++ [e] ∧ (t.mcOf c).reqs = (s.mcOf c).reqs.filter (fun x => x.id != r.id) ∧
        t.noc = s.noc)))) ∧
  (∀ (c : Fin 8) (s : State), s.mcState c = 3 → (s.mcOf c).alert = false → s.bit R.CLK_MC_LOST (8 + c) = true →
    (∀ b f, s.refreshPick c = some (b, f) → Completes (.mcCommandIssue c []) s (fun t =>
      (t.mcOf c).slot = (s.mcOf c).slot + 1 ∧ (t.mcOf c).q = (s.mcOf c).q ∧ t.rld = s.rld ∧
      Tbl.get (fun _ => 0) (t.mcOf c).free b = (s.mcOf c).slot + max 1 (slotsOf (s.tRC c)) ∧
      (f = true → t.bit (R.MC_INT_STAT c) 5 = true ∧
        (t.reg (R.MC_REF_FORCED c)).toNat = min ((s.reg (R.MC_REF_FORCED c)).toNat + 1) (2 ^ 32 - 1)))) ∧
    (∀ e, s.refreshPick c = none → s.winner c = some e → s.gapPassed c e.write = true →
      Completes (.mcCommandIssue c []) s (fun t => (t.mcOf c).slot = (s.mcOf c).slot + 1 ∧
        (t.mcOf c).q = (s.mcOf c).q.erase e ∧ t.noc = s.noc ∧
        (e.write = false → t.rld = s.rld ∧ (t.mcOf c).reads = (s.mcOf c).reads ++
          [⟨e, (s.mcOf c).slot, (List.range 8).map (fun w => s.rldRead c e.line w)⟩]) ∧
        (e.write = true → e.poison = false → e.line < 2 ^ 24 →
          (∀ w < 8, e.off ≤ 8 * w → 8 * w + 8 ≤ e.off + e.bytes.length → t.rldWord c e.line w =
            ⟨BitVec.ofNat 72 (leNat (sliceBytes e.bytes (8 * w - e.off) 8)), true, []⟩) ∧
          (∀ w < 8, 8 * w + 8 ≤ e.off ∨ e.off + e.bytes.length ≤ 8 * w → t.rldWord c e.line w = s.rldWord c e.line w) ∧
          (∀ line w, line < 2 ^ 24 → line ≠ e.line → w < 8 → t.rldWord c line w = s.rldWord c line w)))) ∧
    (s.refreshPick c = none → s.winner c = none → Completes (.mcCommandIssue c []) s (fun t =>
      (t.mcOf c).slot = (s.mcOf c).slot + 1 ∧ (t.mcOf c).q = (s.mcOf c).q ∧ Only [.mc] s t))) ∧
  (∀ (c : Fin 8) (rd : McRead) (l : List McRead) (r : McReq) (s : State), (s.mcOf c).reads = rd :: l → (s.mcOf c).alert = false →
    (s.mcOf c).reqs.find? (fun x => x.id == rd.ent.req) = some r → r.lines = 1 → r.got = [] → r.bad = false →
    r.pkt.cmd = cmdRd → rd.ent.line = r.first → rd.words.length = 8 → (∀ p ∈ rd.words, p.2 = 0) →
    Completes (.mcReadComplete c) s (fun t => (t.mcOf c).reads = l ∧
      (t.mcOf c).reqs = (s.mcOf c).reqs.filter (fun x => x.id != r.id) ∧ t.rld = s.rld ∧
      ∃ q : Packet, t.noc.flight = s.noc.flight ++ [⟨routerOf (0x40 + 4 * c + r.port), q⟩] ∧ q.status = 0 ∧
        q.dst = r.pkt.src ∧ q.ltag = r.pkt.ltag ∧
        q.data = sliceBytes ((rd.words.flatMap (fun w => bytes64 w.1)).drop (r.pkt.loc % 64)) 0 (r.pkt.len + 1))) ∧
  (∀ (c : Fin 8) (s : State), s.flag (R.MC_CFG c) F.MC_CFG_PAR_EN = true → (s.mcOf c).buf ≠ [] →
    ((s.mcOf c).alerts + 1 < max 1 (s.fld (R.MC_CFG c) F.MC_CFG_MAX_RETRY) → Completes (.mcParityAlert c) s (fun t =>
      t.mcOf c = { s.mcOf c with alert := true, alerts := (s.mcOf c).alerts + 1 } ∧ t.bit (R.MC_INT_STAT c) 3 = true ∧
      (t.reg (R.MC_ALERT_CNT c)).toNat = min ((s.reg (R.MC_ALERT_CNT c)).toNat + 1) (2 ^ 32 - 1) ∧
      t.mcState c = s.mcState c ∧ t.rld = s.rld)) ∧
    (max 1 (s.fld (R.MC_CFG c) F.MC_CFG_MAX_RETRY) ≤ (s.mcOf c).alerts + 1 → Completes (.mcParityAlert c) s (fun t =>
      t.mcState c = 9 ∧ t.bit (R.MC_INT_STAT c) 4 = true ∧ (t.mcOf c).reqs = [] ∧ (t.mcOf c).q = [] ∧
      t.rldLoss c = s.rldLoss c + 1 ∧ OtherChannels s c t))) ∧
  (∀ (c : Fin 8) (s : State), s.flag (R.MC_CFG c) F.MC_CFG_PAR_EN = false ∨ (s.mcOf c).buf = [] →
    exec (.mcParityAlert c) s = .next s) ∧
  (∀ (c : Fin 8) (s : State), (s.mcOf c).alert = true → Completes (.mcReplay c) s (fun t =>
    (t.mcOf c).alert = false ∧ (t.mcOf c).alerts = 0 ∧ (t.mcOf c).buf.length = (s.mcOf c).buf.length ∧
    (t.mcOf c).q = (s.mcOf c).q ∧ t.noc = s.noc ∧ (s.mcOf c).slot ≤ (t.mcOf c).slot))

namespace Sys2Proof

/-- The delay sets of a channel have been exchanged (R505). -/
def SetsExchanged (s : State) (c : Nat) (t : State) : Prop :=
  (∀ k < 72, t.reg (R.MT_ACT_DQ c k) = s.reg (R.MT_SHD_DQ c k) ∧ t.reg (R.MT_SHD_DQ c k) = s.reg (R.MT_ACT_DQ c k)) ∧
  (∀ m < 2, t.reg (R.MT_ACT_CMP c m) = s.reg (R.MT_SHD_CMP c m) ∧ t.reg (R.MT_SHD_CMP c m) = s.reg (R.MT_ACT_CMP c m))

end Sys2Proof

/-- R505, R508, R509, R510, R511, R512, R513: training begins, its runs give their results, and it ends with the delay sets exchanged or
with the channel failed; a commit exchanges the sets at a command slot. -/
def Obligations.TrainingRunsAndCommits : Prop :=
  (∀ (ep : Fin 256) (c : Fin 8) (v : Word) (s : State), s.mayWrite ep (R.MT_CTRL c) →
    (v.getLsbD 28 = false → v.getLsbD 29 = false → v.getLsbD 30 = false →
      let ok := (s.mcState c == 0 || s.mcState c == 2 || s.mcState c == 9) && s.bit R.CLK_MC_LOST (8 + c) &&
        5 ≤ s.fld R.CFG_BOOT_STAT F.CFG_BOOT_STAT_STEP
      (ok = true → Completes (.mtStart ep c v) s (fun t => t.mcState c = 1 ∧ (t.mcOf c).reqs = [] ∧ (t.mcOf c).q = [] ∧
        t.rldLoss c = s.rldLoss c + 1 ∧ OtherChannels s c t)) ∧
      (ok = false → Completes (.mtStart ep c v) s (fun t => t.mcState c = s.mcState c ∧
        t.flag (R.MT_STAT c) F.MT_STAT_START_REJ = true ∧ t.mc = s.mc ∧ t.rld = s.rld))) ∧
    (v.getLsbD 28 = false → v.getLsbD 29 = false → v.getLsbD 31 = false → s.mcState c = 1 →
      Completes (.mtEndPass ep c v) s (fun t => t.mcState c = 2 ∧ SetsExchanged s c t ∧
        t.flag (R.MT_RUN c) F.MT_RUN_BUSY = false ∧ t.bit (R.MT_INT_STAT c) 5 = true ∧ OtherChannels s c t)) ∧
    (v.getLsbD 28 = false → v.getLsbD 30 = false → v.getLsbD 31 = false → s.mcState c = 1 →
      Completes (.mtEndFail ep c v) s (fun t => t.mcState c = 9 ∧ t.bit (R.MT_INT_STAT c) 1 = true ∧
        t.flag (R.MT_RUN c) F.MT_RUN_BUSY = false ∧
        (∀ k < 72, t.reg (R.MT_ACT_DQ c k) = s.reg (R.MT_ACT_DQ c k)) ∧ OtherChannels s c t)) ∧
    (v.getLsbD 29 = false → v.getLsbD 30 = false → v.getLsbD 31 = false →
      let ok := (s.mcState c == 1 || s.mcState c == 2 || s.mcState c == 3) && s.prState c != 1 && s.prState c != 2
      (ok = true → Completes (.mtCommit ep c v) s (fun t => t.mcOf c = { s.mcOf c with commit := true } ∧
        t.prState c = (if s.prState c = 3 then 0 else s.prState c) ∧
        RegsBut [R.MT_CTRL c, R.MT_PR_STAT c] s t ∧ Only [.csr, .mc] s t)) ∧
      (ok = false → Completes (.mtCommit ep c v) s (fun t => t.flag (R.MT_STAT c) F.MT_STAT_COMMIT_REJ = true ∧
        RegsBut [R.MT_CTRL c, R.MT_STAT c] s t ∧ Only [.csr] s t)))) ∧
  (∀ (c : Fin 8) (s : State),
    ((s.mcOf c).commit = true → s.mcState c = 1 ∨ s.mcState c = 2 ∨ s.mcState c = 3 → Completes (.mtCommitDone c) s (fun t =>
      SetsExchanged s c t ∧ t.mcOf c = { s.mcOf c with commit := false } ∧ t.bit (R.MT_INT_STAT c) 5 = true ∧
      Only [.csr, .ic, .mc] s t)) ∧
    ((s.mcOf c).commit = true → s.mcState c ≠ 1 → s.mcState c ≠ 2 → s.mcState c ≠ 3 → Completes (.mtCommitDone c) s (fun t =>
      t.flag (R.MT_STAT c) F.MT_STAT_COMMIT_REJ = true ∧ t.mcOf c = { s.mcOf c with commit := false } ∧
      RegsBut [R.MT_STAT c] s t ∧ Only [.csr, .mc] s t)) ∧
    ((s.mcOf c).commit = false → exec (.mtCommitDone c) s = .next s) ∧
    (s.mcState c = 1 → s.halted = false → Completes (.mtTrainingTimeout c) s (fun t => t.mcState c = 9 ∧
      t.bit (R.MT_INT_STAT c) 1 = true ∧ t.flag (R.MT_RUN c) F.MT_RUN_BUSY = false ∧ OtherChannels s c t)) ∧
    (s.mcState c ≠ 1 ∨ s.halted = true → exec (.mtTrainingTimeout c) s = .next s)) ∧
  (∀ (ep : Fin 256) (c : Fin 8) (v : Word) (s : State), s.mayWrite ep (R.MT_RUN c) →
    (s.mcState c = 1 → s.flag (R.MT_RUN c) F.MT_RUN_BUSY = false → Completes (.mtRunStart ep c v) s (fun t =>
      t.flag (R.MT_RUN c) F.MT_RUN_BUSY = true ∧ t.flag (R.MT_STAT c) F.MT_STAT_ABORT = false ∧
      t.fld (R.MT_RUN c) F.MT_RUN_OP = v.fget F.MT_RUN_OP ∧ t.reg (R.MT_FAIL0 c) = 0 ∧ t.reg (R.MT_FAIL1 c) = 0 ∧
      t.reg (R.MT_FAIL2 c) = 0 ∧ RegsBut [R.MT_RUN c, R.MT_STAT c, R.MT_FAIL0 c, R.MT_FAIL1 c, R.MT_FAIL2 c] s t ∧
      Only [.csr] s t)) ∧
    (s.mcState c ≠ 1 ∨ s.flag (R.MT_RUN c) F.MT_RUN_BUSY = true → Completes (.mtRunStart ep c v) s (fun t =>
      t.flag (R.MT_STAT c) F.MT_STAT_RUN_REJ = true ∧
      t.flag (R.MT_RUN c) F.MT_RUN_BUSY = s.flag (R.MT_RUN c) F.MT_RUN_BUSY ∧
      RegsBut [R.MT_RUN c, R.MT_STAT c] s t ∧ Only [.csr] s t))) ∧
  (∀ (c : Fin 8) (fails : BitVec 72) (errs : Nat) (pass : List (BitVec 128)) (s : State), s.mcState c = 1 →
    s.flag (R.MT_RUN c) F.MT_RUN_BUSY = true → Completes (.mtRunDone c fails errs pass) s (fun t =>
      t.flag (R.MT_RUN c) F.MT_RUN_BUSY = false ∧ t.bit (R.MT_INT_STAT c) 0 = true ∧
      (s.flag (R.MT_RUN c) F.MT_RUN_SWEEP = false → s.fld (R.MT_RUN c) F.MT_RUN_OP ≠ 2 →
        t.reg (R.MT_FAIL0 c) = fails.setWidth 32 ∧ t.reg (R.MT_FAIL1 c) = (fails >>> 32).setWidth 32 ∧
        t.reg (R.MT_FAIL2 c) = ((fails >>> 64).setWidth 32 &&& 0xFF) ∧
        (t.reg (R.MT_ERRCNT c)).toNat = min ((s.reg (R.MT_ERRCNT c)).toNat + errs) (2 ^ 32 - 1)) ∧
      (s.flag (R.MT_RUN c) F.MT_RUN_SWEEP = true →
        let vs := sweepValues (s.fld (R.MT_SWEEP c) F.MT_SWEEP_LO) (s.fld (R.MT_SWEEP c) F.MT_SWEEP_HI)
          (s.fld (R.MT_SWEEP c) F.MT_SWEEP_STEP)
        (s.fld (R.MT_SWEEP c) F.MT_SWEEP_TARGET ≠ 2 →
          s.fld (R.MT_RUN c) F.MT_RUN_OP ≠ 2 ∨ s.fld (R.MT_SWEEP c) F.MT_SWEEP_TARGET = 1 →
          ∀ k < 72, t.reg (R.MT_WIN c k) = winWord (window (pass.getD k 0) vs)) ∧
        (s.fld (R.MT_SWEEP c) F.MT_SWEEP_TARGET = 2 →
          ∀ m < 2, t.reg (R.MT_WIN c (72 + m)) = winWord (window (compPass pass m) vs))) ∧
      t.mc = s.mc ∧ Only [.csr, .ic, .rld, .draws] s t))

/-- R514, R515, R516: retraining is enabled on a retired page only; its period loads the shadow set from the active one and begins to read; a sweep that finds a
setting for every bit goes on to write and then asks for a commit or waits for one; one that does not reloads the shadow and counts it. -/
def Obligations.RetrainingInService : Prop :=
  (∀ (ep : Fin 256) (c : Fin 8) (v : Word) (s : State), s.mayWrite ep (R.MT_PR_CTRL c) → s.prOn c = false →
    (s.prPage c = true → Completes (.mtPrEnable ep c v) s (fun t => t.prOn c = true ∧ t.prState c = s.prState c ∧
      RegsBut [R.MT_PR_CTRL c] s t ∧ Only [.csr] s t)) ∧
    (s.prPage c = false → Completes (.mtPrEnable ep c v) s (fun t => t.prOn c = false ∧
      t.flag (R.MT_STAT c) F.MT_STAT_PR_REJ = true ∧ t.bit (R.MT_INT_STAT c) 4 = true ∧
      RegsOr [R.MT_PR_CTRL c, R.MT_STAT c, R.MT_INT_STAT c] s t ∧ Only [.csr, .ic, .err] s t))) ∧
  (∀ (c : Fin 8) (s : State), s.prOn c = true → s.prState c = 0 → s.mcState c = 3 → (s.mcOf c).commit = false →
    Completes (.retrainPeriodExpiry c) s (fun t => t.prState c = 1 ∧
      (∀ k < 72, t.reg (R.MT_SHD_DQ c k) = s.reg (R.MT_ACT_DQ c k) ∧ t.reg (R.MT_ACT_DQ c k) = s.reg (R.MT_ACT_DQ c k)) ∧
      (∀ m < 2, t.reg (R.MT_SHD_CMP c m) = s.reg (R.MT_ACT_CMP c m)) ∧ Only [.csr] s t)) ∧
  (∀ (c : Fin 8) (pass : List (BitVec 128)) (s : State), s.prOn c = true → s.mcState c = 3 →
    s.flag (R.MT_PR_CTRL c) F.MT_PR_CTRL_WIN = false ∨ s.flag (R.MC_MAINT c) F.MC_MAINT_OPEN = true →
    let f := if s.prState c = 1 then F.MT_ACT_DQ_RDLY else F.MT_ACT_DQ_WDLY
    let w := fun k => window (pass.getD k 0) (sweepValues
      (s.fld (R.MT_ACT_DQ c k) f - s.fld (R.MT_PR_CTRL c) F.MT_PR_CTRL_RANGE)
      (min 127 (s.fld (R.MT_ACT_DQ c k) f + s.fld (R.MT_PR_CTRL c) F.MT_PR_CTRL_RANGE)) 1)
    let found := ∀ k < 72, ∃ l r, w k = some (l, r) ∧ s.fld (R.MT_PR_CTRL c) F.MT_PR_CTRL_MIN_W ≤ r - l
    (s.prState c = 1 → found → Completes (.retrainSweepDone c pass) s (fun t => t.prState c = 2 ∧
      (∀ k < 72, ∀ l r, w k = some (l, r) → t.fld (R.MT_SHD_DQ c k) f = (l + r) / 2 ∧ t.reg (R.MT_WIN c k) = winWord (w k) ∧
        t.reg (R.MT_ACT_DQ c k) = s.reg (R.MT_ACT_DQ c k)))) ∧
    (s.prState c = 2 → found → Completes (.retrainSweepDone c pass) s (fun t => t.bit (R.MT_INT_STAT c) 2 = true ∧
      (∀ k < 72, ∀ l r, w k = some (l, r) → t.fld (R.MT_SHD_DQ c k) f = (l + r) / 2) ∧
      (s.flag (R.MT_PR_CTRL c) F.MT_PR_CTRL_AUTO = true → t.prState c = 0 ∧ (t.mcOf c).commit = true) ∧
      (s.flag (R.MT_PR_CTRL c) F.MT_PR_CTRL_AUTO = false → t.prState c = 3 ∧ t.mcOf c = s.mcOf c))) ∧
    (s.prState c = 1 ∨ s.prState c = 2 → ¬ found → Completes (.retrainSweepDone c pass) s (fun t => t.prState c = 0 ∧
      t.bit (R.MT_INT_STAT c) 3 = true ∧
      (∀ k < 72, t.reg (R.MT_SHD_DQ c k) = s.reg (R.MT_ACT_DQ c k)) ∧
      (t.reg (R.MT_PR_NOSET c)).toNat = min ((s.reg (R.MT_PR_NOSET c)).toNat + 1) (2 ^ 32 - 1))))

/-! ## Upset scrubbing (08) -/

/-- R261, R264, R265, R267, R278, R279, R280, R285: a wedging begins with every engine at its first position, and does not begin where the scrubber does not run or one is
under way. An engine moves on to its next position, or is finished after the last. One that reads a sound active frame does only that; one that reads a single inverted data bit
repairs it and keeps the finding for its lookup; one that reads two inverted bits in one code word leaves them, marks the region and keeps the finding (stated for a position whose shadow half
is not checked, with no finding of that frame waiting). At its end, with no frame left to read, PASS_CNT counts, source 32 is raised, and the flags of regions that showed no uncorrectable frame clear. -/
def Obligations.WedgingsReadAndRepair : Prop :=
  (∀ s : State, s.scrubRuns = true → s.wedging = false → Completes .wedgingStart s (fun t =>
    t.wedging = true ∧ t.scrub.pos = [] ∧ t.scrub.finished = [] ∧ t.scrub.dirty = [] ∧ t.scrub.queue = s.scrub.queue ∧
    t.scrub.skip = (List.range 32).filter (fun k => s.secGoing k) ∧ RegsBut [R.SCR_STAT] s t ∧ Only [.csr, .scrub] s t)) ∧
  (∀ s : State, s.scrubRuns = false ∨ s.wedging = true → exec .wedgingStart s = .next s) ∧
  (∀ (k : Fin 32) (a b : Fin 2336) (s : State), s.scrubRuns = true → s.wedging = true → s.scrub.skip.has k = false →
    s.scrub.finished.has k = false →
    let p := Tbl.get (fun _ => 0) s.scrub.pos k
    let key := k.val * 2 ^ 17 + p
    let f := s.act.frame key
    let moved := fun t : State => match nextPos (keyTcol p) (keyTrow p) (keyFrame p) with
      | some q => Tbl.get (fun _ => 0) t.scrub.pos k = mkKey 0 q.1 q.2.1 q.2.2 ∧ t.scrub.finished = s.scrub.finished
      | none => t.scrub.finished.has k = true ∧ t.scrub.pos = s.scrub.pos
    f.flips = [] → f.words.length = 64 → f.readsBack = true → s.scrubChecks key true = false → s.scrubChecks key false = true →
    (∀ y ∈ s.scrub.look, y.key ≠ key) → (∀ q ∈ s.scrub.queue, q.1 ≠ key) → (∀ q ∈ s.scrub.lost, q.1 ≠ key) →
    Completes (.scrubPosition k [] []) s (fun t => moved t ∧ t.scrub.look = s.scrub.look ∧ Only [.scrub] s t) ∧
    (a.val < 2304 → a.val % 72 < 64 → Completes (.scrubPosition k [a] []) s (fun t => moved t ∧ t.act.frame key = f ∧
      (∀ j, j ≠ key → t.act.frame j = s.act.frame j) ∧
      (∃ x : Finding, t.scrub.look = s.scrub.look ++ [x] ∧ x.key = key ∧ x.shd = false ∧ x.kind = 1 ∧
        x.bits = [64 * (a.val / 72) + a.val % 72]) ∧ Only [.act, .scrub] s t)) ∧
    (a ≠ b → a.val < 2304 → b.val < 2304 → a.val / 72 = b.val / 72 → Completes (.scrubPosition k [a, b] []) s (fun t =>
      moved t ∧ (∀ i, (t.act.frame key).flips.has i = (i == a.val || i == b.val)) ∧ (t.act.frame key).words = f.words ∧
      (∀ j, j ≠ key → t.act.frame j = s.act.frame j) ∧
      (∃ x : Finding, t.scrub.look = s.scrub.look ++ [x] ∧ x.key = key ∧ x.kind = 2 ∧ x.words = [a.val / 72]) ∧
      t.scrub.dirty.has (s.flagOf key) = true ∧ Only [.act, .scrub] s t))) ∧
  (∀ (ns : BitVec 32) (s : State), s.scrubRuns = true → s.wedging = true → s.unread = [] → s.ic.asleep = false →
    Completes (.wedgingEnd ns) s (fun t => t.wedging = false ∧ t.reg R.SCR_PASS_TIME = ns ∧
      t.fld R.SCR_STAT F.SCR_STAT_PASS_CNT = (s.fld R.SCR_STAT F.SCR_STAT_PASS_CNT + 1) % 2 ^ 16 ∧
      t.ic.pending.has 32 = true ∧
      (∀ r < 32, t.bit R.SCR_RGN_FLAG r = (s.bit R.SCR_RGN_FLAG r && s.scrub.dirty.has r)) ∧
      t.flag R.SCR_FLAG F.SCR_FLAG_STATIC = (s.flag R.SCR_FLAG F.SCR_FLAG_STATIC && s.scrub.dirty.has 32) ∧
      RegsBut [R.SCR_STAT, R.SCR_PASS_TIME, R.SCR_RGN_FLAG, R.SCR_FLAG] s t ∧ Only [.csr, .ic] s t))

namespace Sys2Proof

/-- R269, R277, R278, R279, R281, R292: the oldest finding of an active frame whose plane has no map is judged with every data bit essential, counted and recorded as a correctable or an uncorrectable one; an
uncorrectable one is queued for refetch where RF_EN is 1 and the queue has room. Discarded pages leave the cache and nothing enters it. A finding of the frame an injection touched sets DETECTED. -/
def FindingsAreJudged : Prop :=
  ∀ (f : Finding) (l : List Finding) (lost : List Nat) (s : State), s.halted = false → s.scrub.look = f :: l → f.shd = false →
    s.mapState f.key false = 0 →
    let ess := f.essential (List.replicate 32 (2 ^ 64 - 1))
    let recorded := fun (t : State) (src sev cls : Nat) => s.quiet src →
      ∃ u, t.err.waiting = s.err.waiting ++ [⟨u, ⟨src, sev, cls, keyFar f.key false⟩, 0⟩]
    let kept := fun (t : State) (q : List (Nat × Bool × Bool)) =>
      t.scrub = { s.scrub with look := l, queue := q, cache := t.scrub.cache } ∧ (∀ p ∈ t.scrub.cache, p ∈ s.scrub.cache) ∧
      (lost = [] → t.scrub.cache = s.scrub.cache)
    (s.scrub.inj ≠ some (f.key, false) → f.kind = 1 → Completes (.mapLookupDone lost) s (fun t => kept t s.scrub.queue ∧
      (t.reg R.SCR_CE_ACT).toNat = min ((s.reg R.SCR_CE_ACT).toNat + 1) (2 ^ 32 - 1) ∧
      t.reg R.SCR_LAST_FAR = BitVec.ofNat 32 (keyFar f.key false) ∧ recorded t (if ess then 33 else 34) 0 0x05 ∧
      RegsOr [R.SCR_CE_ACT, R.SCR_LAST_FAR, R.SCR_LAST_INFO] s t ∧ Only [.csr, .ic, .err, .scrub] s t)) ∧
    (s.scrub.inj ≠ some (f.key, false) → f.kind ≠ 1 → s.flag R.SCR_CTRL F.SCR_CTRL_RF_EN = true → s.scrub.queue.length < 32 →
      Completes (.mapLookupDone lost) s (fun t => kept t (s.scrub.queue ++ [(f.key, false, ess)]) ∧
        (t.reg R.SCR_UE_ACT).toNat = min ((s.reg R.SCR_UE_ACT).toNat + 1) (2 ^ 32 - 1) ∧
        t.reg R.SCR_LAST_FAR = BitVec.ofNat 32 (keyFar f.key false) ∧ recorded t (if ess then 3 else 36) (if ess then 2 else 0) 0x06 ∧
        RegsOr [R.SCR_UE_ACT, R.SCR_LAST_FAR, R.SCR_LAST_INFO] s t ∧ Only [.csr, .ic, .err, .scrub] s t)) ∧
    (s.scrub.inj = some (f.key, false) → Completes (.mapLookupDone lost) s (fun t =>
      t.flag R.SCR_INJ_CTRL F.SCR_INJ_CTRL_DETECTED = true ∧ t.scrub.inj = none ∧ t.scrub.look = l))

/-- R276: the map of a region's plane, its container in flash, is checked whole: a good one changes nothing, and one that fails makes the plane one without a good map (BAD). A plane with no
map in use is not checked. -/
def MapsAreChecked : Prop :=
  ∀ (r : Fin 32) (x : PlaneRec) (s : State), s.halted = false → (s.rg r).act = some x → x.origin ≠ 2 →
    (s.fld (R.SCR_RGN_MAP r) F.SCR_RGN_MAP_ACT_MAP = 1 ∨ s.fld (R.SCR_RGN_MAP r) F.SCR_RGN_MAP_ACT_MAP = 2 →
      Completes (.mapCheckDone (some r) false) s (fun t => (s.mapGood x (some r) = true → t = s) ∧
        (s.mapGood x (some r) = false → t.fld (R.SCR_RGN_MAP r) F.SCR_RGN_MAP_ACT_MAP = 3 ∧
          t.fld (R.SCR_RGN_MAP r) F.SCR_RGN_MAP_SHD_MAP = s.fld (R.SCR_RGN_MAP r) F.SCR_RGN_MAP_SHD_MAP ∧
          RegsOr [R.SCR_RGN_MAP r] s t ∧ Only [.csr, .ic, .err, .draws] s t))) ∧
    (s.fld (R.SCR_RGN_MAP r) F.SCR_RGN_MAP_ACT_MAP = 0 ∨ s.fld (R.SCR_RGN_MAP r) F.SCR_RGN_MAP_ACT_MAP = 3 →
      exec (.mapCheckDone (some r) false) s = .next s)

/-- R281, R282, R283, R285, R286, R291: the frame at the head of the queue is fetched; an entry with an uncorrectable error is dropped, and with RF_EN at 0 the frame is not repaired. A fetched frame is written with
new check bits and counted; one that no container gives is not repaired, and flags its region, the static frames, or makes its shadow INVALID; a frame that has left the queue meanwhile is not written. -/
def FramesAreRefetched : Prop :=
  ∀ (key : Nat) (shd ess : Bool) (l : List (Nat × Bool × Bool)) (s : State), s.halted = false →
    let lost := fun t : State => (t.reg R.SCR_RF_FAIL).toNat = min ((s.reg R.SCR_RF_FAIL).toNat + 1) (2 ^ 32 - 1) ∧
      t.scrub.queue = l ∧ t.scrub.lost = s.scrub.lost ++ [(key, shd)] ∧ t.act = s.act ∧ t.shd = s.shd
    (s.scrub.queue = (key, shd, ess) :: l →
      (s.refetching = false → s.flag R.SCR_CTRL F.SCR_CTRL_RF_EN = true → Completes (.refetch false) s (fun t =>
        t.refetching = true ∧ t.scrub.fetched = some (key, shd, (s.fetchFrame key shd).1) ∧
        (s.mapState key shd = 0 → (s.fetchFrame key shd).1 = none ∧ t.scrub = { s.scrub with fetched := some (key, shd, none) } ∧
          RegsBut [R.SCR_STAT] s t ∧ Only [.csr, .scrub] s t))) ∧
      (s.refetching = false → s.flag R.SCR_CTRL F.SCR_CTRL_RF_EN = false → Completes (.refetch false) s lost) ∧
      (s.refetching = false → Completes (.refetch true) s (fun t => t.scrub = { s.scrub with queue := l } ∧ Only [.scrub] s t)) ∧
      (∀ b, s.refetching = true → exec (.refetch b) s = .next s) ∧
      (∀ w, s.scrub.fetched = some (key, shd, some w) → Completes .refetchDone s (fun t =>
        t.refetching = false ∧ t.scrub.queue = l ∧ t.scrub.fetched = none ∧
        (t.plane shd).frame key = (if w.all (fun x => x == 0) then Frame.zero else ⟨w, BitVec.ofNat 32 (frameCrc w), []⟩) ∧
        (∀ j, j ≠ key → (t.plane shd).frame j = (s.plane shd).frame j) ∧ t.plane (!shd) = s.plane (!shd) ∧
        (t.reg R.SCR_RF_OK).toNat = min ((s.reg R.SCR_RF_OK).toNat + 1) (2 ^ 32 - 1))) ∧
      (s.scrub.fetched = some (key, shd, none) → Completes .refetchDone s (fun t => lost t ∧ t.refetching = false ∧
        (shd = false → ∀ r : Fin 32, s.frameRegion key = some r.val → t.bit R.SCR_RGN_FLAG r = true) ∧
        (shd = false → s.frameRegion key = none → t.flag R.SCR_FLAG F.SCR_FLAG_STATIC = true) ∧
        (shd = true → ∀ r : Fin 32, s.frameRegion key = some r.val → s.shadow r = 2 ∨ s.shadow r = 3 → t.shadow r = 0)))) ∧
    (∀ w, s.scrub.fetched = some (key, shd, w) → (∀ q ∈ s.scrub.queue.head?, (q.1, q.2.1) ≠ (key, shd)) →
      Completes .refetchDone s (fun t => t.refetching = false ∧ t.scrub = { s.scrub with fetched := none } ∧
        RegsBut [R.SCR_STAT] s t ∧ Only [.csr, .scrub] s t))

/-- R290, R292, R293: a voter disagreement is corrected, counted and logged; an injection by the management core inverts the stored bits that SCR_INJ_CTRL picks of an implemented frame, one or two data or check bits of a code word or bits
of its CRC, in the active plane or in a shadow that holds a load; elsewhere it sets INJ_ERR and inverts nothing. -/
def ScrubInjections : Prop :=
  (∀ s : State, s.quiet 40 → Completes .voterDisagreement s (fun t =>
    (t.reg R.SCR_SELF_CNT).toNat = min ((s.reg R.SCR_SELF_CNT).toNat + 1) (2 ^ 32 - 1) ∧ t.scrub = { s.scrub with voter := false } ∧
    t.err.waiting = s.err.waiting ++ [⟨0, ⟨40, 0, 0x09, 0⟩, 0⟩] ∧ RegsBut [R.SCR_SELF_CNT] s t ∧
    Only [.csr, .ic, .err, .scrub] s t)) ∧
  (∀ (ep : Fin 256) (v : Word) (s : State), s.mayWrite ep R.SCR_INJ_CTRL →
    Completes (.scrInjVoter ep v) s (fun t => t.scrub = { s.scrub with voter := true } ∧ RegsBut [R.SCR_INJ_CTRL] s t ∧
      Only [.csr, .scrub] s t) ∧
    (v.fget F.SCR_INJ_CTRL_VOTER = 0 →
      let far := (s.reg R.SCR_INJ_FAR).toNat % 2 ^ 31
      let key := farKey far
      let shd := v.fget F.SCR_INJ_CTRL_PLANE == 1
      let crc := v.fget F.SCR_INJ_CTRL_TARGET = 1
      let dbl := v.fget F.SCR_INJ_CTRL_DOUBLE = 1
      let place := fun b : Nat => if crc then 2304 + b else 72 * v.fget F.SCR_INJ_CTRL_WORD + b
      let ok := farValid (far + 2 ^ 31) = true ∧ (shd = true → ∃ r, s.frameRegion key = some r ∧ (s.shadow r = 2 ∨ s.shadow r = 3))
      (ok → v.fget F.SCR_INJ_CTRL_BIT0 < (if crc then 32 else 72) → (dbl → v.fget F.SCR_INJ_CTRL_BIT1 < (if crc then 32 else 72)) →
        Completes (.scrInjGo ep v) s (fun t =>
          t.flag R.SCR_INJ_CTRL F.SCR_INJ_CTRL_DONE = true ∧ t.flag R.SCR_INJ_CTRL F.SCR_INJ_CTRL_INJ_ERR = false ∧
          (t.plane shd).frame key = ((s.plane shd).frame key).invert
            (place (v.fget F.SCR_INJ_CTRL_BIT0) :: (if dbl then [place (v.fget F.SCR_INJ_CTRL_BIT1)] else [])) ∧
          (∀ j, j ≠ key → (t.plane shd).frame j = (s.plane shd).frame j) ∧ t.plane (!shd) = s.plane (!shd) ∧
          t.scrub = { s.scrub with inj := some (key, shd) } ∧
          RegsBut [R.SCR_INJ_CTRL] s t ∧ Only [.csr, .act, .shd, .scrub] s t)) ∧
      (¬ ok → Completes (.scrInjGo ep v) s (fun t =>
        t.flag R.SCR_INJ_CTRL F.SCR_INJ_CTRL_INJ_ERR = true ∧ t.flag R.SCR_INJ_CTRL F.SCR_INJ_CTRL_DONE = false ∧
        t.scrub = { s.scrub with inj := none } ∧ RegsBut [R.SCR_INJ_CTRL] s t ∧ Only [.csr, .scrub] s t))))

end Sys2Proof

/-- R269, R276, R277, R278, R279, R281, R282, R283, R285, R286, R290, R291, R292, R293: findings are judged, counted and recorded, maps are checked, frames are refetched and written or not repaired, and injections invert stored bits. -/
def Obligations.FindingsAreJudgedAndRefetched : Prop :=
  FindingsAreJudged ∧ MapsAreChecked ∧ FramesAreRefetched ∧ ScrubInjections

/-! ## Containers and packets (06) -/

namespace Sys2Proof

/-- A load `l` with header `h` runs on path `p`, its next packet is the one given, more blocks are to come, and what follows the packet is no bad packet. -/
def PacketAt (s : State) (p : LoadPath) (l : Load) (h : Header) (op count : Nat) (data : List Word) : Prop :=
  s.halted = false ∧ s.loadOn p = some l ∧ l.path = p ∧ p ≠ .hold ∧ l.hdr = some h ∧ l.kind ≠ 3 ∧ l.ended = false ∧
  s.front l = .packet op count data ∧ l.blk < h.blocks ∧
  s.front { l with buf := l.buf.drop (4 + 4 * data.length) } ≠ .bad

/-- The load without its next packet. -/
def afterPacket (l : Load) (data : List Word) : Load := { l with buf := l.buf.drop (4 + 4 * data.length) }

/-- A staging load on path `p` has failed with a code (R226, R234): it has ended, the shadow that it was staging is INVALID, and LOAD_CODE shows the
code. -/
def StageFailed (s : State) (p : LoadPath) (l : Load) (code : Nat) (t : State) : Prop :=
  t.loadOn p = none ∧ (s.shadow l.region = 1 → t.shadow l.region = 0) ∧
  t.fld (R.CFG_RGN_STAT l.region) F.CFG_RGN_STAT_LOAD_CODE = code ∧ t.act = s.act ∧ t.fuses = s.fuses

end Sys2Proof

/-- R189, R190, R191, R192, R193, R194, R213, R227, R228, R229, R230, R231, R232: each packet of a load has its effect where it is the next one and the stream goes on after it: NOP none, SET_FAR the frame address, the
frame packets write the plane of the load at the current address and move it on, a frame of a staging load that does not read back as its CRC fails it, BM_CONTENTS the words of a block memory, CSR_WRITE (stated for one register) a register of the data
plane or a staging copy, END the end. A SET_FAR, a frame, a BM_CONTENTS or an END that is not allowed fails a staging load with its code. Packets run one command at a time (notes/assumptions/14.md). -/
def Obligations.PacketsExecuteOneByOne : Prop :=
  ∀ (p : LoadPath) (l : Load) (h : Header) (count : Nat) (data : List Word) (up : Option (Nat × List (Fin 2336))) (s : State),
  (PacketAt s p l h 0 count data → Completes (.nop p count data) s (fun t =>
    t.loadOn p = some (afterPacket l data) ∧ Only [.boot] s t)) ∧
  (PacketAt s p l h 1 count data →
    (farValid (data.headD 0).toNat = true → Completes (.setFar p count data) s (fun t =>
      t.loadOn p = some { afterPacket l data with far := some (data.headD 0).toNat } ∧ Only [.boot] s t)) ∧
    (farValid (data.headD 0).toNat = false → l.kind = 2 → l.region < 32 → s.rgnDefined l.region = true →
      Completes (.setFar p count data) s (fun t => StageFailed s p l 0x0F t ∧ t.shd = s.shd))) ∧
  (PacketAt s p l h 2 count data →
    (∀ u m, s.frameWrites l (packetFrames count up (frameAt data)) = (u, m, none) → Completes (.writeFrames p count data up) s (fun t =>
      t.act = u.act ∧ t.shd = u.shd ∧ t.loadOn p = some (afterPacket m data) ∧ Only [.act, .shd, .boot] s t)) ∧
    (∀ far, count = 1 → l.far = some far →
      let f : Frame := (Plane.write s.shd (farKey far) (data.take 64) ((data.drop 64).headD 0)).frame (farKey far)
      (s.frameRefusal l far (data.take 64) ((data.drop 64).headD 0) = none → upsetAt up 0 = [] →
        Completes (.writeFrames p count data up) s (fun t =>
        (l.kind = 1 → t.act = s.act.write (farKey far) (data.take 64) ((data.drop 64).headD 0) ∧ t.shd = s.shd) ∧
        (l.kind ≠ 1 → t.shd = s.shd.write (farKey far) (data.take 64) ((data.drop 64).headD 0) ∧ t.act = s.act) ∧
        (∃ m, t.loadOn p = some m ∧ m.frames = l.frames + 1 ∧
          m.far = if keyFrame (farKey far) = 127 then none else some (far + 64)) ∧ Only [.act, .shd, .boot] s t)) ∧
      (∀ c, s.frameRefusal l far (data.take 64) ((data.drop 64).headD 0) = some c → c < 2 ^ 8 → l.kind = 2 → l.region < 32 →
        s.rgnDefined l.region = true → Completes (.writeFrames p count data up) s (fun t => StageFailed s p l c t ∧ t.shd = s.shd)) ∧
      (s.frameRefusal l far (data.take 64) ((data.drop 64).headD 0) = none → upsetAt up 0 ≠ [] →
        (f.invert (upsetAt up 0)).readsBack = false → l.kind = 2 → l.region < 32 → s.rgnDefined l.region = true →
        Completes (.writeFrames p count data up) s (fun t => StageFailed s p l 0x1A t)))) ∧
  (PacketAt s p l h 3 count data → ∀ u m, s.frameWrites l (packetFrames count up (fun _ => frameAt data 0)) = (u, m, none) →
    Completes (.repeatFrame p count data up) s (fun t => t.act = u.act ∧ t.shd = u.shd ∧
      t.loadOn p = some (afterPacket m data) ∧ Only [.act, .shd, .boot] s t)) ∧
  (PacketAt s p l h 4 count data → ∀ u m, s.frameWrites l (packetFrames count up (fun _ => zeroFrame)) = (u, m, none) →
    Completes (.zeroFrames p count data up) s (fun t => t.act = u.act ∧ t.shd = u.shd ∧
      t.loadOn p = some (afterPacket m data) ∧ Only [.act, .shd, .boot] s t)) ∧
  (PacketAt s p l h 5 count data →
    let a := (data.headD 0).toNat
    let bytes := (data.drop 1).flatMap (fun w => leBytes 4 w.toNat)
    (l.kind = 1 → a / 2 ^ 13 % 2 ^ 18 = 0 → count = (if a.testBit 31 then 2305 else 2049) → Completes (.bmContents p count data) s (fun t =>
      (a.testBit 31 = true → ∀ w < 1024, t.bmWord (a / 256 % 32) (a % 256) w = ⟨BitVec.ofNat 72 (leAt bytes (9 * w) 9), false, []⟩) ∧
      (a.testBit 31 = false → ∀ w < 1024, (t.bmWord (a / 256 % 32) (a % 256) w).raw.setWidth 64 = BitVec.ofNat 64 (leAt bytes (8 * w) 8)) ∧
      t.loadOn p = some { afterPacket l data with written := NSet.add l.written (a / 256 % 32 * 256 + a % 256) } ∧
      t.act = s.act ∧ Only [.fab, .boot] s t)) ∧
    (l.kind = 2 → l.region < 32 → s.rgnDefined l.region = true → Completes (.bmContents p count data) s (fun t =>
      StageFailed s p l 0x11 t ∧ t.fab = s.fab))) ∧
  (∀ lo hi v off, PacketAt s p l h 6 count [lo, hi, v] → csrOff (lo.toNat + 2 ^ 32 * (hi.toNat % 2 ^ 16)) = some off →
    (∀ u, l.kind = 1 → s.tripleFull off v = some u → Completes (.csrWrite p count [lo, hi, v]) s (fun t =>
      t.csr = u.csr ∧ t.stg = u.stg ∧ t.loadOn p = some (afterPacket l [lo, hi, v]))) ∧
    (∀ u, l.kind = 2 → s.triplePart l.region off v = (u, true) → Completes (.csrWrite p count [lo, hi, v]) s (fun t =>
      t.csr = s.csr ∧ t.stg = u.stg ∧ t.loadOn p = some (afterPacket l [lo, hi, v]) ∧ Only [.stg, .boot] s t))) ∧
  (PacketAt s p l h 7 count data →
    ((data.headD 0).toNat = l.frames → (afterPacket l data).buf.all (fun b => b == 0) = true →
      Completes (.endPacket p count data) s (fun t => t.loadOn p = some { afterPacket l data with ended := true } ∧
        Only [.boot] s t)) ∧
    ((data.headD 0).toNat ≠ l.frames → l.kind = 2 → l.region < 32 → s.rgnDefined l.region = true →
      Completes (.endPacket p count data) s (fun t => StageFailed s p l 0x12 t)))

namespace Sys2Proof

/-- R186, R187, R221, R225, R234: the header check of a staging load whose container does not come over the network (that one only adds its fetches): an identity that does not hold fails it and leaves its shadow; with the identity and the structure sound,
the first of the further checks that fails gives the code, and a header that passes puts the shadow into STAGING and keeps the digests. A load on no path is checked by nothing. -/
def ContainerHeaders : Prop :=
  ∀ (p : LoadPath) (l : Load) (hdr tab sig : List Byte) (s : State), s.halted = false → s.loadOn p = some l →
    l.hdr = none → p ≠ .hold → p ≠ .noc → l.kind = 2 → l.region < 32 → s.rgnDefined l.region = true → s.loadBytes l 0 4096 = some hdr →
    let h := parseHeader hdr
    let failed := fun (t : State) (c : Nat) => t.loadOn p = none ∧ t.shadow l.region = s.shadow l.region ∧
      t.fld (R.CFG_RGN_STAT l.region) F.CFG_RGN_STAT_LOAD_CODE = c ∧ t.act = s.act ∧ t.shd = s.shd
    (∀ c, s.identityCheck hdr = some c → Completes (.containerHeaderCheck p) s (fun t => failed t c)) ∧
    (s.identityCheck hdr = none → h.structureOk l.len = false → Completes (.containerHeaderCheck p) s (fun t => failed t 0x13)) ∧
    (s.identityCheck hdr = none → h.structureOk l.len = true → s.tableBytes l h = some tab → s.loadBytes l 0x1000 2420 = some sig →
      s.shadow l.region ≠ 3 → Completes (.containerHeaderCheck p) s (fun t =>
        (∀ c, s.headerChecks h 2 (some l.region) l.dirId hdr tab sig = some c → failed t c) ∧
        (s.headerChecks h 2 (some l.region) l.dirId hdr tab sig = none → t.shadow l.region = 1 ∧ (t.rg l.region).shd = none ∧
          t.fld (R.CFG_RGN_GEN l.region) F.CFG_RGN_GEN_SHD_GEN = 0 ∧
          t.fld (R.CFG_RGN_GEN l.region) F.CFG_RGN_GEN_ACT_GEN = s.fld (R.CFG_RGN_GEN l.region) F.CFG_RGN_GEN_ACT_GEN ∧
          t.loadOn p = some { l with hdr := some { h with
            conDig := (Config.sha3 (hdr ++ tab)).toNat, tabDig := (Config.sha3 (tab.take (32 * h.blocks))).toNat } } ∧
          t.act = s.act ∧ t.shd = s.shd)))

/-- R183, R184, R185, R187, R234: the next block of a container that does not come over the network is opened: its packet bytes join the stream, or it fails a staging load with its code. -/
def ContainerBlocks : Prop :=
  ∀ (p : LoadPath) (l : Load) (h : Header) (stored dig tag : List Byte) (s : State), s.halted = false → s.loadOn p = some l →
    p ≠ .hold → p ≠ .noc → l.hdr = some h → l.blk < h.blocks → s.loadBytes l (h.block l.blk).1 (h.block l.blk).2 = some stored →
    s.loadBytes l (h.digOff + 32 * l.blk) 32 = some dig →
    (if h.encrypted then s.loadBytes l (h.tagOff + 16 * l.blk) 16 else some []) = some tag →
    let opened := fun x : List Byte => { l with buf := l.buf ++ x, blk := l.blk + 1 }
    (l.kind = 3 → Completes (.containerBlockCheck p) s (fun t => ∀ x, s.openBlock h l.blk stored dig tag = .ok x →
      l.buf.length + x.length ≤ 2 ^ 21 → t.loadOn p = some (opened x) ∧ Only [.boot] s t)) ∧
    (l.kind = 2 → l.ended = false → s.front l = .missing → l.region < 32 → s.rgnDefined l.region = true →
      Completes (.containerBlockCheck p) s (fun t =>
        (∀ c, s.openBlock h l.blk stored dig tag = .error c → StageFailed s p l c t) ∧
        (∀ x, s.openBlock h l.blk stored dig tag = .ok x → l.blk + 1 < h.blocks → s.front (opened x) ≠ .bad →
          t.loadOn p = some (opened x) ∧ Only [.boot] s t)))

/-- R518, R520, R556, R574: firmware whose blocks have all passed starts: MBX_VER shows its version and the attestation key is made. -/
def FirmwareStarts : Prop :=
  ∀ (p : LoadPath) (l : Load) (h : Header) (s : State), s.halted = false → s.loadOn p = some l → l.hdr = some h → l.kind = 3 →
    h.blocks ≤ l.blk → Completes (.firmwareVerified p) s (fun t => t.boot.fw = true ∧ t.boot.fwVer = h.ver ∧
      t.boot.fwDig = h.conDig ∧ t.reg R.MBX_VER = 0x0302 ∧
      t.sec.attest = some (Config.kmac (BitVec.ofNat 256 s.fuses.dus) attestData attestCustom) ∧ t.fuses = s.fuses ∧
      t.act = s.act)

/-- R189, R223: a packet or a check on a path that has no load changes nothing, and so does a packet that is not the next of its path. -/
def StrayPacketsChangeNothing : Prop :=
  (∀ (p : LoadPath) (s : State), s.loadOn p = none → exec (.containerHeaderCheck p) s = .next s ∧
    exec (.containerBlockCheck p) s = .next s ∧ exec (.firmwareVerified p) s = .next s) ∧
  (∀ (p : LoadPath) (k : Fin 8) (n : Nat) (d : List Word) (up : Option (Nat × List (Fin 2336))) (s : State), p ≠ .hold →
    (∀ l, s.loadOn p = some l → ∃ o c e, s.front l = .packet o c e ∧ (o, c, e) ≠ (k.val, n, d)) →
    match k with
    | 0 => exec (.nop p n d) s = .next s
    | 1 => exec (.setFar p n d) s = .next s
    | 2 => exec (.writeFrames p n d up) s = .next s
    | 3 => exec (.repeatFrame p n d up) s = .next s
    | 4 => exec (.zeroFrames p n d up) s = .next s
    | 5 => exec (.bmContents p n d) s = .next s
    | 6 => exec (.csrWrite p n d) s = .next s
    | 7 => exec (.endPacket p n d) s = .next s)

/-- R256, R257: END ends a hold-load stream, with code 0 and source 22 (stated for a fetch that leaves no notice behind and with no power-down of a sector wanted). -/
def HoldStreamEnds : Prop :=
  ∀ (l : Load) (x : HoldLoad) (s : State), s.halted = false → s.boot.inReset = false → s.boot.hold = some x → s.loadOn .hold = some l →
    l.kind = 2 → l.ended = false → s.front l = .packet 7 1 [0] → s.loadNotice l 0 8 = s → s.reg R.SYS_PD_REQ = 0 →
    s.reg R.SYS_PD_STAT = 0 → s.reg R.SYS_PD_BUSY = 0 → s.ic.asleep = false → Completes (.endPacket .hold 1 [0]) s (fun t =>
      t.boot.hold = none ∧ t.loadOn .hold = none ∧ t.fld R.CFG_HLD_CTRL F.CFG_HLD_CTRL_CODE = 0 ∧
      t.flag R.CFG_HLD_CTRL F.CFG_HLD_CTRL_BUSY = false ∧ t.ic.pending.has 22 = true ∧ t.act = s.act ∧ t.shd = s.shd)

end Sys2Proof

/-- R183, R184, R185, R186, R187, R189, R221, R225, R234, R256, R257, R518, R520, R556, R574: headers and blocks are checked, firmware starts, a stray packet changes nothing, and END ends a hold-load stream. -/
def Obligations.ContainersAreCheckedAndFirmwareStarts : Prop :=
  ContainerHeaders ∧ ContainerBlocks ∧ FirmwareStarts ∧ StrayPacketsChangeNothing ∧ HoldStreamEnds

/-! ## The mailboxes (16) -/

namespace Sys2Proof

/-- Mailbox `m` stands as given, and every other as before. -/
def MailboxIs (s : State) (m : Nat) (x : Mbx) (t : State) : Prop := t.mb m = x ∧ ∀ k, k ≠ m → t.mb k = s.mb k

/-- Every request that waits in a mailbox is well formed (R539), so that the mailbox itself answers none. -/
def AllFormed (l : List (List Byte)) : Prop := ∀ q ∈ l, msgFormed q = true

/-- R529, R530, R531, R539: the host serial port. A status read gives the status word, then zeros, and clears DROPPED and PEC_ERR; a read gives the head response, which goes once all of it was read; a write is a request where a slot is free and it is not too
long, and is dropped elsewhere; a malformed request at the head of the queue is answered by the mailbox. -/
def HostSerialPort : Prop :=
  (∀ (n : Fin 65536) (s : State), s.portsOn = true →
    Completes (.hspStatus n) s (fun t => t.out = sliceBytes (s.mbStatus 0) 0 n ∧
      t.flag (R.MBX_STAT 0) F.MBX_STAT_DROPPED = false ∧ t.flag (R.MBX_STAT 0) F.MBX_STAT_PEC_ERR = false ∧
      RegsBut [R.MBX_STAT 0] s t ∧ Only [.csr, .out] s t) ∧
    (∀ r l, (s.mb 0).rsps = r :: l → AllFormed (s.mb 0).reqs →
      (r.length ≤ n.val → Completes (.hspRead n) s (fun t => t.out = sliceBytes r 0 n ∧
        MailboxIs s 0 { s.mb 0 with rsps := l, rp := 0 } t ∧ Only [.mbx, .out] s t)) ∧
      (n.val < r.length → Completes (.hspRead n) s (fun t => t.out = r.take n ∧ Only [.out] s t))) ∧
    ((s.mb 0).rsps = [] → Completes (.hspRead n) s (fun t => t.out = List.replicate n 0 ∧ Only [.out] s t))) ∧
  (∀ (bytes : List (BitVec 8)) (s : State), s.portsOn = true →
    ((s.mb 0).reqs.length ≥ 2 ∨ 4096 < bytes.length → Completes (.hspWrite bytes) s (fun t =>
      t.flag (R.MBX_STAT 0) F.MBX_STAT_DROPPED = true ∧ RegsBut [R.MBX_STAT 0] s t ∧ Only [.csr, .ic] s t)) ∧
    ((s.mb 0).reqs.length < 2 → bytes.length ≤ 4096 → AllFormed ((s.mb 0).reqs ++ [bytes]) →
      Completes (.hspWrite bytes) s (fun t => MailboxIs s 0 { s.mb 0 with reqs := (s.mb 0).reqs ++ [bytes] } t ∧
        Only [.mbx] s t)) ∧
    ((s.mb 0).reqs = [] → (s.mb 0).cur = none → (s.mb 0).rsps.length < 2 → bytes.length ≤ 4096 → msgFormed bytes = false →
      Completes (.hspWrite bytes) s (fun t => MailboxIs s 0 { s.mb 0 with
          rsps := (s.mb 0).rsps ++ [mkResponse (msgWhole bytes) (msgMaj bytes) (msgMin bytes) 3 0 []] } t ∧
        t.flag (R.MBX_STAT 0) F.MBX_STAT_MALFORMED = true ∧ RegsBut [R.MBX_STAT 0] s t ∧ Only [.csr, .ic, .mbx] s t))) ∧
  (∀ (n : Fin 65536) (bytes : List (BitVec 8)) (s : State), s.portsOn = false →
    exec (.hspStatus n) s = .next s ∧ exec (.hspRead n) s = .next s ∧ exec (.hspWrite bytes) s = .next s)

/-- R529, R532, R533: the I2C target. A block write joins the request being assembled where a slot is free, it fits, and no PEC came or a good one; SEND, CANCEL, STATUS, REWIND and READ do what their names say, the PEC behind an answer where the host reads it (the
bytes that the PEC covers are the model's choice: notes/assumptions/49.md). A timeout of the clock line changes nothing (notes/assumptions/12.md). -/
def I2cTarget : Prop :=
  (∀ (bytes : List (BitVec 8)) (pec : Option (BitVec 8)) (s : State), s.portsOn = true → bytes ≠ [] → bytes.length ≤ 255 →
    let good := ∀ p, pec = some p → p.toNat = s.pecWrite 0x10 bytes
    ((s.mb 1).reqs.length ≥ 2 → Completes (.i2cAppend bytes pec) s (fun t => MailboxIs s 1 { s.mb 1 with nack := true } t ∧ Only [.mbx] s t)) ∧
    ((s.mb 1).reqs.length < 2 → 4096 < ((s.mb 1).asm.getD []).length + bytes.length → Completes (.i2cAppend bytes pec) s (fun t =>
      MailboxIs s 1 { s.mb 1 with asm := none, nack := true } t ∧ t.flag (R.MBX_STAT 1) F.MBX_STAT_DROPPED = true ∧
      RegsBut [R.MBX_STAT 1] s t ∧ Only [.csr, .ic, .mbx] s t)) ∧
    ((s.mb 1).reqs.length < 2 → ((s.mb 1).asm.getD []).length + bytes.length ≤ 4096 →
      (¬ good → Completes (.i2cAppend bytes pec) s (fun t => t.flag (R.MBX_STAT 1) F.MBX_STAT_PEC_ERR = true ∧
        MailboxIs s 1 { s.mb 1 with nack := false } t ∧ RegsBut [R.MBX_STAT 1] s t ∧ Only [.csr, .ic, .mbx] s t)) ∧
      (good → Completes (.i2cAppend bytes pec) s (fun t =>
        MailboxIs s 1 { s.mb 1 with asm := some ((s.mb 1).asm.getD [] ++ bytes), nack := false } t ∧ Only [.mbx] s t)))) ∧
  (∀ s : State, s.portsOn = true →
    (∀ q, (s.mb 1).asm = some q → (s.mb 1).reqs.length < 2 → q.length ≤ 4096 → AllFormed ((s.mb 1).reqs ++ [q]) →
      Completes .i2cSend s (fun t => MailboxIs s 1 { s.mb 1 with asm := none, reqs := (s.mb 1).reqs ++ [q] } t ∧
        Only [.mbx] s t)) ∧
    ((s.mb 1).asm = none → exec .i2cSend s = .next s) ∧
    Completes .i2cCancel s (fun t => MailboxIs s 1 { s.mb 1 with asm := none } t ∧ Only [.mbx] s t) ∧
    (∀ pec, Completes (.i2cStatus pec) s (fun t => t.out = 4 :: s.mbStatus 1 ++ (if pec then [s.pecRead 0x20 (s.mbStatus 1)] else []) ∧
      t.flag (R.MBX_STAT 1) F.MBX_STAT_DROPPED = false ∧
      t.flag (R.MBX_STAT 1) F.MBX_STAT_PEC_ERR = false ∧ RegsBut [R.MBX_STAT 1] s t ∧ Only [.csr, .out] s t)) ∧
    Completes .i2cRewind s (fun t => MailboxIs s 1 { s.mb 1 with rp := 0 } t ∧ Only [.mbx] s t) ∧
    (∀ (n : Fin 257) r l, (s.mb 1).rsps = r :: l → AllFormed (s.mb 1).reqs →
      let left := min 255 (r.length - (s.mb 1).rp)
      let k := min n.val left
      let got := sliceBytes r (s.mb 1).rp k
      Completes (.i2cRead n) s (fun t => t.out = BitVec.ofNat 8 left :: got ++ (if left < n.val then [s.pecRead 0x21 got] else []) ∧
        MailboxIs s 1 (if r.length ≤ (s.mb 1).rp + k then { s.mb 1 with rsps := l, rp := 0 }
          else { s.mb 1 with rp := (s.mb 1).rp + k }) t ∧ Only [.mbx, .out] s t)) ∧
    (∀ n : Fin 257, (s.mb 1).rsps = [] → Completes (.i2cRead n) s (fun t =>
      t.out = 0 :: (if 0 < n.val then [s.pecRead 0x21 []] else []) ∧ Only [.out] s t))) ∧
  (∀ s : State, exec .i2cSclTimeout s = .next s ∧ (s.portsOn = false → exec .i2cSend s = .next s ∧
    exec .i2cCancel s = .next s ∧ (∀ pec, exec (.i2cStatus pec) s = .next s) ∧ exec .i2cRewind s = .next s ∧
    (∀ n, exec (.i2cRead n) s = .next s) ∧ ∀ bytes pec, exec (.i2cAppend bytes pec) s = .next s))

/-- R534: the JTAG mailbox. What the scan captured goes out first; an append adds a word to the request being assembled, or drops it; a commit makes it a request; a pop takes the next word of the head response, or shows that there is none. -/
def JtagMailbox : Prop :=
  (∀ (v : BitVec 32) (s : State), s.portsOn = true → s.tap.ir = 0x10 →
    ((s.mb 2).reqs.length < 2 → ((s.mb 2).asm.getD []).length + 4 ≤ 4096 → Completes (.jtagMbxAppend v) s (fun t =>
      t.out = s.mbCapture ∧ MailboxIs s 2 { s.mb 2 with asm := some ((s.mb 2).asm.getD [] ++ leBytes 4 v.toNat) } t ∧
      Only [.mbx, .out] s t)) ∧
    ((s.mb 2).reqs.length ≥ 2 ∨ 4096 < ((s.mb 2).asm.getD []).length + 4 → Completes (.jtagMbxAppend v) s (fun t =>
      t.out = s.mbCapture ∧ MailboxIs s 2 { s.mb 2 with asm := none } t ∧
      t.flag (R.MBX_STAT 2) F.MBX_STAT_DROPPED = true ∧ RegsBut [R.MBX_STAT 2] s t ∧ Only [.csr, .ic, .mbx, .out] s t))) ∧
  (∀ s : State, s.portsOn = true → s.tap.ir = 0x10 →
    (∀ q, (s.mb 2).asm = some q → (s.mb 2).reqs.length < 2 → q.length = 16 + msgLen q → q.length ≤ 4096 →
      AllFormed ((s.mb 2).reqs ++ [q]) → Completes .jtagMbxCommit s (fun t => t.out = s.mbCapture ∧
        MailboxIs s 2 { s.mb 2 with asm := none, reqs := (s.mb 2).reqs ++ [q] } t ∧ Only [.mbx, .out] s t)) ∧
    (∀ r l, (s.mb 2).rsps = r :: l → AllFormed (s.mb 2).reqs → Completes .jtagMbxPop s (fun t => t.out = s.mbCapture ∧
      MailboxIs s 2 { s.mb 2 with
        word := BitVec.ofNat 32 (leAt r (s.mb 2).rp 4), valid := true,
        rsps := (if r.length ≤ (s.mb 2).rp + 4 then l else r :: l),
        rp := (if r.length ≤ (s.mb 2).rp + 4 then 0 else (s.mb 2).rp + 4) } t ∧ Only [.mbx, .out] s t)) ∧
    ((s.mb 2).rsps = [] → Completes .jtagMbxPop s (fun t => t.out = s.mbCapture ∧
      MailboxIs s 2 { s.mb 2 with word := 0, valid := false } t ∧
      t.flag (R.MBX_STAT 2) F.MBX_STAT_UNDERRUN = true ∧ RegsBut [R.MBX_STAT 2] s t ∧ Only [.csr, .ic, .mbx, .out] s t))) ∧
  (∀ s : State, s.portsOn = true → s.tap.ir = 0x10 → (s.mb 2).asm = none → Completes .jtagMbxCommit s (fun t => t.out = s.mbCapture ∧ Only [.out] s t)) ∧
  (∀ (v : BitVec 32) (s : State), s.portsOn = false ∨ s.tap.ir ≠ 0x10 → exec (.jtagMbxAppend v) s = .next s ∧
    exec .jtagMbxCommit s = .next s ∧ exec .jtagMbxPop s = .next s)

end Sys2Proof

/-- R529, R530, R531, R532, R533, R534, R539: the host serial port, the I2C target and the JTAG mailbox carry requests into the slots of their mailboxes and responses out of them. -/
def Obligations.PortsCarryMessages : Prop := HostSerialPort ∧ I2cTarget ∧ JtagMailbox

namespace Sys2Proof

/-- R535, R536: the registers of a mailbox, for its owner: SEND commits the assembled request, whose words may be padded with zeros, CANCEL discards it, SKIP drops the head response, WDATA appends a word or drops the request, RDATA pops a word or shows UNDERRUN;
the debug master's read pops nothing. Of any other endpoint they are refused, with OWNER_REJ. -/
def MailboxRegisters : Prop :=
  (∀ (ep : Fin 256) (m : Fin 7) (v : Word) (s : State),
    (s.mayWrite ep (R.MBX_CTRL m) → AllFormed (s.mb m).reqs →
      (v.getLsbD 29 = false → v.getLsbD 30 = false →
        (∀ q, (s.mb m).asm = some q → (s.mb m).reqs.length < 2 → q.length = (16 + msgLen q + 3) / 4 * 4 →
          (q.drop (16 + msgLen q)).all (fun b => b == 0) = true → msgFormed (q.take (16 + msgLen q)) = true →
          Completes (.mbxSend ep m v) s (fun t => MailboxIs s m { s.mb m with
            asm := none, reqs := (s.mb m).reqs ++ [q.take (16 + msgLen q)] } t ∧ Only [.mbx] s t)) ∧
        ((s.mb m).asm = none → exec (.mbxSend ep m v) s = .next s)) ∧
      (v.getLsbD 29 = false → Completes (.mbxCancel ep m v) s (fun t =>
        MailboxIs s m { s.mb m with asm := none } t ∧ Only [.mbx] s t)) ∧
      (v.getLsbD 30 = false → v.getLsbD 31 = false → Completes (.mbxSkip ep m v) s (fun t =>
        MailboxIs s m { s.mb m with rsps := (s.mb m).rsps.drop 1, rp := 0 } t ∧ Only [.mbx] s t))) ∧
    (s.mayWrite ep (R.MBX_WDATA m) →
      ((s.mb m).reqs.length < 2 → ((s.mb m).asm.getD []).length + 4 ≤ 4096 → Completes (.mbxWdata ep m v) s (fun t =>
        MailboxIs s m { s.mb m with asm := some ((s.mb m).asm.getD [] ++ leBytes 4 v.toNat) } t ∧ Only [.mbx] s t)) ∧
      ((s.mb m).reqs.length ≥ 2 ∨ 4096 < ((s.mb m).asm.getD []).length + 4 → Completes (.mbxWdata ep m v) s (fun t =>
        MailboxIs s m { s.mb m with asm := none } t ∧ t.flag (R.MBX_STAT m) F.MBX_STAT_DROPPED = true ∧
        RegsBut [R.MBX_STAT m] s t ∧ Only [.csr, .ic, .mbx] s t))) ∧
    (s.mayRead ep (R.MBX_RDATA m) → ep ≠ 0x6B → AllFormed (s.mb m).reqs →
      (∀ r l, (s.mb m).rsps = r :: l → Completes (.mbxRdata ep m) s (fun t => t.out = leBytes 4 (leAt r (s.mb m).rp 4) ∧
        MailboxIs s m (if r.length ≤ (s.mb m).rp + 4 then { s.mb m with rsps := l, rp := 0 }
          else { s.mb m with rp := (s.mb m).rp + 4 }) t ∧ Only [.mbx, .out] s t)) ∧
      ((s.mb m).rsps = [] → Completes (.mbxRdata ep m) s (fun t => t.out = leBytes 4 0 ∧
        t.flag (R.MBX_STAT m) F.MBX_STAT_UNDERRUN = true ∧ RegsBut [R.MBX_STAT m] s t ∧ Only [.csr, .ic, .out] s t))) ∧
    (s.mayRead 0x6B (R.MBX_RDATA m) → Completes (.mbxRdata 0x6B m) s (fun t =>
      t.out = leBytes 4 ((s.mb m).nextWord.getD 0).toNat ∧ Only [.out] s t)) ∧
    (s.reaches ep (R.MBX_CTRL m) = true → s.mbxOwned ep m = false → Completes (.mbxSend ep m v) s (fun t =>
      t.flag (R.MBX_STAT m) F.MBX_STAT_OWNER_REJ = true ∧ ⟨ep, 0, 2, []⟩ ∈ t.noc.done ∧ RegsBut [R.MBX_STAT m] s t ∧ Only [.csr, .ic, .noc] s t)))

/-- R519, R540, R543, R544, R669: firmware takes the oldest request once the one before it is answered and a response slot is free; a request that fails a
check is answered at once with the code of the first check it fails; the boot ROM takes GET_IDENTITY and GET_BOOT_STATUS alone. -/
def RequestsTaken : Prop :=
  (∀ (m : Fin 7) (q : List Byte) (rest : List (List Byte)) (s : State), (s.mb m).reqs = q :: rest →
    (s.coreRuns = true → (s.mb m).cur = none → (s.mb m).rsps.length < 2 → AllFormed (q :: rest) →
      (s.boot.fw = true → ∀ v, s.checkRequest m q = .ok v → Completes (.mbxRequestTake m) s (fun t =>
        MailboxIs s m { s.mb m with reqs := rest, cur := some q, ver := v, step := 0, got := [] } t ∧ Only [.mbx] s t)) ∧
      (s.boot.fw = true → ∀ code detail v, s.checkRequest m q = .error (code, detail, v) →
        Completes (.mbxRequestTake m) s (fun t => MailboxIs s m { s.mb m with
          reqs := rest, ver := v, step := 0, got := [], rsps := (s.mb m).rsps ++ [mkResponse q (v / 256) (v % 256) code detail []] } t ∧ Only [.mbx, .ic] s t)) ∧
      (s.boot.fw = false → msgCmd q = 0x0100 ∨ msgCmd q = 0x0102 → Completes (.mbxRequestTake m) s (fun t =>
        MailboxIs s m { s.mb m with reqs := rest, cur := some q, ver := 0x100, step := 0, got := [] } t ∧ Only [.mbx] s t)) ∧
      (s.boot.fw = false → msgCmd q ≠ 0x0100 → msgCmd q ≠ 0x0102 → Completes (.mbxRequestTake m) s (fun t =>
        MailboxIs s m { s.mb m with
          reqs := rest, ver := 0x100, step := 0, got := [], rsps := (s.mb m).rsps ++ [mkResponse q 1 0 9 0 []] } t ∧ Only [.mbx, .ic] s t))) ∧
    (s.coreRuns = false ∨ (s.mb m).cur ≠ none ∨ 2 ≤ (s.mb m).rsps.length → exec (.mbxRequestTake m) s = .next s)) ∧
  (∀ (m : Nat) (q : List Byte) (s : State),
    (msgMaj q = 0 ∨ 3 < msgMaj q → s.checkRequest m q = .error (2, 0, 0x302)) ∧
    (∀ v, versionFor (msgMaj q) (msgMin q) = some v → msgSession q ≠ 0 → s.session (msgSession q) = none →
      s.checkRequest m q = .error (4, 0, v)) ∧
    (∀ v, versionFor (msgMaj q) (msgMin q) = some v → msgSession q = 0 → cmdRow (msgCmd q) = none →
      s.checkRequest m q = .error (1, 0, v)) ∧
    (∀ v r, versionFor (msgMaj q) (msgMin q) = some v → msgSession q = 0 → cmdRow (msgCmd q) = some r → r.since ≤ v →
      0 < rankOf r q → s.checkRequest m q = .error (5, 0, v)))

end Sys2Proof

/-- R519, R535, R536, R540, R543, R544, R669: the registers of a mailbox act for its owner, and firmware takes and checks its requests. -/
def Obligations.MailboxesServeTheirOwners : Prop := MailboxRegisters ∧ RequestsTaken

/-! ## Firmware commands (16, 17) -/

namespace Sys2Proof

/-- Firmware runs, and the request in progress at mailbox `m` is `q`, of command `code`; the requests behind it are well formed; no command in progress at another mailbox holds what it needs to begin (R541). -/
def Working (s : State) (m code : Nat) (q : List Byte) : Prop :=
  s.coreRuns = true ∧ (s.mb m).cur = some q ∧ msgCmd q = code ∧ AllFormed (s.mb m).reqs ∧ ((s.mb m).step = 0 → s.fwHeld m q = false)

/-- The request `q` of mailbox `m` has been answered, with a status code, a detail and a payload (R538, R540). -/
def Answered (s : State) (m : Nat) (q : List Byte) (code detail : Nat) (payload : List Byte) (t : State) : Prop :=
  MailboxIs s m { s.mb m with
    cur := none
    rsps := (s.mb m).rsps ++ [mkResponse q ((s.mb m).ver / 256) ((s.mb m).ver % 256) code detail payload] } t

/-- The same, with nothing else changed. -/
def JustAnswered (s : State) (m : Nat) (q : List Byte) (code detail : Nat) (payload : List Byte) (t : State) : Prop :=
  Answered s m q code detail payload t ∧ Only [.mbx, .ic] s t

/-- A failed proof, or none in time, ends session `x`; the failures of its mailbox are counted, and the fourth in a row locks it out (R572). -/
def AuthFailed (s : State) (x : Session) (t : State) : Prop :=
  t.session x.handle = none ∧ (∀ h, h ≠ x.handle → t.session h = s.session h) ∧ t.failsOf x.mbx = s.failsOf x.mbx + 1 ∧
  (s.failsOf x.mbx < 3 → t.fw.locked = s.fw.locked ∧
    (s.quiet (500 + x.mbx) → t.err.waiting = s.err.waiting ++ [⟨0, ⟨500 + x.mbx, 0, 0x17, 0x61 * 2 ^ 24 + x.slot % 256⟩, 0⟩])) ∧
  (3 ≤ s.failsOf x.mbx → t.fw.locked.has x.mbx = true)

end Sys2Proof

/-- R569, R570, R571, R572, R573, R578: sessions open within their limits, are proved or discarded, and close; GET_VERSIONS lists the versions; failures lock a
mailbox out, and time ends a lockout, a pending session and an idle one. Nonces and handles are values of the random source. Time itself is not held: the timeouts are commands (notes/assumptions/12.md). -/
def Obligations.SessionsOpenAndClose : Prop :=
  (∀ (m : Fin 7) (q : List Byte) (s : State),
    (Working s m 0x0001 q → Completes (.getVersions m) s
      (JustAnswered s m q 0 0 [3, 0, 0, 0, 2, 0, 1, 0, 1, 0, 2, 0, 2, 0, 3, 0])) ∧
    (Working s m 0x0002 q →
      let mode := msgWord q 0 % 4
      let slot := msgWord q 0 / 256 % 8
      let priv := msgWord q 0 / 2 ^ 16 % 4
      (s.mayOpen m mode slot priv = false → Completes (.openSession m) s (JustAnswered s m q 5 0 [])) ∧
      (s.mayOpen m mode slot priv = true → 16 ≤ s.fw.sessions.length →
        Completes (.openSession m) s (JustAnswered s m q 6 0 [])) ∧
      (s.mayOpen m mode slot priv = true → s.fw.sessions.length < 16 → Completes (.openSession m) s (fun t =>
        ∃ x : Session, t.fw = { s.fw with sessions := s.fw.sessions ++ [x] } ∧ x.handle ≠ 0 ∧ s.session x.handle = none ∧
          x.mbx = m.val ∧ x.mode = mode ∧ x.slot = slot ∧ x.priv = priv ∧
          x.idle = (if msgWord q 1 = 0 then 300 else msgWord q 1) ∧ x.hostNonce = sliceBytes (msgPayload q) 8 32 ∧
          x.devNonce.length = 32 ∧ x.isOpen = (mode == 2) ∧
          Answered s m q 0 0 (leBytes 4 x.handle ++ (if mode = 2 then [] else x.devNonce)) t ∧
          Only [.mbx, .ic, .fw, .sec] s t))) ∧
    (Working s m 0x0003 q →
      (∀ x, s.session (msgSession q) = some x → x.isOpen = false →
        let good := digBytes (Config.kmac (s.sessionKey x) (s.proofBytes x) hostTag) = sliceBytes (msgPayload q) 0 32
        Completes (.authResponse m) s (fun t =>
          (good → t.session (msgSession q) = some { x with isOpen := true } ∧
            t.failsOf x.mbx = 0 ∧ (∀ h, h ≠ msgSession q → t.session h = s.session h) ∧ t.fw.locked = s.fw.locked ∧
            Answered s m q 0 0 (digBytes (Config.kmac (s.sessionKey x) (s.proofBytes x) devTag) ++ leBytes 4 x.priv) t ∧
            Only [.mbx, .ic, .fw] s t) ∧
          (¬ good → AuthFailed s x t ∧ Answered s m q 5 0 [] t))) ∧
      ((∀ x, s.session (msgSession q) = some x → x.isOpen = true) →
        Completes (.authResponse m) s (JustAnswered s m q 4 0 []))) ∧
    (Working s m 0x0004 q → Completes (.closeSession m) s (fun t => t.session (msgSession q) = none ∧
      (∀ h, h ≠ msgSession q → t.session h = s.session h) ∧ Answered s m q 0 0 [] t ∧ Only [.mbx, .ic, .fw] s t)) ∧
    (Working s m 0x0005 q → Completes (.keepalive m) s (JustAnswered s m q 0 0 []))) ∧
  (∀ (h : BitVec 32) (s : State), s.coreRuns = true → ∀ x, s.session h.toNat = some x →
    (x.isOpen = false → Completes (.sessionAuthTimeout h) s (fun t => AuthFailed s x t ∧ t.mbx = s.mbx)) ∧
    (x.isOpen = true → exec (.sessionAuthTimeout h) s = .next s) ∧
    (x.isOpen = true → Completes (.sessionIdleTimeout h) s (fun t => t.session h.toNat = none ∧
      (∀ k, k ≠ h.toNat → t.session k = s.session k) ∧ Only [.fw] s t)) ∧
    (x.isOpen = false → exec (.sessionIdleTimeout h) s = .next s)) ∧
  (∀ (h : BitVec 32) (s : State), s.coreRuns = false ∨ s.session h.toNat = none →
    exec (.sessionAuthTimeout h) s = .next s ∧ exec (.sessionIdleTimeout h) s = .next s) ∧
  (∀ (m : Fin 7) (s : State), s.coreRuns = true → Completes (.sessionLockoutEnd m) s (fun t => t.fw.locked.has m = false ∧
    (∀ k, k ≠ m.val → t.fw.locked.has k = s.fw.locked.has k) ∧ t.fw.sessions = s.fw.sessions ∧ Only [.fw] s t))

/-- R519, R552, R553, R554, R562, R574, R575, R577, R578: what firmware answers about the device, and how it begins to program fuses, where VCC_FUSE is valid: the life-cycle state moves
one step and only where its condition holds, a slot is programmed once, a key is revoked once, and in DEPLOY the last usable owner key not at all; DEBUG_UNLOCK in DEPLOY gives up the bitstream keys, opens debug, wipes the saggar and closes the other sessions. -/
def Obligations.IdentityKeysAndLifeCycle : Prop :=
  ∀ (m : Fin 7) (q : List Byte) (s : State),
  (Working s m 0x0100 q →
    let head := leBytes 4 s.idcode ++ leBytes 8 s.fuses.bind ++ leBytes 4 s.lc ++
      leBytes 4 (if s.boot.fw then s.boot.fwVer else 0) ++ leBytes 4 (s.reg R.CFG_DESIGN_ID_LO).toNat ++
      leBytes 4 (s.reg R.CFG_DESIGN_ID_HI).toNat ++ leBytes 4 (s.reg R.CFG_DESIGN_VER).toNat
    (s.boot.fw = false ∨ s.sec.attest = none → Completes (.getIdentity m) s (JustAnswered s m q 0 0 head)) ∧
    (∀ k, s.boot.fw = true → s.sec.attest = some k → Completes (.getIdentity m) s
      (JustAnswered s m q 0 0 (head ++ sliceBytes (Config.mldsaPublic k) 0 1312)))) ∧
  (Working s m 0x0101 q →
    (s.sec.attest = none → Completes (.getAttestation m) s (JustAnswered s m q 8 0 [])) ∧
    (∀ k, s.sec.attest = some k → Completes (.getAttestation m) s (fun t => ∃ r : List Byte,
      JustAnswered s m q 0 0 (r ++ sliceBytes (Config.mldsaSign k r) 0 2420) t ∧
      r.length = 144 + 40 * ((List.range 32).filter (fun x => (leAt (msgPayload q) 32 4).testBit x && s.rgnDefined x)).length ∧
      leAt r 6 2 = r.length ∧ sliceBytes r 8 8 = leBytes 8 s.fuses.bind ∧ sliceBytes r 60 32 = sliceBytes (msgPayload q) 0 32))) ∧
  (Working s m 0x0102 q → Completes (.getBootStatus m) s (JustAnswered s m q 0 0
    (leBytes 4 (s.csrPeek R.CFG_BOOT_STAT).toNat ++ leBytes 4 (s.csrPeek R.CFG_BOOT_ERR).toNat ++
      leBytes 4 (s.csrPeek R.CFG_DIR_SEQ).toNat ++ leBytes 4 (s.csrPeek R.CFG_LOAD_TIME).toNat))) ∧
  (Working s m 0x0800 q → Completes (.lcGet m) s (JustAnswered s m q 0 0
    (leBytes 4 (s.csrPeek R.SEC_STAT).toNat ++ leBytes 4 (s.csrPeek R.SEC_KEY_STAT).toNat ++
      leBytes 4 (s.csrPeek R.SEC_SKEY_STAT).toNat ++ leBytes 4 (s.csrPeek R.SEC_TAMPER_POL).toNat ++
      (List.range 32).flatMap (fun i => leBytes 4 (s.csrPeek (R.SEC_OKEY_DIG (i / 8) (i % 8))).toNat)))) ∧
  (Working s m 0x0801 q →
    (s.sec.prog ≠ none → Completes (.lcAdvance m) s (JustAnswered s m q 6 0 [])) ∧
    (s.sec.prog = none → msgWord q 0 ≠ s.lc + 1 ∨ s.mayAdvance = false ∨ s.flag R.SYS_SUPPLY F.SYS_SUPPLY_FUSE = false →
      Completes (.lcAdvance m) s (JustAnswered s m q 8 0 [])) ∧
    (s.sec.prog = none → msgWord q 0 = s.lc + 1 → s.mayAdvance = true → s.flag R.SYS_SUPPLY F.SYS_SUPPLY_FUSE = true →
      Completes (.lcAdvance m) s (fun t => t.sec = { s.sec with prog := some ⟨0, 2 ^ s.lc, 0, none⟩ } ∧ t.fuses = s.fuses ∧
        Answered s m q 0 0 [] t ∧ RegsBut [R.SEC_FUSE_CTRL] s t ∧ Only [.csr, .ic, .mbx, .sec] s t))) ∧
  (Working s m 0x0802 q → (s.mb m).step = 0 →
    let kind := msgWord q 0 % 16
    let slot := msgWord q 0 / 256 % 16
    (s.sec.prog ≠ none → Completes (.keyProgram m) s (JustAnswered s m q 6 0 [])) ∧
    (s.sec.prog = none → s.kindAllowed kind = false ∨ s.keyProgrammed kind slot = true ∨
      s.flag R.SYS_SUPPLY F.SYS_SUPPLY_FUSE = false → Completes (.keyProgram m) s (JustAnswered s m q 8 0 [])) ∧
    (s.sec.prog = none → s.kindAllowed kind = true → s.keyProgrammed kind slot = false → fuseWidth (keyField kind slot) ≠ 0 →
      s.flag R.SYS_SUPPLY F.SYS_SUPPLY_FUSE = true → Completes (.keyProgram m) s (fun t =>
        t.sec = { s.sec with prog := some ⟨keyField kind slot, leAt (msgPayload q) 4 32, msgWord q 0 / 2 ^ 16 % 4, some m.val⟩ } ∧
        (t.mb m).cur = some q ∧ (t.mb m).rsps = (s.mb m).rsps ∧ RegsBut [R.SEC_FUSE_CTRL] s t ∧ Only [.csr, .mbx, .sec] s t))) ∧
  (Working s m 0x0803 q → (s.mb m).step = 0 → s.sec.prog = none → s.flag R.SYS_SUPPLY F.SYS_SUPPLY_FUSE = true →
    let kind := msgWord q 0 % 16
    let slot := msgWord q 0 / 256 % 16
    let begun := fun (t : State) => t.sec = { s.sec with prog := some ⟨0x50 + kind, 2 ^ slot, 0, some m.val⟩ } ∧
      (t.mb m).cur = some q ∧ (t.mb m).rsps = (s.mb m).rsps ∧ RegsBut [R.SEC_FUSE_CTRL] s t ∧ Only [.csr, .mbx, .sec] s t
    (kind = 1 → s.fuses.srev.testBit slot = false → Completes (.keyRevoke m) s begun) ∧
    (kind = 1 → s.fuses.srev.testBit slot = true → Completes (.keyRevoke m) s (JustAnswered s m q 8 0 [])) ∧
    (kind = 2 → s.fuses.vrev.testBit slot = false → Completes (.keyRevoke m) s begun) ∧
    (kind = 0 → s.fuses.orev.testBit slot = false → s.lc ≠ 2 ∨
        (∃ n < 4, n ≠ slot ∧ s.fuses.okeyP.testBit n = true ∧ s.fuses.orev.testBit n = false) →
      Completes (.keyRevoke m) s begun) ∧
    (kind = 0 → s.lc = 2 → s.fuses.okeyP.testBit slot = true →
      (∀ n < 4, n ≠ slot → s.fuses.okeyP.testBit n = true → s.fuses.orev.testBit n = true) →
      Completes (.keyRevoke m) s (JustAnswered s m q 8 0 []))) ∧
  (Working s m 0x0804 q →
    (s.lc ≠ 2 → Completes (.debugUnlock m) s (JustAnswered s m q 0 0 [])) ∧
    (s.lc = 2 → Completes (.debugUnlock m) s (fun t => t.flag R.SEC_STAT F.SEC_STAT_BK_OFF = true ∧
      t.flag R.SEC_STAT F.SEC_STAT_DBG_OPEN = true ∧ t.sec.wiping = true ∧ (∀ h, h ≠ msgSession q → t.session h = none) ∧
      (∀ x, s.session (msgSession q) = some x → ∃ y, t.session (msgSession q) = some y ∧ y.mbx = x.mbx ∧ y.priv = x.priv ∧ y.isOpen = x.isOpen) ∧
      Answered s m q 0 0 [] t ∧ RegsBut [R.SEC_STAT] s t ∧ Only [.csr, .ic, .mbx, .fw, .sec] s t)))

namespace Sys2Proof

/-- R199, R223, R226, R541, R549: loads through a mailbox: LOAD_BEGIN begins a full load or a staging load, or says why not; LOAD_DATA adds bytes in order; LOAD_END gives the result; a load whose bytes do not come fails. -/
def MailboxLoads : Prop :=
  (∀ (m : Fin 7) (q : List Byte) (s : State),
    (Working s m 0x0200 q →
      (msgWord q 0 = 1 → s.phase ≠ 2 ∨ s.mode ≠ 2 → Completes (.loadBegin m) s (JustAnswered s m q 8 0 [])) ∧
      (msgWord q 0 = 2 → s.user = false → Completes (.loadBegin m) s (JustAnswered s m q 8 0 [])) ∧
      ((msgWord q 0 = 1 ∧ s.phase = 2 ∧ s.mode = 2) ∨ (msgWord q 0 = 2 ∧ s.user = true) → s.loadOn .mailbox ≠ none →
        Completes (.loadBegin m) s (JustAnswered s m q 6 0 [])) ∧
      (s.loadOn .mailbox = none →
        (msgWord q 0 = 1 ∧ s.phase = 2 ∧ s.mode = 2) ∨
          (msgWord q 0 = 2 ∧ s.user = true ∧ s.stageRefusal (msgWord q 1) false 0 0 = none) →
        Completes (.loadBegin m) s (fun t => t.fw = { s.fw with loader := some m.val, result := none } ∧
          t.loadOn .mailbox = some { Load.start .mailbox (msgWord q 0) (if msgWord q 0 = 1 then 0 else msgWord q 1) with
            len := some (msgWord q 2) } ∧ (∀ p, p ≠ .mailbox → t.loadOn p = s.loadOn p) ∧ Answered s m q 0 0 [] t ∧
          Only [.mbx, .ic, .boot, .fw] s t)) ∧
      (∀ c, s.loadOn .mailbox = none → msgWord q 0 = 2 → s.user = true →
        s.stageRefusal (msgWord q 1) false 0 0 = some c → Completes (.loadBegin m) s (fun t =>
          t.boot = s.boot ∧ t.fw = s.fw ∧ Answered s m q (0x100 + c) 0xFFFF [] t))) ∧
    (Working s m 0x0201 q →
      let old := (s.mb m).ver < 0x300
      let data := if old then msgPayload q else (msgPayload q).drop 8
      let off := leAt (msgPayload q) 0 8
      (s.fw.loader ≠ some m.val → Completes (.loadData m) s (JustAnswered s m q 8 0 [])) ∧
      (∀ l, s.fw.loader = some m.val → s.loadOn .mailbox = some l →
        (old ∨ off = l.bytes.length →
          (l.bytes.length + data.length ≤ l.len.getD 0 → Completes (.loadData m) s (fun t =>
            t.loadOn .mailbox = some { l with bytes := l.bytes ++ data } ∧ Answered s m q 0 0 [] t ∧ Only [.mbx, .ic, .boot] s t)) ∧
          (l.len.getD 0 < l.bytes.length + data.length → Completes (.loadData m) s (JustAnswered s m q 7 (if old then 0 else 8) []))) ∧
        (¬ old → off < l.bytes.length → Completes (.loadData m) s (JustAnswered s m q 0 0 [])) ∧
        (¬ old → l.bytes.length < off → Completes (.loadData m) s (JustAnswered s m q 7 0 []))) ∧
      (∀ c b, s.fw.loader = some m.val → s.loadOn .mailbox = none → s.fw.result = some (c, b) →
        Completes (.loadData m) s (JustAnswered s m q (if c = 0 then 0 else 0x100 + c) (if c = 0 then 0 else b) []))) ∧
    (Working s m 0x0202 q →
      (s.fw.loader ≠ some m.val → Completes (.loadEnd m) s (JustAnswered s m q 8 0 [])) ∧
      (∀ c b, s.fw.loader = some m.val → s.fw.result = some (c, b) → Completes (.loadEnd m) s (fun t =>
        t.fw = { s.fw with loader := none, result := none } ∧
        Answered s m q (if c = 0 then 0 else 0x100 + c) (if c = 0 then 0 else b) [] t ∧ Only [.mbx, .ic, .fw] s t)) ∧
      (s.fw.loader = some m.val → s.fw.result = none → s.loadOn .mailbox ≠ none → exec (.loadEnd m) s = .next s))) ∧
  (∀ s : State, s.coreRuns = true →
    (∀ l, s.loadOn .mailbox = some l → l.bytes.length < l.len.getD 0 → Completes .loadDataTimeout s (fun t =>
      t.loadOn .mailbox = none ∧ t.fw.result = some (0x12, if l.hdr.isSome then l.blk else 0xFFFF) ∧ t.mbx = s.mbx)) ∧
    (∀ l, s.loadOn .mailbox = some l → l.len.getD 0 ≤ l.bytes.length → exec .loadDataTimeout s = .next s) ∧
    (s.loadOn .mailbox = none → exec .loadDataTimeout s = .next s))

/-- R173, R174, R178, R179, R195, R214, R222, R223, R226, R541, R561: staging from a PARTIAL entry of the directory, readback of frames in their tile and of no encrypted design in DEPLOY, and reads and writes of the boot flash, whose bits a write clears and an erase sets;
DIR_UPDATE writes the directory copy that is not in use, its sequence number one higher. A command that needs what another in progress holds is answered BUSY. -/
def FlashAndReadback : Prop :=
  ∀ (m : Fin 7) (q : List Byte) (s : State),
    (Working s m 0x0210 q → (s.mb m).step = 0 →
      (s.fw.stager ≠ none ∨ s.loadOn .flash ≠ none → Completes (.stageFlash m) s (JustAnswered s m q 6 0 [])) ∧
      (s.fw.stager = none → s.loadOn .flash = none →
        (∀ c, s.stageRefusal (msgWord q 1) false 0 0 = some c → Completes (.stageFlash m) s (fun t =>
          t.boot = s.boot ∧ t.fw = s.fw ∧ Answered s m q (0x100 + c) 0xFFFF [] t)) ∧
        (s.stageRefusal (msgWord q 1) false 0 0 = none → s.boot.flash0.fitted = true → Completes (.stageFlash m) s (fun t =>
          (s.dirBest = [] → t.boot = s.boot ∧ t.fw = s.fw ∧ Answered s m q 0x102 0xFFFF [] t) ∧
          (∀ e, s.dirBest ≠ [] → s.directory[msgWord q 0]? = some e → e.kind = 2 →
            t.fw = { s.fw with stager := some m.val } ∧ (t.mb m).cur = some q ∧
            t.loadOn .flash = some { Load.start .flash 2 (msgWord q 1) with
              dev := e.dev, addr := e.addr, len := some e.len, dirId := some e.id } ∧
            t.act = s.act ∧ t.shd = s.shd ∧ t.rgn = s.rgn))))) ∧
    (Working s m 0x0215 q →
      let far := msgWord q 0
      let keys := (List.range (msgWord q 1)).map (fun i => farKey (far % 2 ^ 31) + i)
      let shd := far / 2 ^ 31 == 1
      ((∃ k ∈ keys, farValid (keyFar k true) = false) → Completes (.frameReadback m) s (JustAnswered s m q 7 4 [])) ∧
      ((∀ k ∈ keys, farValid (keyFar k true) = true) →
        ((s.lc ≠ 2 ∨ ∀ k ∈ keys, ∀ x, s.recOf k shd = some x → x.1.enc = false) →
          Completes (.frameReadback m) s (JustAnswered s m q 0 0
            (keys.flatMap (fun k => (((s.plane shd).frame k).stored).flatMap (fun w => leBytes 4 w.toNat))))) ∧
        (s.lc = 2 → (∃ k ∈ keys, ∃ x, s.recOf k shd = some x ∧ x.1.enc = true) →
          Completes (.frameReadback m) s (JustAnswered s m q 5 0 [])))) ∧
    (Working s m 0x0220 q →
      (s.loadOn .flash ≠ none ∨ s.loadOn .rom ≠ none → Completes (.flashRead m) s (JustAnswered s m q 6 0 [])) ∧
      (s.loadOn .flash = none → s.loadOn .rom = none →
        ((s.flash (msgWord q 0)).fitted = true → Completes (.flashRead m) s (JustAnswered s m q 0 0
          ((List.range (msgWord q 2)).map (fun i => (s.flash (msgWord q 0)).byte (msgWord q 1 + i))))) ∧
        ((s.flash (msgWord q 0)).fitted = false → Completes (.flashRead m) s (JustAnswered s m q 8 0 [])))) ∧
    (Working s m 0x0221 q → s.loadOn .flash = none → s.loadOn .rom = none → msgWord q 0 < 2 →
      ((s.flash (msgWord q 0)).fitted = false → Completes (.flashWrite m) s (JustAnswered s m q 8 0 [])) ∧
      ((s.flash (msgWord q 0)).fitted = true → Completes (.flashWrite m) s (fun t => Answered s m q 0 0 [] t ∧
        Only [.mbx, .ic, .boot] s t ∧
        let old := fun (a : Nat) => if msgWord q 1 / 4096 ≤ a / 4096 ∧ a / 4096 < msgWord q 1 / 4096 + msgWord q 2 then 0xFF
          else (s.flash (msgWord q 0)).byte a
        let data := (msgPayload q).drop 12
        (∀ i, (h : i < data.length) → (t.flash (msgWord q 0)).byte (msgWord q 1 + i) = (old (msgWord q 1 + i) &&& data[i])) ∧
        (∀ a, a < msgWord q 1 ∨ msgWord q 1 + data.length ≤ a → (t.flash (msgWord q 0)).byte a = old a) ∧
        t.flash (1 - msgWord q 0) = s.flash (1 - msgWord q 0)))) ∧
    (Working s m 0x0222 q → s.loadOn .flash = none → s.loadOn .rom = none → s.boot.flash0.fitted = true → Completes (.dirUpdate m) s (fun t =>
      let entries := (msgPayload q).drop 4
      (s.dirBest = [] → Answered s m q 0 0 [] t ∧ Only [.mbx, .ic, .boot] s t ∧
        (∀ i < 4096, (t.flash 0).byte i = (dirBytes 1 (msgWord q 0) entries).getD i 0xFF) ∧ t.boot.flash1 = s.boot.flash1) ∧
      (∀ x l, s.dirBest = x :: l → x.2.1 < 0xFFFFFFFE → (s.flash (x.1 / 2)).fitted = true → x.1 < 4 →
        Answered s m q 0 0 [] t ∧ Only [.mbx, .ic, .boot] s t ∧
        let place := if x.1 % 2 = 0 then 0x10000 else 0
        (∀ i < 4096, (t.flash (x.1 / 2)).byte (place + i) = (dirBytes (x.2.1 + 1) (msgWord q 0) entries).getD i 0xFF) ∧
        (∀ a, a < place ∨ place + 4096 ≤ a → (t.flash (x.1 / 2)).byte a = (s.flash (x.1 / 2)).byte a) ∧
        t.flash (1 - x.1 / 2) = s.flash (1 - x.1 / 2)))) ∧
    (s.coreRuns = true → (s.mb m).cur = some q → AllFormed (s.mb m).reqs → (s.mb m).step = 0 → s.fwHeld m q = true →
      (msgCmd q = 0x0200 → Completes (.loadBegin m) s (JustAnswered s m q 6 0 [])) ∧
      (msgCmd q = 0x0210 → Completes (.stageFlash m) s (JustAnswered s m q 6 0 [])) ∧
      (msgCmd q = 0x0220 → Completes (.flashRead m) s (JustAnswered s m q 6 0 [])) ∧
      (msgCmd q = 0x0221 → Completes (.flashWrite m) s (JustAnswered s m q 6 0 [])) ∧
      (msgCmd q = 0x0222 → Completes (.dirUpdate m) s (JustAnswered s m q 6 0 [])))

end Sys2Proof

/-- R173, R174, R178, R179, R195, R199, R214, R222, R223, R226, R541, R549, R561: loads through a mailbox, staging from flash, readback of frames, and the boot flash. -/
def Obligations.LoadReadbackAndFlashCommands : Prop := MailboxLoads ∧ FlashAndReadback

/-! ## Commands of firmware that are accesses to registers (16, R547, R548) -/

namespace Sys2Proof

/-- Firmware reaches a register at once: its interface is on, and the register's block takes the access. -/
def Near (s : State) (write : Bool) (off : Nat) : Prop :=
  s.niOn 0x68 = true ∧ csrDest off ≠ .none ∧ s.reaches 0x68 off = true ∧ s.csrAccepts 0x68 write off = true

/-- The word that the latest read returned. -/
def lastRead (s : State) : Word := BitVec.ofNat 32 (leNat s.out)

/-- Firmware makes one access for the request of mailbox `m`: the register command of endpoint 0x68; what a read for the response gives is gathered
with the request. -/
def FwOne (m : Nat) (op : FwOp) (s t : State) : Prop :=
  match op with
  | .wr off v => Near s true off ∧ ∃ u, exec (.registerWrite 0x68 off v) s = .next u ∧ t = u.fwStep m []
  | .rmw off clear set_ => Near s false off ∧ ∃ u v, exec (.counterReadClear 0x68 off) s = .next u ∧ Near u true off ∧
      exec (.registerWrite 0x68 off ((lastRead u &&& ~~~ clear) ||| set_)) u = .next v ∧ t = v.fwStep m []
  | .rd off => Near s false off ∧ ∃ u, exec (.counterReadClear 0x68 off) s = .next u ∧ t = u.fwStep m (pay (lastRead u))
  | .idle off mask | .unless_ off mask => Near s false off ∧ ∃ u, exec (.counterReadClear 0x68 off) s = .next u ∧
      lastRead u &&& mask = 0 ∧ t = u.fwStep m []
  | .until_ off mask => Near s false off ∧ ∃ u, exec (.counterReadClear 0x68 off) s = .next u ∧
      lastRead u &&& mask ≠ 0 ∧ t = u.fwStep m []

/-- It makes the accesses of a list, one after another. -/
def FwDoes (m : Nat) : List FwOp → State → State → Prop
  | [], s, t => t = s
  | op :: l, s, t => ∃ u, FwOne m op s u ∧ FwDoes m l u t

/-- Firmware makes the accesses of a list and then answers the request OK with what it read. -/
def DoesAndAnswers (s : State) (m : Nat) (q : List Byte) (ops : List FwOp) (t : State) : Prop :=
  ∃ u, FwDoes m ops s u ∧ JustAnswered u m q 0 0 (u.mb m).got t

/-- The interfaces of the core and of the agents whose registers firmware uses are on: the system agent's, the RLD channels', and
the quads'. -/
def NetOn (s : State) : Prop :=
  ∀ e ∈ [0x68, 0x6C] ++ (List.range 8).map (0x60 + ·) ++ (List.range 36).map (0x70 + ·), s.niOn e = true

/-- Firmware begins a request whose arguments are in range, with the interfaces on. -/
def Begun (s : State) (m code : Nat) (q : List Byte) : Prop :=
  Working s m code q ∧ (s.mb m).step = 0 ∧ (s.mb m).got = [] ∧ NetOn s ∧ badArg (s.mb m).ver q = none

end Sys2Proof

/-- R541, R543, R547: the commands on regions, time, lanes, slots and memory channels are these accesses to the registers of their units; one that needs what a command of
another mailbox in progress holds is answered BUSY. The layouts of payloads, and which parts of the device a command needs for itself, are the model's (notes/assumptions/22.md, 44.md and 49.md). -/
def Obligations.CommandsAreRegisterAccesses : Prop :=
  ∀ (m : Fin 7) (q : List Byte) (s : State),
  let w := msgWord q 0
  (Begun s m 0x0211 q → Completes (.armCommand m) s (DoesAndAnswers s m q
      ([.wr (R.CFG_RGN_GEN w) (argW q 1), .wr (R.CFG_RGN_CTRL w) (argW q 2), .wr (R.CFG_BIND_QUAD_LO w) (argW q 3),
        .wr (R.CFG_BIND_QUAD_HI w) (argW q 4), .wr (R.CFG_BIND_GROUP w) (argW q 5), .wr (R.CFG_BIND_PRB w) (argW q 6)] ++
        (List.range 8).map (fun j => FwOp.wr (R.CFG_BIND_NI w j) (argW q (7 + j))) ++
        [.wr R.CFG_ARM (BitVec.ofNat 32 (2 ^ 31 + w))]))) ∧
  (Begun s m 0x0212 q →
    let fire := ((0 : Word).fput F.CFG_FIRE_GO 1).fput F.CFG_FIRE_USE_MASK ((argW q 0).fget F.CFG_FIRE_USE_MASK) |>.fput
      F.CFG_FIRE_REGION ((argW q 0).fget F.CFG_FIRE_REGION)
    ((argW q 0).fget F.CFG_FIRE_USE_MASK = 1 → Completes (.fireCommand m) s (DoesAndAnswers s m q
      [.wr R.CFG_FIRE_MASK (argW q 1), .wr R.CFG_FIRE fire])) ∧
    ((argW q 0).fget F.CFG_FIRE_USE_MASK = 0 → Completes (.fireCommand m) s (DoesAndAnswers s m q [.wr R.CFG_FIRE fire]))) ∧
  (Begun s m 0x0213 q → (w = 0 → Completes (.holdCommand m) s (DoesAndAnswers s m q [.wr R.CFG_HOLD (argW q 1)])) ∧
    (w = 1 → inShared (holdAddr (s.mb m).ver q) = false → Completes (.holdCommand m) s (JustAnswered s m q 7 8 [])) ∧
    (w = 1 → inShared (holdAddr (s.mb m).ver q) = true →
      (s.boot.hold = none → Completes (.holdCommand m) s (DoesAndAnswers s m q
        [.wr R.CFG_HLD_ADDR_LO (BitVec.ofNat 32 (holdAddr (s.mb m).ver q)),
         .wr R.CFG_HLD_ADDR_HI (BitVec.ofNat 32 (holdAddr (s.mb m).ver q / 2 ^ 32)),
         .wr R.CFG_HLD_CTRL (BitVec.ofNat 32 (2 ^ 31 + msgWord q 1))])) ∧
      (s.boot.hold ≠ none → Completes (.holdCommand m) s (JustAnswered s m q 6 0 [])))) ∧
  (Begun s m 0x0214 q → Completes (.regionStatus m) s (DoesAndAnswers s m q
      [.rd (R.CFG_RGN_DESC w), .rd (R.CFG_RGN_SMASK w), .rd (R.CFG_RGN_CTRL w), .rd (R.CFG_RGN_STAT w),
       .rd (R.CFG_RGN_BADFAR w), .rd (R.CFG_RGN_GEN w), .rd (R.CFG_RGN_COUNT w), .rd (R.SCR_RGN_MAP w)])) ∧
  (Begun s m 0x0230 q → s.fw.stager ≠ some m.val → Completes (.restartConfig m) s (DoesAndAnswers s m q [.wr R.CFG_RESTART 0xC0DE])) ∧
  (Begun s m 0x0400 q → Completes (.timeGet m) s (DoesAndAnswers s m q
      [.rmw (R.TIM_TD_CTRL w) 0 1, .rd (R.TIM_TD_TFRAC w), .rd (R.TIM_TD_TNS w), .rd (R.TIM_TD_TSEC_LO w),
       .rd (R.TIM_TD_TSEC_HI w)])) ∧
  (Begun s m 0x0401 q → Completes (.timeSet m) s (DoesAndAnswers s m q
      [.wr (R.TIM_TD_W0 w) (argW q 2), .wr (R.TIM_TD_W1 w) (argW q 3), .wr (R.TIM_TD_W2 w) (argW q 4),
       .rmw (R.TIM_TD_CTRL w) 0 (argW q 1)])) ∧
  (Begun s m 0x0402 q → Completes (.timeOffset m) s (DoesAndAnswers s m q
      [.wr (R.TIM_TD_OFFS_LO w) (argW q 1), .wr (R.TIM_TD_OFFS_HI w) (argW q 2)])) ∧
  (Begun s m 0x0403 q → Completes (.coneSet m) s (DoesAndAnswers s m q
      [.rmw (R.TIM_CONE_CTRL w) 1 0, .wr (R.TIM_CONE_CTRL w) (argW q 6 &&& ~~~ 1), .wr (R.TIM_CONE_TNS w) (argW q 1),
       .wr (R.TIM_CONE_TSEC_LO w) (argW q 2), .wr (R.TIM_CONE_TSEC_HI w) (argW q 3), .wr (R.TIM_CONE_PER w) (argW q 4),
       .wr (R.TIM_CONE_PERF w) (argW q 5), .wr (R.TIM_CONE_CTRL w) (argW q 6 ||| 1)])) ∧
  (Begun s m 0x0500 q → Completes (.laneStatus m) s (DoesAndAnswers s m q
      ([.rd (R.LQ_STAT w), .rd (R.LN_STAT (4 * w)), .rd (R.PCS_LN_STAT (4 * w)), .rd (R.LN_STAT (4 * w + 1)),
        .rd (R.PCS_LN_STAT (4 * w + 1)), .rd (R.LN_STAT (4 * w + 2)), .rd (R.PCS_LN_STAT (4 * w + 2)),
        .rd (R.LN_STAT (4 * w + 3)), .rd (R.PCS_LN_STAT (4 * w + 3))] ++ (if w < 16 then [.rd (R.PCS_GRP_STAT w)] else [])))) ∧
  (Begun s m 0x0501 q → Completes (.laneApply m) s (DoesAndAnswers s m q
      ((List.range ((msgLen q - 4) / 8)).map (fun i => FwOp.wr (R.LQ_CTRL w + msgWord q (2 * i + 1)) (argW q (2 * i + 2))) ++
        [.rmw (R.LQ_CTRL w) 0 1]))) ∧
  (Begun s m 0x0510 q → Completes (.slotStatus m) s (DoesAndAnswers s m q
      [.rd (R.SKM_ENG_STAT w), .rd (R.SKM_ENG_PEER w), .rd (R.SKM_ENG_RES w)])) ∧
  (Begun s m 0x0511 q → Completes (.slotRestart m) s (DoesAndAnswers s m q [.rmw (R.SKM_ENG_CTRL w) 0 2])) ∧
  (Begun s m 0x0512 q → Completes (.slotRelease m) s (DoesAndAnswers s m q
      [.rmw (R.SKM_ENG_CTRL w) 0 (if msgWord q 1 = 0 then 4 else 8)])) ∧
  (Begun s m 0x0513 q → Completes (.slotConfig m) s (DoesAndAnswers s m q
      [.rmw (R.SKM_ENG_CTRL w) 1 0, .wr (R.SKM_ENG_CFG w) (argW q 1), .wr (R.SKM_ENG_TMR w) (argW q 2),
       .rmw (R.SKM_ENG_CTRL w) 0 (s.reg (R.SKM_ENG_CTRL w) &&& 1)])) ∧
  (Begun s m 0x0600 q → Completes (.memStatus m) s (DoesAndAnswers s m q
      [.rd (R.MC_STAT w), .rd (R.MC_INT_STAT w), .rd (R.MC_LAST_ERR w), .rd (R.MT_STAT w), .rd (R.MT_PR_STAT w),
       .rd (R.MT_INT_STAT w)])) ∧
  (Begun s m 0x0602 q → Completes (.memMap m) s (DoesAndAnswers s m q
      [.wr R.MC_MAP_CTRL (argW q 0 &&& ~~~ 1), .wr R.MC_MAP_CH (argW q 1), .wr R.MC_MAP_CTRL (argW q 0 ||| 1)])) ∧
  (Begun s m 0x0603 q → Completes (.memRetire m) s (DoesAndAnswers s m q [.wr (R.MC_RETIRE w (msgWord q 1)) (argW q 2)])) ∧
  (s.coreRuns = true → (s.mb m).cur = some q → AllFormed (s.mb m).reqs → (s.mb m).step = 0 → s.fwHeld m q = true →
    (msgCmd q = 0x0211 → Completes (.armCommand m) s (JustAnswered s m q 6 0 [])) ∧
    (msgCmd q = 0x0212 → Completes (.fireCommand m) s (JustAnswered s m q 6 0 [])) ∧
    (msgCmd q = 0x0213 → Completes (.holdCommand m) s (JustAnswered s m q 6 0 [])) ∧
    (msgCmd q = 0x0400 → Completes (.timeGet m) s (JustAnswered s m q 6 0 [])) ∧
    (msgCmd q = 0x0401 → Completes (.timeSet m) s (JustAnswered s m q 6 0 [])) ∧
    (msgCmd q = 0x0402 → Completes (.timeOffset m) s (JustAnswered s m q 6 0 [])) ∧
    (msgCmd q = 0x0403 → Completes (.coneSet m) s (JustAnswered s m q 6 0 [])) ∧
    (msgCmd q = 0x0501 → Completes (.laneApply m) s (JustAnswered s m q 6 0 [])) ∧
    (msgCmd q = 0x0502 → Completes (.eyeScan m) s (JustAnswered s m q 6 0 [])) ∧
    (msgCmd q = 0x0511 → Completes (.slotRestart m) s (JustAnswered s m q 6 0 [])) ∧
    (msgCmd q = 0x0512 → Completes (.slotRelease m) s (JustAnswered s m q 6 0 [])) ∧
    (msgCmd q = 0x0513 → Completes (.slotConfig m) s (JustAnswered s m q 6 0 [])) ∧
    (msgCmd q = 0x0601 → Completes (.memTrain m) s (JustAnswered s m q 6 0 [])) ∧
    (msgCmd q = 0x0602 → Completes (.memMap m) s (JustAnswered s m q 6 0 [])) ∧
    (msgCmd q = 0x0603 → Completes (.memRetire m) s (JustAnswered s m q 6 0 [])) ∧
    (msgCmd q = 0x0704 → Completes (.marchRun m) s (JustAnswered s m q 6 0 [])))

namespace Sys2Proof

/-- The bytes of an error record, as LOG_POP returns it (R596, R605). -/
def recordBytes (e : LogEntry) : List Byte := (List.range 4).flatMap (fun w => leBytes 4 (e.word w).toNat)

end Sys2Proof

/-- R541, R542, R547, R548, R605, R606: register access for hosts, the error log, and the commands that wait for what they start. A refused access answers HW_ERROR with its
STATUS and index; SEC registers and the saggar are denied. The layouts of payloads are the model's (notes/assumptions/22.md). -/
def Obligations.RegisterAccessLogAndLongCommands : Prop :=
  (∀ (m : Fin 7) (q : List Byte) (off n : Nat) (s : State),
    let a := regAddr (s.mb m).ver q
    let value := fun (i : Nat) => BitVec.ofNat 32 (leAt (msgPayload q) (a.1 + 4 + 4 * i) 4)
    n = leAt (msgPayload q) a.1 4 → a.2 = csrBase + off →
    (Begun s m 0x0300 q →
      ((∃ i < n, regDenied false (a.2 + 4 * i) = true) → Completes (.regRead m) s (JustAnswered s m q 5 0 [])) ∧
      ((∀ i < n, regDenied false (a.2 + 4 * i) = false) →
        (∀ u, FwDoes m ((List.range n).map (fun i => FwOp.rd (off + 4 * i))) s u → (u.mb m).cur = some q →
          AllFormed (u.mb m).reqs → Completes (.regRead m) s (JustAnswered u m q 0 0 (u.mb m).got)) ∧
        (csrDest off ≠ .none → s.reaches 0x68 off = true → s.csrAccepts 0x68 false off = false → n ≠ 0 →
          Completes (.regRead m) s (JustAnswered (s.csrRefused 0x68 off) m q 0xA 0x200 [])))) ∧
    (Begun s m 0x0301 q →
      ((∃ i < n, regDenied true (a.2 + 4 * i) = true) → Completes (.regWrite m) s (JustAnswered s m q 5 0 [])) ∧
      ((∀ i < n, regDenied true (a.2 + 4 * i) = false) →
        ∀ u, FwDoes m ((List.range n).map (fun i => FwOp.wr (off + 4 * i) (value i))) s u → (u.mb m).cur = some q →
          AllFormed (u.mb m).reqs →
          Completes (.regWrite m) s (JustAnswered u m q 0 0 (u.mb m).got))) ∧
    (Begun s m 0x0302 q → let mask := BitVec.ofNat 32 (leAt (msgPayload q) a.1 4)
      let v := BitVec.ofNat 32 (leAt (msgPayload q) (a.1 + 4) 4)
      (regDenied true a.2 = true → Completes (.regModify m) s (JustAnswered s m q 5 0 [])) ∧
      (regDenied true a.2 = false → ∀ u x, FwOne m (.rd off) s u → Near u true off →
        exec (.registerWrite 0x68 off ((lastRead u &&& ~~~ mask) ||| (v &&& mask))) u = .next x →
        (x.mb m).cur = some q → AllFormed (x.mb m).reqs → (x.mb m).got = pay (lastRead u) →
        Completes (.regModify m) s (JustAnswered x m q 0 0 (pay (lastRead u)))))) ∧
  (∀ (m : Fin 7) (q : List Byte) (p : Nat) (d : BitVec 64) (s : State),
    let a := regAddr (s.mb m).ver q
    let n := leAt (msgPayload q) a.1 4
    let half := fun (w : Nat) => BitVec.ofNat 64 (if p % 8 = 0 then d.toNat / 2 ^ 32 * 2 ^ 32 + w else w * 2 ^ 32 + d.toNat % 2 ^ 32)
    a.2 = padBase + p → p % 4 = 0 → p / 8 < padSaggar → s.niOn 0x6A = true →
    s.padBusy (p / 8) = false → s.padDecode (p / 8) = (d, 0) →
    (Begun s m 0x0300 q → n = 1 → Completes (.regRead m) s (JustAnswered
      (s.fwStep m (leBytes 4 (leAt (bytes64 d) (p % 8) 4))) m q 0 0 (leBytes 4 (leAt (bytes64 d) (p % 8) 4)))) ∧
    (Begun s m 0x0301 q → n = 1 → padShared ≤ p / 8 → Completes (.regWrite m) s (fun t => Answered (s.fwStep m []) m q 0 0 [] t ∧
      t.padWord (p / 8) = padFresh (half (leAt (msgPayload q) (a.1 + 4) 4)) ∧
      (∀ k, k ≠ p / 8 → t.padWord k = s.padWord k) ∧ Only [.mbx, .ic, .pad] s t)) ∧
    (Begun s m 0x0302 q → padShared ≤ p / 8 → let old := leAt (bytes64 d) (p % 8) 4
      Completes (.regModify m) s (fun t => Answered (s.fwStep m (leBytes 4 old)) m q 0 0 (leBytes 4 old) t ∧
        t.padWord (p / 8) = padFresh (half ((BitVec.ofNat 32 old &&& ~~~ BitVec.ofNat 32 n) |||
          (BitVec.ofNat 32 (leAt (msgPayload q) (a.1 + 4) 4) &&& BitVec.ofNat 32 n)).toNat) ∧
        (∀ k, k ≠ p / 8 → t.padWord k = s.padWord k) ∧ Only [.mbx, .ic, .pad] s t))) ∧
  (∀ (m : Fin 7) (q : List Byte) (s : State),
    (Working s m 0x0700 q → NetOn s → Completes (.logPop m) s (fun t => t.err.fifo = s.err.fifo.drop (msgWord q 0 % 256) ∧
      Answered s m q 0 0 ((s.err.fifo.take (msgWord q 0 % 256)).flatMap recordBytes) t ∧ t.err.waiting = s.err.waiting)) ∧
    (Working s m 0x0701 q → NetOn s → Completes (.logCounters m) s (fun t =>
      (t.mb m).cur = none ∧ (t.mb m).rsps.length = (s.mb m).rsps.length + 1 ∧ t.reg R.ERR_DROPS = 0 ∧
      (∀ j < 32, t.reg (R.ERR_LOST j) = 0) ∧
      (msgWord q 0 % 2 = 0 → t.fw.drops = satAdd 32 s.fw.drops (s.reg R.ERR_DROPS).toNat ∧
        (∀ j < 32, Tbl.get (fun _ => 0) t.fw.lost (2 * j) =
            satAdd 16 (Tbl.get (fun _ => 0) s.fw.lost (2 * j)) (s.fld (R.ERR_LOST j) F.ERR_LOST_EVEN) ∧
          Tbl.get (fun _ => 0) t.fw.lost (2 * j + 1) =
            satAdd 16 (Tbl.get (fun _ => 0) s.fw.lost (2 * j + 1)) (s.fld (R.ERR_LOST j) F.ERR_LOST_ODD)) ∧
        ∀ k < 2, t.reg (R.ERR_FIRST_VALID k) = s.reg (R.ERR_FIRST_VALID k)) ∧
      (msgWord q 0 % 2 = 1 → t.fw.drops = 0 ∧ (∀ k, Tbl.get (fun _ => 0) t.fw.lost k = 0) ∧
        t.flag R.ERR_STAT F.ERR_STAT_LOST = false ∧ ∀ k < 2, t.reg (R.ERR_FIRST_VALID k) = 0))) ∧
    (Begun s m 0x0702 q →
      (s.istRunning = true → Completes (.selftestRun m) s (JustAnswered s m q 6 0 [])) ∧
      (s.istRunning = false → Completes (.selftestRun m) s (fun t => ∃ u,
        FwDoes m [.wr R.IST_RUN_FIRST (argW q 1), .wr R.IST_RUN (BitVec.ofNat 32 (2 ^ 31 + msgWord q 0 % 4 * 2 ^ 24 +
          msgWord q 0 / 256 % 256 * 2 ^ 16))] s u ∧
        (u.istRunning = true → t.mbx = u.mbx ∧ t.ist = u.ist ∧ RegsBut [] u t ∧ Only [.csr, .out] u t) ∧
        (u.istRunning = false → DoesAndAnswers u m q [.idle R.IST_RUN 0x40000000, .rd R.IST_RUN_RES] t)))) ∧
    (Begun s m 0x0703 q →
      (msgWord q 0 % 16 = 0 → Completes (.injectCommand m) s (fun t => ∃ u,
        FwDoes m [.wr R.SCR_INJ_FAR (argW q 1), .wr R.SCR_INJ_CTRL (argW q 2 ||| 0x80000000)] s u ∧
        (u.csrPeek R.SCR_INJ_CTRL &&& 0x28000000 = 0 → t.mbx = u.mbx ∧ RegsBut [] u t ∧ Only [.csr, .out] u t) ∧
        (u.csrPeek R.SCR_INJ_CTRL &&& 0x28000000 ≠ 0 →
          DoesAndAnswers u m q [.until_ R.SCR_INJ_CTRL 0x28000000, .rd R.SCR_INJ_CTRL] t))) ∧
      (msgWord q 0 % 16 = 1 → Completes (.injectCommand m) s (fun t =>
        let k := padShared + msgWord q 1
        let b := msgWord q 2 % 128
        let c := msgWord q 2 / 256 % 128
        let one := NSet.put (s.padWord k).flips b (!(s.padWord k).flips.has b)
        t.padWord k = { s.padWord k with flips := if msgWord q 2 / 2 ^ 16 % 2 = 1 then NSet.put one c (!one.has c) else one } ∧
        (∀ j, j ≠ k → t.padWord j = s.padWord j) ∧ Answered s m q 0 0 [] t ∧ Only [.mbx, .ic, .pad] s t))) ∧
    (Working s m 0x0704 q → let w := s.istW
      ((s.mb m).step = 0 → msgWord q 0 % w ≠ 0 → Completes (.marchRun m) s (JustAnswered s m q 7 0 [])) ∧
      ((s.mb m).step = 0 → msgWord q 0 % w = 0 → msgWord q 1 % w ≠ 0 → Completes (.marchRun m) s (JustAnswered s m q 7 4 [])) ∧
      ((s.mb m).step = 0 ∧ msgWord q 0 % w = 0 ∧ msgWord q 1 % w = 0 ∨ 0 < (s.mb m).step → s.marchFree = false →
        exec (.marchRun m) s = .next s) ∧
      ((s.mb m).step = 0 → msgWord q 0 % w = 0 → msgWord q 1 % w = 0 → 0 < msgWord q 1 → s.marchFree = true → Completes (.marchRun m) s (fun t =>
          t.pad = { s.pad with march := some ⟨padShared + msgWord q 0, w, msgWord q 2 == 0⟩ } ∧ (t.mb m).cur = some q ∧
          (t.mb m).step = 1 ∧ Only [.mbx, .pad] s t)) ∧
      (0 < (s.mb m).step → s.marchFree = true → msgWord q 1 ≤ w * (s.mb m).step →
        Completes (.marchRun m) s (JustAnswered s m q 0 0 [])))) ∧
  (∀ (m : Fin 7) (q : List Byte) (n : Nat) (s : State), n = msgWord q 0 →
    (Begun s m 0x0502 q → msgLen q = 8 → Completes (.eyeScan m) s (fun t => ∃ u,
      FwDoes m [.wr (R.LN_ES_CTRL n) (argW q 1 ||| 0x80000000)] s u ∧
      (u.flag (R.LN_ES_CTRL n) F.LN_ES_CTRL_ES_REJ = true → Answered u m q 8 0 [] t) ∧
      (u.flag (R.LN_ES_CTRL n) F.LN_ES_CTRL_ES_REJ = false → u.flag (R.LN_ES_CTRL n) F.LN_ES_CTRL_BUSY = true →
        (t.mb m).cur = some q ∧ (t.mb m).step = 2 ∧ RegsBut [] u t))) ∧
    (Working s m 0x0502 q → msgLen q = 8 → (s.mb m).step = 2 → (s.mb m).got = [] → NetOn s → n < 144 →
      s.flag (R.LN_ES_CTRL n) F.LN_ES_CTRL_BUSY = false → Completes (.eyeScan m) s (DoesAndAnswers s m q
        [.idle (R.LN_ES_CTRL n) 0x40000000, .rd (R.LN_ES_ERR n), .rd (R.LN_ES_SMP_LO n), .rd (R.LN_ES_SMP_HI n)]))) ∧
  (∀ (m : Fin 7) (q : List Byte) (s : State), s.niOn 0x68 = false ∨ s.niOn 0x6C = false →
    (Working s m 0x0700 q → Completes (.logPop m) s (JustAnswered s m q 0xA 0x700 [])) ∧
    (Working s m 0x0701 q → Completes (.logCounters m) s (JustAnswered s m q 0xA 0x700 []))) ∧
  (∀ (m : Fin 7) (q : List Byte) (c : Fin 8) (s : State), Working s m 0x0601 q → msgWord q 0 = c.val → NetOn s →
    ((s.mb m).step = 0 → Completes (.memTrain m) s (fun t =>
      ∃ u, exec (.registerWrite 0x68 (R.CLK_MCPLL c) 0x80000020) s = .next u ∧ t = u.fwGoto m 1)) ∧
    ((s.mb m).step = 40 → s.mtIdle c = true → s.mcState c = 1 → s.prOn c = false →
      (∀ k < 72, (s.csrPeek (R.MT_WIN c k)).fget F.MT_WIN_NONE = 0 ∧
        (s.csrPeek (R.MT_WIN c k)).fget F.MT_WIN_LEFT + 24 ≤ (s.csrPeek (R.MT_WIN c k)).fget F.MT_WIN_RIGHT) →
      Completes (.memTrain m) s (fun t => t.mcState c = 2 ∧ (t.mb m).cur = none ∧ OtherChannels s c t ∧
        ∀ k < 72, t.fld (R.MT_ACT_DQ c k) F.MT_ACT_DQ_WDLY = ((s.csrPeek (R.MT_WIN c k)).fget F.MT_WIN_LEFT +
          (s.csrPeek (R.MT_WIN c k)).fget F.MT_WIN_RIGHT) / 2)) ∧
    ((s.mb m).step = 40 → s.mtIdle c = true → s.mcState c = 1 →
      (∃ k < 72, (s.csrPeek (R.MT_WIN c k)).fget F.MT_WIN_NONE = 1) →
      Completes (.memTrain m) s (fun t => t.mcState c = 9 ∧ (t.mb m).cur = none)))

/-! ## Interrupts and the error log (18) -/

namespace Sys2Proof

/-- R583, R593, R595: source `n` becomes pending, or waits in its latch while the controller's clock is stopped or the core is halted. -/
def RaisedIn (s : State) (n : Nat) (t : State) : Prop :=
  if s.ic.asleep = true ∨ s.halted = true then
    t.ic.pending = s.ic.pending ∧ t.ic.latch.has n = true ∧ ∀ k, k ≠ n → t.ic.latch.has k = s.ic.latch.has k
  else t.ic.latch = s.ic.latch ∧ t.ic.pending.has n = true ∧ ∀ k, k ≠ n → t.ic.pending.has k = s.ic.pending.has k

/-- R579, R580, R581, R582, R583: a pulse source is raised by its event, a level source while its level is high and it is not in service; a user line takes its input. Reserved
sources never become pending. -/
def SourcesAreRaised : Prop :=
  ∀ (n : Fin 1024) (level : Bool) (s : State),
  (s.boot.inReset = true → exec (.interruptSourceRaise n level) s = .next s) ∧
  (s.boot.inReset = false → n.val < 512 →
    (pulseSource n = true → Completes (.interruptSourceRaise n level) s (fun t => RaisedIn s n t ∧ Only [.ic] s t)) ∧
    (pulseSource n = false → s.levelOf n = true → s.inService n = false → reservedSource n = false →
      Completes (.interruptSourceRaise n level) s (fun t => RaisedIn s n t ∧ Only [.ic] s t)) ∧
    (pulseSource n = false → s.levelOf n = false ∨ s.inService n = true ∨ reservedSource n = true →
      exec (.interruptSourceRaise n level) s = .next s)) ∧
  (s.boot.inReset = false → 512 ≤ n.val →
    (level = false → Completes (.interruptSourceRaise n level) s (fun t => t.ic.userHigh.has n = false ∧
      t.ic.pending = s.ic.pending ∧ t.ic.latch = s.ic.latch ∧ Only [.ic] s t)) ∧
    (level = true → s.heldIn (s.lineRegion (n - 512)) = false → s.bit R.SYS_PD_STAT ((n - 512) / 16) = false →
      4 ≤ s.fld R.CFG_BOOT_STAT F.CFG_BOOT_STAT_STEP →
      (s.flag (R.IC_SRC n) F.IC_SRC_TYPE = true → s.ic.userHigh.has n = false →
        Completes (.interruptSourceRaise n level) s (fun t => t.ic.userHigh.has n = true ∧ RaisedIn s n t ∧ Only [.ic] s t)) ∧
      (s.flag (R.IC_SRC n) F.IC_SRC_TYPE = true → s.ic.userHigh.has n = true →
        Completes (.interruptSourceRaise n level) s (fun t => t.ic.pending = s.ic.pending ∧ t.ic.latch = s.ic.latch ∧
          Only [.ic] s t)) ∧
      (s.flag (R.IC_SRC n) F.IC_SRC_TYPE = false → s.inService n = false →
        Completes (.interruptSourceRaise n level) s (fun t => t.ic.userHigh.has n = true ∧ RaisedIn s n t ∧ Only [.ic] s t))))

/-- R584, R586, R588, R591, R592: a claim takes the lowest-numbered presentable source of its target; a completion ends the service, and a level still high is pending again. -/
def ClaimsAndCompletions : Prop :=
  (∀ (ep : Fin 256) (k : Fin 8) (s : State), s.mayRead ep (R.IC_TGT_CLAIM k) → s.halted = false → s.ic.asleep = false →
    (ep ≠ 0x6B → s.ic.pending.Pairwise (· < ·) → ∀ n < 1024, s.presentable k n = true → (∀ j < n, s.presentable k j = false) →
      Completes (.icTgtClaimRead ep k) s (fun t =>
        t.out = leBytes 4 (2 ^ 31 + (if s.claimLevel n then 2 ^ 30 else 0) + n) ∧ t.service k = some n ∧
        (∀ j, j ≠ k.val → t.service j = s.service j) ∧ t.ic.pending.has n = false ∧
        (∀ j, j ≠ n → t.ic.pending.has j = s.ic.pending.has j) ∧ t.ic.atClaim.has n = s.claimLevel n ∧ RegsBut [] s t ∧
        Only [.ic, .out] s t)) ∧
    (ep ≠ 0x6B → (∀ n ∈ s.ic.pending, s.presentable k n = false) →
      Completes (.icTgtClaimRead ep k) s (fun t => t.out = [0, 0, 0, 0] ∧ Only [.out] s t)) ∧
    (ep = 0x6B → Completes (.icTgtClaimRead ep k) s (fun t => Only [.out] s t))) ∧
  (∀ (ep : Fin 256) (k : Fin 8) (s : State), s.mayRead ep (R.IC_TGT_CLAIM k) → s.halted = true → ep ≠ 0x6B →
    Completes (.icTgtClaimRead ep k) s (fun t =>
      t.ic = { s.ic with held := s.ic.held ++ [⟨ep, false, R.IC_TGT_CLAIM k, 0⟩] } ∧ Only [.ic] s t)) ∧
  (∀ (ep : Fin 256) (k : Fin 8) (v : Word) (s : State), s.mayWrite ep (R.IC_TGT_COMPLETE k) → s.halted = false →
    s.ic.asleep = false → let n := v.fget F.IC_TGT_COMPLETE_SOURCE
    (s.service k = some n → (∀ p ∈ s.ic.svc, p.1 ≠ k.val → p.2 ≠ some n) → Completes (.icTgtComplete ep k v) s (fun t =>
      t.service k = none ∧ (∀ j, j ≠ k.val → t.service j = s.service j) ∧
      t.ic.pending.has n = (s.ic.pending.has n || s.levelOf n && !reservedSource n) ∧
      (∀ j, j ≠ n → t.ic.pending.has j = s.ic.pending.has j) ∧
      (t.ic.holdoff.has (n / 16) = (s.ic.holdoff.has (n / 16) || 16 ≤ n && s.fld (R.IC_HOLDOFF (n / 16)) F.IC_HOLDOFF_TIME != 0)) ∧
      Only [.ic] s t)) ∧
    (s.service k ≠ some n → Completes (.icTgtComplete ep k v) s (fun t =>
      t.flag (R.IC_TGT_STAT k) F.IC_TGT_STAT_BAD_COMPLETE = true ∧ t.ic = s.ic ∧ RegsBut [R.IC_TGT_STAT k] s t ∧
      Only [.csr] s t))) ∧
  (∀ (ep : Fin 256) (k : Fin 8) (v : Word) (s : State), s.ownsTarget ep k = false →
    (s.reaches ep (R.IC_TGT_COMPLETE k) = true → Completes (.icTgtComplete ep k v) s (fun t =>
      t.noc.done.head? = some ⟨ep, 0, 2, []⟩ ∧ Only [.noc] s t)) ∧
    (s.reaches ep (R.IC_TGT_CLAIM k) = true → ep ≠ 0x6B → Completes (.icTgtClaimRead ep k) s (fun t =>
      t.noc.done.head? = some ⟨ep, 0, 2, []⟩ ∧ Only [.noc] s t)))

/-- R583, R588, R592, R593, R594: SW_PEND and DISCARD; hold-off ends; the clock stops when nothing is left to do and starts again with what the latches hold. -/
def PendingHoldoffAndSleep : Prop :=
  (∀ (n : Fin 1024) (v : Word) (s : State), s.mayWrite 0x68 (R.IC_SRC n) → s.ic.asleep = false → reservedSource n = false →
    (v.fget F.IC_SRC_DISCARD = 0 → Completes (.swPend 0x68 n v) s (fun t => t.ic.pending.has n = true ∧
      t.ic.swPend.has n = true ∧ t.fld (R.IC_SRC n) F.IC_SRC_EN = v.fget F.IC_SRC_EN ∧
      t.fld (R.IC_SRC n) F.IC_SRC_TARGET = v.fget F.IC_SRC_TARGET ∧
      (∀ j, j ≠ n.val → t.ic.pending.has j = s.ic.pending.has j) ∧ RegsBut [R.IC_SRC n] s t ∧ Only [.csr, .ic] s t)) ∧
    (v.fget F.IC_SRC_SW_PEND = 0 →
      (s.inService n = false → Completes (.discard 0x68 n v) s (fun t => t.ic.pending.has n = t.levelOf n ∧
        t.ic.swPend.has n = false ∧ (∀ j, j ≠ n.val → t.ic.pending.has j = s.ic.pending.has j) ∧
        t.fld (R.IC_SRC n) F.IC_SRC_EN = v.fget F.IC_SRC_EN ∧ RegsBut [R.IC_SRC n] s t ∧ Only [.csr, .ic] s t)) ∧
      (s.inService n = true → Completes (.discard 0x68 n v) s (fun t => t.ic = s.ic ∧ RegsBut [R.IC_SRC n] s t ∧
        Only [.csr] s t)))) ∧
  (∀ (n : Fin 1024) (v : Word) (s : State), s.mayWrite 0x68 (R.IC_SRC n) → s.ic.asleep = false → reservedSource n = true →
    Completes (.swPend 0x68 n v) s (fun t => t.ic = s.ic ∧ RegsBut [R.IC_SRC n] s t ∧ Only [.csr] s t) ∧
    Completes (.discard 0x68 n v) s (fun t => t.ic = s.ic ∧ RegsBut [R.IC_SRC n] s t ∧ Only [.csr] s t)) ∧
  (∀ (g : Fin 64) (s : State),
    (s.halted = false → Completes (.holdoffExpiry g) s (fun t => t.ic.holdoff.has g = false ∧
      (∀ k, k ≠ g.val → t.ic.holdoff.has k = s.ic.holdoff.has k) ∧ t.ic.pending = s.ic.pending ∧ Only [.ic] s t)) ∧
    (s.halted = true → exec (.holdoffExpiry g) s = .next s)) ∧
  (∀ s : State,
    let idle := s.ic.pending = [] ∧ (∀ p ∈ s.ic.svc, p.2 = none) ∧ s.ic.holdoff = [] ∧ s.err.waiting = [] ∧ s.ic.latch = []
    (s.flag R.IC_CTRL F.IC_CTRL_SLEEP_EN = true → s.halted = false → idle →
      Completes .icSleep s (fun t => t.ic = { s.ic with asleep := true } ∧ Only [.ic] s t)) ∧
    (s.flag R.IC_CTRL F.IC_CTRL_SLEEP_EN = false ∨ s.halted = true ∨ ¬ idle → exec .icSleep s = .next s) ∧
    (s.halted = false → s.ic.asleep = true → Completes .icWake s (fun t => t.ic.asleep = false ∧ t.ic.latch = [] ∧
      (∀ n, t.ic.pending.has n = (s.ic.pending.has n || s.ic.latch.has n && (s.isPulse n || !s.inService n))) ∧
      t.ic.svc = s.ic.svc ∧ Only [.ic] s t)) ∧
    (s.halted = true ∨ s.ic.asleep = false → exec .icWake s = .next s))

end Sys2Proof

/-- R579, R580, R581, R582, R583, R584, R586, R588, R591, R592, R593, R594: the interrupt controller. -/
def Obligations.InterruptsArePendingClaimedAndCompleted : Prop :=
  SourcesAreRaised ∧ ClaimsAndCompletions ∧ PendingHoldoffAndSleep

/-- R598, R599, R600, R602, R603: the collector takes the waiting report of the lowest source: an entry equal to one in the FIFO adds to its REPEAT, another is appended with
its time, or dropped where the FIFO is full or keeps its last entries for FE; an FE report sets ERR_STAT.FE. R604: a read of ERR_POP0 takes the oldest entry. -/
def Obligations.ReportsEnterAndLeaveTheLog : Prop :=
  (∀ (pre post : List Waiting) (w : Waiting) (s : State), s.err.waiting = pre ++ w :: post → s.halted = false →
    s.boot.inReset = false → s.ic.asleep = false → (∀ x ∈ pre, w.rpt.src < x.rpt.src) → (∀ x ∈ post, w.rpt.src ≤ x.rpt.src) →
    let room := s.err.fifo.length < 60 ∨ (w.rpt.sev = 3 ∧ s.err.fifo.length < 64)
    let count := fun (t : State) => t.err.waiting = pre ++ post ∧
      (t.reg R.ERR_COUNT).toNat = min ((s.reg R.ERR_COUNT).toNat + 1) (2 ^ 32 - 1) ∧
      (w.rpt.sev = 3 → t.flag R.ERR_STAT F.ERR_STAT_FE = true ∧ (s.inService 0 = false → t.ic.pending.has 0 = true)) ∧
      Only [.csr, .ic, .err] s t
    ((∀ e ∈ s.err.fifo, e.rpt ≠ w.rpt) → room → Completes .errorReportAccept s (fun t => count t ∧
      t.err.fifo = s.err.fifo ++ [⟨s.td0, w.rpt, w.rep⟩])) ∧
    ((∀ e ∈ s.err.fifo, e.rpt ≠ w.rpt) → ¬ room → Completes .errorReportAccept s (fun t => count t ∧
      t.err.fifo = s.err.fifo ∧ t.flag R.ERR_STAT F.ERR_STAT_LOST = true ∧
      (t.reg R.ERR_DROPS).toNat = min ((s.reg R.ERR_DROPS).toNat + 1) (2 ^ 32 - 1))) ∧
    (∀ l e r, s.err.fifo = l ++ e :: r → e.rpt = w.rpt → (∀ x ∈ l ++ r, x.rpt ≠ w.rpt) →
      Completes .errorReportAccept s (fun t => count t ∧
        t.err.fifo = l ++ { e with rep := min (e.rep + (w.rep + 1)) 255 } :: r))) ∧
  (∀ s : State, s.halted = true ∨ s.boot.inReset = true ∨ s.err.waiting = [] → exec .errorReportAccept s = .next s) ∧
  (∀ (ep : Fin 256) (s : State), s.mayRead ep R.ERR_POP0 → s.halted = false → s.ic.asleep = false →
    (∀ e l, ep ≠ 0x6B → s.err.fifo = e :: l → Completes (.errPop0Read ep) s (fun t =>
      t.out = leBytes 4 e.time ∧ t.reg R.ERR_POP1 = BitVec.ofNat 32 (e.time / 2 ^ 32) ∧
      t.reg R.ERR_POP2 = BitVec.ofNat 32 (e.rpt.src % 2 ^ 16 + 2 ^ 16 * (64 * e.rpt.sev + e.rpt.cls) + 2 ^ 24 * e.rep) ∧
      t.reg R.ERR_POP3 = BitVec.ofNat 32 e.rpt.info ∧ t.err = { s.err with fifo := l } ∧
      RegsBut [R.ERR_POP1, R.ERR_POP2, R.ERR_POP3] s t ∧ Only [.csr, .err, .out] s t)) ∧
    (ep ≠ 0x6B → s.err.fifo = [] → Completes (.errPop0Read ep) s (fun t => t.out = [0xFF, 0xFF, 0xFF, 0xFF] ∧
      t.reg R.ERR_POP1 = 0xFFFFFFFF ∧ t.reg R.ERR_POP2 = 0xFFFFFFFF ∧ t.reg R.ERR_POP3 = 0xFFFFFFFF ∧ t.err = s.err)) ∧
    (ep = 0x6B → Completes (.errPop0Read ep) s (fun t => Only [.out] s t)))

/-! ## Security, self-test, scratchpad and sector power (16, 17, 19, 20) -/

namespace Sys2Proof

/-- R564, R565, R566, R567, R568, R577, R629: a wipe runs to its end and counts; a tamper trip ends a halt, starts a wipe, closes every session, answers every command in progress with BAD_STATE, and takes its policy's
action; SEC_DBG opens debug for good. -/
def WipesAndTamper : Prop :=
  (∀ (ep : Fin 256) (v : Word) (s : State), s.mayWrite ep R.SEC_WIPE →
    (s.sec.wiping = false → Completes (.secWipeStart ep v) s (fun t =>
      t.sec = { s.sec with wiping := true, attest := none, engine := [] } ∧
      t.fw = { s.fw with sessions := s.fw.sessions.map (fun x => { x with hostNonce := [], devNonce := [] }) } ∧
      RegsBut [R.SEC_WIPE] s t ∧ Only [.csr, .sec, .fw] s t)) ∧
    (s.sec.wiping = true → Completes (.secWipeStart ep v) s (fun t =>
      t.sec = { s.sec with merged := s.sec.merged + 1 } ∧ RegsBut [R.SEC_WIPE] s t ∧ Only [.csr, .sec] s t))) ∧
  (∀ s : State,
    (s.sec.wiping = true → Completes .wipeDone s (fun t => t.sec = { s.sec with wiping := false, merged := 0 } ∧
      (∀ w, padSaggar ≤ w → t.padWord w = padZero) ∧ (∀ w, w < padSaggar → t.padWord w = s.padWord w) ∧
      t.fld R.SEC_WIPE F.SEC_WIPE_COUNT = (s.fld R.SEC_WIPE F.SEC_WIPE_COUNT + (1 + s.sec.merged)) % 2 ^ 16 ∧
      RegsBut [R.SEC_WIPE] s t ∧ Only [.csr, .sec, .pad] s t)) ∧
    (s.sec.wiping = false → exec .wipeDone s = .next s)) ∧
  (∀ (i : Fin 6) (level : BitVec 6) (s : State),
    (s.boot.inReset = false → Completes (.tamperTrip i level) s (fun t =>
      t.bit R.SEC_TAMPER_STAT i = true ∧ t.fld R.SEC_TAMPER_STAT F.SEC_TAMPER_STAT_LEVEL = level.toNat ∧
      t.halted = false ∧ t.sec.wiping = true ∧ t.fw.sessions = [] ∧
      (∀ (m : Fin 7) q, (s.mb m).cur = some q → AllFormed (s.mb m).reqs →
        t.mb m = { s.mb m with
          cur := none, rsps := (s.mb m).rsps ++ [mkResponse q ((s.mb m).ver / 256) ((s.mb m).ver % 256) 8 0 []] }) ∧
      (s.halted = false → s.quiet 1 → (⟨0, ⟨1, if s.tamperAction i = 3 then 3 else 2, 0x0B, s.tamperAction i * 2 ^ 8 + i⟩, 0⟩ :
        Waiting) ∈ t.err.waiting) ∧
      (s.tamperAction i = 3 → t.boot.wipeHold = true) ∧
      (s.tamperAction i ≠ 0 → s.phase ≠ 1 ∨ s.boot.fw = true → Restarted s t) ∧
      (s.tamperAction i = 0 → s.halted = false → t.phase = s.phase ∧ t.act = s.act ∧ t.shd = s.shd ∧ t.boot = s.boot) ∧
      t.fuses = s.fuses)) ∧
    (s.boot.inReset = true → exec (.tamperTrip i level) s = .next s)) ∧
  (∀ (ep : Fin 256) (v : Word) (s : State), s.mayWrite ep R.SEC_DBG → Completes (.secDbgOpen ep v) s (fun t =>
    t.flag R.SEC_STAT F.SEC_STAT_BK_OFF = true ∧ t.flag R.SEC_STAT F.SEC_STAT_DBG_OPEN = true ∧ t.dbgOpen = true ∧
    RegsBut [R.SEC_STAT, R.SEC_DBG] s t ∧ Only [.csr] s t))

/-- R550, R554, R562, R563, R642: a GO write begins to program a field while none is in progress and VCC_FUSE is valid; programming blows the bits of the field, or fails: a
failed field is never used. The ceiling that a GO write gives a session-key slot is free (notes/assumptions/2.md). -/
def FuseProgramming : Prop :=
  (∀ (ep : Fin 256) (v : Word) (s : State), s.mayWrite ep R.SEC_FUSE_CTRL →
    (s.sec.prog = none → s.flag R.SYS_SUPPLY F.SYS_SUPPLY_FUSE = true → fuseWidth (v.fget F.SEC_FUSE_CTRL_FIELD) ≠ 0 →
      Completes (.secFuseGo ep v) s (fun t => t.fuses = s.fuses ∧ t.flag R.SEC_FUSE_CTRL F.SEC_FUSE_CTRL_FAIL = false ∧
        (∃ c, c < 4 ∧ t.sec.prog = some ⟨v.fget F.SEC_FUSE_CTRL_FIELD, s.fuseData, c, none⟩) ∧
        RegsBut [R.SEC_FUSE_CTRL] s t ∧ Only [.csr, .sec, .draws] s t)) ∧
    (s.sec.prog ≠ none ∨ s.flag R.SYS_SUPPLY F.SYS_SUPPLY_FUSE = false → Completes (.secFuseGo ep v) s (fun t =>
      t.sec = s.sec ∧ t.fuses = s.fuses ∧ RegsBut [R.SEC_FUSE_CTRL] s t))) ∧
  (∀ (p : FuseProg) (s : State), s.sec.prog = some p →
    Completes (.fuseProgramDone true) s (fun t => t.sec.prog = none ∧ t.sec.fdata = [] ∧
      (∀ n < 4, p.field = 0x10 + n → t.fuses.okeyP.testBit n = true ∧
        Tbl.get (fun _ => 0) t.fuses.okey n = (Tbl.get (fun _ => 0) s.fuses.okey n ||| p.value % 2 ^ 256)) ∧
      (∀ n < 8, p.field = 0x20 + n → t.fuses.skeyP.testBit n = true ∧
        Tbl.get (fun _ => 0) t.fuses.skey n = (Tbl.get (fun _ => 0) s.fuses.skey n ||| p.value % 2 ^ 256)) ∧
      (p.field = 0x50 → t.fuses = { s.fuses with orev := s.fuses.orev ||| p.value % 2 ^ 4 }) ∧
      (p.field = 0 → t.fuses = { s.fuses with lc := s.fuses.lc ||| p.value % 2 ^ 3 } ∧
        (t.lc ≠ s.lc → t.fw.sessions = [] ∧ t.sec.wiping = true) ∧
        (t.lc = s.lc → t.fw = s.fw ∧ t.sec.wiping = s.sec.wiping)) ∧
      (∀ (m : Fin 7) q, p.client = some m.val → (s.mb m).cur = some q → AllFormed (s.mb m).reqs → Answered s m q 0 0 [] t) ∧
      (p.client = none → t.mbx = s.mbx)) ∧
    Completes (.fuseProgramDone false) s (fun t => t.sec.prog = none ∧ t.sec.fdata = [] ∧ t.fuseGood p.field = false ∧
      t.flag R.SEC_FUSE_CTRL F.SEC_FUSE_CTRL_FAIL = true ∧
      (∀ (m : Fin 7) q, p.client = some m.val → (s.mb m).cur = some q → AllFormed (s.mb m).reqs → Answered s m q 8 0 [] t)) ∧
    Completes .fuseSupplyInvalid s (fun t => t.flag R.SYS_SUPPLY F.SYS_SUPPLY_FUSE = false ∧ t.sec.prog = none ∧
      t.fuseGood p.field = false ∧ t.flag R.SEC_FUSE_CTRL F.SEC_FUSE_CTRL_FAIL = true)) ∧
  (∀ (ok : Bool) (s : State), s.sec.prog = none → exec (.fuseProgramDone ok) s = .next s ∧
    Completes .fuseSupplyInvalid s (fun t => t.flag R.SYS_SUPPLY F.SYS_SUPPLY_FUSE = false ∧ RegsBut [R.SYS_SUPPLY] s t ∧
      Only [.csr] s t))

end Sys2Proof

/-- R550, R554, R562, R563, R564, R565, R566, R567, R568, R577, R629, R642: wipes, tamper trips and fuses. -/
def Obligations.WipesTamperAndFuses : Prop := WipesAndTamper ∧ FuseProgramming

namespace Sys2Proof

/-- The units that a sweep or a run takes next: where a target's next unit fits, none of a target before it does (R611); where nothing new fits, one that counted as not run is tried again. -/
def NoneFits (s : State) (k : Nat) : Prop := ∀ j < k, ∀ v, s.istNext j = some v → s.istFits j v = false

/-- R609, R610, R611, R614: a sweep and a run start, and their slices start within the exclusions and the power limit; a unit of a run whose condition does not hold counts as skipped. A unit of a queue that
is not empty counts as put off, and new units go before those to try again (the model's choices, notes/assumptions/45.md). -/
def SlicesStart : Prop :=
  (∀ s : State, s.boot.inReset = false → s.halted = false → s.sweeping = false → s.flag R.IST_CTRL F.IST_CTRL_EN = true →
    (s.flag R.IST_CTRL F.IST_CTRL_SPAD_EN = true → Completes .istSweepStart s (fun t => t.sweeping = true ∧
      t.ist.slices = s.ist.slices ∧ t.istNext 0 = some 0 ∧ t.ist.retry = [] ∧ RegsBut [R.IST_STAT] s t ∧
      Only [.csr, .ist] s t)) ∧
    (s.istTargets = [] → (∀ q ∈ s.ist.slices, q.run = true) → Completes .istSweepStart s (fun t => t.sweeping = false ∧
      t.fld R.IST_STAT F.IST_STAT_PASS_CNT = (s.fld R.IST_STAT F.IST_STAT_PASS_CNT + 1) % 2 ^ 16 ∧ RaisedIn s 49 t ∧
      RegsBut [R.IST_STAT] s t ∧ Only [.csr, .ic, .ist] s t))) ∧
  (∀ s : State, s.boot.inReset = true ∨ s.halted = true ∨ s.sweeping = true ∨ s.flag R.IST_CTRL F.IST_CTRL_EN = false →
    exec .istSweepStart s = .next s) ∧
  (∀ (u : Nat) (s : State), s.boot.inReset = false → s.halted = false → s.istRunning = false → s.sweeping = true →
    s.flag R.IST_CTRL F.IST_CTRL_EN = true →
    (s.istNext 0 = some u → s.istFits 0 u = true → Completes .istSliceStart s (fun t =>
      t.ist.slices = s.ist.slices ++ [⟨0, u, false, 0⟩] ∧ t.pad.march = some ⟨u * s.istW, s.istW, true⟩ ∧
      t.pad.words = s.pad.words ∧ Only [.ist, .pad] s t)) ∧
    (NoneFits s 1 → s.istNext 1 = some u → s.istFits 1 u = true →
      Completes .istSliceStart s (fun t => t.ist.slices = s.ist.slices ++ [⟨1, u, false, 0⟩] ∧ Only [.ist] s t)) ∧
    (NoneFits s 2 → s.istNext 2 = some u → s.istFits 2 u = true →
      (s.mcqEmpty u = true → Completes .istSliceStart s (fun t => t.ist.slices = s.ist.slices ++ [⟨2, u, false, 0⟩] ∧
        (t.mcOf (u / 16)).arrived = [] ∧ Only [.ist, .mc] s t)) ∧
      (s.mcqEmpty u = false → s.ist.retry = [] → Completes .istSliceStart s (fun t => t.ist.slices = s.ist.slices ∧
        t.ist.retry = [(2, u, 1)] ∧ Only [.ist] s t))) ∧
    (∀ q, NoneFits s 3 → (s.ist.retry.filter (fun x => !s.istPassed x.1 x.2.1)).find? (fun x => s.istFits x.1 x.2.1) = some q →
      s.istRunnable q.1 q.2.1 = true → Completes .istSliceStart s (fun t =>
        t.ist.slices = s.ist.slices ++ [⟨q.1, q.2.1, false, 0⟩] ∧ Only [.ist, .pad, .mc] s t))) ∧
  (∀ s : State, s.boot.inReset = false → s.halted = false → s.istRunning = true →
    (s.ist.left ≠ 0 → s.istRunnable s.ist.tgt s.ist.unit = true → s.istFits s.ist.tgt s.ist.unit = true →
      Completes .istSliceStart s (fun t => t.ist.slices = s.ist.slices ++ [⟨s.ist.tgt, s.ist.unit, true, 0⟩] ∧
        t.ist.left = s.ist.left - 1 ∧ t.ist.unit = s.ist.unit + 1 ∧ Only [.ist, .pad, .mc] s t)) ∧
    (∀ q, s.ist.left = 0 → s.ist.again.find? (fun x => s.istFits x.1 x.2.1) = some q → s.istRunnable q.1 q.2.1 = true →
      Completes .istSliceStart s (fun t => t.ist.slices = s.ist.slices ++ [⟨q.1, q.2.1, true, 0⟩] ∧
        Only [.ist, .pad, .mc] s t)) ∧
    (s.ist.left = 1 → s.istRunnable s.ist.tgt s.ist.unit = false → s.ist.again = [] → (∀ q ∈ s.ist.slices, q.run = false) →
      Completes .istSliceStart s (fun t => t.istRunning = false ∧ t.ist.slices = s.ist.slices ∧ RaisedIn s 52 t ∧
        t.fld R.IST_RUN_RES F.IST_RUN_RES_SKIPPED = min (s.fld R.IST_RUN_RES F.IST_RUN_RES_SKIPPED + 1) 255 ∧
        RegsBut [R.IST_RUN, R.IST_RUN_RES] s t ∧ Only [.csr, .ic, .ist] s t))) ∧
  (∀ s : State, s.boot.inReset = true ∨ s.halted = true ∨
      (s.istRunning = false ∧ (s.sweeping = false ∨ s.flag R.IST_CTRL F.IST_CTRL_EN = false)) →
    exec .istSliceStart s = .next s) ∧
  (∀ (ep : Fin 256) (v : Word) (s : State), s.mayWrite ep R.IST_RUN →
    (s.istRunning = false → v.fget F.IST_RUN_TARGET ≠ 3 →
      (s.istRunnable (v.fget F.IST_RUN_TARGET) (s.fld R.IST_RUN_FIRST F.IST_RUN_FIRST_UNIT) = true →
        Completes (.istRunStart ep v) s (fun t => t.istRunning = true ∧ t.reg R.IST_RUN_RES = 0 ∧
          t.ist = { s.ist with
            tgt := v.fget F.IST_RUN_TARGET, left := max 1 (v.fget F.IST_RUN_COUNT),
            unit := s.fld R.IST_RUN_FIRST F.IST_RUN_FIRST_UNIT, again := [] } ∧
          RegsBut [R.IST_RUN, R.IST_RUN_RES] s t ∧ Only [.csr, .ist] s t)) ∧
      (s.istRunnable (v.fget F.IST_RUN_TARGET) (s.fld R.IST_RUN_FIRST F.IST_RUN_FIRST_UNIT) = false →
        v.fget F.IST_RUN_COUNT ≤ 1 → (∀ q ∈ s.ist.slices, q.run = false) →
        Completes (.istRunStart ep v) s (fun t => t.istRunning = false ∧ RaisedIn s 52 t ∧
          t.fld R.IST_RUN_RES F.IST_RUN_RES_SKIPPED = 1 ∧ t.ist.slices = s.ist.slices))) ∧
    (s.istRunning = true ∨ v.fget F.IST_RUN_TARGET = 3 → Completes (.istRunStart ep v) s (fun t => t.ist = s.ist ∧
      t.istRunning = s.istRunning ∧ RegsBut [R.IST_RUN] s t ∧ Only [.csr] s t)))

/-- R608, R609, R612, R613, R614: the oldest slice of a target ends: one that fails is counted and recorded; one that has to yield, or a link's, is abandoned and tried again up to eight times,
in a sweep and in a run alike. -/
def SlicesEnd : Prop :=
  (∀ (k : Fin 3) (fail : Bool) (q : IstSlice) (s : State), s.boot.inReset = false → s.istSlice k = some q →
    let bad := if k.val = 0 then q.march == 2 else fail
    let tried := s.ist.tried q.run q.tgt q.unit
    (q.going = false → s.istYields q = false → Completes (.istSliceDone k fail) s (fun t =>
      t.ist.slices = s.ist.slices.erase q ∧ t.ist.tried q.run q.tgt q.unit = 0 ∧
      (bad = false → t.reg R.IST_FAIL_CNT = s.reg R.IST_FAIL_CNT ∧ t.err = s.err) ∧
      (bad = true → (t.reg R.IST_FAIL_CNT).toNat = min ((s.reg R.IST_FAIL_CNT).toNat + 1) (2 ^ 32 - 1) ∧
        t.fld R.IST_LAST F.IST_LAST_TARGET = k.val ∧ t.fld R.IST_LAST F.IST_LAST_UNIT = q.unit % 2 ^ 20) ∧
      (bad = true → k.val ≠ 0 → s.quiet 50 → t.err.waiting = s.err.waiting ++
        [⟨0, ⟨50, 2, 0x19, 0x71 * 2 ^ 24 + k.val * 2 ^ 20 + q.unit % 2 ^ 20⟩, 0⟩]) ∧
      (q.run = true → t.fld R.IST_RUN_RES F.IST_RUN_RES_RUN = min (s.fld R.IST_RUN_RES F.IST_RUN_RES_RUN + 1) 255) ∧
      (q.run = true → s.ist.left = 0 → s.ist.again = [] → (∀ p ∈ s.ist.slices.erase q, p.run = false) →
        t.istRunning = false))) ∧
    (q.going = true ∨ s.istYields q = true → exec (.istSliceDone k fail) s = .next s) ∧
    (q.tgt = 1 ∨ s.istYields q = true → Completes (.istSliceAbandon k) s (fun t =>
      t.ist.slices = s.ist.slices.erase q ∧
      (t.reg R.IST_YIELD_CNT).toNat = min ((s.reg R.IST_YIELD_CNT).toNat + 1) (2 ^ 32 - 1) ∧
      (tried < 7 → (q.tgt, q.unit, tried + 1) ∈ t.ist.late q.run ∧ t.reg R.IST_SKIP_CNT = s.reg R.IST_SKIP_CNT ∧
        t.err = s.err) ∧
      (7 ≤ tried → t.ist.tried q.run q.tgt q.unit = 0 ∧
        (t.reg R.IST_SKIP_CNT).toNat = min ((s.reg R.IST_SKIP_CNT).toNat + 1) (2 ^ 32 - 1) ∧
        (s.quiet 51 → t.err.waiting = s.err.waiting ++
          [⟨0, ⟨51, 0, 0x19, 0x72 * 2 ^ 24 + q.tgt * 2 ^ 20 + q.unit % 2 ^ 20⟩, 0⟩]) ∧
        (q.run = true → t.fld R.IST_RUN_RES F.IST_RUN_RES_SKIPPED = min (s.fld R.IST_RUN_RES F.IST_RUN_RES_SKIPPED + 1) 255)))) ∧
    (q.tgt ≠ 1 → s.istYields q = false → exec (.istSliceAbandon k) s = .next s)) ∧
  (∀ (k : Fin 3) (fail : Bool) (s : State), s.istSlice k = none ∨ s.boot.inReset = true →
    exec (.istSliceDone k fail) s = .next s ∧ exec (.istSliceAbandon k) s = .next s)

end Sys2Proof

/-- R608, R609, R610, R611, R612, R613, R614: the self-test controller's sweeps, runs and slices. -/
def Obligations.SelfTestSlices : Prop := SlicesStart ∧ SlicesEnd

namespace Sys2Proof

/-- R522, R523, R524, R525, R526, R527: the core's accesses to the scratchpad, and what a march slice leaves. -/
def ScratchpadWords : Prop :=
  (∀ (w : Fin 524288) (d : BitVec 64) (s : State), s.halted = false → s.padBusy w = false →
    (s.padDecode w = (d, 0) → Completes (.scratchpadAccess (.read w) []) s (fun t => t.out = bytes64 d ∧ Only [.out] s t)) ∧
    (s.padDecode w = (d, 1) → s.quiet 48 → Completes (.scratchpadAccess (.read w) []) s (fun t => t.out = bytes64 d ∧
      t.padWord w = padFresh d ∧ (∀ k, k ≠ w.val → t.padWord k = s.padWord k) ∧
      t.err.waiting = s.err.waiting ++ [⟨0, ⟨48, 0, 0x16, 2 ^ 30 + w⟩, 0⟩] ∧ Only [.ic, .err, .pad, .out] s t)) ∧
    (s.padDecode w = (d, 2) → s.quiet 48 → Completes (.scratchpadAccess (.read w) []) s (fun t => t.pad = s.pad ∧ t.out = [] ∧
      t.err.waiting = s.err.waiting ++ [⟨0, ⟨48, 2, 0x16, 2 ^ 31 + w⟩, 0⟩] ∧ Only [.ic, .err, .out] s t)) ∧
    (∀ bytes : List (BitVec 8), bytes.length = 8 → Completes (.scratchpadAccess (.write w 0 bytes) []) s (fun t =>
      t.padWord w = padFresh (BitVec.ofNat 64 (leNat bytes)) ∧ (∀ k, k ≠ w.val → t.padWord k = s.padWord k) ∧
      Only [.pad] s t)) ∧
    (∀ (o : Fin 8) (b : BitVec 8), s.padDecode w = (d, 0) → Completes (.scratchpadAccess (.write w o [b]) []) s (fun t =>
      t.padWord w = padFresh (BitVec.ofNat 64 (leNat ((bytes64 d).set o b))) ∧
      (∀ k, k ≠ w.val → t.padWord k = s.padWord k) ∧ Only [.pad] s t))) ∧
  (∀ (base log : Nat) (s : State), s.halted = false → 12 ≤ log → log ≤ 18 → Completes (.scratchpadAccess (.window base log) []) s
    (fun t => t.pad = { s.pad with window := some (base * 2 ^ log % 2 ^ 22, 2 ^ log) } ∧ Only [.pad] s t)) ∧
  (∀ (base log : Nat) (s : State), log < 12 ∨ 18 < log → exec (.scratchpadAccess (.window base log) []) s = .next s) ∧
  (∀ (op : PadOp) (up : List (Fin 72)) (s : State), s.halted = true → exec (.scratchpadAccess op up) s = .next s) ∧
  (∀ (w : Fin 524288) (up : List (Fin 72)) (s : State), s.padBusy w = true →
    exec (.scratchpadAccess (.read w) up) s = .next s ∧ ∀ o b, exec (.scratchpadAccess (.write w o b) up) s = .next s) ∧
  (∀ (m : March) (s : State), s.pad.march = some m → s.halted = false →
    (m.preserve = true → (∀ w, (s.padDecode w).2 = 0) → Completes (.marchSliceDone []) s (fun t => t.pad.march = none ∧
      (∀ w, m.first ≤ w → w < m.first + m.size → (t.padWord w).bits.setWidth 64 = (s.padDecode w).1) ∧
      (∀ w, w < m.first ∨ m.first + m.size ≤ w → t.padWord w = s.padWord w) ∧
      t.ist.slices = s.ist.slices.map (fun x => if x.tgt = 0 then { x with march := 1 } else x) ∧ Only [.ist, .pad] s t)) ∧
    (m.preserve = false → Completes (.marchSliceDone []) s (fun t => t.pad.march = none ∧
      (∀ w, m.first ≤ w → w < m.first + m.size → t.padWord w = padZero) ∧
      (∀ w, w < m.first ∨ m.first + m.size ≤ w → t.padWord w = s.padWord w) ∧ Only [.ist, .pad] s t)) ∧
    (∀ w : Fin 524288, m.preserve = false → m.first ≤ w.val → w.val < m.first + m.size → s.quiet 48 →
      Completes (.marchSliceDone [w]) s (fun t => t.pad.march = none ∧
        t.err.waiting = s.err.waiting ++ [⟨0, ⟨48, 2, 0x16, 3 * 2 ^ 30 + w⟩, 0⟩] ∧
        t.ist.slices = s.ist.slices.map (fun x => if x.tgt = 0 then { x with march := 2 } else x))) ∧
    (∀ w : Fin 524288, m.preserve = true → s.inWindow (8 * w) = true → s.padBusy w = true → (∀ k, (s.padDecode k).2 = 0) →
      Completes (.marchSliceYield w) s (fun t => t.pad.march = none ∧
        (∀ k, m.first ≤ k → k < m.first + m.size → (t.padWord k).bits.setWidth 64 = (s.padDecode k).1) ∧
        (∀ k, k < m.first ∨ m.first + m.size ≤ k → t.padWord k = s.padWord k) ∧ t.err = s.err ∧
        t.ist.slices = s.ist.slices.map (fun x => if x.tgt = 0 then { x with march := 3 } else x))) ∧
    (∀ w : Fin 524288, m.preserve = false ∨ s.inWindow (8 * w) = false ∨ s.padBusy w = false →
      exec (.marchSliceYield w) s = .next s)) ∧
  (∀ (l : List (Fin 524288)) (s : State), s.pad.march = none ∨ s.halted = true → exec (.marchSliceDone l) s = .next s)

/-- R645, R646, R647, R651: a sector goes down through holding its regions, fencing its interfaces and removing its supply, and comes up with its memory lost and its hold ended; the
temperature sensors. -/
def SectorPowerAndTemperature : Prop :=
  (∀ (ep : Fin 256) (k : Fin 32) (s : State), s.mayWrite ep R.SYS_PD_REQ →
    (s.user = false → Completes (.sectorPowerDown ep k) s (fun t => t.flag R.SYS_PD_REJ F.SYS_PD_REJ_REJ = true ∧
        RegsBut [R.SYS_PD_REJ] s t ∧ Only [.csr] s t) ∧
      Completes (.sectorPowerUp ep k) s (fun t => t.flag R.SYS_PD_REJ F.SYS_PD_REJ_REJ = true ∧
        RegsBut [R.SYS_PD_REJ] s t ∧ Only [.csr] s t)) ∧
    (s.user = true → s.bit R.SYS_PD_BUSY k = false → s.bit R.SYS_PD_STAT k = false →
      (∀ r < 32, (s.rgnSectors r).contains k.val = true → (s.rg r).minHold = false ∧ s.streaming r = false) →
      Completes (.sectorPowerDown ep k) s (fun t => t.bit R.SYS_PD_REQ k = true ∧ t.bit R.SYS_PD_BUSY k = true ∧
        t.bit R.SYS_PD_STAT k = false ∧ t.fence (2 * k) = 1 ∧ t.fence (2 * k + 1) = 1 ∧
        (∀ r < 32, (s.rgnSectors r).contains k.val = true → t.rgnHeld r = true) ∧ t.act = s.act ∧
        t.fab.words = s.fab.words ∧ t.fab.ff = s.fab.ff)) ∧
    (s.user = true → s.bit R.SYS_PD_BUSY k = false → s.bit R.SYS_PD_STAT k = true →
      Completes (.sectorPowerUp ep k) s (fun t => t.bit R.SYS_PD_REQ k = false ∧ t.bit R.SYS_PD_BUSY k = true ∧
        t.bit R.SYS_PD_STAT k = true ∧ t.act = s.act ∧ t.fab.words = s.fab.words ∧ t.fab.ff = s.fab.ff))) ∧
  (∀ (k : Fin 32) (s : State),
    (s.bit R.SYS_PD_BUSY k = true → s.bit R.SYS_PD_STAT k = false → s.fence (2 * k) = 2 → s.fence (2 * k + 1) = 2 →
      Completes (.sectorSupplyRemoved k) s (fun t => t.bit R.SYS_PD_STAT k = true ∧
        t.bit R.SYS_PD_BUSY k = !s.bit R.SYS_PD_REQ k ∧ RegsBut [R.SYS_PD_STAT, R.SYS_PD_BUSY] s t ∧ Only [.csr] s t)) ∧
    (s.bit R.SYS_PD_BUSY k = false ∨ s.bit R.SYS_PD_STAT k = true ∨ s.fence (2 * k) ≠ 2 ∨ s.fence (2 * k + 1) ≠ 2 →
      exec (.sectorSupplyRemoved k) s = .next s) ∧
    (s.bit R.SYS_PD_BUSY k = true → s.bit R.SYS_PD_STAT k = true →
      Completes (.sectorPowerRestored k) s (fun t => t.bit R.SYS_PD_STAT k = false ∧
        (s.bit R.SYS_PD_REQ k = false → t.bit R.SYS_PD_BUSY k = false) ∧
        (∀ b w, b < 256 → w < 1024 → Tbl.get (fun _ => none) t.fab.words ((k.val * 256 + b) * 1024 + w) = none) ∧
        Tbl.get (fun _ => 0) t.fab.loss k = Tbl.get (fun _ => 0) s.fab.loss k + 1 ∧
        (∀ e < 2, t.reg (R.NI_CTRL (2 * k + e)) = resetOf (R.NI_CTRL (2 * k + e))) ∧
        (∀ r < 32, s.bit R.SYS_PD_REQ k = false → (s.rgnSectors r).contains k.val = true → t.rgnHeld r = ((s.rg r).minHold || (s.rg r).post ||
          (s.rgnSectors r).any (fun j => j != k.val && s.secGoing j))) ∧ t.act = s.act ∧ t.shd = s.shd)) ∧
    (s.bit R.SYS_PD_BUSY k = false ∨ s.bit R.SYS_PD_STAT k = false → exec (.sectorPowerRestored k) s = .next s)) ∧
  (∀ (temp : BitVec 16) (s : State), Completes (.tempSensorUpdate temp) s (fun t =>
    t.fld R.SYS_TEMP F.SYS_TEMP_VALUE = temp.toNat ∧
    signed 16 (t.fld R.SYS_TEMP_MAX F.SYS_TEMP_MAX_VALUE) = max (signed 16 (s.fld R.SYS_TEMP_MAX F.SYS_TEMP_MAX_VALUE)) temp.toInt ∧
    (signed 16 (s.fld R.SYS_TEMP_ALM F.SYS_TEMP_ALM_TH) ≤ temp.toInt → t.flag R.SYS_TEMP_ALM F.SYS_TEMP_ALM_ALM = true) ∧
    (temp.toInt < signed 16 (s.fld R.SYS_TEMP_ALM F.SYS_TEMP_ALM_TH) →
      t.flag R.SYS_TEMP_ALM F.SYS_TEMP_ALM_ALM = s.flag R.SYS_TEMP_ALM F.SYS_TEMP_ALM_ALM) ∧
    RegsBut [R.SYS_TEMP, R.SYS_TEMP_MAX, R.SYS_TEMP_ALM] s t ∧ Only [.csr] s t))

end Sys2Proof

/-- R522, R523, R524, R525, R526, R527, R645, R646, R647, R651: the scratchpad, sector power and temperature. -/
def Obligations.ScratchpadSectorPowerAndTemperature : Prop := ScratchpadWords ∧ SectorPowerAndTemperature

/-! ## The test access port, run control and the watchdog (19) -/

namespace Sys2Proof

/-- No Skemer engine has anything to do at the end of a freeze: none in OFF is enabled, none is in RELEASE_WAIT. -/
def SkemerIdle (s : State) : Prop :=
  ∀ e < 16, s.skmState e ≠ 7 ∧ (s.skmState e = 0 → s.flag (R.SKM_ENG_CTRL e) F.SKM_ENG_CTRL_EN = false)

/-- R616, R367, R620: an instruction takes effect and what Capture-IR loaded goes out, followed by `more`; where a boundary-scan instruction ends, an operating
lane resumes with LOL at 1 and reports the end of the change, stated for a device in which one lane operates and the Skemer engines are idle. -/
def LoadsIr (ir : Nat) (more : List Byte) (s t : State) : Prop :=
  t.tap.ir = ir ∧ t.tap.busy = s.tap.busy ∧ t.tap.data = s.tap.data ∧ t.tap.status = s.tap.status ∧
  (∃ b : Byte, t.out = b :: more ∧ b.getLsbD 0 = true ∧ b.getLsbD 1 = false ∧ b.getLsbD 2 = s.dbgOpen ∧ b.getLsbD 3 = s.halted ∧
    b.getLsbD 4 = s.flag R.DBG_STAT F.DBG_STAT_SCAN ∧ b.getLsbD 5 = false ∧ b.getLsbD 6 = false ∧ b.getLsbD 7 = false) ∧
  (s.bscan = false ∨ ir ∈ [0x00, 0x03, 0x04, 0x05, 0x06] → Only [.tap, .out] s t) ∧
  (s.bscan = true → ir ∉ [0x00, 0x03, 0x04, 0x05, 0x06] → SkemerIdle s → ∀ n < 144,
    (∀ m < 144, m ≠ n → s.operates m = false) →
    (s.operates n = false → Only [.tap, .out] s t) ∧
    (s.operates n = true → s.locked n = false → t.flag (R.LN_STAT n) F.LN_STAT_LOL = true ∧
      t.flag (R.LN_STAT n) F.LN_STAT_CHANGING = false ∧ t.bit (R.LN_INT_STAT n) 8 = true ∧
      RegsBut [R.LN_STAT n, R.LN_INT_STAT n, R.LN_PRBS_RX n, R.PCS_LN_STAT n] s t ∧ Only [.csr, .ic, .ser, .tap, .out] s t))

/-- R616, R619: the same for an instruction that selects the boundary register, into which cells are shifted: what Capture-DR loaded follows, in which the
cells of CFG_START_N, PORST_N and TRST_N hold the levels of those pins; the cells of PPS outputs and of CFG_ERR_N hold what the device drives. -/
def LoadsCells (ir : Nat) (c : BitVec 3508) (s t : State) : Prop :=
  t.tap.ir = ir ∧ t.tap.busy = s.tap.busy ∧ t.tap.data = s.tap.data ∧ t.tap.status = s.tap.status ∧ t.tap.cells = c ∧
  (∃ (b : Byte) (m : Nat), t.out = b :: leBytes 439 m ∧ b.getLsbD 0 = true ∧ b.getLsbD 1 = false ∧ b.getLsbD 2 = s.dbgOpen ∧
    b.getLsbD 3 = s.halted ∧ m < 2 ^ 3508 ∧ m.testBit 3 = s.board.startN ∧ m.testBit 6 = true ∧ m.testBit 11 = true ∧
    (s.bscan = false ∨ ir ∈ [0x00, 0x03, 0x04, 0x05, 0x06] →
      (∀ j < 4, m.testBit (16 + j) = s.ppsOutPin j) ∧ (s.phase = 6 → m.testBit 2 = false))) ∧
  (s.bscan = false ∨ ir ∈ [0x00, 0x03, 0x04, 0x05, 0x06] → t.draws = s.draws + 3508 ∧ Only [.tap, .out, .draws] s t)

/-- R4, R616, R617, R619, R620: the instructions of the test access port that no lock holds; a boundary register instruction takes the cells shifted into it. Under power-on reset or
PORST_N low the port does nothing. -/
def TapInstructions : Prop :=
  (∀ s : State, s.tapLive = true →
    Completes .highz s (fun t => LoadsIr 0x03 [] s t ∧ t.tap.cells = s.tap.cells) ∧
    Completes .clamp s (fun t => LoadsIr 0x04 [] s t ∧ t.tap.cells = s.tap.cells) ∧
    Completes .mbxAccess s (fun t => LoadsIr 0x10 [] s t ∧ t.tap.cells = s.tap.cells) ∧
    Completes .cfgLoad s (fun t => LoadsIr 0x11 [] s t ∧ t.tap.cells = s.tap.cells) ∧
    Completes .bypass s (fun t => LoadsIr 0xFF [] s t ∧ t.tap.cells = s.tap.cells) ∧
    Completes .idcode s (fun t => LoadsIr 0x02 [0xE5, 0x16, 0x98, BitVec.ofNat 8 (s.board.rev % 16 * 16 + 14)] s t ∧
      t.tap.cells = s.tap.cells) ∧
    Completes .tapReset s (fun t => t.tap.ir = 0x02 ∧ t.tap.cells = s.tap.cells ∧ t.out = s.out ∧
      (s.bscan = false → Only [.tap] s t)) ∧
    (∀ p ∈ [(Instr.extest none, 0x00), (.samplePreload none, 0x01), (.extestPulse none, 0x05), (.extestTrain none, 0x06)],
      Completes p.1 s (fun t => LoadsIr p.2 [] s t ∧ t.tap.cells = s.tap.cells))) ∧
  (∀ (c : BitVec 3508) (s : State), s.tapLive = true →
    Completes (.extest (some c)) s (LoadsCells 0x00 c s) ∧ Completes (.samplePreload (some c)) s (LoadsCells 0x01 c s) ∧
    Completes (.extestPulse (some c)) s (LoadsCells 0x05 c s) ∧ Completes (.extestTrain (some c)) s (LoadsCells 0x06 c s)) ∧
  (∀ (i : Instr) (s : State), i ∈ [Instr.highz, .clamp, .mbxAccess, .cfgLoad, .bypass, .idcode, .tapReset, .dbgAccess, .scanEntry,
    .scanData, .runCtrl none, .extest none, .samplePreload none, .extestPulse none, .extestTrain none] → s.tapLive = false →
    exec i s = .next s) ∧
  (∀ (c : BitVec 3508) (v : BitVec 8) (s : State), s.tapLive = false → exec (.extest (some c)) s = .next s ∧
    exec (.samplePreload (some c)) s = .next s ∧ exec (.extestPulse (some c)) s = .next s ∧
    exec (.extestTrain (some c)) s = .next s ∧ exec (.runCtrl (some v)) s = .next s)

/-- The start-up sequencer has nothing to do at the end of a halt: the device is not in BOOT, nor in WAIT with CFG_DONE seen high. -/
def SequencerIdle (s : State) : Prop :=
  s.phase ≠ 1 ∧ (s.phase = 3 → s.flag R.CFG_BOOT_STAT F.CFG_BOOT_STAT_CFG_DONE_IN = false)

/-- A release finds nothing that the halt has held back but channels' halts and interrupt activity. -/
def ReleaseIdle (s : State) : Prop :=
  s.ic.held = [] ∧ s.err.deferred = [] ∧ s.gate.kept = [] ∧ (∀ c < 8, (s.mcOf c).halt = false) ∧ SkemerIdle s

/-- R617, R618, R627: a locked instruction takes effect with debug open and acts as BYPASS with debug closed, where LOCKED_IR is set and a record of code 0x83 is
logged. HALT and RESUME of RUN_CTRL act as those of DBG_RC do. -/
def LockedInstructions : Prop :=
  (∀ s : State, s.tapLive = true → s.dbgOpen = true →
    Completes .dbgAccess s (LoadsIr 0x20 [] s) ∧ Completes .scanData s (LoadsIr 0x31 [] s) ∧
    (s.bscan = false → ∀ d : Byte, d = BitVec.ofNat 8 (b2n s.halted + 2 * b2n (s.flag R.DBG_STAT F.DBG_STAT_HALT_PEND) +
        4 * b2n (s.flag R.DBG_STAT F.DBG_STAT_LOCK_BROKEN)) →
      Completes (.runCtrl none) s (LoadsIr 0x21 [d] s) ∧
      (s.halted = false → s.boot.inReset = false → Completes (.runCtrl (some 1)) s (fun t =>
        t.tap = { s.tap with ir := 0x21 } ∧ t.flag R.DBG_STAT F.DBG_STAT_HALT_PEND = true ∧ RegsBut [R.DBG_STAT] s t ∧
        Only [.csr, .tap, .out] s t)) ∧
      (s.halted = true → s.boot.inReset = false → ReleaseIdle s → SequencerIdle s → Completes (.runCtrl (some 2)) s (fun t =>
        t.halted = false ∧ t.tap = { s.tap with ir := 0x21 })))) ∧
  (∀ (i : Instr) (ir : Nat) (s : State),
    (i, ir) ∈ [(Instr.dbgAccess, 0x20), (.runCtrl none, 0x21), (.runCtrl (some 1), 0x21), (.scanEntry, 0x30), (.scanData, 0x31)] →
    s.tapLive = true → s.dbgOpen = false → s.bscan = false → s.quiet 510 →
    Completes i s (fun t => t.tap = { s.tap with ir := 0xFF } ∧ t.flag R.DBG_STAT F.DBG_STAT_LOCKED_IR = true ∧
      t.err.waiting = s.err.waiting ++ [⟨0, ⟨510, 0, 0x1B, 0x83 * 2 ^ 24 + ir⟩, 0⟩] ∧ RegsBut [R.DBG_STAT] s t ∧
      Only [.csr, .ic, .err, .tap, .out] s t))

/-- R199, R621: in boot mode 0b100 each update of CFG_LOAD appends four bytes, the first in bits 7:0, to the container it carries: firmware while the boot ROM waits
for one, the full bitstream in the LOAD phase; in every other phase or mode it does nothing. A device in FAILED in DEPLOY or RETURN waits for none. -/
def JtagContainers : Prop :=
  (∀ (v : Word) (k : Nat) (s : State), s.tap.ir = 0x11 → s.boot.inReset = false → s.mode = 4 → s.dbg.scanning = false →
    (s.phase = 6 → s.lc < 2) → (k = 3 ∧ s.boot.fw = false ∨ k = 1 ∧ s.boot.fw = true ∧ s.phase = 2) →
    ((∀ l, s.loadOn .jtag = some l → l.kind ≠ k) → Completes (.cfgLoadAppend v) s (fun t =>
      t.out = leBytes 4 (s.csrPeek R.CFG_BOOT_STAT).toNat ∧
      (∃ l, t.loadOn .jtag = some l ∧ l.kind = k ∧ l.bytes = leBytes 4 v.toNat) ∧ Only [.boot, .out] s t)) ∧
    (∀ l, s.loadOn .jtag = some l → l.kind = k → Completes (.cfgLoadAppend v) s (fun t =>
      t.out = leBytes 4 (s.csrPeek R.CFG_BOOT_STAT).toNat ∧
      (∃ m, t.loadOn .jtag = some m ∧ m.kind = k ∧ m.bytes = l.bytes ++ leBytes 4 v.toNat) ∧
      (∀ p, p ≠ .jtag → t.loadOn p = s.loadOn p) ∧ Only [.boot, .out] s t))) ∧
  (∀ (v : Word) (s : State), s.tap.ir ≠ 0x11 ∨ s.boot.inReset = true ∨ s.mode ≠ 4 ∨ s.dbg.scanning = true ∨
      (s.phase = 6 ∧ 2 ≤ s.lc) ∨ (s.boot.fw = true ∧ s.phase ≠ 2) →
    exec (.cfgLoadAppend v) s = .next s)

/-- R624, R625: the debug master issues one access of 4 aligned bytes at a time, on VN3 for register addresses and on VN0 otherwise, carrying the debug tag;
an update while one is outstanding sets OVERRUN; each update gives out what Capture-DR loaded, the data and status of the last read and BUSY; a completion gives a read's
data and status. -/
def DebugMaster : Prop :=
  (∀ (a : BitVec 48) (v : Word) (s : State), s.tap.ir = 0x20 → s.dbgOpen = true → s.boot.inReset = false →
    (∀ n, s.tap.busy = some n →
      Completes (.dbgAccessRead a) s (fun t => t.flag R.DBG_STAT F.DBG_STAT_OVERRUN = true ∧ t.tap = s.tap ∧ t.noc = s.noc ∧
        t.out = leBytes 11 (s.tap.data.toNat + 2 ^ 32 * (s.tap.status % 16) + 2 ^ 36) ∧ RegsBut [R.DBG_STAT] s t ∧ Only [.csr, .ic, .out] s t) ∧
      Completes (.dbgAccessWrite a v) s (fun t => t.flag R.DBG_STAT F.DBG_STAT_OVERRUN = true ∧ t.tap = s.tap ∧ t.noc = s.noc ∧
        t.out = leBytes 11 (s.tap.data.toNat + 2 ^ 32 * (s.tap.status % 16) + 2 ^ 36) ∧ RegsBut [R.DBG_STAT] s t ∧ Only [.csr, .ic, .out] s t)) ∧
    (∀ d loc, s.tap.busy = none → s.niOpen 0x6B = true → s.niOn 0x6B = true → (∀ g ∈ s.noc.tags, g.ni ≠ 0x6B) →
      s.nocDest 0x6B (a.toNat / 4 * 4) 3 = .endp d loc → s.niRouteOf 0x6B d ≠ 2 ^ 48 - 1 →
      rspFlits cmdRd 3 ≤ s.poolFree 0x6B → rspFlits cmdWr 3 ≤ s.poolFree 0x6B → ∀ vn : Nat,
      vn = (if (csrOff (a.toNat / 4 * 4)).isSome then 3 else 0) →
      Completes (.dbgAccessRead a) s (fun t => t.tap = { s.tap with busy := some 0 } ∧
        t.out = leBytes 11 (s.tap.data.toNat + 2 ^ 32 * (s.tap.status % 16)) ∧
        ∃ p : Packet, p.route = s.niRouteOf 0x6B d ∧ p.vn = vn ∧ p.dbg = true ∧ p.cmd = cmdRd ∧ p.src = 0x6B ∧ p.dst = d ∧
          p.addr = a.toNat / 4 * 4 ∧ p.loc = loc ∧ p.len = 3 ∧ p.data = [] ∧
          t.noc = { s.noc with
            flight := s.noc.flight ++ [⟨routerOf 0x6B, p⟩], tags := s.noc.tags ++ [⟨0x6B, 0, rspFlits cmdRd 3, p⟩] } ∧
          Only [.noc, .tap, .out] s t) ∧
      Completes (.dbgAccessWrite a v) s (fun t => t.tap = { s.tap with busy := some 1 } ∧
        t.out = leBytes 11 (s.tap.data.toNat + 2 ^ 32 * (s.tap.status % 16)) ∧
        ∃ p : Packet, p.route = s.niRouteOf 0x6B d ∧ p.vn = vn ∧ p.dbg = true ∧ p.cmd = cmdWr ∧ p.src = 0x6B ∧ p.dst = d ∧
          p.addr = a.toNat / 4 * 4 ∧ p.loc = loc ∧ p.len = 3 ∧ p.data = leBytes 4 v.toNat ∧
          t.noc = { s.noc with
            flight := s.noc.flight ++ [⟨routerOf 0x6B, p⟩], tags := s.noc.tags ++ [⟨0x6B, 1, rspFlits cmdWr 3, p⟩] } ∧
          Only [.noc, .tap, .out] s t))) ∧
  (∀ (a : BitVec 48) (v : Word) (s : State), s.tap.ir ≠ 0x20 ∨ s.dbgOpen = false ∨ s.boot.inReset = true →
    exec (.dbgAccessRead a) s = .next s ∧ exec (.dbgAccessWrite a v) s = .next s) ∧
  (∀ (w st : Nat) (data : List Byte) (s : State), s.tap.busy = some w →
    s.noc.done.find? (fun c => c.ni == 0x6B && c.ltag == w) = some ⟨0x6B, w, st, data⟩ →
    Completes .debugAccessComplete s (fun t => t.tap.busy = none ∧ t.tap.ir = s.tap.ir ∧ t.tap.cells = s.tap.cells ∧
      (w = 0 → (t.tap.data.toNat = leNat (data.take 4) ∧ t.tap.status = st)) ∧
      (w ≠ 0 → t.tap.data = s.tap.data ∧ t.tap.status = s.tap.status) ∧
      t.noc = { s.noc with done := s.noc.done.erase ⟨0x6B, w, st, data⟩ } ∧ Only [.noc, .tap] s t)) ∧
  (∀ s : State, s.tap.busy = none → exec .debugAccessComplete s = .next s)

/-- R622: SCAN_ENTRY with debug open closes the sessions, clears the key engines and every load, starts a wipe of the saggar, and clears the scratchpad, both planes and the block
memories; the scan state is reached when the clearing is over. In a scan, and in RESET, SCAN_ENTRY only selects its register. -/
def ScanState : Prop :=
  (∀ s : State, s.tapLive = true → s.dbgOpen = true → s.dbg.scanning = false → s.boot.inReset = false →
    Completes .scanEntry s (fun t => t.tap.ir = 0x30 ∧ t.dbg.scanning = true ∧ t.sec.wiping = true ∧ t.sec.engine = [] ∧
      t.fw.sessions = [] ∧ t.boot.loads = [] ∧ t.gate.reqs = [] ∧ t.pad.words = [] ∧ t.pad.march = none ∧
      (∀ k, t.act.frame k = Frame.zero) ∧ (∀ k, t.shd.frame k = Frame.zero) ∧ t.fab.words = [] ∧ t.fab.zero = List.range 32)) ∧
  (∀ s : State, s.tapLive = true → s.dbgOpen = true → s.dbg.scanning = true ∨ s.boot.inReset = true →
    Completes .scanEntry s (LoadsIr 0x30 [] s)) ∧
  (∀ s : State, (s.dbg.scanning = true → s.sec.wiping = false → Completes .scanStateReached s (fun t =>
      t.flag R.DBG_STAT F.DBG_STAT_SCAN = true ∧ RegsBut [R.DBG_STAT] s t ∧ Only [.csr] s t)) ∧
    (s.dbg.scanning = false ∨ s.sec.wiping = true → exec .scanStateReached s = .next s))

end Sys2Proof

/-- R4, R199, R367, R616, R617, R618, R619, R620, R621, R622, R624, R625, R627: the test access port. -/
def Obligations.TestAccessPort : Prop :=
  TapInstructions ∧ LockedInstructions ∧ JtagContainers ∧ DebugMaster ∧ ScanState

namespace Sys2Proof

/-- R26, R627, R628, R629, R630, R631, R632, R636: a halt is requested, takes place at an instruction boundary with its record and its count, and ends by RESUME or, for one instruction, by STEP;
what it held back then happens, the start-up sequencer among it; the freeze options are sampled when it begins. DBG_RC takes writes of the debug master only; any other gets REFUSED. -/
def HaltsAndReleases : Prop :=
  (∀ (v : Word) (s : State), s.mayWrite 0x6B R.DBG_RC →
    (s.halted = false → v.fget F.DBG_RC_RESUME = 0 → v.fget F.DBG_RC_STEP = 0 → Completes (.halt 0x6B v) s (fun t =>
      t.flag R.DBG_STAT F.DBG_STAT_HALT_PEND = true ∧ RegsBut [R.DBG_STAT] s t ∧ Only [.csr] s t)) ∧
    (s.halted = true → v.fget F.DBG_RC_RESUME = 0 → v.fget F.DBG_RC_STEP = 0 → exec (.halt 0x6B v) s = .next s) ∧
    (s.halted = false → v.fget F.DBG_RC_HALT = 0 → exec (.resume 0x6B v) s = .next s ∧ exec (.dbgStep 0x6B v) s = .next s) ∧
    (s.halted = true → v.fget F.DBG_RC_HALT = 0 → ReleaseIdle s →
      (v.fget F.DBG_RC_STEP = 0 → SequencerIdle s → Completes (.resume 0x6B v) s (fun t => t.halted = false ∧ t.ic.latch = [] ∧
        (∀ n, t.ic.pending.has n = (s.ic.pending.has n || s.ic.latch.has n && (s.isPulse n || !s.inService n))) ∧
        (t.reg R.WDT_COUNT).toNat = max 1000 (s.reg R.WDT_COUNT).toNat ∧ (∀ c < 8, (t.mcOf c).wantHalt = false) ∧
        RegsBut ([R.DBG_STAT, R.WDT_COUNT] ++ (List.range 32).map R.FAB_GSR_STAT) s t ∧ Only [.csr, .ic, .mc] s t)) ∧
      (v.fget F.DBG_RC_STEP = 0 → s.phase = 3 → s.flag R.CFG_BOOT_STAT F.CFG_BOOT_STAT_CFG_DONE_IN = true →
        Completes (.resume 0x6B v) s (fun t => t.halted = false ∧ t.phase = 5 ∧ t.fab.gsr = false)) ∧
      (v.fget F.DBG_RC_RESUME = 0 → SequencerIdle s → Completes (.dbgStep 0x6B v) s (fun t => t.halted = false ∧
        t.flag R.DBG_STAT F.DBG_STAT_HALT_PEND = true ∧ t.dbg = { s.dbg with step := true } ∧
        (t.reg R.WDT_COUNT).toNat = max 1000 (s.reg R.WDT_COUNT).toNat ∧ Only [.csr, .ic, .mc, .dbg] s t)))) ∧
  (∀ (ep : Fin 256) (v : Word) (s : State), ep ≠ 0x6B → s.reaches ep R.DBG_RC = true →
    Completes (.halt ep v) s (fun t => t.noc.done.head? = some ⟨ep, 0, 2, []⟩ ∧ Only [.noc] s t) ∧
    Completes (.resume ep v) s (fun t => t.noc.done.head? = some ⟨ep, 0, 2, []⟩ ∧ Only [.noc] s t) ∧
    Completes (.dbgStep ep v) s (fun t => t.noc.done.head? = some ⟨ep, 0, 2, []⟩ ∧ Only [.noc] s t)) ∧
  (∀ (pc : Word) (broken : Bool) (s : State),
    (s.boot.inReset = false → s.halted = false → s.flag R.DBG_STAT F.DBG_STAT_HALT_PEND = true → s.sec.wiping = false →
      s.quiet 510 → (∀ c < 8, s.flag (R.MC_CTRL c) F.MC_CTRL_FRZ_DBG = false) →
      Completes (.coreHalt pc broken) s (fun t => t.halted = true ∧ t.flag R.DBG_STAT F.DBG_STAT_HALT_PEND = false ∧
        t.flag R.DBG_STAT F.DBG_STAT_HALT_ENTERED = true ∧ t.reg R.DBG_PC = pc ∧
        (t.reg R.DBG_HALT_CNT).toNat = ((s.reg R.DBG_HALT_CNT).toNat + 1) % 2 ^ 32 ∧
        t.dbg = { s.dbg with frz := s.reg R.DBG_FRZ, frzSect := s.reg R.DBG_FRZ_SECT, step := false } ∧
        t.err.waiting = s.err.waiting ++ [⟨0, ⟨510, 0, 0x1B, 0x81 * 2 ^ 24⟩, 0⟩] ++
          (if broken then [⟨1, ⟨510, 0, 0x1B, 0x82 * 2 ^ 24⟩, 0⟩] else []) ∧
        (broken = true → t.flag R.DBG_STAT F.DBG_STAT_LOCK_BROKEN = true) ∧
        (broken = false → t.flag R.DBG_STAT F.DBG_STAT_LOCK_BROKEN = s.flag R.DBG_STAT F.DBG_STAT_LOCK_BROKEN ∧
          RegsBut [R.DBG_STAT, R.DBG_PC, R.DBG_HALT_CNT, R.WDT_COUNT] s t) ∧
        (t.reg R.WDT_COUNT).toNat ≤ (s.reg R.WDT_COUNT).toNat ∧ Only [.csr, .ic, .err, .dbg, .draws] s t)) ∧
    (s.boot.inReset = true ∨ s.halted = true ∨ s.flag R.DBG_STAT F.DBG_STAT_HALT_PEND = false ∨ s.sec.wiping = true →
      exec (.coreHalt pc broken) s = .next s))

/-- R633, R634: a kick with the key reloads the count and clears FIRST; the first expiry sets FIRST with a UE record, the second clears it with an FE
record and takes the action selected; EN at 0, and a halt, stop it. -/
def Watchdog : Prop :=
  (∀ (v : Word) (s : State), s.mayWrite 0x68 R.WDT_KICK →
    (v.fget F.WDT_KICK_KEY = 0xC1A5 → Completes (.wdtKick 0x68 v) s (fun t =>
      (t.reg R.WDT_COUNT).toNat = max 1000 (s.reg R.WDT_LOAD).toNat ∧ t.flag R.WDT_STAT F.WDT_STAT_FIRST = false ∧
      RegsBut [R.WDT_COUNT, R.WDT_STAT] s t ∧ Only [.csr] s t)) ∧
    (v.fget F.WDT_KICK_KEY ≠ 0xC1A5 → Completes (.wdtKick 0x68 v) s (fun t =>
      t.flag R.WDT_STAT F.WDT_STAT_BADKEY = true ∧ t.flag R.WDT_STAT F.WDT_STAT_FIRST = s.flag R.WDT_STAT F.WDT_STAT_FIRST ∧
      RegsBut [R.WDT_STAT] s t ∧ Only [.csr] s t))) ∧
  (∀ s : State,
    (s.boot.inReset = false → s.flag R.WDT_CTRL F.WDT_CTRL_EN = true → s.halted = false → s.quiet 4 →
      (s.flag R.WDT_STAT F.WDT_STAT_FIRST = false → Completes .wdtExpiry s (fun t => t.flag R.WDT_STAT F.WDT_STAT_FIRST = true ∧
        t.fld R.WDT_STAT F.WDT_STAT_EXPIRIES = (s.fld R.WDT_STAT F.WDT_STAT_EXPIRIES + 1) % 2 ^ 16 ∧
        (t.reg R.WDT_COUNT).toNat = max 1000 (s.reg R.WDT_LOAD).toNat ∧ RaisedIn s 4 t ∧
        t.err.waiting = s.err.waiting ++ [⟨0, ⟨4, 2, 0x1A, 0x91 * 2 ^ 24⟩, 0⟩] ∧ RegsBut [R.WDT_COUNT, R.WDT_STAT] s t ∧
        Only [.csr, .ic, .err] s t)) ∧
      (s.flag R.WDT_STAT F.WDT_STAT_FIRST = true →
        (s.fld R.WDT_CTRL F.WDT_CTRL_ACTION = 0 → Completes .wdtExpiry s (fun t =>
          t.flag R.WDT_STAT F.WDT_STAT_FIRST = false ∧ (t.reg R.WDT_COUNT).toNat = max 1000 (s.reg R.WDT_LOAD).toNat ∧
          t.err.waiting = s.err.waiting ++ [⟨0, ⟨4, 3, 0x1A, 0x92 * 2 ^ 24⟩, 0⟩] ∧ RegsBut [R.WDT_COUNT, R.WDT_STAT] s t ∧
          Only [.csr, .ic, .err] s t)) ∧
        (s.fld R.WDT_CTRL F.WDT_CTRL_ACTION = 1 → Completes .wdtExpiry s (fun t => t.boot.fw = false ∧ t.fw.sessions = [] ∧
          t.pad.words = [] ∧ t.flag R.WDT_STAT F.WDT_STAT_FIRST = false ∧ ⟨0, ⟨4, 3, 0x1A, 0x92 * 2 ^ 24⟩, 0⟩ ∈ t.err.waiting ∧
          t.act = s.act ∧ t.shd = s.shd ∧ t.fab = s.fab ∧ t.rgn = s.rgn ∧ t.noc = s.noc ∧ t.ser = s.ser ∧ t.user = s.user)) ∧
        (2 ≤ s.fld R.WDT_CTRL F.WDT_CTRL_ACTION → Completes .wdtExpiry s (fun t => t.boot.fw = false ∧ t.fw.sessions = [] ∧
          t.pad.words = [] ∧ t.flag R.WDT_STAT F.WDT_STAT_FIRST = false ∧ ⟨0, ⟨4, 3, 0x1A, 0x92 * 2 ^ 24⟩, 0⟩ ∈ t.err.waiting ∧
          t.boot.clearing = true ∧ (∀ k, t.act.frame k = Frame.zero) ∧ (∀ k, t.shd.frame k = Frame.zero))))) ∧
    (s.boot.inReset = true ∨ s.flag R.WDT_CTRL F.WDT_CTRL_EN = false ∨ s.halted = true → exec .wdtExpiry s = .next s))

end Sys2Proof

/-- R26, R627, R628, R629, R630, R631, R632, R633, R634, R636: halts of the core and the watchdog. -/
def Obligations.HaltsAndWatchdog : Prop := HaltsAndReleases ∧ Watchdog

/-- R635: EN of the watchdog is cleared by a write that carries the key 0xC1A5 and by no other, which sets BADKEY; WDT_LOAD and ACTION are locked while EN is 1; any other
endpoint's write gets REFUSED. -/
def Obligations.WatchdogDisableNeedsTheKey : Prop :=
  (∀ (v : Word) (s : State), s.mayWrite 0x68 R.WDT_CTRL → s.flag R.WDT_CTRL F.WDT_CTRL_EN = true →
    (v.fget F.WDT_CTRL_KEY = 0xC1A5 → Completes (.wdtDisable 0x68 v) s (fun t => t.flag R.WDT_CTRL F.WDT_CTRL_EN = false ∧
      t.fld R.WDT_CTRL F.WDT_CTRL_ACTION = s.fld R.WDT_CTRL F.WDT_CTRL_ACTION)) ∧
    (v.fget F.WDT_CTRL_KEY = 0xC1A5 → v.fget F.WDT_CTRL_ACTION = s.fld R.WDT_CTRL F.WDT_CTRL_ACTION →
      Completes (.wdtDisable 0x68 v) s (fun t => t.flag R.WDT_CTRL F.WDT_CTRL_EN = false ∧
        t.fld R.WDT_CTRL F.WDT_CTRL_ACTION = s.fld R.WDT_CTRL F.WDT_CTRL_ACTION ∧
        (t.reg R.WDT_COUNT).toNat ≤ (s.reg R.WDT_COUNT).toNat ∧ RegsBut [R.WDT_CTRL, R.WDT_COUNT] s t ∧
        Only [.csr, .draws] s t)) ∧
    (v.fget F.WDT_CTRL_KEY ≠ 0xC1A5 → Completes (.wdtDisable 0x68 v) s (fun t => t.flag R.WDT_STAT F.WDT_STAT_BADKEY = true ∧
      RegsBut [R.WDT_STAT] s t ∧ Only [.csr] s t))) ∧
  (∀ (v : Word) (s : State), s.mayWrite 0x68 R.WDT_LOAD →
    (s.flag R.WDT_CTRL F.WDT_CTRL_EN = false → Completes (.registerWrite 0x68 R.WDT_LOAD v) s (fun t =>
        t.reg R.WDT_LOAD = v ∧ RegsBut [R.WDT_LOAD] s t ∧ Only [.csr] s t) ∧
      Completes (.registerWrite 0x68 R.WDT_CTRL v) s (fun t =>
        t.fld R.WDT_CTRL F.WDT_CTRL_ACTION = v.fget F.WDT_CTRL_ACTION ∧
        t.fld R.WDT_CTRL F.WDT_CTRL_EN = v.fget F.WDT_CTRL_EN ∧ RegsBut [R.WDT_CTRL] s t ∧ Only [.csr] s t)) ∧
    (s.flag R.WDT_CTRL F.WDT_CTRL_EN = true → s.quiet 4 →
      (v ≠ s.reg R.WDT_LOAD → Completes (.registerWrite 0x68 R.WDT_LOAD v) s (fun t =>
        t.flag R.WDT_STAT F.WDT_STAT_LOCKED_WR = true ∧
        t.err.waiting = s.err.waiting ++ [⟨0, ⟨4, 0, 0x18, 0x104⟩, 0⟩] ∧ RegsBut [R.WDT_STAT] s t ∧ Only [.csr, .err] s t)) ∧
      (v.fget F.WDT_CTRL_EN = 1 → v.fget F.WDT_CTRL_ACTION ≠ s.fld R.WDT_CTRL F.WDT_CTRL_ACTION →
        Completes (.registerWrite 0x68 R.WDT_CTRL v) s (fun t => t.flag R.WDT_STAT F.WDT_STAT_LOCKED_WR = true ∧
          t.err.waiting = s.err.waiting ++ [⟨0, ⟨4, 0, 0x18, 0x100⟩, 0⟩] ∧ RegsBut [R.WDT_STAT] s t ∧
          Only [.csr, .err] s t)))) ∧
  (∀ (ep : Fin 256) (v : Word) (s : State), ep ≠ 0x68 → s.reaches ep R.WDT_CTRL = true →
    Completes (.wdtKick ep v) s (fun t => t.noc.done.head? = some ⟨ep, 0, 2, []⟩ ∧ Only [.noc] s t) ∧
    Completes (.wdtDisable ep v) s (fun t => t.noc.done.head? = some ⟨ep, 0, 2, []⟩ ∧ Only [.noc] s t) ∧
    ∀ off ∈ [R.WDT_CTRL, R.WDT_LOAD, R.WDT_KICK, R.WDT_STAT], Completes (.registerWrite ep off v) s (fun t =>
      t.noc.done.head? = some ⟨ep, 0, 2, []⟩ ∧ Only [.noc] s t))
end

