-- ==== Sys2Proof/Laws/Tbl.lean ====
section
/-! SUPPORT. Tbl.lean: what reading a sparse table, a set or a field gives after it has been written, and that the
canonical form is kept. -/

namespace Sys2Proof

/-- Reading a key that was erased gives its default. -/
theorem Tbl.get_erase_same {α : Type} (d : Nat → α) (t : Tbl α) (k : Nat) : Tbl.get d (Tbl.erase t k) k = d k := by
  induction t with
  | nil => rfl
  | cons p r ih =>
    obtain ⟨a, v⟩ := p
    by_cases h : a = k
    · simpa [Tbl.erase, h] using ih
    · simpa [Tbl.erase, List.filter_cons, h, Tbl.get] using ih

/-- Erasing a key leaves every other key's value. -/
theorem Tbl.get_erase_other {α : Type} (d : Nat → α) (t : Tbl α) (k j : Nat) (h : j ≠ k) :
    Tbl.get d (Tbl.erase t k) j = Tbl.get d t j := by
  induction t with
  | nil => rfl
  | cons p r ih =>
    obtain ⟨a, v⟩ := p
    by_cases ha : a = k
    · have : ¬ a = j := fun e => h (e ▸ ha)
      simpa [Tbl.erase, ha, Tbl.get, Ne.symm h] using ih
    · simp only [Tbl.erase] at ih
      simp [Tbl.erase, ha, Tbl.get, ih]

/-- An inserted key that was not listed reads as the value inserted. -/
theorem Tbl.get_insert_same {α : Type} (d : Nat → α) (t : Tbl α) (k : Nat) (v : α) (h : ∀ p ∈ t, p.1 ≠ k) :
    Tbl.get d (Tbl.insert k v t) k = v := by
  induction t with
  | nil => simp [Tbl.insert, Tbl.get]
  | cons p r ih =>
    obtain ⟨a, w⟩ := p
    have ha : a ≠ k := h (a, w) (by simp)
    have hr : ∀ p ∈ r, p.1 ≠ k := fun p hp => h p (by simp [hp])
    by_cases hk : k < a
    · simp [Tbl.insert, hk, Tbl.get]
    · simp [Tbl.insert, hk, Tbl.get, ha, ih hr]

/-- An insertion leaves every other key's value. -/
theorem Tbl.get_insert_other {α : Type} (d : Nat → α) (t : Tbl α) (k j : Nat) (v : α) (h : j ≠ k) :
    Tbl.get d (Tbl.insert k v t) j = Tbl.get d t j := by
  induction t with
  | nil => simp [Tbl.insert, Tbl.get, Ne.symm h]
  | cons p r ih =>
    obtain ⟨a, w⟩ := p
    by_cases hk : k < a <;> simp [Tbl.insert, hk, Tbl.get, ih, Ne.symm h]

/-- Reading what was written. -/
@[simp] theorem Tbl.get_set_same {α : Type} [DecidableEq α] (d : Nat → α) (t : Tbl α) (k : Nat) (v : α) :
    Tbl.get d (Tbl.set d t k v) k = v := by
  unfold Tbl.set
  split
  · next h => rw [Tbl.get_erase_same, h]
  · exact Tbl.get_insert_same d _ k v (by simp [Tbl.erase])

/-- A write leaves every other key's value. -/
theorem Tbl.get_set_other {α : Type} [DecidableEq α] (d : Nat → α) (t : Tbl α) (k j : Nat) (v : α) (h : j ≠ k) :
    Tbl.get d (Tbl.set d t k v) j = Tbl.get d t j := by
  unfold Tbl.set
  split
  · exact Tbl.get_erase_other d t k j h
  · rw [Tbl.get_insert_other d _ k j v h, Tbl.get_erase_other d t k j h]

/-- Both at once. -/
theorem Tbl.get_set {α : Type} [DecidableEq α] (d : Nat → α) (t : Tbl α) (k j : Nat) (v : α) :
    Tbl.get d (Tbl.set d t k v) j = if j = k then v else Tbl.get d t j := by
  by_cases h : j = k
  · subst h; simp
  · simp [h, Tbl.get_set_other d t k j v h]

/-- A filtered table keeps the canonical form. -/
theorem Tbl.wf_filter {α : Type} [DecidableEq α] (d : Nat → α) (t : Tbl α) (p : Nat × α → Bool) (h : Tbl.wf d t) :
    Tbl.wf d (t.filter p) :=
  ⟨h.1.filter p, fun q hq => h.2 q (List.mem_filter.mp hq).1⟩

/-- The members of an insertion. -/
theorem Tbl.mem_insert {α : Type} (t : Tbl α) (k : Nat) (v : α) (p : Nat × α) :
    p ∈ Tbl.insert k v t ↔ p = (k, v) ∨ p ∈ t := by
  induction t with
  | nil => simp [Tbl.insert]
  | cons q r ih =>
    obtain ⟨a, w⟩ := q
    by_cases hk : k < a
    · simp [Tbl.insert, hk]
    · simp only [Tbl.insert, hk, if_false, List.mem_cons, ih]
      tauto

/-- Inserting an unlisted key keeps the keys strictly rising. -/
theorem Tbl.pairwise_insert {α : Type} (t : Tbl α) (k : Nat) (v : α) (hn : ∀ p ∈ t, p.1 ≠ k)
    (h : t.Pairwise (fun p q => p.1 < q.1)) : (Tbl.insert k v t).Pairwise (fun p q => p.1 < q.1) := by
  induction t with
  | nil => simp [Tbl.insert]
  | cons q r ih =>
    obtain ⟨a, w⟩ := q
    have hr := (List.pairwise_cons.mp h)
    by_cases hk : k < a
    · simp only [Tbl.insert, hk, if_true, List.pairwise_cons]
      exact ⟨fun p hp => by
        rcases List.mem_cons.mp hp with rfl | hp
        · exact hk
        · exact lt_trans hk (hr.1 p hp), hr.1, hr.2⟩
    · simp only [Tbl.insert, hk, if_false, List.pairwise_cons]
      refine ⟨fun p hp => ?_, ih (fun p hp => hn p (by simp [hp])) hr.2⟩
      rcases (Tbl.mem_insert r k v p).mp hp with rfl | hp
      · have := hn (a, w) (by simp); simp only at this ⊢; omega
      · exact hr.1 p hp

/-- A write keeps the canonical form. -/
theorem Tbl.wf_set {α : Type} [DecidableEq α] (d : Nat → α) (t : Tbl α) (k : Nat) (v : α) (h : Tbl.wf d t) :
    Tbl.wf d (Tbl.set d t k v) := by
  have he : Tbl.wf d (Tbl.erase t k) := Tbl.wf_filter d t _ h
  unfold Tbl.set
  split
  · exact he
  · next hv =>
    refine ⟨Tbl.pairwise_insert _ k v (by simp [Tbl.erase]) he.1, fun p hp => ?_⟩
    rcases (Tbl.mem_insert _ k v p).mp hp with rfl | hp
    · exact hv
    · exact he.2 p hp

/-- The members of a set after an addition. -/
@[simp] theorem NSet.mem_add (t : NSet) (n k : Nat) : k ∈ NSet.add t n ↔ k = n ∨ k ∈ t := by
  have hi : ∀ l : NSet, k ∈ NSet.insert n l ↔ k = n ∨ k ∈ l := by
    intro l
    induction l with
    | nil => simp [NSet.insert]
    | cons a r ih =>
      by_cases h : n < a
      · simp [NSet.insert, h]
      · simp only [NSet.insert, h, if_false, List.mem_cons, ih]; tauto
  unfold NSet.add
  rw [hi]
  simp only [NSet.del, List.mem_filter, bne_iff_ne, ne_eq]
  tauto

/-- The members of a set after a removal. -/
@[simp] theorem NSet.mem_del (t : NSet) (n k : Nat) : k ∈ NSet.del t n ↔ k ∈ t ∧ k ≠ n := by
  simp [NSet.del]

/-- Bit `j` of a word after a field has been written. -/
theorem Word.getLsbD_fput (v : Word) (f : Fld) (n j : Nat) (hj : j < 32) :
    (Word.fput v f n).getLsbD j = if f.lo ≤ j ∧ j < f.lo + f.w then n.testBit (j - f.lo) else v.getLsbD j := by
  have hm : f.mask.getLsbD j = decide (f.lo ≤ j ∧ j < f.lo + f.w) := by
    unfold Fld.mask
    rw [BitVec.getLsbD_ofNat, Nat.mul_comm, Nat.testBit_two_pow_mul, Nat.testBit_two_pow_sub_one]
    by_cases h1 : f.lo ≤ j <;> by_cases h2 : j < f.lo + f.w
    · have : j - f.lo < f.w := by omega
      simp [h1, h2, this, hj]
    · have : ¬ j - f.lo < f.w := by omega
      simp [h1, h2, this]
    · simp [h1]
    · simp [h1]
  unfold Word.fput
  rw [BitVec.getLsbD_or, BitVec.getLsbD_and, BitVec.getLsbD_not, hm, BitVec.getLsbD_ofNat, Nat.mul_comm,
    Nat.testBit_two_pow_mul, Nat.testBit_mod_two_pow]
  by_cases h1 : f.lo ≤ j <;> by_cases h2 : j < f.lo + f.w
  · have : j - f.lo < f.w := by omega
    simp [h1, h2, this, hj]
  · have : ¬ j - f.lo < f.w := by omega
    simp [h1, h2, this, hj]
  · simp [h1, hj]
  · simp [h1, hj]

/-- Bit `k` of a field. -/
theorem Word.testBit_fget (v : Word) (f : Fld) (k : Nat) :
    (Word.fget v f).testBit k = (decide (k < f.w) && v.getLsbD (f.lo + k)) := by
  rw [Word.fget, Nat.testBit_mod_two_pow, Nat.testBit_shiftRight, BitVec.testBit_toNat]

/-- A field that lies in the word reads as it was written. -/
theorem Word.fget_fput_same (v : Word) (f : Fld) (n : Nat) (h : f.lo + f.w ≤ 32) :
    Word.fget (Word.fput v f n) f = n % 2 ^ f.w := by
  apply Nat.eq_of_testBit_eq
  intro k
  rw [Word.testBit_fget, Nat.testBit_mod_two_pow]
  by_cases hk : k < f.w
  · rw [Word.getLsbD_fput _ _ _ _ (by omega)]
    simp [hk]
  · simp [hk]

/-- Writing a field leaves a field apart from it. -/
theorem Word.fget_fput_apart (v : Word) (f g : Fld) (n : Nat) (h : g.lo + g.w ≤ f.lo ∨ f.lo + f.w ≤ g.lo)
    (hg : g.lo + g.w ≤ 32) : Word.fget (Word.fput v f n) g = Word.fget v g := by
  apply Nat.eq_of_testBit_eq
  intro k
  rw [Word.testBit_fget, Word.testBit_fget]
  by_cases hk : k < g.w
  · rw [Word.getLsbD_fput _ _ _ _ (by omega)]
    have : ¬ (f.lo ≤ g.lo + k ∧ g.lo + k < f.lo + f.w) := by omega
    simp [this]
  · simp [hk]

end Sys2Proof
end

