-- ==== Sys2Proof/Laws/State.lean ====
section
/-! SUPPORT. State.lean: what a register reads as after each register update, and the parts of the state that each
update keeps. -/

namespace Sys2Proof.Machine

/-- Any register after a register is set. -/
theorem State.reg_setReg (s : State) (off j : Nat) (v : Word) :
    (s.setReg off v).reg j = if j = off then v else s.reg j := Tbl.get_set _ _ _ _ _

/-- The register that was set. -/
@[simp] theorem State.reg_setReg_same (s : State) (off : Nat) (v : Word) : (s.setReg off v).reg off = v :=
  Tbl.get_set_same _ _ _ _

/-- Any staging copy after one is set. -/
theorem State.staged_setStaged (s : State) (off j : Nat) (v : Word) :
    (s.setStaged off v).staged j = if j = off then v else s.staged j := Tbl.get_set _ _ _ _ _

/-- Setting a staging copy leaves the values in effect. -/
@[simp] theorem State.reg_setStaged (s : State) (off j : Nat) (v : Word) : (s.setStaged off v).reg j = s.reg j := rfl

/-- Setting a value in effect leaves the staging copies. -/
@[simp] theorem State.staged_setReg (s : State) (off j : Nat) (v : Word) : (s.setReg off v).staged j = s.staged j := rfl

/-- Any register after a field is set. -/
theorem State.reg_setFld (s : State) (off j : Nat) (f : Fld) (n : Nat) :
    (s.setFld off f n).reg j = if j = off then (s.reg off).fput f n else s.reg j := State.reg_setReg _ _ _ _

/-- The field that was set. -/
theorem State.fld_setFld_same (s : State) (off : Nat) (f : Fld) (n : Nat) (h : f.lo + f.w ≤ 32) :
    (s.setFld off f n).fld off f = n % 2 ^ f.w := by
  simp [State.fld, State.setFld, Word.fget_fput_same _ _ _ h]

/-- A field of another register. -/
theorem State.fld_setFld_other (s : State) (off j : Nat) (f g : Fld) (n : Nat) (h : j ≠ off) :
    (s.setFld off f n).fld j g = s.fld j g := by simp [State.fld, State.reg_setFld, h]

/-- A field of the same register that lies apart. -/
theorem State.fld_setFld_apart (s : State) (off : Nat) (f g : Fld) (n : Nat)
    (h : g.lo + g.w ≤ f.lo ∨ f.lo + f.w ≤ g.lo) (hg : g.lo + g.w ≤ 32) :
    (s.setFld off f n).fld off g = s.fld off g := by
  simp [State.fld, State.setFld, Word.fget_fput_apart _ _ _ _ h hg]

/-- The flag that was set. -/
theorem State.flag_setFlag_same (s : State) (off : Nat) (lo : Nat) (b : Bool) (h : lo < 32) :
    (s.setFlag off ⟨lo, 1⟩ b).flag off ⟨lo, 1⟩ = b := by
  unfold State.flag State.setFlag
  rw [State.fld_setFld_same _ _ _ _ (by simpa using h)]
  cases b <;> simp [b2n]

/-- Any bit of any register after a bit is set. -/
theorem State.bit_setBit (s : State) (off j i k : Nat) (b : Bool) (hk : k < 32) :
    (s.setBit off i b).bit j k = if j = off ∧ k = i then b else s.bit j k := by
  unfold State.bit State.setBit
  rw [State.reg_setFld]
  by_cases h : j = off
  · subst h
    rw [if_pos rfl, Word.getLsbD_fput _ _ _ _ hk]
    by_cases h1 : i ≤ k <;> by_cases h2 : k < i + 1
    · have : k = i := by omega
      subst this; cases b <;> simp [b2n]
    all_goals
      have : k ≠ i := by omega
      simp [this, h1, h2]
  · simp [h]

/-! Setting a register keeps every other part. -/

@[simp] theorem State.stg_setReg (s : State) (off : Nat) (v : Word) : (s.setReg off v).stg = s.stg := rfl
@[simp] theorem State.ic_setReg (s : State) (off : Nat) (v : Word) : (s.setReg off v).ic = s.ic := rfl
@[simp] theorem State.err_setReg (s : State) (off : Nat) (v : Word) : (s.setReg off v).err = s.err := rfl
@[simp] theorem State.act_setReg (s : State) (off : Nat) (v : Word) : (s.setReg off v).act = s.act := rfl
@[simp] theorem State.shd_setReg (s : State) (off : Nat) (v : Word) : (s.setReg off v).shd = s.shd := rfl
@[simp] theorem State.rgn_setReg (s : State) (off : Nat) (v : Word) : (s.setReg off v).rgn = s.rgn := rfl
@[simp] theorem State.base_setReg (s : State) (off : Nat) (v : Word) : (s.setReg off v).base = s.base := rfl
@[simp] theorem State.boot_setReg (s : State) (off : Nat) (v : Word) : (s.setReg off v).boot = s.boot := rfl
@[simp] theorem State.gate_setReg (s : State) (off : Nat) (v : Word) : (s.setReg off v).gate = s.gate := rfl
@[simp] theorem State.scrub_setReg (s : State) (off : Nat) (v : Word) : (s.setReg off v).scrub = s.scrub := rfl
@[simp] theorem State.fab_setReg (s : State) (off : Nat) (v : Word) : (s.setReg off v).fab = s.fab := rfl
@[simp] theorem State.noc_setReg (s : State) (off : Nat) (v : Word) : (s.setReg off v).noc = s.noc := rfl
@[simp] theorem State.fuses_setReg (s : State) (off : Nat) (v : Word) : (s.setReg off v).fuses = s.fuses := rfl
@[simp] theorem State.sec_setReg (s : State) (off : Nat) (v : Word) : (s.setReg off v).sec = s.sec := rfl
@[simp] theorem State.tim_setReg (s : State) (off : Nat) (v : Word) : (s.setReg off v).tim = s.tim := rfl
@[simp] theorem State.ser_setReg (s : State) (off : Nat) (v : Word) : (s.setReg off v).ser = s.ser := rfl
@[simp] theorem State.board_setReg (s : State) (off : Nat) (v : Word) : (s.setReg off v).board = s.board := rfl
@[simp] theorem State.pad_setReg (s : State) (off : Nat) (v : Word) : (s.setReg off v).pad = s.pad := rfl
@[simp] theorem State.mbx_setReg (s : State) (off : Nat) (v : Word) : (s.setReg off v).mbx = s.mbx := rfl
@[simp] theorem State.fw_setReg (s : State) (off : Nat) (v : Word) : (s.setReg off v).fw = s.fw := rfl
@[simp] theorem State.ist_setReg (s : State) (off : Nat) (v : Word) : (s.setReg off v).ist = s.ist := rfl
@[simp] theorem State.tap_setReg (s : State) (off : Nat) (v : Word) : (s.setReg off v).tap = s.tap := rfl
@[simp] theorem State.dbg_setReg (s : State) (off : Nat) (v : Word) : (s.setReg off v).dbg = s.dbg := rfl
@[simp] theorem State.mc_setReg (s : State) (off : Nat) (v : Word) : (s.setReg off v).mc = s.mc := rfl
@[simp] theorem State.rld_setReg (s : State) (off : Nat) (v : Word) : (s.setReg off v).rld = s.rld := rfl
@[simp] theorem State.clk_setReg (s : State) (off : Nat) (v : Word) : (s.setReg off v).clk = s.clk := rfl
@[simp] theorem State.cross_setReg (s : State) (off : Nat) (v : Word) : (s.setReg off v).cross = s.cross := rfl
@[simp] theorem State.out_setReg (s : State) (off : Nat) (v : Word) : (s.setReg off v).out = s.out := rfl
@[simp] theorem State.draws_setReg (s : State) (off : Nat) (v : Word) : (s.setReg off v).draws = s.draws := rfl
@[simp] theorem State.pending_setReg (s : State) (off : Nat) (v : Word) : (s.setReg off v).pending = s.pending := rfl

/-! Setting a staging copy keeps every other part. -/

@[simp] theorem State.csr_setStaged (s : State) (off : Nat) (v : Word) : (s.setStaged off v).csr = s.csr := rfl
@[simp] theorem State.ic_setStaged (s : State) (off : Nat) (v : Word) : (s.setStaged off v).ic = s.ic := rfl
@[simp] theorem State.err_setStaged (s : State) (off : Nat) (v : Word) : (s.setStaged off v).err = s.err := rfl
@[simp] theorem State.act_setStaged (s : State) (off : Nat) (v : Word) : (s.setStaged off v).act = s.act := rfl
@[simp] theorem State.shd_setStaged (s : State) (off : Nat) (v : Word) : (s.setStaged off v).shd = s.shd := rfl
@[simp] theorem State.rgn_setStaged (s : State) (off : Nat) (v : Word) : (s.setStaged off v).rgn = s.rgn := rfl
@[simp] theorem State.base_setStaged (s : State) (off : Nat) (v : Word) : (s.setStaged off v).base = s.base := rfl
@[simp] theorem State.boot_setStaged (s : State) (off : Nat) (v : Word) : (s.setStaged off v).boot = s.boot := rfl
@[simp] theorem State.gate_setStaged (s : State) (off : Nat) (v : Word) : (s.setStaged off v).gate = s.gate := rfl
@[simp] theorem State.scrub_setStaged (s : State) (off : Nat) (v : Word) : (s.setStaged off v).scrub = s.scrub := rfl
@[simp] theorem State.fab_setStaged (s : State) (off : Nat) (v : Word) : (s.setStaged off v).fab = s.fab := rfl
@[simp] theorem State.noc_setStaged (s : State) (off : Nat) (v : Word) : (s.setStaged off v).noc = s.noc := rfl
@[simp] theorem State.fuses_setStaged (s : State) (off : Nat) (v : Word) : (s.setStaged off v).fuses = s.fuses := rfl
@[simp] theorem State.sec_setStaged (s : State) (off : Nat) (v : Word) : (s.setStaged off v).sec = s.sec := rfl
@[simp] theorem State.tim_setStaged (s : State) (off : Nat) (v : Word) : (s.setStaged off v).tim = s.tim := rfl
@[simp] theorem State.ser_setStaged (s : State) (off : Nat) (v : Word) : (s.setStaged off v).ser = s.ser := rfl
@[simp] theorem State.board_setStaged (s : State) (off : Nat) (v : Word) : (s.setStaged off v).board = s.board := rfl
@[simp] theorem State.pad_setStaged (s : State) (off : Nat) (v : Word) : (s.setStaged off v).pad = s.pad := rfl
@[simp] theorem State.mbx_setStaged (s : State) (off : Nat) (v : Word) : (s.setStaged off v).mbx = s.mbx := rfl
@[simp] theorem State.fw_setStaged (s : State) (off : Nat) (v : Word) : (s.setStaged off v).fw = s.fw := rfl
@[simp] theorem State.ist_setStaged (s : State) (off : Nat) (v : Word) : (s.setStaged off v).ist = s.ist := rfl
@[simp] theorem State.tap_setStaged (s : State) (off : Nat) (v : Word) : (s.setStaged off v).tap = s.tap := rfl
@[simp] theorem State.dbg_setStaged (s : State) (off : Nat) (v : Word) : (s.setStaged off v).dbg = s.dbg := rfl
@[simp] theorem State.mc_setStaged (s : State) (off : Nat) (v : Word) : (s.setStaged off v).mc = s.mc := rfl
@[simp] theorem State.rld_setStaged (s : State) (off : Nat) (v : Word) : (s.setStaged off v).rld = s.rld := rfl
@[simp] theorem State.clk_setStaged (s : State) (off : Nat) (v : Word) : (s.setStaged off v).clk = s.clk := rfl
@[simp] theorem State.cross_setStaged (s : State) (off : Nat) (v : Word) : (s.setStaged off v).cross = s.cross := rfl
@[simp] theorem State.out_setStaged (s : State) (off : Nat) (v : Word) : (s.setStaged off v).out = s.out := rfl
@[simp] theorem State.draws_setStaged (s : State) (off : Nat) (v : Word) : (s.setStaged off v).draws = s.draws := rfl
@[simp] theorem State.pending_setStaged (s : State) (off : Nat) (v : Word) : (s.setStaged off v).pending = s.pending := rfl

/-! Setting a field keeps every other part. -/

@[simp] theorem State.stg_setFld (s : State) (off : Nat) (f : Fld) (n : Nat) : (s.setFld off f n).stg = s.stg := rfl
@[simp] theorem State.ic_setFld (s : State) (off : Nat) (f : Fld) (n : Nat) : (s.setFld off f n).ic = s.ic := rfl
@[simp] theorem State.err_setFld (s : State) (off : Nat) (f : Fld) (n : Nat) : (s.setFld off f n).err = s.err := rfl
@[simp] theorem State.act_setFld (s : State) (off : Nat) (f : Fld) (n : Nat) : (s.setFld off f n).act = s.act := rfl
@[simp] theorem State.shd_setFld (s : State) (off : Nat) (f : Fld) (n : Nat) : (s.setFld off f n).shd = s.shd := rfl
@[simp] theorem State.rgn_setFld (s : State) (off : Nat) (f : Fld) (n : Nat) : (s.setFld off f n).rgn = s.rgn := rfl
@[simp] theorem State.base_setFld (s : State) (off : Nat) (f : Fld) (n : Nat) : (s.setFld off f n).base = s.base := rfl
@[simp] theorem State.boot_setFld (s : State) (off : Nat) (f : Fld) (n : Nat) : (s.setFld off f n).boot = s.boot := rfl
@[simp] theorem State.gate_setFld (s : State) (off : Nat) (f : Fld) (n : Nat) : (s.setFld off f n).gate = s.gate := rfl
@[simp] theorem State.scrub_setFld (s : State) (off : Nat) (f : Fld) (n : Nat) : (s.setFld off f n).scrub = s.scrub := rfl
@[simp] theorem State.fab_setFld (s : State) (off : Nat) (f : Fld) (n : Nat) : (s.setFld off f n).fab = s.fab := rfl
@[simp] theorem State.noc_setFld (s : State) (off : Nat) (f : Fld) (n : Nat) : (s.setFld off f n).noc = s.noc := rfl
@[simp] theorem State.fuses_setFld (s : State) (off : Nat) (f : Fld) (n : Nat) : (s.setFld off f n).fuses = s.fuses := rfl
@[simp] theorem State.sec_setFld (s : State) (off : Nat) (f : Fld) (n : Nat) : (s.setFld off f n).sec = s.sec := rfl
@[simp] theorem State.tim_setFld (s : State) (off : Nat) (f : Fld) (n : Nat) : (s.setFld off f n).tim = s.tim := rfl
@[simp] theorem State.ser_setFld (s : State) (off : Nat) (f : Fld) (n : Nat) : (s.setFld off f n).ser = s.ser := rfl
@[simp] theorem State.board_setFld (s : State) (off : Nat) (f : Fld) (n : Nat) : (s.setFld off f n).board = s.board := rfl
@[simp] theorem State.pad_setFld (s : State) (off : Nat) (f : Fld) (n : Nat) : (s.setFld off f n).pad = s.pad := rfl
@[simp] theorem State.mbx_setFld (s : State) (off : Nat) (f : Fld) (n : Nat) : (s.setFld off f n).mbx = s.mbx := rfl
@[simp] theorem State.fw_setFld (s : State) (off : Nat) (f : Fld) (n : Nat) : (s.setFld off f n).fw = s.fw := rfl
@[simp] theorem State.ist_setFld (s : State) (off : Nat) (f : Fld) (n : Nat) : (s.setFld off f n).ist = s.ist := rfl
@[simp] theorem State.tap_setFld (s : State) (off : Nat) (f : Fld) (n : Nat) : (s.setFld off f n).tap = s.tap := rfl
@[simp] theorem State.dbg_setFld (s : State) (off : Nat) (f : Fld) (n : Nat) : (s.setFld off f n).dbg = s.dbg := rfl
@[simp] theorem State.mc_setFld (s : State) (off : Nat) (f : Fld) (n : Nat) : (s.setFld off f n).mc = s.mc := rfl
@[simp] theorem State.rld_setFld (s : State) (off : Nat) (f : Fld) (n : Nat) : (s.setFld off f n).rld = s.rld := rfl
@[simp] theorem State.clk_setFld (s : State) (off : Nat) (f : Fld) (n : Nat) : (s.setFld off f n).clk = s.clk := rfl
@[simp] theorem State.cross_setFld (s : State) (off : Nat) (f : Fld) (n : Nat) : (s.setFld off f n).cross = s.cross := rfl
@[simp] theorem State.out_setFld (s : State) (off : Nat) (f : Fld) (n : Nat) : (s.setFld off f n).out = s.out := rfl
@[simp] theorem State.draws_setFld (s : State) (off : Nat) (f : Fld) (n : Nat) : (s.setFld off f n).draws = s.draws := rfl
@[simp] theorem State.pending_setFld (s : State) (off : Nat) (f : Fld) (n : Nat) : (s.setFld off f n).pending = s.pending := rfl

/-! Setting a flag keeps every other part. -/

@[simp] theorem State.stg_setFlag (s : State) (off : Nat) (f : Fld) (b : Bool) : (s.setFlag off f b).stg = s.stg := rfl
@[simp] theorem State.ic_setFlag (s : State) (off : Nat) (f : Fld) (b : Bool) : (s.setFlag off f b).ic = s.ic := rfl
@[simp] theorem State.err_setFlag (s : State) (off : Nat) (f : Fld) (b : Bool) : (s.setFlag off f b).err = s.err := rfl
@[simp] theorem State.act_setFlag (s : State) (off : Nat) (f : Fld) (b : Bool) : (s.setFlag off f b).act = s.act := rfl
@[simp] theorem State.shd_setFlag (s : State) (off : Nat) (f : Fld) (b : Bool) : (s.setFlag off f b).shd = s.shd := rfl
@[simp] theorem State.rgn_setFlag (s : State) (off : Nat) (f : Fld) (b : Bool) : (s.setFlag off f b).rgn = s.rgn := rfl
@[simp] theorem State.base_setFlag (s : State) (off : Nat) (f : Fld) (b : Bool) : (s.setFlag off f b).base = s.base := rfl
@[simp] theorem State.boot_setFlag (s : State) (off : Nat) (f : Fld) (b : Bool) : (s.setFlag off f b).boot = s.boot := rfl
@[simp] theorem State.gate_setFlag (s : State) (off : Nat) (f : Fld) (b : Bool) : (s.setFlag off f b).gate = s.gate := rfl
@[simp] theorem State.scrub_setFlag (s : State) (off : Nat) (f : Fld) (b : Bool) : (s.setFlag off f b).scrub = s.scrub := rfl
@[simp] theorem State.fab_setFlag (s : State) (off : Nat) (f : Fld) (b : Bool) : (s.setFlag off f b).fab = s.fab := rfl
@[simp] theorem State.noc_setFlag (s : State) (off : Nat) (f : Fld) (b : Bool) : (s.setFlag off f b).noc = s.noc := rfl
@[simp] theorem State.fuses_setFlag (s : State) (off : Nat) (f : Fld) (b : Bool) : (s.setFlag off f b).fuses = s.fuses := rfl
@[simp] theorem State.sec_setFlag (s : State) (off : Nat) (f : Fld) (b : Bool) : (s.setFlag off f b).sec = s.sec := rfl
@[simp] theorem State.tim_setFlag (s : State) (off : Nat) (f : Fld) (b : Bool) : (s.setFlag off f b).tim = s.tim := rfl
@[simp] theorem State.ser_setFlag (s : State) (off : Nat) (f : Fld) (b : Bool) : (s.setFlag off f b).ser = s.ser := rfl
@[simp] theorem State.board_setFlag (s : State) (off : Nat) (f : Fld) (b : Bool) : (s.setFlag off f b).board = s.board := rfl
@[simp] theorem State.pad_setFlag (s : State) (off : Nat) (f : Fld) (b : Bool) : (s.setFlag off f b).pad = s.pad := rfl
@[simp] theorem State.mbx_setFlag (s : State) (off : Nat) (f : Fld) (b : Bool) : (s.setFlag off f b).mbx = s.mbx := rfl
@[simp] theorem State.fw_setFlag (s : State) (off : Nat) (f : Fld) (b : Bool) : (s.setFlag off f b).fw = s.fw := rfl
@[simp] theorem State.ist_setFlag (s : State) (off : Nat) (f : Fld) (b : Bool) : (s.setFlag off f b).ist = s.ist := rfl
@[simp] theorem State.tap_setFlag (s : State) (off : Nat) (f : Fld) (b : Bool) : (s.setFlag off f b).tap = s.tap := rfl
@[simp] theorem State.dbg_setFlag (s : State) (off : Nat) (f : Fld) (b : Bool) : (s.setFlag off f b).dbg = s.dbg := rfl
@[simp] theorem State.mc_setFlag (s : State) (off : Nat) (f : Fld) (b : Bool) : (s.setFlag off f b).mc = s.mc := rfl
@[simp] theorem State.rld_setFlag (s : State) (off : Nat) (f : Fld) (b : Bool) : (s.setFlag off f b).rld = s.rld := rfl
@[simp] theorem State.clk_setFlag (s : State) (off : Nat) (f : Fld) (b : Bool) : (s.setFlag off f b).clk = s.clk := rfl
@[simp] theorem State.cross_setFlag (s : State) (off : Nat) (f : Fld) (b : Bool) : (s.setFlag off f b).cross = s.cross := rfl
@[simp] theorem State.out_setFlag (s : State) (off : Nat) (f : Fld) (b : Bool) : (s.setFlag off f b).out = s.out := rfl
@[simp] theorem State.draws_setFlag (s : State) (off : Nat) (f : Fld) (b : Bool) : (s.setFlag off f b).draws = s.draws := rfl
@[simp] theorem State.pending_setFlag (s : State) (off : Nat) (f : Fld) (b : Bool) : (s.setFlag off f b).pending = s.pending := rfl

/-! Setting a bit keeps every other part. -/

@[simp] theorem State.stg_setBit (s : State) (off i : Nat) (b : Bool) : (s.setBit off i b).stg = s.stg := rfl
@[simp] theorem State.ic_setBit (s : State) (off i : Nat) (b : Bool) : (s.setBit off i b).ic = s.ic := rfl
@[simp] theorem State.err_setBit (s : State) (off i : Nat) (b : Bool) : (s.setBit off i b).err = s.err := rfl
@[simp] theorem State.act_setBit (s : State) (off i : Nat) (b : Bool) : (s.setBit off i b).act = s.act := rfl
@[simp] theorem State.shd_setBit (s : State) (off i : Nat) (b : Bool) : (s.setBit off i b).shd = s.shd := rfl
@[simp] theorem State.rgn_setBit (s : State) (off i : Nat) (b : Bool) : (s.setBit off i b).rgn = s.rgn := rfl
@[simp] theorem State.base_setBit (s : State) (off i : Nat) (b : Bool) : (s.setBit off i b).base = s.base := rfl
@[simp] theorem State.boot_setBit (s : State) (off i : Nat) (b : Bool) : (s.setBit off i b).boot = s.boot := rfl
@[simp] theorem State.gate_setBit (s : State) (off i : Nat) (b : Bool) : (s.setBit off i b).gate = s.gate := rfl
@[simp] theorem State.scrub_setBit (s : State) (off i : Nat) (b : Bool) : (s.setBit off i b).scrub = s.scrub := rfl
@[simp] theorem State.fab_setBit (s : State) (off i : Nat) (b : Bool) : (s.setBit off i b).fab = s.fab := rfl
@[simp] theorem State.noc_setBit (s : State) (off i : Nat) (b : Bool) : (s.setBit off i b).noc = s.noc := rfl
@[simp] theorem State.fuses_setBit (s : State) (off i : Nat) (b : Bool) : (s.setBit off i b).fuses = s.fuses := rfl
@[simp] theorem State.sec_setBit (s : State) (off i : Nat) (b : Bool) : (s.setBit off i b).sec = s.sec := rfl
@[simp] theorem State.tim_setBit (s : State) (off i : Nat) (b : Bool) : (s.setBit off i b).tim = s.tim := rfl
@[simp] theorem State.ser_setBit (s : State) (off i : Nat) (b : Bool) : (s.setBit off i b).ser = s.ser := rfl
@[simp] theorem State.board_setBit (s : State) (off i : Nat) (b : Bool) : (s.setBit off i b).board = s.board := rfl
@[simp] theorem State.pad_setBit (s : State) (off i : Nat) (b : Bool) : (s.setBit off i b).pad = s.pad := rfl
@[simp] theorem State.mbx_setBit (s : State) (off i : Nat) (b : Bool) : (s.setBit off i b).mbx = s.mbx := rfl
@[simp] theorem State.fw_setBit (s : State) (off i : Nat) (b : Bool) : (s.setBit off i b).fw = s.fw := rfl
@[simp] theorem State.ist_setBit (s : State) (off i : Nat) (b : Bool) : (s.setBit off i b).ist = s.ist := rfl
@[simp] theorem State.tap_setBit (s : State) (off i : Nat) (b : Bool) : (s.setBit off i b).tap = s.tap := rfl
@[simp] theorem State.dbg_setBit (s : State) (off i : Nat) (b : Bool) : (s.setBit off i b).dbg = s.dbg := rfl
@[simp] theorem State.mc_setBit (s : State) (off i : Nat) (b : Bool) : (s.setBit off i b).mc = s.mc := rfl
@[simp] theorem State.rld_setBit (s : State) (off i : Nat) (b : Bool) : (s.setBit off i b).rld = s.rld := rfl
@[simp] theorem State.clk_setBit (s : State) (off i : Nat) (b : Bool) : (s.setBit off i b).clk = s.clk := rfl
@[simp] theorem State.cross_setBit (s : State) (off i : Nat) (b : Bool) : (s.setBit off i b).cross = s.cross := rfl
@[simp] theorem State.out_setBit (s : State) (off i : Nat) (b : Bool) : (s.setBit off i b).out = s.out := rfl
@[simp] theorem State.draws_setBit (s : State) (off i : Nat) (b : Bool) : (s.setBit off i b).draws = s.draws := rfl
@[simp] theorem State.pending_setBit (s : State) (off i : Nat) (b : Bool) : (s.setBit off i b).pending = s.pending := rfl

/-! A saturating count keeps every other part. -/

@[simp] theorem State.stg_count (s : State) (off : Nat) (f : Fld) (n : Nat) : (s.count off f n).stg = s.stg := rfl
@[simp] theorem State.ic_count (s : State) (off : Nat) (f : Fld) (n : Nat) : (s.count off f n).ic = s.ic := rfl
@[simp] theorem State.err_count (s : State) (off : Nat) (f : Fld) (n : Nat) : (s.count off f n).err = s.err := rfl
@[simp] theorem State.act_count (s : State) (off : Nat) (f : Fld) (n : Nat) : (s.count off f n).act = s.act := rfl
@[simp] theorem State.shd_count (s : State) (off : Nat) (f : Fld) (n : Nat) : (s.count off f n).shd = s.shd := rfl
@[simp] theorem State.rgn_count (s : State) (off : Nat) (f : Fld) (n : Nat) : (s.count off f n).rgn = s.rgn := rfl
@[simp] theorem State.base_count (s : State) (off : Nat) (f : Fld) (n : Nat) : (s.count off f n).base = s.base := rfl
@[simp] theorem State.boot_count (s : State) (off : Nat) (f : Fld) (n : Nat) : (s.count off f n).boot = s.boot := rfl
@[simp] theorem State.gate_count (s : State) (off : Nat) (f : Fld) (n : Nat) : (s.count off f n).gate = s.gate := rfl
@[simp] theorem State.scrub_count (s : State) (off : Nat) (f : Fld) (n : Nat) : (s.count off f n).scrub = s.scrub := rfl
@[simp] theorem State.fab_count (s : State) (off : Nat) (f : Fld) (n : Nat) : (s.count off f n).fab = s.fab := rfl
@[simp] theorem State.noc_count (s : State) (off : Nat) (f : Fld) (n : Nat) : (s.count off f n).noc = s.noc := rfl
@[simp] theorem State.fuses_count (s : State) (off : Nat) (f : Fld) (n : Nat) : (s.count off f n).fuses = s.fuses := rfl
@[simp] theorem State.sec_count (s : State) (off : Nat) (f : Fld) (n : Nat) : (s.count off f n).sec = s.sec := rfl
@[simp] theorem State.tim_count (s : State) (off : Nat) (f : Fld) (n : Nat) : (s.count off f n).tim = s.tim := rfl
@[simp] theorem State.ser_count (s : State) (off : Nat) (f : Fld) (n : Nat) : (s.count off f n).ser = s.ser := rfl
@[simp] theorem State.board_count (s : State) (off : Nat) (f : Fld) (n : Nat) : (s.count off f n).board = s.board := rfl
@[simp] theorem State.pad_count (s : State) (off : Nat) (f : Fld) (n : Nat) : (s.count off f n).pad = s.pad := rfl
@[simp] theorem State.mbx_count (s : State) (off : Nat) (f : Fld) (n : Nat) : (s.count off f n).mbx = s.mbx := rfl
@[simp] theorem State.fw_count (s : State) (off : Nat) (f : Fld) (n : Nat) : (s.count off f n).fw = s.fw := rfl
@[simp] theorem State.ist_count (s : State) (off : Nat) (f : Fld) (n : Nat) : (s.count off f n).ist = s.ist := rfl
@[simp] theorem State.tap_count (s : State) (off : Nat) (f : Fld) (n : Nat) : (s.count off f n).tap = s.tap := rfl
@[simp] theorem State.dbg_count (s : State) (off : Nat) (f : Fld) (n : Nat) : (s.count off f n).dbg = s.dbg := rfl
@[simp] theorem State.mc_count (s : State) (off : Nat) (f : Fld) (n : Nat) : (s.count off f n).mc = s.mc := rfl
@[simp] theorem State.rld_count (s : State) (off : Nat) (f : Fld) (n : Nat) : (s.count off f n).rld = s.rld := rfl
@[simp] theorem State.clk_count (s : State) (off : Nat) (f : Fld) (n : Nat) : (s.count off f n).clk = s.clk := rfl
@[simp] theorem State.cross_count (s : State) (off : Nat) (f : Fld) (n : Nat) : (s.count off f n).cross = s.cross := rfl
@[simp] theorem State.out_count (s : State) (off : Nat) (f : Fld) (n : Nat) : (s.count off f n).out = s.out := rfl
@[simp] theorem State.draws_count (s : State) (off : Nat) (f : Fld) (n : Nat) : (s.count off f n).draws = s.draws := rfl
@[simp] theorem State.pending_count (s : State) (off : Nat) (f : Fld) (n : Nat) : (s.count off f n).pending = s.pending := rfl

/-! A wrapping count keeps every other part. -/

@[simp] theorem State.stg_countWrap (s : State) (off : Nat) (f : Fld) (n : Nat) : (s.countWrap off f n).stg = s.stg := rfl
@[simp] theorem State.ic_countWrap (s : State) (off : Nat) (f : Fld) (n : Nat) : (s.countWrap off f n).ic = s.ic := rfl
@[simp] theorem State.err_countWrap (s : State) (off : Nat) (f : Fld) (n : Nat) : (s.countWrap off f n).err = s.err := rfl
@[simp] theorem State.act_countWrap (s : State) (off : Nat) (f : Fld) (n : Nat) : (s.countWrap off f n).act = s.act := rfl
@[simp] theorem State.shd_countWrap (s : State) (off : Nat) (f : Fld) (n : Nat) : (s.countWrap off f n).shd = s.shd := rfl
@[simp] theorem State.rgn_countWrap (s : State) (off : Nat) (f : Fld) (n : Nat) : (s.countWrap off f n).rgn = s.rgn := rfl
@[simp] theorem State.base_countWrap (s : State) (off : Nat) (f : Fld) (n : Nat) : (s.countWrap off f n).base = s.base := rfl
@[simp] theorem State.boot_countWrap (s : State) (off : Nat) (f : Fld) (n : Nat) : (s.countWrap off f n).boot = s.boot := rfl
@[simp] theorem State.gate_countWrap (s : State) (off : Nat) (f : Fld) (n : Nat) : (s.countWrap off f n).gate = s.gate := rfl
@[simp] theorem State.scrub_countWrap (s : State) (off : Nat) (f : Fld) (n : Nat) : (s.countWrap off f n).scrub = s.scrub := rfl
@[simp] theorem State.fab_countWrap (s : State) (off : Nat) (f : Fld) (n : Nat) : (s.countWrap off f n).fab = s.fab := rfl
@[simp] theorem State.noc_countWrap (s : State) (off : Nat) (f : Fld) (n : Nat) : (s.countWrap off f n).noc = s.noc := rfl
@[simp] theorem State.fuses_countWrap (s : State) (off : Nat) (f : Fld) (n : Nat) : (s.countWrap off f n).fuses = s.fuses := rfl
@[simp] theorem State.sec_countWrap (s : State) (off : Nat) (f : Fld) (n : Nat) : (s.countWrap off f n).sec = s.sec := rfl
@[simp] theorem State.tim_countWrap (s : State) (off : Nat) (f : Fld) (n : Nat) : (s.countWrap off f n).tim = s.tim := rfl
@[simp] theorem State.ser_countWrap (s : State) (off : Nat) (f : Fld) (n : Nat) : (s.countWrap off f n).ser = s.ser := rfl
@[simp] theorem State.board_countWrap (s : State) (off : Nat) (f : Fld) (n : Nat) : (s.countWrap off f n).board = s.board := rfl
@[simp] theorem State.pad_countWrap (s : State) (off : Nat) (f : Fld) (n : Nat) : (s.countWrap off f n).pad = s.pad := rfl
@[simp] theorem State.mbx_countWrap (s : State) (off : Nat) (f : Fld) (n : Nat) : (s.countWrap off f n).mbx = s.mbx := rfl
@[simp] theorem State.fw_countWrap (s : State) (off : Nat) (f : Fld) (n : Nat) : (s.countWrap off f n).fw = s.fw := rfl
@[simp] theorem State.ist_countWrap (s : State) (off : Nat) (f : Fld) (n : Nat) : (s.countWrap off f n).ist = s.ist := rfl
@[simp] theorem State.tap_countWrap (s : State) (off : Nat) (f : Fld) (n : Nat) : (s.countWrap off f n).tap = s.tap := rfl
@[simp] theorem State.dbg_countWrap (s : State) (off : Nat) (f : Fld) (n : Nat) : (s.countWrap off f n).dbg = s.dbg := rfl
@[simp] theorem State.mc_countWrap (s : State) (off : Nat) (f : Fld) (n : Nat) : (s.countWrap off f n).mc = s.mc := rfl
@[simp] theorem State.rld_countWrap (s : State) (off : Nat) (f : Fld) (n : Nat) : (s.countWrap off f n).rld = s.rld := rfl
@[simp] theorem State.clk_countWrap (s : State) (off : Nat) (f : Fld) (n : Nat) : (s.countWrap off f n).clk = s.clk := rfl
@[simp] theorem State.cross_countWrap (s : State) (off : Nat) (f : Fld) (n : Nat) : (s.countWrap off f n).cross = s.cross := rfl
@[simp] theorem State.out_countWrap (s : State) (off : Nat) (f : Fld) (n : Nat) : (s.countWrap off f n).out = s.out := rfl
@[simp] theorem State.draws_countWrap (s : State) (off : Nat) (f : Fld) (n : Nat) : (s.countWrap off f n).draws = s.draws := rfl
@[simp] theorem State.pending_countWrap (s : State) (off : Nat) (f : Fld) (n : Nat) : (s.countWrap off f n).pending = s.pending := rfl

/-! Raising a source changes the interrupt controller alone; a report that and the error collector. -/

/-- What raising a source can do. -/
theorem State.raise_cases (s : State) (n : Nat) : s.raise n = s ∨ s.raise n = { s with ic := (s.raise n).ic } := by
  unfold State.raise
  split
  · exact .inl rfl
  · split <;> exact .inr rfl

/-- What a pulse can do. -/
theorem State.pulse_eq (s : State) (n : Nat) : s.pulse n = { s with ic := (s.pulse n).ic } := by
  unfold State.pulse State.when
  split
  · dsimp only
    rcases State.raise_cases s n with h | h
    · rw [h]
    · exact h
  · rfl

/-- What a level source going high can do. -/
theorem State.high_eq (s : State) (n : Nat) : s.high n = { s with ic := (s.high n).ic } := by
  unfold State.high State.when
  split
  · dsimp only
    rcases State.raise_cases s n with h | h
    · rw [h]
    · exact h
  · rfl

@[simp] theorem State.csr_pulse (s : State) (n : Nat) : (s.pulse n).csr = s.csr := by rw [State.pulse_eq]
@[simp] theorem State.stg_pulse (s : State) (n : Nat) : (s.pulse n).stg = s.stg := by rw [State.pulse_eq]
@[simp] theorem State.err_pulse (s : State) (n : Nat) : (s.pulse n).err = s.err := by rw [State.pulse_eq]
@[simp] theorem State.act_pulse (s : State) (n : Nat) : (s.pulse n).act = s.act := by rw [State.pulse_eq]
@[simp] theorem State.shd_pulse (s : State) (n : Nat) : (s.pulse n).shd = s.shd := by rw [State.pulse_eq]
@[simp] theorem State.rgn_pulse (s : State) (n : Nat) : (s.pulse n).rgn = s.rgn := by rw [State.pulse_eq]
@[simp] theorem State.base_pulse (s : State) (n : Nat) : (s.pulse n).base = s.base := by rw [State.pulse_eq]
@[simp] theorem State.boot_pulse (s : State) (n : Nat) : (s.pulse n).boot = s.boot := by rw [State.pulse_eq]
@[simp] theorem State.gate_pulse (s : State) (n : Nat) : (s.pulse n).gate = s.gate := by rw [State.pulse_eq]
@[simp] theorem State.scrub_pulse (s : State) (n : Nat) : (s.pulse n).scrub = s.scrub := by rw [State.pulse_eq]
@[simp] theorem State.fab_pulse (s : State) (n : Nat) : (s.pulse n).fab = s.fab := by rw [State.pulse_eq]
@[simp] theorem State.noc_pulse (s : State) (n : Nat) : (s.pulse n).noc = s.noc := by rw [State.pulse_eq]
@[simp] theorem State.fuses_pulse (s : State) (n : Nat) : (s.pulse n).fuses = s.fuses := by rw [State.pulse_eq]
@[simp] theorem State.sec_pulse (s : State) (n : Nat) : (s.pulse n).sec = s.sec := by rw [State.pulse_eq]
@[simp] theorem State.tim_pulse (s : State) (n : Nat) : (s.pulse n).tim = s.tim := by rw [State.pulse_eq]
@[simp] theorem State.ser_pulse (s : State) (n : Nat) : (s.pulse n).ser = s.ser := by rw [State.pulse_eq]
@[simp] theorem State.board_pulse (s : State) (n : Nat) : (s.pulse n).board = s.board := by rw [State.pulse_eq]
@[simp] theorem State.pad_pulse (s : State) (n : Nat) : (s.pulse n).pad = s.pad := by rw [State.pulse_eq]
@[simp] theorem State.mbx_pulse (s : State) (n : Nat) : (s.pulse n).mbx = s.mbx := by rw [State.pulse_eq]
@[simp] theorem State.fw_pulse (s : State) (n : Nat) : (s.pulse n).fw = s.fw := by rw [State.pulse_eq]
@[simp] theorem State.ist_pulse (s : State) (n : Nat) : (s.pulse n).ist = s.ist := by rw [State.pulse_eq]
@[simp] theorem State.tap_pulse (s : State) (n : Nat) : (s.pulse n).tap = s.tap := by rw [State.pulse_eq]
@[simp] theorem State.dbg_pulse (s : State) (n : Nat) : (s.pulse n).dbg = s.dbg := by rw [State.pulse_eq]
@[simp] theorem State.mc_pulse (s : State) (n : Nat) : (s.pulse n).mc = s.mc := by rw [State.pulse_eq]
@[simp] theorem State.rld_pulse (s : State) (n : Nat) : (s.pulse n).rld = s.rld := by rw [State.pulse_eq]
@[simp] theorem State.clk_pulse (s : State) (n : Nat) : (s.pulse n).clk = s.clk := by rw [State.pulse_eq]
@[simp] theorem State.cross_pulse (s : State) (n : Nat) : (s.pulse n).cross = s.cross := by rw [State.pulse_eq]
@[simp] theorem State.out_pulse (s : State) (n : Nat) : (s.pulse n).out = s.out := by rw [State.pulse_eq]
@[simp] theorem State.draws_pulse (s : State) (n : Nat) : (s.pulse n).draws = s.draws := by rw [State.pulse_eq]
@[simp] theorem State.pending_pulse (s : State) (n : Nat) : (s.pulse n).pending = s.pending := by rw [State.pulse_eq]

@[simp] theorem State.csr_high (s : State) (n : Nat) : (s.high n).csr = s.csr := by rw [State.high_eq]
@[simp] theorem State.stg_high (s : State) (n : Nat) : (s.high n).stg = s.stg := by rw [State.high_eq]
@[simp] theorem State.err_high (s : State) (n : Nat) : (s.high n).err = s.err := by rw [State.high_eq]
@[simp] theorem State.act_high (s : State) (n : Nat) : (s.high n).act = s.act := by rw [State.high_eq]
@[simp] theorem State.shd_high (s : State) (n : Nat) : (s.high n).shd = s.shd := by rw [State.high_eq]
@[simp] theorem State.rgn_high (s : State) (n : Nat) : (s.high n).rgn = s.rgn := by rw [State.high_eq]
@[simp] theorem State.base_high (s : State) (n : Nat) : (s.high n).base = s.base := by rw [State.high_eq]
@[simp] theorem State.boot_high (s : State) (n : Nat) : (s.high n).boot = s.boot := by rw [State.high_eq]
@[simp] theorem State.gate_high (s : State) (n : Nat) : (s.high n).gate = s.gate := by rw [State.high_eq]
@[simp] theorem State.scrub_high (s : State) (n : Nat) : (s.high n).scrub = s.scrub := by rw [State.high_eq]
@[simp] theorem State.fab_high (s : State) (n : Nat) : (s.high n).fab = s.fab := by rw [State.high_eq]
@[simp] theorem State.noc_high (s : State) (n : Nat) : (s.high n).noc = s.noc := by rw [State.high_eq]
@[simp] theorem State.fuses_high (s : State) (n : Nat) : (s.high n).fuses = s.fuses := by rw [State.high_eq]
@[simp] theorem State.sec_high (s : State) (n : Nat) : (s.high n).sec = s.sec := by rw [State.high_eq]
@[simp] theorem State.tim_high (s : State) (n : Nat) : (s.high n).tim = s.tim := by rw [State.high_eq]
@[simp] theorem State.ser_high (s : State) (n : Nat) : (s.high n).ser = s.ser := by rw [State.high_eq]
@[simp] theorem State.board_high (s : State) (n : Nat) : (s.high n).board = s.board := by rw [State.high_eq]
@[simp] theorem State.pad_high (s : State) (n : Nat) : (s.high n).pad = s.pad := by rw [State.high_eq]
@[simp] theorem State.mbx_high (s : State) (n : Nat) : (s.high n).mbx = s.mbx := by rw [State.high_eq]
@[simp] theorem State.fw_high (s : State) (n : Nat) : (s.high n).fw = s.fw := by rw [State.high_eq]
@[simp] theorem State.ist_high (s : State) (n : Nat) : (s.high n).ist = s.ist := by rw [State.high_eq]
@[simp] theorem State.tap_high (s : State) (n : Nat) : (s.high n).tap = s.tap := by rw [State.high_eq]
@[simp] theorem State.dbg_high (s : State) (n : Nat) : (s.high n).dbg = s.dbg := by rw [State.high_eq]
@[simp] theorem State.mc_high (s : State) (n : Nat) : (s.high n).mc = s.mc := by rw [State.high_eq]
@[simp] theorem State.rld_high (s : State) (n : Nat) : (s.high n).rld = s.rld := by rw [State.high_eq]
@[simp] theorem State.clk_high (s : State) (n : Nat) : (s.high n).clk = s.clk := by rw [State.high_eq]
@[simp] theorem State.cross_high (s : State) (n : Nat) : (s.high n).cross = s.cross := by rw [State.high_eq]
@[simp] theorem State.out_high (s : State) (n : Nat) : (s.high n).out = s.out := by rw [State.high_eq]
@[simp] theorem State.draws_high (s : State) (n : Nat) : (s.high n).draws = s.draws := by rw [State.high_eq]
@[simp] theorem State.pending_high (s : State) (n : Nat) : (s.high n).pending = s.pending := by rw [State.high_eq]

/-- `t` differs from `s` at most in the registers, the interrupt controller and the error collector. -/
def LogOnly (s t : State) : Prop := t = { s with ic := t.ic, err := t.err, csr := t.csr }

theorem LogOnly.refl (s : State) : LogOnly s s := rfl

theorem LogOnly.trans {s t u : State} (h1 : LogOnly s t) (h2 : LogOnly t u) : LogOnly s u := by
  unfold LogOnly at *
  rw [h1] at h2
  exact h2

theorem State.setReg_log (s : State) (off : Nat) (v : Word) : LogOnly s (s.setReg off v) := rfl

theorem State.setFld_log (s : State) (off : Nat) (f : Fld) (n : Nat) : LogOnly s (s.setFld off f n) := rfl

theorem State.setFlag_log (s : State) (off : Nat) (f : Fld) (b : Bool) : LogOnly s (s.setFlag off f b) := rfl

theorem State.count_log (s : State) (off : Nat) (f : Fld) (n : Nat) : LogOnly s (s.count off f n) := rfl

theorem State.pulse_log (s : State) (n : Nat) : LogOnly s (s.pulse n) := by
  unfold LogOnly; rw [State.pulse_eq]

theorem State.high_log (s : State) (n : Nat) : LogOnly s (s.high n) := by
  unfold LogOnly; rw [State.high_eq]

theorem State.offerFirst_log (s : State) (r : Report) (n : Nat) : LogOnly s (s.offerFirst r n) := by
  unfold State.offerFirst
  dsimp only
  split <;> rfl

theorem State.countReport_log (s : State) (r : Report) (n : Nat) : LogOnly s (s.countReport r n) :=
  (State.count_log s _ _ _).trans (State.offerFirst_log _ _ _)

theorem State.countDrop_log (s : State) (r : Report) : LogOnly s (s.countDrop r) := by
  unfold State.countDrop State.when
  dsimp only
  refine LogOnly.trans ?_ (State.high_log _ _)
  split
  · refine LogOnly.trans ?_ (State.high_log _ _)
    rfl
  · rfl

theorem State.mergeReport_log (s : State) (r : Report) (b : Bool) : LogOnly s (s.mergeReport r b) := by
  unfold State.mergeReport State.when
  split
  · rfl
  · split
    · exact (State.countReport_log _ _ _).trans (State.countDrop_log _ _)
    · exact State.countReport_log _ _ _

/-- A report changes the interrupt controller, the error collector and, where it is merged or dropped outside a halt, the
registers of the collector (R601, R602). -/
theorem State.report_log (s : State) (u : Nat) (r : Report) : LogOnly s (s.report u r) := by
  have hp : LogOnly s (s.when (r.cls != 0x18) (fun u => u.pulse r.src)) := by
    unfold State.when
    split
    · exact State.pulse_log _ _
    · rfl
  unfold State.report
  dsimp only
  refine hp.trans ?_
  split
  · rfl
  · split
    · refine LogOnly.trans ?_ (State.mergeReport_log _ _ _)
      rfl
    · exact State.mergeReport_log _ _ _

@[simp] theorem State.stg_report (s : State) (u : Nat) (r : Report) : (s.report u r).stg = s.stg := by
  rw [State.report_log s u r]
@[simp] theorem State.act_report (s : State) (u : Nat) (r : Report) : (s.report u r).act = s.act := by
  rw [State.report_log s u r]
@[simp] theorem State.shd_report (s : State) (u : Nat) (r : Report) : (s.report u r).shd = s.shd := by
  rw [State.report_log s u r]
@[simp] theorem State.rgn_report (s : State) (u : Nat) (r : Report) : (s.report u r).rgn = s.rgn := by
  rw [State.report_log s u r]
@[simp] theorem State.base_report (s : State) (u : Nat) (r : Report) : (s.report u r).base = s.base := by
  rw [State.report_log s u r]
@[simp] theorem State.boot_report (s : State) (u : Nat) (r : Report) : (s.report u r).boot = s.boot := by
  rw [State.report_log s u r]
@[simp] theorem State.gate_report (s : State) (u : Nat) (r : Report) : (s.report u r).gate = s.gate := by
  rw [State.report_log s u r]
@[simp] theorem State.scrub_report (s : State) (u : Nat) (r : Report) : (s.report u r).scrub = s.scrub := by
  rw [State.report_log s u r]
@[simp] theorem State.fab_report (s : State) (u : Nat) (r : Report) : (s.report u r).fab = s.fab := by
  rw [State.report_log s u r]
@[simp] theorem State.noc_report (s : State) (u : Nat) (r : Report) : (s.report u r).noc = s.noc := by
  rw [State.report_log s u r]
@[simp] theorem State.fuses_report (s : State) (u : Nat) (r : Report) : (s.report u r).fuses = s.fuses := by
  rw [State.report_log s u r]
@[simp] theorem State.sec_report (s : State) (u : Nat) (r : Report) : (s.report u r).sec = s.sec := by
  rw [State.report_log s u r]
@[simp] theorem State.tim_report (s : State) (u : Nat) (r : Report) : (s.report u r).tim = s.tim := by
  rw [State.report_log s u r]
@[simp] theorem State.ser_report (s : State) (u : Nat) (r : Report) : (s.report u r).ser = s.ser := by
  rw [State.report_log s u r]
@[simp] theorem State.board_report (s : State) (u : Nat) (r : Report) : (s.report u r).board = s.board := by
  rw [State.report_log s u r]
@[simp] theorem State.pad_report (s : State) (u : Nat) (r : Report) : (s.report u r).pad = s.pad := by
  rw [State.report_log s u r]
@[simp] theorem State.mbx_report (s : State) (u : Nat) (r : Report) : (s.report u r).mbx = s.mbx := by
  rw [State.report_log s u r]
@[simp] theorem State.fw_report (s : State) (u : Nat) (r : Report) : (s.report u r).fw = s.fw := by
  rw [State.report_log s u r]
@[simp] theorem State.ist_report (s : State) (u : Nat) (r : Report) : (s.report u r).ist = s.ist := by
  rw [State.report_log s u r]
@[simp] theorem State.tap_report (s : State) (u : Nat) (r : Report) : (s.report u r).tap = s.tap := by
  rw [State.report_log s u r]
@[simp] theorem State.dbg_report (s : State) (u : Nat) (r : Report) : (s.report u r).dbg = s.dbg := by
  rw [State.report_log s u r]
@[simp] theorem State.mc_report (s : State) (u : Nat) (r : Report) : (s.report u r).mc = s.mc := by
  rw [State.report_log s u r]
@[simp] theorem State.rld_report (s : State) (u : Nat) (r : Report) : (s.report u r).rld = s.rld := by
  rw [State.report_log s u r]
@[simp] theorem State.clk_report (s : State) (u : Nat) (r : Report) : (s.report u r).clk = s.clk := by
  rw [State.report_log s u r]
@[simp] theorem State.cross_report (s : State) (u : Nat) (r : Report) : (s.report u r).cross = s.cross := by
  rw [State.report_log s u r]
@[simp] theorem State.out_report (s : State) (u : Nat) (r : Report) : (s.report u r).out = s.out := by
  rw [State.report_log s u r]
@[simp] theorem State.draws_report (s : State) (u : Nat) (r : Report) : (s.report u r).draws = s.draws := by
  rw [State.report_log s u r]
@[simp] theorem State.pending_report (s : State) (u : Nat) (r : Report) : (s.report u r).pending = s.pending := by
  rw [State.report_log s u r]

/-- The report of a source and unit that has none waiting joins the waiting reports (R601). -/
theorem State.report_fresh (s : State) (u : Nat) (r : Report)
    (h : s.err.waiting.find? (fun w => w.rpt.src == r.src && w.unit == u) = none) :
    (s.report u r).err.waiting = s.err.waiting ++ [⟨u, r, 0⟩] ∧ (s.report u r).csr = s.csr := by
  have he : (s.when (r.cls != 0x18) (fun u => u.pulse r.src)).err = s.err := by
    unfold State.when; split <;> simp
  have hc : (s.when (r.cls != 0x18) (fun u => u.pulse r.src)).csr = s.csr := by
    unfold State.when; split <;> simp
  unfold State.report
  dsimp only
  rw [he, h]
  exact ⟨by simp, by simpa using hc⟩

end Sys2Proof.Machine
end

