-- ==== Sys2Proof/Laws/Mem.lean ====
section
/-! SUPPORT. Mem.lean: what the scratchpad, the block memories, the RLD memory and the flash read as after an operation on
them, and that every such operation keeps the canonical form. -/

namespace Sys2Proof.Machine

/-! ## The scratchpad -/

/-- Any word after one is stored. -/
theorem State.padWord_setPadWord (s : State) (w k : Nat) (x : BmWord) :
    (s.setPadWord w x).padWord k = if k = w then x else s.padWord k := Tbl.get_set _ _ _ _ _

/-- After the clearing of the whole scratchpad every word is zero with correct check bits. -/
@[simp] theorem State.padWord_padClear (s : State) (w : Nat) : s.padClear.padWord w = padZero := rfl

/-- A table without the keys that fail a test: they read as the default, the others as before. -/
theorem get_filter {α : Type} (d : Nat → α) (t : Tbl α) (p : Nat → Bool) (k : Nat) :
    Tbl.get d (t.filter (fun q => p q.1)) k = if p k then Tbl.get d t k else d k := by
  induction t with
  | nil => simp [Tbl.get]
  | cons q r ih =>
    obtain ⟨a, v⟩ := q
    by_cases hp : p a
    · by_cases h : a = k
      · subst h; simp [Tbl.get, hp]
      · simp [Tbl.get, hp, h, ih]
    · by_cases h : a = k
      · subst h; simp [hp, ih]
      · simp [Tbl.get, hp, h, ih]

/-- A wipe leaves the saggar zero and every other word as it was (R564). -/
theorem State.padWord_padWipe (s : State) (w : Nat) :
    s.padWipe.padWord w = if w < padSaggar then s.padWord w else padZero := by
  have h := get_filter (fun _ => padZero) s.pad.words (fun k => decide (k < padSaggar)) w
  simpa [State.padWipe, State.padWord] using h

/-- Storing a word of the scratchpad keeps the canonical form. -/
theorem State.memsCanon_setPadWord (s : State) (w : Nat) (x : BmWord) (h : s.memsCanon) : (s.setPadWord w x).memsCanon :=
  ⟨Tbl.wf_set _ _ _ _ h.1, h.2.1, h.2.2⟩

/-- So does its clearing, -/
theorem State.memsCanon_padClear (s : State) (h : s.memsCanon) : s.padClear.memsCanon :=
  ⟨⟨List.Pairwise.nil, fun _ hp => absurd hp (List.not_mem_nil)⟩, h.2.1, h.2.2⟩

/-- and a wipe of the saggar. -/
theorem State.memsCanon_padWipe (s : State) (h : s.memsCanon) : s.padWipe.memsCanon :=
  ⟨Tbl.wf_filter _ _ _ h.1, h.2.1, h.2.2⟩

/-! ## Block memories -/

/-- A word of a block memory that was stored. -/
@[simp] theorem State.bmWord_setBmWord_same (s : State) (sec b w : Nat) (x : BmWord) :
    (s.setBmWord sec b w x).bmWord sec b w = x := by
  simp [State.bmWord, State.setBmWord]

/-- Any other word after one is stored. -/
theorem State.bmWord_setBmWord_other (s : State) (sec b w i j k : Nat) (x : BmWord) (h : wordKey i j k ≠ wordKey sec b w) :
    (s.setBmWord sec b w x).bmWord i j k = s.bmWord i j k := by
  have e : Tbl.get (fun _ => none) (s.setBmWord sec b w x).fab.words (wordKey i j k) =
      Tbl.get (fun _ => none) s.fab.words (wordKey i j k) :=
    Tbl.get_set_other _ s.fab.words (wordKey sec b w) (wordKey i j k) (some x) h
  unfold State.bmWord
  rw [e]
  rfl

/-- Storing a word of a block memory keeps the canonical form. -/
theorem State.memsCanon_setBmWord (s : State) (sec b w : Nat) (x : BmWord) (h : s.memsCanon) :
    (s.setBmWord sec b w x).memsCanon := ⟨h.1, Tbl.wf_set _ _ (wordKey sec b w) (some x) h.2.1, h.2.2⟩

/-- So does the loss of a sector's power. -/
theorem State.memsCanon_sectorFresh (s : State) (sec : Nat) (h : s.memsCanon) : (s.sectorFresh sec).memsCanon :=
  ⟨h.1, Tbl.wf_filter _ _ _ h.2.1, h.2.2⟩

/-! ## RLD memory -/

/-- A word of RLD memory that was stored. -/
@[simp] theorem State.rldWord_setRldWord_same (s : State) (c line w : Nat) (x : BmWord) :
    (s.setRldWord c line w x).rldWord c line w = x := by
  simp [State.rldWord, State.setRldWord]

/-- Any other word after one is stored. -/
theorem State.rldWord_setRldWord_other (s : State) (c line w i j k : Nat) (x : BmWord) (h : rldKey i j k ≠ rldKey c line w) :
    (s.setRldWord c line w x).rldWord i j k = s.rldWord i j k := by
  have e : Tbl.get (fun _ => none) (s.setRldWord c line w x).rld.words (rldKey i j k) =
      Tbl.get (fun _ => none) s.rld.words (rldKey i j k) :=
    Tbl.get_set_other _ s.rld.words (rldKey c line w) (rldKey i j k) (some x) h
  unfold State.rldWord
  rw [e]
  rfl

/-- Storing a word of RLD memory keeps the canonical form. -/
theorem State.memsCanon_setRldWord (s : State) (c line w : Nat) (x : BmWord) (h : s.memsCanon) :
    (s.setRldWord c line w x).memsCanon := ⟨h.1, h.2.1, Tbl.wf_set _ _ (rldKey c line w) (some x) h.2.2⟩

/-- So does the loss of a channel's contents. -/
theorem State.memsCanon_rldDrop (s : State) (c : Nat) (zero : Bool) (h : s.memsCanon) : (s.rldDrop c zero).memsCanon :=
  ⟨h.1, h.2.1, Tbl.wf_filter _ _ _ h.2.2⟩

/-! ## Flash -/

/-- Erasing sectors keeps the canonical form of a flash device's bytes. -/
theorem wf_eraseFlash (l : List Host.Cell) (a n : Nat) (h : Tbl.wf (fun _ => 0xFF#8) l) :
    Tbl.wf (fun _ => 0xFF#8) (eraseFlash l a n) := Tbl.wf_filter _ _ _ h

/-- So does programming. -/
theorem wf_programFlash (b : List Byte) (l : List Host.Cell) (a : Nat) (h : Tbl.wf (fun _ => 0xFF#8) l) :
    Tbl.wf (fun _ => 0xFF#8) (programFlash l a b) := by
  induction b generalizing l a with
  | nil => exact h
  | cons x r ih => exact ih _ _ (Tbl.wf_set _ _ _ _ h)

/-- Programming leaves a byte below its address as it was. -/
theorem get_programFlash_below (b : List Byte) (l : List Host.Cell) (a k : Nat) (h : k < a) :
    Tbl.get (fun _ => 0xFF#8) (programFlash l a b) k = Tbl.get (fun _ => 0xFF#8) l k := by
  induction b generalizing l a with
  | nil => rfl
  | cons x r ih =>
    rw [programFlash, ih _ _ (by omega), Tbl.get_set_other _ _ _ _ _ (by omega)]

/-- So it leaves a byte above what is programmed. -/
theorem get_programFlash_above (b : List Byte) (l : List Host.Cell) (a k : Nat) (h : a + b.length ≤ k) :
    Tbl.get (fun _ => 0xFF#8) (programFlash l a b) k = Tbl.get (fun _ => 0xFF#8) l k := by
  induction b generalizing l a with
  | nil => rfl
  | cons x r ih =>
    have hk : a + 1 + r.length ≤ k := by simp at h; omega
    rw [programFlash, ih _ _ hk, Tbl.get_set_other _ _ _ _ _ (by omega)]

/-- A programmed byte has the bits that were 1 before and are 1 in what is programmed (R174). -/
theorem get_programFlash (b : List Byte) (l : List Host.Cell) (a i : Nat) (h : i < b.length) :
    Tbl.get (fun _ => 0xFF#8) (programFlash l a b) (a + i) = Tbl.get (fun _ => 0xFF#8) l (a + i) &&& b[i] := by
  induction b generalizing l a i with
  | nil => simp at h
  | cons x r ih =>
    cases i with
    | zero => rw [programFlash, get_programFlash_below _ _ _ _ (by omega)]; simp
    | succ j =>
      have hj : j < r.length := by simpa using h
      have := ih (Tbl.set (fun _ => 0xFF#8) l a (Tbl.get (fun _ => 0xFF#8) l a &&& x)) (a + 1) j hj
      rw [programFlash, show a + (j + 1) = a + 1 + j by omega, this, Tbl.get_set_other _ _ _ _ _ (by omega)]
      simp

end Sys2Proof.Machine
end

