-- ==== Sys2Proof/Laws/Bytes.lean ====
section
/-! SUPPORT. Bytes.lean: little-endian numbers, slices of byte lists, and a directory written to flash and read back. -/

namespace Sys2Proof

/-- A number in `k` bytes has that many. -/
@[simp] theorem leBytes_length (k n : Nat) : (leBytes k n).length = k := by
  induction k generalizing n with
  | zero => rfl
  | succ k ih => simp [leBytes, ih]

/-- A number read from the bytes it was written to, as far as they hold it (R9). -/
theorem leNat_leBytes (k n : Nat) : leNat (leBytes k n) = n % 256 ^ k := by
  induction k generalizing n with
  | zero => simp [leBytes, leNat, Nat.mod_one]
  | succ k ih =>
    have h : n % 256 ^ (k + 1) = n % 256 + 256 * (n / 256 % 256 ^ k) := by
      rw [Nat.pow_succ, Nat.mul_comm, Nat.mod_mul]
    simp [leBytes, leNat, ih, h]

/-- A slice has the length asked for. -/
@[simp] theorem sliceBytes_length (l : List Byte) (a k : Nat) : (sliceBytes l a k).length = k := by
  simp [sliceBytes]; omega

/-- The slice that a part of a list is. -/
theorem sliceBytes_part (x b y : List Byte) : sliceBytes (x ++ (b ++ y)) x.length b.length = b := by
  simp [sliceBytes]

/-- The first part of a list. -/
theorem sliceBytes_first (b y : List Byte) : sliceBytes (b ++ y) 0 b.length = b := by
  simp [sliceBytes]

namespace Machine

/-- The number in a part of a list that was written there. -/
theorem leAt_part (x y : List Byte) (k n : Nat) : leAt (x ++ (leBytes k n ++ y)) x.length k = n % 256 ^ k := by
  have h := sliceBytes_part x (leBytes k n) y
  rw [leBytes_length] at h
  rw [leAt, h, leNat_leBytes]

/-- The bytes of a digest hold it. -/
theorem ofNat_leNat_digBytes (d : BitVec 256) : BitVec.ofNat 256 (leNat (digBytes d)) = d := by
  apply BitVec.eq_of_toNat_eq
  rw [digBytes, leNat_leBytes, BitVec.toNat_ofNat]
  have h := d.isLt
  rw [show (256 : Nat) ^ 32 = 2 ^ 256 by norm_num, Nat.mod_mod, Nat.mod_eq_of_lt h]

/-! ## Directories (R174, R176) -/

/-- The part of a directory that its digest covers. -/
def dirBody (seq count : Nat) (entries : List Byte) : List Byte :=
  leBytes 4 0x52494445 ++ (leBytes 2 1 ++ (leBytes 2 count ++ (leBytes 4 seq ++ (leBytes 4 0 ++
    (sliceBytes (entries.take (32 * count)) 0 0xFC0 ++ List.replicate 16 0)))))

/-- A directory is its body and its digest. -/
theorem dirBytes_eq (seq count : Nat) (entries : List Byte) :
    dirBytes seq count entries = dirBody seq count entries ++ digBytes (Config.sha3 (dirBody seq count entries)) := by
  have h : leBytes 4 0x52494445 ++ leBytes 2 1 ++ leBytes 2 count ++ leBytes 4 seq ++ leBytes 4 0 ++
      sliceBytes (entries.take (32 * count)) 0 0xFC0 ++ List.replicate 16 0 = dirBody seq count entries := by
    simp only [dirBody, List.append_assoc]
  unfold dirBytes
  rw [h]

/-- The body has 0xFE0 bytes, -/
@[simp] theorem dirBody_length (seq count : Nat) (entries : List Byte) : (dirBody seq count entries).length = 0xFE0 := by
  simp [dirBody]

/-- and the directory 4,096. -/
@[simp] theorem dirBytes_length (seq count : Nat) (entries : List Byte) : (dirBytes seq count entries).length = 4096 := by
  rw [dirBytes_eq, List.length_append, dirBody_length, digBytes, leBytes_length]

/-- The sequence number of a directory. -/
theorem leAt_dirBytes_seq (seq count : Nat) (entries : List Byte) : leAt (dirBytes seq count entries) 8 4 = seq % 2 ^ 32 := by
  rw [dirBytes_eq]
  have h := leAt_part (leBytes 4 0x52494445 ++ (leBytes 2 1 ++ leBytes 2 count)) (leBytes 4 0 ++
    (sliceBytes (entries.take (32 * count)) 0 0xFC0 ++ List.replicate 16 0) ++ digBytes (Config.sha3 (dirBody seq count entries))) 4 seq
  simpa [dirBody] using h

/-- What DIR_UPDATE writes is a valid directory (R176, R178). -/
theorem dirValid_dirBytes (seq count : Nat) (entries : List Byte) (h : count ≤ 126) :
    dirValid (dirBytes seq count entries) = true := by
  have e := dirBytes_eq seq count entries
  have h0 : leAt (dirBytes seq count entries) 0 4 = 0x52494445 := by
    have := leAt_part [] (leBytes 2 1 ++ (leBytes 2 count ++ (leBytes 4 seq ++ (leBytes 4 0 ++
      (sliceBytes (entries.take (32 * count)) 0 0xFC0 ++ List.replicate 16 0)))) ++
      digBytes (Config.sha3 (dirBody seq count entries))) 4 0x52494445
    rw [e]
    simpa [dirBody] using this
  have h4 : leAt (dirBytes seq count entries) 4 2 = 1 := by
    have := leAt_part (leBytes 4 0x52494445) (leBytes 2 count ++ (leBytes 4 seq ++ (leBytes 4 0 ++
      (sliceBytes (entries.take (32 * count)) 0 0xFC0 ++ List.replicate 16 0))) ++
      digBytes (Config.sha3 (dirBody seq count entries))) 2 1
    rw [e]
    simpa [dirBody] using this
  have h6 : leAt (dirBytes seq count entries) 6 2 = count := by
    have := leAt_part (leBytes 4 0x52494445 ++ leBytes 2 1) (leBytes 4 seq ++ (leBytes 4 0 ++
      (sliceBytes (entries.take (32 * count)) 0 0xFC0 ++ List.replicate 16 0)) ++
      digBytes (Config.sha3 (dirBody seq count entries))) 2 count
    rw [e]
    rw [Nat.mod_eq_of_lt (by omega)] at this
    simpa [dirBody] using this
  have hb : sliceBytes (dirBytes seq count entries) 0 0xFE0 = dirBody seq count entries := by
    have := sliceBytes_first (dirBody seq count entries) (digBytes (Config.sha3 (dirBody seq count entries)))
    rwa [dirBody_length, ← e] at this
  have hd : leAt (dirBytes seq count entries) 0xFE0 32 = leNat (digBytes (Config.sha3 (dirBody seq count entries))) := by
    have := sliceBytes_part (dirBody seq count entries) (digBytes (Config.sha3 (dirBody seq count entries))) []
    rw [List.append_nil, ← e, dirBody_length, digBytes, leBytes_length] at this
    rw [leAt, this, digBytes]
  unfold dirValid
  rw [h0, h4, h6, hb, hd, ofNat_leNat_digBytes]
  simp [h]

/-- An erased flash device reads what was programmed into it. -/
theorem read_programmed (l : List Byte) (a : Nat) :
    (List.range l.length).map (fun i => Tbl.get (fun _ => 0xFF#8) (programFlash [] a l) (a + i)) = l := by
  apply List.ext_getElem
  · simp
  · intro i h1 h2
    simp only [List.getElem_map, List.getElem_range]
    rw [get_programFlash l [] a i h2, Tbl.get]
    exact BitVec.allOnes_and

end Machine

end Sys2Proof
end

