-- ==== Sys2Proof/Tests/Slice0.lean ====
section
/-! SUPPORT. Slice0.lean: the smoke test of `Instr.wf`, the manual's worked examples, and for every obligation with hypotheses concrete states and
operands that meet them (`witness_` and the obligation's name; several clauses to a theorem). -/

set_option Elab.async false
set_option maxRecDepth 20000
set_option synthInstance.maxSize 4000
set_option linter.unusedVariables false

open Sys2Proof Sys2Proof.Machine

namespace Sys2Proof.Tests

/-! ## States and operands of the tests -/

/-- The device out of reset, otherwise as reset leaves it. -/
def on : State := { State.reset with boot := { State.reset.boot with inReset := false } }
/-- The same in a phase of configuration. -/
def ph (n : Nat) : State := on.setFld R.CFG_BOOT_STAT F.CFG_BOOT_STAT_PHASE n
/-- The same with firmware running. -/
def fwOn (n : Nat) : State := { ph n with boot := { (ph n).boot with fw := true } }
/-- The same with region `r` the set of one sector. -/
def region (s : State) (r sec : Nat) : State :=
  (s.setFld (R.CFG_RGN_DESC r) F.CFG_RGN_DESC_TYPE 2).setReg (R.CFG_RGN_SMASK r) (BitVec.ofNat 32 (2 ^ sec))
/-- A frame of ones. -/
def ones : Frame := { Frame.zero with words := List.replicate 64 0xFFFFFFFF }
/-- A header with nothing in it. -/
def hdr0 : Header :=
  { flags := 0, id := 7, ver := 3, kind := 2, slot := 1, descs := [], payLen := 0, payOff := 0, digOff := 0, blocks := 0
    mapOff := 0, mapLen := 0, mapDig := 0, tagOff := 0, comp := 0, encAlg := 0, keySel := 0, iv := [], conDig := 0, tabDig := 0 }
/-- An address register pair set to the first byte of the shared region of the scratchpad. -/
def shared (s : State) (lo hi : Nat) : State :=
  (s.setReg lo (BitVec.ofNat 32 (padBase + 8 * padShared))).setReg hi (BitVec.ofNat 32 ((padBase + 8 * padShared) / 2 ^ 32))
/-- USER with start-up done and GSR released. -/
def usr : State :=
  let u := ((fwOn 5).setFld R.CFG_BOOT_STAT F.CFG_BOOT_STAT_STEP 7).setFlag R.CFG_BOOT_STAT F.CFG_BOOT_STAT_USER_MODE true
  { u with fab := { u.fab with gsr := false } }
/-- Sector clocks whose leaf network 0 runs from a fabric PLL of the sector. -/
def ck : ClkCfg := { ClkCfg.zero with used := true, leaf := [32] }
/-- USER with the last sector's leaf network 0 running. -/
def ckd : State := { usr with act := { usr.act with clk := [(31, ck)] } }
/-- The same with the settings of the last block memory of that sector, both ports on that network. -/
def bm (c : BmCfg) : State := { ckd with act := { ckd.act with bm := [(8191, { c with netA := 0, netB := 0 })] } }
/-- The same with stored words. -/
def bmw (c : BmCfg) (w : Nat) (x : BmWord) : State := (bm c).setBmWord 31 255 w x
/-- USER with the settings of the last slice of the last sector. -/
def sl (c : SliceCfg) : State := { ckd with act := { ckd.act with sl := [(12287, { c with grpStart := true, net := 0 })] } }
/-- The last sector's probe sampling with four samples on their way, its capture in a state, at an index of one block, with POST. -/
def prb (st idx left : Nat) (p : List (BitVec 64)) : State :=
  let u := ((ckd.setFlag (R.FAB_PRB_CTRL 31) F.FAB_PRB_CTRL_EN true).setFld (R.FAB_PRB_CAP 31) F.FAB_PRB_CAP_POST 5000).setFld (R.FAB_PRB_STAT 31) F.FAB_PRB_STAT_STATE st
  let v := (u.setReg (R.FAB_PRB_MASK_LO 31) 0xFF).setReg (R.FAB_PRB_VAL_LO 31) 0x42
  v.setProbe 31 { Probe.zero with idx := idx, left := left, first := 255, pipe := p }
/-- USER with the time PLL locked. -/
def tim : State := usr.setFlag R.TIM_STAT F.TIM_STAT_RUN true
/-- The same with lane 143 operating, locked in code 2 and stamping. -/
def lane143 : State :=
  let u := ((tim.setFlag (R.LQ_CTRL 35) F.LQ_CTRL_EN true).setFlag (R.LN_CTRL 143) F.LN_CTRL_EN true).setFlag (R.PCS_LN_STAT 143)
    F.PCS_LN_STAT_LOCKED true
  u.setLane 143 { u.lane 143 with mode := (0 : Word).fput F.PCS_LN_MODE_CODE 2 }
/-- USER with lane 143 enabled, its quad's references present. -/
def live : State :=
  let u := ((usr.setFlag (R.LQ_CTRL 35) F.LQ_CTRL_EN true).setFlag (R.LN_CTRL 143) F.LN_CTRL_EN true)
  (u.setQuad 35 { u.quad 35 with ref0 := 156250000, ref1 := 156250000 }).setFlag (R.LQ_STAT 35) F.LQ_STAT_REF0_OK true
/-- The same with its ring PLL locked, a signal and its clock recovered. -/
def rxUp : State :=
  ((live.setFlag (R.LN_STAT 143) F.LN_STAT_RPLL_LOCK true).setFlag (R.LN_STAT 143) F.LN_STAT_LOS false).setFlag
    (R.LN_STAT 143) F.LN_STAT_LOL false
/-- The same in a coding mode. -/
def coded (c : Nat) : State := rxUp.setLane 143 { rxUp.lane 143 with mode := (0x20 : Word).fput F.PCS_LN_MODE_CODE c }
/-- The same, locked. -/
def codedUp (c : Nat) : State := (coded c).setFlag (R.PCS_LN_STAT 143) F.PCS_LN_STAT_LOCKED true
/-- Lanes 140 to 143 in one mode, and group 15 of them, in a state of R398. -/
def grp15 (n : Nat) : State :=
  let u := (((codedUp 2).setLane 142 ((codedUp 2).lane 143)).setReg (R.PCS_GRP_CFG 15) 0x1028E).setStaged (R.PCS_GRP_CFG 15) 0x1028E
  (u.setFlag (R.PCS_GRP_CTRL 15) F.PCS_GRP_CTRL_EN (decide (n ≠ 0))).setGrpState 15 n
/-- Engine 15 over lane 143, enabled in a state of R416, its lead lane locked in 8B10B; no candidate of LISTEN. -/
def skm (n : Nat) : State :=
  let u := ((codedUp 1).setReg (R.SKM_ENG_CFG 15) 0x301F018F).setFlag (R.SKM_ENG_CTRL 15) F.SKM_ENG_CTRL_EN true
  (u.setFld (R.SKM_ENG_STAT 15) F.SKM_ENG_STAT_STATE n).setFlag (R.LN_CTRL 143) F.LN_CTRL_TX_IDLE false
/-- An ordered set. -/
def oset (ty : BitVec 8) (p : Word) : List (BitVec 8) :=
  let l : List (BitVec 8) := [ty, p.extractLsb' 0 8, p.extractLsb' 8 8, p.extractLsb' 16 8, p.extractLsb' 24 8]
  [0xBC] ++ l ++ [BitVec.ofNat 8 (crc8 (l.map (fun b => b.toNat))), 0xB5]
/-- The state of one engine with three equal sets about to be complete. -/
def skm2 (n : Nat) (ty p : Nat) : State := (skm n).setSkm 15 { (skm n).skm 15 with last := (ty, p), run := 2 }
/-- A read request from endpoint 45 to endpoint 0x6A, on its way at router 45. -/
def pkt : Packet :=
  { route := 0xFFFFFFF4AABB, vn := 0, dbg := false, poison := false, status := 0, cmd := 1, ltag := 255, src := 45, dst := 0x6A
    addr := padBase + 8 * padShared, loc := 0, len := 7, data := [] }
/-- The same with it in the network, at router 63, and its ports up. -/
def hop (p : Packet) : State :=
  let u := usr.setNoc { usr.noc with flight := [⟨0, pkt⟩, ⟨45, p⟩] }
  (u.setReg (R.NOC_STAT 45) 0x3FFF).setFld (R.NOC_PORT_EN 45) F.NOC_PORT_EN_EN 0x3FFF
/-- The same with it arrived. -/
def got (p : Packet) : State := usr.setNoc { usr.noc with arrived := [{ pkt with dst := 63 }, p] }
/-- Channel 7 in a state of R468, enabled, its clock present. -/
def mch (n : Nat) : State :=
  ((usr.setFld (R.MC_STAT 7) F.MC_STAT_STATE n).setFlag (R.MC_CTRL 7) F.MC_CTRL_EN true).setBit R.CLK_MC_LOST 15 true
/-- The same without EN. -/
def mcq (n : Nat) : State := (mch n).setFlag (R.MC_CTRL 7) F.MC_CTRL_EN false
/-- A request for the last whole line of a channel. -/
def rldPkt (cmd : Nat) : Packet :=
  { pkt with dst := 0x5F, addr := 0, loc := 64 * (2 ^ 24 - 1), len := 63, cmd := cmd, vn := if cmd = 3 then 2 else 0, data := if cmd = 1 then [] else List.replicate 64 0xA5 }
/-- The same as a request at port 3. -/
def rldReq (cmd : Nat) : McReq := ⟨9, 3, rldPkt cmd, 0, 0, [], false⟩
/-- Channel 7 in READY with that request. -/
def mcr (cmd : Nat) : State := (mch 3).setMc 7 { Mc.empty with reqs := [rldReq cmd] }
/-- Channel 7 in READY with that line queued. -/
def mce (cmd : Nat) : State := (mch 3).setMc 7 { Mc.empty with reqs := if cmd = 1 then [{ rldReq 1 with next := 1 }] else [], q := [(mch 3).mcEntry 7 (rldReq cmd) 0] }
/-- The scrubber running, region 31 the set of sector 31, its last tile's frame 78 with words of ones. -/
def scr (key : Nat) : State :=
  let u := ((region usr 31 31).setFlag R.SCR_CTRL F.SCR_CTRL_EN true).setFlag R.SCR_CTRL F.SCR_CTRL_RF_EN true
  let w : List Word := List.replicate 64 0xFFFFFFFF
  { u with act := { u.act with frames := [(key, ⟨w, BitVec.ofNat 32 (frameCrc w), []⟩)] } }
/-- The same in a wedging, its engine at that frame. -/
def wedge : State :=
  let u := (scr (mkKey 31 31 19 78)).setFlag R.SCR_STAT F.SCR_STAT_BUSY true
  u.setScrub { u.scrub with pos := [(31, mkKey 0 31 19 78)] }
/-- The bytes of a packet, a NOP behind it. -/
def packet (op count : Nat) (data : List Word) : List Byte :=
  ([BitVec.ofNat 32 (op * 2 ^ 24 + count)] ++ data ++ [0] : List Word).flatMap (fun w => leBytes 4 w.toNat)
/-- A load that has that packet next; its region is the set of sector 31. -/
def load (kind op count : Nat) (data : List Word) : Load :=
  { Load.start .mailbox kind 31 with hdr := some { hdr0 with blocks := 2 }, blk := 1, buf := packet op count data, far := some (2 ^ 31 + 64 * mkKey 31 31 19 79) }
/-- The state in which it runs. -/
def ld (kind op count : Nat) (data : List Word) : State :=
  let u := (region usr 31 31).setShadow 31 1
  { u with boot := { u.boot with loads := [load kind op count data] } }
/-- Zeros with some bytes put at some places. -/
def bytesAt (n : Nat) (l : List (Nat × List Byte)) : List Byte :=
  l.foldl (fun b p => b.take p.1 ++ p.2 ++ b.drop (p.1 + p.2.length)) (List.replicate n 0)
/-- The header of a container for region 31 with one block at 0x3000. -/
def header (kind : Nat) : List Byte :=
  bytesAt 4096 [(0, [0x45, 0x4C, 0x4D, 0x46, 1, 0, 0, 0x10, 0x81, 0xE9, 0x0E, 0]), (0x18, [7]), (0x24, [BitVec.ofNat 8 kind]), (0x26, [1]),
    (0x28, leBytes 8 256), (0x30, leBytes 8 0x3000), (0x38, leBytes 8 0x2000), (0x40, leBytes 4 1),
    (0x48, leBytes 8 0x4000), (0x50, leBytes 8 (if kind = 3 then 0 else 0x1000)), (0xC0, [31, 2, 0, 0, 0, 0, 0, 0, 0, 0, 0, 0x80])]
/-- A request of protocol version 3.2: command, session and payload. -/
def msg (cmd session : Nat) (p : List Byte) : List Byte :=
  leBytes 4 (0x55 + 2 ^ 16 * cmd) ++ leBytes 4 (0x302 + 2 ^ 16 * p.length) ++ leBytes 4 session ++ leBytes 4 0 ++ p
/-- Firmware running in USER, with one mailbox as given. -/
def box (m : Nat) (x : Mbx) : State := usr.setMb m x
/-- A mailbox owned by the management core. -/
def boxOf (m : Nat) (x : Mbx) : State := (usr.setFld (R.MBX_OWNER m) F.MBX_OWNER_OWNER 0x68).setMb m x
/-- Mailbox 6 with a request in progress. -/
def work (cmd session : Nat) (p : List Byte) : State := box 6 { Mbx.empty with cur := some (msg cmd session p), ver := 0x302 }
/-- A session of mailbox 6 with handle 5. -/
def ses (open_ : Bool) : Session := ⟨5, 6, 3, 2, 0, 7, 3, 300, List.replicate 32 1, List.replicate 32 2, open_⟩
/-- The same with that session, and another. -/
def workIn (cmd : Nat) (p : List Byte) (open_ : Bool) : State :=
  let u := work cmd 5 p
  { u with fw := { u.fw with sessions := [{ ses true with handle := 6 }, ses open_] } }
/-- Words as payload bytes. -/
def pl (l : List Nat) : List Byte := l.flatMap (fun n => leBytes 4 n)
/-- A state with flash device 0 fitted and some bytes programmed in it. -/
def flashed (u : State) (a : Nat) (l : List Byte) : State :=
  { u with boot := { u.boot with flash0 := { u.boot.flash0 with fitted := true, bytes := programFlash u.boot.flash0.bytes a l } } }
/-- Mailbox 6 with a request of session 5 that the interface of the management core lets go on. -/
def req (cmd : Nat) (p : List Byte) : State := (workIn cmd p true).setFlag (R.NI_CTRL 0x68) F.NI_CTRL_EN true
/-- The interfaces that firmware uses are on. -/
abbrev netOn (s : State) : Prop :=
  ∀ e ∈ [0x68, 0x6C] ++ (List.range 8).map (0x60 + ·) ++ (List.range 36).map (0x70 + ·), s.niOn e = true
/-- Firmware begins it. -/
abbrev begins (s : State) (cmd : Nat) (q : List Byte) : Prop :=
  s.coreRuns = true ∧ (s.mb 6).cur = some q ∧ msgCmd q = cmd ∧ (∀ x ∈ (s.mb 6).reqs, msgFormed x = true) ∧ (s.mb 6).step = 0 ∧
  (s.mb 6).got = [] ∧ netOn s ∧ badArg (s.mb 6).ver q = none ∧ s.fwHeld 6 q = false
/-- USER with interrupt target 7 enabled and owned by an endpoint. -/
def tgt (ep : Nat) : State := (usr.setFlag (R.IC_TGT_CFG 7) F.IC_TGT_CFG_EN true).setFld (R.IC_TGT_CFG 7) F.IC_TGT_CFG_OWNER ep
/-- USER with the test access port out of reset, debug open or closed. -/
def jt (open_ : Bool) : State :=
  let u := usr.setFlag R.SEC_STAT F.SEC_STAT_DBG_OPEN open_
  { u with board := { u.board with por := false, porstN := true } }
/-- The same with an instruction. -/
def jti (open_ : Bool) (ir : Nat) : State := { jt open_ with tap := { (jt open_).tap with ir := ir } }
/-- The core halted. -/
def hlt : State := usr.setFlag R.DBG_STAT F.DBG_STAT_HALTED true
/-- The watchdog running. -/
def wdt : State := ((usr.setReg R.WDT_LOAD 5000).setReg R.WDT_COUNT 77).setFlag R.WDT_CTRL F.WDT_CTRL_EN true
/-- An endpoint's write of a register is accepted (`State.mayWrite`). -/
abbrev mayW (s : State) (ep off : Nat) : Prop := s.reaches ep off = true ∧ s.csrAccepts ep true off = true
/-- An endpoint's read of a register is accepted (`State.mayRead`). -/
abbrev mayR (s : State) (ep off : Nat) : Prop := s.reaches ep off = true ∧ s.csrAccepts ep false off = true
/-- No report of a source is waiting (`State.quiet`). -/
abbrev silent (s : State) (src : Nat) : Prop := ∀ w ∈ s.err.waiting, w.rpt.src ≠ src

/-- The next state of an outcome. -/
def runm (o : Host.Outcome State Fault Refusal) (s : State) : State := match o with | .next t => t | _ => s

/-! ## Well-formed operands -/

/-- Each check of `Instr.wf` refuses a term (R37, R88, R189, R517, R526, R530, R532). -/
theorem test_wf_refuses :
    [Instr.registerWrite 0x68 2 0, .registerWrite 0x68 0x3200000 0, .counterReadClear 0x68 3, .nop .mailbox 2 [1],
      .setFar .mailbox 2 [1, 2], .writeFrames .mailbox 0 [] none, .writeFrames .mailbox 1 (List.replicate 64 0) none,
      .repeatFrame .mailbox 0 (List.replicate 65 0) none, .zeroFrames .mailbox 0 [] none,
      .zeroFrames .mailbox 2 [] (some (2, [0])), .bmContents .mailbox 2048 (List.replicate 2048 0),
      .csrWrite .mailbox 4 [1, 2, 3, 4], .endPacket .mailbox 1 [], .scratchpadAccess (.write 0 7 [1, 2]) [],
      .scratchpadAccess (.write 0 0 []) [], .scratchpadAccess (.window 0 11) [], .scratchpadAccess (.window 1024 12) [],
      .i2cAppend [] none, .skmOrderedSetReceived 0 [1, 2, 3], .bindWrite 0x68 1 0,
      .bmRead 0 0 true 65536 true false [], .bmWrite 0 0 true 65536 0 0 true false false none,
      .bmWrite 0 0 true 0 0 0 true false false (some ⟨65536, none, false, false⟩), .bmNarrowWrite 0 0 true 65536 0 0 true false false, .nocRequestIssue 45 1 4 0 0 [] 0, .nocRequestIssue 45 128 0 0 0 [] 0,
      .nocRequestIssue 45 2 0 0 0 (List.replicate 513 0) 0, .mtRunDone 0 0 0 (List.replicate 73 0),
      .retrainSweepDone 0 (List.replicate 73 0)].map Instr.wf = List.replicate 29 false := by decide +kernel

/-- A write through the debug port of too many words. -/
theorem test_wf_hsp (n : Nat) (h : 65536 < n) : (Instr.hspWrite (List.replicate n 0)).wf = false := by
  simp [Instr.wf]
  omega

/-- The same forms with operands in range are well formed. -/
theorem test_wf_accepts :
    [Instr.registerWrite 0x68 4 0, .counterReadClear 0x68 0x31FFFFC, .nop .mailbox 1 [1], .setFar .mailbox 1 [1],
      .writeFrames .mailbox 1 (List.replicate 65 0) none, .repeatFrame .mailbox 9 (List.replicate 65 0) none, .zeroFrames .mailbox 9 [] (some (8, [2335])),
      .bmContents .mailbox 2049 (List.replicate 2049 0), .csrWrite .mailbox 3 [1, 2, 3], .endPacket .mailbox 1 [0],
      .scratchpadAccess (.write 0 7 [1]) [], .scratchpadAccess (.window 1023 12) [], .i2cAppend [1] none,
      .skmOrderedSetReceived 0 (List.replicate 8 0)].map Instr.wf = List.replicate 14 true := by decide +kernel

/-! ## The manual's worked examples -/

/-- 09, a read from sector 22: the default routes between NI 45 and endpoint 0x6A, and the address of the table entry. -/
theorem test_route_example : State.reset.niRouteOf 45 0x6A = 0xFFFFFFF4AABB ∧ State.reset.niRouteOf 0x6A 45 = 0xFFFFFFF08899 ∧
    csrBase + R.NI_RT_LO 45 0x6A = 0x03000052DB50 ∧ routeValid 45 0x6A 0xFFFFFFF4AABB = true := by decide +kernel

/-- 09: 512 bytes of a read reserve 17 flits of the pool. -/
theorem test_pool_example : rspFlits cmdRd 511 = 17 := by decide

/-- 14, one address and two mappings: NATIVE gives channel 6, line 0x91A29E, bank 13 and component address 0x91A29. -/
theorem test_rld_native : rldMap (resetOf R.MC_MAP_CTRL) (resetOf R.MC_MAP_CH) 0x123456780 = some (6, 0x2468A780) ∧
    State.reset.bankOf 6 0x91A29E = 13 ∧ State.reset.compOf 6 0x91A29E = 0x91A29 := by decide +kernel

/-- 14: MODE EF7 gives channel 7 and line 0x91A2B2. -/
theorem test_rld_ef7 : rldMap ((resetOf R.MC_MAP_CTRL).fput F.MC_MAP_CTRL_MODE 1) (resetOf R.MC_MAP_CH) 0x123456780 =
    some (7, 64 * 0x91A2B2) := by decide +kernel

/-- 14, seven channels: sets of 4, 2 and 1 ways give channel 4 and line 0x468ADE, bank 2; from 7 GiB on there is no memory. -/
theorem test_rld_seven : rldMap 0x00021231 0x001f4688 0x123456780 = some (4, 64 * 0x468ADE) ∧
    rldMap 0x00021231 0x001f4688 (7 * 2 ^ 30) = none ∧ mapValid 0x00021231 0x001f4688 = true ∧
    State.reset.bankOf 4 0x468ADE = 2 := by decide +kernel

/-- 14: the addresses of the code that sets this map. -/
theorem test_map_addresses : csrBase + R.MC_MAP_CTRL = 0x030002007000 ∧ csrBase + R.MC_MAP_CH = 0x030002007004 := by decide

/-- 07, R216: the frames of blocks 200 and 201 and of slice 96, in any sector. -/
theorem test_setting_frames : frameBlock (mkKey 31 25 5 80) = some (31 * 256 + 200) ∧ frameBlock (mkKey 31 25 5 91) = some (31 * 256 + 200) ∧
    frameBlock (mkKey 31 25 5 92) = some (31 * 256 + 201) ∧ frameBlock (mkKey 31 25 5 103) = some (31 * 256 + 201) ∧
    frameSlice (mkKey 31 11 0 80) = some (31 * 384 + 96) ∧ frameSlice (mkKey 31 11 0 89) = some (31 * 384 + 96) := by decide +kernel

/-- 08, an upset in slot 7's personality: the FAR, and the index of the frame in its region's map. -/
theorem test_far_example : keyFar (mkKey 13 9 4 37) false = 0x06A48940 ∧
    (region usr 4 13).frameIndex (some 4) (mkKey 13 9 4 37) = 16573 := by decide +kernel

/-- 12, the worked example of engine 3: the settle word of two capability words. -/
theorem test_settle_example : settleWord 0x0004641F 0x0003240F = some 0x00032404 := by decide +kernel

/-- 12: a settle word in an ordered set of R412, and one with a wrong CRC. -/
theorem test_ordered_set : orderedSet (oset 0x5A 0x00032404) = some (0x5A, 0x00032404) ∧
    orderedSet ((oset 0x5A 0x00032404).set 6 0) = none := by decide +kernel

/-- 10, the PMA side of slot 11's change: PRE1 −4, MAIN 52 and POST1 −7 in 0x0039D3C0, and the two rates of the table. -/
theorem test_lane_example : signed 6 ((0x0039D3C0 : Word).fget F.LN_TX_FFE_PRE1) = -4 ∧
    (0x0039D3C0 : Word).fget F.LN_TX_FFE_MAIN = 52 ∧ signed 6 ((0x0039D3C0 : Word).fget F.LN_TX_FFE_POST1) = -7 ∧
    (symRate (vcoHz 156250000 0 170 0) 0x05).eq (26562500000, 1) = true ∧
    (symRate (vcoHz 156250000 0 82 0x800000) 0x02).eq (25781250000, 1) = true ∧
    csrBase + R.LQ_CTRL 22 = 0x030001160000 ∧ csrBase + R.LN_RATE 88 = 0x030001162004 := by decide +kernel

/-- 13: the registers of cones 12 and 30, and a sample of −25 µs. -/
theorem test_cone_example : csrBase + R.TIM_CONE_CTRL 12 = 0x0300000A1180 ∧ csrBase + R.TIM_CONE_CTRL 30 = 0x0300000A13C0 ∧
    signed 64 0xFFFFFFFF9E580000 = -25000 * 2 ^ 16 := by decide +kernel

/-- 13, R459: 9,875 eighths of a nanosecond add 0x04D26000 to a correctionField. -/
theorem test_one_step : sliceBytes (oneStep (List.replicate 48 0) 0 2 9875) 10 8 = [0, 0, 0, 0, 0x04, 0xD2, 0x60, 0x00] := by
  decide +kernel

/-- 18, entry, exit and a withdrawn level: the first claim returns 0xC00000DC. -/
theorem test_claim_example :
    let u := (((usr.setFlag (R.IC_TGT_CFG 0) F.IC_TGT_CFG_EN true).setFlag (R.IC_SRC 220) F.IC_SRC_EN true).setFlag (R.IC_SRC 379) F.IC_SRC_EN true)
    let v := (u.setReg (R.LN_INT_STAT 28) 1).setReg (R.LN_INT_EN 28) 1
    let s : State := { v with ic := { v.ic with pending := [220, 379] } }
    (match execIcTgtClaimRead 0x68 0 s with | .next t => t.out | _ => []) = leBytes 4 0xC00000DC := by decide +kernel

/-- 19, R619: IDCODE of revision 1. -/
theorem test_idcode : State.idcode { State.reset with board := { State.reset.board with rev := 1 } } = 0x1E9816E5 := by decide +kernel

/-- The CRC-32C of the nine characters 123456789 is 0xE3069283. -/
theorem test_crc32c : crc32c [0x31, 0x32, 0x33, 0x34, 0x35, 0x36, 0x37, 0x38, 0x39] = 0xE3069283 := by decide +kernel

/-! ## Witnesses whose hypotheses rest on a free value or quantify over every key -/

/-- A state with a register, a word of each memory and a command at the front of its queue. -/
def listed : State :=
  ((((on.setReg (R.TIM_TD_W0 31) 7).setPadWord 9 (padFresh 5)).setBmWord 31 255 3 ⟨5, false, []⟩).setRldWord 7 1 2
    ⟨6, false, []⟩).withPending [.icWake, .icWake]

/-- RegistersAndMemoriesStayCanonical: a state in canonical form, with entries, from which a step leads on. -/
theorem witness_RegistersAndMemoriesStayCanonical : listed.regsCanon ∧ listed.memsCanon ∧ ∃ t, step listed = .next t := by
  have z : ∀ {α : Type} [DecidableEq α] (d : Nat → α), Tbl.wf d [] := fun _ => ⟨List.Pairwise.nil, fun _ h => absurd h List.not_mem_nil⟩
  exact ⟨⟨Tbl.wf_set resetOf [] (R.TIM_TD_W0 31) 7 (z _), z _⟩,
    ⟨Tbl.wf_set _ _ 9 (padFresh 5) (z _), Tbl.wf_set _ _ (wordKey 31 255 3) (some (⟨5, false, []⟩ : BmWord)) (z _),
    Tbl.wf_set _ _ (rldKey 7 1 2) (some (⟨6, false, []⟩ : BmWord)) (z _)⟩, _, rfl⟩

/-- FuseBitsNeverReturn: fuses that lie within those of a state from which a step leads on. -/
theorem witness_FuseBitsNeverReturn : listed.fuses.within listed.fuses ∧ ∃ t, step listed = .next t := by
  have r : ∀ n, bitsIn n n := fun n => Nat.or_self n
  exact ⟨⟨r _, r _, r _, r _, r _, r _, r _, r _, r _, r _, r _, r _, r _, fun _ => r _, fun _ => r _, fun _ => r _⟩, _, rfl⟩

/-- EveryCommandEndsAndQueueShrinks: a step of a state with two commands. -/
theorem witness_EveryCommandEndsAndQueueShrinks : ∃ t, step listed = .next t := ⟨_, rfl⟩

/-- ResetLeavesTableValues: an offset that no table defines, and one that has an instance of its own reset value. -/
theorem witness_ResetLeavesTableValues : rowAt 0x3F00000 = none ∧ (rowAt (R.MBX_OWNER 6)).isSome = true ∧
    (winOf (R.MBX_OWNER 6)).isSome = true := by decide +kernel

/-- TimeDomainsSlewAndServe: a slew under way, whatever the free rounding of its step. -/
theorem witness_TimeDomainsSlewAndServe_slew : let s := tim.setSlew 31 (-1000000)
    s.timRun = true ∧ s.slewLeft 31 ≠ 0 ∧ (s.perCycle 31).2 ≠ 0 := by
  intro s
  refine ⟨by decide +kernel, by decide +kernel, ?_⟩
  have hb : s.baseFreq 31 = 0 := by decide +kernel
  have hl : s.slewLeft 31 = -1000000 := by decide +kernel
  simp only [State.perCycle, State.slewTerm, hb, hl]
  generalize Config.slewUp _ = b
  cases b <;> decide +kernel

/-- CapturesAndLaneTimeStamps: a received frame start that is stamped. -/
theorem witness_CapturesAndLaneTimeStamps_rx : let s := lane143.setFlag (R.TIM_LN_CFG 143) F.TIM_LN_CFG_RX_EN true
    (s.advance 2).stamps 143 = true ∧ (s.advance 2).flag (R.TIM_LN_CFG 143) F.TIM_LN_CFG_RX_EN = true := by decide +kernel

/-- CapturesAndLaneTimeStamps: a one-step command near its BASE. -/
theorem witness_CapturesAndLaneTimeStamps_tx :
    let s := (lane143.setFlag (R.TIM_LN_CFG 143) F.TIM_LN_CFG_TX_EN true).setFlag (R.TIM_LN_CFG 143) F.TIM_LN_CFG_ONESTEP_EN true
    (s.advance 0).stamps 143 = true ∧ (stampDelta ((s.advance 0).laneStamp 143 true 0 0) 0).natAbs < 8 * 10 ^ 9 := by decide +kernel

/-- The 32 bytes that a request of AUTH_RESPONSE carries. -/
theorem payload_of_msg (p : List Byte) (h : p.length = 32) : sliceBytes (msgPayload (msg 3 5 p)) 0 32 = p := by
  have hp : msgPayload (msg 3 5 p) = p := rfl
  rw [hp]
  simp [sliceBytes, h]

/-- SessionsOpenAndClose: a pending session and its proof, whatever KMAC gives. -/
theorem witness_SessionsOpenAndClose_auth : ∃ p : List Byte, let s := workIn 3 p false; let q := msg 3 5 p
    s.coreRuns = true ∧ (s.mb 6).cur = some q ∧ msgCmd q = 3 ∧ s.session (msgSession q) = some (ses false) ∧
    digBytes (Config.kmac (s.sessionKey (ses false)) (s.proofBytes (ses false)) hostTag) = sliceBytes (msgPayload q) 0 32 := by
  refine ⟨digBytes (Config.kmac ((workIn 3 [] false).sessionKey (ses false)) ((workIn 3 [] false).proofBytes (ses false)) hostTag), ?_⟩
  refine ⟨rfl, rfl, rfl, rfl, ?_⟩
  exact (payload_of_msg _ rfl).symm

/-! ### Directories -/

/-- The valid copies where copy A of device 0 alone is written. -/
theorem copies_flashed (u : State) (seq n : Nat) (e : List Byte) (hn : n ≤ 126) (hs : seq < 2 ^ 32) (h0 : u.boot.flash0.bytes = [])
    (h1 : u.boot.flash1.fitted = false) :
    (flashed u 0 (dirBytes seq n e)).dirCopies = [(0, seq, dirBytes seq n e)] := by
  have hb : (flashed u 0 (dirBytes seq n e)).boot.flash0.bytes = programFlash [] 0 (dirBytes seq n e) := by
    simp [flashed, h0]
  have hr := read_programmed (dirBytes seq n e) 0
  rw [dirBytes_length] at hr
  have c0 : (flashed u 0 (dirBytes seq n e)).dirCopy 0 = some (dirBytes seq n e) := by
    show some ((List.range 4096).map (fun i => Tbl.get (fun _ => 0xFF#8) (flashed u 0 (dirBytes seq n e)).boot.flash0.bytes (0 + i))) = _
    rw [hb, hr]
  have c1 : (flashed u 0 (dirBytes seq n e)).dirCopy 1 = some (List.replicate 4096 0xFF) := by
    show some ((List.range 4096).map (fun i => Tbl.get (fun _ => 0xFF#8) (flashed u 0 (dirBytes seq n e)).boot.flash0.bytes (0x10000 + i))) = _
    rw [hb]
    congr 1
    rw [List.eq_replicate_iff]
    refine ⟨by simp, fun b hmem => ?_⟩
    obtain ⟨i, -, rfl⟩ := List.mem_map.mp hmem
    rw [get_programFlash_above _ _ _ _ (by rw [dirBytes_length]; omega)]
    rfl
  have c2 : ∀ k, (flashed u 0 (dirBytes seq n e)).dirCopy (2 + k) = none := by
    intro k
    simp [State.dirCopy, State.flashBytes, State.flash, flashed, h1]
  obtain ⟨l, hl, h4⟩ : ∃ l : List Byte, (flashed u 0 (dirBytes seq n e)).dirCopy 1 = some l ∧ leAt l 0 4 = 0xFFFFFFFF :=
    ⟨_, c1, by decide +kernel⟩
  have v1 : dirValid l = false := by simp [dirValid, h4]
  have r4 : List.range 4 = [0, 1, 2, 3] := rfl
  have hm : seq % 4294967296 = seq := Nat.mod_eq_of_lt hs
  simp [State.dirCopies, r4, c0, hl, c2 0, c2 1, v1, dirValid_dirBytes seq n e hn, leAt_dirBytes_seq, hm]

/-- The directory in use there. -/
theorem best_flashed (u : State) (seq n : Nat) (e : List Byte) (hn : n ≤ 126) (hs : seq < 2 ^ 32) (h0 : u.boot.flash0.bytes = [])
    (h1 : u.boot.flash1.fitted = false) : (flashed u 0 (dirBytes seq n e)).dirBest = [(0, seq, dirBytes seq n e)] := by
  simp [State.dirBest, copies_flashed u seq n e hn hs h0 h1, maxOf]

/-- An entry for a PARTIAL container in device 1. -/
def entry77 : List Byte := [2, 0, 1, 0, 0, 0, 0, 0] ++ leBytes 8 0x100000 ++ leBytes 8 0x3000 ++ leBytes 8 77
/-- STAGE_FLASH asked for, before the directory is written. -/
def staging : State := region (workIn 0x210 (pl [0, 31]) true) 31 31
/-- DIR_UPDATE asked for, before a directory is written. -/
def updating : State := workIn 0x222 (pl [1] ++ entry77) true

/-- The number in the front part of a list does not depend on what follows. -/
theorem leAt_append (x r : List Byte) (a k : Nat) (h : a + k ≤ x.length) : leAt (x ++ r) a k = leAt x a k := by
  have e : sliceBytes (x ++ r) a k = sliceBytes x a k := by
    have h1 : k - ((x ++ r).drop a).length = 0 := by simp; omega
    have h2 : k - (x.drop a).length = 0 := by simp; omega
    rw [sliceBytes, sliceBytes, h1, h2, List.drop_append_of_le_length (by omega), List.take_append_of_le_length (by simp; omega)]
  rw [leAt, leAt, e]

/-- The front of a directory with one entry. -/
def front77 : List Byte := leBytes 4 0x52494445 ++ (leBytes 2 1 ++ (leBytes 2 1 ++ (leBytes 4 5 ++ (leBytes 4 0 ++ entry77))))

/-- The entry of that directory. -/
theorem entries_77 : (dirEntries (dirBytes 5 1 entry77))[0]? = some ⟨2, 0, 1, 0x100000, 0x3000, 77⟩ := by
  have hs : ∃ z, sliceBytes (entry77.take (32 * 1)) 0 0xFC0 = entry77 ++ z := ⟨List.replicate (0xFC0 - 32) 0, rfl⟩
  obtain ⟨z, hz⟩ := hs
  have hd : ∃ r, dirBytes 5 1 entry77 = front77 ++ r :=
    ⟨_, by rw [dirBytes_eq, dirBody, hz]; simp only [List.append_assoc, front77]; rfl⟩
  obtain ⟨r, hr⟩ := hd
  have g : ∀ a k, a + k ≤ 48 → leAt (dirBytes 5 1 entry77) a k = leAt front77 a k := fun a k h => hr ▸ leAt_append front77 r a k h
  have h6 : leAt (dirBytes 5 1 entry77) 6 2 = 1 := (g 6 2 (by decide)).trans (by decide +kernel)
  simp only [dirEntries, h6]
  show some (DirEntry.mk _ _ _ _ _ _) = _
  rw [g _ _ (by decide), g _ _ (by decide), g _ _ (by decide), g _ _ (by decide), g _ _ (by decide), g _ _ (by decide)]
  decide +kernel

/-- What the core and a staging load look at does not depend on the flash. -/
theorem flashed_same (u : State) (a : Nat) (l : List Byte) : (flashed u a l).coreRuns = u.coreRuns ∧
    (flashed u a l).stageRefusal 31 false 0x100000 0x3000 = u.stageRefusal 31 false 0x100000 0x3000 := ⟨rfl, rfl⟩

/-- LoadReadbackAndFlashCommands: STAGE_FLASH of the one entry of a directory in flash. -/
theorem witness_LoadReadbackAndFlashCommands_stage : let s := flashed staging 0 (dirBytes 5 1 entry77)
    (s.coreRuns = true ∧ (staging.mb 6).cur = some (msg 0x210 5 (pl [0, 31])) ∧ staging.fw.stager = none) ∧ s.dirBest ≠ [] ∧
    s.directory[0]? = some ⟨2, 0, 1, 0x100000, 0x3000, 77⟩ ∧ s.stageRefusal 31 false 0x100000 0x3000 = none := by
  intro s
  have hb : s.dirBest = _ := best_flashed staging 5 1 entry77 (by decide) (by decide) rfl rfl
  have hf := flashed_same staging 0 (dirBytes 5 1 entry77)
  refine ⟨⟨hf.1.trans (by decide +kernel), by decide +kernel, by decide +kernel⟩, by rw [hb]; exact List.cons_ne_nil _ _, ?_,
    hf.2.trans (by decide +kernel)⟩
  rw [State.directory, hb]
  exact entries_77

/-- LoadReadbackAndFlashCommands: DIR_UPDATE where a directory is in use. -/
theorem witness_LoadReadbackAndFlashCommands_update :
    (updating.coreRuns = true ∧ (updating.mb 6).cur = some (msg 0x222 5 (pl [1] ++ entry77))) ∧
    (flashed updating 0 (dirBytes 5 0 [])).dirBest = [(0, 5, dirBytes 5 0 [])] :=
  ⟨by decide +kernel, best_flashed updating 5 0 [] (by decide) (by decide) rfl rfl⟩

/-- Zero bytes. -/
def zeros (n : Nat) : List Byte := List.replicate n 0
/-- So many. -/
theorem zeros_length (n : Nat) : (zeros n).length = n := List.length_replicate
/-- A firmware container part-way: its header is checked, and the digest of its one block stands where the header says. -/
def stored256 : List Byte := zeros 256
/-- The digest of that block. -/
def dig256 : List Byte := digBytes (Config.sha3 stored256)
/-- The load of that container. -/
def blockLoad : Load := { Load.start .mailbox 3 0 with
  bytes := zeros 0x2000 ++ (dig256 ++ (zeros 4064 ++ stored256)), hdr := some (parseHeader (header 3)) }
/-- The state in which it runs. -/
def blockState : State := { usr with boot := { usr.boot with loads := [blockLoad] } }

/-- What the tests below need of that header. -/
theorem header3_facts : (parseHeader (header 3)).block 0 = (0x3000, 256) ∧ (parseHeader (header 3)).digOff = 0x2000 ∧
    (parseHeader (header 3)).encrypted = false ∧ (parseHeader (header 3)).compressed = false ∧ 0 < (parseHeader (header 3)).blocks := by decide +kernel

/-- Bytes of that container. -/
theorem blockLoad_bytes (a k : Nat) (h : a + k ≤ 0x3100) :
    blockState.loadBytes blockLoad a k = some (sliceBytes blockLoad.bytes a k) := by
  have hl : blockLoad.bytes.length = 0x3100 := by
    show (zeros 0x2000 ++ (digBytes _ ++ (zeros 4064 ++ zeros 256))).length = 0x3100
    simp only [List.length_append, zeros_length, digBytes, leBytes_length]
  have h2 : a + k ≤ blockLoad.bytes.length := by omega
  show (if a + k ≤ blockLoad.bytes.length then some (sliceBytes blockLoad.bytes a k) else none) = _
  rw [if_pos h2]

/-- ContainersAreCheckedAndFirmwareStarts: a block that agrees with its digest, whatever the digest is. -/
theorem witness_ContainersAreCheckedAndFirmwareStarts_block : blockState.halted = false ∧
    blockState.loadOn .mailbox = some blockLoad ∧ blockLoad.path = .mailbox ∧ blockLoad.hdr = some (parseHeader (header 3)) ∧ blockLoad.kind = 3 ∧
    blockLoad.blk < (parseHeader (header 3)).blocks ∧
    blockState.loadBytes blockLoad ((parseHeader (header 3)).block 0).1 ((parseHeader (header 3)).block 0).2 = some stored256 ∧
    blockState.loadBytes blockLoad ((parseHeader (header 3)).digOff + 32 * blockLoad.blk) 32 = some dig256 ∧
    (if (parseHeader (header 3)).encrypted then blockState.loadBytes blockLoad ((parseHeader (header 3)).tagOff + 16 * blockLoad.blk) 16 else some []) = some [] ∧
    blockState.openBlock (parseHeader (header 3)) blockLoad.blk stored256 dig256 [] = .ok stored256 ∧
    blockLoad.buf.length + stored256.length ≤ 2 ^ 21 := by
  obtain ⟨h1, h2, h3, h4, h5⟩ := header3_facts
  have hs : sliceBytes blockLoad.bytes 0x3000 256 = stored256 := by
    have e : blockLoad.bytes = (zeros 0x2000 ++ (dig256 ++ zeros 4064)) ++ (zeros 256 ++ []) := by
      show zeros 0x2000 ++ (dig256 ++ (zeros 4064 ++ zeros 256)) = _
      simp only [List.append_assoc, List.append_nil]
    have h := sliceBytes_part (zeros 0x2000 ++ (dig256 ++ zeros 4064)) (zeros 256) []
    rw [← e] at h
    simp only [List.length_append, zeros_length, dig256, digBytes, leBytes_length] at h
    exact h
  have hd : sliceBytes blockLoad.bytes 0x2000 32 = dig256 := by
    have h := sliceBytes_part (zeros 0x2000) dig256 (zeros 4064 ++ zeros 256)
    have e : dig256.length = 32 := leBytes_length _ _
    rw [zeros_length, e] at h
    exact h
  refine ⟨rfl, rfl, rfl, rfl, rfl, h5, ?_, ?_, by rw [h3]; rfl, ?_, by decide +kernel⟩
  · rw [h1]; exact (blockLoad_bytes _ _ (by decide)).trans (congrArg some hs)
  · rw [h2]; exact (blockLoad_bytes _ _ (by decide)).trans (congrArg some hd)
  · simp only [State.openBlock, h3, h4, dig256, bne_self_eq_false, Bool.false_eq_true, if_false, Bool.not_false, if_true]

/-- Checks 2 to 5, where each holds. -/
theorem headerChecks_none (s : State) (h : Header) (r : Nat) (hdr tab sig : List Byte) (a1 : h.kind = 2) (a2 : s.descMatches h r = true)
    (a3 : h.bound = false) (a5 : s.lc = 0)
    (hv : Config.mldsaVerify (sliceBytes hdr 0x2C0 1312) (digBytes (Config.sha3 (hdr ++ tab))) sig = true) :
    s.headerChecks h 2 (some r) none hdr tab sig = none := by
  simp [State.headerChecks, State.keyCheck, a1, a2, a3, a5, hv]

/-- ContainersAreCheckedAndFirmwareStarts: the header of a PARTIAL container whose signature verifies. -/
theorem witness_ContainersAreCheckedAndFirmwareStarts_header (tab sig : List Byte)
    (hv : Config.mldsaVerify (sliceBytes (header 2) 0x2C0 1312) (digBytes (Config.sha3 (header 2 ++ tab))) sig = true) :
    (region usr 31 31).headerChecks (parseHeader (header 2)) 2 (some 31) none (header 2) tab sig = none :=
  headerChecks_none _ _ _ _ _ _ (by decide +kernel) (by decide +kernel) (by decide +kernel) (by decide +kernel) hv

/-- ScratchpadSectorPowerAndTemperature: a march slice that preserves its contents, where every word decodes without error. -/
def marching : State := { usr with pad := { usr.pad with march := some ⟨padShared, 16, true⟩ } }
theorem witness_ScratchpadSectorPowerAndTemperature_march : marching.pad.march = some ⟨padShared, 16, true⟩ ∧ marching.halted = false ∧
    ∀ w, (marching.padDecode w).2 = 0 := by
  refine ⟨rfl, rfl, fun w => ?_⟩
  have h : marching.padWord w = padZero := rfl
  have z : (padZero.read true 3).2 = (false, false) := rfl
  rw [State.padDecode, h, z]
  rfl

/-! ### The accesses of firmware -/

/-- The payload of a command on TIM_TD_W0 of time domain 31. -/
def at31 (l : List Nat) : List Byte := pl ([(csrBase + R.TIM_TD_W0 31) % 2 ^ 32, (csrBase + R.TIM_TD_W0 31) / 2 ^ 32] ++ l)
/-- Firmware begins such a command; the register holds 0x1234. -/
def reader (cmd : Nat) (l : List Nat) : State := (req cmd (at31 l)).setReg (R.TIM_TD_W0 31) 0x1234

/-- The requests that these states hold, and firmware's reach of the register. -/
theorem reader_facts :
    begins (reader 0x300 [1]) 0x300 (msg 0x300 5 (at31 [1])) ∧ begins (reader 0x301 [1, 17]) 0x301 (msg 0x301 5 (at31 [1, 17])) ∧
    begins (reader 0x302 [0xF0, 0x12]) 0x302 (msg 0x302 5 (at31 [0xF0, 0x12])) ∧
    (reader 0x300 [1]).mayRead 0x68 (R.TIM_TD_W0 31) ∧ (reader 0x301 [1, 17]).mayWrite 0x68 (R.TIM_TD_W0 31) ∧
    (reader 0x302 [0xF0, 0x12]).mayRead 0x68 (R.TIM_TD_W0 31) := by
  simp only [State.mayRead, State.mayWrite]
  decide +kernel

/-- RegisterAccessLogAndLongCommands: the accesses of REG_READ, REG_WRITE and REG_MODIFY to one register can be made. -/
theorem witness_RegisterAccessLogAndLongCommands_does :
    (∃ u, FwDoes 6 [.rd (R.TIM_TD_W0 31)] (reader 0x300 [1]) u) ∧
    (∃ u, FwDoes 6 [.wr (R.TIM_TD_W0 31) 17] (reader 0x301 [1, 17]) u ∧ AllFormed (u.mb 6).reqs) ∧
    (∃ u x, FwOne 6 (.rd (R.TIM_TD_W0 31)) (reader 0x302 [0xF0, 0x12]) u ∧ Near u true (R.TIM_TD_W0 31) ∧
      exec (.registerWrite 0x68 (R.TIM_TD_W0 31) ((lastRead u &&& ~~~ 0xF0) ||| (0x12 &&& 0xF0))) u = .next x ∧ AllFormed (x.mb 6).reqs) := by
  refine ⟨⟨_, _, ⟨?_, _, rfl, rfl⟩, rfl⟩, ⟨_, ⟨_, ⟨?_, _, rfl, rfl⟩, rfl⟩, ?_⟩, _, _, ⟨?_, _, rfl, rfl⟩, ?_, rfl, ?_⟩
  all_goals simp only [Near, AllFormed]
  all_goals decide +kernel

/-! ### Long packets -/

/-- The little-endian words of a byte string are the words it was made of. -/
theorem leWords_flat (d : List Word) (y : List Byte) :
    leWords d.length (d.flatMap (fun w => leBytes 4 w.toNat) ++ y) = d := by
  induction d with
  | nil => rfl
  | cons w d ih =>
    have next : ∀ i, leAt ((w :: d).flatMap (fun w => leBytes 4 w.toNat) ++ y) (4 * (i + 1)) 4 =
        leAt (d.flatMap (fun w => leBytes 4 w.toNat) ++ y) (4 * i) 4 := fun i => by
      have e : 4 * (i + 1) = (leBytes 4 w.toNat).length + 4 * i := by rw [leBytes_length]; omega
      simp only [List.flatMap_cons, List.append_assoc, leAt, sliceBytes, e, ← List.drop_drop, List.drop_left]
    have first : leAt ((w :: d).flatMap (fun w => leBytes 4 w.toNat) ++ y) (4 * 0) 4 = w.toNat := by
      have h := leAt_part [] (d.flatMap (fun w => leBytes 4 w.toNat) ++ y) 4 w.toNat
      rw [Nat.mod_eq_of_lt (by have := w.isLt; omega)] at h
      simpa using h
    rw [leWords, List.length_cons, List.range_succ_eq_map, List.map_cons, List.map_map, first, BitVec.ofNat_toNat,
      BitVec.setWidth_eq]
    refine congrArg (w :: ·) (Eq.trans ?_ ih)
    exact List.map_congr_left (fun i _ => congrArg (BitVec.ofNat 32) (next i))

/-- The header word of a packet holds its opcode and COUNT. -/
theorem header_word (op count : Nat) (ho : op < 256) (hc : count < 2 ^ 24) :
    leAt (leBytes 4 (op * 2 ^ 24 + count)) 3 1 = op ∧ leAt (leBytes 4 (op * 2 ^ 24 + count)) 0 3 = count := by
  constructor <;> simp only [leAt, sliceBytes, leBytes, leNat, List.drop, List.take, List.length, List.length_cons, List.length_nil, List.cons_append, List.nil_append, Nat.reduceSub, Nat.reduceAdd, List.replicate, List.append_nil,
    BitVec.toNat_ofNat] <;> omega

/-- Four bytes of zeros are a NOP. -/
theorem front_nop (s : State) (l : Load) (h : l.path = .mailbox) (hb : l.buf = leBytes 4 0) : s.front l = .packet 0 0 [] := by
  simp only [State.front, State.streamBytes, h, hb, if_neg (show LoadPath.mailbox ≠ .hold by decide), Load.words]
  rfl

/-- A stream that starts with a header word, the packet's data and a NOP has that packet in front, and the NOP after it. -/
theorem front_stream (s : State) (l : Load) (x op count : Nat) (data : List Word) (path : l.path = .mailbox)
    (buf : l.buf = leBytes 4 x ++ (data.flatMap (fun w => leBytes 4 w.toNat) ++ leBytes 4 0))
    (hx : leAt (leBytes 4 x) 3 1 = op ∧ leAt (leBytes 4 x) 0 3 = count) (hn : packetWords op count = some data.length) :
    s.front l = .packet op count data ∧ s.front { l with buf := l.buf.drop (4 + 4 * data.length) } = .packet 0 0 [] := by
  have len : ∀ d : List Word, (d.flatMap (fun w => leBytes 4 w.toNat)).length = 4 * d.length := fun d => by
    induction d with
    | nil => rfl
    | cons w d ih => simp [ih]; omega
  have head : l.buf.take 4 = leBytes 4 x := by
    rw [buf]; exact List.take_left' (leBytes_length ..)
  have size : l.buf.length = 8 + 4 * data.length := by
    rw [buf]; simp [len]; omega
  have rest : l.buf.drop (4 + 4 * data.length) = leBytes 4 0 := by
    rw [buf, ← List.append_assoc, List.drop_left']
    simp [len]
  have words : l.words op count = some data.length := by simp [Load.words, path, hn]
  refine ⟨?_, front_nop _ _ path rest⟩
  simp only [State.front, State.streamBytes, path, size, if_neg (show LoadPath.mailbox ≠ .hold by decide), if_pos (show 4 ≤ 8 + 4 * data.length by omega),
    if_pos (show 4 + 4 * data.length ≤ 8 + 4 * data.length by omega), head, hx.1, hx.2, words]
  refine congrArg (Front.packet op count) ?_
  rw [buf, List.drop_take, List.drop_left' (leBytes_length ..), Nat.add_sub_cancel_left, ← len data, List.take_left]
  simpa using leWords_flat data []

/-- Such a load has its packet in front, and a NOP after it. -/
theorem front_load (s : State) (k op count : Nat) (data : List Word) (ho : op < 256) (hc : count < 2 ^ 24)
    (hn : packetWords op count = some data.length) :
    s.front (load k op count data) = .packet op count data ∧
    s.front { load k op count data with buf := (load k op count data).buf.drop (4 + 4 * data.length) } = .packet 0 0 [] := by
  refine front_stream s _ (op * 2 ^ 24 + count) op count data rfl ?_ (header_word op count ho hc) hn
  have low : op * 2 ^ 24 + count < 2 ^ 32 := by omega
  change packet op count data = _
  unfold packet
  generalize op * 2 ^ 24 + count = x at low
  rw [List.flatMap_append, List.flatMap_append, List.flatMap_singleton, List.flatMap_singleton, BitVec.toNat_ofNat, Nat.mod_eq_of_lt low, List.append_assoc]
  rfl

/-- PacketsExecuteOneByOne: the packets of BM_CONTENTS that the loads above hold, and that the stream goes on after them. -/
theorem witness_PacketsExecuteOneByOne_contents (s : State) (k : Nat) :
    (let data : List Word := 0x80001FFF :: List.replicate 2304 0xA5A5A5A5
     s.front (load k 5 2305 data) = .packet 5 2305 data ∧
       s.front { load k 5 2305 data with buf := (load k 5 2305 data).buf.drop (4 + 4 * data.length) } ≠ .bad) ∧
    (let data : List Word := 0x00001FFF :: List.replicate 2048 0xA5A5A5A5
     s.front (load k 5 2049 data) = .packet 5 2049 data ∧
       s.front { load k 5 2049 data with buf := (load k 5 2049 data).buf.drop (4 + 4 * data.length) } ≠ .bad) := by
  have h := fun n (hc : n + 1 < 2 ^ 24) w (hn : packetWords 5 (n + 1) = some (n + 1)) =>
    front_load s k 5 (n + 1) (w :: List.replicate n 0xA5A5A5A5) (by decide) hc (by rw [hn, List.length_cons, List.length_replicate])
  have a := h 2304 (by decide) 0x80001FFF rfl
  have b := h 2048 (by decide) 0x00001FFF rfl
  exact ⟨⟨a.1, fun e => by rw [a.2] at e; cases e⟩, b.1, fun e => by rw [b.2] at e; cases e⟩

/-! ## Witnesses by evaluation -/

/-- SuppliesPinsAndPowerOnReset: inputs of its clauses. -/
theorem witness_SuppliesPinsAndPowerOnReset :
    (let s : State := { State.reset.setReg R.SYS_SUPPLY 0xFF with board := { State.reset.board with por := true } }; s.suppliesValid = true) ∧
    (let s : State := State.reset.setReg R.SYS_SUPPLY 0; s.suppliesValid = false) := by decide +kernel
/-- ResetExitSamplesPins: inputs of its clauses. -/
theorem witness_ResetExitSamplesPins :
    (let s : State := (State.reset.setReg R.SYS_SUPPLY 0xFF).setFlag R.CLK_STAT F.CLK_STAT_SYSPLL_LOCK true; s.boot.inReset = true ∧ s.suppliesValid = true ∧ s.board.por = false ∧ s.board.porstN = true ∧ s.flag R.CLK_STAT F.CLK_STAT_SYSPLL_LOCK = true ∧ s.lc < 2) ∧
    (let s : State := let u := (State.reset.setReg R.SYS_SUPPLY 0xFF).setFlag R.CLK_STAT F.CLK_STAT_SYSPLL_LOCK true; { u with fuses := { u.fuses with lc := 3 } }; s.boot.inReset = true ∧ s.suppliesValid = true ∧ s.board.por = false ∧ s.board.porstN = true ∧ s.flag R.CLK_STAT F.CLK_STAT_SYSPLL_LOCK = true ∧ 2 ≤ s.lc ∧ s.halted = false) ∧
    (let s : State := State.reset; s.flag R.CLK_STAT F.CLK_STAT_SYSPLL_LOCK = false) ∧
    (let s : State := (State.reset.setReg R.SYS_SUPPLY 0xFF).setFlag R.CLK_STAT F.CLK_STAT_SYSPLL_LOCK true; s.boot.inReset = true ∧ s.suppliesValid = true ∧ s.board.por = false ∧ s.board.porstN = true ∧ s.flag R.CLK_STAT F.CLK_STAT_SYSPLL_LOCK = true) := by decide +kernel
/-- ClocksAreLostAndRecover: inputs of its clauses, part 1. -/
theorem witness_ClocksAreLostAndRecover_1 :
    (let s : State := (on.setFlag R.CLK_STAT F.CLK_STAT_SYSREF_OK true).setFlag R.CLK_STAT F.CLK_STAT_SYSPLL_LOCK true; s.monitored 0 = true ∧ s.monitored 4 = false ∧ (∀ w ∈ s.err.waiting, w.rpt.src ≠ 5)) ∧
    (let s : State := (on.setFlag R.CLK_STAT F.CLK_STAT_SYSREF_OK true).setFlag R.CLK_STAT F.CLK_STAT_SYSPLL_LOCK true; s.monitored 1 = true) ∧
    (let s : State := (on.setFlag R.CLK_STAT F.CLK_STAT_TREF_OK true).setFlag R.CLK_TREF_CTRL F.CLK_TREF_CTRL_TPLL_EN true; s.monitored 2 = true) ∧
    (let s : State := (on.setFlag R.CLK_STAT F.CLK_STAT_TPLL_LOCK true).setFlag R.CLK_TREF_CTRL F.CLK_TREF_CTRL_TPLL_EN true; s.monitored 3 = true) ∧
    (let s : State := (on.setFlag (R.CLK_MCPLL 7) F.CLK_MCPLL_EN true).setBit R.CLK_MC_LOST 15 true; s.monitored 15 = true) := by decide +kernel
/-- ClocksAreLostAndRecover: inputs of its clauses, part 2. -/
theorem witness_ClocksAreLostAndRecover_2 :
    (let s : State := on; s.monitored 0x7F = true ∧ s.monitored 0x40 = true) ∧
    (let s : State := let u := on.setBit R.CLK_FPLL_LOCK 31 true; { u with act := { u.act with clk := [(31, { ClkCfg.zero with used := true, run := true })] } }; s.monitored 0xFC = true) ∧
    (let s : State := on; s.monitored 4 = false) ∧
    (let s : State := on.setFlag R.CLK_STAT F.CLK_STAT_SYSREF_OK true; s.flag R.CLK_STAT F.CLK_STAT_SYSREF_OK = true ∧ s.board.porstN = true ∧ s.board.por = false) ∧
    (let s : State := ((on.setFlag R.CLK_TREF_CTRL F.CLK_TREF_CTRL_TPLL_EN true).setFlag R.CLK_STAT F.CLK_STAT_TREF_OK true).setFld R.CLK_TREF_CTRL F.CLK_TREF_CTRL_FREQ 4; s.flag R.CLK_TREF_CTRL F.CLK_TREF_CTRL_TPLL_EN = true ∧ s.flag R.CLK_STAT F.CLK_STAT_TREF_OK = true ∧ s.fld R.CLK_TREF_CTRL F.CLK_TREF_CTRL_FREQ ≤ 4) := by decide +kernel
/-- ClocksAreLostAndRecover: inputs of its clauses, part 3. -/
theorem witness_ClocksAreLostAndRecover_3 :
    (let s : State := (on.setFlag R.CLK_STAT F.CLK_STAT_SYSREF_OK true).setFlag (R.CLK_MCPLL 7) F.CLK_MCPLL_EN true; s.flag (R.CLK_MCPLL 7) F.CLK_MCPLL_EN = true ∧ s.flag R.CLK_STAT F.CLK_STAT_SYSREF_OK = true) ∧
    (let s : State := { on.setFlag R.CLK_STAT F.CLK_STAT_SYSREF_OK true with act := { on.act with clk := [(31, { ClkCfg.zero with used := true, ref := .sysRef })] } }; (s.act.clkCfg 31).used = true ∧ s.refPresent (s.act.clkCfg 31).ref = true) ∧
    (let s : State := { on.setFlag R.CLK_STAT F.CLK_STAT_SYSREF_OK false with act := { on.act with clk := [(31, { ClkCfg.zero with used := true, ref := .sysRef })] } }; (s.act.clkCfg 31).used = true ∧ s.refPresent (s.act.clkCfg 31).ref = false) ∧
    (let s : State := { on with board := { on.board with porstN := false } }; s.board.porstN = false) := by decide +kernel
/-- LeafGatesFrequencyAndMeasurement: inputs of its clauses, part 1. -/
theorem witness_LeafGatesFrequencyAndMeasurement_1 :
    (let s : State := let u := usr.setBit R.CLK_FPLL_LOCK 31 true; { u with act := { u.act with clk := [(31, { ClkCfg.zero with used := true, leaf := List.replicate 16 33 })] }, fab := { u.fab with stopped := [3, 31], relock := [31] } }; s.bit R.CLK_FPLL_LOCK 31 = true ∧ s.leafRoot 31 15 = .fpll 31 1 ∧ s.leafStopped 31 15 = true) ∧
    (let s : State := on; s.bit R.CLK_FPLL_LOCK 0 = false) ∧
    (let s : State := on; s.reaches 0x6B R.CLK_NOC_CTRL = true) ∧
    (let s : State := on; s.reaches 0x68 R.CLK_MEAS_CTRL = true ∧ s.flag R.CLK_MEAS_CTRL F.CLK_MEAS_CTRL_BUSY = false) ∧
    (let s : State := { on.setFlag R.CLK_MEAS_CTRL F.CLK_MEAS_CTRL_BUSY true with clk := { on.clk with meas := 0x40 } }; s.flag R.CLK_MEAS_CTRL F.CLK_MEAS_CTRL_BUSY = true) := by decide +kernel
/-- LeafGatesFrequencyAndMeasurement: inputs of its clauses, part 2. -/
theorem witness_LeafGatesFrequencyAndMeasurement_2 :
    (let s : State := on; s.flag R.CLK_MEAS_CTRL F.CLK_MEAS_CTRL_BUSY = false) := by decide +kernel
/-- BootClearsLoadsRestartsAndStarts: inputs of its clauses, part 1. -/
theorem witness_BootClearsLoadsRestartsAndStarts_1 :
    (let s : State := let u := (fwOn 1).setFld R.CFG_BOOT_STAT F.CFG_BOOT_STAT_MODE 4; { u with boot := { u.boot with clearing := true } }; s.boot.clearing = true ∧ s.halted = false ∧ s.phase = 1 ∧ s.boot.fw = true ∧ s.board.startN = true ∧ s.boot.wipeHold = false ∧ 2 ≤ s.mode) ∧
    (let s : State := let u := ph 1; { u with boot := { u.boot with clearing := true } }; s.boot.clearing = true ∧ s.halted = false ∧ s.boot.fw = false) ∧
    (let s : State := on; s.boot.clearing = false) ∧
    (let s : State := let u := ((fwOn 5).setFlag R.CFG_BOOT_STAT F.CFG_BOOT_STAT_USER_MODE true).setFld R.CFG_BOOT_STAT F.CFG_BOOT_STAT_STEP 7; { u with rgn := [(3, { Rgn.empty with post := true })] , fab := { u.fab with gsr := false } }; s.boot.inReset = false ∧ s.phase ≠ 1) ∧
    (let s : State := let u := fwOn 1; { u with boot := { u.boot with clearing := true, flash0 := { u.boot.flash0 with fitted := false }, flash1 := { u.boot.flash1 with fitted := false } } }; s.boot.clearing = true ∧ s.halted = false ∧ s.phase = 1 ∧ s.boot.fw = true ∧ s.board.startN = true ∧ s.boot.wipeHold = false ∧ s.mode < 2 ∧ s.boot.flash0.fitted = false ∧ s.boot.flash1.fitted = false) := by decide +kernel
/-- BootClearsLoadsRestartsAndStarts: inputs of its clauses, part 2. -/
theorem witness_BootClearsLoadsRestartsAndStarts_2 :
    (let s : State := { hlt with boot := { hlt.boot with clearing := true } }; s.halted = true) ∧
    (let s : State := let u := (ph 6).setFld R.CFG_BOOT_STAT F.CFG_BOOT_STAT_MODE 4; { u with fuses := { u.fuses with lc := 3 } }; let v : Word := (0 : Word).fput F.CFG_RESTART_KEY 0xC0DE; mayW s 0x68 (R.CFG_RESTART) ∧ v.fget F.CFG_RESTART_KEY = 0xC0DE ∧ s.phase ≠ 1 ∧ s.board.startN = true ∧ s.halted = false ∧ s.mode = 4 ∧ 2 ≤ s.lc) ∧
    (let s : State := (fwOn 5).setFld R.CFG_BOOT_STAT F.CFG_BOOT_STAT_MODE 4; let v : Word := (0 : Word).fput F.CFG_RESTART_KEY 0xC0DE; mayW s 0x68 (R.CFG_RESTART) ∧ v.fget F.CFG_RESTART_KEY = 0xC0DE ∧ s.phase ≠ 1 ∧ s.board.startN = true ∧ s.halted = false ∧ s.mode = 4 ∧ s.lc < 2) ∧
    (let s : State := let u := ph 6; { u with boot := { u.boot with loads := [Load.start .rom 3 0] } }; s.boot.inReset = false ∧ s.phase ≠ 1 ∧ s.mode ≠ 4 ∧ s.loadOn .rom ≠ none) ∧
    (let s : State := let u := ph 6; { u with boot := { u.boot with flash0 := { u.boot.flash0 with fitted := false }, flash1 := { u.boot.flash1 with fitted := false } } }; let v : Word := (0 : Word).fput F.CFG_RESTART_KEY 0xC0DE; mayW s 0x68 (R.CFG_RESTART) ∧ v.fget F.CFG_RESTART_KEY = 0xC0DE ∧ s.phase ≠ 1 ∧ s.board.startN = true ∧ s.halted = false ∧ s.mode ≠ 4 ∧ s.boot.fw = false ∧ s.loadOn .rom = none ∧ s.boot.flash0.fitted = false ∧ s.boot.flash1.fitted = false) := by decide +kernel
/-- BootClearsLoadsRestartsAndStarts: inputs of its clauses, part 3. -/
theorem witness_BootClearsLoadsRestartsAndStarts_3 :
    (let s : State := let u := ph 6; { u with boot := { u.boot with loads := [Load.start .rom 3 0] } }; let v : Word := (0 : Word).fput F.CFG_RESTART_KEY 0xC0DE; s.phase ≠ 1 ∧ s.board.startN = true ∧ s.halted = false ∧ s.mode ≠ 4 ∧ s.loadOn .rom ≠ none) ∧
    (let s : State := let u := fwOn 5; { u with board := { u.board with startN := false } }; let v : Word := (0 : Word).fput F.CFG_RESTART_KEY 0xC0DE; mayW s 0x68 (R.CFG_RESTART) ∧ v.fget F.CFG_RESTART_KEY = 0xC0DE ∧ s.phase ≠ 1 ∧ s.board.startN = false) ∧
    (let s : State := ph 1; s.boot.inReset = false ∧ s.phase = 1 ∧ s.boot.fw = false) ∧
    (let s : State := State.reset; s.boot.inReset = true) ∧
    (let s : State := fwOn 5; let v : Word := (0 : Word).fput F.CFG_RESTART_KEY 0xC0DE; mayW s 0x68 (R.CFG_RESTART) ∧ v.fget F.CFG_RESTART_KEY = 0xC0DE ∧ s.phase ≠ 1 ∧ s.boot.fw = true ∧ s.board.startN = true ∧ s.halted = false ∧ s.mode ≠ 4) := by decide +kernel
/-- BootClearsLoadsRestartsAndStarts: inputs of its clauses, part 4. -/
theorem witness_BootClearsLoadsRestartsAndStarts_4 :
    (let s : State := fwOn 5; mayW s 0x68 (R.CFG_RESTART) ∧ (0 : Word).fget F.CFG_RESTART_KEY ≠ 0xC0DE) ∧
    (let s : State := fwOn 3; s.boot.inReset = false ∧ s.phase = 3 ∧ s.bscan = false ∧ s.halted = false ∧ s.ic.asleep = false) ∧
    (let s : State := (fwOn 3).setFlag R.DBG_STAT F.DBG_STAT_HALTED true; s.boot.inReset = false ∧ s.bscan = false ∧ s.phase = 3 ∧ s.halted = true) ∧
    (let s : State := fwOn 5; s.boot.inReset = false ∧ s.phase = 5 ∧ s.bscan = false) ∧
    (let s : State := ph 6; s.phase = 6 ∧ s.bscan = false) := by decide +kernel
/-- BootClearsLoadsRestartsAndStarts: inputs of its clauses, part 5. -/
theorem witness_BootClearsLoadsRestartsAndStarts_5 :
    (let s : State := let u := (fwOn 1).setFld R.CFG_BOOT_STAT F.CFG_BOOT_STAT_MODE 2; { u with boot := { u.boot with cleared := true } , board := { u.board with startN := false } }; s.phase = 1 ∧ s.boot.fw = true ∧ s.boot.cleared = true ∧ s.boot.clearing = false ∧ s.boot.wipeHold = false ∧ s.mode = 2 ∧ s.halted = false) := by decide +kernel
/-- BindingArmingAndTags: inputs of its clauses, part 1. -/
theorem witness_BindingArmingAndTags_1 :
    (let s : State := region (fwOn 5) 31 31; let v : Word := 0x80000000; mayW s 0x68 ((bindBit 31 (.quad 31)).1) ∧ s.rgnDefined 31 = true ∧ s.shadow 31 ≠ 3 ∧ (∀ q ∈ List.range 32, q ≠ 31 → s.rgnDefined q = true → s.reg (bindBit q (.quad 31)).1 &&& v = 0)) ∧
    (let s : State := (region (region (fwOn 5) 0 0) 31 31).setReg (bindBit 0 (.ni 255)).1 0x80000000; let v : Word := 0x80000000; mayW s 0x68 ((bindBit 31 (.ni 255)).1) ∧ s.rgnDefined 31 = true ∧ (∃ q ∈ List.range 32, q ≠ 31 ∧ s.rgnDefined q = true ∧ s.reg (bindBit q (.ni 255)).1 &&& v ≠ 0) ∧ silent s (23)) ∧
    (let s : State := (region (fwOn 5) 31 31).setShadow 31 3; let v : Word := 1; mayW s 0x68 ((bindBit 31 (.probe 0)).1) ∧ s.rgnDefined 31 = true ∧ s.shadow 31 = 3 ∧ silent s (23)) ∧
    (let s : State := (region (fwOn 5) 31 31).setShadow 31 2; let v : Word := (0 : Word).fput F.CFG_ARM_REGION 31; mayW s 0x68 (R.CFG_ARM) ∧ v.getLsbD 30 = false ∧ s.rgnDefined (v.fget F.CFG_ARM_REGION) = true ∧ s.shadow (v.fget F.CFG_ARM_REGION) = 2) ∧
    (let s : State := (region (fwOn 5) 31 31).setShadow 31 3; let v : Word := (0 : Word).fput F.CFG_ARM_REGION 31; mayW s 0x68 (R.CFG_ARM) ∧ v.getLsbD 31 = false ∧ s.rgnDefined (v.fget F.CFG_ARM_REGION) = true ∧ s.shadow (v.fget F.CFG_ARM_REGION) = 3) := by decide +kernel
/-- BindingArmingAndTags: inputs of its clauses, part 2. -/
theorem witness_BindingArmingAndTags_2 :
    (let s : State := (region (fwOn 5) 31 31).setFld (R.CFG_RGN_GEN 31) F.CFG_RGN_GEN_ACT_GEN 2; let v : Word := (0 : Word).fput F.CFG_RGN_GEN_SHD_GEN 5; mayW s 0x68 (R.CFG_RGN_GEN 31) ∧ s.rgnDefined 31 = true ∧ s.shadow 31 ≠ 3) ∧
    (let s : State := (region (fwOn 5) 31 31).setShadow 31 3; s.shadow 31 = 3) ∧
    (let s : State := (region (fwOn 5) 31 31).setShadow 31 2; s.reaches 0x40 R.CFG_ARM = true ∧ s.csrAccepts 0x40 true R.CFG_ARM = false) ∧
    (let s : State := (region (fwOn 5) 31 31).setShadow 31 2; let v : Word := ((0 : Word).fput F.CFG_ARM_REGION 31) ||| 0x40000000; mayW s 0x68 (R.CFG_ARM) ∧ v.getLsbD 30 = true ∧ s.rgnDefined (v.fget F.CFG_ARM_REGION) = true) ∧
    (let s : State := (region (fwOn 5) 31 31).setShadow 31 2; let v : Word := ((0 : Word).fput F.CFG_ARM_REGION 31); mayW s 0x68 (R.CFG_ARM) ∧ s.rgnDefined (v.fget F.CFG_ARM_REGION) = true ∧ s.shadow (v.fget F.CFG_ARM_REGION) ≠ 3) := by decide +kernel
/-- FiringRequestsAndRefusals: inputs of its clauses. -/
theorem witness_FiringRequestsAndRefusals :
    (let s : State := region (fwOn 5) 31 31; let v : Word := (0 : Word).fput F.CFG_FIRE_REGION 31; mayW s 0x68 (R.CFG_FIRE)) ∧
    (let s : State := ((region (fwOn 5) 31 31).setFlag (R.CFG_RGN_CTRL 31) F.CFG_RGN_CTRL_STROBE_EN true).setRg 31 { Rgn.empty with minHold := true }; ∃ r ∈ List.range 32, s.rgnDefined r = true ∧ s.flag (R.CFG_RGN_CTRL r) F.CFG_RGN_CTRL_STROBE_EN = true) ∧
    (let s : State := { region (fwOn 5) 31 31 with gate := { reqs := [⟨[0, 31], 1, none, []⟩], kept := [] } }; let q : FireReq := ⟨[0, 31], 1, none, []⟩; s.gate.reqs = [q] ∧ q.skm = none ∧ (∀ r ∈ q.regions, r < 32 → s.verdict q r ≠ .accept) ∧ s.rgnDefined 31 = true ∧ s.verdict q 31 = .refuse 2) ∧
    (let s : State := let u := ((region (fwOn 5) 31 31).setShadow 31 3).setFlag R.DBG_STAT F.DBG_STAT_HALTED true; { u with gate := { reqs := [⟨[31], 1, none, []⟩], kept := [] } }; let q : FireReq := ⟨[31], 1, none, []⟩; s.gate.reqs = [q] ∧ s.verdict q 31 = .refuse 6) ∧
    (let s : State := region (fwOn 5) 31 31; ∀ r ∈ List.range 32, s.rgnDefined r = true → s.flag (R.CFG_RGN_CTRL r) F.CFG_RGN_CTRL_STROBE_EN = false) := by decide +kernel
/-- FiringExchangesThePlanes: inputs of its clauses. -/
theorem witness_FiringExchangesThePlanes :
    (let s : State := let u := ((region (region (fwOn 5) 31 31) 0 0).setShadow 31 3).setFld (R.CFG_RGN_GEN 31) F.CFG_RGN_GEN_SHD_GEN 4; let w := u.setReg (bindBit 31 (.ni 255)).1 0x80000000; { w with gate := { reqs := [⟨[0, 31], 1, none, []⟩], kept := [] }, shd := { w.shd with frames := [(mkKey 31 5 5 3, ones)] } , act := { w.act with frames := [(mkKey 0 5 5 3, ones)] } }; let q : FireReq := ⟨[0, 31], 1, none, []⟩; (∃ q ∈ s.gate.reqs, 31 ∈ q.regions ∧ s.verdict q 31 = .accept) ∧ (¬ ∃ q ∈ s.gate.reqs, 0 ∈ q.regions ∧ s.verdict q 0 = .accept) ∧ s.frameRegion (mkKey 31 5 5 3) = some 31 ∧ s.isBound 31 (.ni 255) = true) := by decide +kernel
/-- CrossingExchangesBoundBlocks: inputs of its clauses. -/
theorem witness_CrossingExchangesBoundBlocks :
    (let s : State := let u := ((region (fwOn 5) 31 31).setShadow 31 3); let b := [Bound.ni 3, .quad 35, .group 15, .probe 31].foldl (fun x q => x.setBit (bindBit 31 q).1 (bindBit 31 q).2 true) u; let w := (((b.setStaged (R.NI_RT_LO 3 7) 0x123).setStaged (R.LN_RX_EQ 143) 0x1).setStaged (R.PCS_GRP_CFG 15) 0x5).setStaged (R.FAB_PRB_CAP 31) 0x3; { w with gate := { reqs := [⟨[31], 1, none, []⟩], kept := [] } }; (∃ q ∈ s.gate.reqs, 31 ∈ q.regions ∧ s.verdict q 31 = .accept) ∧ (∀ q ∈ s.gate.reqs, q.skm = none) ∧ s.isBound 31 (.ni 3) = true ∧ s.isBound 31 (.quad 35) = true ∧ s.isBound 31 (.group 15) = true ∧ (s.staged (R.PCS_GRP_CTRL 15)).fget F.PCS_GRP_CTRL_EN = 0 ∧ s.isBound 31 (.probe 31) = true) ∧
    (let s : State := { fwOn 5 with cross := [.ni 3, .ni 4] }; Bound.ni 3 ∈ s.cross ∧ s.cross.length ≠ 1) ∧
    (let s : State := { fwOn 5 with cross := [.quad 35] }; Bound.quad 35 ∈ s.cross) ∧
    (let s : State := { (fwOn 5).setGrpState 15 1 with cross := [.group 15, .ni 4] }; Bound.group 15 ∈ s.cross ∧ s.cross.length ≠ 1 ∧ s.grpOn 15 = false) ∧
    (let s : State := fwOn 5; Bound.quad 0 ∉ s.cross) := by decide +kernel
/-- HoldsBeginAndEnd: inputs of its clauses, part 1. -/
theorem witness_HoldsBeginAndEnd_1 :
    (let s : State := let u := (region (fwOn 5) 31 31).setFlag (R.CFG_RGN_STAT 31) F.CFG_RGN_STAT_HELD true; u.setRg 31 { Rgn.empty with minHold := true, keptRel := true, post := true }; (s.rg 31).minHold = true ∧ s.streaming 31 = false ∧ s.relocking 31 = false ∧ s.reg R.SYS_PD_REQ = 0 ∧ s.reg R.SYS_PD_STAT = 0 ∧ s.reg R.SYS_PD_BUSY = 0) ∧
    (let s : State := on; (s.rg 31).minHold = false) ∧
    (let s : State := let u := region (fwOn 5) 31 31; { u with boot := { u.boot with hold := some ⟨31, 0⟩ } }; let v : Word := (0 : Word).fput F.CFG_HOLD_REGION 31; mayW s 0x68 (R.CFG_HOLD) ∧ v.getLsbD 30 = false ∧ s.rgnDefined (v.fget F.CFG_HOLD_REGION) = true ∧ s.streaming 31 = true ∧ silent s (23)) ∧
    (let s : State := (region (fwOn 5) 31 31).setRg 31 { Rgn.empty with minHold := true }; let v : Word := (0 : Word).fput F.CFG_HOLD_REGION 31; s.streaming 31 = false ∧ (s.rg 31).minHold = true) ∧
    (let s : State := ((region (fwOn 5) 31 31).setRg 31 { Rgn.empty with post := true }).setFlag (R.CFG_RGN_STAT 31) F.CFG_RGN_STAT_HELD true; let v : Word := (0 : Word).fput F.CFG_HOLD_REGION 31; s.streaming 31 = false ∧ (s.rg 31).minHold = false) := by decide +kernel
/-- HoldsBeginAndEnd: inputs of its clauses, part 2. -/
theorem witness_HoldsBeginAndEnd_2 :
    (let s : State := region (fwOn 5) 31 31; let v : Word := ((0 : Word).fput F.CFG_HOLD_REGION 31) ||| 0x80000000; mayW s 0x68 (R.CFG_HOLD) ∧ v.getLsbD 31 = true ∧ s.rgnDefined (v.fget F.CFG_HOLD_REGION) = true) ∧
    (let s : State := region (fwOn 5) 31 31; let v : Word := (0 : Word).fput F.CFG_HOLD_REGION 31; mayW s 0x68 (R.CFG_HOLD) ∧ v.getLsbD 31 = false ∧ s.rgnDefined (v.fget F.CFG_HOLD_REGION) = true) := by decide +kernel
/-- StagingAndHoldLoadsBegin: inputs of its clauses, part 1. -/
theorem witness_StagingAndHoldLoadsBegin_1 :
    (let s : State := (shared (region (fwOn 5) 31 31) R.CFG_STG_ADDR_LO R.CFG_STG_ADDR_HI).setReg R.CFG_STG_LEN 0x2000; let v : Word := (0 : Word).fput F.CFG_STG_CTRL_REGION 31; mayW s 0x68 (R.CFG_STG_CTRL) ∧ s.loadOn .noc = none ∧ s.stageRefusal (v.fget F.CFG_STG_CTRL_REGION) true (s.addrAt R.CFG_STG_ADDR_LO R.CFG_STG_ADDR_HI) (s.reg R.CFG_STG_LEN).toNat = none) ∧
    (let s : State := ((region (fwOn 4) 31 31).setReg R.CFG_STG_ADDR_HI 0x100).setReg R.CFG_STG_LEN 0x1FFF; let v : Word := (0 : Word).fput F.CFG_STG_CTRL_REGION 31; s.stageRefusal (v.fget F.CFG_STG_CTRL_REGION) true (s.addrAt R.CFG_STG_ADDR_LO R.CFG_STG_ADDR_HI) (s.reg R.CFG_STG_LEN).toNat = some 0x1B) ∧
    (let s : State := ((shared (region (fwOn 5) 31 31) R.CFG_HLD_ADDR_LO R.CFG_HLD_ADDR_HI).setFlag (R.CFG_RGN_STAT 31) F.CFG_RGN_STAT_HELD true); let v : Word := (0 : Word).fput F.CFG_HLD_CTRL_REGION 31; mayW s 0x68 (R.CFG_HLD_CTRL) ∧ s.boot.hold = none ∧ s.rgnDefined 31 = true ∧ s.rgnHeld 31 = true ∧ s.memRange (s.addrAt R.CFG_HLD_ADDR_LO R.CFG_HLD_ADDR_HI) 4 = true) ∧
    (let s : State := region (fwOn 5) 31 31; let v : Word := (0 : Word).fput F.CFG_HLD_CTRL_REGION 31; s.rgnHeld 31 = false ∧ silent s (22)) ∧
    (let s : State := (((region (fwOn 5) 31 31).setReg R.CFG_HLD_ADDR_HI 0x100).setFlag (R.CFG_RGN_STAT 31) F.CFG_RGN_STAT_HELD true); let v : Word := (0 : Word).fput F.CFG_HLD_CTRL_REGION 31; mayW s 0x68 (R.CFG_HLD_CTRL) ∧ s.boot.hold = none ∧ s.rgnDefined 31 = true ∧ s.rgnHeld 31 = true ∧ s.memRange (s.addrAt R.CFG_HLD_ADDR_LO R.CFG_HLD_ADDR_HI) 4 = false) := by decide +kernel
/-- StagingAndHoldLoadsBegin: inputs of its clauses, part 2. -/
theorem witness_StagingAndHoldLoadsBegin_2 :
    (let s : State := region (fwOn 5) 31 31; s.boot.loads.find? (fun x => x.kind == 2 && x.path != .hold && x.region == 31 && x.verify) = none) ∧
    (let s : State := let u := (region (fwOn 5) 31 31).setShadow 31 1; { u with boot := { u.boot with loads := [{ Load.start .mailbox 2 31 with hdr := some hdr0, verify := true }] } }; s.halted = false ∧ (s.boot.loads.find? (fun x => x.kind == 2 && x.path != .hold && x.region == 31 && x.verify)).isSome = true ∧ s.rgnDefined 31 = true) := by decide +kernel
/-- BusContentionIsRecordedAndCleared: inputs of its clauses. -/
theorem witness_BusContentionIsRecordedAndCleared :
    (let s : State := let u := usr.setBit (R.FAB_BUS_VAL_HI 31) 31 true; { u with act := { u.act with cells := [(mkKey 31 31 19 4, [(0, 63), (3, 63)])] } }; s.bit (R.FAB_BUS_CONT_HI 31) 31 = false ∧ 2 ≤ (s.drivers 31 63).length ∧ silent s (31)) ∧
    (let s : State := usr.setBit (R.FAB_BUS_CONT_LO 31) 31 true; s.bit (R.FAB_BUS_CONT_LO 31) 31 = true) ∧
    (let s : State := usr; (s.drivers 31 31).length < 2) ∧
    (let s : State := usr.setReg (R.FAB_BUS_CONT_HI 31) 0xC0000001; mayW s 0x68 (R.FAB_BUS_CONT_HI 31)) := by decide +kernel
/-- ProbeControlWrites: inputs of its clauses, part 1. -/
theorem witness_ProbeControlWrites_1 :
    (let s : State := ((usr.setStaged (R.FAB_PRB_CAP 31) 5).setStaged (R.FAB_PRB_MASK_LO 31) 9).setFld (R.FAB_PRB_STAT 31) F.FAB_PRB_STAT_STATE 2; let v : Word := 0x10; mayW s 0x68 (R.FAB_PRB_CTRL 31) ∧ v.getLsbD 1 = false ∧ v.getLsbD 2 = false ∧ s.armedFor (.probe 31) = none) ∧
    (let s : State := let u := (region usr 31 31).setShadow 31 3; u.setReg (bindBit 31 (.probe 31)).1 0x80000000; mayW s 0x68 (R.FAB_PRB_CTRL 31) ∧ s.armedFor (.probe 31) = some 31) ∧
    (let s : State := let u := ((usr.setFlag (R.FAB_PRB_CTRL 31) F.FAB_PRB_CTRL_EN true).setFld (R.FAB_PRB_CAP 31) F.FAB_PRB_CAP_FIRST 254).setFld (R.FAB_PRB_CAP 31) F.FAB_PRB_CAP_COUNT 1; { u with act := { u.act with cap := [8190, 8191] } }; let v : Word := 2; mayW s 0x68 (R.FAB_PRB_CTRL 31) ∧ v.getLsbD 0 = false ∧ v.getLsbD 2 = false ∧ s.flag (R.FAB_PRB_CTRL 31) F.FAB_PRB_CTRL_EN = true ∧ s.fld (R.FAB_PRB_CAP 31) F.FAB_PRB_CAP_FIRST + s.fld (R.FAB_PRB_CAP 31) F.FAB_PRB_CAP_COUNT ≤ 255 ∧ 8190 ∈ s.act.cap ∧ 8191 ∈ s.act.cap) ∧
    (let s : State := let u := ((usr.setFlag (R.FAB_PRB_CTRL 31) F.FAB_PRB_CTRL_EN true).setFld (R.FAB_PRB_CAP 31) F.FAB_PRB_CAP_FIRST 255).setFld (R.FAB_PRB_CAP 31) F.FAB_PRB_CAP_COUNT 1; { u with act := { u.act with cap := [8190, 8191] } }; mayW s 0x68 (R.FAB_PRB_CTRL 31) ∧ s.flag (R.FAB_PRB_CTRL 31) F.FAB_PRB_CTRL_EN = true ∧ 255 < s.fld (R.FAB_PRB_CAP 31) F.FAB_PRB_CAP_FIRST + s.fld (R.FAB_PRB_CAP 31) F.FAB_PRB_CAP_COUNT) ∧
    (let s : State := usr; mayW s 0x68 (R.FAB_PRB_CTRL 31) ∧ s.flag (R.FAB_PRB_CTRL 31) F.FAB_PRB_CTRL_EN = false) := by decide +kernel
/-- ProbeControlWrites: inputs of its clauses, part 2. -/
theorem witness_ProbeControlWrites_2 :
    (let s : State := usr.setFld (R.FAB_PRB_STAT 31) F.FAB_PRB_STAT_STATE 1; mayW s 0x68 (R.FAB_PRB_CTRL 31)) := by decide +kernel
/-- ProbeCaptures: inputs of its clauses, part 1. -/
theorem witness_ProbeCaptures_1 :
    (let s : State := prb 1 2 0 [0x142, 1, 2, 3]; let x : BitVec 64 := 0x142; s.prbState 31 = 1 ∧ s.prbSampling 31 = true ∧ (s.act.clkCfg 31).leafCe = 0 ∧ (s.probe 31).pipe.length = 4 ∧ s.prbMatch 31 x = true) ∧
    (let s : State := prb 1 1023 0 [1, 0x242, 2, 3]; let u : State := s.prbClocks 31 1; s.prbState 31 = 1 ∧ u.prbState 31 = 1 ∧ u.prbSampling 31 = true ∧ (u.act.clkCfg 31).leafCe = 0 ∧ (u.probe 31).pipe.length = 4 ∧ u.prbMatch 31 ((u.probe 31).pipe.headD 0) = true) ∧
    (let s : State := prb 2 5 1 [7, 1, 2, 3]; s.prbState 31 = 2 ∧ s.prbSampling 31 = true ∧ (s.act.clkCfg 31).leafCe = 0 ∧ (s.probe 31).pipe.length = 4 ∧ (s.probe 31).left = 1) ∧
    (let s : State := prb 2 5 0 []; s.prbState 31 = 2 ∧ (s.probe 31).left = 0) ∧
    (let s : State := prb 0 0 0 [0x142, 0, 0, 0]; s.prbState 31 ≠ 1) := by decide +kernel
/-- ProbeCaptures: inputs of its clauses, part 2. -/
theorem witness_ProbeCaptures_2 :
    (let s : State := prb 1 0 0 [0x142, 0, 0, 0]; s.prbState 31 ≠ 2) := by decide +kernel
/-- BlockMemoriesReadAndWrite: inputs of its clauses, part 1. -/
theorem witness_BlockMemoriesReadAndWrite_1 :
    (let s : State := bm { BmCfg.zero with outRegB := true, outInitB := 0x123 }; s.bmUsable 8191 false = true ∧ s.bmUsable 8191 true = true ∧ s.fab.gsr = false ∧ s.rmwOf 31 255 = none ∧ (s.act.bmCfg 8191).outReg true = true) ∧
    (let s : State := bmw { BmCfg.zero with shapeB := 3 } 1023 ⟨0xAB00000000000000, false, []⟩; s.bmUsable 8191 false = true ∧ s.bmUsable 8191 true = true ∧ s.fab.gsr = false ∧ s.rmwOf 31 255 = none ∧ (s.act.bmCfg 8191).ecc = false ∧ portPlace 3 8191 = (1023, 56)) ∧
    (let s : State := bmw { BmCfg.zero with ecc := true, outRegB := true } 7 ⟨0xAB, true, []⟩; s.bmUsable 8191 false = true ∧ s.bmUsable 8191 true = true ∧ s.fab.gsr = false ∧ s.rmwOf 31 255 = none ∧ (s.act.bmCfg 8191).ecc = true ∧ (s.bmWord 31 255 7).ecc = true ∧ (s.bmWord 31 255 7).flips = []) ∧
    (let s : State := bmw { BmCfg.zero with ecc := true, outRegB := true } 7 ⟨0xAB, true, [71]⟩; (s.bmWord 31 255 7).ecc = true ∧ (s.bmWord 31 255 7).flips.length = 1 ∧ silent s (30)) ∧
    (let s : State := bmw { BmCfg.zero with ecc := true, outRegB := true } 7 ⟨0xAB, true, [0, 71]⟩; (s.bmWord 31 255 7).flips.length = 2 ∧ silent s (30)) := by decide +kernel
/-- BlockMemoriesReadAndWrite: inputs of its clauses, part 2. -/
theorem witness_BlockMemoriesReadAndWrite_2 :
    (let s : State := bmw { BmCfg.zero with shapeA := 1, modeA := 1 } 1023 ⟨0x1122334455667788, false, []⟩; s.bmUsable 8191 false = true ∧ s.bmUsable 8191 true = true ∧ s.fab.gsr = false ∧ s.rmwOf 31 255 = none ∧ s.bmWritable 31 255 = true ∧ (s.act.bmCfg 8191).narrow false 5 = false ∧ (s.act.bmCfg 8191).ecc = false) ∧
    (let s : State := bmw { BmCfg.zero with ecc := true, outRegB := true } 0 ⟨0x11, true, [3]⟩; s.bmWritable 31 255 = true ∧ (s.act.bmCfg 8191).narrow true 0xFF = false ∧ (s.act.bmCfg 8191).ecc = true) ∧
    (let s : State := (bm BmCfg.zero).setFld R.CFG_BOOT_STAT F.CFG_BOOT_STAT_STEP 2; s.bmUsable 8191 false = true ∧ s.bmUsable 8191 true = true ∧ s.fab.gsr = false ∧ s.rmwOf 31 255 = none ∧ s.bmWritable 31 255 = false) ∧
    (let s : State := bmw { BmCfg.zero with commonClk := true, modeA := 1 } 0 ⟨0x11, false, []⟩; s.bmUsable 8191 false = true ∧ s.bmUsable 8191 true = true ∧ s.fab.gsr = false ∧ s.rmwOf 31 255 = none ∧ s.bmWritable 31 255 = true ∧ (s.act.bmCfg 8191).ecc = false ∧ (s.act.bmCfg 8191).commonClk = true) ∧
    (let s : State := bmw { BmCfg.zero with ecc := true, outRegB := true } 0 ⟨0x1111, true, [3]⟩; s.bmUsable 8191 false = true ∧ s.bmUsable 8191 true = true ∧ s.fab.gsr = false ∧ s.rmwOf 31 255 = none ∧ s.bmWritable 31 255 = true ∧ (s.act.bmCfg 8191).narrow true 2 = true ∧ (s.bmWord 31 255 0).ecc = true ∧ (s.bmWord 31 255 0).flips.length ≤ 1) := by decide +kernel
/-- BlockMemoriesReadAndWrite: inputs of its clauses, part 3. -/
theorem witness_BlockMemoriesReadAndWrite_3 :
    (let s : State := bmw { BmCfg.zero with ecc := true, outRegB := true } 0 ⟨0x1111, true, [3, 4]⟩; s.bmUsable 8191 true = true ∧ s.fab.gsr = false ∧ s.rmwOf 31 255 = none ∧ s.bmWritable 31 255 = true ∧ (s.act.bmCfg 8191).narrow true 2 = true ∧ (s.bmWord 31 255 0).ecc = true ∧ (s.bmWord 31 255 0).flips.length = 2) ∧
    (let s : State := bm BmCfg.zero; (s.act.bmCfg 8191).narrow true 2 = false) ∧
    (let s : State := bm { BmCfg.zero with outRegB := true, outInitB := 0x123 }; s.bmUsable 8191 true = true ∧ s.fab.gsr = false ∧ s.rmwOf 31 255 = none ∧ (s.act.bmCfg 8191).outReg true = true) ∧
    (let s : State := let u := bmw { BmCfg.zero with ecc := true } 0 ⟨0x1111, true, []⟩; runm (execBmNarrowWrite 31 255 true 0 0xAABBCCDD 0x2 false false false u) u; s.bmUsable 8191 true = true ∧ s.fab.gsr = false ∧ s.rmwOf 31 255 = some ⟨true, 0⟩) ∧
    (let s : State := let u := bmw { BmCfg.zero with ecc := true } 0 ⟨0x1111, true, []⟩; runm (execBmNarrowWrite 31 255 true 0 0xAABBCCDD 0x2 false false false u) u; s.bmUsable 8191 false = true ∧ s.fab.gsr = false ∧ s.rmwOf 31 255 = some ⟨true, 0⟩ ∧ (portPlace 0 0).1 = 0) := by decide +kernel
/-- QueuesHoldWordsInOrder: inputs of its clauses, part 1. -/
theorem witness_QueuesHoldWordsInOrder_1 :
    (let s : State := let u := bm { BmCfg.zero with qmode := 1 }; u.setQueue (.block 31 255) { Queue.reset with rstW := false, rstR := false, wp := 1023, wrCount := 1023, rdCount := 1000 }; let c : QCfg := (s.act.bmCfg 8191).queue 31; let q : Queue := s.queue (.block 31 255); s.qCfg (.block 31 255) = some c ∧ s.queueOn (.block 31 255) false = true ∧ q.rstW = false ∧ q.full c = false ∧ (s.act.bmCfg 8191).ecc = false ∧ (s.act.bmCfg 8191).casc ≤ 1) ∧
    (let s : State := let u := bm { BmCfg.zero with qmode := 1 }; u.setQueue (.block 31 255) { Queue.reset with rstW := false, rstR := false, wp := 1023, wrCount := 1024, rdCount := 1000 }; let c : QCfg := (s.act.bmCfg 8191).queue 31; let q : Queue := s.queue (.block 31 255); s.qCfg (.block 31 255) = some c ∧ s.queueOn (.block 31 255) false = true ∧ q.rstW = false ∧ q.full c = true) ∧
    (let s : State := let u := bmw { BmCfg.zero with qmode := 1 } 1023 ⟨0x77, false, []⟩; u.setQueue (.block 31 255) { Queue.reset with rstW := false, rstR := false, rp := 1023, wrCount := 3, rdCount := 1 }; let c : QCfg := (s.act.bmCfg 8191).queue 31; let q : Queue := s.queue (.block 31 255); s.qCfg (.block 31 255) = some c ∧ s.queueOn (.block 31 255) true = true ∧ q.rstR = false ∧ q.empty c = false ∧ c.fwft = false) ∧
    (let s : State := let u := bmw { BmCfg.zero with qmode := 2, fwft := true } 1023 ⟨0x77, false, []⟩; u.setQueue (.block 31 255) { Queue.reset with rstW := false, rstR := false, rp := 1023, wrCount := 3, rdCount := 2, buf := [(1, false, false), (2, false, false)] }; let c : QCfg := (s.act.bmCfg 8191).queue 31; let q : Queue := s.queue (.block 31 255); s.qCfg (.block 31 255) = some c ∧ s.queueOn (.block 31 255) true = true ∧ q.rstR = false ∧ q.empty c = false ∧ c.fwft = true ∧ q.buf.tail = [(2, false, false)]) ∧
    (let s : State := let u := bm { BmCfg.zero with qmode := 1 }; u.setQueue (.block 31 255) { Queue.reset with rstW := false, rstR := false, dout := some 9 }; let c : QCfg := (s.act.bmCfg 8191).queue 31; let q : Queue := s.queue (.block 31 255); s.qCfg (.block 31 255) = some c ∧ s.queueOn (.block 31 255) true = true ∧ q.rstR = false ∧ q.empty c = true) := by decide +kernel
/-- QueuesHoldWordsInOrder: inputs of its clauses, part 2. -/
theorem witness_QueuesHoldWordsInOrder_2 :
    (let s : State := let u := bm { BmCfg.zero with qmode := 1 }; u.setQueue (.block 31 255) { Queue.reset with rstW := false, rstR := false, toRd := 1, toWr := 1, wrCount := 5 }; let q : Queue := s.queue (.block 31 255); (s.qCfg (.block 31 255)).isSome = true ∧ s.qRuns ((s.act.bmCfg 8191).queue 31) true = true ∧ q.toRd ≠ 0 ∧ q.toWr ≠ 0) ∧
    (let s : State := bm { BmCfg.zero with qmode := 1 }; (s.queue (.block 31 255)).toRd = 0 ∧ s.fab.gsr = false) ∧
    (let s : State := bm { BmCfg.zero with qmode := 2 }; (s.qCfg (.block 31 255)) = some ((s.act.bmCfg 8191).queue 31) ∧ s.fab.gsr = false ∧ s.qRuns ((s.act.bmCfg 8191).queue 31) true = true) ∧
    (let s : State := bm { BmCfg.zero with qmode := 1 }; (s.qCfg (.block 31 255)) = some ((s.act.bmCfg 8191).queue 31) ∧ s.fab.gsr = false ∧ s.qRuns ((s.act.bmCfg 8191).queue 31) false = true) ∧
    (let s : State := let u := bm { BmCfg.zero with qmode := 1 }; { u with fab := { u.fab with gsr := true } }; (s.qCfg (.block 31 255)) = some ((s.act.bmCfg 8191).queue 31) ∧ s.fab.gsr = true) := by decide +kernel
/-- QueuesHoldWordsInOrder: inputs of its clauses, part 3. -/
theorem witness_QueuesHoldWordsInOrder_3 :
    (let s : State := let u := { usr with act := { usr.act with clk := [(27, ck), (31, ck)], cross := [(mkKey 27 0 0 124, [(2 * crossKey 27 0 127, (0, 9))])] } }; u.setQueue (.crossing 27 0 127) { Queue.reset with rstW := false, rstR := false, wp := 15, wrCount := 15 }; let c : QCfg := ⟨false, true, 16, 1, 0, 9, (27, 0), (31, 16)⟩; let q : Queue := s.queue (.crossing 27 0 127); s.qCfg (.crossing 27 0 127) = some c ∧ s.queueOn (.crossing 27 0 127) false = true ∧ q.rstW = false ∧ q.full c = false) := by decide +kernel
/-- SlicesComputeAndSaturate: inputs of its clauses. -/
theorem witness_SlicesComputeAndSaturate :
    (let s : State := (sl { SliceCfg.zero with satEn := true, ow := 16 }).setSlice 12287 { Slice.zero with acc := BitVec.ofInt 58 (2 ^ 57 - 2) }; let c : SliceCfg := s.act.slCfg 12287; s.fab.gsr = false ∧ s.heldIn (s.sliceRegion 12287) = false ∧ s.netRuns 31 (s.act.slCfg 12287).net = true ∧ c.regs = 0 ∧ c.presum = false ∧ c.yChain = false) ∧
    (let s : State := sl { SliceCfg.zero with presum := true, ow := 16 }; let c : SliceCfg := s.act.slCfg 12287; s.fab.gsr = false ∧ s.netRuns 31 c.net = true ∧ c.regs = 0 ∧ c.presum = true ∧ c.yChain = false ∧ c.psub = 0) ∧
    (let s : State := (sl { SliceCfg.zero with regs := 31, ow := 16 }).setSlice 12287 { Slice.zero with i1 := ⟨1, 2, 3, 4, 3, false, true⟩, ps := ⟨⟨5, 0, 0, 0, 3, false, true⟩, 7, 0⟩, pr := ⟨⟨0, 0, 0, 0, 3, false, true⟩, 11⟩, acc := 100, accV := true }; let c : SliceCfg := s.act.slCfg 12287; s.fab.gsr = false ∧ s.heldIn (s.sliceRegion 12287) = false ∧ s.netRuns 31 c.net = true ∧ c.regs = 31 ∧ c.presum = false) ∧
    (let s : State := (sl { SliceCfg.zero with regs := 31, ow := 16 }).setSlice 12287 { Slice.zero with acc := 100, accV := true }; s.fab.gsr = false ∧ s.heldIn (s.sliceRegion 12287) = false ∧ s.netRuns 31 (s.act.slCfg 12287).net = true) ∧
    (let s : State := on; s.fab.gsr = true) := by decide +kernel
/-- ExponentGroupsCloseAndShift: inputs of its clauses, part 1. -/
theorem witness_ExponentGroupsCloseAndShift_1 :
    (let s : State := (sl { SliceCfg.zero with blkLen := 4, ow := 16 }).setGroup 12287 { Group.zero with count := 4, low := some 3 }; s.head 12287 = 12287 ∧ 0 < (s.act.slCfg 12287).blkLen ∧ (s.act.slCfg 12287).blkLen ≤ (s.group 12287).count ∧ s.heldIn (s.sliceRegion 12287) = false ∧ s.netRuns 31 (s.act.slCfg 12287).net = true) ∧
    (let s : State := (sl { SliceCfg.zero with blkLen := 4, ow := 16 }).setGroup 12287 { Group.zero with count := 3, low := some 3 }; (s.group 12287).count < (s.act.slCfg 12287).blkLen) ∧
    (let s : State := (sl { SliceCfg.zero with blkLen := 4, ow := 16, cycSrc := 1, accCyc := true }).setGroup 12287 { Group.zero with count := 3 }; s.head 12287 = 12287 ∧ s.fab.gsr = false ∧ s.heldIn (s.sliceRegion 12287) = false ∧ s.netRuns 31 (s.act.slCfg 12287).net = true ∧ (s.act.slCfg 12287).cycSrc = 1 ∧ 12287 ∈ s.members s.act 12287) ∧
    (let s : State := (sl { SliceCfg.zero with blkLen := 4, ow := 16, cycSrc := 2 }).setGroup 12287 { Group.zero with count := 3, cone := true }; s.head 12287 = 12287 ∧ s.fab.gsr = false ∧ s.heldIn (s.sliceRegion 12287) = false ∧ s.netRuns 31 (s.act.slCfg 12287).net = true ∧ (s.act.slCfg 12287).cycSrc = 2 ∧ (s.group 12287).cone = true) ∧
    (let s : State := sl { SliceCfg.zero with blkLen := 4, ow := 16 }; (s.act.slCfg 12287).cycSrc = 0 ∧ (∀ p ∈ s.fab.groups, p.2.cone = false)) := by decide +kernel
/-- ExponentGroupsCloseAndShift: inputs of its clauses, part 2. -/
theorem witness_ExponentGroupsCloseAndShift_2 :
    (let s : State := (sl { SliceCfg.zero with ow := 16, shBase := 5, guard := 4, grpShift := true }).setGroup 12287 { Group.zero with next := [(2, true), (9, false)], pulse := true }; s.fab.gsr = false ∧ s.heldIn (s.sliceRegion 12287) = false ∧ s.netRuns 31 (s.act.slCfg 12287).net = true ∧ (s.group 12287).next = (2, true) :: [(9, false)]) ∧
    (let s : State := sl SliceCfg.zero; (s.group 12287).next = []) := by decide +kernel
/-- TimeDomainsSlewAndServe: inputs of its clauses, part 1. -/
theorem witness_TimeDomainsSlewAndServe_1 :
    (let s : State := ((tim.setReg (R.TIM_TD_W0 31) 1000000000).setReg (R.TIM_TD_W1 31) 7).setReg (R.TIM_TD_W2 31) 1 |>.setSlew 31 5; let v : Word := 2; mayW s 0x68 (R.TIM_TD_CTRL 31) ∧ s.timRun = true ∧ (∀ j ∈ List.range 4, j ≠ 1 → v.getLsbD j = false) ∧ v.getLsbD 4 = s.flag (R.TIM_TD_CTRL 31) F.TIM_TD_CTRL_SERVO_EN) ∧
    (let s : State := ((tim.setReg (R.TIM_TD_W0 0) 0).setReg (R.TIM_TD_W1 0) 0xFFFFFFFF).setReg (R.TIM_TD_W2 0) 0xFFFFFFFF |>.setCtr 0 5; let v : Word := 4; mayW s 0x68 (R.TIM_TD_CTRL 0) ∧ s.timRun = true ∧ (∀ j ∈ List.range 4, j ≠ 2 → v.getLsbD j = false) ∧ v.getLsbD 4 = s.flag (R.TIM_TD_CTRL 0) F.TIM_TD_CTRL_SERVO_EN) ∧
    (let s : State := (tim.setReg (R.TIM_TD_W0 31) 0x10000).setCtr 31 5; let v : Word := 8; mayW s 0x68 (R.TIM_TD_CTRL 31) ∧ s.timRun = true ∧ (∀ j ∈ List.range 4, j ≠ 3 → v.getLsbD j = false) ∧ v.getLsbD 4 = s.flag (R.TIM_TD_CTRL 31) F.TIM_TD_CTRL_SERVO_EN) ∧
    (let s : State := tim.setCtr 31 (123456789012345 * 2 ^ 48 + 77 * 2 ^ 32); let v : Word := 1; mayW s 0x68 (R.TIM_TD_CTRL 31) ∧ s.timRun = true ∧ (∀ j ∈ List.range 4, j ≠ 0 → v.getLsbD j = false) ∧ v.getLsbD 4 = s.flag (R.TIM_TD_CTRL 31) F.TIM_TD_CTRL_SERVO_EN) ∧
    (let s : State := usr; let v : Word := 2; s.timRun = false ∧ mayW s 0x68 (R.TIM_TD_CTRL 31) ∧ (∀ j ∈ List.range 4, j ≠ 1 → v.getLsbD j = false) ∧ v.getLsbD 4 = s.flag (R.TIM_TD_CTRL 31) F.TIM_TD_CTRL_SERVO_EN) := by decide +kernel
/-- TimeDomainsSlewAndServe: inputs of its clauses, part 2. -/
theorem witness_TimeDomainsSlewAndServe_2 :
    (let s : State := tim.setSlew 31 (-1000000); s.timRun = true ∧ s.slewLeft 31 ≠ 0) ∧
    (let s : State := tim.setFlag (R.TIM_TD_CTRL 31) F.TIM_TD_CTRL_SERVO_EN true; mayW s 0x68 (R.TIM_TD_OFFS_HI 31) ∧ s.timRun = true ∧ s.frozen F.DBG_FRZ_TIM = false ∧ s.flag (R.TIM_TD_CTRL 31) F.TIM_TD_CTRL_SERVO_EN = true ∧ s.fld (R.TIM_TD_CTRL 31) F.TIM_TD_CTRL_OSRC < 4 ∧ s.busy 31 = none) ∧
    (let s : State := let u := tim.setFlag (R.TIM_TD_CTRL 31) F.TIM_TD_CTRL_SERVO_EN true; { u with tim := { u.tim with busy := [(31, some 4)] } }; mayW s 0x68 (R.TIM_TD_OFFS_HI 31) ∧ s.timRun = true ∧ s.frozen F.DBG_FRZ_TIM = false ∧ s.flag (R.TIM_TD_CTRL 31) F.TIM_TD_CTRL_SERVO_EN = true ∧ s.fld (R.TIM_TD_CTRL 31) F.TIM_TD_CTRL_OSRC < 4 ∧ s.busy 31 = some 4 ∧ s.waiting 31 = none) ∧
    (let s : State := let u := tim.setFlag (R.TIM_TD_CTRL 31) F.TIM_TD_CTRL_SERVO_EN true; { u with tim := { u.tim with busy := [(31, some 4)], wait := [(31, some 5)] } }; mayW s 0x68 (R.TIM_TD_OFFS_HI 31) ∧ s.timRun = true ∧ s.frozen F.DBG_FRZ_TIM = false ∧ s.flag (R.TIM_TD_CTRL 31) F.TIM_TD_CTRL_SERVO_EN = true ∧ s.fld (R.TIM_TD_CTRL 31) F.TIM_TD_CTRL_OSRC < 4 ∧ s.busy 31 = some 4 ∧ s.waiting 31 = some 5) ∧
    (let s : State := let u := (tim.setFlag (R.TIM_TD_CTRL 31) F.TIM_TD_CTRL_SERVO_EN true).setReg (R.TIM_TD_GAIN 31) 0x00030002; { u with tim := { u.tim with busy := [(31, some (-70000))], wait := [(31, some 5)] } }; s.frozen F.DBG_FRZ_TIM = false ∧ s.busy 31 = some (-70000) ∧ s.flag (R.TIM_TD_CTRL 31) F.TIM_TD_CTRL_STEP_EN = false) := by decide +kernel
/-- TimeDomainsSlewAndServe: inputs of its clauses, part 3. -/
theorem witness_TimeDomainsSlewAndServe_3 :
    (let s : State := tim; s.busy 31 = none) ∧
    (let s : State := tim.setReg (R.TIM_TD_FREQ_LO 31) 1000; let v : Word := 0; mayW s 0x68 (R.TIM_TD_CTRL 31) ∧ (∀ j ∈ List.range 4, v.getLsbD j = false) ∧ s.flag (R.TIM_TD_CTRL 31) F.TIM_TD_CTRL_SERVO_EN = false) := by decide +kernel
/-- PulsesAndCones: inputs of its clauses, part 1. -/
theorem witness_PulsesAndCones_1 :
    (let s : State := ((tim.setReg (R.TIM_PPSI_CFG 3) 1).setFld (R.TIM_TD_CTRL 31) F.TIM_TD_CTRL_OSRC 7).setFlag (R.TIM_TD_CTRL 31) F.TIM_TD_CTRL_SERVO_EN true |>.setCtr 31 (5 * secU + 3 * nsU); let u : State := s.advance 0; let c : Nat := (u.reg (R.TIM_PPSI_CFG 3)).toNat; u.timRun = true ∧ c % 2 = 1 ∧ c / 2 % 2 = 0 ∧ Tbl.get (fun _ => 0) u.tim.ppsIn 3 = 0 ∧ u.fld (R.TIM_TD_CTRL 31) F.TIM_TD_CTRL_OSRC = 7 ∧ u.flag (R.TIM_TD_CTRL 31) F.TIM_TD_CTRL_SERVO_EN = true ∧ u.frozen F.DBG_FRZ_TIM = false ∧ u.busy 31 = none) ∧
    (let s : State := let w := (tim.setReg (R.TIM_PPSI_CFG 0) 3); { w with tim := { w.tim with ppsIn := [(0, 1)], cycles := 500000000 } }; let u : State := s.advance 0; let c : Nat := (u.reg (R.TIM_PPSI_CFG 0)).toNat; u.timRun = true ∧ c % 2 = 1 ∧ ¬ (c / 2 % 2 = 0) ∧ Tbl.get (fun _ => 0) u.tim.ppsIn 0 - 1 + 500000000 ≤ u.tim.cycles) ∧
    (let s : State := tim; (s.reg (R.TIM_PPSI_CFG 0)).toNat % 2 = 0) ∧
    (let s : State := (tim.setReg (R.TIM_PPSO_CFG 3) 0x1F1); s.timRun = true ∧ (s.reg (R.TIM_PPSO_CFG 3)).toNat % 2 = 1 ∧ s.tim.ppsJump.contains 3 = false) ∧
    (let s : State := usr; s.timRun = false) := by decide +kernel
/-- PulsesAndCones: inputs of its clauses, part 2. -/
theorem witness_PulsesAndCones_2 :
    (let s : State := (tim.setReg (R.TIM_CONE_TSEC_LO 63) 100); let v : Word := (1 : Word).fput F.TIM_CONE_CTRL_DOM 31; mayW s 0x68 (R.TIM_CONE_CTRL 63) ∧ s.flag (R.TIM_CONE_CTRL 63) F.TIM_CONE_CTRL_EN = false ∧ passed (s.coneTarget 63) (s.conePeriod 63) (reached (s.ctr (v.fget F.TIM_CONE_CTRL_DOM))) = 0) ∧
    (let s : State := tim.setCtr 31 secU; let v : Word := (1 : Word).fput F.TIM_CONE_CTRL_DOM 31; mayW s 0x68 (R.TIM_CONE_CTRL 63) ∧ s.flag (R.TIM_CONE_CTRL 63) F.TIM_CONE_CTRL_EN = false ∧ s.timRun = true ∧ passed (s.coneTarget 63) (s.conePeriod 63) (reached (s.ctr (v.fget F.TIM_CONE_CTRL_DOM))) ≠ 0 ∧ v.getLsbD 2 = false) ∧
    (let s : State := tim.setCtr 31 secU; let v : Word := (5 : Word).fput F.TIM_CONE_CTRL_DOM 31; mayW s 0x68 (R.TIM_CONE_CTRL 63) ∧ s.flag (R.TIM_CONE_CTRL 63) F.TIM_CONE_CTRL_EN = false ∧ s.timRun = true ∧ passed (s.coneTarget 63) (s.conePeriod 63) (reached (s.ctr (v.fget F.TIM_CONE_CTRL_DOM))) ≠ 0 ∧ v.getLsbD 2 = true) ∧
    (let s : State := ((tim.setFlag (R.TIM_CONE_CTRL 63) F.TIM_CONE_CTRL_EN true).setFlag (R.TIM_CONE_CTRL 63) F.TIM_CONE_CTRL_ARMED true); mayW s 0x68 (R.TIM_CONE_CTRL 63)) ∧
    (let s : State := (tim.setFlag (R.TIM_CONE_CTRL 63) F.TIM_CONE_CTRL_ARMED true).setCone 63 ⟨secU, none⟩; s.coneArmed 63 = true ∧ s.flag (R.TIM_CONE_CTRL 63) F.TIM_CONE_CTRL_PERIODIC = false) := by decide +kernel
/-- PulsesAndCones: inputs of its clauses, part 3. -/
theorem witness_PulsesAndCones_3 :
    (let s : State := ((tim.setFlag (R.TIM_CONE_CTRL 63) F.TIM_CONE_CTRL_ARMED true).setFlag (R.TIM_CONE_CTRL 63) F.TIM_CONE_CTRL_PERIODIC true |>.setReg (R.TIM_CONE_PER 63) 100).setCone 63 ⟨5, none⟩; s.coneArmed 63 = true ∧ s.flag (R.TIM_CONE_CTRL 63) F.TIM_CONE_CTRL_PERIODIC = true ∧ (s.cone 63).left = none) ∧
    (let s : State := tim; s.coneArmed 63 = false ∧ s.tim.deliv = []) ∧
    (let s : State := let w := (((tim.setFlag (R.CFG_RGN_CTRL 31) F.CFG_RGN_CTRL_CONE_EN true).setFld (R.CFG_RGN_CTRL 31) F.CFG_RGN_CTRL_CONE 63).setFlag (R.TIM_EVT_CFG 15) F.TIM_EVT_CFG_EN true).setFld (R.TIM_EVT_CFG 15) F.TIM_EVT_CFG_CONE 63; { w with tim := { w.tim with deliv := [(63, 6), (2, 9)] } }; s.tim.deliv = (63, 6) :: [(2, 9)] ∧ s.timRun = true ∧ s.flag (R.TIM_EVT_CFG 15) F.TIM_EVT_CFG_EN = true ∧ s.fld (R.TIM_EVT_CFG 15) F.TIM_EVT_CFG_CONE = 63 ∧ s.coneRegions 63 = [31]) := by decide +kernel
/-- CapturesAndLaneTimeStamps: inputs of its clauses, part 1. -/
theorem witness_CapturesAndLaneTimeStamps_1 :
    (let s : State := (tim.setFlag (R.TIM_CAP_CFG 15) F.TIM_CAP_CFG_EN true).setFld (R.TIM_CAP_CFG 15) F.TIM_CAP_CFG_EDGE 1; let u : State := s.advance 3; u.timRun = true ∧ u.capPortUp 15 = true ∧ u.capWatches 15 15 = true ∧ (∀ c ∈ List.range 64, c ≠ 15 → u.capWatches c 15 = false) ∧ (u.fld (R.TIM_CAP_CFG 15) F.TIM_CAP_CFG_EDGE).testBit 0 = true ∧ Tbl.get (fun _ => 0) u.tim.capLast 15 = 0 ∧ (u.capFifo 3).length < 32) ∧
    (let s : State := let w := (tim.setFlag (R.TIM_CAP_CFG 15) F.TIM_CAP_CFG_EN true).setFld (R.TIM_CAP_CFG 15) F.TIM_CAP_CFG_EDGE 2; { w with tim := { w.tim with fifo := [(3, List.replicate 32 ⟨15, false, 0⟩)] } }; let u : State := s.advance 3; u.timRun = true ∧ u.capPortUp 15 = true ∧ u.capWatches 15 15 = true ∧ (∀ c ∈ List.range 64, c ≠ 15 → u.capWatches c 15 = false) ∧ Tbl.get (fun _ => 0) u.tim.capLast 15 = 0 ∧ 32 ≤ (u.capFifo 3).length ∧ (u.fld (R.TIM_CAP_CFG 15) F.TIM_CAP_CFG_EDGE).testBit 1 = true) ∧
    (let s : State := { tim with tim := { tim.tim with fifo := [(15, [⟨63, true, (7 * 10 ^ 9 + 5) * 2 ^ 16⟩, ⟨1, false, 0⟩])] } }; mayR s 0x68 (R.TIM_CAPF_W0 15) ∧ (s.capFifo 15).length = 2) ∧
    (let s : State := tim; mayR s 0x68 (R.TIM_CAPF_W0 15) ∧ s.capFifo 15 = []) ∧
    (let s : State := lane143; s.operates 143 = true ∧ s.flag (R.TIM_LN_CFG 143) F.TIM_LN_CFG_TX_EN = false) := by decide +kernel
/-- CapturesAndLaneTimeStamps: inputs of its clauses, part 2. -/
theorem witness_CapturesAndLaneTimeStamps_2 :
    (let s : State := lane143.setFlag (R.TIM_LN_CFG 143) F.TIM_LN_CFG_TX_EN true; s.operates 143 = true ∧ s.stamps 143 = true ∧ s.flag (R.TIM_LN_CFG 143) F.TIM_LN_CFG_TX_EN = true ∧ (s.tsFifo 143).length < 16) ∧
    (let s : State := (lane143.setFlag (R.TIM_LN_CFG 143) F.TIM_LN_CFG_TX_EN true).setFlag (R.TIM_LN_CFG 143) F.TIM_LN_CFG_ONESTEP_EN true; let frame : List Byte := List.replicate 60 0x11; s.operates 143 = true ∧ s.stamps 143 = true ∧ s.flag (R.TIM_LN_CFG 143) F.TIM_LN_CFG_TX_EN = true ∧ s.flag (R.TIM_LN_CFG 143) F.TIM_LN_CFG_ONESTEP_EN = true ∧ (stampDelta (s.laneStamp 143 true 0 0) 0).natAbs < 8 * 10 ^ 9 ∧ 14 ≤ 14 ∧ 14 + 20 ≤ frame.length) ∧
    (let s : State := let w := tim.setFlag (R.TIM_LN_CFG 143) F.TIM_LN_CFG_TSF_CSR true; { w with tim := { w.tim with tsf := [(143, [(7, 2 ^ 32 + 9)])] } }; mayR s 0x68 (R.TIM_LN_TSF0 143) ∧ s.tsFifo 143 = [(7, 2 ^ 32 + 9)] ∧ s.flag (R.TIM_LN_CFG 143) F.TIM_LN_CFG_TSF_CSR = true) ∧
    (let s : State := { tim with tim := { tim.tim with tsf := [(143, [(7, 9)])] } }; s.flag (R.TIM_LN_CFG 143) F.TIM_LN_CFG_TSF_CSR = false) ∧
    (let s : State := tim.setFlag (R.TIM_LN_CFG 143) F.TIM_LN_CFG_TSF_CSR true; s.flag (R.TIM_LN_CFG 143) F.TIM_LN_CFG_TSF_CSR = true) := by decide +kernel
/-- QuadsAndLanesTakeSettings: inputs of its clauses, part 1. -/
theorem witness_QuadsAndLanesTakeSettings_1 :
    (let s : State := live; let v : Word := 0x23; mayW s 0x68 (R.LQ_CTRL 35) ∧ v.getLsbD 1 = s.flag (R.LQ_CTRL 35) F.LQ_CTRL_EN ∧ s.armedFor (.quad 35) = none ∧ s.lcValid 35 (s.staged (R.LQ_LCPLL 35)) (s.staged (R.LQ_LCFRAC 35)) = true ∧ s.operates 143 = true) ∧
    (let s : State := ((live.setStaged (R.LQ_LCPLL 35) 0x001).setStaged (R.LN_RATE 143) 0x0E).setStaged (R.LN_TX_FFE 143) 0x3FFFFFF |>.setStaged (R.LN_TX_FFE 142) 0x01E0FC00; let v : Word := 0x23; mayW s 0x68 (R.LQ_CTRL 35) ∧ v.getLsbD 1 = s.flag (R.LQ_CTRL 35) F.LQ_CTRL_EN ∧ s.armedFor (.quad 35) = none ∧ s.lcValid 35 (s.staged (R.LQ_LCPLL 35)) (s.staged (R.LQ_LCFRAC 35)) = false ∧ ffeValid (s.staged (R.LN_TX_FFE 142)) = false ∧ ffeValid (s.staged (R.LN_TX_FFE 141)) = true) ∧
    (let s : State := live.setStaged (R.LN_RATE 143) 0x1A; let v : Word := 0x23; mayW s 0x68 (R.LQ_CTRL 35) ∧ v.getLsbD 1 = s.flag (R.LQ_CTRL 35) F.LQ_CTRL_EN ∧ s.armedFor (.quad 35) = none) ∧
    (let s : State := ((region live 31 31).setReg (R.LQ_CTRL 35) 2).setShadow 31 3 |>.setReg (R.CFG_BIND_QUAD_HI 31) 8; let v : Word := 3; mayW s 0x68 (R.LQ_CTRL 35) ∧ s.armedFor (.quad 35) = some 31 ∧ v.getLsbD 1 = s.flag (R.LQ_CTRL 35) F.LQ_CTRL_EN) ∧
    (let s : State := (live.setFlag (R.LN_STAT 143) F.LN_STAT_APPLY_PEND true).setReg (R.LN_RATE 143) 0x0E; ((s.quad 35).lcOn = true → s.flag (R.LQ_CTRL 35) F.LQ_CTRL_LC_EN = true) ∧ s.laneLive 143 = true ∧ s.flag (R.LN_STAT 143) F.LN_STAT_APPLY_PEND = true ∧ (s.target 143).1.fget ⟨0, 5⟩ ≠ (s.lane 143).rate.fget ⟨0, 5⟩) := by decide +kernel
/-- QuadsAndLanesTakeSettings: inputs of its clauses, part 2. -/
theorem witness_QuadsAndLanesTakeSettings_2 :
    (let s : State := ((codedUp 1).setFlag (R.LN_STAT 143) F.LN_STAT_APPLY_PEND true).setFlag (R.LN_STAT 143) F.LN_STAT_RX_READY true; ((s.quad 35).lcOn = true → s.flag (R.LQ_CTRL 35) F.LQ_CTRL_LC_EN = true) ∧ s.target 143 = ((s.lane 143).rate, (s.lane 143).rpll, (s.lane 143).rfrac, (s.target 143).2.2.2.1, (s.lane 143).mode) ∧ s.reg (R.LQ_LCPLL (143 / 4)) = (s.lane 143).lcpll ∧ s.reg (R.LQ_LCFRAC (143 / 4)) = (s.lane 143).lcfrac ∧ s.flag (R.LN_STAT 143) F.LN_STAT_CHANGING = false ∧ s.laneLive 143 = true ∧ s.flag (R.LN_STAT 143) F.LN_STAT_APPLY_PEND = true) ∧
    (let s : State := live.setFlag (R.LN_STAT 143) F.LN_STAT_CHANGING true; s.laneLive 143 = true ∧ s.flag (R.LN_STAT 143) F.LN_STAT_CHANGING = true ∧ s.refUp 143 = true ∧ selRing (s.lane 143).rate = true) ∧
    (let s : State := let u := live.setFlag (R.LN_STAT 143) F.LN_STAT_CHANGING true; (u.setLane 143 { u.lane 143 with rate := 0x10 }).setQuad 35 { u.quad 35 with lcOn := true }; s.laneLive 143 = true ∧ s.flag (R.LN_STAT 143) F.LN_STAT_CHANGING = true ∧ s.refUp 143 = true ∧ selRing (s.lane 143).rate = false ∧ (s.quad (143 / 4)).lcOn = true) ∧
    (let s : State := (rxUp.setFlag (R.LN_STAT 143) F.LN_STAT_LOL true).setLane 143 { rxUp.lane 143 with due := false, mode := 0 }; s.laneLive 143 = true ∧ s.los 143 = false ∧ s.lol 143 = true ∧ s.flag (R.LN_STAT 143) F.LN_STAT_CHANGING = false ∧ s.pllUp 143 = true ∧ (s.lane 143).due = false) ∧
    (let s : State := (rxUp.setFlag (R.LN_STAT 143) F.LN_STAT_LOL true).setLane 143 { rxUp.lane 143 with due := true } |>.setFlag (R.LN_STAT 143) F.LN_STAT_RX_READY true; s.laneLive 143 = true ∧ s.los 143 = false ∧ s.lol 143 = true ∧ s.flag (R.LN_STAT 143) F.LN_STAT_CHANGING = false ∧ s.pllUp 143 = true ∧ (s.lane 143).due = true) := by decide +kernel
/-- QuadsAndLanesTakeSettings: inputs of its clauses, part 3. -/
theorem witness_QuadsAndLanesTakeSettings_3 :
    (let s : State := usr; s.laneLive 143 = false) ∧
    (let s : State := let u := (rxUp.setFlag (R.LN_STAT 142) F.LN_STAT_APPLY_PEND true).setFlag (R.LN_CTRL 142) F.LN_CTRL_EN true; let w := (u.setReg (R.LN_RATE 143) 0x10).setFlag (R.LN_STAT 143) F.LN_STAT_LOL false; (w.setLane 143 { w.lane 143 with rate := 0x10 }).setQuad 35 { w.quad 35 with lcOn := true }; s.laneLive 142 = true ∧ s.flag (R.LN_STAT 142) F.LN_STAT_APPLY_PEND = true ∧ (s.quad 35).lcOn = true ∧ s.flag (R.LQ_CTRL 35) F.LQ_CTRL_LC_EN = false ∧ s.operates 143 = true ∧ selRing (s.target 143).1 = false ∧ s.lol 143 = false) := by decide +kernel
/-- ReceiversPatternsAndEyeScans: inputs of its clauses, part 1. -/
theorem witness_ReceiversPatternsAndEyeScans_1 :
    (let s : State := (codedUp 2).setFlag (R.LN_PRBS_RX 143) F.LN_PRBS_RX_SYNC true; s.laneLive 143 = true ∧ s.lol 143 = false ∧ s.flag (R.LN_STAT 143) F.LN_STAT_CHANGING = false) ∧
    (let s : State := live; s.lol 143 = true) ∧
    (let s : State := grp15 4; s.laneLive 143 = true ∧ s.lol 143 = false ∧ s.flag (R.LN_STAT 143) F.LN_STAT_CHANGING = false) ∧
    (let s : State := codedUp 2; 4 * 99 < 5 * s.losOff 143 ∧ s.laneLive 143 = true ∧ s.los 143 = false ∧ silent s (192 + 143)) ∧
    (let s : State := live; s.laneLive 143 = true ∧ s.los 143 = true ∧ 3 * (s.losOff 143 + 20) < 4 * 76) := by decide +kernel
/-- ReceiversPatternsAndEyeScans: inputs of its clauses, part 2. -/
theorem witness_ReceiversPatternsAndEyeScans_2 :
    (let s : State := codedUp 2; 5 * s.losOff 143 ≤ 4 * 100) ∧
    (let s : State := live; 4 * 75 ≤ 3 * (s.losOff 143 + 20)) ∧
    (let s : State := rxUp.setLane 143 { rxUp.lane 143 with adapt := true, eq := (0xFF : Word) } |>.setFld (R.LN_RX_EQ_STAT 143) F.LN_RX_EQ_STAT_RETRY 255; s.lol 143 = false ∧ s.laneLive 143 = true ∧ (s.lane 143).adapt = true) ∧
    (let s : State := rxUp.setLane 143 { rxUp.lane 143 with adapt := true, eq := (0x11 : Word) }; s.lol 143 = false ∧ s.laneLive 143 = true ∧ (s.lane 143).adapt = true ∧ (s.lane 143).eq.fget F.LN_RX_EQ_CTLE_AD = 0 ∧ (s.lane 143).eq.fget F.LN_RX_EQ_DFE_AD = 0) ∧
    (let s : State := (rxUp.setLane 143 { rxUp.lane 143 with eq := (((0 : Word).fput F.LN_RX_EQ_CONT 1).fput F.LN_RX_EQ_CTLE_AD 1).fput F.LN_RX_EQ_DFE_AD 1 }).setFlag (R.LN_STAT 143) F.LN_STAT_RX_READY true; s.laneLive 143 = true ∧ (s.lane 143).adapt = false ∧ s.flag (R.LN_STAT 143) F.LN_STAT_RX_READY = true ∧ (s.lane 143).eq.fget F.LN_RX_EQ_CONT ≠ 0 ∧ s.rxData 143 = true) := by decide +kernel
/-- ReceiversPatternsAndEyeScans: inputs of its clauses, part 3. -/
theorem witness_ReceiversPatternsAndEyeScans_3 :
    (let s : State := rxUp; s.laneLive 143 = true ∧ (s.lane 143).adapt = false ∧ s.flag (R.LN_STAT 143) F.LN_STAT_RX_READY = false) ∧
    (let s : State := rxUp.setLane 143 { rxUp.lane 143 with adapt := true } |>.setFld (R.LN_RX_EQ_STAT 143) F.LN_RX_EQ_STAT_RETRY 255; s.lol 143 = false ∧ s.laneLive 143 = true ∧ (s.lane 143).adapt = true) ∧
    (let s : State := rxUp.setFlag (R.LN_STAT 143) F.LN_STAT_RX_READY true; let v : Word := 0x11; mayW s 0x68 (R.LN_CTRL 143) ∧ s.laneLive 143 = true ∧ v.getLsbD 0 = true) ∧
    (let s : State := live; let v : Word := 0x11; mayW s 0x68 (R.LN_CTRL 143) ∧ s.laneLive 143 = true ∧ v.getLsbD 0 = true) ∧
    (let s : State := rxUp; s.bscan = false ∧ s.flag (R.LQ_STAT 35) F.LQ_STAT_REF0_OK = true ∧ s.laneLive 143 = true ∧ selRing (s.lane 143).rate = true ∧ (s.lane 143).rpll.fget F.LN_RPLL_REFSEL = b2n false) := by decide +kernel
/-- ReceiversPatternsAndEyeScans: inputs of its clauses, part 4. -/
theorem witness_ReceiversPatternsAndEyeScans_4 :
    (let s : State := usr; s.bscan = false) ∧
    (let s : State := let u := (rxUp.setFlag (R.LQ_STAT 35) F.LQ_STAT_LC_LOCK true).setFlag (R.LQ_CTRL 35) F.LQ_CTRL_LC_EN true; u.setLane 143 { u.lane 143 with rate := 0x10 }; s.bscan = false ∧ s.flag (R.LQ_STAT 35) F.LQ_STAT_LC_LOCK = true ∧ s.flag (R.LQ_CTRL 35) F.LQ_CTRL_LC_EN = true ∧ s.laneLive 143 = true ∧ selRing (s.lane 143).rate = false) ∧
    (let s : State := rxUp; s.laneLive (4 * 35 + 3) = true ∧ s.flag (R.LN_STAT (4 * 35 + 3)) F.LN_STAT_RPLL_LOCK = true ∧ selRing (s.lane 143).rate = true) ∧
    (let s : State := usr; let v : Word := 0xFFFFFFFF; mayW s 0x68 (R.LN_PRBS_TX 143)) ∧
    (let s : State := ((usr.setReg (R.LN_PRBS_ERR 143) 7).setReg (R.LN_PRBS_BITS_LO 143) 7).setReg (R.LN_PRBS_BITS_HI 143) 7 |>.setFlag (R.LN_PRBS_RX 143) F.LN_PRBS_RX_SYNC true; let v : Word := 0x20; mayW s 0x68 (R.LN_PRBS_RX 143) ∧ v.getLsbD 4 = false) := by decide +kernel
/-- ReceiversPatternsAndEyeScans: inputs of its clauses, part 5. -/
theorem witness_ReceiversPatternsAndEyeScans_5 :
    (let s : State := usr.setFlag (R.LN_PRBS_RX 143) F.LN_PRBS_RX_SYNC true; let v : Word := 0x30; mayW s 0x68 (R.LN_PRBS_RX 143) ∧ v.getLsbD 4 = true) ∧
    (let s : State := (rxUp.setFlag (R.LN_PRBS_RX 143) F.LN_PRBS_RX_EN true).setFld (R.LN_PRBS_RX 143) F.LN_PRBS_RX_PATTERN 9; s.laneLive 143 = true ∧ s.flag (R.LN_PRBS_RX 143) F.LN_PRBS_RX_EN = true ∧ s.los 143 = false ∧ s.lol 143 = false ∧ s.fld (R.LN_PRBS_RX 143) F.LN_PRBS_RX_PATTERN ≠ 0xA ∧ s.fld (R.LN_PRBS_RX 143) F.LN_PRBS_RX_PATTERN ≠ 0xB) ∧
    (let s : State := (rxUp.setFlag (R.LN_PRBS_RX 143) F.LN_PRBS_RX_EN true).setFld (R.LN_PRBS_RX 143) F.LN_PRBS_RX_PATTERN 0xB; s.fld (R.LN_PRBS_RX 143) F.LN_PRBS_RX_PATTERN = 0xB) ∧
    (let s : State := (rxUp.setFlag (R.LN_PRBS_RX 143) F.LN_PRBS_RX_SYNC true).setReg (R.LN_PRBS_ERR 143) 0xFFFFFFF0; s.laneLive 143 = true ∧ s.flag (R.LN_PRBS_RX 143) F.LN_PRBS_RX_SYNC = true ∧ s.frozen F.DBG_FRZ_LANE = false ∧ 16 ≤ 16) ∧
    (let s : State := rxUp.setFlag (R.LN_PRBS_RX 143) F.LN_PRBS_RX_SYNC true; 15 < 16) := by decide +kernel
/-- ReceiversPatternsAndEyeScans: inputs of its clauses, part 6. -/
theorem witness_ReceiversPatternsAndEyeScans_6 :
    (let s : State := rxUp.setFlag (R.LN_STAT 143) F.LN_STAT_RX_READY true; let v : Word := (1 : Word).fput F.LN_ES_CTRL_DWELL 31; mayW s 0x68 (R.LN_ES_CTRL 143) ∧ (!s.flag (R.LN_STAT 143) F.LN_STAT_RX_READY || s.flag (R.LN_STAT 143) F.LN_STAT_APPLY_PEND || s.flag (R.LN_STAT 143) F.LN_STAT_CHANGING || s.flag (R.LN_ES_CTRL 143) F.LN_ES_CTRL_BUSY) = false) ∧
    (let s : State := usr; let v : Word := 1; mayW s 0x68 (R.LN_ES_CTRL 143) ∧ (!s.flag (R.LN_STAT 143) F.LN_STAT_RX_READY || s.flag (R.LN_STAT 143) F.LN_STAT_APPLY_PEND || s.flag (R.LN_STAT 143) F.LN_STAT_CHANGING || s.flag (R.LN_ES_CTRL 143) F.LN_ES_CTRL_BUSY) = true) ∧
    (let s : State := (usr.setFlag (R.LN_ES_CTRL 143) F.LN_ES_CTRL_BUSY true).setLane 143 { usr.lane 143 with dwell := 30 }; s.bscan = false ∧ s.flag (R.LN_ES_CTRL 143) F.LN_ES_CTRL_BUSY = true) ∧
    (let s : State := (rxUp.setLane 143 { rxUp.lane 143 with adapt := true }).setFlag (R.LN_STAT 143) F.LN_STAT_LOL true; (s.lane 143).adapt = true ∧ s.lol 143 = true) := by decide +kernel
/-- CodingLayersLockCountAndFlag: inputs of its clauses, part 1. -/
theorem witness_CodingLayersLockCountAndFlag_1 :
    (let s : State := coded 1; s.rxData 143 = true ∧ s.locked 143 = false ∧ s.code 143 = 1 ∧ s.flag (R.PCS_LN_ALIGN 143) F.PCS_LN_ALIGN_MODE = false) ∧
    (let s : State := coded 4; s.rxData 143 = true ∧ s.locked 143 = false ∧ s.code 143 = 4) ∧
    (let s : State := coded 2; s.rxData 143 = true ∧ s.locked 143 = false ∧ s.code 143 = 2) ∧
    (let s : State := codedUp 2; s.laneLive 143 = true ∧ s.locked 143 = true ∧ s.code 143 ≠ 0 ∧ silent s (192 + 143)) ∧
    (let s : State := grp15 3; s.laneLive 143 = true ∧ s.locked 143 = true ∧ s.code 143 ≠ 0) := by decide +kernel
/-- CodingLayersLockCountAndFlag: inputs of its clauses, part 2. -/
theorem witness_CodingLayersLockCountAndFlag_2 :
    (let s : State := coded 2; s.laneLive 143 = true ∧ s.locked 143 = false) ∧
    (let s : State := (codedUp 1).setFld (R.PCS_LN_ALIGN 143) F.PCS_LN_ALIGN_POS 9; let v : Word := 0x100; mayW s 0x68 (R.PCS_LN_ALIGN 143) ∧ v.getLsbD 8 = true ∧ s.flag (R.PCS_LN_ALIGN 143) F.PCS_LN_ALIGN_BUSY = false) ∧
    (let s : State := codedUp 2; let v : Word := 0x100; mayW s 0x68 (R.PCS_LN_ALIGN 143) ∧ v.getLsbD 8 = true ∧ s.flag (R.PCS_LN_ALIGN 143) F.PCS_LN_ALIGN_BUSY = false ∧ s.code 143 ≠ 1) ∧
    (let s : State := usr.setFlag (R.PCS_LN_ALIGN 143) F.PCS_LN_ALIGN_BUSY true; let v : Word := 0x100; mayW s 0x68 (R.PCS_LN_ALIGN 143) ∧ s.flag (R.PCS_LN_ALIGN 143) F.PCS_LN_ALIGN_BUSY = true) ∧
    (let s : State := usr; let v : Word := 0; mayW s 0x68 (R.PCS_LN_ALIGN 143) ∧ v.getLsbD 8 = false) := by decide +kernel
/-- CodingLayersLockCountAndFlag: inputs of its clauses, part 3. -/
theorem witness_CodingLayersLockCountAndFlag_3 :
    (let s : State := usr.setFlag (R.PCS_LN_ALIGN 143) F.PCS_LN_ALIGN_BUSY true; s.bscan = false) ∧
    (let s : State := codedUp 2; s.berCount 143 ≤ 16 ∧ s.rxData 143 = true ∧ 2 ≤ s.code 143 ∧ s.flag (R.PCS_LN_STAT 143) F.PCS_LN_STAT_HI_BER = false ∧ silent s (192 + 143)) ∧
    (let s : State := ((codedUp 2).setFlag (R.PCS_LN_STAT 143) F.PCS_LN_STAT_HI_BER true).setFlag (R.PCS_LN_STAT 143) F.PCS_LN_STAT_HI_BER_SET true; s.laneLive 143 = true ∧ 15 < s.berCount 143) ∧
    (let s : State := codedUp 2; 15 < s.berCount 143) ∧
    (let s : State := (codedUp 2).setFlag (R.PCS_LN_STAT 143) F.PCS_LN_STAT_HI_BER true; s.berCount 143 ≤ 16) := by decide +kernel
/-- CodingLayersLockCountAndFlag: inputs of its clauses, part 4. -/
theorem witness_CodingLayersLockCountAndFlag_4 :
    (let s : State := (codedUp 3).setReg (R.PCS_LN_FEC_UNC 143) 0xFFFFFFFF; s.rxData 143 = true ∧ 3 ≤ s.code 143 ∧ s.frozen F.DBG_FRZ_LANE = false ∧ ([7, 8, 0, 5].filter (fun e => decide (rsCorrects (s.code 143) < e))) = [8] ∧ (s.lane 143).mode.fget F.PCS_LN_MODE_BYP_CORR = 0) ∧
    (let s : State := codedUp 3; s.rxData 143 = true ∧ 3 ≤ s.code 143 ∧ s.frozen F.DBG_FRZ_LANE = false ∧ ([7].filter (fun e => decide (rsCorrects (s.code 143) < e))) = [] ∧ (s.lane 143).mode.fget F.PCS_LN_MODE_BYP_CORR = 0) ∧
    (let s : State := (codedUp 3).setLane 143 { (codedUp 3).lane 143 with mode := 0x123 }; s.rxData 143 = true ∧ 3 ≤ s.code 143 ∧ s.frozen F.DBG_FRZ_LANE = false ∧ (s.lane 143).mode.fget F.PCS_LN_MODE_BYP_CORR ≠ 0) ∧
    (let s : State := live; s.laneLive 143 = true ∧ s.markerDue 143 = none ∧ s.frozen F.DBG_FRZ_LANE = false) ∧
    (let s : State := (grp15 4).setCoder 143 { (grp15 4).coder 143 with blocks := 65535, seq := 255 }; s.laneLive 143 = true ∧ s.markerDue 143 = some 15) := by decide +kernel
/-- CodingLayersLockCountAndFlag: inputs of its clauses, part 5. -/
theorem witness_CodingLayersLockCountAndFlag_5 :
    (let s : State := live; s.laneLive 143 = true ∧ s.frozen F.DBG_FRZ_LANE = false) ∧
    (let s : State := codedUp 1; s.rxData 143 = true ∧ s.frozen F.DBG_FRZ_LANE = false ∧ s.code 143 = 1) ∧
    (let s : State := codedUp 2; s.rxData 143 = true ∧ s.frozen F.DBG_FRZ_LANE = false ∧ s.code 143 = 2 ∧ (s.coder 143).bad = 0 ∧ headerGood (BitVec.ofNat 66 (bitsNat (s.recover 143 (sendBits 66 0)).1)) = false) ∧
    (let s : State := codedUp 4; s.rxData 143 = true ∧ s.frozen F.DBG_FRZ_LANE = false ∧ s.code 143 = 4 ∧ (s.coder 143).bad = 0) ∧
    (let s : State := let u := codedUp 1; { u with act := { u.act with ports := [64 + 143] } }; s.laneLive 143 = true ∧ s.markerDue 143 = none ∧ s.laneCarries 143 = true ∧ s.overrider 143 = none ∧ s.code 143 = 1 ∧ (encode10 true 0 (s.coder 143).txRd).isNone) := by decide +kernel
/-- CodingLayersLockCountAndFlag: inputs of its clauses, part 6. -/
theorem witness_CodingLayersLockCountAndFlag_6 :
    (let s : State := let u := codedUp 2; { u with act := { u.act with ports := [64 + 143] } }; s.laneLive 143 = true ∧ s.markerDue 143 = none ∧ s.laneCarries 143 = true ∧ s.overrider 143 = none ∧ s.code 143 = 2) ∧
    (let s : State := let u := codedUp 0; { u with act := { u.act with ports := [64 + 143] } }; s.laneLive 143 = true ∧ s.markerDue 143 = none ∧ s.laneCarries 143 = true ∧ s.overrider 143 = none ∧ s.code 143 = 0) := by decide +kernel
/-- BondingGroupsFormAndFault: inputs of its clauses, part 1. -/
theorem witness_BondingGroupsFormAndFault_1 :
    (let s : State := (usr.setStaged (R.PCS_GRP_CFG 15) 0x00000); let v : Word := 3; mayW s 0x68 (R.PCS_GRP_CTRL 15) ∧ s.armedFor (.group 15) = none ∧ v.getLsbD 1 = true ∧ s.grpValid 15 (s.staged (R.PCS_GRP_CFG 15)) = false ∧ s.grpOn 15 = false) ∧
    (let s : State := (grp15 4).setStaged (R.PCS_GRP_CFG 15) 0x00000; let v : Word := 3; mayW s 0x68 (R.PCS_GRP_CTRL 15) ∧ s.armedFor (.group 15) = none ∧ v.getLsbD 1 = true ∧ s.grpValid 15 (s.staged (R.PCS_GRP_CFG 15)) = false ∧ s.grpOn 15 = true ∧ 2 ≤ s.grpState 15) ∧
    (let s : State := grp15 0; let v : Word := 3; mayW s 0x68 (R.PCS_GRP_CTRL 15) ∧ s.armedFor (.group 15) = none ∧ v.getLsbD 1 = true ∧ s.grpValid 15 (s.staged (R.PCS_GRP_CFG 15)) = true ∧ s.grpOn 15 = false ∧ s.grpState 15 = 0) ∧
    (let s : State := grp15 4; let v : Word := 1; mayW s 0x68 (R.PCS_GRP_CTRL 15) ∧ s.armedFor (.group 15) = none ∧ v.getLsbD 1 = false) ∧
    (let s : State := grp15 2; s.bscan = false ∧ s.grpState 15 = 2) := by decide +kernel
/-- BondingGroupsFormAndFault: inputs of its clauses, part 2. -/
theorem witness_BondingGroupsFormAndFault_2 :
    (let s : State := grp15 3; s.bscan = false ∧ s.grpState 15 = 3 ∧ 256 ≤ s.grpLimit 15) ∧
    (let s : State := grp15 3; s.bscan = false ∧ s.grpState 15 = 3 ∧ s.grpLimit 15 < 2000 ∧ (s.grpLanes 15).any (fun n => !s.locked n)) ∧
    (let s : State := (grp15 3).setFlag (R.PCS_LN_STAT 142) F.PCS_LN_STAT_LOCKED true; s.bscan = false ∧ s.grpState 15 = 3 ∧ (s.grpLanes 15).all (fun n => s.locked n) ∧ s.sameMode (s.grpLanes 15) = true) ∧
    (let s : State := ((grp15 4).setFlag (R.PCS_LN_STAT 142) F.PCS_LN_STAT_LOCKED true).setReg (R.PCS_GRP_HOLD 15) 0; s.bscan = false ∧ s.grpState 15 = 4 ∧ (s.grpLanes 15).all (fun n => s.locked n) ∧ s.sameMode (s.grpLanes 15) = true) ∧
    (let s : State := grp15 3; s.bscan = false ∧ s.grpState 15 ≠ 4) := by decide +kernel
/-- SkemerRegistersAndTransitions: inputs of its clauses, part 1. -/
theorem witness_SkemerRegistersAndTransitions_1 :
    (let s : State := (skm 0).setFlag (R.SKM_ENG_CTRL 15) F.SKM_ENG_CTRL_EN false; let v : Word := 1; s.skmRuns = true ∧ mayW s 0x68 (R.SKM_ENG_CTRL 15) ∧ v.getLsbD 1 = false ∧ v.getLsbD 2 = false ∧ v.getLsbD 3 = false ∧ s.flag (R.SKM_ENG_CTRL 15) F.SKM_ENG_CTRL_EN = false ∧ s.skmOk 15 = true ∧ s.skmActive = true) ∧
    (let s : State := usr.setReg (R.SKM_ENG_CFG 15) 0x00000000; let v : Word := 1; mayW s 0x68 (R.SKM_ENG_CTRL 15) ∧ v.getLsbD 1 = false ∧ v.getLsbD 2 = false ∧ v.getLsbD 3 = false ∧ s.flag (R.SKM_ENG_CTRL 15) F.SKM_ENG_CTRL_EN = false ∧ s.skmOk 15 = false) ∧
    (let s : State := (skm 9).setFlag (R.SKM_ENG_STAT 15) F.SKM_ENG_STAT_OVERRIDE true; let v : Word := 0xE; mayW s 0x68 (R.SKM_ENG_CTRL 15) ∧ s.skmState 15 ≠ 0) ∧
    (let s : State := skm 9; let v : Word := 3; mayW s 0x68 (R.SKM_ENG_CTRL 15) ∧ v.getLsbD 2 = false ∧ v.getLsbD 3 = false ∧ s.flag (R.SKM_ENG_CTRL 15) F.SKM_ENG_CTRL_EN = true ∧ s.skmRuns = true ∧ s.skmState 15 ≠ 0) ∧
    (let s : State := (skm 7).setFlag (R.SKM_ENG_STAT 15) F.SKM_ENG_STAT_OVERRIDE true; let v : Word := 5; mayW s 0x68 (R.SKM_ENG_CTRL 15) ∧ s.flag (R.SKM_ENG_CTRL 15) F.SKM_ENG_CTRL_EN = true ∧ v.getLsbD 1 = false ∧ v.getLsbD 3 = false ∧ s.skmRuns = true ∧ s.skmState 15 = 7) := by decide +kernel
/-- SkemerRegistersAndTransitions: inputs of its clauses, part 2. -/
theorem witness_SkemerRegistersAndTransitions_2 :
    (let s : State := ((region (skm 7) 31 31).setFlag (R.CFG_RGN_CTRL 31) F.CFG_RGN_CTRL_SKM_EN true).setFld (R.CFG_RGN_CTRL 31) F.CFG_RGN_CTRL_SKM 15 |>.setSkm 15 { (skm 7).skm 15 with gen := 5 }; let v : Word := 9; mayW s 0x68 (R.SKM_ENG_CTRL 15) ∧ s.flag (R.SKM_ENG_CTRL 15) F.SKM_ENG_CTRL_EN = true ∧ s.skmRuns = true ∧ v.getLsbD 1 = false ∧ v.getLsbD 2 = false ∧ s.skmState 15 = 7 ∧ s.skmRegions 15 = [31] ∧ s.fld (R.CFG_RGN_GEN 31) F.CFG_RGN_GEN_ACT_GEN ≠ (s.skm 15).gen ∧ s.skmState 15 = 7 ∧ v.getLsbD 1 = false ∧ v.getLsbD 2 = false) ∧
    (let s : State := ((region (skm 7) 31 31).setFlag (R.CFG_RGN_CTRL 31) F.CFG_RGN_CTRL_SKM_EN true).setFld (R.CFG_RGN_CTRL 31) F.CFG_RGN_CTRL_SKM 15 |>.setSkm 15 { (skm 7).skm 15 with gen := 5 } |>.setFld (R.CFG_RGN_GEN 31) F.CFG_RGN_GEN_ACT_GEN 5; let v : Word := 9; mayW s 0x68 (R.SKM_ENG_CTRL 15) ∧ s.flag (R.SKM_ENG_CTRL 15) F.SKM_ENG_CTRL_EN = true ∧ s.skmRuns = true ∧ v.getLsbD 1 = false ∧ v.getLsbD 2 = false ∧ s.skmState 15 = 7 ∧ s.skmRegions 15 = [31] ∧ s.fld (R.CFG_RGN_GEN 31) F.CFG_RGN_GEN_ACT_GEN = (s.skm 15).gen) ∧
    (let s : State := skm 1; s.skmRuns = true ∧ s.skmActive = true ∧ s.skmRuns = true ∧ s.skmActive = true ∧ s.skmState 15 = 1 ∧ s.los (s.lead 15) = false ∧ s.flag (R.LN_CTRL (s.lead 15)) F.LN_CTRL_TX_IDLE = false) ∧
    (let s : State := skm 2; (s.skm 15).run = 0 ∧ s.skmRuns = true ∧ s.skmActive = true ∧ s.skmState 15 = 2 ∧ s.fld (R.SKM_ENG_CFG 15) F.SKM_ENG_CFG_LISTEN = 0 ∧ s.skmRuns = true ∧ s.skmActive = true) ∧
    (let s : State := (skm 2).setFld (R.SKM_ENG_CFG 15) F.SKM_ENG_CFG_LISTEN 5; (s.skm 15).run = 0 ∧ s.skmRuns = true ∧ s.skmActive = true ∧ s.fld (R.SKM_ENG_CFG 15) F.SKM_ENG_CFG_LISTEN ≠ 0 ∧ s.skmCands 15 = [3, 1] ∧ s.skmState 15 = 2) := by decide +kernel
/-- SkemerRegistersAndTransitions: inputs of its clauses, part 3. -/
theorem witness_SkemerRegistersAndTransitions_3 :
    (let s : State := skm 5; s.skmRuns = true ∧ s.skmActive = true ∧ s.skmState 15 = 5) ∧
    (let s : State := (skm 5).setReg (R.SKM_ENG_PEER 15) 0x8803240F; s.skmRuns = true ∧ s.skmActive = true ∧ s.skmState 15 = 5 ∧ s.ownSettle 15 = some 0x32104) ∧
    (let s : State := ((skm 5).setReg (R.SKM_ENG_PEER 15) 0x8804241F).setFlag (R.SKM_ENG_CFG 15) F.SKM_ENG_CFG_AUTO_REL true; s.skmRuns = true ∧ s.skmActive = true ∧ s.skmState 15 = 5 ∧ s.ownSettle 15 = some 0x42105 ∧ s.skmRegions 15 = []) ∧
    (let s : State := (skm 0xA).setFld (R.SKM_ENG_STAT 15) F.SKM_ENG_STAT_RETRIES 15; s.skmRuns = true ∧ s.skmActive = true ∧ s.skmState 15 = 0xA ∧ max 1 (s.fld (R.SKM_ENG_CFG 15) F.SKM_ENG_CFG_RETRY_MAX) ≤ min (s.fld (R.SKM_ENG_STAT 15) F.SKM_ENG_STAT_RETRIES + 1) 15) ∧
    (let s : State := (skm 0xA).setFld (R.SKM_ENG_STAT 15) F.SKM_ENG_STAT_RETRIES 1; s.skmRuns = true ∧ s.skmActive = true ∧ s.skmState 15 = 0xA ∧ min (s.fld (R.SKM_ENG_STAT 15) F.SKM_ENG_STAT_RETRIES + 1) 15 < max 1 (s.fld (R.SKM_ENG_CFG 15) F.SKM_ENG_CFG_RETRY_MAX)) := by decide +kernel
/-- SkemerRegistersAndTransitions: inputs of its clauses, part 4. -/
theorem witness_SkemerRegistersAndTransitions_4 :
    (let s : State := (skm 6).setSkm 15 { (skm 6).skm 15 with cands := [3, 1] }; s.skmRuns = true ∧ s.skmActive = true ∧ s.skmTaken 15 = true ∧ s.skmState 15 = 6 ∧ (s.skm 15).cands.tail = [1]) ∧
    (let s : State := (skm 6).setSkm 15 { (skm 6).skm 15 with cands := [1] }; s.skmRuns = true ∧ s.skmActive = true ∧ s.skmTaken 15 = true ∧ s.skmState 15 = 6 ∧ (s.skm 15).cands.tail = []) ∧
    (let s : State := (skm 6).setSkm 15 { (skm 6).skm 15 with cands := [2, 1] }; s.skmRuns = true ∧ s.skmActive = true ∧ s.skmTaken 15 = true ∧ s.skmState 15 = 6 ∧ (s.skm 15).cands = [2, 1] ∧ s.locked (s.lead 15) = true) ∧
    (let s : State := skm 8; s.skmRuns = true ∧ s.skmActive = true ∧ s.skmState 15 = 8 ∧ (∀ n ∈ s.skmLanes 15, s.locked n = true)) ∧
    (let s : State := (skm 8).setSkm 15 { (skm 8).skm 15 with gen := 5 }; s.skmRuns = true ∧ s.skmActive = true ∧ s.skmState 15 = 8 ∧ 1 ≤ (s.skm 15).gen ∧ (s.skm 15).gen ≤ 5) := by decide +kernel
/-- SkemerRegistersAndTransitions: inputs of its clauses, part 5. -/
theorem witness_SkemerRegistersAndTransitions_5 :
    (let s : State := (skm 9).setFlag (R.LN_STAT 143) F.LN_STAT_LOS true; s.skmRuns = true ∧ s.skmActive = true ∧ 2 ≤ s.skmState 15 ∧ s.los (s.lead 15) = true) ∧
    (let s : State := (skm 9).setFlag (R.PCS_LN_STAT 143) F.PCS_LN_STAT_LOCKED false; s.skmRuns = true ∧ s.skmActive = true ∧ s.skmState 15 = 9 ∧ s.locked (s.lead 15) = false) ∧
    (let s : State := (skm 0xB).setSkm 15 { (skm 0xB).skm 15 with abort := true }; s.skmRuns = true ∧ s.skmActive = true ∧ s.skmState 15 = 0xB) ∧
    (let s : State := ((skm 0).setFlag (R.SKM_ENG_CTRL 15) F.SKM_ENG_CTRL_EN false).setFld R.CFG_BOOT_STAT F.CFG_BOOT_STAT_STEP 5; let v : Word := 1; mayW s 0x68 (R.SKM_ENG_CTRL 15) ∧ v.getLsbD 1 = false ∧ v.getLsbD 2 = false ∧ v.getLsbD 3 = false ∧ s.flag (R.SKM_ENG_CTRL 15) F.SKM_ENG_CTRL_EN = false ∧ s.skmOk 15 = true ∧ s.skmActive = false) ∧
    (let s : State := ((skm 2).setFld (R.SKM_ENG_CFG 15) F.SKM_ENG_CFG_LISTEN 5).setFld (R.SKM_ENG_STAT 15) F.SKM_ENG_STAT_FAILED_GEN 7; (s.skm 15).run = 0 ∧ s.skmRuns = true ∧ s.skmActive = true ∧ s.fld (R.SKM_ENG_CFG 15) F.SKM_ENG_CFG_LISTEN ≠ 0 ∧ s.skmCands 15 = [] ∧ s.skmState 15 = 2) := by decide +kernel
/-- SkemerRegistersAndTransitions: inputs of its clauses, part 6. -/
theorem witness_SkemerRegistersAndTransitions_6 :
    (let s : State := (skm 5).setReg (R.SKM_ENG_PEER 15) 0x88032400; s.skmRuns = true ∧ s.skmActive = true ∧ s.skmState 15 = 5 ∧ s.ownSettle 15 = none) ∧
    (let s : State := ((skm 6).setSkm 15 { (skm 6).skm 15 with cands := [3, 1] }).setFlag (R.LN_STAT 143) F.LN_STAT_APPLY_PEND true; s.skmRuns = true ∧ s.skmActive = true ∧ s.skmState 15 = 6 ∧ s.skmTaken 15 = false) ∧
    (let s : State := (skm 2).setSkm 15 { (skm 2).skm 15 with run := 1, last := (0x5A, 3) }; s.skmRuns = true ∧ s.skmActive = true ∧ s.skmState 15 = 2 ∧ 0 < (s.skm 15).run) := by decide +kernel
/-- SkemerOrderedSets: inputs of its clauses, part 1. -/
theorem witness_SkemerOrderedSets_1 :
    (let s : State := skm 2; s.skmRuns = true ∧ 2 ≤ s.skmState 15 ∧ s.skmState 15 ≤ 5 ∧ s.locked (s.lead 15) = true ∧ s.code (s.lead 15) = 1 ∧ orderedSet [0xBC, 0x5A, 0, 0, 0, 0, 0, 0xB5] = none) ∧
    (let s : State := skm 2; s.skmRuns = true ∧ 2 ≤ s.skmState 15 ∧ s.skmState 15 ≤ 5 ∧ s.locked (s.lead 15) = true ∧ s.code (s.lead 15) = 1 ∧ orderedSet (oset 0x5A 0x8803240F) = some (0x5A, 0x8803240F) ∧ (s.skm 15).last ≠ (0x5A, 0x8803240F) ∧ s.skmState 15 = 2) ∧
    (let s : State := skm 5; s.skmRuns = true ∧ 2 ≤ s.skmState 15 ∧ s.skmState 15 ≤ 5 ∧ s.locked (s.lead 15) = true ∧ s.code (s.lead 15) = 1 ∧ orderedSet (oset 0x5E 1) = some (0x5E, 1) ∧ s.skmState 15 ≠ 2) ∧
    (let s : State := skm2 2 0x5A 0x8803240F; s.skmRuns = true ∧ 2 ≤ s.skmState 15 ∧ s.skmState 15 ≤ 5 ∧ s.locked (s.lead 15) = true ∧ s.code (s.lead 15) = 1 ∧ orderedSet (oset 0x5A 0x8803240F) = some (0x5A, 0x8803240F) ∧ (s.skm 15).last = (0x5A, 0x8803240F) ∧ 2 ≤ (s.skm 15).run ∧ (s.skm 15).last = (0x5A, 0x8803240F) ∧ 2 ≤ (s.skm 15).run ∧ s.skmState 15 = 2 ∧ s.skmRuns = true ∧ s.locked (s.lead 15) = true ∧ s.code (s.lead 15) = 1) := by decide +kernel
/-- SkemerOrderedSets: inputs of its clauses, part 2. -/
theorem witness_SkemerOrderedSets_2 :
    (let s : State := skm2 3 0x5B 0x8803240F; s.skmRuns = true ∧ 2 ≤ s.skmState 15 ∧ s.skmState 15 ≤ 5 ∧ s.locked (s.lead 15) = true ∧ s.code (s.lead 15) = 1 ∧ orderedSet (oset 0x5B 0x8803240F) = some (0x5B, 0x8803240F) ∧ (s.skm 15).last = (0x5B, 0x8803240F) ∧ 2 ≤ (s.skm 15).run ∧ (settleWord (s.ownCap 15) (0x8803240F % 2 ^ 32)).isSome ∧ (s.skm 15).last = (0x5B, 0x8803240F) ∧ s.skmState 15 = 3) ∧
    (let s : State := skm2 3 0x5B 0x88032400; s.skmRuns = true ∧ 2 ≤ s.skmState 15 ∧ s.skmState 15 ≤ 5 ∧ s.locked (s.lead 15) = true ∧ s.code (s.lead 15) = 1 ∧ orderedSet (oset 0x5B 0x88032400) = some (0x5B, 0x88032400) ∧ (s.skm 15).last = (0x5B, 0x88032400) ∧ 2 ≤ (s.skm 15).run ∧ settleWord (s.ownCap 15) (0x88032400 % 2 ^ 32) = none ∧ s.skmState 15 = 3) ∧
    (let s : State := (skm2 4 0x5C 0x32104).setReg (R.SKM_ENG_PEER 15) 0x8803240F; s.skmRuns = true ∧ 2 ≤ s.skmState 15 ∧ s.skmState 15 ≤ 5 ∧ s.locked (s.lead 15) = true ∧ s.code (s.lead 15) = 1 ∧ orderedSet (oset 0x5C 0x32104) = some (0x5C, 0x32104) ∧ (s.skm 15).last = (0x5C, 0x32104) ∧ 2 ≤ (s.skm 15).run ∧ s.ownSettle 15 = some 0x32104 ∧ s.skmState 15 = 4 ∧ 2 ≤ (s.skm 15).run) := by decide +kernel
/-- SkemerOrderedSets: inputs of its clauses, part 3. -/
theorem witness_SkemerOrderedSets_3 :
    (let s : State := (skm2 5 0x5C 0x32105).setReg (R.SKM_ENG_PEER 15) 0x8803240F; s.skmRuns = true ∧ 2 ≤ s.skmState 15 ∧ s.skmState 15 ≤ 5 ∧ s.locked (s.lead 15) = true ∧ s.code (s.lead 15) = 1 ∧ orderedSet (oset 0x5C 0x32105) = some (0x5C, 0x32105) ∧ (s.skm 15).last = (0x5C, 0x32105) ∧ 2 ≤ (s.skm 15).run ∧ s.ownSettle 15 ≠ some 0x32105 ∧ s.skmState 15 = 5) ∧
    (let s : State := (skm2 3 0x5C 0x32104).setReg (R.SKM_ENG_PEER 15) 0x8803240F; s.skmRuns = true ∧ 2 ≤ s.skmState 15 ∧ s.skmState 15 ≤ 5 ∧ s.locked (s.lead 15) = true ∧ s.code (s.lead 15) = 1 ∧ orderedSet (oset 0x5C 0x32104) = some (0x5C, 0x32104) ∧ (s.skm 15).last = (0x5C, 0x32104) ∧ 2 ≤ (s.skm 15).run ∧ s.skmState 15 = 3 ∧ s.ownSettle 15 = some 0x32104) ∧
    (let s : State := (skm2 5 0x5C 0x32104).setReg (R.SKM_ENG_PEER 15) 0x8803240F; s.skmRuns = true ∧ 2 ≤ s.skmState 15 ∧ s.skmState 15 ≤ 5 ∧ s.locked (s.lead 15) = true ∧ s.code (s.lead 15) = 1 ∧ orderedSet (oset 0x5C 0x32104) = some (0x5C, 0x32104) ∧ (s.skm 15).last = (0x5C, 0x32104) ∧ 2 ≤ (s.skm 15).run ∧ s.skmState 15 = 5 ∧ s.ownSettle 15 = some 0x32104) := by decide +kernel
/-- RegisterAccessesFollowTheirClasses: inputs of its clauses, part 1. -/
theorem witness_RegisterAccessesFollowTheirClasses_1 :
    (let s : State := usr; mayW s 0x68 (R.LN_USR_PAT_LO 143)) ∧
    (let s : State := usr.setReg (R.LN_INT_STAT 143) 0x3FF; mayW s 0x68 (R.LN_INT_STAT 143)) ∧
    (let s : State := usr; mayW s 0x68 (R.LN_TX_FFE 143)) ∧
    (let s : State := usr; mayW s 0x68 (R.LN_CFG 143) ∧ s.flag (R.LN_CTRL 143) F.LN_CTRL_EN = false) ∧
    (let s : State := live; mayW s 0x68 (R.LN_CFG 143) ∧ s.flag (R.LN_CTRL 143) F.LN_CTRL_EN = true ∧ s.fld (R.LN_CFG 143) F.LN_CFG_LOOPBACK ≠ (0xFFFFFFFF : Word).fget F.LN_CFG_LOOPBACK ∧ silent s (192 + 143)) := by decide +kernel
/-- RegisterAccessesFollowTheirClasses: inputs of its clauses, part 2. -/
theorem witness_RegisterAccessesFollowTheirClasses_2 :
    (let s : State := usr.setReg R.SYS_TEMP_MAX 0xFFFF; mayR s 0x68 (R.SYS_TEMP_MAX) ∧ winOf R.SYS_TEMP_MAX = some (.sys, 0, R.SYS_TEMP_MAX)) ∧
    (let s : State := usr.setReg R.SYS_TEMP_MAX 0xFFFF; winOf R.SYS_TEMP_MAX = some (.sys, 0, R.SYS_TEMP_MAX) ∧ mayR s 0x6B (R.SYS_TEMP_MAX)) ∧
    (let s : State := usr.setReg (R.LN_PRBS_ERR 143) 0xFFFF; mayR s 0x68 (R.LN_PRBS_ERR 143) ∧ winOf (R.LN_PRBS_ERR 143) = some (.lq, 35, R.LN_PRBS_ERR 143 - R.LQ_CTRL 35)) ∧
    (let s : State := State.reset; s.presents 0x68 = false) ∧
    (let s : State := usr.setReg (R.NI_CTRL 0x68) 0; s.presents 0x68 = true ∧ s.niOn 0x68 = false) := by decide +kernel
/-- RegisterAccessesFollowTheirClasses: inputs of its clauses, part 3. -/
theorem witness_RegisterAccessesFollowTheirClasses_3 :
    (let s : State := usr.setReg (R.NI_DECERR_CNT 0x69) 0xFFFFFFFF; s.presents 0x69 = true ∧ s.niOn 0x69 = true ∧ winOf 0x3300000 = none) ∧
    (let s : State := usr; s.presents 0x69 = true ∧ s.reaches 0x69 R.SYS_TEMP_ALM = true ∧ s.csrAccepts 0x69 true R.SYS_TEMP_ALM = false) ∧
    (let s : State := usr; s.presents 0x69 = true ∧ s.reaches 0x69 R.SEC_DBG = true ∧ s.csrAccepts 0x69 false R.SEC_DBG = false) ∧
    (let s : State := usr.setReg (R.NI_CTRL 0x93) 0; s.presents 0x69 = true ∧ s.niOn 0x69 = true ∧ s.targetOn (R.LN_USR_PAT_LO 143) = false) ∧
    (let s : State := usr.setReg (R.NI_CTRL 0x6C) 0; s.presents 0x69 = true ∧ s.niOn 0x69 = true ∧ s.targetOn R.SYS_TEMP_ALM = false) := by decide +kernel
/-- PacketsEnterMoveAndArrive: inputs of its clauses, part 1. -/
theorem witness_PacketsEnterMoveAndArrive_1 :
    (let s : State := usr; s.issues 0x68 = true ∧ (endpointAt 0x68).isSome ∧ s.boot.inReset = false ∧ s.niOpen 0x68 = true ∧ (∀ g ∈ s.noc.tags, g.ni = 0x68 → g.ltag ≠ 255) ∧ s.niOn 0x68 = true ∧ s.nocDest 0x68 (padBase + 16) 511 = .endp 0x6A 0 ∧ s.niRouteOf 0x68 0x6A ≠ 2 ^ 48 - 1 ∧ rspFlits 1 511 ≤ s.poolFree 0x68) ∧
    (let s : State := usr; (endpointAt 0x69).isSome ∧ s.boot.inReset = false ∧ s.niOpen 0x69 = true ∧ (∀ g ∈ s.noc.tags, g.ni = 0x69 → g.ltag ≠ 0) ∧ s.nocDest 0x69 (padBase + 16) 3 = .endp 0x6A 0 ∧ s.niRouteOf 0x69 0x6A ≠ 2 ^ 48 - 1 ∧ rspFlits 2 3 ≤ s.poolFree 0x69 ∧ s.issues 0x69 = true ∧ s.niOn 0x69 = true) ∧
    (let s : State := usr.setReg (R.NI_CTRL 0x68) 0; (endpointAt 0x68).isSome ∧ s.boot.inReset = false ∧ s.niOpen 0x68 = true ∧ (∀ g ∈ s.noc.tags, g.ni = 0x68 → g.ltag ≠ 0) ∧ s.niOn 0x68 = false ∧ s.issues 0x68 = true) ∧
    (let s : State := usr.setReg (R.NI_DECERR_CNT 0x68) 0xFFFFFFFF; (endpointAt 0x68).isSome ∧ s.boot.inReset = false ∧ s.niOpen 0x68 = true ∧ (∀ g ∈ s.noc.tags, g.ni = 0x68 → g.ltag ≠ 0) ∧ s.issues 0x68 = true ∧ s.niOn 0x68 = true ∧ s.nocDest 0x68 0xFFFFFFFFFFFF 3 = .none) ∧
    (let s : State := hop pkt; let f : Flight := ⟨45, pkt⟩; s.noc.flight[1]? = some f ∧ f.at' < 64 ∧ Noc.blocked s.noc.flight 1 f = false ∧ s.portChanging f.at' (f.pkt.route % 16) = false ∧ f.pkt.matched = true ∧ s.portUp f.at' (f.pkt.route % 16) = true ∧ 8 ≤ f.pkt.route % 16 ∧ linkOf f.at' (f.pkt.route % 16) = some 44 ∧ s.portChanging 44 (farPort (f.pkt.route % 16)) = false) := by decide +kernel
/-- PacketsEnterMoveAndArrive: inputs of its clauses, part 2. -/
theorem witness_PacketsEnterMoveAndArrive_2 :
    (let s : State := hop { pkt with data := [1], cmd := 2, len := 0 }; let f : Flight := ⟨45, { pkt with data := [1], cmd := 2, len := 0 }⟩; s.noc.flight[1]? = some f ∧ f.at' < 64 ∧ Noc.blocked s.noc.flight 1 f = false ∧ s.portChanging f.at' (f.pkt.route % 16) = false ∧ f.pkt.matched = true ∧ s.portUp f.at' (f.pkt.route % 16) = true ∧ 8 ≤ f.pkt.route % 16 ∧ linkOf f.at' (f.pkt.route % 16) = some 44 ∧ s.portChanging 44 (farPort (f.pkt.route % 16)) = false) ∧
    (let s : State := (hop { pkt with route := 2 ^ 48 - 16, dst := 45, vn := 3 }).setFence 45 0; let f : Flight := ⟨45, { pkt with route := 2 ^ 48 - 16, dst := 45, vn := 3 }⟩; f.at' < 64 ∧ Noc.blocked s.noc.flight 1 f = false ∧ s.portChanging f.at' (f.pkt.route % 16) = false ∧ f.pkt.matched = true ∧ s.portUp f.at' (f.pkt.route % 16) = true ∧ s.noc.flight[1]? = some f ∧ f.pkt.route % 16 = 0 ∧ s.fencePass f.at' f.pkt = true ∧ endpointOn f.at' (f.pkt.route % 16) = some f.pkt.dst ∧ s.portUp f.at' (f.pkt.route % 16) = true) ∧
    (let s : State := (hop { pkt with route := 2 ^ 48 - 16, dst := 45, src := 0x68 }).setFence 45 2; let f : Flight := ⟨45, { pkt with route := 2 ^ 48 - 16, dst := 45, src := 0x68 }⟩; s.noc.flight[1]? = some f ∧ f.at' < 64 ∧ Noc.blocked s.noc.flight 1 f = false ∧ s.portChanging f.at' (f.pkt.route % 16) = false ∧ f.pkt.matched = true ∧ s.portUp f.at' (f.pkt.route % 16) = true ∧ f.pkt.route % 16 = 0 ∧ f.pkt.isRsp = false ∧ f.pkt.vn ≠ 2 ∧ s.fence 45 = 2) ∧
    (let s : State := hop { pkt with route := 2 ^ 48 - 15, src := 0x68 }; let f : Flight := ⟨45, { pkt with route := 2 ^ 48 - 15, src := 0x68 }⟩; f.at' < 64 ∧ Noc.blocked s.noc.flight 1 f = false ∧ s.portChanging f.at' (f.pkt.route % 16) = false ∧ f.pkt.matched = true ∧ s.portUp f.at' (f.pkt.route % 16) = true ∧ s.noc.flight[1]? = some f ∧ f.pkt.route % 16 < 8 ∧ f.pkt.route % 16 ≠ 0 ∧ s.portUp 45 1 = true ∧ endpointOn f.at' (f.pkt.route % 16) ≠ some f.pkt.dst) ∧
    (let s : State := hop pkt; s.noc.flight.length ≤ 2) := by decide +kernel
/-- PacketsEnterMoveAndArrive: inputs of its clauses, part 3. -/
theorem witness_PacketsEnterMoveAndArrive_3 :
    (let s : State := (hop { pkt with src := 0x68 }).setReg (R.NOC_STAT 45) 0; let f : Flight := ⟨45, { pkt with src := 0x68 }⟩; s.noc.flight[1]? = some f ∧ f.at' < 64 ∧ Noc.blocked s.noc.flight 1 f = false ∧ s.portChanging f.at' (f.pkt.route % 16) = false ∧ s.portUp f.at' (f.pkt.route % 16) = false ∧ f.pkt.isRsp = false ∧ f.pkt.vn ≠ 2) ∧
    (let s : State := hop { pkt with vn := 2 }; let f : Flight := ⟨45, { pkt with vn := 2 }⟩; s.noc.flight[1]? = some f ∧ f.at' < 64 ∧ Noc.blocked s.noc.flight 1 f = false ∧ s.portChanging f.at' (f.pkt.route % 16) = false ∧ f.pkt.matched = false ∧ f.pkt.vn = 2) := by decide +kernel
/-- RequestsAreAnsweredAndTagsComplete: inputs of its clauses, part 1. -/
theorem witness_RequestsAreAnsweredAndTagsComplete_1 :
    (let s : State := got { pkt with dst := 0x6C, vn := 3, cmd := 2, len := 3, addr := csrBase + R.SYS_TEMP_MAX, src := 45 }; let p : Packet := { pkt with dst := 0x6C, vn := 3, cmd := 2, len := 3, addr := csrBase + R.SYS_TEMP_MAX, src := 45 }; let u : State := s.setNoc { s.noc with arrived := s.noc.arrived.eraseIdx 1 }; s.niOn 0x6C = true ∧ s.nextRequest 0x6C s.noc.arrived 0 [] = some (1, p) ∧ p.onePage = true ∧ csrOff p.addr = some R.SYS_TEMP_MAX ∧ p.vn = 3 ∧ p.len = 3 ∧ p.addr % 4 = 0 ∧ u.csrAccepts p.src (p.cmd == cmdWr) R.SYS_TEMP_MAX = false) ∧
    (let s : State := got { pkt with dst := 0x6C, vn := 3, cmd := 2, len := 3, addr := csrBase + R.SYS_TEMP_ALM, src := 0x68, data := [1, 2, 3, 4] }; let p : Packet := { pkt with dst := 0x6C, vn := 3, cmd := 2, len := 3, addr := csrBase + R.SYS_TEMP_ALM, src := 0x68, data := [1, 2, 3, 4] }; let u : State := s.setNoc { s.noc with arrived := s.noc.arrived.eraseIdx 1 }; s.niOn 0x6C = true ∧ csrOff p.addr = some R.SYS_TEMP_ALM ∧ p.vn = 3 ∧ p.len = 3 ∧ p.addr % 4 = 0 ∧ s.nextRequest 0x6C s.noc.arrived 0 [] = some (1, p) ∧ u.csrAccepts p.src true R.SYS_TEMP_ALM = true ∧ p.cmd = cmdWr ∧ csrOff p.addr = some R.SYS_TEMP_ALM) ∧
    (let s : State := got { pkt with dst := 0x6C, vn := 3, cmd := 1, len := 3, addr := csrBase + R.SYS_TEMP_ALM, src := 0x68 }; let p : Packet := { pkt with dst := 0x6C, vn := 3, cmd := 1, len := 3, addr := csrBase + R.SYS_TEMP_ALM, src := 0x68 }; let u : State := s.setNoc { s.noc with arrived := s.noc.arrived.eraseIdx 1 }; s.niOn 0x6C = true ∧ csrOff p.addr = some R.SYS_TEMP_ALM ∧ p.vn = 3 ∧ p.len = 3 ∧ p.addr % 4 = 0 ∧ s.nextRequest 0x6C s.noc.arrived 0 [] = some (1, p) ∧ u.csrAccepts p.src false R.SYS_TEMP_ALM = true ∧ p.cmd = cmdRd) ∧
    (let s : State := let u := (got { pkt with dst := 62 }).setFence 62 0; (u.setReg (R.NI_CTRL 62) 2); pkt.onePage = true ∧ pkt.vn ≠ 2 ∧ s.nextRequest 62 s.noc.arrived 0 [] = some (1, { pkt with dst := 62 }) ∧ csrOff pkt.addr = none ∧ s.niOn 62 = true ∧ s.fence 62 = 0 ∧ s.userPort 62 = false) ∧
    (let s : State := let u := (got { pkt with dst := 62 }).setFence 62 0; let w := (u.setReg (R.NI_CTRL 62) 2); { w with act := { w.act with ports := w.act.ports.put 62 true } }; pkt.onePage = true ∧ csrOff pkt.addr = none ∧ s.nextRequest 62 s.noc.arrived 0 [] = some (1, { pkt with dst := 62 }) ∧ s.niOn 62 = true ∧ s.fence 62 = 0 ∧ s.userPort 62 = true) := by decide +kernel
/-- RequestsAreAnsweredAndTagsComplete: inputs of its clauses, part 2. -/
theorem witness_RequestsAreAnsweredAndTagsComplete_2 :
    (let s : State := let u := got { pkt with dst := 45, vn := 1, cmd := 0x81, data := [9], poison := true }; u.setNoc { u.noc with tags := [⟨45, 255, 2, pkt⟩, ⟨44, 255, 2, pkt⟩] }; let p : Packet := { pkt with dst := 45, vn := 1, cmd := 0x81, data := [9], poison := true }; takeFirst (fun p => p.dst == 45 && p.isRsp == true) s.noc.arrived = some (p, [{ pkt with dst := 63 }]) ∧ (∃ g ∈ s.noc.tags, g.ni = 45 ∧ g.ltag = p.ltag)) ∧
    (let s : State := got { pkt with dst := 45, vn := 1, cmd := 0x81, data := [9] }; let p : Packet := { pkt with dst := 45, vn := 1, cmd := 0x81, data := [9] }; takeFirst (fun p => p.dst == 45 && p.isRsp == true) s.noc.arrived = some (p, [{ pkt with dst := 63 }]) ∧ (∀ g ∈ s.noc.tags, g.ni = 45 → g.ltag ≠ p.ltag)) ∧
    (let s : State := let u := (usr.setFld (R.NI_TIMEOUT 0xEB) F.NI_TIMEOUT_REQ 1); u.setNoc { u.noc with tags := [⟨0xEB, 255, 2, pkt⟩, ⟨44, 255, 2, pkt⟩] }; s.noc.tags.find? (fun g => g.ni == 0xEB && g.ltag == 255) = some ⟨0xEB, 255, 2, pkt⟩ ∧ s.fld (R.NI_TIMEOUT 0xEB) F.NI_TIMEOUT_REQ ≠ 0 ∧ s.frozen F.DBG_FRZ_NOC = false ∧ (∀ p ∈ s.noc.arrived, p.isRsp = true → p.dst = 0xEB → p.ltag ≠ 255)) ∧
    (let s : State := let u := (usr.setFld (R.NI_TIMEOUT 63) F.NI_TIMEOUT_TGT 1); u.setNoc { u.noc with held := [{ pkt with dst := 63, src := 0x68 }] }; pkt.vn ≠ 2 ∧ s.frozen F.DBG_FRZ_NOC = false ∧ s.fld (R.NI_TIMEOUT 63) F.NI_TIMEOUT_TGT ≠ 0 ∧ takeFirst (fun p => p.dst == 63) s.noc.held = some ({ pkt with dst := 63, src := 0x68 }, [])) ∧
    (let s : State := let u := (usr.setFence 63 1); u.setNoc { u.noc with taken := [{ pkt with dst := 63, src := 0x68 }] }; s.frozen F.DBG_FRZ_NOC = false ∧ s.fence 63 = 1 ∧ takeFirst (fun p => p.dst == 63) s.noc.taken = some ({ pkt with dst := 63, src := 0x68 }, [])) := by decide +kernel
/-- RequestsAreAnsweredAndTagsComplete: inputs of its clauses, part 3. -/
theorem witness_RequestsAreAnsweredAndTagsComplete_3 :
    (let s : State := (got { pkt with dst := 0x6C, vn := 3, cmd := 2, len := 3, addr := csrBase + R.SYS_TEMP_ALM, src := 0x68, data := [1, 2, 3, 4] }).setReg (R.NI_CTRL 0x6C) 0; let p : Packet := { pkt with dst := 0x6C, vn := 3, cmd := 2, len := 3, addr := csrBase + R.SYS_TEMP_ALM, src := 0x68, data := [1, 2, 3, 4] }; let u : State := s.setNoc { s.noc with arrived := s.noc.arrived.eraseIdx 1 }; csrOff p.addr = some R.SYS_TEMP_ALM ∧ p.vn ≠ 2 ∧ s.nextRequest 0x6C s.noc.arrived 0 [] = some (1, p) ∧ niWindow R.SYS_TEMP_ALM = false ∧ s.niOn 0x6C = false) := by decide +kernel
/-- RoutesPortsAndFences: inputs of its clauses, part 1. -/
theorem witness_RoutesPortsAndFences_1 :
    (let s : State := (usr.setFence 45 0).setStaged (R.NI_RT_LO 45 0x6A) 0xFFF4AABB; let v : Word := 0xFFFF; s.niCrossing 45 = false ∧ mayW s 0x68 (R.NI_RT_HI 45 0x6A) ∧ routeValid 45 0x6A ((s.staged (R.NI_RT_LO 45 0x6A)).toNat + 2 ^ 32 * (v.toNat % 2 ^ 16)) = true) ∧
    (let s : State := (usr.setFence 45 0).setStaged (R.NI_RT_LO 45 0x6A) 0xFFF4AABB; let v : Word := 0xFFFE; mayW s 0x68 (R.NI_RT_HI 45 0x6A) ∧ routeValid 45 0x6A ((s.staged (R.NI_RT_LO 45 0x6A)).toNat + 2 ^ 32 * (v.toNat % 2 ^ 16)) = false) ∧
    (let s : State := (usr.setStaged (R.NI_RT_LO 0xFF 0xFE) 0x12345678).setStaged (R.NI_RT_HI 0xFF 0x6A) 0x9ABC |>.setStaged (R.NI_RT_LO 0 1) 7; let v : Word := (s.reg (R.NI_CTRL 0xFF) &&& 0x32) ||| 1; mayW s 0x68 (R.NI_CTRL 0xFF) ∧ s.armedFor (.ni 0xFF) = none ∧ v.getLsbD 1 = s.niOn 0xFF ∧ (v &&& 0x30) = (s.reg (R.NI_CTRL 0xFF) &&& 0x30)) ∧
    (let s : State := usr.setStaged (R.NOC_PORT_EN 63) 0x5; let v : Word := 0xFFFFFFFF; mayW s 0x68 (R.NOC_CTRL 63)) ∧
    (let s : State := (usr.setNoc { usr.noc with rcfg := [(63, some 0x2005)] }).setReg (R.NOC_STAT 63) 0x3FFF; 0x2005 < 2 ^ 14 ∧ Tbl.get (fun _ => none) s.noc.rcfg 63 = some 0x2005) := by decide +kernel
/-- RoutesPortsAndFences: inputs of its clauses, part 2. -/
theorem witness_RoutesPortsAndFences_2 :
    (let s : State := usr; linkOf 63 13 = some 59 ∧ s.boot.inReset = false) ∧
    (let s : State := usr.setFence 63 1; s.fence 63 = 1 ∧ (∀ g ∈ s.noc.tags, g.ni ≠ 63) ∧ (∀ p ∈ s.noc.taken, p.dst ≠ 63) ∧ (∀ p ∈ s.noc.arrived, p.dst ≠ 63)) ∧
    (let s : State := usr; s.fence 63 ≠ 1) ∧
    (let s : State := usr.setFence 63 2 |>.setFence 62 1; s.boot.inReset = false ∧ s.bit R.SYS_PD_STAT 31 = false ∧ s.bit R.SYS_PD_BUSY 31 = false ∧ s.fence (2 * 31 + 1) = 2) := by decide +kernel
/-- ChannelStatesChange: inputs of its clauses, part 1. -/
theorem witness_ChannelStatesChange_1 :
    (let s : State := mcq 2; let v : Word := 1; v.getLsbD 5 = false ∧ v.getLsbD 6 = false ∧ v.getLsbD 7 = false ∧ mayW s 0x68 (R.MC_CTRL 7) ∧ s.mcState 7 = 2 ∧ s.bankValid 7 = true ∧ s.timingValid 7 = true ∧ (s.mcOf 7).want = false ∧ (s.mcOf 7).wantHalt = false) ∧
    (let s : State := (mcq 2).setReg (R.MC_TP0 7) 0; let v : Word := 1; mayW s 0x68 (R.MC_CTRL 7) ∧ v.getLsbD 5 = false ∧ v.getLsbD 6 = false ∧ v.getLsbD 7 = false ∧ s.timingValid 7 = false ∧ s.mcState 7 = 2) ∧
    (let s : State := mch 3; let v : Word := 0; mayW s 0x68 (R.MC_CTRL 7) ∧ s.flag (R.MC_CTRL 7) F.MC_CTRL_EN = true ∧ s.mcState 7 = 3 ∧ v.getLsbD 5 = false ∧ v.getLsbD 6 = false ∧ v.getLsbD 7 = false) ∧
    (let s : State := mch 3; let v : Word := 0x81; mayW s 0x68 (R.MC_CTRL 7) ∧ s.flag (R.MC_CTRL 7) F.MC_CTRL_EN = true ∧ s.mcState 7 = 3 ∧ v.getLsbD 0 = true) ∧
    (let s : State := mch 3; let v : Word := 0xE1; mayW s 0x68 (R.MC_CTRL 7) ∧ s.flag (R.MC_CTRL 7) F.MC_CTRL_EN = true ∧ s.mcState 7 = 3 ∧ v.getLsbD 0 = true) := by decide +kernel
/-- ChannelStatesChange: inputs of its clauses, part 2. -/
theorem witness_ChannelStatesChange_2 :
    (let s : State := mcr 1; let v : Word := 0x41; mayW s 0x68 (R.MC_CTRL 7) ∧ s.flag (R.MC_CTRL 7) F.MC_CTRL_EN = true ∧ s.mcState 7 = 3 ∧ v.getLsbD 0 = true ∧ v.getLsbD 7 = false ∧ v.getLsbD 5 = false) ∧
    (let s : State := mch 8; let v : Word := 0xE1; mayW s 0x68 (R.MC_CTRL 7) ∧ s.flag (R.MC_CTRL 7) F.MC_CTRL_EN = true ∧ (s.mcOf 7).wantHalt = false ∧ s.mcState 7 = 8 ∧ v.getLsbD 0 = true) ∧
    (let s : State := mch 3; let v : Word := 0x80000000; s.mcState 7 = 3 ∧ mayW s 0x68 (R.MC_SR_CTRL 7) ∧ v.getLsbD 30 = false) ∧
    (let s : State := mch 5; let v : Word := 0xC0000000; mayW s 0x68 (R.MC_SR_CTRL 7) ∧ s.mcState 7 = 5) ∧
    (let s : State := (mcq 3).setMc 7 { Mc.empty with reqs := [rldReq 1, rldReq 3] }; s.mcState 7 = 3 ∧ s.flag (R.MC_CTRL 7) F.MC_CTRL_EN = false ∧ (s.mcOf 7).q = [] ∧ (s.mcOf 7).reads = [] ∧ (s.mcOf 7).reqs.length = 2) := by decide +kernel
/-- ChannelStatesChange: inputs of its clauses, part 3. -/
theorem witness_ChannelStatesChange_3 :
    (let s : State := (mch 3).setReg (R.MC_SR_CTRL 7) 0xFFFF; s.mcState 7 = 3 ∧ s.fld (R.MC_SR_CTRL 7) F.MC_SR_CTRL_IDLE ≠ 0 ∧ (s.mcOf 7).reqs = []) ∧
    (let s : State := (mch 4).setMc 7 { Mc.empty with slot := 77 }; s.mcState 7 = 4 ∧ (s.mcOf 7).q = [] ∧ (s.mcOf 7).reads = [] ∧ (s.mcOf 7).reqs = [] ∧ (s.mcOf 7).owed = [] ∧ (s.mcOf 7).alert = false) ∧
    (let s : State := (mch 5).setMc 7 { Mc.empty with slot := 77, srAt := 76, reqs := [rldReq 1] }; s.mcState 7 = 5 ∧ (s.mcOf 7).reqs ≠ []) ∧
    (let s : State := (mch 6).setMc 7 { Mc.empty with slot := 77, owed := [(3, 2)], reqs := [rldReq 1] }; s.mcState 7 = 6 ∧ (s.mcOf 7).want = false ∧ (s.mcOf 7).wantHalt = false) ∧
    (let s : State := (mch 7).setRldWord 7 (2 ^ 24 - 1) 7 ⟨5, true, []⟩ |>.setRldWord 6 (2 ^ 24 - 1) 7 ⟨5, true, []⟩; s.mcState 7 = 7 ∧ (s.mcOf 7).want = false ∧ (s.mcOf 7).wantHalt = false) := by decide +kernel
/-- ChannelStatesChange: inputs of its clauses, part 4. -/
theorem witness_ChannelStatesChange_4 :
    (let s : State := usr.setStaged R.MC_MAP_CH 0x001f4688; let v : Word := 0x00021231; let w : Word := (s.staged R.MC_MAP_CTRL &&& ~~~ 0x137770) ||| (v &&& 0x137770); mayW s 0x68 (R.MC_MAP_CTRL) ∧ mapValid w (s.staged R.MC_MAP_CH) = true) ∧
    (let s : State := usr.setStaged R.MC_MAP_CH 0; let v : Word := 0x00021231; let w : Word := (s.staged R.MC_MAP_CTRL &&& ~~~ 0x137770) ||| (v &&& 0x137770); mayW s 0x68 (R.MC_MAP_CTRL) ∧ mapValid w (s.staged R.MC_MAP_CH) = false) ∧
    (let s : State := (mch 8).setMc 7 { Mc.empty with wantHalt := true, reqs := [rldReq 1] }; let v : Word := 0x21; mayW s 0x68 (R.MC_CTRL 7) ∧ v.getLsbD 0 = true ∧ s.flag (R.MC_CTRL 7) F.MC_CTRL_EN = true ∧ s.mcState 7 = 8 ∧ (s.mcOf 7).wantHalt = true) := by decide +kernel
/-- ChannelsServeRequests: inputs of its clauses, part 1. -/
theorem witness_ChannelsServeRequests_1 :
    (let s : State := (mcr 1).setReg (R.MC_RETIRE 7 63) (((1 : Word).fput F.MC_RETIRE_V 1).fput F.MC_RETIRE_PAGE 0x3FFFF); let r : McReq := rldReq 1; s.mcState 7 = 3 ∧ s.mcHead 7 3 = some r ∧ r.next = 0 ∧ (s.mcOf 7).reqs.find? (fun x => x.id == r.id) = some r ∧ r.lines = 1 ∧ s.retired 7 r.first = true ∧ r.pkt.vn ≠ 2) ∧
    (let s : State := mcr 1; let r : McReq := rldReq 1; s.mcState 7 = 3 ∧ r.next = 0 ∧ (s.mcOf 7).reqs.find? (fun x => x.id == r.id) = some r ∧ r.lines = 1 ∧ s.mcHead 7 3 = some r ∧ s.retired 7 r.first = false ∧ ((s.mcOf 7).q.filter (fun x => x.bank == (s.mcEntry 7 r 0).bank)).length < 64 ∧ r.pkt.cmd = cmdRd) ∧
    (let s : State := mcr 2; let r : McReq := rldReq 2; s.mcState 7 = 3 ∧ r.next = 0 ∧ (s.mcOf 7).reqs.find? (fun x => x.id == r.id) = some r ∧ r.lines = 1 ∧ s.retired 7 r.first = false ∧ ((s.mcOf 7).q.filter (fun x => x.bank == (s.mcEntry 7 r 0).bank)).length < 64 ∧ s.mcHead 7 3 = some r ∧ r.pkt.cmd = cmdWr ∧ r.pkt.vn ≠ 2) ∧
    (let s : State := mcr 3; let r : McReq := rldReq 3; s.mcState 7 = 3 ∧ r.next = 0 ∧ (s.mcOf 7).reqs.find? (fun x => x.id == r.id) = some r ∧ r.lines = 1 ∧ s.retired 7 r.first = false ∧ ((s.mcOf 7).q.filter (fun x => x.bank == (s.mcEntry 7 r 0).bank)).length < 64 ∧ s.mcHead 7 3 = some r ∧ r.pkt.cmd = cmdPwr ∧ r.pkt.vn = 2) ∧
    (let s : State := (mch 3).setMc 7 { Mc.empty with owed := [(15, 1)], slot := 100 }; s.mcState 7 = 3 ∧ (s.mcOf 7).alert = false ∧ s.bit R.CLK_MC_LOST (8 + 7) = true ∧ s.refreshPick 7 = some (15, false)) := by decide +kernel
/-- ChannelsServeRequests: inputs of its clauses, part 2. -/
theorem witness_ChannelsServeRequests_2 :
    (let s : State := ((mch 3).setMc 7 { Mc.empty with owed := [(15, 8)], slot := 100 }).setFlag (R.MC_MAINT 7) F.MC_MAINT_EN true; s.mcState 7 = 3 ∧ (s.mcOf 7).alert = false ∧ s.bit R.CLK_MC_LOST (8 + 7) = true ∧ s.refreshPick 7 = some (15, true)) ∧
    (let s : State := mce 1; let e : McEnt := s.mcEntry 7 (rldReq 1) 0; s.mcState 7 = 3 ∧ (s.mcOf 7).alert = false ∧ s.bit R.CLK_MC_LOST (8 + 7) = true ∧ s.refreshPick 7 = none ∧ s.winner 7 = some e ∧ s.gapPassed 7 e.write = true ∧ e.write = false) ∧
    (let s : State := mce 2; let e : McEnt := s.mcEntry 7 (rldReq 2) 0; s.mcState 7 = 3 ∧ (s.mcOf 7).alert = false ∧ s.bit R.CLK_MC_LOST (8 + 7) = true ∧ s.refreshPick 7 = none ∧ s.winner 7 = some e ∧ s.gapPassed 7 e.write = true ∧ e.write = true ∧ e.poison = false ∧ e.line < 2 ^ 24) ∧
    (let s : State := mch 3; s.mcState 7 = 3 ∧ (s.mcOf 7).alert = false ∧ s.bit R.CLK_MC_LOST (8 + 7) = true ∧ s.refreshPick 7 = none ∧ s.winner 7 = none) ∧
    (let s : State := (mch 3).setMc 7 { Mc.empty with reqs := [{ rldReq 1 with next := 1 }], reads := [⟨(mch 3).mcEntry 7 (rldReq 1) 0, 0, List.replicate 8 (0x1122334455667788, 0)⟩] }; let r : McReq := { rldReq 1 with next := 1 }; (s.mcOf 7).reads.length = 1 ∧ (s.mcOf 7).alert = false ∧ (s.mcOf 7).reqs.find? (fun x => x.id == ((mch 3).mcEntry 7 (rldReq 1) 0).req) = some r ∧ r.lines = 1 ∧ r.got = [] ∧ r.bad = false ∧ r.pkt.cmd = cmdRd ∧ ((mch 3).mcEntry 7 (rldReq 1) 0).line = r.first) := by decide +kernel
/-- ChannelsServeRequests: inputs of its clauses, part 3. -/
theorem witness_ChannelsServeRequests_3 :
    (let s : State := ((mch 3).setMc 7 { Mc.empty with buf := [(0, .refresh 15)] }).setReg (R.MC_CFG 7) 0x00020001; s.flag (R.MC_CFG 7) F.MC_CFG_PAR_EN = true ∧ (s.mcOf 7).buf ≠ [] ∧ (s.mcOf 7).alerts + 1 < max 1 (s.fld (R.MC_CFG 7) F.MC_CFG_MAX_RETRY)) ∧
    (let s : State := ((mch 3).setMc 7 { Mc.empty with buf := [(0, .refresh 15)], reqs := [rldReq 1], alerts := 1 }).setReg (R.MC_CFG 7) 0x00020001; s.flag (R.MC_CFG 7) F.MC_CFG_PAR_EN = true ∧ (s.mcOf 7).buf ≠ [] ∧ max 1 (s.fld (R.MC_CFG 7) F.MC_CFG_MAX_RETRY) ≤ (s.mcOf 7).alerts + 1) ∧
    (let s : State := mch 3; (s.mcOf 7).buf = []) ∧
    (let s : State := (mch 3).setMc 7 { Mc.empty with buf := [(0, .refresh 15), (1, .access ((mch 3).mcEntry 7 (rldReq 2) 0))], alert := true, alerts := 1, slot := 3 }; (s.mcOf 7).alert = true) := by decide +kernel
/-- TrainingRunsAndCommits: inputs of its clauses, part 1. -/
theorem witness_TrainingRunsAndCommits_1 :
    (let s : State := (mcq 9).setMc 7 { Mc.empty with reqs := [rldReq 1] }; let v : Word := 0x80000000; mayW s 0x68 (R.MT_CTRL 7) ∧ v.getLsbD 28 = false ∧ v.getLsbD 29 = false ∧ v.getLsbD 30 = false ∧ ((s.mcState 7 == 0 || s.mcState 7 == 2 || s.mcState 7 == 9) && s.bit R.CLK_MC_LOST (8 + 7) && 5 ≤ s.fld R.CFG_BOOT_STAT F.CFG_BOOT_STAT_STEP) = true) ∧
    (let s : State := mch 3; let v : Word := 0x80000000; mayW s 0x68 (R.MT_CTRL 7) ∧ v.getLsbD 28 = false ∧ v.getLsbD 29 = false ∧ v.getLsbD 30 = false ∧ ((s.mcState 7 == 0 || s.mcState 7 == 2 || s.mcState 7 == 9) && s.bit R.CLK_MC_LOST (8 + 7) && 5 ≤ s.fld R.CFG_BOOT_STAT F.CFG_BOOT_STAT_STEP) = false) ∧
    (let s : State := ((mcq 1).setReg (R.MT_SHD_DQ 7 71) 0x1234).setFlag (R.MT_RUN 7) F.MT_RUN_BUSY true |>.setReg (R.MT_ACT_CMP 7 1) 0x55; let v : Word := 0x40000000; mayW s 0x68 (R.MT_CTRL 7) ∧ v.getLsbD 28 = false ∧ v.getLsbD 29 = false ∧ v.getLsbD 31 = false ∧ s.mcState 7 = 1) ∧
    (let s : State := mcq 1; let v : Word := 0x20000000; mayW s 0x68 (R.MT_CTRL 7) ∧ v.getLsbD 28 = false ∧ v.getLsbD 30 = false ∧ v.getLsbD 31 = false ∧ s.mcState 7 = 1) ∧
    (let s : State := (mch 3).setPr 7 3; let v : Word := 0x10000000; mayW s 0x68 (R.MT_CTRL 7) ∧ v.getLsbD 29 = false ∧ v.getLsbD 30 = false ∧ v.getLsbD 31 = false ∧ ((s.mcState 7 == 1 || s.mcState 7 == 2 || s.mcState 7 == 3) && s.prState 7 != 1 && s.prState 7 != 2) = true) := by decide +kernel
/-- TrainingRunsAndCommits: inputs of its clauses, part 2. -/
theorem witness_TrainingRunsAndCommits_2 :
    (let s : State := (mch 3).setPr 7 2; let v : Word := 0x10000000; mayW s 0x68 (R.MT_CTRL 7) ∧ v.getLsbD 29 = false ∧ v.getLsbD 30 = false ∧ v.getLsbD 31 = false ∧ ((s.mcState 7 == 1 || s.mcState 7 == 2 || s.mcState 7 == 3) && s.prState 7 != 1 && s.prState 7 != 2) = false) ∧
    (let s : State := ((mch 3).setMc 7 { Mc.empty with commit := true }).setReg (R.MT_SHD_DQ 7 71) 0x1234; (s.mcOf 7).commit = true ∧ s.mcState 7 = 3) ∧
    (let s : State := mch 3; (s.mcOf 7).commit = false) ∧
    (let s : State := mch 1; s.mcState 7 = 1 ∧ s.halted = false) ∧
    (let s : State := mch 2; s.mcState 7 ≠ 1) := by decide +kernel
/-- TrainingRunsAndCommits: inputs of its clauses, part 3. -/
theorem witness_TrainingRunsAndCommits_3 :
    (let s : State := mch 1; let v : Word := 0x8C000000; mayW s 0x68 (R.MT_RUN 7) ∧ s.mcState 7 = 1 ∧ s.flag (R.MT_RUN 7) F.MT_RUN_BUSY = false) ∧
    (let s : State := (mch 1).setFlag (R.MT_RUN 7) F.MT_RUN_BUSY true; let v : Word := 0x80000000; mayW s 0x68 (R.MT_RUN 7) ∧ s.flag (R.MT_RUN 7) F.MT_RUN_BUSY = true) ∧
    (let s : State := (mch 1).setFlag (R.MT_RUN 7) F.MT_RUN_BUSY true; s.mcState 7 = 1 ∧ s.flag (R.MT_RUN 7) F.MT_RUN_BUSY = true ∧ s.flag (R.MT_RUN 7) F.MT_RUN_SWEEP = false ∧ s.fld (R.MT_RUN 7) F.MT_RUN_OP ≠ 2) ∧
    (let s : State := ((mch 1).setFlag (R.MT_RUN 7) F.MT_RUN_BUSY true).setFlag (R.MT_RUN 7) F.MT_RUN_SWEEP true |>.setFld (R.MT_SWEEP 7) F.MT_SWEEP_HI 127 |>.setFld (R.MT_SWEEP 7) F.MT_SWEEP_STEP 1; s.mcState 7 = 1 ∧ s.flag (R.MT_RUN 7) F.MT_RUN_BUSY = true ∧ s.fld (R.MT_RUN 7) F.MT_RUN_OP ≠ 2 ∧ s.flag (R.MT_RUN 7) F.MT_RUN_SWEEP = true ∧ s.fld (R.MT_SWEEP 7) F.MT_SWEEP_TARGET ≠ 2) ∧
    (let s : State := (mch 4).setMc 7 { Mc.empty with commit := true }; (s.mcOf 7).commit = true ∧ s.mcState 7 = 4) := by decide +kernel
/-- TrainingRunsAndCommits: inputs of its clauses, part 4. -/
theorem witness_TrainingRunsAndCommits_4 :
    (let s : State := ((mch 1).setFlag (R.MT_RUN 7) F.MT_RUN_BUSY true).setFlag (R.MT_RUN 7) F.MT_RUN_SWEEP true |>.setFld (R.MT_SWEEP 7) F.MT_SWEEP_HI 127 |>.setFld (R.MT_SWEEP 7) F.MT_SWEEP_STEP 1 |>.setFld (R.MT_SWEEP 7) F.MT_SWEEP_TARGET 2; s.mcState 7 = 1 ∧ s.flag (R.MT_RUN 7) F.MT_RUN_BUSY = true ∧ s.flag (R.MT_RUN 7) F.MT_RUN_SWEEP = true ∧ s.fld (R.MT_SWEEP 7) F.MT_SWEEP_TARGET = 2) := by decide +kernel
/-- RetrainingInService: inputs of its clauses, part 1. -/
theorem witness_RetrainingInService_1 :
    (let s : State := ((mch 3).setReg (R.MC_RETIRE 7 63) (((1 : Word).fput F.MC_RETIRE_V 1).fput F.MC_RETIRE_PAGE 0x3FFFF)).setFld (R.MT_PR_PAGE 7) F.MT_PR_PAGE_PAGE 0x3FFFF; let v : Word := 0x80000000; mayW s 0x68 (R.MT_PR_CTRL 7) ∧ s.prOn 7 = false ∧ s.prPage 7 = true) ∧
    (let s : State := mch 3; let v : Word := 0x80000000; mayW s 0x68 (R.MT_PR_CTRL 7) ∧ s.prOn 7 = false ∧ s.prPage 7 = false) ∧
    (let s : State := ((mch 3).setReg (R.MT_PR_CTRL 7) 0x80000000).setReg (R.MT_SHD_DQ 7 71) 0x1234; s.prOn 7 = true ∧ s.prState 7 = 0 ∧ s.mcState 7 = 3 ∧ (s.mcOf 7).commit = false) ∧
    (let s : State := ((mch 3).setReg (R.MT_PR_CTRL 7) 0x80000800).setPr 7 1 |>.forEach (List.range 72) (fun t k => t.setReg (R.MT_ACT_DQ 7 k) (((0 : Word).fput F.MT_ACT_DQ_RDLY 120).fput F.MT_ACT_DQ_WDLY 2)); let pass : List (BitVec 128) := List.replicate 72 0xFE000000000000000000000000000007; let w : Option (Nat × Nat) := window 0xFE000000000000000000000000000007 (sweepValues (120 - s.fld (R.MT_PR_CTRL 7) F.MT_PR_CTRL_RANGE) (min 127 (120 + s.fld (R.MT_PR_CTRL 7) F.MT_PR_CTRL_RANGE)) 1); s.prOn 7 = true ∧ s.mcState 7 = 3 ∧ s.flag (R.MT_PR_CTRL 7) F.MT_PR_CTRL_WIN = false ∧ s.prState 7 = 1 ∧ w = some (121, 127) ∧ s.fld (R.MT_PR_CTRL 7) F.MT_PR_CTRL_MIN_W ≤ 6) ∧
    (let s : State := ((mch 3).setReg (R.MT_PR_CTRL 7) 0xA0000800).setPr 7 2 |>.forEach (List.range 72) (fun t k => t.setReg (R.MT_ACT_DQ 7 k) (((0 : Word).fput F.MT_ACT_DQ_RDLY 120).fput F.MT_ACT_DQ_WDLY 2)); let pass : List (BitVec 128) := List.replicate 72 0xFE000000000000000000000000000007; s.prOn 7 = true ∧ s.mcState 7 = 3 ∧ s.flag (R.MT_PR_CTRL 7) F.MT_PR_CTRL_WIN = false ∧ (∀ k ∈ List.range 72, window (pass.getD k 0) (sweepValues (s.fld (R.MT_ACT_DQ 7 k) F.MT_ACT_DQ_WDLY - s.fld (R.MT_PR_CTRL 7) F.MT_PR_CTRL_RANGE) (min 127 (s.fld (R.MT_ACT_DQ 7 k) F.MT_ACT_DQ_WDLY + s.fld (R.MT_PR_CTRL 7) F.MT_PR_CTRL_RANGE)) 1) = some (0, 2)) ∧ s.fld (R.MT_PR_CTRL 7) F.MT_PR_CTRL_MIN_W ≤ 2 ∧ s.prState 7 = 2 ∧ s.flag (R.MT_PR_CTRL 7) F.MT_PR_CTRL_AUTO = true) := by decide +kernel
/-- RetrainingInService: inputs of its clauses, part 2. -/
theorem witness_RetrainingInService_2 :
    (let s : State := ((mch 3).setReg (R.MT_PR_CTRL 7) 0xA0000800).setPr 7 2; let pass : List (BitVec 128) := List.replicate 71 0xFE000000000000000000000000000007; s.prOn 7 = true ∧ s.mcState 7 = 3 ∧ s.flag (R.MT_PR_CTRL 7) F.MT_PR_CTRL_WIN = false ∧ s.prState 7 = 2 ∧ window (0 : BitVec 128) (sweepValues 0 8 1) = none) ∧
    (let s : State := ((mch 3).setReg (R.MT_PR_CTRL 7) 0x80000800).setPr 7 2 |>.forEach (List.range 72) (fun t k => t.setReg (R.MT_ACT_DQ 7 k) (((0 : Word).fput F.MT_ACT_DQ_RDLY 120).fput F.MT_ACT_DQ_WDLY 2)); let pass : List (BitVec 128) := List.replicate 72 0xFE000000000000000000000000000007; s.prOn 7 = true ∧ s.mcState 7 = 3 ∧ s.flag (R.MT_PR_CTRL 7) F.MT_PR_CTRL_WIN = false ∧ s.prState 7 = 2 ∧ s.flag (R.MT_PR_CTRL 7) F.MT_PR_CTRL_AUTO = false) := by decide +kernel
/-- WedgingsReadAndRepair: inputs of its clauses, part 1. -/
theorem witness_WedgingsReadAndRepair_1 :
    (let s : State := scr 5; s.scrubRuns = true ∧ s.wedging = false) ∧
    (let s : State := on; s.scrubRuns = false) ∧
    (let s : State := wedge; s.wedging = true) ∧
    (let s : State := wedge; let p : Nat := Tbl.get (fun _ => 0) s.scrub.pos 31; let key : Nat := 31 * 2 ^ 17 + p; let f : Frame := s.act.frame key; s.scrubRuns = true ∧ s.wedging = true ∧ s.scrub.skip.has 31 = false ∧ s.scrub.finished.has 31 = false ∧ f.flips = [] ∧ f.words.length = 64 ∧ f.readsBack = true ∧ s.scrubChecks key true = false ∧ s.scrubChecks key false = true ∧ (∀ y ∈ s.scrub.look, y.key ≠ key) ∧ (∀ q ∈ s.scrub.queue, q.1 ≠ key) ∧ (∀ q ∈ s.scrub.lost, q.1 ≠ key)) ∧
    (let s : State := wedge.setScrub { wedge.scrub with pos := [(31, mkKey 0 31 19 79)] }; let p : Nat := Tbl.get (fun _ => 0) s.scrub.pos 31; let key : Nat := 31 * 2 ^ 17 + p; let f : Frame := s.act.frame key; s.scrubRuns = true ∧ s.wedging = true ∧ s.scrub.skip.has 31 = false ∧ s.scrub.finished.has 31 = false ∧ f.flips = [] ∧ f.words.length = 64 ∧ f.readsBack = true ∧ s.scrubChecks key true = false ∧ s.scrubChecks key false = true ∧ (∀ y ∈ s.scrub.look, y.key ≠ key) ∧ (∀ q ∈ s.scrub.queue, q.1 ≠ key) ∧ (∀ q ∈ s.scrub.lost, q.1 ≠ key) ∧ nextPos (keyTcol p) (keyTrow p) (keyFrame p) = none) := by decide +kernel
/-- WedgingsReadAndRepair: inputs of its clauses, part 2. -/
theorem witness_WedgingsReadAndRepair_2 :
    (let s : State := let u := (wedge.setBit R.SCR_RGN_FLAG 31 true).setBit R.SCR_RGN_FLAG 0 true |>.setFlag R.SCR_FLAG F.SCR_FLAG_STATIC true |>.setFld R.SCR_STAT F.SCR_STAT_PASS_CNT 0xFFFF; u.setScrub { u.scrub with finished := [31], dirty := [31] }; s.scrubRuns = true ∧ s.wedging = true ∧ s.unread = [] ∧ s.ic.asleep = false) := by decide +kernel
/-- FindingsAreJudgedAndRefetched: inputs of its clauses, part 1. -/
theorem witness_FindingsAreJudgedAndRefetched_1 :
    (let s : State := let u := scr 5; let p : PlaneRec := Load.record (load 2 0 0 []) hdr0; u.setScrub { u.scrub with look := [⟨mkKey 31 31 19 78, false, 1, [2047], []⟩, ⟨7, false, 3, [], []⟩], cache := [⟨p, 0, []⟩, ⟨p, 1, []⟩] }; let f : Finding := ⟨mkKey 31 31 19 78, false, 1, [2047], []⟩; let g : Finding := ⟨7, false, 3, [], []⟩; s.halted = false ∧ s.scrub.look = f :: [g] ∧ f.shd = false ∧ s.mapState f.key false = 0 ∧ s.scrub.inj ≠ some (f.key, false) ∧ silent s (33) ∧ f.essential (List.replicate 32 (2 ^ 64 - 1)) = true) ∧
    (let s : State := let u := scr 5; let p : PlaneRec := Load.record (load 2 0 0 []) hdr0; u.setScrub { u.scrub with look := [⟨mkKey 31 31 19 78, false, 1, [], []⟩, ⟨7, false, 3, [], []⟩], cache := [⟨p, 0, []⟩, ⟨p, 1, []⟩] }; let f : Finding := ⟨mkKey 31 31 19 78, false, 1, [], []⟩; let g : Finding := ⟨7, false, 3, [], []⟩; s.halted = false ∧ s.scrub.look = f :: [g] ∧ f.shd = false ∧ s.mapState f.key false = 0 ∧ s.scrub.inj ≠ some (f.key, false) ∧ silent s (34) ∧ f.essential (List.replicate 32 (2 ^ 64 - 1)) = false) ∧
    (let s : State := let u := scr 5; let p : PlaneRec := Load.record (load 2 0 0 []) hdr0; u.setScrub { u.scrub with look := [⟨mkKey 31 31 19 78, false, 2, [], [31]⟩, ⟨7, false, 3, [], []⟩], cache := [⟨p, 0, []⟩, ⟨p, 1, []⟩] }; let f : Finding := ⟨mkKey 31 31 19 78, false, 2, [], [31]⟩; let g : Finding := ⟨7, false, 3, [], []⟩; s.halted = false ∧ s.scrub.look = f :: [g] ∧ f.shd = false ∧ s.mapState f.key false = 0 ∧ s.scrub.inj ≠ some (f.key, false) ∧ silent s (3) ∧ f.kind ≠ 1 ∧ s.flag R.SCR_CTRL F.SCR_CTRL_RF_EN = true ∧ s.scrub.queue.length < 32) ∧
    (let s : State := let u := scr 5; u.setScrub { u.scrub with look := [⟨mkKey 31 31 19 78, false, 2, [], []⟩, ⟨7, false, 3, [], []⟩], queue := List.replicate 31 (5, true, false) }; let f : Finding := ⟨mkKey 31 31 19 78, false, 2, [], []⟩; let g : Finding := ⟨7, false, 3, [], []⟩; s.halted = false ∧ s.scrub.look = f :: [g] ∧ f.shd = false ∧ s.mapState f.key false = 0 ∧ s.scrub.inj ≠ some (f.key, false) ∧ silent s (36) ∧ s.flag R.SCR_CTRL F.SCR_CTRL_RF_EN = true ∧ s.scrub.queue.length < 32) ∧
    (let s : State := let u := scr 5; u.setScrub { u.scrub with look := [⟨mkKey 31 31 19 78, false, 3, [], []⟩, ⟨7, false, 3, [], []⟩], inj := some (mkKey 31 31 19 78, false) }; let f : Finding := ⟨mkKey 31 31 19 78, false, 3, [], []⟩; let g : Finding := ⟨7, false, 3, [], []⟩; s.halted = false ∧ s.scrub.look = f :: [g] ∧ f.shd = false ∧ s.mapState f.key false = 0 ∧ s.scrub.inj = some (f.key, false)) := by decide +kernel
/-- FindingsAreJudgedAndRefetched: inputs of its clauses, part 2. -/
theorem witness_FindingsAreJudgedAndRefetched_2 :
    (let s : State := let u := (scr 5).setFld (R.SCR_RGN_MAP 31) F.SCR_RGN_MAP_ACT_MAP 2; u.setRg 31 { u.rg 31 with act := some { Load.record (load 2 0 0 []) hdr0 with origin := 1 } }; let x : PlaneRec := { Load.record (load 2 0 0 []) hdr0 with origin := 1 }; s.halted = false ∧ (s.rg 31).act = some x ∧ x.origin ≠ 2 ∧ s.fld (R.SCR_RGN_MAP 31) F.SCR_RGN_MAP_ACT_MAP = 2 ∧ s.mapGood x (some 31) = false) ∧
    (let s : State := let u := (scr 5).setFld (R.SCR_RGN_MAP 31) F.SCR_RGN_MAP_ACT_MAP 3; u.setRg 31 { u.rg 31 with act := some { Load.record (load 2 0 0 []) hdr0 with origin := 1 } }; let x : PlaneRec := { Load.record (load 2 0 0 []) hdr0 with origin := 1 }; s.halted = false ∧ (s.rg 31).act = some x ∧ x.origin ≠ 2 ∧ s.fld (R.SCR_RGN_MAP 31) F.SCR_RGN_MAP_ACT_MAP = 3) ∧
    (let s : State := let u := scr 5; u.setScrub { u.scrub with queue := [(5, false, true), (6, true, false)] }; s.halted = false ∧ s.scrub.queue = [(5, false, true), (6, true, false)] ∧ s.refetching = false ∧ s.flag R.SCR_CTRL F.SCR_CTRL_RF_EN = true ∧ s.mapState 5 false = 0) ∧
    (let s : State := let u := (scr 5).setFlag R.SCR_CTRL F.SCR_CTRL_RF_EN false; u.setScrub { u.scrub with queue := [(5, false, true), (6, true, false)] }; s.halted = false ∧ s.scrub.queue = [(5, false, true), (6, true, false)] ∧ s.refetching = false ∧ s.flag R.SCR_CTRL F.SCR_CTRL_RF_EN = false) ∧
    (let s : State := let u := scr 5; u.setScrub { u.scrub with queue := [(5, false, true), (6, true, false)] }; s.halted = false ∧ s.scrub.queue = [(5, false, true), (6, true, false)] ∧ s.refetching = false) := by decide +kernel
/-- FindingsAreJudgedAndRefetched: inputs of its clauses, part 3. -/
theorem witness_FindingsAreJudgedAndRefetched_3 :
    (let s : State := let u := (scr 5).setFlag R.SCR_STAT F.SCR_STAT_RF_BUSY true; u.setScrub { u.scrub with queue := [(5, false, true), (6, true, false)] }; s.halted = false ∧ s.scrub.queue = [(5, false, true), (6, true, false)] ∧ s.refetching = true) ∧
    (let s : State := let u := (scr 5).setFlag R.SCR_STAT F.SCR_STAT_RF_BUSY true; u.setScrub { u.scrub with queue := [(5, true, true)], fetched := some (5, true, some (List.replicate 64 7)) }; s.halted = false ∧ s.scrub.queue = [(5, true, true)] ∧ s.scrub.fetched = some (5, true, some (List.replicate 64 7))) ∧
    (let s : State := let k := mkKey 31 31 19 78; let u := (scr 5).setFlag R.SCR_STAT F.SCR_STAT_RF_BUSY true; u.setScrub { u.scrub with queue := [(k, false, true)], fetched := some (k, false, none) }; let k : Nat := mkKey 31 31 19 78; s.halted = false ∧ s.scrub.fetched = some (k, false, none) ∧ s.frameRegion k = some 31 ∧ s.scrub.queue = [(k, false, true)]) ∧
    (let s : State := let u := (scr 5).setFlag R.SCR_STAT F.SCR_STAT_RF_BUSY true; u.setScrub { u.scrub with queue := [(5, false, false)], fetched := some (5, false, none) }; s.halted = false ∧ s.scrub.fetched = some (5, false, none) ∧ s.frameRegion 5 = none ∧ s.scrub.queue = [(5, false, false)]) ∧
    (let s : State := let k := mkKey 31 31 19 78; let u := ((scr 5).setFlag R.SCR_STAT F.SCR_STAT_RF_BUSY true).setShadow 31 3; u.setScrub { u.scrub with queue := [(k, true, false)], fetched := some (k, true, none) }; let k : Nat := mkKey 31 31 19 78; s.halted = false ∧ s.scrub.fetched = some (k, true, none) ∧ s.frameRegion k = some 31 ∧ s.shadow 31 = 3 ∧ s.scrub.queue = [(k, true, false)]) := by decide +kernel
/-- FindingsAreJudgedAndRefetched: inputs of its clauses, part 4. -/
theorem witness_FindingsAreJudgedAndRefetched_4 :
    (let s : State := let u := (scr 5).setFlag R.SCR_STAT F.SCR_STAT_RF_BUSY true; u.setScrub { u.scrub with queue := [(5, true, false)], fetched := some (5, false, some (List.replicate 64 7)) }; s.halted = false ∧ s.scrub.fetched = some (5, false, some (List.replicate 64 7)) ∧ (∀ q ∈ s.scrub.queue, (q.1, q.2.1) ≠ (5, false))) ∧
    (let s : State := let u := scr 5; u.setScrub { u.scrub with voter := true }; silent s (40)) ∧
    (let s : State := scr 5; mayW s 0x68 (R.SCR_INJ_CTRL)) ∧
    (let s : State := (scr 5).setReg R.SCR_INJ_FAR (BitVec.ofNat 32 (64 * mkKey 31 31 19 79)); let v : Word := (((0 : Word).fput F.SCR_INJ_CTRL_WORD 31).fput F.SCR_INJ_CTRL_BIT0 71); let far : Nat := (s.reg R.SCR_INJ_FAR).toNat % 2 ^ 31; mayW s 0x68 (R.SCR_INJ_CTRL) ∧ v.fget F.SCR_INJ_CTRL_VOTER = 0 ∧ v.fget F.SCR_INJ_CTRL_PLANE = 0 ∧ v.fget F.SCR_INJ_CTRL_TARGET = 0 ∧ v.fget F.SCR_INJ_CTRL_DOUBLE = 0 ∧ v.fget F.SCR_INJ_CTRL_BIT0 < 72 ∧ farValid (far + 2 ^ 31) = true) ∧
    (let s : State := ((scr 5).setReg R.SCR_INJ_FAR (BitVec.ofNat 32 (64 * mkKey 31 31 19 79))).setShadow 31 2; let v : Word := (((((0 : Word).fput F.SCR_INJ_CTRL_TARGET 1).fput F.SCR_INJ_CTRL_BIT0 31).fput F.SCR_INJ_CTRL_BIT1 0).fput F.SCR_INJ_CTRL_PLANE 1).fput F.SCR_INJ_CTRL_DOUBLE 1; let far : Nat := (s.reg R.SCR_INJ_FAR).toNat % 2 ^ 31; mayW s 0x68 (R.SCR_INJ_CTRL) ∧ v.fget F.SCR_INJ_CTRL_VOTER = 0 ∧ v.fget F.SCR_INJ_CTRL_PLANE = 1 ∧ v.fget F.SCR_INJ_CTRL_TARGET = 1 ∧ v.fget F.SCR_INJ_CTRL_DOUBLE = 1 ∧ v.fget F.SCR_INJ_CTRL_BIT0 < 32 ∧ v.fget F.SCR_INJ_CTRL_BIT1 < 32 ∧ farValid (far + 2 ^ 31) = true ∧ s.frameRegion (farKey far) = some 31 ∧ s.shadow 31 = 2) := by decide +kernel
/-- FindingsAreJudgedAndRefetched: inputs of its clauses, part 5. -/
theorem witness_FindingsAreJudgedAndRefetched_5 :
    (let s : State := (scr 5).setReg R.SCR_INJ_FAR (BitVec.ofNat 32 (64 * mkKey 31 31 19 127)); let v : Word := (((0 : Word).fput F.SCR_INJ_CTRL_WORD 31).fput F.SCR_INJ_CTRL_BIT0 71); let far : Nat := (s.reg R.SCR_INJ_FAR).toNat % 2 ^ 31; mayW s 0x68 (R.SCR_INJ_CTRL) ∧ v.fget F.SCR_INJ_CTRL_VOTER = 0 ∧ farValid (far + 2 ^ 31) = false) := by decide +kernel
/-- PacketsExecuteOneByOne: inputs of its clauses, part 1. -/
theorem witness_PacketsExecuteOneByOne_1 :
    (let s : State := ld 1 0 3 [1, 2, 3]; let l : Load := load 1 0 3 [1, 2, 3]; let h : Header := { hdr0 with blocks := 2 }; s.halted = false ∧ s.loadOn .mailbox = some l ∧ l.hdr = some h ∧ l.kind ≠ 3 ∧ l.ended = false ∧ l.blk < h.blocks ∧ s.front l = .packet 0 3 [1, 2, 3] ∧ s.front { l with buf := l.buf.drop (4 + 4 * ([1, 2, 3] : List Word).length) } ≠ .bad) ∧
    (let s : State := ld 2 1 1 [BitVec.ofNat 32 (2 ^ 31 + 64 * mkKey 31 31 19 79)]; let x : Nat := 2 ^ 31 + 64 * mkKey 31 31 19 79; let l : Load := load 2 1 1 [BitVec.ofNat 32 x]; let h : Header := { hdr0 with blocks := 2 }; s.halted = false ∧ s.loadOn .mailbox = some l ∧ l.hdr = some h ∧ l.kind ≠ 3 ∧ l.ended = false ∧ l.blk < h.blocks ∧ farValid x = true ∧ s.front l = .packet 1 1 [BitVec.ofNat 32 x] ∧ s.front { l with buf := l.buf.drop (4 + 4 * ([BitVec.ofNat 32 x] : List Word).length) } ≠ .bad) ∧
    (let s : State := ld 2 1 1 [BitVec.ofNat 32 (2 ^ 31 + 64 * mkKey 31 31 19 80)]; let x : Nat := 2 ^ 31 + 64 * mkKey 31 31 19 80; let l : Load := load 2 1 1 [BitVec.ofNat 32 x]; let h : Header := { hdr0 with blocks := 2 }; s.halted = false ∧ s.loadOn .mailbox = some l ∧ l.hdr = some h ∧ l.kind ≠ 3 ∧ l.ended = false ∧ l.blk < h.blocks ∧ farValid x = false ∧ l.kind = 2 ∧ l.region < 32 ∧ s.rgnDefined l.region = true ∧ s.front l = .packet 1 1 [BitVec.ofNat 32 x] ∧ s.front { l with buf := l.buf.drop (4 + 4 * ([BitVec.ofNat 32 x] : List Word).length) } ≠ .bad) ∧
    (let s : State := ld 2 2 1 (List.replicate 64 0 ++ [BitVec.ofNat 32 (frameCrc (List.replicate 64 0))]); let data : List Word := List.replicate 64 0 ++ [BitVec.ofNat 32 (frameCrc (List.replicate 64 0))]; let l : Load := load 2 2 1 data; let far : Nat := 2 ^ 31 + 64 * mkKey 31 31 19 79; let h : Header := { hdr0 with blocks := 2 }; s.halted = false ∧ s.loadOn .mailbox = some l ∧ l.hdr = some h ∧ l.kind ≠ 3 ∧ l.ended = false ∧ l.blk < h.blocks ∧ l.far = some far ∧ s.frameRefusal l far (data.take 64) ((data.drop 64).headD 0) = none ∧ (s.frameWrites l (packetFrames 1 none (frameAt data))).2.2 = none ∧ s.front l = .packet 2 1 data ∧ s.front { l with buf := l.buf.drop (4 + 4 * (data : List Word).length) } ≠ .bad) := by decide +kernel
/-- PacketsExecuteOneByOne: inputs of its clauses, part 2. -/
theorem witness_PacketsExecuteOneByOne_2 :
    (let s : State := ld 1 2 1 (List.replicate 64 5 ++ [BitVec.ofNat 32 (frameCrc (List.replicate 64 5))]); let data : List Word := List.replicate 64 5 ++ [BitVec.ofNat 32 (frameCrc (List.replicate 64 5))]; let far : Nat := 2 ^ 31 + 64 * mkKey 31 31 19 79; let l : Load := load 1 2 1 data; let h : Header := { hdr0 with blocks := 2 }; s.halted = false ∧ s.loadOn .mailbox = some l ∧ l.hdr = some h ∧ l.kind ≠ 3 ∧ l.ended = false ∧ l.blk < h.blocks ∧ s.front l = .packet 2 1 data ∧ s.front { l with buf := l.buf.drop (4 + 4 * (data : List Word).length) } ≠ .bad) ∧
    (let s : State := ld 2 2 1 (List.replicate 64 0 ++ [BitVec.ofNat 32 (frameCrc (List.replicate 64 0))]); let data : List Word := List.replicate 64 0 ++ [BitVec.ofNat 32 (frameCrc (List.replicate 64 0))]; let l : Load := load 2 2 1 data; let far : Nat := 2 ^ 31 + 64 * mkKey 31 31 19 79; let h : Header := { hdr0 with blocks := 2 }; s.halted = false ∧ s.loadOn .mailbox = some l ∧ l.hdr = some h ∧ l.kind ≠ 3 ∧ l.ended = false ∧ l.blk < h.blocks ∧ l.far = some far ∧ s.frameRefusal l far (data.take 64) ((data.drop 64).headD 0) = none ∧ upsetAt (some (0, [2335])) 0 ≠ [] ∧ (((s.shd.write (farKey far) (data.take 64) ((data.drop 64).headD 0)).frame (farKey far)).invert (upsetAt (some (0, [2335])) 0)).readsBack = false ∧ s.front l = .packet 2 1 data ∧ s.front { l with buf := l.buf.drop (4 + 4 * (data : List Word).length) } ≠ .bad) ∧
    (let s : State := ld 2 2 1 (List.replicate 64 0 ++ [7]); let data : List Word := List.replicate 64 0 ++ [7]; let l : Load := load 2 2 1 data; let far : Nat := 2 ^ 31 + 64 * mkKey 31 31 19 79; let h : Header := { hdr0 with blocks := 2 }; s.halted = false ∧ s.loadOn .mailbox = some l ∧ l.hdr = some h ∧ l.kind ≠ 3 ∧ l.ended = false ∧ l.blk < h.blocks ∧ s.frameRefusal l far (data.take 64) ((data.drop 64).headD 0) = some 0x0E ∧ s.front l = .packet 2 1 data ∧ s.front { l with buf := l.buf.drop (4 + 4 * (data : List Word).length) } ≠ .bad) ∧
    (let s : State := let l := { load 2 3 2 (List.replicate 64 0 ++ [BitVec.ofNat 32 (frameCrc (List.replicate 64 0))]) with far := some (2 ^ 31 + 64 * mkKey 31 31 19 78) }; let u := (region usr 31 31).setShadow 31 1; { u with boot := { u.boot with loads := [l] } }; let data : List Word := List.replicate 64 0 ++ [BitVec.ofNat 32 (frameCrc (List.replicate 64 0))]; let l : Load := { load 2 3 2 data with far := some (2 ^ 31 + 64 * mkKey 31 31 19 78) }; let h : Header := { hdr0 with blocks := 2 }; s.halted = false ∧ s.loadOn .mailbox = some l ∧ l.hdr = some h ∧ l.kind ≠ 3 ∧ l.ended = false ∧ l.blk < h.blocks ∧ (s.frameWrites l (packetFrames 2 none (fun _ => frameAt data 0))).2.2 = none ∧ s.front l = .packet 3 2 data ∧ s.front { l with buf := l.buf.drop (4 + 4 * (data : List Word).length) } ≠ .bad) := by decide +kernel
/-- PacketsExecuteOneByOne: inputs of its clauses, part 3. -/
theorem witness_PacketsExecuteOneByOne_3 :
    (let s : State := ld 1 4 1 []; let l : Load := load 1 4 1 []; let h : Header := { hdr0 with blocks := 2 }; s.halted = false ∧ s.loadOn .mailbox = some l ∧ l.hdr = some h ∧ l.kind ≠ 3 ∧ l.ended = false ∧ l.blk < h.blocks ∧ (s.frameWrites l (packetFrames 1 none (fun _ => zeroFrame))).2.2 = none ∧ s.front l = .packet 4 1 [] ∧ s.front { l with buf := l.buf.drop (4 + 4 * ([] : List Word).length) } ≠ .bad) ∧
    (let s : State := ld 1 5 2305 (0x80001FFF :: List.replicate 2304 0xA5A5A5A5); let data : List Word := 0x80001FFF :: List.replicate 2304 0xA5A5A5A5; let l : Load := load 1 5 2305 data; let h : Header := { hdr0 with blocks := 2 }; s.halted = false ∧ s.loadOn .mailbox = some l ∧ l.hdr = some h ∧ l.kind ≠ 3 ∧ l.ended = false ∧ l.blk < h.blocks) ∧
    (let s : State := ld 1 5 2049 (0x00001FFF :: List.replicate 2048 0xA5A5A5A5); let data : List Word := 0x00001FFF :: List.replicate 2048 0xA5A5A5A5; let l : Load := load 1 5 2049 data; let h : Header := { hdr0 with blocks := 2 }; s.halted = false ∧ s.loadOn .mailbox = some l ∧ l.hdr = some h ∧ l.kind ≠ 3 ∧ l.ended = false ∧ l.blk < h.blocks) ∧
    (let s : State := ld 2 5 2049 (0x00001FFF :: List.replicate 2048 0xA5A5A5A5); let data : List Word := 0x00001FFF :: List.replicate 2048 0xA5A5A5A5; let l : Load := load 2 5 2049 data; let h : Header := { hdr0 with blocks := 2 }; s.halted = false ∧ s.loadOn .mailbox = some l ∧ l.hdr = some h ∧ l.kind ≠ 3 ∧ l.ended = false ∧ l.blk < h.blocks) ∧
    (let s : State := ld 1 6 3 [BitVec.ofNat 32 (csrBase + R.LN_USR_PAT_LO 143), BitVec.ofNat 32 ((csrBase + R.LN_USR_PAT_LO 143) / 2 ^ 32), 77]; let a : Nat := csrBase + R.LN_USR_PAT_LO 143; let lo : Word := BitVec.ofNat 32 a; let hi : Word := BitVec.ofNat 32 (a / 2 ^ 32); let l : Load := load 1 6 3 [lo, hi, 77]; let h : Header := { hdr0 with blocks := 2 }; s.halted = false ∧ s.loadOn .mailbox = some l ∧ l.hdr = some h ∧ l.kind ≠ 3 ∧ l.ended = false ∧ l.blk < h.blocks ∧ csrOff (lo.toNat + 2 ^ 32 * (hi.toNat % 2 ^ 16)) = some (R.LN_USR_PAT_LO 143) ∧ (s.tripleFull (R.LN_USR_PAT_LO 143) 77).isSome ∧ s.front l = .packet 6 3 [lo, hi, 77] ∧ s.front { l with buf := l.buf.drop (4 + 4 * ([lo, hi, 77] : List Word).length) } ≠ .bad) := by decide +kernel
/-- PacketsExecuteOneByOne: inputs of its clauses, part 4. -/
theorem witness_PacketsExecuteOneByOne_4 :
    (let s : State := (ld 2 6 3 [BitVec.ofNat 32 (csrBase + R.LN_RATE 143), BitVec.ofNat 32 ((csrBase + R.LN_RATE 143) / 2 ^ 32), 0x0E]).setReg (R.CFG_BIND_QUAD_HI 31) 8; let a : Nat := csrBase + R.LN_RATE 143; let lo : Word := BitVec.ofNat 32 a; let hi : Word := BitVec.ofNat 32 (a / 2 ^ 32); let l : Load := load 2 6 3 [lo, hi, 0x0E]; let h : Header := { hdr0 with blocks := 2 }; s.halted = false ∧ s.loadOn .mailbox = some l ∧ l.hdr = some h ∧ l.kind ≠ 3 ∧ l.ended = false ∧ l.blk < h.blocks ∧ (s.triplePart l.region (R.LN_RATE 143) 0x0E).2 = true ∧ s.front l = .packet 6 3 [lo, hi, 0x0E] ∧ s.front { l with buf := l.buf.drop (4 + 4 * ([lo, hi, 0x0E] : List Word).length) } ≠ .bad) ∧
    (let s : State := ld 2 7 1 [0]; let l : Load := load 2 7 1 [0]; let h : Header := { hdr0 with blocks := 2 }; s.halted = false ∧ s.loadOn .mailbox = some l ∧ l.hdr = some h ∧ l.kind ≠ 3 ∧ l.ended = false ∧ l.blk < h.blocks ∧ l.frames = 0 ∧ (l.buf.drop 8).all (fun b => b == 0) = true ∧ s.front l = .packet 7 1 [0] ∧ s.front { l with buf := l.buf.drop (4 + 4 * ([0] : List Word).length) } ≠ .bad) ∧
    (let s : State := ld 2 7 1 [1]; let l : Load := load 2 7 1 [1]; let h : Header := { hdr0 with blocks := 2 }; s.halted = false ∧ s.loadOn .mailbox = some l ∧ l.hdr = some h ∧ l.kind ≠ 3 ∧ l.ended = false ∧ l.blk < h.blocks ∧ l.frames ≠ 1 ∧ s.front l = .packet 7 1 [1] ∧ s.front { l with buf := l.buf.drop (4 + 4 * ([1] : List Word).length) } ≠ .bad) := by decide +kernel
/-- ContainersAreCheckedAndFirmwareStarts: inputs of its clauses, part 1. -/
theorem witness_ContainersAreCheckedAndFirmwareStarts_1 :
    (let s : State := let u := region usr 31 31; { u with boot := { u.boot with loads := [{ Load.start .mailbox 2 31 with bytes := List.replicate 4096 0 }] } }; let hdr : List Byte := List.replicate 4096 0; let l : Load := { Load.start .mailbox 2 31 with bytes := List.replicate 4096 0 }; let h : Header := parseHeader hdr; s.halted = false ∧ s.loadOn .mailbox = some l ∧ l.hdr = none ∧ l.kind = 2 ∧ l.region < 32 ∧ s.rgnDefined l.region = true ∧ s.loadBytes l 0 4096 = some hdr ∧ s.identityCheck hdr = some 4) ∧
    (let s : State := let u := region usr 31 31; { u with boot := { u.boot with loads := [{ Load.start .mailbox 2 31 with bytes := (header 2).take 0x40 ++ List.replicate 0x1000 0 }] } }; let hdr : List Byte := (header 2).take 0x40 ++ List.replicate 0xFC0 0; let l : Load := { Load.start .mailbox 2 31 with bytes := (header 2).take 0x40 ++ List.replicate 0x1000 0 }; let h : Header := parseHeader hdr; s.halted = false ∧ s.loadOn .mailbox = some l ∧ l.hdr = none ∧ l.kind = 2 ∧ l.region < 32 ∧ s.rgnDefined l.region = true ∧ s.loadBytes l 0 4096 = some hdr ∧ s.identityCheck hdr = none ∧ h.structureOk l.len = false) ∧
    (let s : State := let u := region usr 31 31; { u with boot := { u.boot with loads := [{ Load.start .mailbox 2 31 with bytes := header 2 ++ List.replicate 0x1020 0 }] } }; let hdr : List Byte := header 2; let l : Load := { Load.start .mailbox 2 31 with bytes := header 2 ++ List.replicate 0x1020 0 }; let h : Header := parseHeader hdr; s.halted = false ∧ s.loadOn .mailbox = some l ∧ l.hdr = none ∧ l.kind = 2 ∧ l.region < 32 ∧ s.rgnDefined l.region = true ∧ s.loadBytes l 0 4096 = some hdr ∧ s.identityCheck hdr = none ∧ h.structureOk l.len = true ∧ s.tableBytes l h = some (List.replicate 32 0) ∧ s.loadBytes l 0x1000 2420 = some (List.replicate 2420 0) ∧ s.shadow l.region ≠ 3) ∧
    (let s : State := { usr with boot := { usr.boot with loads := [{ Load.start .mailbox 3 0 with bytes := header 3 ++ List.replicate 0x2100 0, hdr := some (parseHeader (header 3)) }] } }; let l : Load := { Load.start .mailbox 3 0 with bytes := header 3 ++ List.replicate 0x2100 0, hdr := some (parseHeader (header 3)) }; let h : Header := parseHeader (header 3); let st : List Byte := List.replicate 256 0; let dig : List Byte := List.replicate 32 0; s.halted = false ∧ s.loadOn .mailbox = some l ∧ l.hdr = some h ∧ l.blk < h.blocks ∧ s.loadBytes l (h.block l.blk).1 (h.block l.blk).2 = some st ∧ s.loadBytes l (h.digOff + 32 * l.blk) 32 = some dig ∧ (if h.encrypted then s.loadBytes l (h.tagOff + 16 * l.blk) 16 else some []) = some [] ∧ l.kind = 3) := by decide +kernel
/-- ContainersAreCheckedAndFirmwareStarts: inputs of its clauses, part 2. -/
theorem witness_ContainersAreCheckedAndFirmwareStarts_2 :
    (let s : State := { (region usr 31 31).setShadow 31 1 with boot := { usr.boot with loads := [{ Load.start .mailbox 2 31 with bytes := header 2 ++ List.replicate 0x2100 0, hdr := some { parseHeader (header 2) with blocks := 2 } }] } }; let l : Load := { Load.start .mailbox 2 31 with bytes := header 2 ++ List.replicate 0x2100 0, hdr := some { parseHeader (header 2) with blocks := 2 } }; let h : Header := { parseHeader (header 2) with blocks := 2 }; let st : List Byte := List.replicate 256 0; let dig : List Byte := List.replicate 32 0; s.halted = false ∧ s.loadOn .mailbox = some l ∧ l.hdr = some h ∧ l.blk < h.blocks ∧ s.loadBytes l (h.block l.blk).1 (h.block l.blk).2 = some st ∧ s.loadBytes l (h.digOff + 32 * l.blk) 32 = some dig ∧ (if h.encrypted then s.loadBytes l (h.tagOff + 16 * l.blk) 16 else some []) = some [] ∧ l.kind = 2 ∧ l.ended = false ∧ s.front l = .missing ∧ l.region < 32 ∧ s.rgnDefined l.region = true) ∧
    (let s : State := { usr with boot := { usr.boot with fw := false, loads := [{ Load.start .flash 3 0 with hdr := some { hdr0 with kind := 3, blocks := 1 }, blk := 1, buf := List.replicate 256 1 }] } }; let l : Load := { Load.start .flash 3 0 with hdr := some { hdr0 with kind := 3, blocks := 1 }, blk := 1, buf := List.replicate 256 1 }; let h : Header := { hdr0 with kind := 3, blocks := 1 }; s.halted = false ∧ s.loadOn .flash = some l ∧ l.hdr = some h ∧ l.kind = 3 ∧ h.blocks ≤ l.blk) ∧
    (let s : State := usr; s.loadOn .mailbox = none) ∧
    (let s : State := usr; s.loadOn .hold = none) ∧
    (let s : State := usr; s.loadOn .rom = none) := by decide +kernel
/-- ContainersAreCheckedAndFirmwareStarts: inputs of its clauses, part 3. -/
theorem witness_ContainersAreCheckedAndFirmwareStarts_3 :
    (let s : State := usr; s.loadOn .jtag = none) ∧
    (let s : State := ld 2 7 1 [1]; let l : Load := load 2 7 1 [1]; s.loadOn .mailbox = some l ∧ s.front l = .packet 7 1 [1]) ∧
    (let s : State := ld 2 7 1 [0]; let l : Load := load 2 7 1 [0]; s.loadOn .mailbox = some l ∧ s.front l = .packet 7 1 [0]) ∧
    (let s : State := let a : Nat := padBase + 8 * padShared; let u := ((((region usr 31 31).setReg (R.NOC_STAT 27) 0x3FFF |>.setReg (R.NOC_STAT 28) 0x3FFF).setFlag R.CFG_HLD_CTRL F.CFG_HLD_CTRL_BUSY true).setFlag (R.NI_CTRL 0x69) F.NI_CTRL_EN true).setFlag (R.NI_CTRL 0x6A) F.NI_CTRL_EN true; let w := { u with boot := { u.boot with hold := some ⟨31, 0⟩, loads := [{ Load.start .hold 2 31 with addr := a, len := some 8 }] } }; (w.padWriteBytes true (8 * padShared) (packet 7 1 [0])); let l : Load := { Load.start .hold 2 31 with addr := padBase + 8 * padShared, len := some 8 }; s.halted = false ∧ s.boot.inReset = false ∧ s.boot.hold = some ⟨31, 0⟩ ∧ s.loadOn .hold = some l ∧ l.kind = 2 ∧ l.ended = false ∧ s.front l = .packet 7 1 [0] ∧ s.loadNotice l 0 8 = s ∧ s.reg R.SYS_PD_REQ = 0 ∧ s.reg R.SYS_PD_STAT = 0 ∧ s.reg R.SYS_PD_BUSY = 0 ∧ s.ic.asleep = false) := by decide +kernel
/-- PortsCarryMessages: inputs of its clauses, part 1. -/
theorem witness_PortsCarryMessages_1 :
    (let s : State := (box 0 { Mbx.empty with rsps := [[1, 2, 3, 4, 5]], reqs := [[1]] }).setFlag (R.MBX_STAT 0) F.MBX_STAT_DROPPED true; s.portsOn = true) ∧
    (let s : State := box 0 { Mbx.empty with rsps := [[1, 2, 3], [9]], reqs := [msg 1 0 []] }; s.portsOn = true ∧ (s.mb 0).rsps = [[1, 2, 3], [9]] ∧ (∀ q ∈ (s.mb 0).reqs, msgFormed q = true)) ∧
    (let s : State := box 0 { Mbx.empty with rsps := [[1, 2, 3], [9]] }; (∀ q ∈ (s.mb 0).reqs, msgFormed q = true) ∧ s.portsOn = true ∧ (s.mb 0).rsps = [[1, 2, 3], [9]]) ∧
    (let s : State := usr; s.portsOn = true ∧ (s.mb 0).rsps = []) ∧
    (let s : State := box 0 { Mbx.empty with reqs := [msg 1 0 [], msg 1 0 []] }; s.portsOn = true ∧ (s.mb 0).reqs.length ≥ 2) := by decide +kernel
/-- PortsCarryMessages: inputs of its clauses, part 2. -/
theorem witness_PortsCarryMessages_2 :
    (let s : State := box 0 { Mbx.empty with reqs := [msg 1 0 []] }; (s.mb 0).reqs.length < 2 ∧ s.portsOn = true ∧ (∀ q ∈ (s.mb 0).reqs ++ [msg 1 0 (List.replicate 4080 7)], msgFormed q = true) ∧ (msg 1 0 (List.replicate 4080 7)).length ≤ 4096) ∧
    (let s : State := usr; s.portsOn = true ∧ (s.mb 0).reqs = [] ∧ (s.mb 0).cur = none ∧ (s.mb 0).rsps.length < 2 ∧ msgFormed [1, 2, 3] = false) ∧
    (let s : State := State.reset; s.portsOn = false) ∧
    (let s : State := box 1 { Mbx.empty with reqs := [msg 1 0 [], msg 1 0 []] }; s.portsOn = true ∧ ([1] : List (BitVec 8)) ≠ [] ∧ ([1] : List (BitVec 8)).length ≤ 255 ∧ (s.mb 1).reqs.length ≥ 2) ∧
    (let s : State := box 1 { Mbx.empty with asm := some (List.replicate 4096 7) }; s.portsOn = true ∧ ([1] : List (BitVec 8)) ≠ [] ∧ ([1] : List (BitVec 8)).length ≤ 255 ∧ (s.mb 1).reqs.length < 2 ∧ 4096 < ((s.mb 1).asm.getD []).length + 1) := by decide +kernel
/-- PortsCarryMessages: inputs of its clauses, part 3. -/
theorem witness_PortsCarryMessages_3 :
    (let s : State := usr; s.portsOn = true ∧ ([1] : List (BitVec 8)) ≠ [] ∧ ([1] : List (BitVec 8)).length ≤ 255 ∧ (s.mb 1).reqs.length < 2 ∧ ((s.mb 1).asm.getD []).length + 1 ≤ 4096 ∧ (7#8).toNat ≠ s.pecWrite 0x10 [1]) ∧
    (let s : State := box 1 { Mbx.empty with asm := some [9], nack := true }; let c : BitVec 8 := BitVec.ofNat 8 (s.pecWrite 0x10 [1]); s.portsOn = true ∧ ([1] : List (BitVec 8)) ≠ [] ∧ ([1] : List (BitVec 8)).length ≤ 255 ∧ (s.mb 1).reqs.length < 2 ∧ ((s.mb 1).asm.getD []).length + 1 ≤ 4096 ∧ c.toNat = s.pecWrite 0x10 [1]) ∧
    (let s : State := box 1 { Mbx.empty with asm := some (List.replicate 3841 7) }; (s.mb 1).reqs.length < 2 ∧ s.portsOn = true ∧ (List.replicate 255 8 : List (BitVec 8)) ≠ [] ∧ (List.replicate 255 8 : List (BitVec 8)).length ≤ 255 ∧ ((s.mb 1).asm.getD []).length + 255 ≤ 4096) ∧
    (let s : State := box 1 { Mbx.empty with asm := some (msg 1 0 []), reqs := [msg 2 0 []] }; (s.mb 1).reqs.length < 2 ∧ (msg 1 0 []).length ≤ 4096 ∧ s.portsOn = true ∧ (s.mb 1).asm = some (msg 1 0 []) ∧ (∀ q ∈ (s.mb 1).reqs ++ [msg 1 0 []], msgFormed q = true)) ∧
    (let s : State := usr; s.portsOn = true ∧ (s.mb 1).asm = none) := by decide +kernel
/-- PortsCarryMessages: inputs of its clauses, part 4. -/
theorem witness_PortsCarryMessages_4 :
    (let s : State := box 1 { Mbx.empty with asm := some [1] }; s.portsOn = true) ∧
    (let s : State := usr.setFlag (R.MBX_STAT 1) F.MBX_STAT_PEC_ERR true; s.portsOn = true) ∧
    (let s : State := box 1 { Mbx.empty with rsps := [[1, 2, 3]], rp := 2 }; s.portsOn = true) ∧
    (let s : State := box 1 { Mbx.empty with rsps := [List.replicate 300 7], rp := 10 }; (∀ q ∈ (s.mb 1).reqs, msgFormed q = true) ∧ s.portsOn = true ∧ (s.mb 1).rsps = [List.replicate 300 7]) ∧
    (let s : State := box 1 { Mbx.empty with rsps := [List.replicate 300 7, [1]], rp := 290 }; (s.mb 1).rsps = [List.replicate 300 7, [1]] ∧ s.portsOn = true ∧ (∀ q ∈ (s.mb 1).reqs, msgFormed q = true)) := by decide +kernel
/-- PortsCarryMessages: inputs of its clauses, part 5. -/
theorem witness_PortsCarryMessages_5 :
    (let s : State := { usr with tap := { usr.tap with ir := 0x10 } }; ((s.mb 2).asm.getD []).length + 4 ≤ 4096 ∧ s.tap.ir = 0x10 ∧ s.portsOn = true ∧ (s.mb 2).reqs.length < 2) ∧
    (let s : State := let u := box 2 { Mbx.empty with reqs := [msg 1 0 [], msg 1 0 []], asm := some [1] }; { u with tap := { u.tap with ir := 0x10 } }; s.portsOn = true ∧ s.tap.ir = 0x10 ∧ (s.mb 2).reqs.length ≥ 2) ∧
    (let s : State := let u := box 2 { Mbx.empty with asm := some (msg 1 0 []) }; { u with tap := { u.tap with ir := 0x10 } }; let q : List Byte := msg 1 0 []; s.portsOn = true ∧ s.tap.ir = 0x10 ∧ (s.mb 2).reqs.length < 2 ∧ q.length ≤ 4096 ∧ (s.mb 2).asm = some q ∧ q.length = 16 + msgLen q ∧ (∀ x ∈ (s.mb 2).reqs ++ [q], msgFormed x = true)) ∧
    (let s : State := let u := box 2 { Mbx.empty with rsps := [[1, 2, 3, 4, 5], [9]], rp := 0 }; { u with tap := { u.tap with ir := 0x10 } }; s.portsOn = true ∧ s.tap.ir = 0x10 ∧ (∀ q ∈ (s.mb 2).reqs, msgFormed q = true) ∧ (s.mb 2).rsps = [[1, 2, 3, 4, 5], [9]]) ∧
    (let s : State := let u := box 2 { Mbx.empty with rsps := [[1, 2, 3, 4, 5], [9]], rp := 4 }; { u with tap := { u.tap with ir := 0x10 } }; s.portsOn = true ∧ s.tap.ir = 0x10 ∧ (s.mb 2).rsps = [[1, 2, 3, 4, 5], [9]] ∧ (∀ q ∈ (s.mb 2).reqs, msgFormed q = true)) := by decide +kernel
/-- PortsCarryMessages: inputs of its clauses, part 6. -/
theorem witness_PortsCarryMessages_6 :
    (let s : State := { usr with tap := { usr.tap with ir := 0x10 } }; s.portsOn = true ∧ s.tap.ir = 0x10 ∧ (s.mb 2).rsps = []) ∧
    (let s : State := usr; s.tap.ir ≠ 0x10) ∧
    (let s : State := box 1 { Mbx.empty with rsps := [List.replicate 300 7, [1]], rp := 290 }; s.portsOn = true ∧ (s.mb 1).rsps = [List.replicate 300 7, [1]] ∧ (∀ q ∈ (s.mb 1).reqs, msgFormed q = true)) ∧
    (let s : State := usr; s.portsOn = true ∧ (s.mb 1).rsps = []) ∧
    (let s : State := { usr with tap := { usr.tap with ir := 0x10 } }; s.portsOn = true ∧ s.tap.ir = 0x10 ∧ (s.mb 2).asm = none) := by decide +kernel
/-- MailboxesServeTheirOwners: inputs of its clauses, part 1. -/
theorem witness_MailboxesServeTheirOwners_1 :
    (let s : State := boxOf 6 { Mbx.empty with asm := some (msg 1 0 [7] ++ [0, 0, 0]) }; let q : List Byte := msg 1 0 [7] ++ [0, 0, 0]; let v : Word := 0x80000000; (s.mb 6).reqs.length < 2 ∧ (∀ q ∈ (s.mb 6).reqs, msgFormed q = true) ∧ mayW s 0x68 (R.MBX_CTRL 6) ∧ v.getLsbD 29 = false ∧ v.getLsbD 30 = false ∧ (s.mb 6).asm = some q ∧ q.length = (16 + msgLen q + 3) / 4 * 4 ∧ (q.drop (16 + msgLen q)).all (fun b => b == 0) = true ∧ msgFormed (q.take (16 + msgLen q)) = true) ∧
    (let s : State := boxOf 6 Mbx.empty; mayW s 0x68 (R.MBX_CTRL 6) ∧ (∀ q ∈ (s.mb 6).reqs, msgFormed q = true) ∧ (s.mb 6).asm = none) ∧
    (let s : State := boxOf 6 { Mbx.empty with asm := some (msg 1 0 [7] ++ [0, 0, 0]) }; mayW s 0x68 (R.MBX_CTRL 6) ∧ (∀ q ∈ (s.mb 6).reqs, msgFormed q = true)) ∧
    (let s : State := boxOf 6 { Mbx.empty with rsps := [[1], [2]], rp := 4 }; mayW s 0x68 (R.MBX_CTRL 6) ∧ (∀ q ∈ (s.mb 6).reqs, msgFormed q = true)) ∧
    (let s : State := boxOf 6 { Mbx.empty with asm := some (List.replicate 4092 1) }; (s.mb 6).reqs.length < 2 ∧ mayW s 0x68 (R.MBX_WDATA 6) ∧ ((s.mb 6).asm.getD []).length + 4 ≤ 4096) := by decide +kernel
/-- MailboxesServeTheirOwners: inputs of its clauses, part 2. -/
theorem witness_MailboxesServeTheirOwners_2 :
    (let s : State := boxOf 6 { Mbx.empty with asm := some (List.replicate 4096 1) }; mayW s 0x68 (R.MBX_WDATA 6) ∧ 4096 < ((s.mb 6).asm.getD []).length + 4) ∧
    (let s : State := boxOf 6 { Mbx.empty with rsps := [[1, 2, 3, 4, 5], [9]], rp := 4 }; (∀ q ∈ (s.mb 6).reqs, msgFormed q = true) ∧ mayR s 0x68 (R.MBX_RDATA 6) ∧ (s.mb 6).rsps = [[1, 2, 3, 4, 5], [9]]) ∧
    (let s : State := boxOf 6 Mbx.empty; mayR s 0x68 (R.MBX_RDATA 6) ∧ (s.mb 6).rsps = [] ∧ (∀ q ∈ (s.mb 6).reqs, msgFormed q = true)) ∧
    (let s : State := boxOf 6 { Mbx.empty with rsps := [[1, 2, 3, 4, 5], [9]], rp := 0 }; mayR s 0x6B (R.MBX_RDATA 6)) ∧
    (let s : State := boxOf 6 { Mbx.empty with asm := some [1] }; s.reaches 0x69 (R.MBX_CTRL 6) = true ∧ s.mbxOwned 0x69 6 = false) := by decide +kernel
/-- MailboxesServeTheirOwners: inputs of its clauses, part 3. -/
theorem witness_MailboxesServeTheirOwners_3 :
    (let s : State := usr; s.reaches 0x68 (R.MBX_CTRL 0) = true ∧ s.mbxOwned 0x68 0 = false) ∧
    (let s : State := box 6 { Mbx.empty with reqs := [msg 1 0 []] }; let q : List Byte := msg 1 0 []; s.coreRuns = true ∧ s.boot.fw = true ∧ (s.mb 6).reqs = [q] ∧ (s.mb 6).cur = none ∧ (s.mb 6).rsps.length < 2 ∧ (match s.checkRequest 6 q with | .ok v => v | .error _ => 0) = 0x302 ∧ (∀ x ∈ (s.mb 6).reqs, msgFormed x = true)) ∧
    (let s : State := box 6 { Mbx.empty with reqs := [msg 0x7777 0 []] }; let q : List Byte := msg 0x7777 0 []; s.coreRuns = true ∧ (s.mb 6).cur = none ∧ (s.mb 6).rsps.length < 2 ∧ (∀ x ∈ (s.mb 6).reqs, msgFormed x = true) ∧ s.boot.fw = true ∧ (s.mb 6).reqs = [q] ∧ (match s.checkRequest 6 q with | .ok _ => (0, 0, 0) | .error e => e) = (1, 0, 0x302)) ∧
    (let s : State := let u := box 6 { Mbx.empty with reqs := [msg 0x0102 0 []] }; { u with boot := { u.boot with fw := false } }; s.coreRuns = true ∧ (s.mb 6).cur = none ∧ (s.mb 6).rsps.length < 2 ∧ (∀ x ∈ (s.mb 6).reqs, msgFormed x = true) ∧ (s.mb 6).reqs = [msg 0x0102 0 []] ∧ s.boot.fw = false ∧ msgCmd (msg 0x0102 0 []) = 0x0102) ∧
    (let s : State := let u := box 6 { Mbx.empty with reqs := [msg 0x0001 0 []] }; { u with boot := { u.boot with fw := false } }; s.coreRuns = true ∧ (s.mb 6).cur = none ∧ (s.mb 6).rsps.length < 2 ∧ (∀ x ∈ (s.mb 6).reqs, msgFormed x = true) ∧ (s.mb 6).reqs = [msg 0x0001 0 []] ∧ s.boot.fw = false ∧ msgCmd (msg 0x0001 0 []) ≠ 0x0100 ∧ msgCmd (msg 0x0001 0 []) ≠ 0x0102) := by decide +kernel
/-- MailboxesServeTheirOwners: inputs of its clauses, part 4. -/
theorem witness_MailboxesServeTheirOwners_4 :
    (let s : State := box 6 { Mbx.empty with reqs := [msg 1 0 []], cur := some [1] }; (s.mb 6).reqs = [msg 1 0 []] ∧ (s.mb 6).cur ≠ none) ∧
    (let s : State := usr; let q : List Byte := leBytes 4 0x55 ++ leBytes 4 0x400 ++ leBytes 4 0 ++ leBytes 4 0; 3 < msgMaj q) ∧
    (let s : State := usr; let q : List Byte := msg 1 9 []; versionFor (msgMaj q) (msgMin q) = some 0x302 ∧ msgSession q ≠ 0 ∧ s.session (msgSession q) = none) ∧
    (let s : State := usr; let q : List Byte := msg 0x7777 0 []; versionFor (msgMaj q) (msgMin q) = some 0x302 ∧ msgSession q = 0 ∧ cmdRow (msgCmd q) = none) ∧
    (let s : State := usr; let q : List Byte := msg 0x704 0 []; versionFor (msgMaj q) (msgMin q) = some 0x302 ∧ msgSession q = 0 ∧ cmdRow (msgCmd q) = some ⟨0x0704, 2, 0x302, 12⟩ ∧ 0 < rankOf ⟨0x0704, 2, 0x302, 12⟩ q) := by decide +kernel
/-- SessionsOpenAndClose: inputs of its clauses, part 1. -/
theorem witness_SessionsOpenAndClose_1 :
    (let s : State := work 1 0 []; let q : List Byte := msg 1 0 []; s.coreRuns = true ∧ (s.mb 6).cur = some q ∧ msgCmd q = 1 ∧ (∀ x ∈ (s.mb 6).reqs, msgFormed x = true) ∧ s.fwHeld 6 q = false) ∧
    (let s : State := work 2 0 (pl [0x700] ++ List.replicate 36 0); let q : List Byte := msg 2 0 (pl [0x700] ++ List.replicate 36 0); s.coreRuns = true ∧ (s.mb 6).cur = some q ∧ msgCmd q = 2 ∧ (∀ x ∈ (s.mb 6).reqs, msgFormed x = true) ∧ s.fwHeld 6 q = false ∧ s.mayOpen 6 (msgWord q 0 % 4) (msgWord q 0 / 256 % 8) (msgWord q 0 / 2 ^ 16 % 4) = false) ∧
    (let s : State := let u := work 2 0 (pl [0x30702] ++ List.replicate 36 0); { u with fuses := { u.fuses with lc := 0 }, fw := { u.fw with sessions := List.replicate 16 (ses true) } }; let q : List Byte := msg 2 0 (pl [0x30702] ++ List.replicate 36 0); s.coreRuns = true ∧ (s.mb 6).cur = some q ∧ msgCmd q = 2 ∧ (∀ x ∈ (s.mb 6).reqs, msgFormed x = true) ∧ s.fwHeld 6 q = false ∧ s.mayOpen 6 (msgWord q 0 % 4) (msgWord q 0 / 256 % 8) (msgWord q 0 / 2 ^ 16 % 4) = true ∧ 16 ≤ s.fw.sessions.length) ∧
    (let s : State := let u := work 2 0 (pl [0x30702, 3600] ++ List.replicate 32 9); { u with fw := { u.fw with sessions := List.replicate 15 (ses true) } }; let q : List Byte := msg 2 0 (pl [0x30702, 3600] ++ List.replicate 32 9); s.coreRuns = true ∧ (s.mb 6).cur = some q ∧ msgCmd q = 2 ∧ (∀ x ∈ (s.mb 6).reqs, msgFormed x = true) ∧ s.fwHeld 6 q = false ∧ s.mayOpen 6 (msgWord q 0 % 4) (msgWord q 0 / 256 % 8) (msgWord q 0 / 2 ^ 16 % 4) = true ∧ s.fw.sessions.length < 16) ∧
    (let s : State := workIn 3 (List.replicate 32 0) false; let q : List Byte := msg 3 5 (List.replicate 32 0); s.coreRuns = true ∧ (s.mb 6).cur = some q ∧ msgCmd q = 3 ∧ (∀ x ∈ (s.mb 6).reqs, msgFormed x = true) ∧ s.fwHeld 6 q = false ∧ s.session (msgSession q) = some (ses false)) := by decide +kernel
/-- SessionsOpenAndClose: inputs of its clauses, part 2. -/
theorem witness_SessionsOpenAndClose_2 :
    (let s : State := let u := workIn 3 (List.replicate 32 1) false; { u with fw := { u.fw with fails := [(6, 3)] } }; let q : List Byte := msg 3 5 (List.replicate 32 1); s.coreRuns = true ∧ (s.mb 6).cur = some q ∧ msgCmd q = 3 ∧ (∀ x ∈ (s.mb 6).reqs, msgFormed x = true) ∧ s.fwHeld 6 q = false ∧ s.session (msgSession q) = some (ses false)) ∧
    (let s : State := workIn 3 (List.replicate 32 1) false; let q : List Byte := msg 3 5 (List.replicate 32 1); s.coreRuns = true ∧ (s.mb 6).cur = some q ∧ msgCmd q = 3 ∧ (∀ x ∈ (s.mb 6).reqs, msgFormed x = true) ∧ s.fwHeld 6 q = false ∧ silent s (506) ∧ s.session 5 = some (ses false) ∧ s.failsOf 6 < 3 ∧ s.session (msgSession q) = some (ses false)) ∧
    (let s : State := workIn 3 (List.replicate 32 0) true; let q : List Byte := msg 3 5 (List.replicate 32 0); s.coreRuns = true ∧ (s.mb 6).cur = some q ∧ msgCmd q = 3 ∧ (∀ x ∈ (s.mb 6).reqs, msgFormed x = true) ∧ s.fwHeld 6 q = false ∧ s.session 5 = some (ses true)) ∧
    (let s : State := workIn 4 [] true; let q : List Byte := msg 4 5 []; s.coreRuns = true ∧ (s.mb 6).cur = some q ∧ msgCmd q = 4 ∧ (∀ x ∈ (s.mb 6).reqs, msgFormed x = true) ∧ s.fwHeld 6 q = false) ∧
    (let s : State := workIn 5 [] true; let q : List Byte := msg 5 5 []; s.coreRuns = true ∧ (s.mb 6).cur = some q ∧ msgCmd q = 5 ∧ (∀ x ∈ (s.mb 6).reqs, msgFormed x = true) ∧ s.fwHeld 6 q = false) := by decide +kernel
/-- SessionsOpenAndClose: inputs of its clauses, part 3. -/
theorem witness_SessionsOpenAndClose_3 :
    (let s : State := workIn 5 [] false; s.session 5 = some (ses false) ∧ s.coreRuns = true) ∧
    (let s : State := workIn 5 [] true; s.session 5 = some (ses true) ∧ s.coreRuns = true) ∧
    (let s : State := let u := workIn 5 [] true; { u with fw := { u.fw with locked := [5, 6] } }; s.coreRuns = true) ∧
    (let s : State := workIn 3 (List.replicate 32 0) true; let q : List Byte := msg 3 5 (List.replicate 32 0); s.coreRuns = true ∧ (s.mb 6).cur = some q ∧ msgCmd q = 3 ∧ (∀ x ∈ (s.mb 6).reqs, msgFormed x = true) ∧ s.fwHeld 6 q = false ∧ s.session (msgSession q) = some (ses true) ∧ (ses true).isOpen = true) ∧
    (let s : State := workIn 5 [] false; s.session 9 = none) := by decide +kernel
/-- IdentityKeysAndLifeCycle: inputs of its clauses, part 1. -/
theorem witness_IdentityKeysAndLifeCycle_1 :
    (let s : State := let u := work 0x100 0 []; { u with boot := { u.boot with fw := false } }; let q : List Byte := msg 0x100 0 []; s.coreRuns = true ∧ (s.mb 6).cur = some q ∧ msgCmd q = 0x100 ∧ (∀ x ∈ (s.mb 6).reqs, msgFormed x = true) ∧ s.fwHeld 6 q = false ∧ s.boot.fw = false) ∧
    (let s : State := let u := work 0x100 0 []; { u with sec := { u.sec with attest := some 7 } }; let q : List Byte := msg 0x100 0 []; s.coreRuns = true ∧ (s.mb 6).cur = some q ∧ msgCmd q = 0x100 ∧ (∀ x ∈ (s.mb 6).reqs, msgFormed x = true) ∧ s.fwHeld 6 q = false ∧ s.boot.fw = true ∧ s.sec.attest = some 7) ∧
    (let s : State := workIn 0x101 (List.replicate 36 0) true; let q : List Byte := msg 0x101 5 (List.replicate 36 0); s.coreRuns = true ∧ (s.mb 6).cur = some q ∧ msgCmd q = 0x101 ∧ (∀ x ∈ (s.mb 6).reqs, msgFormed x = true) ∧ s.fwHeld 6 q = false ∧ s.sec.attest = none) ∧
    (let s : State := let u := (region (workIn 0x101 (List.replicate 32 3 ++ [255, 255, 255, 255]) true) 31 31); { u with sec := { u.sec with attest := some 7 } }; let q : List Byte := msg 0x101 5 (List.replicate 32 3 ++ [255, 255, 255, 255]); s.coreRuns = true ∧ (s.mb 6).cur = some q ∧ msgCmd q = 0x101 ∧ (∀ x ∈ (s.mb 6).reqs, msgFormed x = true) ∧ s.fwHeld 6 q = false ∧ s.sec.attest = some 7) ∧
    (let s : State := work 0x102 0 []; let q : List Byte := msg 0x102 0 []; s.coreRuns = true ∧ (s.mb 6).cur = some q ∧ msgCmd q = 0x102 ∧ (∀ x ∈ (s.mb 6).reqs, msgFormed x = true) ∧ s.fwHeld 6 q = false) := by decide +kernel
/-- IdentityKeysAndLifeCycle: inputs of its clauses, part 2. -/
theorem witness_IdentityKeysAndLifeCycle_2 :
    (let s : State := workIn 0x800 [] true; let q : List Byte := msg 0x800 5 []; s.coreRuns = true ∧ (s.mb 6).cur = some q ∧ msgCmd q = 0x800 ∧ (∀ x ∈ (s.mb 6).reqs, msgFormed x = true) ∧ s.fwHeld 6 q = false) ∧
    (let s : State := let u := workIn 0x801 (pl [1]) true; { u with sec := { u.sec with prog := some ⟨0, 1, 0, none⟩ } }; let q : List Byte := msg 0x801 5 (pl [1]); s.coreRuns = true ∧ (s.mb 6).cur = some q ∧ msgCmd q = 0x801 ∧ (∀ x ∈ (s.mb 6).reqs, msgFormed x = true) ∧ s.fwHeld 6 q = false ∧ s.sec.prog ≠ none) ∧
    (let s : State := workIn 0x801 (pl [2]) true; let q : List Byte := msg 0x801 5 (pl [2]); s.coreRuns = true ∧ (s.mb 6).cur = some q ∧ msgCmd q = 0x801 ∧ (∀ x ∈ (s.mb 6).reqs, msgFormed x = true) ∧ s.fwHeld 6 q = false ∧ s.sec.prog = none ∧ msgWord q 0 ≠ s.lc + 1) ∧
    (let s : State := let u := (workIn 0x801 (pl [1]) true).setFlag R.SYS_SUPPLY F.SYS_SUPPLY_FUSE true; { u with fuses := { u.fuses with okeyP := 1, okey := [(0, 5)] } }; let q : List Byte := msg 0x801 5 (pl [1]); s.coreRuns = true ∧ (s.mb 6).cur = some q ∧ msgCmd q = 0x801 ∧ (∀ x ∈ (s.mb 6).reqs, msgFormed x = true) ∧ s.fwHeld 6 q = false ∧ s.sec.prog = none ∧ msgWord q 0 = s.lc + 1 ∧ s.mayAdvance = true ∧ s.flag R.SYS_SUPPLY F.SYS_SUPPLY_FUSE = true) ∧
    (let s : State := (workIn 0x802 (pl [0x20701] ++ List.replicate 32 3) true).setFlag R.SYS_SUPPLY F.SYS_SUPPLY_FUSE true; let q : List Byte := msg 0x802 5 (pl [0x20701] ++ List.replicate 32 3); s.coreRuns = true ∧ (s.mb 6).cur = some q ∧ msgCmd q = 0x802 ∧ (∀ x ∈ (s.mb 6).reqs, msgFormed x = true) ∧ s.fwHeld 6 q = false ∧ (s.mb 6).step = 0 ∧ s.sec.prog = none ∧ s.kindAllowed 1 = true ∧ s.keyProgrammed 1 7 = false ∧ fuseWidth (keyField 1 7) ≠ 0 ∧ s.flag R.SYS_SUPPLY F.SYS_SUPPLY_FUSE = true) := by decide +kernel
/-- IdentityKeysAndLifeCycle: inputs of its clauses, part 3. -/
theorem witness_IdentityKeysAndLifeCycle_3 :
    (let s : State := let u := (workIn 0x802 (pl [0x20701] ++ List.replicate 32 3) true).setFlag R.SYS_SUPPLY F.SYS_SUPPLY_FUSE true; { u with fuses := { u.fuses with skeyP := 128, skey := [(7, 5)] } }; let q : List Byte := msg 0x802 5 (pl [0x20701] ++ List.replicate 32 3); s.coreRuns = true ∧ (s.mb 6).cur = some q ∧ msgCmd q = 0x802 ∧ (∀ x ∈ (s.mb 6).reqs, msgFormed x = true) ∧ s.fwHeld 6 q = false ∧ s.keyProgrammed 1 7 = true ∧ (s.mb 6).step = 0 ∧ s.sec.prog = none) ∧
    (let s : State := (workIn 0x803 (pl [0x701]) true).setFlag R.SYS_SUPPLY F.SYS_SUPPLY_FUSE true; let q : List Byte := msg 0x803 5 (pl [0x701]); s.coreRuns = true ∧ (s.mb 6).cur = some q ∧ msgCmd q = 0x803 ∧ (∀ x ∈ (s.mb 6).reqs, msgFormed x = true) ∧ s.fwHeld 6 q = false ∧ (s.mb 6).step = 0 ∧ s.sec.prog = none ∧ s.flag R.SYS_SUPPLY F.SYS_SUPPLY_FUSE = true ∧ s.fuses.srev.testBit 7 = false) ∧
    (let s : State := let u := (workIn 0x803 (pl [0x701]) true).setFlag R.SYS_SUPPLY F.SYS_SUPPLY_FUSE true; { u with fuses := { u.fuses with srev := 128 } }; let q : List Byte := msg 0x803 5 (pl [0x701]); s.coreRuns = true ∧ (s.mb 6).cur = some q ∧ msgCmd q = 0x803 ∧ (∀ x ∈ (s.mb 6).reqs, msgFormed x = true) ∧ s.fwHeld 6 q = false ∧ s.fuses.srev.testBit 7 = true ∧ (s.mb 6).step = 0 ∧ s.sec.prog = none ∧ s.flag R.SYS_SUPPLY F.SYS_SUPPLY_FUSE = true) ∧
    (let s : State := (workIn 0x803 (pl [0x300]) true).setFlag R.SYS_SUPPLY F.SYS_SUPPLY_FUSE true; let q : List Byte := msg 0x803 5 (pl [0x300]); s.coreRuns = true ∧ (s.mb 6).cur = some q ∧ msgCmd q = 0x803 ∧ (∀ x ∈ (s.mb 6).reqs, msgFormed x = true) ∧ s.fwHeld 6 q = false ∧ s.fuses.orev.testBit 3 = false ∧ s.lc ≠ 2 ∧ (s.mb 6).step = 0 ∧ s.sec.prog = none ∧ s.flag R.SYS_SUPPLY F.SYS_SUPPLY_FUSE = true) := by decide +kernel
/-- IdentityKeysAndLifeCycle: inputs of its clauses, part 4. -/
theorem witness_IdentityKeysAndLifeCycle_4 :
    (let s : State := let u := (workIn 0x803 (pl [0x300]) true).setFlag R.SYS_SUPPLY F.SYS_SUPPLY_FUSE true; { u with fuses := { u.fuses with lc := 3, okeyP := 0xC, okey := [(2, 5), (3, 5)], orev := 4 } }; let q : List Byte := msg 0x803 5 (pl [0x300]); s.coreRuns = true ∧ (s.mb 6).cur = some q ∧ msgCmd q = 0x803 ∧ (∀ x ∈ (s.mb 6).reqs, msgFormed x = true) ∧ s.fwHeld 6 q = false ∧ s.lc = 2 ∧ s.fuses.okeyP.testBit 3 = true ∧ (∀ n ∈ List.range 4, n ≠ 3 → s.fuses.okeyP.testBit n = true → s.fuses.orev.testBit n = true) ∧ (s.mb 6).step = 0 ∧ s.sec.prog = none ∧ s.flag R.SYS_SUPPLY F.SYS_SUPPLY_FUSE = true) ∧
    (let s : State := let u := workIn 0x804 [] true; { u with fuses := { u.fuses with lc := 3 } }; let q : List Byte := msg 0x804 5 []; s.coreRuns = true ∧ (s.mb 6).cur = some q ∧ msgCmd q = 0x804 ∧ (∀ x ∈ (s.mb 6).reqs, msgFormed x = true) ∧ s.fwHeld 6 q = false ∧ s.lc = 2) ∧
    (let s : State := workIn 0x804 [] true; let q : List Byte := msg 0x804 5 []; s.coreRuns = true ∧ (s.mb 6).cur = some q ∧ msgCmd q = 0x804 ∧ (∀ x ∈ (s.mb 6).reqs, msgFormed x = true) ∧ s.fwHeld 6 q = false ∧ s.lc ≠ 2) ∧
    (let s : State := (workIn 0x803 (pl [0x102]) true).setFlag R.SYS_SUPPLY F.SYS_SUPPLY_FUSE true; let q : List Byte := msg 0x803 5 (pl [0x102]); s.coreRuns = true ∧ (s.mb 6).cur = some q ∧ msgCmd q = 0x803 ∧ (∀ x ∈ (s.mb 6).reqs, msgFormed x = true) ∧ s.fwHeld 6 q = false ∧ (s.mb 6).step = 0 ∧ s.sec.prog = none ∧ s.flag R.SYS_SUPPLY F.SYS_SUPPLY_FUSE = true ∧ s.fuses.vrev.testBit 1 = false) := by decide +kernel
/-- IdentityKeysAndLifeCycle: inputs of its clauses, part 5. -/
theorem witness_IdentityKeysAndLifeCycle_5 :
    (let s : State := let u := (workIn 0x803 (pl [0x300]) true).setFlag R.SYS_SUPPLY F.SYS_SUPPLY_FUSE true; { u with fuses := { u.fuses with lc := 3, okeyP := 0xC, okey := [(2, 5), (3, 5)], orev := 0 } }; let q : List Byte := msg 0x803 5 (pl [0x300]); s.coreRuns = true ∧ (s.mb 6).cur = some q ∧ msgCmd q = 0x803 ∧ (∀ x ∈ (s.mb 6).reqs, msgFormed x = true) ∧ s.fwHeld 6 q = false ∧ (s.mb 6).step = 0 ∧ s.sec.prog = none ∧ s.flag R.SYS_SUPPLY F.SYS_SUPPLY_FUSE = true ∧ s.lc = 2 ∧ s.fuses.orev.testBit 3 = false ∧ s.fuses.okeyP.testBit 2 = true ∧ s.fuses.orev.testBit 2 = false) ∧
    (let s : State := let u := workIn 0x802 (pl [0x20701] ++ List.replicate 32 3) true; { u with sec := { u.sec with prog := some ⟨0, 1, 0, none⟩ } }; let q : List Byte := msg 0x802 5 (pl [0x20701] ++ List.replicate 32 3); s.coreRuns = true ∧ (s.mb 6).cur = some q ∧ msgCmd q = 0x802 ∧ (∀ x ∈ (s.mb 6).reqs, msgFormed x = true) ∧ s.fwHeld 6 q = false ∧ (s.mb 6).step = 0 ∧ s.sec.prog ≠ none) := by decide +kernel
/-- LoadReadbackAndFlashCommands: inputs of its clauses, part 1. -/
theorem witness_LoadReadbackAndFlashCommands_1 :
    (let s : State := workIn 0x200 (pl [1, 0, 0x3000]) true; let q : List Byte := msg 0x200 5 (pl [1, 0, 0x3000]); s.coreRuns = true ∧ (s.mb 6).cur = some q ∧ msgCmd q = 0x200 ∧ (∀ x ∈ (s.mb 6).reqs, msgFormed x = true) ∧ s.fwHeld 6 q = false ∧ msgWord q 0 = 1 ∧ s.phase ≠ 2) ∧
    (let s : State := region (workIn 0x200 (pl [2, 31, 0x3000]) true) 31 31; let q : List Byte := msg 0x200 5 (pl [2, 31, 0x3000]); s.coreRuns = true ∧ (s.mb 6).cur = some q ∧ msgCmd q = 0x200 ∧ (∀ x ∈ (s.mb 6).reqs, msgFormed x = true) ∧ s.fwHeld 6 q = false ∧ s.loadOn .mailbox = none ∧ msgWord q 0 = 2 ∧ s.user = true ∧ s.stageRefusal (msgWord q 1) false 0 0 = none) ∧
    (let s : State := (region (workIn 0x200 (pl [2, 31, 0x3000]) true) 31 31).setShadow 31 3; let q : List Byte := msg 0x200 5 (pl [2, 31, 0x3000]); s.coreRuns = true ∧ (s.mb 6).cur = some q ∧ msgCmd q = 0x200 ∧ (∀ x ∈ (s.mb 6).reqs, msgFormed x = true) ∧ s.fwHeld 6 q = false ∧ s.stageRefusal (msgWord q 1) false 0 0 = some 0x18 ∧ s.loadOn .mailbox = none ∧ msgWord q 0 = 2 ∧ s.user = true) ∧
    (let s : State := ((workIn 0x200 (pl [1, 0, 0x3000]) true).setFld R.CFG_BOOT_STAT F.CFG_BOOT_STAT_PHASE 2).setFld R.CFG_BOOT_STAT F.CFG_BOOT_STAT_MODE 2; let q : List Byte := msg 0x200 5 (pl [1, 0, 0x3000]); s.coreRuns = true ∧ (s.mb 6).cur = some q ∧ msgCmd q = 0x200 ∧ (∀ x ∈ (s.mb 6).reqs, msgFormed x = true) ∧ s.fwHeld 6 q = false ∧ msgWord q 0 = 1 ∧ s.phase = 2 ∧ s.mode = 2 ∧ s.loadOn .mailbox = none) := by decide +kernel
/-- LoadReadbackAndFlashCommands: inputs of its clauses, part 2. -/
theorem witness_LoadReadbackAndFlashCommands_2 :
    (let s : State := let u := workIn 0x200 (pl [2, 31, 0x3000]) true; { u with boot := { u.boot with loads := [Load.start .mailbox 2 3] } }; let q : List Byte := msg 0x200 5 (pl [2, 31, 0x3000]); s.coreRuns = true ∧ (s.mb 6).cur = some q ∧ msgCmd q = 0x200 ∧ (∀ x ∈ (s.mb 6).reqs, msgFormed x = true) ∧ s.fwHeld 6 q = false ∧ s.loadOn .mailbox ≠ none ∧ msgWord q 0 = 2 ∧ s.user = true) ∧
    (let s : State := workIn 0x201 (pl [0, 0, 7]) true; let q : List Byte := msg 0x201 5 (pl [0, 0, 7]); s.coreRuns = true ∧ (s.mb 6).cur = some q ∧ msgCmd q = 0x201 ∧ (∀ x ∈ (s.mb 6).reqs, msgFormed x = true) ∧ s.fwHeld 6 q = false ∧ s.fw.loader ≠ some 6) ∧
    (let s : State := let u := workIn 0x201 (pl [2, 0, 7]) true; { u with fw := { u.fw with loader := some 6 }, boot := { u.boot with loads := [{ Load.start .mailbox 2 31 with len := some 6, bytes := [8, 9] }] } }; let q : List Byte := msg 0x201 5 (pl [2, 0, 7]); s.coreRuns = true ∧ (s.mb 6).cur = some q ∧ msgCmd q = 0x201 ∧ (∀ x ∈ (s.mb 6).reqs, msgFormed x = true) ∧ s.fwHeld 6 q = false ∧ s.fw.loader = some 6 ∧ 0x300 ≤ (s.mb 6).ver ∧ leAt (msgPayload q) 0 8 = 2 ∧ (s.loadOn .mailbox).isSome ∧ (s.loadOn .mailbox).map (fun l => (l.bytes.length, l.len)) = some (2, some 6) ∧ 2 + ((msgPayload q).drop 8).length ≤ 6) ∧
    (let s : State := let u := workIn 0x201 (pl [3, 0, 7]) true; { u with fw := { u.fw with loader := some 6 }, boot := { u.boot with loads := [{ Load.start .mailbox 2 31 with len := some 6, bytes := [8, 9] }] } }; let q : List Byte := msg 0x201 5 (pl [3, 0, 7]); s.coreRuns = true ∧ (s.mb 6).cur = some q ∧ msgCmd q = 0x201 ∧ (∀ x ∈ (s.mb 6).reqs, msgFormed x = true) ∧ s.fwHeld 6 q = false ∧ s.fw.loader = some 6 ∧ ¬ (s.mb 6).ver < 0x300 ∧ (s.loadOn .mailbox).isSome ∧ (s.loadOn .mailbox).map (fun l => (l.bytes.length, l.len)) = some (2, some 6) ∧ 2 < leAt (msgPayload q) 0 8) := by decide +kernel
/-- LoadReadbackAndFlashCommands: inputs of its clauses, part 3. -/
theorem witness_LoadReadbackAndFlashCommands_3 :
    (let s : State := let u := workIn 0x201 (pl [1, 0, 7]) true; { u with fw := { u.fw with loader := some 6 }, boot := { u.boot with loads := [{ Load.start .mailbox 2 31 with len := some 6, bytes := [8, 9] }] } }; let q : List Byte := msg 0x201 5 (pl [1, 0, 7]); s.coreRuns = true ∧ (s.mb 6).cur = some q ∧ msgCmd q = 0x201 ∧ (∀ x ∈ (s.mb 6).reqs, msgFormed x = true) ∧ s.fwHeld 6 q = false ∧ s.fw.loader = some 6 ∧ ¬ (s.mb 6).ver < 0x300 ∧ (s.loadOn .mailbox).isSome ∧ (s.loadOn .mailbox).map (fun l => (l.bytes.length, l.len)) = some (2, some 6) ∧ leAt (msgPayload q) 0 8 < 2) ∧
    (let s : State := let u := workIn 0x202 [] true; { u with fw := { u.fw with loader := some 6, result := some (0x0E, 4) } }; let q : List Byte := msg 0x202 5 []; s.coreRuns = true ∧ (s.mb 6).cur = some q ∧ msgCmd q = 0x202 ∧ (∀ x ∈ (s.mb 6).reqs, msgFormed x = true) ∧ s.fwHeld 6 q = false ∧ s.fw.loader = some 6 ∧ s.fw.result = some (0x0E, 4)) ∧
    (let s : State := workIn 0x202 [] true; let q : List Byte := msg 0x202 5 []; s.coreRuns = true ∧ (s.mb 6).cur = some q ∧ msgCmd q = 0x202 ∧ (∀ x ∈ (s.mb 6).reqs, msgFormed x = true) ∧ s.fwHeld 6 q = false ∧ s.fw.loader ≠ some 6) ∧
    (let s : State := let u := workIn 0x210 (pl [0, 31]) true; { u with fw := { u.fw with stager := some 5 } }; let q : List Byte := msg 0x210 5 (pl [0, 31]); s.coreRuns = true ∧ (s.mb 6).cur = some q ∧ msgCmd q = 0x210 ∧ (∀ x ∈ (s.mb 6).reqs, msgFormed x = true) ∧ s.fwHeld 6 q = false ∧ s.fw.stager ≠ none ∧ (s.mb 6).step = 0) ∧
    (let s : State := let u := region (workIn 0x210 (pl [0, 31]) true) 31 31; let d := dirBytes 5 1 ([2, 0, 1, 0, 0, 0, 0, 0] ++ leBytes 8 0x100000 ++ leBytes 8 0x3000 ++ leBytes 8 77); flashed u 0 (d); let q : List Byte := msg 0x210 5 (pl [0, 31]); s.coreRuns = true ∧ (s.mb 6).cur = some q ∧ msgCmd q = 0x210 ∧ (∀ x ∈ (s.mb 6).reqs, msgFormed x = true) ∧ s.fwHeld 6 q = false ∧ (s.mb 6).step = 0 ∧ s.fw.stager = none ∧ s.loadOn .flash = none ∧ s.stageRefusal (msgWord q 1) false 0 0 = none ∧ s.boot.flash0.fitted = true) := by decide +kernel
/-- LoadReadbackAndFlashCommands: inputs of its clauses, part 4. -/
theorem witness_LoadReadbackAndFlashCommands_4 :
    (let s : State := let u := region (workIn 0x210 (pl [0, 31]) true) 31 31; flashed u 0 []; let q : List Byte := msg 0x210 5 (pl [0, 31]); s.coreRuns = true ∧ (s.mb 6).cur = some q ∧ msgCmd q = 0x210 ∧ (∀ x ∈ (s.mb 6).reqs, msgFormed x = true) ∧ s.fwHeld 6 q = false ∧ (s.mb 6).step = 0 ∧ s.fw.stager = none ∧ s.loadOn .flash = none ∧ s.stageRefusal (msgWord q 1) false 0 0 = none ∧ s.boot.flash0.fitted = true) ∧
    (let s : State := (region (workIn 0x210 (pl [0, 31]) true) 31 31).setShadow 31 3; let q : List Byte := msg 0x210 5 (pl [0, 31]); s.coreRuns = true ∧ (s.mb 6).cur = some q ∧ msgCmd q = 0x210 ∧ (∀ x ∈ (s.mb 6).reqs, msgFormed x = true) ∧ s.fwHeld 6 q = false ∧ (s.mb 6).step = 0 ∧ s.fw.stager = none ∧ s.loadOn .flash = none ∧ s.stageRefusal (msgWord q 1) false 0 0 = some 0x18) ∧
    (let s : State := let u := workIn 0x215 (pl [64 * mkKey 31 31 19 65, 15]) true; { u with act := { u.act with frames := [(mkKey 31 31 19 79, ones)] } }; let q : List Byte := msg 0x215 5 (pl [64 * mkKey 31 31 19 65, 15]); s.coreRuns = true ∧ (s.mb 6).cur = some q ∧ msgCmd q = 0x215 ∧ (∀ x ∈ (s.mb 6).reqs, msgFormed x = true) ∧ s.fwHeld 6 q = false ∧ s.lc ≠ 2 ∧ (∀ k ∈ (List.range 15).map (fun i => mkKey 31 31 19 65 + i), farValid (keyFar k true) = true)) ∧
    (let s : State := let u := workIn 0x220 (pl [1, 5, 4064]) true; { u with boot := { u.boot with flash1 := { u.boot.flash1 with fitted := false } } }; let q : List Byte := msg 0x220 5 (pl [1, 5, 4064]); s.coreRuns = true ∧ (s.mb 6).cur = some q ∧ msgCmd q = 0x220 ∧ (∀ x ∈ (s.mb 6).reqs, msgFormed x = true) ∧ s.fwHeld 6 q = false ∧ (s.flash 1).fitted = false ∧ s.loadOn .flash = none ∧ s.loadOn .rom = none) := by decide +kernel
/-- LoadReadbackAndFlashCommands: inputs of its clauses, part 5. -/
theorem witness_LoadReadbackAndFlashCommands_5 :
    (let s : State := let u := workIn 0x221 (pl [0, 0x1002, 1] ++ [0xF1, 0xF2]) true; flashed u 0x1000 ([1, 2, 3, 4, 5]); let q : List Byte := msg 0x221 5 (pl [0, 0x1002, 1] ++ [0xF1, 0xF2]); s.coreRuns = true ∧ (s.mb 6).cur = some q ∧ msgCmd q = 0x221 ∧ (∀ x ∈ (s.mb 6).reqs, msgFormed x = true) ∧ s.fwHeld 6 q = false ∧ msgWord q 0 < 2 ∧ (s.flash 0).fitted = true ∧ s.loadOn .flash = none ∧ s.loadOn .rom = none) ∧
    (let s : State := flashed (workIn 0x222 (pl [1] ++ [2, 0, 1, 0, 0, 0, 0, 0] ++ leBytes 8 0x100000 ++ leBytes 8 0x3000 ++ leBytes 8 77) true) 0 []; let d : List Byte := [2, 0, 1, 0, 0, 0, 0, 0] ++ leBytes 8 0x100000 ++ leBytes 8 0x3000 ++ leBytes 8 77; let q : List Byte := msg 0x222 5 (pl [1] ++ d); s.coreRuns = true ∧ (s.mb 6).cur = some q ∧ msgCmd q = 0x222 ∧ (∀ x ∈ (s.mb 6).reqs, msgFormed x = true) ∧ s.fwHeld 6 q = false ∧ s.loadOn .flash = none ∧ s.loadOn .rom = none ∧ s.boot.flash0.fitted = true) ∧
    (let s : State := let u := workIn 0x222 (pl [1] ++ [2, 0, 1, 0, 0, 0, 0, 0] ++ leBytes 8 0x100000 ++ leBytes 8 0x3000 ++ leBytes 8 77) true; flashed u 0x10000 ((dirBytes 5 0 [])); let d : List Byte := [2, 0, 1, 0, 0, 0, 0, 0] ++ leBytes 8 0x100000 ++ leBytes 8 0x3000 ++ leBytes 8 77; let q : List Byte := msg 0x222 5 (pl [1] ++ d); s.coreRuns = true ∧ (s.mb 6).cur = some q ∧ msgCmd q = 0x222 ∧ (∀ x ∈ (s.mb 6).reqs, msgFormed x = true) ∧ s.fwHeld 6 q = false ∧ s.loadOn .flash = none ∧ s.loadOn .rom = none ∧ s.boot.flash0.fitted = true) ∧
    (let s : State := { usr with fw := { usr.fw with loader := some 6 }, boot := { usr.boot with loads := [{ Load.start .mailbox 2 31 with len := some 6, bytes := [8, 9] }] } }; let l : Load := { Load.start .mailbox 2 31 with len := some 6, bytes := [8, 9] }; s.coreRuns = true ∧ s.loadOn .mailbox = some l ∧ l.bytes.length < l.len.getD 0) ∧
    (let s : State := { usr with fw := { usr.fw with loader := some 6 }, boot := { usr.boot with loads := [{ Load.start .mailbox 1 0 with len := some 6, bytes := [8, 9], hdr := some hdr0, blk := 3 }] } }; let l : Load := { Load.start .mailbox 1 0 with len := some 6, bytes := [8, 9], hdr := some hdr0, blk := 3 }; s.coreRuns = true ∧ s.loadOn .mailbox = some l ∧ l.bytes.length < l.len.getD 0) := by decide +kernel
/-- LoadReadbackAndFlashCommands: inputs of its clauses, part 6. -/
theorem witness_LoadReadbackAndFlashCommands_6 :
    (let s : State := { usr with fw := { usr.fw with loader := some 6 }, boot := { usr.boot with loads := [{ Load.start .mailbox 2 31 with len := some 2, bytes := [8, 9] }] } }; let l : Load := { Load.start .mailbox 2 31 with len := some 2, bytes := [8, 9] }; s.coreRuns = true ∧ s.loadOn .mailbox = some l ∧ l.len.getD 0 ≤ l.bytes.length) ∧
    (let s : State := usr; s.coreRuns = true ∧ s.loadOn .mailbox = none) ∧
    (let s : State := (workIn 0x200 (pl [2, 31, 0x3000]) true).setFld R.CFG_BOOT_STAT F.CFG_BOOT_STAT_PHASE 3; let q : List Byte := msg 0x200 5 (pl [2, 31, 0x3000]); s.coreRuns = true ∧ (s.mb 6).cur = some q ∧ msgCmd q = 0x200 ∧ (∀ x ∈ (s.mb 6).reqs, msgFormed x = true) ∧ s.fwHeld 6 q = false ∧ msgWord q 0 = 2 ∧ s.user = false) ∧
    (let s : State := let u := workIn 0x201 (pl [2, 0, 7, 8]) true; { u with fw := { u.fw with loader := some 6 }, boot := { u.boot with loads := [{ Load.start .mailbox 2 31 with len := some 6, bytes := [8, 9] }] } }; let q : List Byte := msg 0x201 5 (pl [2, 0, 7, 8]); s.coreRuns = true ∧ (s.mb 6).cur = some q ∧ msgCmd q = 0x201 ∧ (∀ x ∈ (s.mb 6).reqs, msgFormed x = true) ∧ s.fwHeld 6 q = false ∧ s.fw.loader = some 6 ∧ leAt (msgPayload q) 0 8 = 2 ∧ (s.loadOn .mailbox).isSome ∧ (s.loadOn .mailbox).map (fun l => (l.bytes.length, l.len)) = some (2, some 6) ∧ 6 < 2 + ((msgPayload q).drop 8).length) ∧
    (let s : State := let u := workIn 0x201 (pl [7]) true; let w := u.setMb 6 { u.mb 6 with ver := 0x201 }; { w with fw := { w.fw with loader := some 6 }, boot := { w.boot with loads := [{ Load.start .mailbox 2 31 with len := some 6, bytes := [8, 9] }] } }; let q : List Byte := msg 0x201 5 (pl [7]); s.coreRuns = true ∧ (s.mb 6).cur = some q ∧ msgCmd q = 0x201 ∧ (∀ x ∈ (s.mb 6).reqs, msgFormed x = true) ∧ s.fwHeld 6 q = false ∧ s.fw.loader = some 6 ∧ (s.mb 6).ver < 0x300 ∧ (s.loadOn .mailbox).isSome ∧ (s.loadOn .mailbox).map (fun l => (l.bytes.length, l.len)) = some (2, some 6) ∧ 2 + (msgPayload q).length ≤ 6) := by decide +kernel
/-- LoadReadbackAndFlashCommands: inputs of its clauses, part 7. -/
theorem witness_LoadReadbackAndFlashCommands_7 :
    (let s : State := let u := workIn 0x201 (pl [2, 0, 7]) true; { u with fw := { u.fw with loader := some 6, result := some (0x0E, 4) } }; let q : List Byte := msg 0x201 5 (pl [2, 0, 7]); s.coreRuns = true ∧ (s.mb 6).cur = some q ∧ msgCmd q = 0x201 ∧ (∀ x ∈ (s.mb 6).reqs, msgFormed x = true) ∧ s.fwHeld 6 q = false ∧ s.fw.loader = some 6 ∧ s.loadOn .mailbox = none ∧ s.fw.result = some (0x0E, 4)) ∧
    (let s : State := workIn 0x215 (pl [64 * mkKey 31 31 19 70, 15]) true; let q : List Byte := msg 0x215 5 (pl [64 * mkKey 31 31 19 70, 15]); s.coreRuns = true ∧ (s.mb 6).cur = some q ∧ msgCmd q = 0x215 ∧ (∀ x ∈ (s.mb 6).reqs, msgFormed x = true) ∧ s.fwHeld 6 q = false ∧ farValid (keyFar (farKey (msgWord q 0 % 2 ^ 31) + 14) true) = false ∧ 14 < msgWord q 1) ∧
    (let s : State := let u := region (workIn 0x215 (pl [64 * mkKey 31 31 19 65, 15]) true) 31 31; let w := u.setRg 31 { u.rg 31 with act := some { Load.record (load 2 0 0 []) hdr0 with enc := true } }; { w with fuses := { w.fuses with lc := 3 } }; let q : List Byte := msg 0x215 5 (pl [64 * mkKey 31 31 19 65, 15]); let k : Nat := mkKey 31 31 19 65; s.coreRuns = true ∧ (s.mb 6).cur = some q ∧ msgCmd q = 0x215 ∧ (∀ x ∈ (s.mb 6).reqs, msgFormed x = true) ∧ s.fwHeld 6 q = false ∧ s.lc = 2 ∧ ((List.range (msgWord q 1)).map (fun i => farKey (msgWord q 0 % 2 ^ 31) + i)).contains k = true ∧ (s.recOf k false).map (fun x => x.1.enc) = some true ∧ ((List.range (msgWord q 1)).map (fun i => farKey (msgWord q 0 % 2 ^ 31) + i)).all (fun k => farValid (keyFar k true)) = true) ∧
    (let s : State := let u := workIn 0x220 (pl [0, 5, 4064]) true; { u with boot := { u.boot with loads := [Load.start .flash 2 3] } }; let q : List Byte := msg 0x220 5 (pl [0, 5, 4064]); s.coreRuns = true ∧ (s.mb 6).cur = some q ∧ msgCmd q = 0x220 ∧ (∀ x ∈ (s.mb 6).reqs, msgFormed x = true) ∧ s.fwHeld 6 q = false ∧ s.loadOn .flash ≠ none) ∧
    (let s : State := let u := workIn 0x221 (pl [1, 0x1002, 1] ++ [0xF1, 0xF2]) true; { u with boot := { u.boot with flash1 := { u.boot.flash1 with fitted := false } } }; let q : List Byte := msg 0x221 5 (pl [1, 0x1002, 1] ++ [0xF1, 0xF2]); s.coreRuns = true ∧ (s.mb 6).cur = some q ∧ msgCmd q = 0x221 ∧ (∀ x ∈ (s.mb 6).reqs, msgFormed x = true) ∧ s.fwHeld 6 q = false ∧ s.loadOn .flash = none ∧ s.loadOn .rom = none ∧ msgWord q 0 < 2 ∧ (s.flash 1).fitted = false) := by decide +kernel
/-- LoadReadbackAndFlashCommands: inputs of its clauses, part 8. -/
theorem witness_LoadReadbackAndFlashCommands_8 :
    (let s : State := (workIn 0x200 (pl [2, 31, 0x3000]) true).setMb 5 { Mbx.empty with cur := some (msg 0x210 0 (pl [0, 31])), step := 1 }; let q : List Byte := msg 0x200 5 (pl [2, 31, 0x3000]); s.coreRuns = true ∧ (s.mb 6).cur = some q ∧ (∀ x ∈ (s.mb 6).reqs, msgFormed x = true) ∧ (s.mb 6).step = 0 ∧ s.fwHeld 6 q = true ∧ msgCmd q = 0x200) ∧
    (let s : State := (workIn 0x210 (pl [0, 31]) true).setMb 5 { Mbx.empty with cur := some (msg 0x210 0 (pl [0, 31])), step := 1 }; let q : List Byte := msg 0x210 5 (pl [0, 31]); s.coreRuns = true ∧ (s.mb 6).cur = some q ∧ (∀ x ∈ (s.mb 6).reqs, msgFormed x = true) ∧ (s.mb 6).step = 0 ∧ s.fwHeld 6 q = true ∧ msgCmd q = 0x210) ∧
    (let s : State := (workIn 0x220 (pl [0, 5, 4064]) true).setMb 5 { Mbx.empty with cur := some (msg 0x210 0 (pl [0, 31])), step := 1 }; let q : List Byte := msg 0x220 5 (pl [0, 5, 4064]); s.coreRuns = true ∧ (s.mb 6).cur = some q ∧ (∀ x ∈ (s.mb 6).reqs, msgFormed x = true) ∧ (s.mb 6).step = 0 ∧ s.fwHeld 6 q = true ∧ msgCmd q = 0x220) ∧
    (let s : State := (workIn 0x221 (pl [0, 0x1002, 1]) true).setMb 5 { Mbx.empty with cur := some (msg 0x210 0 (pl [0, 31])), step := 1 }; let q : List Byte := msg 0x221 5 (pl [0, 0x1002, 1]); s.coreRuns = true ∧ (s.mb 6).cur = some q ∧ (∀ x ∈ (s.mb 6).reqs, msgFormed x = true) ∧ (s.mb 6).step = 0 ∧ s.fwHeld 6 q = true ∧ msgCmd q = 0x221) ∧
    (let s : State := (workIn 0x222 (pl [0]) true).setMb 5 { Mbx.empty with cur := some (msg 0x210 0 (pl [0, 31])), step := 1 }; let q : List Byte := msg 0x222 5 (pl [0]); s.coreRuns = true ∧ (s.mb 6).cur = some q ∧ (∀ x ∈ (s.mb 6).reqs, msgFormed x = true) ∧ (s.mb 6).step = 0 ∧ s.fwHeld 6 q = true ∧ msgCmd q = 0x222) := by decide +kernel
/-- CommandsAreRegisterAccesses: inputs of its clauses, part 1. -/
theorem witness_CommandsAreRegisterAccesses_1 :
    (let s : State := (region (req 0x211 (pl [31, 1, 2, 3, 4, 5, 6, 7, 8, 9, 10, 11, 12, 13, 14])) 31 31).setShadow 31 2; let q : List Byte := msg 0x0211 5 (pl [31, 1, 2, 3, 4, 5, 6, 7, 8, 9, 10, 11, 12, 13, 14]); begins s 0x0211 q) ∧
    (let s : State := region (req 0x211 (pl [31, 1, 2, 3, 4, 5, 6, 7, 8, 9, 10, 11, 12, 13, 14])) 31 31; let q : List Byte := msg 0x0211 5 (pl [31, 1, 2, 3, 4, 5, 6, 7, 8, 9, 10, 11, 12, 13, 14]); begins s 0x0211 q) ∧
    (let s : State := req 0x0212 (pl [0x8000001F ||| 2 ^ 8, 7]); let q : List Byte := msg 0x0212 5 (pl [0x8000001F ||| 2 ^ 8, 7]); begins s 0x0212 q ∧ (argW q 0).fget F.CFG_FIRE_USE_MASK = 1) ∧
    (let s : State := req 0x0212 (pl [0x8000001F]); let q : List Byte := msg 0x0212 5 (pl [0x8000001F]); begins s 0x0212 q ∧ (argW q 0).fget F.CFG_FIRE_USE_MASK = 0) ∧
    (let s : State := region (req 0x213 (pl [0, 0x8000001F])) 31 31; let q : List Byte := msg 0x0213 5 (pl [0, 0x8000001F]); begins s 0x0213 q ∧ msgWord q 0 = 0) := by decide +kernel
/-- CommandsAreRegisterAccesses: inputs of its clauses, part 2. -/
theorem witness_CommandsAreRegisterAccesses_2 :
    (let s : State := region (req 0x213 (pl [1, 31, (padBase + 8 * padShared) % 2 ^ 32, (padBase + 8 * padShared) / 2 ^ 32])) 31 31; let q : List Byte := msg 0x0213 5 (pl [1, 31, (padBase + 8 * padShared) % 2 ^ 32, (padBase + 8 * padShared) / 2 ^ 32]); begins s 0x0213 q ∧ msgWord q 0 = 1 ∧ inShared (holdAddr (s.mb 6).ver q) = true ∧ s.boot.hold = none) ∧
    (let s : State := let u := req 0x213 (pl [1, 31, (padBase + 8 * padShared) % 2 ^ 32, (padBase + 8 * padShared) / 2 ^ 32]); { u with boot := { u.boot with hold := some ⟨31, 0⟩ } }; let q : List Byte := msg 0x0213 5 (pl [1, 31, (padBase + 8 * padShared) % 2 ^ 32, (padBase + 8 * padShared) / 2 ^ 32]); begins s 0x0213 q ∧ msgWord q 0 = 1 ∧ inShared (holdAddr (s.mb 6).ver q) = true ∧ s.boot.hold ≠ none) ∧
    (let s : State := region (req 0x214 (pl [31])) 31 31; let q : List Byte := msg 0x0214 5 (pl [31]); begins s 0x0214 q) ∧
    (let s : State := req 0x0230 (pl []); let q : List Byte := msg 0x0230 5 (pl []); begins s 0x0230 q ∧ s.fw.stager ≠ some 6) ∧
    (let s : State := ((req 0x400 (pl [31])).setFlag R.TIM_STAT F.TIM_STAT_RUN true); let q : List Byte := msg 0x0400 5 (pl [31]); begins s 0x0400 q) := by decide +kernel
/-- CommandsAreRegisterAccesses: inputs of its clauses, part 3. -/
theorem witness_CommandsAreRegisterAccesses_3 :
    (let s : State := ((req 0x401 (pl [31, 2, 100, 7, 9])).setFlag R.TIM_STAT F.TIM_STAT_RUN true); let q : List Byte := msg 0x0401 5 (pl [31, 2, 100, 7, 9]); begins s 0x0401 q) ∧
    (let s : State := req 0x0402 (pl [31, 7, 8]); let q : List Byte := msg 0x0402 5 (pl [31, 7, 8]); begins s 0x0402 q) ∧
    (let s : State := ((req 0x403 (pl [63, 5, 6, 7, 8, 9, 0x101])).setFlag R.TIM_STAT F.TIM_STAT_RUN true); let q : List Byte := msg 0x0403 5 (pl [63, 5, 6, 7, 8, 9, 0x101]); begins s 0x0403 q) ∧
    (let s : State := req 0x0500 (pl [15]); let q : List Byte := msg 0x0500 5 (pl [15]); begins s 0x0500 q) ∧
    (let s : State := req 0x0500 (pl [35]); let q : List Byte := msg 0x0500 5 (pl [35]); begins s 0x0500 q) := by decide +kernel
/-- CommandsAreRegisterAccesses: inputs of its clauses, part 4. -/
theorem witness_CommandsAreRegisterAccesses_4 :
    (let s : State := req 0x0501 (pl [35, R.LN_RATE 143 - R.LQ_CTRL 35, 5, R.PCS_LN_MODE 143 - R.LQ_CTRL 35, 2]); let q : List Byte := msg 0x0501 5 (pl [35, R.LN_RATE 143 - R.LQ_CTRL 35, 5, R.PCS_LN_MODE 143 - R.LQ_CTRL 35, 2]); begins s 0x0501 q) ∧
    (let s : State := req 0x0510 (pl [15]); let q : List Byte := msg 0x0510 5 (pl [15]); begins s 0x0510 q) ∧
    (let s : State := req 0x0511 (pl [15]); let q : List Byte := msg 0x0511 5 (pl [15]); begins s 0x0511 q) ∧
    (let s : State := req 0x0512 (pl [15, 0]); let q : List Byte := msg 0x0512 5 (pl [15, 0]); begins s 0x0512 q) ∧
    (let s : State := req 0x0512 (pl [15, 1]); let q : List Byte := msg 0x0512 5 (pl [15, 1]); begins s 0x0512 q) := by decide +kernel
/-- CommandsAreRegisterAccesses: inputs of its clauses, part 5. -/
theorem witness_CommandsAreRegisterAccesses_5 :
    (let s : State := req 0x0513 (pl [15, 0x301F018F, 77]); let q : List Byte := msg 0x0513 5 (pl [15, 0x301F018F, 77]); begins s 0x0513 q) ∧
    (let s : State := req 0x0600 (pl [7]); let q : List Byte := msg 0x0600 5 (pl [7]); begins s 0x0600 q) ∧
    (let s : State := req 0x0602 (pl [0x00021231, 0x001f4688]); let q : List Byte := msg 0x0602 5 (pl [0x00021231, 0x001f4688]); begins s 0x0602 q) ∧
    (let s : State := req 0x0603 (pl [7, 63, 0x80000005]); let q : List Byte := msg 0x0603 5 (pl [7, 63, 0x80000005]); begins s 0x0603 q) ∧
    (let s : State := req 0x213 (pl [1, 31, 0, 0x300]); let q : List Byte := msg 0x0213 5 (pl [1, 31, 0, 0x300]); begins s 0x0213 q ∧ msgWord q 0 = 1 ∧ inShared (holdAddr (s.mb 6).ver q) = false) := by decide +kernel
/-- CommandsAreRegisterAccesses: inputs of its clauses, part 6. -/
theorem witness_CommandsAreRegisterAccesses_6 :
    (let s : State := (req 0x0211 (pl [31, 1, 2, 3, 4, 5, 6, 7, 8, 9, 10, 11, 12, 13, 14])).setMb 5 { Mbx.empty with cur := some (msg 0x0211 0 (pl [31, 1, 2, 3, 4, 5, 6, 7, 8, 9, 10, 11, 12, 13, 14])), step := 1 }; let q : List Byte := msg 0x0211 5 (pl [31, 1, 2, 3, 4, 5, 6, 7, 8, 9, 10, 11, 12, 13, 14]); s.coreRuns = true ∧ (s.mb 6).cur = some q ∧ (∀ x ∈ (s.mb 6).reqs, msgFormed x = true) ∧ (s.mb 6).step = 0 ∧ s.fwHeld 6 q = true ∧ msgCmd q = 0x0211) ∧
    (let s : State := (req 0x0212 (pl [0x8000001F])).setMb 5 { Mbx.empty with cur := some (msg 0x0212 0 (pl [0x8000001F])), step := 1 }; let q : List Byte := msg 0x0212 5 (pl [0x8000001F]); s.coreRuns = true ∧ (s.mb 6).cur = some q ∧ (∀ x ∈ (s.mb 6).reqs, msgFormed x = true) ∧ (s.mb 6).step = 0 ∧ s.fwHeld 6 q = true ∧ msgCmd q = 0x0212) ∧
    (let s : State := (req 0x0213 (pl [0, 0x8000001F])).setMb 5 { Mbx.empty with cur := some (msg 0x0213 0 (pl [0, 0x8000001F])), step := 1 }; let q : List Byte := msg 0x0213 5 (pl [0, 0x8000001F]); s.coreRuns = true ∧ (s.mb 6).cur = some q ∧ (∀ x ∈ (s.mb 6).reqs, msgFormed x = true) ∧ (s.mb 6).step = 0 ∧ s.fwHeld 6 q = true ∧ msgCmd q = 0x0213) ∧
    (let s : State := (req 0x0400 (pl [31])).setMb 5 { Mbx.empty with cur := some (msg 0x0400 0 (pl [31])), step := 1 }; let q : List Byte := msg 0x0400 5 (pl [31]); s.coreRuns = true ∧ (s.mb 6).cur = some q ∧ (∀ x ∈ (s.mb 6).reqs, msgFormed x = true) ∧ (s.mb 6).step = 0 ∧ s.fwHeld 6 q = true ∧ msgCmd q = 0x0400) ∧
    (let s : State := (req 0x0401 (pl [31, 2, 100, 7, 9])).setMb 5 { Mbx.empty with cur := some (msg 0x0401 0 (pl [31, 2, 100, 7, 9])), step := 1 }; let q : List Byte := msg 0x0401 5 (pl [31, 2, 100, 7, 9]); s.coreRuns = true ∧ (s.mb 6).cur = some q ∧ (∀ x ∈ (s.mb 6).reqs, msgFormed x = true) ∧ (s.mb 6).step = 0 ∧ s.fwHeld 6 q = true ∧ msgCmd q = 0x0401) := by decide +kernel
/-- CommandsAreRegisterAccesses: inputs of its clauses, part 7. -/
theorem witness_CommandsAreRegisterAccesses_7 :
    (let s : State := (req 0x0402 (pl [31, 7, 8])).setMb 5 { Mbx.empty with cur := some (msg 0x0402 0 (pl [31, 7, 8])), step := 1 }; let q : List Byte := msg 0x0402 5 (pl [31, 7, 8]); s.coreRuns = true ∧ (s.mb 6).cur = some q ∧ (∀ x ∈ (s.mb 6).reqs, msgFormed x = true) ∧ (s.mb 6).step = 0 ∧ s.fwHeld 6 q = true ∧ msgCmd q = 0x0402) ∧
    (let s : State := (req 0x0403 (pl [63, 5, 6, 7, 8, 9, 0x101])).setMb 5 { Mbx.empty with cur := some (msg 0x0403 0 (pl [63, 5, 6, 7, 8, 9, 0x101])), step := 1 }; let q : List Byte := msg 0x0403 5 (pl [63, 5, 6, 7, 8, 9, 0x101]); s.coreRuns = true ∧ (s.mb 6).cur = some q ∧ (∀ x ∈ (s.mb 6).reqs, msgFormed x = true) ∧ (s.mb 6).step = 0 ∧ s.fwHeld 6 q = true ∧ msgCmd q = 0x0403) ∧
    (let s : State := (req 0x0501 (pl [35])).setMb 5 { Mbx.empty with cur := some (msg 0x0501 0 (pl [35])), step := 1 }; let q : List Byte := msg 0x0501 5 (pl [35]); s.coreRuns = true ∧ (s.mb 6).cur = some q ∧ (∀ x ∈ (s.mb 6).reqs, msgFormed x = true) ∧ (s.mb 6).step = 0 ∧ s.fwHeld 6 q = true ∧ msgCmd q = 0x0501) ∧
    (let s : State := (req 0x0502 (pl [143, 5])).setMb 5 { Mbx.empty with cur := some (msg 0x0502 0 (pl [143, 5])), step := 1 }; let q : List Byte := msg 0x0502 5 (pl [143, 5]); s.coreRuns = true ∧ (s.mb 6).cur = some q ∧ (∀ x ∈ (s.mb 6).reqs, msgFormed x = true) ∧ (s.mb 6).step = 0 ∧ s.fwHeld 6 q = true ∧ msgCmd q = 0x0502) ∧
    (let s : State := (req 0x0511 (pl [15])).setMb 5 { Mbx.empty with cur := some (msg 0x0511 0 (pl [15])), step := 1 }; let q : List Byte := msg 0x0511 5 (pl [15]); s.coreRuns = true ∧ (s.mb 6).cur = some q ∧ (∀ x ∈ (s.mb 6).reqs, msgFormed x = true) ∧ (s.mb 6).step = 0 ∧ s.fwHeld 6 q = true ∧ msgCmd q = 0x0511) := by decide +kernel
/-- CommandsAreRegisterAccesses: inputs of its clauses, part 8. -/
theorem witness_CommandsAreRegisterAccesses_8 :
    (let s : State := (req 0x0512 (pl [15, 0])).setMb 5 { Mbx.empty with cur := some (msg 0x0512 0 (pl [15, 0])), step := 1 }; let q : List Byte := msg 0x0512 5 (pl [15, 0]); s.coreRuns = true ∧ (s.mb 6).cur = some q ∧ (∀ x ∈ (s.mb 6).reqs, msgFormed x = true) ∧ (s.mb 6).step = 0 ∧ s.fwHeld 6 q = true ∧ msgCmd q = 0x0512) ∧
    (let s : State := (req 0x0513 (pl [15, 0x301F018F, 77])).setMb 5 { Mbx.empty with cur := some (msg 0x0513 0 (pl [15, 0x301F018F, 77])), step := 1 }; let q : List Byte := msg 0x0513 5 (pl [15, 0x301F018F, 77]); s.coreRuns = true ∧ (s.mb 6).cur = some q ∧ (∀ x ∈ (s.mb 6).reqs, msgFormed x = true) ∧ (s.mb 6).step = 0 ∧ s.fwHeld 6 q = true ∧ msgCmd q = 0x0513) ∧
    (let s : State := (req 0x0601 (pl [7])).setMb 5 { Mbx.empty with cur := some (msg 0x0601 0 (pl [7])), step := 1 }; let q : List Byte := msg 0x0601 5 (pl [7]); s.coreRuns = true ∧ (s.mb 6).cur = some q ∧ (∀ x ∈ (s.mb 6).reqs, msgFormed x = true) ∧ (s.mb 6).step = 0 ∧ s.fwHeld 6 q = true ∧ msgCmd q = 0x0601) ∧
    (let s : State := (req 0x0602 (pl [0x00021231, 0x001f4688])).setMb 5 { Mbx.empty with cur := some (msg 0x0602 0 (pl [0x00021231, 0x001f4688])), step := 1 }; let q : List Byte := msg 0x0602 5 (pl [0x00021231, 0x001f4688]); s.coreRuns = true ∧ (s.mb 6).cur = some q ∧ (∀ x ∈ (s.mb 6).reqs, msgFormed x = true) ∧ (s.mb 6).step = 0 ∧ s.fwHeld 6 q = true ∧ msgCmd q = 0x0602) ∧
    (let s : State := (req 0x0603 (pl [7, 63, 0x80000005])).setMb 5 { Mbx.empty with cur := some (msg 0x0603 0 (pl [7, 63, 0x80000005])), step := 1 }; let q : List Byte := msg 0x0603 5 (pl [7, 63, 0x80000005]); s.coreRuns = true ∧ (s.mb 6).cur = some q ∧ (∀ x ∈ (s.mb 6).reqs, msgFormed x = true) ∧ (s.mb 6).step = 0 ∧ s.fwHeld 6 q = true ∧ msgCmd q = 0x0603) := by decide +kernel
/-- CommandsAreRegisterAccesses: inputs of its clauses, part 9. -/
theorem witness_CommandsAreRegisterAccesses_9 :
    (let s : State := (req 0x0704 (pl [0, 64, 0])).setMb 5 { Mbx.empty with cur := some (msg 0x0704 0 (pl [0, 64, 0])), step := 1 }; let q : List Byte := msg 0x0704 5 (pl [0, 64, 0]); s.coreRuns = true ∧ (s.mb 6).cur = some q ∧ (∀ x ∈ (s.mb 6).reqs, msgFormed x = true) ∧ (s.mb 6).step = 0 ∧ s.fwHeld 6 q = true ∧ msgCmd q = 0x0704) := by decide +kernel
/-- RegisterAccessLogAndLongCommands: inputs of its clauses, part 1. -/
theorem witness_RegisterAccessLogAndLongCommands_1 :
    (let s : State := req 0x0300 (pl [(csrBase + R.MBX_OWNER 3) % 2 ^ 32, (csrBase + R.MBX_OWNER 3) / 2 ^ 32, 2]); let q : List Byte := msg 0x0300 5 (pl [(csrBase + R.MBX_OWNER 3) % 2 ^ 32, (csrBase + R.MBX_OWNER 3) / 2 ^ 32, 2]); begins s 0x0300 q ∧ (regAddr (s.mb 6).ver q).2 = csrBase + R.MBX_OWNER 3 ∧ (∀ i ∈ List.range 2, regDenied false (csrBase + R.MBX_OWNER 3 + 4 * i) = false)) ∧
    (let s : State := req 0x0300 (pl [(csrBase + R.SEC_STAT) % 2 ^ 32, (csrBase + R.SEC_STAT) / 2 ^ 32, 1]); let q : List Byte := msg 0x0300 5 (pl [(csrBase + R.SEC_STAT) % 2 ^ 32, (csrBase + R.SEC_STAT) / 2 ^ 32, 1]); begins s 0x0300 q ∧ regDenied false (csrBase + R.SEC_STAT) = true) ∧
    (let s : State := (req 0x300 (pl [(csrBase + R.MBX_RDATA 3) % 2 ^ 32, (csrBase + R.MBX_RDATA 3) / 2 ^ 32, 1])).setFld (R.MBX_OWNER 3) F.MBX_OWNER_OWNER 45; let q : List Byte := msg 0x0300 5 (pl [(csrBase + R.MBX_RDATA 3) % 2 ^ 32, (csrBase + R.MBX_RDATA 3) / 2 ^ 32, 1]); begins s 0x0300 q ∧ regDenied false (csrBase + R.MBX_RDATA 3) = false ∧ csrDest (R.MBX_RDATA 3) ≠ .none ∧ s.reaches 0x68 (R.MBX_RDATA 3) = true ∧ s.csrAccepts 0x68 false (R.MBX_RDATA 3) = false) ∧
    (let s : State := req 0x0301 (pl [(csrBase + R.TIM_TD_W0 31) % 2 ^ 32, (csrBase + R.TIM_TD_W0 31) / 2 ^ 32, 2, 17, 18]); let q : List Byte := msg 0x0301 5 (pl [(csrBase + R.TIM_TD_W0 31) % 2 ^ 32, (csrBase + R.TIM_TD_W0 31) / 2 ^ 32, 2, 17, 18]); begins s 0x0301 q ∧ (regAddr (s.mb 6).ver q).2 = csrBase + R.TIM_TD_W0 31 ∧ (∀ i ∈ List.range 2, regDenied true (csrBase + R.TIM_TD_W0 31 + 4 * i) = false)) ∧
    (let s : State := req 0x0301 (pl [(csrBase + R.CFG_RESTART) % 2 ^ 32, (csrBase + R.CFG_RESTART) / 2 ^ 32, 1, 0xC0DE]); let q : List Byte := msg 0x0301 5 (pl [(csrBase + R.CFG_RESTART) % 2 ^ 32, (csrBase + R.CFG_RESTART) / 2 ^ 32, 1, 0xC0DE]); begins s 0x0301 q ∧ regDenied true (csrBase + R.CFG_RESTART) = true) := by decide +kernel
/-- RegisterAccessLogAndLongCommands: inputs of its clauses, part 2. -/
theorem witness_RegisterAccessLogAndLongCommands_2 :
    (let s : State := (req 0x302 (pl [(csrBase + R.TIM_TD_W0 31) % 2 ^ 32, (csrBase + R.TIM_TD_W0 31) / 2 ^ 32, 0xF0, 0xABCDE])).setReg (R.TIM_TD_W0 31) 0x1234; let q : List Byte := msg 0x0302 5 (pl [(csrBase + R.TIM_TD_W0 31) % 2 ^ 32, (csrBase + R.TIM_TD_W0 31) / 2 ^ 32, 0xF0, 0xABCDE]); begins s 0x0302 q ∧ (regAddr (s.mb 6).ver q).2 = csrBase + R.TIM_TD_W0 31 ∧ regDenied true (csrBase + R.TIM_TD_W0 31) = false) ∧
    (let s : State := req 0x0302 (pl [(csrBase + R.SEC_STAT) % 2 ^ 32, (csrBase + R.SEC_STAT) / 2 ^ 32, 0xF0, 0xABCDE]); let q : List Byte := msg 0x0302 5 (pl [(csrBase + R.SEC_STAT) % 2 ^ 32, (csrBase + R.SEC_STAT) / 2 ^ 32, 0xF0, 0xABCDE]); begins s 0x0302 q ∧ regDenied true (csrBase + R.SEC_STAT) = true) ∧
    (let s : State := let u := (req 0x300 (pl [(padBase + 8 * padShared + 12) % 2 ^ 32, (padBase + 8 * padShared + 12) / 2 ^ 32, 1])).setFlag (R.NI_CTRL 0x6A) F.NI_CTRL_EN true; u.padWriteBytes true (8 * padShared + 8) (leBytes 8 0x1122334455667788); let q : List Byte := msg 0x0300 5 (pl [(padBase + 8 * padShared + 12) % 2 ^ 32, (padBase + 8 * padShared + 12) / 2 ^ 32, 1]); begins s 0x0300 q ∧ (regAddr (s.mb 6).ver q).2 = padBase + (8 * padShared + 12) ∧ s.niOn 0x6A = true ∧ s.padBusy (padShared + 1) = false ∧ s.padDecode (padShared + 1) = (0x1122334455667788, 0)) ∧
    (let s : State := let u := (req 0x301 (pl [(padBase + 8 * padShared + 12) % 2 ^ 32, (padBase + 8 * padShared + 12) / 2 ^ 32, 1, 0xAABBCCDD])).setFlag (R.NI_CTRL 0x6A) F.NI_CTRL_EN true; u.padWriteBytes true (8 * padShared + 8) (leBytes 8 0x1122334455667788); let q : List Byte := msg 0x0301 5 (pl [(padBase + 8 * padShared + 12) % 2 ^ 32, (padBase + 8 * padShared + 12) / 2 ^ 32, 1, 0xAABBCCDD]); begins s 0x0301 q ∧ (regAddr (s.mb 6).ver q).2 = padBase + (8 * padShared + 12) ∧ s.niOn 0x6A = true ∧ s.padBusy (padShared + 1) = false ∧ s.padDecode (padShared + 1) = (0x1122334455667788, 0)) ∧
    (let s : State := let u := req 0x700 (pl [1]); { u with err := { u.err with fifo := [⟨3 * 2 ^ 32 + 5, ⟨45, 3, 9, 77⟩, 2⟩, ⟨6, ⟨46, 1, 8, 78⟩, 0⟩] } }; let q : List Byte := msg 0x0700 5 (pl [1]); begins s 0x0700 q ∧ netOn s) := by decide +kernel
/-- RegisterAccessLogAndLongCommands: inputs of its clauses, part 3. -/
theorem witness_RegisterAccessLogAndLongCommands_3 :
    (let s : State := let u := req 0x700 (pl [255]); { u with err := { u.err with fifo := [⟨3 * 2 ^ 32 + 5, ⟨45, 3, 9, 77⟩, 2⟩, ⟨6, ⟨46, 1, 8, 78⟩, 0⟩] } }; let q : List Byte := msg 0x0700 5 (pl [255]); begins s 0x0700 q ∧ netOn s) ∧
    (let s : State := let u := ((((req 0x701 (pl [0])).setReg R.ERR_DROPS 5).setReg (R.ERR_LOST 31) 0x00030002).setReg (R.ERR_FIRST_VALID 1) 0x80000000).setFlag R.ERR_STAT F.ERR_STAT_LOST true; { u with fw := { u.fw with drops := 2 ^ 32 - 3, lost := [(62, 7)] } }; let q : List Byte := msg 0x0701 5 (pl [0]); begins s 0x0701 q ∧ netOn s) ∧
    (let s : State := let u := ((((req 0x701 (pl [1])).setReg R.ERR_DROPS 5).setReg (R.ERR_LOST 31) 0x00030002).setReg (R.ERR_FIRST_VALID 1) 0x80000000).setFlag R.ERR_STAT F.ERR_STAT_LOST true; { u with fw := { u.fw with drops := 2 ^ 32 - 3, lost := [(62, 7)] } }; let q : List Byte := msg 0x0701 5 (pl [1]); begins s 0x0701 q ∧ netOn s) ∧
    (let s : State := (req 0x702 (pl [0x101, 0])).setFlag R.IST_RUN F.IST_RUN_BUSY true; let q : List Byte := msg 0x0702 5 (pl [0x101, 0]); begins s 0x0702 q ∧ s.istRunning = true) ∧
    (let s : State := ((req 0x702 (pl [0x200, 1])).setFlag R.IST_CTRL F.IST_CTRL_EN true).setFlag R.IST_CTRL F.IST_CTRL_SPAD_EN true; let q : List Byte := msg 0x0702 5 (pl [0x200, 1]); begins s 0x0702 q ∧ s.istRunning = false) := by decide +kernel
/-- RegisterAccessLogAndLongCommands: inputs of its clauses, part 4. -/
theorem witness_RegisterAccessLogAndLongCommands_4 :
    (let s : State := req 0x0703 (pl [0, 0x84000000, 0]); let q : List Byte := msg 0x0703 5 (pl [0, 0x84000000, 0]); begins s 0x0703 q ∧ msgWord q 0 % 16 = 0) ∧
    (let s : State := req 0x0703 (pl [1, 229375, 71]); let q : List Byte := msg 0x0703 5 (pl [1, 229375, 71]); begins s 0x0703 q ∧ msgWord q 0 % 16 = 1) ∧
    (let s : State := req 0x0704 (pl [1, 8, 0]); let q : List Byte := msg 0x0704 5 (pl [1, 8, 0]); begins s 0x0704 q ∧ msgWord q 0 % s.istW ≠ 0) ∧
    (let s : State := req 0x0704 (pl [64 * usr.istW, 2 * usr.istW, 0]); let q : List Byte := msg 0x0704 5 (pl [64 * usr.istW, 2 * usr.istW, 0]); begins s 0x0704 q ∧ msgWord q 0 % s.istW = 0 ∧ msgWord q 1 % s.istW = 0 ∧ 0 < msgWord q 1 ∧ s.marchFree = true) ∧
    (let s : State := let u := req 0x704 (pl [0, usr.istW, 1]); u.setMb 6 { u.mb 6 with step := 1 }; let q : List Byte := msg 0x0704 5 (pl [0, usr.istW, 1]); s.coreRuns = true ∧ (s.mb 6).cur = some q ∧ msgCmd q = 0x0704 ∧ ((s.mb 6).step = 0 → s.fwHeld 6 q = false) ∧ (∀ x ∈ (s.mb 6).reqs, msgFormed x = true) ∧ 0 < (s.mb 6).step ∧ s.marchFree = true ∧ msgWord q 1 ≤ s.istW * (s.mb 6).step) := by decide +kernel
/-- RegisterAccessLogAndLongCommands: inputs of its clauses, part 5. -/
theorem witness_RegisterAccessLogAndLongCommands_5 :
    (let s : State := req 0x0502 (pl [143, 5]); let q : List Byte := msg 0x0502 5 (pl [143, 5]); begins s 0x0502 q ∧ msgLen q = 8) ∧
    (let s : State := let u := ((codedUp 2).setFlag (R.LN_STAT 143) F.LN_STAT_RX_READY true).setFlag (R.NI_CTRL 0x68) F.NI_CTRL_EN true; let q : List Byte := msg 0x502 5 (pl [143, 0]); { u.setMb 6 { Mbx.empty with cur := some q, ver := 0x302 } with fw := { u.fw with sessions := [ses true] } }; let q : List Byte := msg 0x0502 5 (pl [143, 0]); begins s 0x0502 q ∧ msgLen q = 8) ∧
    (let s : State := let u := req 0x502 (pl [143, 0]); u.setMb 6 { u.mb 6 with step := 2 }; let q : List Byte := msg 0x0502 5 (pl [143, 0]); s.coreRuns = true ∧ (s.mb 6).cur = some q ∧ msgCmd q = 0x0502 ∧ ((s.mb 6).step = 0 → s.fwHeld 6 q = false) ∧ (∀ x ∈ (s.mb 6).reqs, msgFormed x = true) ∧ msgLen q = 8 ∧ (s.mb 6).step = 2 ∧ (s.mb 6).got = [] ∧ netOn s ∧ s.flag (R.LN_ES_CTRL 143) F.LN_ES_CTRL_BUSY = false) ∧
    (let s : State := req 0x0601 (pl [7]); let q : List Byte := msg 0x0601 5 (pl [7]); begins s 0x0601 q ∧ netOn s ∧ (s.mb 6).step = 0) ∧
    (let s : State := let u := ((req 0x601 (pl [7])).setFld (R.MC_STAT 7) F.MC_STAT_STATE 1).setFlag (R.MC_CTRL 7) F.MC_CTRL_EN true; let w := u.setMb 6 { u.mb 6 with step := 40 }; (List.range 72).foldl (fun x k => x.setReg (R.MT_WIN 7 k) (((0 : Word).fput F.MT_WIN_LEFT 53).fput F.MT_WIN_RIGHT 85)) w; let q : List Byte := msg 0x0601 5 (pl [7]); s.coreRuns = true ∧ (s.mb 6).cur = some q ∧ msgCmd q = 0x0601 ∧ ((s.mb 6).step = 0 → s.fwHeld 6 q = false) ∧ (∀ x ∈ (s.mb 6).reqs, msgFormed x = true) ∧ netOn s ∧ (s.mb 6).step = 40 ∧ s.mtIdle 7 = true ∧ s.mcState 7 = 1 ∧ s.prOn 7 = false ∧ (∀ k ∈ List.range 72, (s.csrPeek (R.MT_WIN 7 k)).fget F.MT_WIN_NONE = 0 ∧ (s.csrPeek (R.MT_WIN 7 k)).fget F.MT_WIN_LEFT + 24 ≤ (s.csrPeek (R.MT_WIN 7 k)).fget F.MT_WIN_RIGHT)) := by decide +kernel
/-- RegisterAccessLogAndLongCommands: inputs of its clauses, part 6. -/
theorem witness_RegisterAccessLogAndLongCommands_6 :
    (let s : State := let u := ((req 0x601 (pl [7])).setFld (R.MC_STAT 7) F.MC_STAT_STATE 1).setFlag (R.MC_CTRL 7) F.MC_CTRL_EN true; let w := u.setMb 6 { u.mb 6 with step := 40 }; w.setFld (R.MT_WIN 7 71) F.MT_WIN_NONE 1; let q : List Byte := msg 0x0601 5 (pl [7]); s.coreRuns = true ∧ (s.mb 6).cur = some q ∧ msgCmd q = 0x0601 ∧ ((s.mb 6).step = 0 → s.fwHeld 6 q = false) ∧ (∀ x ∈ (s.mb 6).reqs, msgFormed x = true) ∧ netOn s ∧ (s.mb 6).step = 40 ∧ s.mtIdle 7 = true ∧ s.mcState 7 = 1 ∧ (∃ k ∈ List.range 72, (s.csrPeek (R.MT_WIN 7 k)).fget F.MT_WIN_NONE = 1)) ∧
    (let s : State := let u := req 0x0703 (pl [1, 229375, 71 + 256 * 3 + 2 ^ 16]); u.setPadWord (padShared + 229375) { padZero with flips := [3] }; let q : List Byte := msg 0x0703 5 (pl [1, 229375, 71 + 256 * 3 + 2 ^ 16]); begins s 0x0703 q ∧ msgWord q 0 % 16 = 1) ∧
    (let s : State := req 0x0704 (pl [0, 1, 0]); let q : List Byte := msg 0x0704 5 (pl [0, 1, 0]); begins s 0x0704 q ∧ msgWord q 0 % s.istW = 0 ∧ msgWord q 1 % s.istW ≠ 0) ∧
    (let s : State := let u := req 0x0704 (pl [64 * usr.istW, 2 * usr.istW, 0]); { u with sec := { u.sec with wiping := true } }; let q : List Byte := msg 0x0704 5 (pl [64 * usr.istW, 2 * usr.istW, 0]); begins s 0x0704 q ∧ msgWord q 0 % s.istW = 0 ∧ msgWord q 1 % s.istW = 0 ∧ s.marchFree = false) ∧
    (let s : State := let u := req 0x0704 (pl [0, 2 * usr.istW, 0]); { u.setMb 6 { u.mb 6 with step := 1 } with sec := { u.sec with wiping := true } }; let q : List Byte := msg 0x0704 5 (pl [0, 2 * usr.istW, 0]); s.coreRuns = true ∧ (s.mb 6).cur = some q ∧ msgCmd q = 0x0704 ∧ ((s.mb 6).step = 0 → s.fwHeld 6 q = false) ∧ (∀ x ∈ (s.mb 6).reqs, msgFormed x = true) ∧ 0 < (s.mb 6).step ∧ s.marchFree = false) := by decide +kernel
/-- RegisterAccessLogAndLongCommands: inputs of its clauses, part 7. -/
theorem witness_RegisterAccessLogAndLongCommands_7 :
    (let s : State := let u := (req 0x302 (pl [(padBase + 8 * padShared + 12) % 2 ^ 32, (padBase + 8 * padShared + 12) / 2 ^ 32, 0xFFFF, 0xAABBCCDD])).setFlag (R.NI_CTRL 0x6A) F.NI_CTRL_EN true; u.padWriteBytes true (8 * padShared + 8) (leBytes 8 0x1122334455667788); let q : List Byte := msg 0x0302 5 (pl [(padBase + 8 * padShared + 12) % 2 ^ 32, (padBase + 8 * padShared + 12) / 2 ^ 32, 0xFFFF, 0xAABBCCDD]); begins s 0x0302 q ∧ (regAddr (s.mb 6).ver q).2 = padBase + (8 * padShared + 12) ∧ s.niOn 0x6A = true ∧ s.padBusy (padShared + 1) = false ∧ s.padDecode (padShared + 1) = (0x1122334455667788, 0)) ∧
    (let s : State := let u := (req 0x302 (pl [(padBase + 8 * padShared + 8) % 2 ^ 32, (padBase + 8 * padShared + 8) / 2 ^ 32, 0xFFFF, 0xAABBCCDD])).setFlag (R.NI_CTRL 0x6A) F.NI_CTRL_EN true; u.padWriteBytes true (8 * padShared + 8) (leBytes 8 0x1122334455667788); let q : List Byte := msg 0x0302 5 (pl [(padBase + 8 * padShared + 8) % 2 ^ 32, (padBase + 8 * padShared + 8) / 2 ^ 32, 0xFFFF, 0xAABBCCDD]); begins s 0x0302 q ∧ (regAddr (s.mb 6).ver q).2 = padBase + (8 * padShared + 8) ∧ s.niOn 0x6A = true ∧ s.padBusy (padShared + 1) = false ∧ s.padDecode (padShared + 1) = (0x1122334455667788, 0)) ∧
    (let s : State := let u := (req 0x700 (pl [1])).setReg (R.NI_CTRL 0x6C) 0; { u with err := { u.err with fifo := [⟨6, ⟨46, 1, 8, 78⟩, 0⟩] } }; let q : List Byte := msg 0x0700 5 (pl [1]); s.coreRuns = true ∧ (s.mb 6).cur = some q ∧ msgCmd q = 0x0700 ∧ ((s.mb 6).step = 0 → s.fwHeld 6 q = false) ∧ (∀ x ∈ (s.mb 6).reqs, msgFormed x = true) ∧ s.niOn 0x6C = false) ∧
    (let s : State := (req 0x701 (pl [1])).setReg (R.NI_CTRL 0x68) 0; let q : List Byte := msg 0x0701 5 (pl [1]); s.coreRuns = true ∧ (s.mb 6).cur = some q ∧ msgCmd q = 0x0701 ∧ ((s.mb 6).step = 0 → s.fwHeld 6 q = false) ∧ (∀ x ∈ (s.mb 6).reqs, msgFormed x = true) ∧ s.niOn 0x68 = false) := by decide +kernel
/-- InterruptsArePendingClaimedAndCompleted: inputs of its clauses, part 1. -/
theorem witness_InterruptsArePendingClaimedAndCompleted_1 :
    (let s : State := State.reset; s.boot.inReset = true) ∧
    (let s : State := usr; s.boot.inReset = false ∧ pulseSource 49 = true) ∧
    (let s : State := { usr with ic := { usr.ic with asleep := true, latch := [2] } }; s.boot.inReset = false ∧ pulseSource 49 = true ∧ s.ic.asleep = true) ∧
    (let s : State := (usr.setFlag R.ERR_STAT F.ERR_STAT_FE true); s.boot.inReset = false ∧ pulseSource 0 = false ∧ s.levelOf 0 = true ∧ s.inService 0 = false ∧ reservedSource 0 = false) ∧
    (let s : State := usr; s.boot.inReset = false ∧ pulseSource 511 = false ∧ s.levelOf 511 = false) := by decide +kernel
/-- InterruptsArePendingClaimedAndCompleted: inputs of its clauses, part 2. -/
theorem witness_InterruptsArePendingClaimedAndCompleted_2 :
    (let s : State := { usr with ic := { usr.ic with userHigh := [1023] } }; s.boot.inReset = false) ∧
    (let s : State := usr.setFlag (R.IC_SRC 1023) F.IC_SRC_TYPE true; s.boot.inReset = false ∧ s.heldIn (s.lineRegion 511) = false ∧ s.bit R.SYS_PD_STAT 31 = false ∧ 4 ≤ s.fld R.CFG_BOOT_STAT F.CFG_BOOT_STAT_STEP ∧ s.flag (R.IC_SRC 1023) F.IC_SRC_TYPE = true ∧ s.ic.userHigh.has 1023 = false) ∧
    (let s : State := let u := usr.setFlag (R.IC_SRC 1023) F.IC_SRC_TYPE true; { u with ic := { u.ic with userHigh := [1023] } }; s.boot.inReset = false ∧ 4 ≤ s.fld R.CFG_BOOT_STAT F.CFG_BOOT_STAT_STEP ∧ s.heldIn (s.lineRegion 511) = false ∧ s.bit R.SYS_PD_STAT 31 = false ∧ s.flag (R.IC_SRC 1023) F.IC_SRC_TYPE = true ∧ s.ic.userHigh.has 1023 = true) ∧
    (let s : State := { usr with ic := { usr.ic with userHigh := [1023] } }; s.boot.inReset = false ∧ 4 ≤ s.fld R.CFG_BOOT_STAT F.CFG_BOOT_STAT_STEP ∧ s.heldIn (s.lineRegion 511) = false ∧ s.bit R.SYS_PD_STAT 31 = false ∧ s.flag (R.IC_SRC 1023) F.IC_SRC_TYPE = false ∧ s.inService 1023 = false) ∧
    (let s : State := let u := (((tgt 0x68).setFlag (R.IC_SRC 49) F.IC_SRC_EN true).setFld (R.IC_SRC 49) F.IC_SRC_TARGET 7).setFlag (R.IC_SRC 2) F.IC_SRC_EN true; { u with ic := { u.ic with pending := [2, 49, 1023] } }; mayR s 0x68 (R.IC_TGT_CLAIM 7) ∧ s.halted = false ∧ s.ic.asleep = false ∧ s.ic.pending.Pairwise (· < ·) ∧ s.presentable 7 49 = true ∧ (∀ j ∈ List.range 49, s.presentable 7 j = false)) := by decide +kernel
/-- InterruptsArePendingClaimedAndCompleted: inputs of its clauses, part 3. -/
theorem witness_InterruptsArePendingClaimedAndCompleted_3 :
    (let s : State := { tgt 0x68 with ic := { (tgt 0x68).ic with pending := [2, 49, 1023] } }; mayR s 0x68 (R.IC_TGT_CLAIM 7) ∧ s.halted = false ∧ s.ic.asleep = false ∧ (∀ n ∈ s.ic.pending, s.presentable 7 n = false)) ∧
    (let s : State := usr; mayR s 0x6B (R.IC_TGT_CLAIM 7) ∧ s.halted = false ∧ s.ic.asleep = false) ∧
    (let s : State := (tgt 0x45).setFlag R.DBG_STAT F.DBG_STAT_HALTED true; mayR s 0x45 (R.IC_TGT_CLAIM 7) ∧ s.halted = true) ∧
    (let s : State := let u := (((tgt 0x68).setFlag R.ERR_STAT F.ERR_STAT_FE true).setFld (R.IC_HOLDOFF 0) F.IC_HOLDOFF_TIME 5); { u with ic := { u.ic with svc := [(7, some 0)] } }; let v : Word := 0; mayW s 0x68 (R.IC_TGT_COMPLETE 7) ∧ s.halted = false ∧ s.ic.asleep = false ∧ s.service 7 = some (v.fget F.IC_TGT_COMPLETE_SOURCE) ∧ (∀ p ∈ s.ic.svc, p.1 ≠ 7 → p.2 ≠ some (v.fget F.IC_TGT_COMPLETE_SOURCE))) ∧
    (let s : State := let u := (tgt 0x68).setFld (R.IC_HOLDOFF 63) F.IC_HOLDOFF_TIME 5; { u with ic := { u.ic with svc := [(3, some 9), (7, some 1023)] } }; let v : Word := 1023; mayW s 0x68 (R.IC_TGT_COMPLETE 7) ∧ s.halted = false ∧ s.ic.asleep = false ∧ s.service 7 = some (v.fget F.IC_TGT_COMPLETE_SOURCE) ∧ (∀ p ∈ s.ic.svc, p.1 ≠ 7 → p.2 ≠ some (v.fget F.IC_TGT_COMPLETE_SOURCE))) := by decide +kernel
/-- InterruptsArePendingClaimedAndCompleted: inputs of its clauses, part 4. -/
theorem witness_InterruptsArePendingClaimedAndCompleted_4 :
    (let s : State := { tgt 0x68 with ic := { (tgt 0x68).ic with svc := [(7, some 1022)] } }; let v : Word := 1023; mayW s 0x68 (R.IC_TGT_COMPLETE 7) ∧ s.halted = false ∧ s.ic.asleep = false ∧ s.service 7 ≠ some (v.fget F.IC_TGT_COMPLETE_SOURCE)) ∧
    (let s : State := tgt 0x44; s.ownsTarget 0x45 7 = false ∧ s.reaches 0x45 (R.IC_TGT_COMPLETE 7) = true) ∧
    (let s : State := tgt 0x44; s.ownsTarget 0x45 7 = false ∧ s.reaches 0x45 (R.IC_TGT_CLAIM 7) = true ∧ (0x45 : Nat) ≠ 0x6B) ∧
    (let s : State := usr; let v : Word := (0x1 : Word).fput F.IC_SRC_SW_PEND 1; mayW s 0x68 (R.IC_SRC 1023) ∧ s.ic.asleep = false ∧ reservedSource 1023 = false ∧ v.fget F.IC_SRC_DISCARD = 0) ∧
    (let s : State := { usr with ic := { usr.ic with pending := [3, 507], swPend := [507] } }; let v : Word := (0x1 : Word).fput F.IC_SRC_DISCARD 1; mayW s 0x68 (R.IC_SRC 507) ∧ s.ic.asleep = false ∧ reservedSource 507 = false ∧ v.fget F.IC_SRC_SW_PEND = 0 ∧ s.inService 507 = false ∧ reservedSource 507 = false) := by decide +kernel
/-- InterruptsArePendingClaimedAndCompleted: inputs of its clauses, part 5. -/
theorem witness_InterruptsArePendingClaimedAndCompleted_5 :
    (let s : State := { usr with ic := { usr.ic with pending := [3], swPend := [3] } }; let v : Word := (0x1 : Word).fput F.IC_SRC_DISCARD 1; mayW s 0x68 (R.IC_SRC 511) ∧ s.ic.asleep = false ∧ reservedSource 511 = true) ∧
    (let s : State := { usr with ic := { usr.ic with svc := [(7, some 49)], pending := [49], swPend := [49] } }; let v : Word := (0x1 : Word).fput F.IC_SRC_DISCARD 1; mayW s 0x68 (R.IC_SRC 49) ∧ s.ic.asleep = false ∧ reservedSource 49 = false ∧ v.fget F.IC_SRC_SW_PEND = 0 ∧ s.inService 49 = true) ∧
    (let s : State := { usr with ic := { usr.ic with holdoff := [2, 63] } }; s.halted = false) ∧
    (let s : State := (usr.setFlag R.DBG_STAT F.DBG_STAT_HALTED true); s.halted = true) ∧
    (let s : State := usr.setFlag R.IC_CTRL F.IC_CTRL_SLEEP_EN true; s.flag R.IC_CTRL F.IC_CTRL_SLEEP_EN = true ∧ s.halted = false ∧ s.ic.pending = [] ∧ (∀ p ∈ s.ic.svc, p.2 = none) ∧ s.ic.holdoff = [] ∧ s.err.waiting = [] ∧ s.ic.latch = []) := by decide +kernel
/-- InterruptsArePendingClaimedAndCompleted: inputs of its clauses, part 6. -/
theorem witness_InterruptsArePendingClaimedAndCompleted_6 :
    (let s : State := let u := usr.setFlag R.IC_CTRL F.IC_CTRL_SLEEP_EN true; { u with ic := { u.ic with svc := [(7, some 3)] } }; ¬ (∀ p ∈ s.ic.svc, p.2 = none)) ∧
    (let s : State := { usr with ic := { usr.ic with asleep := true, latch := [3, 49, 1023], pending := [5] } }; s.halted = false ∧ s.ic.asleep = true) ∧
    (let s : State := usr; s.ic.asleep = false) ∧
    (let s : State := let u := { usr with ic := { usr.ic with pending := [3, 1023], swPend := [1023], userHigh := [1023] } }; u; let v : Word := (0x1 : Word).fput F.IC_SRC_DISCARD 1; mayW s 0x68 (R.IC_SRC 1023) ∧ s.ic.asleep = false ∧ reservedSource 1023 = false ∧ v.fget F.IC_SRC_SW_PEND = 0 ∧ s.inService 1023 = false) ∧
    (let s : State := usr; let v : Word := (0x1 : Word).fput F.IC_SRC_SW_PEND 1; mayW s 0x68 (R.IC_SRC 511) ∧ s.ic.asleep = false ∧ reservedSource 511 = true) := by decide +kernel
/-- ReportsEnterAndLeaveTheLog: inputs of its clauses, part 1. -/
theorem witness_ReportsEnterAndLeaveTheLog_1 :
    (let s : State := let u := tim; { u with err := { u.err with waiting := [⟨0, ⟨300, 1, 4, 9⟩, 0⟩, ⟨0, ⟨45, 2, 0x11, 7⟩, 3⟩, ⟨0, ⟨45, 1, 0x11, 7⟩, 0⟩] } }; s.err.waiting = [⟨0, ⟨300, 1, 4, 9⟩, 0⟩] ++ ⟨0, ⟨45, 2, 0x11, 7⟩, 3⟩ :: [⟨0, ⟨45, 1, 0x11, 7⟩, 0⟩] ∧ s.halted = false ∧ s.boot.inReset = false ∧ s.ic.asleep = false ∧ s.err.fifo.length < 60) ∧
    (let s : State := let u := tim.setReg R.ERR_COUNT 0xFFFFFFFF; { u with err := { u.err with waiting := [⟨0, ⟨45, 2, 0x11, 7⟩, 3⟩], fifo := List.replicate 60 ⟨0, ⟨46, 2, 0x11, 7⟩, 0⟩ } }; s.err.waiting = [] ++ ⟨0, ⟨45, 2, 0x11, 7⟩, 3⟩ :: [] ∧ s.halted = false ∧ s.boot.inReset = false ∧ s.ic.asleep = false ∧ (∀ e ∈ s.err.fifo, e.rpt ≠ ⟨45, 2, 0x11, 7⟩) ∧ ¬ (s.err.fifo.length < 60 ∨ ((2 : Nat) = 3 ∧ s.err.fifo.length < 64))) ∧
    (let s : State := let u := tim; { u with err := { u.err with waiting := [⟨0, ⟨45, 3, 0x11, 7⟩, 3⟩], fifo := List.replicate 63 ⟨0, ⟨46, 2, 0x11, 7⟩, 0⟩ } }; s.err.waiting = [] ++ ⟨0, ⟨45, 3, 0x11, 7⟩, 3⟩ :: [] ∧ s.halted = false ∧ s.boot.inReset = false ∧ s.ic.asleep = false ∧ (∀ e ∈ s.err.fifo, e.rpt ≠ ⟨45, 3, 0x11, 7⟩) ∧ ((3 : Nat) = 3 ∧ s.err.fifo.length < 64)) ∧
    (let s : State := let u := tim; { u with err := { u.err with waiting := [⟨0, ⟨45, 2, 0x11, 7⟩, 3⟩], fifo := [⟨1, ⟨46, 2, 0x11, 7⟩, 0⟩, ⟨2, ⟨45, 2, 0x11, 7⟩, 252⟩] } }; s.err.waiting = [] ++ ⟨0, ⟨45, 2, 0x11, 7⟩, 3⟩ :: [] ∧ s.halted = false ∧ s.boot.inReset = false ∧ s.ic.asleep = false ∧ s.err.fifo = [⟨1, ⟨46, 2, 0x11, 7⟩, 0⟩] ++ ⟨2, ⟨45, 2, 0x11, 7⟩, 252⟩ :: [] ∧ (∀ x ∈ s.err.fifo.take 1, x.rpt ≠ ⟨45, 2, 0x11, 7⟩)) ∧
    (let s : State := usr; s.err.waiting = []) := by decide +kernel
/-- ReportsEnterAndLeaveTheLog: inputs of its clauses, part 2. -/
theorem witness_ReportsEnterAndLeaveTheLog_2 :
    (let s : State := { usr with err := { usr.err with fifo := [⟨3 * 2 ^ 32 + 5, ⟨45, 3, 9, 77⟩, 2⟩, ⟨6, ⟨46, 1, 8, 78⟩, 0⟩] } }; mayR s 0x68 (R.ERR_POP0) ∧ s.halted = false ∧ s.ic.asleep = false ∧ s.err.fifo ≠ []) ∧
    (let s : State := usr; mayR s 0x68 (R.ERR_POP0) ∧ s.halted = false ∧ s.ic.asleep = false ∧ s.err.fifo = []) ∧
    (let s : State := usr; mayR s 0x6B (R.ERR_POP0) ∧ s.halted = false ∧ s.ic.asleep = false) ∧
    (let s : State := { State.reset with err := { State.reset.err with waiting := [⟨0, ⟨45, 2, 0x11, 7⟩, 3⟩] } }; s.boot.inReset = true) := by decide +kernel
/-- WipesTamperAndFuses: inputs of its clauses, part 1. -/
theorem witness_WipesTamperAndFuses_1 :
    (let s : State := let u := workIn 5 [] true; { u with sec := { u.sec with attest := some 7, engine := [(.mailbox, 2)] }, fw := { u.fw with sessions := [{ ses true with hostNonce := [1], devNonce := [2] }] } }; mayW s 0x68 (R.SEC_WIPE) ∧ s.sec.wiping = false) ∧
    (let s : State := { usr with sec := { usr.sec with wiping := true } }; mayW s 0x68 (R.SEC_WIPE) ∧ s.sec.wiping = true) ∧
    (let s : State := let u := (usr.padWriteBytes true (8 * padSaggar - 8) (List.replicate 16 7)).setFld R.SEC_WIPE F.SEC_WIPE_COUNT 65535; { u with sec := { u.sec with wiping := true, merged := 2 } }; s.sec.wiping = true) ∧
    (let s : State := usr; s.sec.wiping = false) ∧
    (let s : State := let u := workIn 5 [] true; ((u.setFlag R.DBG_STAT F.DBG_STAT_HALTED true)).setReg R.SYS_SUPPLY 0; let a : Nat := s.tamperAction 5; s.boot.inReset = false ∧ (s.mb 6).cur = some (msg 5 5 []) ∧ (∀ x ∈ (s.mb 6).reqs, msgFormed x = true)) := by decide +kernel
/-- WipesTamperAndFuses: inputs of its clauses, part 2. -/
theorem witness_WipesTamperAndFuses_2 :
    (let s : State := let u := workIn 5 [] true; { u with fuses := { u.fuses with policy := 3 * 4 ^ 5 } }; s.boot.inReset = false ∧ s.halted = false ∧ silent s (1) ∧ s.tamperAction 5 = 3 ∧ (s.phase ≠ 1 ∨ s.boot.fw = true)) ∧
    (let s : State := usr; s.boot.inReset = false ∧ s.tamperAction 5 = 0 ∧ s.halted = false ∧ silent s (1)) ∧
    (let s : State := State.reset; s.boot.inReset = true) ∧
    (let s : State := { usr with fuses := { usr.fuses with lc := 3 } }; mayW s 0x68 (R.SEC_DBG)) ∧
    (let s : State := usr.setFlag R.SYS_SUPPLY F.SYS_SUPPLY_FUSE true; let v : Word := (0 : Word).fput F.SEC_FUSE_CTRL_FIELD 0x27; mayW s 0x68 (R.SEC_FUSE_CTRL) ∧ s.sec.prog = none ∧ s.flag R.SYS_SUPPLY F.SYS_SUPPLY_FUSE = true ∧ fuseWidth (v.fget F.SEC_FUSE_CTRL_FIELD) ≠ 0) := by decide +kernel
/-- WipesTamperAndFuses: inputs of its clauses, part 3. -/
theorem witness_WipesTamperAndFuses_3 :
    (let s : State := usr.setFlag R.SYS_SUPPLY F.SYS_SUPPLY_FUSE false; let v : Word := (0 : Word).fput F.SEC_FUSE_CTRL_FIELD 0x27; mayW s 0x68 (R.SEC_FUSE_CTRL) ∧ s.flag R.SYS_SUPPLY F.SYS_SUPPLY_FUSE = false) ∧
    (let s : State := let u := work 0x802 0 []; { u with sec := { u.sec with prog := some ⟨0x27, 2 ^ 256 + 5, 2, some 6⟩, fdata := [(0, 1)] }, fuses := { u.fuses with skey := [(7, 2)] } }; let q : List Byte := msg 0x802 0 []; s.sec.prog = some ⟨0x27, 2 ^ 256 + 5, 2, some 6⟩ ∧ (s.mb 6).cur = some q) ∧
    (let s : State := { usr with sec := { usr.sec with prog := some ⟨0x13, 5, 0, none⟩ }, fuses := { usr.fuses with okey := [(3, 2)] } }; s.sec.prog = some ⟨0x13, 5, 0, none⟩) ∧
    (let s : State := let u := workIn 5 [] true; { u with sec := { u.sec with prog := some ⟨0, 1, 0, none⟩ } }; s.sec.prog = some ⟨0, 1, 0, none⟩) ∧
    (let s : State := let u := workIn 5 [] true; { u with sec := { u.sec with prog := some ⟨0, 1, 0, none⟩ }, fuses := { u.fuses with lc := 3 } }; s.sec.prog = some ⟨0, 1, 0, none⟩) := by decide +kernel
/-- WipesTamperAndFuses: inputs of its clauses, part 4. -/
theorem witness_WipesTamperAndFuses_4 :
    (let s : State := let u := usr; { u with sec := { u.sec with prog := some ⟨0x50, 9, 0, none⟩ } }; s.sec.prog = some ⟨0x50, 9, 0, none⟩) ∧
    (let s : State := let u := work 0x802 0 []; { u with sec := { u.sec with prog := some ⟨0x27, 5, 2, some 6⟩ } }; let q : List Byte := msg 0x802 0 []; s.sec.prog = some ⟨0x27, 5, 2, some 6⟩ ∧ (s.mb 6).cur = some q) ∧
    (let s : State := let u := usr.setFlag R.SYS_SUPPLY F.SYS_SUPPLY_FUSE true; { u with sec := { u.sec with prog := some ⟨0x27, 5, 2, none⟩ } }; s.sec.prog = some ⟨0x27, 5, 2, none⟩) ∧
    (let s : State := usr.setFlag R.SYS_SUPPLY F.SYS_SUPPLY_FUSE true; s.sec.prog = none) := by decide +kernel
/-- SelfTestSlices: inputs of its clauses, part 1. -/
theorem witness_SelfTestSlices_1 :
    (let s : State := ((usr.setFlag R.IST_CTRL F.IST_CTRL_EN true).setFlag R.IST_CTRL F.IST_CTRL_SPAD_EN true); s.boot.inReset = false ∧ s.halted = false ∧ s.sweeping = false ∧ s.flag R.IST_CTRL F.IST_CTRL_EN = true ∧ s.flag R.IST_CTRL F.IST_CTRL_SPAD_EN = true) ∧
    (let s : State := (((((usr.setFld R.IST_STAT F.IST_STAT_PASS_CNT 65535).setReg R.IST_CTRL 0).setFlag R.IST_CTRL F.IST_CTRL_EN true))); s.boot.inReset = false ∧ s.halted = false ∧ s.sweeping = false ∧ s.flag R.IST_CTRL F.IST_CTRL_EN = true ∧ s.istTargets = [] ∧ (∀ q ∈ s.ist.slices, q.run = true)) ∧
    (let s : State := usr; s.flag R.IST_CTRL F.IST_CTRL_EN = false) ∧
    (let s : State := let u := ((usr.setFlag R.IST_CTRL F.IST_CTRL_EN true).setFlag R.IST_CTRL F.IST_CTRL_SPAD_EN true).setFlag R.IST_STAT F.IST_STAT_BUSY true; { u with ist := { u.ist with next := [(0, some 0)] } }; s.boot.inReset = false ∧ s.halted = false ∧ s.istRunning = false ∧ s.sweeping = true ∧ s.flag R.IST_CTRL F.IST_CTRL_EN = true ∧ s.istNext 0 = some 0 ∧ s.istFits 0 0 = true) ∧
    (let s : State := let w := (List.range 64).foldl (fun x n => (x.setReg (R.NOC_STAT n) 0x3FFF).setFld (R.NOC_PORT_EN n) F.NOC_PORT_EN_EN 0x3FFF) usr; let u := ((w.setReg R.IST_CTRL 0).setFlag R.IST_CTRL F.IST_CTRL_EN true); let v := (u.setFlag R.IST_STAT F.IST_STAT_BUSY true).setFld R.IST_CTRL F.IST_CTRL_PWR_MAX 255; { v with ist := { v.ist with next := [(1, some 0)] } }; s.boot.inReset = false ∧ s.halted = false ∧ s.istRunning = false ∧ s.sweeping = true ∧ s.flag R.IST_CTRL F.IST_CTRL_EN = true ∧ s.istNext 0 = none ∧ s.istNext 1 = some 8 ∧ s.istFits 1 8 = true) := by decide +kernel
/-- SelfTestSlices: inputs of its clauses, part 2. -/
theorem witness_SelfTestSlices_2 :
    (let s : State := let u := (((usr.setReg R.IST_CTRL 0).setFlag R.IST_CTRL F.IST_CTRL_EN true).setFlag R.IST_STAT F.IST_STAT_BUSY true).setFld R.IST_CTRL F.IST_CTRL_PWR_MAX 255; let v := u.setFld (R.MC_STAT 7) F.MC_STAT_STATE 3; { v.setMc 7 { v.mcOf 7 with arrived := [3] } with ist := { v.ist with next := [(2, some 5)] } }; s.boot.inReset = false ∧ s.halted = false ∧ s.istRunning = false ∧ s.sweeping = true ∧ s.flag R.IST_CTRL F.IST_CTRL_EN = true ∧ s.istNext 0 = none ∧ s.istNext 1 = none ∧ s.istNext 2 = some 112 ∧ s.istFits 2 112 = true ∧ s.mcqEmpty 112 = true) ∧
    (let s : State := let u := (((usr.setReg R.IST_CTRL 0).setFlag R.IST_CTRL F.IST_CTRL_EN true).setFlag R.IST_STAT F.IST_STAT_BUSY true).setFld R.IST_CTRL F.IST_CTRL_PWR_MAX 255; { u with ist := { u.ist with retry := [(1, 15, 2), (0, 959, 3)] } }; s.boot.inReset = false ∧ s.halted = false ∧ s.istRunning = false ∧ s.sweeping = true ∧ s.flag R.IST_CTRL F.IST_CTRL_EN = true ∧ s.istNext 0 = none ∧ s.istNext 1 = none ∧ s.istNext 2 = none ∧ (s.ist.retry.filter (fun x => !s.istPassed x.1 x.2.1)).find? (fun x => s.istFits x.1 x.2.1) = some (0, 959, 3) ∧ s.istRunnable 0 959 = true) ∧
    (let s : State := let u := ((usr.setFlag R.IST_CTRL F.IST_CTRL_EN true).setFlag R.IST_CTRL F.IST_CTRL_SPAD_EN true).setFlag R.IST_RUN F.IST_RUN_BUSY true; { u with ist := { u.ist with tgt := 0, left := 2, unit := 3 } }; s.boot.inReset = false ∧ s.halted = false ∧ s.istRunning = true ∧ s.ist.left ≠ 0 ∧ s.istRunnable s.ist.tgt s.ist.unit = true ∧ s.istFits s.ist.tgt s.ist.unit = true) ∧
    (let s : State := let u := usr.setFlag R.IST_RUN F.IST_RUN_BUSY true; { u with ist := { u.ist with again := [(0, 7, 2)] } }; s.boot.inReset = false ∧ s.halted = false ∧ s.istRunning = true ∧ s.ist.left = 0 ∧ s.ist.again.find? (fun x => s.istFits x.1 x.2.1) = some (0, 7, 2) ∧ s.istRunnable 0 7 = true) ∧
    (let s : State := let u := (usr.setFlag R.IST_RUN F.IST_RUN_BUSY true).setFld R.IST_RUN_RES F.IST_RUN_RES_SKIPPED 255; { u with ist := { u.ist with tgt := 1, unit := 14, left := 1 } }; s.boot.inReset = false ∧ s.halted = false ∧ s.istRunning = true ∧ s.ist.left = 1 ∧ s.istRunnable s.ist.tgt s.ist.unit = false ∧ s.ist.again = [] ∧ (∀ q ∈ s.ist.slices, q.run = false)) := by decide +kernel
/-- SelfTestSlices: inputs of its clauses, part 3. -/
theorem witness_SelfTestSlices_3 :
    (let s : State := usr; s.istRunning = false ∧ (s.sweeping = false ∨ s.flag R.IST_CTRL F.IST_CTRL_EN = false)) ∧
    (let s : State := ((usr.setFlag R.IST_CTRL F.IST_CTRL_EN true).setFlag R.IST_CTRL F.IST_CTRL_SPAD_EN true).setFld R.IST_RUN_FIRST F.IST_RUN_FIRST_UNIT 5; let v : Word := (0 : Word).fput F.IST_RUN_COUNT 255; mayW s 0x68 (R.IST_RUN) ∧ s.istRunning = false ∧ v.fget F.IST_RUN_TARGET ≠ 3 ∧ s.istRunnable (v.fget F.IST_RUN_TARGET) (s.fld R.IST_RUN_FIRST F.IST_RUN_FIRST_UNIT) = true) ∧
    (let s : State := usr.setFld R.IST_RUN_FIRST F.IST_RUN_FIRST_UNIT 14; let v : Word := (0 : Word).fput F.IST_RUN_TARGET 1; mayW s 0x68 (R.IST_RUN) ∧ s.istRunning = false ∧ v.fget F.IST_RUN_TARGET ≠ 3 ∧ s.istRunnable (v.fget F.IST_RUN_TARGET) (s.fld R.IST_RUN_FIRST F.IST_RUN_FIRST_UNIT) = false ∧ v.fget F.IST_RUN_COUNT ≤ 1 ∧ (∀ q ∈ s.ist.slices, q.run = false)) ∧
    (let s : State := usr; let v : Word := (0 : Word).fput F.IST_RUN_TARGET 3; mayW s 0x68 (R.IST_RUN) ∧ v.fget F.IST_RUN_TARGET = 3) ∧
    (let s : State := let u := (usr.setReg R.IST_FAIL_CNT 0xFFFFFFFF).setFlag R.IST_RUN F.IST_RUN_BUSY true; { u with ist := { u.ist with slices := [⟨0, 4, false, 1⟩, ⟨2, 5, true, 0⟩] } }; s.boot.inReset = false ∧ s.istSlice 2 = some ⟨2, 5, true, 0⟩ ∧ (⟨2, 5, true, 0⟩ : IstSlice).going = false ∧ s.istYields ⟨2, 5, true, 0⟩ = false ∧ silent s (50) ∧ s.ist.left = 0 ∧ s.ist.again = [] ∧ (∀ p ∈ s.ist.slices.erase ⟨2, 5, true, 0⟩, p.run = false)) := by decide +kernel
/-- SelfTestSlices: inputs of its clauses, part 4. -/
theorem witness_SelfTestSlices_4 :
    (let s : State := { usr with ist := { usr.ist with slices := [⟨0, 4, false, 1⟩, ⟨2, 5, true, 0⟩], retry := [(0, 4, 3)] } }; s.boot.inReset = false ∧ s.istSlice 0 = some ⟨0, 4, false, 1⟩ ∧ (⟨0, 4, false, 1⟩ : IstSlice).going = false ∧ s.istYields ⟨0, 4, false, 1⟩ = false) ∧
    (let s : State := { usr with ist := { usr.ist with slices := [⟨0, 4, false, 0⟩] } }; s.boot.inReset = false ∧ s.istSlice 0 = some ⟨0, 4, false, 0⟩ ∧ (⟨0, 4, false, 0⟩ : IstSlice).going = true) ∧
    (let s : State := { usr with ist := { usr.ist with slices := [⟨0, 4, false, 3⟩], retry := [(0, 4, 6)] } }; s.boot.inReset = false ∧ s.istSlice 0 = some ⟨0, 4, false, 3⟩ ∧ s.istYields ⟨0, 4, false, 3⟩ = true ∧ s.ist.tried false 0 4 < 7) ∧
    (let s : State := { usr with ist := { usr.ist with slices := [⟨0, 4, true, 3⟩], again := [(0, 4, 7)] } }; s.boot.inReset = false ∧ s.istSlice 0 = some ⟨0, 4, true, 3⟩ ∧ s.istYields ⟨0, 4, true, 3⟩ = true ∧ 7 ≤ s.ist.tried true 0 4 ∧ silent s (51)) ∧
    (let s : State := { usr with ist := { usr.ist with slices := [⟨1, 4, true, 0⟩] } }; s.boot.inReset = false ∧ s.istSlice 1 = some ⟨1, 4, true, 0⟩ ∧ s.ist.tried true 1 4 < 7) := by decide +kernel
/-- SelfTestSlices: inputs of its clauses, part 5. -/
theorem witness_SelfTestSlices_5 :
    (let s : State := { usr.setMc 0 { usr.mcOf 0 with arrived := [] } with ist := { usr.ist with slices := [⟨2, 4, true, 0⟩] } }; s.boot.inReset = false ∧ s.istSlice 2 = some ⟨2, 4, true, 0⟩ ∧ (2 : Nat) ≠ 1 ∧ s.istYields ⟨2, 4, true, 0⟩ = false) ∧
    (let s : State := usr; s.istSlice 2 = none) ∧
    (let s : State := let u := (((((mce 1).setReg R.IST_CTRL 0).setFlag R.IST_CTRL F.IST_CTRL_EN true).setFlag R.IST_STAT F.IST_STAT_BUSY true).setFld R.IST_CTRL F.IST_CTRL_PWR_MAX 255).setMc 7 { (mce 1).mcOf 7 with q := ((mce 1).mcOf 7).q.map (fun e => { e with bank := 15 }) }; { u with ist := { u.ist with next := [(2, some 127)] } }; s.boot.inReset = false ∧ s.halted = false ∧ s.istRunning = false ∧ s.sweeping = true ∧ s.flag R.IST_CTRL F.IST_CTRL_EN = true ∧ s.istNext 0 = none ∧ s.istNext 1 = none ∧ s.istNext 2 = some 127 ∧ s.istFits 2 127 = true ∧ s.mcqEmpty 127 = false ∧ s.ist.retry = []) := by decide +kernel
/-- ScratchpadSectorPowerAndTemperature: inputs of its clauses, part 1. -/
theorem witness_ScratchpadSectorPowerAndTemperature_1 :
    (let s : State := usr.padWriteBytes true (8 * 524287) (leBytes 8 0x1122334455667788); s.halted = false ∧ s.padBusy 524287 = false ∧ s.padDecode 524287 = (0x1122334455667788, 0)) ∧
    (let s : State := { usr with pad := { usr.pad with words := [(524287, { padFresh 0x1122334455667788 with flips := [71] })] } }; s.padDecode 524287 = (0x1122334455667788, 1) ∧ s.padBusy 524287 = false ∧ s.halted = false ∧ silent s (48)) ∧
    (let s : State := { usr with pad := { usr.pad with words := [(524287, { padFresh 0x1122334455667788 with flips := [3, 71] })] } }; let d : BitVec 64 := (s.padDecode 524287).1; s.padDecode 524287 = (d, 2) ∧ s.padBusy 524287 = false ∧ s.halted = false ∧ silent s (48)) ∧
    (let s : State := usr; s.halted = false ∧ s.padBusy 524287 = false ∧ (leBytes 8 0x1122334455667788).length = 8) ∧
    (let s : State := usr.padWriteBytes true (8 * 524287) (leBytes 8 0x1122334455667788); s.padDecode 524287 = (0x1122334455667788, 0) ∧ s.halted = false ∧ s.padBusy 524287 = false) := by decide +kernel
/-- ScratchpadSectorPowerAndTemperature: inputs of its clauses, part 2. -/
theorem witness_ScratchpadSectorPowerAndTemperature_2 :
    (let s : State := usr; s.halted = false) ∧
    (let s : State := usr.setFlag R.DBG_STAT F.DBG_STAT_HALTED true; s.halted = true) ∧
    (let s : State := { usr with pad := { usr.pad with march := some ⟨524280, 8, true⟩ } }; s.padBusy 524287 = true) ∧
    (let s : State := let u := usr.padWriteBytes true (8 * 524287) (leBytes 8 0x1122334455667788); { u with pad := { u.pad with march := some ⟨524280, 8, true⟩ }, ist := { u.ist with slices := [⟨0, 4, false, 0⟩, ⟨2, 1, true, 0⟩] } }; s.pad.march = some ⟨524280, 8, true⟩ ∧ s.halted = false ∧ (∀ w ∈ s.pad.words, (s.padDecode w.1).2 = 0)) ∧
    (let s : State := let u := usr.padWriteBytes true (8 * 524279) (leBytes 16 0x11223344556677881122334455667788); { u with pad := { u.pad with march := some ⟨524280, 8, false⟩ }, ist := { u.ist with slices := [⟨0, 4, false, 0⟩, ⟨2, 1, true, 0⟩] } }; s.pad.march = some ⟨524280, 8, false⟩ ∧ s.halted = false) := by decide +kernel
/-- ScratchpadSectorPowerAndTemperature: inputs of its clauses, part 3. -/
theorem witness_ScratchpadSectorPowerAndTemperature_3 :
    (let s : State := { usr with pad := { usr.pad with march := some ⟨524280, 8, false⟩ }, ist := { usr.ist with slices := [⟨0, 4, false, 0⟩, ⟨2, 1, true, 0⟩] } }; s.pad.march = some ⟨524280, 8, false⟩ ∧ s.halted = false ∧ silent s (48)) ∧
    (let s : State := let u := usr.padWriteBytes true (8 * 524287) (leBytes 8 0x1122334455667788); { u with pad := { u.pad with march := some ⟨524280, 8, true⟩, window := some (8 * 524280, 64) }, ist := { u.ist with slices := [⟨0, 4, false, 0⟩, ⟨2, 1, true, 0⟩] } }; s.pad.march = some ⟨524280, 8, true⟩ ∧ s.inWindow (8 * 524287) = true ∧ s.padBusy 524287 = true ∧ (∀ w ∈ s.pad.words, (s.padDecode w.1).2 = 0) ∧ s.halted = false) ∧
    (let s : State := { usr with pad := { usr.pad with march := some ⟨524280, 8, true⟩ } }; s.pad.march = some ⟨524280, 8, true⟩ ∧ s.halted = false ∧ s.inWindow (8 * 524287) = false) ∧
    (let s : State := usr; s.pad.march = none) ∧
    (let s : State := fwOn 4; mayW s 0x68 (R.SYS_PD_REQ) ∧ s.user = false) := by decide +kernel
/-- ScratchpadSectorPowerAndTemperature: inputs of its clauses, part 4. -/
theorem witness_ScratchpadSectorPowerAndTemperature_4 :
    (let s : State := (region usr 31 31).setFence 62 0 |>.setFence 63 0; mayW s 0x68 (R.SYS_PD_REQ) ∧ s.user = true ∧ s.bit R.SYS_PD_BUSY 31 = false ∧ s.bit R.SYS_PD_STAT 31 = false ∧ (s.rg 31).minHold = false ∧ s.streaming 31 = false ∧ (s.rgnSectors 31).contains 31 = true) ∧
    (let s : State := ((region usr 31 31).setBit R.SYS_PD_STAT 31 true).setBit R.SYS_PD_REQ 31 true; mayW s 0x68 (R.SYS_PD_REQ) ∧ s.user = true ∧ s.bit R.SYS_PD_BUSY 31 = false ∧ s.bit R.SYS_PD_STAT 31 = true) ∧
    (let s : State := ((region usr 31 31).setBit R.SYS_PD_BUSY 31 true).setBit R.SYS_PD_REQ 31 true; s.bit R.SYS_PD_BUSY 31 = true ∧ s.bit R.SYS_PD_STAT 31 = false ∧ s.fence 62 = 2 ∧ s.fence 63 = 2) ∧
    (let s : State := usr; s.bit R.SYS_PD_BUSY 31 = false) ∧
    (let s : State := let u := (((region usr 31 31).setBit R.SYS_PD_BUSY 31 true).setBit R.SYS_PD_STAT 31 true).setReg (R.NI_CTRL 63) 0x80000055; u.setBmWord 31 255 1023 ⟨5, false, []⟩; s.bit R.SYS_PD_BUSY 31 = true ∧ s.bit R.SYS_PD_STAT 31 = true ∧ s.bit R.SYS_PD_REQ 31 = false) := by decide +kernel
/-- ScratchpadSectorPowerAndTemperature: inputs of its clauses, part 5. -/
theorem witness_ScratchpadSectorPowerAndTemperature_5 :
    (let s : State := usr; s.bit R.SYS_PD_STAT 31 = false) ∧
    (let s : State := (usr.setFld R.SYS_TEMP_ALM F.SYS_TEMP_ALM_TH 0x5000).setFld R.SYS_TEMP_MAX F.SYS_TEMP_MAX_VALUE 0xF000; let temp : BitVec 16 := 0x5000; signed 16 (s.fld R.SYS_TEMP_ALM F.SYS_TEMP_ALM_TH) ≤ temp.toInt) ∧
    (let s : State := (usr.setFld R.SYS_TEMP_ALM F.SYS_TEMP_ALM_TH 0x5000).setFld R.SYS_TEMP_MAX F.SYS_TEMP_MAX_VALUE 0xF000; let temp : BitVec 16 := 0x8000; temp.toInt < signed 16 (s.fld R.SYS_TEMP_ALM F.SYS_TEMP_ALM_TH)) ∧
    (let s : State := { usr with pad := { usr.pad with window := some (4096, 4096) } }; (18 : Nat) < 19) ∧
    (let s : State := ((region usr 31 31).setBit R.SYS_PD_BUSY 31 true).setFence 63 1; s.fence 63 ≠ 2) := by decide +kernel
/-- ScratchpadSectorPowerAndTemperature: inputs of its clauses, part 6. -/
theorem witness_ScratchpadSectorPowerAndTemperature_6 :
    (let s : State := ((region usr 31 31).setBit R.SYS_PD_BUSY 31 true); s.bit R.SYS_PD_BUSY 31 = true ∧ s.bit R.SYS_PD_STAT 31 = false ∧ s.fence 62 = 2 ∧ s.fence 63 = 2) ∧
    (let s : State := let u := ((((region usr 31 31).setBit R.SYS_PD_BUSY 31 true).setBit R.SYS_PD_STAT 31 true).setBit R.SYS_PD_REQ 31 true).setReg (R.NI_CTRL 63) 0x80000055; u.setBmWord 31 255 1023 ⟨5, false, []⟩; s.bit R.SYS_PD_BUSY 31 = true ∧ s.bit R.SYS_PD_STAT 31 = true) := by decide +kernel
/-- TestAccessPort: inputs of its clauses, part 1. -/
theorem witness_TestAccessPort_1 :
    (let s : State := jt false; s.tapLive = true) ∧
    (let s : State := let u := jt false; { u with board := { u.board with rev := 1 } }; s.tapLive = true) ∧
    (let s : State := jti true 0x20; s.tapLive = true ∧ s.bscan = false) ∧
    (let s : State := let u := jt false; (({ u with board := { u.board with startN := false } }).setReg (R.TIM_PPSO_CFG 2) 2).setPhase 6; s.tapLive = true ∧ s.bscan = false) ∧
    (let s : State := jt false; s.tapLive = true ∧ s.bscan = false) := by decide +kernel
/-- TestAccessPort: inputs of its clauses, part 2. -/
theorem witness_TestAccessPort_2 :
    (let s : State := let u := jti false 0; ({ u with csr := live.csr }).setFlag R.SEC_STAT F.SEC_STAT_DBG_OPEN false; s.tapLive = true ∧ s.bscan = true ∧ (∀ e ∈ List.range 16, s.skmState e ≠ 7 ∧ (s.skmState e = 0 → s.flag (R.SKM_ENG_CTRL e) F.SKM_ENG_CTRL_EN = false)) ∧ s.operates 143 = true ∧ s.locked 143 = false ∧ (∀ m ∈ List.range 143, s.operates m = false)) ∧
    (let s : State := let u := jt true; { u with board := { u.board with porstN := false } }; s.tapLive = false) ∧
    (let s : State := jt true; s.tapLive = true ∧ s.dbgOpen = true) ∧
    (let s : State := (jt true).setFlag R.DBG_STAT F.DBG_STAT_LOCK_BROKEN true; s.tapLive = true ∧ s.dbgOpen = true ∧ s.bscan = false) ∧
    (let s : State := jt true; s.tapLive = true ∧ s.dbgOpen = true ∧ s.bscan = false ∧ s.halted = false ∧ s.boot.inReset = false) := by decide +kernel
/-- TestAccessPort: inputs of its clauses, part 3. -/
theorem witness_TestAccessPort_3 :
    (let s : State := (jt true).setFlag R.DBG_STAT F.DBG_STAT_HALTED true; s.tapLive = true ∧ s.dbgOpen = true ∧ s.bscan = false ∧ s.halted = true ∧ s.boot.inReset = false ∧ s.ic.held = [] ∧ s.err.deferred = [] ∧ s.gate.kept = [] ∧ (∀ c ∈ List.range 8, (s.mcOf c).halt = false) ∧ (∀ e ∈ List.range 16, s.skmState e ≠ 7 ∧ (s.skmState e = 0 → s.flag (R.SKM_ENG_CTRL e) F.SKM_ENG_CTRL_EN = false)) ∧ s.phase ≠ 1 ∧ (s.phase = 3 → s.flag R.CFG_BOOT_STAT F.CFG_BOOT_STAT_CFG_DONE_IN = false)) ∧
    (let s : State := jt false; s.tapLive = true ∧ s.dbgOpen = false ∧ s.bscan = false ∧ silent s (510)) ∧
    (let s : State := let u := jti false 0x11; let w := (u.setFld R.CFG_BOOT_STAT F.CFG_BOOT_STAT_PHASE 1).setFld R.CFG_BOOT_STAT F.CFG_BOOT_STAT_MODE 4; { w with boot := { w.boot with fw := false } }; s.tap.ir = 0x11 ∧ s.boot.inReset = false ∧ s.mode = 4 ∧ s.dbg.scanning = false ∧ (s.phase = 6 → s.lc < 2) ∧ s.boot.fw = false ∧ s.loadOn .jtag = none) ∧
    (let s : State := let u := jti false 0x11; let w := (u.setFld R.CFG_BOOT_STAT F.CFG_BOOT_STAT_PHASE 2).setFld R.CFG_BOOT_STAT F.CFG_BOOT_STAT_MODE 4; { w with boot := { w.boot with fw := true, loads := [{ Load.start .jtag 1 0 with bytes := [7, 8] }, Load.start .mailbox 2 3] } }; s.tap.ir = 0x11 ∧ s.boot.inReset = false ∧ s.mode = 4 ∧ s.dbg.scanning = false ∧ (s.phase = 6 → s.lc < 2) ∧ s.boot.fw = true ∧ s.phase = 2 ∧ ((s.loadOn .jtag).map (fun l => (l.kind, l.bytes))) = some (1, [7, 8])) ∧
    (let s : State := let u := jti false 0x11; let w := (u.setFld R.CFG_BOOT_STAT F.CFG_BOOT_STAT_PHASE 5).setFld R.CFG_BOOT_STAT F.CFG_BOOT_STAT_MODE 4; { w with boot := { w.boot with fw := true } }; s.boot.fw = true ∧ s.phase ≠ 2) := by decide +kernel
/-- TestAccessPort: inputs of its clauses, part 4. -/
theorem witness_TestAccessPort_4 :
    (let s : State := let u := jti true 0x20; { u with tap := { u.tap with busy := some 1, data := 0x01020304, status := 6 } }; s.tap.ir = 0x20 ∧ s.dbgOpen = true ∧ s.boot.inReset = false ∧ s.tap.busy = some 1) ∧
    (let s : State := ((jti true 0x20).setFlag (R.NI_CTRL 0x6B) F.NI_CTRL_EN true).setFence 0 0; let a : BitVec 48 := BitVec.ofNat 48 (csrBase + R.SYS_TEMP + 2); s.tap.ir = 0x20 ∧ s.dbgOpen = true ∧ s.boot.inReset = false ∧ s.tap.busy = none ∧ s.niOpen 0x6B = true ∧ s.niOn 0x6B = true ∧ (∀ g ∈ s.noc.tags, g.ni ≠ 0x6B) ∧ (match s.nocDest 0x6B (a.toNat / 4 * 4) 3 with | .endp d _ => s.niRouteOf 0x6B d != 2 ^ 48 - 1 | _ => false) = true ∧ rspFlits cmdRd 3 ≤ s.poolFree 0x6B ∧ rspFlits cmdWr 3 ≤ s.poolFree 0x6B) ∧
    (let s : State := ((jti true 0x20).setFlag (R.NI_CTRL 0x6B) F.NI_CTRL_EN true).setFence 0 0; let a : BitVec 48 := BitVec.ofNat 48 (padBase + 8 * padShared + 4); s.tap.ir = 0x20 ∧ s.dbgOpen = true ∧ s.boot.inReset = false ∧ s.tap.busy = none ∧ s.niOpen 0x6B = true ∧ s.niOn 0x6B = true ∧ (∀ g ∈ s.noc.tags, g.ni ≠ 0x6B) ∧ (match s.nocDest 0x6B (a.toNat / 4 * 4) 3 with | .endp d _ => s.niRouteOf 0x6B d != 2 ^ 48 - 1 | _ => false) = true ∧ rspFlits cmdRd 3 ≤ s.poolFree 0x6B ∧ rspFlits cmdWr 3 ≤ s.poolFree 0x6B) ∧
    (let s : State := jti false 0x20; s.dbgOpen = false) ∧
    (let s : State := let u := { jti true 0x20 with noc := { usr.noc with done := [⟨0x6A, 0, 0, []⟩, ⟨0x6B, 0, 6, [1, 2, 3, 4]⟩] } }; { u with tap := { u.tap with busy := some 0, data := 9 } }; s.tap.busy = some 0 ∧ s.noc.done.find? (fun c => c.ni == 0x6B && c.ltag == 0) = some ⟨0x6B, 0, 6, [1, 2, 3, 4]⟩) := by decide +kernel
/-- TestAccessPort: inputs of its clauses, part 5. -/
theorem witness_TestAccessPort_5 :
    (let s : State := let u := { jti true 0x20 with noc := { usr.noc with done := [⟨0x6A, 0, 0, []⟩, ⟨0x6B, 1, 0, [1, 2, 3, 4]⟩] } }; { u with tap := { u.tap with busy := some 1, data := 9 } }; s.tap.busy = some 1 ∧ s.noc.done.find? (fun c => c.ni == 0x6B && c.ltag == 1) = some ⟨0x6B, 1, 0, [1, 2, 3, 4]⟩) ∧
    (let s : State := jti true 0x20; s.tap.busy = none) ∧
    (let s : State := let u := jt true; let w := (scr (mkKey 31 31 19 78)); ({ u with act := w.act }.setBmWord 31 255 3 ⟨5, false, []⟩).padWriteBytes true 64 [1, 2, 3, 4, 5, 6, 7, 8]; s.tapLive = true ∧ s.dbgOpen = true ∧ s.dbg.scanning = false ∧ s.boot.inReset = false) ∧
    (let s : State := let u := jt true; { u with dbg := { u.dbg with scanning := true } }; s.dbg.scanning = true ∧ s.sec.wiping = false) ∧
    (let s : State := jt true; s.dbg.scanning = false) := by decide +kernel
/-- TestAccessPort: inputs of its clauses, part 6. -/
theorem witness_TestAccessPort_6 :
    (let s : State := let u := jti false 0; ({ u with csr := usr.csr }).setFlag R.SEC_STAT F.SEC_STAT_DBG_OPEN false; s.tapLive = true ∧ s.bscan = true ∧ (∀ e ∈ List.range 16, s.skmState e ≠ 7 ∧ (s.skmState e = 0 → s.flag (R.SKM_ENG_CTRL e) F.SKM_ENG_CTRL_EN = false)) ∧ (∀ m ∈ List.range 144, s.operates m = false)) ∧
    (let s : State := jti false 0; s.tapLive = true ∧ s.bscan = true) ∧
    (let s : State := let u := jti false 0x11; let w := (u.setFld R.CFG_BOOT_STAT F.CFG_BOOT_STAT_PHASE 6).setFld R.CFG_BOOT_STAT F.CFG_BOOT_STAT_MODE 4; { w with boot := { w.boot with fw := false } }; s.tap.ir = 0x11 ∧ s.boot.inReset = false ∧ s.mode = 4 ∧ s.dbg.scanning = false ∧ (s.phase = 6 → s.lc < 2) ∧ s.boot.fw = false ∧ s.loadOn .jtag = none) ∧
    (let s : State := let u := jti false 0x11; let w := (u.setFld R.CFG_BOOT_STAT F.CFG_BOOT_STAT_PHASE 2).setFld R.CFG_BOOT_STAT F.CFG_BOOT_STAT_MODE 4; { w with boot := { w.boot with fw := true, loads := [{ Load.start .jtag 3 0 with bytes := [7, 8] }, Load.start .mailbox 2 3] } }; s.tap.ir = 0x11 ∧ s.boot.inReset = false ∧ s.mode = 4 ∧ s.dbg.scanning = false ∧ (s.phase = 6 → s.lc < 2) ∧ s.boot.fw = true ∧ s.phase = 2 ∧ ((s.loadOn .jtag).map (fun l => (l.kind, l.bytes))) = some (3, [7, 8])) ∧
    (let s : State := let u := jti false 0x11; let w := (u.setFld R.CFG_BOOT_STAT F.CFG_BOOT_STAT_PHASE 6).setFld R.CFG_BOOT_STAT F.CFG_BOOT_STAT_MODE 4; { w with boot := { w.boot with fw := false }, fuses := { w.fuses with lc := 3 } }; s.phase = 6 ∧ 2 ≤ s.lc) := by decide +kernel
/-- TestAccessPort: inputs of its clauses, part 7. -/
theorem witness_TestAccessPort_7 :
    (let s : State := let u := jti false 0x11; let w := (u.setFld R.CFG_BOOT_STAT F.CFG_BOOT_STAT_PHASE 6).setFld R.CFG_BOOT_STAT F.CFG_BOOT_STAT_MODE 4; { w with boot := { w.boot with fw := false }, dbg := { w.dbg with scanning := true } }; s.dbg.scanning = true) ∧
    (let s : State := let u := jt true; { u with dbg := { u.dbg with scanning := true } }; s.tapLive = true ∧ s.dbgOpen = true ∧ s.dbg.scanning = true ∧ s.bscan = false) ∧
    (let s : State := let u := jt true; { u with boot := { u.boot with inReset := true } }; s.tapLive = true ∧ s.dbgOpen = true ∧ s.boot.inReset = true ∧ s.bscan = false) := by decide +kernel
/-- HaltsAndWatchdog: inputs of its clauses, part 1. -/
theorem witness_HaltsAndWatchdog_1 :
    (let s : State := usr; let v : Word := (0 : Word).fput F.DBG_RC_HALT 1; mayW s 0x6B (R.DBG_RC) ∧ s.halted = false ∧ v.fget F.DBG_RC_RESUME = 0 ∧ v.fget F.DBG_RC_STEP = 0) ∧
    (let s : State := hlt; let v : Word := (0 : Word).fput F.DBG_RC_HALT 1; mayW s 0x6B (R.DBG_RC) ∧ s.halted = true ∧ v.fget F.DBG_RC_RESUME = 0 ∧ v.fget F.DBG_RC_STEP = 0) ∧
    (let s : State := usr; mayW s 0x6B (R.DBG_RC) ∧ s.halted = false) ∧
    (let s : State := let u := hlt.setReg R.WDT_COUNT 3; { u with ic := { u.ic with latch := [49, 1023], pending := [3] } }; mayW s 0x6B (R.DBG_RC) ∧ s.halted = true ∧ s.ic.held = [] ∧ s.err.deferred = [] ∧ s.gate.kept = [] ∧ (∀ c ∈ List.range 8, (s.mcOf c).halt = false) ∧ (∀ e ∈ List.range 16, s.skmState e ≠ 7 ∧ (s.skmState e = 0 → s.flag (R.SKM_ENG_CTRL e) F.SKM_ENG_CTRL_EN = false)) ∧ s.phase ≠ 1 ∧ (s.phase = 3 → s.flag R.CFG_BOOT_STAT F.CFG_BOOT_STAT_CFG_DONE_IN = false)) ∧
    (let s : State := hlt.setReg R.WDT_COUNT 3000; mayW s 0x6B (R.DBG_RC) ∧ s.halted = true ∧ s.ic.held = [] ∧ s.err.deferred = [] ∧ s.gate.kept = [] ∧ (∀ c ∈ List.range 8, (s.mcOf c).halt = false) ∧ (∀ e ∈ List.range 16, s.skmState e ≠ 7 ∧ (s.skmState e = 0 → s.flag (R.SKM_ENG_CTRL e) F.SKM_ENG_CTRL_EN = false)) ∧ s.phase ≠ 1 ∧ (s.phase = 3 → s.flag R.CFG_BOOT_STAT F.CFG_BOOT_STAT_CFG_DONE_IN = false)) := by decide +kernel
/-- HaltsAndWatchdog: inputs of its clauses, part 2. -/
theorem witness_HaltsAndWatchdog_2 :
    (let s : State := ((usr.setFlag R.DBG_STAT F.DBG_STAT_HALT_PEND true).setReg R.DBG_HALT_CNT 0xFFFFFFFF).setReg R.DBG_FRZ 0x1F; s.boot.inReset = false ∧ s.halted = false ∧ s.flag R.DBG_STAT F.DBG_STAT_HALT_PEND = true ∧ s.sec.wiping = false ∧ silent s (510) ∧ (∀ c ∈ List.range 8, s.flag (R.MC_CTRL c) F.MC_CTRL_FRZ_DBG = false)) ∧
    (let s : State := usr; s.flag R.DBG_STAT F.DBG_STAT_HALT_PEND = false) ∧
    (let s : State := (wdt.setFlag R.WDT_STAT F.WDT_STAT_FIRST true); let v : Word := (0 : Word).fput F.WDT_KICK_KEY 0xC1A5; mayW s 0x68 (R.WDT_KICK) ∧ v.fget F.WDT_KICK_KEY = 0xC1A5) ∧
    (let s : State := (wdt.setFlag R.WDT_STAT F.WDT_STAT_FIRST true); let v : Word := (0 : Word).fput F.WDT_KICK_KEY 0xC1A4; mayW s 0x68 (R.WDT_KICK) ∧ v.fget F.WDT_KICK_KEY ≠ 0xC1A5) ∧
    (let s : State := wdt.setFld R.WDT_STAT F.WDT_STAT_EXPIRIES 65535; s.boot.inReset = false ∧ s.flag R.WDT_CTRL F.WDT_CTRL_EN = true ∧ s.halted = false ∧ silent s (4) ∧ s.flag R.WDT_STAT F.WDT_STAT_FIRST = false) := by decide +kernel
/-- HaltsAndWatchdog: inputs of its clauses, part 3. -/
theorem witness_HaltsAndWatchdog_3 :
    (let s : State := let u := (wdt.setFlag R.WDT_STAT F.WDT_STAT_FIRST true).setFld R.WDT_CTRL F.WDT_CTRL_ACTION 0; { u with fw := { u.fw with sessions := [ses true] }, act := (scr (mkKey 31 31 19 78)).act }; s.flag R.WDT_CTRL F.WDT_CTRL_EN = true ∧ s.halted = false ∧ silent s (4) ∧ s.flag R.WDT_STAT F.WDT_STAT_FIRST = true ∧ s.fld R.WDT_CTRL F.WDT_CTRL_ACTION = 0) ∧
    (let s : State := let u := (wdt.setFlag R.WDT_STAT F.WDT_STAT_FIRST true).setFld R.WDT_CTRL F.WDT_CTRL_ACTION 1; { u with fw := { u.fw with sessions := [ses true] }, act := (scr (mkKey 31 31 19 78)).act }; s.flag R.WDT_CTRL F.WDT_CTRL_EN = true ∧ s.halted = false ∧ silent s (4) ∧ s.flag R.WDT_STAT F.WDT_STAT_FIRST = true ∧ s.fld R.WDT_CTRL F.WDT_CTRL_ACTION = 1) ∧
    (let s : State := let u := (wdt.setFlag R.WDT_STAT F.WDT_STAT_FIRST true).setFld R.WDT_CTRL F.WDT_CTRL_ACTION 2; { u with fw := { u.fw with sessions := [ses true] }, act := (scr (mkKey 31 31 19 78)).act }; s.flag R.WDT_CTRL F.WDT_CTRL_EN = true ∧ s.halted = false ∧ silent s (4) ∧ s.flag R.WDT_STAT F.WDT_STAT_FIRST = true ∧ s.fld R.WDT_CTRL F.WDT_CTRL_ACTION = 2) ∧
    (let s : State := let u := (wdt.setFlag R.WDT_STAT F.WDT_STAT_FIRST true).setFld R.WDT_CTRL F.WDT_CTRL_ACTION 3; { u with fw := { u.fw with sessions := [ses true] }, act := (scr (mkKey 31 31 19 78)).act }; s.flag R.WDT_CTRL F.WDT_CTRL_EN = true ∧ s.halted = false ∧ silent s (4) ∧ s.flag R.WDT_STAT F.WDT_STAT_FIRST = true ∧ s.fld R.WDT_CTRL F.WDT_CTRL_ACTION = 3) ∧
    (let s : State := usr; s.flag R.WDT_CTRL F.WDT_CTRL_EN = false) := by decide +kernel
/-- HaltsAndWatchdog: inputs of its clauses, part 4. -/
theorem witness_HaltsAndWatchdog_4 :
    (let s : State := (hlt.setPhase 3).setFlag R.CFG_BOOT_STAT F.CFG_BOOT_STAT_CFG_DONE_IN true; mayW s 0x6B (R.DBG_RC) ∧ s.halted = true ∧ s.ic.held = [] ∧ s.err.deferred = [] ∧ s.gate.kept = [] ∧ (∀ c ∈ List.range 8, (s.mcOf c).halt = false) ∧ (∀ e ∈ List.range 16, s.skmState e ≠ 7 ∧ (s.skmState e = 0 → s.flag (R.SKM_ENG_CTRL e) F.SKM_ENG_CTRL_EN = false)) ∧ s.phase = 3 ∧ s.flag R.CFG_BOOT_STAT F.CFG_BOOT_STAT_CFG_DONE_IN = true) ∧
    (let s : State := (hlt.setFlag (R.NI_CTRL 0x45) F.NI_CTRL_EN true); s.reaches 0x45 R.DBG_RC = true) ∧
    (let s : State := let u := (wdt.setFlag R.WDT_STAT F.WDT_STAT_FIRST true).setFld R.WDT_CTRL F.WDT_CTRL_ACTION 1; { u with fw := { u.fw with sessions := [ses true] }, act := (scr (mkKey 31 31 19 78)).act }.setPhase 1; s.flag R.WDT_CTRL F.WDT_CTRL_EN = true ∧ s.halted = false ∧ silent s (4) ∧ s.flag R.WDT_STAT F.WDT_STAT_FIRST = true ∧ s.fld R.WDT_CTRL F.WDT_CTRL_ACTION = 1) ∧
    (let s : State := let u := (wdt.setFlag R.WDT_STAT F.WDT_STAT_FIRST true).setFld R.WDT_CTRL F.WDT_CTRL_ACTION 2; { u with fw := { u.fw with sessions := [ses true] }, act := (scr (mkKey 31 31 19 78)).act }.setFld R.CFG_BOOT_STAT F.CFG_BOOT_STAT_MODE 4; s.flag R.WDT_CTRL F.WDT_CTRL_EN = true ∧ s.halted = false ∧ silent s (4) ∧ s.flag R.WDT_STAT F.WDT_STAT_FIRST = true ∧ s.fld R.WDT_CTRL F.WDT_CTRL_ACTION = 2) := by decide +kernel
/-- WatchdogDisableNeedsTheKey: inputs of its clauses, part 1. -/
theorem witness_WatchdogDisableNeedsTheKey_1 :
    (let s : State := wdt.setFld R.WDT_CTRL F.WDT_CTRL_ACTION 2; let v : Word := ((0 : Word).fput F.WDT_CTRL_KEY 0xC1A5).fput F.WDT_CTRL_ACTION 2; mayW s 0x68 (R.WDT_CTRL) ∧ s.flag R.WDT_CTRL F.WDT_CTRL_EN = true ∧ v.fget F.WDT_CTRL_KEY = 0xC1A5 ∧ v.fget F.WDT_CTRL_ACTION = s.fld R.WDT_CTRL F.WDT_CTRL_ACTION) ∧
    (let s : State := wdt; mayW s 0x68 (R.WDT_CTRL) ∧ s.flag R.WDT_CTRL F.WDT_CTRL_EN = true ∧ (0 : Word).fget F.WDT_CTRL_KEY ≠ 0xC1A5) ∧
    (let s : State := usr; mayW s 0x68 (R.WDT_LOAD) ∧ s.flag R.WDT_CTRL F.WDT_CTRL_EN = false) ∧
    (let s : State := wdt; mayW s 0x68 (R.WDT_LOAD) ∧ s.flag R.WDT_CTRL F.WDT_CTRL_EN = true ∧ silent s (4) ∧ (77 : Word) ≠ s.reg R.WDT_LOAD) ∧
    (let s : State := wdt; let v : Word := ((0 : Word).fput F.WDT_CTRL_EN 1).fput F.WDT_CTRL_ACTION 3; mayW s 0x68 (R.WDT_LOAD) ∧ s.flag R.WDT_CTRL F.WDT_CTRL_EN = true ∧ silent s (4) ∧ v.fget F.WDT_CTRL_EN = 1 ∧ v.fget F.WDT_CTRL_ACTION ≠ s.fld R.WDT_CTRL F.WDT_CTRL_ACTION) := by decide +kernel
/-- WatchdogDisableNeedsTheKey: inputs of its clauses, part 2. -/
theorem witness_WatchdogDisableNeedsTheKey_2 :
    (let s : State := wdt.setFld R.WDT_CTRL F.WDT_CTRL_ACTION 2; let v : Word := ((0 : Word).fput F.WDT_CTRL_KEY 0xC1A5).fput F.WDT_CTRL_ACTION 1; mayW s 0x68 (R.WDT_CTRL) ∧ s.flag R.WDT_CTRL F.WDT_CTRL_EN = true ∧ v.fget F.WDT_CTRL_KEY = 0xC1A5) ∧
    (let s : State := usr.setFlag (R.NI_CTRL 0x45) F.NI_CTRL_EN true; s.reaches 0x45 R.WDT_CTRL = true) := by decide +kernel

end Sys2Proof.Tests
end

section
/-! ## What a step keeps

`Only`, `RegsBut` and `RegsOr` as relations that compose, one lemma for each primitive update of the state. -/

namespace Sys2Proof.Machine

/-- Keeping all but some parts composes: each part is compared by an equation. -/
theorem Only.trans {ps : List Part} {s t u : State} (h1 : Only ps s t) (h2 : Only ps t u) : Only ps s u := by
  intro p hp
  cases p <;> exact (h2 _ hp).trans (h1 _ hp)

theorem Only.refl (ps : List Part) (s : State) : Only ps s s := by
  intro p _
  cases p <;> rfl

theorem only_setReg {ps : List Part} (h : .csr ∈ ps) (s : State) (off : Nat) (v : Word) :
    Only ps s (s.setReg off v) := by
  intro p hp
  cases p
  case csr => exact absurd h hp
  all_goals rfl

theorem only_setStaged {ps : List Part} (h : .stg ∈ ps) (s : State) (off : Nat) (v : Word) :
    Only ps s (s.setStaged off v) := by
  intro p hp
  cases p
  case stg => exact absurd h hp
  all_goals rfl

/-- A report touches the registers, the interrupt controller and the error collector alone. -/
theorem only_of_logOnly {s t : State} (h : LogOnly s t) : Only [.csr, .ic, .err] s t := by
  intro p hp
  rw [h]
  cases p
  case csr | ic | err => simp at hp
  all_goals rfl

theorem RegsBut.trans {offs : List Nat} {s t u : State} (h1 : RegsBut offs s t) (h2 : RegsBut offs t u) :
    RegsBut offs s u := fun off h => (h2 off h).trans (h1 off h)

theorem regsBut_setReg {offs : List Nat} {off : Nat} (h : off ∈ offs) (s : State) (v : Word) :
    RegsBut offs s (s.setReg off v) := by
  intro j hj
  have hne : j ≠ off := fun e => hj (e ▸ h)
  simp [State.reg_setReg, hne]

theorem RegsOr.trans {offs : List Nat} {s t u : State} (h1 : RegsOr offs s t) (h2 : RegsOr offs t u) :
    RegsOr offs s u := fun off h h5 => (h2 off h h5).trans (h1 off h h5)

theorem regsOr_of_csr {offs : List Nat} {s t : State} (h : t.csr = s.csr) : RegsOr offs s t := by
  intro off _ _
  simp only [State.reg, h]

theorem regsOr_setReg {offs : List Nat} {off : Nat} (h : off ∈ offs ∨ off / 0x10000 = 5) (s : State) (v : Word) :
    RegsOr offs s (s.setReg off v) := by
  intro j hj h5
  have hne : j ≠ off := by
    rintro rfl
    exact h.elim hj h5
  simp [State.reg_setReg, hne]

theorem State.when_true {b : Bool} (h : b = true) (s : State) (f : State → State) : s.when b f = f s := by
  simp [State.when, h]

theorem State.when_false {b : Bool} (h : b = false) (s : State) (f : State → State) : s.when b f = s := by
  simp [State.when, h]

/-- A relation that holds of a state with itself holds across a conditional update that establishes it. -/
theorem State.when_rel {R : State → State → Prop} (s : State) (b : Bool) (f : State → State) (hs : R s s)
    (hf : b = true → R s (f s)) : R s (s.when b f) := by
  cases b
  · exact hs
  · exact hf rfl

/-! ### The registers of the error collector (R600-R602) -/

section
variable {offs : List Nat} (s : State) (r : Report)

theorem regsOr_offerFirst (n : Nat) (hs : r.src < 1024) : RegsOr offs s (s.offerFirst r n) := by
  have hv : R.ERR_FIRST_VALID (r.src / 16 / 32) / 0x10000 = 5 := by unfold R.ERR_FIRST_VALID; omega
  have hw : ∀ w < 4, R.ERR_FIRST (r.src / 16) w / 0x10000 = 5 := by
    intro w hw
    unfold R.ERR_FIRST
    omega
  unfold State.offerFirst
  dsimp only
  split
  · exact regsOr_of_csr rfl
  · exact ((((regsOr_setReg (.inr hv) _ _).trans (regsOr_setReg (.inr (hw 0 (by decide))) _ _)).trans
      (regsOr_setReg (.inr (hw 1 (by decide))) _ _)).trans (regsOr_setReg (.inr (hw 2 (by decide))) _ _)).trans
      (regsOr_setReg (.inr (hw 3 (by decide))) _ _)

theorem regsOr_countReport (n : Nat) (hs : r.src < 1024) : RegsOr offs s (s.countReport r n) :=
  (regsOr_setReg (off := R.ERR_COUNT) (.inr rfl) s _).trans (regsOr_offerFirst _ r n hs)

theorem regsOr_countDrop (hc : r.cls < 256) : RegsOr offs s (s.countDrop r) := by
  have hl : R.ERR_LOST (r.cls / 2) / 0x10000 = 5 := by unfold R.ERR_LOST; omega
  unfold State.countDrop
  refine RegsOr.trans ?_ (regsOr_of_csr (State.csr_high _ _))
  refine RegsOr.trans ?_ (State.when_rel _ _ _ (regsOr_of_csr rfl) fun _ => ?_)
  · exact ((regsOr_setReg (.inr hl) s _).trans (regsOr_setReg (off := R.ERR_STAT) (.inr rfl) _ _)).trans
      (regsOr_setReg (off := R.ERR_DROPS) (.inr rfl) _ _)
  · exact (regsOr_setReg (off := R.ERR_STAT) (.inr rfl) _ _).trans (regsOr_of_csr (State.csr_high _ _))

theorem regsOr_mergeReport (dropped : Bool) (hs : r.src < 1024) (hc : r.cls < 256) :
    RegsOr offs s (s.mergeReport r dropped) := by
  unfold State.mergeReport
  split
  · exact regsOr_of_csr rfl
  · exact (regsOr_countReport s r _ hs).trans
      (State.when_rel _ _ _ (regsOr_of_csr rfl) fun _ => regsOr_countDrop _ r hc)

/-- A report changes no register outside the error collector's window. -/
theorem regsOr_report (u : Nat) (hs : r.src < 1024) (hc : r.cls < 256) : RegsOr offs s (s.report u r) := by
  have hp : RegsOr offs s (s.when (r.cls != 0x18) fun t => t.pulse r.src) :=
    State.when_rel _ _ _ (regsOr_of_csr rfl) fun _ => regsOr_of_csr (State.csr_pulse s r.src)
  unfold State.report
  dsimp only
  refine hp.trans ?_
  split
  · exact regsOr_of_csr rfl
  · split
    · refine RegsOr.trans ?_ (regsOr_mergeReport _ r _ hs hc)
      exact regsOr_of_csr rfl
    · exact regsOr_mergeReport _ r _ hs hc

/-- No report of the source waits, so the next one joins the waiting ones as it is and no register changes. -/
theorem State.report_quiet (u : Nat) (h : s.quiet r.src) :
    (s.report u r).err.waiting = s.err.waiting ++ [⟨u, r, 0⟩] ∧ (s.report u r).csr = s.csr := by
  refine State.report_fresh s u r (List.find?_eq_none.mpr fun w hw => ?_)
  simp [h w hw]

end

/-! ## The sector window -/

/-- An accepted write does what its window says. -/
theorem busWrite_of_mayWrite {s : State} {ep off : Nat} (h : s.mayWrite ep off) (v : Word) :
    s.busWrite ep off v = s.csrWrite ep off v := by
  obtain ⟨hr, ha⟩ := h
  simp [State.busWrite, hr, ha]

theorem winOf_sector {k loc off : Nat} (hk : k < 32) (hl : loc < 0x10000) (ho : off = 0x3000000 + 0x10000 * k + loc) :
    winOf off = some (.sector, k, loc) := by
  have hi : (off - 0x3000000) / 0x10000 = k := by omega
  have hm : off % 0x10000 = loc := by omega
  unfold winOf
  repeat rw [if_neg (by omega)]
  rw [if_pos (by omega), hi, hm]

theorem rowAt_sector {k loc off : Nat} (hk : k < 32) (hl : loc < 0x10000) (ho : off = 0x3000000 + 0x10000 * k + loc) :
    rowAt off = findRow rows_sector loc := by
  simp [rowAt, winOf_sector hk hl ho, rowsOf]

theorem csrWrite_sector {k loc off : Nat} (hk : k < 32) (hl : loc < 0x10000)
    (ho : off = 0x3000000 + 0x10000 * k + loc) (s : State) (ep : Nat) (v : Word) :
    s.csrWrite ep off v = s.sectorWrite k loc off v := by
  simp [State.csrWrite, winOf_sector hk hl ho]

/-! ## Bus contention (R62-R64) -/

theorem word_and_ones (x : Word) : x &&& 4294967295#32 = x := BitVec.and_allOnes (x := x)

/-- A register of W1C bits alone: a write of 1 clears the bit (R12). -/
theorem rawWrite_w1c {off loc : Nat} {ix : List Nat}
    (h : rowAt off = some (⟨loc, [], 0, 0, 0, 0, 0xFFFFFFFF, 0, 0, 0⟩, ix)) (s : State) (v : Word) :
    (s.rawWrite true off v).1 = s.setReg off (s.reg off &&& ~~~ v) := by
  simp [State.rawWrite, h, RegRow.after, word_and_ones]

/-- An accepted write to a sector's register of W1C bits does that alone. -/
theorem busWrite_sector_w1c {k loc off ep : Nat} {s : State} (hk : k < 32) (hl : loc < 0x100)
    (ho : off = 0x3000000 + 0x10000 * k + loc)
    (hr : findRow rows_sector loc = some (⟨loc, [], 0, 0, 0, 0, 0xFFFFFFFF, 0, 0, 0⟩, []))
    (hw : s.mayWrite ep off) (v : Word) : s.busWrite ep off v = s.setReg off (s.reg off &&& ~~~ v) := by
  have hl' : loc < 0x10000 := by omega
  have hne : loc ≠ 0x100 := by omega
  rw [busWrite_of_mayWrite hw, csrWrite_sector hk hl' ho, State.sectorWrite, if_neg hne,
    rawWrite_w1c ((rowAt_sector hk hl' ho).trans hr)]

/-- A write to either half of FAB_BUS_CONT clears the lines written 1 (R64). -/
theorem busWrite_busCont (k : Fin 32) (hi : Bool) {s : State} {ep : Nat}
    (h : s.mayWrite ep (if hi then R.FAB_BUS_CONT_HI k else R.FAB_BUS_CONT_LO k)) (v : Word) :
    s.busWrite ep (if hi then R.FAB_BUS_CONT_HI k else R.FAB_BUS_CONT_LO k) v =
      s.setReg (if hi then R.FAB_BUS_CONT_HI k else R.FAB_BUS_CONT_LO k)
        (s.reg (if hi then R.FAB_BUS_CONT_HI k else R.FAB_BUS_CONT_LO k) &&& ~~~ v) := by
  cases hi
  · exact busWrite_sector_w1c (loc := 0) k.isLt (by decide) rfl rfl h v
  · have ho : R.FAB_BUS_CONT_HI k = 0x3000000 + 0x10000 * k + 4 := by unfold R.FAB_BUS_CONT_HI; omega
    exact busWrite_sector_w1c k.isLt (by decide) ho rfl h v

/-- A line's FAB_BUS_CONT and FAB_BUS_VAL bits stand in two registers. -/
theorem busVal_ne_busCont (k line : Nat) :
    (if line < 32 then R.FAB_BUS_VAL_LO k else R.FAB_BUS_VAL_HI k) ≠
      (if line < 32 then R.FAB_BUS_CONT_LO k else R.FAB_BUS_CONT_HI k) := by
  simp only [R.FAB_BUS_CONT_LO, R.FAB_BUS_CONT_HI, R.FAB_BUS_VAL_LO, R.FAB_BUS_VAL_HI]
  split <;> omega

/-- Bit `i` of one register set, of another cleared, and a report of a quiet source sent: what the detector does to a
line (R62, R63). -/
theorem report_after_setBits {s : State} {c v i u : Nat} {r : Report} (hne : v ≠ c) (hi : i < 32) (hq : s.quiet r.src) :
    let t := ((s.setBit c i true).setBit v i false).report u r
    t.bit c i = true ∧ t.bit v i = false ∧ (∀ j < 32, j ≠ i → t.bit c j = s.bit c j ∧ t.bit v j = s.bit v j) ∧
      t.err.waiting = s.err.waiting ++ [⟨u, r, 0⟩] ∧ RegsBut [c, v] s t ∧ Only [.csr, .ic, .err] s t := by
  intro t
  obtain ⟨hwait, hcsr⟩ := State.report_quiet ((s.setBit c i true).setBit v i false) r u hq
  have hreg : ∀ off, t.reg off = ((s.setBit c i true).setBit v i false).reg off := fun off => by
    simp only [State.reg, t, hcsr]
  have hbit : ∀ off j, j < 32 → t.bit off j =
      if off = v ∧ j = i then false else if off = c ∧ j = i then true else s.bit off j := fun off j hj => by
    rw [State.bit, hreg, ← State.bit, State.bit_setBit _ _ _ _ _ _ hj, State.bit_setBit _ _ _ _ _ _ hj]
  refine ⟨?_, ?_, ?_, hwait, ?_, ?_⟩
  · simp [hbit c i hi, hne.symm]
  · simp [hbit v i hi]
  · intro j hj hji
    simp [hbit _ j hj, hji]
  · have hset : RegsBut [c, v] s ((s.setBit c i true).setBit v i false) :=
      (regsBut_setReg (by simp) s _).trans (regsBut_setReg (by simp) _ _)
    exact fun off hoff => (hreg off).trans (hset off hoff)
  · exact ((only_setReg (by simp) s c _).trans (only_setReg (by simp) _ v _)).trans
      (only_of_logOnly (State.report_log _ _ _))

/-- Settles O18: the detector's two bits and its record are `report_after_setBits`, the clearing write is
`busWrite_busCont`. -/
theorem busContentionIsRecordedAndCleared : Obligations.BusContentionIsRecordedAndCleared := by
  unfold Obligations.BusContentionIsRecordedAndCleared
  refine ⟨fun k line s => ⟨fun hclear hdrv hq => ?_, fun hno => ?_⟩, fun ep k hi v s => ?_⟩
  · refine ⟨_, ?_, report_after_setBits (busVal_ne_busCont k line) (Nat.mod_lt _ (by decide)) hq⟩
    have hnot : ¬ (s.drivers k line).length < 2 := by omega
    show execBusContentionDetect k line s = _
    simp [execBusContentionDetect, hclear, hnot]
  · show execBusContentionDetect k line s = _
    rcases hno with hcont | hdrv
    · simp [execBusContentionDetect, hcont]
    · simp [execBusContentionDetect, hdrv]
  · intro c hw
    refine ⟨s.setReg c (s.reg c &&& ~~~ v), congrArg _ (busWrite_busCont k hi hw v), ?_, ?_, ?_⟩
    · simp
    · exact regsBut_setReg (by simp) s _
    · exact only_setReg (by simp) s _ _

end Sys2Proof.Machine
end

section
/-! ## Staging and applying registers (R19, R22) -/

namespace Sys2Proof.Machine

/-- The bits of `b` that a mask picks, over the others of `a`: read through the mask they are `b`'s. -/
theorem merge_and_mask (a b m : Word) : ((a &&& ~~~ m) ||| (b &&& m)) &&& m = b &&& m := by
  ext i
  simp only [BitVec.getElem_and, BitVec.getElem_or, BitVec.getElem_not]
  cases m[i] <;> simp

/-- Merging twice is merging once. -/
theorem merge_merge (a b m : Word) :
    (((a &&& ~~~ m) ||| (b &&& m)) &&& ~~~ m) ||| (((a &&& ~~~ m) ||| (b &&& m)) &&& m) =
      (a &&& ~~~ m) ||| (b &&& m) := by
  ext i
  simp only [BitVec.getElem_and, BitVec.getElem_or, BitVec.getElem_not]
  cases m[i] <;> simp

/-- What a register would hold after APPLY: its STAGED bits from the staging copy, the others as they are. -/
def State.applied (s : State) (off : Nat) : Word :=
  (s.reg off &&& ~~~ stgMask off) ||| (s.staged off &&& stgMask off)

/-- Seen through its STAGED bits, an applied register is its staging copy. -/
theorem State.applied_and_stgMask (s : State) (off : Nat) :
    s.applied off &&& stgMask off = s.staged off &&& stgMask off := merge_and_mask _ _ _

/-- A register without STAGED bits keeps its value. -/
theorem State.applied_of_unstaged (s : State) {off : Nat} (h : stgMask off = 0) : s.applied off = s.reg off := by
  simp [State.applied, h, word_and_ones]

/-- A register of STAGED bits alone takes its staging copy. -/
theorem State.applied_of_fully_staged (s : State) {off : Nat} (h : stgMask off = 0xFFFFFFFF) :
    s.applied off = s.staged off := by
  simp [State.applied, h, word_and_ones]

theorem State.applied_congr {s t : State} {off : Nat} (hr : t.reg off = s.reg off)
    (hs : t.staged off = s.staged off) : t.applied off = s.applied off := by
  simp only [State.applied, hr, hs]

theorem State.reg_applyReg (s : State) (o off : Nat) :
    (s.applyReg o).reg off = if off = o then s.applied off else s.reg off := by
  unfold State.applyReg
  rw [State.reg_setStaged, State.reg_setReg]
  split
  · next h => subst h; rfl
  · rfl

theorem State.staged_applyReg (s : State) (o off : Nat) :
    (s.applyReg o).staged off = if off = o then s.applied off else s.staged off := by
  unfold State.applyReg
  rw [State.staged_setStaged]
  split
  · next h => subst h; rfl
  · rfl

/-- Applying a register leaves what every register would hold after APPLY. -/
theorem State.applied_applyReg (s : State) (o off : Nat) : (s.applyReg o).applied off = s.applied off := by
  by_cases h : off = o
  · rw [State.applied, State.reg_applyReg, State.staged_applyReg, if_pos h, if_pos h]
    exact merge_merge _ _ _
  · exact State.applied_congr (by rw [State.reg_applyReg, if_neg h]) (by rw [State.staged_applyReg, if_neg h])

/-- Applying a list of registers, with repetitions or without, applies each of them. -/
theorem State.reg_foldl_applyReg (l : List Nat) (s : State) (off : Nat) :
    (l.foldl State.applyReg s).reg off = if off ∈ l then s.applied off else s.reg off := by
  induction l generalizing s with
  | nil => simp
  | cons o l ih =>
    rw [List.foldl_cons, ih, State.applied_applyReg, State.reg_applyReg]
    by_cases hl : off ∈ l
    · simp [hl]
    · simp [hl]

theorem only_foldl_applyReg {ps : List Part} (hc : .csr ∈ ps) (hs : .stg ∈ ps) (l : List Nat) (s : State) :
    Only ps s (l.foldl State.applyReg s) := by
  induction l generalizing s with
  | nil => exact Only.refl ps s
  | cons o l ih =>
    exact ((only_setReg hc s o _).trans (only_setStaged hs _ o _)).trans (ih _)

/-! ## A write to FAB_PRB_CTRL -/

theorem rowAt_prbCtrl (k : Fin 32) : rowAt (R.FAB_PRB_CTRL k) = some (⟨0x100, [], 0, 0, 0xFF0, 0, 0, 0, 0, 7⟩, []) :=
  rowAt_sector (loc := 0x100) k.isLt (by decide) (by unfold R.FAB_PRB_CTRL; omega)

theorem stgMask_prbCtrl (k : Fin 32) : stgMask (R.FAB_PRB_CTRL k) = 0xFF0 := by
  rw [stgMask, rowAt_prbCtrl]

theorem stgMask_sector {k loc off : Nat} {r : RegRow} {ix : List Nat} (hk : k < 32) (hl : loc < 0x10000)
    (ho : off = 0x3000000 + 0x10000 * k + loc) (hr : findRow rows_sector loc = some (r, ix)) : stgMask off = r.stg := by
  rw [stgMask, rowAt_sector hk hl ho, hr]

theorem stgMask_prbStat (k : Fin 32) : stgMask (R.FAB_PRB_STAT k) = 0 :=
  stgMask_sector (loc := 0x104) k.isLt (by decide) (by unfold R.FAB_PRB_STAT; omega) rfl

theorem stgMask_prbMaskLo (k : Fin 32) : stgMask (R.FAB_PRB_MASK_LO k) = 0xFFFFFFFF :=
  stgMask_sector (loc := 0x110) k.isLt (by decide) (by unfold R.FAB_PRB_MASK_LO; omega) rfl

theorem stgMask_prbValHi (k : Fin 32) : stgMask (R.FAB_PRB_VAL_HI k) = 0xFFFFFFFF :=
  stgMask_sector (loc := 0x11C) k.isLt (by decide) (by unfold R.FAB_PRB_VAL_HI; omega) rfl

/-- The state after the STAGED fields of a write to FAB_PRB_CTRL have been staged, before its ARM, STOP and APPLY bits
act. -/
def State.prbStaged (s : State) (k : Nat) (v : Word) : State := (s.rawWrite true (R.FAB_PRB_CTRL k) v).1

/-- All bits of FAB_PRB_CTRL in effect are STAGED, so the write sets the staging copy alone. -/
theorem prbStaged_eq (s : State) (k : Fin 32) (v : Word) :
    s.prbStaged k v = (s.setReg (R.FAB_PRB_CTRL k) (s.reg (R.FAB_PRB_CTRL k))).setStaged (R.FAB_PRB_CTRL k)
      ((s.staged (R.FAB_PRB_CTRL k) &&& ~~~ 0xFF0) ||| (v &&& 0xFF0)) := by
  simp [State.prbStaged, State.rawWrite, rowAt_prbCtrl, RegRow.after, RegRow.afterStaged, word_and_ones]

@[simp] theorem reg_prbStaged (s : State) (k : Fin 32) (v : Word) (off : Nat) : (s.prbStaged k v).reg off = s.reg off := by
  rw [prbStaged_eq, State.reg_setStaged, State.reg_setReg]
  split
  · next h => rw [h]
  · rfl

@[simp] theorem fld_prbStaged (s : State) (k : Fin 32) (v : Word) (off : Nat) (f : Fld) :
    (s.prbStaged k v).fld off f = s.fld off f := by
  rw [State.fld, reg_prbStaged, State.fld]

@[simp] theorem flag_prbStaged (s : State) (k : Fin 32) (v : Word) (off : Nat) (f : Fld) :
    (s.prbStaged k v).flag off f = s.flag off f := by
  rw [State.flag, fld_prbStaged, State.flag]

@[simp] theorem prbState_prbStaged (s : State) (k : Fin 32) (v : Word) (j : Nat) :
    (s.prbStaged k v).prbState j = s.prbState j := fld_prbStaged s k v _ _

@[simp] theorem act_prbStaged (s : State) (k : Fin 32) (v : Word) : (s.prbStaged k v).act = s.act := by
  rw [prbStaged_eq]
  rfl

theorem staged_prbStaged (s : State) (k : Fin 32) (v : Word) (off : Nat) : (s.prbStaged k v).staged off =
    if off = R.FAB_PRB_CTRL k then (s.staged (R.FAB_PRB_CTRL k) &&& ~~~ 0xFF0) ||| (v &&& 0xFF0) else s.staged off := by
  rw [prbStaged_eq, State.staged_setStaged, State.staged_setReg]

theorem only_prbStaged {ps : List Part} (hc : .csr ∈ ps) (hs : .stg ∈ ps) (s : State) (k : Fin 32) (v : Word) :
    Only ps s (s.prbStaged k v) := by
  rw [prbStaged_eq]
  exact (only_setReg hc s _ _).trans (only_setStaged hs _ _ _)

/-- An accepted write to FAB_PRB_CTRL: an APPLY that an armed region forbids is taken off (R236), the fields are staged,
the bits act. -/
theorem busWrite_prbCtrl (k : Fin 32) {s : State} {ep : Nat} (h : s.mayWrite ep (R.FAB_PRB_CTRL k)) (v : Word) :
    s.busWrite ep (R.FAB_PRB_CTRL k) v =
      ((s.applyBits (.probe k) v).1.prbStaged k v).prbCtrl k (s.applyBits (.probe k) v).2 := by
  have ho : R.FAB_PRB_CTRL k = 0x3000000 + 0x10000 * k.val + 0x100 := by unfold R.FAB_PRB_CTRL; omega
  have hk : Fin.ofNat 32 k.val = k := Fin.ofNat_val_eq_self k
  rw [busWrite_of_mayWrite h, csrWrite_sector k.isLt (by decide) ho, State.sectorWrite, if_pos rfl, hk]
  rfl

theorem applyBits_without_apply (s : State) (b : Bound) {v : Word} (h : v.getLsbD 0 = false) :
    s.applyBits b v = (s, v) := by
  rw [State.applyBits, h, if_neg Bool.false_ne_true]

theorem applyBits_unarmed {s : State} {b : Bound} (v : Word) (h : s.armedFor b = none) : s.applyBits b v = (s, v) := by
  simp [State.applyBits, h]

theorem applyBits_armed {s : State} {b : Bound} {v : Word} {r : Nat} (h : s.armedFor b = some r)
    (hv : v.getLsbD 0 = true) : s.applyBits b v = (s.ctrlRefuse r, v &&& ~~~ 1) := by
  simp [State.applyBits, h, hv]

/-- A write named after a bit has that bit at 1 and the others as given. -/
theorem getLsbD_bitOn (v : Word) {f : Fld} (hf : f.w = 1) {i : Nat} (h : i < 32) :
    (bitOn v f).getLsbD i = (v.getLsbD i || decide (i = f.lo)) := by
  have hm : f.mask.getLsbD i = decide (i = f.lo) := by
    rw [Fld.mask, hf, BitVec.getLsbD_ofNat]
    simp [h, Nat.testBit_two_pow, eq_comm]
  rw [bitOn, BitVec.getLsbD_or, hm]

theorem getLsbD_bitOn_self (v : Word) {f : Fld} (hf : f.w = 1) (h : f.lo < 32) : (bitOn v f).getLsbD f.lo = true := by
  simp [getLsbD_bitOn v hf h]

theorem getLsbD_bitOn_other {v : Word} {f : Fld} (hf : f.w = 1) {i : Nat} (hi : i < 32) (hne : i ≠ f.lo)
    (hv : v.getLsbD i = false) : (bitOn v f).getLsbD i = false := by
  rw [getLsbD_bitOn v hf hi, hv, decide_eq_false hne, Bool.or_false]

/-! ## What the bits of FAB_PRB_CTRL do (R73, R80, R82) -/

section
variable (s : State) (k : Nat) {v : Word}

theorem prbCtrl_none (h0 : v.getLsbD 0 = false) (h1 : v.getLsbD 1 = false) (h2 : v.getLsbD 2 = false) :
    s.prbCtrl k v = s := by
  simp only [State.prbCtrl, State.when_false h0, State.when_false h2, h1, Bool.false_and, State.when_false rfl]

theorem prbCtrl_apply (h0 : v.getLsbD 0 = true) (h1 : v.getLsbD 1 = false) (h2 : v.getLsbD 2 = false) :
    s.prbCtrl k v = s.prbApply k State.applyReg := by
  simp only [State.prbCtrl, State.when_true h0, State.when_false h2, h1, Bool.false_and, State.when_false rfl]

theorem prbCtrl_stop (h0 : v.getLsbD 0 = false) (h1 : v.getLsbD 1 = false) (h2 : v.getLsbD 2 = true) :
    s.prbCtrl k v = s.prbAbort k := by
  simp only [State.prbCtrl, State.when_false h0, State.when_true h2, h1, Bool.false_and, State.when_false rfl]

/-- FIRST and COUNT in effect name designated capture blocks alone (R80). -/
def State.captureFits (s : State) (k : Nat) : Prop :=
  s.fld (R.FAB_PRB_CAP k) F.FAB_PRB_CAP_FIRST + s.fld (R.FAB_PRB_CAP k) F.FAB_PRB_CAP_COUNT ≤ 255 ∧
  ∀ i ≤ s.fld (R.FAB_PRB_CAP k) F.FAB_PRB_CAP_COUNT, k * 256 + s.fld (R.FAB_PRB_CAP k) F.FAB_PRB_CAP_FIRST + i ∈ s.act.cap

theorem captureFits_prbStaged (s : State) (k : Fin 32) (v : Word) : (s.prbStaged k v).captureFits k ↔ s.captureFits k := by
  simp only [State.captureFits, fld_prbStaged, act_prbStaged]

/-- The model's test of the capture blocks. -/
theorem capture_bad_iff : (255 < s.fld (R.FAB_PRB_CAP k) F.FAB_PRB_CAP_FIRST + s.fld (R.FAB_PRB_CAP k) F.FAB_PRB_CAP_COUNT ||
    (List.range (s.fld (R.FAB_PRB_CAP k) F.FAB_PRB_CAP_COUNT + 1)).any
      (fun i => !s.act.cap.has (k * 256 + s.fld (R.FAB_PRB_CAP k) F.FAB_PRB_CAP_FIRST + i))) = true ↔ ¬ s.captureFits k := by
  simp only [State.captureFits, NSet.has, Bool.or_eq_true, decide_eq_true_eq, List.any_eq_true, List.mem_range,
    Bool.not_eq_true', List.contains_eq_mem, decide_eq_false_iff_not, not_and_or, not_le, not_forall, exists_prop, Nat.lt_succ_iff]

/-- The capture engine as ARM starts it. -/
def State.prbStart (s : State) (k : Nat) : State :=
  (((s.setFlag (R.FAB_PRB_STAT k) F.FAB_PRB_STAT_BAD_TARGET false).setFlag (R.FAB_PRB_STAT k) F.FAB_PRB_STAT_WRAPPED
    false).setFld (R.FAB_PRB_STAT k) F.FAB_PRB_STAT_STATE 1).setProbe k
      { s.probe k with idx := 0, left := 0, first := s.fld (R.FAB_PRB_CAP k) F.FAB_PRB_CAP_FIRST,
                       count := s.fld (R.FAB_PRB_CAP k) F.FAB_PRB_CAP_COUNT }

/-- The capture engine as ARM leaves it where a block cannot capture. -/
def State.prbBadTarget (s : State) (k : Nat) : State :=
  (s.setFlag (R.FAB_PRB_STAT k) F.FAB_PRB_STAT_BAD_TARGET true).setFld (R.FAB_PRB_STAT k) F.FAB_PRB_STAT_STATE 0

section
variable (h0 : v.getLsbD 0 = false) (h1 : v.getLsbD 1 = true) (h2 : v.getLsbD 2 = false)
include h0 h1 h2

theorem prbCtrl_arm_disabled (he : s.flag (R.FAB_PRB_CTRL k) F.FAB_PRB_CTRL_EN = false) : s.prbCtrl k v = s := by
  simp only [State.prbCtrl, State.when_false h0, State.when_false h2, h1, he, Bool.and_false, State.when_false rfl]

theorem prbCtrl_arm_fits (he : s.flag (R.FAB_PRB_CTRL k) F.FAB_PRB_CTRL_EN = true) (hf : s.captureFits k) :
    s.prbCtrl k v = s.prbStart k := by
  have hb := mt (capture_bad_iff s k).mp (not_not.mpr hf)
  simp only [State.prbCtrl, State.when_false h0, State.when_false h2, h1, he, Bool.and_true, State.when_true rfl]
  exact if_neg hb

theorem prbCtrl_arm_bad (he : s.flag (R.FAB_PRB_CTRL k) F.FAB_PRB_CTRL_EN = true) (hf : ¬ s.captureFits k) :
    s.prbCtrl k v = s.prbBadTarget k := by
  have hb := (capture_bad_iff s k).mpr hf
  simp only [State.prbCtrl, State.when_false h0, State.when_false h2, h1, he, Bool.and_true, State.when_true rfl]
  exact if_pos hb
end
end

/-! ## Ending and applying (R73, R82) -/

section
variable (s : State) (k : Nat)

theorem prbState_prbAbort :
    (s.prbAbort k).prbState k = if s.prbState k = 1 ∨ s.prbState k = 2 then 4 else s.prbState k := by
  by_cases h : s.prbState k = 1 ∨ s.prbState k = 2
  · rw [State.prbAbort, State.when_true (by simpa using h), if_pos h]
    exact State.fld_setFld_same _ _ _ _ (by decide)
  · rw [State.prbAbort, State.when_false (by simpa using h), if_neg h]

theorem regsBut_prbAbort : RegsBut [R.FAB_PRB_STAT k] s (s.prbAbort k) :=
  State.when_rel _ _ _ (fun _ _ => rfl) fun _ => regsBut_setReg (by simp) s _

theorem only_prbAbort {ps : List Part} (hc : .csr ∈ ps) : Only ps s (s.prbAbort k) :=
  State.when_rel _ _ _ (Only.refl ps s) fun _ => only_setReg hc s _ _

theorem staged_prbAbort (off : Nat) : (s.prbAbort k).staged off = s.staged off :=
  State.when_rel (R := fun s t => t.staged off = s.staged off) s _ _ rfl fun _ => rfl

theorem applySeq_prbAbort : (s.prbAbort k).fld (R.FAB_PRB_STAT k) F.FAB_PRB_STAT_APPLY_SEQ =
    s.fld (R.FAB_PRB_STAT k) F.FAB_PRB_STAT_APPLY_SEQ :=
  State.when_rel (R := fun s t => t.fld (R.FAB_PRB_STAT k) F.FAB_PRB_STAT_APPLY_SEQ =
    s.fld (R.FAB_PRB_STAT k) F.FAB_PRB_STAT_APPLY_SEQ) s _ _ rfl fun _ =>
    State.fld_setFld_apart _ _ _ _ _ (by decide) (by decide)

/-- Settling the pins sets something of the fabric alone. -/
theorem settlePins_fab : ∃ f, s.settlePins = { s with fab := f } := by
  unfold State.settlePins
  generalize (if s.pinsOn then (List.range 32).find? (fun k => s.wantsPins k) else none) = on
  by_cases h : on = s.fab.pins
  · exact ⟨s.fab, if_pos h⟩
  · cases on with
    | none => exact ⟨_, if_neg h⟩
    | some k => exact ⟨_, if_neg h⟩

theorem when_setProbe_fab (b : Bool) (p : State → Probe) :
    ∃ f, s.when b (fun t => t.setProbe k (p t)) = { s with fab := f } := by
  cases b
  · exact ⟨s.fab, rfl⟩
  · exact ⟨_, rfl⟩

/-- Applying the probe fields of a sector: the capture ends, each of a list of registers with the probe registers among them
is applied, APPLY_SEQ counts; the old lanes and the pins are the fabric's. -/
theorem prbApply_shape : ∃ (f g : Fabric) (l : List Nat), (∀ off ∈ probeRegs k, off ∈ l) ∧
    s.prbApply k State.applyReg =
      { (l.foldl State.applyReg { s.prbAbort k with fab := f }).countWrap (R.FAB_PRB_STAT k)
          F.FAB_PRB_STAT_APPLY_SEQ 1 with fab := g } := by
  unfold State.prbApply
  dsimp only
  obtain ⟨f, hf⟩ := when_setProbe_fab (s.prbAbort k) k
    (((s.prbAbort k).probe k).oldLeft == 0 && (s.prbAbort k).prbSampling k)
    (fun t => { (s.prbAbort k).probe k with old := t.lanes k, oldLeft := 2 })
  rw [hf]
  obtain ⟨g, hg⟩ := settlePins_fab _
  exact ⟨f, g, _, fun off ho => List.mem_append_left _ (List.mem_append_left _ ho), hg⟩

/-- Every probe register of the sector with a STAGED field takes its staging copy there (R73). -/
theorem reg_prbApply (k : Fin 32) {off : Nat} (hoff : off ∈ probeRegs k) :
    (s.prbApply k State.applyReg).reg off = s.applied off := by
  have hne : off ≠ R.FAB_PRB_STAT k := by
    simp only [probeRegs, List.mem_cons, List.not_mem_nil, or_false, R.FAB_PRB_CTRL, R.FAB_PRB_CAP, R.FAB_PRB_MASK_LO,
      R.FAB_PRB_MASK_HI, R.FAB_PRB_VAL_LO, R.FAB_PRB_VAL_HI] at hoff
    unfold R.FAB_PRB_STAT
    omega
  obtain ⟨f, g, l, hl, heq⟩ := prbApply_shape s k
  calc (s.prbApply k State.applyReg).reg off
      = ((l.foldl State.applyReg { s.prbAbort k with fab := f }).countWrap (R.FAB_PRB_STAT k)
          F.FAB_PRB_STAT_APPLY_SEQ 1).reg off := by rw [heq]; rfl
    _ = (l.foldl State.applyReg { s.prbAbort k with fab := f }).reg off :=
        (State.reg_setFld _ _ _ _ _).trans (if_neg hne)
    _ = State.applied { s.prbAbort k with fab := f } off := by rw [State.reg_foldl_applyReg, if_pos (hl off hoff)]
    _ = s.applied off := State.applied_congr (regsBut_prbAbort s k off (by simpa using hne)) (staged_prbAbort s k off)

theorem prbStat_prbApply (k : Fin 32) : (s.prbApply k State.applyReg).reg (R.FAB_PRB_STAT k) =
    ((s.prbAbort k).countWrap (R.FAB_PRB_STAT k) F.FAB_PRB_STAT_APPLY_SEQ 1).reg (R.FAB_PRB_STAT k) := by
  obtain ⟨f, g, l, -, heq⟩ := prbApply_shape s k
  have hfold : (l.foldl State.applyReg { s.prbAbort k with fab := f }).reg (R.FAB_PRB_STAT k) =
      (s.prbAbort k).reg (R.FAB_PRB_STAT k) := by
    rw [State.reg_foldl_applyReg, State.applied_of_unstaged _ (stgMask_prbStat k), ite_self]
    rfl
  calc (s.prbApply k State.applyReg).reg (R.FAB_PRB_STAT k)
      = ((l.foldl State.applyReg { s.prbAbort k with fab := f }).countWrap (R.FAB_PRB_STAT k)
          F.FAB_PRB_STAT_APPLY_SEQ 1).reg (R.FAB_PRB_STAT k) := by rw [heq]; rfl
    _ = _ := by simp only [State.countWrap, State.setFld, State.fld, State.reg_setReg_same, hfold]

theorem applySeq_prbApply (k : Fin 32) :
    (s.prbApply k State.applyReg).fld (R.FAB_PRB_STAT k) F.FAB_PRB_STAT_APPLY_SEQ =
      (s.fld (R.FAB_PRB_STAT k) F.FAB_PRB_STAT_APPLY_SEQ + 1) % 256 := by
  rw [State.fld, prbStat_prbApply, ← applySeq_prbAbort s k]
  exact State.fld_setFld_same _ _ _ _ (by decide)

theorem prbState_prbApply (k : Fin 32) : (s.prbApply k State.applyReg).prbState k =
    if s.prbState k = 1 ∨ s.prbState k = 2 then 4 else s.prbState k := by
  rw [State.prbState, State.fld, prbStat_prbApply, ← prbState_prbAbort]
  exact State.fld_setFld_apart _ _ _ _ _ (by decide) (by decide)

theorem only_setFab {ps : List Part} (h : .fab ∈ ps) (f : Fabric) : Only ps s { s with fab := f } := by
  intro p hp
  cases p
  case fab => exact absurd h hp
  all_goals rfl

theorem only_prbApply (k : Nat) : Only [.csr, .stg, .fab] s (s.prbApply k State.applyReg) := by
  obtain ⟨f, g, l, -, heq⟩ := prbApply_shape s k
  rw [heq]
  exact (((only_prbAbort s k (by simp)).trans (only_setFab _ (by simp) f)).trans
    (only_foldl_applyReg (by simp) (by simp) l _)).trans ((only_setReg (by simp) _ _ _).trans
    (only_setFab _ (by simp) g))

end

/-! ## Starting a capture (R80) -/

section
variable (s : State) (k : Nat)

theorem only_prbStart : Only [.csr, .stg, .fab] s (s.prbStart k) :=
  (((only_setReg (by simp) s _ _).trans (only_setReg (by simp) _ _ _)).trans (only_setReg (by simp) _ _ _)).trans
    (only_setFab _ (by simp) _)

theorem prbState_prbStart : (s.prbStart k).prbState k = 1 := State.fld_setFld_same _ _ _ _ (by decide)

theorem badTarget_prbStart : (s.prbStart k).flag (R.FAB_PRB_STAT k) F.FAB_PRB_STAT_BAD_TARGET = false := by
  have h : (s.prbStart k).fld (R.FAB_PRB_STAT k) F.FAB_PRB_STAT_BAD_TARGET = 0 :=
    ((State.fld_setFld_apart _ _ _ _ _ (by decide) (by decide)).trans
      (State.fld_setFld_apart _ _ _ _ _ (by decide) (by decide))).trans (State.fld_setFld_same _ _ _ _ (by decide))
  simp [State.flag, h]

theorem wrapped_prbStart : (s.prbStart k).flag (R.FAB_PRB_STAT k) F.FAB_PRB_STAT_WRAPPED = false := by
  have h : (s.prbStart k).fld (R.FAB_PRB_STAT k) F.FAB_PRB_STAT_WRAPPED = 0 :=
    (State.fld_setFld_apart _ _ _ _ _ (by decide) (by decide)).trans (State.fld_setFld_same _ _ _ _ (by decide))
  simp [State.flag, h]

theorem probe_prbStart : (s.prbStart k).probe k = { s.probe k with
    idx := 0, left := 0, first := s.fld (R.FAB_PRB_CAP k) F.FAB_PRB_CAP_FIRST,
    count := s.fld (R.FAB_PRB_CAP k) F.FAB_PRB_CAP_COUNT } := Tbl.get_set_same _ _ _ _

theorem only_prbBadTarget : Only [.csr, .stg] s (s.prbBadTarget k) :=
  (only_setReg (by simp) s _ _).trans (only_setReg (by simp) _ _ _)

theorem prbState_prbBadTarget : (s.prbBadTarget k).prbState k = 0 := State.fld_setFld_same _ _ _ _ (by decide)

theorem badTarget_prbBadTarget : (s.prbBadTarget k).flag (R.FAB_PRB_STAT k) F.FAB_PRB_STAT_BAD_TARGET = true := by
  have h : (s.prbBadTarget k).fld (R.FAB_PRB_STAT k) F.FAB_PRB_STAT_BAD_TARGET = 1 :=
    (State.fld_setFld_apart _ _ _ _ _ (by decide) (by decide)).trans (State.fld_setFld_same _ _ _ _ (by decide))
  simp [State.flag, h]

end

/-! ## An APPLY that an armed region refuses (R236) -/

theorem armedFor_some {s : State} {b : Bound} {r : Nat} (h : s.armedFor b = some r) :
    r < 32 ∧ s.rgnDefined r = true := by
  obtain ⟨hb, -⟩ := Option.filter_eq_some_iff.mp h
  have hmem : r ∈ List.range 32 := List.mem_of_find?_eq_some hb
  have hbound : s.isBound r b = true := List.find?_some (p := fun r => s.isBound r b) hb
  rw [State.isBound, Bool.and_eq_true] at hbound
  exact ⟨List.mem_range.mp hmem, hbound.1⟩

theorem ctrlFlag_of_defined {s : State} {r : Nat} (h : s.rgnDefined r = true) :
    s.ctrlFlag r = s.setFlag (R.CFG_RGN_STAT r) F.CFG_RGN_STAT_CTRL_REFUSED true := if_pos h

theorem regsOr_ctrlRefuse {s : State} {r : Nat} (h : s.rgnDefined r = true) :
    RegsOr [R.CFG_RGN_STAT r] s (s.ctrlRefuse r) := by
  rw [State.ctrlRefuse, ctrlFlag_of_defined h]
  exact RegsOr.trans (regsOr_setReg (.inl (by simp)) s _) (regsOr_report _ _ _ (by simp) (by simp))

theorem flag_ctrlRefuse {s : State} {r : Nat} (hr : r < 32) (h : s.rgnDefined r = true) :
    (s.ctrlRefuse r).flag (R.CFG_RGN_STAT r) F.CFG_RGN_STAT_CTRL_REFUSED = true := by
  have h5 : R.CFG_RGN_STAT r / 0x10000 ≠ 5 := by unfold R.CFG_RGN_STAT; omega
  have hreg := regsOr_report (offs := []) (s.ctrlFlag r) ⟨23, 0, 0x02, r * 2 ^ 16⟩ r (by simp) (by simp)
    (R.CFG_RGN_STAT r) (by simp) h5
  rw [ctrlFlag_of_defined h] at hreg
  rw [State.ctrlRefuse, ctrlFlag_of_defined h, State.flag, State.fld, hreg]
  exact State.flag_setFlag_same s _ _ true (by decide)

/-! ## The three commands -/

section
variable {s : State} {ep : Fin 256} {k : Fin 32} {v : Word}

theorem exec_fabPrbApply_unarmed (hw : s.mayWrite ep (R.FAB_PRB_CTRL k)) (h1 : v.getLsbD 1 = false)
    (h2 : v.getLsbD 2 = false) (ha : s.armedFor (.probe k) = none) : exec (.fabPrbApply ep k v) s =
      .next ((s.prbStaged k (bitOn v F.FAB_PRB_CTRL_APPLY)).prbApply k State.applyReg) := by
  show execFabPrbApply ep k v s = _
  rw [execFabPrbApply, busWrite_prbCtrl k hw, applyBits_unarmed _ ha]
  exact congrArg _ (prbCtrl_apply _ _ (getLsbD_bitOn_self v rfl (by decide))
    (getLsbD_bitOn_other rfl (by decide) (by decide) h1) (getLsbD_bitOn_other rfl (by decide) (by decide) h2))

/-- The APPLY of a write to a bound block of an armed region is taken off; the fields are staged all the same. -/
theorem exec_fabPrbApply_armed (hw : s.mayWrite ep (R.FAB_PRB_CTRL k)) (h1 : v.getLsbD 1 = false)
    (h2 : v.getLsbD 2 = false) {r : Nat} (ha : s.armedFor (.probe k) = some r) : exec (.fabPrbApply ep k v) s =
      .next ((s.ctrlRefuse r).prbStaged k (bitOn v F.FAB_PRB_CTRL_APPLY)) := by
  have hoff : ∀ i, (bitOn v F.FAB_PRB_CTRL_APPLY).getLsbD i = false →
      (bitOn v F.FAB_PRB_CTRL_APPLY &&& ~~~ 1).getLsbD i = false := fun i h => by
    rw [BitVec.getLsbD_and, h, Bool.false_and]
  have hoff0 : (bitOn v F.FAB_PRB_CTRL_APPLY &&& ~~~ 1).getLsbD 0 = false := by
    rw [BitVec.getLsbD_and]
    exact Bool.and_false _
  have h0 : (bitOn v F.FAB_PRB_CTRL_APPLY).getLsbD 0 = true := getLsbD_bitOn_self v rfl (by decide)
  show execFabPrbApply ep k v s = _
  rw [execFabPrbApply, busWrite_prbCtrl k hw, applyBits_armed ha h0]
  exact congrArg _ (prbCtrl_none _ _ hoff0 (hoff 1 (getLsbD_bitOn_other rfl (by decide) (by decide) h1))
    (hoff 2 (getLsbD_bitOn_other rfl (by decide) (by decide) h2)))

theorem getLsbD_bitOn_arm (h0 : v.getLsbD 0 = false) (h2 : v.getLsbD 2 = false) :
    (bitOn v F.FAB_PRB_CTRL_ARM).getLsbD 0 = false ∧ (bitOn v F.FAB_PRB_CTRL_ARM).getLsbD 1 = true ∧
      (bitOn v F.FAB_PRB_CTRL_ARM).getLsbD 2 = false :=
  ⟨getLsbD_bitOn_other rfl (by decide) (by decide) h0, getLsbD_bitOn_self v rfl (by decide),
    getLsbD_bitOn_other rfl (by decide) (by decide) h2⟩

theorem exec_fabPrbArm (hw : s.mayWrite ep (R.FAB_PRB_CTRL k)) (h0 : v.getLsbD 0 = false) :
    exec (.fabPrbArm ep k v) s =
      .next ((s.prbStaged k (bitOn v F.FAB_PRB_CTRL_ARM)).prbCtrl k (bitOn v F.FAB_PRB_CTRL_ARM)) := by
  show execFabPrbArm ep k v s = _
  rw [execFabPrbArm, busWrite_prbCtrl k hw,
    applyBits_without_apply _ _ (getLsbD_bitOn_other rfl (by decide) (by decide) h0)]

theorem exec_fabPrbStop (hw : s.mayWrite ep (R.FAB_PRB_CTRL k)) (h0 : v.getLsbD 0 = false) (h1 : v.getLsbD 1 = false) :
    exec (.fabPrbStop ep k v) s = .next ((s.prbStaged k (bitOn v F.FAB_PRB_CTRL_STOP)).prbAbort k) := by
  have h0' : (bitOn v F.FAB_PRB_CTRL_STOP).getLsbD 0 = false := getLsbD_bitOn_other rfl (by decide) (by decide) h0
  show execFabPrbStop ep k v s = _
  rw [execFabPrbStop, busWrite_prbCtrl k hw, applyBits_without_apply _ _ h0']
  exact congrArg _ (prbCtrl_stop _ _ h0' (getLsbD_bitOn_other rfl (by decide) (by decide) h1)
    (getLsbD_bitOn_self v rfl (by decide)))

theorem fabPrbApply_takes_effect (hw : s.mayWrite ep (R.FAB_PRB_CTRL k)) (h1 : v.getLsbD 1 = false)
    (h2 : v.getLsbD 2 = false) (ha : s.armedFor (.probe k) = none) : Completes (.fabPrbApply ep k v) s (fun t =>
      t.reg (R.FAB_PRB_CTRL k) &&& stgMask (R.FAB_PRB_CTRL k) = v &&& stgMask (R.FAB_PRB_CTRL k) ∧
      t.reg (R.FAB_PRB_CAP k) &&& stgMask (R.FAB_PRB_CAP k) = s.staged (R.FAB_PRB_CAP k) &&& stgMask (R.FAB_PRB_CAP k) ∧
      t.reg (R.FAB_PRB_MASK_LO k) = s.staged (R.FAB_PRB_MASK_LO k) ∧
      t.reg (R.FAB_PRB_VAL_HI k) = s.staged (R.FAB_PRB_VAL_HI k) ∧
      t.fld (R.FAB_PRB_STAT k) F.FAB_PRB_STAT_APPLY_SEQ = (s.fld (R.FAB_PRB_STAT k) F.FAB_PRB_STAT_APPLY_SEQ + 1) % 256 ∧
      t.prbState k = (if s.prbState k = 1 ∨ s.prbState k = 2 then 4 else s.prbState k) ∧ Only [.csr, .stg, .fab] s t) := by
  have hother : ∀ off, off ≠ R.FAB_PRB_CTRL k →
      (s.prbStaged k (bitOn v F.FAB_PRB_CTRL_APPLY)).staged off = s.staged off := fun off h => by
    rw [staged_prbStaged, if_neg h]
  have happly : bitOn v F.FAB_PRB_CTRL_APPLY &&& 0xFF0 = v &&& 0xFF0 := by
    have h : F.FAB_PRB_CTRL_APPLY.mask &&& 0xFF0 = 0#32 := by decide
    rw [bitOn, BitVec.and_comm, BitVec.and_or_distrib_left, BitVec.and_comm _ (Fld.mask _), h, BitVec.or_zero,
      BitVec.and_comm]
  refine ⟨_, exec_fabPrbApply_unarmed hw h1 h2 ha, ?_, ?_, ?_, ?_, ?_, ?_, ?_⟩
  · rw [reg_prbApply _ k (by simp [probeRegs]), State.applied_and_stgMask, stgMask_prbCtrl, staged_prbStaged, if_pos rfl,
      merge_and_mask, happly]
  · rw [reg_prbApply _ k (by simp [probeRegs]), State.applied_and_stgMask, hother]
    simp [R.FAB_PRB_CAP, R.FAB_PRB_CTRL]
  · rw [reg_prbApply _ k (by simp [probeRegs]), State.applied_of_fully_staged _ (stgMask_prbMaskLo k), hother]
    simp [R.FAB_PRB_MASK_LO, R.FAB_PRB_CTRL]
  · rw [reg_prbApply _ k (by simp [probeRegs]), State.applied_of_fully_staged _ (stgMask_prbValHi k), hother]
    simp [R.FAB_PRB_VAL_HI, R.FAB_PRB_CTRL]
  · rw [applySeq_prbApply, fld_prbStaged]
  · rw [prbState_prbApply, prbState_prbStaged]
  · exact (only_prbStaged (by simp) (by simp) s k _).trans (only_prbApply _ k)

theorem fabPrbApply_refused (hw : s.mayWrite ep (R.FAB_PRB_CTRL k)) (h1 : v.getLsbD 1 = false)
    (h2 : v.getLsbD 2 = false) {r : Nat} (ha : s.armedFor (.probe k) = some r) : Completes (.fabPrbApply ep k v) s (fun t =>
      t.flag (R.CFG_RGN_STAT r) F.CFG_RGN_STAT_CTRL_REFUSED = true ∧ RegsOr [R.CFG_RGN_STAT r, R.FAB_PRB_CTRL k] s t ∧
      t.prbState k = s.prbState k) := by
  obtain ⟨hr, hdef⟩ := armedFor_some ha
  have hkeep : RegsOr [R.CFG_RGN_STAT r] s (s.ctrlRefuse r) := regsOr_ctrlRefuse hdef
  refine ⟨_, exec_fabPrbApply_armed hw h1 h2 ha, ?_, ?_, ?_⟩
  · rw [flag_prbStaged]
    exact flag_ctrlRefuse hr hdef
  · intro off hoff h5
    rw [reg_prbStaged]
    exact hkeep off (fun h => hoff (List.mem_cons.mpr (.inl (List.mem_singleton.mp h)))) h5
  · have hne : R.FAB_PRB_STAT k ∉ [R.CFG_RGN_STAT r] := by
      rw [List.mem_singleton]
      unfold R.FAB_PRB_STAT R.CFG_RGN_STAT
      omega
    have h5 : R.FAB_PRB_STAT k / 0x10000 ≠ 5 := by unfold R.FAB_PRB_STAT; omega
    rw [prbState_prbStaged, State.prbState, State.fld, hkeep _ hne h5]
    rfl

section
variable (hw : s.mayWrite ep (R.FAB_PRB_CTRL k)) (h0 : v.getLsbD 0 = false) (h2 : v.getLsbD 2 = false)
include hw h0 h2

theorem fabPrbArm_starts (he : s.flag (R.FAB_PRB_CTRL k) F.FAB_PRB_CTRL_EN = true) (hf : s.captureFits k) :
    Completes (.fabPrbArm ep k v) s (fun t =>
      t.prbState k = 1 ∧ t.flag (R.FAB_PRB_STAT k) F.FAB_PRB_STAT_BAD_TARGET = false ∧
      t.flag (R.FAB_PRB_STAT k) F.FAB_PRB_STAT_WRAPPED = false ∧ (t.probe k).idx = 0 ∧
      (t.probe k).first = s.fld (R.FAB_PRB_CAP k) F.FAB_PRB_CAP_FIRST ∧
      (t.probe k).count = s.fld (R.FAB_PRB_CAP k) F.FAB_PRB_CAP_COUNT ∧ Only [.csr, .stg, .fab] s t) := by
  obtain ⟨b0, b1, b2⟩ := getLsbD_bitOn_arm h0 h2
  have hctrl := prbCtrl_arm_fits (s.prbStaged k (bitOn v F.FAB_PRB_CTRL_ARM)) k b0 b1 b2
    ((flag_prbStaged ..).trans he)
    ((captureFits_prbStaged s k _).mpr hf)
  have hprobe := probe_prbStart (s.prbStaged k (bitOn v F.FAB_PRB_CTRL_ARM)) k
  exact ⟨_, (exec_fabPrbArm hw h0).trans (congrArg _ hctrl), prbState_prbStart _ _, badTarget_prbStart _ _,
    wrapped_prbStart _ _, congrArg Probe.idx hprobe, (congrArg Probe.first hprobe).trans (fld_prbStaged ..),
    (congrArg Probe.count hprobe).trans (fld_prbStaged ..),
    (only_prbStaged (by simp) (by simp) s k _).trans (only_prbStart _ _)⟩

theorem fabPrbArm_bad (he : s.flag (R.FAB_PRB_CTRL k) F.FAB_PRB_CTRL_EN = true) (hf : ¬ s.captureFits k) :
    Completes (.fabPrbArm ep k v) s (fun t =>
      t.prbState k = 0 ∧ t.flag (R.FAB_PRB_STAT k) F.FAB_PRB_STAT_BAD_TARGET = true ∧ Only [.csr, .stg] s t) := by
  obtain ⟨b0, b1, b2⟩ := getLsbD_bitOn_arm h0 h2
  have hctrl := prbCtrl_arm_bad (s.prbStaged k (bitOn v F.FAB_PRB_CTRL_ARM)) k b0 b1 b2
    ((flag_prbStaged ..).trans he)
    (mt (captureFits_prbStaged s k _).mp hf)
  exact ⟨_, (exec_fabPrbArm hw h0).trans (congrArg _ hctrl), prbState_prbBadTarget _ _, badTarget_prbBadTarget _ _,
    (only_prbStaged (by simp) (by simp) s k _).trans (only_prbBadTarget _ _)⟩

theorem fabPrbArm_disabled (he : s.flag (R.FAB_PRB_CTRL k) F.FAB_PRB_CTRL_EN = false) :
    Completes (.fabPrbArm ep k v) s (fun t =>
      t.prbState k = s.prbState k ∧ RegsBut [R.FAB_PRB_CTRL k] s t ∧ Only [.csr, .stg] s t) := by
  obtain ⟨b0, b1, b2⟩ := getLsbD_bitOn_arm h0 h2
  have hctrl := prbCtrl_arm_disabled (s.prbStaged k (bitOn v F.FAB_PRB_CTRL_ARM)) k b0 b1 b2
    ((flag_prbStaged ..).trans he)
  exact ⟨_, (exec_fabPrbArm hw h0).trans (congrArg _ hctrl), prbState_prbStaged s k _ _,
    fun off _ => reg_prbStaged s k _ off, only_prbStaged (by simp) (by simp) s k _⟩

end

theorem fabPrbStop_aborts (hw : s.mayWrite ep (R.FAB_PRB_CTRL k)) (h0 : v.getLsbD 0 = false) (h1 : v.getLsbD 1 = false) :
    Completes (.fabPrbStop ep k v) s (fun t =>
      t.prbState k = (if s.prbState k = 1 ∨ s.prbState k = 2 then 4 else s.prbState k) ∧
      RegsBut [R.FAB_PRB_STAT k, R.FAB_PRB_CTRL k] s t ∧ Only [.csr, .stg] s t) := by
  refine ⟨_, exec_fabPrbStop hw h0 h1, ?_, ?_, ?_⟩
  · rw [prbState_prbAbort, prbState_prbStaged]
  · intro off hoff
    rw [regsBut_prbAbort _ _ off (fun h => hoff (by simp [List.mem_singleton.mp h])), reg_prbStaged]
  · exact (only_prbStaged (by simp) (by simp) s k _).trans (only_prbAbort _ _ (by simp))

end

/-- Settles O19: APPLY by `fabPrbApply_takes_effect` and `fabPrbApply_refused`, ARM by the three cases of EN and
`State.captureFits`, STOP by `fabPrbStop_aborts`. -/
theorem probeControlWrites : Obligations.ProbeControlWrites := by
  unfold Obligations.ProbeControlWrites
  refine ⟨fun ep k v s hw h1 h2 => ⟨fabPrbApply_takes_effect hw h1 h2, fun r => fabPrbApply_refused hw h1 h2⟩,
    fun ep k v s hw h0 h2 => ⟨fun he hsum hcap => ?_, fun he hbad => ?_, fabPrbArm_disabled hw h0 h2⟩,
    fun ep k v s => fabPrbStop_aborts⟩
  · exact fabPrbArm_starts hw h0 h2 he ⟨hsum, hcap⟩
  · refine fabPrbArm_bad hw h0 h2 he fun ⟨hsum, hcap⟩ => ?_
    rcases hbad with hover | ⟨i, hi, hno⟩
    · exact absurd hsum (not_le.mpr hover)
    · exact hno (hcap i hi)

end Sys2Proof.Machine
end

section
/-! ## Arithmetic slices: the accumulator and its limits (R126, R127) -/

namespace Sys2Proof.Machine

theorem accResult_functions (load : Bool) (acc pr k chain : Int) :
    accResult 1 load acc pr k chain = pr ∧ accResult 2 load acc pr k chain = -pr ∧
    accResult 3 false acc pr k chain = acc + pr ∧ accResult 3 true acc pr k chain = pr ∧
    accResult 4 false acc pr k chain = acc - pr ∧ accResult 5 load acc pr k chain = k + pr ∧
    accResult 7 load acc pr k chain = chain + pr ∧ accResult 9 load acc pr k chain = k ∧
    accResult 12 load acc pr k chain = 0 ∧ accResult 0 load acc pr k chain = acc := by
  cases load <;> exact ⟨rfl, rfl, rfl, rfl, rfl, rfl, rfl, rfl, rfl, rfl⟩

theorem sMin_lt_sMax : sMin 58 < sMax 58 := by decide

theorem sMin_neg : sMin 58 < 0 := by decide

/-- A value within the limits of the accumulator is represented by it. -/
theorem toInt_ofInt_of_within {x : Int} (hlo : sMin 58 ≤ x) (hhi : x ≤ sMax 58) : (BitVec.ofInt 58 x).toInt = x :=
  BitVec.toInt_ofInt_eq_self (by decide) hlo (Int.lt_of_le_sub_one hhi)

theorem accClamp_within (sat : Bool) {x : Int} (hlo : sMin 58 ≤ x) (hhi : x ≤ sMax 58) :
    (accClamp sat x).1.toInt = x ∧ (accClamp sat x).2 = false := by
  have hin : (decide (sMax 58 < x) || decide (x < sMin 58)) = false := by simp [hlo, hhi]
  simp only [accClamp, hin, Bool.false_and, Bool.false_eq_true, if_false]
  exact ⟨toInt_ofInt_of_within hlo hhi, trivial⟩

theorem accClamp_above {x : Int} (h : sMax 58 < x) :
    (accClamp true x).1.toInt = sMax 58 ∧ (accClamp true x).2 = true := by
  have hpos : 0 < x := lt_trans (by decide) h
  simp only [accClamp, h, hpos, decide_true, Bool.true_or, Bool.true_and, if_true]
  exact ⟨toInt_ofInt_of_within sMin_lt_sMax.le le_rfl, trivial⟩

theorem accClamp_below {x : Int} (h : x < sMin 58) :
    (accClamp true x).1.toInt = sMin 58 ∧ (accClamp true x).2 = true := by
  have hneg : ¬ 0 < x := not_lt.mpr (h.trans sMin_neg).le
  simp only [accClamp, h, hneg, decide_true, Bool.or_true, Bool.true_and, if_true, if_false]
  exact ⟨toInt_ofInt_of_within le_rfl sMin_lt_sMax.le, trivial⟩

theorem accClamp_wraps {x : Int} (h : x < sMin 58 ∨ sMax 58 < x) :
    (accClamp false x).1 = BitVec.ofInt 58 x ∧ (accClamp false x).2 = true := by
  rcases h with h | h <;> simp [accClamp, h]

theorem accumulatorFunctionsAndSaturation : AccumulatorFunctionsAndSaturation :=
  ⟨accResult_functions, fun sat _ => accClamp_within sat, fun _ => accClamp_above, fun _ => accClamp_below,
    fun _ => accClamp_wraps⟩

/-! ## The datapath of a slice (R124-R129) -/

/-- The product of a 27-bit and a 24-bit operand fits the 51 bits of PR (R125). -/
theorem toInt_product (f : BitVec 27) (g : BitVec 24) :
    (BitVec.ofInt 51 (f.toInt * g.toInt)).toInt = f.toInt * g.toInt := by
  have hf : |f.toInt| ≤ 2 ^ 26 := abs_le.mpr ⟨BitVec.le_toInt f, (BitVec.toInt_lt (x := f)).le⟩
  have hg : |g.toInt| ≤ 2 ^ 23 := abs_le.mpr ⟨BitVec.le_toInt g, (BitVec.toInt_lt (x := g)).le⟩
  have habs : |f.toInt * g.toInt| ≤ 2 ^ 26 * 2 ^ 23 := by
    rw [abs_mul]
    exact mul_le_mul hf hg (abs_nonneg _) (by decide)
  obtain ⟨hlo, hhi⟩ := abs_le.mp habs
  exact BitVec.toInt_ofInt_eq_self (by decide) (le_trans (by decide) hlo) (lt_of_le_of_lt hhi (by decide))

/-- The multiplier's operand F of an operation, no stage before the multiplier in use: PS or X0 (R124, R125). -/
def SliceCfg.multiplicand (c : SliceCfg) (op : SliceOp) : BitVec 27 :=
  if c.presum then (if c.psub = 1 || (c.psub = 2 && op.psub) then op.x1 - op.x0 else op.x1 + op.x0) else op.x0

section
variable {c : SliceCfg} (op : SliceOp)

theorem multiplicand_direct (h : c.presum = false) : c.multiplicand op = op.x0 := by
  simp [SliceCfg.multiplicand, h]

theorem multiplicand_sum (h : c.presum = true) (hadd : c.psub = 0) : c.multiplicand op = op.x1 + op.x0 := by
  simp [SliceCfg.multiplicand, h, hadd]

theorem no_stage_used (hr : c.regs = 0) :
    c.useI1 = false ∧ c.useI2 = false ∧ c.usePs = false ∧ c.usePr = false ∧ c.useSo = false := by
  simp [SliceCfg.useI1, SliceCfg.useI2, SliceCfg.usePs, SliceCfg.usePr, SliceCfg.useSo, hr]

theorem every_stage_used (hr : c.regs = 31) :
    c.useI1 = true ∧ c.useI2 = true ∧ c.usePs = true ∧ c.usePr = true ∧ c.useSo = true := by
  unfold SliceCfg.useI1 SliceCfg.useI2 SliceCfg.usePs SliceCfg.usePr SliceCfg.useSo
  rw [hr]
  decide

variable (sh : Nat) (x south : Slice) (yS : BitVec 24)

/-- With every stage bypassed the operation runs through to ACC at once, and the scaler shows the new ACC (R129). -/
theorem advance_no_stages (hr : c.regs = 0) (hy : c.yChain = false) :
    let n := (c.advance sh x south yS op).1
    let res := accClamp c.satEn
      (accResult op.fn x.load x.acc.toInt ((c.multiplicand op).toInt * op.y.toInt) op.k.toInt south.acc.toInt)
    n.acc = res.1 ∧ n.ovf = res.2 ∧ n.out = BitVec.ofInt 58 (scaleOut c.rnd sh c.ow res.1.toInt).1 ∧
    n.oflow = (scaleOut c.rnd sh c.ow res.1.toInt).2 ∧ n.load = false := by
  obtain ⟨h1, h2, h3, h4, h5⟩ := no_stage_used hr
  simp only [SliceCfg.advance, h1, h2, h3, h4, h5, hy, Bool.false_eq_true, if_false, toInt_product,
    SliceCfg.multiplicand, and_self]

/-- With every stage in use each takes what the one before it held, and the scaler what ACC held (R129). -/
theorem advance_all_stages (hr : c.regs = 31) (hp : c.presum = false) :
    let n := (c.advance sh x south yS op).1
    n.i1 = op ∧ n.i2 = x.i1 ∧ n.pr = ⟨x.ps.op, BitVec.ofInt 51 (x.ps.op.x0.toInt * x.ps.g.toInt)⟩ ∧
    n.acc = (accClamp c.satEn
      (accResult x.pr.op.fn x.load x.acc.toInt x.pr.pr.toInt x.pr.op.k.toInt south.acc.toInt)).1 ∧
    n.out = BitVec.ofInt 58 (scaleOut c.rnd sh c.ow x.acc.toInt).1 ∧ n.outV = x.accV := by
  obtain ⟨h1, h2, h3, h4, h5⟩ := every_stage_used hr
  simp only [SliceCfg.advance, h1, h2, h3, h4, h5, hp, Bool.false_eq_true, if_true, if_false, and_self]

end

/-! ## What an edge of a slice changes -/

/-- Of the slices only `key` and of the exponent groups only that of `hd` may differ, and nothing outside the fabric. -/
def SliceEdge (key hd : Nat) (s t : State) : Prop :=
  (∀ j, j ≠ key → t.slice j = s.slice j) ∧ (∀ j, j ≠ hd → t.group j = s.group j) ∧ Only [.fab] s t

/-- Only the exponent group of `hd` may differ, and of it not the headroom that sets the shift in effect (R136). -/
def GroupEdge (hd : Nat) (s t : State) : Prop :=
  (∃ gs, t = { s with fab := { s.fab with groups := gs } }) ∧ (∀ j, j ≠ hd → t.group j = s.group j) ∧
  (t.group hd).eff = (s.group hd).eff

section
variable {key hd : Nat} {s t u : State}

theorem SliceEdge.trans (h1 : SliceEdge key hd s t) (h2 : SliceEdge key hd t u) : SliceEdge key hd s u := by
  obtain ⟨hs1, hg1, ho1⟩ := h1
  obtain ⟨hs2, hg2, ho2⟩ := h2
  exact ⟨fun j hj => (hs2 j hj).trans (hs1 j hj), fun j hj => (hg2 j hj).trans (hg1 j hj), ho1.trans ho2⟩

@[simp] theorem State.slice_setSlice_same (s : State) (x : Slice) : (s.setSlice key x).slice key = x := Tbl.get_set_same _ _ _ _

theorem sliceEdge_setSlice (s : State) (x : Slice) : SliceEdge key hd s (s.setSlice key x) :=
  ⟨fun _ hj => Tbl.get_set_other _ _ _ _ _ hj, fun _ _ => rfl, only_setFab _ (by simp) _⟩

theorem sliceEdge_setGroup (s : State) (g : Group) : SliceEdge key hd s (s.setGroup hd g) :=
  ⟨fun _ _ => rfl, fun _ hj => Tbl.get_set_other _ _ _ _ _ hj, only_setFab _ (by simp) _⟩

theorem GroupEdge.refl (s : State) : GroupEdge hd s s := ⟨⟨s.fab.groups, rfl⟩, fun _ _ => rfl, rfl⟩

theorem GroupEdge.trans (h1 : GroupEdge hd s t) (h2 : GroupEdge hd t u) : GroupEdge hd s u := by
  obtain ⟨⟨gs, rfl⟩, hg1, he1⟩ := h1
  obtain ⟨⟨gs', rfl⟩, hg2, he2⟩ := h2
  exact ⟨⟨gs', rfl⟩, fun j hj => (hg2 j hj).trans (hg1 j hj), he2.trans he1⟩

theorem groupEdge_setGroup {g : Group} (h : g.eff = (s.group hd).eff) : GroupEdge hd s (s.setGroup hd g) :=
  ⟨⟨_, rfl⟩, fun _ hj => Tbl.get_set_other _ _ _ _ _ hj, (congrArg Group.eff (Tbl.get_set_same _ _ _ _)).trans h⟩

theorem GroupEdge.slice (h : GroupEdge hd s t) (j : Nat) : t.slice j = s.slice j := by
  obtain ⟨⟨gs, rfl⟩, -, -⟩ := h
  rfl

theorem GroupEdge.sliceEdge (h : GroupEdge hd s t) : SliceEdge key hd s t := by
  obtain ⟨⟨gs, rfl⟩, hgroup, -⟩ := h
  exact ⟨fun _ _ => rfl, hgroup, only_setFab _ (by simp) _⟩

/-- The shift in effect stands while only the counting and closing of a block go on (R136, R137). -/
theorem GroupEdge.shiftOf (h : GroupEdge hd s t) : t.shiftOf key hd = s.shiftOf key hd := by
  obtain ⟨⟨gs, rfl⟩, -, heff⟩ := h
  simp only [State.shiftOf, Group.effective, heff]

theorem groupEdge_closeDue (s : State) : GroupEdge hd s (s.closeDue hd) := by
  unfold State.closeDue
  exact State.when_rel _ _ _ (GroupEdge.refl s) fun _ => groupEdge_setGroup rfl

/-- A sample counts at the head of its group, and nowhere else. -/
theorem groupEdge_sample (s : State) (out : Int) : GroupEdge hd s (s.sample key hd out) := groupEdge_setGroup rfl

end

/-! ## One active edge (R124-R133, R136) -/

/-- What an active edge does to the group whose head the slice is, whatever CE: a block whose count is reached closes, and
the outputs of the edge before fall. -/
def State.headEdge (s : State) (key : Nat) : State :=
  s.when (s.head key == key) (fun t => (t.closeDue key).setGroup key ((t.closeDue key).group key).nextEdge)

/-- The slice at the south end of the cascade into `key`, a slice of zeros where there is no link (R132). -/
def State.southSlice (s : State) (key : Nat) : Slice := if s.linked key then s.slice (key - 1) else Slice.zero

/-- Y_S of a slice (R131, R132). -/
def State.southY (s : State) (key : Nat) : BitVec 24 :=
  if s.linked key then (s.act.slCfg (key - 1)).yNorth (s.southSlice key) else 0

/-- The slice `key` and the sample it gives, as it takes an operation. -/
def State.advanced (s : State) (key : Nat) (op : SliceOp) : Slice × Option Int :=
  (s.act.slCfg key).advance (s.shiftOf key (s.head key)) (s.slice key) (s.southSlice key) (s.southY key) op

/-- An active edge with CE 1 and RST 0. -/
def State.takeOperation (s : State) (key : Nat) (op : SliceOp) : State :=
  let r := s.advanced key op
  let t := (s.headEdge key).setSlice key r.1
  match r.2 with
  | some o => t.sample key (s.head key) o
  | none => t

/-- An active edge with RST 1: the slice goes to zeros, and at the head the group with it. -/
def State.clearSlice (s : State) (key : Nat) : State :=
  ((s.headEdge key).setSlice key Slice.zero).when (s.head key == key) (fun t => t.setGroup key Group.zero)

section
variable (s : State) (key : Nat)

theorem groupEdge_headEdge : GroupEdge (s.head key) s (s.headEdge key) :=
  State.when_rel _ _ _ (GroupEdge.refl s) fun h => by
    rw [beq_iff_eq.mp h]
    exact (groupEdge_closeDue s).trans (groupEdge_setGroup rfl)

/-- What the head does at an edge does not bear on the operation of that edge. -/
theorem advance_headEdge (op : SliceOp) :
    let u := s.headEdge key
    (s.act.slCfg key).advance (u.shiftOf key (s.head key)) (u.slice key) (u.southSlice key) (u.southY key) op =
      s.advanced key op := by
  have hedge := groupEdge_headEdge s key
  intro u
  rw [hedge.shiftOf, hedge.slice]
  obtain ⟨⟨gs, hu⟩, -, -⟩ := hedge
  simp only [u, hu]
  rfl

theorem slice_takeOperation (op : SliceOp) : (s.takeOperation key op).slice key = (s.advanced key op).1 := by
  unfold State.takeOperation
  dsimp only
  split
  · exact ((groupEdge_sample _ _).slice _).trans (State.slice_setSlice_same _ _)
  · exact State.slice_setSlice_same _ _

theorem sliceEdge_takeOperation (op : SliceOp) : SliceEdge key (s.head key) s (s.takeOperation key op) := by
  have hset : SliceEdge key (s.head key) s ((s.headEdge key).setSlice key (s.advanced key op).1) :=
    (groupEdge_headEdge s key).sliceEdge.trans (sliceEdge_setSlice _ _)
  unfold State.takeOperation
  dsimp only
  split
  · exact hset.trans (groupEdge_sample _ _).sliceEdge
  · exact hset

theorem slice_clearSlice : (s.clearSlice key).slice key = Slice.zero :=
  (State.when_rel (R := fun t u => u.slice key = t.slice key) _ _ _ rfl fun _ => rfl).trans
    (State.slice_setSlice_same _ _)

theorem sliceEdge_clearSlice : SliceEdge key (s.head key) s (s.clearSlice key) := by
  have hset : SliceEdge key (s.head key) s ((s.headEdge key).setSlice key Slice.zero) :=
    (groupEdge_headEdge s key).sliceEdge.trans (sliceEdge_setSlice _ _)
  exact State.when_rel (R := fun _ u => SliceEdge key (s.head key) s u) _ _ _ hset fun h => by
    rw [beq_iff_eq.mp h] at hset ⊢
    exact hset.trans (sliceEdge_setGroup _ _)

/-- ACC_S as CHAIN: the southern ACC over a link, 0 without one (R131, R132). -/
theorem toInt_acc_southSlice :
    (s.southSlice key).acc.toInt = if s.linked key then (s.slice (key - 1)).acc.toInt else 0 := by
  unfold State.southSlice
  split <;> rfl

end

/-! ## SLICE_OPERATION -/

section
variable {k : Fin 32} {a : Fin 384} {x0 x1 : BitVec 27} {y : BitVec 24} {kk : BitVec 58} {fn : Fin 16} {ps valid : Bool}
variable {s : State}

theorem sliceOperation_idle (h : s.fab.gsr = true ∨ s.heldIn (s.sliceRegion (k.val * 384 + a.val)) = true ∨
      s.netRuns k (s.act.slCfg (k.val * 384 + a.val)).net = false) (ce rst : Bool) :
    exec (.sliceOperation k a x0 x1 y kk fn ps valid ce rst) s = .next s :=
  congrArg Host.Outcome.next (if_pos (by simpa [or_assoc] using h))

section
variable (h : SliceActs k a s)
include h

theorem exec_sliceOperation (ce rst : Bool) : exec (.sliceOperation k a x0 x1 y kk fn ps valid ce rst) s =
    .next (if rst then s.clearSlice (k.val * 384 + a.val)
      else if !ce then s.headEdge (k.val * 384 + a.val)
      else s.takeOperation (k.val * 384 + a.val) ⟨x0, x1, y, kk, fn, ps, valid⟩) := by
  obtain ⟨hgsr, hheld, hnet⟩ := h
  simp only [State.takeOperation, ← advance_headEdge]
  exact congrArg Host.Outcome.next (if_neg (by simp [hgsr, hheld, hnet]))

/-- CE 1 and RST 0: whatever follows from the slice's advance, and from its edge changing nothing else, comes about. -/
theorem sliceOperation_advances {P : State → Prop}
    (hP : ∀ t, t.slice (k.val * 384 + a.val) = (s.advanced (k.val * 384 + a.val) ⟨x0, x1, y, kk, fn, ps, valid⟩).1 →
      SliceEdge (k.val * 384 + a.val) (s.head (k.val * 384 + a.val)) s t → P t) :
    Completes (.sliceOperation k a x0 x1 y kk fn ps valid true false) s P :=
  ⟨_, exec_sliceOperation h true false, hP _ (slice_takeOperation _ _ _) (sliceEdge_takeOperation _ _ _)⟩

theorem sliceOperation_without_ce : Completes (.sliceOperation k a x0 x1 y kk fn ps valid false false) s (fun t =>
    (∀ j, t.slice j = s.slice j) ∧ (∀ j, j ≠ s.head (k.val * 384 + a.val) → t.group j = s.group j) ∧
    Only [.fab] s t) := by
  have hedge := groupEdge_headEdge s (k.val * 384 + a.val)
  obtain ⟨-, hgroup, honly⟩ := hedge.sliceEdge (key := k.val * 384 + a.val)
  exact ⟨_, exec_sliceOperation h false false, hedge.slice, hgroup, honly⟩

theorem sliceOperation_rst (ce : Bool) : Completes (.sliceOperation k a x0 x1 y kk fn ps valid ce true) s (fun t =>
    t.slice (k.val * 384 + a.val) = Slice.zero ∧ (∀ j, j ≠ k.val * 384 + a.val → t.slice j = s.slice j) ∧
    Only [.fab] s t) := by
  obtain ⟨hslice, -, honly⟩ := sliceEdge_clearSlice s (k.val * 384 + a.val)
  exact ⟨_, exec_sliceOperation h ce true, slice_clearSlice _ _, hslice, honly⟩

end
end

theorem sliceOperationComputes : SliceOperationComputes := by
  intro k a x0 x1 y kk fn ps valid s key c sl chain sh
  have hchain : (s.southSlice key).acc.toInt = chain := toInt_acc_southSlice s key
  refine ⟨fun h => ⟨fun hr hp hy => ?_, fun hr hp hy hadd => ?_, fun hr hp => ?_, sliceOperation_without_ce h,
    sliceOperation_rst h⟩, sliceOperation_idle⟩
  · refine sliceOperation_advances h fun t ht hedge => ?_
    obtain ⟨hacc, hovf, hout, hoflow, hload⟩ := advance_no_stages ⟨x0, x1, y, kk, fn, ps, valid⟩ sh sl
      (s.southSlice key) (s.southY key) hr hy
    rw [multiplicand_direct _ hp, hchain] at hacc hovf hout hoflow
    rw [ht]
    exact ⟨hacc, hovf, hout, hoflow, hload, hedge⟩
  · refine sliceOperation_advances h fun t ht _ => ?_
    obtain ⟨hacc, -⟩ := advance_no_stages ⟨x0, x1, y, kk, fn, ps, valid⟩ sh sl
      (s.southSlice key) (s.southY key) hr hy
    rw [multiplicand_sum _ hp hadd, hchain] at hacc
    rw [ht]
    exact hacc
  · refine sliceOperation_advances h fun t ht ⟨hslice, _, honly⟩ => ?_
    obtain ⟨hi1, hi2, hpr, hacc, hout, houtV⟩ := advance_all_stages ⟨x0, x1, y, kk, fn, ps, valid⟩ sh sl
      (s.southSlice key) (s.southY key) hr hp
    rw [hchain] at hacc
    rw [ht]
    exact ⟨hi1, hi2, hpr, hacc, hout, houtV, hslice, honly⟩

/-- Settles O24: an operation by `sliceOperationComputes`, whose stages are `advance_no_stages` and `advance_all_stages`; the
functions and limits by `accumulatorFunctionsAndSaturation`. -/
theorem slicesComputeAndSaturate : Obligations.SlicesComputeAndSaturate := by
  unfold Obligations.SlicesComputeAndSaturate
  exact ⟨sliceOperationComputes, accumulatorFunctionsAndSaturation⟩

end Sys2Proof.Machine
end

section
/-! ## Fields of a word after a masked write (R12, R18) -/

namespace Sys2Proof

/-- A field's mask covers the field's bits. -/
theorem getLsbD_mask {f : Fld} {i : Nat} (hi : i < 32) : f.mask.getLsbD i = decide (f.lo ≤ i ∧ i < f.lo + f.w) := by
  have hm : f.mask = Word.fput 0 f (2 ^ f.w - 1) := by
    have hlt : 2 ^ f.w - 1 < 2 ^ f.w := Nat.sub_lt (Nat.two_pow_pos _) Nat.one_pos
    simp [Word.fput, Fld.mask, Nat.mod_eq_of_lt hlt]
  rw [hm, Word.getLsbD_fput _ _ _ _ hi]
  by_cases h : f.lo ≤ i ∧ i < f.lo + f.w
  · have : i - f.lo < f.w := by omega
    simp [h, Nat.testBit_two_pow_sub_one, this]
  · simp [h]

/-- Two words agree on a field where they agree on the bits of its mask. -/
theorem and_mask_eq_zero_iff {v w : Word} {f : Fld} (hf : f.lo + f.w ≤ 32) :
    (v ^^^ w) &&& f.mask = 0 ↔ v.fget f = w.fget f := by
  constructor
  · intro h
    refine Nat.eq_of_testBit_eq fun k => ?_
    rw [Word.testBit_fget, Word.testBit_fget]
    by_cases hk : k < f.w
    · have hbit := congrArg (fun x : Word => x.getLsbD (f.lo + k)) h
      simpa [getLsbD_mask (f := f) (i := f.lo + k) (by omega), hk] using hbit
    · simp [hk]
  · intro h
    refine BitVec.eq_of_getLsbD_eq fun i hi => ?_
    rw [BitVec.getLsbD_and, BitVec.getLsbD_xor, getLsbD_mask hi]
    by_cases hin : f.lo ≤ i ∧ i < f.lo + f.w
    · have hw : i - f.lo < f.w := by omega
      have hbit : v.getLsbD i = w.getLsbD i := by
        simpa [Word.testBit_fget, hw, Nat.add_sub_cancel' hin.1] using congrArg (fun n => n.testBit (i - f.lo)) h
      simp [hbit]
    · simp [hin]

/-- A field all of whose bits a mask picks reads as in the word picked. -/
theorem fget_merge_picked (a b : Word) {m : Word} {f : Fld} (h : ∀ i < f.w, m.getLsbD (f.lo + i) = true) :
    Word.fget ((a &&& ~~~ m) ||| (b &&& m)) f = b.fget f := by
  refine Nat.eq_of_testBit_eq fun k => ?_
  rw [Word.testBit_fget, Word.testBit_fget]
  by_cases hk : k < f.w
  · simp [hk, h k hk]
  · simp [hk]

/-- A field none of whose bits a mask picks reads as in the other word. -/
theorem fget_merge_left (a b : Word) {m : Word} {f : Fld} (hf : f.lo + f.w ≤ 32)
    (h : ∀ i < f.w, m.getLsbD (f.lo + i) = false) : Word.fget ((a &&& ~~~ m) ||| (b &&& m)) f = a.fget f := by
  refine Nat.eq_of_testBit_eq fun k => ?_
  rw [Word.testBit_fget, Word.testBit_fget]
  by_cases hk : k < f.w
  · have hlt : f.lo + k < 32 := by omega
    rw [BitVec.getLsbD_or, BitVec.getLsbD_and, BitVec.getLsbD_and, BitVec.getLsbD_not, h k hk]
    simp [hlt]
  · simp [hk]

/-- Where two words agree on the bits that a mask picks, picking them changes nothing. -/
theorem merge_of_agree {a b m : Word} (h : (a ^^^ b) &&& m = 0) : (a &&& ~~~ m) ||| (b &&& m) = a := by
  refine BitVec.eq_of_getLsbD_eq fun i hi => ?_
  have hbit : ((a.getLsbD i ^^ b.getLsbD i) && m.getLsbD i) = false := by
    rw [← BitVec.getLsbD_xor, ← BitVec.getLsbD_and, h]
    exact BitVec.getLsbD_zero
  rw [BitVec.getLsbD_or, BitVec.getLsbD_and, BitVec.getLsbD_and, BitVec.getLsbD_not]
  cases hm : m.getLsbD i
  · simp [hi]
  · have hab : a.getLsbD i = b.getLsbD i := by simpa [hm] using hbit
    simp [hab]

namespace Machine

/-- A write named after a bit at 0 is the write with that field at 0. -/
theorem bitOff_eq_fput (v : Word) (f : Fld) : bitOff v f = v.fput f 0 := by
  simp [bitOff, Word.fput]

theorem fget_bitOff_self (v : Word) {f : Fld} (h : f.lo + f.w ≤ 32) : (bitOff v f).fget f = 0 := by
  rw [bitOff_eq_fput, Word.fget_fput_same _ _ _ h, Nat.zero_mod]

theorem fget_bitOff_apart (v : Word) {f g : Fld} (h : g.lo + g.w ≤ f.lo ∨ f.lo + f.w ≤ g.lo) (hg : g.lo + g.w ≤ 32) :
    (bitOff v f).fget g = v.fget g := by
  rw [bitOff_eq_fput, Word.fget_fput_apart _ _ _ _ h hg]

/-- A write to a register without STAGED fields: its value in effect, and the answer to an ignored LOCKED field. -/
theorem State.store_of_unstaged {off : Nat} {r : RegRow} {ix : List Nat} (h : rowAt off = some (r, ix)) (hs : r.stg = 0)
    (s : State) (open_ : Bool) (v : Word) (locked : State → State) : s.store open_ off v locked =
      (s.setReg off (r.after open_ (s.reg off) v)).when (r.lockedHit open_ (s.reg off) v) locked := by
  simp [State.store, State.rawWrite, h, hs]

/-- A record of an ignored LOCKED write raises no source; of a quiet source it only joins the waiting reports (R24, R25). -/
theorem State.report_locked_quiet {s : State} {r : Report} (u : Nat) (hc : r.cls = 0x18) (hq : s.quiet r.src) :
    s.report u r = { s with err := { s.err with waiting := s.err.waiting ++ [⟨u, r, 0⟩] } } := by
  have hnone : s.err.waiting.find? (fun w => w.rpt.src == r.src && w.unit == u) = none :=
    List.find?_eq_none.mpr fun w hw => by simp [hq w hw]
  simp [State.report, hc, State.when, hnone]

end Machine
end Sys2Proof
end

section
/-! ## The watchdog's registers (R635) -/

namespace Sys2Proof.Machine

theorem rowAt_wdtCtrl : rowAt R.WDT_CTRL = some (⟨0x100, [], 0x10, 1, 0, 0x30, 0, 0, 0, 0xFFFF0000⟩, []) := by decide

theorem rowAt_wdtLoad : rowAt R.WDT_LOAD = some (⟨0x104, [], 0x30D40, 0, 0, 0xFFFFFFFF, 0, 0, 0, 0⟩, []) := by decide

/-! ### Who may write them -/

section
variable {off loc ep : Nat} (hwin : winOf off = some (.dbg, 0, loc))
include hwin

/-- What it takes to reach the DBG and WDT window is the same for all of its registers. -/
theorem reaches_dbg (h4 : off % 4 = 0) (s : State) :
    s.reaches ep off = (s.presents ep && s.niOn ep && s.niOn 0x6C) := by
  simp [State.reaches, State.targetOn, niWindow, csrDest, hwin, h4]

/-- The watchdog accepts writes from endpoint 0x68 alone. -/
theorem csrAccepts_wdt (hl : 0x100 ≤ loc) (s : State) : s.csrAccepts ep true off = (ep == 0x68) := by
  simp [State.csrAccepts, hwin, hl]

theorem busWrite_wdt_refused (h4 : off % 4 = 0) (hl : 0x100 ≤ loc) (hep : ep ≠ 0x68) {s : State}
    (hr : s.reaches ep R.WDT_CTRL = true) (v : Word) : s.busWrite ep off v = s.failed ep 2 := by
  have hreach : s.reaches ep off = true := by
    rw [reaches_dbg hwin h4, ← hr, reaches_dbg (off := R.WDT_CTRL) rfl rfl]
  simp [State.busWrite, hreach, csrAccepts_wdt hwin hl, hep, State.refuse, State.csrRefused, hwin]

theorem busWrite_dbg {s : State} (hw : s.mayWrite ep off) (v : Word) : s.busWrite ep off v = s.dbgWrite loc off v := by
  rw [busWrite_of_mayWrite hw, State.csrWrite, hwin]

end

theorem mayWrite_wdtCtrl {s : State} {ep : Nat} (h : s.mayWrite ep R.WDT_LOAD) : s.mayWrite ep R.WDT_CTRL := by
  obtain ⟨hr, ha⟩ := h
  rw [reaches_dbg (loc := 0x104) rfl rfl] at hr
  rw [csrAccepts_wdt (loc := 0x104) rfl (by decide)] at ha
  exact ⟨by rw [reaches_dbg (loc := 0x100) rfl rfl, hr], by rw [csrAccepts_wdt (loc := 0x100) rfl (by decide), ha]⟩

/-- The failed access has its completion at the head, and touches the network alone. -/
theorem failed_completes (s : State) (ep status : Nat) :
    (s.failed ep status).noc.done.head? = some ⟨ep, 0, status, []⟩ ∧ Only [.noc] s (s.failed ep status) := by
  refine ⟨rfl, fun p hp => ?_⟩
  cases p
  case noc => simp at hp
  all_goals rfl

/-! ### What an accepted write does -/

/-- WDT_COUNT stands where it has run down to, as the clearing of EN leaves it. -/
def State.wdtCountHeld (s : State) : State :=
  { s.setReg R.WDT_COUNT (BitVec.ofNat 32 s.wdtNow) with draws := s.draws + 1 }

/-- A write that would clear EN. -/
def State.wdtClears (s : State) (v : Word) : Bool := s.flag R.WDT_CTRL F.WDT_CTRL_EN && v.fget F.WDT_CTRL_EN == 0

theorem wdtBadClear_eq (s : State) (v : Word) :
    s.wdtBadClear v = (s.wdtClears v && v.fget F.WDT_CTRL_KEY != 0xC1A5) := rfl

/-- The fields of a write to WDT_CTRL stored, and an ignored ACTION answered. -/
def State.wdtCtrlStore (s : State) (open_ : Bool) (v : Word) : State :=
  s.store open_ R.WDT_CTRL v (fun t => t.wdtLocked 0x100)

section
variable {s : State} {ep : Nat}

theorem wdtOpen_of_enabled (h : s.flag R.WDT_CTRL F.WDT_CTRL_EN = true) : s.wdtOpen = false := by
  rw [State.wdtOpen, h, Bool.not_true]

theorem fget_en_of_enabled (h : s.flag R.WDT_CTRL F.WDT_CTRL_EN = true) : (s.reg R.WDT_CTRL).fget F.WDT_CTRL_EN = 1 := by
  have hne : (s.reg R.WDT_CTRL).fget F.WDT_CTRL_EN ≠ 0 := bne_iff_ne.mp h
  have hlt : (s.reg R.WDT_CTRL).fget F.WDT_CTRL_EN < 2 := Nat.mod_lt _ (by decide)
  omega

theorem wdtOpen_of_disabled (h : s.flag R.WDT_CTRL F.WDT_CTRL_EN = false) : s.wdtOpen = true := by
  rw [State.wdtOpen, h, Bool.not_false]

theorem wdtClears_bitOff (h : s.flag R.WDT_CTRL F.WDT_CTRL_EN = true) (v : Word) :
    s.wdtClears (bitOff v F.WDT_CTRL_EN) = true := by
  rw [State.wdtClears, h, fget_bitOff_self v (by decide)]
  rfl

theorem busWrite_wdtLoad (hw : s.mayWrite ep R.WDT_LOAD) (v : Word) :
    s.busWrite ep R.WDT_LOAD v = s.store s.wdtOpen R.WDT_LOAD v (fun t => t.wdtLocked 0x104) := by
  rw [busWrite_dbg (loc := 0x104) rfl hw]
  rfl

section
variable (hw : s.mayWrite ep R.WDT_CTRL) {v : Word}
include hw

/-- The key decides on a write that clears EN, and the count stands from then on; any other write is stored (R635). -/
theorem busWrite_wdtCtrl (v : Word) : s.busWrite ep R.WDT_CTRL v =
    if s.wdtBadClear v then s.setFlag R.WDT_STAT F.WDT_STAT_BADKEY true
    else (s.when (s.wdtClears v) State.wdtCountHeld).wdtCtrlStore s.wdtOpen v := by
  rw [busWrite_dbg (loc := 0x100) rfl hw]
  rfl

/-- A write that does not clear EN needs no key. -/
theorem busWrite_wdtCtrl_keepsEn (h : s.wdtClears v = false) :
    s.busWrite ep R.WDT_CTRL v = s.wdtCtrlStore s.wdtOpen v := by
  have hgood : s.wdtBadClear v = false := by rw [wdtBadClear_eq, h, Bool.false_and]
  rw [busWrite_wdtCtrl hw, hgood, if_neg Bool.false_ne_true, State.when_false h]

theorem busWrite_wdtCtrl_badKey (h : s.wdtClears v = true) (hk : v.fget F.WDT_CTRL_KEY ≠ 0xC1A5) :
    s.busWrite ep R.WDT_CTRL v = s.setFlag R.WDT_STAT F.WDT_STAT_BADKEY true := by
  have hbad : s.wdtBadClear v = true := by rw [wdtBadClear_eq, h, Bool.true_and, bne_iff_ne.mpr hk]
  rw [busWrite_wdtCtrl hw, if_pos hbad]

theorem busWrite_wdtCtrl_key (h : s.wdtClears v = true) (hk : v.fget F.WDT_CTRL_KEY = 0xC1A5) :
    s.busWrite ep R.WDT_CTRL v = s.wdtCountHeld.wdtCtrlStore s.wdtOpen v := by
  have hgood : s.wdtBadClear v = false := by simp [wdtBadClear_eq, hk]
  rw [busWrite_wdtCtrl hw, hgood, if_neg Bool.false_ne_true, State.when_true h]

end
end

/-! ### The fields of WDT_CTRL after a write -/

/-- WDT_CTRL after a write: EN is LIVE, ACTION takes the value only while the block is open. -/
def wdtCtrlAfter (open_ : Bool) (old v : Word) : Word :=
  (old &&& ~~~ (if open_ then 0x31 else 1)) ||| (v &&& (if open_ then 0x31 else 1))

section
variable (open_ : Bool) (old v : Word)

theorem fget_wdtCtrlAfter_en : (wdtCtrlAfter open_ old v).fget F.WDT_CTRL_EN = v.fget F.WDT_CTRL_EN := by
  cases open_
  · exact fget_merge_picked _ _ (by decide)
  · exact fget_merge_picked _ _ (by decide)

theorem fget_wdtCtrlAfter_action_open : (wdtCtrlAfter true old v).fget F.WDT_CTRL_ACTION = v.fget F.WDT_CTRL_ACTION :=
  fget_merge_picked _ _ (by decide)

theorem fget_wdtCtrlAfter_action_locked :
    (wdtCtrlAfter false old v).fget F.WDT_CTRL_ACTION = old.fget F.WDT_CTRL_ACTION :=
  fget_merge_left _ _ (by decide) (by decide)

/-- A locked write with EN as it is leaves the register as it is. -/
theorem wdtCtrlAfter_locked_same_en {old v : Word} (h : v.fget F.WDT_CTRL_EN = old.fget F.WDT_CTRL_EN) :
    wdtCtrlAfter false old v = old :=
  merge_of_agree ((and_mask_eq_zero_iff (f := F.WDT_CTRL_EN) (by decide)).mpr h.symm)

/-- The record of an ignored ACTION is due where the block is not open and the write carries another ACTION (R24). -/
theorem wdtCtrlStore_eq (s : State) : s.wdtCtrlStore open_ v =
    (s.setReg R.WDT_CTRL (wdtCtrlAfter open_ (s.reg R.WDT_CTRL) v)).when
      (!open_ && v.fget F.WDT_CTRL_ACTION != s.fld R.WDT_CTRL F.WDT_CTRL_ACTION) (fun t => t.wdtLocked 0x100) := by
  have hhit : (((s.reg R.WDT_CTRL ^^^ v) &&& 0x30) != 0) =
      (v.fget F.WDT_CTRL_ACTION != s.fld R.WDT_CTRL F.WDT_CTRL_ACTION) := by
    have hiff := and_mask_eq_zero_iff (v := s.reg R.WDT_CTRL) (w := v) (f := F.WDT_CTRL_ACTION) (by decide)
    have hiff' : (s.reg R.WDT_CTRL ^^^ v) &&& 0x30 = 0 ↔ v.fget F.WDT_CTRL_ACTION = s.fld R.WDT_CTRL F.WDT_CTRL_ACTION :=
      hiff.trans eq_comm
    rw [Bool.eq_iff_iff, bne_iff_ne, bne_iff_ne, ne_eq, ne_eq, hiff']
  rw [State.wdtCtrlStore, State.store_of_unstaged rowAt_wdtCtrl rfl, RegRow.lockedHit, hhit]
  cases open_
  · simp [RegRow.after, wdtCtrlAfter, word_and_ones]
  · simp [RegRow.after, wdtCtrlAfter, word_and_ones]

end

/-- The record of an ignored ACTION does not reach WDT_CTRL, even where it meets one that still waits (R600, R601). -/
theorem reg_wdtCtrl_wdtCtrlStore (s : State) (open_ : Bool) (v : Word) :
    (s.wdtCtrlStore open_ v).reg R.WDT_CTRL = wdtCtrlAfter open_ (s.reg R.WDT_CTRL) v := by
  have hlocked : ∀ t : State, RegsOr [R.WDT_STAT] t (t.wdtLocked 0x100) := fun t =>
    (regsOr_setReg (.inl (by simp)) t _).trans (regsOr_report _ _ _ (by decide) (by decide))
  rw [wdtCtrlStore_eq]
  refine Eq.trans ?_ (State.reg_setReg_same s R.WDT_CTRL _)
  exact State.when_rel (R := RegsOr [R.WDT_STAT]) _ _ _ (regsOr_of_csr rfl) (fun _ => hlocked _)
    R.WDT_CTRL (by decide) (by decide)

/-! ### LOCKED refusals and the count -/

/-- From `s` to `t` the write of a LOCKED field at the watchdog's offset `loc` has been ignored: LOCKED_WR is set, a record
waits, nothing else changes (R24, R25). -/
def WdtLockedWrite (loc : Nat) (s t : State) : Prop :=
  t.flag R.WDT_STAT F.WDT_STAT_LOCKED_WR = true ∧ t.err.waiting = s.err.waiting ++ [⟨0, ⟨4, 0, 0x18, loc⟩, 0⟩] ∧
  RegsBut [R.WDT_STAT] s t ∧ Only [.csr, .err] s t

theorem wdtLocked_quiet {s : State} {loc : Nat} (hl : loc < 2 ^ 16) (hq : s.quiet 4) :
    WdtLockedWrite loc s (s.wdtLocked loc) := by
  have ht : s.wdtLocked loc = { s.setFlag R.WDT_STAT F.WDT_STAT_LOCKED_WR true with
      err := { s.err with waiting := s.err.waiting ++ [⟨0, ⟨4, 0, 0x18, loc⟩, 0⟩] } } := by
    have hinfo : loc % 2 ^ 16 + 2 ^ 16 * (0 % 256) = loc := by omega
    simp only [State.wdtLocked, State.lockedRecord, hinfo]
    exact State.report_locked_quiet 0 rfl hq
  rw [ht]
  refine ⟨State.flag_setFlag_same s _ _ true (by decide), rfl, regsBut_setReg (by simp) s _, ?_⟩
  intro p hp
  cases p
  case csr | err => simp at hp
  all_goals rfl

/-- The same where the write has set a register to the value that it held. -/
theorem wdtLocked_reg_kept {s : State} {off loc : Nat} (hl : loc < 2 ^ 16) (hq : s.quiet 4) :
    WdtLockedWrite loc s ((s.setReg off (s.reg off)).wdtLocked loc) := by
  have hkept : RegsBut [R.WDT_STAT] s (s.setReg off (s.reg off)) := fun j _ => by
    rw [State.reg_setReg]
    split
    · next h => rw [h]
    · rfl
  obtain ⟨hflag, hwait, hregs, honly⟩ := wdtLocked_quiet (s := s.setReg off (s.reg off)) hl hq
  exact ⟨hflag, hwait, hkept.trans hregs, (only_setReg (by simp) s _ _).trans honly⟩

theorem wdtNow_le (s : State) : s.wdtNow ≤ (s.reg R.WDT_COUNT).toNat := by
  unfold State.wdtNow
  dsimp only
  split
  · exact Nat.lt_succ_iff.mp (Nat.mod_lt _ (Nat.succ_pos _))
  · exact le_rfl

theorem wdtCountHeld_count_le (s : State) : (s.wdtCountHeld.reg R.WDT_COUNT).toNat ≤ (s.reg R.WDT_COUNT).toNat := by
  have hreg : s.wdtCountHeld.reg R.WDT_COUNT = BitVec.ofNat 32 s.wdtNow := State.reg_setReg_same s _ _
  rw [hreg, BitVec.toNat_ofNat]
  exact (Nat.mod_le _ _).trans (wdtNow_le s)

theorem regsBut_wdtCountHeld (s : State) : RegsBut [R.WDT_COUNT] s s.wdtCountHeld :=
  regsBut_setReg (by simp) s _

theorem only_wdtCountHeld (s : State) : Only [.csr, .draws] s s.wdtCountHeld := by
  intro p hp
  cases p
  case csr | draws => simp at hp
  all_goals rfl

/-! ## The commands -/

section
variable {s : State} {v : Word} {P : State → Prop}

theorem completes_registerWrite {off : Nat} (h : P (s.busWrite 0x68 off v)) : Completes (.registerWrite 0x68 off v) s P :=
  ⟨_, rfl, h⟩

theorem completes_wdtDisable (h : P (s.busWrite 0x68 R.WDT_CTRL (bitOff v F.WDT_CTRL_EN))) :
    Completes (.wdtDisable 0x68 v) s P := ⟨_, rfl, h⟩

section
variable (hw : s.mayWrite 0x68 R.WDT_CTRL) (hen : s.flag R.WDT_CTRL F.WDT_CTRL_EN = true)
include hw hen

theorem wdtDisable_bad_key (hk : v.fget F.WDT_CTRL_KEY ≠ 0xC1A5) : Completes (.wdtDisable 0x68 v) s (fun t =>
    t.flag R.WDT_STAT F.WDT_STAT_BADKEY = true ∧ RegsBut [R.WDT_STAT] s t ∧ Only [.csr] s t) := by
  refine completes_wdtDisable ?_
  rw [busWrite_wdtCtrl_badKey hw (wdtClears_bitOff hen v) (by rwa [fget_bitOff_apart v (by decide) (by decide)])]
  exact ⟨State.flag_setFlag_same s _ _ true (by decide), regsBut_setReg (by simp) s _, only_setReg (by simp) s _ _⟩

variable (hk : v.fget F.WDT_CTRL_KEY = 0xC1A5)
include hk

/-- The write of WDT_DISABLE that carries the key. -/
theorem busWrite_wdtDisable_key : s.busWrite 0x68 R.WDT_CTRL (bitOff v F.WDT_CTRL_EN) =
    s.wdtCountHeld.wdtCtrlStore false (bitOff v F.WDT_CTRL_EN) := by
  rw [busWrite_wdtCtrl_key hw (wdtClears_bitOff hen v) (by rwa [fget_bitOff_apart v (by decide) (by decide)]),
    wdtOpen_of_enabled hen]

theorem wdtDisable_clears_en : Completes (.wdtDisable 0x68 v) s (fun t => t.flag R.WDT_CTRL F.WDT_CTRL_EN = false ∧
    t.fld R.WDT_CTRL F.WDT_CTRL_ACTION = s.fld R.WDT_CTRL F.WDT_CTRL_ACTION) := by
  refine completes_wdtDisable ?_
  rw [busWrite_wdtDisable_key hw hen hk, State.flag, State.fld, State.fld, reg_wdtCtrl_wdtCtrlStore,
    fget_wdtCtrlAfter_en, fget_wdtCtrlAfter_action_locked, fget_bitOff_self v (by decide),
    regsBut_wdtCountHeld s R.WDT_CTRL (by decide)]
  exact ⟨rfl, rfl⟩

/-- With the ACTION in effect in the write nothing else changes but the count, which stops. -/
theorem wdtDisable_same_action (ha : v.fget F.WDT_CTRL_ACTION = s.fld R.WDT_CTRL F.WDT_CTRL_ACTION) :
    Completes (.wdtDisable 0x68 v) s (fun t => (t.reg R.WDT_COUNT).toNat ≤ (s.reg R.WDT_COUNT).toNat ∧
      RegsBut [R.WDT_CTRL, R.WDT_COUNT] s t ∧ Only [.csr, .draws] s t) := by
  have hsame : (!false && (bitOff v F.WDT_CTRL_EN).fget F.WDT_CTRL_ACTION !=
      s.wdtCountHeld.fld R.WDT_CTRL F.WDT_CTRL_ACTION) = false := by
    rw [State.fld, regsBut_wdtCountHeld s R.WDT_CTRL (by decide), fget_bitOff_apart v (by decide) (by decide), ha]
    exact bne_self_eq_false _
  refine completes_wdtDisable ?_
  rw [busWrite_wdtDisable_key hw hen hk, wdtCtrlStore_eq, State.when_false hsame]
  refine ⟨?_, ?_, (only_wdtCountHeld s).trans (only_setReg (by simp) _ _ _)⟩
  · rw [State.reg_setReg, if_neg (by decide)]
    exact wdtCountHeld_count_le s
  · have hcount : RegsBut [R.WDT_CTRL, R.WDT_COUNT] s s.wdtCountHeld := regsBut_setReg (by simp) s _
    exact hcount.trans (regsBut_setReg (by simp) _ _)

end

section
variable (hw : s.mayWrite 0x68 R.WDT_LOAD)
include hw

theorem wdtLoad_write_open (hen : s.flag R.WDT_CTRL F.WDT_CTRL_EN = false) :
    Completes (.registerWrite 0x68 R.WDT_LOAD v) s (fun t =>
      t.reg R.WDT_LOAD = v ∧ RegsBut [R.WDT_LOAD] s t ∧ Only [.csr] s t) := by
  have hstore : s.busWrite 0x68 R.WDT_LOAD v = s.setReg R.WDT_LOAD v := by
    rw [busWrite_wdtLoad hw, State.store_of_unstaged rowAt_wdtLoad rfl, wdtOpen_of_disabled hen]
    simp [RegRow.after, RegRow.lockedHit, State.when, word_and_ones]
  refine completes_registerWrite ?_
  rw [hstore]
  exact ⟨State.reg_setReg_same s _ _, regsBut_setReg (by simp) s _, only_setReg (by simp) s _ _⟩

theorem wdtCtrl_write_open (hen : s.flag R.WDT_CTRL F.WDT_CTRL_EN = false) :
    Completes (.registerWrite 0x68 R.WDT_CTRL v) s (fun t =>
      t.fld R.WDT_CTRL F.WDT_CTRL_ACTION = v.fget F.WDT_CTRL_ACTION ∧
      t.fld R.WDT_CTRL F.WDT_CTRL_EN = v.fget F.WDT_CTRL_EN ∧ RegsBut [R.WDT_CTRL] s t ∧ Only [.csr] s t) := by
  have hstore : s.busWrite 0x68 R.WDT_CTRL v = s.setReg R.WDT_CTRL (wdtCtrlAfter true (s.reg R.WDT_CTRL) v) := by
    rw [busWrite_wdtCtrl_keepsEn (mayWrite_wdtCtrl hw) (by rw [State.wdtClears, hen, Bool.false_and]),
      wdtCtrlStore_eq, wdtOpen_of_disabled hen]
    rfl
  refine completes_registerWrite ?_
  rw [hstore, State.fld, State.fld, State.reg_setReg_same]
  exact ⟨fget_wdtCtrlAfter_action_open _ _, fget_wdtCtrlAfter_en _ _ _, regsBut_setReg (by simp) s _,
    only_setReg (by simp) s _ _⟩

variable (hen : s.flag R.WDT_CTRL F.WDT_CTRL_EN = true) (hq : s.quiet 4)
include hen hq

theorem wdtLoad_write_locked (hv : v ≠ s.reg R.WDT_LOAD) :
    Completes (.registerWrite 0x68 R.WDT_LOAD v) s (WdtLockedWrite 0x104 s) := by
  have hstore : s.busWrite 0x68 R.WDT_LOAD v = (s.setReg R.WDT_LOAD (s.reg R.WDT_LOAD)).wdtLocked 0x104 := by
    rw [busWrite_wdtLoad hw, State.store_of_unstaged rowAt_wdtLoad rfl, wdtOpen_of_enabled hen]
    simp [RegRow.after, RegRow.lockedHit, State.when, word_and_ones, hv.symm]
  refine completes_registerWrite ?_
  rw [hstore]
  exact wdtLocked_reg_kept (by decide) hq

theorem wdtCtrl_write_locked (hv : v.fget F.WDT_CTRL_EN = 1)
    (ha : v.fget F.WDT_CTRL_ACTION ≠ s.fld R.WDT_CTRL F.WDT_CTRL_ACTION) :
    Completes (.registerWrite 0x68 R.WDT_CTRL v) s (WdtLockedWrite 0x100 s) := by
  have hsame : v.fget F.WDT_CTRL_EN = (s.reg R.WDT_CTRL).fget F.WDT_CTRL_EN := by
    rw [hv, fget_en_of_enabled hen]
  have hother : (!false && v.fget F.WDT_CTRL_ACTION != s.fld R.WDT_CTRL F.WDT_CTRL_ACTION) = true := by
    simpa using ha
  refine completes_registerWrite ?_
  rw [busWrite_wdtCtrl_keepsEn (mayWrite_wdtCtrl hw) (by simp [State.wdtClears, hv]), wdtOpen_of_enabled hen,
    wdtCtrlStore_eq, State.when_true hother, wdtCtrlAfter_locked_same_en hsame]
  exact wdtLocked_reg_kept (by decide) hq

end
end

/-- Every write of the watchdog's registers from another endpoint gets REFUSED, under tag 0, and does nothing else. -/
theorem wdt_write_refused {ep : Fin 256} {s : State} (hep : ep ≠ 0x68) (hr : s.reaches ep R.WDT_CTRL = true) (v : Word)
    {off loc : Nat} (hwin : winOf off = some (.dbg, 0, loc)) (h4 : off % 4 = 0) (hl : 0x100 ≤ loc) :
    (s.busWrite ep off v).noc.done.head? = some ⟨ep, 0, 2, []⟩ ∧ Only [.noc] s (s.busWrite ep off v) := by
  have hne : ep.val ≠ 0x68 := fun h => hep (Fin.ext h)
  rw [busWrite_wdt_refused hwin h4 hl hne hr]
  exact failed_completes s ep 2

/-- Settles O60: WDT_DISABLE by `wdtDisable_clears_en`, `wdtDisable_same_action` and `wdtDisable_bad_key`, the LOCKED fields
by the writes with the block open and locked, another endpoint by `wdt_write_refused`. -/
theorem watchdogDisableNeedsTheKey : Obligations.WatchdogDisableNeedsTheKey := by
  unfold Obligations.WatchdogDisableNeedsTheKey
  refine ⟨fun v s hw hen => ⟨wdtDisable_clears_en hw hen, fun hk ha => ?_, wdtDisable_bad_key hw hen⟩,
    fun v s hw => ⟨fun hen => ⟨wdtLoad_write_open hw hen, wdtCtrl_write_open hw hen⟩,
      fun hen hq => ⟨wdtLoad_write_locked hw hen hq, wdtCtrl_write_locked hw hen hq⟩⟩,
    fun ep v s hep hr => ⟨?_, ?_, fun off hoff => ?_⟩⟩
  · obtain ⟨t, ht, hflag, haction⟩ := wdtDisable_clears_en hw hen hk
    obtain ⟨u, hu, hrest⟩ := wdtDisable_same_action hw hen hk ha
    obtain rfl : t = u := Host.Outcome.next.inj (ht.symm.trans hu)
    exact ⟨t, ht, hflag, haction, hrest⟩
  · exact ⟨_, rfl, wdt_write_refused hep hr v (off := R.WDT_KICK) (loc := 0x108) rfl rfl (by decide)⟩
  · exact ⟨_, rfl, wdt_write_refused hep hr _ (off := R.WDT_CTRL) (loc := 0x100) rfl rfl (by decide)⟩
  · refine ⟨_, rfl, ?_⟩
    simp only [List.mem_cons, List.not_mem_nil, or_false] at hoff
    rcases hoff with rfl | rfl | rfl | rfl
    · exact wdt_write_refused hep hr v (loc := 0x100) rfl rfl (by decide)
    · exact wdt_write_refused hep hr v (loc := 0x104) rfl rfl (by decide)
    · exact wdt_write_refused hep hr v (loc := 0x108) rfl rfl (by decide)
    · exact wdt_write_refused hep hr v (loc := 0x110) rfl rfl (by decide)

end Sys2Proof.Machine
end

section
/-! ## What every command keeps

One lemma for each operation of the model that gives a state, in the order of the model's files: it keeps the queue, the fuse
bits and the canonical forms (`Keeps`). A command ends in a next state and keeps them too (`Ends`). -/

namespace Sys2Proof.Machine

/-- What every operation of the model keeps of the state it starts from: the queue of commands, each fuse bit that is 1 (R550),
and the canonical form of registers, staging copies and memories. -/
structure Keeps (s t : State) : Prop where
  queue : t.pending = s.pending
  fuses : s.fuses.within t.fuses
  regs : s.regsCanon → t.regsCanon
  mems : s.memsCanon → t.memsCanon

theorem bitsIn_refl (a : Nat) : bitsIn a a := Nat.or_self a

theorem bitsIn_trans {a b c : Nat} (h : bitsIn a b) (k : bitsIn b c) : bitsIn a c := by
  unfold bitsIn at *
  rw [← k, ← Nat.or_assoc, h]

theorem bitsIn_or (a v : Nat) : bitsIn a (a ||| v) := by
  unfold bitsIn
  rw [← Nat.or_assoc, Nat.or_self]

theorem Fuses.within_refl (f : Fuses) : f.within f := by simp [Fuses.within, bitsIn]

theorem Fuses.within_trans {f g h : Fuses} (a : f.within g) (b : g.within h) : f.within h := by
  obtain ⟨a1, a2, a3, a4, a5, a6, a7, a8, a9, a10, a11, a12, a13, a14, a15, a16⟩ := a
  obtain ⟨b1, b2, b3, b4, b5, b6, b7, b8, b9, b10, b11, b12, b13, b14, b15, b16⟩ := b
  exact ⟨bitsIn_trans a1 b1, bitsIn_trans a2 b2, bitsIn_trans a3 b3, bitsIn_trans a4 b4, bitsIn_trans a5 b5,
    bitsIn_trans a6 b6, bitsIn_trans a7 b7, bitsIn_trans a8 b8, bitsIn_trans a9 b9, bitsIn_trans a10 b10,
    bitsIn_trans a11 b11, bitsIn_trans a12 b12, bitsIn_trans a13 b13, fun k => bitsIn_trans (a14 k) (b14 k),
    fun k => bitsIn_trans (a15 k) (b15 k), fun k => bitsIn_trans (a16 k) (b16 k)⟩

namespace Keeps
variable {s t : State}

theorem refl (s : State) : Keeps s s := ⟨rfl, Fuses.within_refl _, id, id⟩

theorem trans {u : State} (h : Keeps s t) (k : Keeps t u) : Keeps s u :=
  ⟨k.queue.trans h.queue, Fuses.within_trans h.fuses k.fuses, k.regs ∘ h.regs, k.mems ∘ h.mems⟩

/-- An update that keeps registers, staging copies, fuses, queue and the words of the memories. -/
theorem parts (h : Keeps s t) {pad : Pad} {fab : Fabric} {rld : Rld} (hp : pad.words = t.pad.words := by rfl)
    (hf : fab.words = t.fab.words := by rfl) (hr : rld.words = t.rld.words := by rfl) {ic err act shd rgn base boot gate scrub noc sec tim ser board mbx fw ist tap dbg mc clk
      cross out draws} :
    Keeps s ⟨t.csr, t.stg, ic, err, act, shd, rgn, base, boot, gate, scrub, fab, noc, t.fuses, sec, tim, ser, board, pad, mbx,
      fw, ist, tap, dbg, mc, rld, clk, cross, out, draws, t.pending⟩ :=
  ⟨h.queue, h.fuses, h.regs, fun m => by
    obtain ⟨mp, mf, mr⟩ := h.mems m
    exact ⟨hp ▸ mp, hf ▸ mf, hr ▸ mr⟩⟩

theorem setReg (h : Keeps s t) (off : Nat) (v : Word) : Keeps s (t.setReg off v) :=
  ⟨h.queue, h.fuses, fun c => ⟨Tbl.wf_set _ _ _ _ (h.regs c).1, (h.regs c).2⟩, h.mems⟩

theorem setStaged (h : Keeps s t) (off : Nat) (v : Word) : Keeps s (t.setStaged off v) :=
  ⟨h.queue, h.fuses, fun c => ⟨(h.regs c).1, Tbl.wf_set _ _ _ _ (h.regs c).2⟩, h.mems⟩

theorem foldl {α : Type} {f : State → α → State} (h : Keeps s t) (l : List α) (hf : ∀ u x, Keeps s u → Keeps s (f u x)) :
    Keeps s (l.foldl f t) := by
  induction l generalizing t with
  | nil => exact h
  | cons x l ih => exact ih (hf t x h)

theorem forEach {α : Type} {f : State → α → State} (h : Keeps s t) (l : List α) (hf : ∀ u x, Keeps s u → Keeps s (f u x)) :
    Keeps s (t.forEach l f) := h.foldl l hf

theorem when {f : State → State} (h : Keeps s t) (b : Bool) (hf : ∀ u, Keeps s u → Keeps s (f u)) : Keeps s (t.when b f) := by
  unfold State.when
  split
  · exact hf t h
  · exact h

theorem setFld (h : Keeps s t) (off : Nat) (f : Fld) (n : Nat) : Keeps s (t.setFld off f n) := h.setReg _ _
theorem setFlag (h : Keeps s t) (off : Nat) (f : Fld) (b : Bool) : Keeps s (t.setFlag off f b) := h.setReg _ _
theorem ite {u : State} {c : Prop} [Decidable c] (h : Keeps s t) (k : Keeps s u) : Keeps s (if c then t else u) := by
  split
  · exact h
  · exact k

end Keeps

/-- A command ends in a next state that keeps all of that. -/
def Ends (s : State) (o : Host.Outcome State Fault Refusal) : Prop := ∃ t, o = .next t ∧ Keeps s t

theorem Ends.next {s t : State} (h : Keeps s t) : Ends s (.next t) := ⟨t, rfl, h⟩

theorem Ends.ite {s : State} {c : Prop} [Decidable c] {a b : Host.Outcome State Fault Refusal} (h : Ends s a) (k : Ends s b) :
    Ends s (if c then a else b) := by
  split
  · exact h
  · exact k

end Sys2Proof.Machine
end

section
namespace Sys2Proof.Machine

-- Elaborated in order: side by side, so many short proofs would each hold a thread with its stack.
set_option Elab.async false

variable {s t : State}

/-! ### Registers, sources and reports -/

theorem Keeps.setBit (h : Keeps s t) (off i : Nat) (b : Bool) : Keeps s (t.setBit off i b) := h.setFld _ _ _

theorem Keeps.count (h : Keeps s t) (off : Nat) (f : Fld) (n : Nat) : Keeps s (t.count off f n) := h.setFld _ _ _

theorem Keeps.countWrap (h : Keeps s t) (off : Nat) (f : Fld) (n : Nat) : Keeps s (t.countWrap off f n) :=
  h.setFld _ _ _

theorem Keeps.draw (h : Keeps s t) : Keeps s (t.draw).2 := by
  grind [State.draw, Keeps.parts, Keeps.refl]

theorem Keeps.raise (h : Keeps s t) (n : Nat) : Keeps s (t.raise n) := Keeps.ite h (Keeps.ite (h.parts) (h.parts))

theorem Keeps.pulse (h : Keeps s t) (n : Nat) : Keeps s (t.pulse n) := h.when _ (fun _ h1 => h1.raise _)

theorem Keeps.high (h : Keeps s t) (n : Nat) : Keeps s (t.high n) := h.when _ (fun _ h1 => h1.raise _)

theorem Keeps.offerFirst (h : Keeps s t) (r : Report) (time : Nat) : Keeps s (t.offerFirst r time) :=
  Keeps.ite h (((((h.setBit _ _ _).setReg _ _).setReg _ _).setReg _ _).setReg _ _)

theorem Keeps.countReport (h : Keeps s t) (r : Report) (time : Nat) : Keeps s (t.countReport r time) :=
  (h.count _ _ _).offerFirst _ _

theorem Keeps.countDrop (h : Keeps s t) (r : Report) : Keeps s (t.countDrop r) :=
  ((((h.count _ _ _).setFlag _ _ _).count _ _ _).when _ (fun _ h1 => (h1.setFlag _ _ _).high _)).high _

theorem Keeps.mergeReport (h : Keeps s t) (r : Report) (dropped : Bool) : Keeps s (t.mergeReport r dropped) :=
  Keeps.ite (h.parts) ((h.countReport _ _).when _ (fun _ h1 => h1.countDrop _))

theorem Keeps.report (h : Keeps s t) (unit : Nat) (r : Report) : Keeps s (t.report unit r) := by
  unfold State.report
  dsimp only
  split
  · exact (h.when _ (fun _ h1 => h1.pulse _)).parts
  · exact Keeps.ite (((h.when _ (fun _ h1 => h1.pulse _)).parts).mergeReport _ _) ((h.when _ (fun _ h1 => h1.pulse
      _)).mergeReport _ _)

theorem Keeps.lockedRecord (h : Keeps s t) (src inst loc : Nat) (reporter : Nat) : Keeps s (t.lockedRecord src inst
    loc reporter) :=
  h.report _ _

theorem Keeps.rawWrite (h : Keeps s t) (open_ : Bool) (off : Nat) (v : Word) : Keeps s (t.rawWrite open_ off v).1 :=
    by
  grind [State.rawWrite, Keeps.parts, Keeps.refl, Keeps.setReg, Keeps.setStaged]

theorem Keeps.applyReg (h : Keeps s t) (off : Nat) : Keeps s (t.applyReg off) := (h.setReg _ _).setStaged _ _

theorem Keeps.exchangeReg (h : Keeps s t) (off : Nat) : Keeps s (t.exchangeReg off) := (h.setReg _ _).setStaged _ _

/-! ### Planes and regions -/

theorem Keeps.setShadow (h : Keeps s t) (r n : Nat) : Keeps s (t.setShadow r n) := h.setFld _ _ _

theorem Keeps.setRg (h : Keeps s t) (r : Nat) (x : Rgn) : Keeps s (t.setRg r x) := h.parts

theorem Keeps.dropRegions (h : Keeps s t) : Keeps s t.dropRegions :=
  ⟨h.queue, h.fuses, fun c => ⟨Tbl.wf_filter _ _ _ (h.regs c).1, (h.regs c).2⟩, h.mems⟩

theorem Keeps.swapPlanes (h : Keeps s t) (r : Nat) : Keeps s (t.swapPlanes r) := h.parts

/-! ### The logic fabric -/

theorem Keeps.ffEdge (h : Keeps s t) (sector mask : Nat) : Keeps s (t.ffEdge sector mask) := Keeps.ite h (h.parts)

theorem Keeps.keepLines (h : Keeps s t) (sector : Nat) : Keeps s (t.keepLines sector) :=
  Keeps.ite h ((h.parts).forEach _ (fun _ _ h1 => h1.setBit _ _ _))

theorem Keeps.holdCells (h : Keeps s t) (pre : State) (r : Nat) : Keeps s (t.holdCells pre r) := h.parts

theorem Keeps.freeCells (h : Keeps s t) : Keeps s (t.freeCells) := h.parts

/-! ### Memories, queues, slices and probes -/

theorem Keeps.gsrSettle (h : Keeps s t) (sec : Nat) : Keeps s (t.gsrSettle sec) :=
  Keeps.ite h ((h.parts).when _ (fun _ h1 => h1.setReg _ _))

theorem Keeps.setBmWord (h : Keeps s t) (sec b w : Nat) (x : BmWord) : Keeps s (t.setBmWord sec b w x) :=
  ⟨h.queue, h.fuses, h.regs, fun m => State.memsCanon_setBmWord t sec b w x (h.mems m)⟩

theorem Keeps.bmError (h : Keeps s t) (sec b w : Nat) (de : Bool) : Keeps s (t.bmError sec b w de) :=
  ((Keeps.ite (h.count _ _ _) (h.count _ _ _)).setReg _ _).when _ (fun _ h1 => h1.report _ _)

theorem Keeps.bmFlags (h : Keeps s t) (sec b w : Nat) (sbe dbe : Bool) : Keeps s (t.bmFlags sec b w sbe dbe) :=
  Keeps.ite (h.bmError _ _ _ _) (Keeps.ite (h.bmError _ _ _ _) h)

theorem Keeps.bmFetch (h : Keeps s t) (sec b w : Nat) (ecc : Bool) : Keeps s (t.bmFetch sec b w ecc).2.2.2 := by
  grind [State.bmFetch, Keeps.parts, Keeps.refl, Keeps.bmFlags]

theorem Keeps.setPortOut (h : Keeps s t) (sec b : Nat) (portB : Bool) (o : PortOut) : Keeps s (t.setPortOut sec b
    portB o) :=
  h.parts

theorem Keeps.loadPort (h : Keeps s t) (sec b w : Nat) (bits : BitVec 72) (w72 : Bool) : Keeps s (t.loadPort sec b w
    bits w72) :=
  Keeps.ite (h.setBmWord _ _ _ _) (h.setBmWord _ _ _ _)

theorem Keeps.setQueue (h : Keeps s t) (q : QueueId) (x : Queue) : Keeps s (t.setQueue q x) := h.parts

theorem Keeps.setSlice (h : Keeps s t) (k : Nat) (x : Slice) : Keeps s (t.setSlice k x) := h.parts

theorem Keeps.setGroup (h : Keeps s t) (k : Nat) (x : Group) : Keeps s (t.setGroup k x) := h.parts

theorem Keeps.dropStarts (h : Keeps s t) : Keeps s (t.dropStarts) := h.forEach _ (fun _ _ h1 => h1.setGroup _ _)

theorem Keeps.assertGsr (h : Keeps s t) : Keeps s (t.assertGsr) := (h.forEach _ (fun _ _ h1 => h1.setReg _ _)).parts

theorem Keeps.keepOuts (h : Keeps s t) (r : Nat) : Keeps s (t.keepOuts r) :=
  h.forEach _ (fun _ _ h1 => h1.when _ (fun _ h2 => h2.setPortOut _ _ _ _))

theorem Keeps.fireFabric (h : Keeps s t) (r : Nat) (init : Bool) : Keeps s (t.fireFabric r init) :=
  (h.keepOuts _).parts

theorem Keeps.fireFfs (h : Keeps s t) (r : Nat) (init : Bool) : Keeps s (t.fireFfs r init) := h.parts

theorem Keeps.seeClocks (h : Keeps s t) : Keeps s (t.seeClocks) := h.parts

theorem Keeps.fireClocks (h : Keeps s t) (r : Nat) : Keeps s (t.fireClocks r) :=
  (h.seeClocks).foldl _ (fun _ _ h1 => Keeps.ite h1 ((h1.parts).setBit _ _ _))

theorem Keeps.setProbe (h : Keeps s t) (sec : Nat) (p : Probe) : Keeps s (t.setProbe sec p) := h.parts

theorem Keeps.prbAbort (h : Keeps s t) (sec : Nat) : Keeps s (t.prbAbort sec) :=
  h.when _ (fun _ h1 => h1.setFld _ _ _)

theorem Keeps.settlePins (h : Keeps s t) : Keeps s (t.settlePins) := by
  unfold State.settlePins
  dsimp only
  split
  · split
    · exact h
    · split
      · exact (h.setProbe _ _).parts
      · exact h.parts
  · split
    · exact h
    · split
      · exact (h.setProbe _ _).parts
      · exact h.parts

theorem Keeps.prbApply {f : State → Nat → State} (h : Keeps s t) (sec : Nat)
    (hf : ∀ u x, Keeps s u → Keeps s (f u x)) : Keeps s (t.prbApply sec f) :=
  ((((h.prbAbort _).when _ fun _ h1 => h1.setProbe _ _).foldl _ hf).countWrap _ _ _).settlePins

theorem Keeps.prbCtrl (h : Keeps s t) (sec : Nat) (v : Word) : Keeps s (t.prbCtrl sec v) :=
  ((h.when _ (fun _ h1 => h1.prbApply _ (fun _ _ h2 => h2.applyReg _))).when _ (fun _ h1 => h1.prbAbort _)).when _
      (fun _ h1 => Keeps.ite ((h1.setFlag _ _ _).setFld _ _ _) ((((h1.setFlag _ _ _).setFlag _ _ _).setFld _ _
      _).setProbe _ _))

theorem Keeps.prbStore (h : Keeps s t) (sec : Nat) (x : BitVec 64) : Keeps s (t.prbStore sec x) :=
  ((h.setBmWord _ _ _ _).when _ (fun _ h1 => h1.setFlag _ _ _)).setProbe _ _

theorem Keeps.prbDone (h : Keeps s t) (sec : Nat) : Keeps s (t.prbDone sec) := h.when _ (fun _ h1 => h1.setFld _ _ _)

theorem Keeps.prbTake (h : Keeps s t) (sec : Nat) (x : BitVec 64) : Keeps s (t.prbTake sec x) :=
  Keeps.ite (Keeps.ite ((((h.prbStore _ _).setFld _ _ _).setFld _ _ _).setProbe _ _) (h.prbStore _ _)) (Keeps.ite
      (Keeps.ite (h.prbDone _) (((h.prbStore _ _).setProbe _ _).prbDone _)) h)

theorem Keeps.prbEdge (h : Keeps s t) (sec : Nat) : Keeps s (t.prbEdge sec) :=
  Keeps.ite h (Keeps.ite (h.setProbe _ _) ((h.setProbe _ _).prbTake _ _))

theorem Keeps.clockEdge (h : Keeps s t) (sec mask : Nat) : Keeps s (t.clockEdge sec mask) :=
  Keeps.ite h (((((h.parts).keepLines _).when _ (fun _ h1 => h1.prbEdge _)).parts).keepLines _)

theorem Keeps.fabricTick (h : Keeps s t) : Keeps s (t.fabricTick) :=
  h.forEach _ (fun _ _ h1 => (h1.gsrSettle _).clockEdge _ _)

theorem Keeps.prbRead (h : Keeps s t) (sec : Nat) : Keeps s (t.prbRead sec).2 := by
  grind [State.prbRead, Keeps.parts, Keeps.refl, Keeps.bmFetch]

/-! ### Commands of the fabric -/

theorem ends_execBusContentionDetect (sec : Fin 32) (line : Fin 64) : Ends s (execBusContentionDetect sec line s) :=
  .next (Keeps.ite (Keeps.refl s) ((((Keeps.refl s).setBit _ _ _).setBit _ _ _).report _ _))

theorem Keeps.prbClock (h : Keeps s t) (sec : Nat) : Keeps s (t.prbClock sec) := h.clockEdge _ _

theorem Keeps.prbClocks (h : Keeps s t) (sec n : Nat) : Keeps s (t.prbClocks sec n) := by
  induction n with
  | zero => exact h
  | succ n ih => exact ih.prbClock _

theorem ends_execProbeTrigger (sec : Fin 32) (before : Nat) : Ends s (execProbeTrigger sec before s) :=
  .next (Keeps.ite (((Keeps.refl s).prbClocks _ _).prbClock _) (Keeps.refl s))

theorem ends_execProbeCaptureDone (sec : Fin 32) : Ends s (execProbeCaptureDone sec s) :=
  .next (Keeps.ite (((Keeps.refl s).prbClocks _ _).prbDone _) (Keeps.refl s))

theorem Keeps.bmUpset (h : Keeps s t) (sec b w : Nat) (up : List (Fin 72)) : Keeps s (t.bmUpset sec b w up) :=
  Keeps.ite h (h.setBmWord _ _ _ _)

theorem Keeps.bmPortRead (h : Keeps s t) (sec b : Nat) (portB : Bool) (addr : Nat) (sr : Bool) : Keeps s
    (t.bmPortRead sec b portB addr sr) :=
  Keeps.ite (h.setPortOut _ _ _ _) ((h.bmFetch _ _ _ _).setPortOut _ _ _ _)

theorem Keeps.bmStore (h : Keeps s t) (sec b : Nat) (portB : Bool) (addr : Nat) (data : BitVec 72) (be : BitVec 8) :
    Keeps s (t.bmStore sec b portB addr data be) :=
  Keeps.ite (h.setBmWord _ _ _ _) (Keeps.ite (h.setBmWord _ _ _ _) (h.setBmWord _ _ _ _))

theorem Keeps.bmBefore (h : Keeps s t) (sec b : Nat) (portB : Bool) (addr : Nat) (be : BitVec 8) (rd : Bool) : Keeps
    s (t.bmBefore sec b portB addr be rd).2 := by
  grind [State.bmBefore, Keeps.parts, Keeps.refl, Keeps.bmFetch]

theorem Keeps.bmAfter (h : Keeps s t) (sec b : Nat) (portB : Bool) (addr : Nat) (data : BitVec 72) (be : BitVec 8)
    (rd sr : Bool) (pre : Option (BitVec 72 × Bool × Bool)) : Keeps s (t.bmAfter sec b portB addr data be rd sr pre)
    :=
  Keeps.ite (((Keeps.ite h (h.bmStore _ _ _ _ _ _)).setPortOut _ _ _ _).parts) ((Keeps.ite h (h.bmStore _ _ _ _ _
      _)).setPortOut _ _ _ _)

theorem Keeps.bmPortWrite (h : Keeps s t) (sec b : Nat) (portB : Bool) (addr : Nat) (data : BitVec 72) (be : BitVec
    8) (rd sr : Bool) : Keeps s (t.bmPortWrite sec b portB addr data be rd sr) :=
  Keeps.ite (h.when _ (fun _ h1 => h1.bmPortRead _ _ _ _ _)) ((h.bmBefore _ _ _ _ _ _).bmAfter _ _ _ _ _ _ _ _ _)

theorem Keeps.rmwEnd (h : Keeps s t) (sec b : Nat) : Keeps s (t.rmwEnd sec b) :=
  Keeps.ite h ((h.parts).foldl _ (fun _ _ h1 => h1.setPortOut _ _ _ _))

theorem Keeps.bmOperate {f : State → State} (h : Keeps s t) (sec b : Nat) (portB : Bool) (addr : Nat) (busy : Bool)
    (hf : ∀ u, Keeps s u → Keeps s (f u)) : Keeps s (t.bmOperate sec b portB addr busy f) := by
  unfold State.bmOperate
  dsimp only
  split
  · exact hf _ h
  · exact .ite (hf _ (h.rmwEnd _ _)) (.ite (h.rmwEnd _ _) (.ite (h.setPortOut _ _ _ _) (hf _ h)))

theorem ends_execBmRead (sec : Fin 32) (b : Fin 256) (portB : Bool) (addr : Nat) (sr busy : Bool) (upset : List (Fin
    72)) : Ends s (execBmRead sec b portB addr sr busy upset s) :=
  .next (Keeps.ite ((Keeps.refl s).bmUpset _ _ _ _) (((Keeps.refl s).bmUpset _ _ _ _).bmOperate _ _ _ _ _ (fun _ h0
      => h0.bmPortRead _ _ _ _ _)))

theorem Keeps.bmTogether (h : Keeps s t) (sec b : Nat) (portB : Bool) (o q : PortOp) : Keeps s (t.bmTogether sec b
    portB o q) := by
  unfold State.bmTogether
  dsimp only
  split
  · exact (h.bmPortRead _ _ _ _ _).bmPortWrite _ _ _ _ _ _ _ _
  · exact (h.bmPortRead _ _ _ _ _).bmPortWrite _ _ _ _ _ _ _ _
  · exact (h.bmPortRead _ _ _ _ _).bmPortRead _ _ _ _ _
  · exact Keeps.ite ((h.bmPortWrite _ _ _ _ _ _ _ _).bmPortWrite _ _ _ _ _ _ _ _) ((((h.bmBefore _ _ _ _ _
      _).bmBefore _ _ _ _ _ _).bmAfter _ _ _ _ _ _ _ _ _).bmAfter _ _ _ _ _ _ _ _ _)

theorem Keeps.bmOne (h : Keeps s t) (sec b : Nat) (portB : Bool) (o : PortOp) : Keeps s (t.bmOne sec b portB o) := by
  unfold State.bmOne
  split
  · exact h.bmPortWrite _ _ _ _ _ _ _ _
  · exact h.bmPortRead _ _ _ _ _

theorem ends_execBmWrite (sec : Fin 32) (b : Fin 256) (portB : Bool) (addr : Nat) (data : BitVec 72) (be : BitVec 8)
    (rd sr busy : Bool) (other : Option PortOp) : Ends s (execBmWrite sec b portB addr data be rd sr busy other s)
    := by
  grind [execBmWrite, Keeps.parts, Keeps.refl, Ends, Keeps.bmOperate, Keeps.bmOne, Keeps.bmTogether]

theorem ends_execBmNarrowWrite (sec : Fin 32) (b : Fin 256) (portB : Bool) (addr : Nat) (data : BitVec 72) (be :
    BitVec 8) (rd sr busy : Bool) : Ends s (execBmNarrowWrite sec b portB addr data be rd sr busy s) :=
  .next (Keeps.ite ((Keeps.refl s).bmOperate _ _ _ _ _ (fun _ h0 => h0.bmPortWrite _ _ _ _ _ _ _ _)) (Keeps.refl s))

theorem Keeps.queueFetch (h : Keeps s t) (q : QueueId) (n : Nat) : Keeps s (t.queueFetch q n).2 := by
  cases q with
  | block sec b => exact h.bmFetch _ _ _ _
  | crossing sec dir i => exact h

theorem Keeps.queueStore (h : Keeps s t) (q : QueueId) (n : Nat) (data : BitVec 72) : Keeps s (t.queueStore q n
    data) := by
  unfold State.queueStore
  dsimp only
  split
  · exact Keeps.ite (h.bmBefore _ _ _ _ _ _) ((h.bmBefore _ _ _ _ _ _).bmStore _ _ _ _ _ _)
  · exact h.parts

theorem Keeps.queueFlag (h : Keeps s t) (q : QueueId) (f : Fld) : Keeps s (t.queueFlag q f) := by
  unfold State.queueFlag
  split
  · exact h.setFlag _ _ _
  · exact h

theorem Keeps.queueRefill (h : Keeps s t) (q : QueueId) (c : QCfg) : Keeps s (t.queueRefill q c) :=
  Keeps.ite ((h.queueFetch _ _).setQueue _ _) h

theorem ends_execQueueWrite (q : QueueId) (data : BitVec 72) : Ends s (execQueueWrite q data s) := by
  unfold execQueueWrite
  dsimp only
  split
  · exact .next (Keeps.refl s)
  · exact .next (Keeps.ite (Keeps.refl s) (Keeps.ite (((Keeps.refl s).setQueue _ _).queueFlag _ _) (((Keeps.refl
      s).queueStore _ _ _).setQueue _ _)))

theorem ends_execQueueRead (q : QueueId) : Ends s (execQueueRead q s) := by
  unfold execQueueRead
  dsimp only
  split
  · exact .next (Keeps.refl s)
  · exact .next (Keeps.ite (Keeps.refl s) (Keeps.ite (((Keeps.refl s).setQueue _ _).queueFlag _ _) (Keeps.ite
      (((Keeps.refl s).setQueue _ _).queueRefill _ _) (((Keeps.refl s).queueFetch _ _).setQueue _ _))))

theorem ends_execQueueCrossing (q : QueueId) (toRead : Bool) : Ends s (execQueueCrossing q toRead s) := by
  unfold execQueueCrossing
  dsimp only
  split
  · exact .next (Keeps.refl s)
  · exact .next (Keeps.ite (Keeps.refl s) (Keeps.ite (Keeps.ite (Keeps.refl s) (((Keeps.refl s).setQueue _
      _).queueRefill _ _)) (Keeps.ite (Keeps.refl s) ((Keeps.refl s).setQueue _ _))))

theorem ends_execQueueReset (q : QueueId) : Ends s (execQueueReset q s) := .next ((Keeps.refl s).setQueue _ _)

theorem ends_execQueueResetRelease (q : QueueId) (readSide : Bool) : Ends s (execQueueResetRelease q readSide s) := by
  unfold execQueueResetRelease
  dsimp only
  split
  · exact .next (Keeps.refl s)
  · exact .next (Keeps.ite (Keeps.refl s) ((Keeps.refl s).setQueue _ _))

theorem Keeps.closeDue (h : Keeps s t) (key : Nat) : Keeps s (t.closeDue key) :=
  h.when _ (fun _ h1 => h1.setGroup _ _)

theorem Keeps.sample (h : Keeps s t) (key hd : Nat) (out : Int) : Keeps s (t.sample key hd out) := h.setGroup _ _

theorem ends_execSliceOperation (sec : Fin 32) (a : Fin 384) (x0 x1 : BitVec 27) (y : BitVec 24) (k : BitVec 58) (fn
    : Fin 16) (psub valid ce rst : Bool) : Ends s (execSliceOperation sec a x0 x1 y k fn psub valid ce rst s) := by
  unfold execSliceOperation
  dsimp only
  split
  · exact .next (Keeps.refl s)
  · split
    · exact .next ((((Keeps.refl s).when _ (fun _ h0 => (h0.closeDue _).setGroup _ _)).setSlice _ _).when _ (fun _
        h0 => h0.setGroup _ _))
    · split
      · exact .next ((Keeps.refl s).when _ (fun _ h0 => (h0.closeDue _).setGroup _ _))
      · split
        · exact .next ((((Keeps.refl s).when _ (fun _ h0 => (h0.closeDue _).setGroup _ _)).setSlice _ _).sample _ _ _)
        · exact .next (((Keeps.refl s).when _ (fun _ h0 => (h0.closeDue _).setGroup _ _)).setSlice _ _)

theorem ends_execExponentBlockClose (sec : Fin 32) (a : Fin 384) : Ends s (execExponentBlockClose sec a s) :=
  .next (Keeps.ite ((Keeps.refl s).closeDue _) (Keeps.refl s))

theorem ends_execControlCycleStart (sec : Fin 32) (a : Fin 384) (cycIn : Bool) : Ends s (execControlCycleStart sec a
    cycIn s) :=
  .next (Keeps.ite (((Keeps.refl s).setGroup _ _).foldl _ (fun _ _ h0 => Keeps.ite (h0.setSlice _ _) h0))
      ((Keeps.refl s).dropStarts))

theorem ends_execShiftUpdate (sec : Fin 32) (a : Fin 384) : Ends s (execShiftUpdate sec a s) := by
  unfold execShiftUpdate
  dsimp only
  split
  · exact .next (Keeps.refl s)
  · split
    · exact .next (Keeps.refl s)
    · exact .next ((Keeps.refl s).setGroup _ _)

/-! ### Network time -/

theorem Keeps.setCtr (h : Keeps s t) (d n : Nat) : Keeps s (t.setCtr d n) := h.parts

theorem Keeps.setSlew (h : Keeps s t) (d : Nat) (x : Int) : Keeps s (t.setSlew d x) := h.parts

theorem Keeps.setFreq (h : Keeps s t) (d : Nat) (f : Int) : Keeps s (t.setFreq d f) := (h.setReg _ _).setReg _ _

theorem Keeps.advanceDomain (h : Keeps s t) (k d : Nat) : Keeps s (t.advanceDomain k d) := (h.setCtr _ _).setSlew _ _

theorem Keeps.advance (h : Keeps s t) (k : Nat) : Keeps s (t.advance k) :=
  Keeps.ite h ((h.forEach _ (fun _ _ h1 => h1.advanceDomain _ _)).parts)

theorem Keeps.advanceTo (h : Keeps s t) (d tgt : Nat) : Keeps s (t.advanceTo d tgt) := h.advance _

theorem Keeps.settle (h : Keeps s t) (n : Nat) (level : Bool) : Keeps s (t.settle n level) :=
  h.when _ (fun _ h1 => h1.high _)

theorem Keeps.alarm (h : Keeps s t) (d : Nat) (f : Fld) : Keeps s (t.alarm d f) := (h.setFlag _ _ _).settle _ _

theorem Keeps.setCone (h : Keeps s t) (n : Nat) (c : Cone) : Keeps s (t.setCone n c) := h.parts

theorem Keeps.settleCone (h : Keeps s t) (n : Nat) : Keeps s (t.settleCone n) := h.settle _ _

theorem Keeps.coneProduce (h : Keeps s t) (n : Nat) : Keeps s (t.coneProduce n) :=
  ((h.setFlag _ _ _).countWrap _ _ _).parts

theorem Keeps.coneDone (h : Keeps s t) (n : Nat) : Keeps s (t.coneDone n) := (h.setFlag _ _ _).setFlag _ _ _

theorem Keeps.coneMove (h : Keeps s t) (n k served : Nat) : Keeps s (t.coneMove n k served) :=
  Keeps.ite (h.coneDone _) ((h.setCone _ _).count _ _ _)

theorem Keeps.coneArm (h : Keeps s t) (n : Nat) : Keeps s (t.coneArm n) :=
  Keeps.ite (((h.setFlag _ _ _).setFlag _ _ _).setCone _ _) (Keeps.ite ((((((h.setFlag _ _ _).setFlag _ _ _).setCone
      _ _).coneProduce _).coneMove _ _ _).settleCone _) ((((((h.setFlag _ _ _).setFlag _ _ _).setCone _ _).setFlag _
      _ _).coneMove _ _ _).settleCone _))

theorem Keeps.coneDisarm (h : Keeps s t) (n : Nat) : Keeps s (t.coneDisarm n) := (h.setFlag _ _ _).setFlag _ _ _

theorem Keeps.coneJump (h : Keeps s t) (n : Nat) : Keeps s (t.coneJump n) :=
  Keeps.ite ((((h.coneProduce _).setFlag _ _ _).coneMove _ _ _).settleCone _) h

theorem Keeps.jump (h : Keeps s t) (d : Nat) (new : Int) : Keeps s (t.jump d new) := by
  grind [State.jump, Keeps.parts, Keeps.refl, Keeps.alarm, Keeps.setCtr, Keeps.forEach, Keeps.when, Keeps.coneJump]

theorem Keeps.timSet (h : Keeps s t) (d : Nat) : Keeps s (t.timSet d) := (h.setSlew _ _).jump _ _

theorem Keeps.timStep (h : Keeps s t) (d : Nat) : Keeps s (t.timStep d) := (h.setSlew _ _).jump _ _

theorem Keeps.timSlew (h : Keeps s t) (d : Nat) : Keeps s (t.timSlew d) := h.setSlew _ _

theorem Keeps.timSnap (h : Keeps s t) (d : Nat) : Keeps s (t.timSnap d) :=
  (((h.setReg _ _).setReg _ _).setReg _ _).setReg _ _

theorem Keeps.setInteg (h : Keeps s t) (d : Nat) (x : Int) : Keeps s (t.setInteg d x) := h.parts

theorem Keeps.setSample (h : Keeps s t) (d : Nat) (busy wait : Option Int) : Keeps s (t.setSample d busy wait) :=
  h.parts

theorem Keeps.showSample (h : Keeps s t) (d : Nat) (theta : Int) : Keeps s (t.showSample d theta) :=
  (h.setReg _ _).setReg _ _

theorem Keeps.submit (h : Keeps s t) (d : Nat) (theta : Int) : Keeps s (t.submit d theta) := by
  unfold State.submit
  split
  · exact h
  · split
    · exact h.setSample _ _ _
    · exact h.setSample _ _ _
    · exact (h.setSample _ _ _).alarm _ _

theorem Keeps.servo (h : Keeps s t) (d : Nat) (theta : Int) : Keeps s (t.servo d theta) :=
  Keeps.ite ((((h.showSample _ _).when _ (fun _ h1 => h1.alarm _ _)).setFreq _ _).jump _ _) (((((h.showSample _
      _).when _ (fun _ h1 => h1.alarm _ _)).setInteg _ _).setFreq _ _).when _ (fun _ h1 => h1.alarm _ _))

theorem Keeps.capPush (h : Keeps s t) (e : CapEntry) : Keeps s (t.capPush e) :=
  (Keeps.ite ((h.setFlag _ _ _).count _ _ _) (h.parts)).settle _ _

theorem Keeps.capPop (h : Keeps s t) (g : Nat) : Keeps s (t.capPop g).2 := by
  grind [State.capPop, Keeps.parts, Keeps.refl, Keeps.setReg]

theorem Keeps.setTsFifo (h : Keeps s t) (n : Nat) (l : List (Nat × Nat)) : Keeps s (t.setTsFifo n l) := h.parts

theorem Keeps.tsPop (h : Keeps s t) (n : Nat) : Keeps s (t.tsPop n).2 := by
  grind [State.tsPop, Keeps.parts, Keeps.refl, Keeps.setReg, Keeps.setTsFifo]

theorem Keeps.timeEvt (h : Keeps s t) (n : Nat) : Keeps s (t.timeEvt n) := h.forEach _ (fun _ _ h1 => h1.parts)

theorem Keeps.timLocked (h : Keeps s t) (loc : Nat) : Keeps s (t.timLocked loc) := by
  unfold State.timLocked
  split
  · exact (h.alarm _ _).lockedRecord _ _ _ _
  · exact (h.setFlag _ _ _).lockedRecord _ _ _ _
  · exact (h.setFlag _ _ _).lockedRecord _ _ _ _
  · exact h

theorem Keeps.timOffs (h : Keeps s t) (d : Nat) (hi : Bool) (v : Word) : Keeps s (t.timOffs d hi v) :=
  Keeps.ite h (Keeps.ite (h.submit _ _) (h.parts))

theorem Keeps.timCtrl (h : Keeps s t) (d : Nat) (en : Bool) (v : Word) : Keeps s (t.timCtrl d en v) := by
  have hs : ∀ u, Keeps s u → Keeps s (match u.busy d with | some x => u.showSample d x | none => u) := fun u hu => by
    split
    · exact hu.showSample _ _
    · exact hu
  exact (((((h.when _ fun _ h1 => h1.setInteg _ _).when _ fun _ h1 => (hs _ h1).setSample _ _ _).when _ fun _ h1 =>
    h1.timSet _).when _ fun _ h1 => h1.timStep _).when _ fun _ h1 => h1.timSlew _).when _ fun _ h1 => h1.timSnap _

theorem Keeps.timAct (h : Keeps s t) (old : State) (loc : Nat) (v : Word) : Keeps s (t.timAct old loc v) := by
  unfold State.timAct
  dsimp only
  split
  · exact (h.when _ (fun _ h1 => h1.timCtrl _ _ _)).settle _ _
  · exact Keeps.ite (((h.when _ (fun _ h1 => h1.coneArm _)).when _ (fun _ h1 => h1.coneDisarm _)).settle _ _) h
  · exact h.settle _ _
  · exact h

/-! ### Lanes and coding -/

theorem Keeps.setLane (h : Keeps s t) (n : Nat) (x : Lane) : Keeps s (t.setLane n x) := h.parts

theorem Keeps.setCoder (h : Keeps s t) (n : Nat) (x : Coder) : Keeps s (t.setCoder n x) := h.parts

theorem Keeps.setQuad (h : Keeps s t) (q : Nat) (x : Quad) : Keeps s (t.setQuad q x) := h.parts

theorem Keeps.setSkm (h : Keeps s t) (e : Nat) (x : Skm) : Keeps s (t.setSkm e x) := h.parts

theorem Keeps.lnEvent (h : Keeps s t) (n bit code sev : Nat) : Keeps s (t.lnEvent n bit code sev) :=
  ((h.setBit _ _ _).when _ (fun _ h1 => h1.report _ _)).settle _ _

theorem Keeps.lqEvent (h : Keeps s t) (q bit code sev : Nat) : Keeps s (t.lqEvent q bit code sev) :=
  ((h.setBit _ _ _).report _ _).settle _ _

theorem Keeps.pcsRecord (h : Keeps s t) (n code sev : Nat) : Keeps s (t.pcsRecord n code sev) := h.report _ _

theorem Keeps.grpEvent (h : Keeps s t) (g bit : Nat) : Keeps s (t.grpEvent g bit) := (h.setBit _ _ _).settle _ _

theorem Keeps.grpRecord (h : Keeps s t) (g code cause lane : Nat) : Keeps s (t.grpRecord g code cause lane) :=
  h.report _ _

theorem Keeps.lnCount (h : Keeps s t) (off n : Nat) : Keeps s (t.lnCount off n) :=
  h.when _ (fun _ h1 => h1.count _ _ _)

theorem Keeps.setGrpState (h : Keeps s t) (g n : Nat) : Keeps s (t.setGrpState g n) := h.setFld _ _ _

theorem Keeps.grpTry (h : Keeps s t) (g : Nat) : Keeps s (t.grpTry g) := Keeps.ite (h.setGrpState _ _) h

theorem Keeps.grpFault (h : Keeps s t) (g cause lane : Nat) : Keeps s (t.grpFault g cause lane) :=
  ((((((h.setFld _ _ _).setFld _ _ _).setFld _ _ _).lnCount _ _).grpRecord _ _ _ _).grpEvent _ _).grpTry _

theorem Keeps.memberFault (h : Keeps s t) (n cause : Nat) : Keeps s (t.memberFault n cause) := by
  unfold State.memberFault
  split
  · exact h.when _ (fun _ h1 => h1.grpFault _ _ _)
  · exact h

theorem Keeps.memberLock (h : Keeps s t) (n : Nat) : Keeps s (t.memberLock n) := by
  unfold State.memberLock
  split
  · exact h.grpTry _
  · exact h

theorem Keeps.unlock (h : Keeps s t) (n : Nat) (logged : Bool) (cause : Nat) : Keeps s (t.unlock n logged cause) :=
  Keeps.ite ((h.setReg _ _).setCoder _ _) ((((h.setReg _ _).setCoder _ _).when _ (fun _ h1 => (h1.setFlag _ _
      _).pcsRecord _ _ _)).memberFault _ _)

theorem Keeps.lockUp (h : Keeps s t) (n : Nat) : Keeps s (t.lockUp n) := by
  unfold State.lockUp
  dsimp only
  split
  · exact ((h.setFlag _ _ _).setFlag _ _ _).memberLock _
  · exact ((h.setFlag _ _ _).setFlag _ _ _).memberLock _
  · exact ((h.setFlag _ _ _).setFlag _ _ _).memberLock _
  · exact ((h.setFlag _ _ _).setFlag _ _ _).memberLock _
  · exact (h.setFlag _ _ _).memberLock _

theorem Keeps.scanAbort (h : Keeps s t) (n : Nat) : Keeps s (t.scanAbort n) :=
  Keeps.ite h (((((((h.draw).draw).setFlag _ _ _).setFlag _ _ _).setReg _ _).setReg _ _).setReg _ _)

theorem Keeps.setReady (h : Keeps s t) (n : Nat) (b : Bool) : Keeps s (t.setReady n b) :=
  (h.setFlag _ _ _).when _ (fun _ h1 => h1.scanAbort _)

theorem Keeps.prbsOut (h : Keeps s t) (n : Nat) : Keeps s (t.prbsOut n) := h.setFlag _ _ _

theorem Keeps.lolRise (h : Keeps s t) (n cause : Nat) : Keeps s (t.lolRise n cause) :=
  (((h.setFlag _ _ _).prbsOut _).unlock _ _ _).when _ (fun _ h1 => h1.lnEvent _ _ _ _)

theorem Keeps.losRise (h : Keeps s t) (n : Nat) : Keeps s (t.losRise n) :=
  (((h.setFlag _ _ _).when _ (fun _ h1 => h1.lnEvent _ _ _ _)).setLane _ _).lolRise _ _

theorem Keeps.lolFall (h : Keeps s t) (n : Nat) : Keeps s (t.lolFall n) :=
  (((h.setFlag _ _ _).lnEvent _ _ _ _).when _ (fun _ h1 => (h1.setReady _ _).setLane _ _)).when _ (fun _ h1 =>
      h1.lockUp _)

theorem Keeps.codeStart (h : Keeps s t) (n : Nat) : Keeps s (t.codeStart n) := ((h.draw).draw).setCoder _ _

theorem Keeps.setMode (h : Keeps s t) (n : Nat) (mode : Word) : Keeps s (t.setMode n mode) :=
  Keeps.ite (h.setLane _ _) ((((h.setLane _ _).unlock _ _ _).codeStart _).when _ (fun _ h1 => h1.lockUp _))

theorem Keeps.pllGone (h : Keeps s t) (n : Nat) : Keeps s (t.pllGone n) := (h.setLane _ _).lolRise _ _

theorem Keeps.lcTake (h : Keeps s t) (q : Nat) : Keeps s (t.lcTake q) :=
  Keeps.ite h (((h.setQuad _ _).setFlag _ _ _).when _ (fun _ h1 => h1.forEach _ (fun _ _ h2 => h2.when _ (fun _ h3
      => h3.pllGone _))))

theorem Keeps.laneTake (h : Keeps s t) (n : Nat) : Keeps s (t.laneTake n) := by
  have h2 : ∀ mode l, Keeps s ((((t.setMode n mode).setLane n l).setFlag (R.LN_STAT n) F.LN_STAT_APPLY_PEND false).scanAbort n) :=
    fun _ _ => (((h.setMode _ _).setLane _ _).setFlag _ _ _).scanAbort _
  unfold State.laneTake
  generalize t.target n = x
  obtain ⟨rate, rpll, rfrac, ffe, mode⟩ := x
  refine .ite ((h2 _ _).lcTake _) ?_
  exact ((((((h2 _ _).setLane _ _).setFlag _ _ _).setReady _ _).lolRise _ _).when _ fun _ h1 => h1.setFlag _ _ _).lcTake _

theorem Keeps.lanePend (h : Keeps s t) (n : Nat) : Keeps s (t.lanePend n) := by
  grind [State.lanePend, Keeps.parts, Keeps.refl, Keeps.setFlag, Keeps.setLane, Keeps.setMode]

theorem Keeps.operateChange (h : Keeps s t) (old : State) (n : Nat) : Keeps s (t.operateChange old n) :=
  Keeps.ite h (Keeps.ite (((((h.lanePend _).setFlag _ _ _).setFlag _ _ _).setFlag _ _ _).setLane _ _)
      ((((((h.losRise _).setReady _ _).setFlag _ _ _).setFlag _ _ _).setFlag _ _ _).lanePend _))

theorem Keeps.quadSet {f : State → Nat → State} (h : Keeps s t) (q : Nat) (hf : ∀ u x, Keeps s u → Keeps s (f u x)) :
    Keeps s (t.quadSet q f) := by
  unfold State.quadSet
  refine Keeps.forEach (.ite (hf _ _ (hf _ _ (hf _ _ h))) (h.lqEvent _ _ _ _)) _ fun u n hu => ?_
  have h1 : ∀ {c : Prop} [Decidable c], Keeps s (if c then f (f (f u (R.LN_RATE n)) (R.LN_RPLL n)) (R.LN_RFRAC n) else
      u.lnEvent n 6 0x05 0) := .ite (hf _ _ (hf _ _ (hf _ _ hu))) (hu.lnEvent _ _ _ _)
  have h3 : ∀ v, Keeps s v → ∀ {c : Prop} [Decidable c], Keeps s (f (if c then f v (R.LN_TX_FFE n) else v.lnEvent n 7 0x06 0)
      (R.LN_RX_EQ n)) := fun v hv => hf _ _ (.ite (hf _ _ hv) (hv.lnEvent _ _ _ _))
  exact .ite (hf _ _ (h3 _ h1)) (((h3 _ h1).setFlag _ _ _).pcsRecord _ _ _)

theorem Keeps.quadAct (h : Keeps s t) (q : Nat) : Keeps s (t.quadAct q) :=
  (h.forEach _ (fun _ _ h1 => (Keeps.ite h1 (h1.setMode _ _)).lanePend _)).when _ (fun _ h1 => h1.lcTake _)

theorem Keeps.quadApply (h : Keeps s t) (q : Nat) : Keeps s (t.quadApply q) :=
  (h.quadSet _ (fun _ _ h1 => h1.applyReg _)).quadAct _

theorem Keeps.grpSet {f : State → Nat → State} (h : Keeps s t) (g : Nat) (hf : ∀ u x, Keeps s u → Keeps s (f u x)) :
    Keeps s (t.grpSet g f) :=
  .ite ((h.grpEvent _ _).grpRecord _ _ _ _) (hf _ _ (hf _ _ h))

theorem Keeps.markStart (h : Keeps s t) (g : Nat) : Keeps s (t.markStart g) :=
  h.forEach _ (fun _ _ h1 => h1.setCoder _ _)

theorem Keeps.grpAct (h : Keeps s t) (g : Nat) : Keeps s (t.grpAct g) :=
  Keeps.ite (h.setGrpState _ _) (Keeps.ite ((h.markStart _).grpFault _ _ _) (h.grpTry _))

theorem Keeps.grpApply (h : Keeps s t) (g : Nat) : Keeps s (t.grpApply g) :=
  Keeps.ite (((h.grpSet _ (fun _ _ h1 => h1.applyReg _)).when _ (fun _ h1 => h1.markStart _)).grpFault _ _ _)
      (((h.grpSet _ (fun _ _ h1 => h1.applyReg _)).when _ (fun _ h1 => h1.markStart _)).grpAct _)

theorem Keeps.grpFire (h : Keeps s t) (g : Nat) : Keeps s (t.grpFire g) :=
  Keeps.ite ((h.grpSet _ (fun _ _ h1 => h1.exchangeReg _)).grpFault _ _ _) (h.grpSet _ (fun _ _ h1 => h1.exchangeReg
      _))

theorem Keeps.lqLocked (h : Keeps s t) (inst loc : Nat) : Keeps s (t.lqLocked inst loc) := by
  unfold State.lqLocked
  split
  · exact (h.setFlag _ _ _).lockedRecord _ _ _ _
  · exact (h.setFlag _ _ _).lockedRecord _ _ _ _

theorem Keeps.pmaRst (h : Keeps s t) (n : Nat) : Keeps s (t.pmaRst n) :=
  Keeps.ite h (((h.setLane _ _).setReady _ _).lolRise _ _)

theorem Keeps.scanStart (h : Keeps s t) (n : Nat) : Keeps s (t.scanStart n) :=
  Keeps.ite (((h.setFlag _ _ _).setFlag _ _ _).setFlag _ _ _) ((((h.setFlag _ _ _).setFlag _ _ _).setFlag _ _
      _).setLane _ _)

theorem Keeps.slip (h : Keeps s t) (n : Nat) : Keeps s (t.slip n) :=
  Keeps.ite h (((h.setFld _ _ _).setFlag _ _ _).when _ (fun _ h1 => h1.unlock _ _ _))

theorem Keeps.lnAct (h : Keeps s t) (old : State) (n loc : Nat) (v : Word) : Keeps s (t.lnAct old n loc v) := by
  unfold State.lnAct
  dsimp only
  split
  · exact (h.operateChange _ _).when _ (fun _ h1 => h1.pmaRst _)
  · exact h.settle _ _
  · exact h.when _ (fun _ h1 => h1.setLane _ _)
  · exact (h.when _ (fun _ h1 => ((h1.setReg _ _).setReg _ _).setReg _ _)).when _ (fun _ h1 => h1.prbsOut _)
  · exact h.when _ (fun _ h1 => h1.scanStart _)
  · exact h.when _ (fun _ h1 => h1.slip _)
  · exact Keeps.ite (Keeps.ite (h.setReg _ _) (h.setReg _ _)) h

theorem Keeps.lqAct (h : Keeps s t) (old : State) (inst loc : Nat) (v : Word) : Keeps s (t.lqAct old inst loc v) := by
  unfold State.lqAct
  dsimp only
  split
  · exact h.lnAct _ _ _ _
  · split
    · exact (h.when _ (fun _ h1 => h1.quadApply _)).forEach _ (fun _ _ h1 => h1.operateChange _ _)
    · exact h.settle _ _
    · exact h.when _ (fun _ h1 => h1.grpApply _)
    · exact h.settle _ _
    · exact h

/-! ### The lane path -/

theorem Keeps.sendSymbols (h : Keeps s t) (n : Nat) (xs : List Nat) : Keeps s (t.sendSymbols n xs) := h.setCoder _ _

theorem Keeps.sendLine (h : Keeps s t) (n : Nat) (bits : List Bool) : Keeps s (t.sendLine n bits) :=
  Keeps.ite ((h.setCoder _ _).when _ (fun _ h1 => (h1.setLane _ _).parts)) (Keeps.ite (Keeps.ite (((h.setCoder _
      _).when _ (fun _ h1 => (h1.setLane _ _).parts)).sendSymbols _ _) ((((h.setCoder _ _).when _ (fun _ h1 =>
      (h1.setLane _ _).parts)).setCoder _ _).sendSymbols _ _)) (((h.setCoder _ _).when _ (fun _ h1 => (h1.setLane _
      _).parts)).sendSymbols _ _))

theorem Keeps.sendBlock (h : Keeps s t) (n : Nat) (b : BitVec 66) : Keeps s (t.sendBlock n b) :=
  Keeps.ite ((h.setCoder _ _).sendLine _ _) (Keeps.ite ((h.setCoder _ _).setCoder _ _) (((h.setCoder _ _).setCoder _
      _).sendLine _ _))

theorem Keeps.sendMarker (h : Keeps s t) (n g : Nat) : Keeps s (t.sendMarker n g) := (h.setCoder _ _).sendBlock _ _

theorem Keeps.sendUnit (h : Keeps s t) (n : Nat) (u : BitVec 66) : Keeps s (t.sendUnit n u) := by
  unfold State.sendUnit
  dsimp only
  split
  · exact h.sendLine _ _
  · exact ((h.when _ (fun _ h1 => h1.setFlag _ _ _)).setCoder _ _).sendLine _ _
  · exact ((h.when _ (fun _ h1 => h1.setFlag _ _ _)).setCoder _ _).sendBlock _ _

theorem Keeps.skmSend (h : Keeps s t) (n e : Nat) : Keeps s (t.skmSend n e) := by
  unfold State.skmSend
  dsimp only
  split
  · exact h
  · exact (h.setSkm _ _).sendUnit _ _

theorem Keeps.underrun (h : Keeps s t) (n : Nat) : Keeps s (t.underrun n) := by
  unfold State.underrun
  dsimp only
  split
  · exact ((h.lnCount _ _).setFlag _ _ _).when _ (fun _ h1 => h1.foldl _ (fun _ _ h2 => h2.skmSend _ _))
  · exact (((h.lnCount _ _).setFlag _ _ _).foldl _ (fun _ _ h1 => h1.sendUnit _ _)).when _ (fun _ h1 => h1.setCoder
      _ _)

theorem Keeps.transmit (h : Keeps s t) (n : Nat) (unit : Option (BitVec 66)) : Keeps s (t.transmit n unit) := by
  unfold State.transmit
  split
  · exact h.sendMarker _ _
  · exact Keeps.ite (h.sendUnit _ _) (h.underrun _)
  · exact h.underrun _

theorem Keeps.deliverUnit (h : Keeps s t) (n : Nat) (x : RxUnit) : Keeps s (t.deliverUnit n x) :=
  Keeps.ite (h.setCoder _ _) (Keeps.ite (h.setCoder _ _) (Keeps.ite (((h.setCoder _ _).lnCount _ _).setFlag _ _ _)
      (h.setCoder _ _)))

theorem Keeps.receive10 (h : Keeps s t) (n : Nat) (bits : List Bool) : Keeps s (t.receive10 n bits) :=
  (Keeps.ite ((((h.when _ (fun _ h1 => h1.lnCount _ _)).when _ (fun _ h1 => h1.lnCount _ _)).setCoder _ _).when _
      (fun _ h1 => h1.unlock _ _ _)) (Keeps.ite (((((h.when _ (fun _ h1 => h1.lnCount _ _)).when _ (fun _ h1 =>
      h1.lnCount _ _)).setCoder _ _).lockUp _).when _ (fun _ h1 => h1.setCoder _ _)) (((h.when _ (fun _ h1 =>
      h1.lnCount _ _)).when _ (fun _ h1 => h1.lnCount _ _)).setCoder _ _))).deliverUnit _ _

theorem Keeps.receiveBlock (h : Keeps s t) (n : Nat) (b : BitVec 66) : Keeps s (t.receiveBlock n b) :=
  Keeps.ite ((Keeps.ite ((h.when _ (fun _ h1 => h1.lnCount _ _)).setCoder _ _) (Keeps.ite (((h.when _ (fun _ h1 =>
      h1.lnCount _ _)).setCoder _ _).when _ (fun _ h1 => h1.unlock _ _ _)) (((h.when _ (fun _ h1 => h1.lnCount _
      _)).setCoder _ _).when _ (fun _ h1 => h1.lockUp _)))).setCoder _ _) ((Keeps.ite ((h.when _ (fun _ h1 =>
      h1.lnCount _ _)).setCoder _ _) (Keeps.ite (((h.when _ (fun _ h1 => h1.lnCount _ _)).setCoder _ _).when _ (fun
      _ h1 => h1.unlock _ _ _)) (((h.when _ (fun _ h1 => h1.lnCount _ _)).setCoder _ _).when _ (fun _ h1 =>
      h1.lockUp _)))).deliverUnit _ _)

theorem Keeps.receive (h : Keeps s t) (n : Nat) (u : BitVec 66) : Keeps s (t.receive n u) := by
  unfold State.receive
  dsimp only
  split
  · exact ((Keeps.ite h (h.setCoder _ _)).when _ (fun _ h1 => h1.sendSymbols _ _)).deliverUnit _ _
  · exact ((Keeps.ite h (h.setCoder _ _)).when _ (fun _ h1 => h1.sendSymbols _ _)).receive10 _ _
  · exact ((Keeps.ite h (h.setCoder _ _)).when _ (fun _ h1 => h1.sendSymbols _ _)).receiveBlock _ _
  · exact ((Keeps.ite h (h.setCoder _ _)).when _ (fun _ h1 => h1.sendSymbols _ _)).receiveBlock _ _

theorem Keeps.codewords (h : Keeps s t) (n : Nat) (errs : List Nat) : Keeps s (t.codewords n errs) :=
  h.forEach _ (fun _ _ h1 => Keeps.ite ((((h1.lnCount _ _).setFlag _ _ _).pcsRecord _ _ _).when _ (fun _ h2 =>
      h2.setCoder _ _)) (h1.when _ (fun _ h2 => (h2.lnCount _ _).lnCount _ _)))

/-! ### Skemer engines -/

theorem Keeps.skmPend (h : Keeps s t) (ls : List Nat) : Keeps s (t.skmPend ls) :=
  h.forEach _ (fun _ _ h1 => h1.lanePend _)

theorem Keeps.engage (h : Keeps s t) (e t0 : Nat) : Keeps s (t.engage e t0) :=
  Keeps.ite h (((h.setFlag _ _ _).setSkm _ _).skmPend _)

theorem Keeps.unengage (h : Keeps s t) (e : Nat) : Keeps s (t.unengage e) := Keeps.ite ((h.setFlag _ _ _).skmPend _) h

theorem Keeps.skmEvent (h : Keeps s t) (e bit : Nat) : Keeps s (t.skmEvent e bit) := (h.setBit _ _ _).settle _ _

theorem Keeps.skmRecord (h : Keeps s t) (e code gen sev : Nat) : Keeps s (t.skmRecord e code gen sev) := h.report _ _

theorem Keeps.skmGo (h : Keeps s t) (e st : Nat) : Keeps s (t.skmGo e st) := (h.setFld _ _ _).setSkm _ _

theorem Keeps.skmDetect (h : Keeps s t) (e : Nat) : Keeps s (t.skmDetect e) :=
  (((h.skmGo _ _).setFld _ _ _).setFld _ _ _).engage _ _

theorem Keeps.skmOffer (h : Keeps s t) (e : Nat) : Keeps s (t.skmOffer e) := (h.skmGo _ _).engage _ _

theorem Keeps.skmBackoff (h : Keeps s t) (e : Nat) : Keeps s (t.skmBackoff e) := (h.skmGo _ _).engage _ _

theorem Keeps.skmFail (h : Keeps s t) (e code : Nat) (abort : Bool) : Keeps s (t.skmFail e code abort) :=
  ((((h.skmGo _ _).engage _ _).skmRecord _ _ _ _).setSkm _ _).skmEvent _ _

theorem Keeps.skmOff (h : Keeps s t) (e : Nat) : Keeps s (t.skmOff e) := (h.skmGo _ _).unengage _

theorem Keeps.skmRelease (h : Keeps s t) (e : Nat) : Keeps s (t.skmRelease e) := (h.skmGo _ _).unengage _

theorem Keeps.gatePush (h : Keeps s t) (q : FireReq) : Keeps s (t.gatePush q) := h.parts

theorem Keeps.skmPresent (h : Keeps s t) (e : Nat) : Keeps s (t.skmPresent e) :=
  (h.when _ (fun _ h1 => h1.gatePush _)).when _ (fun _ h1 => h1.skmRelease _)

theorem Keeps.skmResult (h : Keeps s t) (e gen : Nat) (legacy : Bool) (res : Nat) : Keeps s (t.skmResult e gen
    legacy res) :=
  ((((h.skmGo _ _).setReg _ _).setSkm _ _).when _ (fun _ h1 => h1.engage _ _)).skmPresent _

theorem Keeps.skmListen (h : Keeps s t) (e : Nat) (l : List Nat) : Keeps s (t.skmListen e l) := by
  cases l with
  | nil => exact h.skmOffer _
  | cons g r => exact ((h.skmGo _ _).setSkm _ _).engage _ _

theorem Keeps.skmEnable (h : Keeps s t) (e : Nat) : Keeps s (t.skmEnable e) :=
  Keeps.ite (h.when _ (fun _ h1 => h1.skmDetect _)) (((h.setFlag _ _ _).setFlag _ _ _).skmRecord _ _ _ _)

theorem Keeps.skmStartAll (h : Keeps s t) : Keeps s (t.skmStartAll) :=
  Keeps.ite h (h.forEach _ (fun _ _ h1 => h1.when _ (fun _ h2 => h2.skmDetect _)))

theorem Keeps.skmStopAll (h : Keeps s t) : Keeps s (t.skmStopAll) :=
  h.forEach _ (fun _ _ h1 => h1.when _ (fun _ h2 => h2.skmOff _))

theorem Keeps.skmAuto (h : Keeps s t) : Keeps s (t.skmAuto) :=
  Keeps.ite h (h.forEach _ (fun _ _ h1 => h1.when _ (fun _ h2 => h2.skmRelease _)))

theorem Keeps.skmCrossed (h : Keeps s t) : Keeps s (t.skmCrossed) :=
  Keeps.ite h (h.forEach _ (fun _ _ h1 => h1.when _ (fun _ h2 => h2.skmRelease _)))

theorem Keeps.skmThaw (h : Keeps s t) : Keeps s (t.skmThaw) :=
  ((h.when _ (fun _ h1 => h1.skmStartAll)).skmAuto).skmCrossed

theorem Keeps.skmLocked (h : Keeps s t) (loc : Nat) : Keeps s (t.skmLocked loc) :=
  (h.setFlag _ _ _).lockedRecord _ _ _ _

theorem Keeps.skmAct (h : Keeps s t) (old : State) (loc : Nat) (v : Word) : Keeps s (t.skmAct old loc v) := by
  unfold State.skmAct
  dsimp only
  split
  · exact Keeps.ite (h.when _ (fun _ h1 => h1.skmOff _)) ((((h.when _ (fun _ h1 => h1.skmEnable _)).when _ (fun _ h1
      => h1.skmDetect _)).when _ (fun _ h1 => h1.skmRelease _)).when _ (fun _ h1 => h1.skmPresent _))
  · exact h.settle _ _
  · exact h

/-! ### The network -/

theorem Keeps.setNoc (h : Keeps s t) (n : Noc) : Keeps s (t.setNoc n) := h.parts

theorem Keeps.inject (h : Keeps s t) (router : Nat) (p : Packet) : Keeps s (t.inject router p) := h.setNoc _

theorem Keeps.nocRecord (h : Keeps s t) (unit router event sev port src dst : Nat) : Keeps s (t.nocRecord unit
    router event sev port src dst) :=
  h.report _ _

theorem Keeps.niDrop (h : Keeps s t) (e : Nat) : Keeps s (t.niDrop e) := h.count _ _ _

theorem Keeps.setFence (h : Keeps s t) (n v : Nat) : Keeps s (t.setFence n v) := h.setFld _ _ _

theorem Keeps.respond (h : Keeps s t) (e : Nat) (q : Packet) (status : Nat) (data : List Byte) : Keeps s (t.respond
    e q status data) :=
  h.inject _ _

theorem Keeps.turnAway (h : Keeps s t) (e : Nat) (q : Packet) (status : Nat) : Keeps s (t.turnAway e q status) :=
  Keeps.ite (h.niDrop _) (h.respond _ _ _ _)

theorem Keeps.complete (h : Keeps s t) (c : Completion) : Keeps s (t.complete c) := h.setNoc _

theorem Keeps.routerAnswer (h : Keeps s t) (n : Nat) (q : Packet) (status : Nat) : Keeps s (t.routerAnswer n q
    status) :=
  h.inject _ _

theorem Keeps.undeliverable (h : Keeps s t) (n port : Nat) (p : Packet) : Keeps s (t.undeliverable n port p) :=
  Keeps.ite ((h.count _ _ _).nocRecord _ _ _ _ _ _ _) (((h.count _ _ _).routerAnswer _ _ _).nocRecord _ _ _ _ _ _ _)

theorem Keeps.fenced (h : Keeps s t) (n : Nat) (p : Packet) : Keeps s (t.fenced n p) :=
  Keeps.ite (h.count _ _ _) ((h.count _ _ _).routerAnswer _ _ _)

theorem Keeps.deliver (h : Keeps s t) (n port : Nat) (p : Packet) : Keeps s (t.deliver n port p) :=
  Keeps.ite (h.fenced _ _) (Keeps.ite (h.undeliverable _ _ _) ((h.countWrap _ _ _).setNoc _))

theorem Keeps.linkHop (h : Keeps s t) (k n port m : Nat) (p : Packet) (err : LinkErr) : Keeps s (t.linkHop k n port
    m p err) := by
  unfold State.linkHop
  dsimp only
  split
  · exact (h.countWrap _ _ _).setNoc _
  · exact (((h.countWrap _ _ _).setNoc _).count _ _ _).nocRecord _ _ _ _ _ _ _
  · exact ((h.countWrap _ _ _).setNoc _).nocRecord _ _ _ _ _ _ _
  · exact Keeps.ite ((h.countWrap _ _ _).setNoc _) (((h.countWrap _ _ _).setNoc _).nocRecord _ _ _ _ _ _ _)

theorem ends_execRouterHop (k : Nat) (err : LinkErr) : Ends s (execRouterHop k err s) := by
  unfold execRouterHop
  dsimp only
  split
  · exact .next (Keeps.refl s)
  · split
    · exact .next (Keeps.refl s)
    · split
      · exact .next (((Keeps.refl s).setNoc _).undeliverable _ _ _)
      · split
        · exact .next (((Keeps.refl s).setNoc _).deliver _ _ _)
        · split
          · exact .next (((Keeps.refl s).setNoc _).undeliverable _ _ _)
          · exact .next (Keeps.ite (Keeps.refl s) ((Keeps.refl s).linkHop _ _ _ _ _ _))

theorem ends_execNocPortChangeDone (n : Fin 64) : Ends s (execNocPortChangeDone n s) := by
  unfold execNocPortChangeDone
  dsimp only
  split
  · exact .next (Keeps.refl s)
  · exact .next (((((Keeps.refl s).setFld _ _ _).forEach _ (fun _ _ h0 => Keeps.ite (h0.setBit _ _ _) (Keeps.ite h0
      (h0.setBit _ _ _)))).setFlag _ _ _).setNoc _)

theorem ends_execLinkStateChange (n : Fin 64) (port : Fin 14) (up : Bool) : Ends s (execLinkStateChange n port up s)
    := by
  unfold execLinkStateChange
  split
  · exact .next (Keeps.refl s)
  · exact .next (Keeps.ite ((Keeps.refl s).setBit _ _ _) (Keeps.refl s))

theorem Keeps.takeArrived (h : Keeps s t) {e : Nat} {rsp : Bool} {p : Packet} {u : State}
    (hu : t.takeArrived e rsp = some (p, u)) : Keeps s u := by
  unfold State.takeArrived at hu
  obtain ⟨r, -, hr⟩ := Option.map_eq_some_iff.mp hu
  obtain ⟨-, rfl⟩ := Prod.mk.injEq .. ▸ hr
  exact h.setNoc _

theorem ends_execNocResponseArrival (e : Fin 256) : Ends s (execNocResponseArrival e s) := by
  unfold execNocResponseArrival
  split
  · exact .next (.refl s)
  · next hu =>
    have hp := (Keeps.refl s).takeArrived hu
    exact .next (.ite ((hp.setNoc _).complete _) ((hp.count _ _ _).nocRecord _ _ _ _ _ _ _))

theorem ends_execNiRequestTimeout (e ltag : Fin 256) : Ends s (execNiRequestTimeout e ltag s) := by
  unfold execNiRequestTimeout
  dsimp only
  split
  · exact .next (Keeps.refl s)
  · exact .next (Keeps.ite (((((Keeps.refl s).setNoc _).complete _).count _ _ _).nocRecord _ _ _ _ _ _ _)
      (Keeps.refl s))

theorem ends_execNiTargetTimeout (e : Fin 64) : Ends s (execNiTargetTimeout e s) := by
  unfold execNiTargetTimeout
  dsimp only
  split
  · exact .next (Keeps.refl s)
  · split
    · exact .next (Keeps.refl s)
    · exact .next (Keeps.ite (((Keeps.refl s).setNoc _).niDrop _) ((((Keeps.refl s).setNoc _).respond _ _ _
        _).nocRecord _ _ _ _ _ _ _))

theorem Keeps.fenceStart (h : Keeps s t) (n : Nat) : Keeps s (t.fenceStart n) :=
  ((h.setFence _ _).setNoc _).forEach _ (fun _ _ h1 => h1.turnAway _ _ _)

theorem ends_execFenceClose (n : Fin 64) : Ends s (execFenceClose n s) :=
  .next (Keeps.ite ((Keeps.refl s).setFence _ _) (Keeps.refl s))

theorem ends_execFenceOpen (sec : Fin 32) : Ends s (execFenceOpen sec s) :=
  .next (Keeps.ite (Keeps.refl s) ((Keeps.refl s).forEach _ (fun _ _ h0 => Keeps.ite (h0.setFence _ _) h0)))

theorem ends_execFenceTargetTimeout (e : Fin 64) : Ends s (execFenceTargetTimeout e s) := by
  unfold execFenceTargetTimeout
  dsimp only
  split
  · exact .next (Keeps.refl s)
  · split
    · exact .next (Keeps.refl s)
    · exact .next ((((Keeps.refl s).setNoc _).respond _ _ _ _).nocRecord _ _ _ _ _ _ _)

theorem Keeps.decErr (h : Keeps s t) (e : Nat) : Keeps s (t.decErr e) := (h.count _ _ _).nocRecord _ _ _ _ _ _ _

theorem Keeps.issue (h : Keeps s t) (e cmd vn addr len : Nat) (data : List Byte) (ltag : Nat) (dst : Dest) : Keeps s
    (t.issue e cmd vn addr len data ltag dst) := by
  unfold State.issue
  dsimp only
  split
  · exact h
  · split
    · exact Keeps.ite (h.niDrop _) (h.complete _)
    · split
      · exact Keeps.ite (h.decErr _) ((h.decErr _).complete _)
      · exact Keeps.ite (h.niDrop _) (h.complete _)
      · exact Keeps.ite (Keeps.ite (h.niDrop _) (h.complete _)) (Keeps.ite h (Keeps.ite ((h.inject _ _).setNoc _)
          (h.inject _ _)))

/-! ### RLD controllers -/

theorem Keeps.setMc (h : Keeps s t) (c : Nat) (x : Mc) : Keeps s (t.setMc c x) := h.parts

theorem Keeps.setMcState (h : Keeps s t) (c n : Nat) : Keeps s (t.setMcState c n) :=
  Keeps.ite (((Keeps.ite h (h.setMc _ _)).setFld _ _ _).setFld _ _ _) (Keeps.ite (((Keeps.ite h (h.setMc _
      _)).setFld _ _ _).setFld _ _ _) ((Keeps.ite h (h.setMc _ _)).setFld _ _ _))

theorem Keeps.mcEvent (h : Keeps s t) (c bit : Nat) : Keeps s (t.mcEvent c bit) :=
  (((h.setBit _ _ _).settle _ _).settle _ _).settle _ _

theorem Keeps.mcRecord (h : Keeps s t) (c code sev detail : Nat) : Keeps s (t.mcRecord c code sev detail) :=
  h.report _ _

theorem Keeps.mcMemory (h : Keeps s t) (c type word line : Nat) : Keeps s (t.mcMemory c type word line) := by
  unfold State.mcMemory
  dsimp only
  split
  · exact (((h.setReg _ _).report _ _).count _ _ _).mcEvent _ _
  · exact (((h.setReg _ _).report _ _).count _ _ _).mcEvent _ _
  · exact ((h.setReg _ _).report _ _).mcEvent _ _

theorem Keeps.setRldWord (h : Keeps s t) (c line w : Nat) (x : BmWord) : Keeps s (t.setRldWord c line w x) :=
  ⟨h.queue, h.fuses, h.regs, fun m => State.memsCanon_setRldWord t c line w x (h.mems m)⟩

theorem Keeps.rldDrop (h : Keeps s t) (c : Nat) (zero : Bool) : Keeps s (t.rldDrop c zero) :=
  ⟨h.queue, h.fuses, h.regs, fun m => State.memsCanon_rldDrop t c zero (h.mems m)⟩

theorem Keeps.rldUpset (h : Keeps s t) (c line : Nat) (upset : List Nat) : Keeps s (t.rldUpset c line upset) :=
  h.forEach _ (fun _ _ h1 => h1.setRldWord _ _ _ _)

theorem Keeps.rldWrite (h : Keeps s t) (c line w off : Nat) (bytes : List Byte) (poison : Bool) : Keeps s
    (t.rldWrite c line w off bytes poison) :=
  Keeps.ite h (((h.setRldWord _ _ _ _).when _ (fun _ h1 => h1.mcMemory _ _ _ _)).when _ (fun _ h1 => h1.mcMemory _ _
      _ _))

theorem Keeps.mcPerform (h : Keeps s t) (c : Nat) (e : McEnt) (slot : Nat) : Keeps s (t.mcPerform c e slot) :=
  Keeps.ite (h.forEach _ (fun _ _ h1 => h1.rldWrite _ _ _ _ _ _)) (h.setMc _ _)

theorem Keeps.mcReady (h : Keeps s t) (c : Nat) : Keeps s (t.mcReady c) :=
  Keeps.ite (((h.setMcState _ _).setMc _ _).mcEvent _ _) (h.setMcState _ _)

theorem Keeps.mcFreeze (h : Keeps s t) (c : Nat) (halt : Bool) : Keeps s (t.mcFreeze c halt) :=
  Keeps.ite ((h.setMc _ _).mcReady _) (h.setMc _ _)

theorem Keeps.mcThaw (h : Keeps s t) (c : Nat) : Keeps s (t.mcThaw c) := Keeps.ite ((h.setMc _ _).mcReady _) h

theorem Keeps.mcFreezeUe (h : Keeps s t) (c : Nat) (b : Bool) : Keeps s (t.mcFreezeUe c b) :=
  h.when _ (fun _ h1 => h1.mcFreeze _ _)

theorem Keeps.mcAnswerAll (h : Keeps s t) (c : Nat) : Keeps s (t.mcAnswerAll c) :=
  (h.setMc _ _).forEach _ (fun _ _ h1 => h1.turnAway _ _ _)

theorem Keeps.mcAbandon (h : Keeps s t) (c : Nat) : Keeps s (t.mcAbandon c) := (h.mcAnswerAll _).setMc _ _

theorem Keeps.mcFail (h : Keeps s t) (c code : Nat) : Keeps s (t.mcFail c code) :=
  ((((h.setMcState _ _).mcAbandon _).rldDrop _ _).mcRecord _ _ _ _).mcEvent _ _

theorem Keeps.mcPass (h : Keeps s t) (c k : Nat) : Keeps s (t.mcPass c k) := h.setMc _ _

theorem Keeps.mcPassTo (h : Keeps s t) (c slot : Nat) : Keeps s (t.mcPassTo c slot) := h.mcPass _ _

theorem Keeps.mcAged (h : Keeps s t) (c port slot : Nat) : Keeps s (t.mcAged c port slot) :=
  (h.setReg _ _).when _ (fun _ h1 => (h1.count _ _ _).mcEvent _ _)

theorem Keeps.mcPlace (h : Keeps s t) (c id n : Nat) : Keeps s (t.mcPlace c id n) := by
  induction n generalizing t with
  | zero => exact h
  | succ n ih =>
    unfold State.mcPlace
    dsimp only
    split
    · exact h
    split
    · exact h
    · exact ih (h.setMc _ _)

theorem Keeps.mcForget (h : Keeps s t) (c id : Nat) : Keeps s (t.mcForget c id) := h.setMc _ _

theorem Keeps.mcArrive (h : Keeps s t) (c port : Nat) (p : Packet) : Keeps s (t.mcArrive c port p) :=
  Keeps.ite (((h.setMc _ _).mcReady _).count _ _ _) (h.setMc _ _)

theorem Keeps.mcAdmit (h : Keeps s t) (c port : Nat) : Keeps s (t.mcAdmit c port) := by
  unfold State.mcAdmit
  dsimp only
  split
  · exact h
  · exact Keeps.ite (((h.mcForget _ _).turnAway _ _ _).count _ _ _) (Keeps.ite (Keeps.ite (((h.mcPlace _ _
      _).mcForget _ _).mcAged _ _ _) ((((h.mcPlace _ _ _).mcForget _ _).mcAged _ _ _).respond _ _ _ _)) (h.mcPlace _
      _ _))

theorem Keeps.issueRefresh (h : Keeps s t) (c bank : Nat) (forced : Bool) : Keeps s (t.issueRefresh c bank forced) :=
  (h.setMc _ _).when _ (fun _ h1 => (h1.count _ _ _).mcEvent _ _)

theorem Keeps.issueEntry (h : Keeps s t) (c : Nat) (e : McEnt) : Keeps s (t.issueEntry c e) :=
  ((h.setMc _ _).mcPerform _ _ _).mcFreezeUe _ _

/-! ### Commands of the RLD channels -/

theorem ends_execMcRequestAdmit (c : Fin 8) (port : Fin 4) : Ends s (execMcRequestAdmit c port s) :=
  .next (Keeps.ite ((Keeps.refl s).mcAdmit _ _) (Keeps.refl s))

theorem Keeps.issueData (h : Keeps s t) (c : Nat) (upset : List Nat) : Keeps s (t.issueData c upset) := by
  unfold State.issueData
  split
  · exact h
  · exact Keeps.ite ((h.when _ (fun _ h1 => h1.rldUpset _ _ _)).issueEntry _ _) h

theorem ends_execMcCommandIssue (c : Fin 8) (upset : List (Fin 576)) : Ends s (execMcCommandIssue c upset s) := by
  unfold execMcCommandIssue
  dsimp only
  split
  · exact .next ((Keeps.refl s).mcPass _ _)
  · split
    · exact .next (((Keeps.refl s).issueRefresh _ _ _).mcPass _ _)
    · exact .next ((Keeps.ite ((Keeps.refl s).issueData _ _) (Keeps.refl s)).mcPass _ _)

theorem Keeps.mcDeliver (h : Keeps s t) (c : Nat) (rd : McRead) : Keeps s (t.mcDeliver c rd) := by
  unfold State.mcDeliver
  dsimp only
  split
  · exact h
  · exact Keeps.ite (((h.setMc _ _).forEach _ (fun _ _ h1 => Keeps.ite h1 (h1.mcMemory _ _ _ _))).mcFreezeUe _ _)
      ((((((h.setMc _ _).forEach _ (fun _ _ h1 => Keeps.ite h1 (h1.mcMemory _ _ _ _))).mcFreezeUe _ _).mcForget _
      _).mcAged _ _ _).respond _ _ _ _)

theorem ends_execMcReadComplete (c : Fin 8) : Ends s (execMcReadComplete c s) := by
  unfold execMcReadComplete
  dsimp only
  split
  · exact .next (Keeps.refl s)
  · exact .next (Keeps.ite (Keeps.refl s) ((((Keeps.refl s).mcPassTo _ _).setMc _ _).mcDeliver _ _))

theorem ends_execMcParityAlert (c : Fin 8) : Ends s (execMcParityAlert c s) :=
  .next (Keeps.ite (Keeps.refl s) (Keeps.ite (((((Keeps.refl s).count _ _ _).mcRecord _ _ _ _).mcEvent _ _).mcFail _
      _) (((((Keeps.refl s).count _ _ _).mcRecord _ _ _ _).mcEvent _ _).setMc _ _)))

theorem Keeps.mcReissue (h : Keeps s t) (c : Nat) (cmd : McCmd) : Keeps s (t.mcReissue c cmd) := by
  unfold State.mcReissue
  dsimp only
  split
  · exact h
  · exact Keeps.ite (h.mcPerform _ _ _) (Keeps.ite ((h.setMc _ _).mcPerform _ _ _) h)

theorem ends_execMcReplay (c : Fin 8) : Ends s (execMcReplay c s) :=
  .next (Keeps.ite (Keeps.refl s) ((((Keeps.refl s).mcPass _ _).forEach _ (fun _ _ h0 => (h0.mcReissue _ _).mcPass _
      _)).setMc _ _))

theorem ends_execMcQueuesDrained (c : Fin 8) : Ends s (execMcQueuesDrained c s) :=
  .next (Keeps.ite (((Keeps.refl s).setMcState _ _).mcAnswerAll _) (Keeps.refl s))

theorem ends_execMcIdleTimeout (c : Fin 8) : Ends s (execMcIdleTimeout c s) :=
  .next (Keeps.ite ((Keeps.refl s).setMcState _ _) (Keeps.refl s))

theorem ends_execMcSelfRefreshEntry (c : Fin 8) : Ends s (execMcSelfRefreshEntry c s) :=
  .next (Keeps.ite ((((Keeps.refl s).setMc _ _).setMcState _ _).mcEvent _ _) (Keeps.refl s))

theorem ends_execMcSrExitStart (c : Fin 8) : Ends s (execMcSrExitStart c s) :=
  .next (Keeps.ite (((Keeps.refl s).mcPassTo _ _).setMcState _ _) (Keeps.refl s))

theorem ends_execMcSrExitDone (c : Fin 8) : Ends s (execMcSrExitDone c s) :=
  .next (Keeps.ite (((((Keeps.refl s).mcPass _ _).setMc _ _).mcReady _).mcEvent _ _) (Keeps.refl s))

theorem ends_execMcInitDone (c : Fin 8) : Ends s (execMcInitDone c s) :=
  .next (Keeps.ite ((((Keeps.refl s).rldDrop _ _).mcReady _).mcEvent _ _) (Keeps.refl s))

theorem Keeps.mcWake (h : Keeps s t) (c : Nat) : Keeps s (t.mcWake c) := Keeps.ite ((h.mcReady _).count _ _ _) h

theorem Keeps.mcEnReject (h : Keeps s t) (c : Nat) : Keeps s (t.mcEnReject c) :=
  ((h.setFlag _ _ _).setFlag _ _ _).mcRecord _ _ _ _

theorem Keeps.mcCtrl (h : Keeps s t) (old : State) (c : Nat) (v : Word) : Keeps s (t.mcCtrl old c v) := by
  grind [State.mcCtrl, Keeps.parts, Keeps.refl, Keeps.mcReady, Keeps.mcEnReject, Keeps.mcWake, Keeps.when,
      Keeps.setMcState, Keeps.mcFreeze, Keeps.mcThaw]

theorem Keeps.mcSrCtrl (h : Keeps s t) (c : Nat) (v : Word) : Keeps s (t.mcSrCtrl c v) :=
  (h.when _ (fun _ h1 => h1.setMcState _ _)).when _ (fun _ h1 => h1.setMcState _ _)

theorem Keeps.mcMapApply (h : Keeps s t) : Keeps s (t.mcMapApply) :=
  Keeps.ite ((h.applyReg _).applyReg _) ((h.setFlag _ _ _).mcRecord _ _ _ _)

theorem Keeps.mcLocked (h : Keeps s t) (c loc : Nat) : Keeps s (t.mcLocked c loc) :=
  (h.setFlag _ _ _).mcRecord _ _ _ _

theorem Keeps.mcAct (h : Keeps s t) (old : State) (c loc : Nat) (v : Word) : Keeps s (t.mcAct old c loc v) :=
  Keeps.ite (h.mcCtrl _ _ _) (Keeps.ite (h.mcSrCtrl _ _) (Keeps.ite (h.mcMapApply) (Keeps.ite (((h.settle _
      _).settle _ _).settle _ _) h)))

/-! ### Training -/

theorem Keeps.mtEvent (h : Keeps s t) (c bit : Nat) : Keeps s (t.mtEvent c bit) := (h.setBit _ _ _).settle _ _

theorem Keeps.mtRecord (h : Keeps s t) (c code sev detail : Nat) : Keeps s (t.mtRecord c code sev detail) :=
  h.report _ _

theorem Keeps.swapRegs (h : Keeps s t) (a b : Nat) : Keeps s (t.swapRegs a b) := (h.setReg _ _).setReg _ _

theorem Keeps.mtExchange (h : Keeps s t) (c : Nat) : Keeps s (t.mtExchange c) :=
  (h.forEach _ (fun _ _ h1 => h1.swapRegs _ _)).mtEvent _ _

theorem Keeps.mtReload (h : Keeps s t) (c : Nat) : Keeps s (t.mtReload c) := h.forEach _ (fun _ _ h1 => h1.setReg _ _)

theorem Keeps.mtCommit (h : Keeps s t) (c : Nat) : Keeps s (t.mtCommit c) :=
  Keeps.ite (Keeps.ite ((h.setMc _ _).setFld _ _ _) (h.setMc _ _)) (h.setFlag _ _ _)

theorem ends_execMtCommitDone (c : Fin 8) : Ends s (execMtCommitDone c s) :=
  .next (Keeps.ite (Keeps.refl s) (Keeps.ite (((Keeps.refl s).setMc _ _).mtExchange _) (((Keeps.refl s).setMc _
      _).setFlag _ _ _)))

theorem Keeps.mtLeave (h : Keeps s t) (c : Nat) : Keeps s (t.mtLeave c) :=
  (Keeps.ite ((h.setFlag _ _ _).setFlag _ _ _) h).rldDrop _ _

theorem Keeps.mtFail (h : Keeps s t) (c code detail : Nat) : Keeps s (t.mtFail c code detail) :=
  (((((h.mtLeave _).setMcState _ _).mcAbandon _).mtRecord _ _ _ _).mtEvent _ _).mcEvent _ _

theorem Keeps.mtStart (h : Keeps s t) (c : Nat) : Keeps s (t.mtStart c) :=
  Keeps.ite (((h.mcAbandon _).setMcState _ _).rldDrop _ _) ((h.setFlag _ _ _).mtRecord _ _ _ _)

theorem Keeps.mtCtrl (h : Keeps s t) (c : Nat) (v : Word) : Keeps s (t.mtCtrl c v) :=
  (((h.when _ (fun _ h1 => h1.mtStart _)).when _ (fun _ h1 => ((h1.mtExchange _).mtLeave _).setMcState _ _)).when _
      (fun _ h1 => h1.mtFail _ _ _)).when _ (fun _ h1 => h1.mtCommit _)

theorem ends_execMtTrainingTimeout (c : Fin 8) : Ends s (execMtTrainingTimeout c s) :=
  .next (Keeps.ite ((Keeps.refl s).mtFail _ _ _) (Keeps.refl s))

theorem Keeps.helperStore (h : Keeps s t) (c pat line count : Nat) (ok : Nat → Bool) : Keeps s (t.helperStore c pat
    line count ok) :=
  (h.forEach _ (fun _ _ h1 => h1.setRldWord _ _ _ _)).parts

theorem Keeps.mtRun (h : Keeps s t) (c : Nat) : Keeps s (t.mtRun c) :=
  Keeps.ite (((((h.setFlag _ _ _).setFlag _ _ _).setReg _ _).setReg _ _).setReg _ _) (h.setFlag _ _ _)

theorem ends_execMtRunDone (c : Fin 8) (fails : BitVec 72) (errs : Nat) (given : List (BitVec 128)) : Ends s
    (execMtRunDone c fails errs given s) :=
  .next (Keeps.ite (Keeps.refl s) ((Keeps.ite (Keeps.ite ((((Keeps.refl s).setFlag _ _ _).when _ (fun _ h0 =>
      h0.helperStore _ _ _ _ _)).forEach _ (fun _ _ h0 => h0.setReg _ _)) ((((Keeps.refl s).setFlag _ _ _).when _
      (fun _ h0 => h0.helperStore _ _ _ _ _)).forEach _ (fun _ _ h0 => h0.setReg _ _))) (Keeps.ite (((Keeps.refl
      s).setFlag _ _ _).when _ (fun _ h0 => h0.helperStore _ _ _ _ _)) (((((((Keeps.refl s).setFlag _ _ _).when _
      (fun _ h0 => h0.helperStore _ _ _ _ _)).setReg _ _).setReg _ _).setReg _ _).count _ _ _))).mtEvent _ _))

theorem Keeps.setPr (h : Keeps s t) (c n : Nat) : Keeps s (t.setPr c n) := h.setFld _ _ _

theorem Keeps.prStop (h : Keeps s t) (c : Nat) : Keeps s (t.prStop c) :=
  (h.when _ (fun _ h1 => h1.mtReload _)).setPr _ _

theorem Keeps.prReject (h : Keeps s t) (c : Nat) : Keeps s (t.prReject c) :=
  (((h.setFlag _ _ _).setFlag _ _ _).mtEvent _ _).mtRecord _ _ _ _

theorem Keeps.prCtrl (h : Keeps s t) (c : Nat) (was : Bool) (v : Word) : Keeps s (t.prCtrl c was v) :=
  Keeps.ite (Keeps.ite h (h.prReject _)) (Keeps.ite (h.prStop _) h)

theorem Keeps.prRetire (h : Keeps s t) (c : Nat) : Keeps s (t.prRetire c) := Keeps.ite ((h.prStop _).prReject _) h

theorem ends_execRetrainPeriodExpiry (c : Fin 8) : Ends s (execRetrainPeriodExpiry c s) :=
  .next (Keeps.ite (((Keeps.refl s).mtReload _).setPr _ _) (Keeps.refl s))

theorem ends_execRetrainSweepDone (c : Fin 8) (pass : List (BitVec 128)) : Ends s (execRetrainSweepDone c pass s) := by
  have hg : ∀ (u : State) (f : Fld) (l : List (Nat × Option (Nat × Nat))), Keeps s u → Keeps s (u.forEach l fun t p =>
      match p.2 with
      | none => t
      | some (l, r) => t.setFld (R.MT_SHD_DQ c p.1) f ((l + r) / 2)) := fun u f l hu => hu.forEach _ fun _ p h0 => by
    obtain ⟨_, _ | _⟩ := p
    · exact h0
    · exact h0.setFld _ _ _
  have hw : ∀ (w : State) (l : List (Nat × Option (Nat × Nat))), Keeps s w → Keeps s (w.forEach l fun t p =>
      t.setReg (R.MT_WIN c p.1) (winWord p.2)) := fun _ _ hu => hu.forEach _ fun _ _ h0 => h0.setReg _ _
  unfold execRetrainSweepDone
  dsimp only
  refine .next (.ite (.refl s) ?_)
  generalize hm : State.helperStore s _ _ _ _ _ = w
  have h0 := hw w ((List.range 72).zip (s.prWindows c (if s.prState c = 1 then F.MT_ACT_DQ_RDLY else F.MT_ACT_DQ_WDLY) pass))
    (hm ▸ (Keeps.refl s).helperStore _ _ _ _ _)
  split
  · exact (((((h0.mtReload _).setPr _ _).count _ _ _).setFld _ _ _).mtEvent _ _).mtRecord _ _ _ _
  · exact .ite ((hg _ _ _ h0).setPr _ _) (.ite ((((hg _ _ _ h0).setPr _ _).setMc _ _).mtEvent _ _)
      (((hg _ _ _ h0).setPr _ _).mtEvent _ _))

theorem Keeps.mtLocked (h : Keeps s t) (c loc : Nat) : Keeps s (t.mtLocked c loc) :=
  (h.setFlag _ _ _).mtRecord _ _ _ _

theorem Keeps.mtAct (h : Keeps s t) (old : State) (c loc : Nat) (v : Word) : Keeps s (t.mtAct old c loc v) :=
  Keeps.ite (h.mtCtrl _ _) (Keeps.ite (h.when _ (fun _ h1 => h1.mtRun _)) (Keeps.ite (h.prCtrl _ _ _) (Keeps.ite
      (h.settle _ _) h)))

/-! ### Commands of the time unit -/

theorem ends_execSlewDone (d : Fin 32) : Ends s (execSlewDone d s) :=
  .next (Keeps.ite ((Keeps.refl s).advance _) (Keeps.refl s))

theorem ends_execServoSampleProcess (d : Fin 32) : Ends s (execServoSampleProcess d s) := by
  unfold execServoSampleProcess
  split
  · exact .next (Keeps.refl s)
  · split
    · exact .next (Keeps.refl s)
    · exact .next (((Keeps.refl s).servo _ _).setSample _ _ _)

theorem ends_execPpsInEdge (i : Fin 4) (rising : Bool) (after : Nat) (sub : Fin 8) : Ends s (execPpsInEdge i rising
    after sub s) :=
  .next (Keeps.ite ((((Keeps.refl s).advance _).parts).forEach _ (fun _ _ h0 => h0.submit _ _)) ((Keeps.refl
      s).advance _))

theorem ends_execPpsOutPulse (j : Fin 4) : Ends s (execPpsOutPulse j s) :=
  .next (Keeps.ite (Keeps.refl s) (Keeps.ite ((Keeps.refl s).advanceTo _ _) (((Keeps.refl s).advanceTo _ _).parts)))

theorem ends_execConeEvent (n : Fin 64) : Ends s (execConeEvent n s) :=
  .next (Keeps.ite (((((Keeps.refl s).advanceTo _ _).coneProduce _).coneMove _ _ _).settleCone _) (Keeps.refl s))

theorem Keeps.coneSlices (h : Keeps s t) (n : Nat) : Keeps s (t.coneSlices n) :=
  Keeps.ite h (h.forEach _ (fun _ _ h1 => Keeps.ite (h1.setGroup _ _) (Keeps.ite (h1.setGroup _ _) (h1.setGroup _
      _))))

theorem Keeps.coneMaint (h : Keeps s t) (n : Nat) : Keeps s (t.coneMaint n) :=
  h.forEach _ (fun _ _ h1 => Keeps.ite (h1.setFlag _ _ _) (Keeps.ite (h1.setFlag _ _ _) (Keeps.ite (h1.setFlag _ _
      _) h1)))

theorem ends_execConeEventDelivery : Ends s (execConeEventDelivery s) := by
  unfold execConeEventDelivery
  dsimp only
  split
  · exact .next (Keeps.refl s)
  · exact .next (((((((Keeps.refl s).parts).advance _).coneSlices _).coneMaint _).timeEvt _).when _ (fun _ h0 =>
      h0.gatePush _))

theorem ends_execCaptureEdge (src : Fin 144) (rising : Bool) (after : Nat) (sub : Fin 8) : Ends s (execCaptureEdge
    src rising after sub s) :=
  .next (Keeps.ite ((Keeps.refl s).advance _) (((Keeps.refl s).advance _).forEach _ (fun _ _ h0 => Keeps.ite
      ((h0.parts).capPush _) h0)))

theorem ends_execRxFrameStart (n : Fin 144) (pos : Int) (after : Nat) (sub : Fin 8) : Ends s (execRxFrameStart n pos
    after sub s) :=
  .next (((Keeps.refl s).advance _).parts)

theorem Keeps.tsRecord (h : Keeps s t) (n code : Nat) : Keeps s (t.tsRecord n code) := h.report _ _

theorem Keeps.twoStep (h : Keeps s t) (n tag w : Nat) : Keeps s (t.twoStep n tag w) :=
  Keeps.ite (((h.setFlag _ _ _).count _ _ _).tsRecord _ _) (h.setTsFifo _ _)

theorem ends_execTxFrameStart (n : Fin 144) (cmd : Fin 4) (tag : BitVec 16) (encap : Fin 3) (ptpoff : BitVec 8)
    (base : BitVec 64) (frame : List (BitVec 8)) (pos : Int) (after : Nat) (sub : Fin 8) : Ends s (execTxFrameStart
    n cmd tag encap ptpoff base frame pos after sub s) :=
  .next (Keeps.ite ((Keeps.refl s).advance _) (Keeps.ite (((Keeps.refl s).advance _).parts) (Keeps.ite
      ((((Keeps.refl s).advance _).when _ (fun _ h0 => h0.twoStep _ _ _)).parts) (Keeps.ite ((((((Keeps.refl
      s).advance _).when _ (fun _ h0 => h0.twoStep _ _ _)).setFlag _ _ _).tsRecord _ _).parts) ((((Keeps.refl
      s).advance _).when _ (fun _ h0 => h0.twoStep _ _ _)).parts)))))

theorem ends_execTwoStepPortPop (n : Fin 144) : Ends s (execTwoStepPortPop n s) :=
  .next (Keeps.ite (Keeps.refl s) ((Keeps.refl s).setTsFifo _ _))

/-! ### Clocks -/

theorem Keeps.timeHoldover (h : Keeps s t) : Keeps s (t.timeHoldover) :=
  Keeps.ite h (((h.setFlag _ _ _).setFlag _ _ _).forEach _ (fun _ _ h1 => h1.alarm _ _))

theorem Keeps.timeSteady (h : Keeps s t) : Keeps s (t.timeSteady) := (h.setFlag _ _ _).setFlag _ _ _

theorem Keeps.mcLost (h : Keeps s t) (c : Nat) : Keeps s (t.mcLost c) :=
  Keeps.ite (h.when _ (fun _ h1 => h1.mtLeave _)) ((h.when _ (fun _ h1 => h1.mtLeave _)).mcFail _ _)

theorem Keeps.loseClock (h : Keeps s t) (id : Nat) : Keeps s (t.loseClock id) :=
  Keeps.ite (((h.setFlag _ _ _).setFlag _ _ _).setFlag _ _ _) (Keeps.ite ((h.setFlag _ _ _).setFlag _ _ _)
      (Keeps.ite (((h.setFlag _ _ _).setFlag _ _ _).timeHoldover) (Keeps.ite (((h.setFlag _ _ _).setFlag _ _
      _).timeHoldover) (Keeps.ite ((((h.setFlag _ _ _).setBit _ _ _).setBit _ _ _).mcLost _) (Keeps.ite ((h.setFlag
      _ _ _).setBit _ _ _) (Keeps.ite (((h.setFlag _ _ _).setBit _ _ _).setBit _ _ _) (((((h.setFlag _ _ _).setBit _
      _ _).setBit _ _ _).parts).dropStarts)))))))

theorem ends_execClockLossDeclared (id : Fin 256) : Ends s (execClockLossDeclared id s) :=
  .next (Keeps.ite ((((Keeps.refl s).loseClock _).settle _ _).report _ _) (Keeps.refl s))

theorem ends_execReferenceRecovered (time : Bool) : Ends s (execReferenceRecovered time s) :=
  .next (Keeps.ite (((Keeps.refl s).setFlag _ _ _).when _ (fun _ h0 => h0.timeSteady)) (((Keeps.refl s).setFlag _ _
      _).setFlag _ _ _))

theorem ends_execPllLock (id : Fin 256) : Ends s (execPllLock id s) :=
  .next (Keeps.ite (Keeps.ite ((Keeps.refl s).setFlag _ _ _) (Keeps.refl s)) (Keeps.ite (Keeps.ite ((((Keeps.refl
      s).setFlag _ _ _).setFlag _ _ _).timeSteady) (Keeps.refl s)) (Keeps.ite (Keeps.ite ((Keeps.refl s).setBit _ _
      _) (Keeps.refl s)) (Keeps.ite ((Keeps.refl s).setBit _ _ _) (Keeps.refl s)))))

theorem ends_execLeafGateReopen (sec : Fin 32) : Ends s (execLeafGateReopen sec s) :=
  .next (Keeps.ite (((Keeps.refl s).parts).forEach _ (fun _ _ h0 => h0.gsrSettle _)) (Keeps.refl s))

theorem ends_execClkMeasDone (edges : BitVec 16) : Ends s (execClkMeasDone edges s) :=
  .next (Keeps.ite (((Keeps.refl s).setFlag _ _ _).setFld _ _ _) (Keeps.refl s))

theorem Keeps.clkLocked (h : Keeps s t) (loc : Nat) : Keeps s (t.clkLocked loc) :=
  (h.setFlag _ _ _).lockedRecord _ _ _ _

theorem Keeps.clkAct (h : Keeps s t) (old : State) (loc : Nat) (v : Word) : Keeps s (t.clkAct old loc v) :=
  Keeps.ite ((h.setFlag _ _ _).parts) (Keeps.ite (h.setFlag _ _ _) (Keeps.ite (h.parts) (Keeps.ite (h.setBit _ _ _)
      (Keeps.ite (h.parts) h))))

/-! ### Commands of the lanes -/

theorem ends_execLaneSafePoint (n : Fin 144) : Ends s (execLaneSafePoint n s) :=
  .next (Keeps.ite ((Keeps.refl s).laneTake _) (Keeps.refl s))

theorem ends_execLanePllLocked (n : Fin 144) : Ends s (execLanePllLocked n s) :=
  .next (Keeps.ite (((Keeps.ite ((Keeps.refl s).setFlag _ _ _) (((Keeps.refl s).setFlag _ _ _).setFlag _ _
      _)).setLane _ _).when _ (fun _ h0 => (h0.setFlag _ _ _).lnEvent _ _ _ _)) (Keeps.refl s))

theorem ends_execCdrLock (n : Fin 144) : Ends s (execCdrLock n s) :=
  .next (Keeps.ite ((Keeps.refl s).lolFall _) (Keeps.refl s))

theorem ends_execLolSet (n : Fin 144) : Ends s (execLolSet n s) :=
  .next (Keeps.ite ((Keeps.refl s).lolRise _ _) (Keeps.refl s))

theorem ends_execLosSet (n : Fin 144) (mv : Nat) : Ends s (execLosSet n mv s) :=
  .next (Keeps.ite ((Keeps.refl s).losRise _) (Keeps.refl s))

theorem ends_execLosClear (n : Fin 144) (mv : Nat) : Ends s (execLosClear n mv s) :=
  .next (Keeps.ite (((Keeps.refl s).setFlag _ _ _).lnEvent _ _ _ _) (Keeps.refl s))

theorem Keeps.setEq (h : Keeps s t) (n ctle : Nat) (taps : Nat → Int) : Keeps s (t.setEq n ctle taps) := by
  grind [State.setEq, Keeps.parts, Keeps.refl, Keeps.when, Keeps.setFld, Keeps.forEach, Keeps.setReg]

theorem ends_execAdaptationDone (n : Fin 144) (ctle : Fin 32) (taps : List (BitVec 8)) : Ends s (execAdaptationDone
    n ctle taps s) :=
  .next (Keeps.ite (Keeps.refl s) (Keeps.ite (((((Keeps.refl s).setEq _ _ _).setFld _ _ _).setLane _ _).setReady _
      _) (Keeps.ite ((Keeps.refl s).setEq _ _ _) (Keeps.refl s))))

theorem ends_execAdaptationTimeout (n : Fin 144) : Ends s (execAdaptationTimeout n s) :=
  .next (Keeps.ite (((Keeps.refl s).count _ _ _).lnEvent _ _ _ _) (Keeps.refl s))

theorem Keeps.losePll (h : Keeps s t) (q : Nat) (uses : Lane → Bool) : Keeps s (t.losePll q uses) :=
  h.forEach _ (fun _ _ h1 => Keeps.ite (h1.pllGone _) h1)

theorem ends_execRefClockLost (q : Fin 36) (one : Bool) : Ends s (execRefClockLost q one s) :=
  .next (Keeps.ite (Keeps.refl s) ((((Keeps.refl s).setFlag _ _ _).lqEvent _ _ _ _).losePll _ _))

theorem ends_execRefClockPresent (q : Fin 36) (one : Bool) (hz : Nat) : Ends s (execRefClockPresent q one hz s) :=
  .next (Keeps.ite (Keeps.refl s) (((Keeps.refl s).setFlag _ _ _).setQuad _ _))

theorem ends_execLanePllUnlock (q : Fin 36) (ring : Option (Fin 4)) : Ends s (execLanePllUnlock q ring s) := by
  unfold execLanePllUnlock
  dsimp only
  split
  · exact .next (Keeps.ite (Keeps.refl s) ((((Keeps.refl s).setFlag _ _ _).when _ (fun _ h0 => h0.lqEvent _ _ _
      _)).losePll _ _))
  · exact .next (Keeps.ite (Keeps.refl s) (Keeps.ite ((((Keeps.refl s).setFlag _ _ _).lnEvent _ _ _ _).pllGone _)
      ((Keeps.refl s).setFlag _ _ _)))

theorem ends_execPrbsSync (n : Fin 144) : Ends s (execPrbsSync n s) :=
  .next (Keeps.ite ((Keeps.refl s).setFlag _ _ _) (Keeps.refl s))

theorem ends_execPrbsLost (n : Fin 144) (bits errs : Nat) : Ends s (execPrbsLost n bits errs s) :=
  .next (Keeps.ite ((((Keeps.refl s).when _ (fun _ h0 => ((h0.count _ _ _).setReg _ _).setReg _ _)).prbsOut
      _).lnEvent _ _ _ _) (Keeps.refl s))

theorem ends_execEyeScanDone (n : Fin 144) (errs : Nat) : Ends s (execEyeScanDone n errs s) :=
  .next (Keeps.ite (((((Keeps.refl s).setFlag _ _ _).setReg _ _).setReg _ _).setReg _ _) (Keeps.refl s))

theorem ends_execLockAcquired (n : Fin 144) (pos : Fin 10) : Ends s (execLockAcquired n pos s) :=
  .next (Keeps.ite (((Keeps.refl s).when _ (fun _ h0 => (h0.lnCount _ _).when _ (fun _ h1 => h1.setFld _ _
      _))).lockUp _) (Keeps.refl s))

theorem ends_execLockLost (n : Fin 144) : Ends s (execLockLost n s) :=
  .next (Keeps.ite ((Keeps.refl s).unlock _ _ _) (Keeps.refl s))

theorem ends_execSlipDone (n : Fin 144) : Ends s (execSlipDone n s) :=
  .next (Keeps.ite (Keeps.refl s) ((Keeps.refl s).setFlag _ _ _))

theorem ends_execHiBerSet (n : Fin 144) (bad : Nat) : Ends s (execHiBerSet n bad s) :=
  .next (Keeps.ite ((((Keeps.refl s).setFlag _ _ _).setFlag _ _ _).pcsRecord _ _ _) (Keeps.refl s))

theorem ends_execHiBerClear (n : Fin 144) (bad : Nat) : Ends s (execHiBerClear n bad s) :=
  .next (Keeps.ite ((Keeps.refl s).setFlag _ _ _) (Keeps.refl s))

theorem ends_execFecUncorrectable (n : Fin 144) (errs : List Nat) : Ends s (execFecUncorrectable n errs s) :=
  .next (Keeps.ite ((Keeps.refl s).codewords _ _) (Keeps.refl s))

theorem ends_execTxUnderrun (n : Fin 144) : Ends s (execTxUnderrun n s) :=
  .next (Keeps.ite ((Keeps.refl s).transmit _ _) (Keeps.refl s))

theorem ends_execRxWordDrop (n : Fin 144) : Ends s (execRxWordDrop n s) :=
  .next (Keeps.ite (((Keeps.refl s).lnCount _ _).setFlag _ _ _) (Keeps.refl s))

theorem ends_execReceiveCodeError (n : Fin 144) (unit : BitVec 66) : Ends s (execReceiveCodeError n unit s) :=
  .next (Keeps.ite ((Keeps.refl s).receive _ _) (Keeps.refl s))

theorem ends_execInvalidTransmitUnit (n : Fin 144) (unit : BitVec 66) : Ends s (execInvalidTransmitUnit n unit s) :=
  .next (Keeps.ite ((Keeps.refl s).transmit _ _) (Keeps.refl s))

theorem ends_execGroupHoldoffExpiry (g : Fin 16) : Ends s (execGroupHoldoffExpiry g s) :=
  .next (Keeps.ite ((Keeps.refl s).setGrpState _ _) (Keeps.refl s))

theorem ends_execGroupDeskewDone (g : Fin 16) (spread : Nat) : Ends s (execGroupDeskewDone g spread s) :=
  .next (Keeps.ite ((((((Keeps.refl s).draw).forEach _ (fun _ _ h0 => h0.setCoder _ _)).setFld _ _ _).setGrpState _
      _).grpEvent _ _) (Keeps.refl s))

theorem ends_execGroupDeskewFail (g : Fin 16) (spread : Option Nat) (lane : Fin 144) : Ends s (execGroupDeskewFail g
    spread lane s) := by
  unfold execGroupDeskewFail
  dsimp only
  split
  · exact .next (Keeps.refl s)
  · split
    · exact .next (Keeps.ite (Keeps.refl s) (((((Keeps.refl s).setFld _ _ _).grpRecord _ _ _ _).grpEvent _
        _).grpFault _ _ _))
    · exact .next ((Keeps.refl s).grpFault _ _ _)

theorem ends_execGroupMarkerError (g : Fin 16) (lane : Fin 144) : Ends s (execGroupMarkerError g lane s) :=
  .next (Keeps.ite ((Keeps.refl s).grpFault _ _ _) (Keeps.refl s))

theorem Keeps.skmWhen {f : State → State} (h : Keeps s t) (e st : Nat) (hf : ∀ u, Keeps s u → Keeps s (f u)) :
    Keeps s (t.skmWhen e st f) := h.when _ hf

/-- Unfolding stated for the function itself: applied, the kernel would compute the settle word of an unknown register. -/
theorem skmSettle_eq : State.skmSettle = fun s e => match s.ownSettle e with
    | some _ => s.skmGo e 4
    | none => s.skmFail e 0x42 true := rfl

theorem Keeps.skmSettle (h : Keeps s t) (e : Nat) : Keeps s (t.skmSettle e) := by
  rw [skmSettle_eq]
  beta_reduce
  generalize t.ownSettle e = x
  cases x with
  | some _ => exact h.skmGo _ _
  | none => exact h.skmFail _ _ _

theorem Keeps.skmReceive (h : Keeps s t) (e ty p : Nat) : Keeps s (t.skmReceive e ty p) :=
  Keeps.ite (((h.when _ (fun _ h1 => h1.setReg _ _)).setSkm _ _).when _ (fun _ h1 => h1.skmBackoff _)) (Keeps.ite
      ((h.when _ (fun _ h1 => h1.setReg _ _)).setSkm _ _) (Keeps.ite (((h.when _ (fun _ h1 => h1.setReg _ _)).setSkm
      _ _).skmGo _ _) (Keeps.ite (((h.when _ (fun _ h1 => h1.setReg _ _)).setSkm _ _).skmBackoff _) (Keeps.ite
      (((h.when _ (fun _ h1 => h1.setReg _ _)).setSkm _ _).skmSettle _) (Keeps.ite ((((h.when _ (fun _ h1 =>
      h1.setReg _ _)).setSkm _ _).skmGo _ _).skmEvent _ _) ((h.when _ (fun _ h1 => h1.setReg _ _)).setSkm _ _))))))

theorem ends_execSkmOrderedSetReceived (e : Fin 16) (os : List (BitVec 8)) : Ends s (execSkmOrderedSetReceived e os
    s) := by
  unfold execSkmOrderedSetReceived
  split
  · split
    · exact .next ((Keeps.refl s).skmReceive _ _ _)
    · exact .next (Keeps.refl s)
  · exact .next (Keeps.refl s)

theorem ends_execSkmDetectTimeout (e : Fin 16) : Ends s (execSkmDetectTimeout e s) :=
  .next ((Keeps.refl s).skmWhen _ _ (fun _ h0 => h0.when _ (fun _ h1 => h1.skmOffer _)))

theorem ends_execSkmOfferTimeout (e : Fin 16) : Ends s (execSkmOfferTimeout e s) :=
  .next ((Keeps.refl s).skmWhen _ _ (fun _ h0 => Keeps.ite h0 (Keeps.ite (h0.skmBackoff _) (h0.skmListen _ _))))

theorem ends_execSkmProgressTimeout (e : Fin 16) : Ends s (execSkmProgressTimeout e s) :=
  .next ((Keeps.refl s).when _ (fun _ h0 => h0.skmBackoff _))

theorem ends_execSkmCommitTimeout (e : Fin 16) : Ends s (execSkmCommitTimeout e s) := by
  grind [execSkmCommitTimeout, Keeps.parts, Keeps.refl, Ends, Keeps.skmWhen, Keeps.skmResult, Keeps.skmBackoff]

theorem ends_execSkmBackoffTimeout (e : Fin 16) : Ends s (execSkmBackoffTimeout e s) :=
  .next ((Keeps.refl s).skmWhen _ _ (fun _ h0 => Keeps.ite ((h0.count _ _ _).skmFail _ _ _) ((h0.count _ _
      _).skmOffer _)))

theorem ends_execSkmDwellTimeout (e : Fin 16) : Ends s (execSkmDwellTimeout e s) :=
  .next ((Keeps.refl s).skmWhen _ _ (fun _ h0 => h0.when _ (fun _ h1 => h1.skmListen _ _)))

theorem ends_execSkmListenLock (e : Fin 16) : Ends s (execSkmListenLock e s) :=
  .next ((Keeps.refl s).skmWhen _ _ (fun _ h0 => h0.when _ (fun _ h1 => (h1.skmEvent _ _).skmResult _ _ _ _)))

theorem ends_execSkmLanesUp (e : Fin 16) : Ends s (execSkmLanesUp e s) :=
  .next ((Keeps.refl s).skmWhen _ _ (fun _ h0 => h0.when _ (fun _ h1 => (h1.skmGo _ _).skmEvent _ _)))

theorem ends_execSkmUpTimeout (e : Fin 16) : Ends s (execSkmUpTimeout e s) :=
  .next ((Keeps.refl s).skmWhen _ _ (fun _ h0 => (((h0.setFld _ _ _).skmRecord _ _ _ _).skmEvent _ _).skmBackoff _))

theorem ends_execSkmRemovalTimeout (e : Fin 16) : Ends s (execSkmRemovalTimeout e s) :=
  .next ((Keeps.refl s).when _ (fun _ h0 => (h0.when _ (fun _ h1 => h1.skmEvent _ _)).skmDetect _))

theorem ends_execSkmRenegTimeout (e : Fin 16) : Ends s (execSkmRenegTimeout e s) :=
  .next ((Keeps.refl s).skmWhen _ _ (fun _ h0 => h0.when _ (fun _ h1 => (h1.skmEvent _ _).skmBackoff _)))

theorem ends_execSkmAbortTimeout (e : Fin 16) : Ends s (execSkmAbortTimeout e s) :=
  .next ((Keeps.refl s).skmWhen _ _ (fun _ h0 => h0.setSkm _ _))

/-! ### Firing -/

theorem Keeps.ctrlFlag (h : Keeps s t) (r : Nat) : Keeps s (t.ctrlFlag r) := Keeps.ite (h.setFlag _ _ _) h

theorem Keeps.ctrlRefuse (h : Keeps s t) (r : Nat) : Keeps s (t.ctrlRefuse r) := (h.ctrlFlag _).report _ _

theorem Keeps.bindWrite (h : Keeps s t) (off : Nat) (v : Word) : Keeps s (t.bindWrite off v) :=
  Keeps.ite h (Keeps.ite (h.ctrlRefuse _) (h.rawWrite _ _ _))

theorem Keeps.genWrite (h : Keeps s t) (r : Nat) (v : Word) : Keeps s (t.genWrite r v) :=
  Keeps.ite h (Keeps.ite (h.ctrlFlag _) (h.setFld _ _ _))

theorem Keeps.armAct (h : Keeps s t) (v : Word) : Keeps s (t.armAct v) :=
  Keeps.ite h (Keeps.ite (h.ctrlFlag _) (Keeps.ite (h.setShadow _ _) (Keeps.ite (h.setShadow _ _) h)))

theorem Keeps.holdAll (h : Keeps s t) (rs : List Nat) : Keeps s (t.holdAll rs) :=
  Keeps.ite h ((((h.forEach _ (fun _ _ h1 => h1.keepLines _)).forEach _ (fun _ _ h1 => h1.holdCells _ _)).forEach _
      (fun _ _ h1 => h1.setFlag _ _ _)).dropStarts)

theorem Keeps.linesRise (h : Keeps s t) (pre : State) : Keeps s (t.linesRise pre) :=
  h.forEach _ (fun _ _ h1 => Keeps.ite (h1.raise _) (h1.high _))

theorem Keeps.settleHold (h : Keeps s t) (r : Nat) : Keeps s (t.settleHold r) :=
  Keeps.ite (h.holdAll _) (h.when _ (fun _ h1 => ((h1.setFlag _ _ _).freeCells).linesRise _))

theorem Keeps.holdAct (h : Keeps s t) (v : Word) : Keeps s (t.holdAct v) := by
  unfold State.holdAct
  dsimp only
  split
  · exact h.ctrlRefuse _
  · split
    · exact h
    · split
      · exact Keeps.ite (h.setRg _ _) ((h.setRg _ _).settleHold _)
      · exact (h.setRg _ _).settleHold _
      · exact h

theorem Keeps.pdSettle (h : Keeps s t) (k : Nat) : Keeps s (t.pdSettle k) :=
  Keeps.ite h (Keeps.ite (h.setBit _ _ _) (Keeps.ite h ((((h.setBit _ _ _).forEach _ (fun _ _ h1 => h1.settleHold
      _)).fenceStart _).fenceStart _)))

theorem Keeps.pdSettleAll (h : Keeps s t) : Keeps s (t.pdSettleAll) := h.forEach _ (fun _ _ h1 => h1.pdSettle _)

theorem ends_execMinimumHoldEnd (r : Fin 32) : Ends s (execMinimumHoldEnd r s) :=
  .next (Keeps.ite (Keeps.refl s) (((((Keeps.refl s).setRg _ _).settleHold _).pulse _).pdSettleAll))

theorem Keeps.fireAct (h : Keeps s t) (v : Word) : Keeps s (t.fireAct v) := Keeps.ite h (h.gatePush _)

theorem ends_execFireStrobeEdge : Ends s (execFireStrobeEdge s) :=
  .next (Keeps.ite (Keeps.refl s) ((Keeps.refl s).gatePush _))

theorem Keeps.refuseRecord (h : Keeps s t) (r reason bits : Nat) : Keeps s (t.refuseRecord r reason bits) :=
  (h.when _ (fun _ h1 => h1.setFld _ _ _)).report _ _

theorem Keeps.refuseAt (h : Keeps s t) (r reason bits : Nat) : Keeps s (t.refuseAt r reason bits) :=
  Keeps.ite (h.parts) (h.refuseRecord _ _ _)

theorem Keeps.gateResume (h : Keeps s t) : Keeps s (t.gateResume) :=
  (h.parts).forEach _ (fun _ _ h1 => h1.refuseRecord _ _ _)

theorem Keeps.scrubForget (h : Keeps s t) (r : Nat) : Keeps s (t.scrubForget r) :=
  ((h.parts).when _ (fun _ h1 => h1.setFlag _ _ _)).setBit _ _ _

theorem Keeps.fireProbes (h : Keeps s t) (r : Nat) : Keeps s (t.fireProbes r) :=
  h.forEach _ (fun _ _ h1 => h1.when _ (fun _ h2 => h2.prbAbort _))

theorem Keeps.fireRegion (h : Keeps s t) (r : Nat) : Keeps s (t.fireRegion r) :=
  ((((((((((((h.fireProbes _).fireFabric _ _).fireFfs _ _).fireClocks _).swapPlanes _).setRg _ _).setFld _ _
      _).setFld _ _ _).setFld _ _ _).setFld _ _ _).setShadow _ _).countWrap _ _ _).scrubForget _

theorem Keeps.fireTime (h : Keeps s t) : Keeps s (t.fireTime) := (h.setReg _ _).setReg _ _

theorem Keeps.skmFired (h : Keeps s t) (fired : List Nat) (q : FireReq) : Keeps s (t.skmFired fired q) := by
  unfold State.skmFired
  dsimp only
  split
  · exact h
  · exact Keeps.ite h (Keeps.ite (Keeps.ite (h.setSkm _ _) (h.skmRelease _)) (Keeps.ite (h.skmEvent _ _) h))

theorem Keeps.niTables {f : State → Nat → State} (h : Keeps s t) (e : Nat) (hf : ∀ u x, Keeps s u → Keeps s (f u x)) :
    Keeps s (t.niTables e f) := h.forEach _ hf

theorem Keeps.fireBound (h : Keeps s t) (b : Bound) : Keeps s (t.fireBound b) := by
  unfold State.fireBound
  dsimp only
  split
  · exact (h.quadSet _ (fun _ _ h1 => h1.exchangeReg _)).parts
  · exact (h.grpFire _).parts
  · exact (h.niTables _ (fun _ _ h1 => h1.exchangeReg _)).parts
  · exact h.prbApply _ (fun _ _ h1 => h1.exchangeReg _)

theorem Keeps.fireRefuse (h : Keeps s t) (pre : State) (reqs : List FireReq) (r : Nat) : Keeps s (t.fireRefuse pre
    reqs r) := by
  unfold State.fireRefuse
  dsimp only
  split
  · exact h.refuseAt _ _ _
  · exact h

theorem ends_execFiring : Ends s (execFiring s) :=
  .next (Keeps.ite ((((Keeps.refl s).parts).forEach _ (fun _ _ h0 => h0.fireRefuse _ _ _)).foldl _ (fun _ _ h0 =>
      h0.skmFired _ _)) (((((((((((((Keeps.refl s).parts).forEach _ (fun _ _ h0 => h0.fireRefuse _ _ _)).foldl _
      (fun _ _ h0 => h0.skmFired _ _)).holdAll _).forEach _ (fun _ _ h0 => h0.fireRegion _)).forEach _ (fun _ _ h0
      => h0.fireBound _)).dropStarts).forEach _ (fun _ _ h0 => h0.countWrap _ _ _)).countWrap _ _ _).setFld _ _
      _).setReg _ _).fireTime))

theorem ends_execFiringCrossing (b : Bound) : Ends s (execFiringCrossing b s) := by
  unfold execFiringCrossing
  dsimp only
  split
  · exact .next (Keeps.refl s)
  · split
    · exact .next ((((Keeps.refl s).parts).quadAct _).skmCrossed)
    · exact .next ((((Keeps.refl s).parts).grpAct _).skmCrossed)
    · exact .next (((Keeps.refl s).parts).skmCrossed)
    · exact .next (((Keeps.refl s).parts).skmCrossed)

/-! ### The scratchpad -/

theorem Keeps.setPadWord (h : Keeps s t) (w : Nat) (x : BmWord) : Keeps s (t.setPadWord w x) :=
  ⟨h.queue, h.fuses, h.regs, fun m => State.memsCanon_setPadWord t w x (h.mems m)⟩

theorem Keeps.padRecord (h : Keeps s t) (sev type w : Nat) : Keeps s (t.padRecord sev type w) := h.report _ _

theorem Keeps.padUpset (h : Keeps s t) (w : Nat) (up : List Nat) : Keeps s (t.padUpset w up) :=
  h.foldl _ (fun _ _ h1 => h1.setPadWord _ _)

theorem Keeps.padRead (h : Keeps s t) (core : Bool) (w : Nat) : Keeps s (t.padRead core w).2.2 := by
  grind [State.padRead, Keeps.parts, Keeps.refl, Keeps.padRecord, Keeps.setPadWord]

theorem Keeps.padWrite (h : Keeps s t) (core : Bool) (w off : Nat) (bytes : List Byte) : Keeps s (t.padWrite core w
    off bytes) :=
  Keeps.ite h (Keeps.ite (h.setPadWord _ _) ((h.padRead _ _).setPadWord _ _))

theorem Keeps.padReadBytes (h : Keeps s t) (core : Bool) (a k : Nat) : Keeps s (t.padReadBytes core a k).2.2 := by
  have hl : ∀ (l : List Nat) (x : List Byte × Bool × State), Keeps s x.2.2 →
      Keeps s (l.foldl (fun (x : List Byte × Bool × State) w => (x.1 ++ bytes64 (x.2.2.padRead core w).1,
        x.2.1 || (x.2.2.padRead core w).2.1, (x.2.2.padRead core w).2.2)) x).2.2 := fun l => by
    induction l with
    | nil => exact fun _ hx => hx
    | cons w l ih => exact fun x hx => ih _ (hx.padRead _ _)
  exact hl _ _ h

theorem Keeps.padWriteBytes (h : Keeps s t) (core : Bool) (a : Nat) (bytes : List Byte) : Keeps s (t.padWriteBytes
    core a bytes) :=
  h.forEach _ (fun _ _ h1 => h1.padWrite _ _ _ _)

theorem Keeps.padClear (h : Keeps s t) : Keeps s t.padClear :=
  ⟨h.queue, h.fuses, h.regs, fun m => State.memsCanon_padClear t (h.mems m)⟩

theorem Keeps.padWipe (h : Keeps s t) : Keeps s t.padWipe :=
  ⟨h.queue, h.fuses, h.regs, fun m => State.memsCanon_padWipe t (h.mems m)⟩

theorem Keeps.marchSlice (h : Keeps s t) (m : March) (bad : List Nat) : Keeps s (t.marchSlice m bad) :=
  (h.forEach _ (fun _ _ h1 => Keeps.ite ((h1.padRead _ _).setPadWord _ _) (h1.setPadWord _ _))).forEach _ (fun _ _
      h1 => h1.padRecord _ _ _)

theorem Keeps.setMarch (h : Keeps s t) (st : Nat) : Keeps s (t.setMarch st) := h.parts

theorem ends_execMarchSliceDone (bad : List (Fin 524288)) : Ends s (execMarchSliceDone bad s) := by
  unfold execMarchSliceDone
  dsimp only
  split
  · exact .next (Keeps.refl s)
  · exact .next (Keeps.ite (Keeps.refl s) ((((Keeps.refl s).marchSlice _ _).parts).setMarch _))

theorem ends_execMarchSliceYield (w : Fin 524288) : Ends s (execMarchSliceYield w s) := by
  unfold execMarchSliceYield
  dsimp only
  split
  · exact .next (Keeps.refl s)
  · exact .next (Keeps.ite ((((Keeps.refl s).marchSlice _ _).parts).setMarch _) (Keeps.refl s))

theorem ends_execScratchpadAccess (op : PadOp) (upset : List (Fin 72)) : Ends s (execScratchpadAccess op upset s) :=
    by
  unfold execScratchpadAccess
  dsimp only
  split
  · exact .next (Keeps.refl s)
  · split
    · exact .next ((Keeps.refl s).parts)
    · exact .next (Keeps.ite (Keeps.refl s) ((((Keeps.refl s).padUpset _ _).padRead _ _).parts))
    · exact .next (Keeps.ite (Keeps.refl s) (((Keeps.refl s).padUpset _ _).padWrite _ _ _ _))

theorem Keeps.memNotice (h : Keeps s t) (a k : Nat) : Keeps s (t.memNotice a k) := by
  grind [State.memNotice, Keeps.parts, Keeps.refl, Keeps.forEach, Keeps.padRead, Keeps.mcFreezeUe, Keeps.mcMemory]

theorem Keeps.sourceNotice (h : Keeps s t) (origin addr a k : Nat) : Keeps s (t.sourceNotice origin addr a k) :=
  h.when _ (fun _ h1 => h1.memNotice _ _)

/-! ### Containers -/

theorem Keeps.readDirectory (h : Keeps s t) : Keeps s (t.readDirectory) := by
  unfold State.readDirectory
  dsimp only
  split
  · exact h.setReg _ _
  · exact ((h.setReg _ _).setReg _ _).when _ (fun _ h1 => h1.report _ _)

theorem Keeps.loadNotice (h : Keeps s t) (l : Load) (a k : Nat) : Keeps s (t.loadNotice l a k) := by
  unfold State.loadNotice
  split
  · exact h.sourceNotice _ _ _ _
  · exact h.sourceNotice _ _ _ _
  · exact h

/-! ### The scrubber -/

theorem Keeps.setScrub (h : Keeps s t) (x : Scrub) : Keeps s (t.setScrub x) := h.parts

theorem Keeps.pageNotice (h : Keeps s t) (x : PlaneRec) (page : Nat) : Keeps s (t.pageNotice x page) :=
  h.sourceNotice _ _ _ _

theorem Keeps.cachePage (h : Keeps s t) (x : PlaneRec) (page : Nat) : Keeps s (t.cachePage x page).2 := by
  grind [State.cachePage, Keeps.parts, Keeps.refl, Keeps.setScrub, Keeps.pageNotice, Keeps.count]

theorem Keeps.frameMasks (h : Keeps s t) (x : PlaneRec) (index : Nat) : Keeps s (t.frameMasks x index).2 := by
  grind [State.frameMasks, Keeps.parts, Keeps.refl, Keeps.cachePage]

theorem Keeps.mapRecord (h : Keeps s t) (far : Nat) : Keeps s (t.mapRecord far) := h.report _ _

theorem Keeps.mapBad (h : Keeps s t) (region : Option Nat) (shd : Bool) : Keeps s (t.mapBad region shd) := by
  unfold State.mapBad
  dsimp only
  split
  · exact ((h.draw).setFld _ _ _).mapRecord _
  · exact (((h.draw).setFld _ _ _).forEach _ (fun _ _ h1 => h1.foldl _ (fun _ _ h2 => h2.when _ (fun _ h3 =>
      h3.setFld _ _ _)))).mapRecord _

theorem ends_execMapCheckDone (region : Option (Fin 32)) (shd : Bool) : Ends s (execMapCheckDone region shd s) := by
  unfold execMapCheckDone
  dsimp only
  split
  · exact .next (Keeps.ite (Keeps.refl s) (Keeps.ite ((Keeps.refl s).sourceNotice _ _ _ _) (((Keeps.refl
      s).sourceNotice _ _ _ _).mapBad _ _)))
  · exact .next (Keeps.refl s)

theorem Keeps.lastFinding (h : Keeps s t) (key : Nat) (shd : Bool) (finding : Nat) (ess : Bool) (word : Nat) : Keeps
    s (t.lastFinding key shd finding ess word) :=
  Keeps.ite ((((h.setReg _ _).setReg _ _).setFlag _ _ _).setScrub _) ((h.setReg _ _).setReg _ _)

theorem Keeps.scrubRecord (h : Keeps s t) (unit src sev cls key : Nat) (shd : Bool) : Keeps s (t.scrubRecord unit
    src sev cls key shd) :=
  h.report _ _

theorem Keeps.setPlane (h : Keeps s t) (shd : Bool) (p : Plane) : Keeps s (t.setPlane shd p) :=
  Keeps.ite (h.parts) (h.parts)

theorem Keeps.notRepaired (h : Keeps s t) (key : Nat) (shd ess : Bool) : Keeps s (t.notRepaired key shd ess) := by
  unfold State.notRepaired
  dsimp only
  split
  · split
    · exact (Keeps.ite ((((h.count _ _ _).lastFinding _ _ _ _ _).setScrub _).setShadow _ _) (((h.count _ _
        _).lastFinding _ _ _ _ _).setScrub _)).scrubRecord _ _ _ _ _ _
    · exact (((h.count _ _ _).lastFinding _ _ _ _ _).setScrub _).scrubRecord _ _ _ _ _ _
  · split
    · split
      · exact ((((h.count _ _ _).lastFinding _ _ _ _ _).setScrub _).setBit _ _ _).scrubRecord _ _ _ _ _ _
      · exact ((((h.count _ _ _).lastFinding _ _ _ _ _).setScrub _).setFlag _ _ _).scrubRecord _ _ _ _ _ _
    · split
      · exact ((((h.count _ _ _).lastFinding _ _ _ _ _).setScrub _).setBit _ _ _).scrubRecord _ _ _ _ _ _
      · exact ((((h.count _ _ _).lastFinding _ _ _ _ _).setScrub _).setFlag _ _ _).scrubRecord _ _ _ _ _ _

theorem Keeps.queueRefetch (h : Keeps s t) (key : Nat) (shd ess : Bool) : Keeps s (t.queueRefetch key shd ess) :=
  Keeps.ite (h.notRepaired _ _ _) (Keeps.ite (h.setScrub _) h)

theorem Keeps.settleFinding (h : Keeps s t) (f : Finding) (ess : Bool) : Keeps s (t.settleFinding f ess) :=
  Keeps.ite (Keeps.ite (((h.lastFinding _ _ _ _ _).count _ _ _).scrubRecord _ _ _ _ _ _) (((h.lastFinding _ _ _ _
      _).count _ _ _).scrubRecord _ _ _ _ _ _)) (Keeps.ite ((((h.lastFinding _ _ _ _ _).count _ _ _).scrubRecord _ _
      _ _ _ _).queueRefetch _ _ _) ((Keeps.ite (((h.lastFinding _ _ _ _ _).count _ _ _).scrubRecord _ _ _ _ _ _)
      (((h.lastFinding _ _ _ _ _).count _ _ _).scrubRecord _ _ _ _ _ _)).queueRefetch _ _ _))

theorem ends_execMapLookupDone (lost : List Nat) : Ends s (execMapLookupDone lost s) := by
  unfold execMapLookupDone
  dsimp only
  split
  · exact .next (Keeps.refl s)
  · split
    · exact .next (Keeps.refl s)
    · split
      · exact .next (((Keeps.refl s).setScrub _).settleFinding _ _)
      · split
        · exact .next (((Keeps.refl s).setScrub _).settleFinding _ _)
        · split
          · exact .next ((((Keeps.refl s).setScrub _).frameMasks _ _).settleFinding _ _)
          · exact .next (((((Keeps.refl s).setScrub _).frameMasks _ _).mapRecord _).settleFinding _ _)

theorem Keeps.storeFrame (h : Keeps s t) (key : Nat) (shd : Bool) (f : Frame) : Keeps s (t.storeFrame key shd f) :=
  h.setPlane _ _

theorem Keeps.scrubFrame (h : Keeps s t) (key : Nat) (shd : Bool) : Keeps s (t.scrubFrame key shd) := by
  unfold State.scrubFrame
  dsimp only
  split
  · exact h
  · split
    · exact h
    · exact Keeps.ite (Keeps.ite ((h.storeFrame _ _ _).settleFinding _ _) ((h.storeFrame _ _ _).setScrub _))
        (Keeps.ite (Keeps.ite h (h.setScrub _)) (Keeps.ite ((Keeps.ite h (h.setScrub _)).settleFinding _ _)
        ((Keeps.ite h (h.setScrub _)).setScrub _)))

theorem ends_execWedgingStart : Ends s (execWedgingStart s) :=
  .next (Keeps.ite (((Keeps.refl s).setFlag _ _ _).setScrub _) (Keeps.refl s))

theorem ends_execScrubPosition (sec : Fin 32) (upA upS : List (Fin 2336)) : Ends s (execScrubPosition sec upA upS s)
    := by
  unfold execScrubPosition
  dsimp only
  split
  · exact .next (Keeps.refl s)
  · split
    · exact .next ((((Keeps.ite (Keeps.ite (Keeps.refl s) ((Keeps.refl s).storeFrame _ _ _)) ((Keeps.ite (Keeps.refl
        s) ((Keeps.refl s).storeFrame _ _ _)).storeFrame _ _ _)).scrubFrame _ _).scrubFrame _ _).setScrub _)
    · exact .next ((((Keeps.ite (Keeps.ite (Keeps.refl s) ((Keeps.refl s).storeFrame _ _ _)) ((Keeps.ite (Keeps.refl
        s) ((Keeps.refl s).storeFrame _ _ _)).storeFrame _ _ _)).scrubFrame _ _).scrubFrame _ _).setScrub _)

theorem ends_execWedgingEnd (ns : BitVec 32) : Ends s (execWedgingEnd ns s) :=
  .next (Keeps.ite (Keeps.refl s) ((((((((Keeps.refl s).forEach _ (fun _ _ h0 => (h0.scrubFrame _ _).scrubFrame _
      _)).forEach _ (fun _ _ h0 => h0.setBit _ _ _)).when _ (fun _ h0 => h0.setFlag _ _ _)).setFlag _ _ _).countWrap
      _ _ _).setReg _ _).pulse _))

theorem Keeps.locate (h : Keeps s t) (x : PlaneRec) (index : Nat) : Keeps s (t.locate x index).2 := by
  grind [State.locate, Keeps.parts, Keeps.refl, Keeps.cachePage]

theorem Keeps.fetchNotice (h : Keeps s t) (loc c : Nat × Nat × Nat) : Keeps s (t.fetchNotice loc c) := by
  unfold State.fetchNotice
  dsimp only
  split
  · exact ((h.sourceNotice _ _ _ _).sourceNotice _ _ _ _).sourceNotice _ _ _ _
  · exact h.sourceNotice _ _ _ _

theorem Keeps.fetchFrame (h : Keeps s t) (key : Nat) (shd : Bool) : Keeps s (t.fetchFrame key shd).2 := by
  grind [State.fetchFrame, Keeps.parts, Keeps.refl, Keeps.locate, Keeps.mapRecord, Keeps.forEach, Keeps.fetchNotice]

theorem ends_execRefetch (lost : Bool) : Ends s (execRefetch lost s) := by
  unfold execRefetch
  dsimp only
  split
  · exact .next (Keeps.refl s)
  · exact .next (Keeps.ite (Keeps.refl s) (Keeps.ite ((Keeps.refl s).setScrub _) (Keeps.ite (((Keeps.refl
      s).setScrub _).notRepaired _ _ _) ((((Keeps.refl s).fetchFrame _ _).setFlag _ _ _).setScrub _))))

theorem ends_execRefetchDone : Ends s (execRefetchDone s) := by
  unfold execRefetchDone
  dsimp only
  split
  · exact .next (Keeps.refl s)
  · split
    · exact .next (Keeps.refl s)
    · split
      · exact .next (((Keeps.refl s).setFlag _ _ _).setScrub _)
      · split
        · exact .next (((Keeps.refl s).setFlag _ _ _).setScrub _)
        · split
          · exact .next (((((Keeps.refl s).setFlag _ _ _).setScrub _).setScrub _).notRepaired _ _ _)
          · exact .next ((((((((Keeps.refl s).setFlag _ _ _).setScrub _).setScrub _).setPlane _ _).count _ _
              _).lastFinding _ _ _ _ _).scrubRecord _ _ _ _ _ _)

theorem Keeps.voterFix (h : Keeps s t) : Keeps s (t.voterFix) := ((h.count _ _ _).setScrub _).report _ _

theorem ends_execVoterDisagreement : Ends s (execVoterDisagreement s) := .next ((Keeps.refl s).voterFix)

theorem Keeps.injectAct (h : Keeps s t) (v : Word) : Keeps s (t.injectAct v) :=
  Keeps.ite (h.setScrub _) (Keeps.ite h (Keeps.ite (((((h.setFlag _ _ _).setFlag _ _ _).setFlag _ _ _).setScrub
      _).setFlag _ _ _) (((((((h.setFlag _ _ _).setFlag _ _ _).setFlag _ _ _).setScrub _).storeFrame _ _ _).setFlag
      _ _ _).setScrub _)))

theorem Keeps.scrLocked (h : Keeps s t) (loc : Nat) : Keeps s (t.scrLocked loc) :=
  (h.setFlag _ _ _).lockedRecord _ _ _ _

theorem Keeps.scrubStop (h : Keeps s t) : Keeps s (t.scrubStop) :=
  ((((h.setReg _ _).setReg _ _).setFlag _ _ _).setFlag _ _ _).setScrub _

theorem Keeps.scrubStage (h : Keeps s t) (r : Nat) : Keeps s (t.scrubStage r) := h.setScrub _

/-! ### Mailboxes -/

theorem Keeps.setMb (h : Keeps s t) (m : Nat) (x : Mbx) : Keeps s (t.setMb m x) := h.parts

theorem Keeps.mbSource (h : Keeps s t) (m : Nat) : Keeps s (t.mbSource m) := h.settle _ _

theorem Keeps.mbFlag (h : Keeps s t) (m : Nat) (f : Fld) : Keeps s (t.mbFlag m f) := (h.setFlag _ _ _).mbSource _

theorem Keeps.mbSettleN (h : Keeps s t) (m n : Nat) : Keeps s (t.mbSettleN m n) := by
  induction n generalizing t with
  | zero => exact h
  | succ n ih =>
    unfold State.mbSettleN
    dsimp only
    split
    · exact h
    · exact .ite h (ih ((h.setMb _ _).mbFlag _ _))

theorem Keeps.mbSettle (h : Keeps s t) (m : Nat) : Keeps s (t.mbSettle m) := h.mbSettleN _ _

theorem Keeps.mbCommit (h : Keeps s t) (m : Nat) (q : List Byte) : Keeps s (t.mbCommit m q) :=
  Keeps.ite (h.mbFlag _ _) ((h.setMb _ _).mbSettle _)

theorem Keeps.mbSend (h : Keeps s t) (m : Nat) (words : Bool) : Keeps s (t.mbSend m words) := by
  unfold State.mbSend
  dsimp only
  split
  · exact h
  · exact (h.setMb _ _).mbCommit _ _

theorem Keeps.mbCancel (h : Keeps s t) (m : Nat) : Keeps s (t.mbCancel m) := h.setMb _ _

theorem Keeps.mbAppend (h : Keeps s t) (m : Nat) (bytes : List Byte) : Keeps s (t.mbAppend m bytes) :=
  Keeps.ite ((h.setMb _ _).mbFlag _ _) (h.setMb _ _)

theorem Keeps.mbDropHead (h : Keeps s t) (m : Nat) : Keeps s (t.mbDropHead m) := (h.setMb _ _).mbSettle _

theorem Keeps.mbPop (h : Keeps s t) (m : Nat) : Keeps s (t.mbPop m).2 := by
  grind [State.mbPop, Keeps.parts, Keeps.refl, Keeps.mbFlag, Keeps.mbDropHead, Keeps.setMb]

theorem Keeps.mbStatusRead (h : Keeps s t) (m : Nat) : Keeps s (t.mbStatusRead m) := (h.setFlag _ _ _).setFlag _ _ _

theorem Keeps.mbAnswer (h : Keeps s t) (m code detail : Nat) (payload : List Byte) : Keeps s (t.mbAnswer m code
    detail payload) := by
  unfold State.mbAnswer
  dsimp only
  split
  · exact h
  · exact ((h.setMb _ _).mbSettle _).mbSource _

theorem Keeps.mbDiscard (h : Keeps s t) : Keeps s (t.mbDiscard) := (h.parts).forEach _ (fun _ _ h1 => h1.setMb _ _)

theorem ends_execHspStatus (n : Fin 65536) : Ends s (execHspStatus n s) :=
  .next (Keeps.ite (((Keeps.refl s).mbStatusRead _).parts) (Keeps.refl s))

theorem ends_execHspWrite (bytes : List (BitVec 8)) : Ends s (execHspWrite bytes s) :=
  .next (Keeps.ite ((Keeps.refl s).mbCommit _ _) (Keeps.refl s))

theorem ends_execHspRead (n : Fin 65536) : Ends s (execHspRead n s) :=
  .next (Keeps.ite (Keeps.refl s) (Keeps.ite ((Keeps.refl s).parts) (((Keeps.refl s).parts).mbDropHead _)))

theorem Keeps.setNack (h : Keeps s t) (b : Bool) : Keeps s (t.setNack b) := h.setMb _ _

theorem ends_execI2cAppend (bytes : List (BitVec 8)) (pec : Option (BitVec 8)) : Ends s (execI2cAppend bytes pec s) :=
  .next (Keeps.ite (Keeps.refl s) (Keeps.ite ((Keeps.refl s).setNack _) (Keeps.ite (((Keeps.refl s).mbAppend _
      _).setNack _) (Keeps.ite (((Keeps.refl s).mbFlag _ _).setNack _) (((Keeps.refl s).mbAppend _ _).setNack _)))))

theorem ends_execI2cSend : Ends s (execI2cSend s) := .next (Keeps.ite ((Keeps.refl s).mbSend _ _) (Keeps.refl s))

theorem ends_execI2cCancel : Ends s (execI2cCancel s) := .next (Keeps.ite ((Keeps.refl s).mbCancel _) (Keeps.refl s))

theorem ends_execI2cStatus (pec : Bool) : Ends s (execI2cStatus pec s) :=
  .next (Keeps.ite (((Keeps.refl s).mbStatusRead _).parts) (Keeps.refl s))

theorem ends_execI2cRead (n : Fin 257) : Ends s (execI2cRead n s) :=
  .next (Keeps.ite (Keeps.refl s) (Keeps.ite ((Keeps.refl s).parts) (Keeps.ite (((Keeps.refl s).parts).mbDropHead _)
      (((Keeps.refl s).parts).setMb _ _))))

theorem ends_execI2cRewind : Ends s (execI2cRewind s) := .next (Keeps.ite ((Keeps.refl s).setMb _ _) (Keeps.refl s))

theorem ends_execI2cSclTimeout : Ends s (execI2cSclTimeout s) := .next (Keeps.refl s)

theorem Keeps.mbScan {f : State → State} (h : Keeps s t) (hf : ∀ u, Keeps s u → Keeps s (f u)) :
    Keeps s (t.mbScan f) := .ite (hf _ h.parts) h

theorem ends_execJtagMbxAppend (v : BitVec 32) : Ends s (execJtagMbxAppend v s) :=
  .next ((Keeps.refl s).mbScan (fun _ h0 => h0.mbAppend _ _))

theorem ends_execJtagMbxCommit : Ends s (execJtagMbxCommit s) :=
  .next ((Keeps.refl s).mbScan (fun _ h0 => h0.mbSend _ _))

theorem ends_execJtagMbxPop : Ends s (execJtagMbxPop s) :=
  .next ((Keeps.refl s).mbScan (fun _ h0 => (h0.mbPop _).setMb _ _))

/-! ### Boot -/

theorem Keeps.setBoot (h : Keeps s t) (b : Boot) : Keeps s (t.setBoot b) := h.parts

theorem Keeps.setFw (h : Keeps s t) (f : Fw) : Keeps s (t.setFw f) := h.parts

theorem Keeps.setPhase (h : Keeps s t) (n : Nat) : Keeps s (t.setPhase n) := h.setFld _ _ _

theorem Keeps.putLoad (h : Keeps s t) (l : Load) : Keeps s (t.putLoad l) := h.setBoot _

theorem Keeps.dropLoad (h : Keeps s t) (p : LoadPath) : Keeps s (t.dropLoad p) := h.parts

theorem Keeps.closeSessions (h : Keeps s t) : Keeps s (t.closeSessions) := h.setFw _

theorem Keeps.clearPlanes (h : Keeps s t) : Keeps s (t.clearPlanes) :=
  (((h.seeClocks).parts).setReg _ _).forEach _ (fun _ _ h1 => (h1.setReg _ _).setReg _ _)

theorem Keeps.startClearing (h : Keeps s t) : Keeps s (t.startClearing) := ((h.clearPlanes).scrubStop).setBoot _

theorem Keeps.mcReset (h : Keeps s t) (c : Nat) : Keeps s (t.mcReset c) :=
  (((h.when _ (fun _ h1 => h1.mtLeave _)).setMcState _ _).mcAbandon _).rldDrop _ _

theorem Keeps.resetColumn (h : Keeps s t) : Keeps s (t.resetColumn) :=
  ((((((h.setFld _ _ _).setFlag _ _ _).setFlag _ _ _).assertGsr).forEach _ (fun _ _ h1 => h1.setFlag _ _ _)).forEach
      _ (fun _ _ h1 => h1.mcReset _)).settlePins

theorem Keeps.bootRecord (h : Keeps s t) (image code block : Nat) : Keeps s (t.bootRecord image code block) :=
  ((h.setFld _ _ _).setFld _ _ _).report _ _

theorem Keeps.enterFailed (h : Keeps s t) : Keeps s (t.enterFailed) := (h.setPhase _).setFlag _ _ _

theorem Keeps.lastFailed (h : Keeps s t) (kind : Nat) : Keeps s (t.lastFailed kind) := Keeps.ite h (h.enterFailed)

theorem Keeps.startAlternate (h : Keeps s t) (path : LoadPath) (kind pri : Nat) : Keeps s (t.startAlternate path
    kind pri) := by
  unfold State.startAlternate
  split
  · exact h.putLoad _
  · exact (h.bootRecord _ _ _).lastFailed _

theorem Keeps.startFlash (h : Keeps s t) (path : LoadPath) (kind : Nat) : Keeps s (t.startFlash path kind) := by
  unfold State.startFlash
  dsimp only
  split
  · exact (h.readDirectory).putLoad _
  · exact Keeps.ite (((h.readDirectory).bootRecord _ _ _).startAlternate _ _ _) (((h.readDirectory).bootRecord _ _
      _).lastFailed _)

theorem Keeps.bootFail (h : Keeps s t) (l : Load) (code block : Nat) : Keeps s (t.bootFail l code block) := by
  unfold State.bootFail
  dsimp only
  split
  · exact (((h.dropLoad _).bootRecord _ _ _).startClearing).setFw _
  · exact Keeps.ite (((h.dropLoad _).bootRecord _ _ _).startClearing) ((h.dropLoad _).bootRecord _ _ _)
  · exact Keeps.ite ((((h.dropLoad _).bootRecord _ _ _).when _ (fun _ h1 => h1.startClearing)).lastFailed _)
      ((((h.dropLoad _).bootRecord _ _ _).when _ (fun _ h1 => h1.startClearing)).startAlternate _ _ _)

theorem Keeps.stageRecord (h : Keeps s t) (src region code low : Nat) : Keeps s (t.stageRecord src region code low) :=
  h.report _ _

theorem Keeps.answerStager (h : Keeps s t) (code detail : Nat) : Keeps s (t.answerStager code detail) := by
  unfold State.answerStager
  dsimp only
  split
  · exact (h.mbAnswer _ _ _ _).setFw _
  · exact h

theorem Keeps.stageEnd (h : Keeps s t) (path : LoadPath) (region code block : Nat) : Keeps s (t.stageEnd path region
    code block) := by
  unfold State.stageEnd
  dsimp only
  split
  · exact ((h.when _ (fun _ h1 => h1.setFld _ _ _)).setFld _ _ _).setFlag _ _ _
  · exact (h.when _ (fun _ h1 => h1.setFld _ _ _)).setFw _
  · exact (h.when _ (fun _ h1 => h1.setFld _ _ _)).answerStager _ _

theorem Keeps.stageFail (h : Keeps s t) (l : Load) (code block : Nat) : Keeps s (t.stageFail l code block) :=
  (((h.dropLoad _).when _ (fun _ h1 => h1.setShadow _ _)).stageRecord _ _ _ _).stageEnd _ _ _ _

theorem Keeps.loadFail (h : Keeps s t) (l : Load) (code block : Nat) : Keeps s (t.loadFail l code block) :=
  Keeps.ite (h.stageFail _ _ _) (h.bootFail _ _ _)

theorem Keeps.holdEnd (h : Keeps s t) (region code index : Nat) : Keeps s (t.holdEnd region code index) :=
  (Keeps.ite ((((((h.dropLoad _).setBoot _).setFld _ _ _).setFlag _ _ _).when _ (fun _ h1 => h1.setFlag _ _
      _)).pulse _) ((((((h.dropLoad _).setBoot _).setFld _ _ _).setFlag _ _ _).when _ (fun _ h1 => h1.setFlag _ _
      _)).stageRecord _ _ _ _)).pdSettleAll

theorem Keeps.holdRefused (h : Keeps s t) (region code : Nat) : Keeps s (t.holdRefused region code) :=
  (h.setFld _ _ _).stageRecord _ _ _ _

theorem Keeps.holdStart (h : Keeps s t) : Keeps s (t.holdStart) :=
  Keeps.ite h (Keeps.ite (h.holdRefused _ _) (Keeps.ite (h.holdRefused _ _) ((((h.setFlag _ _ _).setFlag _ _
      _).setBoot _).putLoad _)))

theorem Keeps.stageStart (h : Keeps s t) (l : Load) (noc : Bool) : Keeps s (t.stageStart l noc) := by
  unfold State.stageStart
  split
  · exact (h.stageRecord _ _ _ _).stageEnd _ _ _ _
  · exact h.putLoad _

theorem Keeps.stgStart (h : Keeps s t) : Keeps s (t.stgStart) := Keeps.ite h ((h.setFlag _ _ _).stageStart _ _)

theorem Keeps.tryLoad (h : Keeps s t) : Keeps s (t.tryLoad) :=
  Keeps.ite h (Keeps.ite ((h.setPhase _).startFlash _ _) (h.setPhase _))

theorem ends_execClearingDone : Ends s (execClearingDone s) :=
  .next (Keeps.ite (Keeps.refl s) ((((Keeps.refl s).clearPlanes).setBoot _).tryLoad))

theorem Keeps.bootAgain (h : Keeps s t) : Keeps s (t.bootAgain) :=
  Keeps.ite h (Keeps.ite (h.when _ (fun _ h1 => (h1.bootRecord _ _ _).enterFailed)) (Keeps.ite h (h.startFlash _ _)))

theorem Keeps.bootGoes (h : Keeps s t) : Keeps s (t.bootGoes) := h.when _ (fun _ h1 => (h1.bootAgain).tryLoad)

theorem Keeps.backToBoot (h : Keeps s t) : Keeps s (t.backToBoot) :=
  Keeps.ite h (Keeps.ite (h.startClearing) (((((((((((((((h.answerStager _ _).foldl _ (fun _ _ h1 => h1.dropLoad
      _)).setBoot _).setFlag _ _ _).setFlag _ _ _).setPhase _).setFlag _ _
      _).resetColumn).dropRegions).parts).setReg _ _).pdSettleAll).skmStopAll).startClearing).when _ (fun _ h1 =>
      h1.setFw _)))

theorem Keeps.restart (h : Keeps s t) : Keeps s (t.restart) := (h.backToBoot).when _ (fun _ h1 => h1.bootAgain)

theorem ends_execCfgStartNFall : Ends s (execCfgStartNFall s) := .next (((Keeps.refl s).parts).restart)

theorem ends_execCfgStartNRise : Ends s (execCfgStartNRise s) := .next (((Keeps.refl s).parts).bootGoes)

theorem Keeps.startUp (h : Keeps s t) : Keeps s (t.startUp) :=
  (((((((((h.setFld _ _ _).setPhase _).parts).setFlag _ _ _).settlePins).forEach _ (fun _ _ h1 => h1.gsrSettle
      _)).when _ (fun _ h1 => h1.forEach _ (fun _ _ h2 => h2.setFlag _ _ _))).skmStartAll).linesRise _).pulse _

theorem ends_execCfgDoneObserved : Ends s (execCfgDoneObserved s) :=
  .next (Keeps.ite (Keeps.refl s) (((Keeps.refl s).setFlag _ _ _).when _ (fun _ h0 => h0.startUp)))

theorem Keeps.sequencerGoes (h : Keeps s t) : Keeps s (t.sequencerGoes) :=
  (h.bootGoes).when _ (fun _ h1 => h1.startUp)

theorem ends_execCfgDoneFall : Ends s (execCfgDoneFall s) := .next ((Keeps.refl s).setFlag _ _ _)

theorem Keeps.runRom (h : Keeps s t) : Keeps s (t.runRom) :=
  ((((h.padClear).setBoot _).setFw _).setReg _ _).when _ (fun _ h1 => h1.bootAgain)

theorem Keeps.coreRestart (h : Keeps s t) : Keeps s (t.coreRestart) := (((h.dropLoad _).mbDiscard).parts).runRom

theorem Keeps.fallbackNotice (h : Keeps s t) (l : Load) : Keeps s (t.fallbackNotice l) :=
  Keeps.ite h ((h.setFlag _ _ _).report _ _)

theorem Keeps.installRegions (h : Keeps s t) (h0 : Header) (map : Nat) : Keeps s (t.installRegions h0 map) :=
  (h.dropRegions).forEach _ (fun _ _ h1 => ((((h1.setReg _ _).setReg _ _).setFlag _ _ _).setFld _ _ _).setFld _ _ _)

theorem Keeps.fabWords (h : Keeps s t) {fab : Fabric} {base : Option PlaneRec} (p : Nat × Option BmWord → Bool)
    (hw : fab.words = t.fab.words.filter p) : Keeps s { t with base := base, fab := fab } :=
  ⟨h.queue, h.fuses, h.regs, fun m => ⟨(h.mems m).1, hw ▸ Tbl.wf_filter _ _ _ (h.mems m).2.1, (h.mems m).2.2⟩⟩

theorem Keeps.fullDone (h : Keeps s t) (l : Load) (hd : Header) : Keeps s (t.fullDone l hd) :=
  ((((((((((((((h.dropLoad _).fallbackNotice _).installRegions _ _).setFld _ _ _).setReg _ _).setReg _ _).setReg _ _).setFld
    _ _ _).setFlag _ _ _).setReg _ _).fabWords _ rfl).draw.setReg _ _).setPhase _).setBoot _).when _ fun _ h1 => h1.setFw _

/-! ### Interrupts and the error log -/

theorem Keeps.setIc (h : Keeps s t) (x : Ic) : Keeps s (t.setIc x) := h.parts

theorem Keeps.settleOf (h : Keeps s t) (n : Nat) : Keeps s (t.settleOf n) := h.settle _ _

theorem Keeps.claim (h : Keeps s t) (t0 : Nat) : Keeps s (t.claim t0) := by
  unfold State.claim
  dsimp only
  split
  · exact h
  · exact h.setIc _

theorem Keeps.completeAt (h : Keeps s t) (t0 n : Nat) : Keeps s (t.completeAt t0 n) :=
  Keeps.ite (((h.setIc _).settleOf _).when _ (fun _ h1 => h1.setIc _)) (h.setFlag _ _ _)

theorem ends_execHoldoffExpiry (g : Fin 64) : Ends s (execHoldoffExpiry g s) :=
  .next (Keeps.ite (Keeps.refl s) ((Keeps.refl s).setIc _))

theorem Keeps.pendAct (h : Keeps s t) (n : Nat) (v : Word) : Keeps s (t.pendAct n v) :=
  (h.when _ (fun _ h1 => (h1.setIc _).settleOf _)).when _ (fun _ h1 => h1.setIc _)

theorem ends_execInterruptSourceRaise (n : Fin 1024) (level : Bool) : Ends s (execInterruptSourceRaise n level s) :=
  .next (Keeps.ite (Keeps.refl s) (Keeps.ite (Keeps.ite ((Keeps.refl s).raise _) ((Keeps.refl s).settleOf _))
      (Keeps.ite (((Keeps.refl s).setIc _).when _ (fun _ h0 => h0.raise _)) (((Keeps.refl s).setIc _).settleOf _))))

theorem Keeps.latchPass (h : Keeps s t) : Keeps s (t.latchPass) := h.setIc _

theorem Keeps.icWake (h : Keeps s t) : Keeps s (t.icWake) := Keeps.ite ((h.setIc _).latchPass) h

theorem ends_execIcSleep : Ends s (execIcSleep s) := .next (Keeps.ite ((Keeps.refl s).setIc _) (Keeps.refl s))

theorem ends_execIcWake : Ends s (execIcWake s) := .next (Keeps.ite (Keeps.refl s) ((Keeps.refl s).icWake))

theorem Keeps.setErr (h : Keeps s t) (x : Err) : Keeps s (t.setErr x) := h.parts

theorem Keeps.accept (h : Keeps s t) (w : Waiting) : Keeps s (t.accept w) :=
  ((Keeps.ite ((h.countReport _ _).setErr _) (Keeps.ite ((h.countReport _ _).countDrop _) ((h.countReport _
      _).setErr _))).when _ (fun _ h1 => (h1.setFlag _ _ _).high _)).settleOf _

theorem ends_execErrorReportAccept : Ends s (execErrorReportAccept s) := by
  unfold execErrorReportAccept
  dsimp only
  split
  · exact .next (Keeps.refl s)
  · split
    · exact .next (Keeps.refl s)
    · exact .next ((((Keeps.refl s).icWake).setErr _).accept _)

theorem Keeps.popErr (h : Keeps s t) : Keeps s (t.popErr) := (((h.setReg _ _).setReg _ _).setReg _ _).setErr _

theorem Keeps.icAct (h : Keeps s t) (loc : Nat) (v : Word) : Keeps s (t.icAct loc v) :=
  Keeps.ite (Keeps.ite h (((h.setFlag _ _ _).pendAct _ _).settleOf _)) h

theorem Keeps.icErrReadAct (h : Keeps s t) (off : Nat) : Keeps s (t.icErrReadAct off) := by
  unfold State.icErrReadAct
  dsimp only
  split
  · split
    · exact h.claim _
    · exact h
  · exact Keeps.ite (h.popErr) (h.setReg _ _)

theorem Keeps.icErrWrite (h : Keeps s t) (off : Nat) (v : Word) : Keeps s (t.icErrWrite off v) := by
  unfold State.icErrWrite
  dsimp only
  split
  · split
    · exact h.completeAt _ _
    · exact (h.rawWrite _ _ _).icAct _ _
  · exact (h.rawWrite _ _ _).settleOf _

theorem Keeps.icServe (h : Keeps s t) (a : HeldAccess) : Keeps s (t.icServe a) :=
  Keeps.ite h (Keeps.ite (h.icErrWrite _ _) ((h.icErrReadAct _).parts))

/-! ### Run control, watchdog and self-test -/

theorem Keeps.dbgEvent (h : Keeps s t) (f : Fld) : Keeps s (t.dbgEvent f) := (h.setFlag _ _ _).settleOf _

theorem Keeps.dbgRecord (h : Keeps s t) (code detail : Nat) : Keeps s (t.dbgRecord code detail) := h.report _ _

theorem Keeps.haltAct (h : Keeps s t) : Keeps s (t.haltAct) := h.when _ (fun _ h1 => h1.setFlag _ _ _)

theorem ends_execCoreHalt (pc : BitVec 32) (broken : Bool) : Ends s (execCoreHalt pc broken s) :=
  .next (Keeps.ite (Keeps.refl s) ((((((((((((Keeps.refl s).setReg _ _).parts).forEach _ (fun _ _ h0 => h0.when _
      (fun _ h1 => h1.mcFreeze _ _))).parts).setFlag _ _ _).setFlag _ _ _).setReg _ _).countWrap _ _ _).dbgEvent
      _).dbgRecord _ _).when _ (fun _ h0 => (h0.dbgEvent _).dbgRecord _ _)))

theorem Keeps.icHold (h : Keeps s t) (a : HeldAccess) : Keeps s (t.icHold a) := h.setIc _

theorem Keeps.resumeAct (h : Keeps s t) : Keeps s (t.resumeAct) :=
  Keeps.ite h ((((((((((((h.setFlag _ _ _).setReg _ _).forEach _ (fun _ _ h1 => Keeps.ite (h1.mcThaw _) (h1.setMc _
      _))).setErr _).forEach _ (fun _ _ h1 => h1.mergeReport _ _)).latchPass).gateResume).forEach _ (fun _ _ h1 =>
      h1.gsrSettle _)).setIc _).forEach _ (fun _ _ h1 => h1.icServe _)).skmThaw).sequencerGoes)

theorem Keeps.stepAct (h : Keeps s t) : Keeps s (t.stepAct) := Keeps.ite h (((h.resumeAct).setFlag _ _ _).parts)

theorem Keeps.rcAct (h : Keeps s t) (v : Word) : Keeps s (t.rcAct v) :=
  ((h.when _ (fun _ h1 => h1.haltAct)).when _ (fun _ h1 => h1.resumeAct)).when _ (fun _ h1 => h1.stepAct)

theorem Keeps.wdtKick (h : Keeps s t) (v : Word) : Keeps s (t.wdtKick v) :=
  Keeps.ite ((h.setReg _ _).setFlag _ _ _) (h.setFlag _ _ _)

theorem Keeps.wdtRecord (h : Keeps s t) (sev code : Nat) : Keeps s (t.wdtRecord sev code) := h.report _ _

theorem ends_execWdtExpiry : Ends s (execWdtExpiry s) := by
  unfold execWdtExpiry
  dsimp only
  split
  · exact .next (Keeps.refl s)
  · split
    · exact .next (((((Keeps.refl s).setReg _ _).countWrap _ _ _).setFlag _ _ _).wdtRecord _ _)
    · split
      · exact .next (((((Keeps.refl s).setReg _ _).countWrap _ _ _).setFlag _ _ _).wdtRecord _ _)
      · exact .next ((((((Keeps.refl s).setReg _ _).countWrap _ _ _).setFlag _ _ _).wdtRecord _ _).coreRestart)
      · exact .next ((((((((Keeps.refl s).setReg _ _).countWrap _ _ _).setFlag _ _ _).wdtRecord _
          _).backToBoot).coreRestart).when _ (fun _ h0 => h0.bootAgain))

theorem Keeps.setIst (h : Keeps s t) (x : Ist) : Keeps s (t.setIst x) := h.parts

theorem Keeps.sweepEnd (h : Keeps s t) : Keeps s (t.sweepEnd) :=
  Keeps.ite ((((h.setFlag _ _ _).countWrap _ _ _).setIst _).pulse _) h

theorem Keeps.runEnd (h : Keeps s t) : Keeps s (t.runEnd) := Keeps.ite ((h.setFlag _ _ _).pulse _) h

theorem Keeps.runSkip (h : Keeps s t) (n : Nat) : Keeps s (t.runSkip n) := by
  induction n generalizing t with
  | zero => exact h
  | succ n ih => exact .ite h (ih ((h.count _ _ _).setIst _))

theorem ends_execIstSweepStart : Ends s (execIstSweepStart s) :=
  .next (Keeps.ite (Keeps.refl s) ((((Keeps.refl s).setFlag _ _ _).setIst _).sweepEnd))

theorem Keeps.istRecord (h : Keeps s t) (src sev code tgt u : Nat) : Keeps s (t.istRecord src sev code tgt u) :=
  h.report _ _

theorem Keeps.istStart (h : Keeps s t) (tgt u : Nat) (run : Bool) : Keeps s (t.istStart tgt u run) :=
  ((h.setIst _).when _ (fun _ h1 => h1.parts)).when _ (fun _ h1 => h1.setMc _ _)

theorem Keeps.istPutOff (h : Keeps s t) (tgt u : Nat) (run : Bool) : Keeps s (t.istPutOff tgt u run) :=
  Keeps.ite ((((h.setIst _).when _ (fun _ h1 => h1.count _ _ _)).count _ _ _).istRecord _ _ _ _ _) (h.setIst _)

theorem Keeps.istTake (h : Keeps s t) (tgt u : Nat) : Keeps s (t.istTake tgt u) :=
  Keeps.ite (h.istStart _ _ _) (h.istPutOff _ _ _)

theorem Keeps.sweepNext (h : Keeps s t) : Keeps s (t.sweepNext) := by
  unfold State.sweepNext
  dsimp only
  split
  · exact ((h.setIst _).setIst _).istTake _ _
  · exact (h.setIst _).istTake _ _
  · exact (h.setIst _).sweepEnd

theorem Keeps.runNext (h : Keeps s t) : Keeps s (t.runNext) := by
  unfold State.runNext
  dsimp only
  split
  · exact Keeps.ite (((h.runSkip _).setIst _).istStart _ _ _) (h.runSkip _)
  · split
    · exact Keeps.ite ((h.runSkip _).istStart _ _ _) ((((h.runSkip _).setIst _).count _ _ _).runEnd)
    · exact (h.runSkip _).runEnd

theorem ends_execIstSliceStart : Ends s (execIstSliceStart s) :=
  .next (Keeps.ite (Keeps.refl s) (Keeps.ite ((Keeps.refl s).runNext) (Keeps.ite ((Keeps.refl s).sweepNext)
      (Keeps.refl s))))

theorem Keeps.istLeave (h : Keeps s t) (q : IstSlice) : Keeps s (t.istLeave q) := h.setIst _

theorem ends_execIstSliceDone (tgt : Fin 3) (fail : Bool) : Ends s (execIstSliceDone tgt fail s) := by
  unfold execIstSliceDone
  dsimp only
  split
  · exact .next (Keeps.refl s)
  · exact .next (Keeps.ite (Keeps.refl s) (((((((Keeps.refl s).istLeave _).setIst _).when _ (fun _ h0 => (h0.count _
      _ _).when _ (fun _ h1 => h1.count _ _ _))).when _ (fun _ h0 => Keeps.ite ((((h0.count _ _ _).setFld _ _
      _).setFld _ _ _).pulse _) ((((h0.count _ _ _).setFld _ _ _).setFld _ _ _).istRecord _ _ _ _
      _))).runEnd).sweepEnd))

theorem ends_execIstSliceAbandon (tgt : Fin 3) : Ends s (execIstSliceAbandon tgt s) := by
  unfold execIstSliceAbandon
  split
  · exact .next (Keeps.refl s)
  · exact .next (Keeps.ite (Keeps.refl s) ((((((Keeps.refl s).istLeave _).count _ _ _).istPutOff _ _
      _).runEnd).sweepEnd))

theorem Keeps.runAct (h : Keeps s t) (v : Word) : Keeps s (t.runAct v) :=
  Keeps.ite h (((((h.setReg _ _).setFlag _ _ _).setIst _).runSkip _).runEnd)

theorem Keeps.istLocked (h : Keeps s t) (loc : Nat) : Keeps s (t.istLocked loc) :=
  (h.setFlag _ _ _).lockedRecord _ _ _ _

theorem Keeps.wdtLocked (h : Keeps s t) (loc : Nat) : Keeps s (t.wdtLocked loc) :=
  (h.setFlag _ _ _).lockedRecord _ _ _ _

/-! ### The security block -/

theorem Keeps.setSec (h : Keeps s t) (x : Sec) : Keeps s (t.setSec x) := h.parts

theorem Keeps.startWipe (h : Keeps s t) : Keeps s (t.startWipe) := Keeps.ite (h.setSec _) ((h.setSec _).setFw _)

theorem ends_execWipeDone : Ends s (execWipeDone s) :=
  .next (Keeps.ite (Keeps.refl s) ((((Keeps.refl s).padWipe).countWrap _ _ _).setSec _))

theorem Keeps.abortCommands (h : Keeps s t) : Keeps s (t.abortCommands) :=
  ((h.forEach _ (fun _ _ h1 => h1.mbAnswer _ _ _ _)).setFw _).setSec _

theorem ends_execTamperTrip (i : Fin 6) (level : BitVec 6) : Ends s (execTamperTrip i level s) :=
  .next (Keeps.ite (Keeps.refl s) (((((((((((Keeps.refl s).setBit _ _ _).setFld _ _ _).settleOf
      _).resumeAct).startWipe).closeSessions).abortCommands).report _ _).when _ (fun _ h0 => h0.setBoot _)).when _
      (fun _ h0 => h0.restart)))

theorem Keeps.fuseStart (h : Keeps s t) (p : FuseProg) : Keeps s (t.fuseStart p) :=
  Keeps.ite h ((h.setFlag _ _ _).setSec _)

theorem Keeps.fuseAct (h : Keeps s t) (v : Word) : Keeps s (t.fuseAct v) := Keeps.ite h ((h.draw).fuseStart _)

theorem Keeps.lifeCycleChanged (h : Keeps s t) : Keeps s (t.lifeCycleChanged) :=
  ((h.setFlag _ _ _).startWipe).closeSessions

theorem bitsIn_orIn (t : Tbl Nat) (i v k : Nat) :
    bitsIn (Tbl.get (fun _ => 0) t k) (Tbl.get (fun _ => 0) (orIn t i v) k) := by
  unfold orIn
  rw [Tbl.get_set]
  split
  · next hk => exact hk ▸ bitsIn_or _ _
  · exact bitsIn_refl _

/-- Programming adds bits to the fuses (R562). -/
theorem Fuses.within_blow (f : Fuses) (field value ceil : Nat) : f.within (f.blow field value ceil) := by
  unfold Fuses.blow
  dsimp only
  repeat' split
  all_goals simp only [Fuses.within, bitsIn_refl, bitsIn_or, bitsIn_orIn, implies_true, and_self]

theorem Keeps.blow (h : Keeps s t) (field value ceil : Nat) :
    Keeps s { t with fuses := t.fuses.blow field value ceil } :=
  ⟨h.queue, Fuses.within_trans h.fuses (Fuses.within_blow _ _ _ _), h.regs, h.mems⟩

/-- The read-back results of R563 are no fuse bits. -/
theorem Keeps.blowBad (h : Keeps s t) (field value ceil : Nat) (bad : NSet) (sec : Sec) :
    Keeps s { t with fuses := { t.fuses.blow field value ceil with bad := bad }, sec := sec } :=
  ⟨h.queue, Fuses.within_trans h.fuses (Fuses.within_blow t.fuses field value ceil), h.regs, h.mems⟩

theorem Keeps.fuseEnd (h : Keeps s t) (ok : Bool) : Keeps s (t.fuseEnd ok) := by
  unfold State.fuseEnd
  dsimp only
  cases t.sec.prog with
  | none => exact h
  | some p =>
    have h0 := h.setSec { t.sec with prog := none, fdata := [] }
    have hu := fun bad sec => Keeps.ite (c := ok = true) (h0.blow p.field p.value p.ceil)
      ((h0.draw.blowBad p.field (p.value &&& (Config.random t.sec.draws).toNat) p.ceil bad sec).setFlag
        R.SEC_FUSE_CTRL F.SEC_FUSE_CTRL_FAIL true)
    dsimp only
    cases p.client with
    | none => exact (hu _ _).when _ fun _ h1 => h1.lifeCycleChanged
    | some m => exact ((hu _ _).mbAnswer _ _ _ _).when _ fun _ h1 => h1.lifeCycleChanged

theorem ends_execFuseProgramDone (ok : Bool) : Ends s (execFuseProgramDone ok s) := .next ((Keeps.refl s).fuseEnd _)

theorem ends_execFuseSupplyInvalid : Ends s (execFuseSupplyInvalid s) :=
  .next (((Keeps.refl s).setFlag _ _ _).fuseEnd _)

theorem Keeps.openDebug (h : Keeps s t) : Keeps s (t.openDebug) := (h.setFlag _ _ _).setFlag _ _ _

theorem Keeps.secAct (h : Keeps s t) (loc : Nat) (v : Word) : Keeps s (t.secAct loc v) :=
  Keeps.ite ((h.setReg _ _).when _ (fun _ h1 => h1.openDebug)) (Keeps.ite (h.when _ (fun _ h1 => h1.startWipe))
      (Keeps.ite (h.fuseAct _) (Keeps.ite (h.setSec _) h)))

theorem wf_nil {α : Type} [DecidableEq α] (d : Nat → α) : Tbl.wf d [] :=
  ⟨List.Pairwise.nil, fun _ h => absurd h List.not_mem_nil⟩

/-! ### Power -/

theorem Keeps.powerOnReset (h : Keeps s t) : Keeps s t.powerOnReset :=
  (((⟨h.queue, h.fuses, fun _ => ⟨wf_nil _, wf_nil _⟩, fun _ => ⟨wf_nil _, wf_nil _, wf_nil _⟩⟩ :
    Keeps s { State.reset with
      fuses := t.fuses, board := t.board, draws := t.draws, pending := t.pending
      sec := { State.reset.sec with draws := t.sec.draws }
      boot := { State.reset.boot with flash0 := t.boot.flash0, flash1 := t.boot.flash1 }
      fab := { State.reset.fab with loss := bumpLoss t.fab.loss 32 }
      rld := { State.reset.rld with loss := bumpLoss t.rld.loss 8 } }).setReg _ _).setReg _ _).setReg _ _

theorem Keeps.setBoard (h : Keeps s t) (b : Board) : Keeps s (t.setBoard b) := h.parts

theorem ends_execSupplyValid (rail : Fin 8) : Ends s (execSupplyValid rail s) := .next ((Keeps.refl s).setBit _ _ _)

theorem ends_execSupplyInvalid (rail : Fin 7) : Ends s (execSupplyInvalid rail s) :=
  .next ((((Keeps.refl s).setBit _ _ _).powerOnReset).setBoard _)

theorem ends_execPowerOnResetRelease : Ends s (execPowerOnResetRelease s) :=
  .next ((Keeps.refl s).when _ (fun _ h0 => h0.setBoard _))

theorem ends_execPorstNLow : Ends s (execPorstNLow s) := .next (((Keeps.refl s).powerOnReset).setBoard _)

theorem ends_execPorstNHigh : Ends s (execPorstNHigh s) := .next ((Keeps.refl s).setBoard _)

theorem Keeps.portsUp (h : Keeps s t) : Keeps s (t.portsUp) := h.forEach _ (fun _ _ h1 => h1.setFld _ _ _)

theorem ends_execResetExit (mode : Fin 8) (i2c : Fin 4) (pullSel startN : Bool) (flash0 flash1 : Option FlashDev) :
    Ends s (execResetExit mode i2c pullSel startN flash0 flash1 s) :=
  .next (Keeps.ite (Keeps.refl s) (((((((((((((Keeps.refl s).setBoot _).setBoard _).setPhase _).setFld _ _
      _).setFlag _ _ _).setFlag _ _ _).portsUp).setFlag _ _ _).startClearing).runRom).when _ (fun _ h0 =>
      h0.bootAgain)).foldl _ (fun _ _ h0 => h0.settleOf _)))

theorem ends_execVccioChange (bank : Fin 40) (valid : Bool) : Ends s (execVccioChange bank valid s) :=
  .next (Keeps.ite ((Keeps.refl s).setBit _ _ _) ((Keeps.refl s).setBit _ _ _))

theorem Keeps.pdWrite (h : Keeps s t) (v : Word) : Keeps s (t.pdWrite v) :=
  Keeps.ite ((h.setReg _ _).pdSettleAll) (h.setFlag _ _ _)

theorem ends_execSectorSupplyRemoved (sec : Fin 32) : Ends s (execSectorSupplyRemoved sec s) :=
  .next (Keeps.ite ((((Keeps.refl s).setBit _ _ _).setBit _ _ _).pdSettle _) (Keeps.refl s))

theorem Keeps.resetRange (h : Keeps s t) (lo hi : Nat) : Keeps s (t.resetRange lo hi) :=
  ⟨h.queue, h.fuses, fun c => ⟨Tbl.wf_filter _ _ _ (h.regs c).1, Tbl.wf_filter _ _ _ (h.regs c).2⟩, h.mems⟩

theorem Keeps.sectorFresh (h : Keeps s t) (sec : Nat) : Keeps s (t.sectorFresh sec) :=
  ⟨h.queue, h.fuses, fun c => ⟨Tbl.wf_filter _ _ _ (h.regs c).1, Tbl.wf_filter _ _ _ (h.regs c).2⟩,
    fun m => State.memsCanon_sectorFresh t sec (h.mems m)⟩

theorem ends_execSectorPowerRestored (sec : Fin 32) : Ends s (execSectorPowerRestored sec s) :=
  .next (Keeps.ite (((((((Keeps.refl s).sectorFresh _).setBit _ _ _).setBit _ _ _).forEach _ (fun _ _ h0 =>
      h0.settleHold _)).linesRise _).pdSettle _) (Keeps.refl s))

theorem ends_execTempSensorUpdate (temp : BitVec 16) : Ends s (execTempSensorUpdate temp s) :=
  .next ((((Keeps.refl s).setFld _ _ _).when _ (fun _ h0 => h0.setFld _ _ _)).when _ (fun _ h0 => h0.setFlag _ _ _))

/-! ### Register accesses -/

theorem Keeps.failed (h : Keeps s t) (ep status : Nat) : Keeps s (t.failed ep status) := h.complete _

theorem Keeps.csrRefused (h : Keeps s t) (ep off : Nat) : Keeps s (t.csrRefused ep off) := by
  unfold State.csrRefused
  split
  · exact h.nocRecord _ _ _ _ _ _ _
  · exact Keeps.ite (h.mbFlag _ _) h
  · exact h

theorem Keeps.refuse (h : Keeps s t) (ep off : Nat) : Keeps s (t.refuse ep off) := (h.csrRefused _ _).failed _ _

theorem Keeps.turned (h : Keeps s t) (ep : Nat) (write : Bool) (off : Nat) : Keeps s (t.turned ep write off) := by
  unfold State.turned
  split
  · exact h
  · split
    · exact h.failed _ _
    · split
      · exact (h.decErr _).failed _ _
      · exact Keeps.ite ((h.decErr _).failed _ _) (Keeps.ite ((h.count _ _ _).failed _ _) (h.failed _ _))
      · exact Keeps.ite (h.failed _ _) (h.refuse _ _)

theorem Keeps.store {f : State → State} (h : Keeps s t) (open_ : Bool) (off : Nat) (v : Word)
    (hf : ∀ u, Keeps s u → Keeps s (f u)) : Keeps s (t.store open_ off v f) := (h.rawWrite _ _ _).when _ hf

theorem Keeps.applyBits (h : Keeps s t) (b : Bound) (v : Word) : Keeps s (t.applyBits b v).1 := by
  grind [State.applyBits, Keeps.parts, Keeps.refl, Keeps.ctrlRefuse]

theorem Keeps.cfgWrite (h : Keeps s t) (off : Nat) (v : Word) : Keeps s (t.cfgWrite off v) :=
  Keeps.ite (h.when _ (fun _ h1 => h1.restart)) (Keeps.ite ((h.rawWrite _ _ _).fireAct _) (Keeps.ite ((Keeps.ite h
      (h.rawWrite _ _ _)).armAct _) (Keeps.ite ((Keeps.ite h (h.rawWrite _ _ _)).holdAct _) (Keeps.ite ((h.rawWrite
      _ _ _).when _ (fun _ h1 => h1.stgStart)) (Keeps.ite ((h.rawWrite _ _ _).when _ (fun _ h1 => h1.holdStart))
      (Keeps.ite (Keeps.ite h (Keeps.ite (h.bindWrite _ _) (Keeps.ite (h.genWrite _ _) (Keeps.ite ((h.rawWrite _ _
      _).skmAuto) (h.rawWrite _ _ _))))) (h.rawWrite _ _ _)))))))

theorem Keeps.dbgWrite (h : Keeps s t) (loc off : Nat) (v : Word) : Keeps s (t.dbgWrite loc off v) :=
  Keeps.ite (h.rcAct _) (Keeps.ite ((h.rawWrite _ _ _).settleOf _) (Keeps.ite (h.wdtKick _) (Keeps.ite (h.setFlag _
      _ _) ((h.when _ (fun _ h1 => (h1.setReg _ _).parts)).store _ _ _ (fun _ h1 => h1.wdtLocked _)))))

theorem Keeps.mbxWrite (h : Keeps s t) (loc off : Nat) (v : Word) : Keeps s (t.mbxWrite loc off v) := by
  unfold State.mbxWrite
  dsimp only
  split
  · exact h
  · split
    · exact (Keeps.ite (h.mbCancel _) (h.when _ (fun _ h1 => h1.mbSend _ _))).when _ (fun _ h1 => h1.mbDropHead _)
    · exact h.mbAppend _ _
    · exact h
    · exact h.when _ (fun _ h1 => h1.rawWrite _ _ _)
    · exact (h.rawWrite _ _ _).mbSource _

theorem Keeps.niRtHi (h : Keeps s t) (e d : Nat) (v : Word) : Keeps s (t.niRtHi e d v) :=
  Keeps.ite (h.rawWrite _ _ _) ((h.setFlag _ _ _).nocRecord _ _ _ _ _ _ _)

theorem Keeps.niWrite (h : Keeps s t) (e loc off : Nat) (v : Word) : Keeps s (t.niWrite e loc off v) :=
  Keeps.ite (((h.applyBits _ _).store _ _ _ (fun _ h1 => (h1.setFlag _ _ _).lockedRecord _ _ _ _)).when _ (fun _ h1
      => h1.niTables _ (fun _ _ h2 => h2.applyReg _))) (Keeps.ite (h.niRtHi _ _ _) (Keeps.ite (h.rawWrite _ _ _)
      (h.rawWrite _ _ _)))

theorem Keeps.nocWrite (h : Keeps s t) (n loc off : Nat) (v : Word) : Keeps s (t.nocWrite n loc off v) :=
  Keeps.ite (h.when _ (fun _ h1 => (h1.setNoc _).setFlag _ _ _)) (Keeps.ite (h.rawWrite _ _ _) (h.rawWrite _ _ _))

theorem Keeps.sectorWrite (h : Keeps s t) (k loc off : Nat) (v : Word) : Keeps s (t.sectorWrite k loc off v) :=
  Keeps.ite (((h.applyBits _ _).rawWrite _ _ _).prbCtrl _ _) (h.rawWrite _ _ _)

theorem Keeps.lqWrite (h : Keeps s t) (q loc off : Nat) (v : Word) : Keeps s (t.lqWrite q loc off v) := by
  grind [State.lqWrite, Keeps.parts, Keeps.refl, Keeps.applyBits, Keeps.lqAct, Keeps.store, Keeps.lqLocked]

theorem Keeps.mcWrite (h : Keeps s t) (c loc off : Nat) (v : Word) : Keeps s (t.mcWrite c loc off v) :=
  Keeps.ite (((h.store _ _ _ (fun _ h1 => h1.mcLocked _ _)).mcAct _ _ _ _).when _ (fun _ h1 => h1.prRetire _))
      ((h.store _ _ _ (fun _ h1 => h1.mtLocked _ _)).mtAct _ _ _ _)

theorem Keeps.timWrite (h : Keeps s t) (loc off : Nat) (v : Word) : Keeps s (t.timWrite loc off v) := by
  unfold State.timWrite
  dsimp only
  split
  · exact Keeps.ite (h.timOffs _ _ _) (Keeps.ite (h.timOffs _ _ _) (((h.when _ (fun _ h1 => h1.setFreq _ _)).store _
      _ _ (fun _ h1 => h1.timLocked _)).timAct _ _ _))
  · exact (h.store _ _ _ (fun _ h1 => h1.timLocked _)).timAct _ _ _

theorem Keeps.csrWrite (h : Keeps s t) (ep off : Nat) (v : Word) : Keeps s (t.csrWrite ep off v) := by
  unfold State.csrWrite
  dsimp only
  split
  · exact h
  · split
    · exact Keeps.ite (h.pdWrite _) (h.rawWrite _ _ _)
    · exact (h.store _ _ _ (fun _ h1 => h1.clkLocked _)).clkAct _ _ _
    · exact h.cfgWrite _ _
    · exact Keeps.ite ((h.store _ _ _ (fun _ h1 => h1.scrLocked _)).injectAct _) (h.store _ _ _ (fun _ h1 =>
        h1.scrLocked _))
    · exact Keeps.ite (h.icHold _) ((h.icWake).icErrWrite _ _)
    · exact Keeps.ite (h.icHold _) ((h.icWake).icErrWrite _ _)
    · exact Keeps.ite ((h.store _ _ _ (fun _ h1 => h1.istLocked _)).runAct _) (h.store _ _ _ (fun _ h1 =>
        h1.istLocked _))
    · exact h.dbgWrite _ _ _
    · exact h.mbxWrite _ _ _
    · exact (h.rawWrite _ _ _).secAct _ _
    · exact h.timWrite _ _ _
    · exact (h.store _ _ _ (fun _ h1 => h1.skmLocked _)).skmAct _ _ _
    · exact h.nocWrite _ _ _ _
    · exact h.niWrite _ _ _ _
    · exact h.lqWrite _ _ _ _
    · exact h.mcWrite _ _ _ _
    · exact h.sectorWrite _ _ _ _

theorem Keeps.busWrite (h : Keeps s t) (ep off : Nat) (v : Word) : Keeps s (t.busWrite ep off v) :=
  Keeps.ite (h.turned _ _ _) (Keeps.ite (h.refuse _ _) (h.csrWrite _ _ _))

theorem Keeps.readPre (h : Keeps s t) (off : Nat) : Keeps s (t.readPre off) := by
  unfold State.readPre
  dsimp only
  split
  · exact h.when _ (fun _ h1 => h1.keepLines _)
  · exact Keeps.ite ((h.setReg _ _).parts) h

theorem Keeps.readAct (h : Keeps s t) (off : Nat) : Keeps s (t.readAct off) := by
  unfold State.readAct
  dsimp only
  split
  · exact h
  · split
    · exact h.icErrReadAct _
    · exact h.icErrReadAct _
    · exact Keeps.ite (h.prbRead _) (h.setReg _ _)
    · split
      · exact Keeps.ite (h.capPop _) (h.setReg _ _)
      · exact Keeps.ite (h.tsPop _) (h.setReg _ _)
      · exact h.setReg _ _
    · split
      · exact Keeps.ite (h.mbPop _) (h.setReg _ _)
      · exact h.setReg _ _
    · exact h.setReg _ _

theorem Keeps.readDebug (h : Keeps s t) (off : Nat) : Keeps s (t.readDebug off) := by
  unfold State.readDebug
  split
  · exact Keeps.ite (h.prbRead _) h
  · exact h

theorem Keeps.csrRead (h : Keeps s t) (ep off : Nat) : Keeps s (t.csrRead ep off) :=
  Keeps.ite (h.icHold _) (Keeps.ite ((((h.readPre _).when _ (fun _ h1 => h1.icWake)).readDebug _).parts)
      ((((h.readPre _).when _ (fun _ h1 => h1.icWake)).readAct _).parts))

theorem Keeps.busRead (h : Keeps s t) (ep off : Nat) : Keeps s (t.busRead ep off) :=
  Keeps.ite (h.turned _ _ _) (Keeps.ite (h.refuse _ _) (h.csrRead _ _))

/-! ### Requests and answers -/

theorem ends_execNocRequestIssue (ni : Fin 256) (cmd vn : Nat) (addr : BitVec 48) (len : Fin 512) (data : List
    (BitVec 8)) (ltag : Fin 256) : Ends s (execNocRequestIssue ni cmd vn addr len data ltag s) :=
  .next (Keeps.ite ((Keeps.refl s).issue _ _ _ _ _ _ _ _) (Keeps.refl s))

theorem Keeps.csrRequest (h : Keeps s t) (e off : Nat) (p : Packet) : Keeps s (t.csrRequest e off p) :=
  Keeps.ite (h.niDrop _) (Keeps.ite ((h.csrRefused _ _).respond _ _ _ _) (Keeps.ite (h.respond _ _ _ _) (Keeps.ite
      ((h.csrWrite _ _ _).respond _ _ _ _) ((h.csrRead _ _).respond _ _ _ _))))

theorem Keeps.padRequest (h : Keeps s t) (p : Packet) : Keeps s (t.padRequest p) :=
  Keeps.ite ((h.turnAway _ _ _).nocRecord _ _ _ _ _ _ _) (Keeps.ite (h.turnAway _ _ _) (Keeps.ite ((h.padReadBytes _
      _ _).respond _ _ _ _) (Keeps.ite (h.padWriteBytes _ _ _) ((h.padWriteBytes _ _ _).respond _ _ _ _))))

theorem Keeps.rldRequest (h : Keeps s t) (e : Nat) (p : Packet) : Keeps s (t.rldRequest e p) :=
  Keeps.ite (h.mcArrive _ _ _) (h.turnAway _ _ _)

theorem Keeps.fabricRequest (h : Keeps s t) (e : Nat) (p : Packet) : Keeps s (t.fabricRequest e p) :=
  Keeps.ite (h.turnAway _ _ _) (Keeps.ite (Keeps.ite (h.niDrop _) ((h.respond _ _ _ _).nocRecord _ _ _ _ _ _ _))
      (h.setNoc _))

theorem Keeps.perform (h : Keeps s t) (e : Nat) (p : Packet) : Keeps s (t.perform e p) := by
  unfold State.perform
  split
  · exact Keeps.ite (h.turnAway _ _ _) (h.csrRequest _ _ _)
  · exact Keeps.ite (h.turnAway _ _ _) (Keeps.ite (h.padRequest _) (Keeps.ite (h.turnAway _ _ _) (Keeps.ite
      (h.rldRequest _ _) (Keeps.ite (h.fabricRequest _ _) (h.turnAway _ _ _)))))

theorem Keeps.userAct (h : Keeps s t) (e : Nat) (x : UserAct) : Keeps s (t.userAct e x) := by
  unfold State.userAct
  dsimp only
  split
  · exact h
  · split
    · exact h
    · split
      · exact h
      · exact h.setNoc _
  · split
    · exact h
    · split
      · exact h
      · exact (h.setNoc _).respond _ _ _ _

theorem ends_execNocRequestArrival (e : Fin 256) (act : UserAct) : Ends s (execNocRequestArrival e act s) := by
  unfold execNocRequestArrival
  dsimp only
  split
  · split
    · exact .next ((Keeps.refl s).userAct _ _)
    · exact .next ((((Keeps.refl s).setNoc _).perform _ _).userAct _ _)
  · split
    · exact .next (Keeps.refl s)
    · exact .next (((Keeps.refl s).setNoc _).perform _ _)

/-! ### Container packets -/

theorem Keeps.bytesMissing (h : Keeps s t) (l : Load) : Keeps s (t.bytesMissing l) := Keeps.ite h (h.loadFail _ _ _)

theorem Keeps.headerPassed (h : Keeps s t) (l : Load) (h0 : Header) : Keeps s (t.headerPassed l h0) := by
  unfold State.headerPassed
  dsimp only
  split
  · split
    · exact h.loadFail _ _ _
    · split
      · exact (((((h.putLoad _).parts).setShadow _ _).setFld _ _ _).setRg _ _).scrubStage _
      · exact ((((h.putLoad _).setShadow _ _).setFld _ _ _).setRg _ _).scrubStage _
  · split
    · exact (h.putLoad _).parts
    · exact h.putLoad _

theorem Keeps.tablesChecked (h : Keeps s t) (l : Load) (hdr tables sig : List Byte) : Keeps s (t.tablesChecked l hdr
    tables sig) := by
  unfold State.tablesChecked
  dsimp only
  split
  · exact h.loadFail _ _ _
  · exact h.headerPassed _ _

theorem Keeps.tablesFetch (h : Keeps s t) (l : Load) (h0 : Header) : Keeps s (t.tablesFetch l h0) :=
  ((h.loadNotice _ _ _).when _ (fun _ h1 => h1.loadNotice _ _ _)).loadNotice _ _ _

theorem Keeps.headerStep (h : Keeps s t) (l : Load) : Keeps s (t.headerStep l) := by
  unfold State.headerStep
  dsimp only
  split
  · exact h.bytesMissing _
  · split
    · exact (h.loadNotice _ _ _).loadFail _ _ _
    · split
      · exact (h.loadNotice _ _ _).loadFail _ _ _
      · split
        · exact ((h.loadNotice _ _ _).tablesFetch _ _).tablesChecked _ _ _ _
        · exact (h.loadNotice _ _ _).bytesMissing _

theorem ends_execContainerHeaderCheck (p : LoadPath) : Ends s (execContainerHeaderCheck p s) := by
  unfold execContainerHeaderCheck
  split
  · exact .next (Keeps.refl s)
  · split
    · exact .next (Keeps.refl s)
    · exact .next (Keeps.ite (Keeps.refl s) ((Keeps.refl s).headerStep _))

theorem Keeps.packetFail (h : Keeps s t) (l : Load) (code : Nat) : Keeps s (t.packetFail l code) := by
  unfold State.packetFail
  split
  · split
    · exact h.holdEnd _ _ _
    · exact h
  · exact h.loadFail _ _ _

theorem Keeps.consume (h : Keeps s t) (l : Load) (n : Nat) : Keeps s (t.consume l n) := by
  unfold State.consume
  dsimp only
  split
  · split
    · exact (h.putLoad _).setBoot _
    · exact h.putLoad _
  · exact h.putLoad _

theorem Keeps.finish (h : Keeps s t) (l : Load) (h0 : Header) : Keeps s (t.finish l h0) :=
  Keeps.ite (h.loadFail _ _ _) (Keeps.ite (h.putLoad _) (Keeps.ite ((h.parts).loadFail _ _ _) (Keeps.ite (h.fullDone
      _ _) (Keeps.ite (h.putLoad _) (h.loadFail _ _ _)))))

theorem Keeps.settleLoad (h : Keeps s t) (l : Load) : Keeps s (t.settleLoad l) := by
  unfold State.settleLoad
  split
  · exact h.putLoad _
  · split
    · exact h.putLoad _
    · split
      · exact h.finish _ _
      · split
        · exact h.loadFail _ _ _
        · exact Keeps.ite (h.putLoad _) (h.loadFail _ _ _)
        · exact h.putLoad _

theorem Keeps.blockStep (h : Keeps s t) (l : Load) (h0 : Header) : Keeps s (t.blockStep l h0) := by
  unfold State.blockStep
  dsimp only
  split
  · split
    · exact ((h.loadNotice _ _ _).loadNotice _ _ _).loadFail _ _ _
    · exact Keeps.ite (((h.loadNotice _ _ _).loadNotice _ _ _).loadFail _ _ _) (((h.loadNotice _ _ _).loadNotice _ _
        _).settleLoad _)
  · exact Keeps.ite h (h.loadFail _ _ _)

theorem ends_execContainerBlockCheck (p : LoadPath) : Ends s (execContainerBlockCheck p s) := by
  unfold execContainerBlockCheck
  split
  · exact .next (Keeps.refl s)
  · split
    · exact .next (Keeps.refl s)
    · split
      · exact .next (Keeps.refl s)
      · exact .next (Keeps.ite ((Keeps.refl s).blockStep _ _) (Keeps.refl s))

theorem Keeps.packet {f : State → Load → State × Load × Option Nat} (h : Keeps s t) (p : LoadPath) (op count : Nat)
    (data : List Word) (hf : ∀ u l, Keeps s u → Keeps s (f u l).1) : Keeps s (t.packet p op count data f) := by
  unfold State.packet
  dsimp only
  split
  · exact h
  split
  · exact h
  split
  · exact h
  split
  · exact h.packetFail _ _
  · exact .ite (h.packetFail _ _) h
  split
  · exact h
  have hn := fun (l : Load) (b : Bool) (g : Nat) => hf _ l (h.when b fun _ h1 => h1.loadNotice l 0 g)
  split
  · exact (hn _ _ _).packetFail _ _
  split
  · exact .ite ((hn _ _ _).consume _ _) (((hn _ _ _).consume _ _).settleLoad _)
  · exact (hn _ _ _).consume _ _

theorem ends_execNop (p : LoadPath) (count : Nat) (data : List (BitVec 32)) : Ends s (execNop p count data s) := by
  grind [execNop, Keeps.parts, Keeps.refl, Ends, Keeps.packet]

theorem ends_execSetFar (p : LoadPath) (count : Nat) (data : List (BitVec 32)) : Ends s (execSetFar p count data s)
    := by
  grind [execSetFar, Keeps.parts, Keeps.refl, Ends, Keeps.packet]

theorem Keeps.frameWrite (h : Keeps s t) (l : Load) (ws : List Word) (crc : Word) (up : List Nat) : Keeps s
    (t.frameWrite l ws crc up).1 := by
  grind [State.frameWrite, Keeps.parts, Keeps.refl, Keeps.when, Keeps.setReg, Keeps.storeFrame]

theorem Keeps.frameWrites (h : Keeps s t) (l : Load) (fs : List ((List Word × Word) × List Nat)) :
    Keeps s (t.frameWrites l fs).1 := by
  induction fs generalizing t l with
  | nil => exact h
  | cons f r ih =>
    unfold State.frameWrites
    dsimp only
    split
    · exact h.frameWrite _ _ _ _
    · exact ih (h.frameWrite _ _ _ _) _

theorem ends_execWriteFrames (p : LoadPath) (count : Nat) (data : List (BitVec 32)) (up : Option (Nat × List (Fin
    2336))) : Ends s (execWriteFrames p count data up s) :=
  .next ((Keeps.refl s).packet _ _ _ _ (fun _ _ h0 => h0.frameWrites _ _))

theorem ends_execRepeatFrame (p : LoadPath) (count : Nat) (data : List (BitVec 32)) (up : Option (Nat × List (Fin
    2336))) : Ends s (execRepeatFrame p count data up s) :=
  .next ((Keeps.refl s).packet _ _ _ _ (fun _ _ h0 => h0.frameWrites _ _))

theorem ends_execZeroFrames (p : LoadPath) (count : Nat) (data : List (BitVec 32)) (up : Option (Nat × List (Fin
    2336))) : Ends s (execZeroFrames p count data up s) :=
  .next ((Keeps.refl s).packet _ _ _ _ (fun _ _ h0 => h0.frameWrites _ _))

theorem Keeps.bmContents (h : Keeps s t) (l : Load) (count : Nat) (data : List Word) : Keeps s (t.bmContents l count
    data).1 := by
  grind [State.bmContents, Keeps.parts, Keeps.refl, Keeps.forEach, Keeps.loadPort]

theorem ends_execBmContents (p : LoadPath) (count : Nat) (data : List (BitVec 32)) : Ends s (execBmContents p count
    data s) :=
  .next ((Keeps.refl s).packet _ _ _ _ (fun _ _ h0 => h0.bmContents _ _ _))

theorem Keeps.tripleFull (h : Keeps s t) (off : Nat) (v : Word) : ∀ u, t.tripleFull off v = some u → Keeps s u := by
  grind [State.tripleFull, Keeps.parts, Keeps.refl, Keeps.csrWrite]

theorem Keeps.triplePart (h : Keeps s t) (r off : Nat) (v : Word) : Keeps s (t.triplePart r off v).1 := by
  grind [State.triplePart, Keeps.parts, Keeps.refl, Keeps.niRtHi, Keeps.setStaged]

theorem Keeps.triples (h : Keeps s t) (l : Load) (ws : List Word) : Keeps s (t.triples l ws).1 := by
  fun_induction State.triples t l ws with
  | case1 | case3 | case6 => exact h
  | case2 _ _ _ _ _ _ _ _ _ hu ih => exact ih (h.tripleFull _ _ _ hu)
  | case4 _ _ _ _ _ _ _ _ _ _ ih => exact ih (h.triplePart _ _ _)
  | case5 => exact h.triplePart _ _ _

theorem ends_execCsrWrite (p : LoadPath) (count : Nat) (data : List (BitVec 32)) : Ends s (execCsrWrite p count data
    s) :=
  .next ((Keeps.refl s).packet _ _ _ _ (fun _ _ h0 => h0.triples _ _))

theorem ends_execEndPacket (p : LoadPath) (count : Nat) (data : List (BitVec 32)) : Ends s (execEndPacket p count
    data s) := by
  grind [execEndPacket, Keeps.parts, Keeps.refl, Ends, Keeps.packet, Keeps.holdEnd]

theorem ends_execShadowVerified (r : Fin 32) : Ends s (execShadowVerified r s) := by
  unfold execShadowVerified
  dsimp only
  split
  · exact .next (Keeps.refl s)
  · split
    · exact .next (Keeps.refl s)
    · split
      · exact .next (Keeps.refl s)
      · exact .next (((((((((Keeps.refl s).dropLoad _).setShadow _ _).setFlag _ _ _).when _ (fun _ h0 => h0.setFld _
          _ _)).setRg _ _).setFld _ _ _).stageEnd _ _ _ _).pulse _)

theorem Keeps.firmwareStart (h : Keeps s t) (l : Load) (h0 : Header) : Keeps s (t.firmwareStart l h0) :=
  (((((((h.dropLoad _).fallbackNotice _).padWriteBytes _ _ _).setBoot _).parts).setReg _ _).busWrite _ _ _).tryLoad

theorem ends_execFirmwareVerified (p : LoadPath) : Ends s (execFirmwareVerified p s) := by
  unfold execFirmwareVerified
  split
  · exact .next (Keeps.refl s)
  · split
    · exact .next (Keeps.refl s)
    · split
      · exact .next (Keeps.refl s)
      · exact .next (Keeps.ite ((Keeps.refl s).firmwareStart _ _) (Keeps.refl s))

/-! ### The test access port -/

theorem Keeps.setTap (h : Keeps s t) (x : Tap) : Keeps s (t.setTap x) := h.parts

theorem Keeps.laneResume (h : Keeps s t) (n : Nat) : Keeps s (t.laneResume n) :=
  Keeps.ite h (((((h.setFlag _ _ _).setLane _ _).lolRise _ _).setFlag _ _ _).lnEvent _ _ _ _)

theorem Keeps.loadIr (h : Keeps s t) (ir : Nat) : Keeps s (t.loadIr ir) :=
  Keeps.ite (((h.parts).forEach _ (fun _ _ h1 => h1.laneResume _)).skmThaw) (h.parts)

theorem Keeps.tapLoad (h : Keeps s t) (ir : Nat) : Keeps s (t.tapLoad ir) := Keeps.ite (h.loadIr _) h

theorem Keeps.tapLocked {f : State → State} (h : Keeps s t) (ir : Nat) (hf : ∀ u, Keeps s u → Keeps s (f u)) :
    Keeps s (t.tapLocked ir f) := .ite h (.ite (hf _ (h.loadIr _)) (((h.loadIr _).dbgEvent _).dbgRecord _ _))

theorem Keeps.tapBoundary (h : Keeps s t) (ir : Nat) (cells : Option (BitVec 3508)) : Keeps s (t.tapBoundary ir
    cells) := by
  unfold State.tapBoundary
  dsimp only
  split
  · exact (h.tapLoad _).when _ (fun _ h1 => h1.parts)
  · exact h.tapLoad _

theorem ends_execTapReset : Ends s (execTapReset s) :=
  .next (((Keeps.refl s).tapLoad _).when _ (fun _ h0 => h0.parts))

theorem ends_execExtest (cells : Option (BitVec 3508)) : Ends s (execExtest cells s) :=
  .next ((Keeps.refl s).tapBoundary _ _)

theorem ends_execSamplePreload (cells : Option (BitVec 3508)) : Ends s (execSamplePreload cells s) :=
  .next ((Keeps.refl s).tapBoundary _ _)

theorem ends_execIdcode : Ends s (execIdcode s) := .next (((Keeps.refl s).tapLoad _).when _ (fun _ h0 => h0.parts))

theorem ends_execHighz : Ends s (execHighz s) := .next ((Keeps.refl s).tapLoad _)

theorem ends_execClamp : Ends s (execClamp s) := .next ((Keeps.refl s).tapLoad _)

theorem ends_execExtestPulse (cells : Option (BitVec 3508)) : Ends s (execExtestPulse cells s) :=
  .next ((Keeps.refl s).tapBoundary _ _)

theorem ends_execExtestTrain (cells : Option (BitVec 3508)) : Ends s (execExtestTrain cells s) :=
  .next ((Keeps.refl s).tapBoundary _ _)

theorem ends_execBypass : Ends s (execBypass s) := .next ((Keeps.refl s).tapLoad _)

theorem ends_execMbxAccess : Ends s (execMbxAccess s) := .next ((Keeps.refl s).tapLoad _)

theorem ends_execCfgLoad : Ends s (execCfgLoad s) := .next ((Keeps.refl s).tapLoad _)

theorem ends_execCfgLoadAppend (v : BitVec 32) : Ends s (execCfgLoadAppend v s) := by
  unfold execCfgLoadAppend
  dsimp only
  split
  · exact .next (Keeps.refl s)
  · split
    · exact .next (Keeps.refl s)
    · exact .next (((Keeps.refl s).parts).putLoad _)

theorem ends_execDbgAccess : Ends s (execDbgAccess s) := .next ((Keeps.refl s).tapLocked _ (fun _ h0 => h0))

theorem Keeps.dbgIssue (h : Keeps s t) (write : Bool) (addr : Nat) (v : Word) : Keeps s (t.dbgIssue write addr v) :=
  Keeps.ite h (Keeps.ite ((h.parts).dbgEvent _) (((h.parts).setTap _).issue _ _ _ _ _ _ _ _))

theorem ends_execDbgAccessRead (addr : BitVec 48) : Ends s (execDbgAccessRead addr s) :=
  .next ((Keeps.refl s).dbgIssue _ _ _)

theorem ends_execDbgAccessWrite (addr : BitVec 48) (v : BitVec 32) : Ends s (execDbgAccessWrite addr v s) :=
  .next ((Keeps.refl s).dbgIssue _ _ _)

theorem ends_execDebugAccessComplete : Ends s (execDebugAccessComplete s) := by
  unfold execDebugAccessComplete
  dsimp only
  split
  · exact .next (Keeps.refl s)
  · split
    · exact .next (Keeps.refl s)
    · exact .next (Keeps.ite ((((Keeps.refl s).setNoc _).setTap _).setTap _) (((Keeps.refl s).setNoc _).setTap _))

theorem ends_execRunCtrl (v : Option (BitVec 8)) : Ends s (execRunCtrl v s) := by
  unfold execRunCtrl
  dsimp only
  split
  · exact .next ((Keeps.refl s).tapLocked _ (fun _ h0 => (h0.parts).when _ (fun _ h1 => h1.rcAct _)))
  · exact .next ((Keeps.refl s).tapLocked _ (fun _ h0 => h0.parts))

theorem Keeps.fabNoWords (h : Keeps s t) {fab : Fabric} (hw : fab.words = []) : Keeps s { t with fab := fab } :=
  ⟨h.queue, h.fuses, h.regs, fun m => ⟨(h.mems m).1, hw ▸ wf_nil _, (h.mems m).2.2⟩⟩

theorem Keeps.scanClear (h : Keeps s t) : Keeps s t.scanClear :=
  ((((((h.setFlag _ _ _).closeSessions.resetColumn.skmStopAll).parts).startWipe.padClear).clearPlanes).scrubStop).fabNoWords
    rfl

theorem ends_execScanEntry : Ends s (execScanEntry s) :=
  .next ((Keeps.refl s).tapLocked _ (fun _ h0 => Keeps.ite h0 (h0.scanClear)))

theorem ends_execScanStateReached : Ends s (execScanStateReached s) :=
  .next (Keeps.ite ((Keeps.refl s).setFlag _ _ _) (Keeps.refl s))

theorem ends_execScanData : Ends s (execScanData s) := .next ((Keeps.refl s).tapLocked _ (fun _ h0 => h0))

/-! ### Firmware -/

theorem Keeps.dropSession (h : Keeps s t) (h0 : Nat) : Keeps s (t.dropSession h0) := h.setFw _

theorem Keeps.romTake (h : Keeps s t) (m : Nat) (q : List Byte) : Keeps s (t.romTake m q) :=
  Keeps.ite h (h.mbAnswer _ _ _ _)

theorem ends_execMbxRequestTake (m : Fin 7) : Ends s (execMbxRequestTake m s) := by
  unfold execMbxRequestTake
  dsimp only
  split
  · exact .next (Keeps.refl s)
  · split
    · exact .next (Keeps.refl s)
    · split
      · exact .next (((Keeps.refl s).setMb _ _).romTake _ _)
      · split
        · exact .next ((Keeps.refl s).setMb _ _)
        · exact .next (((Keeps.refl s).setMb _ _).mbAnswer _ _ _ _)

theorem Keeps.fwCmd {f : State → List Byte → State} (h : Keeps s t) (m code : Nat)
    (hf : ∀ u q, Keeps s u → Keeps s (f u q)) : Keeps s (t.fwCmd m code f) := by
  unfold State.fwCmd
  split
  · exact h
  split
  · exact h
  · exact .ite h (.ite (h.mbAnswer _ _ _ _) (hf _ _ h))

theorem Keeps.fwOk (h : Keeps s t) (m : Nat) (payload : List Byte) : Keeps s (t.fwOk m payload) := h.mbAnswer _ _ _ _

theorem Keeps.fwStep (h : Keeps s t) (m : Nat) (bytes : List Byte) : Keeps s (t.fwStep m bytes) := h.setMb _ _

theorem Keeps.fwGoto (h : Keeps s t) (m step : Nat) : Keeps s (t.fwGoto m step) := h.setMb _ _

/-- The access of firmware that goes over the network: a completion that waits is taken, else the request issued. -/
def State.fwFar (s : State) (m : Nat) (write : Bool) (addr : Nat) (v : Word) : State × Option (Except Nat Word) :=
  match s.noc.done.find? (fun c => c.ni == 0x68 && c.ltag == 0xF0 + m) with
  | some c => (s.setNoc { s.noc with done := s.noc.done.erase c },
      some (if c.status = 0 then .ok (BitVec.ofNat 32 (leNat (c.data.take 4))) else .error c.status))
  | none => (s.issue 0x68 (if write then cmdWr else cmdRd) 3 addr 3 (leBytes 4 v.toNat) (0xF0 + m) (s.nocDest 0x68 addr 3), none)

theorem Keeps.fwFar (h : Keeps s t) (m : Nat) (write : Bool) (addr : Nat) (v : Word) :
    Keeps s (t.fwFar m write addr v).1 := by
  unfold State.fwFar
  split
  · exact h.setNoc _
  · exact h.issue _ _ _ _ _ _ _ _

/-- The state of a pair, stated apart: compared by computation, a read of the scratchpad would be carried out. -/
theorem Keeps.fst_mk {α : Type} (h : Keeps s t) (x : α) : Keeps s (t, x).1 := h

theorem Keeps.fwAccess (h : Keeps s t) (m : Nat) (write : Bool) (addr : Nat) (v : Word) :
    Keeps s (t.fwAccess m write addr v).1 := by
  unfold State.fwAccess
  dsimp only
  split
  · split
    · exact h.fwFar m write addr v
    split
    · exact h.csrRefused _ _
    split
    · exact h.csrWrite _ _ _
    · exact h.csrRead _ _
  · split
    · split
      · exact h
      split
      · exact h.padWriteBytes _ _ _
      · exact (h.padReadBytes _ _ _).fst_mk _
    · exact h.fwFar m write addr v

theorem Keeps.fwOp (h : Keeps s t) (m i : Nat) (op : FwOp) : Keeps s (t.fwOp m i op).1 := by
  have wr : ∀ (u : State) (off : Nat) (v : Word), Keeps s u → Keeps s (match u.fwAccess m true (csrBase + off) v with
      | (u, none) => (u, FwRes.wait)
      | (u, some (.error c)) => (u, hwError c i)
      | (u, some (.ok _)) => (u, FwRes.done [])).1 := fun u off v hu => by
    have := hu.fwAccess m true (csrBase + off) v
    split <;> simp_all
  have rd : ∀ (off : Nat) (k : Word → State → State × FwRes), (∀ w u, Keeps s u → Keeps s (k w u).1) →
      Keeps s (match t.fwAccess m false (csrBase + off) 0 with
        | (t, none) => (t, FwRes.wait)
        | (t, some (.error c)) => (t, hwError c i)
        | (t, some (.ok w)) => k w t).1 := fun off k hk => by
    have := h.fwAccess m false (csrBase + off) 0
    split <;> simp_all
  cases op with
  | wr off v => exact wr t off v h
  | rmw off clear set_ => exact rd off _ fun w u hu => wr u _ _ hu
  | rd off | idle off mask | until_ off mask | unless_ off mask => exact rd off _ fun _ _ hu => hu

theorem Keeps.fwRun (h : Keeps s t) (m : Nat) (ops : List FwOp) : Keeps s (t.fwRun m ops) := by
  induction ops generalizing t with
  | nil => exact h.fwOk _ _
  | cons op rest ih =>
    have ho := h.fwOp m (t.mb m).step op
    unfold State.fwRun
    split <;> next heq => rw [heq] at ho; first | exact ih (ho.fwStep _ _) | exact ho | exact ho.mbAnswer _ _ _ _

theorem Keeps.fwScript (h : Keeps s t) (m : Nat) (ops : List FwOp) : Keeps s (t.fwScript m ops) := h.fwRun _ _

/-! ### Sessions and identity -/

theorem ends_execGetVersions (m : Fin 7) : Ends s (execGetVersions m s) :=
  .next ((Keeps.refl s).fwCmd _ _ (fun _ _ h0 => h0.fwOk _ _))

theorem Keeps.openSession (h : Keeps s t) (m : Nat) (q : List Byte) : Keeps s (t.openSession m q) :=
  Keeps.ite (h.mbAnswer _ _ _ _) (Keeps.ite (h.mbAnswer _ _ _ _) ((h.parts).fwOk _ _))

theorem ends_execOpenSession (m : Fin 7) : Ends s (execOpenSession m s) :=
  .next ((Keeps.refl s).fwCmd _ _ (fun _ _ h0 => h0.openSession _ _))

theorem Keeps.sessionRecord (h : Keeps s t) (m code slot : Nat) : Keeps s (t.sessionRecord m code slot) :=
  h.report _ _

theorem Keeps.authFail (h : Keeps s t) (x : Session) : Keeps s (t.authFail x) :=
  Keeps.ite (((h.dropSession _).sessionRecord _ _ _).setFw _) (((((h.dropSession _).sessionRecord _ _ _).setFw
      _).setFw _).sessionRecord _ _ _)

theorem Keeps.authPass (h : Keeps s t) (x : Session) : Keeps s (t.authPass x) := h.setFw _

theorem Keeps.authResponse (h : Keeps s t) (m : Nat) (q : List Byte) : Keeps s (t.authResponse m q) := by
  unfold State.authResponse
  dsimp only
  split
  · exact h.mbAnswer _ _ _ _
  · exact Keeps.ite (h.mbAnswer _ _ _ _) (Keeps.ite ((h.authPass _).fwOk _ _) ((h.authFail _).mbAnswer _ _ _ _))

theorem ends_execAuthResponse (m : Fin 7) : Ends s (execAuthResponse m s) :=
  .next ((Keeps.refl s).fwCmd _ _ (fun _ _ h0 => h0.authResponse _ _))

theorem ends_execCloseSession (m : Fin 7) : Ends s (execCloseSession m s) :=
  .next ((Keeps.refl s).fwCmd _ _ (fun _ _ h0 => (h0.fwOk _ _).dropSession _))

theorem ends_execKeepalive (m : Fin 7) : Ends s (execKeepalive m s) :=
  .next ((Keeps.refl s).fwCmd _ _ (fun _ _ h0 => h0.fwOk _ _))

theorem ends_execSessionAuthTimeout (handle : BitVec 32) : Ends s (execSessionAuthTimeout handle s) := by
  unfold execSessionAuthTimeout
  split
  · exact .next (Keeps.refl s)
  · split
    · exact .next (Keeps.refl s)
    · exact .next (Keeps.ite (Keeps.refl s) ((Keeps.refl s).authFail _))

theorem ends_execSessionLockoutEnd (m : Fin 7) : Ends s (execSessionLockoutEnd m s) :=
  .next (Keeps.ite ((Keeps.refl s).setFw _) (Keeps.refl s))

theorem ends_execSessionIdleTimeout (handle : BitVec 32) : Ends s (execSessionIdleTimeout handle s) := by
  unfold execSessionIdleTimeout
  split
  · exact .next (Keeps.refl s)
  · split
    · exact .next (Keeps.refl s)
    · exact .next (Keeps.ite ((Keeps.refl s).dropSession _) (Keeps.refl s))

theorem ends_execGetIdentity (m : Fin 7) : Ends s (execGetIdentity m s) :=
  .next ((Keeps.refl s).fwCmd _ _ (fun _ _ h0 => h0.fwOk _ _))

theorem ends_execGetBootStatus (m : Fin 7) : Ends s (execGetBootStatus m s) :=
  .next ((Keeps.refl s).fwCmd _ _ (fun _ _ h0 => h0.fwOk _ _))

theorem ends_execGetAttestation (m : Fin 7) : Ends s (execGetAttestation m s) := by
  grind [execGetAttestation, Keeps.parts, Keeps.refl, Ends, Keeps.fwCmd, Keeps.mbAnswer, Keeps.fwOk]

theorem ends_execLcGet (m : Fin 7) : Ends s (execLcGet m s) :=
  .next ((Keeps.refl s).fwCmd _ _ (fun _ _ h0 => h0.fwOk _ _))

theorem ends_execLcAdvance (m : Fin 7) : Ends s (execLcAdvance m s) :=
  .next ((Keeps.refl s).fwCmd _ _ (fun _ _ h0 => Keeps.ite (h0.mbAnswer _ _ _ _) (Keeps.ite (h0.mbAnswer _ _ _ _)
      ((h0.fwOk _ _).fuseStart _))))

theorem Keeps.fwFuse (h : Keeps s t) (m : Nat) (ok : Bool) (p : FuseProg) : Keeps s (t.fwFuse m ok p) :=
  Keeps.ite h (Keeps.ite (h.mbAnswer _ _ _ _) (Keeps.ite (h.mbAnswer _ _ _ _) ((h.fwStep _ _).fuseStart _)))

theorem ends_execKeyProgram (m : Fin 7) : Ends s (execKeyProgram m s) :=
  .next ((Keeps.refl s).fwCmd _ _ (fun _ _ h0 => h0.fwFuse _ _ _))

theorem ends_execKeyRevoke (m : Fin 7) : Ends s (execKeyRevoke m s) :=
  .next ((Keeps.refl s).fwCmd _ _ (fun _ _ h0 => h0.fwFuse _ _ _))

theorem ends_execDebugUnlock (m : Fin 7) : Ends s (execDebugUnlock m s) :=
  .next ((Keeps.refl s).fwCmd _ _ (fun _ _ h0 => Keeps.ite (h0.fwOk _ _) (((((h0.setFlag _ _ _).startWipe).setFw
      _).setFlag _ _ _).fwOk _ _)))

/-! ### Firmware commands -/

theorem Keeps.loadBegin (h : Keeps s t) (m : Nat) (q : List Byte) : Keeps s (t.loadBegin m q) :=
  Keeps.ite (Keeps.ite (h.mbAnswer _ _ _ _) (Keeps.ite (h.mbAnswer _ _ _ _) (((h.putLoad _).setFw _).fwOk _ _)))
      (Keeps.ite (h.mbAnswer _ _ _ _) (Keeps.ite (h.mbAnswer _ _ _ _) (Keeps.ite (((h.stageStart _ _).setFw _).fwOk
      _ _) (((h.stageStart _ _).setFw _).mbAnswer _ _ _ _))))

theorem ends_execLoadBegin (m : Fin 7) : Ends s (execLoadBegin m s) :=
  .next ((Keeps.refl s).fwCmd _ _ (fun _ _ h0 => h0.loadBegin _ _))

theorem Keeps.loadResult (h : Keeps s t) (m code block : Nat) : Keeps s (t.loadResult m code block) :=
  Keeps.ite (h.fwOk _ _) (h.mbAnswer _ _ _ _)

theorem Keeps.loadData (h : Keeps s t) (m : Nat) (q : List Byte) : Keeps s (t.loadData m q) := by
  unfold State.loadData
  dsimp only
  split
  · exact h.mbAnswer _ _ _ _
  · split
    · split
      · exact h.loadResult _ _ _
      · exact h.mbAnswer _ _ _ _
    · exact Keeps.ite (h.fwOk _ _) (Keeps.ite (h.mbAnswer _ _ _ _) (Keeps.ite (h.mbAnswer _ _ _ _) ((h.putLoad
        _).fwOk _ _)))

theorem ends_execLoadData (m : Fin 7) : Ends s (execLoadData m s) :=
  .next ((Keeps.refl s).fwCmd _ _ (fun _ _ h0 => h0.loadData _ _))

theorem ends_execLoadEnd (m : Fin 7) : Ends s (execLoadEnd m s) := by
  grind [execLoadEnd, Keeps.parts, Keeps.refl, Ends, Keeps.fwCmd, Keeps.mbAnswer, Keeps.loadResult, Keeps.setFw]

theorem ends_execLoadDataTimeout : Ends s (execLoadDataTimeout s) := by
  unfold execLoadDataTimeout
  split
  · exact .next (Keeps.refl s)
  · split
    · exact .next (Keeps.refl s)
    · exact .next (Keeps.ite ((Keeps.refl s).loadFail _ _ _) (Keeps.refl s))

theorem Keeps.stageNone (h : Keeps s t) (m region code : Nat) : Keeps s (t.stageNone m region code) :=
  ((h.when _ (fun _ h1 => h1.setFld _ _ _)).stageRecord _ _ _ _).mbAnswer _ _ _ _

theorem Keeps.stageFlash (h : Keeps s t) (m : Nat) (q : List Byte) : Keeps s (t.stageFlash m q) := by
  unfold State.stageFlash
  dsimp only
  split
  · exact h
  · split
    · exact h.mbAnswer _ _ _ _
    · split
      · exact h.stageNone _ _ _
      · split
        · exact (h.readDirectory).stageNone _ _ _
        · split
          · exact (h.readDirectory).stageNone _ _ _
          · split
            · exact (h.readDirectory).mbAnswer _ _ _ _
            · exact Keeps.ite ((h.readDirectory).mbAnswer _ _ _ _) ((((h.readDirectory).fwStep _ _).setFw
                _).stageStart _ _)

theorem ends_execStageFlash (m : Fin 7) : Ends s (execStageFlash m s) :=
  .next ((Keeps.refl s).fwCmd _ _ (fun _ _ h0 => h0.stageFlash _ _))

theorem ends_execArmCommand (m : Fin 7) : Ends s (execArmCommand m s) :=
  .next ((Keeps.refl s).fwCmd _ _ (fun _ _ h0 => h0.fwScript _ _))

theorem ends_execFireCommand (m : Fin 7) : Ends s (execFireCommand m s) :=
  .next ((Keeps.refl s).fwCmd _ _ (fun _ _ h0 => h0.fwScript _ _))

theorem ends_execHoldCommand (m : Fin 7) : Ends s (execHoldCommand m s) :=
  .next ((Keeps.refl s).fwCmd _ _ (fun _ _ h0 => Keeps.ite (h0.fwScript _ _) (Keeps.ite (h0.mbAnswer _ _ _ _)
      (Keeps.ite (h0.mbAnswer _ _ _ _) (h0.fwScript _ _)))))

theorem ends_execRegionStatus (m : Fin 7) : Ends s (execRegionStatus m s) :=
  .next ((Keeps.refl s).fwCmd _ _ (fun _ _ h0 => h0.fwScript _ _))

theorem ends_execFrameReadback (m : Fin 7) : Ends s (execFrameReadback m s) :=
  .next ((Keeps.refl s).fwCmd _ _ (fun _ _ h0 => Keeps.ite (h0.mbAnswer _ _ _ _) (Keeps.ite (h0.mbAnswer _ _ _ _)
      (h0.fwOk _ _))))

theorem ends_execRestartConfig (m : Fin 7) : Ends s (execRestartConfig m s) :=
  .next ((Keeps.refl s).fwCmd _ _ (fun _ _ h0 => h0.fwScript _ _))

theorem Keeps.setFlash (h : Keeps s t) (dev : Nat) (bytes : List Host.Cell) : Keeps s (t.setFlash dev bytes) :=
  Keeps.ite (h.setBoot _) (h.setBoot _)

theorem ends_execFlashRead (m : Fin 7) : Ends s (execFlashRead m s) := by
  grind [execFlashRead, Keeps.parts, Keeps.refl, Ends, Keeps.fwCmd, Keeps.mbAnswer, Keeps.fwOk]

theorem ends_execFlashWrite (m : Fin 7) : Ends s (execFlashWrite m s) :=
  .next ((Keeps.refl s).fwCmd _ _ (fun _ _ h0 => Keeps.ite (h0.mbAnswer _ _ _ _) (Keeps.ite (h0.mbAnswer _ _ _ _)
      ((h0.setFlash _ _).fwOk _ _))))

theorem ends_execDirUpdate (m : Fin 7) : Ends s (execDirUpdate m s) :=
  .next ((Keeps.refl s).fwCmd _ _ (fun _ _ h0 => Keeps.ite (h0.mbAnswer _ _ _ _) (Keeps.ite (h0.mbAnswer _ _ _ _)
      ((h0.setFlash _ _).fwOk _ _))))

theorem Keeps.regWords (h : Keeps s t) (m : Nat) (write : Bool) (a : Nat) (value : Nat → Word) (left : Nat) :
    Keeps s (t.regWords m write a value left) := by
  induction left generalizing t with
  | zero => exact h.fwOk _ _
  | succ left ih =>
    have ho := h.fwAccess m write (a + 4 * (t.mb m).step) (value (t.mb m).step)
    unfold State.regWords
    dsimp only
    split <;> next heq => rw [heq] at ho; first | exact ih (ho.fwStep _ _) | exact ho | exact ho.mbAnswer _ _ _ _

theorem Keeps.regAccess (h : Keeps s t) (m : Nat) (write : Bool) (q : List Byte) : Keeps s (t.regAccess m write q) :=
  Keeps.ite (h.mbAnswer _ _ _ _) (h.regWords _ _ _ _ _)

theorem ends_execRegRead (m : Fin 7) : Ends s (execRegRead m s) :=
  .next ((Keeps.refl s).fwCmd _ _ (fun _ _ h0 => h0.regAccess _ _ _))

theorem ends_execRegWrite (m : Fin 7) : Ends s (execRegWrite m s) :=
  .next ((Keeps.refl s).fwCmd _ _ (fun _ _ h0 => h0.regAccess _ _ _))

theorem Keeps.regModifyWrite (h : Keeps s t) (m a : Nat) (mask v : Word) : Keeps s (t.regModifyWrite m a mask v) := by
  grind [State.regModifyWrite, Keeps.parts, Keeps.refl, Keeps.fwAccess, Keeps.mbAnswer, Keeps.fwOk]

theorem ends_execRegModify (m : Fin 7) : Ends s (execRegModify m s) := by
  grind [execRegModify, Keeps.parts, Keeps.refl, Ends, Keeps.fwCmd, Keeps.mbAnswer, Keeps.regModifyWrite,
      Keeps.fwAccess, Keeps.fwStep]

theorem ends_execTimeGet (m : Fin 7) : Ends s (execTimeGet m s) :=
  .next ((Keeps.refl s).fwCmd _ _ (fun _ _ h0 => h0.fwScript _ _))

theorem ends_execTimeSet (m : Fin 7) : Ends s (execTimeSet m s) :=
  .next ((Keeps.refl s).fwCmd _ _ (fun _ _ h0 => h0.fwScript _ _))

theorem ends_execTimeOffset (m : Fin 7) : Ends s (execTimeOffset m s) :=
  .next ((Keeps.refl s).fwCmd _ _ (fun _ _ h0 => h0.fwScript _ _))

theorem ends_execConeSet (m : Fin 7) : Ends s (execConeSet m s) :=
  .next ((Keeps.refl s).fwCmd _ _ (fun _ _ h0 => h0.fwScript _ _))

theorem ends_execLaneStatus (m : Fin 7) : Ends s (execLaneStatus m s) :=
  .next ((Keeps.refl s).fwCmd _ _ (fun _ _ h0 => h0.fwScript _ _))

theorem ends_execLaneApply (m : Fin 7) : Ends s (execLaneApply m s) :=
  .next ((Keeps.refl s).fwCmd _ _ (fun _ _ h0 => h0.fwScript _ _))

theorem ends_execEyeScan (m : Fin 7) : Ends s (execEyeScan m s) :=
  .next ((Keeps.refl s).fwCmd _ _ (fun _ _ h0 => h0.fwScript _ _))

theorem ends_execSlotStatus (m : Fin 7) : Ends s (execSlotStatus m s) :=
  .next ((Keeps.refl s).fwCmd _ _ (fun _ _ h0 => h0.fwScript _ _))

theorem ends_execSlotRestart (m : Fin 7) : Ends s (execSlotRestart m s) :=
  .next ((Keeps.refl s).fwCmd _ _ (fun _ _ h0 => h0.fwScript _ _))

theorem ends_execSlotRelease (m : Fin 7) : Ends s (execSlotRelease m s) :=
  .next ((Keeps.refl s).fwCmd _ _ (fun _ _ h0 => h0.fwScript _ _))

theorem ends_execSlotConfig (m : Fin 7) : Ends s (execSlotConfig m s) :=
  .next ((Keeps.refl s).fwCmd _ _ (fun _ _ h0 => h0.fwScript _ _))

theorem ends_execMemStatus (m : Fin 7) : Ends s (execMemStatus m s) :=
  .next ((Keeps.refl s).fwCmd _ _ (fun _ _ h0 => h0.fwScript _ _))

theorem Keeps.fwReach {f : State → State} (h : Keeps s t) (m off : Nat) (hf : ∀ u, Keeps s u → Keeps s (f u)) :
    Keeps s (t.fwReach m off f) := .ite (hf _ h) (h.mbAnswer _ _ _ _)

theorem Keeps.fwWr (h : Keeps s t) (off : Nat) (v : Word) : Keeps s (t.fwWr off v) := h.busWrite _ _ _

theorem Keeps.fwPut (h : Keeps s t) (off : Nat) (f : Fld) (n : Nat) : Keeps s (t.fwPut off f n) := h.busWrite _ _ _

theorem Keeps.trainRcv (h : Keeps s t) (m c k r : Nat) : Keeps s (t.trainRcv m c k r) :=
  ((h.fwPut _ _ _).fwWr _ _).fwGoto _ _

theorem Keeps.trainSweep (h : Keeps s t) (m c i : Nat) : Keeps s (t.trainSweep m c i) :=
  ((h.fwWr _ _).fwWr _ _).fwGoto _ _

theorem Keeps.trainCentres (h : Keeps s t) (c i : Nat) (l : List Nat) : Keeps s (t.trainCentres c i l).1 := by
  induction l generalizing t with
  | nil => exact h
  | cons k r ih =>
    have hp : ∀ v, Keeps s (if i = 0 then t.fwPut (R.MT_SHD_CMP c k) F.MT_SHD_CMP_CA_DLY v
        else if i = 1 then t.fwPut (R.MT_SHD_DQ c k) F.MT_SHD_DQ_RDLY v
        else t.fwPut (R.MT_SHD_DQ c k) F.MT_SHD_DQ_WDLY v) := fun _ =>
      .ite (h.fwPut _ _ _) (.ite (h.fwPut _ _ _) (h.fwPut _ _ _))
    simp only [State.trainCentres]
    generalize (if i = 0 then 72 + k else k) = x
    split
    · exact h
    · exact ih (hp _)

theorem Keeps.trainEnd (h : Keeps s t) (m c : Nat) : Keeps s (t.trainEnd m c) := h.fwOk _ _

theorem Keeps.trainStep (h : Keeps s t) (m c : Nat) : Keeps s (t.trainStep m c) := by
  unfold State.trainStep
  dsimp only
  split
  · exact (h.fwWr _ _).fwGoto _ _
  · split
    · exact Keeps.ite (Keeps.ite ((h.fwWr _ _).mbAnswer _ _ _ _) ((h.fwWr _ _).trainRcv _ _ _ _)) h
    · split
      · exact Keeps.ite h (Keeps.ite (h.trainRcv _ _ _ _) (Keeps.ite (h.trainRcv _ _ _ _) (h.trainSweep _ _ _)))
      · split
        · exact h
        · split
          · exact ((h.trainCentres _ _ _).fwWr _ _).trainEnd _ _
          · exact Keeps.ite ((h.trainCentres _ _ _).trainSweep _ _ _) (((h.trainCentres _ _ _).fwWr _ _).trainEnd _ _)

theorem ends_execMemTrain (m : Fin 7) : Ends s (execMemTrain m s) :=
  .next ((Keeps.refl s).fwCmd _ _ (fun _ _ h0 => Keeps.ite (h0.fwReach _ _ (fun _ h1 => h1.trainStep _ _))
      (Keeps.ite (h0.fwReach _ _ (fun _ h1 => h1.fwReach _ _ (fun _ h2 => h2.trainStep _ _))) (h0.fwReach _ _ (fun _
      h1 => h1.trainStep _ _)))))

theorem ends_execMemMap (m : Fin 7) : Ends s (execMemMap m s) :=
  .next ((Keeps.refl s).fwCmd _ _ (fun _ _ h0 => h0.fwScript _ _))

theorem ends_execMemRetire (m : Fin 7) : Ends s (execMemRetire m s) :=
  .next ((Keeps.refl s).fwCmd _ _ (fun _ _ h0 => h0.fwScript _ _))

theorem Keeps.logPop (h : Keeps s t) (n : Nat) (b : List Byte) : Keeps s (t.logPop n b).1 := by
  induction n generalizing t b with
  | zero => exact h
  | succ n ih =>
    unfold State.logPop
    split
    · exact h
    · exact ih (h.busRead _ _) _

theorem ends_execLogPop (m : Fin 7) : Ends s (execLogPop m s) :=
  .next ((Keeps.refl s).fwCmd _ _ (fun _ _ h0 => h0.fwReach _ _ (fun _ h1 => (h1.logPop _ _).fwOk _ _)))

theorem Keeps.logTotals (h : Keeps s t) : Keeps s (t.logTotals) :=
  ((h.forEach _ (fun _ _ h1 => (h1.busRead _ _).setFw _)).busRead _ _).setFw _

theorem Keeps.logClear (h : Keeps s t) : Keeps s (t.logClear) :=
  (((h.setFw _).busWrite _ _ _).busWrite _ _ _).busWrite _ _ _

theorem ends_execLogCounters (m : Fin 7) : Ends s (execLogCounters m s) :=
  .next ((Keeps.refl s).fwCmd _ _ (fun _ _ h0 => h0.fwReach _ _ (fun _ h1 => ((h1.logTotals).when _ (fun _ h2 =>
      h2.logClear)).fwOk _ _)))

theorem ends_execSelftestRun (m : Fin 7) : Ends s (execSelftestRun m s) :=
  .next ((Keeps.refl s).fwCmd _ _ (fun _ _ h0 => Keeps.ite (h0.mbAnswer _ _ _ _) (h0.fwScript _ _)))

theorem ends_execInjectCommand (m : Fin 7) : Ends s (execInjectCommand m s) :=
  .next ((Keeps.refl s).fwCmd _ _ (fun _ _ h0 => Keeps.ite (h0.fwScript _ _) ((h0.padUpset _ _).fwOk _ _)))

theorem ends_execMarchRun (m : Fin 7) : Ends s (execMarchRun m s) :=
  .next ((Keeps.refl s).fwCmd _ _ (fun _ _ h0 => Keeps.ite (h0.mbAnswer _ _ _ _) (Keeps.ite (h0.mbAnswer _ _ _ _)
      (Keeps.ite h0 (Keeps.ite (h0.fwOk _ _) ((h0.fwStep _ _).parts))))))

/-! ### Register commands -/

theorem ends_execRegisterWrite (ep : Fin 256) (off : Nat) (v : BitVec 32) : Ends s (execRegisterWrite ep off v s) :=
  .next ((Keeps.refl s).busWrite _ _ _)

theorem ends_execCfgRestart (ep : Fin 256) (v : BitVec 32) : Ends s (execCfgRestart ep v s) :=
  .next ((Keeps.refl s).busWrite _ _ _)

theorem ends_execCfgStgStart (ep : Fin 256) (v : BitVec 32) : Ends s (execCfgStgStart ep v s) :=
  .next ((Keeps.refl s).busWrite _ _ _)

theorem ends_execShdGenWrite (ep : Fin 256) (r : Fin 32) (v : BitVec 32) : Ends s (execShdGenWrite ep r v s) :=
  .next ((Keeps.refl s).busWrite _ _ _)

theorem ends_execCfgArm (ep : Fin 256) (v : BitVec 32) : Ends s (execCfgArm ep v s) :=
  .next ((Keeps.refl s).busWrite _ _ _)

theorem ends_execCfgDisarm (ep : Fin 256) (v : BitVec 32) : Ends s (execCfgDisarm ep v s) :=
  .next ((Keeps.refl s).busWrite _ _ _)

theorem ends_execCfgFireGo (ep : Fin 256) (v : BitVec 32) : Ends s (execCfgFireGo ep v s) :=
  .next ((Keeps.refl s).busWrite _ _ _)

theorem ends_execCfgHoldRelease (ep : Fin 256) (v : BitVec 32) : Ends s (execCfgHoldRelease ep v s) :=
  .next ((Keeps.refl s).busWrite _ _ _)

theorem ends_execCfgHoldEnter (ep : Fin 256) (v : BitVec 32) : Ends s (execCfgHoldEnter ep v s) :=
  .next ((Keeps.refl s).busWrite _ _ _)

theorem ends_execCfgHldStart (ep : Fin 256) (v : BitVec 32) : Ends s (execCfgHldStart ep v s) :=
  .next ((Keeps.refl s).busWrite _ _ _)

theorem ends_execScrInjGo (ep : Fin 256) (v : BitVec 32) : Ends s (execScrInjGo ep v s) :=
  .next ((Keeps.refl s).busWrite _ _ _)

theorem ends_execScrInjVoter (ep : Fin 256) (v : BitVec 32) : Ends s (execScrInjVoter ep v s) :=
  .next ((Keeps.refl s).busWrite _ _ _)

theorem ends_execFabBusContClear (ep : Fin 256) (sec : Fin 32) (hi : Bool) (v : BitVec 32) : Ends s
    (execFabBusContClear ep sec hi v s) :=
  .next ((Keeps.refl s).busWrite _ _ _)

theorem ends_execFabPrbApply (ep : Fin 256) (sec : Fin 32) (v : BitVec 32) : Ends s (execFabPrbApply ep sec v s) :=
  .next ((Keeps.refl s).busWrite _ _ _)

theorem ends_execFabPrbArm (ep : Fin 256) (sec : Fin 32) (v : BitVec 32) : Ends s (execFabPrbArm ep sec v s) :=
  .next ((Keeps.refl s).busWrite _ _ _)

theorem ends_execFabPrbStop (ep : Fin 256) (sec : Fin 32) (v : BitVec 32) : Ends s (execFabPrbStop ep sec v s) :=
  .next ((Keeps.refl s).busWrite _ _ _)

theorem ends_execNiRtHiWrite (ep e d : Fin 256) (v : BitVec 32) : Ends s (execNiRtHiWrite ep e d v s) :=
  .next ((Keeps.refl s).busWrite _ _ _)

theorem ends_execNiApply (ep e : Fin 256) (v : BitVec 32) : Ends s (execNiApply ep e v s) :=
  .next ((Keeps.refl s).busWrite _ _ _)

theorem ends_execNocApply (ep : Fin 256) (n : Fin 64) (v : BitVec 32) : Ends s (execNocApply ep n v s) :=
  .next ((Keeps.refl s).busWrite _ _ _)

theorem ends_execNocFreqChange (ep : Fin 256) (v : BitVec 32) : Ends s (execNocFreqChange ep v s) :=
  .next ((Keeps.refl s).busWrite _ _ _)

theorem ends_execClkMeasStart (ep : Fin 256) (v : BitVec 32) : Ends s (execClkMeasStart ep v s) :=
  .next ((Keeps.refl s).busWrite _ _ _)

theorem ends_execLqApply (ep : Fin 256) (q : Fin 36) (v : BitVec 32) : Ends s (execLqApply ep q v s) :=
  .next ((Keeps.refl s).busWrite _ _ _)

theorem ends_execPmaRst (ep : Fin 256) (n : Fin 144) (v : BitVec 32) : Ends s (execPmaRst ep n v s) :=
  .next ((Keeps.refl s).busWrite _ _ _)

theorem ends_execPrbsInj (ep : Fin 256) (n : Fin 144) (v : BitVec 32) : Ends s (execPrbsInj ep n v s) :=
  .next ((Keeps.refl s).busWrite _ _ _)

theorem ends_execPrbsClr (ep : Fin 256) (n : Fin 144) (v : BitVec 32) : Ends s (execPrbsClr ep n v s) :=
  .next ((Keeps.refl s).busWrite _ _ _)

theorem ends_execEyeScanStart (ep : Fin 256) (n : Fin 144) (v : BitVec 32) : Ends s (execEyeScanStart ep n v s) :=
  .next ((Keeps.refl s).busWrite _ _ _)

theorem ends_execSlip (ep : Fin 256) (n : Fin 144) (v : BitVec 32) : Ends s (execSlip ep n v s) :=
  .next ((Keeps.refl s).busWrite _ _ _)

theorem ends_execGroupApply (ep : Fin 256) (g : Fin 16) (v : BitVec 32) : Ends s (execGroupApply ep g v s) :=
  .next ((Keeps.refl s).busWrite _ _ _)

theorem ends_execSkmEnable (ep : Fin 256) (e : Fin 16) (v : BitVec 32) : Ends s (execSkmEnable ep e v s) :=
  .next ((Keeps.refl s).busWrite _ _ _)

theorem ends_execSkmDisable (ep : Fin 256) (e : Fin 16) (v : BitVec 32) : Ends s (execSkmDisable ep e v s) :=
  .next ((Keeps.refl s).busWrite _ _ _)

theorem ends_execSkmRestart (ep : Fin 256) (e : Fin 16) (v : BitVec 32) : Ends s (execSkmRestart ep e v s) :=
  .next ((Keeps.refl s).busWrite _ _ _)

theorem ends_execSkmRelease (ep : Fin 256) (e : Fin 16) (v : BitVec 32) : Ends s (execSkmRelease ep e v s) :=
  .next ((Keeps.refl s).busWrite _ _ _)

theorem ends_execSkmRefire (ep : Fin 256) (e : Fin 16) (v : BitVec 32) : Ends s (execSkmRefire ep e v s) :=
  .next ((Keeps.refl s).busWrite _ _ _)

theorem ends_execTimSetWrite (ep : Fin 256) (d : Fin 32) (v : BitVec 32) : Ends s (execTimSetWrite ep d v s) :=
  .next ((Keeps.refl s).busWrite _ _ _)

theorem ends_execTimStepWrite (ep : Fin 256) (d : Fin 32) (v : BitVec 32) : Ends s (execTimStepWrite ep d v s) :=
  .next ((Keeps.refl s).busWrite _ _ _)

theorem ends_execTimSlewWrite (ep : Fin 256) (d : Fin 32) (v : BitVec 32) : Ends s (execTimSlewWrite ep d v s) :=
  .next ((Keeps.refl s).busWrite _ _ _)

theorem ends_execTimSnapWrite (ep : Fin 256) (d : Fin 32) (v : BitVec 32) : Ends s (execTimSnapWrite ep d v s) :=
  .next ((Keeps.refl s).busWrite _ _ _)

theorem ends_execServoSampleSubmit (ep : Fin 256) (d : Fin 32) (v : BitVec 32) : Ends s (execServoSampleSubmit ep d
    v s) :=
  .next ((Keeps.refl s).busWrite _ _ _)

theorem ends_execServoEnable (ep : Fin 256) (d : Fin 32) (v : BitVec 32) : Ends s (execServoEnable ep d v s) :=
  .next ((Keeps.refl s).busWrite _ _ _)

theorem ends_execConeArm (ep : Fin 256) (n : Fin 64) (v : BitVec 32) : Ends s (execConeArm ep n v s) :=
  .next ((Keeps.refl s).busWrite _ _ _)

theorem ends_execConeDisarm (ep : Fin 256) (n : Fin 64) (v : BitVec 32) : Ends s (execConeDisarm ep n v s) :=
  .next ((Keeps.refl s).busWrite _ _ _)

theorem ends_execMcEnable (ep : Fin 256) (c : Fin 8) (v : BitVec 32) : Ends s (execMcEnable ep c v s) :=
  .next ((Keeps.refl s).busWrite _ _ _)

theorem ends_execMcDisable (ep : Fin 256) (c : Fin 8) (v : BitVec 32) : Ends s (execMcDisable ep c v s) :=
  .next ((Keeps.refl s).busWrite _ _ _)

theorem ends_execMcSrEnter (ep : Fin 256) (c : Fin 8) (v : BitVec 32) : Ends s (execMcSrEnter ep c v s) :=
  .next ((Keeps.refl s).busWrite _ _ _)

theorem ends_execMcSrExit (ep : Fin 256) (c : Fin 8) (v : BitVec 32) : Ends s (execMcSrExit ep c v s) :=
  .next ((Keeps.refl s).busWrite _ _ _)

theorem ends_execMcInit (ep : Fin 256) (c : Fin 8) (v : BitVec 32) : Ends s (execMcInit ep c v s) :=
  .next ((Keeps.refl s).busWrite _ _ _)

theorem ends_execMcFreeze (ep : Fin 256) (c : Fin 8) (v : BitVec 32) : Ends s (execMcFreeze ep c v s) :=
  .next ((Keeps.refl s).busWrite _ _ _)

theorem ends_execMcUnfreeze (ep : Fin 256) (c : Fin 8) (v : BitVec 32) : Ends s (execMcUnfreeze ep c v s) :=
  .next ((Keeps.refl s).busWrite _ _ _)

theorem ends_execMcMapApply (ep : Fin 256) (v : BitVec 32) : Ends s (execMcMapApply ep v s) :=
  .next ((Keeps.refl s).busWrite _ _ _)

theorem ends_execMtStart (ep : Fin 256) (c : Fin 8) (v : BitVec 32) : Ends s (execMtStart ep c v s) :=
  .next ((Keeps.refl s).busWrite _ _ _)

theorem ends_execMtEndPass (ep : Fin 256) (c : Fin 8) (v : BitVec 32) : Ends s (execMtEndPass ep c v s) :=
  .next ((Keeps.refl s).busWrite _ _ _)

theorem ends_execMtEndFail (ep : Fin 256) (c : Fin 8) (v : BitVec 32) : Ends s (execMtEndFail ep c v s) :=
  .next ((Keeps.refl s).busWrite _ _ _)

theorem ends_execMtCommit (ep : Fin 256) (c : Fin 8) (v : BitVec 32) : Ends s (execMtCommit ep c v s) :=
  .next ((Keeps.refl s).busWrite _ _ _)

theorem ends_execMtRunStart (ep : Fin 256) (c : Fin 8) (v : BitVec 32) : Ends s (execMtRunStart ep c v s) :=
  .next ((Keeps.refl s).busWrite _ _ _)

theorem ends_execMtPrEnable (ep : Fin 256) (c : Fin 8) (v : BitVec 32) : Ends s (execMtPrEnable ep c v s) :=
  .next ((Keeps.refl s).busWrite _ _ _)

theorem ends_execSecWipeStart (ep : Fin 256) (v : BitVec 32) : Ends s (execSecWipeStart ep v s) :=
  .next ((Keeps.refl s).busWrite _ _ _)

theorem ends_execSecFuseGo (ep : Fin 256) (v : BitVec 32) : Ends s (execSecFuseGo ep v s) :=
  .next ((Keeps.refl s).busWrite _ _ _)

theorem ends_execSecDbgOpen (ep : Fin 256) (v : BitVec 32) : Ends s (execSecDbgOpen ep v s) :=
  .next ((Keeps.refl s).busWrite _ _ _)

theorem ends_execIcTgtComplete (ep : Fin 256) (t0 : Fin 8) (v : BitVec 32) : Ends s (execIcTgtComplete ep t0 v s) :=
  .next ((Keeps.refl s).busWrite _ _ _)

theorem ends_execSwPend (ep : Fin 256) (n : Fin 1024) (v : BitVec 32) : Ends s (execSwPend ep n v s) :=
  .next ((Keeps.refl s).busWrite _ _ _)

theorem ends_execDiscard (ep : Fin 256) (n : Fin 1024) (v : BitVec 32) : Ends s (execDiscard ep n v s) :=
  .next ((Keeps.refl s).busWrite _ _ _)

theorem ends_execMbxSend (ep : Fin 256) (m : Fin 7) (v : BitVec 32) : Ends s (execMbxSend ep m v s) :=
  .next ((Keeps.refl s).busWrite _ _ _)

theorem ends_execMbxCancel (ep : Fin 256) (m : Fin 7) (v : BitVec 32) : Ends s (execMbxCancel ep m v s) :=
  .next ((Keeps.refl s).busWrite _ _ _)

theorem ends_execMbxSkip (ep : Fin 256) (m : Fin 7) (v : BitVec 32) : Ends s (execMbxSkip ep m v s) :=
  .next ((Keeps.refl s).busWrite _ _ _)

theorem ends_execMbxWdata (ep : Fin 256) (m : Fin 7) (v : BitVec 32) : Ends s (execMbxWdata ep m v s) :=
  .next ((Keeps.refl s).busWrite _ _ _)

theorem ends_execHalt (ep : Fin 256) (v : BitVec 32) : Ends s (execHalt ep v s) :=
  .next ((Keeps.refl s).busWrite _ _ _)

theorem ends_execResume (ep : Fin 256) (v : BitVec 32) : Ends s (execResume ep v s) :=
  .next ((Keeps.refl s).busWrite _ _ _)

theorem ends_execDbgStep (ep : Fin 256) (v : BitVec 32) : Ends s (execDbgStep ep v s) :=
  .next ((Keeps.refl s).busWrite _ _ _)

theorem ends_execWdtKick (ep : Fin 256) (v : BitVec 32) : Ends s (execWdtKick ep v s) :=
  .next ((Keeps.refl s).busWrite _ _ _)

theorem ends_execWdtDisable (ep : Fin 256) (v : BitVec 32) : Ends s (execWdtDisable ep v s) :=
  .next ((Keeps.refl s).busWrite _ _ _)

theorem ends_execIstRunStart (ep : Fin 256) (v : BitVec 32) : Ends s (execIstRunStart ep v s) :=
  .next ((Keeps.refl s).busWrite _ _ _)

theorem ends_execCounterReadClear (ep : Fin 256) (off : Nat) : Ends s (execCounterReadClear ep off s) :=
  .next ((Keeps.refl s).busRead _ _)

theorem ends_execIcTgtClaimRead (ep : Fin 256) (t0 : Fin 8) : Ends s (execIcTgtClaimRead ep t0 s) :=
  .next ((Keeps.refl s).busRead _ _)

theorem ends_execErrPop0Read (ep : Fin 256) : Ends s (execErrPop0Read ep s) := .next ((Keeps.refl s).busRead _ _)

theorem ends_execTimCapfW0Read (ep : Fin 256) (g : Fin 16) : Ends s (execTimCapfW0Read ep g s) :=
  .next ((Keeps.refl s).busRead _ _)

theorem ends_execTimLnTsf0Read (ep : Fin 256) (n : Fin 144) : Ends s (execTimLnTsf0Read ep n s) :=
  .next ((Keeps.refl s).busRead _ _)

theorem ends_execMbxRdata (ep : Fin 256) (m : Fin 7) : Ends s (execMbxRdata ep m s) :=
  .next ((Keeps.refl s).busRead _ _)

theorem ends_execBindWrite (ep : Fin 256) (off : Nat) (v : BitVec 32) : Ends s (execBindWrite ep off v s) :=
  .next (Keeps.ite ((Keeps.refl s).busWrite _ _ _) (Keeps.refl s))

theorem ends_execSectorPowerDown (ep : Fin 256) (sec : Fin 32) : Ends s (execSectorPowerDown ep sec s) :=
  .next ((Keeps.refl s).busWrite _ _ _)

theorem ends_execSectorPowerUp (ep : Fin 256) (sec : Fin 32) : Ends s (execSectorPowerUp ep sec s) :=
  .next ((Keeps.refl s).busWrite _ _ _)

/-! ### Every command, and a step -/

theorem ends_exec (c : Instr) (s : State) : Ends s (exec c s) := by
  cases c with
  | registerWrite => exact ends_execRegisterWrite _ _ _
  | counterReadClear => exact ends_execCounterReadClear _ _
  | supplyValid => exact ends_execSupplyValid _
  | supplyInvalid => exact ends_execSupplyInvalid _
  | powerOnResetRelease => exact ends_execPowerOnResetRelease
  | porstNLow => exact ends_execPorstNLow
  | porstNHigh => exact ends_execPorstNHigh
  | resetExit => exact ends_execResetExit _ _ _ _ _ _
  | vccioChange => exact ends_execVccioChange _ _
  | firmwareVerified => exact ends_execFirmwareVerified _
  | containerHeaderCheck => exact ends_execContainerHeaderCheck _
  | containerBlockCheck => exact ends_execContainerBlockCheck _
  | nop => exact ends_execNop _ _ _
  | setFar => exact ends_execSetFar _ _ _
  | writeFrames => exact ends_execWriteFrames _ _ _ _
  | repeatFrame => exact ends_execRepeatFrame _ _ _ _
  | zeroFrames => exact ends_execZeroFrames _ _ _ _
  | bmContents => exact ends_execBmContents _ _ _
  | csrWrite => exact ends_execCsrWrite _ _ _
  | endPacket => exact ends_execEndPacket _ _ _
  | clearingDone => exact ends_execClearingDone
  | cfgDoneObserved => exact ends_execCfgDoneObserved
  | cfgStartNFall => exact ends_execCfgStartNFall
  | cfgStartNRise => exact ends_execCfgStartNRise
  | cfgRestart => exact ends_execCfgRestart _ _
  | busContentionDetect => exact ends_execBusContentionDetect _ _
  | fabBusContClear => exact ends_execFabBusContClear _ _ _ _
  | fabPrbApply => exact ends_execFabPrbApply _ _ _
  | fabPrbArm => exact ends_execFabPrbArm _ _ _
  | fabPrbStop => exact ends_execFabPrbStop _ _ _
  | probeTrigger => exact ends_execProbeTrigger _ _
  | probeCaptureDone => exact ends_execProbeCaptureDone _
  | bmRead => exact ends_execBmRead _ _ _ _ _ _ _
  | bmWrite => exact ends_execBmWrite _ _ _ _ _ _ _ _ _ _
  | bmNarrowWrite => exact ends_execBmNarrowWrite _ _ _ _ _ _ _ _ _
  | queueWrite => exact ends_execQueueWrite _ _
  | queueRead => exact ends_execQueueRead _
  | queueCrossing => exact ends_execQueueCrossing _ _
  | queueReset => exact ends_execQueueReset _
  | queueResetRelease => exact ends_execQueueResetRelease _ _
  | sliceOperation => exact ends_execSliceOperation _ _ _ _ _ _ _ _ _ _ _
  | exponentBlockClose => exact ends_execExponentBlockClose _ _
  | controlCycleStart => exact ends_execControlCycleStart _ _ _
  | shiftUpdate => exact ends_execShiftUpdate _ _
  | clockLossDeclared => exact ends_execClockLossDeclared _
  | referenceRecovered => exact ends_execReferenceRecovered _
  | pllLock => exact ends_execPllLock _
  | leafGateReopen => exact ends_execLeafGateReopen _
  | nocFreqChange => exact ends_execNocFreqChange _ _
  | clkMeasStart => exact ends_execClkMeasStart _ _
  | clkMeasDone => exact ends_execClkMeasDone _
  | cfgStgStart => exact ends_execCfgStgStart _ _
  | shadowVerified => exact ends_execShadowVerified _
  | bindWrite => exact ends_execBindWrite _ _ _
  | shdGenWrite => exact ends_execShdGenWrite _ _ _
  | cfgArm => exact ends_execCfgArm _ _
  | cfgDisarm => exact ends_execCfgDisarm _ _
  | cfgFireGo => exact ends_execCfgFireGo _ _
  | fireStrobeEdge => exact ends_execFireStrobeEdge
  | firing => exact ends_execFiring
  | firingCrossing => exact ends_execFiringCrossing _
  | minimumHoldEnd => exact ends_execMinimumHoldEnd _
  | cfgHoldRelease => exact ends_execCfgHoldRelease _ _
  | cfgHoldEnter => exact ends_execCfgHoldEnter _ _
  | cfgHldStart => exact ends_execCfgHldStart _ _
  | wedgingStart => exact ends_execWedgingStart
  | scrubPosition => exact ends_execScrubPosition _ _ _
  | wedgingEnd => exact ends_execWedgingEnd _
  | mapLookupDone => exact ends_execMapLookupDone _
  | mapCheckDone => exact ends_execMapCheckDone _ _
  | refetch => exact ends_execRefetch _
  | refetchDone => exact ends_execRefetchDone
  | voterDisagreement => exact ends_execVoterDisagreement
  | scrInjGo => exact ends_execScrInjGo _ _
  | scrInjVoter => exact ends_execScrInjVoter _ _
  | nocRequestIssue => exact ends_execNocRequestIssue _ _ _ _ _ _ _
  | routerHop => exact ends_execRouterHop _ _
  | nocRequestArrival => exact ends_execNocRequestArrival _ _
  | nocResponseArrival => exact ends_execNocResponseArrival _
  | niRequestTimeout => exact ends_execNiRequestTimeout _ _
  | niTargetTimeout => exact ends_execNiTargetTimeout _
  | niRtHiWrite => exact ends_execNiRtHiWrite _ _ _ _
  | niApply => exact ends_execNiApply _ _ _
  | nocApply => exact ends_execNocApply _ _ _
  | nocPortChangeDone => exact ends_execNocPortChangeDone _
  | linkStateChange => exact ends_execLinkStateChange _ _ _
  | fenceClose => exact ends_execFenceClose _
  | fenceOpen => exact ends_execFenceOpen _
  | lqApply => exact ends_execLqApply _ _ _
  | laneSafePoint => exact ends_execLaneSafePoint _
  | lanePllLocked => exact ends_execLanePllLocked _
  | cdrLock => exact ends_execCdrLock _
  | lolSet => exact ends_execLolSet _
  | losSet => exact ends_execLosSet _ _
  | losClear => exact ends_execLosClear _ _
  | adaptationDone => exact ends_execAdaptationDone _ _ _
  | adaptationTimeout => exact ends_execAdaptationTimeout _
  | refClockLost => exact ends_execRefClockLost _ _
  | refClockPresent => exact ends_execRefClockPresent _ _ _
  | lanePllUnlock => exact ends_execLanePllUnlock _ _
  | pmaRst => exact ends_execPmaRst _ _ _
  | prbsInj => exact ends_execPrbsInj _ _ _
  | prbsClr => exact ends_execPrbsClr _ _ _
  | prbsSync => exact ends_execPrbsSync _
  | prbsLost => exact ends_execPrbsLost _ _ _
  | eyeScanStart => exact ends_execEyeScanStart _ _ _
  | eyeScanDone => exact ends_execEyeScanDone _ _
  | lockAcquired => exact ends_execLockAcquired _ _
  | lockLost => exact ends_execLockLost _
  | slip => exact ends_execSlip _ _ _
  | slipDone => exact ends_execSlipDone _
  | hiBerSet => exact ends_execHiBerSet _ _
  | hiBerClear => exact ends_execHiBerClear _ _
  | fecUncorrectable => exact ends_execFecUncorrectable _ _
  | txUnderrun => exact ends_execTxUnderrun _
  | rxWordDrop => exact ends_execRxWordDrop _
  | groupApply => exact ends_execGroupApply _ _ _
  | groupHoldoffExpiry => exact ends_execGroupHoldoffExpiry _
  | groupDeskewDone => exact ends_execGroupDeskewDone _ _
  | groupDeskewFail => exact ends_execGroupDeskewFail _ _ _
  | groupMarkerError => exact ends_execGroupMarkerError _ _
  | skmEnable => exact ends_execSkmEnable _ _ _
  | skmDisable => exact ends_execSkmDisable _ _ _
  | skmRestart => exact ends_execSkmRestart _ _ _
  | skmRelease => exact ends_execSkmRelease _ _ _
  | skmRefire => exact ends_execSkmRefire _ _ _
  | skmOrderedSetReceived => exact ends_execSkmOrderedSetReceived _ _
  | skmDetectTimeout => exact ends_execSkmDetectTimeout _
  | skmOfferTimeout => exact ends_execSkmOfferTimeout _
  | skmProgressTimeout => exact ends_execSkmProgressTimeout _
  | skmCommitTimeout => exact ends_execSkmCommitTimeout _
  | skmBackoffTimeout => exact ends_execSkmBackoffTimeout _
  | skmDwellTimeout => exact ends_execSkmDwellTimeout _
  | skmListenLock => exact ends_execSkmListenLock _
  | skmLanesUp => exact ends_execSkmLanesUp _
  | skmUpTimeout => exact ends_execSkmUpTimeout _
  | skmRemovalTimeout => exact ends_execSkmRemovalTimeout _
  | skmRenegTimeout => exact ends_execSkmRenegTimeout _
  | timSetWrite => exact ends_execTimSetWrite _ _ _
  | timStepWrite => exact ends_execTimStepWrite _ _ _
  | timSlewWrite => exact ends_execTimSlewWrite _ _ _
  | slewDone => exact ends_execSlewDone _
  | timSnapWrite => exact ends_execTimSnapWrite _ _ _
  | servoSampleSubmit => exact ends_execServoSampleSubmit _ _ _
  | servoSampleProcess => exact ends_execServoSampleProcess _
  | servoEnable => exact ends_execServoEnable _ _ _
  | ppsInEdge => exact ends_execPpsInEdge _ _ _ _
  | ppsOutPulse => exact ends_execPpsOutPulse _
  | coneArm => exact ends_execConeArm _ _ _
  | coneDisarm => exact ends_execConeDisarm _ _ _
  | coneEvent => exact ends_execConeEvent _
  | coneEventDelivery => exact ends_execConeEventDelivery
  | captureEdge => exact ends_execCaptureEdge _ _ _ _
  | timCapfW0Read => exact ends_execTimCapfW0Read _ _
  | rxFrameStart => exact ends_execRxFrameStart _ _ _ _
  | txFrameStart => exact ends_execTxFrameStart _ _ _ _ _ _ _ _ _ _
  | timLnTsf0Read => exact ends_execTimLnTsf0Read _ _
  | twoStepPortPop => exact ends_execTwoStepPortPop _
  | mcEnable => exact ends_execMcEnable _ _ _
  | mcDisable => exact ends_execMcDisable _ _ _
  | mcQueuesDrained => exact ends_execMcQueuesDrained _
  | mcSrEnter => exact ends_execMcSrEnter _ _ _
  | mcSrExit => exact ends_execMcSrExit _ _ _
  | mcIdleTimeout => exact ends_execMcIdleTimeout _
  | mcSelfRefreshEntry => exact ends_execMcSelfRefreshEntry _
  | mcSrExitStart => exact ends_execMcSrExitStart _
  | mcSrExitDone => exact ends_execMcSrExitDone _
  | mcInit => exact ends_execMcInit _ _ _
  | mcInitDone => exact ends_execMcInitDone _
  | mcFreeze => exact ends_execMcFreeze _ _ _
  | mcUnfreeze => exact ends_execMcUnfreeze _ _ _
  | mcMapApply => exact ends_execMcMapApply _ _
  | mcRequestAdmit => exact ends_execMcRequestAdmit _ _
  | mcCommandIssue => exact ends_execMcCommandIssue _ _
  | mcReadComplete => exact ends_execMcReadComplete _
  | mcParityAlert => exact ends_execMcParityAlert _
  | mcReplay => exact ends_execMcReplay _
  | mtStart => exact ends_execMtStart _ _ _
  | mtEndPass => exact ends_execMtEndPass _ _ _
  | mtEndFail => exact ends_execMtEndFail _ _ _
  | mtCommit => exact ends_execMtCommit _ _ _
  | mtCommitDone => exact ends_execMtCommitDone _
  | mtRunStart => exact ends_execMtRunStart _ _ _
  | mtRunDone => exact ends_execMtRunDone _ _ _ _
  | mtTrainingTimeout => exact ends_execMtTrainingTimeout _
  | mtPrEnable => exact ends_execMtPrEnable _ _ _
  | retrainPeriodExpiry => exact ends_execRetrainPeriodExpiry _
  | retrainSweepDone => exact ends_execRetrainSweepDone _ _
  | hspStatus => exact ends_execHspStatus _
  | hspWrite => exact ends_execHspWrite _
  | hspRead => exact ends_execHspRead _
  | i2cAppend => exact ends_execI2cAppend _ _
  | i2cSend => exact ends_execI2cSend
  | i2cCancel => exact ends_execI2cCancel
  | i2cStatus => exact ends_execI2cStatus _
  | i2cRead => exact ends_execI2cRead _
  | i2cRewind => exact ends_execI2cRewind
  | i2cSclTimeout => exact ends_execI2cSclTimeout
  | mbxSend => exact ends_execMbxSend _ _ _
  | mbxCancel => exact ends_execMbxCancel _ _ _
  | mbxSkip => exact ends_execMbxSkip _ _ _
  | mbxWdata => exact ends_execMbxWdata _ _ _
  | mbxRdata => exact ends_execMbxRdata _ _
  | mbxRequestTake => exact ends_execMbxRequestTake _
  | getVersions => exact ends_execGetVersions _
  | openSession => exact ends_execOpenSession _
  | authResponse => exact ends_execAuthResponse _
  | closeSession => exact ends_execCloseSession _
  | keepalive => exact ends_execKeepalive _
  | getIdentity => exact ends_execGetIdentity _
  | getAttestation => exact ends_execGetAttestation _
  | getBootStatus => exact ends_execGetBootStatus _
  | loadBegin => exact ends_execLoadBegin _
  | loadData => exact ends_execLoadData _
  | loadEnd => exact ends_execLoadEnd _
  | loadDataTimeout => exact ends_execLoadDataTimeout
  | stageFlash => exact ends_execStageFlash _
  | armCommand => exact ends_execArmCommand _
  | fireCommand => exact ends_execFireCommand _
  | holdCommand => exact ends_execHoldCommand _
  | regionStatus => exact ends_execRegionStatus _
  | frameReadback => exact ends_execFrameReadback _
  | flashRead => exact ends_execFlashRead _
  | flashWrite => exact ends_execFlashWrite _
  | dirUpdate => exact ends_execDirUpdate _
  | restartConfig => exact ends_execRestartConfig _
  | regRead => exact ends_execRegRead _
  | regWrite => exact ends_execRegWrite _
  | regModify => exact ends_execRegModify _
  | timeGet => exact ends_execTimeGet _
  | timeSet => exact ends_execTimeSet _
  | timeOffset => exact ends_execTimeOffset _
  | coneSet => exact ends_execConeSet _
  | laneStatus => exact ends_execLaneStatus _
  | laneApply => exact ends_execLaneApply _
  | eyeScan => exact ends_execEyeScan _
  | slotStatus => exact ends_execSlotStatus _
  | slotRestart => exact ends_execSlotRestart _
  | slotRelease => exact ends_execSlotRelease _
  | slotConfig => exact ends_execSlotConfig _
  | memStatus => exact ends_execMemStatus _
  | memTrain => exact ends_execMemTrain _
  | memMap => exact ends_execMemMap _
  | memRetire => exact ends_execMemRetire _
  | logPop => exact ends_execLogPop _
  | logCounters => exact ends_execLogCounters _
  | selftestRun => exact ends_execSelftestRun _
  | injectCommand => exact ends_execInjectCommand _
  | marchRun => exact ends_execMarchRun _
  | lcGet => exact ends_execLcGet _
  | lcAdvance => exact ends_execLcAdvance _
  | keyProgram => exact ends_execKeyProgram _
  | keyRevoke => exact ends_execKeyRevoke _
  | debugUnlock => exact ends_execDebugUnlock _
  | sessionAuthTimeout => exact ends_execSessionAuthTimeout _
  | sessionLockoutEnd => exact ends_execSessionLockoutEnd _
  | sessionIdleTimeout => exact ends_execSessionIdleTimeout _
  | scratchpadAccess => exact ends_execScratchpadAccess _ _
  | marchSliceDone => exact ends_execMarchSliceDone _
  | marchSliceYield => exact ends_execMarchSliceYield _
  | tamperTrip => exact ends_execTamperTrip _ _
  | secWipeStart => exact ends_execSecWipeStart _ _
  | wipeDone => exact ends_execWipeDone
  | secFuseGo => exact ends_execSecFuseGo _ _
  | fuseProgramDone => exact ends_execFuseProgramDone _
  | secDbgOpen => exact ends_execSecDbgOpen _ _
  | interruptSourceRaise => exact ends_execInterruptSourceRaise _ _
  | icTgtClaimRead => exact ends_execIcTgtClaimRead _ _
  | icTgtComplete => exact ends_execIcTgtComplete _ _ _
  | swPend => exact ends_execSwPend _ _ _
  | discard => exact ends_execDiscard _ _ _
  | holdoffExpiry => exact ends_execHoldoffExpiry _
  | icSleep => exact ends_execIcSleep
  | icWake => exact ends_execIcWake
  | errorReportAccept => exact ends_execErrorReportAccept
  | errPop0Read => exact ends_execErrPop0Read _
  | istSweepStart => exact ends_execIstSweepStart
  | istSliceStart => exact ends_execIstSliceStart
  | istSliceDone => exact ends_execIstSliceDone _ _
  | istSliceAbandon => exact ends_execIstSliceAbandon _
  | istRunStart => exact ends_execIstRunStart _ _
  | tapReset => exact ends_execTapReset
  | extest => exact ends_execExtest _
  | samplePreload => exact ends_execSamplePreload _
  | idcode => exact ends_execIdcode
  | highz => exact ends_execHighz
  | clamp => exact ends_execClamp
  | extestPulse => exact ends_execExtestPulse _
  | extestTrain => exact ends_execExtestTrain _
  | bypass => exact ends_execBypass
  | mbxAccess => exact ends_execMbxAccess
  | jtagMbxAppend => exact ends_execJtagMbxAppend _
  | jtagMbxCommit => exact ends_execJtagMbxCommit
  | jtagMbxPop => exact ends_execJtagMbxPop
  | cfgLoad => exact ends_execCfgLoad
  | cfgLoadAppend => exact ends_execCfgLoadAppend _
  | dbgAccess => exact ends_execDbgAccess
  | dbgAccessRead => exact ends_execDbgAccessRead _
  | dbgAccessWrite => exact ends_execDbgAccessWrite _ _
  | debugAccessComplete => exact ends_execDebugAccessComplete
  | runCtrl => exact ends_execRunCtrl _
  | scanEntry => exact ends_execScanEntry
  | scanStateReached => exact ends_execScanStateReached
  | scanData => exact ends_execScanData
  | halt => exact ends_execHalt _ _
  | coreHalt => exact ends_execCoreHalt _ _
  | resume => exact ends_execResume _ _
  | dbgStep => exact ends_execDbgStep _ _
  | wdtKick => exact ends_execWdtKick _ _
  | wdtExpiry => exact ends_execWdtExpiry
  | wdtDisable => exact ends_execWdtDisable _ _
  | sectorPowerDown => exact ends_execSectorPowerDown _ _
  | sectorSupplyRemoved => exact ends_execSectorSupplyRemoved _
  | sectorPowerUp => exact ends_execSectorPowerUp _ _
  | sectorPowerRestored => exact ends_execSectorPowerRestored _
  | tempSensorUpdate => exact ends_execTempSensorUpdate _
  | fenceTargetTimeout => exact ends_execFenceTargetTimeout _
  | fuseSupplyInvalid => exact ends_execFuseSupplyInvalid
  | skmAbortTimeout => exact ends_execSkmAbortTimeout _
  | cfgDoneFall => exact ends_execCfgDoneFall
  | receiveCodeError => exact ends_execReceiveCodeError _ _
  | invalidTransmitUnit => exact ends_execInvalidTransmitUnit _ _

/-- Invariants of a step follow from what every command and a cycle of the time clock keep. -/
theorem keeps_of_step {s t : State} (h : step s = .next t) : Keeps (s.withPending s.pending.tail) t := by
  unfold step at h
  cases hq : s.pending with
  | nil =>
    rw [hq] at h
    have hs : s.withPending [] = s := by rw [← hq]; rfl
    obtain rfl : (s.advance 1).fabricTick = t := Host.Outcome.next.inj h
    rw [List.tail_nil, hs]
    exact ((Keeps.refl s).advance _).fabricTick
  | cons c rest =>
    rw [hq] at h
    obtain ⟨u, hu, hk⟩ := ends_exec c (s.withPending rest)
    obtain rfl : u = t := Host.Outcome.next.inj (hu.symm.trans h)
    exact hk

/-- Settles O4: fuse bits are kept by every step (`keeps_of_step`). -/
theorem fuseBitsNeverReturn : Obligations.FuseBitsNeverReturn := by
  unfold Obligations.FuseBitsNeverReturn
  exact fun f s t hf h => Fuses.within_trans hf (keeps_of_step h).fuses

/-- Settles O5: every step keeps the canonical form (`keeps_of_step`). -/
theorem registersAndMemoriesStayCanonical : Obligations.RegistersAndMemoriesStayCanonical := by
  unfold Obligations.RegistersAndMemoriesStayCanonical
  exact ⟨fun s t hs h => (keeps_of_step h).regs hs, fun s t hs h => (keeps_of_step h).mems hs⟩

/-- Settles O3: every command ends (`ends_exec`) and keeps the queue, from which a step takes the front (`keeps_of_step`). -/
theorem everyCommandEndsAndQueueShrinks : Obligations.EveryCommandEndsAndQueueShrinks := by
  unfold Obligations.EveryCommandEndsAndQueueShrinks EveryCommandEndsInNextState QueueOnlyShrinks
  exact ⟨fun c s => (ends_exec c s).imp fun _ h => h.1, fun s t h => (keeps_of_step h).queue⟩

/-- Settles O6: a table without entries is canonical. -/
theorem resetMeetsTheInvariants : Obligations.ResetMeetsTheInvariants := by
  unfold Obligations.ResetMeetsTheInvariants
  exact ⟨⟨wf_nil _, wf_nil _⟩, ⟨wf_nil _, wf_nil _, wf_nil _⟩, Fuses.within_refl _⟩

/-- Settles O1, by the definition of `step` on the two shapes of the queue. -/
theorem stepRunsFrontCommand : Obligations.StepRunsFrontCommand := by
  unfold Obligations.StepRunsFrontCommand
  exact ⟨fun _ _ _ => rfl, fun _ => rfl⟩

/-- Settles O2: registers and planes are empty tables, whose reading is their default. -/
theorem resetLeavesTableValues : Obligations.ResetLeavesTableValues := by
  unfold Obligations.ResetLeavesTableValues
  refine ⟨fun _ => rfl, fun off h => ?_, fun off r ix w inst loc hw hr => ?_, rfl, rfl, rfl, rfl, rfl, rfl, fun _ => rfl,
    fun _ => rfl, rfl⟩
  · show resetOf off = 0
    rw [resetOf, h]
    split <;> simp_all
  · show resetOf off = _
    rw [resetOf, hw, hr]

end Sys2Proof.Machine
end

section
/-! ## The parts that each operation changes

One lemma for each operation: from a state that agrees with `s` on every part but those of `ps`, it leads to another, where the
parts that the operation itself changes are among `ps`. -/

namespace Sys2Proof.Machine

-- Elaborated in order: side by side, so many short proofs would each hold a thread with its stack.
set_option Elab.async false

theorem Only.mono {ps qs : List Part} {s t : State} (h : Only qs s t) (hq : qs ⊆ ps) : Only ps s t :=
  fun p hp => h p fun hm => hp (hq hm)

theorem Only.append {ps qs : List Part} {s t u : State} (h : Only ps s t) (hq : qs ⊆ ps) (k : Only qs t u) : Only ps s u :=
  h.trans (k.mono hq)

/-- A part that is not listed is as it was. -/
theorem Only.same {ps : List Part} {s t : State} (h : Only ps s t) (p : Part) (hp : p ∉ ps := by decide) : p.same s t := h p hp

namespace Only
variable {ps : List Part} {s t : State}

theorem foldl {α : Type} {f : State → α → State} (h : Only ps s t) (l : List α) (hf : ∀ u x, Only ps s u → Only ps s (f u x)) :
    Only ps s (l.foldl f t) := by
  induction l generalizing t with
  | nil => exact h
  | cons x l ih => exact ih (hf t x h)

theorem forEach {α : Type} {f : State → α → State} (h : Only ps s t) (l : List α)
    (hf : ∀ u x, Only ps s u → Only ps s (f u x)) : Only ps s (t.forEach l f) := h.foldl l hf

theorem when {f : State → State} (h : Only ps s t) (b : Bool) (hf : ∀ u, Only ps s u → Only ps s (f u)) :
    Only ps s (t.when b f) := by
  unfold State.when
  split
  · exact hf t h
  · exact h

theorem ite {u : State} {c : Prop} [Decidable c] (h : Only ps s t) (k : Only ps s u) : Only ps s (if c then t else u) := by
  split
  · exact h
  · exact k

theorem with_csr (h : Only ps s t) (x : Tbl Word) (hp : [.csr] ⊆ ps := by decide) : Only ps s { t with csr := x } :=
  h.append hp fun p hn => by
    cases p with
    | csr => exact absurd (List.mem_singleton.mpr rfl) hn
    | _ => rfl

theorem with_stg (h : Only ps s t) (x : Tbl Word) (hp : [.stg] ⊆ ps := by decide) : Only ps s { t with stg := x } :=
  h.append hp fun p hn => by
    cases p with
    | stg => exact absurd (List.mem_singleton.mpr rfl) hn
    | _ => rfl

theorem with_ic (h : Only ps s t) (x : Ic) (hp : [.ic] ⊆ ps := by decide) : Only ps s { t with ic := x } :=
  h.append hp fun p hn => by
    cases p with
    | ic => exact absurd (List.mem_singleton.mpr rfl) hn
    | _ => rfl

theorem with_err (h : Only ps s t) (x : Err) (hp : [.err] ⊆ ps := by decide) : Only ps s { t with err := x } :=
  h.append hp fun p hn => by
    cases p with
    | err => exact absurd (List.mem_singleton.mpr rfl) hn
    | _ => rfl

theorem with_act (h : Only ps s t) (x : Plane) (hp : [.act] ⊆ ps := by decide) : Only ps s { t with act := x } :=
  h.append hp fun p hn => by
    cases p with
    | act => exact absurd (List.mem_singleton.mpr rfl) hn
    | _ => rfl

theorem with_shd (h : Only ps s t) (x : Plane) (hp : [.shd] ⊆ ps := by decide) : Only ps s { t with shd := x } :=
  h.append hp fun p hn => by
    cases p with
    | shd => exact absurd (List.mem_singleton.mpr rfl) hn
    | _ => rfl

theorem with_rgn (h : Only ps s t) (x : Tbl Rgn) (hp : [.rgn] ⊆ ps := by decide) : Only ps s { t with rgn := x } :=
  h.append hp fun p hn => by
    cases p with
    | rgn => exact absurd (List.mem_singleton.mpr rfl) hn
    | _ => rfl

theorem with_base (h : Only ps s t) (x : Option PlaneRec) (hp : [.base] ⊆ ps := by decide) : Only ps s { t with base := x } :=
  h.append hp fun p hn => by
    cases p with
    | base => exact absurd (List.mem_singleton.mpr rfl) hn
    | _ => rfl

theorem with_boot (h : Only ps s t) (x : Boot) (hp : [.boot] ⊆ ps := by decide) : Only ps s { t with boot := x } :=
  h.append hp fun p hn => by
    cases p with
    | boot => exact absurd (List.mem_singleton.mpr rfl) hn
    | _ => rfl

theorem with_gate (h : Only ps s t) (x : Gate) (hp : [.gate] ⊆ ps := by decide) : Only ps s { t with gate := x } :=
  h.append hp fun p hn => by
    cases p with
    | gate => exact absurd (List.mem_singleton.mpr rfl) hn
    | _ => rfl

theorem with_scrub (h : Only ps s t) (x : Scrub) (hp : [.scrub] ⊆ ps := by decide) : Only ps s { t with scrub := x } :=
  h.append hp fun p hn => by
    cases p with
    | scrub => exact absurd (List.mem_singleton.mpr rfl) hn
    | _ => rfl

theorem with_fab (h : Only ps s t) (x : Fabric) (hp : [.fab] ⊆ ps := by decide) : Only ps s { t with fab := x } :=
  h.append hp fun p hn => by
    cases p with
    | fab => exact absurd (List.mem_singleton.mpr rfl) hn
    | _ => rfl

theorem with_noc (h : Only ps s t) (x : Noc) (hp : [.noc] ⊆ ps := by decide) : Only ps s { t with noc := x } :=
  h.append hp fun p hn => by
    cases p with
    | noc => exact absurd (List.mem_singleton.mpr rfl) hn
    | _ => rfl

theorem with_sec (h : Only ps s t) (x : Sec) (hp : [.sec] ⊆ ps := by decide) : Only ps s { t with sec := x } :=
  h.append hp fun p hn => by
    cases p with
    | sec => exact absurd (List.mem_singleton.mpr rfl) hn
    | _ => rfl

theorem with_tim (h : Only ps s t) (x : Tim) (hp : [.tim] ⊆ ps := by decide) : Only ps s { t with tim := x } :=
  h.append hp fun p hn => by
    cases p with
    | tim => exact absurd (List.mem_singleton.mpr rfl) hn
    | _ => rfl

theorem with_ser (h : Only ps s t) (x : Serdes) (hp : [.ser] ⊆ ps := by decide) : Only ps s { t with ser := x } :=
  h.append hp fun p hn => by
    cases p with
    | ser => exact absurd (List.mem_singleton.mpr rfl) hn
    | _ => rfl

theorem with_board (h : Only ps s t) (x : Board) (hp : [.board] ⊆ ps := by decide) : Only ps s { t with board := x } :=
  h.append hp fun p hn => by
    cases p with
    | board => exact absurd (List.mem_singleton.mpr rfl) hn
    | _ => rfl

theorem with_pad (h : Only ps s t) (x : Pad) (hp : [.pad] ⊆ ps := by decide) : Only ps s { t with pad := x } :=
  h.append hp fun p hn => by
    cases p with
    | pad => exact absurd (List.mem_singleton.mpr rfl) hn
    | _ => rfl

theorem with_mbx (h : Only ps s t) (x : Tbl Mbx) (hp : [.mbx] ⊆ ps := by decide) : Only ps s { t with mbx := x } :=
  h.append hp fun p hn => by
    cases p with
    | mbx => exact absurd (List.mem_singleton.mpr rfl) hn
    | _ => rfl

theorem with_fw (h : Only ps s t) (x : Fw) (hp : [.fw] ⊆ ps := by decide) : Only ps s { t with fw := x } :=
  h.append hp fun p hn => by
    cases p with
    | fw => exact absurd (List.mem_singleton.mpr rfl) hn
    | _ => rfl

theorem with_mc (h : Only ps s t) (x : Tbl Mc) (hp : [.mc] ⊆ ps := by decide) : Only ps s { t with mc := x } :=
  h.append hp fun p hn => by
    cases p with
    | mc => exact absurd (List.mem_singleton.mpr rfl) hn
    | _ => rfl

theorem with_rld (h : Only ps s t) (x : Rld) (hp : [.rld] ⊆ ps := by decide) : Only ps s { t with rld := x } :=
  h.append hp fun p hn => by
    cases p with
    | rld => exact absurd (List.mem_singleton.mpr rfl) hn
    | _ => rfl

theorem with_clk (h : Only ps s t) (x : Clk) (hp : [.clk] ⊆ ps := by decide) : Only ps s { t with clk := x } :=
  h.append hp fun p hn => by
    cases p with
    | clk => exact absurd (List.mem_singleton.mpr rfl) hn
    | _ => rfl

theorem with_cross (h : Only ps s t) (x : List Bound) (hp : [.cross] ⊆ ps := by decide) : Only ps s { t with cross := x } :=
  h.append hp fun p hn => by
    cases p with
    | cross => exact absurd (List.mem_singleton.mpr rfl) hn
    | _ => rfl

theorem with_out (h : Only ps s t) (x : List Byte) (hp : [.out] ⊆ ps := by decide) : Only ps s { t with out := x } :=
  h.append hp fun p hn => by
    cases p with
    | out => exact absurd (List.mem_singleton.mpr rfl) hn
    | _ => rfl

theorem with_draws (h : Only ps s t) (x : Nat) (hp : [.draws] ⊆ ps := by decide) : Only ps s { t with draws := x } :=
  h.append hp fun p hn => by
    cases p with
    | draws => exact absurd (List.mem_singleton.mpr rfl) hn
    | _ => rfl

theorem setReg (h : Only ps s t) (off : Nat) (v : Word) (hp : [.csr] ⊆ ps := by decide) : Only ps s (t.setReg off v) :=
  h.with_csr _ hp

theorem setStaged (h : Only ps s t) (off : Nat) (v : Word) (hp : [.stg] ⊆ ps := by decide) : Only ps s (t.setStaged off v) :=
  h.with_stg _ hp

theorem setFld (h : Only ps s t) (off : Nat) (f : Fld) (n : Nat) (hp : [.csr] ⊆ ps := by decide) :
    Only ps s (t.setFld off f n) := h.with_csr _ hp

theorem setFlag (h : Only ps s t) (off : Nat) (f : Fld) (b : Bool) (hp : [.csr] ⊆ ps := by decide) :
    Only ps s (t.setFlag off f b) := h.with_csr _ hp

end Only
end Sys2Proof.Machine
end
section
namespace Sys2Proof.Machine

-- Elaborated in order: side by side, so many short proofs would each hold a thread with its stack.
set_option Elab.async false

variable {ps : List Part} {s t : State}

theorem Only.setBit (h : Only ps s t) (off i : Nat) (b : Bool) (hp : [.csr] ⊆ ps := by decide) : Only ps s (t.setBit
    off i b) :=
  h.append hp ((Only.refl _ t).setFld _ _ _)

theorem Only.count (h : Only ps s t) (off : Nat) (f : Fld) (n : Nat) (hp : [.csr] ⊆ ps := by decide) : Only ps s
    (t.count off f n) :=
  h.append hp ((Only.refl _ t).setFld _ _ _)

theorem Only.countWrap (h : Only ps s t) (off : Nat) (f : Fld) (n : Nat) (hp : [.csr] ⊆ ps := by decide) : Only ps s
    (t.countWrap off f n) :=
  h.append hp ((Only.refl _ t).setFld _ _ _)

theorem Only.draw (h : Only ps s t) (hp : [.draws] ⊆ ps := by decide) : Only ps s (t.draw).2 :=
  h.append hp ((Only.refl _ t).with_draws _)

theorem Only.raise (h : Only ps s t) (n : Nat) (hp : [.ic] ⊆ ps := by decide) : Only ps s (t.raise n) :=
  h.append hp (Only.ite (Only.refl _ t) (Only.ite ((Only.refl _ t).with_ic _) ((Only.refl _ t).with_ic _)))

theorem Only.pulse (h : Only ps s t) (n : Nat) (hp : [.ic] ⊆ ps := by decide) : Only ps s (t.pulse n) :=
  h.append hp ((Only.refl _ t).when _ (fun _ h1 => h1.raise _))

theorem Only.high (h : Only ps s t) (n : Nat) (hp : [.ic] ⊆ ps := by decide) : Only ps s (t.high n) :=
  h.append hp ((Only.refl _ t).when _ (fun _ h1 => h1.raise _))

theorem Only.offerFirst (h : Only ps s t) (r : Report) (time : Nat) (hp : [.csr] ⊆ ps := by decide) : Only ps s
    (t.offerFirst r time) :=
  h.append hp (Only.ite (Only.refl _ t) ((((((Only.refl _ t).setBit _ _ _).setReg _ _).setReg _ _).setReg _
      _).setReg _ _))

theorem Only.countReport (h : Only ps s t) (r : Report) (time : Nat) (hp : [.csr] ⊆ ps := by decide) : Only ps s
    (t.countReport r time) :=
  h.append hp (((Only.refl _ t).count _ _ _).offerFirst _ _)

theorem Only.countDrop (h : Only ps s t) (r : Report) (hp : [.csr, .ic] ⊆ ps := by decide) : Only ps s (t.countDrop
    r) :=
  h.append hp ((((((Only.refl _ t).count _ _ _).setFlag _ _ _).count _ _ _).when _ (fun _ h1 => (h1.setFlag _ _
      _).high _)).high _)

theorem Only.mergeReport (h : Only ps s t) (r : Report) (dropped : Bool) (hp : [.csr, .ic, .err] ⊆ ps := by decide)
    : Only ps s (t.mergeReport r dropped) :=
  h.append hp (Only.ite ((Only.refl _ t).with_err _) (((Only.refl _ t).countReport _ _).when _ (fun _ h1 =>
      h1.countDrop _)))

theorem Only.report (h : Only ps s t) (unit : Nat) (r : Report) (hp : [.csr, .ic, .err] ⊆ ps := by decide) : Only ps
    s (t.report unit r) := by
  refine h.append hp ?_
  unfold State.report
  dsimp only
  split
  · exact ((Only.refl _ t).when _ (fun _ h1 => h1.pulse _)).with_err _
  · exact Only.ite ((((Only.refl _ t).when _ (fun _ h1 => h1.pulse _)).with_err _).mergeReport _ _) (((Only.refl _
      t).when _ (fun _ h1 => h1.pulse _)).mergeReport _ _)

theorem Only.lockedRecord (h : Only ps s t) (src inst loc : Nat) (reporter : Nat) (hp : [.csr, .ic, .err] ⊆ ps := by
    decide) : Only ps s (t.lockedRecord src inst loc reporter) :=
  h.append hp ((Only.refl _ t).report _ _)

theorem Only.applyReg (h : Only ps s t) (off : Nat) (hp : [.csr, .stg] ⊆ ps := by decide) : Only ps s (t.applyReg
    off) :=
  h.append hp (((Only.refl _ t).setReg _ _).setStaged _ _)

theorem Only.exchangeReg (h : Only ps s t) (off : Nat) (hp : [.csr, .stg] ⊆ ps := by decide) : Only ps s
    (t.exchangeReg off) :=
  h.append hp (((Only.refl _ t).setReg _ _).setStaged _ _)

theorem Only.setShadow (h : Only ps s t) (r n : Nat) (hp : [.csr] ⊆ ps := by decide) : Only ps s (t.setShadow r n) :=
  h.append hp ((Only.refl _ t).setFld _ _ _)

theorem Only.setRg (h : Only ps s t) (r : Nat) (x : Rgn) (hp : [.rgn] ⊆ ps := by decide) : Only ps s (t.setRg r x) :=
  h.append hp ((Only.refl _ t).with_rgn _)

theorem Only.dropRegions (h : Only ps s t) (hp : [.csr, .rgn] ⊆ ps := by decide) : Only ps s (t.dropRegions) :=
  h.append hp (((Only.refl _ t).with_csr _).with_rgn _)

theorem Only.swapPlanes (h : Only ps s t) (r : Nat) (hp : [.act, .shd] ⊆ ps := by decide) : Only ps s (t.swapPlanes r) :=
  h.append hp (((Only.refl _ t).with_act (t.planeTake r t.act t.shd)).with_shd (t.planeTake r t.shd t.act))

theorem Only.keepLines (h : Only ps s t) (sector : Nat) (hp : [.csr, .draws] ⊆ ps := by decide) : Only ps s
    (t.keepLines sector) :=
  h.append hp (Only.ite (Only.refl _ t) (((Only.refl _ t).with_draws _).forEach _ (fun _ _ h1 => h1.setBit _ _ _)))

theorem Only.holdCells (h : Only ps s t) (pre : State) (r : Nat) (hp : [.fab] ⊆ ps := by decide) : Only ps s
    (t.holdCells pre r) :=
  h.append hp ((Only.refl _ t).with_fab _)

theorem Only.freeCells (h : Only ps s t) (hp : [.fab] ⊆ ps := by decide) : Only ps s (t.freeCells) :=
  h.append hp ((Only.refl _ t).with_fab _)

theorem Only.gsrSettle (h : Only ps s t) (sec : Nat) (hp : [.csr, .fab] ⊆ ps := by decide) : Only ps s (t.gsrSettle
    sec) :=
  h.append hp (Only.ite (Only.refl _ t) (((Only.refl _ t).with_fab _).when _ (fun _ h1 => h1.setReg _ _)))

theorem Only.setBmWord (h : Only ps s t) (sec b w : Nat) (x : BmWord) (hp : [.fab] ⊆ ps := by decide) : Only ps s
    (t.setBmWord sec b w x) :=
  h.append hp ((Only.refl _ t).with_fab _)

theorem Only.bmError (h : Only ps s t) (sec b w : Nat) (de : Bool) (hp : [.csr, .ic, .err] ⊆ ps := by decide) : Only
    ps s (t.bmError sec b w de) :=
  h.append hp (((Only.ite ((Only.refl _ t).count _ _ _) ((Only.refl _ t).count _ _ _)).setReg _ _).when _ (fun _ h1
      => h1.report _ _))

theorem Only.bmFlags (h : Only ps s t) (sec b w : Nat) (sbe dbe : Bool) (hp : [.csr, .ic, .err] ⊆ ps := by decide) :
    Only ps s (t.bmFlags sec b w sbe dbe) :=
  h.append hp (Only.ite ((Only.refl _ t).bmError _ _ _ _) (Only.ite ((Only.refl _ t).bmError _ _ _ _) (Only.refl _
      t)))

theorem Only.bmFetch (h : Only ps s t) (sec b w : Nat) (ecc : Bool) (hp : [.csr, .ic, .err] ⊆ ps := by decide) :
    Only ps s (t.bmFetch sec b w ecc).2.2.2 :=
  h.append hp ((Only.refl _ t).bmFlags _ _ _ _ _)

theorem Only.setPortOut (h : Only ps s t) (sec b : Nat) (portB : Bool) (o : PortOut) (hp : [.fab] ⊆ ps := by decide)
    : Only ps s (t.setPortOut sec b portB o) :=
  h.append hp ((Only.refl _ t).with_fab _)

theorem Only.setQueue (h : Only ps s t) (q : QueueId) (x : Queue) (hp : [.fab] ⊆ ps := by decide) : Only ps s
    (t.setQueue q x) :=
  h.append hp ((Only.refl _ t).with_fab _)

theorem Only.setSlice (h : Only ps s t) (k : Nat) (x : Slice) (hp : [.fab] ⊆ ps := by decide) : Only ps s
    (t.setSlice k x) :=
  h.append hp ((Only.refl _ t).with_fab _)

theorem Only.setGroup (h : Only ps s t) (k : Nat) (x : Group) (hp : [.fab] ⊆ ps := by decide) : Only ps s
    (t.setGroup k x) :=
  h.append hp ((Only.refl _ t).with_fab _)

theorem Only.dropStarts (h : Only ps s t) (hp : [.fab] ⊆ ps := by decide) : Only ps s (t.dropStarts) :=
  h.append hp ((Only.refl _ t).forEach _ (fun _ _ h1 => h1.setGroup _ _))

theorem Only.assertGsr (h : Only ps s t) (hp : [.csr, .fab] ⊆ ps := by decide) : Only ps s (t.assertGsr) :=
  h.append hp (((Only.refl _ t).forEach _ (fun _ _ h1 => h1.setReg _ _)).with_fab _)

theorem Only.keepOuts (h : Only ps s t) (r : Nat) (hp : [.fab] ⊆ ps := by decide) : Only ps s (t.keepOuts r) :=
  h.append hp ((Only.refl _ t).forEach _ (fun _ _ h1 => h1.when _ (fun _ h2 => h2.setPortOut _ _ _ _)))

theorem Only.fireFabric (h : Only ps s t) (r : Nat) (init : Bool) (hp : [.fab] ⊆ ps := by decide) : Only ps s
    (t.fireFabric r init) :=
  h.append hp (((Only.refl _ t).keepOuts _).with_fab _)

theorem Only.fireFfs (h : Only ps s t) (r : Nat) (init : Bool) (hp : [.fab] ⊆ ps := by decide) : Only ps s
    (t.fireFfs r init) :=
  h.append hp ((Only.refl _ t).with_fab _)

theorem Only.seeClocks (h : Only ps s t) (hp : [.clk] ⊆ ps := by decide) : Only ps s (t.seeClocks) :=
  h.append hp ((Only.refl _ t).with_clk _)

theorem Only.fireClocks (h : Only ps s t) (r : Nat) (hp : [.csr, .fab, .clk] ⊆ ps := by decide) : Only ps s
    (t.fireClocks r) :=
  h.append hp (((Only.refl _ t).seeClocks).foldl _ (fun _ _ h1 => Only.ite h1 ((h1.with_fab _).setBit _ _ _)))

theorem Only.setProbe (h : Only ps s t) (sec : Nat) (p : Probe) (hp : [.fab] ⊆ ps := by decide) : Only ps s
    (t.setProbe sec p) :=
  h.append hp ((Only.refl _ t).with_fab _)

theorem Only.prbAbort (h : Only ps s t) (sec : Nat) (hp : [.csr] ⊆ ps := by decide) : Only ps s (t.prbAbort sec) :=
  h.append hp ((Only.refl _ t).when _ (fun _ h1 => h1.setFld _ _ _))

theorem Only.settlePins (h : Only ps s t) (hp : [.fab] ⊆ ps := by decide) : Only ps s (t.settlePins) := by
  refine h.append hp ?_
  unfold State.settlePins
  dsimp only
  split
  · split
    · exact Only.refl _ t
    · split
      · exact ((Only.refl _ t).setProbe _ _).with_fab _
      · exact (Only.refl _ t).with_fab _
  · split
    · exact Only.refl _ t
    · split
      · exact ((Only.refl _ t).setProbe _ _).with_fab _
      · exact (Only.refl _ t).with_fab _

theorem Only.prbApply {f : State → Nat → State} (h : Only ps s t) (sec : Nat)
    (hf : ∀ u x, Only ps s u → Only ps s (f u x)) (hp : [.csr, .fab] ⊆ ps := by decide) : Only ps s (t.prbApply sec f) :=
  have hc : [.csr] ⊆ ps := fun _ hm => hp (by simp_all)
  have hb : [.fab] ⊆ ps := fun _ hm => hp (by simp_all)
  ((((h.prbAbort _ hc).when _ fun _ h1 => h1.setProbe _ _ hb).foldl _ hf).countWrap _ _ _ hc).settlePins hb

theorem Only.prbStore (h : Only ps s t) (sec : Nat) (x : BitVec 64) (hp : [.csr, .fab] ⊆ ps := by decide) : Only ps
    s (t.prbStore sec x) :=
  h.append hp ((((Only.refl _ t).setBmWord _ _ _ _).when _ (fun _ h1 => h1.setFlag _ _ _)).setProbe _ _)

theorem Only.prbDone (h : Only ps s t) (sec : Nat) (hp : [.csr] ⊆ ps := by decide) : Only ps s (t.prbDone sec) :=
  h.append hp ((Only.refl _ t).when _ (fun _ h1 => h1.setFld _ _ _))

theorem Only.prbTake (h : Only ps s t) (sec : Nat) (x : BitVec 64) (hp : [.csr, .fab] ⊆ ps := by decide) : Only ps s
    (t.prbTake sec x) :=
  h.append hp (Only.ite (Only.ite (((((Only.refl _ t).prbStore _ _).setFld _ _ _).setFld _ _ _).setProbe _ _)
      ((Only.refl _ t).prbStore _ _)) (Only.ite (Only.ite ((Only.refl _ t).prbDone _) ((((Only.refl _ t).prbStore _
      _).setProbe _ _).prbDone _)) (Only.refl _ t)))

theorem Only.prbEdge (h : Only ps s t) (sec : Nat) (hp : [.csr, .fab] ⊆ ps := by decide) : Only ps s (t.prbEdge sec)
    :=
  h.append hp (Only.ite (Only.refl _ t) (Only.ite ((Only.refl _ t).setProbe _ _) (((Only.refl _ t).setProbe _
      _).prbTake _ _)))

theorem Only.clockEdge (h : Only ps s t) (sec mask : Nat) (hp : [.csr, .fab, .draws] ⊆ ps := by decide) : Only ps s
    (t.clockEdge sec mask) :=
  h.append hp (Only.ite (Only.refl _ t) ((((((Only.refl _ t).with_draws _).keepLines _).when _ (fun _ h1 =>
      h1.prbEdge _)).with_fab _).keepLines _))

theorem Only.prbClock (h : Only ps s t) (sec : Nat) (hp : [.csr, .fab, .draws] ⊆ ps := by decide) : Only ps s
    (t.prbClock sec) :=
  h.append hp ((Only.refl _ t).clockEdge _ _)

theorem Only.prbClocks (h : Only ps s t) (sec n : Nat) (hp : [.csr, .fab, .draws] ⊆ ps := by decide) :
    Only ps s (t.prbClocks sec n) := by
  induction n with
  | zero => exact h
  | succ n ih => exact ih.prbClock _ hp

theorem Only.bmUpset (h : Only ps s t) (sec b w : Nat) (up : List (Fin 72)) (hp : [.fab] ⊆ ps := by decide) : Only
    ps s (t.bmUpset sec b w up) :=
  h.append hp (Only.ite (Only.refl _ t) ((Only.refl _ t).setBmWord _ _ _ _))

theorem Only.bmStore (h : Only ps s t) (sec b : Nat) (portB : Bool) (addr : Nat) (data : BitVec 72) (be : BitVec 8)
    (hp : [.fab] ⊆ ps := by decide) : Only ps s (t.bmStore sec b portB addr data be) :=
  h.append hp (Only.ite ((Only.refl _ t).setBmWord _ _ _ _) (Only.ite ((Only.refl _ t).setBmWord _ _ _ _)
      ((Only.refl _ t).setBmWord _ _ _ _)))

theorem Only.bmBefore (h : Only ps s t) (sec b : Nat) (portB : Bool) (addr : Nat) (be : BitVec 8) (rd : Bool) (hp :
    [.csr, .ic, .err] ⊆ ps := by decide) : Only ps s (t.bmBefore sec b portB addr be rd).2 := by
  refine h.append hp ?_
  unfold State.bmBefore
  dsimp only
  split
  · exact (Only.refl _ t).bmFetch _ _ _ _
  · exact Only.refl _ t

theorem Only.bmAfter (h : Only ps s t) (sec b : Nat) (portB : Bool) (addr : Nat) (data : BitVec 72) (be : BitVec 8)
    (rd sr : Bool) (pre : Option (BitVec 72 × Bool × Bool)) (hp : [.fab] ⊆ ps := by decide) : Only ps s (t.bmAfter
    sec b portB addr data be rd sr pre) :=
  h.append hp (Only.ite (((Only.ite (Only.refl _ t) ((Only.refl _ t).bmStore _ _ _ _ _ _)).setPortOut _ _ _
      _).with_fab _) ((Only.ite (Only.refl _ t) ((Only.refl _ t).bmStore _ _ _ _ _ _)).setPortOut _ _ _ _))

theorem Only.rmwEnd (h : Only ps s t) (sec b : Nat) (hp : [.fab] ⊆ ps := by decide) : Only ps s (t.rmwEnd sec b) :=
  h.append hp (Only.ite (Only.refl _ t) (((Only.refl _ t).with_fab _).foldl _ (fun _ _ h1 => h1.setPortOut _ _ _ _)))

theorem Only.queueFetch (h : Only ps s t) (q : QueueId) (n : Nat) (hp : [.csr, .ic, .err] ⊆ ps := by decide) : Only
    ps s (t.queueFetch q n).2 := by
  refine h.append hp ?_
  unfold State.queueFetch
  dsimp only
  split
  · exact (Only.refl _ t).bmFetch _ _ _ _
  · exact Only.refl _ t

theorem Only.queueFlag (h : Only ps s t) (q : QueueId) (f : Fld) (hp : [.csr] ⊆ ps := by decide) : Only ps s
    (t.queueFlag q f) := by
  refine h.append hp ?_
  unfold State.queueFlag
  split
  · exact (Only.refl _ t).setFlag _ _ _
  · exact Only.refl _ t

theorem Only.setCtr (h : Only ps s t) (d n : Nat) (hp : [.tim] ⊆ ps := by decide) : Only ps s (t.setCtr d n) :=
  h.append hp ((Only.refl _ t).with_tim _)

theorem Only.setSlew (h : Only ps s t) (d : Nat) (x : Int) (hp : [.tim] ⊆ ps := by decide) : Only ps s (t.setSlew d
    x) :=
  h.append hp ((Only.refl _ t).with_tim _)

theorem Only.setFreq (h : Only ps s t) (d : Nat) (f : Int) (hp : [.csr] ⊆ ps := by decide) : Only ps s (t.setFreq d
    f) :=
  h.append hp (((Only.refl _ t).setReg _ _).setReg _ _)

theorem Only.advanceDomain (h : Only ps s t) (k d : Nat) (hp : [.tim] ⊆ ps := by decide) : Only ps s
    (t.advanceDomain k d) :=
  h.append hp (((Only.refl _ t).setCtr _ _).setSlew _ _)

theorem Only.advance (h : Only ps s t) (k : Nat) (hp : [.tim] ⊆ ps := by decide) : Only ps s (t.advance k) :=
  h.append hp (Only.ite (Only.refl _ t) (((Only.refl _ t).forEach _ (fun _ _ h1 => h1.advanceDomain _ _)).with_tim _))

theorem Only.advanceTo (h : Only ps s t) (d tgt : Nat) (hp : [.tim] ⊆ ps := by decide) : Only ps s (t.advanceTo d
    tgt) :=
  h.append hp ((Only.refl _ t).advance _)

theorem Only.settle (h : Only ps s t) (n : Nat) (level : Bool) (hp : [.ic] ⊆ ps := by decide) : Only ps s (t.settle
    n level) :=
  h.append hp ((Only.refl _ t).when _ (fun _ h1 => h1.high _))

theorem Only.alarm (h : Only ps s t) (d : Nat) (f : Fld) (hp : [.csr, .ic] ⊆ ps := by decide) : Only ps s (t.alarm d
    f) :=
  h.append hp (((Only.refl _ t).setFlag _ _ _).settle _ _)

theorem Only.setCone (h : Only ps s t) (n : Nat) (c : Cone) (hp : [.tim] ⊆ ps := by decide) : Only ps s (t.setCone n
    c) :=
  h.append hp ((Only.refl _ t).with_tim _)

theorem Only.settleCone (h : Only ps s t) (n : Nat) (hp : [.ic] ⊆ ps := by decide) : Only ps s (t.settleCone n) :=
  h.append hp ((Only.refl _ t).settle _ _)

theorem Only.coneProduce (h : Only ps s t) (n : Nat) (hp : [.csr, .tim] ⊆ ps := by decide) : Only ps s
    (t.coneProduce n) :=
  h.append hp ((((Only.refl _ t).setFlag _ _ _).countWrap _ _ _).with_tim _)

theorem Only.coneDone (h : Only ps s t) (n : Nat) (hp : [.csr] ⊆ ps := by decide) : Only ps s (t.coneDone n) :=
  h.append hp (((Only.refl _ t).setFlag _ _ _).setFlag _ _ _)

theorem Only.coneMove (h : Only ps s t) (n k served : Nat) (hp : [.csr, .tim] ⊆ ps := by decide) : Only ps s
    (t.coneMove n k served) :=
  h.append hp (Only.ite ((Only.refl _ t).coneDone _) (((Only.refl _ t).setCone _ _).count _ _ _))

theorem Only.coneDisarm (h : Only ps s t) (n : Nat) (hp : [.csr] ⊆ ps := by decide) : Only ps s (t.coneDisarm n) :=
  h.append hp (((Only.refl _ t).setFlag _ _ _).setFlag _ _ _)

theorem Only.coneJump (h : Only ps s t) (n : Nat) (hp : [.csr, .ic, .tim] ⊆ ps := by decide) : Only ps s (t.coneJump
    n) :=
  h.append hp (Only.ite (((((Only.refl _ t).coneProduce _).setFlag _ _ _).coneMove _ _ _).settleCone _) (Only.refl _
      t))

theorem Only.jump (h : Only ps s t) (d : Nat) (new : Int) (hp : [.csr, .ic, .tim] ⊆ ps := by decide) : Only ps s
    (t.jump d new) :=
  h.append hp ((((((Only.refl _ t).with_tim _).setCtr _ _).alarm _ _).forEach _ (fun _ _ h1 => h1.with_tim _)).when
      _ (fun _ h1 => h1.forEach _ (fun _ _ h2 => h2.coneJump _)))

theorem Only.timSet (h : Only ps s t) (d : Nat) (hp : [.csr, .ic, .tim] ⊆ ps := by decide) : Only ps s (t.timSet d) :=
  h.append hp (((Only.refl _ t).setSlew _ _).jump _ _)

theorem Only.timSnap (h : Only ps s t) (d : Nat) (hp : [.csr] ⊆ ps := by decide) : Only ps s (t.timSnap d) :=
  h.append hp (((((Only.refl _ t).setReg _ _).setReg _ _).setReg _ _).setReg _ _)

theorem Only.setSample (h : Only ps s t) (d : Nat) (busy wait : Option Int) (hp : [.tim] ⊆ ps := by decide) : Only
    ps s (t.setSample d busy wait) :=
  h.append hp ((Only.refl _ t).with_tim _)

theorem Only.showSample (h : Only ps s t) (d : Nat) (theta : Int) (hp : [.csr] ⊆ ps := by decide) : Only ps s
    (t.showSample d theta) :=
  h.append hp (((Only.refl _ t).setReg _ _).setReg _ _)

theorem Only.submit (h : Only ps s t) (d : Nat) (theta : Int) (hp : [.csr, .ic, .tim] ⊆ ps := by decide) : Only ps s
    (t.submit d theta) := by
  refine h.append hp ?_
  unfold State.submit
  split
  · exact Only.refl _ t
  · split
    · exact (Only.refl _ t).setSample _ _ _
    · exact (Only.refl _ t).setSample _ _ _
    · exact ((Only.refl _ t).setSample _ _ _).alarm _ _

theorem Only.capPop (h : Only ps s t) (g : Nat) (hp : [.csr, .tim] ⊆ ps := by decide) : Only ps s (t.capPop g).2 := by
  refine h.append hp ?_
  unfold State.capPop
  dsimp only
  split
  · exact Only.refl _ t
  · exact ((((Only.refl _ t).with_tim _).setReg _ _).setReg _ _).setReg _ _

theorem Only.setTsFifo (h : Only ps s t) (n : Nat) (l : List (Nat × Nat)) (hp : [.tim] ⊆ ps := by decide) : Only ps
    s (t.setTsFifo n l) :=
  h.append hp ((Only.refl _ t).with_tim _)

theorem Only.tsPop (h : Only ps s t) (n : Nat) (hp : [.csr, .tim] ⊆ ps := by decide) : Only ps s (t.tsPop n).2 := by
  refine h.append hp ?_
  unfold State.tsPop
  split
  · exact (((Only.refl _ t).setTsFifo _ _).setReg _ _).setReg _ _
  · exact Only.refl _ t

theorem Only.timeEvt (h : Only ps s t) (n : Nat) (hp : [.tim] ⊆ ps := by decide) : Only ps s (t.timeEvt n) :=
  h.append hp ((Only.refl _ t).forEach _ (fun _ _ h1 => h1.with_tim _))

theorem Only.setLane (h : Only ps s t) (n : Nat) (x : Lane) (hp : [.ser] ⊆ ps := by decide) : Only ps s (t.setLane n
    x) :=
  h.append hp ((Only.refl _ t).with_ser _)

theorem Only.setCoder (h : Only ps s t) (n : Nat) (x : Coder) (hp : [.ser] ⊆ ps := by decide) : Only ps s
    (t.setCoder n x) :=
  h.append hp ((Only.refl _ t).with_ser _)

theorem Only.setQuad (h : Only ps s t) (q : Nat) (x : Quad) (hp : [.ser] ⊆ ps := by decide) : Only ps s (t.setQuad q
    x) :=
  h.append hp ((Only.refl _ t).with_ser _)

theorem Only.setSkm (h : Only ps s t) (e : Nat) (x : Skm) (hp : [.ser] ⊆ ps := by decide) : Only ps s (t.setSkm e x)
    :=
  h.append hp ((Only.refl _ t).with_ser _)

theorem Only.lnEvent (h : Only ps s t) (n bit code sev : Nat) (hp : [.csr, .ic, .err] ⊆ ps := by decide) : Only ps s
    (t.lnEvent n bit code sev) :=
  h.append hp ((((Only.refl _ t).setBit _ _ _).when _ (fun _ h1 => h1.report _ _)).settle _ _)

theorem Only.lqEvent (h : Only ps s t) (q bit code sev : Nat) (hp : [.csr, .ic, .err] ⊆ ps := by decide) : Only ps s
    (t.lqEvent q bit code sev) :=
  h.append hp ((((Only.refl _ t).setBit _ _ _).report _ _).settle _ _)

theorem Only.pcsRecord (h : Only ps s t) (n code sev : Nat) (hp : [.csr, .ic, .err] ⊆ ps := by decide) : Only ps s
    (t.pcsRecord n code sev) :=
  h.append hp ((Only.refl _ t).report _ _)

theorem Only.grpEvent (h : Only ps s t) (g bit : Nat) (hp : [.csr, .ic] ⊆ ps := by decide) : Only ps s (t.grpEvent g
    bit) :=
  h.append hp (((Only.refl _ t).setBit _ _ _).settle _ _)

theorem Only.grpRecord (h : Only ps s t) (g code cause lane : Nat) (hp : [.csr, .ic, .err] ⊆ ps := by decide) : Only
    ps s (t.grpRecord g code cause lane) :=
  h.append hp ((Only.refl _ t).report _ _)

theorem Only.lnCount (h : Only ps s t) (off n : Nat) (hp : [.csr] ⊆ ps := by decide) : Only ps s (t.lnCount off n) :=
  h.append hp ((Only.refl _ t).when _ (fun _ h1 => h1.count _ _ _))

theorem Only.setGrpState (h : Only ps s t) (g n : Nat) (hp : [.csr] ⊆ ps := by decide) : Only ps s (t.setGrpState g
    n) :=
  h.append hp ((Only.refl _ t).setFld _ _ _)

theorem Only.grpTry (h : Only ps s t) (g : Nat) (hp : [.csr] ⊆ ps := by decide) : Only ps s (t.grpTry g) :=
  h.append hp (Only.ite ((Only.refl _ t).setGrpState _ _) (Only.refl _ t))

theorem Only.grpFault (h : Only ps s t) (g cause lane : Nat) (hp : [.csr, .ic, .err] ⊆ ps := by decide) : Only ps s
    (t.grpFault g cause lane) :=
  h.append hp ((((((((Only.refl _ t).setFld _ _ _).setFld _ _ _).setFld _ _ _).lnCount _ _).grpRecord _ _ _
      _).grpEvent _ _).grpTry _)

theorem Only.memberFault (h : Only ps s t) (n cause : Nat) (hp : [.csr, .ic, .err] ⊆ ps := by decide) : Only ps s
    (t.memberFault n cause) := by
  refine h.append hp ?_
  unfold State.memberFault
  split
  · exact (Only.refl _ t).when _ (fun _ h1 => h1.grpFault _ _ _)
  · exact Only.refl _ t

theorem Only.memberLock (h : Only ps s t) (n : Nat) (hp : [.csr] ⊆ ps := by decide) : Only ps s (t.memberLock n) := by
  refine h.append hp ?_
  unfold State.memberLock
  split
  · exact (Only.refl _ t).grpTry _
  · exact Only.refl _ t

theorem Only.unlock (h : Only ps s t) (n : Nat) (logged : Bool) (cause : Nat) (hp : [.csr, .ic, .err, .ser] ⊆ ps :=
    by decide) : Only ps s (t.unlock n logged cause) :=
  h.append hp (Only.ite (((Only.refl _ t).setReg _ _).setCoder _ _) (((((Only.refl _ t).setReg _ _).setCoder _
      _).when _ (fun _ h1 => (h1.setFlag _ _ _).pcsRecord _ _ _)).memberFault _ _))

theorem Only.lockUp (h : Only ps s t) (n : Nat) (hp : [.csr] ⊆ ps := by decide) : Only ps s (t.lockUp n) := by
  refine h.append hp ?_
  unfold State.lockUp
  dsimp only
  split
  · exact (((Only.refl _ t).setFlag _ _ _).setFlag _ _ _).memberLock _
  · exact (((Only.refl _ t).setFlag _ _ _).setFlag _ _ _).memberLock _
  · exact (((Only.refl _ t).setFlag _ _ _).setFlag _ _ _).memberLock _
  · exact (((Only.refl _ t).setFlag _ _ _).setFlag _ _ _).memberLock _
  · exact ((Only.refl _ t).setFlag _ _ _).memberLock _

theorem Only.prbsOut (h : Only ps s t) (n : Nat) (hp : [.csr] ⊆ ps := by decide) : Only ps s (t.prbsOut n) :=
  h.append hp ((Only.refl _ t).setFlag _ _ _)

theorem Only.lolRise (h : Only ps s t) (n cause : Nat) (hp : [.csr, .ic, .err, .ser] ⊆ ps := by decide) : Only ps s
    (t.lolRise n cause) :=
  h.append hp (((((Only.refl _ t).setFlag _ _ _).prbsOut _).unlock _ _ _).when _ (fun _ h1 => h1.lnEvent _ _ _ _))

theorem Only.codeStart (h : Only ps s t) (n : Nat) (hp : [.ser, .draws] ⊆ ps := by decide) : Only ps s (t.codeStart
    n) :=
  h.append hp ((((Only.refl _ t).draw).draw).setCoder _ _)

theorem Only.setMode (h : Only ps s t) (n : Nat) (mode : Word) (hp : [.csr, .ic, .err, .ser, .draws] ⊆ ps := by
    decide) : Only ps s (t.setMode n mode) :=
  h.append hp (Only.ite ((Only.refl _ t).setLane _ _) (((((Only.refl _ t).setLane _ _).unlock _ _ _).codeStart
      _).when _ (fun _ h1 => h1.lockUp _)))

theorem Only.pllGone (h : Only ps s t) (n : Nat) (hp : [.csr, .ic, .err, .ser] ⊆ ps := by decide) : Only ps s
    (t.pllGone n) :=
  h.append hp (((Only.refl _ t).setLane _ _).lolRise _ _)

theorem Only.lcTake (h : Only ps s t) (q : Nat) (hp : [.csr, .ic, .err, .ser] ⊆ ps := by decide) : Only ps s
    (t.lcTake q) :=
  h.append hp (Only.ite (Only.refl _ t) ((((Only.refl _ t).setQuad _ _).setFlag _ _ _).when _ (fun _ h1 =>
      h1.forEach _ (fun _ _ h2 => h2.when _ (fun _ h3 => h3.pllGone _)))))

theorem Only.lanePend (h : Only ps s t) (n : Nat) (hp : [.csr, .ic, .err, .ser, .draws] ⊆ ps := by decide) : Only ps
    s (t.lanePend n) := by
  refine h.append hp ?_
  unfold State.lanePend
  generalize t.target n = x
  obtain ⟨rate, rpll, rfrac, ffe, mode⟩ := x
  exact .ite ((Only.refl _ t).setFlag _ _ _) (((Only.refl _ t).setMode _ _).setLane _ _)

theorem Only.quadSet {f : State → Nat → State} (h : Only ps s t) (q : Nat) (hf : ∀ u x, Only ps s u → Only ps s (f u x))
    (hp : [.csr, .ic, .err] ⊆ ps := by decide) : Only ps s (t.quadSet q f) := by
  unfold State.quadSet
  refine Only.forEach (.ite (hf _ _ (hf _ _ (hf _ _ h))) (h.lqEvent _ _ _ _ hp)) _ fun u n hu => ?_
  have h1 : ∀ {c : Prop} [Decidable c], Only ps s (if c then f (f (f u (R.LN_RATE n)) (R.LN_RPLL n)) (R.LN_RFRAC n) else
      u.lnEvent n 6 0x05 0) := .ite (hf _ _ (hf _ _ (hf _ _ hu))) (hu.lnEvent _ _ _ _ hp)
  have h3 : ∀ v, Only ps s v → ∀ {c : Prop} [Decidable c], Only ps s (f (if c then f v (R.LN_TX_FFE n) else v.lnEvent n 7 0x06 0)
      (R.LN_RX_EQ n)) := fun v hv => hf _ _ (.ite (hf _ _ hv) (hv.lnEvent _ _ _ _ hp))
  have hr : ∀ v off g b code, Only ps s v → Only ps s ((v.setFlag off g b).pcsRecord n code 0) := fun v off g b code hv =>
    hv.append hp (((Only.refl [.csr, .ic, .err] v).setFlag _ _ _).pcsRecord _ _ _)
  exact .ite (hf _ _ (h3 _ h1)) (hr _ _ _ _ _ (h3 _ h1))

theorem Only.quadAct (h : Only ps s t) (q : Nat) (hp : [.csr, .ic, .err, .ser, .draws] ⊆ ps := by decide) : Only ps
    s (t.quadAct q) :=
  h.append hp (((Only.refl _ t).forEach _ (fun _ _ h1 => (Only.ite h1 (h1.setMode _ _)).lanePend _)).when _ (fun _
      h1 => h1.lcTake _))

theorem Only.grpSet {f : State → Nat → State} (h : Only ps s t) (g : Nat) (hf : ∀ u x, Only ps s u → Only ps s (f u x))
    (hp : [.csr, .ic, .err] ⊆ ps := by decide) : Only ps s (t.grpSet g f) :=
  .ite (h.append hp (((Only.refl [.csr, .ic, .err] t).grpEvent _ _).grpRecord _ _ _ _)) (hf _ _ (hf _ _ h))

theorem Only.markStart (h : Only ps s t) (g : Nat) (hp : [.ser] ⊆ ps := by decide) : Only ps s (t.markStart g) :=
  h.append hp ((Only.refl _ t).forEach _ (fun _ _ h1 => h1.setCoder _ _))

theorem Only.grpAct (h : Only ps s t) (g : Nat) (hp : [.csr, .ic, .err, .ser] ⊆ ps := by decide) : Only ps s
    (t.grpAct g) :=
  h.append hp (Only.ite ((Only.refl _ t).setGrpState _ _) (Only.ite (((Only.refl _ t).markStart _).grpFault _ _ _)
      ((Only.refl _ t).grpTry _)))

theorem Only.grpFire (h : Only ps s t) (g : Nat) (hp : [.csr, .stg, .ic, .err] ⊆ ps := by decide) : Only ps s
    (t.grpFire g) :=
  h.append hp (Only.ite (((Only.refl _ t).grpSet _ (fun _ _ h1 => h1.exchangeReg _)).grpFault _ _ _) ((Only.refl _
      t).grpSet _ (fun _ _ h1 => h1.exchangeReg _)))

theorem Only.skmPend (h : Only ps s t) (ls : List Nat) (hp : [.csr, .ic, .err, .ser, .draws] ⊆ ps := by decide) :
    Only ps s (t.skmPend ls) :=
  h.append hp ((Only.refl _ t).forEach _ (fun _ _ h1 => h1.lanePend _))

theorem Only.engage (h : Only ps s t) (e t0 : Nat) (hp : [.csr, .ic, .err, .ser, .draws] ⊆ ps := by decide) : Only
    ps s (t.engage e t0) :=
  h.append hp (Only.ite (Only.refl _ t) ((((Only.refl _ t).setFlag _ _ _).setSkm _ _).skmPend _))

theorem Only.unengage (h : Only ps s t) (e : Nat) (hp : [.csr, .ic, .err, .ser, .draws] ⊆ ps := by decide) : Only ps
    s (t.unengage e) :=
  h.append hp (Only.ite (((Only.refl _ t).setFlag _ _ _).skmPend _) (Only.refl _ t))

theorem Only.skmEvent (h : Only ps s t) (e bit : Nat) (hp : [.csr, .ic] ⊆ ps := by decide) : Only ps s (t.skmEvent e
    bit) :=
  h.append hp (((Only.refl _ t).setBit _ _ _).settle _ _)

theorem Only.skmGo (h : Only ps s t) (e st : Nat) (hp : [.csr, .ser] ⊆ ps := by decide) : Only ps s (t.skmGo e st) :=
  h.append hp (((Only.refl _ t).setFld _ _ _).setSkm _ _)

theorem Only.skmDetect (h : Only ps s t) (e : Nat) (hp : [.csr, .ic, .err, .ser, .draws] ⊆ ps := by decide) : Only
    ps s (t.skmDetect e) :=
  h.append hp (((((Only.refl _ t).skmGo _ _).setFld _ _ _).setFld _ _ _).engage _ _)

theorem Only.skmOff (h : Only ps s t) (e : Nat) (hp : [.csr, .ic, .err, .ser, .draws] ⊆ ps := by decide) : Only ps s
    (t.skmOff e) :=
  h.append hp (((Only.refl _ t).skmGo _ _).unengage _)

theorem Only.skmRelease (h : Only ps s t) (e : Nat) (hp : [.csr, .ic, .err, .ser, .draws] ⊆ ps := by decide) : Only
    ps s (t.skmRelease e) :=
  h.append hp (((Only.refl _ t).skmGo _ _).unengage _)

theorem Only.gatePush (h : Only ps s t) (q : FireReq) (hp : [.gate] ⊆ ps := by decide) : Only ps s (t.gatePush q) :=
  h.append hp ((Only.refl _ t).with_gate _)

theorem Only.skmStartAll (h : Only ps s t) (hp : [.csr, .ic, .err, .ser, .draws] ⊆ ps := by decide) : Only ps s
    (t.skmStartAll) :=
  h.append hp (Only.ite (Only.refl _ t) ((Only.refl _ t).forEach _ (fun _ _ h1 => h1.when _ (fun _ h2 =>
      h2.skmDetect _))))

theorem Only.skmStopAll (h : Only ps s t) (hp : [.csr, .ic, .err, .ser, .draws] ⊆ ps := by decide) : Only ps s
    (t.skmStopAll) :=
  h.append hp ((Only.refl _ t).forEach _ (fun _ _ h1 => h1.when _ (fun _ h2 => h2.skmOff _)))

theorem Only.skmCrossed (h : Only ps s t) (hp : [.csr, .ic, .err, .ser, .draws] ⊆ ps := by decide) : Only ps s
    (t.skmCrossed) :=
  h.append hp (Only.ite (Only.refl _ t) ((Only.refl _ t).forEach _ (fun _ _ h1 => h1.when _ (fun _ h2 =>
      h2.skmRelease _))))

theorem Only.setNoc (h : Only ps s t) (n : Noc) (hp : [.noc] ⊆ ps := by decide) : Only ps s (t.setNoc n) :=
  h.append hp ((Only.refl _ t).with_noc _)

theorem Only.inject (h : Only ps s t) (router : Nat) (p : Packet) (hp : [.noc] ⊆ ps := by decide) : Only ps s
    (t.inject router p) :=
  h.append hp ((Only.refl _ t).setNoc _)

theorem Only.nocRecord (h : Only ps s t) (unit router event sev port src dst : Nat) (hp : [.csr, .ic, .err] ⊆ ps :=
    by decide) : Only ps s (t.nocRecord unit router event sev port src dst) :=
  h.append hp ((Only.refl _ t).report _ _)

theorem Only.niDrop (h : Only ps s t) (e : Nat) (hp : [.csr] ⊆ ps := by decide) : Only ps s (t.niDrop e) :=
  h.append hp ((Only.refl _ t).count _ _ _)

theorem Only.setFence (h : Only ps s t) (n v : Nat) (hp : [.csr] ⊆ ps := by decide) : Only ps s (t.setFence n v) :=
  h.append hp ((Only.refl _ t).setFld _ _ _)

theorem Only.respond (h : Only ps s t) (e : Nat) (q : Packet) (status : Nat) (data : List Byte) (hp : [.noc] ⊆ ps :=
    by decide) : Only ps s (t.respond e q status data) :=
  h.append hp ((Only.refl _ t).inject _ _)

theorem Only.turnAway (h : Only ps s t) (e : Nat) (q : Packet) (status : Nat) (hp : [.csr, .noc] ⊆ ps := by decide)
    : Only ps s (t.turnAway e q status) :=
  h.append hp (Only.ite ((Only.refl _ t).niDrop _) ((Only.refl _ t).respond _ _ _ _))

theorem Only.complete (h : Only ps s t) (c : Completion) (hp : [.noc] ⊆ ps := by decide) : Only ps s (t.complete c) :=
  h.append hp ((Only.refl _ t).setNoc _)

theorem Only.routerAnswer (h : Only ps s t) (n : Nat) (q : Packet) (status : Nat) (hp : [.noc] ⊆ ps := by decide) :
    Only ps s (t.routerAnswer n q status) :=
  h.append hp ((Only.refl _ t).inject _ _)

theorem Only.fenceStart (h : Only ps s t) (n : Nat) (hp : [.csr, .noc] ⊆ ps := by decide) : Only ps s (t.fenceStart
    n) :=
  h.append hp ((((Only.refl _ t).setFence _ _).setNoc _).forEach _ (fun _ _ h1 => h1.turnAway _ _ _))

theorem Only.decErr (h : Only ps s t) (e : Nat) (hp : [.csr, .ic, .err] ⊆ ps := by decide) : Only ps s (t.decErr e) :=
  h.append hp (((Only.refl _ t).count _ _ _).nocRecord _ _ _ _ _ _ _)

theorem Only.setMc (h : Only ps s t) (c : Nat) (x : Mc) (hp : [.mc] ⊆ ps := by decide) : Only ps s (t.setMc c x) :=
  h.append hp ((Only.refl _ t).with_mc _)

theorem Only.setMcState (h : Only ps s t) (c n : Nat) (hp : [.csr, .mc] ⊆ ps := by decide) : Only ps s (t.setMcState
    c n) :=
  h.append hp (Only.ite (((Only.ite (Only.refl _ t) ((Only.refl _ t).setMc _ _)).setFld _ _ _).setFld _ _ _)
      (Only.ite (((Only.ite (Only.refl _ t) ((Only.refl _ t).setMc _ _)).setFld _ _ _).setFld _ _ _) ((Only.ite
      (Only.refl _ t) ((Only.refl _ t).setMc _ _)).setFld _ _ _)))

theorem Only.mcEvent (h : Only ps s t) (c bit : Nat) (hp : [.csr, .ic] ⊆ ps := by decide) : Only ps s (t.mcEvent c
    bit) :=
  h.append hp (((((Only.refl _ t).setBit _ _ _).settle _ _).settle _ _).settle _ _)

theorem Only.mcRecord (h : Only ps s t) (c code sev detail : Nat) (hp : [.csr, .ic, .err] ⊆ ps := by decide) : Only
    ps s (t.mcRecord c code sev detail) :=
  h.append hp ((Only.refl _ t).report _ _)

theorem Only.mcMemory (h : Only ps s t) (c type word line : Nat) (hp : [.csr, .ic, .err] ⊆ ps := by decide) : Only
    ps s (t.mcMemory c type word line) := by
  refine h.append hp ?_
  unfold State.mcMemory
  dsimp only
  split
  · exact ((((Only.refl _ t).setReg _ _).report _ _).count _ _ _).mcEvent _ _
  · exact ((((Only.refl _ t).setReg _ _).report _ _).count _ _ _).mcEvent _ _
  · exact (((Only.refl _ t).setReg _ _).report _ _).mcEvent _ _

theorem Only.setRldWord (h : Only ps s t) (c line w : Nat) (x : BmWord) (hp : [.rld] ⊆ ps := by decide) : Only ps s
    (t.setRldWord c line w x) :=
  h.append hp ((Only.refl _ t).with_rld _)

theorem Only.rldDrop (h : Only ps s t) (c : Nat) (zero : Bool) (hp : [.rld] ⊆ ps := by decide) : Only ps s
    (t.rldDrop c zero) :=
  h.append hp ((Only.refl _ t).with_rld _)

theorem Only.rldWrite (h : Only ps s t) (c line w off : Nat) (bytes : List Byte) (poison : Bool) (hp : [.csr, .ic,
    .err, .rld] ⊆ ps := by decide) : Only ps s (t.rldWrite c line w off bytes poison) :=
  h.append hp (Only.ite (Only.refl _ t) ((((Only.refl _ t).setRldWord _ _ _ _).when _ (fun _ h1 => h1.mcMemory _ _ _
      _)).when _ (fun _ h1 => h1.mcMemory _ _ _ _)))

theorem Only.mcPerform (h : Only ps s t) (c : Nat) (e : McEnt) (slot : Nat) (hp : [.csr, .ic, .err, .mc, .rld] ⊆ ps
    := by decide) : Only ps s (t.mcPerform c e slot) :=
  h.append hp (Only.ite ((Only.refl _ t).forEach _ (fun _ _ h1 => h1.rldWrite _ _ _ _ _ _)) ((Only.refl _ t).setMc _
      _))

theorem Only.mcReady (h : Only ps s t) (c : Nat) (hp : [.csr, .ic, .mc] ⊆ ps := by decide) : Only ps s (t.mcReady c)
    :=
  h.append hp (Only.ite ((((Only.refl _ t).setMcState _ _).setMc _ _).mcEvent _ _) ((Only.refl _ t).setMcState _ _))

theorem Only.mcFreeze (h : Only ps s t) (c : Nat) (halt : Bool) (hp : [.csr, .ic, .mc] ⊆ ps := by decide) : Only ps
    s (t.mcFreeze c halt) :=
  h.append hp (Only.ite (((Only.refl _ t).setMc _ _).mcReady _) ((Only.refl _ t).setMc _ _))

theorem Only.mcFreezeUe (h : Only ps s t) (c : Nat) (b : Bool) (hp : [.csr, .ic, .mc] ⊆ ps := by decide) : Only ps s
    (t.mcFreezeUe c b) :=
  h.append hp ((Only.refl _ t).when _ (fun _ h1 => h1.mcFreeze _ _))

theorem Only.mcAnswerAll (h : Only ps s t) (c : Nat) (hp : [.csr, .noc, .mc] ⊆ ps := by decide) : Only ps s
    (t.mcAnswerAll c) :=
  h.append hp (((Only.refl _ t).setMc _ _).forEach _ (fun _ _ h1 => h1.turnAway _ _ _))

theorem Only.mcAbandon (h : Only ps s t) (c : Nat) (hp : [.csr, .noc, .mc] ⊆ ps := by decide) : Only ps s
    (t.mcAbandon c) :=
  h.append hp (((Only.refl _ t).mcAnswerAll _).setMc _ _)

theorem Only.mcPass (h : Only ps s t) (c k : Nat) (hp : [.mc] ⊆ ps := by decide) : Only ps s (t.mcPass c k) :=
  h.append hp ((Only.refl _ t).setMc _ _)

theorem Only.mcAged (h : Only ps s t) (c port slot : Nat) (hp : [.csr, .ic] ⊆ ps := by decide) : Only ps s (t.mcAged
    c port slot) :=
  h.append hp (((Only.refl _ t).setReg _ _).when _ (fun _ h1 => (h1.count _ _ _).mcEvent _ _))

theorem Only.mcPlace (h : Only ps s t) (c id n : Nat) (hp : [.mc] ⊆ ps := by decide) : Only ps s (t.mcPlace c id n) := by
  induction n generalizing t with
  | zero => exact h
  | succ n ih =>
    unfold State.mcPlace
    dsimp only
    split
    · exact h
    split
    · exact h
    · exact ih (h.setMc _ _ hp)

theorem Only.mcForget (h : Only ps s t) (c id : Nat) (hp : [.mc] ⊆ ps := by decide) : Only ps s (t.mcForget c id) :=
  h.append hp ((Only.refl _ t).setMc _ _)

theorem Only.mcEnReject (h : Only ps s t) (c : Nat) (hp : [.csr, .ic, .err] ⊆ ps := by decide) : Only ps s
    (t.mcEnReject c) :=
  h.append hp ((((Only.refl _ t).setFlag _ _ _).setFlag _ _ _).mcRecord _ _ _ _)

theorem Only.mtEvent (h : Only ps s t) (c bit : Nat) (hp : [.csr, .ic] ⊆ ps := by decide) : Only ps s (t.mtEvent c
    bit) :=
  h.append hp (((Only.refl _ t).setBit _ _ _).settle _ _)

theorem Only.mtRecord (h : Only ps s t) (c code sev detail : Nat) (hp : [.csr, .ic, .err] ⊆ ps := by decide) : Only
    ps s (t.mtRecord c code sev detail) :=
  h.append hp ((Only.refl _ t).report _ _)

theorem Only.swapRegs (h : Only ps s t) (a b : Nat) (hp : [.csr] ⊆ ps := by decide) : Only ps s (t.swapRegs a b) :=
  h.append hp (((Only.refl _ t).setReg _ _).setReg _ _)

theorem Only.mtReload (h : Only ps s t) (c : Nat) (hp : [.csr] ⊆ ps := by decide) : Only ps s (t.mtReload c) :=
  h.append hp ((Only.refl _ t).forEach _ (fun _ _ h1 => h1.setReg _ _))

theorem Only.mtLeave (h : Only ps s t) (c : Nat) (hp : [.csr, .rld] ⊆ ps := by decide) : Only ps s (t.mtLeave c) :=
  h.append hp ((Only.ite (((Only.refl _ t).setFlag _ _ _).setFlag _ _ _) (Only.refl _ t)).rldDrop _ _)

theorem Only.helperStore (h : Only ps s t) (c pat line count : Nat) (ok : Nat → Bool) (hp : [.rld, .draws] ⊆ ps :=
    by decide) : Only ps s (t.helperStore c pat line count ok) :=
  h.append hp (((Only.refl _ t).forEach _ (fun _ _ h1 => h1.setRldWord _ _ _ _)).with_draws _)

theorem Only.mtRun (h : Only ps s t) (c : Nat) (hp : [.csr] ⊆ ps := by decide) : Only ps s (t.mtRun c) :=
  h.append hp (Only.ite ((((((Only.refl _ t).setFlag _ _ _).setFlag _ _ _).setReg _ _).setReg _ _).setReg _ _)
      ((Only.refl _ t).setFlag _ _ _))

theorem Only.setPr (h : Only ps s t) (c n : Nat) (hp : [.csr] ⊆ ps := by decide) : Only ps s (t.setPr c n) :=
  h.append hp ((Only.refl _ t).setFld _ _ _)

theorem Only.prReject (h : Only ps s t) (c : Nat) (hp : [.csr, .ic, .err] ⊆ ps := by decide) : Only ps s (t.prReject
    c) :=
  h.append hp (((((Only.refl _ t).setFlag _ _ _).setFlag _ _ _).mtEvent _ _).mtRecord _ _ _ _)

theorem Only.coneSlices (h : Only ps s t) (n : Nat) (hp : [.fab] ⊆ ps := by decide) : Only ps s (t.coneSlices n) :=
  h.append hp (Only.ite (Only.refl _ t) ((Only.refl _ t).forEach _ (fun _ _ h1 => Only.ite (h1.setGroup _ _)
      (Only.ite (h1.setGroup _ _) (h1.setGroup _ _)))))

theorem Only.coneMaint (h : Only ps s t) (n : Nat) (hp : [.csr] ⊆ ps := by decide) : Only ps s (t.coneMaint n) :=
  h.append hp ((Only.refl _ t).forEach _ (fun _ _ h1 => Only.ite (h1.setFlag _ _ _) (Only.ite (h1.setFlag _ _ _)
      (Only.ite (h1.setFlag _ _ _) h1))))

theorem Only.timeHoldover (h : Only ps s t) (hp : [.csr, .ic] ⊆ ps := by decide) : Only ps s (t.timeHoldover) :=
  h.append hp (Only.ite (Only.refl _ t) ((((Only.refl _ t).setFlag _ _ _).setFlag _ _ _).forEach _ (fun _ _ h1 =>
      h1.alarm _ _)))

theorem Only.timeSteady (h : Only ps s t) (hp : [.csr] ⊆ ps := by decide) : Only ps s (t.timeSteady) :=
  h.append hp (((Only.refl _ t).setFlag _ _ _).setFlag _ _ _)

theorem Only.holdAll (h : Only ps s t) (rs : List Nat) (hp : [.csr, .fab, .draws] ⊆ ps := by decide) : Only ps s
    (t.holdAll rs) :=
  h.append hp (Only.ite (Only.refl _ t) (((((Only.refl _ t).forEach _ (fun _ _ h1 => h1.keepLines _)).forEach _ (fun
      _ _ h1 => h1.holdCells _ _)).forEach _ (fun _ _ h1 => h1.setFlag _ _ _)).dropStarts))

theorem Only.linesRise (h : Only ps s t) (pre : State) (hp : [.ic] ⊆ ps := by decide) : Only ps s (t.linesRise pre) :=
  h.append hp ((Only.refl _ t).forEach _ (fun _ _ h1 => Only.ite (h1.raise _) (h1.high _)))

theorem Only.settleHold (h : Only ps s t) (r : Nat) (hp : [.csr, .ic, .fab, .draws] ⊆ ps := by decide) : Only ps s
    (t.settleHold r) :=
  h.append hp (Only.ite ((Only.refl _ t).holdAll _) ((Only.refl _ t).when _ (fun _ h1 => ((h1.setFlag _ _
      _).freeCells).linesRise _)))

theorem Only.pdSettle (h : Only ps s t) (k : Nat) (hp : [.csr, .ic, .fab, .noc, .draws] ⊆ ps := by decide) : Only ps
    s (t.pdSettle k) :=
  h.append hp (Only.ite (Only.refl _ t) (Only.ite ((Only.refl _ t).setBit _ _ _) (Only.ite (Only.refl _ t)
      (((((Only.refl _ t).setBit _ _ _).forEach _ (fun _ _ h1 => h1.settleHold _)).fenceStart _).fenceStart _))))

theorem Only.pdSettleAll (h : Only ps s t) (hp : [.csr, .ic, .fab, .noc, .draws] ⊆ ps := by decide) : Only ps s
    (t.pdSettleAll) :=
  h.append hp ((Only.refl _ t).forEach _ (fun _ _ h1 => h1.pdSettle _))

theorem Only.refuseRecord (h : Only ps s t) (r reason bits : Nat) (hp : [.csr, .ic, .err] ⊆ ps := by decide) : Only
    ps s (t.refuseRecord r reason bits) :=
  h.append hp (((Only.refl _ t).when _ (fun _ h1 => h1.setFld _ _ _)).report _ _)

theorem Only.refuseAt (h : Only ps s t) (r reason bits : Nat) (hp : [.csr, .ic, .err, .gate] ⊆ ps := by decide) :
    Only ps s (t.refuseAt r reason bits) :=
  h.append hp (Only.ite ((Only.refl _ t).with_gate _) ((Only.refl _ t).refuseRecord _ _ _))

theorem Only.scrubForget (h : Only ps s t) (r : Nat) (hp : [.csr, .scrub] ⊆ ps := by decide) : Only ps s
    (t.scrubForget r) :=
  h.append hp ((((Only.refl _ t).with_scrub _).when _ (fun _ h1 => h1.setFlag _ _ _)).setBit _ _ _)

theorem Only.fireProbes (h : Only ps s t) (r : Nat) (hp : [.csr] ⊆ ps := by decide) : Only ps s (t.fireProbes r) :=
  h.append hp ((Only.refl _ t).forEach _ (fun _ _ h1 => h1.when _ (fun _ h2 => h2.prbAbort _)))

theorem Only.fireRegion (h : Only ps s t) (r : Nat) (hp : [.csr, .act, .shd, .rgn, .scrub, .fab, .clk] ⊆ ps := by
    decide) : Only ps s (t.fireRegion r) :=
  h.append hp ((((((((((((((Only.refl _ t).fireProbes _).fireFabric _ _).fireFfs _ _).fireClocks _).swapPlanes
      _).setRg _ _).setFld _ _ _).setFld _ _ _).setFld _ _ _).setFld _ _ _).setShadow _ _).countWrap _ _
      _).scrubForget _)

theorem Only.fireTime (h : Only ps s t) (hp : [.csr] ⊆ ps := by decide) : Only ps s (t.fireTime) :=
  h.append hp (((Only.refl _ t).setReg _ _).setReg _ _)

theorem Only.skmFired (h : Only ps s t) (fired : List Nat) (q : FireReq) (hp : [.csr, .ic, .err, .ser, .draws] ⊆ ps
    := by decide) : Only ps s (t.skmFired fired q) := by
  refine h.append hp ?_
  unfold State.skmFired
  dsimp only
  split
  · exact Only.refl _ t
  · exact Only.ite (Only.refl _ t) (Only.ite (Only.ite ((Only.refl _ t).setSkm _ _) ((Only.refl _ t).skmRelease _))
      (Only.ite ((Only.refl _ t).skmEvent _ _) (Only.refl _ t)))

theorem Only.niTables {f : State → Nat → State} (h : Only ps s t) (e : Nat)
    (hf : ∀ u x, Only ps s u → Only ps s (f u x)) : Only ps s (t.niTables e f) := h.forEach _ hf

theorem Only.fireBound (h : Only ps s t) (b : Bound) (hp : [.csr, .stg, .ic, .err, .fab, .cross] ⊆ ps := by decide)
    : Only ps s (t.fireBound b) := by
  refine h.append hp ?_
  unfold State.fireBound
  dsimp only
  split
  · exact ((Only.refl _ t).quadSet _ (fun _ _ h1 => h1.exchangeReg _)).with_cross _
  · exact ((Only.refl _ t).grpFire _).with_cross _
  · exact ((Only.refl _ t).niTables _ (fun _ _ h1 => h1.exchangeReg _)).with_cross _
  · exact (Only.refl _ t).prbApply _ (fun _ _ h1 => h1.exchangeReg _)

theorem Only.fireRefuse (h : Only ps s t) (pre : State) (reqs : List FireReq) (r : Nat) (hp : [.csr, .ic, .err,
    .gate] ⊆ ps := by decide) : Only ps s (t.fireRefuse pre reqs r) := by
  refine h.append hp ?_
  unfold State.fireRefuse
  dsimp only
  split
  · exact (Only.refl _ t).refuseAt _ _ _
  · exact Only.refl _ t

theorem Only.padClear (h : Only ps s t) (hp : [.pad] ⊆ ps := by decide) : Only ps s (t.padClear) :=
  h.append hp ((Only.refl _ t).with_pad _)

theorem Only.readDirectory (h : Only ps s t) (hp : [.csr, .ic, .err] ⊆ ps := by decide) : Only ps s
    (t.readDirectory) := by
  refine h.append hp ?_
  unfold State.readDirectory
  dsimp only
  split
  · exact (Only.refl _ t).setReg _ _
  · exact (((Only.refl _ t).setReg _ _).setReg _ _).when _ (fun _ h1 => h1.report _ _)

theorem Only.setScrub (h : Only ps s t) (x : Scrub) (hp : [.scrub] ⊆ ps := by decide) : Only ps s (t.setScrub x) :=
  h.append hp ((Only.refl _ t).with_scrub _)

theorem Only.scrubStop (h : Only ps s t) (hp : [.csr, .scrub] ⊆ ps := by decide) : Only ps s (t.scrubStop) :=
  h.append hp ((((((Only.refl _ t).setReg _ _).setReg _ _).setFlag _ _ _).setFlag _ _ _).setScrub _)

theorem Only.setMb (h : Only ps s t) (m : Nat) (x : Mbx) (hp : [.mbx] ⊆ ps := by decide) : Only ps s (t.setMb m x) :=
  h.append hp ((Only.refl _ t).with_mbx _)

theorem Only.mbSource (h : Only ps s t) (m : Nat) (hp : [.ic] ⊆ ps := by decide) : Only ps s (t.mbSource m) :=
  h.append hp ((Only.refl _ t).settle _ _)

theorem Only.mbFlag (h : Only ps s t) (m : Nat) (f : Fld) (hp : [.csr, .ic] ⊆ ps := by decide) : Only ps s (t.mbFlag
    m f) :=
  h.append hp (((Only.refl _ t).setFlag _ _ _).mbSource _)

theorem Only.mbSettleN (h : Only ps s t) (m n : Nat) (hp : [.csr, .ic, .mbx] ⊆ ps := by decide) :
    Only ps s (t.mbSettleN m n) := by
  induction n generalizing t with
  | zero => exact h
  | succ n ih =>
    have hq : ∀ x f, Only ps s ((t.setMb m x).mbFlag m f) := fun x f =>
      h.append hp (((Only.refl [.csr, .ic, .mbx] t).setMb _ _).mbFlag _ _)
    unfold State.mbSettleN
    dsimp only
    split
    · exact h
    · exact .ite h (ih (hq _ _))

theorem Only.mbSettle (h : Only ps s t) (m : Nat) (hp : [.csr, .ic, .mbx] ⊆ ps := by decide) : Only ps s (t.mbSettle
    m) :=
  h.append hp ((Only.refl _ t).mbSettleN _ _)

theorem Only.mbAnswer (h : Only ps s t) (m code detail : Nat) (payload : List Byte) (hp : [.csr, .ic, .mbx] ⊆ ps :=
    by decide) : Only ps s (t.mbAnswer m code detail payload) := by
  refine h.append hp ?_
  unfold State.mbAnswer
  dsimp only
  split
  · exact Only.refl _ t
  · exact (((Only.refl _ t).setMb _ _).mbSettle _).mbSource _

theorem Only.setBoot (h : Only ps s t) (b : Boot) (hp : [.boot] ⊆ ps := by decide) : Only ps s (t.setBoot b) :=
  h.append hp ((Only.refl _ t).with_boot _)

theorem Only.setFw (h : Only ps s t) (f : Fw) (hp : [.fw] ⊆ ps := by decide) : Only ps s (t.setFw f) :=
  h.append hp ((Only.refl _ t).with_fw _)

theorem Only.setPhase (h : Only ps s t) (n : Nat) (hp : [.csr] ⊆ ps := by decide) : Only ps s (t.setPhase n) :=
  h.append hp ((Only.refl _ t).setFld _ _ _)

theorem Only.putLoad (h : Only ps s t) (l : Load) (hp : [.boot] ⊆ ps := by decide) : Only ps s (t.putLoad l) :=
  h.append hp ((Only.refl _ t).setBoot _)

theorem Only.dropLoad (h : Only ps s t) (p : LoadPath) (hp : [.boot, .sec] ⊆ ps := by decide) : Only ps s (t.dropLoad p) :=
  h.append hp (((Only.refl _ t).with_boot { t.boot with loads := t.boot.loads.filter (fun x => x.path != p) }).with_sec
    { t.sec with engine := t.sec.engine.filter (fun x => x.1 != p) })

theorem Only.clearPlanes (h : Only ps s t) (hp : [.csr, .act, .shd, .fab, .clk] ⊆ ps := by decide) :
    Only ps s t.clearPlanes :=
  h.append hp ((((((Only.refl _ t).seeClocks.with_act Plane.zero).with_shd Plane.zero).with_fab
    { t.seeClocks.fab with stopped := [], relock := [] }).setReg R.CLK_FPLL_LOCK 0).forEach _ fun _ _ h1 =>
      (h1.setReg _ _).setReg _ _)

theorem Only.startClearing (h : Only ps s t) (hp : [.csr, .act, .shd, .boot, .scrub, .fab, .clk] ⊆ ps := by decide)
    : Only ps s (t.startClearing) :=
  h.append hp ((((Only.refl _ t).clearPlanes).scrubStop).setBoot _)

theorem Only.mcReset (h : Only ps s t) (c : Nat) (hp : [.csr, .noc, .mc, .rld] ⊆ ps := by decide) : Only ps s
    (t.mcReset c) :=
  h.append hp (((((Only.refl _ t).when _ (fun _ h1 => h1.mtLeave _)).setMcState _ _).mcAbandon _).rldDrop _ _)

theorem Only.resetColumn (h : Only ps s t) (hp : [.csr, .fab, .noc, .mc, .rld] ⊆ ps := by decide) : Only ps s
    (t.resetColumn) :=
  h.append hp ((((((((Only.refl _ t).setFld _ _ _).setFlag _ _ _).setFlag _ _ _).assertGsr).forEach _ (fun _ _ h1 =>
      h1.setFlag _ _ _)).forEach _ (fun _ _ h1 => h1.mcReset _)).settlePins)

theorem Only.bootRecord (h : Only ps s t) (image code block : Nat) (hp : [.csr, .ic, .err] ⊆ ps := by decide) : Only
    ps s (t.bootRecord image code block) :=
  h.append hp ((((Only.refl _ t).setFld _ _ _).setFld _ _ _).report _ _)

theorem Only.enterFailed (h : Only ps s t) (hp : [.csr] ⊆ ps := by decide) : Only ps s (t.enterFailed) :=
  h.append hp (((Only.refl _ t).setPhase _).setFlag _ _ _)

theorem Only.lastFailed (h : Only ps s t) (kind : Nat) (hp : [.csr] ⊆ ps := by decide) : Only ps s (t.lastFailed
    kind) :=
  h.append hp (Only.ite (Only.refl _ t) ((Only.refl _ t).enterFailed))

theorem Only.startAlternate (h : Only ps s t) (path : LoadPath) (kind pri : Nat) (hp : [.csr, .ic, .err, .boot] ⊆ ps
    := by decide) : Only ps s (t.startAlternate path kind pri) := by
  refine h.append hp ?_
  unfold State.startAlternate
  split
  · exact (Only.refl _ t).putLoad _
  · exact ((Only.refl _ t).bootRecord _ _ _).lastFailed _

theorem Only.startFlash (h : Only ps s t) (path : LoadPath) (kind : Nat) (hp : [.csr, .ic, .err, .boot] ⊆ ps := by
    decide) : Only ps s (t.startFlash path kind) := by
  refine h.append hp ?_
  unfold State.startFlash
  dsimp only
  split
  · exact ((Only.refl _ t).readDirectory).putLoad _
  · exact Only.ite ((((Only.refl _ t).readDirectory).bootRecord _ _ _).startAlternate _ _ _) ((((Only.refl _
      t).readDirectory).bootRecord _ _ _).lastFailed _)

theorem Only.stageRecord (h : Only ps s t) (src region code low : Nat) (hp : [.csr, .ic, .err] ⊆ ps := by decide) :
    Only ps s (t.stageRecord src region code low) :=
  h.append hp ((Only.refl _ t).report _ _)

theorem Only.answerStager (h : Only ps s t) (code detail : Nat) (hp : [.csr, .ic, .mbx, .fw] ⊆ ps := by decide) :
    Only ps s (t.answerStager code detail) := by
  refine h.append hp ?_
  unfold State.answerStager
  dsimp only
  split
  · exact ((Only.refl _ t).mbAnswer _ _ _ _).setFw _
  · exact Only.refl _ t

theorem Only.stageEnd (h : Only ps s t) (path : LoadPath) (region code block : Nat) (hp : [.csr, .ic, .mbx, .fw] ⊆
    ps := by decide) : Only ps s (t.stageEnd path region code block) := by
  refine h.append hp ?_
  unfold State.stageEnd
  dsimp only
  split
  · exact (((Only.refl _ t).when _ (fun _ h1 => h1.setFld _ _ _)).setFld _ _ _).setFlag _ _ _
  · exact ((Only.refl _ t).when _ (fun _ h1 => h1.setFld _ _ _)).setFw _
  · exact ((Only.refl _ t).when _ (fun _ h1 => h1.setFld _ _ _)).answerStager _ _

theorem Only.holdRefused (h : Only ps s t) (region code : Nat) (hp : [.csr, .ic, .err] ⊆ ps := by decide) : Only ps
    s (t.holdRefused region code) :=
  h.append hp (((Only.refl _ t).setFld _ _ _).stageRecord _ _ _ _)

theorem Only.tryLoad (h : Only ps s t) (hp : [.csr, .ic, .err, .boot] ⊆ ps := by decide) : Only ps s (t.tryLoad) :=
  h.append hp (Only.ite (Only.refl _ t) (Only.ite (((Only.refl _ t).setPhase _).startFlash _ _) ((Only.refl _
      t).setPhase _)))

theorem Only.bootAgain (h : Only ps s t) (hp : [.csr, .ic, .err, .boot] ⊆ ps := by decide) : Only ps s (t.bootAgain)
    :=
  h.append hp (Only.ite (Only.refl _ t) (Only.ite ((Only.refl _ t).when _ (fun _ h1 => (h1.bootRecord _ _
      _).enterFailed)) (Only.ite (Only.refl _ t) ((Only.refl _ t).startFlash _ _))))

theorem Only.startUp (h : Only ps s t) (hp : [.csr, .ic, .err, .fab, .ser, .draws] ⊆ ps := by decide) : Only ps s
    (t.startUp) :=
  h.append hp (((((((((((Only.refl _ t).setFld _ _ _).setPhase _).with_fab _).setFlag _ _ _).settlePins).forEach _
      (fun _ _ h1 => h1.gsrSettle _)).when _ (fun _ h1 => h1.forEach _ (fun _ _ h2 => h2.setFlag _ _
      _))).skmStartAll).linesRise _).pulse _)

theorem Only.settleOf (h : Only ps s t) (n : Nat) (hp : [.ic] ⊆ ps := by decide) : Only ps s (t.settleOf n) :=
  h.append hp ((Only.refl _ t).settle _ _)

theorem Only.setBoard (h : Only ps s t) (b : Board) (hp : [.board] ⊆ ps := by decide) : Only ps s (t.setBoard b) :=
  h.append hp ((Only.refl _ t).with_board _)

theorem Only.portsUp (h : Only ps s t) (hp : [.csr] ⊆ ps := by decide) : Only ps s (t.portsUp) :=
  h.append hp ((Only.refl _ t).forEach _ (fun _ _ h1 => h1.setFld _ _ _))

end Sys2Proof.Machine
end

section
/-! ## Reading a register after another one is set -/

namespace Sys2Proof.Machine

-- Elaborated in order: side by side, so many short proofs would each hold a thread with its stack.
set_option Elab.async false

theorem State.reg_of_csr {s t : State} (h : t.csr = s.csr) (off : Nat) : t.reg off = s.reg off := by simp only [State.reg, h]

theorem State.fld_of_reg {s t : State} {off : Nat} (h : t.reg off = s.reg off) (f : Fld) : t.fld off f = s.fld off f := by
  simp only [State.fld, h]

theorem State.flag_of_reg {s t : State} {off : Nat} (h : t.reg off = s.reg off) (f : Fld) : t.flag off f = s.flag off f := by
  simp only [State.flag, State.fld, h]

theorem State.bit_of_reg {s t : State} {off : Nat} (h : t.reg off = s.reg off) (i : Nat) : t.bit off i = s.bit off i := by
  simp only [State.bit, h]

@[simp] theorem State.reg_setReg_other (s : State) (off j : Nat) (v : Word) (h : j ≠ off) : (s.setReg off v).reg j = s.reg j := by
  rw [State.reg_setReg, if_neg h]

@[simp] theorem State.reg_setFld_other (s : State) (off j : Nat) (f : Fld) (n : Nat) (h : j ≠ off) :
    (s.setFld off f n).reg j = s.reg j := State.reg_setReg_other _ _ _ _ h

@[simp] theorem State.reg_setFlag_other (s : State) (off j : Nat) (f : Fld) (b : Bool) (h : j ≠ off) :
    (s.setFlag off f b).reg j = s.reg j := State.reg_setReg_other _ _ _ _ h

@[simp] theorem State.reg_setBit_other (s : State) (off j i : Nat) (b : Bool) (h : j ≠ off) :
    (s.setBit off i b).reg j = s.reg j := State.reg_setReg_other _ _ _ _ h

@[simp] theorem State.fld_setReg_other (s : State) (off j : Nat) (v : Word) (g : Fld) (h : j ≠ off) :
    (s.setReg off v).fld j g = s.fld j g := State.fld_of_reg (State.reg_setReg_other _ _ _ _ h) g

@[simp] theorem State.fld_setFld (s : State) (off : Nat) (f : Fld) (n : Nat) (h : f.lo + f.w ≤ 32) :
    (s.setFld off f n).fld off f = n % 2 ^ f.w := State.fld_setFld_same _ _ _ _ h

@[simp] theorem State.fld_setFld_off (s : State) (off j : Nat) (f g : Fld) (n : Nat) (h : j ≠ off) :
    (s.setFld off f n).fld j g = s.fld j g := State.fld_setFld_other _ _ _ _ _ _ h

@[simp] theorem State.fld_setFld_fld (s : State) (off : Nat) (f g : Fld) (n : Nat)
    (h : (g.lo + g.w ≤ f.lo ∨ f.lo + f.w ≤ g.lo) ∧ g.lo + g.w ≤ 32) : (s.setFld off f n).fld off g = s.fld off g :=
  State.fld_setFld_apart _ _ _ _ _ h.1 h.2

@[simp] theorem State.fld_setFlag_off (s : State) (off j : Nat) (f g : Fld) (b : Bool) (h : j ≠ off) :
    (s.setFlag off f b).fld j g = s.fld j g := State.fld_setFld_other _ _ _ _ _ _ h

@[simp] theorem State.fld_setFlag_fld (s : State) (off : Nat) (f g : Fld) (b : Bool)
    (h : (g.lo + g.w ≤ f.lo ∨ f.lo + f.w ≤ g.lo) ∧ g.lo + g.w ≤ 32) : (s.setFlag off f b).fld off g = s.fld off g :=
  State.fld_setFld_apart _ _ _ _ _ h.1 h.2

@[simp] theorem State.fld_setBit_off (s : State) (off j i : Nat) (g : Fld) (b : Bool) (h : j ≠ off) :
    (s.setBit off i b).fld j g = s.fld j g := State.fld_setFld_other _ _ _ _ _ _ h

@[simp] theorem State.flag_setReg_off (s : State) (off j : Nat) (v : Word) (g : Fld) (h : j ≠ off) :
    (s.setReg off v).flag j g = s.flag j g := State.flag_of_reg (State.reg_setReg_other _ _ _ _ h) g

@[simp] theorem State.flag_setFld_off (s : State) (off j : Nat) (f g : Fld) (n : Nat) (h : j ≠ off) :
    (s.setFld off f n).flag j g = s.flag j g := State.flag_of_reg (State.reg_setFld_other _ _ _ _ _ h) g

@[simp] theorem State.flag_setFld_fld (s : State) (off : Nat) (f g : Fld) (n : Nat)
    (h : (g.lo + g.w ≤ f.lo ∨ f.lo + f.w ≤ g.lo) ∧ g.lo + g.w ≤ 32) : (s.setFld off f n).flag off g = s.flag off g := by
  simp only [State.flag, State.fld_setFld_fld _ _ _ _ _ h]

@[simp] theorem State.flag_setFlag (s : State) (off : Nat) (f : Fld) (b : Bool) (h : f.w = 1 ∧ f.lo < 32) :
    (s.setFlag off f b).flag off f = b := by
  obtain ⟨lo, w⟩ := f
  obtain ⟨rfl, hlo⟩ := h
  exact State.flag_setFlag_same s off lo b hlo

@[simp] theorem State.flag_setFlag_off (s : State) (off j : Nat) (f g : Fld) (b : Bool) (h : j ≠ off) :
    (s.setFlag off f b).flag j g = s.flag j g := State.flag_setFld_off _ _ _ _ _ _ h

@[simp] theorem State.flag_setFlag_fld (s : State) (off : Nat) (f g : Fld) (b : Bool)
    (h : (g.lo + g.w ≤ f.lo ∨ f.lo + f.w ≤ g.lo) ∧ g.lo + g.w ≤ 32) : (s.setFlag off f b).flag off g = s.flag off g :=
  State.flag_setFld_fld _ _ _ _ _ h

@[simp] theorem State.flag_setBit_off (s : State) (off j i : Nat) (g : Fld) (b : Bool) (h : j ≠ off) :
    (s.setBit off i b).flag j g = s.flag j g := State.flag_setFld_off _ _ _ _ _ _ h

@[simp] theorem State.bit_setReg_off (s : State) (off j i : Nat) (v : Word) (h : j ≠ off) :
    (s.setReg off v).bit j i = s.bit j i := State.bit_of_reg (State.reg_setReg_other _ _ _ _ h) i

@[simp] theorem State.bit_setFld_off (s : State) (off j i : Nat) (f : Fld) (n : Nat) (h : j ≠ off) :
    (s.setFld off f n).bit j i = s.bit j i := State.bit_of_reg (State.reg_setFld_other _ _ _ _ _ h) i

@[simp] theorem State.bit_setFlag_off (s : State) (off j i : Nat) (f : Fld) (b : Bool) (h : j ≠ off) :
    (s.setFlag off f b).bit j i = s.bit j i := State.bit_of_reg (State.reg_setFlag_other _ _ _ _ _ h) i

@[simp] theorem State.bit_setBit_off (s : State) (off j i k : Nat) (b : Bool) (h : j ≠ off) :
    (s.setBit off k b).bit j i = s.bit j i := State.bit_of_reg (State.reg_setBit_other _ _ _ _ _ h) i

theorem State.bit_setBit_of (s : State) (off i k : Nat) (b : Bool) (hk : k < 32) :
    (s.setBit off i b).bit off k = if k = i then b else s.bit off k := by
  rw [State.bit_setBit _ _ _ _ _ _ hk]
  simp

@[simp] theorem State.bit_setBit_self (s : State) (off i : Nat) (b : Bool) (h : i < 32) : (s.setBit off i b).bit off i = b := by
  rw [State.bit_setBit_of _ _ _ _ _ h, if_pos rfl]

/-- Registers are read from their table alone. -/
@[simp] theorem State.reg_mk (s : State) (off : Nat) (stg ic err act shd rgn base boot gate scrub fab noc fuses sec tim ser
    board pad mbx fw ist tap dbg mc rld clk cross out draws pending) :
    (State.mk s.csr stg ic err act shd rgn base boot gate scrub fab noc fuses sec tim ser board pad mbx fw ist tap dbg mc rld
      clk cross out draws pending).reg off = s.reg off := rfl

@[simp] theorem State.fld_mk (s : State) (off : Nat) (f : Fld) (stg ic err act shd rgn base boot gate scrub fab noc fuses sec tim ser
    board pad mbx fw ist tap dbg mc rld clk cross out draws pending) :
    (State.mk s.csr stg ic err act shd rgn base boot gate scrub fab noc fuses sec tim ser board pad mbx fw ist tap dbg mc rld
      clk cross out draws pending).fld off f = s.fld off f := rfl

@[simp] theorem State.flag_mk (s : State) (off : Nat) (f : Fld) (stg ic err act shd rgn base boot gate scrub fab noc fuses sec tim
    ser board pad mbx fw ist tap dbg mc rld clk cross out draws pending) :
    (State.mk s.csr stg ic err act shd rgn base boot gate scrub fab noc fuses sec tim ser board pad mbx fw ist tap dbg mc rld
      clk cross out draws pending).flag off f = s.flag off f := rfl

@[simp] theorem State.bit_mk (s : State) (off i : Nat) (stg ic err act shd rgn base boot gate scrub fab noc fuses sec tim ser
    board pad mbx fw ist tap dbg mc rld clk cross out draws pending) :
    (State.mk s.csr stg ic err act shd rgn base boot gate scrub fab noc fuses sec tim ser board pad mbx fw ist tap dbg mc rld
      clk cross out draws pending).bit off i = s.bit off i := rfl

theorem Tbl.get_filter_of {α : Type} (d : Nat → α) (l : Tbl α) (p : Nat × α → Bool) (k : Nat) (h : ∀ x, p (k, x) = true) :
    Tbl.get d (l.filter p) k = Tbl.get d l k := by
  induction l with
  | nil => rfl
  | cons x r ih =>
    obtain ⟨a, v⟩ := x
    by_cases hk : a = k
    · subst hk
      simp [h v, Tbl.get]
    · by_cases hp : p (a, v) = true <;> simp [hp, Tbl.get, hk, ih]

theorem State.reg_dropRegions_other (s : State) (off : Nat) (h : ¬ regionReg off = true) : s.dropRegions.reg off = s.reg off :=
  Tbl.get_filter_of _ _ _ _ fun _ => by simpa using h

/-! ## The registers that an operation changes -/

/-- Every register outside `P` reads in `t` as in `s`. -/
def Regs (P : Nat → Prop) (s t : State) : Prop := ∀ off, ¬ P off → t.reg off = s.reg off

namespace Regs
variable {P Q : Nat → Prop} {s t u : State}

theorem refl (P : Nat → Prop) (s : State) : Regs P s s := fun _ _ => rfl

theorem trans (h : Regs P s t) (k : Regs P t u) : Regs P s u := fun off hp => (k off hp).trans (h off hp)

theorem of_csr (h : Regs P s t) (k : u.csr = t.csr) : Regs P s u := fun off hp => (State.reg_of_csr k off).trans (h off hp)

theorem mono (h : Regs P s t) (hq : ∀ off, P off → Q off) : Regs Q s t := fun off hn => h off fun hp => hn (hq off hp)

theorem setReg (h : Regs P s t) {off : Nat} (v : Word) (hp : P off) : Regs P s (t.setReg off v) := fun j hj =>
  (State.reg_setReg_other t off j v fun e => hj (e ▸ hp)).trans (h j hj)

theorem setFld (h : Regs P s t) {off : Nat} (f : Fld) (n : Nat) (hp : P off) : Regs P s (t.setFld off f n) := h.setReg _ hp

theorem setFlag (h : Regs P s t) {off : Nat} (f : Fld) (b : Bool) (hp : P off) : Regs P s (t.setFlag off f b) := h.setReg _ hp

theorem setBit (h : Regs P s t) {off : Nat} (i : Nat) (b : Bool) (hp : P off) : Regs P s (t.setBit off i b) := h.setReg _ hp

theorem with_stg (h : Regs P s t) (x : Tbl Word) : Regs P s { t with stg := x } := h.of_csr rfl

theorem with_ic (h : Regs P s t) (x : Ic) : Regs P s { t with ic := x } := h.of_csr rfl

theorem with_err (h : Regs P s t) (x : Err) : Regs P s { t with err := x } := h.of_csr rfl

theorem with_act (h : Regs P s t) (x : Plane) : Regs P s { t with act := x } := h.of_csr rfl

theorem with_shd (h : Regs P s t) (x : Plane) : Regs P s { t with shd := x } := h.of_csr rfl

theorem with_rgn (h : Regs P s t) (x : Tbl Rgn) : Regs P s { t with rgn := x } := h.of_csr rfl

theorem with_base (h : Regs P s t) (x : Option PlaneRec) : Regs P s { t with base := x } := h.of_csr rfl

theorem with_boot (h : Regs P s t) (x : Boot) : Regs P s { t with boot := x } := h.of_csr rfl

theorem with_gate (h : Regs P s t) (x : Gate) : Regs P s { t with gate := x } := h.of_csr rfl

theorem with_scrub (h : Regs P s t) (x : Scrub) : Regs P s { t with scrub := x } := h.of_csr rfl

theorem with_fab (h : Regs P s t) (x : Fabric) : Regs P s { t with fab := x } := h.of_csr rfl

theorem with_noc (h : Regs P s t) (x : Noc) : Regs P s { t with noc := x } := h.of_csr rfl

theorem with_sec (h : Regs P s t) (x : Sec) : Regs P s { t with sec := x } := h.of_csr rfl

theorem with_tim (h : Regs P s t) (x : Tim) : Regs P s { t with tim := x } := h.of_csr rfl

theorem with_ser (h : Regs P s t) (x : Serdes) : Regs P s { t with ser := x } := h.of_csr rfl

theorem with_board (h : Regs P s t) (x : Board) : Regs P s { t with board := x } := h.of_csr rfl

theorem with_pad (h : Regs P s t) (x : Pad) : Regs P s { t with pad := x } := h.of_csr rfl

theorem with_mbx (h : Regs P s t) (x : Tbl Mbx) : Regs P s { t with mbx := x } := h.of_csr rfl

theorem with_fw (h : Regs P s t) (x : Fw) : Regs P s { t with fw := x } := h.of_csr rfl

theorem with_mc (h : Regs P s t) (x : Tbl Mc) : Regs P s { t with mc := x } := h.of_csr rfl

theorem with_rld (h : Regs P s t) (x : Rld) : Regs P s { t with rld := x } := h.of_csr rfl

theorem with_clk (h : Regs P s t) (x : Clk) : Regs P s { t with clk := x } := h.of_csr rfl

theorem with_cross (h : Regs P s t) (x : List Bound) : Regs P s { t with cross := x } := h.of_csr rfl

theorem with_out (h : Regs P s t) (x : List Byte) : Regs P s { t with out := x } := h.of_csr rfl

theorem with_draws (h : Regs P s t) (x : Nat) : Regs P s { t with draws := x } := h.of_csr rfl

theorem foldl {α : Type} {f : State → α → State} (h : Regs P s t) (l : List α) (hf : ∀ u x, Regs P s u → Regs P s (f u x)) :
    Regs P s (l.foldl f t) := by
  induction l generalizing t with
  | nil => exact h
  | cons x l ih => exact ih (hf t x h)

theorem foldl_mem {α : Type} {f : State → α → State} (h : Regs P s t) (l : List α)
    (hf : ∀ u x, x ∈ l → Regs P s u → Regs P s (f u x)) : Regs P s (l.foldl f t) := by
  induction l generalizing t with
  | nil => exact h
  | cons x l ih => exact ih (hf t x (by simp) h) fun u y hy => hf u y (by simp [hy])

theorem forEach {α : Type} {f : State → α → State} (h : Regs P s t) (l : List α)
    (hf : ∀ u x, Regs P s u → Regs P s (f u x)) : Regs P s (t.forEach l f) := h.foldl l hf

theorem when {f : State → State} (h : Regs P s t) (b : Bool) (hf : ∀ u, Regs P s u → Regs P s (f u)) : Regs P s (t.when b f) :=
  State.when_rel (R := fun _ u => Regs P s u) t b f h fun _ => hf t h

theorem ite {c : Prop} [Decidable c] (h : Regs P s t) (k : Regs P s u) : Regs P s (if c then t else u) := by
  split
  · exact h
  · exact k

theorem iteP {c : Prop} [Decidable c] {a b : Nat} (h : P a) (k : P b) : P (if c then a else b) := by
  split
  · exact h
  · exact k

/-- The registers of the error collector apart, a report changes none. -/
theorem report (h : Regs P s t) (n : Nat) (r : Report) (hs : r.src < 1024) (hc : r.cls < 256)
    (hp : ∀ off, off / 0x10000 = 5 → P off) : Regs P s (t.report n r) :=
  h.trans fun off hn => regsOr_report (offs := []) t r n hs hc off (List.not_mem_nil) fun h5 => hn (hp off h5)

theorem but {offs : List Nat} (h : Regs (· ∈ offs) s t) : RegsBut offs s t := h

theorem or {offs : List Nat} (h : Regs (fun off => off ∈ offs ∨ off / 0x10000 = 5) s t) : RegsOr offs s t := fun off h1 h2 =>
  h off (not_or_intro h1 h2)

/-- One register that the operation leaves. -/
theorem same (j : Nat) (h : Regs (· ≠ j) s t) : t.reg j = s.reg j := h j (not_not_intro rfl)

end Regs

/-! ## A value that an operation leaves -/

/-- The value `g` is the same in both states. -/
def Same {β : Type} (g : State → β) (s t : State) : Prop := g t = g s

namespace Same
variable {β : Type} {g : State → β} {s t u : State}

theorem trans (h : Same g s t) (k : Same g t u) : Same g s u := Eq.trans k h

theorem foldl {α : Type} {f : State → α → State} (h : Same g s t) (l : List α) (hf : ∀ u x, Same g s u → Same g s (f u x)) :
    Same g s (l.foldl f t) := by
  induction l generalizing t with
  | nil => exact h
  | cons x l ih => exact ih (hf t x h)

theorem forEach {α : Type} {f : State → α → State} (h : Same g s t) (l : List α)
    (hf : ∀ u x, Same g s u → Same g s (f u x)) : Same g s (t.forEach l f) := h.foldl l hf

theorem when {f : State → State} (h : Same g s t) (b : Bool) (hf : ∀ u, Same g s u → Same g s (f u)) : Same g s (t.when b f) :=
  State.when_rel (R := fun _ u => Same g s u) t b f h fun _ => hf t h

theorem ite {c : Prop} [Decidable c] (h : Same g s t) (k : Same g s u) : Same g s (if c then t else u) := by
  split
  · exact h
  · exact k

end Same
end Sys2Proof.Machine
end

section
namespace Sys2Proof.Machine

-- Elaborated in order: side by side, so many short proofs would each hold a thread with its stack.
set_option Elab.async false

variable {P : Nat → Prop} {s t : State}

theorem Regs.setStaged (h : Regs P s t) (off : Nat) (v : Word) : Regs P s (t.setStaged off v) := h.with_stg _

theorem Regs.count (h : Regs P s t) (off : Nat) (f : Fld) (n : Nat) (p1 : P off := by simp) : Regs P s (t.count off
    f n) :=
  h.setFld _ _ p1

theorem Regs.countWrap (h : Regs P s t) (off : Nat) (f : Fld) (n : Nat) (p1 : P off := by simp) : Regs P s
    (t.countWrap off f n) :=
  h.setFld _ _ p1

theorem Regs.draw (h : Regs P s t) : Regs P s (t.draw).2 := h.with_draws _

theorem Regs.raise (h : Regs P s t) (n : Nat) : Regs P s (t.raise n) :=
  Regs.ite h (Regs.ite (h.with_ic _) (h.with_ic _))

theorem Regs.pulse (h : Regs P s t) (n : Nat) : Regs P s (t.pulse n) := h.when _ (fun _ h1 => h1.raise _)

theorem Regs.high (h : Regs P s t) (n : Nat) : Regs P s (t.high n) := h.when _ (fun _ h1 => h1.raise _)

theorem Regs.lockedRecord (h : Regs P s t) (src inst loc : Nat) (reporter : Nat) (p1 : src < 1024 := by simp) (p2 :
    ∀ (off : ℕ), off / 65536 = 5 → P off := by simp) : Regs P s (t.lockedRecord src inst loc reporter) :=
  h.report _ _ p1 (by simp) p2

theorem Regs.rawWrite (h : Regs P s t) (open_ : Bool) (off : Nat) (v : Word) (p1 : P off := by simp) : Regs P s
    (t.rawWrite open_ off v).1 := by
  unfold State.rawWrite
  dsimp only
  split
  · exact h
  · exact Regs.ite (h.setReg _ p1) ((h.setReg _ p1).setStaged _ _)

theorem Regs.exchangeReg (h : Regs P s t) (off : Nat) (p1 : P off := by simp) : Regs P s (t.exchangeReg off) :=
  (h.setReg _ p1).setStaged _ _

theorem Regs.setShadow (h : Regs P s t) (r n : Nat) (p1 : P (R.CFG_RGN_STAT r) := by simp) : Regs P s (t.setShadow r
    n) :=
  h.setFld _ _ p1

theorem Regs.setRg (h : Regs P s t) (r : Nat) (x : Rgn) : Regs P s (t.setRg r x) := h.with_rgn _

theorem Regs.swapPlanes (h : Regs P s t) (r : Nat) : Regs P s (t.swapPlanes r) := h.of_csr rfl

theorem Regs.keepLines (h : Regs P s t) (sector : Nat) (p1 : P (R.FAB_BUS_VAL_LO sector) := by simp) (p2 : P
    (R.FAB_BUS_VAL_HI sector) := by simp) : Regs P s (t.keepLines sector) :=
  Regs.ite h ((h.with_draws _).forEach _ (fun _ _ h1 => h1.setBit _ _ (Regs.iteP p1 p2)))

theorem Regs.holdCells (h : Regs P s t) (pre : State) (r : Nat) : Regs P s (t.holdCells pre r) := h.with_fab _

theorem Regs.freeCells (h : Regs P s t) : Regs P s (t.freeCells) := h.with_fab _

theorem Regs.gsrSettle (h : Regs P s t) (sec : Nat) (p1 : P (R.FAB_GSR_STAT sec) := by simp) : Regs P s (t.gsrSettle
    sec) :=
  Regs.ite h ((h.with_fab _).when _ (fun _ h1 => h1.setReg _ p1))

theorem Regs.setBmWord (h : Regs P s t) (sec b w : Nat) (x : BmWord) : Regs P s (t.setBmWord sec b w x) :=
  h.with_fab _

theorem Regs.setPortOut (h : Regs P s t) (sec b : Nat) (portB : Bool) (o : PortOut) : Regs P s (t.setPortOut sec b
    portB o) :=
  h.with_fab _

theorem Regs.setGroup (h : Regs P s t) (k : Nat) (x : Group) : Regs P s (t.setGroup k x) := h.with_fab _

theorem Regs.dropStarts (h : Regs P s t) : Regs P s (t.dropStarts) := h.forEach _ (fun _ _ h1 => h1.setGroup _ _)

theorem Regs.assertGsr (h : Regs P s t) (p1 : ∀ (i : ℕ), P (R.FAB_GSR_STAT i) := by simp) : Regs P s (t.assertGsr) :=
  (h.forEach _ (fun _ _ h1 => h1.setReg _ (p1 _))).with_fab _

theorem Regs.keepOuts (h : Regs P s t) (r : Nat) : Regs P s (t.keepOuts r) :=
  h.forEach _ (fun _ _ h1 => h1.when _ (fun _ h2 => h2.setPortOut _ _ _ _))

theorem Regs.fireFabric (h : Regs P s t) (r : Nat) (init : Bool) : Regs P s (t.fireFabric r init) :=
  (h.keepOuts _).with_fab _

theorem Regs.fireFfs (h : Regs P s t) (r : Nat) (init : Bool) : Regs P s (t.fireFfs r init) := h.with_fab _

theorem Regs.seeClocks (h : Regs P s t) : Regs P s (t.seeClocks) := h.with_clk _

theorem Regs.fireClocks (h : Regs P s t) (r : Nat) (p1 : P R.CLK_FPLL_LOCK := by simp) : Regs P s (t.fireClocks r) :=
  (h.seeClocks).foldl _ (fun _ _ h1 => Regs.ite h1 ((h1.with_fab _).setBit _ _ p1))

theorem Regs.setProbe (h : Regs P s t) (sec : Nat) (p : Probe) : Regs P s (t.setProbe sec p) := h.with_fab _

theorem Regs.prbAbort (h : Regs P s t) (sec : Nat) (p1 : P (R.FAB_PRB_STAT sec) := by simp) : Regs P s (t.prbAbort
    sec) :=
  h.when _ (fun _ h1 => h1.setFld _ _ p1)

theorem Regs.settlePins (h : Regs P s t) : Regs P s (t.settlePins) := by
  unfold State.settlePins
  dsimp only
  split
  · split
    · exact h
    · split
      · exact (h.setProbe _ _).with_fab _
      · exact h.with_fab _
  · split
    · exact h
    · split
      · exact (h.setProbe _ _).with_fab _
      · exact h.with_fab _

theorem Regs.prbStore (h : Regs P s t) (sec : Nat) (x : BitVec 64) (p1 : P (R.FAB_PRB_STAT sec) := by simp) : Regs P
    s (t.prbStore sec x) :=
  ((h.setBmWord _ _ _ _).when _ (fun _ h1 => h1.setFlag _ _ p1)).setProbe _ _

theorem Regs.prbDone (h : Regs P s t) (sec : Nat) (p1 : P (R.FAB_PRB_STAT sec) := by simp) : Regs P s (t.prbDone
    sec) :=
  h.when _ (fun _ h1 => h1.setFld _ _ p1)

theorem Regs.setCtr (h : Regs P s t) (d n : Nat) : Regs P s (t.setCtr d n) := h.with_tim _

theorem Regs.setFreq (h : Regs P s t) (d : Nat) (f : Int) (p1 : P (R.TIM_TD_FREQ_LO d) := by simp) (p2 : P
    (R.TIM_TD_FREQ_HI d) := by simp) : Regs P s (t.setFreq d f) :=
  (h.setReg _ p1).setReg _ p2

theorem Regs.settle (h : Regs P s t) (n : Nat) (level : Bool) : Regs P s (t.settle n level) :=
  h.when _ (fun _ h1 => h1.high _)

theorem Regs.alarm (h : Regs P s t) (d : Nat) (f : Fld) (p1 : P (R.TIM_TD_STAT d) := by simp) : Regs P s (t.alarm d
    f) :=
  (h.setFlag _ _ p1).settle _ _

theorem Regs.setCone (h : Regs P s t) (n : Nat) (c : Cone) : Regs P s (t.setCone n c) := h.with_tim _

theorem Regs.settleCone (h : Regs P s t) (n : Nat) : Regs P s (t.settleCone n) := h.settle _ _

theorem Regs.coneProduce (h : Regs P s t) (n : Nat) (p1 : P (R.TIM_CONE_CTRL n) := by simp) (p2 : P
    (R.TIM_CONE_EVCNT n) := by simp) : Regs P s (t.coneProduce n) :=
  ((h.setFlag _ _ p1).countWrap _ _ _ p2).with_tim _

theorem Regs.coneDone (h : Regs P s t) (n : Nat) (p1 : P (R.TIM_CONE_CTRL n) := by simp) : Regs P s (t.coneDone n) :=
  (h.setFlag _ _ p1).setFlag _ _ p1

theorem Regs.coneMove (h : Regs P s t) (n k served : Nat) (p1 : P (R.TIM_CONE_CTRL n) := by simp) (p2 : P
    (R.TIM_CONE_MISSED n) := by simp) : Regs P s (t.coneMove n k served) :=
  Regs.ite (h.coneDone _ p1) ((h.setCone _ _).count _ _ _ p2)

theorem Regs.coneJump (h : Regs P s t) (n : Nat) (p1 : P (R.TIM_CONE_CTRL n) := by simp) (p2 : P (R.TIM_CONE_EVCNT
    n) := by simp) (p3 : P (R.TIM_CONE_MISSED n) := by simp) : Regs P s (t.coneJump n) :=
  Regs.ite ((((h.coneProduce _ p1 p2).setFlag _ _ p1).coneMove _ _ _ p1 p3).settleCone _) h

theorem Regs.jump (h : Regs P s t) (d : Nat) (new : Int) (p1 : P (R.TIM_TD_STAT d) := by simp) (p2 : ∀ (i : ℕ), P
    (R.TIM_CONE_CTRL i) := by simp) (p3 : ∀ (i : ℕ), P (R.TIM_CONE_EVCNT i) := by simp) (p4 : ∀ (i : ℕ), P
    (R.TIM_CONE_MISSED i) := by simp) : Regs P s (t.jump d new) :=
  ((((h.with_tim _).setCtr _ _).alarm _ _ p1).forEach _ (fun _ _ h1 => h1.with_tim _)).when _ (fun _ h1 =>
      h1.forEach _ (fun _ _ h2 => h2.coneJump _ (p2 _) (p3 _) (p4 _)))

theorem Regs.setInteg (h : Regs P s t) (d : Nat) (x : Int) : Regs P s (t.setInteg d x) := h.with_tim _

theorem Regs.setSample (h : Regs P s t) (d : Nat) (busy wait : Option Int) : Regs P s (t.setSample d busy wait) :=
  h.with_tim _

theorem Regs.submit (h : Regs P s t) (d : Nat) (theta : Int) (p1 : P (R.TIM_TD_STAT d) := by simp) : Regs P s
    (t.submit d theta) := by
  unfold State.submit
  split
  · exact h
  · split
    · exact h.setSample _ _ _
    · exact h.setSample _ _ _
    · exact (h.setSample _ _ _).alarm _ _ p1

theorem Regs.timeEvt (h : Regs P s t) (n : Nat) : Regs P s (t.timeEvt n) := h.forEach _ (fun _ _ h1 => h1.with_tim _)

theorem Regs.setLane (h : Regs P s t) (n : Nat) (x : Lane) : Regs P s (t.setLane n x) := h.with_ser _

theorem Regs.setCoder (h : Regs P s t) (n : Nat) (x : Coder) : Regs P s (t.setCoder n x) := h.with_ser _

theorem Regs.setSkm (h : Regs P s t) (e : Nat) (x : Skm) : Regs P s (t.setSkm e x) := h.with_ser _

theorem Regs.lnEvent (h : Regs P s t) (n bit code sev : Nat) (p1 : P (R.LN_INT_STAT n) := by simp) (p2 : 192 + n <
    1024 := by simp) (p3 : ∀ (off : ℕ), off / 65536 = 5 → P off := by simp) : Regs P s (t.lnEvent n bit code sev) :=
  ((h.setBit _ _ p1).when _ (fun _ h1 => h1.report _ _ p2 (by simp) p3)).settle _ _

theorem Regs.lqEvent (h : Regs P s t) (q bit code sev : Nat) (p1 : P (R.LQ_INT_STAT q) := by simp) (p2 : 336 + q <
    1024 := by simp) (p3 : ∀ (off : ℕ), off / 65536 = 5 → P off := by simp) : Regs P s (t.lqEvent q bit code sev) :=
  ((h.setBit _ _ p1).report _ _ p2 (by simp) p3).settle _ _

theorem Regs.pcsRecord (h : Regs P s t) (n code sev : Nat) (p1 : 192 + n < 1024 := by simp) (p2 : ∀ (off : ℕ), off /
    65536 = 5 → P off := by simp) : Regs P s (t.pcsRecord n code sev) :=
  h.report _ _ p1 (by simp) p2

theorem Regs.grpEvent (h : Regs P s t) (g bit : Nat) (p1 : P (R.PCS_GRP_INT_STAT g) := by simp) : Regs P s
    (t.grpEvent g bit) :=
  (h.setBit _ _ p1).settle _ _

theorem Regs.grpRecord (h : Regs P s t) (g code cause lane : Nat) (p1 : 372 + g < 1024 := by simp) (p2 : ∀ (off :
    ℕ), off / 65536 = 5 → P off := by simp) : Regs P s (t.grpRecord g code cause lane) :=
  h.report _ _ p1 (by simp) p2

theorem Regs.lnCount (h : Regs P s t) (off n : Nat) (p1 : P off := by simp) : Regs P s (t.lnCount off n) :=
  h.when _ (fun _ h1 => h1.count _ _ _ p1)

theorem Regs.setGrpState (h : Regs P s t) (g n : Nat) (p1 : P (R.PCS_GRP_STAT g) := by simp) : Regs P s
    (t.setGrpState g n) :=
  h.setFld _ _ p1

theorem Regs.grpTry (h : Regs P s t) (g : Nat) (p1 : P (R.PCS_GRP_STAT g) := by simp) : Regs P s (t.grpTry g) :=
  Regs.ite (h.setGrpState _ _ p1) h

theorem Regs.grpFault (h : Regs P s t) (g cause lane : Nat) (p1 : P (R.PCS_GRP_STAT g) := by simp) (p2 : P
    (R.PCS_GRP_FAULTS g) := by simp) (p3 : 372 + g < 1024 := by simp) (p4 : ∀ (off : ℕ), off / 65536 = 5 → P off :=
    by simp) (p5 : P (R.PCS_GRP_INT_STAT g) := by simp) : Regs P s (t.grpFault g cause lane) :=
  ((((((h.setFld _ _ p1).setFld _ _ p1).setFld _ _ p1).lnCount _ _ p2).grpRecord _ _ _ _ p3 p4).grpEvent _ _
      p5).grpTry _ p1

theorem State.groupOf_lt {t : State} {n g : Nat} (h : t.groupOf n = some g) : g < 16 :=
  List.mem_range.mp (List.mem_of_find?_eq_some h)

theorem Regs.memberFault (h : Regs P s t) (n cause : Nat) (p1 : ∀ (i : Nat), P (R.PCS_GRP_STAT i) := by simp)
    (p2 : ∀ (i : Nat), P (R.PCS_GRP_FAULTS i) := by simp) (p3 : ∀ (i : Nat), P (R.PCS_GRP_INT_STAT i) := by simp)
    (p4 : ∀ (off : Nat), off / 65536 = 5 → P off := by simp) : Regs P s (t.memberFault n cause) := by
  unfold State.memberFault
  split
  · next g hg =>
    have hlt := State.groupOf_lt hg
    exact h.when _ fun _ h1 => h1.grpFault _ _ _ (p1 _) (p2 _) (by omega) p4 (p3 _)
  · exact h

theorem Regs.memberLock (h : Regs P s t) (n : Nat) (p1 : ∀ (i : ℕ), P (R.PCS_GRP_STAT i) := by simp) : Regs P s
    (t.memberLock n) := by
  unfold State.memberLock
  split
  · exact h.grpTry _ (p1 _)
  · exact h

theorem Regs.unlock (h : Regs P s t) (n : Nat) (logged : Bool) (cause : Nat) (p1 : P (R.PCS_LN_STAT n) := by simp)
    (p2 : 192 + n < 1024 := by simp) (p3 : ∀ (off : ℕ), off / 65536 = 5 → P off := by simp) (p4 : ∀ (i : ℕ), P
    (R.PCS_GRP_STAT i) := by simp) (p5 : ∀ (i : ℕ), P (R.PCS_GRP_FAULTS i) := by simp) (p6 : ∀ (i : ℕ), P
    (R.PCS_GRP_INT_STAT i) := by simp) : Regs P s (t.unlock n logged cause) :=
  Regs.ite ((h.setReg _ p1).setCoder _ _) ((((h.setReg _ p1).setCoder _ _).when _ (fun _ h1 => (h1.setFlag _ _
      p1).pcsRecord _ _ _ p2 p3)).memberFault _ _ (fun _ => (p4 _)) (fun _ => (p5 _)) (fun _ => (p6 _)) p3)

theorem Regs.lockUp (h : Regs P s t) (n : Nat) (p1 : P (R.PCS_LN_STAT n) := by simp) (p2 : ∀ (i : ℕ), P
    (R.PCS_GRP_STAT i) := by simp) : Regs P s (t.lockUp n) := by
  unfold State.lockUp
  dsimp only
  split
  · exact ((h.setFlag _ _ p1).setFlag _ _ p1).memberLock _ (fun _ => (p2 _))
  · exact ((h.setFlag _ _ p1).setFlag _ _ p1).memberLock _ (fun _ => (p2 _))
  · exact ((h.setFlag _ _ p1).setFlag _ _ p1).memberLock _ (fun _ => (p2 _))
  · exact ((h.setFlag _ _ p1).setFlag _ _ p1).memberLock _ (fun _ => (p2 _))
  · exact (h.setFlag _ _ p1).memberLock _ (fun _ => (p2 _))

theorem Regs.codeStart (h : Regs P s t) (n : Nat) : Regs P s (t.codeStart n) := ((h.draw).draw).setCoder _ _

theorem Regs.setMode (h : Regs P s t) (n : Nat) (mode : Word) (p1 : P (R.PCS_LN_STAT n) := by simp) (p2 : 192 + n <
    1024 := by simp) (p3 : ∀ (off : ℕ), off / 65536 = 5 → P off := by simp) (p4 : ∀ (i : ℕ), P (R.PCS_GRP_STAT i) :=
    by simp) (p5 : ∀ (i : ℕ), P (R.PCS_GRP_FAULTS i) := by simp) (p6 : ∀ (i : ℕ), P (R.PCS_GRP_INT_STAT i) := by
    simp) : Regs P s (t.setMode n mode) :=
  Regs.ite (h.setLane _ _) ((((h.setLane _ _).unlock _ _ _ p1 p2 p3 (fun _ => (p4 _)) (fun _ => (p5 _)) (fun _ =>
      (p6 _))).codeStart _).when _ (fun _ h1 => h1.lockUp _ p1 (fun _ => (p4 _))))

theorem Regs.lanePend (h : Regs P s t) (n : Nat) (hn : 192 + n < 1024 := by simp) (p1 : ∀ (i : Nat), P (R.LN_STAT i) := by simp) (p3 : ∀ (i : Nat), P (R.PCS_LN_STAT i) := by simp)
    (p5 : ∀ (off : Nat), off / 65536 = 5 → P off := by simp) (p6 : ∀ (i : Nat), P (R.PCS_GRP_STAT i) := by simp)
    (p7 : ∀ (i : Nat), P (R.PCS_GRP_FAULTS i) := by simp) (p8 : ∀ (i : Nat), P (R.PCS_GRP_INT_STAT i) := by simp) : Regs P s (t.lanePend n) := by
  unfold State.lanePend
  generalize t.target n = x
  obtain ⟨rate, rpll, rfrac, ffe, mode⟩ := x
  exact .ite (h.setFlag _ _ (p1 _)) ((h.setMode _ _ (p3 _) hn p5 p6 p7 p8).setLane _ _)

theorem Regs.skmPend (h : Regs P s t) (ls : List Nat) (hl : ∀ n ∈ ls, 192 + n < 1024) (p1 : ∀ (i : Nat), P (R.LN_STAT i) := by simp) (p3 : ∀ (i : Nat), P (R.PCS_LN_STAT i) := by simp)
    (p5 : ∀ (off : Nat), off / 65536 = 5 → P off := by simp) (p6 : ∀ (i : Nat), P (R.PCS_GRP_STAT i) := by simp)
    (p7 : ∀ (i : Nat), P (R.PCS_GRP_FAULTS i) := by simp) (p8 : ∀ (i : Nat), P (R.PCS_GRP_INT_STAT i) := by simp) : Regs P s (t.skmPend ls) :=
  h.foldl_mem _ fun _ n hn hu => hu.lanePend n (hl n hn) p1 p3 p5 p6 p7 p8

theorem State.skmLanes_lt (s : State) (e : Nat) : ∀ n ∈ s.skmLanes e, 192 + n < 1024 := by
  intro n hn
  obtain ⟨i, hi, rfl⟩ := List.mem_map.mp hn
  have h1 := List.mem_range.mp hi
  have h2 : s.fld (R.SKM_ENG_CFG e) F.SKM_ENG_CFG_COUNT < 2 ^ 5 := Nat.mod_lt _ (by decide)
  have h3 : s.fld (R.SKM_ENG_CFG e) F.SKM_ENG_CFG_FIRST < 2 ^ 8 := Nat.mod_lt _ (by decide)
  omega

theorem Regs.engage (h : Regs P s t) (e k : Nat) (p0 : P (R.SKM_ENG_STAT e) := by simp) (p1 : ∀ (i : Nat), P (R.LN_STAT i) := by simp) (p3 : ∀ (i : Nat), P (R.PCS_LN_STAT i) := by simp)
    (p5 : ∀ (off : Nat), off / 65536 = 5 → P off := by simp) (p6 : ∀ (i : Nat), P (R.PCS_GRP_STAT i) := by simp)
    (p7 : ∀ (i : Nat), P (R.PCS_GRP_FAULTS i) := by simp) (p8 : ∀ (i : Nat), P (R.PCS_GRP_INT_STAT i) := by simp) : Regs P s (t.engage e k) :=
  .ite h (((h.setFlag _ _ p0).setSkm _ _).skmPend _ (State.skmLanes_lt _ _) p1 p3 p5 p6 p7 p8)

theorem Regs.unengage (h : Regs P s t) (e : Nat) (p0 : P (R.SKM_ENG_STAT e) := by simp) (p1 : ∀ (i : Nat), P (R.LN_STAT i) := by simp) (p3 : ∀ (i : Nat), P (R.PCS_LN_STAT i) := by simp)
    (p5 : ∀ (off : Nat), off / 65536 = 5 → P off := by simp) (p6 : ∀ (i : Nat), P (R.PCS_GRP_STAT i) := by simp)
    (p7 : ∀ (i : Nat), P (R.PCS_GRP_FAULTS i) := by simp) (p8 : ∀ (i : Nat), P (R.PCS_GRP_INT_STAT i) := by simp) : Regs P s (t.unengage e) :=
  .ite ((h.setFlag _ _ p0).skmPend _ (State.skmLanes_lt _ _) p1 p3 p5 p6 p7 p8) h

theorem Regs.skmEvent (h : Regs P s t) (e bit : Nat) (p1 : P (R.SKM_ENG_INT_STAT e) := by simp) : Regs P s
    (t.skmEvent e bit) :=
  (h.setBit _ _ p1).settle _ _

theorem Regs.skmGo (h : Regs P s t) (e st : Nat) (p1 : P (R.SKM_ENG_STAT e) := by simp) : Regs P s (t.skmGo e st) :=
  (h.setFld _ _ p1).setSkm _ _

theorem Regs.skmDetect (h : Regs P s t) (e : Nat) (p1 : P (R.SKM_ENG_STAT e) := by simp) (p2 : ∀ (i : ℕ), P
    (R.LN_STAT i) := by simp) (p3 : ∀ (i : ℕ), P (R.PCS_LN_STAT i) := by simp) (p4 : ∀ (off : ℕ), off / 65536 = 5 →
    P off := by simp) (p5 : ∀ (i : ℕ), P (R.PCS_GRP_STAT i) := by simp) (p6 : ∀ (i : ℕ), P (R.PCS_GRP_FAULTS i) :=
    by simp) (p7 : ∀ (i : ℕ), P (R.PCS_GRP_INT_STAT i) := by simp) : Regs P s (t.skmDetect e) :=
  (((h.skmGo _ _ p1).setFld _ _ p1).setFld _ _ p1).engage _ _ p1 (fun _ => (p2 _)) (fun _ => (p3 _)) p4 (fun _ =>
      (p5 _)) (fun _ => (p6 _)) (fun _ => (p7 _))

theorem Regs.skmOff (h : Regs P s t) (e : Nat) (p1 : P (R.SKM_ENG_STAT e) := by simp) (p2 : ∀ (i : ℕ), P (R.LN_STAT
    i) := by simp) (p3 : ∀ (i : ℕ), P (R.PCS_LN_STAT i) := by simp) (p4 : ∀ (off : ℕ), off / 65536 = 5 → P off := by
    simp) (p5 : ∀ (i : ℕ), P (R.PCS_GRP_STAT i) := by simp) (p6 : ∀ (i : ℕ), P (R.PCS_GRP_FAULTS i) := by simp) (p7
    : ∀ (i : ℕ), P (R.PCS_GRP_INT_STAT i) := by simp) : Regs P s (t.skmOff e) :=
  (h.skmGo _ _ p1).unengage _ p1 (fun _ => (p2 _)) (fun _ => (p3 _)) p4 (fun _ => (p5 _)) (fun _ => (p6 _)) (fun _
      => (p7 _))

theorem Regs.skmRelease (h : Regs P s t) (e : Nat) (p1 : P (R.SKM_ENG_STAT e) := by simp) (p2 : ∀ (i : ℕ), P
    (R.LN_STAT i) := by simp) (p3 : ∀ (i : ℕ), P (R.PCS_LN_STAT i) := by simp) (p4 : ∀ (off : ℕ), off / 65536 = 5 →
    P off := by simp) (p5 : ∀ (i : ℕ), P (R.PCS_GRP_STAT i) := by simp) (p6 : ∀ (i : ℕ), P (R.PCS_GRP_FAULTS i) :=
    by simp) (p7 : ∀ (i : ℕ), P (R.PCS_GRP_INT_STAT i) := by simp) : Regs P s (t.skmRelease e) :=
  (h.skmGo _ _ p1).unengage _ p1 (fun _ => (p2 _)) (fun _ => (p3 _)) p4 (fun _ => (p5 _)) (fun _ => (p6 _)) (fun _
      => (p7 _))

theorem Regs.skmStartAll (h : Regs P s t) (p1 : ∀ (i : ℕ), P (R.SKM_ENG_STAT i) := by simp) (p2 : ∀ (i : ℕ), P
    (R.LN_STAT i) := by simp) (p3 : ∀ (i : ℕ), P (R.PCS_LN_STAT i) := by simp) (p4 : ∀ (off : ℕ), off / 65536 = 5 →
    P off := by simp) (p5 : ∀ (i : ℕ), P (R.PCS_GRP_STAT i) := by simp) (p6 : ∀ (i : ℕ), P (R.PCS_GRP_FAULTS i) :=
    by simp) (p7 : ∀ (i : ℕ), P (R.PCS_GRP_INT_STAT i) := by simp) : Regs P s (t.skmStartAll) :=
  Regs.ite h (h.forEach _ (fun _ _ h1 => h1.when _ (fun _ h2 => h2.skmDetect _ (p1 _) (fun _ => (p2 _)) (fun _ =>
      (p3 _)) p4 (fun _ => (p5 _)) (fun _ => (p6 _)) (fun _ => (p7 _)))))

theorem Regs.skmStopAll (h : Regs P s t) (p1 : ∀ (i : ℕ), P (R.SKM_ENG_STAT i) := by simp) (p2 : ∀ (i : ℕ), P
    (R.LN_STAT i) := by simp) (p3 : ∀ (i : ℕ), P (R.PCS_LN_STAT i) := by simp) (p4 : ∀ (off : ℕ), off / 65536 = 5 →
    P off := by simp) (p5 : ∀ (i : ℕ), P (R.PCS_GRP_STAT i) := by simp) (p6 : ∀ (i : ℕ), P (R.PCS_GRP_FAULTS i) :=
    by simp) (p7 : ∀ (i : ℕ), P (R.PCS_GRP_INT_STAT i) := by simp) : Regs P s (t.skmStopAll) :=
  h.forEach _ (fun _ _ h1 => h1.when _ (fun _ h2 => h2.skmOff _ (p1 _) (fun _ => (p2 _)) (fun _ => (p3 _)) p4 (fun _
      => (p5 _)) (fun _ => (p6 _)) (fun _ => (p7 _))))

theorem Regs.setNoc (h : Regs P s t) (n : Noc) : Regs P s (t.setNoc n) := h.with_noc _

theorem Regs.inject (h : Regs P s t) (router : Nat) (p : Packet) : Regs P s (t.inject router p) := h.setNoc _

theorem Regs.nocRecord (h : Regs P s t) (unit router event sev port src dst : Nat) (p1 : 436 + router < 1024 := by
    simp) (p2 : (if event ≤ 3 then 17 else 18) < 256 := by simp) (p3 : ∀ (off : ℕ), off / 65536 = 5 → P off := by
    simp) : Regs P s (t.nocRecord unit router event sev port src dst) :=
  h.report _ _ p1 p2 p3

theorem Regs.niDrop (h : Regs P s t) (e : Nat) (p1 : P (R.NI_DROP_CNT e) := by simp) : Regs P s (t.niDrop e) :=
  h.count _ _ _ p1

theorem Regs.setFence (h : Regs P s t) (n v : Nat) (p1 : P (R.NOC_FENCE n) := by simp) : Regs P s (t.setFence n v) :=
  h.setFld _ _ p1

theorem Regs.respond (h : Regs P s t) (e : Nat) (q : Packet) (status : Nat) (data : List Byte) : Regs P s (t.respond
    e q status data) :=
  h.inject _ _

theorem Regs.turnAway (h : Regs P s t) (e : Nat) (q : Packet) (status : Nat) (p1 : P (R.NI_DROP_CNT e) := by simp) :
    Regs P s (t.turnAway e q status) :=
  Regs.ite (h.niDrop _ p1) (h.respond _ _ _ _)

theorem Regs.fenceStart (h : Regs P s t) (n : Nat) (p1 : P (R.NOC_FENCE n) := by simp) (p2 : P (R.NI_DROP_CNT n) :=
    by simp) : Regs P s (t.fenceStart n) :=
  ((h.setFence _ _ p1).setNoc _).forEach _ (fun _ _ h1 => h1.turnAway _ _ _ p2)

theorem Regs.setMc (h : Regs P s t) (c : Nat) (x : Mc) : Regs P s (t.setMc c x) := h.with_mc _

theorem Regs.setMcState (h : Regs P s t) (c n : Nat) (p1 : P (R.MC_STAT c) := by simp) (p2 : P (R.MT_PR_STAT c) :=
    by simp) : Regs P s (t.setMcState c n) :=
  Regs.ite (((Regs.ite h (h.setMc _ _)).setFld _ _ p1).setFld _ _ p2) (Regs.ite (((Regs.ite h (h.setMc _ _)).setFld
      _ _ p1).setFld _ _ p2) ((Regs.ite h (h.setMc _ _)).setFld _ _ p1))

theorem Regs.mcEvent (h : Regs P s t) (c bit : Nat) (p1 : P (R.MC_INT_STAT c) := by simp) : Regs P s (t.mcEvent c
    bit) :=
  (((h.setBit _ _ p1).settle _ _).settle _ _).settle _ _

theorem Regs.mcRecord (h : Regs P s t) (c code sev detail : Nat) (p1 : 404 + 4 * c < 1024 := by simp) (p2 : (if code
    = 6 then 24 else 20) < 256 := by simp) (p3 : ∀ (off : ℕ), off / 65536 = 5 → P off := by simp) : Regs P s
    (t.mcRecord c code sev detail) :=
  h.report _ _ p1 p2 p3

theorem Regs.setRldWord (h : Regs P s t) (c line w : Nat) (x : BmWord) : Regs P s (t.setRldWord c line w x) :=
  h.with_rld _

theorem Regs.rldDrop (h : Regs P s t) (c : Nat) (zero : Bool) : Regs P s (t.rldDrop c zero) := h.with_rld _

theorem Regs.mcAnswerAll (h : Regs P s t) (c : Nat) (p1 : ∀ (i : ℕ), P (R.NI_DROP_CNT i) := by simp) : Regs P s
    (t.mcAnswerAll c) :=
  (h.setMc _ _).forEach _ (fun _ _ h1 => h1.turnAway _ _ _ (p1 _))

theorem Regs.mcAbandon (h : Regs P s t) (c : Nat) (p1 : ∀ (i : ℕ), P (R.NI_DROP_CNT i) := by simp) : Regs P s
    (t.mcAbandon c) :=
  (h.mcAnswerAll _ (fun _ => (p1 _))).setMc _ _

theorem Regs.mcFail (h : Regs P s t) (c code : Nat) (p1 : P (R.MC_STAT c) := by simp) (p2 : P (R.MT_PR_STAT c) := by
    simp) (p3 : ∀ (i : ℕ), P (R.NI_DROP_CNT i) := by simp) (p4 : 404 + 4 * c < 1024 := by simp) (p5 : (if code = 6
    then 24 else 20) < 256 := by simp) (p6 : ∀ (off : ℕ), off / 65536 = 5 → P off := by simp) (p7 : P (R.MC_INT_STAT
    c) := by simp) : Regs P s (t.mcFail c code) :=
  ((((h.setMcState _ _ p1 p2).mcAbandon _ (fun _ => (p3 _))).rldDrop _ _).mcRecord _ _ _ _ p4 p5 p6).mcEvent _ _ p7

theorem Regs.mtEvent (h : Regs P s t) (c bit : Nat) (p1 : P (R.MT_INT_STAT c) := by simp) : Regs P s (t.mtEvent c
    bit) :=
  (h.setBit _ _ p1).settle _ _

theorem Regs.mtRecord (h : Regs P s t) (c code sev detail : Nat) (p1 : 405 + 4 * c < 1024 := by simp) (p2 : (if code
    = 22 then 24 else 21) < 256 := by simp) (p3 : ∀ (off : ℕ), off / 65536 = 5 → P off := by simp) : Regs P s
    (t.mtRecord c code sev detail) :=
  h.report _ _ p1 p2 p3

theorem Regs.swapRegs (h : Regs P s t) (a b : Nat) (p1 : P a := by simp) (p2 : P b := by simp) : Regs P s
    (t.swapRegs a b) :=
  (h.setReg _ p1).setReg _ p2

theorem Regs.mtLeave (h : Regs P s t) (c : Nat) (p1 : P (R.MT_RUN c) := by simp) (p2 : P (R.MT_STAT c) := by simp) :
    Regs P s (t.mtLeave c) :=
  (Regs.ite ((h.setFlag _ _ p1).setFlag _ _ p2) h).rldDrop _ _

theorem Regs.helperStore (h : Regs P s t) (c pat line count : Nat) (ok : Nat → Bool) : Regs P s (t.helperStore c pat
    line count ok) :=
  (h.forEach _ (fun _ _ h1 => h1.setRldWord _ _ _ _)).with_draws _

theorem Regs.mtRun (h : Regs P s t) (c : Nat) (p1 : P (R.MT_RUN c) := by simp) (p2 : P (R.MT_STAT c) := by simp) (p3
    : P (R.MT_FAIL0 c) := by simp) (p4 : P (R.MT_FAIL1 c) := by simp) (p5 : P (R.MT_FAIL2 c) := by simp) : Regs P s
    (t.mtRun c) :=
  Regs.ite (((((h.setFlag _ _ p1).setFlag _ _ p2).setReg _ p3).setReg _ p4).setReg _ p5) (h.setFlag _ _ p2)

theorem Regs.prReject (h : Regs P s t) (c : Nat) (p1 : P (R.MT_PR_CTRL c) := by simp) (p2 : P (R.MT_STAT c) := by
    simp) (p3 : P (R.MT_INT_STAT c) := by simp) (p4 : 405 + 4 * c < 1024 := by simp) (p5 : (if 21 = 22 then 24 else
    21) < 256 := by simp) (p6 : ∀ (off : ℕ), off / 65536 = 5 → P off := by simp) : Regs P s (t.prReject c) :=
  (((h.setFlag _ _ p1).setFlag _ _ p2).mtEvent _ _ p3).mtRecord _ _ _ _ p4 p5 p6

theorem Regs.coneSlices (h : Regs P s t) (n : Nat) : Regs P s (t.coneSlices n) :=
  Regs.ite h (h.forEach _ (fun _ _ h1 => Regs.ite (h1.setGroup _ _) (Regs.ite (h1.setGroup _ _) (h1.setGroup _ _))))

theorem Regs.coneMaint (h : Regs P s t) (n : Nat) (p1 : ∀ (i : ℕ), P (R.MC_MAINT i) := by simp) : Regs P s
    (t.coneMaint n) :=
  h.forEach _ (fun _ _ h1 => Regs.ite (h1.setFlag _ _ (p1 _)) (Regs.ite (h1.setFlag _ _ (p1 _)) (Regs.ite
      (h1.setFlag _ _ (p1 _)) h1)))

theorem Regs.timeHoldover (h : Regs P s t) (p1 : P R.CLK_STAT := by simp) (p2 : P R.TIM_STAT := by simp) (p3 : ∀ (i
    : ℕ), P (R.TIM_TD_STAT i) := by simp) : Regs P s (t.timeHoldover) :=
  Regs.ite h (((h.setFlag _ _ p1).setFlag _ _ p2).forEach _ (fun _ _ h1 => h1.alarm _ _ (p3 _)))

theorem Regs.timeSteady (h : Regs P s t) (p1 : P R.CLK_STAT := by simp) (p2 : P R.TIM_STAT := by simp) : Regs P s
    (t.timeSteady) :=
  (h.setFlag _ _ p1).setFlag _ _ p2

theorem Regs.mcLost (h : Regs P s t) (c : Nat) (p1 : P (R.MT_RUN c) := by simp) (p2 : P (R.MT_STAT c) := by simp)
    (p3 : P (R.MC_STAT c) := by simp) (p4 : P (R.MT_PR_STAT c) := by simp) (p5 : ∀ (i : ℕ), P (R.NI_DROP_CNT i) :=
    by simp) (p6 : 404 + 4 * c < 1024 := by simp) (p7 : (if 3 = 6 then 24 else 20) < 256 := by simp) (p8 : ∀ (off :
    ℕ), off / 65536 = 5 → P off := by simp) (p9 : P (R.MC_INT_STAT c) := by simp) : Regs P s (t.mcLost c) :=
  Regs.ite (h.when _ (fun _ h1 => h1.mtLeave _ p1 p2)) ((h.when _ (fun _ h1 => h1.mtLeave _ p1 p2)).mcFail _ _ p3 p4
      (fun _ => (p5 _)) p6 p7 p8 p9)

theorem Regs.holdAll (h : Regs P s t) (rs : List Nat) (p1 : ∀ (i : ℕ), P (R.FAB_BUS_VAL_LO i) := by simp) (p2 : ∀ (i
    : ℕ), P (R.FAB_BUS_VAL_HI i) := by simp) (p3 : ∀ (i : ℕ), P (R.CFG_RGN_STAT i) := by simp) : Regs P s (t.holdAll
    rs) :=
  Regs.ite h ((((h.forEach _ (fun _ _ h1 => h1.keepLines _ (p1 _) (p2 _))).forEach _ (fun _ _ h1 => h1.holdCells _
      _)).forEach _ (fun _ _ h1 => h1.setFlag _ _ (p3 _))).dropStarts)

theorem Regs.linesRise (h : Regs P s t) (pre : State) : Regs P s (t.linesRise pre) :=
  h.forEach _ (fun _ _ h1 => Regs.ite (h1.raise _) (h1.high _))

theorem Regs.settleHold (h : Regs P s t) (r : Nat) (p1 : ∀ (i : ℕ), P (R.FAB_BUS_VAL_LO i) := by simp) (p2 : ∀ (i :
    ℕ), P (R.FAB_BUS_VAL_HI i) := by simp) (p3 : ∀ (i : ℕ), P (R.CFG_RGN_STAT i) := by simp) (p4 : P (R.CFG_RGN_STAT
    r) := by simp) : Regs P s (t.settleHold r) :=
  Regs.ite (h.holdAll _ (fun _ => (p1 _)) (fun _ => (p2 _)) (fun _ => (p3 _))) (h.when _ (fun _ h1 => ((h1.setFlag _
      _ p4).freeCells).linesRise _))

theorem Regs.pdSettle (h : Regs P s t) (k : Nat) (p1 : P R.SYS_PD_BUSY := by simp) (p2 : ∀ (i : ℕ), P
    (R.FAB_BUS_VAL_LO i) := by simp) (p3 : ∀ (i : ℕ), P (R.FAB_BUS_VAL_HI i) := by simp) (p4 : ∀ (i : ℕ), P
    (R.CFG_RGN_STAT i) := by simp) (p5 : P (R.NOC_FENCE (2 * k)) := by simp) (p6 : P (R.NI_DROP_CNT (2 * k)) := by
    simp) (p7 : P (R.NOC_FENCE (2 * k + 1)) := by simp) (p8 : P (R.NI_DROP_CNT (2 * k + 1)) := by simp) : Regs P s
    (t.pdSettle k) :=
  Regs.ite h (Regs.ite (h.setBit _ _ p1) (Regs.ite h ((((h.setBit _ _ p1).forEach _ (fun _ _ h1 => h1.settleHold _
      (fun _ => (p2 _)) (fun _ => (p3 _)) (fun _ => (p4 _)) (p4 _))).fenceStart _ p5 p6).fenceStart _ p7 p8)))

theorem Regs.pdSettleAll (h : Regs P s t) (p1 : P R.SYS_PD_BUSY := by simp) (p2 : ∀ (i : ℕ), P (R.FAB_BUS_VAL_LO i)
    := by simp) (p3 : ∀ (i : ℕ), P (R.FAB_BUS_VAL_HI i) := by simp) (p4 : ∀ (i : ℕ), P (R.CFG_RGN_STAT i) := by
    simp) (p5 : ∀ (i : ℕ), P (R.NOC_FENCE i) := by simp) (p6 : ∀ (i : ℕ), P (R.NI_DROP_CNT i) := by simp) : Regs P s
    (t.pdSettleAll) :=
  h.forEach _ (fun _ _ h1 => h1.pdSettle _ p1 (fun _ => (p2 _)) (fun _ => (p3 _)) (fun _ => (p4 _)) (p5 _) (p6 _)
      (p5 _) (p6 _))

theorem Regs.refuseRecord (h : Regs P s t) (r reason bits : Nat) (p1 : P (R.CFG_RGN_STAT r) := by simp) (p2 : ∀ (off
    : ℕ), off / 65536 = 5 → P off := by simp) : Regs P s (t.refuseRecord r reason bits) :=
  (h.when _ (fun _ h1 => h1.setFld _ _ p1)).report _ _ (by simp) (by simp) p2

theorem Regs.refuseAt (h : Regs P s t) (r reason bits : Nat) (p1 : P (R.CFG_RGN_STAT r) := by simp) (p2 : ∀ (off :
    ℕ), off / 65536 = 5 → P off := by simp) : Regs P s (t.refuseAt r reason bits) :=
  Regs.ite (h.with_gate _) (h.refuseRecord _ _ _ p1 p2)

theorem Regs.scrubForget (h : Regs P s t) (r : Nat) (p1 : P R.SCR_STAT := by simp) (p2 : P R.SCR_RGN_FLAG := by
    simp) : Regs P s (t.scrubForget r) :=
  ((h.with_scrub _).when _ (fun _ h1 => h1.setFlag _ _ p1)).setBit _ _ p2

theorem Regs.fireProbes (h : Regs P s t) (r : Nat) (p1 : ∀ (i : ℕ), P (R.FAB_PRB_STAT i) := by simp) : Regs P s
    (t.fireProbes r) :=
  h.forEach _ (fun _ _ h1 => h1.when _ (fun _ h2 => h2.prbAbort _ (p1 _)))

theorem Regs.fireRegion (h : Regs P s t) (r : Nat) (p1 : ∀ (i : ℕ), P (R.FAB_PRB_STAT i) := by simp) (p2 : P
    R.CLK_FPLL_LOCK := by simp) (p3 : P (R.CFG_RGN_GEN r) := by simp) (p4 : P (R.SCR_RGN_MAP r) := by simp) (p5 : P
    (R.CFG_RGN_STAT r) := by simp) (p6 : P (R.CFG_RGN_COUNT r) := by simp) (p7 : P R.SCR_STAT := by simp) (p8 : P
    R.SCR_RGN_FLAG := by simp) : Regs P s (t.fireRegion r) :=
  ((((((((((((h.fireProbes _ (fun _ => (p1 _))).fireFabric _ _).fireFfs _ _).fireClocks _ p2).swapPlanes _).setRg _
      _).setFld _ _ p3).setFld _ _ p3).setFld _ _ p4).setFld _ _ p4).setShadow _ _ p5).countWrap _ _ _
      p6).scrubForget _ p7 p8

theorem Regs.fireTime (h : Regs P s t) (p1 : P R.CFG_FIRE_TIME_LO := by simp) (p2 : P R.CFG_FIRE_TIME_HI := by simp)
    : Regs P s (t.fireTime) :=
  (h.setReg _ p1).setReg _ p2

theorem Regs.skmFired (h : Regs P s t) (fired : List Nat) (q : FireReq) (p1 : ∀ (i : ℕ), P (R.SKM_ENG_STAT i) := by
    simp) (p2 : ∀ (i : ℕ), P (R.LN_STAT i) := by simp) (p3 : ∀ (i : ℕ), P (R.PCS_LN_STAT i) := by simp) (p4 : ∀ (off
    : ℕ), off / 65536 = 5 → P off := by simp) (p5 : ∀ (i : ℕ), P (R.PCS_GRP_STAT i) := by simp) (p6 : ∀ (i : ℕ), P
    (R.PCS_GRP_FAULTS i) := by simp) (p7 : ∀ (i : ℕ), P (R.PCS_GRP_INT_STAT i) := by simp) (p8 : ∀ (i : ℕ), P
    (R.SKM_ENG_INT_STAT i) := by simp) : Regs P s (t.skmFired fired q) := by
  unfold State.skmFired
  dsimp only
  split
  · exact h
  · exact Regs.ite h (Regs.ite (Regs.ite (h.setSkm _ _) (h.skmRelease _ (p1 _) (fun _ => (p2 _)) (fun _ => (p3 _))
      p4 (fun _ => (p5 _)) (fun _ => (p6 _)) (fun _ => (p7 _)))) (Regs.ite (h.skmEvent _ _ (p8 _)) h))

theorem Regs.fireRefuse (h : Regs P s t) (pre : State) (reqs : List FireReq) (r : Nat) (p1 : P (R.CFG_RGN_STAT r) :=
    by simp) (p2 : ∀ (off : ℕ), off / 65536 = 5 → P off := by simp) : Regs P s (t.fireRefuse pre reqs r) := by
  unfold State.fireRefuse
  dsimp only
  split
  · exact h.refuseAt _ _ _ p1 p2
  · exact h

theorem Regs.padClear (h : Regs P s t) : Regs P s (t.padClear) := h.with_pad _

theorem Regs.readDirectory (h : Regs P s t) (p1 : P R.CFG_DIR_SRC := by simp) (p2 : P R.CFG_DIR_SEQ := by simp) (p3
    : ∀ (off : ℕ), off / 65536 = 5 → P off := by simp) : Regs P s (t.readDirectory) := by
  unfold State.readDirectory
  dsimp only
  split
  · exact h.setReg _ p1
  · exact ((h.setReg _ p2).setReg _ p1).when _ (fun _ h1 => h1.report _ _ (by simp) (by simp) p3)

theorem Regs.setScrub (h : Regs P s t) (x : Scrub) : Regs P s (t.setScrub x) := h.with_scrub _

theorem Regs.scrubStop (h : Regs P s t) (p1 : P R.SCR_RGN_FLAG := by simp) (p2 : P R.SCR_FLAG := by simp) (p3 : P
    R.SCR_STAT := by simp) : Regs P s (t.scrubStop) :=
  ((((h.setReg _ p1).setReg _ p2).setFlag _ _ p3).setFlag _ _ p3).setScrub _

theorem Regs.setMb (h : Regs P s t) (m : Nat) (x : Mbx) : Regs P s (t.setMb m x) := h.with_mbx _

theorem Regs.mbSource (h : Regs P s t) (m : Nat) : Regs P s (t.mbSource m) := h.settle _ _

theorem Regs.mbFlag (h : Regs P s t) (m : Nat) (f : Fld) (p1 : P (R.MBX_STAT m) := by simp) : Regs P s (t.mbFlag m
    f) :=
  (h.setFlag _ _ p1).mbSource _

theorem Regs.mbSettleN (h : Regs P s t) (m n : Nat) (p1 : P (R.MBX_STAT m) := by simp) : Regs P s (t.mbSettleN m n) := by
  induction n generalizing t with
  | zero => exact h
  | succ n ih =>
    unfold State.mbSettleN
    dsimp only
    split
    · exact h
    · exact .ite h (ih ((h.setMb _ _).mbFlag _ _ p1))

theorem Regs.mbSettle (h : Regs P s t) (m : Nat) (p1 : P (R.MBX_STAT m) := by simp) : Regs P s (t.mbSettle m) :=
  h.mbSettleN _ _ p1

theorem Regs.mbAnswer (h : Regs P s t) (m code detail : Nat) (payload : List Byte) (p1 : P (R.MBX_STAT m) := by
    simp) : Regs P s (t.mbAnswer m code detail payload) := by
  unfold State.mbAnswer
  dsimp only
  split
  · exact h
  · exact ((h.setMb _ _).mbSettle _ p1).mbSource _

theorem Regs.setBoot (h : Regs P s t) (b : Boot) : Regs P s (t.setBoot b) := h.with_boot _

theorem Regs.setFw (h : Regs P s t) (f : Fw) : Regs P s (t.setFw f) := h.with_fw _

theorem Regs.setPhase (h : Regs P s t) (n : Nat) (p1 : P R.CFG_BOOT_STAT := by simp) : Regs P s (t.setPhase n) :=
  h.setFld _ _ p1

theorem Regs.putLoad (h : Regs P s t) (l : Load) : Regs P s (t.putLoad l) := h.setBoot _

theorem Regs.dropLoad (h : Regs P s t) (p : LoadPath) : Regs P s (t.dropLoad p) := h.of_csr rfl

theorem Regs.clearPlanes (h : Regs P s t) (p1 : P R.CLK_FPLL_LOCK := by simp) (p2 : ∀ (i : Nat), P (R.FAB_BUS_VAL_LO i) := by simp)
    (p3 : ∀ (i : Nat), P (R.FAB_BUS_VAL_HI i) := by simp) : Regs P s t.clearPlanes :=
  ((((((h.seeClocks).with_act Plane.zero).with_shd Plane.zero).with_fab
    { t.seeClocks.fab with stopped := [], relock := [] }).setReg 0 p1).forEach _ fun _ _ h1 =>
      (h1.setReg _ (p2 _)).setReg _ (p3 _))

theorem Regs.startClearing (h : Regs P s t) (p1 : P R.CLK_FPLL_LOCK := by simp) (p2 : ∀ (i : ℕ), P (R.FAB_BUS_VAL_LO
    i) := by simp) (p3 : ∀ (i : ℕ), P (R.FAB_BUS_VAL_HI i) := by simp) (p4 : P R.SCR_RGN_FLAG := by simp) (p5 : P
    R.SCR_FLAG := by simp) (p6 : P R.SCR_STAT := by simp) : Regs P s (t.startClearing) :=
  ((h.clearPlanes p1 (fun _ => (p2 _)) (fun _ => (p3 _))).scrubStop p4 p5 p6).setBoot _

theorem Regs.mcReset (h : Regs P s t) (c : Nat) (p1 : P (R.MT_RUN c) := by simp) (p2 : P (R.MT_STAT c) := by simp)
    (p3 : P (R.MC_STAT c) := by simp) (p4 : P (R.MT_PR_STAT c) := by simp) (p5 : ∀ (i : ℕ), P (R.NI_DROP_CNT i) :=
    by simp) : Regs P s (t.mcReset c) :=
  (((h.when _ (fun _ h1 => h1.mtLeave _ p1 p2)).setMcState _ _ p3 p4).mcAbandon _ (fun _ => (p5 _))).rldDrop _ _

theorem Regs.resetColumn (h : Regs P s t) (p1 : P R.CFG_BOOT_STAT := by simp) (p2 : ∀ (i : ℕ), P (R.FAB_GSR_STAT i)
    := by simp) (p3 : ∀ (i : ℕ), P (R.LN_CTRL i) := by simp) (p4 : ∀ (i : ℕ), P (R.MT_RUN i) := by simp) (p5 : ∀ (i
    : ℕ), P (R.MT_STAT i) := by simp) (p6 : ∀ (i : ℕ), P (R.MC_STAT i) := by simp) (p7 : ∀ (i : ℕ), P (R.MT_PR_STAT
    i) := by simp) (p8 : ∀ (i : ℕ), P (R.NI_DROP_CNT i) := by simp) : Regs P s (t.resetColumn) :=
  ((((((h.setFld _ _ p1).setFlag _ _ p1).setFlag _ _ p1).assertGsr (fun _ => (p2 _))).forEach _ (fun _ _ h1 =>
      h1.setFlag _ _ (p3 _))).forEach _ (fun _ _ h1 => h1.mcReset _ (p4 _) (p5 _) (p6 _) (p7 _) (fun _ => (p8
      _)))).settlePins

theorem Regs.bootRecord (h : Regs P s t) (image code block : Nat) (p1 : P R.CFG_BOOT_ERR := by simp) (p2 : ∀ (off :
    ℕ), off / 65536 = 5 → P off := by simp) : Regs P s (t.bootRecord image code block) :=
  ((h.setFld _ _ p1).setFld _ _ p1).report _ _ (by simp) (by simp) p2

theorem Regs.enterFailed (h : Regs P s t) (p1 : P R.CFG_BOOT_STAT := by simp) : Regs P s (t.enterFailed) :=
  (h.setPhase _ p1).setFlag _ _ p1

theorem Regs.lastFailed (h : Regs P s t) (kind : Nat) (p1 : P R.CFG_BOOT_STAT := by simp) : Regs P s (t.lastFailed
    kind) :=
  Regs.ite h (h.enterFailed p1)

theorem Regs.startAlternate (h : Regs P s t) (path : LoadPath) (kind pri : Nat) (p1 : P R.CFG_BOOT_ERR := by simp)
    (p2 : ∀ (off : ℕ), off / 65536 = 5 → P off := by simp) (p3 : P R.CFG_BOOT_STAT := by simp) : Regs P s
    (t.startAlternate path kind pri) := by
  unfold State.startAlternate
  split
  · exact h.putLoad _
  · exact (h.bootRecord _ _ _ p1 p2).lastFailed _ p3

theorem Regs.startFlash (h : Regs P s t) (path : LoadPath) (kind : Nat) (p1 : P R.CFG_DIR_SRC := by simp) (p2 : P
    R.CFG_DIR_SEQ := by simp) (p3 : ∀ (off : ℕ), off / 65536 = 5 → P off := by simp) (p4 : P R.CFG_BOOT_ERR := by
    simp) (p5 : P R.CFG_BOOT_STAT := by simp) : Regs P s (t.startFlash path kind) := by
  unfold State.startFlash
  dsimp only
  split
  · exact (h.readDirectory p1 p2 p3).putLoad _
  · exact Regs.ite (((h.readDirectory p1 p2 p3).bootRecord _ _ _ p4 p3).startAlternate _ _ _ p4 p3 p5)
      (((h.readDirectory p1 p2 p3).bootRecord _ _ _ p4 p3).lastFailed _ p5)

theorem Regs.stageRecord (h : Regs P s t) (src region code low : Nat) (p1 : src < 1024 := by simp) (p2 : ∀ (off :
    ℕ), off / 65536 = 5 → P off := by simp) : Regs P s (t.stageRecord src region code low) :=
  h.report _ _ p1 (by simp) p2

theorem Regs.answerStager (h : Regs P s t) (code detail : Nat) (p1 : ∀ (i : ℕ), P (R.MBX_STAT i) := by simp) : Regs
    P s (t.answerStager code detail) := by
  unfold State.answerStager
  dsimp only
  split
  · exact (h.mbAnswer _ _ _ _ (p1 _)).setFw _
  · exact h

theorem Regs.bootAgain (h : Regs P s t) (p1 : P R.CFG_BOOT_ERR := by simp) (p2 : ∀ (off : ℕ), off / 65536 = 5 → P
    off := by simp) (p3 : P R.CFG_BOOT_STAT := by simp) (p4 : P R.CFG_DIR_SRC := by simp) (p5 : P R.CFG_DIR_SEQ :=
    by simp) : Regs P s (t.bootAgain) :=
  Regs.ite h (Regs.ite (h.when _ (fun _ h1 => (h1.bootRecord _ _ _ p1 p2).enterFailed p3)) (Regs.ite h (h.startFlash
      _ _ p4 p5 p2 p1 p3)))

theorem Regs.settleOf (h : Regs P s t) (n : Nat) : Regs P s (t.settleOf n) := h.settle _ _

theorem Regs.portsUp (h : Regs P s t) (p1 : ∀ (i : ℕ), P (R.NOC_STAT i) := by simp) : Regs P s (t.portsUp) :=
  h.forEach _ (fun _ _ h1 => h1.setFld _ _ (p1 _))

end Sys2Proof.Machine
end

section
/-! ## Register writes -/

namespace Sys2Proof.Machine

-- Elaborated in order: side by side, so many short proofs would each hold a thread with its stack.
set_option Elab.async false

open Sys2Proof

theorem RegRow.getLsbD_after (r : RegRow) (o : Bool) (old v : Word) (i : Nat) (h : i < 32) : (r.after o old v).getLsbD i =
    (((if (r.rw.getLsbD i || (o && r.lck.getLsbD i)) then v.getLsbD i else old.getLsbD i) && !(v.getLsbD i && r.w1c.getLsbD i)) ||
      (v.getLsbD i && r.w1s.getLsbD i)) := by
  cases o
  · simp [RegRow.after, h]
    cases r.rw[i] <;> simp
  · simp [RegRow.after, h]
    cases r.rw[i] <;> cases r.lck[i] <;> simp

/-- A LIVE field takes the value written. -/
theorem RegRow.fget_after_live {r : RegRow} {f : Fld} (h : ∀ i < f.w, (r.rw.getLsbD (f.lo + i) && !r.w1c.getLsbD (f.lo + i)) = true)
    (hf : f.lo + f.w ≤ 32) (o : Bool) (old v : Word) : (r.after o old v).fget f = v.fget f := by
  refine Nat.eq_of_testBit_eq fun k => ?_
  rw [Word.testBit_fget, Word.testBit_fget]
  by_cases hk : k < f.w
  · have h1 := h k hk
    simp only [Bool.and_eq_true, Bool.not_eq_true'] at h1
    rw [RegRow.getLsbD_after _ _ _ _ _ (by omega)]
    simp only [h1.1, h1.2]
    cases v.getLsbD (f.lo + k) <;> simp
  · simp [hk]

/-- A field that no write changes. -/
theorem RegRow.fget_after_kept {r : RegRow} {f : Fld} (h : ∀ i < f.w, (r.rw.getLsbD (f.lo + i) || r.lck.getLsbD (f.lo + i) ||
    r.w1c.getLsbD (f.lo + i) || r.w1s.getLsbD (f.lo + i)) = false) (hf : f.lo + f.w ≤ 32) (o : Bool) (old v : Word) :
    (r.after o old v).fget f = old.fget f := by
  refine Nat.eq_of_testBit_eq fun k => ?_
  rw [Word.testBit_fget, Word.testBit_fget]
  by_cases hk : k < f.w
  · have h1 := h k hk
    simp only [Bool.or_eq_false_iff] at h1
    obtain ⟨⟨⟨h1, h2⟩, h3⟩, h4⟩ := h1
    rw [RegRow.getLsbD_after _ _ _ _ _ (by omega)]
    simp [h1, h2, h3, h4]
  · simp [hk]

/-- A write of an open block's register that has no staging copy. -/
theorem State.store_open {off : Nat} {r : RegRow} {ix : List Nat} (h : rowAt off = some (r, ix)) (hs : r.stg = 0) (s : State) (v : Word)
    (locked : State → State) : s.store true off v locked = s.setReg off (r.after true (s.reg off) v) := by
  rw [State.store_of_unstaged h hs]
  exact State.when_false (by simp [RegRow.lockedHit]) _ _

theorem fget_bitOn_apart (v : Word) {f g : Fld} (hf : f.w = 1) (h : g.lo + g.w ≤ f.lo ∨ f.lo < g.lo) (hg : g.lo + g.w ≤ 32) :
    (bitOn v f).fget g = v.fget g := by
  refine Nat.eq_of_testBit_eq fun k => ?_
  rw [Word.testBit_fget, Word.testBit_fget]
  by_cases hk : k < g.w
  · have hne : decide (g.lo + k = f.lo) = false := decide_eq_false (by omega)
    rw [getLsbD_bitOn v hf (by omega), hne, Bool.or_false]
  · simp [hk]

end Sys2Proof.Machine
end

section
/-! ## Supplies, PORST_N and the power-on reset (O7) -/

namespace Sys2Proof.Machine

-- Elaborated in order: side by side, so many short proofs would each hold a thread with its stack.
set_option Elab.async false

open Sys2Proof

/-- The three supply monitors outlive a power-on reset, every other register takes its reset value. -/
theorem State.reg_powerOnReset (s : State) (off : Nat) :
    s.powerOnReset.reg off = if off ∈ [R.SYS_SUPPLY, R.SYS_VCCIO_LO, R.SYS_VCCIO_HI] then s.reg off else resetOf off := by
  have h0 : ∀ t : State, t.csr = [] → t.reg off = resetOf off := fun t h => by rw [State.reg, h]; rfl
  unfold State.powerOnReset
  simp only [State.reg_setReg, List.mem_cons, List.not_mem_nil, or_false]
  rw [h0 _ rfl]
  split
  · next h => subst h; rfl
  · split
    · next h => subst h; rfl
    · split
      · next h => subst h; rfl
      · simp [*]

theorem State.reg_powerOnReset_of (s : State) {off : Nat} (h : off ∈ [R.SYS_SUPPLY, R.SYS_VCCIO_LO, R.SYS_VCCIO_HI]) :
    s.powerOnReset.reg off = s.reg off := (State.reg_powerOnReset s off).trans (if_pos h)

theorem State.reg_powerOnReset_reset (s : State) {off : Nat} (h : off ∉ [R.SYS_SUPPLY, R.SYS_VCCIO_LO, R.SYS_VCCIO_HI]) :
    s.powerOnReset.reg off = resetOf off := (State.reg_powerOnReset s off).trans (if_neg h)

theorem execVccioChange_eq (bank : Fin 40) (valid : Bool) (s : State) : execVccioChange bank valid s =
    .next (s.setBit (if bank.val < 32 then R.SYS_VCCIO_LO else R.SYS_VCCIO_HI) (bank.val % 32) valid) := by
  unfold execVccioChange
  by_cases h : bank.val < 32
  · rw [if_pos h, if_pos h, Nat.mod_eq_of_lt h]
  · rw [if_neg h, if_neg h, show bank.val % 32 = bank.val - 32 by omega]

theorem suppliesAndPowerOnReset : SuppliesAndPowerOnReset := by
  refine ⟨fun rail s => ?valid, fun rail s => ?invalid, fun s h => ?release, fun s h => ?held⟩
  case valid =>
    exact ⟨_, rfl, fun j hj => State.bit_setBit_of _ _ _ _ _ hj, ((Regs.refl _ s).setBit _ _ (by simp)).but,
      (Only.refl _ s).setBit _ _ _⟩
  case invalid =>
    refine ⟨_, rfl, rfl, rfl, ?_, fun off hoff => State.reg_powerOnReset_reset _ hoff, ?_, ?_, rfl, rfl, rfl, rfl, rfl, rfl, rfl, rfl⟩
    · exact (State.bit_of_reg (State.reg_powerOnReset_of _ (by simp)) _).trans (State.bit_setBit_self _ _ _ _ (by omega))
    · exact (State.reg_powerOnReset_of _ (by simp)).trans (State.reg_setBit_other _ _ _ _ _ (by decide))
    · exact (State.reg_powerOnReset_of _ (by simp)).trans (State.reg_setBit_other _ _ _ _ _ (by decide))
  case release =>
    exact ⟨_, congrArg Host.Outcome.next (State.when_true h s _), rfl, (Only.refl _ s).setBoard _⟩
  case held => exact congrArg Host.Outcome.next (State.when_false h s _)

theorem porstPinAndVccio : PorstPinAndVccio := by
  refine ⟨fun s => ?low, fun s => ⟨_, rfl, rfl, (Only.refl _ s).setBoard _⟩, fun bank valid s => ?vccio⟩
  case low =>
    have hr := fun off => State.reg_powerOnReset_reset (off := off) s
    refine ⟨_, rfl, rfl, rfl, ?_, hr, rfl, rfl, rfl, rfl, rfl⟩
    change ((s.powerOnReset.reg R.CLK_STAT).fget F.CLK_STAT_SYSPLL_LOCK != 0) = false
    rw [hr R.CLK_STAT (by decide)]
    decide
  case vccio =>
    refine ⟨_, execVccioChange_eq bank valid s, State.bit_setBit_self _ _ _ _ (Nat.mod_lt _ (by decide)), fun j hj hne => ?_,
      ((Regs.refl _ s).setBit _ _ (by simp)).but, (Only.refl _ s).setBit _ _ _⟩
    rw [State.bit_setBit_of _ _ _ _ _ hj, if_neg hne]

/-- Settles O7: each event sets its own bit or pin, and the power-on reset keeps the three supply monitors alone. -/
theorem suppliesPinsAndPowerOnReset : Obligations.SuppliesPinsAndPowerOnReset := ⟨suppliesAndPowerOnReset, porstPinAndVccio⟩

end Sys2Proof.Machine
end

section
/-! ## A load that the boot ROM tries -/

namespace Sys2Proof.Machine

-- Elaborated in order: side by side, so many short proofs would each hold a thread with its stack.
set_option Elab.async false

open Sys2Proof

/-- What trying a load can change of the boot block: the loads, the phase and CFG_ERR. -/
structure Tried (s t : State) : Prop where
  boot : ∃ l, t.boot = { s.boot with loads := l }
  fld : ∀ f : Fld, (f.lo + f.w ≤ 20 ∨ 30 ≤ f.lo) ∧ f.lo + f.w ≤ 32 → t.fld R.CFG_BOOT_STAT f = s.fld R.CFG_BOOT_STAT f

namespace Tried
variable {s t u : State}

theorem refl (s : State) : Tried s s := ⟨⟨_, rfl⟩, fun _ _ => rfl⟩

theorem trans (h : Tried s t) (k : Tried t u) : Tried s u := by
  obtain ⟨l, hl⟩ := h.boot
  obtain ⟨m, hm⟩ := k.boot
  exact ⟨⟨m, by rw [hm, hl]⟩, fun f hf => (k.fld f hf).trans (h.fld f hf)⟩

theorem of_same (hb : t.boot = s.boot) (hr : t.reg R.CFG_BOOT_STAT = s.reg R.CFG_BOOT_STAT) : Tried s t :=
  ⟨⟨_, hb⟩, fun f _ => State.fld_of_reg hr f⟩

theorem setFld (s : State) (g : Fld) (n : Nat) (hg : 20 ≤ g.lo ∧ g.lo + g.w ≤ 30) : Tried s (s.setFld R.CFG_BOOT_STAT g n) :=
  ⟨⟨_, rfl⟩, fun f hf => State.fld_setFld_apart _ _ _ _ _ (by omega) hf.2⟩

theorem putLoad (s : State) (l : Load) : Tried s (s.putLoad l) := ⟨⟨_, rfl⟩, fun _ _ => rfl⟩

theorem enterFailed (s : State) : Tried s s.enterFailed := (setFld s _ _ (by decide)).trans (setFld _ _ _ (by decide))

theorem lastFailed (s : State) (kind : Nat) : Tried s (s.lastFailed kind) := by
  unfold State.lastFailed
  split
  · exact refl s
  · exact enterFailed s

theorem bootRecord (s : State) (image code block : Nat) : Tried s (s.bootRecord image code block) :=
  of_same ((Only.refl [.csr, .ic, .err] s).bootRecord image code block |>.same .boot)
    ((Regs.refl _ s).bootRecord _ _ _ (by decide) (by unfold R.CFG_BOOT_STAT; omega)).same

theorem readDirectory (s : State) : Tried s s.readDirectory :=
  of_same ((Only.refl [.csr, .ic, .err] s).readDirectory |>.same .boot)
    ((Regs.refl _ s).readDirectory (by decide) (by decide) (by unfold R.CFG_BOOT_STAT; omega)).same

theorem startAlternate (s : State) (p : LoadPath) (kind pri : Nat) : Tried s (s.startAlternate p kind pri) := by
  unfold State.startAlternate
  split
  · exact putLoad s _
  · exact (bootRecord s _ _ _).trans (lastFailed _ kind)

theorem startFlash (s : State) (p : LoadPath) (kind : Nat) : Tried s (s.startFlash p kind) := by
  unfold State.startFlash
  dsimp only
  refine (readDirectory s).trans ?_
  split
  · exact putLoad _ _
  · split
    · exact (bootRecord _ _ _ _).trans (startAlternate _ _ _ _)
    · exact (bootRecord _ _ _ _).trans (lastFailed _ _)

theorem bootAgain (s : State) : Tried s s.bootAgain := by
  unfold State.bootAgain
  split
  · exact refl s
  split
  · exact State.when_rel _ _ _ (refl s) fun _ => (bootRecord _ _ _ _).trans (enterFailed _)
  split
  · exact refl s
  · exact startFlash s _ _

end Tried

/-- The boot ROM tries nothing in a halt, or with CFG_START_N low. -/
theorem State.bootAgain_waits {s : State} (h : s.board.startN = false ∨ s.halted = true) : s.bootAgain = s := by
  unfold State.bootAgain
  rcases h with h | h <;> simp [h]

/-- Boot mode 0b100 waits for a load in BLANK and DEVELOP. -/
theorem State.bootAgain_jtag {s : State} (hm : s.mode = 4) (hl : s.lc < 2) : s.bootAgain = s := by
  unfold State.bootAgain State.when
  simp [hm, Nat.not_le.mpr hl]

/-- Boot mode 0b100 fails in DEPLOY and RETURN. -/
theorem State.bootAgain_refused {s : State} (hn : s.board.startN = true) (hh : s.halted = false) (hm : s.mode = 4)
    (hl : 2 ≤ s.lc) : s.bootAgain = (s.bootRecord 3 0x14 0xFFFF).enterFailed := by
  unfold State.bootAgain State.when
  simp [hn, hh, hm, hl]

theorem State.phase_enterFailed (s : State) (h : s.boot.inReset = false) : s.enterFailed.phase = 6 := by
  unfold State.phase
  rw [show s.enterFailed.boot.inReset = false from h]
  simp (disch := decide) [State.enterFailed, State.setPhase]
  rfl

/-- The record of a mode that is refused names image 3, so that its code shows in ALT_CODE (R211). -/
theorem State.altCode_refused (s : State) :
    (s.bootRecord 3 0x14 0xFFFF).enterFailed.fld R.CFG_BOOT_ERR F.CFG_BOOT_ERR_ALT_CODE = 0x14 := by
  unfold State.bootRecord
  rw [State.fld_of_reg (((Regs.refl (· ≠ R.CFG_BOOT_ERR) _).report _ _ (by simp) (by simp)
    (by unfold R.CFG_BOOT_ERR; omega)).enterFailed (by decide)).same]
  simp (disch := decide)
  rfl

/-! ## The exit from RESET (O8) -/

/-- The state in which the boot ROM begins: no firmware, and the scratchpad clear. -/
def State.romStarted (s : State) : State :=
  ((s.padClear.setBoot { s.boot with fw := false }).setFw Fw.empty).setReg R.MBX_VER 0

/-- The pins as sampled, and the registers with them, before the clearing starts. -/
def State.sampled (s : State) (mode : Fin 8) (i2c : Fin 4) (pullSel startN : Bool) (flash0 flash1 : Option FlashDev) : State :=
  let t := s.setBoot { s.boot with inReset := false, flash0 := s.boot.flash0.meet flash0
                                   flash1 := s.boot.flash1.meet flash1 }
  let u := t.setBoard { t.board with i2c := i2c, pullSel := pullSel, startN := startN }
  let narrow := fun (f : Flash) => f.fitted && !f.octal
  let some1 := u.boot.flash0.fitted || u.boot.flash1.fitted
  let quad := mode != 4 && some1 && (mode == 1 || narrow u.boot.flash0 || narrow u.boot.flash1)
  (((u.setPhase 1).setFld R.CFG_BOOT_STAT F.CFG_BOOT_STAT_MODE mode).setFlag R.CFG_BOOT_STAT F.CFG_BOOT_STAT_FLASH1
    u.boot.flash1.fitted).setFlag R.CFG_BOOT_STAT F.CFG_BOOT_STAT_QSPI quad

/-- The state in which the boot ROM begins after RESET: a clearing started, no firmware, and the scratchpad clear. -/
def State.leftReset (s : State) (mode : Fin 8) (i2c : Fin 4) (pullSel startN : Bool) (flash0 flash1 : Option FlashDev) : State :=
  let v := s.sampled mode i2c pullSel startN flash0 flash1
  (v.portsUp.setFlag R.SEC_STAT F.SEC_STAT_DBG_OPEN (v.lc != 2)).startClearing.romStarted

theorem State.startClearing_boot (s : State) : s.startClearing.boot = { s.boot with clearing := true } :=
  congrArg (fun b : Boot => { b with clearing := true })
    ((Only.refl [.csr, .act, .shd, .scrub, .fab, .clk] s).clearPlanes.scrubStop.same .boot)

theorem State.startClearing_reg (s : State) {off : Nat} (hb : off < 0x3000000)
    (h : off ∉ [R.CLK_FPLL_LOCK, R.SCR_RGN_FLAG, R.SCR_FLAG, R.SCR_STAT]) : s.startClearing.reg off = s.reg off := by
  simp only [List.mem_cons, List.not_mem_nil, or_false, not_or] at h
  obtain ⟨h1, h2, h3, h4⟩ := h
  refine ((Regs.refl (· ≠ off) s).startClearing (Ne.symm h1) (fun i => ?_) (fun i => ?_) (Ne.symm h2) (Ne.symm h3) (Ne.symm h4)).same
  · unfold R.FAB_BUS_VAL_LO
    omega
  · unfold R.FAB_BUS_VAL_HI
    omega

/-- The registers of the boot block and of the debugger are none of those that a clearing, or the start of the boot ROM, changes. -/
theorem State.clearingStart_regs (s : State) (b : Bool) : Regs (fun off => off ∉ [R.CFG_BOOT_STAT, R.DBG_STAT]) s
    (s.portsUp.setFlag R.SEC_STAT F.SEC_STAT_DBG_OPEN b).startClearing.romStarted := by
  have hne : ∀ off, off ≠ 0x20000 → off ≠ 0x70000 → off ∉ [R.CFG_BOOT_STAT, R.DBG_STAT] := fun off h1 h2 hm => by
    simp only [List.mem_cons, List.not_mem_nil, or_false, R.CFG_BOOT_STAT, R.DBG_STAT] at hm
    omega
  refine ((((((Regs.refl _ s).portsUp fun i => hne _ ?_ ?_).setFlag _ _ (by decide)).startClearing (by decide) (fun i => hne _ ?_ ?_)
    (fun i => hne _ ?_ ?_) (by decide) (by decide) (by decide)).padClear.setBoot _).setFw _).setReg _ (by decide)
  all_goals
    simp only [R.NOC_STAT, R.FAB_BUS_VAL_LO, R.FAB_BUS_VAL_HI]
    omega

theorem State.romStarted_fw (s : State) : s.romStarted.fw = Fw.empty := rfl

theorem State.romStarted_boot (s : State) : s.romStarted.boot = { s.boot with fw := false } := rfl

section
variable (mode : Fin 8) (i2c : Fin 4) (pull startN : Bool) (f0 f1 : Option FlashDev) (s : State)

/-- The registers of the boot block and of the debugger are those of the sampled state. -/
theorem leftReset_reg {off : Nat} (h : off ∈ [R.CFG_BOOT_STAT, R.DBG_STAT]) :
    (s.leftReset mode i2c pull startN f0 f1).reg off = (s.sampled mode i2c pull startN f0 f1).reg off :=
  State.clearingStart_regs _ _ off (not_not_intro h)

theorem leftReset_boot : (s.leftReset mode i2c pull startN f0 f1).boot = { s.boot with
    inReset := false, fw := false, clearing := true, flash0 := s.boot.flash0.meet f0, flash1 := s.boot.flash1.meet f1 } := by
  have hp := fun v : State => (Only.refl [.csr] v).portsUp.same .boot
  unfold State.leftReset
  dsimp only
  rw [State.romStarted_boot, State.startClearing_boot, State.boot_setFlag, hp]
  simp only [State.sampled, State.boot_setFlag, State.boot_setFld, State.setPhase]
  rfl

theorem leftReset_only : Only [.csr, .act, .shd, .boot, .scrub, .fab, .clk, .pad, .fw, .board] s
    (s.leftReset mode i2c pull startN f0 f1) :=
  (((((((Only.refl _ s).setBoot _).setBoard _).setPhase _).setFld _ _ _).setFlag _ _ _).setFlag _ _ _).portsUp.setFlag _ _ _
    |>.startClearing.padClear.setBoot _ |>.setFw _ |>.setReg _ _

theorem leftReset_board : (s.leftReset mode i2c pull startN f0 f1).board =
    { s.board with i2c := i2c.val, pullSel := pull, startN := startN } :=
  (Only.refl [.csr, .act, .shd, .boot, .scrub, .fab, .clk, .pad, .fw] (s.sampled mode i2c pull startN f0 f1)).portsUp.setFlag _ _ _
    |>.startClearing.padClear.setBoot _ |>.setFw _ |>.setReg _ _ |>.same .board

theorem leftReset_fw : (s.leftReset mode i2c pull startN f0 f1).fw = Fw.empty := by
  unfold State.leftReset
  exact State.romStarted_fw _

theorem leftReset_mode : (s.leftReset mode i2c pull startN f0 f1).fld R.CFG_BOOT_STAT F.CFG_BOOT_STAT_MODE = mode := by
  rw [State.fld_of_reg (leftReset_reg mode i2c pull startN f0 f1 s (by simp))]
  simp (disch := decide) [State.sampled]
  exact Nat.mod_eq_of_lt mode.isLt

theorem leftReset_phase : (s.leftReset mode i2c pull startN f0 f1).fld R.CFG_BOOT_STAT F.CFG_BOOT_STAT_PHASE = 1 := by
  rw [State.fld_of_reg (leftReset_reg mode i2c pull startN f0 f1 s (by simp))]
  simp (disch := decide) [State.sampled, State.setPhase]

theorem leftReset_halted : (s.leftReset mode i2c pull startN f0 f1).halted = s.halted := by
  unfold State.halted
  rw [State.flag_of_reg (leftReset_reg mode i2c pull startN f0 f1 s (by simp))]
  simp (disch := decide) [State.sampled, State.setPhase]
  rfl

theorem leftReset_mode_eq : ((s.leftReset mode i2c pull startN f0 f1).mode == 4) = (mode == 4) := by
  unfold State.mode
  rw [leftReset_mode]
  revert mode
  decide

/-- Mode 0b100 and the others alike: the boot ROM tries a load once. -/
theorem execResetExit_eq (h : s.boot.inReset = true ∧ s.suppliesValid = true ∧ s.board.por = false ∧ s.board.porstN = true ∧
    s.flag R.CLK_STAT F.CLK_STAT_SYSPLL_LOCK = true) : exec (.resetExit mode i2c pull startN f0 f1) s =
    .next ([0, 1, 5, 508, 509].foldl (fun t k => t.settleOf k) (s.leftReset mode i2c pull startN f0 f1).bootAgain) := by
  obtain ⟨h1, h2, h3, h4, h5⟩ := h
  refine Eq.trans (b := execResetExit mode i2c pull startN f0 f1 s) rfl ?_
  have hm := leftReset_mode_eq mode i2c pull startN f0 f1 s
  unfold execResetExit
  rw [if_neg (by simp [h1, h2, h3, h4, h5])]
  refine congrArg (fun x : State => Host.Outcome.next (List.foldl (fun (t : State) k => t.settleOf k) x [0, 1, 5, 508, 509])) ?_
  by_cases h4 : (mode == 4) = true
  · refine (State.when_true h4 _ _).trans (congrArg State.bootAgain ?_)
    exact State.when_false (b := (s.leftReset mode i2c pull startN f0 f1).mode != 4) (by simp [bne, hm, h4]) _ _
  · refine (State.when_false (by simpa using h4) _ _).trans ?_
    exact State.when_true (b := (s.leftReset mode i2c pull startN f0 f1).mode != 4) (by simp [bne, hm, h4]) _ _

end

/-- Settles O8: the boot ROM's one try at a load comes after the pins are sampled, and is put off by the pin or a halt. -/
theorem resetExitSamplesPins : Obligations.ResetExitSamplesPins := by
  intro mode i2c pull startN f0 f1 s
  refine ⟨fun h => ?_, fun h => ?_⟩
  · set v := s.leftReset mode i2c pull startN f0 f1 with hv
    set t := [0, 1, 5, 508, 509].foldl (fun t k => t.settleOf k) v.bootAgain with ht
    have hic : Only [.ic] v.bootAgain t := (Only.refl _ _).foldl _ fun _ _ h1 => h1.settleOf _
    have hreg : Regs (fun _ => False) v.bootAgain t := (Regs.refl _ _).foldl _ fun _ _ h1 => h1.settleOf _
    have hboot := hic.same .boot
    have hphase : t.phase = v.bootAgain.phase := by
      unfold State.phase
      rw [hboot, State.fld_of_reg (hreg _ id)]
    have hkeep : v.bootAgain = v → t.phase = 1 ∧ t.boot.loads = s.boot.loads := fun he => by
      refine ⟨?_, ?_⟩
      · rw [hphase, he]
        unfold State.phase
        rw [hv, leftReset_boot, leftReset_phase]
        rfl
      · rw [show t.boot = v.bootAgain.boot from hboot, he, hv, leftReset_boot]
    obtain ⟨l, hl⟩ := (Tried.bootAgain v).boot
    have hb : t.boot = { v.boot with loads := l } := Eq.trans hboot hl
    have ho : Only [.csr, .ic, .err, .boot] v t := (Only.refl [.csr, .ic, .err, .boot] v).bootAgain.trans (hic.mono (by simp))
    have hfuses : v.fuses = s.fuses := (leftReset_only mode i2c pull startN f0 f1 s).same .fuses
    have hfw : v.fw = Fw.empty := leftReset_fw ..
    have hlc : v.lc = s.lc := by rw [State.lc, State.lc, hfuses]
    have hboard : v.board = { s.board with i2c := i2c.val, pullSel := pull, startN := startN } := leftReset_board ..
    have hhalt : v.halted = s.halted := leftReset_halted ..
    have hmode : mode = 4 → v.mode = 4 := fun hm =>
      eq_of_beq ((leftReset_mode_eq mode i2c pull startN f0 f1 s).trans (beq_iff_eq.mpr hm))
    refine ⟨t, execResetExit_eq _ _ _ _ _ _ _ h, ?_, ?_, (ho.same .board).trans hboard, ?_, (ho.same .fuses).trans hfuses,
      fun hm hl => ?_, fun hm hl hn hh => ?_, fun hw => hkeep (State.bootAgain_waits ?_)⟩
    · rw [hb, hv, leftReset_boot]
    · rw [hb, hv, leftReset_boot]
    · rw [State.fld_of_reg (hreg _ id), (Tried.bootAgain v).fld _ (by decide), hv, leftReset_mode]
    · obtain ⟨hp, hloads⟩ := hkeep (State.bootAgain_jtag (hmode hm) (hlc ▸ hl))
      exact ⟨hp, hloads, by rw [hb, hv, leftReset_boot], (ho.same .fw).trans hfw⟩
    · have he := State.bootAgain_refused (s := v) (by rw [hboard]; exact hn) (hhalt.trans hh) (hmode hm) (hlc ▸ hl)
      have hr := (Only.refl [.csr, .ic, .err] v).bootRecord 3 0x14 0xFFFF
      refine ⟨?_, ?_, ?_⟩
      · rw [hphase, he]
        exact State.phase_enterFailed _ (by rw [hr.same .boot, hv, leftReset_boot])
      · rw [State.fld_of_reg (hreg _ id), he]
        exact State.altCode_refused v
      · rw [hboot, he]
        exact (congrArg Boot.loads (hr.same .boot)).trans (by rw [hv, leftReset_boot])
    · rw [hboard, hhalt]
      exact hw
  · refine congrArg Host.Outcome.next (if_pos ?_)
    rcases h with h | h | h | h | h <;> simp [h]

end Sys2Proof.Machine
end

section
/-! ## Losses of clocks and their recovery (O9) -/

namespace Sys2Proof.Machine

-- Elaborated in order: side by side, so many short proofs would each hold a thread with its stack.
set_option Elab.async false

open Sys2Proof

theorem State.waiting_mergeReport (s : State) (r : Report) (d : Bool) : (s.mergeReport r d).err.waiting = s.err.waiting := by
  unfold State.mergeReport
  split
  · rfl
  · have h := ((Only.refl [.csr, .ic] s).countReport r s.td0).when d fun _ h1 => h1.countDrop r
    rw [h.same .err]

/-- A report of another source leaves a source quiet. -/
theorem State.quiet.report {s : State} {n : Nat} (h : s.quiet n) (u : Nat) (r : Report) (hr : r.src ≠ n) : (s.report u r).quiet n := by
  have he : (s.when (r.cls != 0x18) (fun u => u.pulse r.src)).err = s.err :=
    ((Only.refl [.ic] s).when _ fun _ h1 => h1.pulse _).same .err
  unfold State.report
  dsimp only
  rw [he]
  intro w
  split
  · intro hw
    rcases List.mem_append.mp hw with hw | hw
    · exact h w hw
    · rw [List.mem_singleton.mp hw]
      exact hr
  · next x hx =>
    split
    · rw [State.waiting_mergeReport]
      intro hw
      obtain ⟨y, hy, rfl⟩ := List.mem_map.mp hw
      have := h y hy
      split <;> exact this
    · rw [State.waiting_mergeReport, he]
      exact h w

theorem State.quiet.of_err {s t : State} {n : Nat} (h : s.quiet n) (he : t.err = s.err) : t.quiet n := by
  unfold State.quiet
  rw [he]
  exact h

/-- The loss of a memory-controller PLL reports its channel's failure, and nothing of source 5. -/
theorem State.quiet.mcLost {s : State} (h : s.quiet 5) (c : Nat) : (s.mcLost c).quiet 5 := by
  have h1 : (s.when (s.mcState c == 1) (fun t => t.mtLeave c)).quiet 5 :=
    State.quiet.of_err h (((Only.refl [.csr, .rld] s).when _ fun _ h1 => h1.mtLeave _).same .err)
  unfold State.mcLost
  dsimp only
  split
  · exact h1
  · refine State.quiet.of_err (s := State.mcRecord _ c 3 2 0) (State.quiet.report ?_ _ _ (by simp; omega))
      (((Only.refl [.csr, .ic] _).mcEvent _ _).same .err)
    exact State.quiet.of_err h1 ((((Only.refl [.csr, .noc, .mc, .rld] _).setMcState _ _).mcAbandon _).rldDrop _ _ |>.same .err)

theorem State.quiet.ite {c : Prop} [Decidable c] {a b : State} {n : Nat} (ha : a.quiet n) (hb : b.quiet n) :
    (if c then a else b).quiet n := by
  split
  · exact ha
  · exact hb

theorem State.quiet.loseClock {s : State} (h : s.quiet 5) (id : Nat) : (s.loseClock id).quiet 5 := by
  have hc : ∀ {u}, Only [.csr, .ic, .fab] s u → u.quiet 5 := fun hu => State.quiet.of_err h (hu.same .err)
  have h1 : ∀ f, Only [.csr, .ic, .fab] s (s.setFlag R.CLK_LOSS f true) := fun f => (Only.refl _ s).setFlag _ _ _
  have h2 := (((h1 F.CLK_LOSS_FPLL).setBit R.CLK_FPLL_LOCK ((id - 0x80) / 4) false).setBit R.CLK_FPLL_LOST ((id - 0x80) / 4) true)
  exact State.quiet.ite (hc (((h1 _).setFlag _ _ _).setFlag _ _ _)) (.ite (hc ((h1 _).setFlag _ _ _))
    (.ite (hc ((h1 _).setFlag _ _ _).timeHoldover) (.ite (hc ((h1 _).setFlag _ _ _).timeHoldover)
    (.ite (.mcLost (hc (((h1 _).setBit _ _ _).setBit _ _ _)) _) (.ite (hc ((h1 _).setBit _ _ _))
    (.ite (hc h2) (hc (h2.with_fab _).dropStarts)))))))

/-! The holdover of the time domains. -/

/-- The registers of a holdover: the flags in CLK_STAT and TIM_STAT, and the alarms. -/
theorem State.holdover_timeHoldover (s : State) : s.timeHoldover.flag R.CLK_STAT F.CLK_STAT_HOLDOVER_TIME = true := by
  unfold State.timeHoldover
  split
  · assumption
  · rw [State.flag_of_reg (((Regs.refl (· ≠ R.CLK_STAT) _).forEach _ fun _ _ h1 => h1.alarm _ _
      (by simp only [R.TIM_TD_STAT, R.CLK_STAT]; omega)).same)]
    simp (disch := decide)

theorem State.flag_timeHoldover (s : State) {f : Fld} (h : f.lo + f.w ≤ F.CLK_STAT_HOLDOVER_TIME.lo) :
    s.timeHoldover.flag R.CLK_STAT f = s.flag R.CLK_STAT f := by
  unfold State.timeHoldover
  split
  · rfl
  · rw [State.flag_of_reg (((Regs.refl (· ≠ R.CLK_STAT) _).forEach _ fun _ _ h1 => h1.alarm _ _
      (by simp only [R.TIM_TD_STAT, R.CLK_STAT]; omega)).same), State.flag_setFlag_off _ _ _ _ _ _ (by decide)]
    exact State.flag_setFlag_fld _ _ _ _ _ ⟨.inl h, by have : F.CLK_STAT_HOLDOVER_TIME.lo ≤ 32 := by decide
                                                       omega⟩

theorem State.lost_timeHoldover (s : State) (f : Fld) : s.timeHoldover.flag R.CLK_LOSS f = s.flag R.CLK_LOSS f :=
  State.flag_of_reg ((Regs.refl (· ≠ R.CLK_LOSS) s).timeHoldover (by decide) (by decide) fun i => by
    simp only [R.TIM_TD_STAT, R.CLK_LOSS]; omega).same f

/-- The failure of a memory channel leaves the registers of the clock block. -/
theorem State.reg_mcLost (s : State) {c off : Nat} (hc : c < 8) (h : off < 0x50000) : (s.mcLost c).reg off = s.reg off := by
  refine ((Regs.refl (· ≠ off) s).mcLost c ?_ ?_ ?_ ?_ (fun i => ?_) (by omega) (by decide) (fun j hj => by omega) ?_).same
  all_goals
    simp only [R.MT_RUN, R.MT_STAT, R.MC_STAT, R.MT_PR_STAT, R.NI_DROP_CNT, R.MC_INT_STAT]
    omega

section
variable (s : State) {id : Nat}

theorem State.loseClock_sysRef : s.loseClock 0 = ((s.setFlag R.CLK_LOSS F.CLK_LOSS_SYSREF true).setFlag R.CLK_STAT
    F.CLK_STAT_SYSREF_OK false).setFlag R.CLK_STAT F.CLK_STAT_HOLDOVER_SYS true := rfl

theorem State.loseClock_sysPll : s.loseClock 1 =
    (s.setFlag R.CLK_LOSS F.CLK_LOSS_SYSPLL true).setFlag R.CLK_STAT F.CLK_STAT_SYSPLL_LOCK false := rfl

theorem State.loseClock_timeRef : s.loseClock 2 =
    ((s.setFlag R.CLK_LOSS F.CLK_LOSS_TREF true).setFlag R.CLK_STAT F.CLK_STAT_TREF_OK false).timeHoldover := rfl

theorem State.loseClock_timePll : s.loseClock 3 =
    ((s.setFlag R.CLK_LOSS F.CLK_LOSS_TPLL true).setFlag R.CLK_STAT F.CLK_STAT_TPLL_LOCK false).timeHoldover := rfl

theorem State.loseClock_mcPll (h1 : 8 ≤ id) (h2 : id < 16) : s.loseClock id =
    (((s.setFlag R.CLK_LOSS F.CLK_LOSS_MCPLL true).setBit R.CLK_MC_LOST id false).setBit R.CLK_MC_LOST (id - 8) true).mcLost
      (id - 8) := by
  unfold State.loseClock
  rw [if_neg (by omega), if_neg (by omega), if_neg (by omega), if_neg (by omega), if_pos (by omega)]

theorem State.loseClock_router (h1 : 0x40 ≤ id) (h2 : id < 0x80) : s.loseClock id =
    (s.setFlag R.CLK_LOSS F.CLK_LOSS_RTR true).setBit (if id < 0x60 then R.CLK_RTR_LOST_LO else R.CLK_RTR_LOST_HI) (id % 32) true := by
  unfold State.loseClock
  rw [if_neg (by omega), if_neg (by omega), if_neg (by omega), if_neg (by omega), if_neg (by omega), if_pos (by omega)]
  dsimp only
  rw [show (id - 0x40) % 32 = id % 32 by omega]
  by_cases h : id < 0x60
  · rw [if_pos h, if_pos (by omega)]
  · rw [if_neg h, if_neg (by omega)]

/-- The registers after the loss of a fabric PLL, whether it runs on its own or not. -/
theorem State.reg_loseClock_fpll (h : 0x80 ≤ id) (off : Nat) : (s.loseClock id).reg off =
    (((s.setFlag R.CLK_LOSS F.CLK_LOSS_FPLL true).setBit R.CLK_FPLL_LOCK ((id - 0x80) / 4) false).setBit R.CLK_FPLL_LOST
      ((id - 0x80) / 4) true).reg off := by
  unfold State.loseClock
  rw [if_neg (by omega), if_neg (by omega), if_neg (by omega), if_neg (by omega), if_neg (by omega), if_neg (by omega)]
  dsimp only
  split
  · rfl
  · exact ((Regs.refl (fun _ => False) _).with_fab _).dropStarts off not_false

end

theorem clockLossIsFlaggedAndReported : ClockLossIsFlaggedAndReported := by
  refine fun id s => ⟨fun hm hq => ?_, fun hm => congrArg Host.Outcome.next (if_neg (by simp [hm]))⟩
  have hu := (State.quiet.loseClock hq id.val).of_err (((Only.refl [.ic] _).settle 5 (s.loseClock id.val).clkLevel).same .err)
  obtain ⟨hw, hcsr⟩ := State.report_quiet _ ⟨5, 2, 0x0A, id.val⟩ 0 hu
  have hreg : ∀ off, (((s.loseClock id).settle 5 (s.loseClock id).clkLevel).report 0 ⟨5, 2, 0x0A, id.val⟩).reg off =
    (s.loseClock id).reg off := State.reg_of_csr (hcsr.trans (((Only.refl [.ic] _).settle 5 _).same .csr))
  refine ⟨_, congrArg Host.Outcome.next (if_pos hm), ?_⟩
  dsimp only
  have ho : Only [.csr, .ic, .err] (s.loseClock id)
      (((s.loseClock id).settle 5 (s.loseClock id).clkLevel).report 0 ⟨5, 2, 0x0A, id.val⟩) :=
    ((Only.refl _ _).settle _ _).report _ _
  generalize ((s.loseClock id).settle 5 (s.loseClock id).clkLevel).report 0 ⟨5, 2, 0x0A, id.val⟩ = t at *
  have hflag := fun off f => State.flag_of_reg (hreg off) f
  have hbit := fun off i => State.bit_of_reg (hreg off) i
  have htrans : ∀ {offs}, RegsBut offs s (s.loseClock id) → RegsBut offs s t := fun h off hn => (hreg off).trans (h off hn)
  refine ⟨by rw [hw]; simp, fun h => ?_, fun h => ?_, fun h => ?_, fun h => ?_, fun ⟨h8, h16⟩ => ?_, fun ⟨h40, h80⟩ => ?_, fun h80 => ?_⟩
  · rw [hflag, hflag, hflag]
    rw [h, State.loseClock_sysRef] at htrans ho ⊢
    refine ⟨?_, ?_, ?_, htrans ?_, Only.trans ?_ ho⟩
    · simp (disch := decide)
    · simp (disch := decide)
    · simp (disch := decide)
    · exact Regs.but ((((Regs.refl _ s).setFlag _ _ (by simp)).setFlag _ _ (by simp)).setFlag _ _ (by simp))
    · exact (((Only.refl [.csr, .ic, .err] s).setFlag _ _ _).setFlag _ _ _).setFlag _ _ _
  · rw [hflag, hflag]
    rw [h, State.loseClock_sysPll] at htrans ho ⊢
    refine ⟨?_, ?_, htrans ?_, Only.trans ?_ ho⟩
    · simp (disch := decide)
    · simp (disch := decide)
    · exact Regs.but (((Regs.refl _ s).setFlag _ _ (by simp)).setFlag _ _ (by simp))
    · exact ((Only.refl [.csr, .ic, .err] s).setFlag _ _ _).setFlag _ _ _
  · rw [hflag, hflag, hflag, h, State.loseClock_timeRef, State.flag_timeHoldover _ (by decide), State.holdover_timeHoldover,
      State.lost_timeHoldover]
    simp (disch := decide)
  · rw [hflag, hflag, hflag, h, State.loseClock_timePll, State.flag_timeHoldover _ (by decide), State.holdover_timeHoldover,
      State.lost_timeHoldover]
    simp (disch := decide)
  · rw [hflag, hbit, hbit, State.loseClock_mcPll s h8 h16]
    have hmc := fun t : State => fun off => State.reg_mcLost (c := id.val - 8) (off := off) t (by omega)
    rw [State.flag_of_reg (hmc _ _ (by decide)), State.bit_of_reg (hmc _ _ (by decide)), State.bit_of_reg (hmc _ _ (by decide)),
      State.bit_setBit_of _ _ _ _ _ (by omega), if_neg (by omega), State.bit_setBit_self _ _ _ _ (by omega),
      State.bit_setBit_self _ _ _ _ (by omega)]
    simp (disch := decide)
  · rw [hflag, hbit, State.loseClock_router s h40 h80, State.bit_setBit_self _ _ _ _ (Nat.mod_lt _ (by decide))]
    refine ⟨?_, rfl⟩
    split <;> simp (disch := decide)
  · have hf := State.reg_loseClock_fpll s h80
    have hk : (id.val - 0x80) / 4 < 32 := by omega
    rw [hflag, hbit, hbit, State.flag_of_reg (hf _), State.bit_of_reg (hf _), State.bit_of_reg (hf _),
      State.bit_setBit_off _ _ _ _ _ _ (by decide), State.bit_setBit_self _ _ _ _ hk, State.bit_setBit_self _ _ _ _ hk]
    simp (disch := decide)

theorem State.enabled_mcPll (s : State) (c : Fin 8) : s.enabled (8 + c.val) = s.flag (R.CLK_MCPLL c) F.CLK_MCPLL_EN := by
  unfold State.enabled
  rw [if_neg (by omega), if_neg (by omega), if_pos (by simp; omega), Nat.add_sub_cancel_left]

theorem State.enabled_fpll (s : State) (k : Fin 32) : s.enabled (0x80 + 4 * k.val) = (s.act.clkCfg k).used := by
  unfold State.enabled
  rw [if_neg (by omega), if_neg (by omega), if_neg (by simp; omega), if_neg (by simp)]
  simp [show (0x80 + 4 * k.val) % 4 = 0 by omega]

/-- A fabric PLL locks where it is enabled and its reference present, and otherwise nothing changes. -/
theorem execPllLock_fpll (k : Fin 32) (s : State) : exec (.pllLock ⟨0x80 + 4 * k.val, by omega⟩) s = .next
    (if (s.act.clkCfg k).used && s.refPresent (s.act.clkCfg k).ref then s.setBit R.CLK_FPLL_LOCK k true else s) := by
  refine Eq.trans (b := execPllLock ⟨0x80 + 4 * k.val, by omega⟩ s) rfl ?_
  unfold execPllLock
  dsimp only
  rw [if_neg (by omega), if_neg (by omega), if_neg (by simp; omega), State.enabled_fpll,
    show (0x80 + 4 * k.val - 0x80) / 4 = k.val by omega]
  simp

theorem referencesRecoverAndPllsLock : ReferencesRecoverAndPllsLock := by
  refine ⟨fun s => ?sysRef, fun s => ?timeRef, fun s h1 h2 h3 => ?sysPll, fun s h => ?sysPllHeld,
    fun s h1 h2 h3 => ?timePll, fun c s h1 h2 => ?mcPll, fun k s h1 h2 => ?fpll, fun k s h => ?fpllNot⟩
  case sysRef =>
    refine ⟨(s.setFlag R.CLK_STAT F.CLK_STAT_SYSREF_OK true).setFlag R.CLK_STAT F.CLK_STAT_HOLDOVER_SYS false, rfl,
      ?_, ?_, ?_, Regs.but ?_, ?_⟩
    · simp (disch := decide)
    · simp (disch := decide)
    · simp (disch := decide)
    · exact ((Regs.refl _ s).setFlag _ _ (by simp)).setFlag _ _ (by simp)
    · exact ((Only.refl _ s).setFlag _ _ _).setFlag _ _ _
  case timeRef =>
    have hs : ∀ u, (u : State).timeSteady = (u.setFlag R.CLK_STAT F.CLK_STAT_HOLDOVER_TIME false).setFlag R.TIM_STAT
      F.TIM_STAT_HOLDOVER false := fun _ => rfl
    refine ⟨(s.setFlag R.CLK_STAT F.CLK_STAT_TREF_OK true).when (s.flag R.CLK_STAT F.CLK_STAT_TPLL_LOCK) fun t => t.timeSteady,
      ?_, ?_, fun h => ?_, fun h => ?_, Regs.but ?_, ?_⟩
    · refine congrArg Host.Outcome.next ((if_pos rfl).trans ?_)
      dsimp only
      rw [State.flag_setFlag_fld _ _ _ _ _ (by decide)]
    · unfold State.when
      dsimp only
      split
      · rw [hs]
        simp (disch := decide)
      · simp (disch := decide)
    · rw [State.when_true h, hs]
      simp (disch := decide)
    · rw [State.when_false h]
      exact Regs.but ((Regs.refl _ s).setFlag _ _ (by simp))
    · exact ((Regs.refl _ s).setFlag _ _ (by simp)).when _ fun _ h1 => h1.timeSteady
    · exact ((Only.refl _ s).setFlag _ _ _).when _ fun _ h1 => h1.timeSteady
  case sysPll =>
    refine ⟨s.setFlag R.CLK_STAT F.CLK_STAT_SYSPLL_LOCK true, congrArg Host.Outcome.next ?_, ?_, Regs.but ?_, ?_⟩
    · exact (if_pos rfl).trans (if_pos (by simp [h1, h2, h3]))
    · simp (disch := decide)
    · exact (Regs.refl _ s).setFlag _ _ (by simp)
    · exact (Only.refl _ s).setFlag _ _ _
  case sysPllHeld =>
    exact congrArg Host.Outcome.next ((if_pos rfl).trans (if_neg (by simp [h])))
  case timePll =>
    refine ⟨((s.setFlag R.CLK_STAT F.CLK_STAT_TPLL_LOCK true).setFlag R.TIM_STAT F.TIM_STAT_RUN true).timeSteady,
      congrArg Host.Outcome.next ?_, ?_, ?_, ?_, Regs.but ?_, ?_⟩
    · exact (if_neg (by decide)).trans ((if_pos rfl).trans (if_pos (by simp [State.enabled, h1, h2, h3])))
    all_goals unfold State.timeSteady
    · simp (disch := decide)
    · simp (disch := decide)
    · simp (disch := decide)
    · exact ((((Regs.refl _ s).setFlag _ _ (by simp)).setFlag _ _ (by simp)).setFlag _ _ (by simp)).setFlag _ _ (by simp)
    · exact ((((Only.refl _ s).setFlag _ _ _).setFlag _ _ _).setFlag _ _ _).setFlag _ _ _
  case mcPll =>
    refine ⟨s.setBit R.CLK_MC_LOST (8 + c) true, congrArg Host.Outcome.next ?_, ?_, Regs.but ?_, ?_⟩
    · refine (if_neg (by simp; omega)).trans ((if_neg (by simp; omega)).trans ((if_pos (by simp; omega)).trans (if_pos ?_)))
      simp [State.enabled_mcPll, h1, h2]
    · exact State.bit_setBit_self _ _ _ _ (by omega)
    · exact (Regs.refl _ s).setBit _ _ (by simp)
    · exact (Only.refl _ s).setBit _ _ _
  case fpll =>
    refine ⟨s.setBit R.CLK_FPLL_LOCK k true, (execPllLock_fpll k s).trans ?_, ?_, Regs.but ?_, ?_⟩
    · simp [h1, h2]
    · exact State.bit_setBit_self _ _ _ _ (by omega)
    · exact (Regs.refl _ s).setBit _ _ (by simp)
    · exact (Only.refl _ s).setBit _ _ _
  case fpllNot =>
    rw [execPllLock_fpll]
    rcases h with h | h <;> simp [h]

/-- Settles O9: each loss and each recovery writes the flags of its own clock, and the record follows where source 5 is quiet. -/
theorem clocksAreLostAndRecover : Obligations.ClocksAreLostAndRecover :=
  ⟨clockLossIsFlaggedAndReported, referencesRecoverAndPllsLock⟩

end Sys2Proof.Machine
end

section
/-! ## Leaf gates, the router frequency and clock measurement (O10) -/

namespace Sys2Proof.Machine

-- Elaborated in order: side by side, so many short proofs would each hold a thread with its stack.
set_option Elab.async false

open Sys2Proof

/-- The release of GSR in a sector touches neither the configuration nor the stopped PLLs. -/
def SameStops (s t : State) : Prop := t.fab.stopped = s.fab.stopped ∧ t.fab.relock = s.fab.relock ∧ t.act = s.act

theorem SameStops.gsrSettle {s t : State} (h : SameStops s t) (k : Nat) : SameStops s (t.gsrSettle k) := by
  unfold State.gsrSettle
  split
  · exact h
  · dsimp only
    exact State.when_rel (R := fun _ u => SameStops s u) _ _ _ h fun _ => h

theorem SameStops.foldl {s t : State} (h : SameStops s t) (l : List Nat) : SameStops s (l.foldl (fun t k => t.gsrSettle k) t) := by
  induction l generalizing t with
  | nil => exact h
  | cons k l ih => exact ih (h.gsrSettle k)

theorem SameStops.pllStopped {s t : State} (h : SameStops s t) (k : Nat) : t.pllStopped k = s.pllStopped k := by
  obtain ⟨h1, h2, _⟩ := h
  rw [State.pllStopped, State.pllStopped, h1, h2]

/-- The state in which a relocked PLL holds no gate any more. -/
def State.relocked (s : State) (k : Nat) : State :=
  { s with fab := { s.fab with stopped := NSet.del s.fab.stopped k, relock := NSet.del s.fab.relock k } }

theorem NSet.has_del (l : NSet) (k j : Nat) : NSet.has (NSet.del l k) j = (NSet.has l j && j != k) := by
  rw [Bool.eq_iff_iff]
  simp [NSet.has]

theorem NSet.has_add (l : NSet) (k j : Nat) : NSet.has (NSet.add l k) j = (j == k || NSet.has l j) := by
  rw [Bool.eq_iff_iff]
  simp [NSet.has]

theorem State.pllStopped_relocked (s : State) (k j : Nat) : (s.relocked k).pllStopped j = (s.pllStopped j && j != k) := by
  simp only [State.pllStopped, State.relocked, NSet.has_del]
  cases j != k <;> simp

theorem execLeafGateReopen_eq {k : Fin 32} {s : State} (h : s.bit R.CLK_FPLL_LOCK k = true) : exec (.leafGateReopen k) s = .next
    (((s.act.clk.map (fun q => q.1)).filter (fun k => k < 32)).foldl (fun t k => t.gsrSettle k) (s.relocked k)) :=
  congrArg Host.Outcome.next (if_pos h)

/-- A write of the clock window that reaches it: no field is refused there (R298). -/
theorem busWrite_clk {s : State} {ep off loc : Nat} (hw : winOf off = some (.clk, 0, loc)) (h : s.reaches ep off = true) (v : Word) :
    s.busWrite ep off v = (s.store (s.clkOpen loc) off v (fun t => t.clkLocked loc)).clkAct s loc v := by
  have ha : s.csrAccepts ep true off = true := by rw [State.csrAccepts, hw]
  rw [busWrite_of_mayWrite ⟨h, ha⟩, State.csrWrite, hw]

theorem rowAt_nocCtrl : rowAt R.CLK_NOC_CTRL = some (⟨0x24, [], 0, 3, 0, 0, 0, 0, 0, 0⟩, []) := by decide

theorem rowAt_measCtrl : rowAt R.CLK_MEAS_CTRL = some (⟨0x30, [], 0, 0xFF, 0, 0, 0, 0, 0, 0x80000000⟩, []) := by decide

theorem busWrite_nocCtrl {s : State} {ep : Nat} (h : s.reaches ep R.CLK_NOC_CTRL = true) (v : Word) :
    s.busWrite ep R.CLK_NOC_CTRL v = s.setReg R.CLK_NOC_CTRL (RegRow.after ⟨0x24, [], 0, 3, 0, 0, 0, 0, 0, 0⟩ true (s.reg R.CLK_NOC_CTRL) v) := by
  rw [busWrite_clk (loc := 0x24) (by decide) h, show s.clkOpen 0x24 = true from rfl, State.store_open rowAt_nocCtrl rfl]
  rfl

/-- The measurement begins with the field CLKID as it is written. -/
theorem busWrite_measStart {s : State} {ep : Nat} (h : s.reaches ep R.CLK_MEAS_CTRL = true)
    (hb : s.flag R.CLK_MEAS_CTRL F.CLK_MEAS_CTRL_BUSY = false) {v : Word} (hv : v.getLsbD 31 = true) :
    ∃ x, s.busWrite ep R.CLK_MEAS_CTRL v = { (s.setReg R.CLK_MEAS_CTRL x).setFlag R.CLK_MEAS_CTRL F.CLK_MEAS_CTRL_BUSY true with
      clk := { s.clk with meas := v.fget F.CLK_MEAS_CTRL_CLKID } } := by
  refine ⟨RegRow.after ⟨0x30, [], 0, 0xFF, 0, 0, 0, 0, 0, 0x80000000⟩ true (s.reg R.CLK_MEAS_CTRL) v, ?_⟩
  rw [busWrite_clk (loc := 0x30) (by decide) h, show s.clkOpen 0x30 = true from rfl, State.store_open rowAt_measCtrl rfl]
  exact if_pos (by simp [hb, hv])

/-- Settles O10: the release of GSR, which a relock brings with it, leaves the stopped PLLs as they are. -/
theorem leafGatesFrequencyAndMeasurement : Obligations.LeafGatesFrequencyAndMeasurement := by
  refine ⟨fun k s h => ?reopen, fun k s h => ?notLocked, fun ep v s h => ?freq, fun ep v s h hb => ?measStart, fun n s hb => ?measDone,
    fun n s hb => ?notBusy⟩
  case reopen =>
    refine ⟨_, execLeafGateReopen_eq h, ?_⟩
    generalize hl : (s.act.clk.map (fun q => q.1)).filter (fun k => k < 32) = l
    have hlt : ∀ x ∈ l, x < 32 := fun x hx => by
      rw [← hl] at hx
      exact of_decide_eq_true (List.mem_filter.mp hx).2
    have hs : SameStops (s.relocked k) (l.foldl (fun t k => t.gsrSettle k) (s.relocked k)) := SameStops.foldl ⟨rfl, rfl, rfl⟩ l
    have hstop := fun j => (hs.pllStopped j).trans (State.pllStopped_relocked s k j)
    have hregs : Regs (· ∈ (List.range 32).map fun k => R.FAB_GSR_STAT k) s (l.foldl (fun t k => t.gsrSettle k) (s.relocked k)) := 
      Regs.foldl_mem ((Regs.refl _ s).with_fab _) l fun u x hx hu =>
        hu.gsrSettle x (List.mem_map_of_mem (List.mem_range.mpr (hlt x hx)))
    have honly : Only [.fab, .csr] s (l.foldl (fun t k => t.gsrSettle k) (s.relocked k)) :=
      ((Only.refl _ s).with_fab _).foldl l fun _ _ h1 => h1.gsrSettle _
    generalize l.foldl (fun t k => t.gsrSettle k) (s.relocked k) = t at *
    refine ⟨?_, fun j hj => ?_, fun sec n ⟨o, hroot⟩ => ?_, hregs.but, honly⟩
    · simp [hstop]
    · simp [hstop, hj]
    · have hroot' : t.leafRoot sec n = .fpll k o := by
        rw [← hroot, State.leafRoot, State.leafRoot, State.gclkSrc, State.gclkSrc, hs.2.2]
        rfl
      rw [State.leafStopped, hroot']
      simp [hstop]
  case notLocked => exact congrArg Host.Outcome.next (if_neg (by simp [h]))
  case freq =>
    refine ⟨_, congrArg Host.Outcome.next (busWrite_nocCtrl h v), ?_, Regs.but ?_, ?_⟩
    · exact (congrArg (fun x : Word => x.fget F.CLK_NOC_CTRL_FREQ) (State.reg_setReg_same _ _ _)).trans
        (RegRow.fget_after_live (by decide) (by decide) _ _ _)
    · exact (Regs.refl _ s).setReg _ (by simp)
    · exact (Only.refl _ s).setReg _ _
  case measStart =>
    obtain ⟨x, hx⟩ := busWrite_measStart (v := bitOn v F.CLK_MEAS_CTRL_START) h hb (getLsbD_bitOn_self v rfl (by decide))
    refine ⟨_, congrArg Host.Outcome.next hx, ?_, ?_, Regs.but ?_, ?_⟩
    · simp (disch := decide)
    · exact fget_bitOn_apart v rfl (by decide) (by decide)
    · exact (((Regs.refl _ s).setReg _ (by simp)).setFlag _ _ (by simp)).with_clk _
    · exact (((Only.refl _ s).setReg _ _).setFlag _ _ _).with_clk _
  case measDone =>
    refine ⟨_, congrArg Host.Outcome.next (if_pos hb), ?_, ?_, Regs.but ?_, ?_⟩
    · simp (disch := decide)
    · rw [State.fld_setFld _ _ _ _ (by decide)]
      refine (Nat.mod_eq_of_lt ?_).trans ?_
      · split
        · exact n.isLt
        · decide
      · simp only [Bool.or_eq_true, Bool.and_eq_true, decide_eq_true_eq, or_assoc]
    · exact ((Regs.refl _ s).setFlag _ _ (by simp)).setFld _ _ (by simp)
    · exact ((Only.refl _ s).setFlag _ _ _).setFld _ _ _
  case notBusy => exact congrArg Host.Outcome.next (if_neg (by simp [hb]))

end Sys2Proof.Machine
end

section
/-! ## GSR and the holds of regions -/

namespace Sys2Proof.Machine

-- Elaborated in order: side by side, so many short proofs would each hold a thread with its stack.
set_option Elab.async false

open Sys2Proof

/-- GSR, as the column drives it. -/
def State.gsrOn (s : State) : Bool := s.fab.gsr

section
variable {s t : State}

theorem Same.gsr_of_fab {u : State} (h : Same State.gsrOn s t) (he : u.fab = t.fab) : Same State.gsrOn s u :=
  (congrArg Fabric.gsr he).trans h

theorem Same.gsr_setReg (h : Same State.gsrOn s t) (off : Nat) (v : Word) : Same State.gsrOn s (t.setReg off v) := h

theorem Same.gsr_setFlag (h : Same State.gsrOn s t) (off : Nat) (f : Fld) (b : Bool) : Same State.gsrOn s (t.setFlag off f b) := h

theorem Same.gsr_holdCells (h : Same State.gsrOn s t) (pre : State) (r : Nat) : Same State.gsrOn s (t.holdCells pre r) := h

theorem Same.gsr_dropStarts (h : Same State.gsrOn s t) : Same State.gsrOn s t.dropStarts := h.forEach _ fun _ _ h1 => h1

theorem Same.gsr_keepLines (h : Same State.gsrOn s t) (k : Nat) : Same State.gsrOn s (t.keepLines k) :=
  .ite h (Same.forEach (t := { t with draws := t.draws + 1 }) h _ fun _ _ h1 => h1)

theorem Same.gsr_holdAll (h : Same State.gsrOn s t) (rs : List Nat) : Same State.gsrOn s (t.holdAll rs) :=
  .ite h (((h.forEach _ fun _ _ h1 => h1.gsr_keepLines _).forEach _ fun _ _ h1 => h1.gsr_holdCells _ _).forEach _
    fun _ _ h1 => h1.gsr_setFlag _ _ _).gsr_dropStarts

theorem Same.gsr_settleHold (h : Same State.gsrOn s t) (r : Nat) : Same State.gsrOn s (t.settleHold r) :=
  .ite (h.gsr_holdAll _) (h.when _ fun u h1 => Same.gsr_of_fab (t := (u.setFlag (R.CFG_RGN_STAT r) F.CFG_RGN_STAT_HELD false).freeCells) h1
    (((Only.refl [.ic] _).linesRise _).same .fab))

theorem Same.gsr_pdSettle (h : Same State.gsrOn s t) (k : Nat) : Same State.gsrOn s (t.pdSettle k) :=
  .ite h (.ite h (.ite h (((Same.forEach (t := t.setBit R.SYS_PD_BUSY k true) h _ fun _ _ h1 => h1.gsr_settleHold _).gsr_of_fab
    (((Only.refl [.csr, .noc] _).fenceStart _).same .fab)).gsr_of_fab (((Only.refl [.csr, .noc] _).fenceStart _).same .fab))))

theorem Same.gsr_pdSettleAll (h : Same State.gsrOn s t) : Same State.gsrOn s t.pdSettleAll := h.forEach _ fun _ _ h1 => h1.gsr_pdSettle _

theorem Same.gsr_clearPlanes (h : Same State.gsrOn s t) : Same State.gsrOn s t.clearPlanes := by
  unfold State.clearPlanes
  exact Same.forEach (Same.gsr_setReg (by exact h) _ _) _ fun _ _ h1 => (h1.gsr_setReg _ _).gsr_setReg _ _

theorem Same.gsr_startClearing (h : Same State.gsrOn s t) : Same State.gsrOn s t.startClearing :=
  Same.gsr_of_fab h.gsr_clearPlanes (((Only.refl [.csr, .boot, .scrub] _).scrubStop.setBoot _).same .fab)

theorem Same.gsr_settlePins (h : Same State.gsrOn s t) : Same State.gsrOn s t.settlePins := by
  unfold State.settlePins
  dsimp only
  refine .ite h ?_
  generalize (if t.pinsOn then (List.range 32).find? (fun k => t.wantsPins k) else none) = on
  cases on <;> exact h

end

/-- The registers and channels that a reset of the column brings with it leave GSR. -/
theorem Same.gsr_columnUnits (u : State) : Same State.gsrOn u ((u.forEach (List.range 144) fun t n => t.setFlag (R.LN_CTRL n)
    F.LN_CTRL_TX_IDLE true).forEach (List.range 8) fun t c => t.mcReset c).settlePins :=
  .gsr_settlePins (.gsr_of_fab (t := u) rfl ((((Only.refl [.csr, .noc, .mc, .rld] u).forEach _ fun _ _ h1 => h1.setFlag _ _ _).forEach _
    fun _ _ h1 => h1.mcReset _).same .fab))

theorem State.gsr_resetColumn (s : State) : s.resetColumn.gsrOn = true := Eq.trans (Same.gsr_columnUnits (State.assertGsr _)) rfl

end Sys2Proof.Machine
end

section
/-! ## The return to BOOT -/

namespace Sys2Proof.Machine

-- Elaborated in order: side by side, so many short proofs would each hold a thread with its stack.
set_option Elab.async false

open Sys2Proof

theorem Tbl.get_filter_out {α : Type} (d : Nat → α) (l : Tbl α) (p : Nat × α → Bool) (k : Nat) (h : ∀ x, p (k, x) = false) :
    Tbl.get d (l.filter p) k = d k := by
  induction l with
  | nil => rfl
  | cons x r ih =>
    obtain ⟨a, v⟩ := x
    by_cases hk : a = k
    · subst hk
      simpa [h v] using ih
    · by_cases hp : p (a, v) = true <;> simp [hp, Tbl.get, hk, ih]

theorem State.reg_dropRegions_region (s : State) {off : Nat} (h : regionReg off = true) : s.dropRegions.reg off = resetOf off :=
  Tbl.get_filter_out _ _ _ _ fun _ => by simp [h]

theorem State.loadOn_dropLoad (s : State) {p q : LoadPath} (h : p ≠ q) : (s.dropLoad p).loadOn q = s.loadOn q := by
  unfold State.loadOn State.dropLoad
  rw [List.find?_filter]
  refine List.find?_congr fun x _ => ?_
  by_cases hx : x.path = q
  · simp [hx, h.symm]
  · simp [hx]

/-- Dropping loads changes nothing of the boot block but the loads. -/
theorem dropLoads_boot (ps : List LoadPath) (s : State) : ∃ l, (ps.foldl (fun u p => u.dropLoad p) s).boot = { s.boot with loads := l } := by
  induction ps generalizing s with
  | nil => exact ⟨_, rfl⟩
  | cons p ps ih => exact ih (s.dropLoad p)

theorem dropLoads_loadOn {q : LoadPath} (ps : List LoadPath) (s : State) (h : q ∉ ps) :
    (ps.foldl (fun u p => u.dropLoad p) s).loadOn q = s.loadOn q := by
  induction ps generalizing s with
  | nil => rfl
  | cons p ps ih =>
    rw [List.mem_cons, not_or] at h
    exact (ih _ h.2).trans (State.loadOn_dropLoad s (Ne.symm h.1))

/-- The paths whose loads a restart gives up: not the boot ROM's own, nor firmware over JTAG. -/
def State.lostPaths (s : State) : List LoadPath :=
  (s.boot.loads.filter (fun l => l.path != .rom && !(l.path == .jtag && l.kind == 3))).map (fun l => l.path)

/-- The loads of the other paths given up, and neither a hold-load stream nor a staging load in progress. -/
def State.unloaded (s : State) : State :=
  let t := s.lostPaths.foldl (fun u p => u.dropLoad p) (s.answerStager 8 0)
  let u := t.setBoot { t.boot with hold := none, cleared := false, holdLanes := false }
  (u.setFlag R.CFG_STG_CTRL F.CFG_STG_CTRL_BUSY false).setFlag R.CFG_HLD_CTRL F.CFG_HLD_CTRL_BUSY false

/-- The device in BOOT with its column reset and its regions gone. -/
def State.emptied (s : State) : State :=
  { ((s.setPhase 1).setFlag R.CFG_BOOT_STAT F.CFG_BOOT_STAT_CFG_ERR false).resetColumn.dropRegions with base := none }

/-- What follows: the sectors, the slot-negotiation engines and a clearing. -/
def State.settledDown (s : State) : State := (s.setReg R.SYS_PD_REQ 0).pdSettleAll.skmStopAll.startClearing

theorem State.backToBoot_eq (s : State) (h : s.boot.inReset = false) (h1 : s.phase ≠ 1 ∨ s.boot.fw = true) : s.backToBoot =
    s.unloaded.emptied.settledDown.when (s.loadOn .mailbox).isSome (fun t => t.setFw { t.fw with loader := none, result := none }) := by
  unfold State.backToBoot
  rw [if_neg (by simp [h]), if_neg (by rcases h1 with h1 | h1 <;> simp [h1])]
  rfl

theorem State.unloaded_boot (s : State) : ∃ l, s.unloaded.boot =
    { s.boot with hold := none, cleared := false, holdLanes := false, loads := l } := by
  obtain ⟨l, hl⟩ := dropLoads_boot s.lostPaths (s.answerStager 8 0)
  have ha : (s.answerStager 8 0).boot = s.boot := ((Only.refl [.csr, .ic, .mbx, .fw] s).answerStager _ _).same .boot
  rw [ha] at hl
  refine ⟨l, ?_⟩
  unfold State.unloaded
  dsimp only
  rw [State.boot_setFlag, State.boot_setFlag]
  exact congrArg (fun b : Boot => { b with hold := none, cleared := false, holdLanes := false }) hl

theorem State.unloaded_rom (s : State) : s.unloaded.loadOn .rom = s.loadOn .rom := by
  have ha : (s.answerStager 8 0).boot = s.boot := ((Only.refl [.csr, .ic, .mbx, .fw] s).answerStager _ _).same .boot
  refine (dropLoads_loadOn s.lostPaths (s.answerStager 8 0) fun hm => ?_).trans
    (congrArg (fun b : Boot => b.loads.find? (fun l : Load => l.path == LoadPath.rom)) ha)
  obtain ⟨l, hl, he⟩ := List.mem_map.mp hm
  simpa [he] using (List.mem_filter.mp hl).2

theorem State.unloaded_only (s : State) : Only [.csr, .ic, .mbx, .fw, .boot, .sec] s s.unloaded :=
  (((((Only.refl _ s).answerStager _ _).foldl _ fun _ _ h1 => h1.dropLoad _).setBoot _).setFlag _ _ _).setFlag _ _ _

theorem State.emptied_only (s : State) : Only [.csr, .fab, .noc, .mc, .rld, .rgn, .base] s s.emptied :=
  ((((Only.refl _ s).setPhase _).setFlag _ _ _).resetColumn.dropRegions).with_base _

theorem State.settledDown_only (s : State) :
    Only [.csr, .ic, .fab, .noc, .draws, .err, .ser, .act, .shd, .boot, .scrub, .clk] s s.settledDown :=
  ((Only.refl _ s).setReg _ _).pdSettleAll.skmStopAll.startClearing

/-- The registers of the boot phase, of the debugger and of the regions' descriptors. -/
def BootReg (off : Nat) : Prop := off = R.DBG_STAT ∨ (0x20000 ≤ off ∧ off < 0x20500 ∧ off % 0x20 = 0)

theorem State.settledDown_reg (s : State) {off : Nat} (h : BootReg off) : s.settledDown.reg off = s.reg off := by
  simp only [BootReg, R.DBG_STAT] at h
  refine (((((Regs.refl (· ≠ off) s).setReg _ ?_).pdSettleAll ?_ (fun i => ?_) (fun i => ?_) (fun i => ?_) (fun i => ?_)
    (fun i => ?_)).skmStopAll (fun i => ?_) (fun i => ?_) (fun i => ?_) (fun j hj => by omega) (fun i => ?_) (fun i => ?_)
    (fun i => ?_)).startClearing ?_ (fun i => ?_) (fun i => ?_) ?_ ?_ ?_).same
  all_goals
    simp only [R.SYS_PD_REQ, R.SYS_PD_BUSY, R.FAB_BUS_VAL_LO, R.FAB_BUS_VAL_HI, R.CFG_RGN_STAT, R.NOC_FENCE, R.NI_DROP_CNT,
      R.SKM_ENG_STAT, R.LN_STAT, R.PCS_LN_STAT, R.PCS_GRP_STAT, R.PCS_GRP_FAULTS, R.PCS_GRP_INT_STAT, R.CLK_FPLL_LOCK,
      R.SCR_RGN_FLAG, R.SCR_FLAG, R.SCR_STAT]
    omega

/-- The boot state after the column's reset, and the regions' descriptors. -/
theorem State.emptied_bootStat (s : State) : s.emptied.reg R.CFG_BOOT_STAT = (((((s.setPhase 1).setFlag R.CFG_BOOT_STAT
    F.CFG_BOOT_STAT_CFG_ERR false).setFld R.CFG_BOOT_STAT F.CFG_BOOT_STAT_STEP 0).setFlag R.CFG_BOOT_STAT F.CFG_BOOT_STAT_USER_MODE
    false).setFlag R.CFG_BOOT_STAT F.CFG_BOOT_STAT_CFG_DONE_IN false).reg R.CFG_BOOT_STAT := by
  unfold State.emptied
  rw [State.reg_mk, State.reg_dropRegions_other _ _ (by decide)]
  unfold State.resetColumn
  refine (((((Regs.refl (· ≠ R.CFG_BOOT_STAT) _).assertGsr (fun i => ?_)).forEach _ fun _ _ h1 => h1.setFlag _ _ ?_).forEach _
    fun _ _ h1 => h1.mcReset _ ?_ ?_ ?_ ?_ (fun i => ?_)).settlePins).same
  all_goals
    simp only [R.CFG_BOOT_STAT, R.FAB_GSR_STAT, R.LN_CTRL, R.MT_RUN, R.MT_STAT, R.MC_STAT, R.MT_PR_STAT, R.NI_DROP_CNT]
    omega

theorem State.emptied_dbgStat (s : State) : s.emptied.reg R.DBG_STAT = s.reg R.DBG_STAT := by
  unfold State.emptied
  rw [State.reg_mk, State.reg_dropRegions_other _ _ (by decide)]
  refine ((((Regs.refl (· ≠ R.DBG_STAT) s).setPhase _ (by decide)).setFlag _ _ (by decide)).resetColumn (by decide) (fun i => ?_)
    (fun i => ?_) (fun i => ?_) (fun i => ?_) (fun i => ?_) (fun i => ?_) (fun i => ?_)).same
  all_goals
    simp only [R.DBG_STAT, R.FAB_GSR_STAT, R.LN_CTRL, R.MT_RUN, R.MT_STAT, R.MC_STAT, R.MT_PR_STAT, R.NI_DROP_CNT]
    omega

theorem State.emptied_cleared (s : State) : s.emptied.rgn = [] ∧ s.emptied.base = none := ⟨rfl, rfl⟩

/-- GSR is asserted by the reset of the column. -/
theorem State.emptied_gsr (s : State) : s.emptied.gsrOn = true := State.gsr_resetColumn _

theorem State.emptied_desc (s : State) {r : Nat} (h : r < 32) : s.emptied.rgnDefined r = false := by
  have hr : ∀ r < 32, regionReg (R.CFG_RGN_DESC r) = true := by decide
  have hd : ∀ r < 32, (resetOf (R.CFG_RGN_DESC r)).fget F.CFG_RGN_DESC_TYPE = 0 := by decide
  unfold State.rgnDefined State.fld State.emptied
  rw [State.reg_mk, State.reg_dropRegions_region _ (hr r h), hd r h]
  rfl

/-- Clear planes, as a clearing leaves them. -/
theorem State.startClearing_planes (s : State) : s.startClearing.act = Plane.zero ∧ s.startClearing.shd = Plane.zero := by
  have h : Only [.csr, .boot, .scrub] s.clearPlanes s.startClearing := ((Only.refl _ _).scrubStop).setBoot _
  have hc : Only [.csr] (({ s.seeClocks with act := Plane.zero, shd := Plane.zero, fab := { s.seeClocks.fab with stopped := [], relock := [] } }).setReg
    R.CLK_FPLL_LOCK 0) s.clearPlanes := (Only.refl _ _).forEach _ fun _ _ h1 => (h1.setReg _ _).setReg _ _
  exact ⟨(h.same .act).trans (hc.same .act), (h.same .shd).trans (hc.same .shd)⟩

theorem Same.gsr_settledDown (s : State) : Same State.gsrOn s s.settledDown :=
  have h1 : Same State.gsrOn s (s.setReg R.SYS_PD_REQ 0).pdSettleAll := Same.gsr_pdSettleAll rfl
  Same.gsr_startClearing (h1.gsr_of_fab (((Only.refl [.csr, .ic, .err, .ser, .draws] _).skmStopAll).same .fab))

section
variable {s : State} (hr : s.boot.inReset = false) (h1 : s.phase ≠ 1 ∨ s.boot.fw = true)
include hr h1

theorem State.backToBoot_only : Only [.fw] s.unloaded.emptied.settledDown s.backToBoot := by
  rw [State.backToBoot_eq s hr h1]
  exact (Only.refl _ _).when _ fun _ h2 => h2.setFw _

theorem State.backToBoot_boot : ∃ l, s.backToBoot.boot =
    { s.boot with hold := none, cleared := false, holdLanes := false, clearing := true, loads := l } := by
  obtain ⟨l, hl⟩ := s.unloaded_boot
  refine ⟨l, ((State.backToBoot_only hr h1).same .boot).trans ((State.startClearing_boot _).trans ?_)⟩
  have h2 : Only [.csr, .ic, .fab, .noc, .draws, .err, .ser, .mc, .rld, .rgn, .base] s.unloaded
      (s.unloaded.emptied.setReg R.SYS_PD_REQ 0).pdSettleAll.skmStopAll :=
    (((s.unloaded.emptied_only.mono (by simp)).setReg _ _).pdSettleAll).skmStopAll
  exact congrArg (fun b : Boot => { b with clearing := true }) ((h2.same .boot).trans hl)

theorem State.backToBoot_reg {off : Nat} (h : BootReg off) : s.backToBoot.reg off = s.unloaded.emptied.reg off :=
  (State.reg_of_csr ((State.backToBoot_only hr h1).same .csr) off).trans (State.settledDown_reg _ h)

theorem State.backToBoot_loadOn : s.backToBoot.loadOn .rom = s.loadOn .rom := by
  have h2 : Only [.csr, .ic, .fab, .noc, .draws, .err, .ser, .mc, .rld, .rgn, .base] s.unloaded
      (s.unloaded.emptied.setReg R.SYS_PD_REQ 0).pdSettleAll.skmStopAll :=
    (((s.unloaded.emptied_only.mono (by simp)).setReg _ _).pdSettleAll).skmStopAll
  refine Eq.trans ?_ s.unloaded_rom
  have hb : s.backToBoot.boot = { s.unloaded.boot with clearing := true } :=
    ((State.backToBoot_only hr h1).same .boot).trans ((State.startClearing_boot _).trans
      (congrArg (fun b : Boot => { b with clearing := true }) (h2.same .boot)))
  rw [State.loadOn, State.loadOn, hb]

theorem State.backToBoot_outer : Only [.csr, .ic, .mbx, .fw, .boot, .sec, .fab, .noc, .mc, .rld, .rgn, .base, .draws, .err, .ser, .act, .shd,
    .scrub, .clk] s s.backToBoot :=
  ((s.unloaded_only.mono (by simp)).trans ((s.unloaded.emptied_only.mono (by simp)).trans ((State.settledDown_only _).mono (by simp)))).trans
    ((State.backToBoot_only hr h1).mono (by simp))

theorem State.backToBoot_restarted : Restarted s s.backToBoot := by
  obtain ⟨l, hl⟩ := State.backToBoot_boot hr h1
  have hz := State.backToBoot_only hr h1
  have ho := State.backToBoot_outer hr h1
  have hstat := (State.backToBoot_reg hr h1 (off := R.CFG_BOOT_STAT) (.inr (by decide))).trans (State.emptied_bootStat _)
  refine ⟨by rw [hl], by rw [hl], by rw [hl], ?_, ?_, ?_, ?_, ?_, fun r hr' => ?_, ?_, ?_, by rw [hl], ho.same .fuses, ho.same .tap⟩
  · exact (congrArg Fabric.gsr (hz.same .fab)).trans (Eq.trans (Same.gsr_settledDown _) (State.emptied_gsr _))
  · exact (hz.same .act).trans (State.startClearing_planes _).1
  · exact (hz.same .shd).trans (State.startClearing_planes _).2
  · exact (hz.same .rgn).trans ((State.settledDown_only _).same .rgn |>.trans (State.emptied_cleared _).1)
  · exact (hz.same .base).trans ((State.settledDown_only _).same .base |>.trans (State.emptied_cleared _).2)
  · rw [State.rgnDefined, State.fld_of_reg (State.backToBoot_reg hr h1 (by simp only [BootReg, R.CFG_RGN_DESC]; omega))]
    exact State.emptied_desc _ hr'
  · rw [State.flag_of_reg hstat]
    simp (disch := decide)
  · rw [State.fld_of_reg hstat]
    simp (disch := decide)

theorem State.backToBoot_inBoot : InBoot s s.backToBoot := by
  obtain ⟨l, hl⟩ := State.backToBoot_boot hr h1
  have hstat := (State.backToBoot_reg hr h1 (off := R.CFG_BOOT_STAT) (.inr (by decide))).trans (State.emptied_bootStat _)
  refine ⟨?_, ?_, State.backToBoot_loadOn hr h1⟩
  · rw [State.phase, hl, hr, State.fld_of_reg hstat]
    simp (disch := decide) [State.setPhase]
  · rw [State.flag_of_reg hstat]
    simp (disch := decide)

end
end Sys2Proof.Machine
end

section
/-! ## Operations that raise interrupts and lower none -/

namespace Sys2Proof.Machine

-- Elaborated in order: side by side, so many short proofs would each hold a thread with its stack.
set_option Elab.async false

/-- No pending interrupt is lost, and the controller's clock runs as before. -/
structure Rises (s t : State) : Prop where
  asleep : t.ic.asleep = s.ic.asleep
  pending : ∀ n, s.ic.pending.has n = true → t.ic.pending.has n = true

namespace Rises
variable {s t u : State}

theorem refl (s : State) : Rises s s := ⟨rfl, fun _ h => h⟩

theorem trans (h : Rises s t) (k : Rises t u) : Rises s u := ⟨k.1.trans h.1, fun n hn => k.2 n (h.2 n hn)⟩

theorem of_ic (h : Rises s t) (he : u.ic = t.ic) : Rises s u := ⟨by rw [he]; exact h.1, by rw [he]; exact h.2⟩

theorem foldl {α : Type} {f : State → α → State} (h : Rises s t) (l : List α) (hf : ∀ u x, Rises s u → Rises s (f u x)) :
    Rises s (l.foldl f t) := by
  induction l generalizing t with
  | nil => exact h
  | cons x l ih => exact ih (hf t x h)

theorem forEach {α : Type} {f : State → α → State} (h : Rises s t) (l : List α)
    (hf : ∀ u x, Rises s u → Rises s (f u x)) : Rises s (t.forEach l f) := h.foldl l hf

theorem when {f : State → State} (h : Rises s t) (b : Bool) (hf : ∀ u, Rises s u → Rises s (f u)) : Rises s (t.when b f) :=
  State.when_rel (R := fun _ u => Rises s u) t b f h fun _ => hf t h

theorem ite {c : Prop} [Decidable c] (h : Rises s t) (k : Rises s u) : Rises s (if c then t else u) := by
  split
  · exact h
  · exact k

theorem raise (h : Rises s t) (n : Nat) : Rises s (t.raise n) := by
  refine h.trans (.ite (refl t) (.ite ⟨rfl, fun _ hm => hm⟩ ⟨rfl, fun m hm => ?_⟩))
  rw [NSet.has_add, hm, Bool.or_true]

theorem setReg (h : Rises s t) (off : Nat) (v : Word) : Rises s (t.setReg off v) := h.of_ic rfl

theorem setFld (h : Rises s t) (off : Nat) (f : Fld) (n : Nat) : Rises s (t.setFld off f n) := h.of_ic rfl

theorem setFlag (h : Rises s t) (off : Nat) (f : Fld) (b : Bool) : Rises s (t.setFlag off f b) := h.of_ic rfl

theorem with_err (h : Rises s t) (x : Err) : Rises s { t with err := x } := h.of_ic rfl

end Rises

section
variable {s t : State}

theorem Rises.skmGo (h : Rises s t) (e st : Nat) : Rises s (t.skmGo e st) :=
  h.of_ic (((Only.refl [.csr, .ser] t).skmGo _ _).same .ic)

theorem Rises.setSkm (h : Rises s t) (e : Nat) (x : Skm) : Rises s (t.setSkm e x) :=
  h.of_ic (((Only.refl [.ser] t).setSkm _ _).same .ic)

theorem Rises.setLane (h : Rises s t) (n : Nat) (x : Lane) : Rises s (t.setLane n x) :=
  h.of_ic (((Only.refl [.ser] t).setLane _ _).same .ic)

theorem Rises.setCoder (h : Rises s t) (n : Nat) (x : Coder) : Rises s (t.setCoder n x) :=
  h.of_ic (((Only.refl [.ser] t).setCoder _ _).same .ic)

theorem Rises.pulse (h : Rises s t) (n : Nat) : Rises s (t.pulse n) := h.trans ((Rises.refl t).when _ (fun _ h1 => h1.raise _))

theorem Rises.countReport (h : Rises s t) (r : Report) (time : Nat) : Rises s (t.countReport r time) :=
  h.of_ic (((Only.refl [.csr] t).countReport _ _).same .ic)

theorem Rises.count (h : Rises s t) (off : Nat) (f : Fld) (n : Nat) : Rises s (t.count off f n) :=
  h.of_ic (((Only.refl [.csr] t).count _ _ _).same .ic)

theorem Rises.high (h : Rises s t) (n : Nat) : Rises s (t.high n) := h.trans ((Rises.refl t).when _ (fun _ h1 => h1.raise _))

theorem Rises.countDrop (h : Rises s t) (r : Report) : Rises s (t.countDrop r) := h.trans ((((((Rises.refl t).count _ _ _).setFlag _ _ _).count _ _ _).when _ (fun _ h1 => (h1.setFlag _ _
      _).high _)).high _)

theorem Rises.mergeReport (h : Rises s t) (r : Report) (dropped : Bool) : Rises s (t.mergeReport r dropped) := h.trans (Rises.ite ((Rises.refl t).with_err _) (((Rises.refl t).countReport _ _).when _ (fun _ h1 =>
      h1.countDrop _)))

theorem Rises.report (h : Rises s t) (unit : Nat) (r : Report) : Rises s (t.report unit r) := by
  refine h.trans ?_
  unfold State.report
  dsimp only
  split
  · exact ((Rises.refl t).when _ (fun _ h1 => h1.pulse _)).with_err _
  · exact Rises.ite ((((Rises.refl t).when _ (fun _ h1 => h1.pulse _)).with_err _).mergeReport _ _) (((Rises.refl t).when _ (fun _ h1 => h1.pulse _)).mergeReport _ _)

theorem Rises.pcsRecord (h : Rises s t) (n code sev : Nat) : Rises s (t.pcsRecord n code sev) := h.trans ((Rises.refl t).report _ _)

theorem Rises.lnCount (h : Rises s t) (off n : Nat) : Rises s (t.lnCount off n) :=
  h.of_ic (((Only.refl [.csr] t).lnCount _ _).same .ic)

theorem Rises.grpRecord (h : Rises s t) (g code cause lane : Nat) : Rises s (t.grpRecord g code cause lane) := h.trans ((Rises.refl t).report _ _)

theorem Rises.setBit (h : Rises s t) (off i : Nat) (b : Bool) : Rises s (t.setBit off i b) :=
  h.of_ic (((Only.refl [.csr] t).setBit _ _ _).same .ic)

theorem Rises.settle (h : Rises s t) (n : Nat) (level : Bool) : Rises s (t.settle n level) := h.trans ((Rises.refl t).when _ (fun _ h1 => h1.high _))

theorem Rises.grpEvent (h : Rises s t) (g bit : Nat) : Rises s (t.grpEvent g bit) := h.trans (((Rises.refl t).setBit _ _ _).settle _ _)

theorem Rises.grpTry (h : Rises s t) (g : Nat) : Rises s (t.grpTry g) :=
  h.of_ic (((Only.refl [.csr] t).grpTry _).same .ic)

theorem Rises.grpFault (h : Rises s t) (g cause lane : Nat) : Rises s (t.grpFault g cause lane) := h.trans ((((((((Rises.refl t).setFld _ _ _).setFld _ _ _).setFld _ _ _).lnCount _ _).grpRecord _ _ _
      _).grpEvent _ _).grpTry _)

theorem Rises.memberFault (h : Rises s t) (n cause : Nat) : Rises s (t.memberFault n cause) := by
  refine h.trans ?_
  unfold State.memberFault
  split
  · exact (Rises.refl t).when _ (fun _ h1 => h1.grpFault _ _ _)
  · exact Rises.refl t

theorem Rises.unlock (h : Rises s t) (n : Nat) (logged : Bool) (cause : Nat) : Rises s (t.unlock n logged cause) := h.trans (Rises.ite (((Rises.refl t).setReg _ _).setCoder _ _) (((((Rises.refl t).setReg _ _).setCoder _
      _).when _ (fun _ h1 => (h1.setFlag _ _ _).pcsRecord _ _ _)).memberFault _ _))

theorem Rises.codeStart (h : Rises s t) (n : Nat) : Rises s (t.codeStart n) :=
  h.of_ic (((Only.refl [.ser, .draws] t).codeStart _).same .ic)

theorem Rises.lockUp (h : Rises s t) (n : Nat) : Rises s (t.lockUp n) :=
  h.of_ic (((Only.refl [.csr] t).lockUp _).same .ic)

theorem Rises.setMode (h : Rises s t) (n : Nat) (mode : Word) : Rises s (t.setMode n mode) := h.trans (Rises.ite ((Rises.refl t).setLane _ _) (((((Rises.refl t).setLane _ _).unlock _ _ _).codeStart
      _).when _ (fun _ h1 => h1.lockUp _)))

theorem Rises.lanePend (h : Rises s t) (n : Nat) : Rises s (t.lanePend n) := by
  refine h.trans ?_
  unfold State.lanePend
  generalize t.target n = x
  obtain ⟨rate, rpll, rfrac, ffe, mode⟩ := x
  exact .ite ((Rises.refl t).setFlag _ _ _) (((Rises.refl t).setMode _ _).setLane _ _)

theorem Rises.skmPend (h : Rises s t) (ls : List Nat) : Rises s (t.skmPend ls) := h.trans ((Rises.refl t).forEach _ (fun _ _ h1 => h1.lanePend _))

theorem Rises.engage (h : Rises s t) (e t0 : Nat) : Rises s (t.engage e t0) := h.trans (Rises.ite (Rises.refl t) ((((Rises.refl t).setFlag _ _ _).setSkm _ _).skmPend _))

theorem Rises.skmDetect (h : Rises s t) (e : Nat) : Rises s (t.skmDetect e) := h.trans (((((Rises.refl t).skmGo _ _).setFld _ _ _).setFld _ _ _).engage _ _)

theorem Rises.skmStartAll (h : Rises s t) : Rises s (t.skmStartAll) := h.trans (Rises.ite (Rises.refl t) ((Rises.refl t).forEach _ (fun _ _ h1 => h1.when _ (fun _ h2 =>
      h2.skmDetect _))))

theorem Rises.linesRise (h : Rises s t) (pre : State) : Rises s (t.linesRise pre) := h.trans ((Rises.refl t).forEach _ (fun _ _ h1 => Rises.ite (h1.raise _) (h1.high _)))

end
end Sys2Proof.Machine
end

section
/-! ## The phases of a boot (O11) -/

namespace Sys2Proof.Machine

-- Elaborated in order: side by side, so many short proofs would each hold a thread with its stack.
set_option Elab.async false

open Sys2Proof

theorem State.bootAgain_loaded {s : State} (hm : s.mode ≠ 4) (h : s.boot.fw = true ∨ s.loadOn .rom ≠ none) : s.bootAgain = s := by
  have hl : (s.boot.fw || (s.loadOn .rom).isSome) = true := by
    rcases h with h | h
    · simp [h]
    · simp [Option.isSome_iff_ne_none.mpr h]
  unfold State.bootAgain
  rw [if_neg hm, if_pos hl, ite_self]

/-- Trying a load changes none of what a restart leaves. -/
theorem Restarted.bootAgain {s t : State} (h : Restarted s t) : Restarted s t.bootAgain := by
  obtain ⟨h1, h2, h3, h4, h5, h6, h7, h8, h9, h10, h11, h12, h13, h14⟩ := h
  have ho := (Only.refl [.csr, .ic, .err, .boot] t).bootAgain
  have hd : ∀ r < 32, t.bootAgain.reg (R.CFG_RGN_DESC r) = t.reg (R.CFG_RGN_DESC r) := fun r hr => by
    refine ((Regs.refl (· ≠ R.CFG_RGN_DESC r) t).bootAgain ?_ (fun j hj => ?_) ?_ ?_ ?_).same
    all_goals
      simp only [R.CFG_RGN_DESC, R.CFG_BOOT_ERR, R.CFG_BOOT_STAT, R.CFG_DIR_SRC, R.CFG_DIR_SEQ]
      omega
  obtain ⟨l, hl⟩ := (Tried.bootAgain t).boot
  refine ⟨by rw [hl]; exact h1, by rw [hl]; exact h2, by rw [hl]; exact h3, (congrArg Fabric.gsr (ho.same .fab)).trans h4,
    (ho.same .act).trans h5, (ho.same .shd).trans h6, (ho.same .rgn).trans h7, (ho.same .base).trans h8, fun r hr => ?_, ?_, ?_,
    by rw [hl]; exact h12, (ho.same .fuses).trans h13, (ho.same .tap).trans h14⟩
  · rw [State.rgnDefined, State.fld_of_reg (hd r hr)]
    exact h9 r hr
  · rw [State.flag, (Tried.bootAgain t).fld _ (by decide)]
    exact h10
  · rw [(Tried.bootAgain t).fld _ (by decide)]
    exact h11

/-- A restart in BOOT before firmware is verified only starts the clearing again. -/
theorem State.restart_early {s : State} (hr : s.boot.inReset = false) (hp : s.phase = 1) (hf : s.boot.fw = false) :
    s.restart = s.startClearing := by
  unfold State.restart State.backToBoot
  rw [State.when_false (by simp [hp, hf]), if_neg (by simp [hr]), if_pos (by simp [hp, hf])]

theorem State.restart_eq {s : State} (hr : s.boot.inReset = false) (h1 : s.phase ≠ 1 ∨ s.boot.fw = true) :
    s.restart = s.backToBoot.bootAgain := by
  unfold State.restart
  exact State.when_true (by rcases h1 with h1 | h1 <;> simp [hr, h1]) _ _

/-- The state with CFG_START_N at the level given. -/
def State.withStartN (s : State) (b : Bool) : State := { s with board := { s.board with startN := b } }

theorem restarted_of_startN {s t : State} {b : Bool} (h : Restarted (s.withStartN b) t) : Restarted s t := h

theorem inBoot_of_startN {s t : State} {b : Bool} (h : InBoot (s.withStartN b) t) : InBoot s t := h

theorem cfgStartNFall_completes {s : State} (hr : s.boot.inReset = false) (h1 : s.phase ≠ 1 ∨ s.boot.fw = true) :
    Completes .cfgStartNFall s (fun t => Restarted s t ∧ InBoot s t ∧ t.board = { s.board with startN := false }) := by
  have hb := (State.backToBoot_outer (s := s.withStartN false) hr h1).same .board
  refine ⟨(s.withStartN false).backToBoot, congrArg Host.Outcome.next ?_, restarted_of_startN (State.backToBoot_restarted hr h1),
    inBoot_of_startN (State.backToBoot_inBoot hr h1), hb⟩
  exact (State.restart_eq (s := s.withStartN false) hr h1).trans (State.bootAgain_waits (.inl (congrArg Board.startN hb)))

theorem cfgStartNFall_early {s : State} (hr : s.boot.inReset = false) (hp : s.phase = 1) (hf : s.boot.fw = false) :
    Completes .cfgStartNFall s (fun t => t.boot.clearing = true ∧ t.phase = 1 ∧ t.act = Plane.zero ∧ t.shd = Plane.zero ∧
      t.boot.loads = s.boot.loads ∧ t.rgn = s.rgn ∧ t.board = { s.board with startN := false }) := by
  have ho := (Only.refl [.csr, .act, .shd, .boot, .scrub, .fab, .clk] (s.withStartN false)).startClearing
  have hc := State.startClearing_boot (s.withStartN false)
  have hph : (s.withStartN false).phase = 1 := hp
  refine ⟨(s.withStartN false).startClearing, congrArg Host.Outcome.next (State.restart_early (s := s.withStartN false) hr hp hf),
    by rw [hc], ?_, (State.startClearing_planes _).1, (State.startClearing_planes _).2, by rw [hc]; rfl, ho.same .rgn, ho.same .board⟩
  rw [State.phase, hc, State.fld_of_reg (State.startClearing_reg _ (by decide) (by decide))]
  exact hph

/-! A boot with no flash device. -/

section
variable (s : State)

theorem State.bootErr_report (n : Nat) (r : Report) (hs : r.src < 1024) (hc : r.cls < 256) :
    (s.report n r).reg R.CFG_BOOT_ERR = s.reg R.CFG_BOOT_ERR :=
  ((Regs.refl (· ≠ R.CFG_BOOT_ERR) s).report n r hs hc (by unfold R.CFG_BOOT_ERR; omega)).same

theorem State.bootErr_enterFailed : s.enterFailed.reg R.CFG_BOOT_ERR = s.reg R.CFG_BOOT_ERR :=
  ((Regs.refl (· ≠ R.CFG_BOOT_ERR) s).enterFailed (by decide)).same

/-- The codes of the two images stand apart: image 0 in PRI_CODE, every other in ALT_CODE (R201). -/
theorem State.priCode_bootRecord (code block : Nat) (h : code < 256) :
    (s.bootRecord 0 code block).fld R.CFG_BOOT_ERR F.CFG_BOOT_ERR_PRI_CODE = code := by
  unfold State.bootRecord
  rw [State.fld_of_reg (State.bootErr_report _ _ _ (by simp) (by simp)), if_pos rfl, State.fld_setFld_fld _ _ _ _ _ (by decide),
    State.fld_setFld _ _ _ _ (by decide)]
  exact Nat.mod_eq_of_lt h

theorem State.codes_bootRecord_alt (code block : Nat) (h : code < 256) :
    (s.bootRecord 1 code block).fld R.CFG_BOOT_ERR F.CFG_BOOT_ERR_ALT_CODE = code ∧
    (s.bootRecord 1 code block).fld R.CFG_BOOT_ERR F.CFG_BOOT_ERR_PRI_CODE = s.fld R.CFG_BOOT_ERR F.CFG_BOOT_ERR_PRI_CODE := by
  unfold State.bootRecord
  rw [State.fld_of_reg (State.bootErr_report _ _ _ (by simp) (by simp)), State.fld_of_reg (State.bootErr_report _ _ _ (by simp) (by simp)),
    if_neg (by decide), State.fld_setFld_fld _ _ _ _ _ (by decide), State.fld_setFld _ _ _ _ (by decide),
    State.fld_setFld_fld _ _ _ _ _ (by decide), State.fld_setFld_fld _ _ _ _ _ (by decide)]
  exact ⟨Nat.mod_eq_of_lt h, rfl⟩

variable {s}

theorem State.openFlash_unfitted (h0 : s.boot.flash0.fitted = false) (h1 : s.boot.flash1.fitted = false) (p : LoadPath)
    (kind : Nat) (alt : Bool) : s.openFlash p kind alt = .error 0x01 := by
  unfold State.openFlash
  rw [if_pos (by simp [h0, h1])]

/-- With no device fitted the primary fails with code 0x01, and so does the alternate where there is one. -/
theorem State.startFlash_unfitted (h0 : s.boot.flash0.fitted = false) (h1 : s.boot.flash1.fitted = false) (p : LoadPath) (kind : Nat) :
    s.startFlash p kind = if s.hasFallback kind then ((s.readDirectory.bootRecord 0 0x01 0xFFFF).bootRecord 1 0x01 0xFFFF).lastFailed kind
      else (s.readDirectory.bootRecord 0 0x01 0xFFFF).lastFailed kind := by
  have hf : ∀ t, Only [.csr, .ic, .err] s t → ∀ alt, t.openFlash p kind alt = .error 0x01 := fun t ht alt =>
    State.openFlash_unfitted (by rw [ht.same .boot]; exact h0) (by rw [ht.same .boot]; exact h1) p kind alt
  have hd := (Only.refl [.csr, .ic, .err] s).readDirectory
  unfold State.startFlash State.startAlternate
  dsimp only
  rw [hf _ hd]
  dsimp only
  rw [hf _ (hd.bootRecord 0 0x01 0xFFFF)]

end

/-- The device fails for want of a flash device. -/
theorem State.failed_unfitted {s : State} (hr : s.boot.inReset = false) (h0 : s.boot.flash0.fitted = false)
    (h1 : s.boot.flash1.fitted = false) (p : LoadPath) {kind : Nat} (hk : kind = 3 → s.phase = 1) :
    (s.startFlash p kind).phase = 6 ∧ (s.startFlash p kind).flag R.CFG_BOOT_STAT F.CFG_BOOT_STAT_CFG_ERR = true ∧
    (s.startFlash p kind).fld R.CFG_BOOT_ERR F.CFG_BOOT_ERR_PRI_CODE = 0x01 ∧
    (s.hasFallback kind = true → (s.startFlash p kind).fld R.CFG_BOOT_ERR F.CFG_BOOT_ERR_ALT_CODE = 0x01) := by
  have hl : ∀ t, Only [.csr, .ic, .err] s t → t.reg R.CFG_BOOT_STAT = s.reg R.CFG_BOOT_STAT →
      t.lastFailed kind = t.enterFailed ∧ t.enterFailed.phase = 6 ∧
      t.enterFailed.flag R.CFG_BOOT_STAT F.CFG_BOOT_STAT_CFG_ERR = true := fun t ht hreg => by
    have hb := ht.same .boot
    have hp : t.phase = s.phase := by rw [State.phase, State.phase, hb, State.fld_of_reg hreg]
    refine ⟨if_neg ?_, State.phase_enterFailed t (by rw [hb]; exact hr), ?_⟩
    · rw [hp]
      intro h
      simp only [Bool.and_eq_true, decide_eq_true_eq, bne_iff_ne] at h
      exact h.2 (hk h.1)
    · exact State.flag_setFlag _ _ _ _ (by decide)
  have hrec : ∀ t : State, ∀ i, (t.bootRecord i 0x01 0xFFFF).reg R.CFG_BOOT_STAT = t.reg R.CFG_BOOT_STAT := fun t i =>
    ((Regs.refl (· ≠ R.CFG_BOOT_STAT) t).bootRecord _ _ _ (by decide) (by unfold R.CFG_BOOT_STAT; omega)).same
  have hdir : s.readDirectory.reg R.CFG_BOOT_STAT = s.reg R.CFG_BOOT_STAT :=
    ((Regs.refl (· ≠ R.CFG_BOOT_STAT) s).readDirectory (by decide) (by decide) (by unfold R.CFG_BOOT_STAT; omega)).same
  have ho := ((Only.refl [.csr, .ic, .err] s).readDirectory).bootRecord 0 0x01 0xFFFF
  rw [State.startFlash_unfitted h0 h1]
  split
  · obtain ⟨he, hp, hc⟩ := hl _ (ho.bootRecord 1 0x01 0xFFFF) ((hrec _ _).trans ((hrec _ _).trans hdir))
    obtain ⟨ha, hq⟩ := State.codes_bootRecord_alt (s.readDirectory.bootRecord 0 0x01 0xFFFF) 0x01 0xFFFF (by decide)
    rw [he, State.fld_of_reg (State.bootErr_enterFailed _), State.fld_of_reg (State.bootErr_enterFailed _), ha, hq]
    exact ⟨hp, hc, State.priCode_bootRecord _ _ _ (by decide), fun _ => rfl⟩
  · next hn =>
    obtain ⟨he, hp, hc⟩ := hl _ ho ((hrec _ _).trans hdir)
    rw [he, State.fld_of_reg (State.bootErr_enterFailed _)]
    exact ⟨hp, hc, State.priCode_bootRecord _ _ _ (by decide), fun h => absurd h hn⟩

/-! The register CFG_RESTART. -/

theorem busWrite_cfgRestart {s : State} {ep : Nat} (hw : s.mayWrite ep R.CFG_RESTART) (v : Word) :
    s.busWrite ep R.CFG_RESTART v = s.when (v.fget F.CFG_RESTART_KEY == 0xC0DE) (fun t => t.restart) := by
  rw [busWrite_of_mayWrite hw]
  rfl

theorem State.reaches_running {s : State} {ep off : Nat} (h : s.reaches ep off = true) : s.boot.inReset = false := by
  unfold State.reaches State.presents at h
  simp only [Bool.and_eq_true, Bool.not_eq_true'] at h
  exact h.1.1.1.1.1.1.1

section
variable {s : State} (hr : s.boot.inReset = false) (h1 : s.phase ≠ 1 ∨ s.boot.fw = true)
include hr h1

theorem State.backToBoot_mode : s.backToBoot.mode = s.mode := by
  have hstat := (State.backToBoot_reg hr h1 (off := R.CFG_BOOT_STAT) (.inr (by decide))).trans (State.emptied_bootStat _)
  have hu : s.unloaded.fld R.CFG_BOOT_STAT F.CFG_BOOT_STAT_MODE = s.fld R.CFG_BOOT_STAT F.CFG_BOOT_STAT_MODE := by
    refine State.fld_of_reg ((((((Regs.refl (· ≠ R.CFG_BOOT_STAT) s).answerStager _ _ (fun i => ?_)).foldl _ fun _ _ h2 =>
      h2.dropLoad _).setBoot _).setFlag _ _ (by decide)).setFlag _ _ (by decide)).same _
    simp only [R.MBX_STAT, R.CFG_BOOT_STAT]
    omega
  unfold State.mode
  rw [State.fld_of_reg hstat]
  simp (disch := decide) only [State.fld_setFlag_fld, State.fld_setFld_fld, State.setPhase, hu]

theorem State.backToBoot_halted : s.backToBoot.halted = s.halted := by
  have hu : s.unloaded.reg R.DBG_STAT = s.reg R.DBG_STAT := by
    refine (((((((Regs.refl (· ≠ R.DBG_STAT) s).answerStager _ _ (fun i => ?_)).foldl _ fun _ _ h2 =>
      h2.dropLoad _).setBoot _).setFlag _ _ (by decide)).setFlag _ _ (by decide)).same)
    simp only [R.MBX_STAT, R.DBG_STAT]
    omega
  exact State.flag_of_reg ((State.backToBoot_reg hr h1 (.inl rfl)).trans ((State.emptied_dbgStat _).trans hu)) _

theorem State.restart_completes :
    Restarted s s.restart ∧ s.restart.board = s.board ∧
      (s.board.startN = false ∨ s.halted = true → InBoot s s.restart) ∧
      (s.board.startN = true → s.halted = false →
        (s.mode = 4 → 2 ≤ s.lc → s.restart.phase = 6 ∧ s.restart.flag R.CFG_BOOT_STAT F.CFG_BOOT_STAT_CFG_ERR = true ∧
          s.restart.fld R.CFG_BOOT_ERR F.CFG_BOOT_ERR_ALT_CODE = 0x14) ∧
        (s.mode = 4 → s.lc < 2 → InBoot s s.restart) ∧
        (s.mode ≠ 4 → s.boot.fw = true ∨ s.loadOn .rom ≠ none → InBoot s s.restart) ∧
        (s.mode ≠ 4 → s.boot.fw = false → s.loadOn .rom = none → s.boot.flash0.fitted = false →
          s.boot.flash1.fitted = false → s.restart.phase = 6 ∧ s.restart.flag R.CFG_BOOT_STAT F.CFG_BOOT_STAT_CFG_ERR = true ∧
          s.restart.fld R.CFG_BOOT_ERR F.CFG_BOOT_ERR_PRI_CODE = 0x01)) := by
  rw [State.restart_eq hr h1]
  have hR := State.backToBoot_restarted hr h1
  have hB := State.backToBoot_inBoot hr h1
  have ho := State.backToBoot_outer hr h1
  have hboard : s.backToBoot.board = s.board := ho.same .board
  have hfuse : s.backToBoot.fuses = s.fuses := ho.same .fuses
  have hlc : s.backToBoot.lc = s.lc := by
    unfold State.lc
    rw [hfuse]
  have hmode := State.backToBoot_mode hr h1
  have hhalt := State.backToBoot_halted hr h1
  obtain ⟨l, hl⟩ := State.backToBoot_boot hr h1
  refine ⟨Restarted.bootAgain hR, (((Only.refl [.csr, .ic, .err, .boot] _).bootAgain).same .board).trans hboard, fun h => ?_,
    fun hn hh => ⟨fun hm hc => ?refused, fun hm hc => ?jtag, fun hm h => ?loaded, fun hm hf hld h0 hq => ?unfitted⟩⟩
  · rw [State.bootAgain_waits (by rw [hboard, hhalt]; exact h)]
    exact hB
  case refused =>
    rw [State.bootAgain_refused (by rw [hboard]; exact hn) (by rw [hhalt]; exact hh) (by rw [hmode]; exact hm) (by rw [hlc]; exact hc)]
    refine ⟨State.phase_enterFailed _ ?_, State.flag_setFlag _ _ _ _ (by decide), State.altCode_refused _⟩
    rw [((Only.refl [.csr, .ic, .err] _).bootRecord _ _ _).same .boot, hl]
    exact hr
  case jtag =>
    rw [State.bootAgain_jtag (by rw [hmode]; exact hm) (by rw [hlc]; exact hc)]
    exact hB
  case loaded =>
    rw [State.bootAgain_loaded (by rw [hmode]; exact hm) (by rw [hl, State.backToBoot_loadOn hr h1]; exact h)]
    exact hB
  case unfitted =>
    have he : s.backToBoot.bootAgain = s.backToBoot.startFlash .rom 3 := by
      unfold State.bootAgain
      rw [if_neg (by rw [hhalt, hh, hboard, hn]; decide), if_neg (by rw [hmode]; exact hm),
        if_neg (by rw [State.backToBoot_loadOn hr h1, hld, hl]; simp [hf])]
    rw [he]
    obtain ⟨hp, hc, hcode, -⟩ := State.failed_unfitted (s := s.backToBoot) (by rw [hl]; exact hr) (by rw [hl]; exact h0)
      (by rw [hl]; exact hq) .rom (kind := 3) fun _ => hB.1
    exact ⟨hp, hc, hcode⟩

end

/-! The end of a clearing. -/

/-- The state in which a clearing is over. -/
def State.clearedOut (s : State) : State :=
  s.clearPlanes.setBoot { s.clearPlanes.boot with clearing := false, cleared := true }

theorem State.clearPlanes_boot (s : State) : s.clearPlanes.boot = s.boot :=
  (Only.refl [.csr, .act, .shd, .fab, .clk] s).clearPlanes.same .boot

theorem State.clearedOut_boot (s : State) : s.clearedOut.boot = { s.boot with clearing := false, cleared := true } :=
  congrArg (fun b : Boot => { b with clearing := false, cleared := true }) s.clearPlanes_boot

theorem State.clearedOut_only (s : State) : Only [.csr, .act, .shd, .fab, .clk, .boot] s s.clearedOut :=
  ((Only.refl _ s).clearPlanes).setBoot _

theorem State.clearedOut_reg (s : State) {off : Nat} (h : off = R.CFG_BOOT_STAT ∨ off = R.DBG_STAT) : s.clearedOut.reg off = s.reg off := by
  refine (((Regs.refl (· ≠ off) s).clearPlanes ?_ (fun i => ?_) (fun i => ?_)).setBoot _).same
  all_goals
    rcases h with rfl | rfl <;> simp only [R.CFG_BOOT_STAT, R.DBG_STAT, R.CLK_FPLL_LOCK, R.FAB_BUS_VAL_LO, R.FAB_BUS_VAL_HI] <;> omega

theorem State.clearedOut_phase (s : State) : s.clearedOut.phase = s.phase := by
  unfold State.phase
  rw [State.fld_of_reg (s.clearedOut_reg (.inl rfl)), s.clearedOut_boot]

theorem State.mode_of_fld {s t : State} (h : t.fld R.CFG_BOOT_STAT F.CFG_BOOT_STAT_MODE = s.fld R.CFG_BOOT_STAT F.CFG_BOOT_STAT_MODE) :
    t.mode = s.mode := by
  unfold State.mode
  rw [h]

theorem State.clearedOut_mode (s : State) : s.clearedOut.mode = s.mode :=
  State.mode_of_fld (State.fld_of_reg (s.clearedOut_reg (.inl rfl)) _)

theorem State.clearedOut_halted (s : State) : s.clearedOut.halted = s.halted := State.flag_of_reg (s.clearedOut_reg (.inr rfl)) _

theorem State.clearedOut_planes (s : State) : s.clearedOut.act = Plane.zero ∧ s.clearedOut.shd = Plane.zero := by
  have hc : Only [.csr, .boot, .scrub] s.clearPlanes s.startClearing := ((Only.refl _ _).scrubStop).setBoot _
  have hz : Only [.boot] s.clearPlanes s.clearedOut := (Only.refl _ _).setBoot _
  obtain ⟨ha, hs⟩ := State.startClearing_planes s
  exact ⟨(hz.same .act).trans ((hc.same .act).symm.trans ha), (hz.same .shd).trans ((hc.same .shd).symm.trans hs)⟩

theorem State.mode_setPhase (s : State) (n : Nat) : (s.setPhase n).mode = s.mode :=
  State.mode_of_fld (State.fld_setFld_fld s _ _ _ _ (by decide))

/-- LOAD waits in boot modes 0b010 and 0b100. -/
theorem State.tryLoad_waits {s : State} (hh : s.halted = false) (hr : s.boot.inReset = false) (hp : s.phase = 1) (hf : s.boot.fw = true)
    (hc : s.boot.cleared = true) (hg : s.boot.clearing = false) (hn : s.board.startN = true) (hw : s.boot.wipeHold = false)
    (hm : 2 ≤ s.mode) : s.tryLoad = s.setPhase 2 ∧ (s.setPhase 2).phase = 2 := by
  have hmode : (s.setPhase 2).mode = s.mode := s.mode_setPhase 2
  refine ⟨?_, ?_⟩
  · unfold State.tryLoad
    rw [if_neg (by simp [hh, hp, hf, hc, hg, hn, hw])]
    exact if_neg (by rw [hmode]; exact Nat.not_lt.mpr hm)
  · rw [State.phase, show (s.setPhase 2).boot.inReset = false from hr]
    exact State.fld_setFld _ _ _ _ (by decide)

theorem State.tryLoad_reads {s : State} (hh : s.halted = false) (hp : s.phase = 1) (hf : s.boot.fw = true)
    (hc : s.boot.cleared = true) (hg : s.boot.clearing = false) (hn : s.board.startN = true) (hw : s.boot.wipeHold = false)
    (hm : s.mode < 2) : s.tryLoad = (s.setPhase 2).startFlash .flash 1 ∧ (s.setPhase 2).mode < 2 := by
  have hmode : (s.setPhase 2).mode = s.mode := s.mode_setPhase 2
  refine ⟨?_, by rw [hmode]; exact hm⟩
  unfold State.tryLoad
  rw [if_neg (by simp [hh, hp, hf, hc, hg, hn, hw])]
  exact if_pos (by rw [hmode]; exact hm)

theorem State.tryLoad_stays {s : State} (h : s.phase ≠ 1 ∨ s.boot.fw = false ∨ s.board.startN = false ∨ s.boot.wipeHold = true) :
    s.tryLoad = s := by
  unfold State.tryLoad
  rw [if_pos (by rcases h with h | h | h | h <;> simp [h])]

theorem Tried.setPhase (s : State) (n : Nat) : Tried s (s.setPhase n) := Tried.setFld s _ _ (by decide)

theorem Tried.tryLoad (s : State) : Tried s s.tryLoad := by
  unfold State.tryLoad
  dsimp only
  split
  · exact Tried.refl s
  · split
    · exact (Tried.setPhase s 2).trans (Tried.startFlash _ _ _)
    · exact Tried.setPhase s 2

theorem clearingDoneLeadsToLoad : ClearingDoneLeadsToLoad := by
  intro s
  refine ⟨fun hc hh => ?_, fun h => congrArg Host.Outcome.next (if_pos (by rcases h with h | h <;> simp [h]))⟩
  have hb := s.clearedOut_boot
  have ho := s.clearedOut_only
  have ht := (Only.refl [.csr, .ic, .err, .boot] s.clearedOut).tryLoad
  obtain ⟨l, hl⟩ := (Tried.tryLoad s.clearedOut).boot
  have hboard : s.clearedOut.board = s.board := ho.same .board
  have hhalt : s.clearedOut.halted = false := s.clearedOut_halted.trans hh
  refine ⟨s.clearedOut.tryLoad, congrArg Host.Outcome.next (if_neg (by simp [hc, hh])), by rw [hl, hb], by rw [hl, hb],
    (ht.same .act).trans s.clearedOut_planes.1, (ht.same .shd).trans s.clearedOut_planes.2, fun hp hf hn hw hm => ?wait,
    fun hp hf hn hw hm h0 h1 => ?fail, fun h => ?stay, (ht.same .fuses).trans (ho.same .fuses), (ht.same .rld).trans (ho.same .rld),
    (ht.same .pad).trans (ho.same .pad)⟩
  case stay =>
    rw [State.tryLoad_stays (by rw [s.clearedOut_phase, hb, hboard]; exact h)]
    exact ⟨s.clearedOut_phase, by rw [hb]⟩
  all_goals have hp' := s.clearedOut_phase.trans hp
  case wait =>
    have hr : s.clearedOut.boot.inReset = false := by
      cases hi : s.clearedOut.boot.inReset with
      | false => rfl
      | true => simp [State.phase, hi] at hp'
    obtain ⟨he, h2⟩ := State.tryLoad_waits hhalt hr hp' (by rw [hb]; exact hf) (by rw [hb]) (by rw [hb]) (by rw [hboard]; exact hn)
      (by rw [hb]; exact hw) (by rw [s.clearedOut_mode]; exact hm)
    rw [he]
    refine ⟨h2, ?_⟩
    show s.clearedOut.boot.loads = _
    rw [hb]
  case fail =>
    have hr : s.clearedOut.boot.inReset = false := by
      cases hi : s.clearedOut.boot.inReset with
      | false => rfl
      | true => simp [State.phase, hi] at hp'
    obtain ⟨he, h2⟩ := State.tryLoad_reads hhalt hp' (by rw [hb]; exact hf) (by rw [hb]) (by rw [hb]) (by rw [hboard]; exact hn)
      (by rw [hb]; exact hw) (by rw [s.clearedOut_mode]; exact hm)
    rw [he]
    obtain ⟨hp6, -, hpri, halt⟩ := State.failed_unfitted (s := s.clearedOut.setPhase 2) hr (by rw [State.setPhase]; exact (congrArg (·.flash0.fitted) hb).trans h0)
      (by exact (congrArg (·.flash1.fitted) hb).trans h1) .flash (kind := 1) (fun h => absurd h (by decide))
    exact ⟨hp6, hpri, halt (by simp [State.hasFallback, h2])⟩

/-! The restart of configuration. -/

theorem restartReturnsToBoot : RestartReturnsToBoot := by
  refine ⟨fun s hr h1 => cfgStartNFall_completes hr h1, fun s hr hp hf => cfgStartNFall_early hr hp hf, fun s hr => ?pin,
    fun ep v s hw hk h1 => ?key, fun ep v s hw hk => ?other⟩
  case pin =>
    refine ⟨s.withStartN false, congrArg Host.Outcome.next ?_, rfl, (Only.refl _ s).with_board _⟩
    have hi : (s.withStartN false).boot.inReset = true := hr
    show (s.withStartN false).restart = _
    unfold State.restart State.backToBoot
    rw [State.when_false (by rw [hi]; rfl), if_pos (by rw [hi])]
  case key =>
    have hr := State.reaches_running hw.1
    refine ⟨s.restart, congrArg Host.Outcome.next ?_, State.restart_completes hr h1⟩
    rw [busWrite_cfgRestart hw, State.when_true (by rw [hk]; rfl)]
  case other =>
    refine congrArg Host.Outcome.next ?_
    rw [busWrite_cfgRestart hw, State.when_false (by simpa using hk)]

/-! Start-up. -/

/-- Start-up with GSR released and USER_MODE set, before the sectors, lanes, engines and lines follow. -/
def State.gsrReleased (s : State) : State :=
  let u := (s.setFld R.CFG_BOOT_STAT F.CFG_BOOT_STAT_STEP 7).setPhase 5
  { u with fab := { u.fab with gsr := false } }.setFlag R.CFG_BOOT_STAT F.CFG_BOOT_STAT_USER_MODE true

/-- Start-up but for the interrupt at its end. -/
def State.started (s : State) : State :=
  (((s.gsrReleased.settlePins.forEach (List.range 32) fun x k => x.gsrSettle k).when (!s.boot.holdLanes) fun t =>
    t.forEach (List.range 144) fun x n => x.setFlag (R.LN_CTRL n) F.LN_CTRL_TX_IDLE false).skmStartAll).linesRise s

theorem State.started_reg (s : State) {off : Nat} (h : off = R.CFG_BOOT_STAT ∨ off = R.DBG_STAT) :
    s.started.reg off = s.gsrReleased.reg off := by
  refine (((((Regs.refl (· ≠ off) _).settlePins.forEach _ fun _ _ h1 => h1.gsrSettle _ ?_).when _ fun _ h1 =>
    h1.forEach _ fun _ _ h2 => h2.setFlag _ _ ?_).skmStartAll (fun i => ?_) (fun i => ?_) (fun i => ?_) (fun j hj => ?_) (fun i => ?_)
    (fun i => ?_) (fun i => ?_)).linesRise _).same
  all_goals
    rcases h with rfl | rfl <;> simp only [R.CFG_BOOT_STAT, R.DBG_STAT, R.FAB_GSR_STAT, R.LN_CTRL, R.SKM_ENG_STAT, R.LN_STAT,
      R.PCS_LN_STAT, R.PCS_GRP_STAT, R.PCS_GRP_FAULTS, R.PCS_GRP_INT_STAT] <;> omega

theorem Same.gsr_gsrSettle {s t : State} (h : Same State.gsrOn s t) (k : Nat) : Same State.gsrOn s (t.gsrSettle k) := by
  refine Same.ite h (Same.when ?_ _ fun _ h1 => h1.gsr_setReg _ _)
  exact h

theorem State.started_gsr (s : State) : s.started.gsrOn = false := by
  have h : Only [.csr, .ic, .err, .ser, .draws] (s.gsrReleased.settlePins.forEach (List.range 32) fun x k => x.gsrSettle k) s.started :=
    (((Only.refl _ _).when _ fun _ h1 => h1.forEach _ fun _ _ h2 => h2.setFlag _ _ _).skmStartAll).linesRise _
  exact Same.gsr_of_fab (s := s.gsrReleased) (Same.forEach (.gsr_settlePins rfl) _ fun _ _ h1 => h1.gsr_gsrSettle _) (h.same .fab)

theorem State.started_rises (s : State) : Rises s s.started := by
  have h : Only [.csr, .fab] s (((s.gsrReleased.settlePins.forEach (List.range 32) fun x k => x.gsrSettle k).when (!s.boot.holdLanes) fun t =>
    t.forEach (List.range 144) fun x n => x.setFlag (R.LN_CTRL n) F.LN_CTRL_TX_IDLE false)) :=
    (((((((Only.refl _ s).setFld _ _ _).setPhase _).with_fab _).setFlag _ _ _).settlePins.forEach _ fun _ _ h1 => h1.gsrSettle _).when _
      fun _ h1 => h1.forEach _ fun _ _ h2 => h2.setFlag _ _ _)
  exact (((Rises.refl s).of_ic (h.same .ic)).skmStartAll).linesRise _

/-- An interrupt raised while the controller's clock runs, outside a halt and RESET, is pending. -/
theorem State.pending_pulse_of {s : State} {n : Nat} (hn : n < 512) (hp : pulseSource n = true) (hq : reservedSource n = false)
    (hr : s.boot.inReset = false) (ha : s.ic.asleep = false) (hh : s.halted = false) : (s.pulse n).ic.pending.has n = true := by
  unfold State.pulse State.isPulse State.raise
  rw [if_pos hn, State.when_true hp, if_neg (by simp [hq, hr]), if_neg (by simp [ha, hh])]
  simp [NSet.has_add]

theorem State.cfgDoneLow_of {s : State} (hb : s.bscan = false) : s.cfgDoneLow = (s.boot.inReset || s.phase < 3 || s.phase == 6) := by
  unfold State.cfgDoneLow
  rw [if_neg (by rw [hb]; decide)]

/-- The state with CFG_DONE_IN as given. -/
theorem State.seen_phase (s : State) (b : Bool) : (s.setFlag R.CFG_BOOT_STAT F.CFG_BOOT_STAT_CFG_DONE_IN b).phase = s.phase := by
  unfold State.phase
  rw [show (s.setFlag R.CFG_BOOT_STAT F.CFG_BOOT_STAT_CFG_DONE_IN b).boot = s.boot from rfl, State.setFlag,
    State.fld_setFld_fld _ _ _ _ _ (by decide)]

theorem State.seen_halted (s : State) (b : Bool) : (s.setFlag R.CFG_BOOT_STAT F.CFG_BOOT_STAT_CFG_DONE_IN b).halted = s.halted :=
  State.flag_setFlag_off _ _ _ _ _ _ (by decide)

theorem cfgDoneStartsUser : CfgDoneStartsUser := by
  refine ⟨fun s hr hp hb hh => ?user, fun s hr hb hph => ?seen, fun s hb hph => ?low, fun s => ?fall, fun s => ?rise⟩
  case user =>
    obtain ⟨d, hd⟩ : ∃ d, d = s.setFlag R.CFG_BOOT_STAT F.CFG_BOOT_STAT_CFG_DONE_IN true := ⟨_, rfl⟩
    have hdp : d.phase = 3 := by rw [hd, State.seen_phase, hp]
    have hdh : d.halted = false := by rw [hd, State.seen_halted, hh]
    have hdb : d.boot = s.boot := by rw [hd]; rfl
    have hio : Only [.csr, .ic, .err, .fab, .ser, .draws] s d.startUp := by
      rw [hd]
      exact ((Only.refl _ s).setFlag _ _ _).startUp
    have hreg : d.startUp.reg R.CFG_BOOT_STAT = d.gsrReleased.reg R.CFG_BOOT_STAT :=
      ((Regs.refl (· ≠ R.CFG_BOOT_STAT) _).pulse 17).same.trans (d.started_reg (.inl rfl))
    have hphase : d.startUp.phase = 5 := by
      rw [State.phase, hio.same .boot, hr, State.fld_of_reg hreg]
      simp (disch := decide) [State.gsrReleased, State.setPhase]
      rfl
    refine ⟨d.startUp, congrArg Host.Outcome.next ?_, hphase, by simp [State.user, hphase], ?_, ?_, ?_, ?_, fun ha => ?_,
      hio.same .act, hio.same .shd, hio.same .rgn, hio.same .boot, hio.same .fuses, hio.same .rld⟩
    · rw [if_neg (by simp [State.cfgDoneLow_of hb, hr, hp]), ← hd, State.when_true (by simp [hp, hh])]
    · rw [State.fld_of_reg hreg]
      simp (disch := decide) [State.gsrReleased, State.setPhase]
      rfl
    · exact (congrArg Fabric.gsr (((Only.refl [.ic] d.started).pulse 17).same .fab)).trans d.started_gsr
    · rw [State.flag_of_reg hreg]
      simp (disch := decide) [State.gsrReleased]
    · rw [State.flag_of_reg hreg, hd]
      simp (disch := decide) [State.gsrReleased, State.setPhase]
    · have hs := d.started_rises
      have hso : Only [.csr, .ic, .err, .fab, .ser, .draws] d d.started :=
        (((((((((Only.refl _ d).setFld _ _ _).setPhase _).with_fab _).setFlag _ _ _).settlePins.forEach _ fun _ _ h1 => h1.gsrSettle _).when _
          fun _ h1 => h1.forEach _ fun _ _ h2 => h2.setFlag _ _ _)).skmStartAll).linesRise _
      refine State.pending_pulse_of (s := d.started) (by decide) (by decide) (by decide) ?_ ?_ ?_
      · rw [hso.same .boot, hdb]
        exact hr
      · rw [hs.asleep, hd]
        exact ha
      · rw [State.halted, State.flag_of_reg (d.started_reg (.inr rfl))]
        refine Eq.trans ?_ hdh
        simp (disch := decide) [State.halted, State.gsrReleased, State.setPhase]
  case seen =>
    refine ⟨s.setFlag R.CFG_BOOT_STAT F.CFG_BOOT_STAT_CFG_DONE_IN true, congrArg Host.Outcome.next ?_, State.flag_setFlag _ _ _ _ (by decide),
      s.seen_phase true, Regs.but ((Regs.refl (· ∈ [R.CFG_BOOT_STAT]) s).setFlag _ _ (by simp)), (Only.refl _ s).setFlag _ _ _⟩
    rw [if_neg (by rcases hph with h | h | ⟨h, -⟩ <;> simp [State.cfgDoneLow_of hb, hr, h]),
      State.when_false (by rcases hph with h | h | ⟨-, h⟩ <;> simp [h])]
  case low =>
    exact congrArg Host.Outcome.next (if_pos (by rcases hph with h | h <;> simp [State.cfgDoneLow_of hb, h]))
  case fall =>
    exact ⟨_, rfl, State.flag_setFlag _ _ _ _ (by decide), s.seen_phase false,
      Regs.but ((Regs.refl (· ∈ [R.CFG_BOOT_STAT]) s).setFlag _ _ (by simp)), (Only.refl _ s).setFlag _ _ _⟩
  case rise =>
    have hgo : Only [.csr, .ic, .err, .boot] (s.withStartN true) (s.withStartN true).bootGoes :=
      (Only.refl _ _).when _ fun _ h1 => h1.bootAgain.tryLoad
    refine ⟨(s.withStartN true).bootGoes, rfl, hgo.same .board, fun hp hh hf hc hg hw hm => ?_, fun hp => ?_⟩
    · have hp' : (s.withStartN true).phase = 1 := hp
      have hr : (s.withStartN true).boot.inReset = false := by
        cases hi : (s.withStartN true).boot.inReset with
        | false => rfl
        | true => simp [State.phase, hi] at hp'
      have hb : (s.withStartN true).bootAgain = s.withStartN true := by
        rcases hm with h | ⟨h, hl⟩
        · exact State.bootAgain_loaded (s := s.withStartN true) (by rw [show (s.withStartN true).mode = s.mode from rfl, h]; decide) (.inl hf)
        · exact State.bootAgain_jtag (s := s.withStartN true) h hl
      obtain ⟨he, h2⟩ := State.tryLoad_waits (s := s.withStartN true) hh hr hp hf hc hg rfl hw (by
        show 2 ≤ s.mode
        rcases hm with h | ⟨h, -⟩ <;> rw [h] <;> decide)
      rw [State.bootGoes, State.when_true (by rw [hp', hr]; rfl), hb, he]
      exact ⟨h2, rfl⟩
    · rw [State.bootGoes, State.when_false (by rw [show (s.withStartN true).phase = s.phase from rfl]; simp [hp])]
      exact (Only.refl _ s).with_board _

/-- Settles O11: each conjunct in turn; the boot ROM's next load is one of the cases of `State.bootAgain`. -/
theorem bootClearsLoadsRestartsAndStarts : Obligations.BootClearsLoadsRestartsAndStarts :=
  ⟨clearingDoneLeadsToLoad, restartReturnsToBoot, cfgDoneStartsUser⟩

end Sys2Proof.Machine
end

section
/-! ## Tables that take a part of another -/

namespace Sys2Proof.Machine

-- Elaborated in order: side by side, so many short proofs would each hold a thread with its stack.
set_option Elab.async false

open Sys2Proof

/-- The first entry of key `k` among the entries at the front whose keys are not above `k`: where an insertion leaves it. -/
def Tbl.leading {α : Type} (k : Nat) : Tbl α → Option α
  | [] => none
  | (a, v) :: t => if a = k then some v else if k < a then none else Tbl.leading k t

section
variable {α : Type} {k j : Nat} {v w : α} {d : Nat → α}

theorem Tbl.get_of_leading {t : Tbl α} (h : Tbl.leading k t = some v) : Tbl.get d t k = v := by
  induction t with
  | nil => cases h
  | cons p t ih =>
    simp only [Tbl.leading] at h
    simp only [Tbl.get]
    split at h
    · rw [if_pos ‹_›]
      exact Option.some.inj h
    · split at h
      · cases h
      · rw [if_neg ‹_›]
        exact ih h

theorem Tbl.get_insert_ne (t : Tbl α) (h : j ≠ k) : Tbl.get d (Tbl.insert j w t) k = Tbl.get d t k := by
  induction t with
  | nil => simp [Tbl.insert, Tbl.get, h]
  | cons p t ih =>
    simp only [Tbl.insert]
    split
    · simp only [Tbl.get, if_neg h]
    · simp only [Tbl.get, ih]

theorem Tbl.leading_insert_ne {t : Tbl α} (h : j ≠ k) (hl : Tbl.leading k t = some v) : Tbl.leading k (Tbl.insert j w t) = some v := by
  induction t with
  | nil => cases hl
  | cons p t ih =>
    simp only [Tbl.leading] at hl
    simp only [Tbl.insert]
    split
    · next hj =>
      rw [Tbl.leading, if_neg h, Tbl.leading]
      split at hl
      · rw [if_neg (by omega), if_pos ‹_›]
        exact hl
      · split at hl
        · cases hl
        · rw [if_neg (by omega), if_neg ‹_›, if_neg ‹_›]
          exact hl
    · rw [Tbl.leading]
      split at hl
      · rw [if_pos ‹_›]
        exact hl
      · split at hl
        · cases hl
        · rw [if_neg ‹_›, if_neg ‹_›]
          exact ih hl

theorem Tbl.leading_insert_self (t : Tbl α) : Tbl.leading k (Tbl.insert k w t) = some ((Tbl.leading k t).getD w) := by
  induction t with
  | nil => simp [Tbl.insert, Tbl.leading]
  | cons p t ih =>
    simp only [Tbl.insert, Tbl.leading]
    by_cases hk : p.1 = k
    · rw [if_neg (by omega), Tbl.leading, if_pos hk, if_pos hk]
      rfl
    · by_cases hl : k < p.1
      · rw [if_pos hl, Tbl.leading, if_pos rfl, if_neg hk, if_pos hl]
        rfl
      · rw [if_neg hl, Tbl.leading, if_neg hk, if_neg hl, if_neg hk, if_neg hl, ih]

theorem Tbl.get_of_absent {t : Tbl α} (h : ∀ p ∈ t, p.1 ≠ k) : Tbl.get d t k = d k := by
  induction t with
  | nil => rfl
  | cons p t ih =>
    rw [Tbl.get, if_neg (h p (by simp)), ih fun q hq => h q (by simp [hq])]

theorem Tbl.leading_of_absent {t : Tbl α} (h : ∀ p ∈ t, p.1 ≠ k) : Tbl.leading k t = none := by
  induction t with
  | nil => rfl
  | cons p t ih =>
    rw [Tbl.leading, if_neg (h p (by simp)), ih fun q hq => h q (by simp [hq]), ite_self]

theorem Tbl.mem_insert {t : Tbl α} {p : Nat × α} (h : p ∈ Tbl.insert j w t) : p.1 = j ∨ p ∈ t := by
  induction t with
  | nil => exact .inl (by rw [List.mem_singleton.mp h])
  | cons q t ih =>
    simp only [Tbl.insert] at h
    split at h
    · rcases List.mem_cons.mp h with rfl | h
      · exact .inl rfl
      · exact .inr h
    · rcases List.mem_cons.mp h with rfl | h
      · exact .inr (by simp)
      · exact (ih h).imp id fun h => by simp [h]

/-- Insertions keep what leads for their key. -/
theorem Tbl.get_inserts_of_leading (l : Tbl α) {t : Tbl α} (h : Tbl.leading k t = some v) :
    Tbl.get d (l.foldl (fun t q => Tbl.insert q.1 q.2 t) t) k = v := by
  induction l generalizing t with
  | nil => exact Tbl.get_of_leading h
  | cons p l ih =>
    refine ih (?_ : Tbl.leading k (Tbl.insert p.1 p.2 t) = some v)
    by_cases hk : p.1 = k
    · rw [hk, Tbl.leading_insert_self, h]
      rfl
    · exact Tbl.leading_insert_ne hk h

/-- Into a table without a key, insertions bring what the inserted table holds for it. -/
theorem Tbl.get_inserts_of_absent (l : Tbl α) {t : Tbl α} (h : ∀ p ∈ t, p.1 ≠ k) :
    Tbl.get d (l.foldl (fun t q => Tbl.insert q.1 q.2 t) t) k = Tbl.get d l k := by
  induction l generalizing t with
  | nil => exact Tbl.get_of_absent h
  | cons p l ih =>
    rw [List.foldl_cons, Tbl.get]
    split
    · next hk =>
      refine Tbl.get_inserts_of_leading l ?_
      rw [hk, Tbl.leading_insert_self, Tbl.leading_of_absent h]
      rfl
    · exact ih fun q hq => (Tbl.mem_insert hq).elim (fun e => e ▸ ‹_›) (h q)

theorem Tbl.get_inserts_of_unlisted (l : Tbl α) {t : Tbl α} (h : ∀ p ∈ l, p.1 ≠ k) :
    Tbl.get d (l.foldl (fun t q => Tbl.insert q.1 q.2 t) t) k = Tbl.get d t k := by
  induction l generalizing t with
  | nil => rfl
  | cons p l ih =>
    rw [List.foldl_cons, ih fun q hq => h q (by simp [hq]), Tbl.get_insert_ne _ (h p (by simp))]

/-- A table that takes the keys selected from another holds that one's values there, and its own elsewhere. -/
theorem get_takeWhere (sel : Nat → Bool) (a b : Tbl α) (k : Nat) :
    Tbl.get d (takeWhere sel a b) k = if sel k then Tbl.get d b k else Tbl.get d a k := by
  unfold takeWhere
  split
  · next hs =>
    rw [Tbl.get_inserts_of_absent, Tbl.get_filter_of _ _ _ _ fun _ => hs]
    intro p hp he
    simp [he, hs] at hp
  · next hs =>
    rw [Tbl.get_inserts_of_unlisted, Tbl.get_filter_of _ _ _ _ fun _ => by simp [hs]]
    intro p hp he
    simp [he, hs] at hp

end

/-! ## A firing (O13) -/

/-- The registers that describe a region and control it; a firing changes none of them. -/
def RgnFixed (off : Nat) : Prop := ∃ r < 32, off = R.CFG_RGN_DESC r ∨ off = R.CFG_RGN_SMASK r ∨ off = R.CFG_RGN_CTRL r

/-- The registers that an exchange of the planes of region `r` changes. -/
def RgnMoved (r off : Nat) : Prop := off = R.CFG_RGN_STAT r ∨ off = R.CFG_RGN_GEN r ∨ off = R.CFG_RGN_COUNT r

section
variable {s t : State}

theorem State.rgnCovers_of (h : ∀ off, RgnFixed off → t.reg off = s.reg off) {r : Nat} (hr : r < 32) (k c w : Nat) :
    t.rgnCovers r k c w = s.rgnCovers r k c w := by
  unfold State.rgnCovers
  dsimp only
  simp only [State.fld_of_reg (h (R.CFG_RGN_DESC r) ⟨r, hr, .inl rfl⟩), State.bit_of_reg (h (R.CFG_RGN_SMASK r) ⟨r, hr, .inr (.inl rfl)⟩)]

theorem find?_range_congr {p q : Nat → Bool} (n : Nat) (h : ∀ r < n, p r = q r) : (List.range n).find? p = (List.range n).find? q := by
  have h' : ∀ l : List Nat, (∀ r ∈ l, p r = q r) → l.find? p = l.find? q := fun l hl => by
    induction l with
    | nil => rfl
    | cons a l ih => rw [List.find?_cons, List.find?_cons, hl a (by simp), ih fun r hr => hl r (by simp [hr])]
  exact h' _ fun r hr => h r (List.mem_range.mp hr)

theorem State.tileRegion_of (h : ∀ off, RgnFixed off → t.reg off = s.reg off) (k c w : Nat) : t.tileRegion k c w = s.tileRegion k c w :=
  find?_range_congr 32 fun _ hr => State.rgnCovers_of h hr k c w

/-- Which region holds a frame follows from the descriptors alone. -/
theorem State.frameRegion_of (h : ∀ off, RgnFixed off → t.reg off = s.reg off) (k : Nat) : t.frameRegion k = s.frameRegion k := by
  unfold State.frameRegion
  rw [State.tileRegion_of h]
  split
  · refine find?_range_congr 32 fun r hr => ?_
    rw [State.fld_of_reg (h (R.CFG_RGN_DESC r) ⟨r, hr, .inl rfl⟩), State.bit_of_reg (h (R.CFG_RGN_SMASK r) ⟨r, hr, .inr (.inl rfl)⟩)]
  · rfl

/-! What the exchange of one region's planes does. -/

theorem State.rg_setRg (s : State) (r q : Nat) (x : Rgn) : (s.setRg r x).rg q = if q = r then x else s.rg q := by
  unfold State.rg State.setRg
  rw [Tbl.get_set]

/-- A firing's work on region `r`: the planes exchange there and nowhere else, and so do the records and generation tags; the
minimum hold begins and the shadow is VERIFIED or ARMED again (R242, R243, R246, R247, R254). -/
structure Fired (s : State) (r : Nat) (t : State) : Prop where
  fixed : ∀ off, RgnFixed off → t.reg off = s.reg off
  other : ∀ q < 32, q ≠ r → t.rg q = s.rg q ∧ ∀ off, RgnMoved q off → t.reg off = s.reg off
  rgn : t.rg r = { minHold := true, keptRel := false, post := s.flag (R.CFG_RGN_CTRL r) F.CFG_RGN_CTRL_POST_HOLD,
                   act := (s.rg r).shd, shd := (s.rg r).act }
  held : t.rgnHeld r = s.rgnHeld r
  shadow : t.shadow r = if s.flag (R.CFG_RGN_CTRL r) F.CFG_RGN_CTRL_AUTO_REARM then 3 else 2
  actGen : t.fld (R.CFG_RGN_GEN r) F.CFG_RGN_GEN_ACT_GEN = s.fld (R.CFG_RGN_GEN r) F.CFG_RGN_GEN_SHD_GEN
  shdGen : t.fld (R.CFG_RGN_GEN r) F.CFG_RGN_GEN_SHD_GEN = s.fld (R.CFG_RGN_GEN r) F.CFG_RGN_GEN_ACT_GEN
  count : t.fld (R.CFG_RGN_COUNT r) F.CFG_RGN_COUNT_FIRINGS =
    (s.fld (R.CFG_RGN_COUNT r) F.CFG_RGN_COUNT_FIRINGS + 1) % 2 ^ F.CFG_RGN_COUNT_FIRINGS.w
  act : ∀ k, t.act.frame k = if s.frameRegion k = some r then s.shd.frame k else s.act.frame k
  shd : ∀ k, t.shd.frame k = if s.frameRegion k = some r then s.act.frame k else s.shd.frame k

/-- The state in which the elements of region `r` have taken what the exchange brings (R243). -/
def State.firedElements (s : State) (r : Nat) : State :=
  (((s.fireProbes r).fireFabric r (s.flag (R.CFG_RGN_CTRL r) F.CFG_RGN_CTRL_MODE)).fireFfs r
    (s.flag (R.CFG_RGN_CTRL r) F.CFG_RGN_CTRL_MODE)).fireClocks r

theorem State.firedElements_only (s : State) (r : Nat) : Only [.csr, .fab, .clk] s (s.firedElements r) :=
  ((((Only.refl _ s).fireProbes _).fireFabric _ _).fireFfs _ _).fireClocks _

theorem State.firedElements_regs (s : State) (r : Nat) : Regs (fun off => off / 0x10000 ≠ 2) s (s.firedElements r) := by
  refine ((((Regs.refl _ s).fireProbes _ fun i => ?_).fireFabric _ _).fireFfs _ _).fireClocks _ ?_
  all_goals simp only [R.FAB_PRB_STAT, R.CLK_FPLL_LOCK]; omega

/-- The registers of region `r` and its map codes after the exchange, from those of the state `s` before it. -/
def State.firedRegs (t s : State) (r : Nat) : State :=
  ((((((t.setFld (R.CFG_RGN_GEN r) F.CFG_RGN_GEN_ACT_GEN (s.fld (R.CFG_RGN_GEN r) F.CFG_RGN_GEN_SHD_GEN)).setFld (R.CFG_RGN_GEN r)
    F.CFG_RGN_GEN_SHD_GEN (s.fld (R.CFG_RGN_GEN r) F.CFG_RGN_GEN_ACT_GEN)).setFld (R.SCR_RGN_MAP r) F.SCR_RGN_MAP_ACT_MAP
    (s.fld (R.SCR_RGN_MAP r) F.SCR_RGN_MAP_SHD_MAP)).setFld (R.SCR_RGN_MAP r) F.SCR_RGN_MAP_SHD_MAP
    (s.fld (R.SCR_RGN_MAP r) F.SCR_RGN_MAP_ACT_MAP)).setShadow r
    (if s.flag (R.CFG_RGN_CTRL r) F.CFG_RGN_CTRL_AUTO_REARM then 3 else 2)).countWrap (R.CFG_RGN_COUNT r) F.CFG_RGN_COUNT_FIRINGS 1)

/-- The record of region `r` after its firing. -/
def State.firedRgn (s : State) (r : Nat) : Rgn :=
  { minHold := true, keptRel := false, post := s.flag (R.CFG_RGN_CTRL r) F.CFG_RGN_CTRL_POST_HOLD, act := (s.rg r).shd, shd := (s.rg r).act }

theorem State.fireRegion_eq (s : State) (r : Nat) :
    s.fireRegion r = ((((s.firedElements r).swapPlanes r).setRg r (s.firedRgn r)).firedRegs s r).scrubForget r := rfl

theorem State.firedRegs_only (t s : State) (r : Nat) : Only [.csr] t (t.firedRegs s r) :=
  (((((((Only.refl _ t).setFld _ _ _).setFld _ _ _).setFld _ _ _).setFld _ _ _).setShadow _ _).countWrap _ _ _)

theorem State.firedRegs_regs (t s : State) (r : Nat) : Regs (fun off => RgnMoved r off ∨ off = R.SCR_RGN_MAP r) t (t.firedRegs s r) :=
  (((((((Regs.refl _ t).setFld _ _ (by simp [RgnMoved])).setFld _ _ (by simp [RgnMoved])).setFld _ _ (by simp)).setFld _ _ (by simp)).setShadow _ _
    (by simp [RgnMoved])).countWrap _ _ _ (by simp [RgnMoved]))

theorem State.scrubForget_regs (t : State) (r : Nat) : Regs (fun off => off / 0x10000 ≠ 2) t (t.scrubForget r) :=
  (Regs.refl _ t).scrubForget r (by decide) (by decide)

theorem rgnFixed_window {off : Nat} (h : RgnFixed off) : off / 0x10000 = 2 := by
  obtain ⟨r, hr, h⟩ := h
  simp only [R.CFG_RGN_DESC, R.CFG_RGN_SMASK, R.CFG_RGN_CTRL] at h
  omega

theorem rgnMoved_window {r off : Nat} (hr : r < 32) (h : RgnMoved r off) : off / 0x10000 = 2 := by
  simp only [RgnMoved, R.CFG_RGN_STAT, R.CFG_RGN_GEN, R.CFG_RGN_COUNT] at h
  omega

theorem rgnMoved_of_fixed {r off : Nat} (h : RgnFixed off) : ¬ (RgnMoved r off ∨ off = R.SCR_RGN_MAP r) := by
  obtain ⟨q, hq, h⟩ := h
  simp only [RgnMoved, R.CFG_RGN_DESC, R.CFG_RGN_SMASK, R.CFG_RGN_CTRL, R.CFG_RGN_STAT, R.CFG_RGN_GEN, R.CFG_RGN_COUNT, R.SCR_RGN_MAP] at h ⊢
  omega

theorem rgnMoved_apart {q r off : Nat} (hq : q < 32) (hne : q ≠ r) (h : RgnMoved q off) : ¬ (RgnMoved r off ∨ off = R.SCR_RGN_MAP r) := by
  simp only [RgnMoved, R.CFG_RGN_STAT, R.CFG_RGN_GEN, R.CFG_RGN_COUNT, R.SCR_RGN_MAP] at h ⊢
  omega

/-- A register of the boot block that the exchange of region `r` does not name keeps its value. -/
theorem State.fireRegion_reg (s : State) (r : Nat) {off : Nat} (hw : off / 0x10000 = 2) (h : ¬ (RgnMoved r off ∨ off = R.SCR_RGN_MAP r)) :
    (s.fireRegion r).reg off = s.reg off :=
  ((State.scrubForget_regs _ r) off (not_not_intro hw)).trans (((State.firedRegs_regs _ s r) off h).trans
    ((s.firedElements_regs r) off (not_not_intro hw)))

theorem State.fireRegion_reg_self (s : State) (r : Nat) {off : Nat} (hw : off / 0x10000 = 2) : (s.fireRegion r).reg off =
    (((((s.firedElements r).swapPlanes r).setRg r (s.firedRgn r)).firedRegs s r).reg off) :=
  (State.scrubForget_regs _ r) off (not_not_intro hw)

theorem Plane.frame_planeTake (s : State) (r : Nat) (a b : Plane) (k : Nat) :
    (s.planeTake r a b).frame k = if s.frameRegion k = some r then b.frame k else a.frame k := by
  unfold Plane.frame State.planeTake
  rw [get_takeWhere]
  simp only [beq_iff_eq]

section
variable (t s : State) (r : Nat)

theorem rgnRegs_apart : R.CFG_RGN_STAT r ≠ R.CFG_RGN_COUNT r ∧ R.CFG_RGN_STAT r ≠ R.CFG_RGN_GEN r ∧ R.CFG_RGN_GEN r ≠ R.CFG_RGN_STAT r ∧
    R.CFG_RGN_GEN r ≠ R.CFG_RGN_COUNT r ∧ R.CFG_RGN_COUNT r ≠ R.CFG_RGN_STAT r ∧ R.CFG_RGN_COUNT r ≠ R.CFG_RGN_GEN r := by
  simp only [R.CFG_RGN_STAT, R.CFG_RGN_COUNT, R.CFG_RGN_GEN]
  omega

theorem rgnRegs_map : R.CFG_RGN_STAT r ≠ R.SCR_RGN_MAP r ∧ R.CFG_RGN_GEN r ≠ R.SCR_RGN_MAP r ∧ R.CFG_RGN_COUNT r ≠ R.SCR_RGN_MAP r ∨ 32 ≤ r := by
  simp only [R.CFG_RGN_STAT, R.CFG_RGN_COUNT, R.CFG_RGN_GEN, R.SCR_RGN_MAP]
  omega

variable {r} (hr : r < 32)
include hr

theorem State.firedRegs_stat : (t.firedRegs s r).reg (R.CFG_RGN_STAT r) =
    (t.setShadow r (if s.flag (R.CFG_RGN_CTRL r) F.CFG_RGN_CTRL_AUTO_REARM then 3 else 2)).reg (R.CFG_RGN_STAT r) := by
  obtain ⟨h1, h2, -⟩ := rgnRegs_apart r
  obtain ⟨h3, -⟩ := (rgnRegs_map r).resolve_right (by omega)
  simp [State.firedRegs, State.countWrap, State.setShadow, State.setFld, State.reg_setReg, h1, h2, h3]

theorem State.firedRegs_held : (t.firedRegs s r).flag (R.CFG_RGN_STAT r) F.CFG_RGN_STAT_HELD =
    t.flag (R.CFG_RGN_STAT r) F.CFG_RGN_STAT_HELD := by
  rw [State.flag_of_reg (State.firedRegs_stat t s hr), State.flag, State.setShadow, State.fld_setFld_fld _ _ _ _ _ (by decide)]
  rfl

theorem State.firedRegs_shadow : (t.firedRegs s r).fld (R.CFG_RGN_STAT r) F.CFG_RGN_STAT_SHADOW =
    if s.flag (R.CFG_RGN_CTRL r) F.CFG_RGN_CTRL_AUTO_REARM then 3 else 2 := by
  rw [State.fld_of_reg (State.firedRegs_stat t s hr), State.setShadow, State.fld_setFld _ _ _ _ (by decide)]
  split <;> rfl

theorem State.firedRegs_gen :
    (t.firedRegs s r).fld (R.CFG_RGN_GEN r) F.CFG_RGN_GEN_ACT_GEN = s.fld (R.CFG_RGN_GEN r) F.CFG_RGN_GEN_SHD_GEN ∧
    (t.firedRegs s r).fld (R.CFG_RGN_GEN r) F.CFG_RGN_GEN_SHD_GEN = s.fld (R.CFG_RGN_GEN r) F.CFG_RGN_GEN_ACT_GEN := by
  obtain ⟨-, -, h1, h2, -⟩ := rgnRegs_apart r
  obtain ⟨-, h3, -⟩ := (rgnRegs_map r).resolve_right (by omega)
  have hlt : ∀ f : Fld, s.fld (R.CFG_RGN_GEN r) f < 2 ^ f.w := fun f => Nat.mod_lt _ (Nat.two_pow_pos _)
  have hreg : (t.firedRegs s r).reg (R.CFG_RGN_GEN r) = ((t.setFld (R.CFG_RGN_GEN r) F.CFG_RGN_GEN_ACT_GEN
      (s.fld (R.CFG_RGN_GEN r) F.CFG_RGN_GEN_SHD_GEN)).setFld (R.CFG_RGN_GEN r) F.CFG_RGN_GEN_SHD_GEN
      (s.fld (R.CFG_RGN_GEN r) F.CFG_RGN_GEN_ACT_GEN)).reg (R.CFG_RGN_GEN r) := by
    simp [State.firedRegs, State.countWrap, State.setShadow, h1, h2, h3]
  rw [State.fld_of_reg hreg, State.fld_of_reg hreg, State.fld_setFld_fld _ _ _ _ _ (by decide), State.fld_setFld _ _ _ _ (by decide),
    State.fld_setFld _ _ _ _ (by decide)]
  exact ⟨Nat.mod_eq_of_lt (hlt F.CFG_RGN_GEN_SHD_GEN), Nat.mod_eq_of_lt (hlt F.CFG_RGN_GEN_ACT_GEN)⟩

theorem State.firedRegs_count : (t.firedRegs s r).fld (R.CFG_RGN_COUNT r) F.CFG_RGN_COUNT_FIRINGS =
    (t.fld (R.CFG_RGN_COUNT r) F.CFG_RGN_COUNT_FIRINGS + 1) % 2 ^ F.CFG_RGN_COUNT_FIRINGS.w := by
  obtain ⟨-, -, -, -, h1, h2⟩ := rgnRegs_apart r
  obtain ⟨-, -, h3⟩ := (rgnRegs_map r).resolve_right (by omega)
  unfold State.firedRegs State.countWrap
  rw [State.fld_setFld _ _ _ _ (by decide)]
  simp [State.setShadow, h1, h2, h3]

end

theorem State.fireRegion_fired (s : State) {r : Nat} (hr : r < 32) : Fired s r (s.fireRegion r) := by
  have he := s.firedElements_only r
  have hdesc : ∀ off, RgnFixed off → (s.firedElements r).reg off = s.reg off := fun off h =>
    (s.firedElements_regs r) off (not_not_intro (rgnFixed_window h))
  have htail : Only [.csr, .scrub] (((s.firedElements r).swapPlanes r).setRg r (s.firedRgn r)) (s.fireRegion r) :=
    ((State.firedRegs_only _ s r).mono (by simp)).scrubForget r
  have hw : ∀ off, RgnMoved r off → off / 0x10000 = 2 := fun _ h => rgnMoved_window hr h
  have hgen := s.fireRegion_reg_self r (hw _ (.inr (.inl rfl)))
  have hstat := s.fireRegion_reg_self r (hw _ (.inl rfl))
  have hcount := s.fireRegion_reg_self r (hw _ (.inr (.inr rfl)))
  have hkeep : ∀ off, RgnMoved r off → (s.firedElements r).reg off = s.reg off := fun off h =>
    (s.firedElements_regs r) off (not_not_intro (hw off h))
  refine { fixed := ?_, other := ?_, rgn := ?_, held := ?_, shadow := ?_, actGen := ?_, shdGen := ?_, count := ?_, act := ?_, shd := ?_ }
  · exact fun off h => s.fireRegion_reg r (rgnFixed_window h) (rgnMoved_of_fixed h)
  · refine fun q hq hne => ⟨?_, fun off h => s.fireRegion_reg r (rgnMoved_window hq h) (rgnMoved_apart hq hne h)⟩
    rw [State.rg, htail.same .rgn]
    refine (State.rg_setRg _ _ _ _).trans ?_
    rw [if_neg hne]
    exact congrArg (fun x => Tbl.get (fun _ => Rgn.empty) x q) (he.same .rgn)
  · rw [State.rg, htail.same .rgn]
    refine (State.rg_setRg _ _ _ _).trans ?_
    rw [if_pos rfl]
    rfl
  · rw [State.rgnHeld, State.flag_of_reg hstat, State.firedRegs_held _ _ hr]
    exact State.flag_of_reg (hkeep _ (.inl rfl)) _
  · rw [State.shadow, State.fld_of_reg hstat, State.firedRegs_shadow _ _ hr]
  · rw [State.fld_of_reg hgen, (State.firedRegs_gen _ s hr).1]
  · rw [State.fld_of_reg hgen, (State.firedRegs_gen _ s hr).2]
  · rw [State.fld_of_reg hcount, State.firedRegs_count _ _ hr, ← State.fld_of_reg (hkeep _ (.inr (.inr rfl)))]
    rfl
  · intro k
    rw [htail.same .act]
    refine (Plane.frame_planeTake _ r _ _ k).trans ?_
    rw [State.frameRegion_of hdesc, he.same .act, he.same .shd]
  · intro k
    rw [htail.same .shd]
    refine (Plane.frame_planeTake _ r _ _ k).trans ?_
    rw [State.frameRegion_of hdesc, he.same .act, he.same .shd]

end
end Sys2Proof.Machine
end

section
/-! ## The edge on which regions fire -/

namespace Sys2Proof.Machine

-- Elaborated in order: side by side, so many short proofs would each hold a thread with its stack.
set_option Elab.async false

open Sys2Proof

/-- A firing's work on the regions of a list. -/
structure FiredAll (s : State) (l : List Nat) (t : State) : Prop where
  fixed : ∀ off, RgnFixed off → t.reg off = s.reg off
  other : ∀ q < 32, q ∉ l → t.rg q = s.rg q ∧ ∀ off, RgnMoved q off → t.reg off = s.reg off
  rgn : ∀ r ∈ l, t.rg r = { minHold := true, keptRel := false, post := s.flag (R.CFG_RGN_CTRL r) F.CFG_RGN_CTRL_POST_HOLD,
                            act := (s.rg r).shd, shd := (s.rg r).act }
  held : ∀ r ∈ l, t.rgnHeld r = s.rgnHeld r
  shadow : ∀ r ∈ l, t.shadow r = if s.flag (R.CFG_RGN_CTRL r) F.CFG_RGN_CTRL_AUTO_REARM then 3 else 2
  gens : ∀ r ∈ l, t.fld (R.CFG_RGN_GEN r) F.CFG_RGN_GEN_ACT_GEN = s.fld (R.CFG_RGN_GEN r) F.CFG_RGN_GEN_SHD_GEN ∧
    t.fld (R.CFG_RGN_GEN r) F.CFG_RGN_GEN_SHD_GEN = s.fld (R.CFG_RGN_GEN r) F.CFG_RGN_GEN_ACT_GEN
  count : ∀ r ∈ l, t.fld (R.CFG_RGN_COUNT r) F.CFG_RGN_COUNT_FIRINGS =
    (s.fld (R.CFG_RGN_COUNT r) F.CFG_RGN_COUNT_FIRINGS + 1) % 2 ^ F.CFG_RGN_COUNT_FIRINGS.w
  planes : ∀ k, (∀ r, s.frameRegion k = some r → r ∈ l → t.act.frame k = s.shd.frame k ∧ t.shd.frame k = s.act.frame k) ∧
    ((∀ r ∈ l, s.frameRegion k ≠ some r) → t.act.frame k = s.act.frame k ∧ t.shd.frame k = s.shd.frame k)

theorem FiredAll.nil (s : State) : FiredAll s [] s :=
  ⟨fun _ _ => rfl, fun _ _ _ => ⟨rfl, fun _ _ => rfl⟩, nofun, nofun, nofun, nofun, nofun, fun _ => ⟨nofun, fun _ => ⟨rfl, rfl⟩⟩⟩

theorem FiredAll.cons {s t u : State} {r : Nat} {l : List Nat} (hr : r < 32) (hl : ∀ q ∈ l, q < 32) (hn : r ∉ l) (h : Fired s r t)
    (k : FiredAll t l u) : FiredAll s (r :: l) u := by
  have hctrl : ∀ q < 32, t.reg (R.CFG_RGN_CTRL q) = s.reg (R.CFG_RGN_CTRL q) := fun q hq => h.fixed _ ⟨q, hq, .inr (.inr rfl)⟩
  have hne : ∀ q ∈ l, q ≠ r := fun q hq he => hn (he ▸ hq)
  have hkeep := k.other r hr hn
  have hstat : u.reg (R.CFG_RGN_STAT r) = t.reg (R.CFG_RGN_STAT r) := hkeep.2 _ (.inl rfl)
  have hgen : u.reg (R.CFG_RGN_GEN r) = t.reg (R.CFG_RGN_GEN r) := hkeep.2 _ (.inr (.inl rfl))
  have hcount : u.reg (R.CFG_RGN_COUNT r) = t.reg (R.CFG_RGN_COUNT r) := hkeep.2 _ (.inr (.inr rfl))
  have hrest : ∀ q ∈ l, t.rg q = s.rg q ∧ ∀ off, RgnMoved q off → t.reg off = s.reg off := fun q hq => h.other q (hl q hq) (hne q hq)
  refine ⟨fun off ho => (k.fixed off ho).trans (h.fixed off ho), fun q hq hm => ?_, fun q hq => ?_, fun q hq => ?_, fun q hq => ?_,
    fun q hq => ?_, fun q hq => ?_, fun j => ⟨fun q hj hq => ?_, fun hj => ?_⟩⟩
  · obtain ⟨h1, h2⟩ := not_or.mp (mt List.mem_cons.mpr hm)
    obtain ⟨g1, g2⟩ := k.other q hq h2
    obtain ⟨f1, f2⟩ := h.other q hq h1
    exact ⟨g1.trans f1, fun off ho => (g2 off ho).trans (f2 off ho)⟩
  · rcases List.mem_cons.mp hq with rfl | hq
    · rw [hkeep.1, h.rgn]
    · rw [k.rgn q hq, (hrest q hq).1, State.flag_of_reg (hctrl q (hl q hq))]
  · rcases List.mem_cons.mp hq with rfl | hq
    · exact (State.flag_of_reg hstat _).trans h.held
    · exact (k.held q hq).trans (State.flag_of_reg ((hrest q hq).2 _ (.inl rfl)) _)
  · rcases List.mem_cons.mp hq with rfl | hq
    · exact (State.fld_of_reg hstat _).trans h.shadow
    · rw [k.shadow q hq, State.flag_of_reg (hctrl q (hl q hq))]
  · rcases List.mem_cons.mp hq with rfl | hq
    · exact ⟨(State.fld_of_reg hgen _).trans h.actGen, (State.fld_of_reg hgen _).trans h.shdGen⟩
    · have hg := State.fld_of_reg ((hrest q hq).2 _ (.inr (.inl rfl)))
      rw [(k.gens q hq).1, (k.gens q hq).2, hg, hg]
      exact ⟨rfl, rfl⟩
  · rcases List.mem_cons.mp hq with rfl | hq
    · exact (State.fld_of_reg hcount _).trans h.count
    · rw [k.count q hq, State.fld_of_reg ((hrest q hq).2 _ (.inr (.inr rfl)))]
  · have hfr : t.frameRegion j = some q := (State.frameRegion_of h.fixed j).trans hj
    rcases List.mem_cons.mp hq with rfl | hq
    · obtain ⟨g1, g2⟩ := (k.planes j).2 fun p hp he => hne p hp (Option.some.inj (he.symm.trans hfr))
      rw [g1, g2, h.act, h.shd, if_pos hj, if_pos hj]
      exact ⟨rfl, rfl⟩
    · obtain ⟨g1, g2⟩ := (k.planes j).1 q hfr hq
      have hn' : ¬ s.frameRegion j = some r := fun he => hne q hq (Option.some.inj (hj.symm.trans he))
      rw [g1, g2, h.act, h.shd, if_neg hn', if_neg hn']
      exact ⟨rfl, rfl⟩
  · obtain ⟨g1, g2⟩ := (k.planes j).2 fun p hp => by
      rw [State.frameRegion_of h.fixed]
      exact hj p (by simp [hp])
    rw [g1, g2, h.act, h.shd, if_neg (hj r (by simp)), if_neg (hj r (by simp))]
    exact ⟨rfl, rfl⟩

theorem State.firedAll (s : State) (l : List Nat) (hl : ∀ r ∈ l, r < 32) (hn : l.Nodup) :
    FiredAll s l (s.forEach l fun t r => t.fireRegion r) := by
  induction l generalizing s with
  | nil => exact .nil s
  | cons r l ih =>
    obtain ⟨h1, h2⟩ := List.nodup_cons.mp hn
    exact .cons (hl r (by simp)) (fun q hq => hl q (by simp [hq])) h1 (s.fireRegion_fired (hl r (by simp)))
      (ih _ (fun q hq => hl q (by simp [hq])) h2)

/-! The blocks bound to a region that fires. -/

theorem State.mem_touched {s : State} {lo hi off : Nat} (h : off ∈ s.touched lo hi) : lo ≤ off ∧ off < hi := by
  unfold State.touched at h
  simpa using (List.mem_filter.mp (List.mem_eraseDups.mp h)).2

section
variable {s t : State}

/-- Registers outside the configuration block's window. -/
def OffCfg (off : Nat) : Prop := off / 0x10000 ≠ 2

/-! The steps of a quad's settings, as `quadSet` takes them: the LC PLL, and of each lane the rate, the equaliser and the mode. -/

/-- The settings of the LC PLL, or LC_REJ. -/
def State.quadLc (t : State) (q : Nat) (f : State → Nat → State) : State :=
  if t.lcValid q (t.staged (R.LQ_LCPLL q)) (t.staged (R.LQ_LCFRAC q)) then f (f (f t (R.LQ_CTRL q)) (R.LQ_LCPLL q)) (R.LQ_LCFRAC q)
  else t.lqEvent q 3 0x14 0

/-- A lane's rate and ring PLL, or RATE_REJ. -/
def State.laneRate (t : State) (q n : Nat) (f : State → Nat → State) : State :=
  if t.rateValid q (t.staged (R.LN_RATE n)) (t.staged (R.LN_RPLL n)) (t.staged (R.LN_RFRAC n)) (t.reg (R.LQ_LCPLL q))
    (t.reg (R.LQ_LCFRAC q)) (t.flag (R.LQ_CTRL q) F.LQ_CTRL_LC_EN) then f (f (f t (R.LN_RATE n)) (R.LN_RPLL n)) (R.LN_RFRAC n)
  else t.lnEvent n 6 0x05 0

/-- A lane's transmit equaliser, or FFE_REJ. -/
def State.laneFfe (t : State) (n : Nat) (f : State → Nat → State) : State :=
  if ffeValid (t.staged (R.LN_TX_FFE n)) then f t (R.LN_TX_FFE n) else t.lnEvent n 7 0x06 0

/-- A lane's coding mode, or PCS_REJ. -/
def State.laneMode (t : State) (q n : Nat) (f : State → Nat → State) : State :=
  if modeValid (t.staged (R.PCS_LN_MODE n)) (t.reg (R.LN_RATE n)) (t.symHz q (t.reg (R.LN_RATE n)) (t.reg (R.LN_RPLL n))
    (t.reg (R.LN_RFRAC n)) (t.reg (R.LQ_LCPLL q)) (t.reg (R.LQ_LCFRAC q))) then f t (R.PCS_LN_MODE n)
  else (t.setFlag (R.PCS_LN_STAT n) F.PCS_LN_STAT_PCS_REJ true).pcsRecord n 0x24 0

/-- The settings of one lane. -/
def State.laneSet (t : State) (q n : Nat) (f : State → Nat → State) : State :=
  (f ((t.laneRate q n f).laneFfe n f) (R.LN_RX_EQ n)).laneMode q n f

theorem State.quadSet_eq (s : State) (q : Nat) (f : State → Nat → State) :
    s.quadSet q f = (s.quadLc q f).forEach ((List.range 4).map fun l => 4 * q + l) fun t n => t.laneSet q n f := rfl

/-- The settings of a quad and its lanes. -/
def quadSettings (q : Nat) : List Nat := [R.LQ_CTRL q, R.LQ_LCPLL q, R.LQ_LCFRAC q]

def laneSettings (n : Nat) : List Nat := [R.LN_RATE n, R.LN_RPLL n, R.LN_RFRAC n, R.LN_TX_FFE n, R.LN_RX_EQ n, R.PCS_LN_MODE n]

section
variable {P : Nat → Prop} {f : State → Nat → State} (h : Regs P s t)
include h

theorem Regs.quadLc (q : Nat) (hf : ∀ u, ∀ off ∈ quadSettings q, Regs P s u → Regs P s (f u off)) (p1 : P (R.LQ_INT_STAT q))
    (p2 : 336 + q < 1024) (p3 : ∀ off, off / 65536 = 5 → P off) : Regs P s (t.quadLc q f) :=
  .ite (hf _ _ (by simp [quadSettings]) (hf _ _ (by simp [quadSettings]) (hf _ _ (by simp [quadSettings]) h)))
    (h.lqEvent _ _ _ _ p1 p2 p3)

theorem Regs.laneSet (q n : Nat) (hf : ∀ u, ∀ off ∈ laneSettings n, Regs P s u → Regs P s (f u off)) (p1 : P (R.LN_INT_STAT n))
    (p2 : P (R.PCS_LN_STAT n)) (p3 : 192 + n < 1024) (p4 : ∀ off, off / 65536 = 5 → P off) : Regs P s (t.laneSet q n f) := by
  have h1 : Regs P s (t.laneRate q n f) :=
    .ite (hf _ _ (by simp [laneSettings]) (hf _ _ (by simp [laneSettings]) (hf _ _ (by simp [laneSettings]) h)))
      (h.lnEvent _ _ _ _ p1 p3 p4)
  have h2 : Regs P s ((t.laneRate q n f).laneFfe n f) := .ite (hf _ _ (by simp [laneSettings]) h1) (h1.lnEvent _ _ _ _ p1 p3 p4)
  have h3 := hf _ (R.LN_RX_EQ n) (by simp [laneSettings]) h2
  exact .ite (hf _ _ (by simp [laneSettings]) h3) ((h3.setFlag _ _ p2).pcsRecord _ _ _ p3 p4)

end

theorem quadSettings_window {q off : Nat} (h : off ∈ quadSettings q) : off / 0x10000 = 0x100 + q ∧ off % 0x10000 < 0xA000 := by
  simp only [quadSettings, List.mem_cons, List.not_mem_nil, or_false, R.LQ_CTRL, R.LQ_LCPLL, R.LQ_LCFRAC] at h
  omega

theorem laneSettings_window {n off : Nat} (h : off ∈ laneSettings n) : off / 0x10000 = 0x100 + n / 4 ∧ off % 0x10000 < 0xA000 := by
  simp only [laneSettings, List.mem_cons, List.not_mem_nil, or_false, R.LN_RATE, R.LN_RPLL, R.LN_RFRAC, R.LN_TX_FFE, R.LN_RX_EQ,
    R.PCS_LN_MODE] at h
  omega

theorem mem_lanesOf {q n : Nat} (h : n ∈ (List.range 4).map fun l => 4 * q + l) : n / 4 = q := by
  obtain ⟨l, hl, rfl⟩ := List.mem_map.mp h
  have := List.mem_range.mp hl
  omega

/-- The registers of a block that a binding names: those of a quad and its lanes, of a group, of a network interface, of a sector. -/
def Owns (b : Bound) (off : Nat) : Prop :=
  match b with
  | .quad q => off / 0x10000 = 0x100 + q ∧ off % 0x10000 < 0xA000
  | .group g => off / 0x10000 = 0x100 + g ∧ 0xA000 ≤ off % 0x10000
  | .ni e => off / 0x1000 = 0x500 + e
  | .probe k => off / 0x10000 = 0x300 + k

theorem owns_quadSettings {q : Fin 36} {off : Nat} (h : off ∈ quadSettings q) : Owns (.quad q) off := quadSettings_window h

theorem owns_laneSettings {q : Fin 36} {n off : Nat} (hn : n / 4 = q) (h : off ∈ laneSettings n) : Owns (.quad q) off := by
  have := laneSettings_window h
  rwa [hn] at this

theorem owns_probe {k : Fin 32} {s : State} {off : Nat} (h : off ∈ probeRegs k ++ s.touched (0x3000000 + 0x10000 * k + 0x200)
    (0x3000000 + 0x10000 * k + 0x300) ++ s.touched (0x3000000 + 0x10000 * k + 0x8000) (0x3000000 + 0x10000 * k + 0xD000)) :
    Owns (.probe k) off := by
  simp only [Owns]
  rcases List.mem_append.mp h with h | h
  · rcases List.mem_append.mp h with h | h
    · simp only [probeRegs, List.mem_cons, List.not_mem_nil, or_false, R.FAB_PRB_CTRL, R.FAB_PRB_CAP, R.FAB_PRB_MASK_LO,
        R.FAB_PRB_MASK_HI, R.FAB_PRB_VAL_LO, R.FAB_PRB_VAL_HI] at h
      omega
    · have := State.mem_touched h
      omega
  · have := State.mem_touched h
    omega

theorem owns_tables {e : Fin 256} {s : State} {off : Nat} (h : off ∈ s.touched (0x500000 + 0x1000 * e + 0x800) (0x500000 + 0x1000 * e + 0x1000)) :
    Owns (.ni e) off := by
  have := State.mem_touched h
  simp only [Owns]
  omega

section
variable {P : Nat → Prop} (h : Regs P s t)
include h

/-- A bound block exchanges registers of its own, and reports what it refuses. -/
theorem Regs.fireBound (b : Bound) (hb : ∀ off, Owns b off → P off) (hc : ∀ off, off / 65536 = 5 → P off) : Regs P s (t.fireBound b) := by
  cases b with
  | quad q =>
    have hq := q.2
    have hlc : Regs P s (t.quadLc q State.exchangeReg) := by
      refine h.quadLc q (fun u off ho hu => hu.exchangeReg off (hb off (owns_quadSettings ho))) (hb _ ?_) (by omega) hc
      simp only [Owns, R.LQ_INT_STAT]
      omega
    refine Regs.with_cross ?_ (t.cross ++ [.quad q])
    rw [State.quadSet_eq]
    refine Regs.foldl_mem hlc _ fun u n hn hu => ?_
    have hn' := mem_lanesOf hn
    refine hu.laneSet q n (fun v off ho hv => hv.exchangeReg off (hb off (owns_laneSettings hn' ho))) (hb _ ?_) (hb _ ?_) (by omega) hc
    all_goals
      simp only [Owns, R.LN_INT_STAT, R.PCS_LN_STAT]
      omega
  | group g =>
    have hg := g.2
    have hset : Regs P s (t.grpSet g State.exchangeReg) := by
      unfold State.grpSet
      dsimp only
      refine .ite ((h.grpEvent _ _ (hb _ ?_)).grpRecord _ _ _ _ (by omega) hc) ((h.exchangeReg _ (hb _ ?_)).exchangeReg _ (hb _ ?_))
      all_goals simp only [Owns, R.PCS_GRP_INT_STAT, R.PCS_GRP_CTRL, R.PCS_GRP_CFG]; omega
    refine Regs.with_cross (.ite (hset.grpFault _ _ _ (hb _ ?_) (hb _ ?_) (by omega) hc (hb _ ?_)) hset) (t.cross ++ [.group g])
    all_goals simp only [Owns, R.PCS_GRP_STAT, R.PCS_GRP_FAULTS, R.PCS_GRP_INT_STAT]; omega
  | ni e => exact Regs.with_cross (Regs.foldl_mem h _ fun u off ho hu => hu.exchangeReg off (hb off (owns_tables ho))) _
  | probe k =>
    have hst : P (R.FAB_PRB_STAT k) := hb _ (by simp only [Owns, R.FAB_PRB_STAT]; omega)
    exact (Regs.countWrap (Regs.foldl_mem ((h.prbAbort _ hst).when _ fun _ h1 => h1.setProbe _ _) _ fun u off ho hu =>
      hu.exchangeReg off (hb off (owns_probe ho))) _ _ _ hst).settlePins

end

theorem owns_offCfg {b : Bound} {off : Nat} (h : Owns b off) : OffCfg off := by
  cases b <;> simp only [Owns] at h <;> simp only [OffCfg] <;> omega

theorem Regs.fireBound_offCfg (h : Regs OffCfg s t) (b : Bound) : Regs OffCfg s (t.fireBound b) :=
  h.fireBound b (fun _ => owns_offCfg) fun off ho => by
    simp only [OffCfg]
    omega

end
end Sys2Proof.Machine
end

section
/-! ### The firing edge (O13) -/

namespace Sys2Proof.Machine

-- Elaborated in order: side by side, so many short proofs would each hold a thread with its stack.
set_option Elab.async false

open Sys2Proof

/-- The registers that a firing reads of its regions. -/
def RgnRead (off : Nat) : Prop := RgnFixed off ∨ ∃ r < 32, off = R.CFG_RGN_GEN r ∨ off = R.CFG_RGN_COUNT r

/-- The regions that a request of this edge names. -/
def State.askedRegions (s : State) : List Nat := (List.range 32).filter fun r => s.gate.reqs.any fun q => q.regions.contains r

/-- The regions that fire at this edge. -/
def State.firedRegions (s : State) : List Nat :=
  s.askedRegions.filter fun r => (reqsFor s.gate.reqs r).any fun q => s.verdict q r == .accept

/-- The edge's refusals and what the Skemer engines take from it. -/
def State.judged (s : State) : State :=
  s.gate.reqs.foldl (fun t q => t.skmFired s.firedRegions q)
    (({ s with gate := { s.gate with reqs := [] } }).forEach s.askedRegions fun t r => t.fireRefuse s s.gate.reqs r)

/-- The blocks bound to a region that fires. -/
def State.firedBounds (s : State) : List Bound := allBounds.filter fun b => s.firedRegions.any fun r => s.isBound r b

/-- The regions that fire are held. -/
def State.toFire (s : State) : State := s.judged.holdAll s.firedRegions

/-- Their planes are exchanged. -/
def State.exchanged (s : State) : State := s.toFire.forEach s.firedRegions fun t r => t.fireRegion r

/-- The blocks bound to the regions have exchanged too. -/
def State.boundFired (s : State) : State := (s.exchanged.forEach s.firedBounds fun t b => t.fireBound b).dropStarts

/-- The counters of the edge (R253, R258). -/
def State.fireCounted (t s : State) : State :=
  let t4 := t.forEach ((List.range 32).filter fun k => s.firedRegions.any fun r => s.swapsIn r k) fun t k =>
    t.countWrap (R.FAB_PLANE_FIRES k) F.FAB_PLANE_FIRES_COUNT 1
  (t4.countWrap R.CFG_FIRE_LAST F.CFG_FIRE_LAST_SEQ 1).setFld R.CFG_FIRE_LAST F.CFG_FIRE_LAST_SRC
    (srcBits (s.gate.reqs.filter fun q => q.regions.any fun r => s.firedRegions.contains r && s.verdict q r == .accept))

/-- The edge is over: the mask and the time of the firing show. -/
def State.fireDone (s : State) : State :=
  ((s.boundFired.fireCounted s).setReg R.CFG_FIRE_LAST_MASK (NSet.bits s.firedRegions 0)).fireTime

theorem execFiring_eq (s : State) : execFiring s = .next (if s.firedRegions.isEmpty then s.judged else s.fireDone) := rfl

section
variable (s : State)

theorem State.mem_firedRegions {r : Nat} : r ∈ s.firedRegions ↔ FiresNow s r := by
  unfold State.firedRegions State.askedRegions FiresNow reqsFor
  simp only [List.mem_filter, List.mem_range, List.any_eq_true, List.contains_iff_mem, beq_iff_eq, and_assoc]
  constructor
  · rintro ⟨hr, -, q, hq, hm, hv⟩
    exact ⟨hr, q, hq, hm, hv⟩
  · rintro ⟨hr, q, hq, hm, hv⟩
    exact ⟨hr, ⟨q, hq, hm⟩, q, hq, hm, hv⟩

theorem State.firedRegions_sorted : s.firedRegions.Pairwise (· < ·) :=
  (List.pairwise_lt_range.filter _).filter _

theorem State.firedRegions_lt {r : Nat} (h : r ∈ s.firedRegions) : r < 32 := (s.mem_firedRegions.mp h).1

theorem rgnRead_apart {off : Nat} (h : RgnRead off) : off / 0x10000 = 2 ∧ (∀ i, off ≠ R.CFG_RGN_STAT i) := by
  simp only [RgnRead, RgnFixed, R.CFG_RGN_DESC, R.CFG_RGN_SMASK, R.CFG_RGN_CTRL, R.CFG_RGN_GEN, R.CFG_RGN_COUNT, R.CFG_RGN_STAT] at h ⊢
  rcases h with ⟨r, hr, h⟩ | ⟨r, hr, h⟩ <;> exact ⟨by omega, fun i => by omega⟩

/-- Registers that the edge's refusals and the holds leave to the firing. -/
theorem State.judged_regs : Regs (fun off => off / 0x10000 ≠ 2 ∨ ∃ i, off = R.CFG_RGN_STAT i) s s.judged := by
  refine Regs.foldl (Regs.forEach ((Regs.refl _ s).with_gate _) _ fun _ _ h1 => h1.fireRefuse _ _ _ (.inr ⟨_, rfl⟩)
    fun off ho => .inl (by omega)) _ fun _ _ h1 => h1.skmFired _ _ (fun i => .inl ?_) (fun i => .inl ?_) (fun i => .inl ?_)
    (fun off ho => .inl (by omega)) (fun i => .inl ?_) (fun i => .inl ?_) (fun i => .inl ?_) (fun i => .inl ?_)
  all_goals
    simp only [R.SKM_ENG_STAT, R.LN_STAT, R.PCS_LN_STAT, R.PCS_GRP_STAT, R.PCS_GRP_FAULTS, R.PCS_GRP_INT_STAT, R.SKM_ENG_INT_STAT]
    omega

theorem State.judged_only : Only [.csr, .ic, .err, .gate, .ser, .draws] s s.judged :=
  (((Only.refl _ s).with_gate _).forEach _ fun _ _ h1 => h1.fireRefuse _ _ _).foldl _ fun _ _ h1 => h1.skmFired _ _

theorem State.holdAll_regs (rs : List Nat) : Regs (fun off => off / 0x10000 ≠ 2 ∨ ∃ i, off = R.CFG_RGN_STAT i) s (s.holdAll rs) := by
  refine (Regs.refl _ s).holdAll rs (fun i => .inl ?_) (fun i => .inl ?_) fun i => .inr ⟨i, rfl⟩
  all_goals
    simp only [R.FAB_BUS_VAL_LO, R.FAB_BUS_VAL_HI]
    omega

/-- Setting HELD of the regions of a list. -/
theorem State.held_forEach (t : State) (l : List Nat) (r : Nat) :
    (t.forEach l fun t r => t.setFlag (R.CFG_RGN_STAT r) F.CFG_RGN_STAT_HELD true).rgnHeld r = (t.rgnHeld r || decide (r ∈ l)) := by
  induction l generalizing t with
  | nil => simp [State.forEach]
  | cons q l ih =>
    refine (ih _).trans ?_
    by_cases h : r = q
    · rw [h, State.rgnHeld, State.flag_setFlag _ _ _ _ (by decide)]
      simp
    · rw [State.rgnHeld, State.flag_setFlag_off _ _ _ _ _ _ (by simp only [R.CFG_RGN_STAT]; omega)]
      simp [State.rgnHeld, h]

/-- Every region of the list is held after it (R247). -/
theorem State.held_holdAll {rs : List Nat} {r : Nat} (hr32 : r < 32) (h : r ∈ rs) : (s.holdAll rs).rgnHeld r = true := by
  unfold State.holdAll
  dsimp only
  split
  · next he =>
    by_contra hn
    rw [List.isEmpty_iff, List.filter_eq_nil_iff] at he
    exact he r h (by simpa using hn)
  · refine (State.flag_of_reg (((Regs.refl (fun _ => False) _).dropStarts) _ id) _).trans ?_
    refine (State.held_forEach _ _ r).trans ?_
    cases hr : s.rgnHeld r with
    | false => simp [h, hr]
    | true =>
      refine Bool.or_eq_true_iff.mpr (.inl (Eq.trans (State.flag_of_reg ?_ _) hr))
      refine (((Regs.refl (fun off => off / 0x10000 ≠ 2) s).forEach _ fun _ _ h1 => h1.keepLines _ ?_ ?_).forEach _ fun _ _ h1 =>
        h1.holdCells _ _) _ ?_
      all_goals
        simp only [R.FAB_BUS_VAL_LO, R.FAB_BUS_VAL_HI, R.CFG_RGN_STAT]
        omega

theorem State.boundFired_regs : Regs OffCfg s.exchanged s.boundFired :=
  ((Regs.refl _ _).forEach _ fun _ _ h1 => h1.fireBound_offCfg _).dropStarts

theorem State.fireCounted_regs (t : State) : Regs (fun off => OffCfg off ∨ off = R.CFG_FIRE_LAST) t (t.fireCounted s) := by
  refine Regs.setFld (Regs.countWrap ((Regs.refl _ t).forEach _ fun _ k h1 => h1.countWrap _ _ _ (.inl ?_)) _ _ _ (.inr rfl)) _ _ (.inr rfl)
  simp only [OffCfg, R.FAB_PLANE_FIRES]
  omega

theorem State.fireCounted_only (t : State) : Only [.csr] t (t.fireCounted s) :=
  (((Only.refl _ t).forEach _ fun _ _ h1 => h1.countWrap _ _ _).countWrap _ _ _).setFld _ _ _

/-- A bound block other than a probe waits for its crossing once it has exchanged (R251). -/
theorem State.cross_fireBound (t : State) (b : Bound) : (t.fireBound b).cross = match b with | .probe _ => t.cross | b => t.cross ++ [b] := by
  cases b with
  | quad q => rfl
  | group g => rfl
  | ni e => rfl
  | probe k => exact ((Only.refl [.csr, .stg, .fab] t).prbApply k fun _ _ h => h.exchangeReg _).same .cross

theorem State.mem_cross_forEach (t : State) {l : List Bound} {b : Bound} (hp : ∀ k, b ≠ .probe k) (h : b ∈ t.cross ∨ b ∈ l) :
    b ∈ (t.forEach l fun t b => t.fireBound b).cross := by
  induction l generalizing t with
  | nil => exact h.resolve_right (by simp)
  | cons c l ih =>
    refine ih (t.fireBound c) ?_
    have hc := t.cross_fireBound c
    have hkeep : b ∈ t.cross → b ∈ (t.fireBound c).cross := fun hb => by
      rw [hc]
      cases c <;> simp [hb]
    rcases h with h | h
    · exact .inl (hkeep h)
    · rcases List.mem_cons.mp h with rfl | h
      · refine .inl ?_
        rw [hc]
        cases b with
        | probe k => exact absurd rfl (hp k)
        | _ => simp
      · exact .inr h

theorem mem_allBounds (b : Bound) : b ∈ allBounds := by
  unfold allBounds
  simp only [List.mem_append]
  cases b with
  | quad q => exact .inl (.inl (.inl (List.mem_map_of_mem (List.mem_finRange q))))
  | group g => exact .inl (.inl (.inr (List.mem_map_of_mem (List.mem_finRange g))))
  | ni e => exact .inl (.inr (List.mem_map_of_mem (List.mem_finRange e)))
  | probe k => exact .inr (List.mem_map_of_mem (List.mem_finRange k))

theorem getLsbD_bits {l : List Nat} (hs : l.Pairwise (· < ·)) (hl : ∀ r ∈ l, r < 32) {i : Nat} (hi : i < 32) :
    (NSet.bits l 0).getLsbD i = decide (i ∈ l) := by
  have hf : l.filter (fun a => decide (0 ≤ a) && decide (a < 0 + 32)) = l := List.filter_eq_self.mpr fun a ha => by simpa using hl a ha
  unfold NSet.bits
  rw [hf, BitVec.getLsbD_ofNat, decide_eq_true hi, Bool.true_and]
  simp only [Nat.sub_zero]
  rw [Bool.eq_iff_iff, ← Nat.mem_bitIndices, Nat.bitIndices_sum_map_two_pow hs.sortedLT, decide_eq_true_iff]

/-! The edge from the state before it to the regions held, their planes exchanged, and the end. -/

theorem State.toFire_only : Only [.csr, .ic, .err, .gate, .ser, .draws, .fab] s s.toFire := (s.judged_only.mono (by simp)).holdAll _

theorem State.toFire_reg {off : Nat} (h : RgnRead off) : s.toFire.reg off = s.reg off := by
  obtain ⟨h1, h2⟩ := rgnRead_apart h
  have hn : ¬ (off / 0x10000 ≠ 2 ∨ ∃ i, off = R.CFG_RGN_STAT i) := fun h => h.elim (fun h => h h1) fun ⟨i, h⟩ => h2 i h
  exact ((s.judged.holdAll_regs _) off hn).trans (s.judged_regs off hn)

theorem State.toFire_rg (r : Nat) : s.toFire.rg r = s.rg r :=
  congrArg (fun y => Tbl.get (fun _ => Rgn.empty) y r) (s.toFire_only.same .rgn)

theorem State.toFire_ctrl {r : Nat} (hr : r < 32) (f : Fld) : s.toFire.flag (R.CFG_RGN_CTRL r) f = s.flag (R.CFG_RGN_CTRL r) f :=
  State.flag_of_reg (s.toFire_reg (.inl ⟨r, hr, .inr (.inr rfl)⟩)) f

theorem State.toFire_gen {r : Nat} (hr : r < 32) (f : Fld) : s.toFire.fld (R.CFG_RGN_GEN r) f = s.fld (R.CFG_RGN_GEN r) f :=
  State.fld_of_reg (s.toFire_reg (.inr ⟨r, hr, .inl rfl⟩)) f

theorem State.toFire_frameRegion (k : Nat) : s.toFire.frameRegion k = s.frameRegion k :=
  State.frameRegion_of (fun _ ho => s.toFire_reg (.inl ho)) k

theorem State.exchanged_all : FiredAll s.toFire s.firedRegions s.exchanged :=
  State.firedAll _ _ (fun _ hr => s.firedRegions_lt hr) (s.firedRegions_sorted.imp Nat.ne_of_lt)

theorem State.exchanged_only : Only [.csr, .act, .shd, .rgn, .scrub, .fab, .clk] s.toFire s.exchanged :=
  (Only.refl _ _).forEach _ fun _ _ h1 => h1.fireRegion _

theorem State.boundFired_only : Only [.csr, .stg, .ic, .err, .fab, .cross] s.exchanged (s.boundFired.fireCounted s) :=
  (((Only.refl _ _).forEach _ fun _ _ h1 => h1.fireBound _).dropStarts).trans ((s.fireCounted_only _).mono (by simp))

theorem State.fireDone_only : Only [.csr, .stg, .ic, .err, .fab, .cross] s.exchanged s.fireDone :=
  (s.boundFired_only.setReg _ _).fireTime

theorem State.fireDone_reg {off : Nat} (hw : off / 0x10000 = 2) (h : 0x20100 ≤ off) : s.fireDone.reg off = s.exchanged.reg off := by
  have h1 := ((Regs.refl (fun o => o < 0x20100) (s.boundFired.fireCounted s)).setReg (off := R.CFG_FIRE_LAST_MASK) (NSet.bits s.firedRegions 0)
    (by unfold R.CFG_FIRE_LAST_MASK; omega)).fireTime (by unfold R.CFG_FIRE_TIME_LO; omega) (by unfold R.CFG_FIRE_TIME_HI; omega) off (by omega)
  exact h1.trans ((s.fireCounted_regs _ off (by simp only [OffCfg, R.CFG_FIRE_LAST]; omega)).trans
    (s.boundFired_regs off (by simp only [OffCfg]; omega)))

theorem State.fireDone_moved {r off : Nat} (hr : r < 32) (h : RgnMoved r off) : s.fireDone.reg off = s.exchanged.reg off :=
  s.fireDone_reg (rgnMoved_window hr h) (by simp only [RgnMoved, R.CFG_RGN_STAT, R.CFG_RGN_GEN, R.CFG_RGN_COUNT] at h; omega)

theorem State.fireDone_rg (r : Nat) : s.fireDone.rg r = s.exchanged.rg r :=
  congrArg (fun y => Tbl.get (fun _ => Rgn.empty) y r) (s.fireDone_only.same .rgn)

theorem State.fireDone_mask {r : Nat} (hr : r < 32) : (s.fireDone.reg R.CFG_FIRE_LAST_MASK).getLsbD r = decide (r ∈ s.firedRegions) := by
  have h : s.fireDone.reg R.CFG_FIRE_LAST_MASK = NSet.bits s.firedRegions 0 :=
    (((Regs.refl (· ≠ R.CFG_FIRE_LAST_MASK) _).fireTime (by decide) (by decide)).same).trans (by rw [State.reg_setReg, if_pos rfl])
  rw [h]
  exact getLsbD_bits s.firedRegions_sorted (fun _ hq => s.firedRegions_lt hq) hr

theorem State.fireDone_time : s.fireDone.reg R.CFG_FIRE_TIME_LO = BitVec.ofNat 32 s.td0 ∧
    s.fireDone.reg R.CFG_FIRE_TIME_HI = BitVec.ofNat 32 (s.td0 / 2 ^ 32) := by
  have htd : ∀ v, ((s.boundFired.fireCounted s).setReg R.CFG_FIRE_LAST_MASK v).td0 = s.td0 := fun v => by
    unfold State.td0
    rw [(s.boundFired_only.setReg _ _).same .tim, s.exchanged_only.same .tim, s.toFire_only.same .tim]
  unfold State.fireDone State.fireTime
  rw [htd, State.reg_setReg_other _ _ _ _ (by decide), State.reg_setReg, if_pos rfl, State.reg_setReg, if_pos rfl]
  exact ⟨rfl, rfl⟩

/-- A region that fires: its registers and record. -/
theorem State.fireDone_region {r : Nat} (hr : FiresNow s r) :
    s.fireDone.rg r = { minHold := true, keptRel := false, post := s.flag (R.CFG_RGN_CTRL r) F.CFG_RGN_CTRL_POST_HOLD,
                        act := (s.rg r).shd, shd := (s.rg r).act } ∧
    s.fireDone.rgnHeld r = true ∧
    s.fireDone.shadow r = (if s.flag (R.CFG_RGN_CTRL r) F.CFG_RGN_CTRL_AUTO_REARM then 3 else 2) ∧
    s.fireDone.fld (R.CFG_RGN_GEN r) F.CFG_RGN_GEN_ACT_GEN = s.fld (R.CFG_RGN_GEN r) F.CFG_RGN_GEN_SHD_GEN ∧
    s.fireDone.fld (R.CFG_RGN_GEN r) F.CFG_RGN_GEN_SHD_GEN = s.fld (R.CFG_RGN_GEN r) F.CFG_RGN_GEN_ACT_GEN ∧
    s.fireDone.fld (R.CFG_RGN_COUNT r) F.CFG_RGN_COUNT_FIRINGS =
      (s.fld (R.CFG_RGN_COUNT r) F.CFG_RGN_COUNT_FIRINGS + 1) % 2 ^ F.CFG_RGN_COUNT_FIRINGS.w := by
  have hm := s.mem_firedRegions.mpr hr
  have h32 := hr.1
  have hall := s.exchanged_all
  have hstat := s.fireDone_moved h32 (.inl rfl)
  have hgen := s.fireDone_moved h32 (.inr (.inl rfl))
  have hcount := s.fireDone_moved h32 (.inr (.inr rfl))
  obtain ⟨g1, g2⟩ := hall.gens r hm
  refine ⟨?_, ?_, ?_, ?_, ?_, ?_⟩
  · rw [s.fireDone_rg, hall.rgn r hm, s.toFire_ctrl h32, s.toFire_rg]
  · exact (State.flag_of_reg hstat _).trans ((hall.held r hm).trans (s.judged.held_holdAll h32 hm))
  · exact (State.fld_of_reg hstat _).trans ((hall.shadow r hm).trans (by rw [s.toFire_ctrl h32]))
  · exact (State.fld_of_reg hgen _).trans (g1.trans (s.toFire_gen h32 _))
  · exact (State.fld_of_reg hgen _).trans (g2.trans (s.toFire_gen h32 _))
  · rw [State.fld_of_reg hcount, hall.count r hm, State.fld_of_reg (s.toFire_reg (.inr ⟨r, h32, .inr rfl⟩))]

theorem State.fireDone_frames {r k : Nat} (hr : FiresNow s r) (hk : s.frameRegion k = some r) :
    s.fireDone.act.frame k = s.shd.frame k ∧ s.fireDone.shd.frame k = s.act.frame k := by
  obtain ⟨h1, h2⟩ := (s.exchanged_all.planes k).1 r ((s.toFire_frameRegion k).trans hk) (s.mem_firedRegions.mpr hr)
  rw [s.fireDone_only.same .act, s.fireDone_only.same .shd, h1, h2, s.toFire_only.same .act, s.toFire_only.same .shd]
  exact ⟨rfl, rfl⟩

theorem State.fireDone_frames_other {k : Nat} (hk : ∀ r, FiresNow s r → s.frameRegion k ≠ some r) :
    s.fireDone.act.frame k = s.act.frame k ∧ s.fireDone.shd.frame k = s.shd.frame k := by
  obtain ⟨h1, h2⟩ := (s.exchanged_all.planes k).2 fun r hr => by
    rw [s.toFire_frameRegion]
    exact hk r (s.mem_firedRegions.mp hr)
  rw [s.fireDone_only.same .act, s.fireDone_only.same .shd, h1, h2, s.toFire_only.same .act, s.toFire_only.same .shd]
  exact ⟨rfl, rfl⟩

theorem State.fireDone_cross {b : Bound} {r : Nat} (hr : FiresNow s r) (hb : s.isBound r b = true) (hp : ∀ k, b ≠ .probe k) :
    b ∈ s.fireDone.cross := by
  have h : b ∈ s.firedBounds := List.mem_filter.mpr ⟨mem_allBounds b, List.any_eq_true.mpr ⟨r, s.mem_firedRegions.mpr hr, hb⟩⟩
  have hd : Only [.csr, .fab] (s.exchanged.forEach s.firedBounds fun t b => t.fireBound b) s.fireDone :=
    (((((Only.refl _ _).dropStarts)).trans ((s.fireCounted_only _).mono (by simp))).setReg _ _).fireTime
  rw [hd.same .cross]
  exact s.exchanged.mem_cross_forEach hp (.inr h)

end

/-- Settles O13: the planes exchange region by region (`State.firedAll`); what comes before leaves the registers that the exchange
reads, and what comes after leaves those it wrote. -/
theorem firingExchangesThePlanes : Obligations.FiringExchangesThePlanes := by
  intro s ⟨r0, hr0⟩
  have h0 := s.toFire_only
  have h1 := s.exchanged_only
  have h2 := s.fireDone_only
  refine ⟨s.fireDone, ?_, fun r hr => ?fires, fun k hk => s.fireDone_frames_other hk, fun r hr hn => ?quiet, s.fireDone_time.1,
    s.fireDone_time.2, fun b r hr hb hp => s.fireDone_cross hr hb hp, (h2.same .fuses).trans ((h1.same .fuses).trans (h0.same .fuses)),
    (h2.same .rld).trans ((h1.same .rld).trans (h0.same .rld)), (h2.same .pad).trans ((h1.same .pad).trans (h0.same .pad))⟩
  · refine (execFiring_eq s).trans (congrArg Host.Outcome.next (if_neg ?_))
    rw [List.isEmpty_iff]
    exact List.ne_nil_of_mem (s.mem_firedRegions.mpr hr0)
  case fires =>
    obtain ⟨hrec, hheld, hshd, hact, hgen, hcount⟩ := s.fireDone_region hr
    exact ⟨by rw [hrec], by rw [hrec], by rw [hrec], by rw [hrec], hheld, hshd, hact, hgen, hcount,
      by rw [s.fireDone_mask hr.1, decide_eq_true (s.mem_firedRegions.mpr hr)], fun k hk => s.fireDone_frames hr hk⟩
  case quiet =>
    have hm : r ∉ s.firedRegions := fun h => hn (s.mem_firedRegions.mp h)
    exact ⟨(s.fireDone_rg r).trans ((s.exchanged_all.other r hr hm).1.trans (s.toFire_rg r)), by rw [s.fireDone_mask hr, decide_eq_false hm]⟩

end Sys2Proof.Machine
end

section
/-! ## Binding writes, arming and generation tags (O12) -/

namespace Sys2Proof.Machine

-- Elaborated in order: side by side, so many short proofs would each hold a thread with its stack.
set_option Elab.async false

open Sys2Proof

/-! The window of the configuration block. -/

section
variable {s : State} {ep off : Nat} {v : Word}

theorem winOf_cfg (h : off / 0x10000 = 2) : winOf off = some (.cfg, 0, off % 0x10000) := by
  unfold winOf
  rw [if_pos (by omega), h]
  rfl

theorem busWrite_cfg (h : off / 0x10000 = 2) (hw : s.mayWrite ep off) (v : Word) : s.busWrite ep off v = s.cfgWrite off v := by
  rw [busWrite_of_mayWrite hw, State.csrWrite, winOf_cfg h]

/-- A write to a register of a region's own. -/
theorem cfgWrite_region (hr : regionReg off = true) (hd : s.rgnDefined (regionOfReg off) = true) (v : Word) : s.cfgWrite off v =
    if 0x20500 ≤ off then s.bindWrite off v else if off % 0x20 = 0x14 then s.genWrite (regionOfReg off) v
    else if off < 0x20500 && off % 0x20 = 8 then (s.rawWrite true off v).1.skmAuto else (s.rawWrite true off v).1 := by
  have hlo : 0x20100 ≤ off := by
    simp only [regionReg, Bool.or_eq_true, Bool.and_eq_true, decide_eq_true_eq] at hr
    omega
  unfold State.cfgWrite
  simp only
  rw [if_neg (by simp only [R.CFG_RESTART]; omega), if_neg (by simp only [R.CFG_FIRE]; omega), if_neg (by simp only [R.CFG_ARM]; omega),
    if_neg (by simp only [R.CFG_HOLD]; omega), if_neg (by simp only [R.CFG_STG_CTRL]; omega),
    if_neg (by simp only [R.CFG_HLD_CTRL]; omega), if_pos hr, if_neg (by simp [hd])]

/-- A write that the class rules do not open completes with REFUSED and does nothing else (R21, R316). -/
theorem busWrite_cfg_refused (h : off / 0x10000 = 2) (hr : s.reaches ep off = true) (ha : s.csrAccepts ep true off = false) (v : Word) :
    s.busWrite ep off v = s.complete ⟨ep, 0, 2, []⟩ := by
  unfold State.busWrite
  rw [if_neg (by simp [hr]), if_pos (by simp [ha]), State.refuse, State.csrRefused, winOf_cfg h]
  rfl

/-- A register of LIVE fields alone takes the bits written. -/
theorem rawWrite_live {m rst : Word} {base : Nat} {dims : List (Nat × Nat)} {wo : Word} {ix : List Nat}
    (h : rowAt off = some (⟨base, dims, rst, m, 0, 0, 0, 0, 0, wo⟩, ix)) (v : Word) :
    (s.rawWrite true off v).1 = s.setReg off ((s.reg off &&& ~~~ m) ||| (v &&& m)) := by
  simp [State.rawWrite, h, RegRow.after, word_and_ones]

theorem getLsbD_live {m old v : Word} {i : Nat} (hi : i < 32) (hm : m.getLsbD i = true) : ((old &&& ~~~ m) ||| (v &&& m)).getLsbD i = v.getLsbD i := by
  have hm' : m[i] = true := by rwa [BitVec.getLsbD_eq_getElem hi] at hm
  simp [hi, hm']

end

/-! The bits that bind a block to a region. -/

theorem bindBit_shift (q : Nat) (b : Bound) : (bindBit q b).1 = (bindBit 0 b).1 + 0x20 * q ∧ (bindBit q b).2 = (bindBit 0 b).2 := by
  cases b with
  | quad k =>
    unfold bindBit
    dsimp only
    refine ⟨?_, rfl⟩
    split <;> simp only [R.CFG_BIND_QUAD_LO, R.CFG_BIND_QUAD_HI, Nat.mul_zero, Nat.add_zero]
  | group g => exact ⟨by simp only [bindBit, R.CFG_BIND_GROUP, Nat.mul_zero, Nat.add_zero], rfl⟩
  | ni e => exact ⟨by simp only [bindBit, R.CFG_BIND_NI]; omega, rfl⟩
  | probe k => exact ⟨by simp only [bindBit, R.CFG_BIND_PRB, Nat.mul_zero, Nat.add_zero], rfl⟩

/-- The binding registers of region 0 stand in one row of each of the two blocks of region registers. -/
theorem bindBit_zero (b : Bound) : ((bindBit 0 b).1 ∈ [0x20500, 0x20504, 0x20508, 0x2050C] ∨
    ∃ j < 8, (bindBit 0 b).1 = 0x20A00 + 4 * j) ∧ (bindBit 0 b).2 < 32 := by
  cases b with
  | quad k =>
    unfold bindBit
    dsimp only
    refine ⟨.inl ?_, by omega⟩
    split <;> simp [R.CFG_BIND_QUAD_LO, R.CFG_BIND_QUAD_HI]
  | group g => exact ⟨.inl (by simp [bindBit, R.CFG_BIND_GROUP]), by have := g.2; simp only [bindBit]; omega⟩
  | ni e => exact ⟨.inr ⟨e / 32, by have := e.2; omega, by simp only [bindBit, R.CFG_BIND_NI, Nat.mul_zero, Nat.add_zero]⟩, by simp only [bindBit]; omega⟩
  | probe k => exact ⟨.inl (by simp [bindBit, R.CFG_BIND_PRB]), by have := k.2; simp only [bindBit]; omega⟩

section
variable {q : Nat} (hq : q < 32) (b : Bound)
include hq

theorem bindBit_region : regionReg (bindBit q b).1 = true ∧ 0x20500 ≤ (bindBit q b).1 ∧ regionOfReg (bindBit q b).1 = q ∧
    (bindBit q b).1 / 0x10000 = 2 := by
  obtain ⟨h, -⟩ := bindBit_shift q b
  obtain ⟨hz, -⟩ := bindBit_zero b
  simp only [List.mem_cons, List.not_mem_nil, or_false] at hz
  rw [h]
  refine ⟨?_, ?_, ?_, ?_⟩
  · simp only [regionReg, Bool.or_eq_true, Bool.and_eq_true, decide_eq_true_eq]
    rcases hz with h | ⟨j, hj, h⟩ <;> omega
  · rcases hz with h | ⟨j, hj, h⟩ <;> omega
  · unfold regionOfReg
    rcases hz with h | ⟨j, hj, h⟩
    · rw [if_pos (by omega)]
      omega
    · rw [if_neg (by omega)]
      omega
  · rcases hz with h | ⟨j, hj, h⟩ <;> omega

/-- The same bits of the other regions. -/
theorem mem_otherBinds {off : Nat} : off ∈ otherBinds (bindBit q b).1 ↔ ∃ p < 32, p ≠ q ∧ off = (bindBit p b).1 := by
  obtain ⟨h, -⟩ := bindBit_shift q b
  obtain ⟨-, -, hr, -⟩ := bindBit_region hq b
  have hbase : (bindBit q b).1 - 0x20 * regionOfReg (bindBit q b).1 = (bindBit 0 b).1 := by
    rw [hr, h]
    omega
  unfold otherBinds
  simp only [hbase, List.mem_filter, List.mem_map, List.mem_range, bne_iff_ne]
  constructor
  · rintro ⟨⟨p, hp, rfl⟩, hne⟩
    refine ⟨p, hp, fun e => hne ?_, (bindBit_shift p b).1.symm⟩
    rw [e, h]
  · rintro ⟨p, hp, hne, rfl⟩
    refine ⟨⟨p, hp, (bindBit_shift p b).1.symm⟩, fun e => hne ?_⟩
    rw [(bindBit_shift p b).1, h] at e
    omega

/-- The row of a binding register holds LIVE bits alone, the block's among them. -/
theorem rowAt_bindBit : ∃ base dims m ix, rowAt (bindBit q b).1 = some (⟨base, dims, 0, m, 0, 0, 0, 0, 0, 0⟩, ix) ∧
    m.getLsbD (bindBit q b).2 = true := by
  have hlo : ∀ r : Fin 32, rowAt (R.CFG_BIND_QUAD_LO r) = some (⟨0x500, [(32, 0x20)], 0, 0xFFFFFFFF, 0, 0, 0, 0, 0, 0⟩, [r.val]) := by decide
  have hhi : ∀ r : Fin 32, rowAt (R.CFG_BIND_QUAD_HI r) = some (⟨0x504, [(32, 0x20)], 0, 0xF, 0, 0, 0, 0, 0, 0⟩, [r.val]) := by decide
  have hgrp : ∀ r : Fin 32, rowAt (R.CFG_BIND_GROUP r) = some (⟨0x508, [(32, 0x20)], 0, 0xFFFF, 0, 0, 0, 0, 0, 0⟩, [r.val]) := by decide
  have hprb : ∀ r : Fin 32, rowAt (R.CFG_BIND_PRB r) = some (⟨0x50C, [(32, 0x20)], 0, 0xFFFFFFFF, 0, 0, 0, 0, 0, 0⟩, [r.val]) := by decide
  have hni : ∀ r : Fin 32, ∀ j : Fin 8, rowAt (R.CFG_BIND_NI r j) =
      some (⟨0xA00, [(32, 0x20), (8, 4)], 0, 0xFFFFFFFF, 0, 0, 0, 0, 0, 0⟩, [r.val, j.val]) := by decide
  have hall : ∀ i < 32, (0xFFFFFFFF : Word).getLsbD i = true := by decide
  have hfour : ∀ i < 4, (0xF : Word).getLsbD i = true := by decide
  have hsixteen : ∀ i < 16, (0xFFFF : Word).getLsbD i = true := by decide
  cases b with
  | quad k =>
    by_cases hk : k.val < 32
    · exact ⟨_, _, _, _, by rw [bindBit, if_pos hk]; exact hlo ⟨q, hq⟩, hall _ (Nat.mod_lt _ (by decide))⟩
    · exact ⟨_, _, _, _, by rw [bindBit, if_neg hk]; exact hhi ⟨q, hq⟩, hfour _ (by have := k.2; simp only [bindBit]; omega)⟩
  | group g => exact ⟨_, _, _, _, hgrp ⟨q, hq⟩, hsixteen _ g.2⟩
  | ni e => exact ⟨_, _, _, _, hni ⟨q, hq⟩ ⟨e / 32, by have := e.2; omega⟩, hall _ (Nat.mod_lt _ (by decide))⟩
  | probe k => exact ⟨_, _, _, _, hprb ⟨q, hq⟩, hall _ k.2⟩

end

theorem State.bindWrite_refuses {s : State} {r : Nat} (hr : r < 32) (b : Bound) (v : Word) :
    (s.shadow r = 3 || (otherBinds (bindBit r b).1).any fun o => s.rgnDefined (regionOfReg o) && (s.reg o &&& v) != 0) = true ↔
    s.shadow r = 3 ∨ ∃ q < 32, q ≠ r ∧ s.rgnDefined q = true ∧ s.reg (bindBit q b).1 &&& v ≠ 0 := by
  simp only [Bool.or_eq_true, decide_eq_true_eq, List.any_eq_true, Bool.and_eq_true, bne_iff_ne]
  refine or_congr Iff.rfl ⟨?_, ?_⟩
  · rintro ⟨o, ho, hd, hv⟩
    obtain ⟨q, hq, hne, rfl⟩ := (mem_otherBinds hr b).mp ho
    rw [(bindBit_region hq b).2.2.1] at hd
    exact ⟨q, hq, hne, hd, hv⟩
  · rintro ⟨q, hq, hne, hd, hv⟩
    exact ⟨_, (mem_otherBinds hr b).mpr ⟨q, hq, hne, rfl⟩, by rw [(bindBit_region hq b).2.2.1]; exact hd, hv⟩

theorem bindingWritesBindOrAreRefused : BindingWritesBindOrAreRefused := by
  intro ep r b v s hw hd
  obtain ⟨hreg, hlo, hof, hwin⟩ := bindBit_region r.2 b
  have hexec : execBindWrite ep (bindBit r b).1 v s = .next (if (s.shadow r = 3 || (otherBinds (bindBit r b).1).any fun o =>
      s.rgnDefined (regionOfReg o) && (s.reg o &&& v) != 0) = true then s.ctrlRefuse r else (s.rawWrite true (bindBit r b).1 v).1) := by
    unfold execBindWrite
    rw [if_pos (by simp [hreg, hlo]), busWrite_cfg hwin hw, cfgWrite_region hreg (by rw [hof]; exact hd), if_pos hlo, State.bindWrite]
    simp only [hof]
    rw [if_neg (by simp [hd])]
  refine ⟨fun h3 hfree => ?_, fun h hq => ?_⟩
  · obtain ⟨base, dims, m, ix, hrow, hbit⟩ := rowAt_bindBit r.2 b
    have hn := mt (State.bindWrite_refuses (s := s) r.2 b v).mp (not_or.mpr ⟨h3, fun ⟨q, hq, hne, hdq, hv⟩ => hv (hfree q hq hne hdq)⟩)
    have hi : (bindBit r b).2 < 32 := by rw [(bindBit_shift r b).2]; exact (bindBit_zero b).2
    refine ⟨(s.rawWrite true (bindBit r b).1 v).1, hexec.trans (by rw [if_neg hn]), ?_, ?_, ?_⟩
    · rw [rawWrite_live hrow, State.isBound, State.bit, State.reg_setReg, if_pos rfl, getLsbD_live hi hbit, State.rgnDefined, State.fld,
        State.reg_setReg_other _ _ _ _ (by simp only [R.CFG_RGN_DESC]; omega)]
      exact (congrArg (· && v.getLsbD (bindBit r b).2) hd).trans (Bool.true_and _)
    · rw [rawWrite_live hrow]
      exact Regs.but ((Regs.refl (· ∈ [(bindBit r b).1]) s).setReg _ (by simp))
    · rw [rawWrite_live hrow]
      exact (Only.refl _ s).setReg _ _
  · have hflag : s.ctrlFlag r = s.setFlag (R.CFG_RGN_STAT r) F.CFG_RGN_STAT_CTRL_REFUSED true := if_pos hd
    obtain ⟨hwait, hcsr⟩ := State.report_quiet (s := s.ctrlFlag r) (r := ⟨23, 0, 0x02, r * 2 ^ 16⟩) r (by rw [hflag]; exact hq)
    refine ⟨s.ctrlRefuse r, hexec.trans (by rw [if_pos ((State.bindWrite_refuses r.2 b v).mpr h)]), ?_, ?_, ?_, ?_, ?_⟩
    · rw [State.ctrlRefuse, State.flag_of_reg (State.reg_of_csr hcsr _), hflag, State.flag_setFlag _ _ _ _ (by decide)]
    · rw [State.ctrlRefuse, State.shadow, State.fld_of_reg (State.reg_of_csr hcsr _), hflag]
      exact State.fld_setFld_fld _ _ _ _ _ (by decide)
    · rw [State.ctrlRefuse, hwait, hflag]
      rfl
    · refine RegsBut.trans ?_ (fun off _ => State.reg_of_csr hcsr off)
      rw [hflag]
      exact Regs.but ((Regs.refl (· ∈ [R.CFG_RGN_STAT r]) s).setFlag _ _ (by simp))
    · rw [State.ctrlRefuse, hflag]
      exact ((Only.refl _ s).setFlag _ _ _).report _ _

/-! Arming. -/

theorem getLsbD_bitOn_apart (v : Word) {f : Fld} (hf : f.w = 1) {i : Nat} (hi : i < 32) (hne : i ≠ f.lo) :
    (bitOn v f).getLsbD i = v.getLsbD i := by
  rw [getLsbD_bitOn v hf hi, decide_eq_false hne, Bool.or_false]

theorem rowAt_cfgArm : rowAt R.CFG_ARM = some (⟨0x48, [], 0, 0x1F, 0, 0, 0, 0, 0, 0xC0000000⟩, []) := by decide

section
variable {s : State} {ep : Nat} {v : Word}

theorem State.rgnDefined_of {t : State} {r : Nat} (h : t.reg (R.CFG_RGN_DESC r) = s.reg (R.CFG_RGN_DESC r)) :
    t.rgnDefined r = s.rgnDefined r := by
  unfold State.rgnDefined
  rw [State.fld_of_reg h]

/-- An accepted write of CFG_ARM that names a region of the design (R237). -/
theorem busWrite_cfgArm (hw : s.mayWrite ep R.CFG_ARM) (hd : s.rgnDefined (v.fget F.CFG_ARM_REGION) = true) :
    ∃ u, Regs (· ∈ [R.CFG_ARM]) s u ∧ Only [.csr] s u ∧ s.busWrite ep R.CFG_ARM v =
      if s.armRefused v then s.setFlag (R.CFG_RGN_STAT (v.fget F.CFG_ARM_REGION)) F.CFG_RGN_STAT_CTRL_REFUSED true
      else if v.getLsbD 31 then u.setShadow (v.fget F.CFG_ARM_REGION) 3
      else if v.getLsbD 30 then u.setShadow (v.fget F.CFG_ARM_REGION) 2 else u := by
  have hcfg : s.cfgWrite R.CFG_ARM v = (if s.armRefused v then s else (s.rawWrite true R.CFG_ARM v).1).armAct v := rfl
  rw [busWrite_cfg (by decide) hw, hcfg]
  obtain ⟨u, hu⟩ : ∃ u, u = (s.rawWrite true R.CFG_ARM v).1 := ⟨_, rfl⟩
  have hr : Regs (· ∈ [R.CFG_ARM]) s u := by
    rw [hu]
    exact (Regs.refl _ s).rawWrite _ _ _ (by simp)
  refine ⟨u, hr, by rw [hu, rawWrite_live rowAt_cfgArm]; exact (Only.refl _ s).setReg _ _, ?_⟩
  rw [← hu]
  have hout : ∀ off, off ≠ R.CFG_ARM → u.reg off = s.reg off := fun off ho => hr off (by simpa using ho)
  have hdu : u.rgnDefined (v.fget F.CFG_ARM_REGION) = true :=
    (State.rgnDefined_of (hout _ (by simp only [R.CFG_RGN_DESC, R.CFG_ARM]; omega))).trans hd
  have hsu : u.shadow (v.fget F.CFG_ARM_REGION) = s.shadow (v.fget F.CFG_ARM_REGION) :=
    State.fld_of_reg (hout _ (by simp only [R.CFG_RGN_STAT, R.CFG_ARM]; omega)) _
  have hru : u.armRefused v = s.armRefused v := by
    simp only [State.armRefused, hdu, hsu, hd]
  split
  · next h =>
    unfold State.armAct State.ctrlFlag
    simp only [hd, h, if_true, Bool.not_true, Bool.false_eq_true, if_false]
  · next h =>
    unfold State.armAct
    simp only [hdu, hru, h, Bool.not_true, Bool.false_eq_true, if_false]

/-- What such a write leaves, where it is refused and where it moves the shadow. -/
theorem State.ctrlRefused_leaves (r : Nat) :
    (s.setFlag (R.CFG_RGN_STAT r) F.CFG_RGN_STAT_CTRL_REFUSED true).shadow r = s.shadow r ∧
    (s.setFlag (R.CFG_RGN_STAT r) F.CFG_RGN_STAT_CTRL_REFUSED true).flag (R.CFG_RGN_STAT r) F.CFG_RGN_STAT_CTRL_REFUSED = true :=
  ⟨State.fld_setFld_fld _ _ _ _ _ (by decide), State.flag_setFlag _ _ _ _ (by decide)⟩

theorem State.shadow_setShadow {n : Nat} (hn : n < 8) (u : State) (r : Nat) : (u.setShadow r n).shadow r = n :=
  (State.fld_setFld _ _ _ _ (by decide)).trans (Nat.mod_eq_of_lt hn)

end

theorem armRefused_of_arm {s : State} {v : Word} (hd : s.rgnDefined (v.fget F.CFG_ARM_REGION) = true) (h31 : v.getLsbD 31 = true) :
    s.armRefused v = (v.getLsbD 30 || s.shadow (v.fget F.CFG_ARM_REGION) != 2) := by
  simp only [State.armRefused, hd, h31]
  cases v.getLsbD 30 <;> simp

theorem armRefused_of_disarm {s : State} {v : Word} (hd : s.rgnDefined (v.fget F.CFG_ARM_REGION) = true) (h30 : v.getLsbD 30 = true) :
    s.armRefused v = (v.getLsbD 31 || s.shadow (v.fget F.CFG_ARM_REGION) != 3) := by
  simp only [State.armRefused, hd, h30]
  cases v.getLsbD 31 <;> simp

/-- What a write of CFG_ARM leaves: with the shadow as it must be it moves to `n`, and is refused otherwise. -/
theorem armWrite_completes {i : Instr} {s : State} {ep : Fin 256} {v : Word} {n : Nat} (hw : s.mayWrite ep R.CFG_ARM)
    (hd : s.rgnDefined (v.fget F.CFG_ARM_REGION) = true) (hx : exec i s = .next (s.busWrite ep R.CFG_ARM v)) {good : Prop}
    (hg : good → s.armRefused v = false ∧ n < 8 ∧ ∀ u : State, (if v.getLsbD 31 then u.setShadow (v.fget F.CFG_ARM_REGION) 3
      else if v.getLsbD 30 then u.setShadow (v.fget F.CFG_ARM_REGION) 2 else u) = u.setShadow (v.fget F.CFG_ARM_REGION) n)
    (hb : ¬ good → s.armRefused v = true) : Completes i s fun t =>
      (good → t.shadow (v.fget F.CFG_ARM_REGION) = n) ∧
      (¬ good → t.shadow (v.fget F.CFG_ARM_REGION) = s.shadow (v.fget F.CFG_ARM_REGION) ∧
        t.flag (R.CFG_RGN_STAT (v.fget F.CFG_ARM_REGION)) F.CFG_RGN_STAT_CTRL_REFUSED = true) ∧
      RegsBut [R.CFG_ARM, R.CFG_RGN_STAT (v.fget F.CFG_ARM_REGION)] s t ∧ Only [.csr] s t := by
  obtain ⟨u, hur, huo, hbus⟩ := busWrite_cfgArm hw hd
  have hur' : Regs (· ∈ [R.CFG_ARM, R.CFG_RGN_STAT (v.fget F.CFG_ARM_REGION)]) s u := fun off ho => hur off fun h => ho (by simp_all)
  by_cases h : good
  · obtain ⟨hn, hlt, hset⟩ := hg h
    refine ⟨u.setShadow (v.fget F.CFG_ARM_REGION) n, ?_, fun _ => State.shadow_setShadow hlt _ _, fun hn => absurd h hn, ?_, ?_⟩
    · rw [hx, hbus, if_neg (by simp [hn]), hset]
    · exact Regs.but (hur'.setShadow _ _ (by simp))
    · exact huo.setShadow _ _
  · obtain ⟨hs, hf⟩ := State.ctrlRefused_leaves (s := s) (v.fget F.CFG_ARM_REGION)
    refine ⟨s.setFlag (R.CFG_RGN_STAT (v.fget F.CFG_ARM_REGION)) F.CFG_RGN_STAT_CTRL_REFUSED true, ?_, fun hg => absurd hg h, fun _ => ⟨hs, hf⟩, ?_, ?_⟩
    · rw [hx, hbus, if_pos (hb h)]
    · exact Regs.but ((Regs.refl _ s).setFlag _ _ (by simp))
    · exact (Only.refl _ s).setFlag _ _ _

theorem armDisarmAndTag : ArmDisarmAndTag := by
  refine ⟨fun ep v s hw hd => ?arm, fun ep v s hw hd => ?disarm, fun ep r v s hw hd => ?gen, fun ep v s hr ha => ?refused⟩
  case refused =>
    have h : ∀ w, s.busWrite ep R.CFG_ARM w = s.complete ⟨ep, 0, 2, []⟩ := busWrite_cfg_refused (by decide) hr ha
    exact ⟨⟨_, congrArg Host.Outcome.next (h _), rfl, (Only.refl _ s).with_noc _⟩, ⟨_, congrArg Host.Outcome.next (h _), rfl, (Only.refl _ s).with_noc _⟩⟩
  case arm =>
    have hreg : (bitOn v F.CFG_ARM_ARM).fget F.CFG_ARM_REGION = v.fget F.CFG_ARM_REGION := fget_bitOn_apart v rfl (by decide) (by decide)
    have h31 : (bitOn v F.CFG_ARM_ARM).getLsbD 31 = true := getLsbD_bitOn_self v rfl (by decide)
    have h30 : (bitOn v F.CFG_ARM_ARM).getLsbD 30 = v.getLsbD 30 := getLsbD_bitOn_apart v rfl (by decide) (by decide)
    have hd' : s.rgnDefined ((bitOn v F.CFG_ARM_ARM).fget F.CFG_ARM_REGION) = true := by rw [hreg]; exact hd
    obtain ⟨t, ht, h1, h2, h3, h4⟩ := armWrite_completes (i := .cfgArm ep v) (n := 3) hw hd' rfl
      (good := v.getLsbD 30 = false ∧ s.shadow (v.fget F.CFG_ARM_REGION) = 2)
      (fun ⟨hb, hs⟩ => ⟨by rw [armRefused_of_arm hd' h31, h30, hreg, hb, hs]; rfl, by decide, fun u => by rw [if_pos h31]⟩)
      (fun hn => by
        rw [armRefused_of_arm hd' h31, h30, hreg]
        cases hb : v.getLsbD 30 <;> simp_all)
    rw [hreg] at h1 h2 h3
    exact ⟨t, ht, fun hb hs => h1 ⟨hb, hs⟩, fun h => h2 fun ⟨hb, hs⟩ => by rcases h with h | h <;> simp_all, h3, h4⟩
  case disarm =>
    have hreg : (bitOn v F.CFG_ARM_DISARM).fget F.CFG_ARM_REGION = v.fget F.CFG_ARM_REGION := fget_bitOn_apart v rfl (by decide) (by decide)
    have h30 : (bitOn v F.CFG_ARM_DISARM).getLsbD 30 = true := getLsbD_bitOn_self v rfl (by decide)
    have h31 : (bitOn v F.CFG_ARM_DISARM).getLsbD 31 = v.getLsbD 31 := getLsbD_bitOn_apart v rfl (by decide) (by decide)
    have hd' : s.rgnDefined ((bitOn v F.CFG_ARM_DISARM).fget F.CFG_ARM_REGION) = true := by rw [hreg]; exact hd
    obtain ⟨t, ht, h1, h2, h3, h4⟩ := armWrite_completes (i := .cfgDisarm ep v) (n := 2) hw hd' rfl
      (good := v.getLsbD 31 = false ∧ s.shadow (v.fget F.CFG_ARM_REGION) = 3)
      (fun ⟨hb, hs⟩ => ⟨by rw [armRefused_of_disarm hd' h30, h31, hreg, hb, hs]; rfl, by decide, fun u => by
        rw [if_neg (by rw [h31, hb]; decide), if_pos h30]⟩)
      (fun hn => by
        rw [armRefused_of_disarm hd' h30, h31, hreg]
        cases hb : v.getLsbD 31 <;> simp_all)
    rw [hreg] at h1 h2 h3
    exact ⟨t, ht, fun hb hs => h1 ⟨hb, hs⟩, fun h => h2 fun ⟨hb, hs⟩ => by rcases h with h | h <;> simp_all, h3, h4⟩
  case gen =>
    have hr := r.2
    have hof : regionOfReg (R.CFG_RGN_GEN r) = r := by
      unfold regionOfReg
      rw [if_pos (by simp only [R.CFG_RGN_GEN]; omega)]
      simp only [R.CFG_RGN_GEN]
      omega
    have hreg : regionReg (R.CFG_RGN_GEN r) = true := by
      have hlt : 0x20100 ≤ R.CFG_RGN_GEN r ∧ R.CFG_RGN_GEN r < 0x20900 := by
        simp only [R.CFG_RGN_GEN]
        omega
      simp [regionReg, hlt]
    have hbus : s.busWrite ep (R.CFG_RGN_GEN r) v = s.genWrite r v := by
      rw [busWrite_cfg (by simp only [R.CFG_RGN_GEN]; omega) hw,
        cfgWrite_region hreg (by rw [hof]; exact hd),
        if_neg (by simp only [R.CFG_RGN_GEN]; omega), if_pos (by simp only [R.CFG_RGN_GEN]; omega), hof]
    by_cases h3 : s.shadow r = 3
    · have hg : s.genWrite r v = s.setFlag (R.CFG_RGN_STAT r) F.CFG_RGN_STAT_CTRL_REFUSED true := by
        unfold State.genWrite State.ctrlFlag
        rw [if_neg (by simp [hd]), if_pos h3, if_pos hd]
      refine ⟨_, congrArg Host.Outcome.next (hbus.trans hg), fun hn => absurd h3 hn, fun _ => ⟨State.flag_setFlag _ _ _ _ (by decide),
        Regs.but ((Regs.refl _ s).setFlag _ _ (by simp))⟩, ?_, (Only.refl _ s).setFlag _ _ _⟩
      exact State.fld_of_reg (State.reg_setFlag_other _ _ _ _ _ (rgnRegs_apart r).2.2.1) _
    · have hg : s.genWrite r v = s.setFld (R.CFG_RGN_GEN r) F.CFG_RGN_GEN_SHD_GEN (v.fget F.CFG_RGN_GEN_SHD_GEN) := by
        unfold State.genWrite
        rw [if_neg (by simp [hd]), if_neg h3]
      refine ⟨_, congrArg Host.Outcome.next (hbus.trans hg), fun _ => ⟨?_, Regs.but ((Regs.refl _ s).setFld _ _ (by simp))⟩, fun hn => absurd hn h3,
        State.fld_setFld_fld _ _ _ _ _ (by decide), (Only.refl _ s).setFld _ _ _⟩
      rw [State.fld_setFld _ _ _ _ (by decide)]
      exact Nat.mod_eq_of_lt (Nat.mod_lt _ (Nat.two_pow_pos _))

/-- Settles O12: the binding rows hold LIVE bits alone, and a write of CFG_ARM is refused by `State.armRefused` or moves the shadow. -/
theorem bindingArmingAndTags : Obligations.BindingArmingAndTags := ⟨bindingWritesBindOrAreRefused, armDisarmAndTag⟩

end Sys2Proof.Machine
end

section
/-! ## Firing requests and their refusals (O14) -/

namespace Sys2Proof.Machine

-- Elaborated in order: side by side, so many short proofs would each hold a thread with its stack.
set_option Elab.async false

open Sys2Proof

theorem rowAt_cfgFire : rowAt R.CFG_FIRE = some (⟨0x40, [], 0, 0x11F, 0, 0, 0, 0, 0, 0x80000000⟩, []) := by decide

/-- A field of one bit, as a flag. -/
theorem fget_bit (v : Word) {f : Fld} (hf : f.w = 1) : (v.fget f != 0) = v.getLsbD f.lo := by
  have hlt : v.fget f < 2 := by
    unfold Word.fget
    rw [hf]
    exact Nat.mod_lt _ (by decide)
  have hbit := Word.testBit_fget v f 0
  rw [hf, Nat.add_zero, decide_eq_true (by decide), Bool.true_and] at hbit
  rw [← hbit]
  have : v.fget f = 0 ∨ v.fget f = 1 := by omega
  rcases this with h | h <;> rw [h] <;> rfl

/-- A strobe's regions: those that take it. -/
def State.strobed (s : State) : List Nat :=
  (List.range 32).filter fun r => s.rgnDefined r && s.flag (R.CFG_RGN_CTRL r) F.CFG_RGN_CTRL_STROBE_EN

theorem State.mem_strobed {s : State} {r : Nat} : r ∈ s.strobed ↔
    r < 32 ∧ s.rgnDefined r = true ∧ s.flag (R.CFG_RGN_CTRL r) F.CFG_RGN_CTRL_STROBE_EN = true := by
  simp [State.strobed]

theorem execFireStrobeEdge_eq (s : State) : execFireStrobeEdge s = .next (if s.strobed.isEmpty then s
    else s.gatePush ⟨s.strobed, 2, none, s.strobed.filter fun r => (s.rg r).minHold⟩) := rfl

theorem firingRequestsReachTheGate : FiringRequestsReachTheGate := by
  refine ⟨fun ep v s hw => ?go, fun s ⟨r0, h0, hd0, he0⟩ => ?strobe, fun s hn => congrArg Host.Outcome.next (if_pos ?_)⟩
  case go =>
    have h31 : (bitOn v F.CFG_FIRE_GO).getLsbD 31 = true := getLsbD_bitOn_self v rfl (by decide)
    have hreg : (bitOn v F.CFG_FIRE_GO).fget F.CFG_FIRE_REGION = v.fget F.CFG_FIRE_REGION := fget_bitOn_apart v rfl (by decide) (by decide)
    have h8 : (bitOn v F.CFG_FIRE_GO).getLsbD 8 = v.getLsbD 8 := getLsbD_bitOn_apart v rfl (by decide) (by decide)
    obtain ⟨t, ht⟩ : ∃ t, t = (s.rawWrite true R.CFG_FIRE (bitOn v F.CFG_FIRE_GO)).1 := ⟨_, rfl⟩
    have hset := ht.trans (rawWrite_live rowAt_cfgFire (s := s) (bitOn v F.CFG_FIRE_GO))
    have hnew : t.reg R.CFG_FIRE = (s.reg R.CFG_FIRE &&& ~~~ 0x11F) ||| (bitOn v F.CFG_FIRE_GO &&& 0x11F) := by
      rw [hset, State.reg_setReg, if_pos rfl]
    have hmask : t.reg R.CFG_FIRE_MASK = s.reg R.CFG_FIRE_MASK := by rw [hset, State.reg_setReg_other _ _ _ _ (by decide)]
    have huse : t.flag R.CFG_FIRE F.CFG_FIRE_USE_MASK = v.getLsbD 8 := by
      have hf := fget_merge_picked (s.reg R.CFG_FIRE) (bitOn v F.CFG_FIRE_GO) (m := 0x11F) (f := F.CFG_FIRE_USE_MASK) (by decide)
      rw [State.flag, State.fld, hnew, hf, fget_bit _ rfl]
      exact h8
    have hrgn : t.fld R.CFG_FIRE F.CFG_FIRE_REGION = v.fget F.CFG_FIRE_REGION := by
      rw [State.fld, hnew, fget_merge_picked _ _ (by decide)]
      exact hreg
    refine ⟨t.gatePush ⟨if v.getLsbD 8 then maskRegions (s.reg R.CFG_FIRE_MASK) else [v.fget F.CFG_FIRE_REGION], 1, none, []⟩,
      congrArg Host.Outcome.next ?_, ?_, ?_, ?_, ?_⟩
    · rw [busWrite_cfg (by decide) hw]
      show (State.rawWrite s true R.CFG_FIRE (bitOn v F.CFG_FIRE_GO)).1.fireAct _ = _
      rw [← ht, State.fireAct, if_neg (by simp [h31]), huse, hrgn, hmask]
    · rw [hset]
      rfl
    · rw [hset]
      rfl
    · rw [hset]
      exact Regs.but (((Regs.refl _ s).setReg _ (by simp)).with_gate _)
    · rw [hset]
      exact ((Only.refl _ s).setReg _ _).with_gate _
  case strobe =>
    have hm := State.mem_strobed.mpr ⟨h0, hd0, he0⟩
    refine ⟨s.gatePush ⟨s.strobed, 2, none, s.strobed.filter fun r => (s.rg r).minHold⟩,
      (execFireStrobeEdge_eq s).trans (congrArg Host.Outcome.next (if_neg ?_)), ⟨_, rfl, rfl, rfl, fun r => State.mem_strobed⟩, ?_,
      (Only.refl _ s).with_gate _⟩
    · rw [List.isEmpty_iff]
      exact List.ne_nil_of_mem hm
    · intro q hq r
      rw [show (s.gatePush _).gate.reqs = s.gate.reqs ++ [_] from rfl, List.drop_left, List.mem_singleton] at hq
      rw [hq]
      simp
  · rw [List.isEmpty_iff, List.filter_eq_nil_iff]
    intro r hr
    cases hd : s.rgnDefined r with
    | false => simp
    | true => simp [hn r (List.mem_range.mp hr) hd]

/-! Refusals. -/

section
variable {s t : State} {q : FireReq}

theorem reqsFor_one {r : Nat} (h : r ∈ q.regions) : reqsFor [q] r = [q] := by
  simp [reqsFor, h]

/-- A refusal with its reason is shown, or kept in a halt (R241). -/
theorem State.fireRefuse_one (t pre : State) {r n : Nat} (h : r ∈ q.regions) (hv : pre.verdict q r = .refuse n) :
    t.fireRefuse pre [q] r = t.refuseAt r n q.src := by
  unfold State.fireRefuse
  rw [reqsFor_one h]
  simp [hv, srcBits]

theorem State.verdict_lt {n r : Nat} (h : s.verdict q r = .refuse n) : n ≤ 6 := by
  unfold State.verdict at h
  dsimp only at h
  split_ifs at h <;> injection h <;> omega

theorem Regs.fireRefuse_other {r p : Nat} (hr : r < 32) (hne : p ≠ r) (reqs : List FireReq) (pre : State) :
    (t.fireRefuse pre reqs p).reg (R.CFG_RGN_STAT r) = t.reg (R.CFG_RGN_STAT r) :=
  ((Regs.refl (· ≠ R.CFG_RGN_STAT r) t).fireRefuse _ _ _ (by simp only [R.CFG_RGN_STAT]; omega)
    (fun off ho => by simp only [R.CFG_RGN_STAT]; omega)).same

theorem State.forEach_append {α : Type} (s : State) (a b : List α) (f : State → α → State) :
    s.forEach (a ++ b) f = (s.forEach a f).forEach b f := List.foldl_append

theorem State.kept_fireRefuse (t pre : State) (reqs : List FireReq) (p : Nat) {x : Nat × Nat} (h : x ∈ t.gate.kept) :
    x ∈ (t.fireRefuse pre reqs p).gate.kept := by
  unfold State.fireRefuse State.refuseAt
  dsimp only
  split
  · split
    · exact List.mem_append_left _ h
    · rw [((Only.refl [.csr, .ic, .err] t).refuseRecord _ _ _).same .gate]
      exact h
  · exact h

/-- The requests that wait at the gate. -/
def State.gateReqs (s : State) : List FireReq := s.gate.reqs

theorem State.reqs_fireRefuse (t pre : State) (reqs : List FireReq) (p : Nat) : Same State.gateReqs t (t.fireRefuse pre reqs p) := by
  unfold State.fireRefuse State.refuseAt
  dsimp only
  split
  · split
    · rfl
    · exact congrArg Gate.reqs (((Only.refl [.csr, .ic, .err] t).refuseRecord _ _ _).same .gate)
  · rfl

theorem State.kept_forEach (t pre : State) (reqs : List FireReq) (l : List Nat) {x : Nat × Nat} (h : x ∈ t.gate.kept) :
    x ∈ (t.forEach l fun t p => t.fireRefuse pre reqs p).gate.kept := by
  induction l generalizing t with
  | nil => exact h
  | cons p l ih => exact ih _ (t.kept_fireRefuse pre reqs p h)

theorem State.stat_forEach (t pre : State) (reqs : List FireReq) {l : List Nat} {r : Nat} (h32 : r < 32) (h : r ∉ l) :
    (t.forEach l fun t p => t.fireRefuse pre reqs p).reg (R.CFG_RGN_STAT r) = t.reg (R.CFG_RGN_STAT r) := by
  induction l generalizing t with
  | nil => rfl
  | cons p l ih =>
    obtain ⟨h1, h2⟩ := not_or.mp (mt List.mem_cons.mpr h)
    exact (ih _ h2).trans (Regs.fireRefuse_other h32 (Ne.symm h1) reqs pre)

theorem State.refuseRecord_stat (t : State) {r n : Nat} (bits : Nat) (h32 : r < 32) (hd : t.rgnDefined r = true) :
    (t.refuseRecord r n bits).reg (R.CFG_RGN_STAT r) = (t.setFld (R.CFG_RGN_STAT r) F.CFG_RGN_STAT_REFUSE n).reg (R.CFG_RGN_STAT r) := by
  unfold State.refuseRecord
  rw [State.when_true hd]
  exact ((Regs.refl (· ≠ R.CFG_RGN_STAT r) _).report _ _ (by simp) (by simp) fun off ho => by simp only [R.CFG_RGN_STAT]; omega).same

/-- One region of the list: what its refusal shows stays through the others, and what a halt keeps stays too. -/
theorem State.fireRefuse_forEach (t pre : State) {l : List Nat} (hn : l.Nodup) {r n : Nat} (h32 : r < 32) (hr : r ∈ l) (hq : r ∈ q.regions)
    (hv : pre.verdict q r = .refuse n) :
    (n ≠ 6 → t.rgnDefined r = true → (t.forEach l fun t p => t.fireRefuse pre [q] p).fld (R.CFG_RGN_STAT r) F.CFG_RGN_STAT_REFUSE = n ∧
      (t.forEach l fun t p => t.fireRefuse pre [q] p).shadow r = t.shadow r) ∧
    (n = 6 → (r, q.src) ∈ (t.forEach l fun t p => t.fireRefuse pre [q] p).gate.kept) := by
  induction l generalizing t with
  | nil => cases hr
  | cons p l ih =>
    obtain ⟨h1, h2⟩ := List.nodup_cons.mp hn
    by_cases hp : p = r
    · subst hp
      have he := State.fireRefuse_one t pre hq hv
      refine ⟨fun h6 hd => ?_, fun h6 => ?_⟩
      · have hstat : (t.forEach (p :: l) fun t p => t.fireRefuse pre [q] p).reg (R.CFG_RGN_STAT p) =
            (t.setFld (R.CFG_RGN_STAT p) F.CFG_RGN_STAT_REFUSE n).reg (R.CFG_RGN_STAT p) := by
          refine (State.stat_forEach (t.fireRefuse pre [q] p) pre [q] h32 h1).trans ?_
          rw [he, State.refuseAt, if_neg h6]
          exact t.refuseRecord_stat _ h32 hd
        have hlt := State.verdict_lt hv
        rw [State.shadow, State.fld_of_reg hstat, State.fld_of_reg hstat, State.fld_setFld _ _ _ _ (by decide)]
        exact ⟨Nat.mod_eq_of_lt (Nat.lt_of_le_of_lt hlt (by decide)), State.fld_setFld_fld _ _ _ _ _ (by decide)⟩
      · refine State.kept_forEach (t.fireRefuse pre [q] p) pre [q] l ?_
        rw [he, State.refuseAt, if_pos h6]
        simp
    · obtain ⟨g1, g2⟩ := ih (t.fireRefuse pre [q] p) h2 ((List.mem_cons.mp hr).resolve_left (Ne.symm hp))
      refine ⟨fun h6 hd => ?_, g2⟩
      have hdesc : (t.fireRefuse pre [q] p).reg (R.CFG_RGN_DESC r) = t.reg (R.CFG_RGN_DESC r) :=
        ((Regs.refl (· ≠ R.CFG_RGN_DESC r) t).fireRefuse _ _ _ (by simp only [R.CFG_RGN_STAT, R.CFG_RGN_DESC]; omega)
          fun off ho => by simp only [R.CFG_RGN_DESC]; omega).same
      obtain ⟨f1, f2⟩ := g1 h6 ((State.rgnDefined_of hdesc).trans hd)
      exact ⟨f1, f2.trans (State.fld_of_reg (Regs.fireRefuse_other h32 hp [q] pre) _)⟩

end

theorem refusedFiringChangesNothing : RefusedFiringChangesNothing := by
  intro q s hreqs hskm hno
  have hasked : s.askedRegions = (List.range 32).filter fun r => q.regions.contains r := by
    unfold State.askedRegions
    rw [hreqs]
    simp
  have hmem : ∀ r, r ∈ s.askedRegions ↔ r < 32 ∧ r ∈ q.regions := fun r => by
    rw [hasked]
    simp
  have hnone : s.firedRegions = [] := by
    unfold State.firedRegions
    rw [List.filter_eq_nil_iff]
    intro r hr
    obtain ⟨h32, hq⟩ := (hmem r).mp hr
    rw [hreqs, reqsFor_one hq]
    simpa using hno r hq h32
  obtain ⟨t, ht⟩ : ∃ t, t = ({ s with gate := { s.gate with reqs := [] } }).forEach s.askedRegions fun t r => t.fireRefuse s [q] r := ⟨_, rfl⟩
  have hjudged : s.judged = t := by
    unfold State.judged
    rw [hreqs, ht]
    simp [State.skmFired, hskm]
  have ho : Only [.csr, .ic, .err, .gate] s t := by
    rw [ht]
    exact ((Only.refl _ s).with_gate _).forEach _ fun _ _ h1 => h1.fireRefuse _ _ _
  have hgate : t.gate.reqs = [] := by
    rw [ht]
    exact Same.forEach (g := State.gateReqs) (s := { s with gate := { s.gate with reqs := [] } }) rfl _ fun u p h => h.trans (u.reqs_fireRefuse s [q] p)
  have hn : s.askedRegions.Nodup := by
    rw [hasked]
    exact List.nodup_range.filter _
  have hone : ∀ r ∈ q.regions, r < 32 → ∀ n, s.verdict q r = .refuse n → _ := fun r hr h32 n hv =>
    State.fireRefuse_forEach { s with gate := { s.gate with reqs := [] } } s hn h32 ((hmem r).mpr ⟨h32, hr⟩) hr hv
  rw [← ht] at hone
  refine ⟨t, ?_, ho.same .act, ho.same .shd, ho.same .rgn, ho.same .cross, hgate, fun r hr h32 hd n h6 hv => (hone r hr h32 n hv).1 h6 hd,
    fun r hr h32 hv => (hone r hr h32 6 hv).2 rfl, ho⟩
  refine (execFiring_eq s).trans ?_
  rw [hnone, hjudged]
  rfl

/-- Settles O14: a request by what `State.fireAct` and the strobe push, a refusal region by region. -/
theorem firingRequestsAndRefusals : Obligations.FiringRequestsAndRefusals := ⟨firingRequestsReachTheGate, refusedFiringChangesNothing⟩

end Sys2Proof.Machine
end

section
/-! ## Bound blocks at the firing edge and at their crossing (O15) -/

namespace Sys2Proof.Machine

-- Elaborated in order: side by side, so many short proofs would each hold a thread with its stack.
set_option Elab.async false

open Sys2Proof

/-- A register as it was, in effect and staged. -/
structure Stays (off : Nat) (s t : State) : Prop where
  reg : t.reg off = s.reg off
  staged : t.staged off = s.staged off

/-- A register whose staged fields are exchanged with those in effect (R251). -/
structure Exchanged (off : Nat) (s t : State) : Prop where
  reg : t.reg off &&& stgMask off = s.staged off &&& stgMask off
  staged : t.staged off &&& stgMask off = s.reg off &&& stgMask off

section
variable {s t u : State} {off : Nat}

theorem Stays.refl (off : Nat) (s : State) : Stays off s s := ⟨rfl, rfl⟩

theorem Stays.trans (h : Stays off s t) (k : Stays off t u) : Stays off s u := ⟨k.reg.trans h.reg, k.staged.trans h.staged⟩

theorem Stays.exchanged (h : Stays off s t) (k : Exchanged off t u) : Exchanged off s u :=
  ⟨by rw [k.reg, h.staged], by rw [k.staged, h.reg]⟩

theorem Exchanged.stays (h : Exchanged off s t) (k : Stays off t u) : Exchanged off s u :=
  ⟨by rw [k.reg, h.reg], by rw [k.staged, h.staged]⟩

/-- An operation that changes no staging copy and not this register. -/
theorem stays_of {ps : List Part} {P : Nat → Prop} (hr : Regs P s t) (ho : Only ps s t) (hp : ¬ P off) (hs : Part.stg ∉ ps := by decide) :
    Stays off s t :=
  ⟨hr off hp, congrArg (fun c => Tbl.get resetOf c off) (ho.same .stg hs)⟩

theorem Stays.exchangeReg (s : State) {off j : Nat} (h : j ≠ off) : Stays off s (s.exchangeReg j) := by
  refine ⟨((Regs.refl (· ≠ off) s).exchangeReg j h).same, ?_⟩
  unfold State.exchangeReg State.staged State.setStaged
  dsimp only
  rw [Tbl.get_set, if_neg (Ne.symm h)]
  rfl

theorem Exchanged.exchangeReg (s : State) (off : Nat) : Exchanged off s (s.exchangeReg off) := by
  have hreg : (s.exchangeReg off).reg off = (s.reg off &&& ~~~ stgMask off) ||| (s.staged off &&& stgMask off) := by
    show (s.setReg off ((s.reg off &&& ~~~ stgMask off) ||| (s.staged off &&& stgMask off))).reg off = _
    rw [State.reg_setReg, if_pos rfl]
  have hstg : (s.exchangeReg off).staged off = (s.staged off &&& ~~~ stgMask off) ||| (s.reg off &&& stgMask off) := by
    unfold State.exchangeReg State.staged State.setStaged
    dsimp only
    rw [Tbl.get_set, if_pos rfl]
  exact ⟨by rw [hreg]; exact merge_and_mask _ _ _, by rw [hstg]; exact merge_and_mask _ _ _⟩

theorem Stays.foldl {α : Type} {f : State → α → State} (l : List α) (h : Stays off s t) (hf : ∀ u x, x ∈ l → Stays off s u → Stays off s (f u x)) :
    Stays off s (l.foldl f t) := by
  induction l generalizing t with
  | nil => exact h
  | cons x l ih => exact ih (hf t x (by simp) h) fun u y hy => hf u y (by simp [hy])

/-- One register of a list without repetitions is exchanged once. -/
theorem exchanged_foldl {l : List Nat} (hn : l.Nodup) (h : off ∈ l) (s : State) : Exchanged off s (l.foldl State.exchangeReg s) := by
  induction l generalizing s with
  | nil => cases h
  | cons j l ih =>
    obtain ⟨h1, h2⟩ := List.nodup_cons.mp hn
    by_cases hj : j = off
    · subst hj
      refine (Exchanged.exchangeReg s j).stays (.foldl l (.refl _ _) fun u x hx hu => hu.trans (.exchangeReg u ?_))
      exact fun he => h1 (he ▸ hx)
    · exact (Stays.exchangeReg s hj).exchanged (ih h2 ((List.mem_cons.mp h).resolve_left (Ne.symm hj)) _)

theorem Stays.ite {c : Prop} [Decidable c] (h : Stays off s t) (k : Stays off s u) : Stays off s (if c then t else u) := by
  split
  · exact h
  · exact k

/-! What the settings of a quad and a lane leave. -/

section
variable {f : State → Nat → State} (hf : ∀ v j, j ≠ off → Stays off v (f v j)) (h5 : off / 0x10000 ≠ 5)
include hf h5

theorem Stays.quadLc {q : Nat} (hq : q < 36) (ho : off ∉ quadSettings q) (hi : off ≠ R.LQ_INT_STAT q) (t : State) : Stays off t (t.quadLc q f) := by
  have hne : ∀ j ∈ quadSettings q, j ≠ off := fun j hj he => ho (he ▸ hj)
  have h1 := hf t (R.LQ_CTRL q) (hne _ (by simp [quadSettings]))
  have h2 := h1.trans (hf _ (R.LQ_LCPLL q) (hne _ (by simp [quadSettings])))
  refine .ite (h2.trans (hf _ (R.LQ_LCFRAC q) (hne _ (by simp [quadSettings])))) ?_
  refine stays_of ((Regs.refl (· ≠ off) t).lqEvent _ _ _ _ (Ne.symm hi) (by omega) fun j hj => by omega) ((Only.refl [.csr, .ic, .err] t).lqEvent _ _ _ _)
    (not_not_intro rfl)

variable {q n : Nat} (hn : n < 144) (hi : off ≠ R.LN_INT_STAT n)
include hn hi

omit hf in
theorem Stays.lnEvent (t : State) (b c e : Nat) : Stays off t (t.lnEvent n b c e) :=
  stays_of ((Regs.refl (· ≠ off) t).lnEvent _ _ _ _ (Ne.symm hi) (by omega) fun j hj => by omega) ((Only.refl [.csr, .ic, .err] t).lnEvent _ _ _ _)
    (not_not_intro rfl)

theorem Stays.laneBefore (ho : off ∉ [R.LN_RATE n, R.LN_RPLL n, R.LN_RFRAC n, R.LN_TX_FFE n]) (t : State) :
    Stays off t ((t.laneRate q n f).laneFfe n f) := by
  have hne : ∀ j ∈ [R.LN_RATE n, R.LN_RPLL n, R.LN_RFRAC n, R.LN_TX_FFE n], j ≠ off := fun j hj he => ho (he ▸ hj)
  have hev : ∀ u b c e, Stays off u (u.lnEvent n b c e) := Stays.lnEvent h5 hn hi
  have h1 := hf t (R.LN_RATE n) (hne _ (by simp))
  have h2 := h1.trans (hf _ (R.LN_RPLL n) (hne _ (by simp)))
  have h3 : Stays off t (t.laneRate q n f) := .ite (h2.trans (hf _ (R.LN_RFRAC n) (hne _ (by simp)))) (hev _ _ _ _)
  exact .ite (h3.trans (hf _ (R.LN_TX_FFE n) (hne _ (by simp)))) (h3.trans (hev _ _ _ _))

theorem Stays.laneMode (hp : off ≠ R.PCS_LN_STAT n) (hm : off ≠ R.PCS_LN_MODE n) (t : State) : Stays off t (t.laneMode q n f) :=
  .ite (hf _ _ (Ne.symm hm)) (stays_of (((Regs.refl (· ≠ off) t).setFlag _ _ (Ne.symm hp)).pcsRecord _ _ _ (by omega) fun j hj => by omega)
    (((Only.refl [.csr, .ic, .err] t).setFlag _ _ _).pcsRecord _ _ _) (not_not_intro rfl))

theorem Stays.laneSet (ho : off ∉ laneSettings n) (hp : off ≠ R.PCS_LN_STAT n) (t : State) : Stays off t (t.laneSet q n f) := by
  have h1 : Stays off t ((t.laneRate q n f).laneFfe n f) := Stays.laneBefore hf h5 hn hi (fun hm => ho (by simp [laneSettings] at hm ⊢; omega)) t
  have h2 := h1.trans (hf _ (R.LN_RX_EQ n) fun he => ho (by simp [laneSettings, ← he]))
  exact h2.trans (Stays.laneMode hf h5 hn hi hp (fun he => ho (by simp [laneSettings, he])) _)

end

/-! A bound block leaves the registers that are not its own. -/

section
variable (h5 : off / 0x10000 ≠ 5)
include h5

theorem Stays.quadSet {q : Fin 36} (hb : ¬ Owns (.quad q) off) (t : State) : Stays off t (t.quadSet q State.exchangeReg) := by
  have hq := q.2
  have hno : ∀ j, Owns (.quad q) j → off ≠ j := fun j hj he => hb (he ▸ hj)
  have hf : ∀ v j, j ≠ off → Stays off v (v.exchangeReg j) := fun v _ => Stays.exchangeReg v
  rw [State.quadSet_eq]
  refine Stays.foldl _ (Stays.quadLc hf h5 hq (fun hm => hb (owns_quadSettings hm)) (hno _ ?_) t) fun u n hn hu => hu.trans ?_
  · simp only [Owns, R.LQ_INT_STAT]
    omega
  · have hn' := mem_lanesOf hn
    refine Stays.laneSet hf h5 (by omega) (hno _ ?_) (fun hm => hb (owns_laneSettings hn' hm)) (hno _ ?_) u
    all_goals
      simp only [Owns, R.LN_INT_STAT, R.PCS_LN_STAT]
      omega

omit h5 in
theorem staged_of_only {ps : List Part} (ho : Only ps s t) (hs : Part.stg ∉ ps := by decide) : t.staged off = s.staged off :=
  congrArg (fun c => Tbl.get resetOf c off) (ho.same .stg hs)

omit h5 in
theorem staged_grpFire (t : State) (g : Nat) : (t.grpFire g).staged off = (t.grpSet g State.exchangeReg).staged off := by
  unfold State.grpFire
  dsimp only
  split
  · exact staged_of_only ((Only.refl [.csr, .ic, .err] _).grpFault _ _ _)
  · rfl

omit h5 in
theorem staged_grpSet {g : Fin 16} (hb : ¬ Owns (.group g) off) (t : State) : (t.grpSet g State.exchangeReg).staged off = t.staged off := by
  have hno : ∀ j, Owns (.group g) j → j ≠ off := fun j hj he => hb (he ▸ hj)
  have h1 := Stays.exchangeReg t (hno (R.PCS_GRP_CTRL g) (by simp only [Owns, R.PCS_GRP_CTRL]; omega))
  have h2 := h1.trans (Stays.exchangeReg _ (hno (R.PCS_GRP_CFG g) (by simp only [Owns, R.PCS_GRP_CFG]; omega)))
  unfold State.grpSet
  dsimp only
  split
  · exact staged_of_only (((Only.refl [.csr, .ic, .err] t).grpEvent _ _).grpRecord _ _ _ _)
  · exact h2.staged

omit h5 in
theorem Stays.niTables {e : Fin 256} (hb : ¬ Owns (.ni e) off) (t : State) : Stays off t (t.niTables e State.exchangeReg) :=
  Stays.foldl _ (.refl _ _) fun u _ hj hu => hu.trans (Stays.exchangeReg u fun he => hb (he ▸ owns_tables hj))

/-- The registers of a sector's probe that an exchange takes. -/
def State.probeStagedRegs (t : State) (k : Nat) : List Nat :=
  probeRegs k ++ t.touched (0x3000000 + 0x10000 * k + 0x200) (0x3000000 + 0x10000 * k + 0x300) ++
    t.touched (0x3000000 + 0x10000 * k + 0x8000) (0x3000000 + 0x10000 * k + 0xD000)

/-- A probe before the exchange: a running capture is ended. -/
def State.probeReady (t : State) (k : Nat) : State :=
  let u := t.prbAbort k
  u.when ((u.probe k).oldLeft == 0 && u.prbSampling k) fun v => v.setProbe k { u.probe k with old := v.lanes k, oldLeft := 2 }

omit h5 in
theorem State.prbApply_eq (t : State) (k : Nat) (f : State → Nat → State) : t.prbApply k f =
    ((((t.probeReady k).probeStagedRegs k).foldl f (t.probeReady k)).countWrap (R.FAB_PRB_STAT k) F.FAB_PRB_STAT_APPLY_SEQ 1).settlePins := rfl

omit h5 in
theorem Stays.prbApply {k : Fin 32} (hb : ¬ Owns (.probe k) off) (t : State) : Stays off t (t.prbApply k State.exchangeReg) := by
  have hst : off ≠ R.FAB_PRB_STAT k := fun he => hb (by rw [he]; simp only [Owns, R.FAB_PRB_STAT]; omega)
  have h1 : Stays off t (t.probeReady k) := stays_of (((Regs.refl (· ≠ off) t).prbAbort _ (Ne.symm hst)).when _ fun _ h1 => h1.setProbe _ _)
    (((Only.refl [.csr, .fab] t).prbAbort _).when _ fun _ h1 => h1.setProbe _ _) (not_not_intro rfl)
  have h2 : Stays off (t.probeReady k) (((t.probeReady k).probeStagedRegs k).foldl State.exchangeReg (t.probeReady k)) :=
    Stays.foldl _ (.refl _ _) fun u j hj hu => hu.trans (Stays.exchangeReg u fun he => hb (he ▸ owns_probe hj))
  have h3 : ∀ u : State, Stays off u ((u.countWrap (R.FAB_PRB_STAT k) F.FAB_PRB_STAT_APPLY_SEQ 1).settlePins) := fun u =>
    stays_of (((Regs.refl (· ≠ off) u).countWrap _ _ _ (Ne.symm hst)).settlePins) (((Only.refl [.csr, .fab] u).countWrap _ _ _).settlePins)
      (not_not_intro rfl)
  rw [State.prbApply_eq]
  exact (h1.trans h2).trans (h3 _)

omit h5 in
theorem staged_with_cross (u : State) (x : List Bound) (off : Nat) : { u with cross := x }.staged off = u.staged off := rfl

theorem Stays.fireBound {b : Bound} (hb : ¬ Owns b off) (t : State) : Stays off t (t.fireBound b) := by
  refine ⟨((Regs.refl (· ≠ off) t).fireBound b (fun j hj he => hb (he ▸ hj)) fun j hj he => h5 (he ▸ hj)).same, ?_⟩
  cases b with
  | quad q => exact (staged_with_cross (t.quadSet q State.exchangeReg) _ off).trans (Stays.quadSet h5 hb t).staged
  | group g => exact (staged_with_cross (t.grpFire g) _ off).trans ((staged_grpFire t g).trans (staged_grpSet hb t))
  | ni e => exact (staged_with_cross (t.niTables e State.exchangeReg) _ off).trans (Stays.niTables hb t).staged
  | probe k => exact (Stays.prbApply hb t).staged

end

/-! What a bound block exchanges. -/

theorem owns_unique {b c : Bound} (hb : Owns b off) (hc : Owns c off) : b = c := by
  cases b with
  | quad q =>
    cases c with
    | quad p => exact congrArg _ (Fin.ext (by simp only [Owns] at hb hc; omega))
    | group g => simp only [Owns] at hb hc; omega
    | ni e => simp only [Owns] at hb hc; omega
    | probe k => simp only [Owns] at hb hc; omega
  | group g =>
    cases c with
    | quad p => simp only [Owns] at hb hc; omega
    | group p => exact congrArg _ (Fin.ext (by simp only [Owns] at hb hc; omega))
    | ni e => simp only [Owns] at hb hc; omega
    | probe k => simp only [Owns] at hb hc; omega
  | ni e =>
    cases c with
    | quad p => simp only [Owns] at hb hc; omega
    | group p => simp only [Owns] at hb hc; omega
    | ni p => exact congrArg _ (Fin.ext (by simp only [Owns] at hb hc; omega))
    | probe k => simp only [Owns] at hb hc; omega
  | probe k =>
    cases c with
    | quad p => simp only [Owns] at hb hc; omega
    | group p => simp only [Owns] at hb hc; omega
    | ni p => simp only [Owns] at hb hc; omega
    | probe p => exact congrArg _ (Fin.ext (by simp only [Owns] at hb hc; omega))

theorem nodup_eraseDups (l : List Nat) : l.eraseDups.Nodup := by
  match l with
  | [] => simp
  | a :: as =>
    rw [List.eraseDups_cons, List.nodup_cons, List.mem_eraseDups]
    exact ⟨by simp, nodup_eraseDups _⟩
termination_by l.length
decreasing_by
  have := List.length_filter_le (fun b => !b == a) as
  simp only [List.length_cons]
  omega

theorem exchanged_niTables {e : Fin 256} (hw : 0x500000 + 0x1000 * e + 0x800 ≤ off ∧ off < 0x500000 + 0x1000 * e + 0x1000) (t : State) :
    Exchanged off t (t.niTables e State.exchangeReg) := by
  by_cases h : off ∈ t.touched (0x500000 + 0x1000 * e + 0x800) (0x500000 + 0x1000 * e + 0x1000)
  · exact exchanged_foldl (nodup_eraseDups _) h t
  · have hkey : off ∉ (t.stg.map fun p => p.1) ++ t.csr.map fun p => p.1 := fun hm => h (by
      unfold State.touched
      exact List.mem_eraseDups.mpr (List.mem_filter.mpr ⟨hm, by simpa using hw⟩))
    have hs : t.staged off = resetOf off := Tbl.get_of_absent fun p hp he => hkey (List.mem_append_left _ (List.mem_map.mpr ⟨p, hp, he⟩))
    have hr : t.reg off = resetOf off := Tbl.get_of_absent fun p hp he => hkey (List.mem_append_right _ (List.mem_map.mpr ⟨p, hp, he⟩))
    have hself : Exchanged off t t := ⟨by rw [hs, hr], by rw [hs, hr]⟩
    exact hself.stays (Stays.foldl _ (.refl _ _) fun u j hj hu => hu.trans (Stays.exchangeReg u fun he => h (he ▸ hj)))

/-- A list without repetitions around one of its members. -/
theorem split_of_mem {α : Type} {l : List α} (hn : l.Nodup) {x : α} (h : x ∈ l) : ∃ a c, l = a ++ x :: c ∧ ∀ y ∈ a ++ c, y ∈ l ∧ y ≠ x := by
  obtain ⟨a, c, rfl⟩ := List.append_of_mem h
  obtain ⟨-, h2, h3⟩ := List.nodup_append.mp hn
  refine ⟨a, c, rfl, fun y hy => ?_⟩
  rcases List.mem_append.mp hy with hy | hy
  · exact ⟨by simp [hy], h3 y hy x (by simp)⟩
  · exact ⟨by simp [hy], fun he => (List.nodup_cons.mp h2).1 (he ▸ hy)⟩

theorem exchanged_quadSet {q n : Nat} (hq : q < 36) (hn : n / 4 = q) (t : State) : Exchanged (R.LN_RX_EQ n) t (t.quadSet q State.exchangeReg) := by
  have hf : ∀ v j, j ≠ R.LN_RX_EQ n → Stays (R.LN_RX_EQ n) v (v.exchangeReg j) := fun v _ => Stays.exchangeReg v
  have h5 : R.LN_RX_EQ n / 0x10000 ≠ 5 := by simp only [R.LN_RX_EQ]; omega
  have hint : ∀ m, R.LN_RX_EQ n ≠ R.LN_INT_STAT m := fun m => by simp only [R.LN_RX_EQ, R.LN_INT_STAT]; omega
  have hpcs : ∀ m, R.LN_RX_EQ n ≠ R.PCS_LN_STAT m := fun m => by simp only [R.LN_RX_EQ, R.PCS_LN_STAT]; omega
  have hother : ∀ u m, m < 144 → m ≠ n → Stays (R.LN_RX_EQ n) u (u.laneSet q m State.exchangeReg) := fun u m hm hne => by
    have ho : R.LN_RX_EQ n ∉ laneSettings m := by
      simp only [laneSettings, List.mem_cons, List.not_mem_nil, or_false, R.LN_RATE, R.LN_RPLL, R.LN_RFRAC, R.LN_TX_FFE, R.LN_RX_EQ, R.PCS_LN_MODE]
      omega
    exact Stays.laneSet hf h5 hm (hint m) ho (hpcs m) u
  have hself : ∀ u : State, Exchanged (R.LN_RX_EQ n) u (u.laneSet q n State.exchangeReg) := fun u => by
    have ho : R.LN_RX_EQ n ∉ [R.LN_RATE n, R.LN_RPLL n, R.LN_RFRAC n, R.LN_TX_FFE n] := by
      simp only [List.mem_cons, List.not_mem_nil, or_false, R.LN_RATE, R.LN_RPLL, R.LN_RFRAC, R.LN_TX_FFE, R.LN_RX_EQ]
      omega
    have hm : R.LN_RX_EQ n ≠ R.PCS_LN_MODE n := by simp only [R.LN_RX_EQ, R.PCS_LN_MODE]; omega
    have h1 : Stays (R.LN_RX_EQ n) u ((u.laneRate q n State.exchangeReg).laneFfe n State.exchangeReg) :=
      Stays.laneBefore hf h5 (by omega) (hint _) ho u
    exact (h1.exchanged (Exchanged.exchangeReg _ _)).stays (Stays.laneMode hf h5 (by omega) (hint _) (hpcs _) hm _)
  have hlc : Stays (R.LN_RX_EQ n) t (t.quadLc q State.exchangeReg) := by
    have ho : R.LN_RX_EQ n ∉ quadSettings q := by
      simp only [quadSettings, List.mem_cons, List.not_mem_nil, or_false, R.LN_RX_EQ, R.LQ_CTRL, R.LQ_LCPLL, R.LQ_LCFRAC]
      omega
    exact Stays.quadLc hf h5 hq ho (by simp only [R.LN_RX_EQ, R.LQ_INT_STAT]; omega) t
  have hnd : ((List.range 4).map fun l => 4 * q + l).Nodup := List.nodup_range.map fun x y h => Nat.add_left_cancel h
  have hmem : n ∈ (List.range 4).map fun l => 4 * q + l := List.mem_map.mpr ⟨n % 4, List.mem_range.mpr (Nat.mod_lt _ (by decide)), by omega⟩
  obtain ⟨a, c, he, hac⟩ := split_of_mem hnd hmem
  have hlt : ∀ m ∈ a ++ c, m < 144 := fun m hm => by
    have := mem_lanesOf (hac m hm).1
    omega
  rw [State.quadSet_eq, he, State.forEach_append]
  have hleft := Stays.foldl (off := R.LN_RX_EQ n) a (.refl _ (t.quadLc q State.exchangeReg)) fun u m hm hu =>
    hu.trans (hother u m (hlt m (by simp [hm])) (hac m (by simp [hm])).2)
  have hright := fun v : State => Stays.foldl (off := R.LN_RX_EQ n) c (.refl _ v) fun u m hm hu =>
    hu.trans (hother u m (hlt m (by simp [hm])) (hac m (by simp [hm])).2)
  exact (hlc.trans hleft).exchanged ((hself _).stays (hright _))

/-- A group staged off exchanges both its registers and is off. -/
theorem exchanged_grpFire (g : Fin 16) (t : State) (hen : (t.staged (R.PCS_GRP_CTRL g)).fget F.PCS_GRP_CTRL_EN = 0) :
    Exchanged (R.PCS_GRP_CFG g) t (t.grpFire g) ∧ (t.grpFire g).grpOn g = false := by
  have hg := g.2
  have hset : t.grpSet g State.exchangeReg = (t.exchangeReg (R.PCS_GRP_CTRL g)).exchangeReg (R.PCS_GRP_CFG g) := by
    unfold State.grpSet
    dsimp only
    rw [hen]
    rfl
  have hfault : ∀ off, off = R.PCS_GRP_CFG g ∨ off = R.PCS_GRP_CTRL g → Stays off (t.grpSet g State.exchangeReg) (t.grpFire g) := fun off ho => by
    refine .ite (stays_of ((Regs.refl (· ≠ off) _).grpFault _ _ _ ?_ ?_ (by omega) (fun j hj => ?_) ?_) ((Only.refl [.csr, .ic, .err] _).grpFault _ _ _)
      (not_not_intro rfl)) (.refl _ _)
    all_goals
      simp only [R.PCS_GRP_CFG, R.PCS_GRP_CTRL, R.PCS_GRP_STAT, R.PCS_GRP_FAULTS, R.PCS_GRP_INT_STAT] at ho ⊢
      omega
  have hne : R.PCS_GRP_CTRL g ≠ R.PCS_GRP_CFG g := by simp only [R.PCS_GRP_CTRL, R.PCS_GRP_CFG]; omega
  refine ⟨Exchanged.stays ?_ (hfault _ (.inl rfl)), ?_⟩
  · rw [hset]
    exact (Stays.exchangeReg t hne).exchanged (Exchanged.exchangeReg _ _)
  · have hm : ∀ g : Fin 16, stgMask (R.PCS_GRP_CTRL g) = 2 := by decide
    have hreg : (t.grpFire g).reg (R.PCS_GRP_CTRL g) = (t.exchangeReg (R.PCS_GRP_CTRL g)).reg (R.PCS_GRP_CTRL g) := by
      rw [(hfault _ (.inr rfl)).reg, hset]
      exact (Stays.exchangeReg _ hne.symm).reg
    have hval : (t.exchangeReg (R.PCS_GRP_CTRL g)).reg (R.PCS_GRP_CTRL g) =
        (t.reg (R.PCS_GRP_CTRL g) &&& ~~~ 2) ||| (t.staged (R.PCS_GRP_CTRL g) &&& 2) := by
      rw [← hm g]
      show (t.setReg (R.PCS_GRP_CTRL g) _).reg (R.PCS_GRP_CTRL g) = _
      rw [State.reg_setReg, if_pos rfl]
    rw [State.grpOn, State.flag, State.fld, hreg, hval, fget_merge_picked _ _ (by decide), hen]
    rfl

theorem State.mem_probeStagedRegs {k j : Nat} (h : j ∈ t.probeStagedRegs k) : j ∈ probeRegs k ∨
    (0x3000000 + 0x10000 * k + 0x200 ≤ j ∧ j < 0x3000000 + 0x10000 * k + 0x300) ∨
    (0x3000000 + 0x10000 * k + 0x8000 ≤ j ∧ j < 0x3000000 + 0x10000 * k + 0xD000) := by
  rcases List.mem_append.mp h with h | h
  · exact (List.mem_append.mp h).imp id fun h => .inl (State.mem_touched h)
  · exact .inr (.inr (State.mem_touched h))

theorem State.nodup_probeStagedRegs (t : State) (k : Nat) : (t.probeStagedRegs k).Nodup := by
  have hrange : ∀ j ∈ probeRegs k, j < 0x3000000 + 0x10000 * k + 0x200 := fun j hj => by
    simp only [probeRegs, List.mem_cons, List.not_mem_nil, or_false, R.FAB_PRB_CTRL, R.FAB_PRB_CAP, R.FAB_PRB_MASK_LO, R.FAB_PRB_MASK_HI,
      R.FAB_PRB_VAL_LO, R.FAB_PRB_VAL_HI] at hj
    omega
  have hprobe : (probeRegs k).Nodup := by
    simp [probeRegs, R.FAB_PRB_CTRL, R.FAB_PRB_CAP, R.FAB_PRB_MASK_LO, R.FAB_PRB_MASK_HI, R.FAB_PRB_VAL_LO, R.FAB_PRB_VAL_HI]
  refine List.nodup_append.mpr ⟨List.nodup_append.mpr ⟨hprobe, nodup_eraseDups _, fun a ha b hb he => ?_⟩, nodup_eraseDups _, fun a ha b hb he => ?_⟩
  · have h1 := hrange a ha
    have h2 := State.mem_touched hb
    omega
  · have h2 := State.mem_touched hb
    rcases List.mem_append.mp ha with ha | ha
    · have h1 := hrange a ha
      omega
    · have h1 := State.mem_touched ha
      omega

/-- A probe's capture register is exchanged and the exchange counts. -/
theorem exchanged_prbApply (k : Fin 32) (t : State) : Exchanged (R.FAB_PRB_CAP k) t (t.prbApply k State.exchangeReg) ∧
    (t.prbApply k State.exchangeReg).fld (R.FAB_PRB_STAT k) F.FAB_PRB_STAT_APPLY_SEQ =
      (t.fld (R.FAB_PRB_STAT k) F.FAB_PRB_STAT_APPLY_SEQ + 1) % 256 := by
  have hne : R.FAB_PRB_STAT k ≠ R.FAB_PRB_CAP k := by simp only [R.FAB_PRB_STAT, R.FAB_PRB_CAP]; omega
  have hready : Stays (R.FAB_PRB_CAP k) t (t.probeReady k) :=
    stays_of (((Regs.refl (· ≠ R.FAB_PRB_CAP k) t).prbAbort _ hne).when _ fun _ h1 => h1.setProbe _ _)
      (((Only.refl [.csr, .fab] t).prbAbort _).when _ fun _ h1 => h1.setProbe _ _) (not_not_intro rfl)
  have hseq : (t.probeReady k).fld (R.FAB_PRB_STAT k) F.FAB_PRB_STAT_APPLY_SEQ = t.fld (R.FAB_PRB_STAT k) F.FAB_PRB_STAT_APPLY_SEQ := by
    have h1 : (t.probeReady k).reg (R.FAB_PRB_STAT k) = (t.prbAbort k).reg (R.FAB_PRB_STAT k) :=
      ((Regs.refl (fun _ => False) (t.prbAbort k)).when _ fun _ h1 => h1.setProbe _ _) _ id
    rw [State.fld_of_reg h1]
    unfold State.prbAbort State.when
    split
    · exact State.fld_setFld_fld _ _ _ _ _ (by decide)
    · rfl
  have hnd := (t.probeReady k).nodup_probeStagedRegs k
  have hmem : R.FAB_PRB_CAP k ∈ (t.probeReady k).probeStagedRegs k := by simp [State.probeStagedRegs, probeRegs]
  have hstat : R.FAB_PRB_STAT k ∉ (t.probeReady k).probeStagedRegs k := fun hm => by
    rcases State.mem_probeStagedRegs hm with h | h
    · simp [probeRegs, R.FAB_PRB_STAT, R.FAB_PRB_CTRL, R.FAB_PRB_CAP, R.FAB_PRB_MASK_LO, R.FAB_PRB_MASK_HI, R.FAB_PRB_VAL_LO, R.FAB_PRB_VAL_HI] at h
    · simp only [R.FAB_PRB_STAT] at h
      omega
  have hfold : (((t.probeReady k).probeStagedRegs k).foldl State.exchangeReg (t.probeReady k)).reg (R.FAB_PRB_STAT k) =
      (t.probeReady k).reg (R.FAB_PRB_STAT k) :=
    (Stays.foldl (off := R.FAB_PRB_STAT k) _ (.refl _ _) fun u j hj hu => hu.trans (Stays.exchangeReg u fun he => hstat (he ▸ hj))).reg
  have hend : ∀ u : State, Stays (R.FAB_PRB_CAP k) u ((u.countWrap (R.FAB_PRB_STAT k) F.FAB_PRB_STAT_APPLY_SEQ 1).settlePins) := fun u =>
    stays_of (((Regs.refl (· ≠ R.FAB_PRB_CAP k) u).countWrap _ _ _ hne).settlePins) (((Only.refl [.csr, .fab] u).countWrap _ _ _).settlePins)
      (not_not_intro rfl)
  rw [State.prbApply_eq]
  refine ⟨(hready.exchanged (exchanged_foldl hnd hmem _)).stays (hend _), ?_⟩
  rw [State.fld_of_reg (((Regs.refl (fun _ => False) _).settlePins) _ id), State.countWrap, State.fld_setFld _ _ _ _ (by decide),
    State.fld_of_reg hfold, hseq]
  rfl

end

/-! From the state before the edge to the exchange, and from the exchange to the end of the edge. -/

theorem Regs.holdAll_mem {P : Nat → Prop} {s t : State} (h : Regs P s t) (rs : List Nat) (p1 : ∀ i, P (R.FAB_BUS_VAL_LO i))
    (p2 : ∀ i, P (R.FAB_BUS_VAL_HI i)) (p3 : ∀ r ∈ rs, P (R.CFG_RGN_STAT r)) : Regs P s (t.holdAll rs) :=
  .ite h (Regs.foldl_mem ((h.forEach _ fun _ _ h1 => h1.keepLines _ (p1 _) (p2 _)).forEach _ fun _ _ h1 => h1.holdCells _ _) _
    fun _ _ hr h1 => h1.setFlag _ _ (p3 _ (List.mem_filter.mp hr).1)).dropStarts

/-- A register of a block beyond the column's own, and none of the lines, probe states or counters that a firing changes. -/
def Calm (off : Nat) : Prop := 0x500000 ≤ off ∧
  ∀ k, off ≠ R.FAB_BUS_VAL_LO k ∧ off ≠ R.FAB_BUS_VAL_HI k ∧ off ≠ R.FAB_PRB_STAT k ∧ off ≠ R.FAB_PLANE_FIRES k

section
variable {s : State} (hskm : ∀ q ∈ s.gate.reqs, q.skm = none)
include hskm

/-- Without a request of a Skemer engine the edge's judgement is its refusals alone. -/
theorem State.judged_refusals : s.judged = ({ s with gate := { s.gate with reqs := [] } }).forEach s.askedRegions fun t r =>
    t.fireRefuse s s.gate.reqs r := by
  unfold State.judged
  generalize ({ s with gate := { s.gate with reqs := [] } }).forEach s.askedRegions (fun t r => t.fireRefuse s s.gate.reqs r) = t
  have h : ∀ l : List FireReq, (∀ q ∈ l, q.skm = none) → l.foldl (fun t q => t.skmFired s.firedRegions q) t = t := fun l hl => by
    induction l generalizing t with
    | nil => rfl
    | cons q l ih =>
      rw [List.foldl_cons, show t.skmFired s.firedRegions q = t by unfold State.skmFired; rw [hl q (by simp)]]
      exact ih t fun q hq => hl q (by simp [hq])
  exact h _ hskm

theorem stays_toFire {off : Nat} (h : 0x500000 ≤ off ∧ ∀ k, off ≠ R.FAB_BUS_VAL_LO k ∧ off ≠ R.FAB_BUS_VAL_HI k) : Stays off s s.toFire := by
  obtain ⟨hlo, hk⟩ := h
  have hr : Regs (· ≠ off) s s.toFire := by
    unfold State.toFire
    rw [State.judged_refusals hskm]
    have hne : ∀ r < 32, R.CFG_RGN_STAT r ≠ off := fun r hr => by
      simp only [R.CFG_RGN_STAT]
      omega
    have hasked : ∀ r ∈ s.askedRegions, r < 32 := fun r hr => List.mem_range.mp (List.mem_filter.mp hr).1
    exact Regs.holdAll_mem (Regs.foldl_mem ((Regs.refl _ s).with_gate _) _ fun _ r hr h1 => h1.fireRefuse _ _ _ (hne r (hasked r hr))
      fun j hj => by omega) _ (fun i => Ne.symm (hk i).1) (fun i => Ne.symm (hk i).2) fun r hr => hne r (s.firedRegions_lt hr)
  exact stays_of hr s.toFire_only (not_not_intro rfl)

theorem stays_exchanged {off : Nat} (h : Calm off) : Stays off s s.exchanged := by
  obtain ⟨hlo, hk⟩ := h
  refine (stays_toFire hskm ⟨hlo, fun k => ⟨(hk k).1, (hk k).2.1⟩⟩).trans (stays_of (P := (· ≠ off)) ?_ s.exchanged_only (not_not_intro rfl))
  refine Regs.foldl_mem (Regs.refl _ _) _ fun _ r hr h1 => ?_
  have h32 := s.firedRegions_lt hr
  refine h1.fireRegion _ (fun i => Ne.symm (hk i).2.2.1) ?_ ?_ ?_ ?_ ?_ ?_ ?_
  all_goals
    simp only [R.CLK_FPLL_LOCK, R.CFG_RGN_GEN, R.SCR_RGN_MAP, R.CFG_RGN_STAT, R.CFG_RGN_COUNT, R.SCR_STAT, R.SCR_RGN_FLAG]
    omega

/-- The exchanges that a sector's probe has counted. -/
def State.applySeq (k : Nat) (s : State) : Nat := s.fld (R.FAB_PRB_STAT k) F.FAB_PRB_STAT_APPLY_SEQ

omit hskm in
theorem Same.applySeq_prbAbort {t u : State} {k : Nat} (h : Same (State.applySeq k) t u) (j : Nat) : Same (State.applySeq k) t (u.prbAbort j) := by
  refine h.when _ fun v hv => Eq.trans ?_ hv
  by_cases hj : k = j
  · rw [hj]
    exact State.fld_setFld_fld _ _ _ _ _ (by decide)
  · exact State.fld_setFld_off _ _ _ _ _ _ (by simp only [R.FAB_PRB_STAT]; omega)

omit hskm in
theorem Same.applySeq_fireRegion (t : State) {r : Nat} (hr : r < 32) (k : Nat) : Same (State.applySeq k) t (t.fireRegion r) := by
  have h1 : Same (State.applySeq k) t (t.fireProbes r) := Same.forEach rfl _ fun _ _ h1 => h1.when _ fun _ h2 => h2.applySeq_prbAbort _
  have h2 : (t.firedElements r).reg (R.FAB_PRB_STAT k) = (t.fireProbes r).reg (R.FAB_PRB_STAT k) :=
    ((((Regs.refl (· ≠ R.FAB_PRB_STAT k) _).fireFabric _ _).fireFfs _ _).fireClocks _ (by simp only [R.CLK_FPLL_LOCK, R.FAB_PRB_STAT]; omega)).same
  have h3 : (t.fireRegion r).reg (R.FAB_PRB_STAT k) = (t.firedElements r).reg (R.FAB_PRB_STAT k) := by
    rw [State.fireRegion_eq]
    have hm := (State.firedRegs_regs (((t.firedElements r).swapPlanes r).setRg r (t.firedRgn r)) t r) (R.FAB_PRB_STAT k) (by
      simp only [RgnMoved, R.FAB_PRB_STAT, R.CFG_RGN_STAT, R.CFG_RGN_GEN, R.CFG_RGN_COUNT, R.SCR_RGN_MAP]
      omega)
    exact ((Regs.refl (· ≠ R.FAB_PRB_STAT k) _).scrubForget r (by simp only [R.SCR_STAT, R.FAB_PRB_STAT]; omega)
      (by simp only [R.SCR_RGN_FLAG, R.FAB_PRB_STAT]; omega)).same.trans hm
  exact (State.fld_of_reg (h3.trans h2) _).trans h1

theorem exchanged_applySeq (k : Fin 32) : s.exchanged.applySeq k = s.applySeq k := by
  have h1 : s.toFire.applySeq k = s.applySeq k := State.fld_of_reg (stays_toFire hskm (off := R.FAB_PRB_STAT k) (by
    simp only [R.FAB_PRB_STAT, R.FAB_BUS_VAL_LO, R.FAB_BUS_VAL_HI]
    exact ⟨by omega, fun k => by omega⟩)).reg _
  have h2 : ∀ l : List Nat, (∀ r ∈ l, r < 32) → ∀ t : State, (t.forEach l fun t r => t.fireRegion r).applySeq k = t.applySeq k := fun l hl => by
    induction l with
    | nil => exact fun _ => rfl
    | cons r l ih => exact fun t => (ih (fun q hq => hl q (by simp [hq])) _).trans (Same.applySeq_fireRegion t (hl r (by simp)) k)
  exact (h2 _ (fun _ hr => s.firedRegions_lt hr) _).trans h1

end

theorem stays_fireDone (s : State) {off : Nat} (hc : OffCfg off) (h : ∀ k, off ≠ R.FAB_PLANE_FIRES k) :
    Stays off (s.exchanged.forEach s.firedBounds fun t b => t.fireBound b) s.fireDone := by
  have hn : ¬ (¬ OffCfg off ∨ ∃ k, off = R.FAB_PLANE_FIRES k) := fun hh => hh.elim (fun h' => h' hc) fun ⟨k, hk⟩ => h k hk
  refine stays_of (P := fun off => ¬ OffCfg off ∨ ∃ k, off = R.FAB_PLANE_FIRES k) ?_ ((((((Only.refl [.csr, .fab] _).dropStarts)).trans
    ((s.fireCounted_only _).mono (by simp))).setReg _ _).fireTime) hn
  unfold State.fireDone State.fireCounted State.boundFired
  exact Regs.fireTime (((((Regs.refl _ _).dropStarts.forEach _ fun _ k h1 => h1.countWrap _ _ _ (.inr ⟨k, rfl⟩)).countWrap _ _ _ (.inl (not_not_intro rfl))).setFld _ _
    (.inl (not_not_intro rfl))).setReg _ (.inl (not_not_intro rfl))) (.inl (not_not_intro rfl)) (.inl (not_not_intro rfl))

theorem nodup_allBounds : allBounds.Nodup := by
  have hf : ∀ (n : Nat) (f : Fin n → Bound), Function.Injective f → ((List.finRange n).map f).Nodup := fun n f hf => (List.nodup_finRange n).map hf
  unfold allBounds
  refine List.nodup_append.mpr ⟨List.nodup_append.mpr ⟨List.nodup_append.mpr ⟨hf _ _ fun a b h => Bound.quad.inj h, hf _ _ fun a b h => Bound.group.inj h, ?_⟩,
    hf _ _ fun a b h => Bound.ni.inj h, ?_⟩, hf _ _ fun a b h => Bound.probe.inj h, ?_⟩
  all_goals
    intro a ha b hb he
    simp only [List.mem_append, List.mem_map, List.mem_finRange, true_and] at ha hb
    subst he
    obtain ⟨x, rfl⟩ := hb
    simp at ha

section
variable {s : State} {off : Nat} {b : Bound} {r : Nat}

/-- The fold over the blocks bound to a firing region, around one of them. -/
theorem boundFold_split (hr : FiresNow s r) (hb : s.isBound r b = true) : ∃ u v : State,
    (∀ off, Owns b off → off / 0x10000 ≠ 5 → Stays off s.exchanged u ∧ Stays off (u.fireBound b) v) ∧
    v = s.exchanged.forEach s.firedBounds fun t b => t.fireBound b := by
  have hmem : b ∈ s.firedBounds := List.mem_filter.mpr ⟨mem_allBounds b, List.any_eq_true.mpr ⟨r, s.mem_firedRegions.mpr hr, hb⟩⟩
  obtain ⟨a, c, he, hac⟩ := split_of_mem (nodup_allBounds.filter _) hmem
  refine ⟨s.exchanged.forEach a fun t b => t.fireBound b, ((s.exchanged.forEach a fun t b => t.fireBound b).fireBound b).forEach c fun t b => t.fireBound b,
    fun off ho h5 => ⟨?_, ?_⟩, ?_⟩
  · exact Stays.foldl a (.refl _ _) fun u x hx hu => hu.trans (Stays.fireBound h5 (fun h => (hac x (by simp [hx])).2 (owns_unique h ho)) u)
  · exact Stays.foldl c (.refl _ _) fun u x hx hu => hu.trans (Stays.fireBound h5 (fun h => (hac x (by simp [hx])).2 (owns_unique h ho)) u)
  · rw [show s.firedBounds = a ++ b :: c from he, State.forEach_append]
    rfl

theorem exchanged_fireDone (hskm : ∀ q ∈ s.gate.reqs, q.skm = none) (hr : FiresNow s r) (hb : s.isBound r b = true) (ho : Owns b off) (hc : Calm off)
    (h : ∀ u : State, u.staged off = s.staged off → Exchanged off u (u.fireBound b)) : Exchanged off s s.fireDone := by
  have h5 : off / 0x10000 ≠ 5 := by have := hc.1; omega
  obtain ⟨u, v, huv, hv⟩ := boundFold_split hr hb
  obtain ⟨h1, h2⟩ := huv off ho h5
  have h0 := (stays_exchanged hskm hc).trans h1
  exact ((h0.exchanged (h u h0.staged)).stays h2).stays (hv ▸ stays_fireDone s (owns_offCfg ho) fun k => (hc.2 k).2.2.2)

end

theorem Stays.with_cross (v : State) (x : List Bound) (off : Nat) : Stays off v { v with cross := x } := ⟨rfl, rfl⟩

theorem calm_of_low {off : Nat} (h1 : 0x500000 ≤ off) (h2 : off < 0x3000000) : Calm off := ⟨h1, fun k => by
  simp only [R.FAB_BUS_VAL_LO, R.FAB_BUS_VAL_HI, R.FAB_PRB_STAT, R.FAB_PLANE_FIRES]
  omega⟩

theorem calm_prbCap (k : Nat) : Calm (R.FAB_PRB_CAP k) := by
  simp only [Calm, R.FAB_PRB_CAP, R.FAB_BUS_VAL_LO, R.FAB_BUS_VAL_HI, R.FAB_PRB_STAT, R.FAB_PLANE_FIRES]
  exact ⟨by omega, fun j => by omega⟩

section
variable {s : State} {r : Nat} (hskm : ∀ q ∈ s.gate.reqs, q.skm = none) (hr : FiresNow s r)
include hskm hr

theorem exchanged_route {e : Fin 256} (hb : s.isBound r (.ni e) = true) {off : Nat}
    (ho : 0x500000 + 0x1000 * e.val + 0x800 ≤ off ∧ off < 0x500000 + 0x1000 * e.val + 0x1000) : Exchanged off s s.fireDone := by
  have he := e.2
  refine exchanged_fireDone hskm hr hb (by simp only [Owns]; omega) (calm_of_low (by omega) (by omega)) fun u _ => ?_
  exact (exchanged_niTables ho u).stays (.with_cross _ _ _)

theorem exchanged_equaliser {q : Fin 36} (hb : s.isBound r (.quad q) = true) {n : Nat} (hn : n / 4 = q) : Exchanged (R.LN_RX_EQ n) s s.fireDone := by
  have hq := q.2
  refine exchanged_fireDone hskm hr hb (by simp only [Owns, R.LN_RX_EQ]; omega) (calm_of_low (by simp only [R.LN_RX_EQ]; omega)
    (by simp only [R.LN_RX_EQ]; omega)) fun u _ => ?_
  exact (exchanged_quadSet hq hn u).stays (.with_cross _ _ _)

theorem exchanged_group {g : Fin 16} (hb : s.isBound r (.group g) = true) (hen : (s.staged (R.PCS_GRP_CTRL g)).fget F.PCS_GRP_CTRL_EN = 0) :
    Exchanged (R.PCS_GRP_CFG g) s s.fireDone ∧ s.fireDone.grpOn g = false := by
  have hg := g.2
  have hown : Owns (.group g) (R.PCS_GRP_CTRL g) := by simp only [Owns, R.PCS_GRP_CTRL]; omega
  have hown' : Owns (.group g) (R.PCS_GRP_CFG g) := by simp only [Owns, R.PCS_GRP_CFG]; omega
  have h5 : R.PCS_GRP_CTRL g / 0x10000 ≠ 5 := by simp only [R.PCS_GRP_CTRL]; omega
  have h5' : R.PCS_GRP_CFG g / 0x10000 ≠ 5 := by simp only [R.PCS_GRP_CFG]; omega
  have hc : Calm (R.PCS_GRP_CTRL g) := calm_of_low (by simp only [R.PCS_GRP_CTRL]; omega) (by simp only [R.PCS_GRP_CTRL]; omega)
  have hc' : Calm (R.PCS_GRP_CFG g) := calm_of_low (by simp only [R.PCS_GRP_CFG]; omega) (by simp only [R.PCS_GRP_CFG]; omega)
  obtain ⟨u, v, huv, hv⟩ := boundFold_split hr hb
  obtain ⟨h1, h2⟩ := huv _ hown h5
  obtain ⟨h1', h2'⟩ := huv _ hown' h5'
  have henu : (u.staged (R.PCS_GRP_CTRL g)).fget F.PCS_GRP_CTRL_EN = 0 := by
    rw [((stays_exchanged hskm hc).trans h1).staged]
    exact hen
  obtain ⟨hx, hoff⟩ := exchanged_grpFire g u henu
  have hd := stays_fireDone s (owns_offCfg hown) fun k => (hc.2 k).2.2.2
  have hd' := stays_fireDone s (owns_offCfg hown') fun k => (hc'.2 k).2.2.2
  rw [← hv] at hd hd'
  refine ⟨(((stays_exchanged hskm hc').trans h1').exchanged ((hx.stays (.with_cross _ _ _)).stays h2')).stays hd', ?_⟩
  refine (State.flag_of_reg (hd.reg.trans h2.reg) _).trans ?_
  exact hoff

theorem exchanged_probe {k : Fin 32} (hb : s.isBound r (.probe k) = true) : Exchanged (R.FAB_PRB_CAP k) s s.fireDone ∧
    s.fireDone.applySeq k = (s.applySeq k + 1) % 256 := by
  have hk := k.2
  have hown : Owns (.probe k) (R.FAB_PRB_CAP k) := by simp only [Owns, R.FAB_PRB_CAP]; omega
  have hown' : Owns (.probe k) (R.FAB_PRB_STAT k) := by simp only [Owns, R.FAB_PRB_STAT]; omega
  have h5 : R.FAB_PRB_STAT k / 0x10000 ≠ 5 := by simp only [R.FAB_PRB_STAT]; omega
  refine ⟨exchanged_fireDone hskm hr hb hown (calm_prbCap k) fun u _ => (exchanged_prbApply k u).1, ?_⟩
  obtain ⟨u, v, huv, hv⟩ := boundFold_split hr hb
  obtain ⟨h1, h2⟩ := huv _ hown' h5
  have hd := stays_fireDone s (owns_offCfg hown') fun j => by
    simp only [R.FAB_PRB_STAT, R.FAB_PLANE_FIRES]
    omega
  rw [← hv] at hd
  refine (State.fld_of_reg (hd.reg.trans h2.reg) _).trans ((exchanged_prbApply k u).2.trans ?_)
  rw [State.fld_of_reg h1.reg, ← exchanged_applySeq hskm k]
  rfl

end

theorem firingExchangesBoundValues : FiringExchangesBoundValues := by
  intro r s hr hskm
  refine ⟨s.fireDone, ?_, fun e d hb => ?ni, fun q l hb => ?quad, fun g hb hen => ?group, fun k hb => ?probe⟩
  · refine (execFiring_eq s).trans (congrArg Host.Outcome.next (if_neg ?_))
    rw [List.isEmpty_iff]
    exact List.ne_nil_of_mem (s.mem_firedRegions.mpr hr)
  case ni =>
    have hd := d.2
    have hlo := exchanged_route hskm hr hb (off := R.NI_RT_LO e d) (by simp only [R.NI_RT_LO]; omega)
    have hhi := exchanged_route hskm hr hb (off := R.NI_RT_HI e d) (by simp only [R.NI_RT_HI]; omega)
    exact ⟨hlo.reg, hlo.staged, hhi.reg, hhi.staged⟩
  case quad =>
    have h := exchanged_equaliser hskm hr hb (n := 4 * q + l) (by have := l.2; omega)
    exact ⟨h.reg, h.staged⟩
  case group =>
    obtain ⟨h, hoff⟩ := exchanged_group hskm hr hb hen
    exact ⟨h.reg, h.staged, hoff⟩
  case probe =>
    obtain ⟨h, hseq⟩ := exchanged_probe hskm hr hb
    exact ⟨h.reg, h.staged, hseq⟩

/-! At the crossing. -/

theorem State.skmCrossed_waits {s : State} (h : s.cross ≠ []) : s.skmCrossed = s := by
  unfold State.skmCrossed
  rw [if_pos (by simp [h])]

/-- A block's part of its crossing (R252). -/
def State.crossBlock (t : State) (b : Bound) : State :=
  match b with
  | .quad q => t.quadAct q
  | .group g => t.grpAct g
  | .ni _ => t
  | .probe _ => t

theorem execFiringCrossing_eq {s : State} {b : Bound} (h : b ∈ s.cross) :
    execFiringCrossing b s = .next (({ s with cross := s.cross.erase b }).crossBlock b).skmCrossed := by
  unfold execFiringCrossing
  rw [if_neg (by simp [h])]
  cases b <;> rfl

theorem crossBlock_only (t : State) (b : Bound) : Only [.csr, .ic, .err, .ser, .draws] t (t.crossBlock b) := by
  cases b with
  | quad q => exact (Only.refl _ t).quadAct _
  | group g => exact (Only.refl _ t).grpAct _
  | ni e => exact Only.refl _ t
  | probe k => exact Only.refl _ t

theorem erase_ne_nil {l : List Bound} {b : Bound} (h : b ∈ l) (hl : l.length ≠ 1) : l.erase b ≠ [] := fun he => by
  have h1 := List.length_erase_of_mem h
  have h2 := List.length_pos_of_mem h
  rw [he, List.length_nil] at h1
  omega

theorem crossingEndsTheWait : CrossingEndsTheWait := by
  refine ⟨fun b s hb => ?any, fun e s hb hl => ?ni, fun g s hb hl hoff => ?group, fun b s hb => congrArg Host.Outcome.next (if_pos (by simp [hb]))⟩
  case any =>
    have ho := (crossBlock_only { s with cross := s.cross.erase b } b).skmCrossed
    exact ⟨_, execFiringCrossing_eq hb, ho.same .cross, ho.same .act, ho.same .shd, ho.same .rgn, ho.same .fuses⟩
  case ni =>
    refine ⟨{ s with cross := s.cross.erase (.ni e) }, (execFiringCrossing_eq hb).trans (congrArg Host.Outcome.next ?_), rfl, (Only.refl _ s).with_cross _⟩
    exact State.skmCrossed_waits (s := { s with cross := s.cross.erase (.ni e) }) (erase_ne_nil hb hl)
  case group =>
    have hact : ({ s with cross := s.cross.erase (.group g) } : State).crossBlock (.group g) =
        ({ s with cross := s.cross.erase (.group g) } : State).setGrpState g 0 := if_pos (by
      show (!s.grpOn g) = true
      rw [hoff]
      rfl)
    refine ⟨({ s with cross := s.cross.erase (.group g) } : State).setGrpState g 0, (execFiringCrossing_eq hb).trans (congrArg Host.Outcome.next ?_), ?_,
      Regs.but (((Regs.refl (· ∈ [R.PCS_GRP_STAT g]) s).with_cross _).setGrpState _ _ (by simp)), ((Only.refl _ s).with_cross _).setGrpState _ _⟩
    · rw [hact]
      exact State.skmCrossed_waits (erase_ne_nil hb hl)
    · exact State.fld_setFld _ _ _ _ (by decide)

/-- Settles O15: a bound block's exchange around the others that the edge exchanges, and its crossing. -/
theorem crossingExchangesBoundBlocks : Obligations.CrossingExchangesBoundBlocks := ⟨firingExchangesBoundValues, crossingEndsTheWait⟩

end Sys2Proof.Machine
end

section
/-! ## Holds of regions begin and end (O16) -/

namespace Sys2Proof.Machine

-- Elaborated in order: side by side, so many short proofs would each hold a thread with its stack.
set_option Elab.async false

open Sys2Proof

theorem Word.fget_lt (v : Word) (f : Fld) : v.fget f < 2 ^ f.w := Nat.mod_lt _ (Nat.two_pow_pos _)

section
variable {s t : State} {r : Nat}

theorem State.rgnSectors_lt {k : Nat} (h : k ∈ s.rgnSectors r) : k < 32 := by
  unfold State.rgnSectors at h
  dsimp only at h
  split at h
  · rw [List.mem_singleton.mp h]
    exact Nat.mod_lt _ (by decide)
  · exact List.mem_range.mp (List.mem_filter.mp h).1
  · cases h

/-- The lines of a region's sectors and its HELD bit are what holding it changes. -/
theorem Regs.holdOne {P : Nat → Prop} (h : Regs P s t) (r : Nat) (p1 : ∀ i < 32, P (R.FAB_BUS_VAL_LO i))
    (p2 : ∀ i < 32, P (R.FAB_BUS_VAL_HI i)) (p3 : P (R.CFG_RGN_STAT r)) : Regs P s (t.holdAll [r]) := by
  have hone : ∀ x ∈ [r].filter fun r => !t.rgnHeld r, x = r := fun x hx => List.mem_singleton.mp (List.mem_filter.mp hx).1
  have hsec : ∀ k ∈ (([r].filter fun r => !t.rgnHeld r).flatMap fun r => t.rgnSectors r).eraseDups, k < 32 := fun k hk => by
    obtain ⟨x, -, hx⟩ := List.mem_flatMap.mp (List.mem_eraseDups.mp hk)
    exact State.rgnSectors_lt hx
  exact .ite h (Regs.foldl_mem ((Regs.foldl_mem h _ fun _ k hk h1 => h1.keepLines _ (p1 k (hsec k hk)) (p2 k (hsec k hk))).forEach _ fun _ _ h1 =>
    h1.holdCells _ _) _ fun _ x hx h1 => h1.setFlag _ _ (by rw [hone x hx]; exact p3)).dropStarts

theorem Regs.settleHold_lt {P : Nat → Prop} (h : Regs P s t) (r : Nat) (p1 : ∀ i < 32, P (R.FAB_BUS_VAL_LO i))
    (p2 : ∀ i < 32, P (R.FAB_BUS_VAL_HI i)) (p3 : P (R.CFG_RGN_STAT r)) : Regs P s (t.settleHold r) :=
  .ite (h.holdOne r p1 p2 p3) (h.when _ fun _ h1 => ((h1.setFlag _ _ p3).freeCells).linesRise _)

/-- What a hold of region `r` rests on: its minimum hold, POST_HOLD or ENTER, or a sector that goes down (R247, R248). -/
def State.holdCause (s : State) (r : Nat) : Bool := (s.rg r).minHold || (s.rg r).post || (s.rgnSectors r).any fun k => s.secGoing k

theorem State.settleHold_of_cause (h : s.holdCause r = true) : s.settleHold r = s.holdAll [r] := if_pos h

/-- A region is held exactly where there is cause for it. -/
theorem State.held_settleHold (h32 : r < 32) : (s.settleHold r).rgnHeld r = s.holdCause r := by
  cases hc : s.holdCause r with
  | true =>
    rw [State.settleHold_of_cause hc]
    exact s.held_holdAll h32 (by simp)
  | false =>
    have he : s.settleHold r = s.when (s.rgnHeld r) fun t => ((t.setFlag (R.CFG_RGN_STAT r) F.CFG_RGN_STAT_HELD false).freeCells).linesRise s :=
      if_neg (by
        rw [show ((s.rg r).minHold || (s.rg r).post || (s.rgnSectors r).any fun k => s.secGoing k) = false from hc]
        decide)
    rw [he]
    cases hh : s.rgnHeld r with
    | false => exact hh
    | true =>
      refine (State.flag_of_reg ?_ _).trans (State.flag_setFlag s (R.CFG_RGN_STAT r) F.CFG_RGN_STAT_HELD false (by decide))
      exact (((Regs.refl (fun _ => False) (s.setFlag (R.CFG_RGN_STAT r) F.CFG_RGN_STAT_HELD false)).freeCells).linesRise s) _ id

/-- Sectors neither asked to go down nor on their way stay. -/
theorem State.pdSettleAll_idle (h : ∀ k < 32, s.bit R.SYS_PD_REQ k = s.bit R.SYS_PD_STAT k) : s.pdSettleAll = s := by
  have hl : ∀ l : List Nat, (∀ k ∈ l, k < 32) → s.forEach l (fun t k => t.pdSettle k) = s := fun l hl => by
    induction l with
    | nil => rfl
    | cons k l ih =>
      have hk : s.pdSettle k = s := by
        unfold State.pdSettle
        exact if_pos (by simp [h k (hl k (by simp))])
      show (s.pdSettle k).forEach l _ = s
      rw [hk]
      exact ih fun j hj => hl j (by simp [hj])
  exact hl _ fun k hk => List.mem_range.mp hk

theorem State.bit_of_zero {off : Nat} (h : s.reg off = 0) (i : Nat) : s.bit off i = false := by
  rw [State.bit, h]
  simp

theorem State.holdCause_setRg (s : State) (r : Nat) (x : Rgn) : (s.setRg r x).holdCause r =
    (x.minHold || x.post || (s.rgnSectors r).any fun k => s.secGoing k) := by
  unfold State.holdCause
  rw [State.rg_setRg, if_pos rfl]
  rfl

theorem State.rg_of_rgn {u : State} (h : u.rgn = t.rgn) (r : Nat) : u.rg r = t.rg r := by
  unfold State.rg
  rw [h]

/-! The write of CFG_HOLD. -/

theorem rowAt_cfgHold : rowAt R.CFG_HOLD = some (⟨0x4C, [], 0, 0x1F, 0, 0, 0, 0, 0, 0xC0000000⟩, []) := by decide

/-- CFG_HOLD's own register takes the write, and the rest of the state is as it was. -/
structure HoldWritten (s u : State) : Prop where
  regs : Regs (· ∈ [R.CFG_HOLD]) s u
  only : Only [.csr] s u

theorem holdWritten (s : State) (v : Word) : HoldWritten s (s.rawWrite true R.CFG_HOLD v).1 := by
  rw [rawWrite_live rowAt_cfgHold]
  exact ⟨(Regs.refl _ s).setReg _ (by simp), (Only.refl _ s).setReg _ _⟩

namespace HoldWritten
variable {u : State} (h : HoldWritten s u) (r : Nat)
include h

theorem reg {off : Nat} (ho : off ≠ R.CFG_HOLD) : u.reg off = s.reg off := h.regs off (by simpa using ho)

theorem desc : u.reg (R.CFG_RGN_DESC r) = s.reg (R.CFG_RGN_DESC r) := h.reg (by simp only [R.CFG_RGN_DESC, R.CFG_HOLD]; omega)

theorem stat : u.reg (R.CFG_RGN_STAT r) = s.reg (R.CFG_RGN_STAT r) := h.reg (by simp only [R.CFG_RGN_STAT, R.CFG_HOLD]; omega)

theorem rg : u.rg r = s.rg r := State.rg_of_rgn (h.only.same .rgn) r

theorem streaming : u.streaming r = s.streaming r := by
  unfold State.streaming
  rw [h.only.same .boot]

theorem sectors : u.rgnSectors r = s.rgnSectors r := by
  unfold State.rgnSectors
  simp only [State.fld_of_reg (h.desc r), State.bit_of_reg (h.reg (off := R.CFG_RGN_SMASK r) (by simp only [R.CFG_RGN_SMASK, R.CFG_HOLD]; omega))]

theorem going (k : Nat) : u.secGoing k = s.secGoing k := by
  unfold State.secGoing
  rw [State.bit_of_reg (h.reg (off := R.SYS_PD_STAT) (by decide)), State.bit_of_reg (h.reg (off := R.SYS_PD_BUSY) (by decide))]

end HoldWritten

/-- A hold write that is ignored is refused with its record. -/
theorem busWrite_cfgHold_refused {ep : Nat} {v : Word} (hw : s.mayWrite ep R.CFG_HOLD) (h : s.holdIgnored v = true) :
    s.busWrite ep R.CFG_HOLD v = s.ctrlRefuse (v.fget F.CFG_HOLD_REGION) := by
  have hcfg : s.cfgWrite R.CFG_HOLD v = (if s.holdIgnored v then s else (s.rawWrite true R.CFG_HOLD v).1).holdAct v := rfl
  rw [busWrite_cfg (by decide) hw, hcfg, if_pos h, State.holdAct]
  exact if_pos h

theorem ctrlRefuse_leaves (hd : s.rgnDefined r = true) (h32 : r < 32) : (s.ctrlRefuse r).flag (R.CFG_RGN_STAT r) F.CFG_RGN_STAT_CTRL_REFUSED = true ∧
    (s.ctrlRefuse r).rgnHeld r = s.rgnHeld r ∧ Only [.csr, .ic, .err] s (s.ctrlRefuse r) := by
  have hflag : s.ctrlFlag r = s.setFlag (R.CFG_RGN_STAT r) F.CFG_RGN_STAT_CTRL_REFUSED true := if_pos hd
  have hreg : (s.ctrlRefuse r).reg (R.CFG_RGN_STAT r) = (s.setFlag (R.CFG_RGN_STAT r) F.CFG_RGN_STAT_CTRL_REFUSED true).reg (R.CFG_RGN_STAT r) := by
    rw [State.ctrlRefuse, hflag]
    exact ((Regs.refl (· ≠ R.CFG_RGN_STAT r) _).report _ _ (by simp) (by simp) fun off ho => by simp only [R.CFG_RGN_STAT]; omega).same
  refine ⟨?_, ?_, ?_⟩
  · rw [State.flag_of_reg hreg, State.flag_setFlag _ _ _ _ (by decide)]
  · rw [State.rgnHeld, State.flag_of_reg hreg]
    exact State.flag_setFlag_fld _ _ _ _ _ (by decide)
  · rw [State.ctrlRefuse, hflag]
    exact ((Only.refl _ s).setFlag _ _ _).report _ _

/-- A hold write that is taken (R248). -/
theorem busWrite_cfgHold_taken {ep : Nat} {v : Word} (hw : s.mayWrite ep R.CFG_HOLD) (hi : s.holdIgnored v = false)
    (hd : s.rgnDefined (v.fget F.CFG_HOLD_REGION) = true) : ∃ u, HoldWritten s u ∧ s.busWrite ep R.CFG_HOLD v =
      match v.getLsbD 31, v.getLsbD 30 with
      | true, _ => if (s.rg (v.fget F.CFG_HOLD_REGION)).minHold
          then u.setRg (v.fget F.CFG_HOLD_REGION) { s.rg (v.fget F.CFG_HOLD_REGION) with keptRel := true }
          else (u.setRg (v.fget F.CFG_HOLD_REGION) { s.rg (v.fget F.CFG_HOLD_REGION) with post := false }).settleHold (v.fget F.CFG_HOLD_REGION)
      | false, true => (u.setRg (v.fget F.CFG_HOLD_REGION) { s.rg (v.fget F.CFG_HOLD_REGION) with post := true }).settleHold (v.fget F.CFG_HOLD_REGION)
      | false, false => u := by
  have hu := holdWritten s v
  have hcfg : s.cfgWrite R.CFG_HOLD v = (if s.holdIgnored v then s else (s.rawWrite true R.CFG_HOLD v).1).holdAct v := rfl
  refine ⟨(s.rawWrite true R.CFG_HOLD v).1, hu, ?_⟩
  rw [busWrite_cfg (by decide) hw, hcfg, if_neg (by simp [hi])]
  have hiu : (s.rawWrite true R.CFG_HOLD v).1.holdIgnored v = false := by
    refine Eq.trans ?_ hi
    unfold State.holdIgnored
    dsimp only
    rw [State.rgnDefined_of (hu.desc _), hu.streaming]
  unfold State.holdAct
  simp only [hiu, State.rgnDefined_of (hu.desc _), hd, hu.rg, Bool.false_eq_true, if_false, Bool.not_true] <;> rfl

end

theorem holdsBeginAndEnd : Obligations.HoldsBeginAndEnd := by
  refine ⟨fun r s hm hs hl => ?ends, fun r s h => ?waits, fun ep v s hw h30 hd => ?release, fun ep v s hw h31 hd => ?both, fun ep v s hw h31 hd => ?enter⟩
  case waits =>
    exact congrArg Host.Outcome.next (if_pos (by rcases h with h | h | h <;> simp [h]))
  case ends =>
    have hr := r.2
    obtain ⟨x, hx⟩ : ∃ x : Rgn, x = { s.rg r with minHold := false, keptRel := false, post := (s.rg r).post && !(s.rg r).keptRel } := ⟨_, rfl⟩
    obtain ⟨u, hu⟩ : ∃ u, u = ((s.setRg r x).settleHold r).pulse 20 := ⟨_, rfl⟩
    have hou : Only [.csr, .ic, .fab, .draws] (s.setRg r x) u := by
      rw [hu]
      exact ((Only.refl _ _).settleHold _).pulse _
    have hop : Only [.csr, .ic, .fab, .noc, .draws] u u.pdSettleAll := (Only.refl _ u).pdSettleAll
    have hrg : u.pdSettleAll.rg r = x := by
      rw [State.rg_of_rgn ((hop.same .rgn).trans (hou.same .rgn)), State.rg_setRg, if_pos rfl]
    refine ⟨u.pdSettleAll, ?_, by rw [hrg, hx], by rw [hrg, hx], by rw [hrg, hx], by rw [hrg, hx], by rw [hrg, hx], fun hreq hst hbusy => ?_,
      (hop.same .act).trans (hou.same .act), (hop.same .shd).trans (hou.same .shd)⟩
    · rw [hu, hx]
      exact congrArg Host.Outcome.next (if_neg (by simp [hm, hs, hl]))
    · have hregs : Regs (fun off => off = R.CFG_RGN_STAT r ∨ off / 2 ^ 24 = 3) (s.setRg r x) u := by
        rw [hu]
        refine ((Regs.refl _ _).settleHold_lt r (fun i hi => .inr ?_) (fun i hi => .inr ?_) (.inl rfl)).pulse _
        all_goals
          simp only [R.FAB_BUS_VAL_LO, R.FAB_BUS_VAL_HI]
          omega
      have hpd : ∀ off, off = R.SYS_PD_REQ ∨ off = R.SYS_PD_STAT ∨ off = R.SYS_PD_BUSY → u.reg off = s.reg off := fun off ho => hregs off (by
        simp only [R.SYS_PD_REQ, R.SYS_PD_STAT, R.SYS_PD_BUSY, R.CFG_RGN_STAT] at ho ⊢
        omega)
      have hidle : u.pdSettleAll = u := State.pdSettleAll_idle fun k _ => by
        rw [State.bit_of_zero ((hpd _ (.inl rfl)).trans hreq), State.bit_of_zero ((hpd _ (.inr (.inl rfl))).trans hst)]
      have hgo : ∀ k, s.secGoing k = false := fun k => by
        unfold State.secGoing
        rw [State.bit_of_zero hst, State.bit_of_zero hbusy]
        rfl
      rw [hidle]
      refine ⟨?_, fun off h1 h2 => hregs off (not_or_intro h1 h2)⟩
      rw [State.rgnHeld, hu, State.flag_of_reg (((Regs.refl (fun _ => False) _).pulse 20) _ id)]
      refine (State.held_settleHold hr).trans ?_
      rw [State.holdCause_setRg, hx]
      simp [hgo]
  case release =>
    obtain ⟨w, hwv⟩ : ∃ w, w = bitOn v F.CFG_HOLD_RELEASE := ⟨_, rfl⟩
    obtain ⟨r, hr⟩ : ∃ r, r = v.fget F.CFG_HOLD_REGION := ⟨_, rfl⟩
    have h32 : r < 32 := hr ▸ Machine.Word.fget_lt v F.CFG_HOLD_REGION
    have hw31 : w.getLsbD 31 = true := hwv ▸ getLsbD_bitOn_self v (f := F.CFG_HOLD_RELEASE) rfl (by decide)
    have hw30 : w.getLsbD 30 = false := hwv ▸ (getLsbD_bitOn_apart v rfl (by decide) (by decide)).trans h30
    have hwr : w.fget F.CFG_HOLD_REGION = r := by rw [hwv, hr, fget_bitOn_apart v rfl (by decide) (by decide)]
    rw [← hr] at hd ⊢
    refine ⟨_, congrArg (fun w => Host.Outcome.next (s.busWrite ep R.CFG_HOLD w)) hwv.symm, ?_⟩
    cases hs : s.streaming r with
    | true =>
      rw [busWrite_cfgHold_refused hw (by simp [State.holdIgnored, hw31, hwr, hd, hs]), hwr]
      obtain ⟨h1, -, h3⟩ := ctrlRefuse_leaves hd h32
      exact ⟨fun _ => ⟨h1, h3.same .rgn⟩, nofun, nofun, h3.mono (by simp)⟩
    | false =>
      obtain ⟨u, hu, he⟩ := busWrite_cfgHold_taken hw (v := w) (by rw [State.holdIgnored, hw30, hwr, hs]; simp) (hwr.symm ▸ hd)
      rw [hw31, hw30, hwr] at he
      rw [he]
      dsimp only
      cases hm : (s.rg r).minHold with
      | true =>
        rw [if_pos rfl]
        refine ⟨nofun, fun _ _ => ⟨?_, ?_⟩, nofun, ((hu.only.mono (by simp)).setRg _ _)⟩
        · rw [State.rg_setRg, if_pos rfl]
        · exact State.flag_of_reg (hu.stat r) _
      | false =>
        rw [if_neg (by decide)]
        refine ⟨nofun, nofun, fun _ _ => ⟨?_, ?_⟩, ((hu.only.mono (by simp)).setRg _ _).settleHold _⟩
        · rw [State.rg_of_rgn (((Only.refl [.csr, .ic, .fab, .draws] _).settleHold r).same .rgn), State.rg_setRg, if_pos rfl]
        · refine (State.held_settleHold h32).trans ?_
          rw [State.holdCause_setRg, hu.sectors]
          simp only [hu.going, Bool.false_or]
  case both =>
    obtain ⟨w, hwv⟩ : ∃ w, w = bitOn v F.CFG_HOLD_ENTER := ⟨_, rfl⟩
    obtain ⟨r, hr⟩ : ∃ r, r = v.fget F.CFG_HOLD_REGION := ⟨_, rfl⟩
    have h32 : r < 32 := hr ▸ Machine.Word.fget_lt v F.CFG_HOLD_REGION
    have hw30 : w.getLsbD 30 = true := hwv ▸ getLsbD_bitOn_self v (f := F.CFG_HOLD_ENTER) rfl (by decide)
    have hw31 : w.getLsbD 31 = true := hwv ▸ (getLsbD_bitOn_apart v rfl (by decide) (by decide)).trans h31
    have hwr : w.fget F.CFG_HOLD_REGION = r := by rw [hwv, hr, fget_bitOn_apart v rfl (by decide) (by decide)]
    rw [← hr] at hd ⊢
    refine ⟨_, congrArg (fun w => Host.Outcome.next (s.busWrite ep R.CFG_HOLD w)) hwv.symm, ?_⟩
    rw [busWrite_cfgHold_refused hw (by simp [State.holdIgnored, hw31, hw30]), hwr]
    obtain ⟨h1, h2, h3⟩ := ctrlRefuse_leaves hd h32
    exact ⟨h1, h3.same .rgn, h2, h3⟩
  case enter =>
    obtain ⟨w, hwv⟩ : ∃ w, w = bitOn v F.CFG_HOLD_ENTER := ⟨_, rfl⟩
    obtain ⟨r, hr⟩ : ∃ r, r = v.fget F.CFG_HOLD_REGION := ⟨_, rfl⟩
    have h32 : r < 32 := hr ▸ Machine.Word.fget_lt v F.CFG_HOLD_REGION
    have hw30 : w.getLsbD 30 = true := hwv ▸ getLsbD_bitOn_self v (f := F.CFG_HOLD_ENTER) rfl (by decide)
    have hw31 : w.getLsbD 31 = false := hwv ▸ (getLsbD_bitOn_apart v rfl (by decide) (by decide)).trans h31
    have hwr : w.fget F.CFG_HOLD_REGION = r := by rw [hwv, hr, fget_bitOn_apart v rfl (by decide) (by decide)]
    rw [← hr] at hd ⊢
    refine ⟨_, congrArg (fun w => Host.Outcome.next (s.busWrite ep R.CFG_HOLD w)) hwv.symm, ?_⟩
    obtain ⟨u, hu, he⟩ := busWrite_cfgHold_taken hw (v := w) (by rw [State.holdIgnored, hw31]; rfl) (hwr.symm ▸ hd)
    rw [hw31, hw30, hwr] at he
    rw [he]
    dsimp only
    have hcause : (u.setRg r { s.rg r with post := true }).holdCause r = true := by
      rw [State.holdCause_setRg]
      simp
    have ho : Only [.csr, .rgn, .fab, .draws] s ((u.setRg r { s.rg r with post := true }).settleHold r) := by
      rw [State.settleHold_of_cause hcause]
      exact ((hu.only.mono (by simp)).setRg _ _).holdAll _
    have hor : Only [.csr, .fab, .draws] (u.setRg r { s.rg r with post := true }) ((u.setRg r { s.rg r with post := true }).settleHold r) := by
      rw [State.settleHold_of_cause hcause]
      exact (Only.refl _ _).holdAll _
    refine ⟨?_, (State.held_settleHold h32).trans hcause, fun off ho1 ho2 => ?_, ho⟩
    · rw [State.rg_of_rgn (hor.same .rgn), State.rg_setRg, if_pos rfl]
    · have hregs : Regs (fun off => off = R.CFG_RGN_STAT r ∨ off / 2 ^ 24 = 3) (u.setRg r { s.rg r with post := true })
          ((u.setRg r { s.rg r with post := true }).settleHold r) := by
        rw [State.settleHold_of_cause hcause]
        refine (Regs.refl _ _).holdOne r (fun i hi => .inr ?_) (fun i hi => .inr ?_) (.inl rfl)
        all_goals
          simp only [R.FAB_BUS_VAL_LO, R.FAB_BUS_VAL_HI]
          omega
      obtain ⟨hn1, hn2⟩ := not_or.mp (by simpa using ho1)
      exact (hregs off (not_or_intro hn2 ho2)).trans (hu.reg hn1)

end Sys2Proof.Machine
end

section
/-! ## Staging loads and hold loads begin (O17) -/

namespace Sys2Proof.Machine

-- Elaborated in order: side by side, so many short proofs would each hold a thread with its stack.
set_option Elab.async false

open Sys2Proof

section
variable {s t : State} {r : Nat}

theorem rowAt_cfgStgCtrl : rowAt R.CFG_STG_CTRL = some (⟨0x6C, [], 0, 0x1F, 0, 0, 0, 0, 0, 0x80000000⟩, []) := by decide

theorem rowAt_cfgHldCtrl : rowAt R.CFG_HLD_CTRL = some (⟨0x78, [], 0, 0x1F, 0, 0, 0, 0, 0, 0x80000000⟩, []) := by decide

/-- The register `off`, whose field REGION stands in bits 4:0, took the region written, and nothing else changed. -/
structure RegionTaken (off : Nat) (v : Word) (s u : State) : Prop where
  regs : Regs (· = off) s u
  only : Only [.csr] s u
  region : u.fld off ⟨0, 5⟩ = v.fget ⟨0, 5⟩

theorem regionTaken {off base : Nat} {rst wo : Word} (h : rowAt off = some (⟨base, [], rst, 0x1F, 0, 0, 0, 0, 0, wo⟩, [])) (s : State) (v : Word) :
    RegionTaken off v s (s.rawWrite true off v).1 := by
  rw [rawWrite_live h]
  refine ⟨(Regs.refl _ s).setReg _ rfl, (Only.refl _ s).setReg _ _, ?_⟩
  rw [State.fld, State.reg_setReg_same]
  exact fget_merge_picked (f := ⟨0, 5⟩) _ _ (by decide)

namespace RegionTaken
variable {off : Nat} {v : Word} {u : State} (h : RegionTaken off v s u)
include h

theorem reg {j : Nat} (hj : j ≠ off) : u.reg j = s.reg j := h.regs j hj

theorem addr {lo hi : Nat} (h1 : lo ≠ off) (h2 : hi ≠ off) : u.addrAt lo hi = s.addrAt lo hi := by
  rw [State.addrAt, h.reg h1, h.reg h2]
  rfl

end RegionTaken

/-- A write of START to CFG_STG_CTRL. -/
theorem busWrite_stgStart {ep : Nat} {v : Word} (hw : s.mayWrite ep R.CFG_STG_CTRL) :
    ∃ u, RegionTaken R.CFG_STG_CTRL v s u ∧ s.busWrite ep R.CFG_STG_CTRL (bitOn v F.CFG_STG_CTRL_START) = u.stgStart := by
  have hu := regionTaken rowAt_cfgStgCtrl s (bitOn v F.CFG_STG_CTRL_START)
  refine ⟨_, ⟨hu.regs, hu.only, hu.region.trans (fget_bitOn_apart v rfl (by decide) (by decide))⟩, ?_⟩
  rw [busWrite_cfg (by decide) hw]
  exact State.when_true (getLsbD_bitOn_self v (f := F.CFG_STG_CTRL_START) rfl (by decide)) _ _

/-- A write of START to CFG_HLD_CTRL. -/
theorem busWrite_hldStart {ep : Nat} {v : Word} (hw : s.mayWrite ep R.CFG_HLD_CTRL) :
    ∃ u, RegionTaken R.CFG_HLD_CTRL v s u ∧ s.busWrite ep R.CFG_HLD_CTRL (bitOn v F.CFG_HLD_CTRL_START) = u.holdStart := by
  have hu := regionTaken rowAt_cfgHldCtrl s (bitOn v F.CFG_HLD_CTRL_START)
  refine ⟨_, ⟨hu.regs, hu.only, hu.region.trans (fget_bitOn_apart v rfl (by decide) (by decide))⟩, ?_⟩
  rw [busWrite_cfg (by decide) hw]
  exact State.when_true (getLsbD_bitOn_self v (f := F.CFG_HLD_CTRL_START) rfl (by decide)) _ _

theorem State.memRange_of (h1 : t.reg R.MC_MAP_CTRL = s.reg R.MC_MAP_CTRL) (h2 : t.reg R.MC_MAP_CH = s.reg R.MC_MAP_CH) (a k : Nat) :
    t.memRange a k = s.memRange a k := by
  simp only [State.memRange, State.inRld, h1, h2]

/-- Whether a staging load is refused rests on the phase, on its region, on the loads under way and on the map of memory (R226). -/
theorem State.stageRefusal_of (hr : ∀ off, off ≠ R.CFG_STG_CTRL → t.reg off = s.reg off) (hb : t.boot = s.boot) (r : Nat) (noc : Bool)
    (a k : Nat) : t.stageRefusal r noc a k = s.stageRefusal r noc a k := by
  have hstat : t.reg (R.CFG_RGN_STAT r) = s.reg (R.CFG_RGN_STAT r) := hr _ (by simp only [R.CFG_RGN_STAT, R.CFG_STG_CTRL]; omega)
  have hdesc : t.reg (R.CFG_RGN_DESC r) = s.reg (R.CFG_RGN_DESC r) := hr _ (by simp only [R.CFG_RGN_DESC, R.CFG_STG_CTRL]; omega)
  have hphase : t.phase = s.phase := by
    rw [State.phase, hb, State.fld_of_reg (hr _ (by decide))]
    rfl
  rw [State.stageRefusal, State.user, hphase, State.rgnDefined_of hdesc, State.shadow, State.fld_of_reg hstat, hb,
    State.memRange_of (hr _ (by decide)) (hr _ (by decide))]
  rfl

theorem State.stageRefusal_lt {noc : Bool} {a k c : Nat} (h : s.stageRefusal r noc a k = some c) : c < 256 := by
  unfold State.stageRefusal at h
  split at h
  · cases h; decide
  · split at h
    · cases h; decide
    · split at h
      · cases h; decide
      · cases h

theorem State.loadOn_putLoad (s : State) (l : Load) (p : LoadPath) : (s.putLoad l).loadOn p = if p = l.path then some l else s.loadOn p := by
  show (l :: s.boot.loads.filter fun x => x.path != l.path).find? (fun x => x.path == p) = _
  by_cases h : p = l.path
  · rw [if_pos h, List.find?_cons_of_pos (by simp [h])]
  · rw [if_neg h, List.find?_cons_of_neg (by simpa using fun he => h he.symm), List.find?_filter]
    refine List.find?_congr fun x _ => ?_
    by_cases hx : x.path = p
    · simp [hx, h]
    · simp [hx]

theorem State.loadOn_dropped (s : State) (p : LoadPath) : (s.dropLoad p).loadOn p = none := by
  refine List.find?_eq_none.mpr fun x hx => ?_
  have := (List.mem_filter.mp hx).2
  simpa using this

/-- A hold load that is refused leaves its code and a record of source 22 (R257). -/
theorem holdRefused_leaves (s : State) (r : Nat) {c : Nat} (hc : c < 256) :
    (s.holdRefused r c).fld R.CFG_HLD_CTRL F.CFG_HLD_CTRL_CODE = c ∧ Only [.csr, .ic, .err] s (s.holdRefused r c) := by
  refine ⟨?_, (Only.refl _ s).holdRefused _ _⟩
  have hreg : (s.holdRefused r c).reg R.CFG_HLD_CTRL = (s.setFld R.CFG_HLD_CTRL F.CFG_HLD_CTRL_CODE c).reg R.CFG_HLD_CTRL :=
    ((Regs.refl (· ≠ R.CFG_HLD_CTRL) _).stageRecord _ _ _ _ (by simp) fun off ho => by simp only [R.CFG_HLD_CTRL]; omega).same
  rw [State.fld_of_reg hreg, State.fld_setFld_same _ _ _ _ (by decide)]
  exact Nat.mod_eq_of_lt hc

/-- What the end of a staging load from memory leaves (R226). -/
theorem stageEnd_noc_leaves (s : State) (r : Nat) {c b : Nat} (hc : c < 256) :
    (s.stageEnd .noc r c b).fld R.CFG_STG_CTRL F.CFG_STG_CTRL_CODE = c ∧ (s.stageEnd .noc r c b).flag R.CFG_STG_CTRL F.CFG_STG_CTRL_BUSY = false ∧
    Only [.csr] s (s.stageEnd .noc r c b) ∧ (s.stageEnd .noc r c b).shadow r = s.shadow r := by
  obtain ⟨u, hu⟩ : ∃ u, u = s.when (s.rgnDefined r) fun t => t.setFld (R.CFG_RGN_STAT r) F.CFG_RGN_STAT_LOAD_CODE c := ⟨_, rfl⟩
  have he : s.stageEnd .noc r c b = (u.setFld R.CFG_STG_CTRL F.CFG_STG_CTRL_CODE c).setFlag R.CFG_STG_CTRL F.CFG_STG_CTRL_BUSY false := by
    rw [hu]
    rfl
  have hou : Only [.csr] s u := by
    rw [hu]
    exact (Only.refl _ s).when _ fun _ h1 => h1.setFld _ _ _
  rw [he]
  refine ⟨?_, State.flag_setFlag _ _ _ _ (by decide), (hou.setFld _ _ _).setFlag _ _ _, ?_⟩
  · rw [State.fld_setFlag_fld _ _ _ _ _ (by decide), State.fld_setFld_same _ _ _ _ (by decide)]
    exact Nat.mod_eq_of_lt hc
  · have hne : R.CFG_RGN_STAT r ≠ R.CFG_STG_CTRL := by simp only [R.CFG_RGN_STAT, R.CFG_STG_CTRL]; omega
    rw [State.shadow, State.fld_setFlag_off _ _ _ _ _ _ hne, State.fld_setFld_other _ _ _ _ _ _ hne, hu]
    cases s.rgnDefined r with
    | false => rfl
    | true => exact State.fld_setFld_fld _ _ _ _ _ (by decide)

/-- The end of a staging load writes its code, and then answers on its path. -/
theorem stageEnd_regs (hd : s.rgnDefined r = true) (p : LoadPath) (c b : Nat) :
    Regs (fun off => off = R.CFG_STG_CTRL ∨ 0x80000 ≤ off) (s.setFld (R.CFG_RGN_STAT r) F.CFG_RGN_STAT_LOAD_CODE c) (s.stageEnd p r c b) := by
  obtain ⟨u, hu⟩ : ∃ u, u = s.setFld (R.CFG_RGN_STAT r) F.CFG_RGN_STAT_LOAD_CODE c := ⟨_, rfl⟩
  have hmbx : ∀ i, R.MBX_STAT i = R.CFG_STG_CTRL ∨ 0x80000 ≤ R.MBX_STAT i := fun i => .inr (by simp only [R.MBX_STAT]; omega)
  unfold State.stageEnd
  dsimp only
  rw [State.when_true hd, ← hu]
  obtain ⟨P, hP⟩ : ∃ P : Nat → Prop, P = fun off => off = R.CFG_STG_CTRL ∨ 0x80000 ≤ off := ⟨_, rfl⟩
  have hstg : P R.CFG_STG_CTRL := by simp [hP]
  rw [← hP]
  cases p with
  | noc => exact ((Regs.refl P u).setFld _ _ hstg).setFlag _ _ hstg
  | mailbox => exact (Regs.refl P u).setFw _
  | _ => exact (Regs.refl P u).answerStager _ _ (hP ▸ hmbx)

end

/-- START of a staging load (R221, R226). -/
theorem cfgStgStart_begins {ep : Fin 256} {v : Word} {s : State} (hw : s.mayWrite ep R.CFG_STG_CTRL) (hno : s.loadOn .noc = none) :
    (s.stageRefusal (v.fget F.CFG_STG_CTRL_REGION) true (s.addrAt R.CFG_STG_ADDR_LO R.CFG_STG_ADDR_HI)
      (s.reg R.CFG_STG_LEN).toNat = none → Completes (.cfgStgStart ep v) s (fun t =>
      t.flag R.CFG_STG_CTRL F.CFG_STG_CTRL_BUSY = true ∧
      t.loadOn .noc = some { Load.start .noc 2 (v.fget F.CFG_STG_CTRL_REGION) with
        addr := s.addrAt R.CFG_STG_ADDR_LO R.CFG_STG_ADDR_HI, len := some (s.reg R.CFG_STG_LEN).toNat } ∧
      (∀ p, p ≠ .noc → t.loadOn p = s.loadOn p) ∧ RegsBut [R.CFG_STG_CTRL] s t ∧ Only [.csr, .boot] s t)) ∧
    (∀ c, s.stageRefusal (v.fget F.CFG_STG_CTRL_REGION) true (s.addrAt R.CFG_STG_ADDR_LO R.CFG_STG_ADDR_HI)
      (s.reg R.CFG_STG_LEN).toNat = some c → Completes (.cfgStgStart ep v) s (fun t =>
      t.fld R.CFG_STG_CTRL F.CFG_STG_CTRL_CODE = c ∧ t.flag R.CFG_STG_CTRL F.CFG_STG_CTRL_BUSY = false ∧
      t.boot = s.boot ∧ t.shadow (v.fget F.CFG_STG_CTRL_REGION) = s.shadow (v.fget F.CFG_STG_CTRL_REGION))) := by
  obtain ⟨u, hu, he⟩ := busWrite_stgStart (v := v) hw
  obtain ⟨r, hr⟩ : ∃ r, r = v.fget F.CFG_STG_CTRL_REGION := ⟨_, rfl⟩
  obtain ⟨l, hl⟩ : ∃ l : Load, l = { Load.start .noc 2 r with
    addr := s.addrAt R.CFG_STG_ADDR_LO R.CFG_STG_ADDR_HI, len := some (s.reg R.CFG_STG_LEN).toNat } := ⟨_, rfl⟩
  obtain ⟨w, hwdef⟩ : ∃ w, w = u.setFlag R.CFG_STG_CTRL F.CFG_STG_CTRL_BUSY true := ⟨_, rfl⟩
  have hwregs : Regs (· = R.CFG_STG_CTRL) s w := by
    rw [hwdef]
    exact hu.regs.setFlag _ _ rfl
  have hwonly : Only [.csr] s w := by
    rw [hwdef]
    exact hu.only.setFlag _ _ _
  have hstart : u.stgStart = w.stageStart l true := by
    unfold State.stgStart
    rw [if_neg (by rw [State.loadOn, hu.only.same .boot, ← State.loadOn, hno]; decide)]
    have hreg : u.fld R.CFG_STG_CTRL F.CFG_STG_CTRL_REGION = r := hu.region.trans hr.symm
    rw [hreg, hu.addr (by decide) (by decide), hu.reg (j := R.CFG_STG_LEN) (by decide), hwdef, hl]
  have hrefuse : w.stageRefusal l.region true l.addr (l.len.getD 0) =
      s.stageRefusal r true (s.addrAt R.CFG_STG_ADDR_LO R.CFG_STG_ADDR_HI) (s.reg R.CFG_STG_LEN).toNat := by
    rw [State.stageRefusal_of hwregs (hwonly.same .boot), hl]
    rfl
  rw [← hr]
  refine ⟨fun hnone => ⟨_, congrArg Host.Outcome.next (he.trans hstart), ?_⟩, fun c hc => ⟨_, congrArg Host.Outcome.next (he.trans hstart), ?_⟩⟩
  · have hput : w.stageStart l true = w.putLoad l := by
      rw [State.stageStart, hrefuse, hnone]
    have hpath : l.path = .noc := by rw [hl]; rfl
    rw [hput]
    refine ⟨?_, ?_, fun p hp => ?_, Regs.but ((hwregs.mono fun _ h => by simp [h]).putLoad l), (hwonly.mono (by simp)).putLoad l⟩
    · rw [hwdef]
      exact State.flag_setFlag u R.CFG_STG_CTRL _ _ (by decide)
    · rw [State.loadOn_putLoad, hpath, if_pos rfl, hl]
    · rw [State.loadOn_putLoad, hpath, if_neg hp, State.loadOn, hwonly.same .boot]
      rfl
  · have hfail : w.stageStart l true = (w.stageRecord 19 r c 0xFFFF).stageEnd .noc r c 0xFFFF := by
      rw [State.stageStart, hrefuse, hc, hl]
      rfl
    obtain ⟨h1, h2, h3, h4⟩ := stageEnd_noc_leaves (w.stageRecord 19 r c 0xFFFF) r (b := 0xFFFF) (State.stageRefusal_lt hc)
    rw [hfail]
    refine ⟨h1, h2, ?_, h4.trans ?_⟩
    · exact (h3.same .boot).trans ((((hwonly.mono (by simp : [.csr] ⊆ [Part.csr, .ic, .err])).stageRecord 19 r c 0xFFFF).same .boot))
    · have hreg : (w.stageRecord 19 r c 0xFFFF).reg (R.CFG_RGN_STAT r) = s.reg (R.CFG_RGN_STAT r) :=
        ((hwregs.mono fun off ho => by subst ho; simp only [R.CFG_RGN_STAT, R.CFG_STG_CTRL]; omega : Regs (· ≠ R.CFG_RGN_STAT r) s w).stageRecord _ _ _ _
          (by simp) fun off ho => by
            have h32 : r < 32 := hr ▸ Machine.Word.fget_lt v F.CFG_STG_CTRL_REGION
            simp only [R.CFG_RGN_STAT]
            omega).same
      exact State.fld_of_reg hreg _

/-- START of a hold-load stream (R256, R257). -/
theorem cfgHldStart_begins {ep : Fin 256} {v : Word} {s : State} (hw : s.mayWrite ep R.CFG_HLD_CTRL) (hno : s.boot.hold = none) :
    (s.rgnDefined (v.fget F.CFG_HLD_CTRL_REGION) = true → s.rgnHeld (v.fget F.CFG_HLD_CTRL_REGION) = true →
      s.memRange (s.addrAt R.CFG_HLD_ADDR_LO R.CFG_HLD_ADDR_HI) 4 = true → Completes (.cfgHldStart ep v) s (fun t =>
      t.flag R.CFG_HLD_CTRL F.CFG_HLD_CTRL_BUSY = true ∧ t.boot.hold = some ⟨v.fget F.CFG_HLD_CTRL_REGION, 0⟩ ∧
      t.flag (R.CFG_RGN_STAT (v.fget F.CFG_HLD_CTRL_REGION)) F.CFG_RGN_STAT_HOLD_LOAD = true ∧
      (t.loadOn .hold).isSome = true ∧ Only [.csr, .boot] s t)) ∧
    (s.rgnDefined (v.fget F.CFG_HLD_CTRL_REGION) = false ∨ s.rgnHeld (v.fget F.CFG_HLD_CTRL_REGION) = false →
      Completes (.cfgHldStart ep v) s (fun t => t.fld R.CFG_HLD_CTRL F.CFG_HLD_CTRL_CODE = 0x1D ∧
        Only [.csr, .ic, .err] s t)) ∧
    (s.rgnDefined (v.fget F.CFG_HLD_CTRL_REGION) = true → s.rgnHeld (v.fget F.CFG_HLD_CTRL_REGION) = true →
      s.memRange (s.addrAt R.CFG_HLD_ADDR_LO R.CFG_HLD_ADDR_HI) 4 = false → Completes (.cfgHldStart ep v) s (fun t =>
        t.fld R.CFG_HLD_CTRL F.CFG_HLD_CTRL_CODE = 0x1C ∧ Only [.csr, .ic, .err] s t)) := by
  obtain ⟨u, hu, he⟩ := busWrite_hldStart (v := v) hw
  obtain ⟨r, hr⟩ : ∃ r, r = v.fget F.CFG_HLD_CTRL_REGION := ⟨_, rfl⟩
  obtain ⟨a, ha⟩ : ∃ a, a = s.addrAt R.CFG_HLD_ADDR_LO R.CFG_HLD_ADDR_HI := ⟨_, rfl⟩
  have hstart : u.holdStart = if !s.rgnDefined r || !s.rgnHeld r then u.holdRefused r 0x1D
      else if !s.memRange a 4 then u.holdRefused r 0x1C
      else (((u.setFlag R.CFG_HLD_CTRL F.CFG_HLD_CTRL_BUSY true).setFlag (R.CFG_RGN_STAT r) F.CFG_RGN_STAT_HOLD_LOAD true).setBoot
        { u.boot with hold := some ⟨r, 0⟩ }).putLoad { Load.start .hold 2 r with addr := a } := by
    unfold State.holdStart
    dsimp only
    rw [if_neg (by rw [hu.only.same .boot]; simp [hno])]
    have hreg : u.fld R.CFG_HLD_CTRL F.CFG_HLD_CTRL_REGION = r := hu.region.trans hr.symm
    have hdesc : u.rgnDefined r = s.rgnDefined r := State.rgnDefined_of (hu.reg (by simp only [R.CFG_RGN_DESC, R.CFG_HLD_CTRL]; omega))
    have hheld : u.rgnHeld r = s.rgnHeld r := State.flag_of_reg (hu.reg (by simp only [R.CFG_RGN_STAT, R.CFG_HLD_CTRL]; omega)) _
    rw [hreg, hu.addr (by decide) (by decide), hdesc, hheld, State.memRange_of (hu.reg (by decide)) (hu.reg (by decide)), ← ha]
    rfl
  rw [← hr, ← ha]
  refine ⟨fun hd hh hm => ⟨_, congrArg Host.Outcome.next (he.trans hstart), ?_⟩, fun hdh => ⟨_, congrArg Host.Outcome.next (he.trans hstart), ?_⟩,
    fun hd hh hm => ⟨_, congrArg Host.Outcome.next (he.trans hstart), ?_⟩⟩
  · have hne : R.CFG_RGN_STAT r ≠ R.CFG_HLD_CTRL := by simp only [R.CFG_RGN_STAT, R.CFG_HLD_CTRL]; omega
    rw [if_neg (by simp [hd, hh]), if_neg (by simp [hm])]
    refine ⟨?_, rfl, ?_, ?_, (((hu.only.mono (by simp)).setFlag _ _ _).setFlag _ _ _).setBoot _ |>.putLoad _⟩
    · refine (State.flag_setFlag_off _ _ _ _ _ _ hne.symm).trans ?_
      exact State.flag_setFlag _ _ _ _ (by decide)
    · exact State.flag_setFlag _ (R.CFG_RGN_STAT r) _ _ (by decide)
    · rw [State.loadOn_putLoad]
      rfl
  · rw [if_pos (by rcases hdh with h | h <;> simp [h])]
    obtain ⟨h1, h2⟩ := holdRefused_leaves u r (c := 0x1D) (by decide)
    exact ⟨h1, (hu.only.mono (by simp)).trans h2⟩
  · rw [if_neg (by simp [hd, hh]), if_pos (by simp [hm])]
    obtain ⟨h1, h2⟩ := holdRefused_leaves u r (c := 0x1C) (by decide)
    exact ⟨h1, (hu.only.mono (by simp)).trans h2⟩

/-- The shadow of a complete staging load is verified (R232, R233). -/
theorem shadowVerified_leaves {r : Fin 32} {l : Load} {h : Header} {s : State} (hh : s.halted = false)
    (hl : s.boot.loads.find? (fun x => x.kind == 2 && x.path != .hold && x.region == r.val && x.verify) = some l)
    (hdr : l.hdr = some h) (hd : s.rgnDefined r = true) : Completes (.shadowVerified r) s (fun t =>
      t.shadow r = 2 ∧ (t.rg r).shd = some (l.record h) ∧ (t.rg r).act = (s.rg r).act ∧ t.loadOn l.path = none ∧
      t.fld (R.CFG_RGN_STAT r) F.CFG_RGN_STAT_LOAD_CODE = 0 ∧
      t.fld (R.SCR_RGN_MAP r) F.SCR_RGN_MAP_SHD_MAP = l.mapCode ∧ t.act = s.act ∧ t.shd = s.shd) := by
  obtain ⟨d, hdd⟩ : ∃ d, d = h.descs.headD [] := ⟨_, rfl⟩
  obtain ⟨t, ht⟩ : ∃ t, t = ((s.dropLoad l.path).setShadow r 2).setFlag (R.CFG_RGN_CTRL r) F.CFG_RGN_CTRL_MODE (descInit d) := ⟨_, rfl⟩
  obtain ⟨u, hu⟩ : ∃ u, u = t.when (descGen d != 0) fun t => t.setFld (R.CFG_RGN_GEN r) F.CFG_RGN_GEN_SHD_GEN (descGen d) := ⟨_, rfl⟩
  obtain ⟨w, hw⟩ : ∃ w, w = (u.setRg r { u.rg r with shd := some (l.record h) }).setFld (R.SCR_RGN_MAP r) F.SCR_RGN_MAP_SHD_MAP l.mapCode := ⟨_, rfl⟩
  have hexec : exec (.shadowVerified r) s = .next ((w.stageEnd l.path r 0 0).pulse 19) := by
    refine congrArg Host.Outcome.next ?_
    rw [if_neg (by simp [hh]), hl]
    simp only [hdr, hw, hu, ht, hdd]
  have hr := r.2
  have hot : Only [.csr, .boot, .sec] s t := by
    rw [ht]
    exact (((Only.refl _ s).dropLoad _).setShadow _ _).setFlag _ _ _
  have hou : Only [.csr, .boot, .sec] s u := by
    rw [hu]
    exact hot.when _ fun _ h1 => h1.setFld _ _ _
  have how : Only [.csr, .boot, .sec, .rgn] s w := by
    rw [hw]
    exact ((hou.mono (by simp)).setRg _ _).setFld _ _ _
  have hof : Only [.csr, .ic, .mbx, .fw] w ((w.stageEnd l.path r 0 0).pulse 19) := ((Only.refl _ w).stageEnd _ _ _ _).pulse _
  have hwregs : Regs (· ≠ R.CFG_RGN_STAT r) ((s.dropLoad l.path).setShadow r 2) w := by
    rw [hw, hu, ht]
    refine Regs.setFld (Regs.setRg (Regs.when (Regs.setFlag (Regs.refl _ _) _ _ ?_) _ fun _ h1 => h1.setFld _ _ ?_) _ _) _ _ ?_
    all_goals
      simp only [R.CFG_RGN_CTRL, R.CFG_RGN_GEN, R.CFG_RGN_STAT, R.SCR_RGN_MAP]
      omega
  have hwdesc : w.rgnDefined r = true := by
    refine (State.rgnDefined_of (s := s) ?_).trans hd
    rw [hw, hu, ht]
    refine (Regs.setFld (Regs.setRg (Regs.when (Regs.setFlag (Regs.setShadow (Regs.dropLoad (Regs.refl (· ≠ R.CFG_RGN_DESC r) s) _) _ _ ?_) _ _ ?_) _ fun _ h1 =>
      h1.setFld _ _ ?_) _ _) _ _ ?_).same
    all_goals
      simp only [R.CFG_RGN_CTRL, R.CFG_RGN_GEN, R.CFG_RGN_STAT, R.SCR_RGN_MAP, R.CFG_RGN_DESC]
      omega
  have hfin : ∀ off, off ≠ R.CFG_STG_CTRL → off < 0x80000 → ((w.stageEnd l.path r 0 0).pulse 19).reg off =
      (w.setFld (R.CFG_RGN_STAT r) F.CFG_RGN_STAT_LOAD_CODE 0).reg off := fun off h1 h2 =>
    ((stageEnd_regs hwdesc l.path 0 0).pulse 19) off (by omega)
  have hstat := hfin (R.CFG_RGN_STAT r) (by simp only [R.CFG_RGN_STAT, R.CFG_STG_CTRL]; omega) (by simp only [R.CFG_RGN_STAT]; omega)
  have hmap := hfin (R.SCR_RGN_MAP r) (by simp only [R.SCR_RGN_MAP, R.CFG_STG_CTRL]; omega) (by simp only [R.SCR_RGN_MAP]; omega)
  have hrg : ((w.stageEnd l.path r 0 0).pulse 19).rg r = { s.rg r with shd := some (l.record h) } := by
    rw [State.rg_of_rgn (hof.same .rgn), hw]
    refine (State.rg_of_rgn (t := u.setRg r { u.rg r with shd := some (l.record h) }) rfl r).trans ?_
    rw [State.rg_setRg, if_pos rfl, State.rg_of_rgn (hou.same .rgn)]
  refine ⟨_, hexec, ?_, by rw [hrg], by rw [hrg], ?_, ?_, ?_, (hof.same .act).trans (how.same .act), (hof.same .shd).trans (how.same .shd)⟩
  · rw [State.shadow, State.fld_of_reg hstat, State.fld_setFld_fld _ _ _ _ _ (by decide), State.fld_of_reg hwregs.same]
    exact State.fld_setFld_same _ _ _ _ (by decide)
  · have hboot : w.boot = (s.dropLoad l.path).boot := by
      rw [hw, hu, ht]
      exact (((((Only.refl [.csr, .rgn] (s.dropLoad l.path)).setShadow _ _).setFlag _ _ _).when _ fun _ h1 => h1.setFld _ _ _).setRg _ _).setFld _ _ _ |>.same .boot
    rw [State.loadOn, (hof.same .boot).trans hboot]
    exact s.loadOn_dropped l.path
  · rw [State.fld_of_reg hstat]
    exact State.fld_setFld_same _ _ _ _ (by decide)
  · have hne : R.SCR_RGN_MAP r ≠ R.CFG_RGN_STAT r := by simp only [R.CFG_RGN_STAT, R.SCR_RGN_MAP]; omega
    rw [State.fld_of_reg hmap, State.fld_setFld_other _ _ _ _ _ _ hne, hw, State.fld_setFld_same _ _ _ _ (by decide)]
    have h3 : l.mapCode < 3 := by
      unfold Load.mapCode
      split <;> decide
    exact Nat.mod_eq_of_lt (by simp only [F.SCR_RGN_MAP_SHD_MAP]; omega)

theorem stagingAndHoldLoadsBegin : Obligations.StagingAndHoldLoadsBegin := by
  refine ⟨fun ep v s hw hno => cfgStgStart_begins hw hno, fun ep v s hw hno => cfgHldStart_begins hw hno,
    fun r l h s hh hl hdr hd => shadowVerified_leaves hh hl hdr hd, fun r s h => congrArg Host.Outcome.next ?_⟩
  rcases h with h | h
  · exact if_pos h
  · rw [h]
    exact ite_self _

end Sys2Proof.Machine
end

section
/-! ## Probe captures (O20) -/

namespace Sys2Proof.Machine

-- Elaborated in order: side by side, so many short proofs would each hold a thread with its stack.
set_option Elab.async false

open Sys2Proof

section
variable {s t : State} {k : Nat}

/-- A sum of the powers of two that `f` picks has the bits that `f` picks. -/
theorem testBit_pickSum (f : Nat → Bool) (n : Nat) :
    ((List.range n).map fun k => if f k then 2 ^ k else 0).sum < 2 ^ n ∧
    ∀ j, ((List.range n).map fun k => if f k then 2 ^ k else 0).sum.testBit j = (decide (j < n) && f j) := by
  induction n with
  | zero => simp
  | succ n ih =>
    obtain ⟨hlt, hbit⟩ := ih
    rw [List.range_succ, List.map_append, List.sum_append]
    generalize ((List.range n).map fun k => if f k then 2 ^ k else 0).sum = m at hlt hbit ⊢
    simp only [List.map_cons, List.map_nil, List.sum_cons, List.sum_nil, Nat.add_zero]
    cases hf : f n with
    | false =>
      refine ⟨by simp; rw [Nat.pow_succ]; omega, fun j => ?_⟩
      simp only [Bool.false_eq_true, if_false, Nat.add_zero, hbit]
      rcases Nat.lt_trichotomy j n with h | rfl | h
      · simp [h, Nat.lt_succ_of_lt h]
      · simp [hf]
      · simp [Nat.not_lt_of_lt h, show ¬ j < n + 1 by omega]
    | true =>
      refine ⟨by simp only [if_true]; rw [Nat.pow_succ]; omega, fun j => ?_⟩
      rw [if_pos rfl, Nat.add_comm]
      rcases Nat.lt_trichotomy j n with h | rfl | h
      · rw [Nat.testBit_two_pow_add_gt h, hbit]
        simp [h, Nat.lt_succ_of_lt h]
      · rw [Nat.testBit_two_pow_add_eq, hbit]
        simp [hf]
      · rw [Nat.testBit_lt_two_pow (Nat.lt_of_lt_of_le (by omega : 2 ^ n + m < 2 ^ n * 2) (by
          rw [← Nat.pow_succ]
          exact Nat.pow_le_pow_right (by decide) h))]
        simp [show ¬ j < n + 1 by omega]

theorem State.testBit_running (s : State) (sec j : Nat) : (s.running sec).testBit j = s.netRuns sec j := by
  rw [State.running, (testBit_pickSum (s.netRuns sec) 16).2]
  cases h : s.netRuns sec j with
  | false => simp
  | true => simpa [State.netRuns] using (Bool.and_eq_true_iff.mp (Bool.and_eq_true_iff.mp h).1).1

/-- The lines of a sector's bus and the draws are all that differs. -/
structure LinesOnly (k : Nat) (s t : State) : Prop where
  regs : Regs (fun off => off = R.FAB_BUS_VAL_LO k ∨ off = R.FAB_BUS_VAL_HI k) s t
  only : Only [.csr, .draws] s t

theorem linesOnly_keepLines (s : State) (k : Nat) : LinesOnly k s (s.keepLines k) :=
  ⟨(Regs.refl _ s).keepLines _ (.inl rfl) (.inr rfl), (Only.refl _ s).keepLines _⟩

theorem LinesOnly.reg (h : LinesOnly k s t) {off : Nat} (ho : off ≠ R.FAB_BUS_VAL_LO k ∧ off ≠ R.FAB_BUS_VAL_HI k) : t.reg off = s.reg off :=
  h.regs off (not_or_intro ho.1 ho.2)

/-- Whether a leaf network without a routed enable runs rests on the registers below the fabric, the active plane, the debug port and
the fabric PLLs. -/
theorem State.netRuns_of (hreg : ∀ off < 0x3000000, t.reg off = s.reg off) (hact : t.act = s.act) (hdbg : t.dbg = s.dbg)
    (hpll : ∀ p, t.pllStopped p = s.pllStopped p) {sec : Nat} (hce : (s.act.clkCfg sec).leafCe = 0) (j : Nat) : t.netRuns sec j = s.netRuns sec j := by
  have hhalt : t.halted = s.halted := State.flag_of_reg (hreg _ (by decide)) _
  have hroot : t.leafRoot sec j = s.leafRoot sec j := by simp only [State.leafRoot, State.gclkSrc, hact]
  have hrclk : ∀ q, t.rclkRuns q = s.rclkRuns q := fun q => by
    unfold State.rclkRuns
    dsimp only
    by_cases hq : q < 36
    · have h1 : t.reg (R.LQ_RCLK q) = s.reg (R.LQ_RCLK q) := hreg _ (by simp only [R.LQ_RCLK]; omega)
      have h2 : t.reg (R.LN_STAT (4 * q + s.fld (R.LQ_RCLK q) F.LQ_RCLK_LANE)) = s.reg (R.LN_STAT (4 * q + s.fld (R.LQ_RCLK q) F.LQ_RCLK_LANE)) :=
        hreg _ (by
          have hlt : s.fld (R.LQ_RCLK q) F.LQ_RCLK_LANE < 4 := Word.fget_lt _ _
          simp only [R.LN_STAT]
          omega)
      simp only [State.flag_of_reg h1, State.fld_of_reg h1, State.flag_of_reg h2]
    · simp [hq]
  have hbank : ∀ b, t.bankOn b = s.bankOn b := fun b => by
    simp only [State.bankOn, State.bit_of_reg (hreg R.SYS_VCCIO_LO (by decide)), State.bit_of_reg (hreg R.SYS_VCCIO_HI (by decide))]
  have hgives : ∀ c, t.sourceGives c = s.sourceGives c := fun c => by
    cases c <;> simp only [State.sourceGives, hact, hrclk, hbank]
  have hstop : t.leafStopped sec j = s.leafStopped sec j := by simp only [State.leafStopped, hroot, hpll]
  have hfrz : t.fabFrozen sec = s.fabFrozen sec := by
    simp only [State.fabFrozen, State.frozen, hhalt, hdbg, State.bit_of_reg (hreg R.SYS_PD_STAT (by decide))]
  have hopen : t.leafOpen sec j = s.leafOpen sec j := by
    simp only [State.leafOpen, State.fld_of_reg (hreg R.CFG_BOOT_STAT (by decide)), hfrz, hact, hstop, State.leafCe, hce, Nat.zero_testBit,
      Bool.not_false, Bool.true_or]
  simp only [State.netRuns, hopen, hroot, hgives]

theorem LinesOnly.netRuns (h : LinesOnly k s t) {sec : Nat} (hce : (s.act.clkCfg sec).leafCe = 0) (j : Nat) : t.netRuns sec j = s.netRuns sec j :=
  State.netRuns_of (fun off ho => h.reg (by simp only [R.FAB_BUS_VAL_LO, R.FAB_BUS_VAL_HI]; omega)) (h.only.same .act) (h.only.same .dbg)
    (fun p => by
      rw [State.pllStopped, h.only.same .fab]
      rfl) hce j

/-! A sampling edge with a full pipeline delivers the oldest sample (R71, R72). -/

/-- What a sampling edge makes of the probe, but for what the sample delivered does to it. -/
def State.probePiped (s : State) (k : Nat) : Probe :=
  { s.probe k with
    oldLeft := (s.probe k).oldLeft - 1, old := if (s.probe k).oldLeft ≤ 1 then [] else (s.probe k).old
    align := if s.pinsActive k then (s.probe k).align - 1 else (s.probe k).align
    pipe := ((s.probe k).pipe ++ [s.busSample k (if 0 < (s.probe k).oldLeft then (s.probe k).old else s.lanes k)]).tail
    word := (s.probe k).pipe.headD 0 }

theorem prbEdge_full (hs : s.prbSampling k = true) (hp : (s.probe k).pipe.length = 4) :
    s.prbEdge k = (s.setProbe k (s.probePiped k)).prbTake k ((s.probe k).pipe.headD 0) := by
  obtain ⟨a, l, hl⟩ := List.exists_cons_of_length_pos (l := (s.probe k).pipe) (by omega)
  unfold State.prbEdge
  rw [if_neg (by simp [hs])]
  dsimp only
  rw [if_neg (by simp [hp]), hl]
  simp only [State.probePiped, hl]
  rfl

/-- Two states that differ in the lines of the bus of sector `k`, in draws, and in the flip-flops and groups of the fabric. -/
structure ProbeAlike (k : Nat) (s t : State) : Prop where
  regs : Regs (fun off => off = R.FAB_BUS_VAL_LO k ∨ off = R.FAB_BUS_VAL_HI k) s t
  act : t.act = s.act
  probes : t.fab.probe = s.fab.probe
  words : t.fab.words = s.fab.words
  zero : t.fab.zero = s.fab.zero
  loss : t.fab.loss = s.fab.loss

namespace ProbeAlike

theorem of_lines (h : LinesOnly k s t) : ProbeAlike k s t := by
  have hf := h.only.same .fab
  exact ⟨h.regs, h.only.same .act, by rw [hf], by rw [hf], by rw [hf], by rw [hf]⟩

theorem trans {u : State} (h1 : ProbeAlike k s t) (h2 : ProbeAlike k t u) : ProbeAlike k s u :=
  ⟨h1.regs.trans h2.regs, h2.act.trans h1.act, h2.probes.trans h1.probes, h2.words.trans h1.words, h2.zero.trans h1.zero, h2.loss.trans h1.loss⟩

variable (h : ProbeAlike k s t)
include h

theorem reg {off : Nat} (ho : off ≠ R.FAB_BUS_VAL_LO k ∧ off ≠ R.FAB_BUS_VAL_HI k) : t.reg off = s.reg off :=
  h.regs off (not_or_intro ho.1 ho.2)

theorem stat : t.prbState k = s.prbState k :=
  State.fld_of_reg (h.reg (by simp only [R.FAB_BUS_VAL_LO, R.FAB_BUS_VAL_HI, R.FAB_PRB_STAT]; omega)) _

theorem probe (j : Nat) : t.probe j = s.probe j := by rw [State.probe, h.probes]; rfl

theorem bmWord (sec b w : Nat) : t.bmWord sec b w = s.bmWord sec b w := by
  simp only [State.bmWord, State.lossOf, h.words, h.zero, h.loss]

end ProbeAlike

/-- An edge of the sampling clock of a sector that samples: what comes before the sample is taken, and what after. -/
theorem prbClock_sampling (hs : s.prbSampling k = true) (hce : (s.act.clkCfg k).leafCe = 0) (hp : (s.probe k).pipe.length = 4) :
    ∃ t, LinesOnly k s t ∧ ProbeAlike k ((t.setProbe k (t.probePiped k)).prbTake k ((s.probe k).pipe.headD 0)) (s.prbClock k) := by
  obtain ⟨j, hj⟩ : ∃ j, j = s.fld (R.FAB_PRB_CTRL k) F.FAB_PRB_CTRL_CLKSEL := ⟨_, rfl⟩
  obtain ⟨t, ht⟩ : ∃ t, t = ({ s with draws := s.draws + 1 } : State).keepLines k := ⟨_, rfl⟩
  have hl : LinesOnly k s t := by
    have h1 := linesOnly_keepLines ({ s with draws := s.draws + 1 } : State) k
    rw [ht]
    exact ⟨((Regs.refl _ s).with_draws (s.draws + 1)).trans h1.regs, ((Only.refl [.csr, .draws] s).with_draws (s.draws + 1)).trans h1.only⟩
  have hctrl : t.reg (R.FAB_PRB_CTRL k) = s.reg (R.FAB_PRB_CTRL k) :=
    hl.reg (by simp only [R.FAB_BUS_VAL_LO, R.FAB_BUS_VAL_HI, R.FAB_PRB_CTRL]; omega)
  have hruns : s.netRuns k j = true := by
    unfold State.prbSampling at hs
    exact hj ▸ (Bool.and_eq_true_iff.mp hs).2
  have hon : ∀ i, (2 ^ j &&& s.running k).testBit i = (decide (j = i) && s.netRuns k i) := fun i => by
    rw [Nat.testBit_and, Nat.testBit_two_pow, State.testBit_running]
  have hne : 2 ^ j &&& s.running k ≠ 0 := fun h0 => by
    have := hon j
    rw [h0] at this
    simp [hruns] at this
  have hst : t.prbSampling k = true := by
    unfold State.prbSampling at hs ⊢
    rw [State.flag_of_reg hctrl, State.fld_of_reg hctrl, hl.netRuns hce]
    exact hs
  have hprobe : t.probe k = s.probe k := by rw [State.probe, hl.only.same .fab]; rfl
  refine ⟨t, hl, ?_⟩
  unfold State.prbClock State.clockEdge
  dsimp only
  rw [← hj, if_neg hne, ← ht, State.fld_of_reg hctrl, ← hj, State.when_true (by rw [hon]; simp [hruns]), prbEdge_full hst (hprobe ▸ hp), hprobe]
  refine ProbeAlike.trans ?_ (.of_lines (linesOnly_keepLines _ k))
  exact ⟨(Regs.refl _ _).with_fab _, rfl, rfl, rfl, rfl, rfl⟩

/-! What a sample that is taken leaves. -/

theorem State.probe_setProbe (s : State) (k : Nat) (p : Probe) : (s.setProbe k p).probe k = p := Tbl.get_set_same _ _ _ _

theorem BmWord.data_sound {x : BmWord} (h : x.flips = []) : x.data = x.raw := by simp [BmWord.data, h]

/-- The check bits of a word stand above its 64 data bits. -/
theorem BmWord.bits_low {x : BmWord} {i : Nat} (hi : i < 64) : x.bits.getLsbD i = x.data.getLsbD i := by
  unfold BmWord.bits
  split
  · simp [hi]
  · rfl

/-- A fresh word holds the sample in its low 64 bits. -/
theorem freshWord_low (x : BitVec 64) (old : BmWord) (ecc : Bool) : (freshWord (x.setWidth 72) old ecc).bits.setWidth 64 = x := by
  have hlow : ∀ i < 64, (BitVec.ofNat 72 (2 ^ 64 - 1)).getLsbD i = true := fun i hi => by
    rw [BitVec.getLsbD_ofNat, Nat.testBit_two_pow_sub_one]
    simp [hi, show i < 72 by omega]
  have hhigh : ∀ i < 64, (0xFF#72 <<< 64).getLsbD i = false := fun i hi => by
    rw [BitVec.getLsbD_shiftLeft]
    simp [hi]
  refine BitVec.eq_of_getLsbD_eq fun i hi => ?_
  rw [BitVec.getLsbD_setWidth, BmWord.bits_low hi]
  cases ecc with
  | true =>
    rw [freshWord, if_pos rfl, BmWord.data_sound rfl, BitVec.getLsbD_and, hlow i hi, BitVec.getLsbD_setWidth]
    simp [hi, show i < 72 by omega]
  | false =>
    rw [freshWord, if_neg (by decide), BmWord.data_sound rfl, BitVec.getLsbD_or, BitVec.getLsbD_and, BitVec.getLsbD_and, hlow i hi, hhigh i hi,
      BitVec.getLsbD_setWidth]
    simp [hi, show i < 72 by omega]

/-- The sample `x` stands where the probe `p` was to store it. -/
def State.holdsSample (s : State) (k : Nat) (p : Probe) (x : BitVec 64) : Prop :=
  (s.bmWord k (p.first + p.idx / 1024) (p.idx % 1024)).bits.setWidth 64 = x

/-- A sample is stored at the probe's index, which moves on. -/
theorem prbStore_leaves (s : State) (k : Nat) (x : BitVec 64) :
    (s.prbStore k x).probe k = { s.probe k with idx := ((s.probe k).idx + 1) % (s.probe k).capacity } ∧ (s.prbStore k x).prbState k = s.prbState k ∧
    Regs (· = R.FAB_PRB_STAT k) s (s.prbStore k x) ∧ (s.prbStore k x).holdsSample k (s.probe k) x := by
  obtain ⟨y, hy⟩ : ∃ y, y = freshWord (x.setWidth 72) (s.bmWord k ((s.probe k).first + (s.probe k).idx / 1024) ((s.probe k).idx % 1024))
    (s.act.bmCfg (k * 256 + ((s.probe k).first + (s.probe k).idx / 1024))).ecc := ⟨_, rfl⟩
  obtain ⟨t, ht⟩ : ∃ t, t = s.setBmWord k ((s.probe k).first + (s.probe k).idx / 1024) ((s.probe k).idx % 1024) y := ⟨_, rfl⟩
  obtain ⟨u, hu⟩ : ∃ u, u = t.when ((s.probe k).idx + 1 == (s.probe k).capacity && s.prbState k == 1) fun v =>
    v.setFlag (R.FAB_PRB_STAT k) F.FAB_PRB_STAT_WRAPPED true := ⟨_, rfl⟩
  have he : s.prbStore k x = u.setProbe k { s.probe k with idx := ((s.probe k).idx + 1) % (s.probe k).capacity } := by
    rw [hu, ht, hy]
    rfl
  refine ⟨?_, ?_, (Regs.refl _ s).prbStore _ _ rfl, ?_⟩
  · rw [he, State.probe_setProbe]
  · rw [he]
    refine (?_ : u.prbState k = s.prbState k)
    rw [hu]
    cases (s.probe k).idx + 1 == (s.probe k).capacity && s.prbState k == 1 with
    | false => rw [ht]; rfl
    | true =>
      refine (State.fld_setFlag_fld _ _ _ _ _ (by decide)).trans ?_
      rw [ht]
      rfl
  · have hfab : u.fab = t.fab := by
      rw [hu]
      exact ((Only.refl [.csr] t).when _ fun _ h1 => h1.setFlag _ _ _).same .fab
    have hw : ∀ sec b w, (s.prbStore k x).bmWord sec b w = t.bmWord sec b w := fun sec b w => by
      rw [he]
      refine (?_ : u.bmWord sec b w = t.bmWord sec b w)
      rw [State.bmWord, hfab]
      simp only [State.bmWord, State.lossOf, hfab]
    rw [State.holdsSample, hw, ht, State.bmWord_setBmWord_same, hy, freshWord_low]

/-- A matching sample triggers an armed capture (R79, R81). -/
theorem prbTake_triggers {x : BitVec 64} (h1 : s.prbState k = 1) (hm : s.prbMatch k x = true) : (s.prbTake k x).prbState k = 2 ∧
    (s.prbTake k x).fld (R.FAB_PRB_TRIGPTR k) F.FAB_PRB_TRIGPTR_INDEX = (s.probe k).idx % 2 ^ 14 ∧
    ((s.prbTake k x).probe k).left = min (s.fld (R.FAB_PRB_CAP k) F.FAB_PRB_CAP_POST) ((s.probe k).capacity - 1) ∧
    ((s.prbTake k x).probe k).idx = ((s.probe k).idx + 1) % (s.probe k).capacity ∧ (s.prbTake k x).holdsSample k (s.probe k) x := by
  obtain ⟨hp, -, hr, hx⟩ := prbStore_leaves s k x
  obtain ⟨t, ht⟩ : ∃ t, t = s.prbStore k x := ⟨_, rfl⟩
  rw [← ht] at hp hr hx
  have he : s.prbTake k x = ((t.setFld (R.FAB_PRB_STAT k) F.FAB_PRB_STAT_STATE 2).setFld (R.FAB_PRB_TRIGPTR k) F.FAB_PRB_TRIGPTR_INDEX
      (s.probe k).idx).setProbe k { t.probe k with left := min (t.fld (R.FAB_PRB_CAP k) F.FAB_PRB_CAP_POST) ((t.probe k).capacity - 1) } := by
    unfold State.prbTake
    dsimp only
    rw [if_pos h1, if_pos hm, ht]
  have hcap : t.reg (R.FAB_PRB_CAP k) = s.reg (R.FAB_PRB_CAP k) := hr _ (by simp only [R.FAB_PRB_CAP, R.FAB_PRB_STAT]; omega)
  have hne : R.FAB_PRB_STAT k ≠ R.FAB_PRB_TRIGPTR k := by simp only [R.FAB_PRB_STAT, R.FAB_PRB_TRIGPTR]; omega
  refine ⟨?_, ?_, ?_, ?_, ?_⟩
  · rw [he]
    exact (State.fld_setFld_other _ _ _ _ _ _ hne).trans (State.fld_setFld_same _ _ _ _ (by decide))
  · rw [he]
    exact State.fld_setFld_same _ (R.FAB_PRB_TRIGPTR k) _ _ (by decide)
  · rw [he, State.probe_setProbe, State.fld_of_reg hcap, hp]
    rfl
  · rw [he, State.probe_setProbe, hp]
  · rw [he]
    exact hx

/-- The last sample of a triggered capture ends it (R82). -/
theorem prbTake_completes {x : BitVec 64} (h2 : s.prbState k = 2) (hl : (s.probe k).left = 1) : (s.prbTake k x).prbState k = 3 ∧
    ((s.prbTake k x).probe k).left = 0 ∧ (s.prbTake k x).holdsSample k (s.probe k) x := by
  obtain ⟨hp, hst, -, hx⟩ := prbStore_leaves s k x
  obtain ⟨t, ht⟩ : ∃ t, t = s.prbStore k x := ⟨_, rfl⟩
  rw [← ht] at hp hst hx
  have hleft : (t.probe k).left - 1 = 0 := by rw [hp]; simp [hl]
  have he : s.prbTake k x = (t.setProbe k { t.probe k with left := 0 }).setFld (R.FAB_PRB_STAT k) F.FAB_PRB_STAT_STATE 3 := by
    unfold State.prbTake
    dsimp only
    rw [if_neg (by simp [h2]), if_pos h2, if_neg (by simp [hl]), ← ht, hleft]
    refine State.when_true ?_ _ _
    rw [State.probe_setProbe, show (t.setProbe k { t.probe k with left := 0 }).prbState k = t.prbState k from rfl, hst, h2]
    rfl
  rw [he]
  refine ⟨State.fld_setFld_same _ _ _ _ (by decide), ?_, hx⟩
  exact congrArg Probe.left (State.probe_setProbe t k _)

end

/-- The same sample stands in states alike. -/
theorem ProbeAlike.holds {k : Nat} {s t : State} (h : ProbeAlike k s t) {p : Probe} {x : BitVec 64} (hx : s.holdsSample k p x) : t.holdsSample k p x := by
  rw [State.holdsSample, h.bmWord]
  exact hx

/-- The state in which an edge takes its sample. -/
theorem takesSample {k : Nat} {s t : State} (h : LinesOnly k s t) :
    (t.setProbe k (t.probePiped k)).prbState k = s.prbState k ∧ (∀ x, (t.setProbe k (t.probePiped k)).prbMatch k x = s.prbMatch k x) ∧
    ((t.setProbe k (t.probePiped k)).probe k).idx = (s.probe k).idx ∧ ((t.setProbe k (t.probePiped k)).probe k).left = (s.probe k).left ∧
    ((t.setProbe k (t.probePiped k)).probe k).first = (s.probe k).first ∧ ((t.setProbe k (t.probePiped k)).probe k).count = (s.probe k).count ∧
    (t.setProbe k (t.probePiped k)).fld (R.FAB_PRB_CAP k) F.FAB_PRB_CAP_POST = s.fld (R.FAB_PRB_CAP k) F.FAB_PRB_CAP_POST := by
  have hp : t.probe k = s.probe k := by rw [State.probe, h.only.same .fab]; rfl
  have hr : ∀ off, 0x3000100 + 0x10000 * k ≤ off → off < 0x3000200 + 0x10000 * k → t.reg off = s.reg off := fun off h1 h2 => h.reg (by
    simp only [R.FAB_BUS_VAL_LO, R.FAB_BUS_VAL_HI]; omega)
  refine ⟨State.fld_of_reg (hr _ ?_ ?_) _, fun x => ?_, ?_, ?_, ?_, ?_, State.fld_of_reg (hr _ ?_ ?_) _⟩
  any_goals
    rw [State.probe_setProbe, State.probePiped, hp]
  any_goals
    simp only [R.FAB_PRB_STAT, R.FAB_PRB_CAP]
    omega
  refine (?_ : t.prbMatch k x = s.prbMatch k x)
  unfold State.prbMatch
  rw [hr (R.FAB_PRB_MASK_HI k), hr (R.FAB_PRB_MASK_LO k), hr (R.FAB_PRB_VAL_HI k), hr (R.FAB_PRB_VAL_LO k)]
  all_goals
    simp only [R.FAB_PRB_MASK_HI, R.FAB_PRB_MASK_LO, R.FAB_PRB_VAL_HI, R.FAB_PRB_VAL_LO]
    omega

theorem probeTrigger_leaves {k : Fin 32} {before : Nat} {s u : State} (hu : u = s.prbClocks k before) (hs : s.prbState k = 1) (hus : u.prbState k = 1)
    (hsamp : u.prbSampling k = true) (hce : (u.act.clkCfg k).leafCe = 0) (hpipe : (u.probe k).pipe.length = 4)
    (hm : u.prbMatch k ((u.probe k).pipe.headD 0) = true) : Completes (.probeTrigger k before) s (fun t =>
    t.prbState k = 2 ∧ t.fld (R.FAB_PRB_TRIGPTR k) F.FAB_PRB_TRIGPTR_INDEX = (u.probe k).idx % 2 ^ 14 ∧
    (t.probe k).left = min (u.fld (R.FAB_PRB_CAP k) F.FAB_PRB_CAP_POST) ((u.probe k).capacity - 1) ∧
    (t.probe k).idx = ((u.probe k).idx + 1) % (u.probe k).capacity ∧
    t.holdsSample k (u.probe k) ((u.probe k).pipe.headD 0) ∧ Only [.csr, .fab, .draws] s t) := by
  obtain ⟨t, hl, ha⟩ := prbClock_sampling hsamp hce hpipe
  obtain ⟨a1, a2, a3, -, a5, a6, a7⟩ := takesSample hl
  obtain ⟨h1, h2, h3, h4, h5⟩ := prbTake_triggers (a1.trans hus) ((a2 _).trans hm)
  have hcap : ((t.setProbe k (t.probePiped k)).probe k).capacity = (u.probe k).capacity := by rw [Probe.capacity, a6]; rfl
  have hplace : (t.setProbe k (t.probePiped k)).prbTake k ((u.probe k).pipe.headD 0) |>.holdsSample k (u.probe k) ((u.probe k).pipe.headD 0) := by
    rw [State.holdsSample, a3, a5] at h5
    exact h5
  have hend := ha.stat.trans h1
  refine ⟨u.prbClock k, ?_, hend, ?_, ?_, ?_, ha.holds hplace, ?_⟩
  · refine congrArg Host.Outcome.next ?_
    rw [← hu]
    exact if_pos (by simp [hs, hus, hend])
  · rw [State.fld_of_reg (ha.reg (by simp only [R.FAB_BUS_VAL_LO, R.FAB_BUS_VAL_HI, R.FAB_PRB_TRIGPTR]; omega)), h2, a3]
  · rw [ha.probe, h3, a7, hcap]
  · rw [ha.probe, h4, a3, hcap]
  · rw [hu]
    exact ((Only.refl _ s).prbClocks _ _).prbClock _

theorem probeCaptureDone_leaves {k : Fin 32} {s : State} (hs : s.prbState k = 2) (hsamp : s.prbSampling k = true)
    (hce : (s.act.clkCfg k).leafCe = 0) (hpipe : (s.probe k).pipe.length = 4) (hleft : (s.probe k).left = 1) :
    Completes (.probeCaptureDone k) s (fun t => t.prbState k = 3 ∧ (t.probe k).left = 0 ∧
      t.holdsSample k (s.probe k) ((s.probe k).pipe.headD 0) ∧ Only [.csr, .fab, .draws] s t) := by
  obtain ⟨t, hl, ha⟩ := prbClock_sampling hsamp hce hpipe
  obtain ⟨a1, -, a3, a4, a5, -, -⟩ := takesSample hl
  obtain ⟨h1, h2, h3⟩ := prbTake_completes (x := (s.probe k).pipe.headD 0) (a1.trans hs) (a4.trans hleft)
  have hend := ha.stat.trans h1
  have hdone : (s.prbClock k).prbDone k = s.prbClock k := State.when_false (by rw [hend]; rfl) _ _
  rw [State.holdsSample, a3, a5] at h3
  refine ⟨s.prbClock k, ?_, hend, (congrArg Probe.left (ha.probe k)).trans h2, ha.holds h3, (Only.refl _ s).prbClock _⟩
  refine congrArg Host.Outcome.next ?_
  rw [hleft]
  refine (if_pos ?_).trans hdone
  refine Bool.and_eq_true_iff.mpr ⟨by simp [hs], ?_⟩
  rw [show s.prbClocks k 1 = s.prbClock k from rfl, hdone, hend]
  rfl

theorem probeCaptures : Obligations.ProbeCaptures := by
  refine ⟨fun k before s hs hus hsamp hce hpipe hm => probeTrigger_leaves rfl hs hus hsamp hce hpipe hm,
    fun k s hs hsamp hce hpipe hleft => probeCaptureDone_leaves hs hsamp hce hpipe hleft, fun k s hs hleft => ?done,
    fun k before s hs => congrArg Host.Outcome.next (if_neg (by simp [hs])), fun k s hs => congrArg Host.Outcome.next (if_neg (by simp [hs]))⟩
  have hdone : s.prbDone k = s.setFld (R.FAB_PRB_STAT k) F.FAB_PRB_STAT_STATE 3 := State.when_true (by simp [hs, hleft]) _ _
  have hend : (s.prbDone k).prbState k = 3 := by
    rw [hdone]
    exact State.fld_setFld_same _ _ _ _ (by decide)
  refine ⟨s.prbDone k, ?_, hend, ?_, (Only.refl _ s).prbDone _⟩
  · refine congrArg Host.Outcome.next ?_
    rw [hleft]
    exact if_pos (by rw [show s.prbClocks k 0 = s from rfl, hend]; simp [hs])
  · exact Regs.but ((Regs.refl _ s).prbDone _ (by simp))

end Sys2Proof.Machine
end

section
/-! ## Block memories (O21) -/

namespace Sys2Proof.Machine

-- Elaborated in order: side by side, so many short proofs would each hold a thread with its stack.
set_option Elab.async false

open Sys2Proof

section
variable {s t : State} {k b : Nat} {portB : Bool}

/-! The ports and words of a block memory. -/

theorem State.portOut_setPortOut (hg : s.fab.gsr = false) (o : PortOut) : (s.setPortOut k b portB o).portOut k b portB = o := by
  unfold State.portOut State.setPortOut
  dsimp only
  rw [hg, Tbl.get_set_same]
  rfl

theorem State.reg_setPortOut (o : PortOut) (off : Nat) : (s.setPortOut k b portB o).reg off = s.reg off := rfl

theorem portKey_ne {p q : Bool} (h : p ≠ q) : portKey k b p ≠ portKey k b q := by
  intro he
  refine h ?_
  cases p <;> cases q <;> simp [portKey, b2n] at he ⊢

theorem State.portOut_setPortOut_other {q : Bool} (h : q ≠ portB) (o : PortOut) : (s.setPortOut k b portB o).portOut k b q = s.portOut k b q := by
  unfold State.portOut State.setPortOut
  dsimp only
  rw [Tbl.get_set_other _ _ _ _ _ (portKey_ne h)]

theorem State.portOut_of (hf : t.fab = s.fab) (ha : t.act = s.act) (q : Bool) : t.portOut k b q = s.portOut k b q := by
  simp only [State.portOut, hf, ha]

theorem State.bmWord_of (hf : t.fab = s.fab) (sec b w : Nat) : t.bmWord sec b w = s.bmWord sec b w := by
  simp only [State.bmWord, State.lossOf, hf]

theorem bmOperate_free (h : s.rmwOf k b = none) (addr : Nat) (busy : Bool) (f : State → State) : s.bmOperate k b portB addr busy f = f s := by
  unfold State.bmOperate
  rw [h]

/-! Reading a stored word. -/

theorem BmWord.read_plain (x : BmWord) : x.read false = (x.bits, false, false) := rfl

theorem BmWord.read_sound {x : BmWord} (he : x.ecc = true) (hf : x.flips = []) : x.read true = (x.raw, false, false) := by
  simp [BmWord.read, he, hf]

theorem BmWord.read_corrected {x : BmWord} (he : x.ecc = true) (hf : x.flips.length = 1) : x.read true = (x.raw, true, false) := by
  simp [BmWord.read, he, hf]

theorem BmWord.read_double {x : BmWord} (he : x.ecc = true) (hf : x.flips.length = 2) : x.read true = (x.data, false, true) := by
  simp [BmWord.read, he, hf]

theorem bmPortRead_fetch {r : BitVec 72 × Bool × Bool} {addr : Nat} {c : BmCfg} (hc : s.act.bmCfg (k * 256 + b) = c)
    (hr : (s.bmWord k b (portPlace (c.shape portB) addr).1).read c.ecc = r) : s.bmPortRead k b portB addr false =
    (s.bmFlags k b (portPlace (c.shape portB) addr).1 r.2.1 r.2.2).setPortOut k b portB
      ⟨portWord (c.shape portB) r.1 (portPlace (c.shape portB) addr).2, r.2.1, r.2.2, false⟩ := by
  unfold State.bmPortRead State.bmFetch
  dsimp only
  rw [hc, if_neg (by simp), hr]

theorem wordsSame_setPortOut (h : Only [.csr, .ic, .err] s t) (o : PortOut) : WordsSame s (t.setPortOut k b portB o) := fun sec j w =>
  (State.bmWord_of (s := s) (h.same .fab) sec j w)

theorem bmFlags_silent (s : State) (k b w : Nat) : s.bmFlags k b w false false = s := rfl

/-- A counter that fills its register counts up to its greatest value. -/
theorem State.reg_count (s : State) (c : Nat) : (s.count c ⟨0, 32⟩ 1).reg c = BitVec.ofNat 32 (min ((s.reg c).toNat + 1) (2 ^ 32 - 1)) := by
  have hget : (s.reg c).fget ⟨0, 32⟩ = (s.reg c).toNat := by
    show ((s.reg c).toNat >>> 0) % 2 ^ 32 = _
    rw [Nat.shiftRight_zero]
    exact Nat.mod_eq_of_lt (s.reg c).isLt
  rw [State.count, State.reg_setFld, if_pos rfl, State.fld, hget]
  refine BitVec.eq_of_getLsbD_eq fun i hi => ?_
  rw [Word.getLsbD_fput _ _ _ _ hi, BitVec.getLsbD_ofNat]
  simp [satAdd, hi]

/-- A single error counts in BM_CE_CNT, a double one in BM_DE_CNT (R101). -/
theorem bmError_counts (s : State) (k : Fin 32) (b w : Nat) (de : Bool) {c : Nat} (hc : (if de then R.BM_DE_CNT k else R.BM_CE_CNT k) = c) :
    (s.bmError k b w de).reg c = BitVec.ofNat 32 (min ((s.reg c).toNat + 1) (2 ^ 32 - 1)) := by
  have hk := k.2
  obtain ⟨t, ht⟩ : ∃ t, t = if de then s.count (R.BM_DE_CNT k) F.BM_DE_CNT_COUNT 1 else s.count (R.BM_CE_CNT k) F.BM_CE_CNT_COUNT 1 := ⟨_, rfl⟩
  have hcount : t = s.count c ⟨0, 32⟩ 1 := by
    rw [ht, ← hc]
    cases de <;> rfl
  have hne : R.BM_LAST_ERR k ≠ c ∧ c / 65536 ≠ 5 := by
    rw [← hc]
    simp only [R.BM_LAST_ERR, R.BM_DE_CNT, R.BM_CE_CNT]
    split <;> omega
  have hrest : Regs (· ≠ c) t (s.bmError k b w de) := by
    unfold State.bmError
    dsimp only
    rw [← ht]
    exact ((Regs.refl (· ≠ c) t).setReg _ hne.1).when _ fun _ h1 => h1.report _ _ (by simp) (by simp) fun off h5 ho => hne.2 (ho ▸ h5)
  rw [hrest.same, hcount, State.reg_count]

end

theorem State.bmUpset_nil (s : State) (k b w : Nat) : s.bmUpset k b w [] = s := rfl

/-- What an upset of a stored word leaves. -/
theorem bmUpset_leaves (s : State) (k b w : Nat) (up : List (Fin 72)) : (s.bmUpset k b w up).fab.gsr = s.fab.gsr ∧
    (∀ j i, (s.bmUpset k b w up).rmwOf j i = s.rmwOf j i) ∧ WordsBut k b w s (s.bmUpset k b w up) := by
  unfold State.bmUpset
  dsimp only
  split
  · exact ⟨rfl, fun _ _ => rfl, fun _ _ _ _ => rfl⟩
  · exact ⟨rfl, fun _ _ => rfl, fun sec j i hne => s.bmWord_setBmWord_other _ _ _ _ _ _ _ hne⟩

/-- What a read that finds an error leaves. -/
theorem bmReadError_leaves {s : State} {k : Fin 32} {b : Nat} {portB de : Bool} {cnt : Nat} (hg : s.fab.gsr = false) (o : PortOut)
    (hcnt : (if de then R.BM_DE_CNT k else R.BM_CE_CNT k) = cnt) (w : Nat) :
    ((s.bmFlags k b w (!de) de).setPortOut k b portB o).portOut k b portB = o ∧
    ((s.bmFlags k b w (!de) de).setPortOut k b portB o).reg cnt = BitVec.ofNat 32 (min ((s.reg cnt).toNat + 1) (2 ^ 32 - 1)) ∧
    WordsSame s ((s.bmFlags k b w (!de) de).setPortOut k b portB o) ∧
    Only [.fab, .csr, .ic, .err] s ((s.bmFlags k b w (!de) de).setPortOut k b portB o) := by
  have hflags : s.bmFlags k b w (!de) de = s.bmError k b w de := by
    cases de with
    | false => exact (if_neg (by decide)).trans (if_pos rfl)
    | true => exact if_pos rfl
  have ho : Only [.csr, .ic, .err] s (s.bmFlags k b w (!de) de) := (Only.refl _ s).bmFlags k b w (!de) de
  refine ⟨State.portOut_setPortOut ?_ _, ?_, wordsSame_setPortOut ho _, (ho.mono (by simp)).setPortOut _ _ _ _⟩
  · rw [ho.same .fab]
    exact hg
  · rw [State.reg_setPortOut, hflags]
    exact bmError_counts s k b w de hcnt

/-- Port reads (R89, R91, R93, R96, R101). -/
theorem blockMemoryRead : BlockMemoryRead := by
  intro k b portB addr busy s c p x hu hg hr
  have hexec : ∀ sr up, exec (.bmRead k b portB addr sr busy up) s = .next ((s.bmUpset k b p.1 up).bmPortRead k b portB addr sr) := fun sr up => by
    refine congrArg Host.Outcome.next ?_
    rw [if_neg (by simp [hu])]
    exact bmOperate_free (((bmUpset_leaves s k b p.1 up).2.1 _ _).trans hr) _ _ _
  have hexec0 : ∀ sr, exec (.bmRead k b portB addr sr busy []) s = .next (s.bmPortRead k b portB addr sr) := fun sr => by
    rw [hexec, State.bmUpset_nil]
  have hfetch : ∀ (u : State) (r : BitVec 72 × Bool × Bool), u.act = s.act → (u.bmWord k b p.1).read c.ecc = r → u.bmPortRead k b portB addr false =
      (u.bmFlags k b p.1 r.2.1 r.2.2).setPortOut k b portB ⟨portWord (c.shape portB) r.1 p.2, r.2.1, r.2.2, false⟩ :=
    fun u r ha hr => bmPortRead_fetch (by rw [ha]) hr
  have herror : ∀ (d : BitVec 72) (de : Bool) (cnt : Nat), (if de then R.BM_DE_CNT k else R.BM_CE_CNT k) = cnt →
      (s.bmWord k b p.1).read c.ecc = (d, !de, de) → Completes (.bmRead k b portB addr false busy []) s (fun t =>
      t.portOut k b portB = ⟨portWord (c.shape portB) d p.2, !de, de, false⟩ ∧
      t.reg cnt = BitVec.ofNat 32 (min ((s.reg cnt).toNat + 1) (2 ^ 32 - 1)) ∧
      WordsSame s t ∧ Only [.fab, .csr, .ic, .err] s t) := fun d de cnt hcnt hd => by
    obtain ⟨h1, h2, h3, h4⟩ := bmReadError_leaves (portB := portB) hg ⟨portWord (c.shape portB) d p.2, !de, de, false⟩ hcnt p.1
    exact ⟨_, (hexec0 false).trans (congrArg _ (hfetch s _ rfl hd)), h1, h2, h3, h4⟩
  refine ⟨fun ho => ?_, fun he up => ?_, fun he hx hf => ?_, fun he hx hf => ?_, fun he hx hf => ?_⟩
  · have hread : s.bmPortRead k b portB addr true = s.setPortOut k b portB ⟨c.outInit portB, false, false, false⟩ := by
      unfold State.bmPortRead
      rw [if_pos (by simpa using ho), BmCfg.firstOut, if_pos ho]
    exact ⟨_, (hexec0 true).trans (congrArg _ hread), State.portOut_setPortOut hg _, wordsSame_setPortOut (Only.refl _ s) _,
      (Only.refl _ s).setPortOut _ _ _ _⟩
  · obtain ⟨u, hud⟩ : ∃ u, u = s.bmUpset k b p.1 up := ⟨_, rfl⟩
    obtain ⟨h1, -, h3⟩ := bmUpset_leaves s k b p.1 up
    rw [← hud] at h1 h3
    have hou : Only [.fab] s u := hud ▸ (Only.refl _ s).bmUpset _ _ _ _
    have hread := hfetch u ((u.bmWord k b p.1).bits, false, false) (hou.same .act) ((congrArg (BmWord.read _ ·) he).trans (BmWord.read_plain _))
    refine ⟨u.setPortOut k b portB ⟨portWord (c.shape portB) (u.bmWord k b p.1).bits p.2, false, false, false⟩,
      (hexec false up).trans (by rw [← hud, hread]; rfl), State.portOut_setPortOut (h1.trans hg) _, fun hn => ?_, h3, hou.setPortOut _ _ _ _⟩
    rw [hud, hn]
    rfl
  · have hread := hfetch s _ rfl ((congrArg (BmWord.read _ ·) he).trans <| BmWord.read_sound hx hf)
    exact ⟨_, (hexec0 false).trans (congrArg _ hread), State.portOut_setPortOut hg _, wordsSame_setPortOut (Only.refl _ s) _,
      (Only.refl _ s).setPortOut _ _ _ _⟩
  · exact herror _ false _ (if_neg (by decide)) ((congrArg (BmWord.read _ ·) he).trans <| BmWord.read_corrected hx hf)
  · exact herror _ true _ (if_pos rfl) ((congrArg (BmWord.read _ ·) he).trans <| BmWord.read_double hx hf)

/-! Writing. -/

section
variable {s : State} {k b addr : Nat} {portB : Bool} {data : BitVec 72} {be : BitVec 8} {c : BmCfg}

/-- The bits that the mask leaves out stay. -/
theorem mergeBits_left (old data m : BitVec 72) (lo : Nat) : mergeBits old data m lo &&& ~~~ (m <<< lo) = old &&& ~~~ (m <<< lo) := by
  refine BitVec.eq_of_getLsbD_eq fun i hi => ?_
  unfold mergeBits
  simp only [BitVec.getLsbD_and, BitVec.getLsbD_or, BitVec.getLsbD_not, BitVec.getLsbD_shiftLeft]
  by_cases h : i < lo <;> cases m.getLsbD (i - lo) <;> simp [h, hi]

/-- The bits that the mask picks are the data's, where the mask lies within the word. -/
theorem mergeBits_picked {old data m : BitVec 72} {lo : Nat} (h : ∀ i, m.getLsbD i = true → i + lo < 72) :
    (mergeBits old data m lo >>> lo) &&& m = data &&& m := by
  refine BitVec.eq_of_getLsbD_eq fun i hi => ?_
  unfold mergeBits
  simp only [BitVec.getLsbD_and, BitVec.getLsbD_or, BitVec.getLsbD_not, BitVec.getLsbD_shiftLeft, BitVec.getLsbD_ushiftRight]
  cases hm : m.getLsbD i with
  | false => simp
  | true =>
    have := h i hm
    simp [hm, show lo + i < 72 by omega]

/-- A sum of pieces of `w` bits, one above the other, lies below the end of the last. -/
theorem sum_pieces_lt (w : Nat) (f : Nat → Nat) (hf : ∀ k, f k ≤ (2 ^ w - 1) * 2 ^ (w * k)) (n : Nat) : ((List.range n).map f).sum < 2 ^ (w * n) := by
  induction n with
  | zero => simp
  | succ n ih =>
    rw [List.range_succ, List.map_append, List.sum_append]
    simp only [List.map_cons, List.map_nil, List.sum_cons, List.sum_nil, Nat.add_zero]
    have hw : 2 ^ (w * (n + 1)) = (2 ^ w - 1) * 2 ^ (w * n) + 2 ^ (w * n) := by
      have h1 := Nat.two_pow_pos w
      rw [Nat.mul_add, Nat.mul_one, Nat.pow_add, Nat.mul_comm, ← Nat.succ_mul]
      congr 1
      omega
    have := hf n
    omega

/-- A byte-enable mask lies within its port's width. -/
theorem beMask_lt (sh : Nat) (be : BitVec 8) {i : Nat} (h : (beMask sh be).getLsbD i = true) : i < shapeWidth sh := by
  obtain ⟨w, hw⟩ : ∃ w, w = shapeWidth sh := ⟨_, rfl⟩
  obtain ⟨bw, hbw⟩ : ∃ bw, bw = if shapeFamily sh = 64 then 8 else 9 := ⟨_, rfl⟩
  unfold beMask at h
  dsimp only at h
  rw [← hw, ← hbw] at h
  rw [← hw]
  have hof : ∀ n : Nat, n < 2 ^ w → (BitVec.ofNat 72 n).getLsbD i = true → i < w := fun n hn hi => by
    rw [BitVec.getLsbD_ofNat, Bool.and_eq_true] at hi
    by_contra hge
    rw [Nat.testBit_lt_two_pow (Nat.lt_of_lt_of_le hn (Nat.pow_le_pow_right (by decide) (Nat.not_lt.mp hge)))] at hi
    simp at hi
  split at h
  · exact hof _ (by have := Nat.two_pow_pos w; omega) h
  · refine hof _ (Nat.lt_of_lt_of_le (sum_pieces_lt bw _ (fun k => ?_) _) (Nat.pow_le_pow_right (by decide) (Nat.mul_div_le _ _))) h
    split
    · exact Nat.le_refl _
    · exact Nat.zero_le _

theorem portPlace_fits (sh addr : Nat) : (portPlace sh addr).2 + shapeWidth sh ≤ 72 := by
  unfold portPlace
  dsimp only
  generalize addr % shapeDepth sh = x
  match sh with
  | 0 | 1 | 2 | 3 | 4 | 5 | 6 | 7 =>
    simp only [shapeWidth, shapeFamily, Nat.reduceLT, reduceIte]
    omega
  | n + 8 =>
    rw [show shapeWidth (n + 8) = 9 from rfl, shapeFamily, if_neg (by omega)]
    omega

theorem bmStore_plain (hc : s.act.bmCfg (k * 256 + b) = c) (hn : c.narrow portB be = false) (he : c.ecc = false) :
    s.bmStore k b portB addr data be = s.setBmWord k b (portPlace (c.shape portB) addr).1
      ⟨mergeBits (s.bmWord k b (portPlace (c.shape portB) addr).1).bits data (beMask (c.shape portB) be) (portPlace (c.shape portB) addr).2, false, []⟩ := by
  unfold State.bmStore
  rw [hc, if_neg (by simp [hn]), if_neg (by simp [he])]

theorem bmBefore_plain (hc : s.act.bmCfg (k * 256 + b) = c) (hn : c.narrow portB be = false) (he : c.ecc = false) (rd : Bool) :
    s.bmBefore k b portB addr be rd = (if rd && c.mode portB == 1 then some (portWord (c.shape portB)
      (s.bmWord k b (portPlace (c.shape portB) addr).1).bits (portPlace (c.shape portB) addr).2, false, false) else none, s) := by
  unfold State.bmBefore State.bmFetch
  simp only [hc, hn, he, Bool.false_or, BmWord.read_plain, bmFlags_silent]
  split <;> rfl

/-- What the port shows after a write that is no read-modify-write (R92). -/
def wideOut (c : BmCfg) (portB : Bool) (addr : Nat) (rd : Bool) (keep : PortOut) (new : BmWord) : Option (BitVec 72 × Bool × Bool) → PortOut
  | some r =>
    if rd && c.mode portB == 1 then ⟨r.1, r.2.1, r.2.2, false⟩
    else if rd && c.mode portB == 0 then ⟨portWord (c.shape portB) new.data (portPlace (c.shape portB) addr).2, r.2.1, r.2.2, false⟩
    else { keep with sbe := r.2.1, dbe := r.2.2, wait := false }
  | none =>
    if rd && c.mode portB == 0 then ⟨portWord (c.shape portB) new.bits (portPlace (c.shape portB) addr).2, false, false, false⟩
    else { keep with wait := false }

theorem bmAfter_wide (hc : s.act.bmCfg (k * 256 + b) = c) (hn : c.narrow portB be = false) (rd : Bool) (pre : Option (BitVec 72 × Bool × Bool)) :
    s.bmAfter k b portB addr data be rd false pre = (s.bmStore k b portB addr data be).setPortOut k b portB
      (wideOut c portB addr rd (s.portOut k b portB) ((s.bmStore k b portB addr data be).bmWord k b (portPlace (c.shape portB) addr).1) pre) := by
  unfold State.bmAfter
  simp only [hc, hn, Bool.false_and, Bool.false_eq_true, if_false, Bool.or_false]
  cases pre <;> rfl

end

/-- A mask of 64 bits is that of a port as wide as the word, which begins at bit 0. -/
theorem portPlace_whole {sh : Nat} {be : BitVec 8} (h : beMask sh be = BitVec.ofNat 72 (2 ^ 64 - 1)) (addr : Nat) : (portPlace sh addr).2 = 0 := by
  have hw : 63 < shapeWidth sh := beMask_lt sh be (by rw [h]; decide)
  unfold portPlace
  dsimp only
  match sh with
  | 0 => simp only [shapeWidth, shapeFamily, Nat.reduceLT, reduceIte, Nat.mul_mod_left]
  | 5 => simp only [shapeWidth, shapeFamily, Nat.reduceLT, reduceIte, Nat.mul_mod_left]
  | 1 | 2 | 3 | 4 | 6 | 7 | n + 8 =>
    simp only [shapeWidth] at hw
    omega

theorem State.act_bmBefore (s : State) (k b : Nat) (portB : Bool) (addr : Nat) (be : BitVec 8) (rd : Bool) :
    (s.bmBefore k b portB addr be rd).2.act = s.act ∧ (s.bmBefore k b portB addr be rd).2.fab = s.fab :=
  ⟨((Only.refl [.csr, .ic, .err] s).bmBefore k b portB addr be rd).same .act, ((Only.refl [.csr, .ic, .err] s).bmBefore k b portB addr be rd).same .fab⟩

theorem State.portOut_with_rmw (s : State) (k b : Nat) (portB : Bool) (rmw : List (Nat × Option Rmw)) :
    ({ s with fab := { s.fab with rmw := rmw } } : State).portOut k b portB = s.portOut k b portB := rfl

/-- Under SR with the output register a port presents OUT_INIT (R93). -/
theorem bmAfter_init {s : State} {k b addr : Nat} {portB : Bool} {be : BitVec 8} {data : BitVec 72} {rd : Bool} (hg : s.fab.gsr = false)
    (ho : (s.act.bmCfg (k * 256 + b)).outReg portB = true) (pre : Option (BitVec 72 × Bool × Bool)) :
    ((s.bmAfter k b portB addr data be rd true pre).portOut k b portB).dout = (s.act.bmCfg (k * 256 + b)).outInit portB := by
  have hshow : ∀ (t : State) (w : Bool), t.fab.gsr = s.fab.gsr →
      ((t.setPortOut k b portB { (s.act.bmCfg (k * 256 + b)).firstOut portB with wait := w }).portOut k b portB).dout = (s.act.bmCfg (k * 256 + b)).outInit portB :=
    fun t w ht => by
      rw [State.portOut_setPortOut (ht.trans hg), BmCfg.firstOut, if_pos ho]
  have hstore : (s.bmStore k b portB addr data be).fab.gsr = s.fab.gsr := by
    unfold State.bmStore
    dsimp only
    split
    · rfl
    · split <;> rfl
  unfold State.bmAfter
  dsimp only
  rw [if_pos (c := (true && (s.act.bmCfg (k * 256 + b)).outReg portB) = true) (by simp [ho])]
  split
  · rw [State.portOut_with_rmw]
    split
    · exact hshow _ _ rfl
    · exact hshow _ _ hstore
  · split
    · exact hshow _ _ rfl
    · exact hshow _ _ hstore

/-- Port writes (R88, R89, R92, R94, R95, R104, R105). -/
theorem blockMemoryWrite : BlockMemoryWrite := by
  intro k b portB addr data be rd busy s c sh p hu hg hr
  have hexec : ∀ rd sr, exec (.bmWrite k b portB addr data be rd sr busy none) s = .next (s.bmPortWrite k b portB addr data be rd sr) := fun rd sr => by
    refine congrArg Host.Outcome.next ?_
    rw [if_neg (by simp [hu])]
    exact bmOperate_free hr _ _ _
  have hfit : ∀ i, (beMask sh be).getLsbD i = true → i + p.2 < 72 := fun i hi => by
    have h1 := beMask_lt sh be hi
    have h2 : p.2 + shapeWidth sh ≤ 72 := portPlace_fits sh addr
    omega
  refine ⟨fun hw hn he => ?plain, fun hw hn he => ?ecc, fun hw => ?refused, fun ho => ?init, fun d2 be2 hw he hcc hp hu2 => ?both⟩
  case refused =>
    rw [hexec]
    refine congrArg Host.Outcome.next ?_
    exact if_pos (by simp [hw])
  case plain =>
    have hwrite : s.bmPortWrite k b portB addr data be rd false = (s.bmStore k b portB addr data be).setPortOut k b portB
        (wideOut c portB addr rd (s.portOut k b portB) ((s.bmStore k b portB addr data be).bmWord k b p.1)
          (if rd && c.mode portB == 1 then some (portWord sh (s.bmWord k b p.1).bits p.2, false, false) else none)) := by
      unfold State.bmPortWrite
      rw [if_neg (by simp [hw]), bmBefore_plain rfl hn he, bmAfter_wide rfl hn]
    obtain ⟨x, hx⟩ : ∃ x : BmWord, x = ⟨mergeBits (s.bmWord k b p.1).bits data (beMask sh be) p.2, false, []⟩ := ⟨_, rfl⟩
    have hxb : x.bits = mergeBits (s.bmWord k b p.1).bits data (beMask sh be) p.2 := by
      rw [hx]
      exact BmWord.data_sound rfl
    have hstore : s.bmStore k b portB addr data be = s.setBmWord k b p.1 x := (bmStore_plain rfl hn he).trans (by rw [hx])
    rw [hstore, State.bmWord_setBmWord_same] at hwrite
    have hword : ∀ o, ((s.setBmWord k b p.1 x).setPortOut k b portB o).bmWord k b p.1 = x := fun o => s.bmWord_setBmWord_same _ _ _ _
    have hout : ∀ o, ((s.setBmWord k b p.1 x).setPortOut k b portB o).portOut k b portB = o := State.portOut_setPortOut hg
    refine ⟨_, (hexec rd false).trans (congrArg _ hwrite), ?_, ?_, fun sec j w hne => s.bmWord_setBmWord_other _ _ _ _ _ _ _ hne,
      fun hrd hm => ?_, fun hrd hm => ?_, fun hm => ?_, ((Only.refl _ s).setBmWord _ _ _ _).setPortOut _ _ _ _⟩
    · rw [hword, hxb]
      exact mergeBits_picked hfit
    · rw [hword, hxb]
      exact mergeBits_left _ _ _ _
    · rw [hword, hout, hrd, hm, if_neg (by decide)]
      exact if_pos (by simp [hm])
    · rw [hout, hrd, hm, if_pos (by decide)]
      exact if_pos (by simp [hm])
    · have hpre : (rd && c.mode portB == 1) = false ∧ (rd && c.mode portB == 0) = false := by
        rcases hm with h | h <;> simp [h]
      rw [hout, if_neg (by simp [hpre.1]), wideOut, if_neg (by simp [hpre.2])]
  case ecc =>
    have hmask : beMask sh be = BitVec.ofNat 72 (2 ^ 64 - 1) := by
      have : c.narrow portB be = (c.ecc && beMask sh be != BitVec.ofNat 72 (2 ^ 64 - 1)) := rfl
      rw [hn, he] at this
      simpa using this.symm
    have hlo : p.2 = 0 := portPlace_whole hmask addr
    obtain ⟨x, hx⟩ : ∃ x : BmWord, x = ⟨mergeBits 0 data (beMask sh be) 0 &&& BitVec.ofNat 72 (2 ^ 64 - 1), true, []⟩ := ⟨_, rfl⟩
    have hstore : s.bmStore k b portB addr data be = s.setBmWord k b p.1 x := by
      unfold State.bmStore
      dsimp only
      rw [if_neg (by rw [show BmCfg.narrow (s.act.bmCfg (k.val * 256 + b.val)) portB be = false from hn]; decide), if_pos he, freshWord, if_pos rfl]
      rw [hx, ← hlo]
    have hwrite : s.bmPortWrite k b portB addr data be false false = (s.setBmWord k b p.1 x).setPortOut k b portB
        { s.portOut k b portB with wait := false } := by
      have hpre : s.bmBefore k b portB addr be false = (none, s) := by
        unfold State.bmBefore
        exact if_neg (by rw [show BmCfg.narrow (s.act.bmCfg (k.val * 256 + b.val)) portB be = false from hn]; simp)
      unfold State.bmPortWrite
      rw [if_neg (by simp [hw]), hpre, bmAfter_wide rfl hn, hstore]
      rfl
    have hword : ∀ o, ((s.setBmWord k b p.1 x).setPortOut k b portB o).bmWord k b p.1 = x := fun o => s.bmWord_setBmWord_same _ _ _ _
    refine ⟨_, (hexec false false).trans (congrArg _ hwrite), ?_, ?_, ?_, fun sec j w hne => s.bmWord_setBmWord_other _ _ _ _ _ _ _ hne,
      ((Only.refl _ s).setBmWord _ _ _ _).setPortOut _ _ _ _⟩
    · rw [hword, hx, hmask]
      refine BitVec.eq_of_getLsbD_eq fun i hi => ?_
      show ((mergeBits 0 data (BitVec.ofNat 72 (2 ^ 64 - 1)) 0) &&& BitVec.ofNat 72 (2 ^ 64 - 1)).getLsbD i = _
      simp only [mergeBits, BitVec.getLsbD_and, BitVec.getLsbD_or, BitVec.getLsbD_shiftLeft]
      cases (BitVec.ofNat 72 (2 ^ 64 - 1)).getLsbD i <;> simp [hi]
    · rw [hword, hx]
    · rw [hword, hx]
  case init =>
    refine ⟨_, hexec rd true, ?_⟩
    unfold State.bmPortWrite
    split
    · rw [State.when_true (by simp)]
      unfold State.bmPortRead
      rw [if_pos (by simpa using ho), State.portOut_setPortOut hg, BmCfg.firstOut, if_pos ho]
    · obtain ⟨ha, hf⟩ := State.act_bmBefore s k b portB addr be rd
      exact (bmAfter_init (by rw [hf]; exact hg) (by rw [ha]; exact ho) _).trans (by rw [ha])
  case both =>
    subst hp
    have hnarrow : ∀ (q : Bool) (e : BitVec 8), c.narrow q e = false := fun q e => by
      unfold BmCfg.narrow
      rw [he]
      rfl
    obtain ⟨pre, hpre⟩ : ∃ pre, pre = if rd && c.mode false == 1 then some (portWord sh (s.bmWord k b p.1).bits p.2, false, false) else none := ⟨_, rfl⟩
    have hA : s.bmBefore k b false addr be rd = (pre, s) := (bmBefore_plain rfl (hnarrow _ _) he rd).trans (by rw [hpre])
    have hB : s.bmBefore k b true addr be2 false = (none, s) := bmBefore_plain rfl (hnarrow _ _) he false
    obtain ⟨v, hv⟩ : ∃ v, v = s.bmAfter k b true addr d2 be2 false false none := ⟨_, rfl⟩
    have hov : Only [.fab] s v := hv ▸ (Only.refl _ s).bmAfter k b true addr d2 be2 false false none
    have hvc : v.act.bmCfg (k.val * 256 + b.val) = c := by rw [hov.same .act]
    have hvg : v.fab.gsr = false := by
      rw [hv, bmAfter_wide rfl (hnarrow _ _), bmStore_plain rfl (hnarrow _ _) he]
      exact hg
    obtain ⟨x, hx⟩ : ∃ x : BmWord, x = ⟨mergeBits (v.bmWord k b p.1).bits data (beMask sh be) p.2, false, []⟩ := ⟨_, rfl⟩
    have hxb : x.bits = mergeBits (v.bmWord k b p.1).bits data (beMask sh be) p.2 := by
      rw [hx]
      exact BmWord.data_sound rfl
    have hstore : v.bmStore k b false addr data be = v.setBmWord k b p.1 x := (bmStore_plain hvc (hnarrow _ _) he).trans (by rw [hx])
    have hlast : v.bmAfter k b false addr data be rd false pre = (v.setBmWord k b p.1 x).setPortOut k b false
        (wideOut c false addr rd (v.portOut k b false) x pre) := by
      rw [bmAfter_wide hvc (hnarrow _ _), hstore, State.bmWord_setBmWord_same]
    have htog : s.bmTogether k b false ⟨addr, some (data, be), rd, false⟩ ⟨addr, some (d2, be2), false, false⟩ = v.bmAfter k b false addr data be rd false pre := by
      unfold State.bmTogether
      simp only [hw, hA, hB, Bool.not_true, Bool.false_eq_true, if_false, hv]
    refine ⟨_, (congrArg Host.Outcome.next ?_).trans (congrArg Host.Outcome.next (htog.trans hlast)), ?_, fun hrd hm => ?_⟩
    · rw [if_neg (by simp [hu]), bmOperate_free hr]
      simp only [Bool.not_false, hu2, Option.filter_some, if_true]
      exact if_pos hcc
    · rw [show ((v.setBmWord k b p.1 x).setPortOut k b false (wideOut c false addr rd (v.portOut k b false) x pre)).bmWord k b p.1 = x from
        v.bmWord_setBmWord_same _ _ _ _, hxb]
      exact mergeBits_picked hfit
    · rw [State.portOut_setPortOut (s := v.setBmWord k b p.1 x) hvg, hpre, hrd, if_pos (by rw [show c.mode false = 1 from hm]; rfl)]
      exact congrArg PortOut.dout (if_pos (by rw [show c.mode false = 1 from hm]; rfl))

/-! Narrow writes under ECC (R98, R99, R100). -/

section
variable {s t : State} {k b : Nat} {portB : Bool}

/-- A read-modify-write begins. -/
def State.withRmw (s : State) (k b : Nat) (m : Option Rmw) : State :=
  { s with fab := { s.fab with rmw := Tbl.set (fun _ => none) s.fab.rmw (k * 256 + b) m } }

theorem State.rmwOf_withRmw (s : State) (k b : Nat) (m : Option Rmw) : (s.withRmw k b m).rmwOf k b = m := Tbl.get_set_same _ _ _ _

theorem State.portOut_withRmw (s : State) (k b : Nat) (m : Option Rmw) (q : Bool) : (s.withRmw k b m).portOut k b q = s.portOut k b q := rfl

theorem State.bmWord_withRmw (s : State) (k b : Nat) (m : Option Rmw) (sec j w : Nat) : (s.withRmw k b m).bmWord sec j w = s.bmWord sec j w := rfl

theorem State.bmWord_setPortOut (s : State) (o : PortOut) (sec j w : Nat) : (s.setPortOut k b portB o).bmWord sec j w = s.bmWord sec j w := rfl

theorem bmBefore_narrow {c : BmCfg} {addr : Nat} {be : BitVec 8} {r : BitVec 72 × Bool × Bool} (hc : s.act.bmCfg (k * 256 + b) = c)
    (hn : c.narrow portB be = true) (hr : (s.bmWord k b (portPlace (c.shape portB) addr).1).read true = r) (rd : Bool) :
    s.bmBefore k b portB addr be rd = (some (portWord (c.shape portB) r.1 (portPlace (c.shape portB) addr).2, r.2.1, r.2.2),
      s.bmFlags k b (portPlace (c.shape portB) addr).1 r.2.1 r.2.2) := by
  have he : c.ecc = true := by
    unfold BmCfg.narrow at hn
    exact (Bool.and_eq_true_iff.mp hn).1
  unfold State.bmBefore State.bmFetch
  simp only [hc, hn, he, hr, Bool.true_or, if_true]

theorem bmAfter_narrow {c : BmCfg} {addr : Nat} {data : BitVec 72} {be : BitVec 8} (hc : s.act.bmCfg (k * 256 + b) = c)
    (hn : c.narrow portB be = true) (r : BitVec 72 × Bool × Bool) : s.bmAfter k b portB addr data be false false (some r) =
    ((if r.2.2 then s else s.bmStore k b portB addr data be).setPortOut k b portB
      { s.portOut k b portB with sbe := r.2.1, dbe := r.2.2, wait := true }).withRmw k b (some ⟨portB, (portPlace (c.shape portB) addr).1⟩) := by
  unfold State.bmAfter
  simp only [hc, hn, Bool.true_and, Bool.false_and, Bool.false_eq_true, if_false, if_true]
  rfl

theorem bmStore_narrow {c : BmCfg} {addr : Nat} {data : BitVec 72} {be : BitVec 8} (hc : s.act.bmCfg (k * 256 + b) = c)
    (hn : c.narrow portB be = true) : s.bmStore k b portB addr data be = s.setBmWord k b (portPlace (c.shape portB) addr).1
      (freshWord (mergeBits ((s.bmWord k b (portPlace (c.shape portB) addr).1).read true).1 data (beMask (c.shape portB) be)
        (portPlace (c.shape portB) addr).2) (s.bmWord k b (portPlace (c.shape portB) addr).1) true) := by
  unfold State.bmStore
  rw [hc, if_pos hn]

end

theorem narrowWriteReadsModifiesWrites : NarrowWriteReadsModifiesWrites := by
  intro k b portB addr data be busy s c sh p x low
  refine ⟨fun hu hg hr hw hn hx => ?_, fun hn => congrArg Host.Outcome.next (if_neg (by rw [show BmCfg.narrow (s.act.bmCfg (k.val * 256 + b.val)) portB be = false from hn]; simp))⟩
  obtain ⟨r, hread⟩ : ∃ r, x.read true = r := ⟨_, rfl⟩
  obtain ⟨u, hud⟩ : ∃ u, u = s.bmFlags k b p.1 r.2.1 r.2.2 := ⟨_, rfl⟩
  have hou : Only [.csr, .ic, .err] s u := hud ▸ (Only.refl _ s).bmFlags _ _ _ _ _
  have hug : u.fab.gsr = false := by rw [hou.same .fab]; exact hg
  have huc : u.act.bmCfg (k.val * 256 + b.val) = c := by rw [hou.same .act]
  have hkeep : u.portOut k b portB = s.portOut k b portB := State.portOut_of (hou.same .fab) (hou.same .act) _
  have huw : ∀ sec j w, u.bmWord sec j w = s.bmWord sec j w := State.bmWord_of (hou.same .fab)
  have hwrite : s.bmPortWrite k b portB addr data be false false = ((if r.2.2 then u else u.bmStore k b portB addr data be).setPortOut k b portB
      { s.portOut k b portB with sbe := r.2.1, dbe := r.2.2, wait := true }).withRmw k b (some ⟨portB, p.1⟩) := by
    unfold State.bmPortWrite
    rw [if_neg (by simp [hw]), bmBefore_narrow rfl hn hread]
    dsimp only
    rw [show s.bmFlags k b (portPlace (BmCfg.shape (s.act.bmCfg (k.val * 256 + b.val)) portB) addr).1 r.2.1 r.2.2 = u from hud.symm,
      bmAfter_narrow huc hn, hkeep]
  have hexec : exec (.bmNarrowWrite k b portB addr data be false false busy) s = .next (s.bmPortWrite k b portB addr data be false false) := by
    refine congrArg Host.Outcome.next ?_
    rw [if_pos (by rw [hu, show BmCfg.narrow (s.act.bmCfg (k.val * 256 + b.val)) portB be = true from hn]; rfl)]
    exact bmOperate_free hr _ _ _
  refine ⟨fun hf => ?_, fun hf => ?_⟩
  · have hr2 : r.2.2 = false ∧ r.1 = x.raw := by
      rw [← hread]
      rcases Nat.le_one_iff_eq_zero_or_eq_one.mp hf with h | h
      · rw [BmWord.read_sound hx (List.length_eq_zero_iff.mp h)]
        exact ⟨rfl, rfl⟩
      · rw [BmWord.read_corrected hx h]
        exact ⟨rfl, rfl⟩
    obtain ⟨y, hy⟩ : ∃ y : BmWord, y = ⟨mergeBits x.raw data (beMask sh be) p.2 &&& low, true, []⟩ := ⟨_, rfl⟩
    have hstore : u.bmStore k b portB addr data be = u.setBmWord k b p.1 y := by
      rw [bmStore_narrow huc hn, huw, show ((s.bmWord k b (portPlace (BmCfg.shape c portB) addr).1).read true).1 = x.raw from (congrArg Prod.fst hread).trans hr2.2,
        freshWord, if_pos rfl, hy]
    rw [if_neg (by simp [hr2.1]), hstore] at hwrite
    obtain ⟨o, ho⟩ : ∃ o : PortOut, o = { s.portOut k b portB with sbe := r.2.1, dbe := r.2.2, wait := true } := ⟨_, rfl⟩
    rw [← ho] at hwrite
    have hword : (((u.setBmWord k b p.1 y).setPortOut k b portB o).withRmw k b (some ⟨portB, p.1⟩)).bmWord k b p.1 = y := by
      rw [State.bmWord_withRmw, State.bmWord_setPortOut, State.bmWord_setBmWord_same]
    refine ⟨_, hexec.trans (congrArg _ hwrite), ?_, ?_, ?_, fun sec j w hne => ?_, ?_, State.rmwOf_withRmw _ _ _ _⟩
    · rw [hword, hy]
    · rw [hword, hy]
    · rw [hword, hy]
    · rw [State.bmWord_withRmw, State.bmWord_setPortOut, State.bmWord_setBmWord_other _ _ _ _ _ _ _ _ hne, huw]
    · rw [State.portOut_withRmw, State.portOut_setPortOut (s := u.setBmWord k b p.1 y) hug, ho]
  · have hr2 : r.2.2 = true ∧ r.2.1 = false := by
      rw [← hread, BmWord.read_double hx hf]
      exact ⟨rfl, rfl⟩
    rw [if_pos hr2.1, hr2.1, hr2.2] at hwrite
    refine ⟨_, hexec.trans (congrArg _ hwrite), fun sec j w => ?_, ?_⟩
    · rw [State.bmWord_withRmw, State.bmWord_setPortOut, huw]
    · rw [State.portOut_withRmw, State.portOut_setPortOut hug]

/-- The end of a read-modify-write (R98). -/
theorem rmwEnd_leaves {s : State} {k b : Nat} {m : Rmw} (h : s.rmwOf k b = some m) (hg : s.fab.gsr = false) (q : Bool) :
    (s.rmwEnd k b).rmwOf k b = none ∧ ((s.rmwEnd k b).portOut k b q).wait = false ∧ WordsSame s (s.rmwEnd k b) ∧ Only [.fab] s (s.rmwEnd k b) := by
  obtain ⟨t, ht⟩ : ∃ t, t = s.withRmw k b none := ⟨_, rfl⟩
  obtain ⟨u, hu⟩ : ∃ u, u = t.setPortOut k b false { t.portOut k b false with wait := false } := ⟨_, rfl⟩
  have he : s.rmwEnd k b = u.setPortOut k b true { u.portOut k b true with wait := false } := by
    unfold State.rmwEnd
    rw [if_neg (by simp [h]), hu, ht]
    rfl
  have htg : t.fab.gsr = false := by rw [ht]; exact hg
  have hug : u.fab.gsr = false := by rw [hu]; exact htg
  refine ⟨?_, ?_, fun sec j w => ?_, (Only.refl _ s).rmwEnd _ _⟩
  · rw [he, hu, ht]
    exact State.rmwOf_withRmw s k b none
  · rw [he]
    cases q with
    | true => rw [State.portOut_setPortOut hug]
    | false => rw [State.portOut_setPortOut_other (by decide), hu, State.portOut_setPortOut htg]
  · rw [he, State.bmWord_setPortOut, hu, State.bmWord_setPortOut, ht, State.bmWord_withRmw]

theorem operationsWaitForReadModifyWrite : OperationsWaitForReadModifyWrite := by
  intro k b portB own addr w data be s c hu hg hr
  have hexec : ∀ (rd : Bool) (t : State), (∀ f, s.bmOperate k b portB addr true f = t) →
      exec (if rd then .bmRead k b portB addr false true [] else .bmWrite k b portB addr data be false false true none) s = .next t := fun rd t ht => by
    cases rd with
    | true =>
      refine congrArg Host.Outcome.next ?_
      rw [State.bmUpset_nil, if_neg (by simp [hu])]
      exact ht _
    | false =>
      refine congrArg Host.Outcome.next ?_
      rw [if_neg (by simp [hu])]
      exact ht _
  refine ⟨fun hown rd => ?_, fun hown hw rd => ?_⟩
  · refine ⟨_, hexec rd (s.rmwEnd k b) fun f => ?_, rmwEnd_leaves hr hg portB⟩
    unfold State.bmOperate
    simp [hr, hown]
  · refine ⟨_, hexec rd (s.setPortOut k b portB { s.portOut k b portB with wait := true }) fun f => ?_, hr, State.portOut_setPortOut hg _,
      wordsSame_setPortOut (Only.refl _ s) _, (Only.refl _ s).setPortOut _ _ _ _⟩
    unfold State.bmOperate
    rw [hr]
    dsimp only
    rw [if_neg (by decide), if_neg (by rw [hown]; cases portB <;> decide)]
    exact if_pos (beq_iff_eq.mpr hw.symm)

theorem blockMemoriesReadAndWrite : Obligations.BlockMemoriesReadAndWrite :=
  ⟨blockMemoryRead, blockMemoryWrite, narrowWriteReadsModifiesWrites, operationsWaitForReadModifyWrite⟩

end Sys2Proof.Machine
end

section
/-! ## Queues (O22) -/

namespace Sys2Proof.Machine

-- Elaborated in order: side by side, so many short proofs would each hold a thread with its stack.
set_option Elab.async false

open Sys2Proof

section
variable {s t : State} {q : QueueId} {c : QCfg}

theorem State.queue_setQueue (s : State) (q : QueueId) (x : Queue) : (s.setQueue q x).queue q = x := Tbl.get_set_same _ _ _ _

theorem State.bmWord_setQueue (s : State) (q : QueueId) (x : Queue) (sec b w : Nat) : (s.setQueue q x).bmWord sec b w = s.bmWord sec b w := rfl

theorem State.queue_of (h : t.fab = s.fab) (q : QueueId) : t.queue q = s.queue q := by
  simp only [State.queue, State.queueAt, h]

/-- What is set of a queue beside reports and registers leaves what is stored. -/
theorem wordsSame_setQueue (h : Only [.csr, .ic, .err] s t) (x : Queue) : WordsSame s (t.setQueue q x) := fun sec b w =>
  (State.bmWord_setQueue _ _ _ _ _ _).trans (State.bmWord_of (h.same .fab) sec b w)

/-- A flag that a refused operation sets (R114). -/
theorem queueFlag_leaves (s : State) (q : QueueId) (f : Fld) (hf : f.w = 1 ∧ f.lo < 32) : (∀ p, (s.queueFlag q f).queue p = s.queue p) ∧ WordsSame s (s.queueFlag q f) ∧
    (∀ k b, q = .block k b → (s.queueFlag q f).flag (R.BM_QSTAT k b) f = true ∧ RegsBut [R.BM_QSTAT k b] s (s.queueFlag q f)) := by
  have ho : Only [.csr] s (s.queueFlag q f) := (Only.refl _ s).queueFlag _ _
  refine ⟨State.queue_of (ho.same .fab), State.bmWord_of (ho.same .fab), fun k b hq => ?_⟩
  subst hq
  exact ⟨State.flag_setFlag s _ f true hf, Regs.but ((Regs.refl (· ∈ [R.BM_QSTAT k b]) s).setFlag _ _ (by simp))⟩

/-- A refill keeps the counts, and the word that shows where one is buffered (R116). -/
theorem queueRefill_leaves (s : State) (q : QueueId) (c : QCfg) : ((s.queueRefill q c).queue q).rdCount = (s.queue q).rdCount ∧
    ((s.queueRefill q c).queue q).toWr = (s.queue q).toWr ∧ ((s.queueRefill q c).queue q).toRd = (s.queue q).toRd ∧
    ((s.queueRefill q c).queue q).wp = (s.queue q).wp ∧ ((s.queueRefill q c).queue q).wrCount = (s.queue q).wrCount ∧
    ((s.queueRefill q c).queue q).udf = (s.queue q).udf ∧
    (∀ w rest, (s.queue q).buf = w :: rest → (s.queue q).dout = some w.1 → ((s.queueRefill q c).queue q).dout = some w.1) ∧ WordsSame s (s.queueRefill q c) := by
  unfold State.queueRefill
  dsimp only
  split
  · rw [State.queue_setQueue]
    refine ⟨rfl, rfl, rfl, rfl, rfl, rfl, fun w rest hb _ => ?_, wordsSame_setQueue ((Only.refl _ s).queueFetch _ _) _⟩
    rw [hb]
    rfl
  · exact ⟨rfl, rfl, rfl, rfl, rfl, rfl, fun w rest _ hd => hd, fun _ _ _ => rfl⟩

/-- A queue of one block stores its words in that block, in order. -/
theorem queuePlace_single {c : BmCfg} (h : c.casc ≤ 1) (b n : Nat) : queuePlace c b n = (b, n % shapeDepth c.shapeA) := by
  unfold queuePlace
  dsimp only
  rw [BmCfg.capacity, Nat.max_eq_left h, Nat.one_mul, Nat.mod_div_self, Nat.mod_mod, Nat.add_zero]

end

/-- Writes and reads (R111, R112, R114, R115, R116, R161). -/
theorem queueWritesAndReads : QueueWritesAndReads := by
  intro q c s hq x
  have hwrite : ∀ (data : BitVec 72) {t : State}, (if !s.queueOn q false || x.rstW then s
      else if x.full c then (s.setQueue q { x with ovf := true }).queueFlag q F.BM_QSTAT_OVF
      else (s.queueStore q x.wp data).setQueue q { x with wp := (x.wp + 1) % c.cap, wrCount := x.wrCount + 1, toRd := x.toRd + 1, ovf := false }) = t →
      exec (.queueWrite q data) s = .next t := fun data t ht => by
    refine congrArg Host.Outcome.next ?_
    rw [hq]
    exact ht
  have hread : ∀ {t : State}, (if !s.queueOn q true || x.rstR then s
      else if x.empty c then (s.setQueue q { x with udf := true }).queueFlag q F.BM_QSTAT_UDF
      else if c.fwft then
        let y := { x with buf := x.buf.tail, rdCount := x.rdCount - 1, toWr := x.toWr + 1, udf := false }
        let z := match x.buf.tail with
          | [] => y
          | h :: _ => { y with dout := some h.1, sbe := h.2.1, dbe := h.2.2 }
        (s.setQueue q z).queueRefill q c
      else (s.queueFetch q x.rp).2.setQueue q
          { x with rp := (x.rp + 1) % c.cap, rdCount := x.rdCount - 1, toWr := x.toWr + 1, udf := false
                   dout := some (s.queueFetch q x.rp).1.1, sbe := (s.queueFetch q x.rp).1.2.1, dbe := (s.queueFetch q x.rp).1.2.2 }) = t →
      exec (.queueRead q) s = .next t := fun {t} ht => by
    refine congrArg Host.Outcome.next ?_
    rw [hq]
    exact ht
  refine ⟨fun data ho hw hf => ?write, fun data ho hw hf => ?full, fun ho hr he hfw => ?read, fun ho hr he hfw => ?fwft, fun ho hr he => ?empty⟩
  case write =>
    refine ⟨_, hwrite data ((if_neg (by simp [ho, hw])).trans (if_neg (by simp [hf]))), State.queue_setQueue _ _ _, fun k b hqb he hcasc => ?_, fun k d i hqb => ?_⟩
    · intro sh p
      subst hqb
      have hnarrow : (s.act.bmCfg (k.val * 256 + b.val)).narrow false 0xFF = false := by
        unfold BmCfg.narrow
        rw [he]
        rfl
      obtain ⟨y, hy⟩ : ∃ y : BmWord, y = ⟨mergeBits (s.bmWord k b p.1).bits data (beMask sh 0xFF) p.2, false, []⟩ := ⟨_, rfl⟩
      have hyb : y.bits = mergeBits (s.bmWord k b p.1).bits data (beMask sh 0xFF) p.2 := by
        rw [hy]
        exact BmWord.data_sound rfl
      have hstore : s.queueStore (.block k b) x.wp data = s.setBmWord k b p.1 y := by
        unfold State.queueStore
        dsimp only
        rw [queuePlace_single hcasc, bmBefore_plain rfl hnarrow he, if_neg (by simp), bmStore_plain rfl hnarrow he, hy]
        rfl
      rw [hstore]
      refine ⟨?_, fun sec j w hne => ?_, ((Only.refl _ s).setBmWord _ _ _ _).setQueue _ _⟩
      · rw [State.bmWord_setQueue, State.bmWord_setBmWord_same, hyb]
        refine mergeBits_picked fun i hi => ?_
        have h1 := beMask_lt sh 0xFF hi
        have h2 : p.2 + shapeWidth sh ≤ 72 := portPlace_fits sh _
        omega
      · rw [State.bmWord_setQueue, State.bmWord_setBmWord_other _ _ _ _ _ _ _ _ hne]
    · subst hqb
      exact ⟨Tbl.get_set_same _ _ _ _, fun _ _ _ => rfl, ((Only.refl _ s).with_fab _).setQueue _ _⟩
  case full =>
    obtain ⟨h1, h2, h3⟩ := queueFlag_leaves (s.setQueue q { x with ovf := true }) q F.BM_QSTAT_OVF (by decide)
    exact ⟨_, hwrite data ((if_neg (by simp [ho, hw])).trans (if_pos hf)), (h1 q).trans (State.queue_setQueue _ _ _), h2, h3,
      ((Only.refl _ s).setQueue _ _).queueFlag _ _⟩
  case read =>
    exact ⟨_, hread ((if_neg (by simp [ho, hr])).trans ((if_neg (by simp [he])).trans (if_neg (by simp [hfw])))), State.queue_setQueue _ _ _,
      wordsSame_setQueue ((Only.refl _ s).queueFetch _ _) _⟩
  case fwft =>
    refine ⟨_, hread ((if_neg (by simp [ho, hr])).trans ((if_neg (by simp [he])).trans (if_pos hfw))), ?_⟩
    dsimp only
    generalize hz : (match x.buf.tail with | [] => _ | h :: _ => _ : Queue) = z
    obtain ⟨h1, h2, -, -, -, h6, h7, h8⟩ := queueRefill_leaves (s.setQueue q z) q c
    rw [State.queue_setQueue] at h1 h2 h6 h7
    cases hb : x.buf.tail with
    | nil =>
      rw [hb] at hz
      subst hz
      exact ⟨h1, h2, h6, fun w rest hwr => absurd hwr (by simp), h8⟩
    | cons a l =>
      rw [hb] at hz
      subst hz
      refine ⟨h1, h2, h6, fun w rest hwr => ?_, h8⟩
      obtain ⟨rfl, rfl⟩ := List.cons.inj hwr
      exact h7 a l rfl rfl
  case empty =>
    obtain ⟨h1, h2, h3⟩ := queueFlag_leaves (s.setQueue q { x with udf := true }) q F.BM_QSTAT_UDF (by decide)
    exact ⟨_, hread ((if_neg (by simp [ho, hr])).trans (if_pos he)), (h1 q).trans (State.queue_setQueue _ _ _), h2, h3,
      ((Only.refl _ s).setQueue _ _).queueFlag _ _⟩

/-- Crossings of counts and resets (R114, R116, R117, R118, R119). -/
theorem queueCrossingsAndResets : QueueCrossingsAndResets := by
  refine ⟨fun q c s hq => ?_, fun q s => ⟨_, rfl, State.queue_setQueue _ _ _, wordsSame_setQueue (Only.refl _ s) _, (Only.refl _ s).setQueue _ _⟩⟩
  intro x
  have hcross : ∀ toRead, exec (.queueCrossing q toRead) s = .next (if !s.qRuns c toRead then s
      else if toRead then
        if x.toRd = 0 then s
        else (s.setQueue q { x with toRd := x.toRd - 1, rdCount := x.rdCount + 1 }).queueRefill q c
      else if x.toWr = 0 then s else s.setQueue q { x with toWr := x.toWr - 1, wrCount := x.wrCount - 1 }) := fun toRead => by
    refine congrArg Host.Outcome.next ?_
    rw [hq]
  have hrel : ∀ side, exec (.queueResetRelease q side) s = .next (if s.fab.gsr || !s.qRuns c side then s
      else s.setQueue q { x with rst := false, rstW := x.rstW && side && !c.sync, rstR := x.rstR && !side && !c.sync }) := fun side => by
    refine congrArg Host.Outcome.next ?_
    rw [hq]
  refine ⟨fun hr hn => ?_, fun hr hn => ?_, fun h => ?_, fun side hg hr => ?_, fun side h => ?_⟩
  · obtain ⟨h1, -, h3, h4, h5, -, -, h8⟩ := queueRefill_leaves (s.setQueue q { x with toRd := x.toRd - 1, rdCount := x.rdCount + 1 }) q c
    rw [State.queue_setQueue] at h1 h3 h4 h5
    refine ⟨_, (hcross true).trans (congrArg Host.Outcome.next ((if_neg (by simp [hr])).trans ((if_pos rfl).trans (if_neg hn)))), h3, h1, h4, h5, h8⟩
  · exact ⟨_, (hcross false).trans (congrArg Host.Outcome.next ((if_neg (by simp [hr])).trans ((if_neg (by decide)).trans (if_neg hn)))),
      State.queue_setQueue _ _ _, wordsSame_setQueue (Only.refl _ s) _, (Only.refl _ s).setQueue _ _⟩
  · rw [hcross]
    refine congrArg Host.Outcome.next ?_
    rcases h with h | h
    · exact if_pos (by simp [h])
    · rw [if_pos rfl, if_pos h, ite_self]
  · exact ⟨_, (hrel side).trans (congrArg Host.Outcome.next (if_neg (by simp [hg, hr]))), State.queue_setQueue _ _ _, (Only.refl _ s).setQueue _ _⟩
  · rw [hrel]
    exact congrArg Host.Outcome.next (if_pos (by rcases h with h | h <;> simp [h]))

theorem queuesHoldWordsInOrder : Obligations.QueuesHoldWordsInOrder := ⟨queueWritesAndReads, queueCrossingsAndResets⟩

end Sys2Proof.Machine
end

section
/-! ## Exponent groups (O23) -/

namespace Sys2Proof.Machine

-- Elaborated in order: side by side, so many short proofs would each hold a thread with its stack.
set_option Elab.async false

open Sys2Proof

section
variable {s t : State}

theorem State.group_setGroup (s : State) (k : Nat) (g : Group) : (s.setGroup k g).group k = g := Tbl.get_set_same _ _ _ _

theorem State.group_setGroup_other (s : State) {k j : Nat} (g : Group) (h : j ≠ k) : (s.setGroup k g).group j = s.group j :=
  Tbl.get_set_other _ _ _ _ _ h

/-- The start of a control cycle makes the accumulators with ACC_CYC load. -/
def State.loadCycles (s : State) (l : List Nat) : State :=
  l.foldl (fun u m => if (u.act.slCfg m).accCyc then u.setSlice m { u.slice m with load := true } else u) s

theorem loadCycles_leaves (l : List Nat) (s : State) : Only [.fab] s (s.loadCycles l) ∧ (∀ j, (s.loadCycles l).group j = s.group j) ∧
    ∀ m, (s.loadCycles l).slice m = if m ∈ l ∧ (s.act.slCfg m).accCyc = true then { s.slice m with load := true } else s.slice m := by
  induction l generalizing s with
  | nil => exact ⟨Only.refl _ s, fun _ => rfl, fun m => (if_neg (by simp)).symm⟩
  | cons a l ih =>
    obtain ⟨t, ht⟩ : ∃ t, t = if (s.act.slCfg a).accCyc then s.setSlice a { s.slice a with load := true } else s := ⟨_, rfl⟩
    have hot : Only [.fab] s t := by
      rw [ht]
      exact .ite ((Only.refl _ s).setSlice _ _) (Only.refl _ s)
    have hgt : ∀ j, t.group j = s.group j := fun j => by
      rw [ht]
      split <;> rfl
    have hst : ∀ m, t.slice m = if m = a ∧ (s.act.slCfg m).accCyc = true then { s.slice m with load := true } else s.slice m := fun m => by
      rw [ht]
      by_cases hm : m = a
      · subst hm
        by_cases hc : (s.act.slCfg m).accCyc = true
        · rw [if_pos hc, if_pos ⟨rfl, hc⟩, State.slice_setSlice_same]
        · rw [if_neg hc, if_neg (fun h => hc h.2)]
      · rw [if_neg (c := m = a ∧ (s.act.slCfg m).accCyc = true) (fun h => hm h.1)]
        split
        · exact Tbl.get_set_other _ _ _ _ _ hm
        · rfl
    obtain ⟨h1, h2, h3⟩ := ih t
    have he : s.loadCycles (a :: l) = t.loadCycles l := by rw [ht]; rfl
    rw [he]
    refine ⟨hot.trans h1, fun j => (h2 j).trans (hgt j), fun m => ?_⟩
    rw [h3 m, hot.same .act, hst m]
    by_cases hc : (s.act.slCfg m).accCyc = true
    · by_cases hm : m = a <;> by_cases hl : m ∈ l <;> simp [hm, hl, hc] <;> simp_all
    · simp [hc]

theorem dropStarts_none (h : ∀ p ∈ s.fab.groups, p.2.cone = false) : s.dropStarts = s := by
  unfold State.dropStarts
  rw [List.filter_eq_nil_iff.mpr fun p hp => by simp [h p hp]]
  rfl

end

theorem exponentGroupsCloseAndShift : Obligations.ExponentGroupsCloseAndShift := by
  intro k a s key c g
  have hacts : SliceActs k a s → (!s.fab.gsr && !s.heldIn (s.sliceRegion key) && s.netRuns k (s.act.slCfg key).net) = true := fun ⟨h1, h2, h3⟩ => by
    rw [h1, h2, h3]
    rfl
  refine ⟨fun hh h0 hc ha => ?close, fun hlt => ?stays, fun cyc hh ha hcyc => ?cycle, fun cyc hc hn => ?none, fun h late rest ha hn => ?shift, fun h => ?still⟩
  case close =>
    have hdue : s.closeDue key = s.setGroup key (g.close c.ow) := by
      unfold State.closeDue
      exact State.when_true (Bool.and_eq_true_iff.mpr ⟨decide_eq_true h0, decide_eq_true hc⟩) _ _
    have hg : (s.setGroup key (g.close c.ow)).group key = g.close c.ow := State.group_setGroup _ _ _
    refine ⟨_, congrArg Host.Outcome.next ((if_pos ?_).trans hdue), by rw [hg]; rfl, by rw [hg]; rfl, by rw [hg]; rfl, by rw [hg]; rfl, by rw [hg]; rfl,
      fun _ => rfl, (Only.refl _ s).setGroup _ _⟩
    have := hacts ha
    simp only [Bool.and_eq_true] at this ⊢
    exact ⟨⟨⟨beq_iff_eq.mpr hh, this.1.1⟩, this.1.2⟩, this.2⟩
  case stays =>
    have hdue : s.closeDue key = s := by
      unfold State.closeDue
      exact State.when_false (Bool.and_eq_false_iff.mpr (.inr (decide_eq_false (Nat.not_le.mpr hlt)))) _ _
    refine congrArg Host.Outcome.next ?_
    rw [show s.closeDue (k.val * 384 + a.val) = s from hdue, ite_self]
  case cycle =>
    obtain ⟨y, hy⟩ : ∃ y : Group, y = { g.nextEdge.close c.ow with pulse := true, cone := false } := ⟨_, rfl⟩
    obtain ⟨h1, h2, h3⟩ := loadCycles_leaves (s.members s.act key) (s.setGroup key y)
    have hg := (h2 key).trans (State.group_setGroup s key y)
    refine ⟨(s.setGroup key y).loadCycles (s.members s.act key), congrArg Host.Outcome.next ((if_pos ?_).trans (by rw [hy]; rfl)), by rw [hg, hy], by rw [hg, hy],
      by rw [hg, hy]; rfl, by rw [hg, hy]; rfl, fun m hm hac => ?_, fun m hm => ?_, ((Only.refl _ s).setGroup _ _).trans h1⟩
    · have := hacts ha
      simp only [Bool.and_eq_true] at this ⊢
      refine ⟨⟨⟨⟨beq_iff_eq.mpr hh, this.1.1⟩, this.1.2⟩, this.2⟩, ?_⟩
      rcases hcyc with ⟨h1, h2⟩ | ⟨h1, h2⟩
      · rw [show (s.act.slCfg (k.val * 384 + a.val)).cycSrc = 1 from h1, h2]
        rfl
      · rw [show (s.act.slCfg (k.val * 384 + a.val)).cycSrc = 2 from h1, show (s.group (k.val * 384 + a.val)).cone = true from h2]
        simp
    · exact (h3 m).trans (if_pos ⟨hm, hac⟩)
    · exact (h3 m).trans (if_neg fun h => hm h.1)
  case none =>
    refine congrArg Host.Outcome.next ((if_neg ?_).trans (dropStarts_none hn))
    rw [show (s.act.slCfg (k.val * 384 + a.val)).cycSrc = 0 from hc]
    simp
  case shift =>
    obtain ⟨y, hy⟩ : ∃ y : Group, y = { g with eff := some h, next := rest, expLate := late, pulse := false } := ⟨_, rfl⟩
    have hg : (s.setGroup key y).group key = y := State.group_setGroup _ _ _
    refine ⟨s.setGroup key y, congrArg Host.Outcome.next ((if_neg ?_).trans ?_), by rw [hg, hy], ?_, ?_, fun j hj => State.group_setGroup_other s y hj,
      (Only.refl _ s).setGroup _ _⟩
    · obtain ⟨h1, h2, h3⟩ := ha
      rw [h1, h2, h3]
      decide
    · rw [show (s.group (k.val * 384 + a.val)).next = (h, late) :: rest from hn, hy]
      rfl
    · rw [State.grpH, hg, hy]
      rfl
    · have hshift : (s.setGroup key y).shiftOf key key = if c.grpShift then c.shift h else min 57 c.shBase := by
        unfold State.shiftOf
        dsimp only
        rw [hg, hy]
        rfl
      rw [State.expInc, hshift]
      refine (?_ : ((if c.grpShift then c.shift h else min 57 c.shBase) - min 57 c.shBase) % 8 = _)
      split
      · rfl
      · rw [Nat.sub_self]
  case still =>
    refine congrArg Host.Outcome.next ?_
    rcases h with h | h
    · rw [show (s.group (k.val * 384 + a.val)).next = [] from h]
      exact ite_self _
    · refine if_pos (by_contra fun hn => h ?_)
      simp only [Bool.or_eq_true, not_or, Bool.not_eq_true, Bool.not_eq_true'] at hn
      exact ⟨hn.1.1, hn.1.2, by simpa using hn.2⟩

end Sys2Proof.Machine
end

section
/-! ## Time domains (O25) -/

namespace Sys2Proof.Machine

-- Elaborated in order: side by side, so many short proofs would each hold a thread with its stack.
set_option Elab.async false

open Sys2Proof

section
variable {s t : State} {d : Nat}

/-! The clocks of the domains: their counters and what is left of their slews. -/

/-- The counters and the slews of the domains. -/
def State.clocks (s : State) : List (Nat × Nat) × List (Nat × Int) := (s.tim.ctr, s.tim.slew)

theorem Same.ctr (h : Same State.clocks s t) (j : Nat) : t.ctr j = s.ctr j := by rw [State.ctr, show t.tim.ctr = s.tim.ctr from congrArg Prod.fst h]; rfl

theorem Same.slewLeft (h : Same State.clocks s t) (j : Nat) : t.slewLeft j = s.slewLeft j := by
  rw [State.slewLeft, show t.tim.slew = s.tim.slew from congrArg Prod.snd h]
  rfl

theorem Same.clocks_of_tim (h : t.tim = s.tim) : Same State.clocks s t := by
  unfold Same State.clocks
  rw [h]

theorem Same.clocks_setCone (t : State) (n : Nat) (c : Cone) : Same State.clocks t (t.setCone n c) := rfl

theorem Same.clocks_coneMove (t : State) (n k served : Nat) : Same State.clocks t (t.coneMove n k served) := by
  unfold State.coneMove
  dsimp only
  split
  · exact .clocks_of_tim (((Only.refl [.csr] t).coneDone n).same .tim)
  · exact (Same.clocks_setCone t n _).trans (.clocks_of_tim (((Only.refl [.csr] _).count _ _ _).same .tim))

theorem Same.clocks_coneProduce (t : State) (n : Nat) : Same State.clocks t (t.coneProduce n) := by
  refine Same.trans (.clocks_of_tim (((Only.refl [.csr] t).setFlag (R.TIM_CONE_CTRL n) F.TIM_CONE_CTRL_EVT true).countWrap (R.TIM_CONE_EVCNT n)
    F.TIM_CONE_EVCNT_COUNT 1 |>.same .tim)) ?_
  unfold State.coneProduce
  dsimp only
  generalize (t.setFlag (R.TIM_CONE_CTRL n) F.TIM_CONE_CTRL_EVT true).countWrap (R.TIM_CONE_EVCNT n) F.TIM_CONE_EVCNT_COUNT 1 = u
  rfl

theorem Same.clocks_coneJump (t : State) (n : Nat) : Same State.clocks t (t.coneJump n) := by
  unfold State.coneJump
  dsimp only
  split
  · have hlate := Same.clocks_of_tim (((Only.refl [.csr] (t.coneProduce n)).setFlag (R.TIM_CONE_CTRL n) F.TIM_CONE_CTRL_LATE true).same .tim)
    exact (((Same.clocks_coneProduce t n).trans hlate).trans (Same.clocks_coneMove _ _ _ _)).trans (.clocks_of_tim (((Only.refl [.ic] _).settle _ _).same .tim))
  · rfl

theorem State.ctr_setCtr (s : State) (d n : Nat) : (s.setCtr d n).ctr d = n := Tbl.get_set_same _ _ _ _

theorem State.ctr_setCtr_other (s : State) {j : Nat} (h : j ≠ d) (n : Nat) : (s.setCtr d n).ctr j = s.ctr j := Tbl.get_set_other _ _ _ _ _ h

theorem State.slewLeft_setSlew (s : State) (d : Nat) (x : Int) : (s.setSlew d x).slewLeft d = x := Tbl.get_set_same _ _ _ _

theorem State.slewLeft_setSlew_other (s : State) {j : Nat} (h : j ≠ d) (x : Int) : (s.setSlew d x).slewLeft j = s.slewLeft j :=
  Tbl.get_set_other _ _ _ _ _ h

/-- What the jump of a domain leaves: its counter at the new time, STEPPED, and no other domain's clock moved (R424, R426). -/
theorem jump_leaves (s : State) {d : Nat} (hd : d < 32) (new : Int) : (s.jump d new).ctr d = (new % (wrapU : Int)).toNat ∧
    (∀ j, j ≠ d → (s.jump d new).ctr j = s.ctr j) ∧ (∀ j, (s.jump d new).slewLeft j = s.slewLeft j) ∧
    (s.jump d new).flag (R.TIM_TD_STAT d) F.TIM_TD_STAT_STEPPED = true := by
  obtain ⟨t, ht⟩ : ∃ t, t = ({ s with tim := { s.tim with jumpAt := Tbl.set (fun _ => 0) s.tim.jumpAt d (s.tim.cycles + 1) } } : State).setCtr d
    (new % (wrapU : Int)).toNat := ⟨_, rfl⟩
  obtain ⟨u, hu⟩ : ∃ u, u = t.alarm d F.TIM_TD_STAT_STEPPED := ⟨_, rfl⟩
  have htu : Same State.clocks t u := by
    rw [hu]
    exact Same.clocks_of_tim (((Only.refl [.csr, .ic] t).alarm _ _).same .tim)
  have hend : Same State.clocks u (s.jump d new) ∧ (s.jump d new).reg (R.TIM_TD_STAT d) = u.reg (R.TIM_TD_STAT d) := by
    unfold State.jump
    dsimp only
    rw [← ht, ← hu]
    refine ⟨?_, ?_⟩
    · refine State.when_rel (R := fun _ x => Same State.clocks u x) _ _ _ ?_ fun _ => ?_
      · exact Same.forEach (show Same State.clocks u u from rfl) _ fun _ _ h1 => h1
      · refine Same.forEach ?_ _ fun _ _ h1 => h1.trans (Same.clocks_coneJump _ _)
        exact Same.forEach (show Same State.clocks u u from rfl) _ fun _ _ h1 => h1
    · have hlt : ∀ i, R.TIM_TD_STAT d < R.TIM_CONE_CTRL i ∧ R.TIM_TD_STAT d < R.TIM_CONE_EVCNT i ∧ R.TIM_TD_STAT d < R.TIM_CONE_MISSED i := fun i => by
        simp only [R.TIM_TD_STAT, R.TIM_CONE_CTRL, R.TIM_CONE_EVCNT, R.TIM_CONE_MISSED]
        omega
      exact (((Regs.refl (· ≠ R.TIM_TD_STAT d) u).forEach _ fun _ _ h1 => h1.with_tim _).when _ fun _ h1 => h1.forEach _ fun _ n h2 =>
        h2.coneJump n (Nat.ne_of_gt (hlt n).1) (Nat.ne_of_gt (hlt n).2.1) (Nat.ne_of_gt (hlt n).2.2)).same
  have hclk := htu.trans hend.1
  refine ⟨(hclk.ctr d).trans ?_, fun j hj => (hclk.ctr j).trans ?_, fun j => (hclk.slewLeft j).trans ?_, (State.flag_of_reg hend.2 _).trans ?_⟩
  · rw [ht]
    exact State.ctr_setCtr _ _ _
  · rw [ht]
    exact State.ctr_setCtr_other _ hj _
  · rw [ht]
    rfl
  · rw [hu]
    unfold State.alarm
    exact (State.flag_of_reg (((Regs.refl (fun _ => False) _).settle _ _) _ id) _).trans (State.flag_setFlag _ _ _ _ (by decide))

/-- A register apart from the one that an operation changes. -/
theorem Regs.other {j off : Nat} (h : Regs (· = j) s t) (ho : off ≠ j) : t.reg off = s.reg off := h off ho

/-! Writes of a domain's control register. -/

theorem winOf_tim {off : Nat} (h : off / 0x10000 = 0xA) : winOf off = some (.tim, 0, off % 0x10000) := by
  unfold winOf
  rw [if_pos (by omega), h]
  rfl

theorem busWrite_tim {ep off : Nat} (h : off / 0x10000 = 0xA) (hw : s.mayWrite ep off) (v : Word) : s.busWrite ep off v = s.timWrite (off % 0x10000) off v := by
  rw [busWrite_of_mayWrite hw, State.csrWrite, winOf_tim h]

/-- A register of LIVE fields takes the bits written, whether its block is open or not. -/
theorem State.store_live {off : Nat} {m rst : Word} {base : Nat} {dims : List (Nat × Nat)} {wo : Word} {ix : List Nat}
    (h : rowAt off = some (⟨base, dims, rst, m, 0, 0, 0, 0, 0, wo⟩, ix)) (o : Bool) (v : Word) (locked : State → State) :
    s.store o off v locked = s.setReg off ((s.reg off &&& ~~~ m) ||| (v &&& m)) := by
  rw [State.store_of_unstaged h rfl]
  refine (State.when_false (by simp [RegRow.lockedHit]) _ _).trans ?_
  cases o <;> simp [RegRow.after, word_and_ones]

theorem rowAt_tdCtrl : ∀ d : Fin 32, rowAt (R.TIM_TD_CTRL d) = some (⟨0x100, [(32, 0x40)], 0, 0x3F730, 0, 0, 0, 0, 0, 0xF⟩, [d.val]) := by decide

/-- What a write of TIM_TD_CTRL does (R424-R431, R436). -/
theorem busWrite_tdCtrl {ep : Nat} {d : Fin 32} {w : Word} (hw : s.mayWrite ep (R.TIM_TD_CTRL d)) :
    ∃ u, Regs (· = R.TIM_TD_CTRL d) s u ∧ Only [.csr] s u ∧ u.flag (R.TIM_TD_CTRL d) F.TIM_TD_CTRL_SERVO_EN = w.getLsbD 4 ∧ ∃ level,
      s.busWrite ep (R.TIM_TD_CTRL d) w = (u.timCtrl d (s.flag (R.TIM_TD_CTRL d) F.TIM_TD_CTRL_SERVO_EN) w).settle (128 + d) level := by
  have hd := d.2
  have hoff : R.TIM_TD_CTRL d = 0xA0100 + 0x40 * d.val := rfl
  have hloc : R.TIM_TD_CTRL d % 0x10000 = 0x100 + 0x40 * d.val := by omega
  have hdom : timDom (0x100 + 0x40 * d.val) = some d.val := by
    unfold timDom
    rw [if_pos (by simp; omega)]
    exact congrArg some (by omega)
  have ho : (0x100 + 0x40 * d.val - 0x100) % 0x40 = 0 := by omega
  have hmask : timMask (0x100 + 0x40 * d.val) w = w := by
    unfold timMask
    rw [hdom, ho]
    simp only [Option.isSome_some, Bool.true_and]
    rw [if_neg (by decide), if_neg (by decide), if_neg (by simp; omega), if_neg (by simp; omega), if_neg (by simp; omega)]
  obtain ⟨u, hu⟩ : ∃ u, u = s.setReg (R.TIM_TD_CTRL d) ((s.reg (R.TIM_TD_CTRL d) &&& ~~~ 0x3F730) ||| (w &&& 0x3F730)) := ⟨_, rfl⟩
  refine ⟨u, ?_, ?_, ?_, !s.tdLevel d && (u.timCtrl d (s.flag (R.TIM_TD_CTRL d) F.TIM_TD_CTRL_SERVO_EN) w).tdLevel d, ?_⟩
  · rw [hu]
    exact (Regs.refl _ s).setReg _ rfl
  · rw [hu]
    exact (Only.refl _ s).setReg _ _
  · rw [hu, State.flag, State.fld, State.reg_setReg_same, fget_merge_picked _ _ (by decide)]
    exact fget_bit _ (by decide)
  · rw [busWrite_tim (by omega) hw, hloc]
    unfold State.timWrite
    simp only [hdom, ho, hmask]
    rw [if_neg (by decide), if_neg (by decide), State.when_false (by rfl), State.store_live (rowAt_tdCtrl d), ← hu]
    unfold State.timAct
    simp only [hdom, ho]
    rw [State.when_true (show ((0 : Nat) == 0) = true from rfl)]

/-- A write that leaves SERVO_EN as it is does the actions of bits 3:0, in order, where the time unit runs (R424-R431). -/
theorem timCtrl_kept {en : Bool} {w : Word} (h : w.getLsbD 4 = en) : s.timCtrl d en w =
    (((s.when (s.timRun && w.getLsbD 1) fun t => t.timSet d).when (s.timRun && w.getLsbD 2) fun t => t.timStep d).when
      (s.timRun && w.getLsbD 3) fun t => t.timSlew d).when (s.timRun && w.getLsbD 0) fun t => t.timSnap d := by
  unfold State.timCtrl
  dsimp only
  rw [h, State.when_false (Bool.and_not_self en), State.when_false (Bool.not_and_self en)]

/-- The word that a write with one action carries: the bits 3:0 hold that action alone. -/
theorem onlyAction_bits {v : Word} {f : Fld} (hf : f.w = 1) (hlo : f.lo < 4) (h : OnlyAction s d f.lo v) :
    (∀ j < 4, (bitOn v f).getLsbD j = decide (j = f.lo)) ∧ (bitOn v f).getLsbD 4 = s.flag (R.TIM_TD_CTRL d) F.TIM_TD_CTRL_SERVO_EN := by
  refine ⟨fun j hj => ?_, ?_⟩
  · rw [getLsbD_bitOn v hf (by omega)]
    by_cases hjf : j = f.lo
    · simp [hjf]
    · simp [hjf, h.1 j hj hjf]
  · rw [getLsbD_bitOn_apart v hf (by decide) (by omega)]
    exact h.2

/-- A write with one action: the state with the register written, and the interrupt level settled at the end. -/
theorem tdWrite_action {ep : Nat} {d : Fin 32} {v : Word} {f : Fld} (hf : f.w = 1) (hlo : f.lo < 4) (hw : s.mayWrite ep (R.TIM_TD_CTRL d))
    (h : OnlyAction s d f.lo v) : ∃ u, Regs (· = R.TIM_TD_CTRL d) s u ∧ Only [.csr] s u ∧ ∃ level, s.busWrite ep (R.TIM_TD_CTRL d) (bitOn v f) =
      ((((u.when (s.timRun && decide (1 = f.lo)) fun t => t.timSet d).when (s.timRun && decide (2 = f.lo)) fun t => t.timStep d).when
      (s.timRun && decide (3 = f.lo)) fun t => t.timSlew d).when (s.timRun && decide (0 = f.lo)) fun t => t.timSnap d).settle (128 + d) level := by
  obtain ⟨h1, h2⟩ := onlyAction_bits hf hlo h
  obtain ⟨u, hr, ho, -, level, he⟩ := busWrite_tdCtrl (w := bitOn v f) hw
  have hrun : u.timRun = s.timRun := State.flag_of_reg (hr _ (by
    simp only [R.TIM_TD_CTRL, R.TIM_STAT]
    omega)) _
  refine ⟨u, hr, ho, level, ?_⟩
  rw [he, timCtrl_kept h2, hrun, h1 0 (by decide), h1 1 (by decide), h1 2 (by decide), h1 3 (by decide)]

/-- The end of a write settles an interrupt level alone. -/
theorem settle_leaves (s : State) (n : Nat) (level : Bool) : (s.settle n level).tim = s.tim ∧ (∀ off, (s.settle n level).reg off = s.reg off) ∧
    (s.settle n level).gate = s.gate :=
  ⟨((Only.refl [.ic] s).settle n level).same .tim, fun off => ((Regs.refl (fun _ => False) s).settle n level) off id,
    ((Only.refl [.ic] s).settle n level).same .gate⟩

/-- The time that W0 to W2 give (R424). -/
def State.timeGiven (s : State) (d : Nat) : Nat :=
  (((s.reg (R.TIM_TD_W1 d)).toNat + 2 ^ 32 * ((s.reg (R.TIM_TD_W2 d)).toNat % 2 ^ 16)) * 10 ^ 9 + min (s.reg (R.TIM_TD_W0 d)).toNat 999999999) * 2 ^ 48

theorem State.timeGiven_lt (s : State) (d : Nat) : s.timeGiven d < wrapU := by
  have h1 := (s.reg (R.TIM_TD_W1 d)).isLt
  have h2 : (s.reg (R.TIM_TD_W2 d)).toNat % 2 ^ 16 < 2 ^ 16 := Nat.mod_lt _ (by decide)
  have h3 : min (s.reg (R.TIM_TD_W0 d)).toNat 999999999 ≤ 999999999 := Nat.min_le_right _ _
  unfold State.timeGiven
  generalize (s.reg (R.TIM_TD_W1 d)).toNat = a at h1 ⊢
  generalize (s.reg (R.TIM_TD_W2 d)).toNat % 2 ^ 16 = b at h2 ⊢
  generalize min (s.reg (R.TIM_TD_W0 d)).toNat 999999999 = c at h3 ⊢
  have hw : wrapU = 281474976710656 * 1000000000 * 281474976710656 := by decide
  omega

theorem timSet_eq (s : State) (d : Nat) : s.timSet d = (s.setSlew d 0).jump d ((s.timeGiven d : Nat) : Int) := rfl

/-- SET gives a domain the time in W0 to W2 (R424). -/
theorem timSet_leaves (s : State) (hd : d < 32) : (s.timSet d).ctr d = s.timeGiven d ∧ (s.timSet d).slewLeft d = 0 ∧
    (s.timSet d).flag (R.TIM_TD_STAT d) F.TIM_TD_STAT_STEPPED = true ∧ (∀ j, j ≠ d → (s.timSet d).ctr j = s.ctr j ∧ (s.timSet d).slewLeft j = s.slewLeft j) := by
  rw [timSet_eq]
  obtain ⟨h1, h2, h3, h4⟩ := jump_leaves (s.setSlew d 0) hd ((s.timeGiven d : Nat) : Int)
  refine ⟨h1.trans ?_, (h3 d).trans (State.slewLeft_setSlew _ _ _), h4, fun j hj => ⟨h2 j hj, (h3 j).trans (State.slewLeft_setSlew_other _ hj _)⟩⟩
  rw [← Int.natCast_mod, Int.toNat_natCast, Nat.mod_eq_of_lt (s.timeGiven_lt d)]

/-- STEP adds the signed operand (R426). -/
theorem timStep_leaves (s : State) (hd : d < 32) : ((s.timStep d).ctr d : Int) = ((s.ctr d : Int) + s.operand d * 2 ^ 32) % (wrapU : Int) ∧
    (s.timStep d).slewLeft d = 0 ∧ (s.timStep d).flag (R.TIM_TD_STAT d) F.TIM_TD_STAT_STEPPED = true ∧
    (∀ j, j ≠ d → (s.timStep d).ctr j = s.ctr j ∧ (s.timStep d).slewLeft j = s.slewLeft j) := by
  unfold State.timStep
  obtain ⟨h1, h2, h3, h4⟩ := jump_leaves (s.setSlew d 0) hd ((s.ctr d : Int) + s.operand d * 2 ^ 32)
  refine ⟨(congrArg Nat.cast h1).trans ?_, (h3 d).trans (State.slewLeft_setSlew _ _ _), h4, fun j hj => ⟨h2 j hj, (h3 j).trans (State.slewLeft_setSlew_other _ hj _)⟩⟩
  exact Int.toNat_of_nonneg (Int.emod_nonneg _ (by decide))

end

/-- SET, STEP, SLEW and SNAP (R424, R426, R429, R430). -/
theorem timeControlActions : TimeControlActions := by
  intro ep d v s hw
  have hd := d.2
  refine ⟨fun hr h => ?set, fun hr h => ?step, fun hr h => ?slew, fun hr h => ?snap, fun hr h => ?early⟩
  case set =>
    obtain ⟨u, hu, ho, level, he⟩ := tdWrite_action (f := F.TIM_TD_CTRL_SET) rfl (by decide) hw h
    replace he : s.busWrite ep (R.TIM_TD_CTRL d) (bitOn v F.TIM_TD_CTRL_SET) = (u.timSet d).settle (128 + d) level :=
      he.trans (by simp [hr, State.when, F.TIM_TD_CTRL_SET])
    obtain ⟨h1, h2, h3, h4⟩ := timSet_leaves u hd
    obtain ⟨g1, g2, g3⟩ := settle_leaves (u.timSet d) (128 + d) level
    have hclk := Same.clocks_of_tim g1
    have hut : Same State.clocks s u := Same.clocks_of_tim (ho.same .tim)
    refine ⟨_, congrArg Host.Outcome.next he, ?_, ?_, ?_, fun j hj => ⟨?_, ?_⟩, ?_⟩
    · rw [hclk.ctr, h1, State.timeGiven, hu.other (by simp only [R.TIM_TD_W1, R.TIM_TD_CTRL]; omega),
        hu.other (by simp only [R.TIM_TD_W2, R.TIM_TD_CTRL]; omega), hu.other (by simp only [R.TIM_TD_W0, R.TIM_TD_CTRL]; omega)]
    · rw [hclk.slewLeft, h2]
    · rw [State.flag_of_reg (g2 _), h3]
    · rw [hclk.ctr, (h4 j fun he => hj (Fin.ext he)).1, hut.ctr]
    · rw [hclk.slewLeft, (h4 j fun he => hj (Fin.ext he)).2, hut.slewLeft]
    · rw [g3]
      exact ((((Only.refl [.csr, .ic, .tim] u).timSet d)).same .gate).trans (ho.same .gate)
  case step =>
    obtain ⟨u, hu, ho, level, he⟩ := tdWrite_action (f := F.TIM_TD_CTRL_STEP) rfl (by decide) hw h
    replace he : s.busWrite ep (R.TIM_TD_CTRL d) (bitOn v F.TIM_TD_CTRL_STEP) = (u.timStep d).settle (128 + d) level :=
      he.trans (by simp [hr, State.when, F.TIM_TD_CTRL_STEP])
    obtain ⟨h1, h2, h3, h4⟩ := timStep_leaves u hd
    obtain ⟨g1, g2, g3⟩ := settle_leaves (u.timStep d) (128 + d) level
    have hclk := Same.clocks_of_tim g1
    have hut : Same State.clocks s u := Same.clocks_of_tim (ho.same .tim)
    have hop : u.operand d = s.operand d := by
      rw [State.operand, hu.other (by simp only [R.TIM_TD_W0, R.TIM_TD_CTRL]; omega), hu.other (by simp only [R.TIM_TD_W1, R.TIM_TD_CTRL]; omega)]
      rfl
    refine ⟨_, congrArg Host.Outcome.next he, ?_, ?_, ?_, fun j hj => ⟨?_, ?_⟩⟩
    · rw [hclk.ctr, h1, hut.ctr, hop]
    · rw [hclk.slewLeft, h2]
    · rw [State.flag_of_reg (g2 _), h3]
    · rw [hclk.ctr, (h4 j fun he => hj (Fin.ext he)).1, hut.ctr]
    · rw [hclk.slewLeft, (h4 j fun he => hj (Fin.ext he)).2, hut.slewLeft]
  case slew =>
    obtain ⟨u, hu, ho, level, he⟩ := tdWrite_action (f := F.TIM_TD_CTRL_SLEW) rfl (by decide) hw h
    replace he : s.busWrite ep (R.TIM_TD_CTRL d) (bitOn v F.TIM_TD_CTRL_SLEW) = (u.timSlew d).settle (128 + d) level :=
      he.trans (by simp [hr, State.when, F.TIM_TD_CTRL_SLEW])
    obtain ⟨g1, g2, g3⟩ := settle_leaves (u.timSlew d) (128 + d) level
    have hclk := Same.clocks_of_tim g1
    have hut : Same State.clocks s u := Same.clocks_of_tim (ho.same .tim)
    have hop : u.operand d = s.operand d := by
      rw [State.operand, hu.other (by simp only [R.TIM_TD_W0, R.TIM_TD_CTRL]; omega), hu.other (by simp only [R.TIM_TD_W1, R.TIM_TD_CTRL]; omega)]
      rfl
    refine ⟨_, congrArg Host.Outcome.next he, ?_, fun j => ?_, fun j hj => ?_, fun off hn _ => ?_⟩
    · rw [hclk.slewLeft, ← hop]
      exact State.slewLeft_setSlew _ _ _
    · rw [hclk.ctr]
      exact hut.ctr j
    · rw [hclk.slewLeft]
      exact (State.slewLeft_setSlew_other _ (fun he => hj (Fin.ext he)) _).trans (hut.slewLeft j)
    · rw [g2]
      exact hu.other fun hc => hn (by simp [hc])
  case snap =>
    obtain ⟨u, hu, ho, level, he⟩ := tdWrite_action (f := F.TIM_TD_CTRL_SNAP) rfl (by decide) hw h
    replace he : s.busWrite ep (R.TIM_TD_CTRL d) (bitOn v F.TIM_TD_CTRL_SNAP) = (u.timSnap d).settle (128 + d) level :=
      he.trans (by simp [hr, State.when, F.TIM_TD_CTRL_SNAP])
    obtain ⟨g1, g2, g3⟩ := settle_leaves (u.timSnap d) (128 + d) level
    have hut : u.time16 d = s.time16 d := by rw [State.time16, (Same.clocks_of_tim (ho.same .tim)).ctr]; rfl
    refine ⟨_, congrArg Host.Outcome.next he, ?_, ?_, ?_, ?_, ?_⟩
    · rw [g2, ← hut]
      unfold State.timSnap
      simp only [State.reg_setReg, R.TIM_TD_TFRAC, R.TIM_TD_TNS, R.TIM_TD_TSEC_LO, R.TIM_TD_TSEC_HI]
      simp
    · rw [g2, ← hut]
      unfold State.timSnap
      simp only [State.reg_setReg, R.TIM_TD_TFRAC, R.TIM_TD_TNS, R.TIM_TD_TSEC_LO, R.TIM_TD_TSEC_HI]
      simp
    · rw [g2, ← hut]
      unfold State.timSnap
      simp only [State.reg_setReg, R.TIM_TD_TFRAC, R.TIM_TD_TNS, R.TIM_TD_TSEC_LO, R.TIM_TD_TSEC_HI]
      simp
    · rw [g2, ← hut]
      unfold State.timSnap
      simp only [State.reg_setReg, R.TIM_TD_TFRAC, R.TIM_TD_TNS, R.TIM_TD_TSEC_LO, R.TIM_TD_TSEC_HI]
      simp
    · rw [g1]
      exact (((Only.refl [.csr] u).timSnap d).same .tim).trans (ho.same .tim)
  case early =>
    obtain ⟨u, hu, ho, level, he⟩ := tdWrite_action (f := F.TIM_TD_CTRL_SET) rfl (by decide) hw h
    replace he : s.busWrite ep (R.TIM_TD_CTRL d) (bitOn v F.TIM_TD_CTRL_SET) = u.settle (128 + d) level :=
      he.trans (by simp [hr, State.when, F.TIM_TD_CTRL_SET])
    obtain ⟨g1, g2, g3⟩ := settle_leaves u (128 + d) level
    refine ⟨_, congrArg Host.Outcome.next he, g1.trans (ho.same .tim), fun off hn _ => ?_⟩
    rw [g2]
    exact hu.other fun hc => hn (by simp [hc])

/-! The slew of a domain (R423, R430). -/

section
variable {s t : State} {d k : Nat}

/-- Two states in which domain `d` runs alike: registers, counter and slew. -/
structure RunsAlike (d : Nat) (s t : State) : Prop where
  csr : t.csr = s.csr
  ctr : t.ctr d = s.ctr d
  slew : t.slewLeft d = s.slewLeft d

theorem RunsAlike.perCycle (h : RunsAlike d s t) : t.perCycle d = s.perCycle d := by
  have hreg := State.reg_of_csr h.csr
  have hfreq : ∀ j, t.freq j = s.freq j := fun j => by rw [State.freq, hreg, hreg]; rfl
  have hbase : t.baseFreq d = s.baseFreq d := by
    simp only [State.baseFreq, State.fld_of_reg (hreg _), State.flag_of_reg (hreg _), hfreq]
  have hterm : t.slewTerm d = s.slewTerm d := by simp only [State.slewTerm, State.fld_of_reg (hreg _), h.slew]
  rw [State.perCycle, hbase, hterm]
  rfl

/-- The other domains' cycles leave a domain as it runs. -/
theorem runsAlike_advanceDomain {j : Nat} (h : d ≠ j) (s : State) (k : Nat) : RunsAlike d s (s.advanceDomain k j) := by
  unfold State.advanceDomain
  dsimp only
  exact ⟨rfl, State.ctr_setCtr_other _ h _, State.slewLeft_setSlew_other _ h _⟩

theorem runsAlike_advanceDomains (l : List Nat) (h : ∀ j ∈ l, j ≠ d) (s : State) (k : Nat) : RunsAlike d s (s.forEach l fun t d => t.advanceDomain k d) := by
  induction l generalizing s with
  | nil => exact ⟨rfl, rfl, rfl⟩
  | cons a l ih =>
    have h1 := runsAlike_advanceDomain (h a (by simp)).symm s k
    have h2 := ih (fun j hj => h j (by simp [hj])) (s.advanceDomain k a)
    exact ⟨h2.csr.trans h1.csr, h2.ctr.trans h1.ctr, h2.slew.trans h1.slew⟩

/-- What `k` cycles make of a domain: they add its rate and what the slew moves meanwhile. -/
theorem advanceDomain_leaves (h : RunsAlike d s t) : (t.advanceDomain k d).ctr d =
      (((s.ctr d : Int) + k * (s.perCycle d).1 + slewAdded (s.slewLeft d) (s.perCycle d).2 k) % (wrapU : Int)).toNat ∧
    (t.advanceDomain k d).slewLeft d = s.slewLeft d - slewAdded (s.slewLeft d) (s.perCycle d).2 k := by
  unfold State.advanceDomain
  dsimp only
  rw [h.perCycle, h.ctr, h.slew]
  exact ⟨State.ctr_setCtr _ _ _, State.slewLeft_setSlew _ _ _⟩

/-- What `k` cycles of the time clock leave of domain `d`. -/
theorem advance_leaves (hr : s.timRun = true) (hk : k ≠ 0) (hd : d < 32) : (s.advance k).ctr d =
      (((s.ctr d : Int) + k * (s.perCycle d).1 + slewAdded (s.slewLeft d) (s.perCycle d).2 k) % (wrapU : Int)).toNat ∧
    (s.advance k).slewLeft d = s.slewLeft d - slewAdded (s.slewLeft d) (s.perCycle d).2 k ∧
    (s.advance k).tim.cycles = s.tim.cycles + k := by
  obtain ⟨a, c, hl, hac⟩ := split_of_mem List.nodup_range (List.mem_range.mpr hd)
  have hcyc : ∀ (l : List Nat) (t : State), (t.forEach l fun t d => t.advanceDomain k d).tim.cycles = t.tim.cycles := fun l t => by
    induction l generalizing t with
    | nil => rfl
    | cons x l ih => exact (ih (t.advanceDomain k x)).trans rfl
  obtain ⟨t, ht⟩ : ∃ t, t = s.forEach (List.range 32) fun t d => t.advanceDomain k d := ⟨_, rfl⟩
  have he : s.advance k = { t with tim := { t.tim with cycles := t.tim.cycles + k } } := by
    unfold State.advance
    rw [if_neg (by simp [hr, hk]), ht]
  have h1 := runsAlike_advanceDomains a (fun j hj => (hac j (by simp [hj])).2) s k
  have h2 := advanceDomain_leaves (k := k) h1
  obtain ⟨-, h3, h4⟩ := runsAlike_advanceDomains c (fun j hj => (hac j (by simp [hj])).2) ((s.forEach a fun t d => t.advanceDomain k d).advanceDomain k d) k
  have hsplit : t = ((s.forEach a fun t d => t.advanceDomain k d).advanceDomain k d).forEach c fun t d => t.advanceDomain k d := by
    rw [ht, hl, State.forEach_append]
    rfl
  rw [he]
  refine ⟨?_, ?_, ?_⟩
  · refine (?_ : t.ctr d = _)
    rw [hsplit, h3, h2.1]
  · refine (?_ : t.slewLeft d = _)
    rw [hsplit, h4, h2.2]
  · refine (?_ : t.tim.cycles + k = _)
    rw [ht, hcyc]

theorem ceilDiv_mul_ge (a : Nat) {b : Nat} (h : 0 < b) : a ≤ Machine.ceilDiv a b * b := by
  unfold Machine.ceilDiv
  have h1 := Nat.div_add_mod (a + b - 1) b
  have h2 := Nat.mod_lt (a + b - 1) h
  rw [Nat.mul_comm] at h1
  omega

theorem slewAdded_whole {left part : Int} {k : Nat} (h : left.natAbs ≤ k * part.natAbs) : slewAdded left part k = left := by
  unfold slewAdded
  dsimp only
  rw [Nat.min_eq_right h]
  split <;> omega

end

theorem slewDoneAddsTheWholeSlew : SlewDoneAddsTheWholeSlew := by
  intro d s hr hs hp
  obtain ⟨k, hk⟩ : ∃ k, k = ceilDiv (s.slewLeft d).natAbs (s.perCycle d).2.natAbs := ⟨_, rfl⟩
  have hpart : 0 < (s.perCycle d).2.natAbs := Int.natAbs_pos.mpr hp
  have hge : (s.slewLeft d).natAbs ≤ k * (s.perCycle d).2.natAbs := hk ▸ ceilDiv_mul_ge _ hpart
  have hk0 : k ≠ 0 := fun h0 => by
    rw [h0, Nat.zero_mul] at hge
    exact hs (Int.natAbs_eq_zero.mp (Nat.le_zero.mp hge))
  obtain ⟨h1, h2, h3⟩ := advance_leaves hr hk0 d.2
  rw [slewAdded_whole hge] at h1 h2
  refine ⟨s.advance k, congrArg Host.Outcome.next ((if_pos ?_).trans (by rw [hk])), ?_, h3.trans (by rw [hk]), ?_, ?_, (Only.refl _ s).advance _⟩
  · simp [hr, hs, hp]
  · rw [h2, Int.sub_self]
  · rw [← hk, h1]
    exact Int.toNat_of_nonneg (Int.emod_nonneg _ (by decide))
  · exact ((Only.refl [.tim] s).advance k).same .csr

/-! The servo (R432, R433, R435, R436). -/

section
variable {s t : State} {d : Nat}

theorem State.busy_setSample (s : State) (d : Nat) (b w : Option Int) : (s.setSample d b w).busy d = b := Tbl.get_set_same _ _ _ _

theorem State.waiting_setSample (s : State) (d : Nat) (b w : Option Int) : (s.setSample d b w).waiting d = w := Tbl.get_set_same _ _ _ _

theorem State.samples_setSample_other (s : State) {j : Nat} (h : j ≠ d) (b w : Option Int) :
    (s.setSample d b w).busy j = s.busy j ∧ (s.setSample d b w).waiting j = s.waiting j :=
  ⟨Tbl.get_set_other _ _ _ _ _ h, Tbl.get_set_other _ _ _ _ _ h⟩

theorem State.samples_of_tim (h : t.tim = s.tim) (j : Nat) : t.busy j = s.busy j ∧ t.waiting j = s.waiting j := by
  simp only [State.busy, State.waiting, h, and_self]

/-- A sample written while the servo acts is processed, held, or replaces the one held (R432, R435). -/
theorem submit_leaves (hen : s.flag (R.TIM_TD_CTRL d) F.TIM_TD_CTRL_SERVO_EN = true) (hr : s.timRun = true) (hf : s.frozen F.DBG_FRZ_TIM = false)
    (theta : Int) :
    (s.busy d = none → (s.submit d theta).busy d = some theta ∧ (s.submit d theta).waiting d = s.waiting d ∧ (s.submit d theta).csr = s.csr) ∧
    (∀ x, s.busy d = some x → s.waiting d = none → (s.submit d theta).busy d = some x ∧ (s.submit d theta).waiting d = some theta ∧
      (s.submit d theta).csr = s.csr) ∧
    (∀ x y, s.busy d = some x → s.waiting d = some y → (s.submit d theta).busy d = some x ∧ (s.submit d theta).waiting d = some theta ∧
      (s.submit d theta).flag (R.TIM_TD_STAT d) F.TIM_TD_STAT_OVERRUN = true) ∧
    (∀ j, j ≠ d → (s.submit d theta).busy j = s.busy j ∧ (s.submit d theta).waiting j = s.waiting j) := by
  have hneg : ¬ (!s.flag (R.TIM_TD_CTRL d) F.TIM_TD_CTRL_SERVO_EN || !s.timRun || s.frozen F.DBG_FRZ_TIM) = true := by simp [hen, hr, hf]
  have halarm : ∀ u : State, (u.alarm d F.TIM_TD_STAT_OVERRUN).tim = u.tim := fun u => ((Only.refl [.csr, .ic] u).alarm _ _).same .tim
  have hshow : ∀ u : State, (u.alarm d F.TIM_TD_STAT_OVERRUN).flag (R.TIM_TD_STAT d) F.TIM_TD_STAT_OVERRUN = true := fun u => by
    unfold State.alarm
    exact (State.flag_of_reg (((Regs.refl (fun _ => False) _).settle _ _) _ id) _).trans (State.flag_setFlag _ _ _ _ (by decide))
  cases hb : s.busy d with
  | none =>
    have he : s.submit d theta = s.setSample d (some theta) (s.waiting d) := by
      unfold State.submit
      rw [if_neg hneg, hb]
    rw [he]
    exact ⟨fun _ => ⟨State.busy_setSample _ _ _ _, State.waiting_setSample _ _ _ _, rfl⟩, nofun, nofun, fun j hj => State.samples_setSample_other _ hj _ _⟩
  | some x =>
    cases hw : s.waiting d with
    | none =>
      have he : s.submit d theta = s.setSample d (some x) (some theta) := by
        unfold State.submit
        rw [if_neg hneg, hb, hw]
      rw [he]
      refine ⟨nofun, fun x' hx _ => ⟨(State.busy_setSample _ _ _ _).trans hx, State.waiting_setSample _ _ _ _, rfl⟩, nofun,
        fun j hj => State.samples_setSample_other _ hj _ _⟩
    | some y =>
      have he : s.submit d theta = (s.setSample d (some x) (some theta)).alarm d F.TIM_TD_STAT_OVERRUN := by
        unfold State.submit
        rw [if_neg hneg, hb, hw]
      rw [he]
      obtain ⟨g1, g2⟩ := State.samples_of_tim (halarm (s.setSample d (some x) (some theta))) d
      refine ⟨nofun, nofun, fun x' y' hx _ => ⟨?_, ?_, hshow _⟩, fun j hj => ?_⟩
      · rw [g1, State.busy_setSample, hx]
      · rw [g2, State.waiting_setSample]
      · obtain ⟨k1, k2⟩ := State.samples_of_tim (halarm (s.setSample d (some x) (some theta))) j
        rw [k1, k2]
        exact State.samples_setSample_other _ hj _ _

/-- A sample processed reads back (R432). -/
theorem servo_shows (s : State) (hd : d < 32) (theta : Int) : (s.servo d theta).reg (R.TIM_TD_OFFS_LO d) = BitVec.ofNat 32 (unsigned 64 theta) ∧
    (s.servo d theta).reg (R.TIM_TD_OFFS_HI d) = BitVec.ofNat 32 (unsigned 64 theta / 2 ^ 32) := by
  have hne : R.TIM_TD_OFFS_LO d ≠ R.TIM_TD_OFFS_HI d := by simp only [R.TIM_TD_OFFS_LO, R.TIM_TD_OFFS_HI]; omega
  obtain ⟨P, hP⟩ : ∃ P : Nat → Prop, P = fun off => off ≠ R.TIM_TD_OFFS_LO d ∧ off ≠ R.TIM_TD_OFFS_HI d := ⟨_, rfl⟩
  have hapart : ∀ off, off < R.TIM_TD_OFFS_LO d ∨ R.TIM_TD_OFFS_HI d < off → P off := fun off ho => by
    rw [hP]
    simp only [R.TIM_TD_OFFS_LO, R.TIM_TD_OFFS_HI] at ho ⊢
    omega
  have hrest : Regs P (s.showSample d theta) (s.servo d theta) := by
    have hstat : P (R.TIM_TD_STAT d) := hapart _ (.inr (by simp only [R.TIM_TD_STAT, R.TIM_TD_OFFS_HI]; omega))
    have hlo : P (R.TIM_TD_FREQ_LO d) := hapart _ (.inl (by simp only [R.TIM_TD_FREQ_LO, R.TIM_TD_OFFS_LO]; omega))
    have hhi : P (R.TIM_TD_FREQ_HI d) := hapart _ (.inl (by simp only [R.TIM_TD_FREQ_HI, R.TIM_TD_OFFS_LO]; omega))
    have hc1 : ∀ i, P (R.TIM_CONE_CTRL i) := fun i => hapart _ (.inr (by simp only [R.TIM_CONE_CTRL, R.TIM_TD_OFFS_HI]; omega))
    have hc2 : ∀ i, P (R.TIM_CONE_EVCNT i) := fun i => hapart _ (.inr (by simp only [R.TIM_CONE_EVCNT, R.TIM_TD_OFFS_HI]; omega))
    have hc3 : ∀ i, P (R.TIM_CONE_MISSED i) := fun i => hapart _ (.inr (by simp only [R.TIM_CONE_MISSED, R.TIM_TD_OFFS_HI]; omega))
    have hshown := (Regs.refl P (s.showSample d theta))
    unfold State.servo
    dsimp only
    split
    · exact ((hshown.when _ fun _ h1 => h1.alarm _ _ hstat).setFreq _ _ hlo hhi).jump _ _ hstat hc1 hc2 hc3
    · exact (((hshown.when _ fun _ h1 => h1.alarm _ _ hstat).setInteg _ _).setFreq _ _ hlo hhi).when _ fun _ h1 => h1.alarm _ _ hstat
  refine ⟨(hrest _ (by simp [hP])).trans ?_, (hrest _ (by simp [hP])).trans ?_⟩
  · unfold State.showSample
    rw [State.reg_setReg, if_neg hne, State.reg_setReg_same]
  · exact State.reg_setReg_same _ _ _

/-- Without a step a sample gives the integrator and the frequency of R433. -/
theorem servo_smooth (hs : s.flag (R.TIM_TD_CTRL d) F.TIM_TD_CTRL_STEP_EN = false) {theta p fmax i y : Int}
    (hp : p = theta * 2 ^ (7 - signed 4 (s.fld (R.TIM_TD_SERVO d) F.TIM_TD_SERVO_TAU)).toNat)
    (hfm : fmax = (max 1 (s.fld (R.TIM_TD_SERVO d) F.TIM_TD_SERVO_FMAX) * 1000 * 2 ^ 39 : Nat))
    (hi : i = clampI fmax (s.integ d + (s.fld (R.TIM_TD_GAIN d) F.TIM_TD_GAIN_KI : Int) * p))
    (hy : y = clampI fmax ((s.fld (R.TIM_TD_GAIN d) F.TIM_TD_GAIN_KP : Int) * p + i)) :
    (s.servo d theta).integ d = i ∧ (s.servo d theta).reg (R.TIM_TD_FREQ_LO d) = BitVec.ofNat 32 (unsigned 48 (servoFreq y)) ∧
    (s.servo d theta).ctr d = s.ctr d := by
  obtain ⟨u, alarm, alarm', hu, he⟩ : ∃ (u : State) (alarm alarm' : Bool),
      u = (s.showSample d theta).when alarm (fun t => t.alarm d F.TIM_TD_STAT_OFFS_ALARM) ∧
      s.servo d theta = ((u.setInteg d i).setFreq d (servoFreq y)).when alarm' fun t => t.alarm d F.TIM_TD_STAT_FSAT := by
    refine ⟨_, s.fld (R.TIM_TD_ALM d) F.TIM_TD_ALM_TH != 0 && s.fld (R.TIM_TD_ALM d) F.TIM_TD_ALM_TH * 2 ^ 16 < theta.natAbs,
      i != s.integ d + (s.fld (R.TIM_TD_GAIN d) F.TIM_TD_GAIN_KI : Int) * p || y != (s.fld (R.TIM_TD_GAIN d) F.TIM_TD_GAIN_KP : Int) * p + i, rfl, ?_⟩
    unfold State.servo
    dsimp only
    rw [if_neg (by simp [hs]), hy, hi, hp, hfm]
    rfl
  have hut : u.tim = s.tim := by
    rw [hu]
    exact (((Only.refl [.csr, .ic] s).showSample _ _).when _ fun _ h1 => h1.alarm _ _).same .tim
  have htim : (s.servo d theta).tim = (u.setInteg d i).tim := by
    rw [he]
    exact (((Only.refl [.csr, .ic] _).setFreq _ _).when _ fun _ h1 => h1.alarm _ _).same .tim
  refine ⟨?_, ?_, ?_⟩
  · rw [State.integ, htim]
    exact Tbl.get_set_same _ _ _ _
  · have hlast : (s.servo d theta).reg (R.TIM_TD_FREQ_LO d) = ((u.setInteg d i).setFreq d (servoFreq y)).reg (R.TIM_TD_FREQ_LO d) := by
      rw [he]
      exact ((Regs.refl (· ≠ R.TIM_TD_FREQ_LO d) _).when _ fun _ h1 => h1.alarm _ _ (by
        simp only [R.TIM_TD_STAT, R.TIM_TD_FREQ_LO]
        omega)).same
    rw [hlast]
    unfold State.setFreq
    rw [State.reg_setReg, if_neg (by simp only [R.TIM_TD_FREQ_LO, R.TIM_TD_FREQ_HI]; omega), State.reg_setReg_same]
  · rw [State.ctr, htim]
    refine (?_ : u.ctr d = s.ctr d)
    rw [State.ctr, hut]
    rfl

/-- Enabling the servo starts its integrator from the frequency in effect (R436). -/
theorem timCtrl_enables {w : Word} (h4 : w.getLsbD 4 = true) (h : ∀ j < 4, w.getLsbD j = false) : s.timCtrl d false w = s.setInteg d (-(s.freq d) * 1953125) := by
  unfold State.timCtrl
  dsimp only
  rw [h4, h 0 (by decide), h 1 (by decide), h 2 (by decide), h 3 (by decide)]
  simp only [State.when, Bool.and_false, Bool.and_true, Bool.not_false, Bool.false_eq_true, if_true, if_false]

end

theorem servoSamplesAndEnable : ServoSamplesAndEnable := by
  refine ⟨fun ep d v s hw hr hf hen hsrc => ?submit, fun d theta s hf hb => ?process, fun d s hb => ?idle, fun ep d v s hw h hen => ?enable⟩
  case submit =>
    intro theta
    have hd := d.2
    have hoff : R.TIM_TD_OFFS_HI d = 0xA012C + 0x40 * d.val := rfl
    have hloc : R.TIM_TD_OFFS_HI d % 0x10000 = 0x12C + 0x40 * d.val := by omega
    have hdom : timDom (0x12C + 0x40 * d.val) = some d.val := by
      unfold timDom
      rw [if_pos (by simp; omega)]
      exact congrArg some (by omega)
    have ho : (0x12C + 0x40 * d.val - 0x100) % 0x40 = 0x2C := by omega
    refine ⟨s.submit d theta, congrArg Host.Outcome.next ?_, submit_leaves hen hr hf theta⟩
    rw [busWrite_tim (by omega) hw, hloc]
    unfold State.timWrite
    simp only [hdom, ho]
    rw [if_neg (by decide), if_pos trivial]
    unfold State.timOffs
    rw [if_neg (by omega), if_pos rfl]
  case process =>
    obtain ⟨h1, h2⟩ := servo_shows s d.2 theta
    refine ⟨(s.servo d theta).setSample d (s.waiting d) none, congrArg Host.Outcome.next ((if_neg (by simp [hf])).trans (by rw [hb])), State.busy_setSample _ _ _ _,
      State.waiting_setSample _ _ _ _, h1, h2, fun hs => ?_⟩
    exact servo_smooth hs rfl rfl rfl rfl
  case idle =>
    refine congrArg Host.Outcome.next ?_
    rw [hb]
    exact ite_self _
  case enable =>
    have hd := d.2
    obtain ⟨u, hu, ho, h4, level, he⟩ := busWrite_tdCtrl (w := bitOn v F.TIM_TD_CTRL_SERVO_EN) hw
    have hw4 : (bitOn v F.TIM_TD_CTRL_SERVO_EN).getLsbD 4 = true := getLsbD_bitOn_self v (f := F.TIM_TD_CTRL_SERVO_EN) rfl (by decide)
    have hbits : ∀ j < 4, (bitOn v F.TIM_TD_CTRL_SERVO_EN).getLsbD j = false := fun j hj =>
      (getLsbD_bitOn_apart v (f := F.TIM_TD_CTRL_SERVO_EN) rfl (by omega) (by simp only [F.TIM_TD_CTRL_SERVO_EN]; omega)).trans (h j hj)
    rw [hen, timCtrl_enables hw4 hbits] at he
    obtain ⟨g1, g2, -⟩ := settle_leaves (u.setInteg d (-(u.freq d) * 1953125)) (128 + d) level
    have hfreq : u.freq d = s.freq d := by
      rw [State.freq, hu.other (by simp only [R.TIM_TD_FREQ_LO, R.TIM_TD_CTRL]; omega), hu.other (by simp only [R.TIM_TD_FREQ_HI, R.TIM_TD_CTRL]; omega)]
      rfl
    refine ⟨_, congrArg Host.Outcome.next he, ?_, ?_, ?_, fun off hn => ?_⟩
    · rw [State.flag_of_reg (g2 _)]
      exact h4.trans hw4
    · rw [State.integ, g1, ← hfreq]
      exact Tbl.get_set_same _ _ _ _
    · rw [State.ctr, g1]
      exact (Same.clocks_of_tim (ho.same .tim)).ctr d
    · rw [g2]
      exact hu.other fun hc => hn (by simp [hc])

theorem timeDomainsSlewAndServe : Obligations.TimeDomainsSlewAndServe := ⟨timeControlActions, slewDoneAddsTheWholeSlew, servoSamplesAndEnable⟩

end Sys2Proof.Machine
end

section
/-! ## Pulses and cones (O26) -/

namespace Sys2Proof.Machine

-- Elaborated in order: side by side, so many short proofs would each hold a thread with its stack.
set_option Elab.async false

open Sys2Proof

section
variable {s t : State} {d : Nat}

/-! Pulses per second (R438, R439). -/

/-- A sample of another domain leaves a domain's own, and the registers that it rests on. -/
structure SampleAlike (d : Nat) (s t : State) : Prop where
  busy : t.busy d = s.busy d
  waiting : t.waiting d = s.waiting d
  regs : Regs (fun off => ∃ j, off = R.TIM_TD_STAT j) s t
  only : Only [.csr, .ic, .tim] s t

theorem SampleAlike.refl (d : Nat) (s : State) : SampleAlike d s s := ⟨rfl, rfl, Regs.refl _ s, Only.refl _ s⟩

theorem SampleAlike.trans {u : State} (h1 : SampleAlike d s t) (h2 : SampleAlike d t u) : SampleAlike d s u :=
  ⟨h2.busy.trans h1.busy, h2.waiting.trans h1.waiting, h1.regs.trans h2.regs, h1.only.trans h2.only⟩

/-- Whether the servo of a domain takes samples. -/
def State.servoActs (s : State) (d : Nat) : Prop :=
  s.flag (R.TIM_TD_CTRL d) F.TIM_TD_CTRL_SERVO_EN = true ∧ s.timRun = true ∧ s.frozen F.DBG_FRZ_TIM = false

theorem SampleAlike.servoActs (h : SampleAlike d s t) (ha : s.servoActs d) : t.servoActs d := by
  obtain ⟨h1, h2, h3⟩ := ha
  have hreg : ∀ off, (∀ j, off ≠ R.TIM_TD_STAT j) → t.reg off = s.reg off := fun off ho => h.regs off fun ⟨j, hj⟩ => ho j hj
  refine ⟨(State.flag_of_reg (hreg _ fun j => ?_) _).trans h1, (State.flag_of_reg (hreg _ fun j => ?_) _).trans h2, ?_⟩
  · simp only [R.TIM_TD_CTRL, R.TIM_TD_STAT]
    omega
  · simp only [R.TIM_STAT, R.TIM_TD_STAT]
    omega
  · have hhalt : t.halted = s.halted := State.flag_of_reg (hreg _ fun j => by
      simp only [R.DBG_STAT, R.TIM_TD_STAT]
      omega) _
    rw [State.frozen, hhalt, h.only.same .dbg]
    exact h3

theorem submit_alike {j : Nat} (h : d ≠ j) (s : State) (theta : Int) : SampleAlike d s (s.submit j theta) := by
  have hregs : Regs (fun off => ∃ j, off = R.TIM_TD_STAT j) s (s.submit j theta) := (Regs.refl _ s).submit _ _ ⟨j, rfl⟩
  have honly : Only [.csr, .ic, .tim] s (s.submit j theta) := (Only.refl _ s).submit _ _
  suffices (s.submit j theta).busy d = s.busy d ∧ (s.submit j theta).waiting d = s.waiting d from ⟨this.1, this.2, hregs, honly⟩
  have hother := fun b w => State.samples_setSample_other s h b w
  unfold State.submit
  split
  · exact ⟨rfl, rfl⟩
  · split
    · exact hother _ _
    · exact hother _ _
    · obtain ⟨k1, k2⟩ := State.samples_of_tim (((Only.refl [.csr, .ic] (s.setSample j (s.busy j) (some theta))).alarm j F.TIM_TD_STAT_OVERRUN).same .tim) d
      rw [k1, k2]
      exact hother _ _

/-- Samples for other domains leave a domain's own. -/
theorem submits_alike (theta : Nat → Int) (l : List Nat) (h : ∀ j ∈ l, j ≠ d) (s : State) : SampleAlike d s (s.forEach l fun u j => u.submit j (theta j)) := by
  induction l generalizing s with
  | nil => exact .refl d s
  | cons a l ih => exact (submit_alike (h a (by simp)).symm s (theta a)).trans (ih (fun j hj => h j (by simp [hj])) _)

/-- One sample for each domain of a list: a free servo that takes samples begins its own. -/
theorem submits_leave (theta : Nat → Int) {l : List Nat} (hn : l.Nodup) (hd : d ∈ l) (ha : s.servoActs d) (hb : s.busy d = none) :
    (s.forEach l fun u j => u.submit j (theta j)).busy d = some (theta d) := by
  obtain ⟨a, c, rfl, hac⟩ := split_of_mem hn hd
  rw [State.forEach_append]
  obtain ⟨u, hu⟩ : ∃ u, u = s.forEach a fun u j => u.submit j (theta j) := ⟨_, rfl⟩
  have h1 : SampleAlike d s u := hu ▸ submits_alike theta a (fun j hj => (hac j (by simp [hj])).2) s
  have h2 := submits_alike theta c (fun j hj => (hac j (by simp [hj])).2) (u.submit d (theta d))
  obtain ⟨e1, e2, e3⟩ := h1.servoActs ha
  rw [← hu]
  exact h2.busy.trans ((submit_leaves e1 e2 e3 (theta d)).1 (h1.busy.trans hb)).1

/-- Samples change nothing of the time unit but the samples under way. -/
theorem submits_tim (theta : Nat → Int) (l : List Nat) (s : State) :
    ∃ b w, (s.forEach l fun u j => u.submit j (theta j)).tim = { s.tim with busy := b, wait := w } := by
  induction l generalizing s with
  | nil => exact ⟨s.tim.busy, s.tim.wait, rfl⟩
  | cons a l ih =>
    have h1 : ∃ b w, (s.submit a (theta a)).tim = { s.tim with busy := b, wait := w } := by
      unfold State.submit
      split
      · exact ⟨s.tim.busy, s.tim.wait, rfl⟩
      · split
        · exact ⟨_, _, rfl⟩
        · exact ⟨_, _, rfl⟩
        · exact ⟨_, _, ((Only.refl [.csr, .ic] (s.setSample a (s.busy a) (some (theta a)))).alarm a F.TIM_TD_STAT_OVERRUN).same .tim⟩
    obtain ⟨b, w, h1⟩ := h1
    obtain ⟨b', w', h2⟩ := ih (s.submit a (theta a))
    exact ⟨b', w', h2.trans (by rw [h1])⟩

/-! Cycles of the time clock. -/

/-- Cycles of the time clock move the counters and the slews of the domains and the count of cycles, and nothing else. -/
theorem advance_eq (s : State) (k : Nat) : ∃ ctr slew cycles, s.advance k = { s with tim := { s.tim with ctr := ctr, slew := slew, cycles := cycles } } := by
  unfold State.advance
  split
  · exact ⟨s.tim.ctr, s.tim.slew, s.tim.cycles, rfl⟩
  · have hl : ∀ (l : List Nat) (t : State), ∃ ctr slew, (t.forEach l fun t d => t.advanceDomain k d) = { t with tim := { t.tim with ctr := ctr, slew := slew } } :=
      fun l t => by
        induction l generalizing t with
        | nil => exact ⟨t.tim.ctr, t.tim.slew, rfl⟩
        | cons a l ih =>
          obtain ⟨c, w, he⟩ := ih (t.advanceDomain k a)
          exact ⟨c, w, he⟩
    obtain ⟨c, w, he⟩ := hl (List.range 32) s
    dsimp only
    rw [he]
    exact ⟨c, w, s.tim.cycles + k, rfl⟩

theorem advance_cycles (s : State) (hr : s.timRun = true) (k : Nat) : (s.advance k).tim.cycles = s.tim.cycles + k := by
  by_cases hk : k = 0
  · unfold State.advance
    rw [if_pos (by simp [hk]), hk]
    rfl
  · exact (advance_leaves (d := 0) hr hk (by decide)).2.2

end

/-- PPS inputs and outputs (R438, R439). -/
theorem pulsesPerSecond : PulsesPerSecond := by
  refine ⟨fun j rising after sub s => ?input, fun j s hr hc hj => ?output, fun j s hr => congrArg Host.Outcome.next (if_pos (by simp [hr]))⟩
  case input =>
    intro t c last
    refine ⟨fun hr hc hrise hlast => ?_, fun hc => ?_⟩
    · obtain ⟨u, hu⟩ : ∃ u : State, u = { t with tim := { t.tim with ppsIn := Tbl.set (fun _ => 0) t.tim.ppsIn j (t.tim.cycles + 1) } } := ⟨_, rfl⟩
      obtain ⟨l, hl⟩ : ∃ l, l = (List.range 32).filter fun d => t.fld (R.TIM_TD_CTRL d) F.TIM_TD_CTRL_OSRC == 4 + j := ⟨_, rfl⟩
      obtain ⟨theta, htheta⟩ : ∃ theta : Nat → Int, theta = fun d => ppsTheta ((t.stamp d sub : Int) - signed 32 (t.reg (R.TIM_PPSI_DLY j)).toNat * 2 ^ 8) := ⟨_, rfl⟩
      have hexec : exec (.ppsInEdge j rising after sub) s = .next (u.forEach l fun u d => u.submit d (theta d)) := by
        refine congrArg Host.Outcome.next ((if_pos ?_).trans (by rw [hu, hl, htheta]))
        have hl0 : (last == 0 || decide (last - 1 + 500000000 ≤ t.tim.cycles)) = true := by
          rcases hlast with h | h <;> simp [h]
        have hr0 : ((c / 2 % 2 == 0) == rising) = true := by
          cases rising with
          | true => simpa using hrise
          | false => simpa using hrise
        simp only [Bool.and_eq_true]
        exact ⟨⟨⟨hr, beq_iff_eq.mpr hc⟩, hr0⟩, hl0⟩
      obtain ⟨b, w, htim⟩ := submits_tim theta l u
      have hut : ∀ d, SampleAlike d t u := fun d => by
        rw [hu]
        exact ⟨rfl, rfl, (Regs.refl _ t).with_tim _, (Only.refl _ t).with_tim _⟩
      refine ⟨_, hexec, ?_, ?_, fun d hsrc hen hf hb => ?_, fun d hsrc => ?_⟩
      · rw [htim, hu]
        exact Tbl.get_set_same (fun _ => 0) t.tim.ppsIn j.val (t.tim.cycles + 1)
      · rw [htim, hu]
      · have hd : d.val ∈ l := hl ▸ List.mem_filter.mpr ⟨List.mem_range.mpr d.2, beq_iff_eq.mpr hsrc⟩
        have hn : l.Nodup := hl ▸ List.nodup_range.filter _
        rw [submits_leave theta hn hd ((hut d).servoActs ⟨hen, hr, hf⟩) ((hut d).busy.trans hb), htheta]
      · refine (submits_alike theta l (fun k hk he => hsrc ?_) u).busy.trans (hut d).busy
        rw [hl] at hk
        exact he ▸ beq_iff_eq.mp (List.mem_filter.mp hk).2
    · refine congrArg Host.Outcome.next (if_neg ?_)
      simp [show (((s.advance after).reg (R.TIM_PPSI_CFG j)).toNat) % 2 = 0 from hc]
  case output =>
    obtain ⟨t, ht⟩ : ∃ t, t = s.advanceTo ((s.reg (R.TIM_PPSO_CFG j)).toNat / 16 % 32) (s.ppsNext j) := ⟨_, rfl⟩
    have hot : Only [.tim] s t := ht ▸ (Only.refl _ s).advanceTo _ _
    obtain ⟨ctr, slew, cycles, he⟩ := advance_eq s (s.cyclesTo ((s.reg (R.TIM_PPSO_CFG j)).toNat / 16 % 32) (s.ppsNext j))
    have hcyc : t.tim.cycles = s.tim.cycles + s.cyclesTo ((s.reg (R.TIM_PPSO_CFG j)).toNat / 16 % 32) (s.ppsNext j) := by
      rw [ht, State.advanceTo, advance_cycles s hr]
    have hjump : t.tim.ppsJump.contains j.val = false := by
      rw [ht, State.advanceTo, he]
      exact hj
    refine ⟨{ t with tim := { t.tim with ppsLead := Tbl.set (fun _ => 0) t.tim.ppsLead j (t.tim.cycles + 1), ppsJump := NSet.del t.tim.ppsJump j } },
      congrArg Host.Outcome.next ((if_neg (by simp [hr, hc])).trans ?_), hcyc, Tbl.get_set_same (fun _ => 0) t.tim.ppsLead j.val (t.tim.cycles + 1), hot.same .csr, hot.with_tim _⟩
    dsimp only
    rw [← ht, hjump]
    exact if_neg (by simp)

/-! Cones (R440, R441, R442, R443, R445). -/

section
variable {s t : State} {n : Nat}

theorem rowAt_coneCtrl : ∀ n : Fin 64, rowAt (R.TIM_CONE_CTRL n) = some (⟨0x1000, [(64, 0x20)], 0, 9, 0, 0x1F6, 0x1C0000, 0, 0, 0⟩, [n.val]) := by decide

/-- While its block is open a LOCKED field takes the value written. -/
theorem RegRow.fget_after_open {r : RegRow} {f : Fld} (h : ∀ i < f.w, (r.lck.getLsbD (f.lo + i) && !r.w1c.getLsbD (f.lo + i)) = true)
    (hf : f.lo + f.w ≤ 32) (old v : Word) : (r.after true old v).fget f = v.fget f := by
  refine Nat.eq_of_testBit_eq fun k => ?_
  rw [Word.testBit_fget, Word.testBit_fget]
  by_cases hk : k < f.w
  · have h1 := h k hk
    simp only [Bool.and_eq_true, Bool.not_eq_true'] at h1
    rw [RegRow.getLsbD_after _ _ _ _ _ (by omega)]
    simp only [h1.1, h1.2]
    cases v.getLsbD (f.lo + k) <;> simp
  · simp [hk]

/-- The state after a write of TIM_CONE_CTRL is stored, before it acts. -/
structure ConeStored (n : Nat) (w : Word) (s u : State) : Prop where
  regs : Regs (fun off => off = R.TIM_CONE_CTRL n ∨ off / 0x10000 = 5) s u
  only : Only [.csr, .ic, .err] s u
  en : u.flag (R.TIM_CONE_CTRL n) F.TIM_CONE_CTRL_EN = w.getLsbD 0
  /-- Where the cone was not enabled its LOCKED fields take the values written. -/
  opened : s.flag (R.TIM_CONE_CTRL n) F.TIM_CONE_CTRL_EN = false → Regs (· = R.TIM_CONE_CTRL n) s u ∧
    u.flag (R.TIM_CONE_CTRL n) F.TIM_CONE_CTRL_LATE_OK = w.getLsbD 2 ∧ u.fld (R.TIM_CONE_CTRL n) F.TIM_CONE_CTRL_DOM = w.fget F.TIM_CONE_CTRL_DOM

theorem timCone_loc (n : Fin 64) : timDom (0x1000 + 0x20 * n.val) = none ∧ timCone (0x1000 + 0x20 * n.val) = some n.val := by
  have hn := n.2
  refine ⟨if_neg (by simp; omega), ?_⟩
  unfold timCone
  rw [if_pos (by simp; omega)]
  exact congrArg some (by omega)

theorem coneStored (n : Fin 64) (s : State) (w : Word) : ConeStored n w s
    (s.store (s.timOpen (0x1000 + 0x20 * n.val)) (R.TIM_CONE_CTRL n) w fun t => t.timLocked (0x1000 + 0x20 * n.val)) := by
  obtain ⟨hdom, hcone⟩ := timCone_loc n
  have hn := n.2
  obtain ⟨o, ho⟩ : ∃ o, o = s.timOpen (0x1000 + 0x20 * n.val) := ⟨_, rfl⟩
  have hopen : o = !s.flag (R.TIM_CONE_CTRL n) F.TIM_CONE_CTRL_EN := by
    rw [ho]
    unfold State.timOpen
    rw [hdom, hcone]
  obtain ⟨r, hr⟩ : ∃ r : RegRow, r = ⟨0x1000, [(64, 0x20)], 0, 9, 0, 0x1F6, 0x1C0000, 0, 0, 0⟩ := ⟨_, rfl⟩
  have hrow : rowAt (R.TIM_CONE_CTRL n) = some (r, [n.val]) := hr ▸ rowAt_coneCtrl n
  have hlock : ∀ u : State, u.timLocked (0x1000 + 0x20 * n.val) =
      (u.setFlag (R.TIM_CONE_CTRL n) F.TIM_CONE_CTRL_LOCKED_WR true).lockedRecord (64 + n) n (0x1000 + 0x20 * n.val) := fun u => by
    unfold State.timLocked
    rw [hdom, hcone]
  rw [← ho, State.store_of_unstaged hrow (by rw [hr])]
  obtain ⟨u, hu⟩ : ∃ u, u = s.setReg (R.TIM_CONE_CTRL n) (r.after o (s.reg (R.TIM_CONE_CTRL n)) w) := ⟨_, rfl⟩
  have hregu : Regs (· = R.TIM_CONE_CTRL n) s u := hu ▸ (Regs.refl _ s).setReg _ rfl
  have honlyu : Only [.csr] s u := hu ▸ (Only.refl _ s).setReg _ _
  have henu : u.flag (R.TIM_CONE_CTRL n) F.TIM_CONE_CTRL_EN = w.getLsbD 0 := by
    rw [hu, State.flag, State.fld, State.reg_setReg_same, hr, RegRow.fget_after_live (by decide) (by decide)]
    exact fget_bit _ (by decide)
  rw [← hu]
  cases hhit : r.lockedHit o (s.reg (R.TIM_CONE_CTRL n)) w with
  | false =>
    rw [State.when_false rfl]
    refine ⟨hregu.mono fun _ h => .inl h, honlyu.mono (by simp), henu, fun hen => ⟨hregu, ?_, ?_⟩⟩
    · rw [hu, State.flag, State.fld, State.reg_setReg_same, hopen, hen, hr, Bool.not_false, RegRow.fget_after_open (by decide) (by decide)]
      exact fget_bit _ (by decide)
    · rw [hu, State.fld, State.reg_setReg_same, hopen, hen, hr, Bool.not_false, RegRow.fget_after_open (by decide) (by decide)]
  | true =>
    rw [State.when_true rfl, hlock]
    have hclosed : s.flag (R.TIM_CONE_CTRL n) F.TIM_CONE_CTRL_EN = true := by
      rw [RegRow.lockedHit, hopen] at hhit
      cases he : s.flag (R.TIM_CONE_CTRL n) F.TIM_CONE_CTRL_EN with
      | true => rfl
      | false => simp [he] at hhit
    refine ⟨?_, ((honlyu.mono (by simp)).setFlag _ _ _).lockedRecord _ _ _ _, ?_, fun hen => absurd (hclosed.symm.trans hen) (by decide)⟩
    · exact ((hregu.mono fun _ h => Or.inl h).setFlag _ _ (Or.inl rfl)).lockedRecord _ _ _ _ (by omega) fun off h5 => Or.inr h5
    · have hreg : ((u.setFlag (R.TIM_CONE_CTRL n) F.TIM_CONE_CTRL_LOCKED_WR true).lockedRecord (64 + n) n (0x1000 + 0x20 * n.val)).reg (R.TIM_CONE_CTRL n) =
          (u.setFlag (R.TIM_CONE_CTRL n) F.TIM_CONE_CTRL_LOCKED_WR true).reg (R.TIM_CONE_CTRL n) :=
        ((Regs.refl (· ≠ R.TIM_CONE_CTRL n) _).lockedRecord _ _ _ _ (by omega) fun off h5 => by simp only [R.TIM_CONE_CTRL]; omega).same
      rw [State.flag_of_reg hreg, State.flag_setFlag_fld _ _ _ _ _ (by decide)]
      exact henu

/-- What a write of TIM_CONE_CTRL does (R440-R443). -/
theorem busWrite_coneCtrl {ep : Nat} {n : Fin 64} {w : Word} (hw : s.mayWrite ep (R.TIM_CONE_CTRL n)) : ∃ u, ConeStored n w s u ∧ ∃ level,
    s.busWrite ep (R.TIM_CONE_CTRL n) w = ((u.when (w.getLsbD 0 && !s.flag (R.TIM_CONE_CTRL n) F.TIM_CONE_CTRL_EN) fun t => t.coneArm n).when
      (!w.getLsbD 0) fun t => t.coneDisarm n).settle (64 + n) level := by
  have hn := n.2
  obtain ⟨hdom, hcone⟩ := timCone_loc n
  have hoff : R.TIM_CONE_CTRL n = 0xA1000 + 0x20 * n.val := rfl
  have hloc : R.TIM_CONE_CTRL n % 0x10000 = 0x1000 + 0x20 * n.val := by omega
  have ho : (0x1000 + 0x20 * n.val - 0x1000) % 0x20 = 0 := by omega
  have hmask : timMask (0x1000 + 0x20 * n.val) w = w := by
    unfold timMask
    rw [hdom]
    simp only [Option.isSome_none, Bool.false_and]
    rw [if_neg (by decide), if_neg (by decide), if_neg (by simp; omega), if_neg (by simp; omega), if_neg (by simp; omega)]
  obtain ⟨u, hu⟩ : ∃ u, u = s.store (s.timOpen (0x1000 + 0x20 * n.val)) (R.TIM_CONE_CTRL n) w fun t => t.timLocked (0x1000 + 0x20 * n.val) := ⟨_, rfl⟩
  obtain ⟨v, hv⟩ : ∃ v, v = (u.when (w.getLsbD 0 && !s.flag (R.TIM_CONE_CTRL n) F.TIM_CONE_CTRL_EN) fun t => t.coneArm n).when
      (!w.getLsbD 0) fun t => t.coneDisarm n := ⟨_, rfl⟩
  refine ⟨u, hu ▸ coneStored n s w, !s.coneLevel n && v.coneLevel n, ?_⟩
  rw [busWrite_tim (by omega) hw, hloc]
  unfold State.timWrite
  rw [hdom]
  dsimp only
  rw [hmask, ← hu]
  unfold State.timAct
  rw [hdom, hcone]
  dsimp only
  rw [if_pos (by simp), hv]

/-- Two fields of one word share no bit, and the second lies within the word. -/
abbrev Apart (f g : Fld) : Prop := (g.lo + g.w ≤ f.lo ∨ f.lo + f.w ≤ g.lo) ∧ g.lo + g.w ≤ 32

/-- What putting an event of a cone on its way leaves (R443, R444). -/
theorem coneProduce_leaves (s : State) (n : Nat) :
    (s.coneProduce n).tim = { s.tim with deliv := s.tim.deliv ++ [(n, s.tim.cycles + 6)] } ∧
    (s.coneProduce n).flag (R.TIM_CONE_CTRL n) F.TIM_CONE_CTRL_EVT = true ∧
    (s.coneProduce n).fld (R.TIM_CONE_EVCNT n) F.TIM_CONE_EVCNT_COUNT =
      (s.fld (R.TIM_CONE_EVCNT n) F.TIM_CONE_EVCNT_COUNT + 1) % 2 ^ F.TIM_CONE_EVCNT_COUNT.w ∧
    Regs (fun off => off = R.TIM_CONE_CTRL n ∨ off = R.TIM_CONE_EVCNT n) s (s.coneProduce n) ∧
    ∀ g : Fld, Apart F.TIM_CONE_CTRL_EVT g → (s.coneProduce n).fld (R.TIM_CONE_CTRL n) g = s.fld (R.TIM_CONE_CTRL n) g := by
  have hne : R.TIM_CONE_EVCNT n ≠ R.TIM_CONE_CTRL n := by
    simp only [R.TIM_CONE_EVCNT, R.TIM_CONE_CTRL]
    omega
  obtain ⟨u, hu⟩ : ∃ u, u = s.setFlag (R.TIM_CONE_CTRL n) F.TIM_CONE_CTRL_EVT true := ⟨_, rfl⟩
  obtain ⟨w, hw⟩ : ∃ w, w = u.countWrap (R.TIM_CONE_EVCNT n) F.TIM_CONE_EVCNT_COUNT 1 := ⟨_, rfl⟩
  have hr : Regs (fun off => off = R.TIM_CONE_CTRL n ∨ off = R.TIM_CONE_EVCNT n) s w :=
    hw ▸ hu ▸ ((Regs.refl _ s).setFlag _ _ (Or.inl rfl)).countWrap _ _ _ (Or.inr rfl)
  have hwu : w.reg (R.TIM_CONE_CTRL n) = u.reg (R.TIM_CONE_CTRL n) :=
    hw ▸ ((Regs.refl (· ≠ R.TIM_CONE_CTRL n) u).countWrap _ _ _ hne).same
  have htim : w.tim = s.tim := hw ▸ hu ▸ (((Only.refl [.csr] s).setFlag _ _ _).countWrap _ _ _).same .tim
  have he : s.coneProduce n = { w with tim := { w.tim with deliv := w.tim.deliv ++ [(n, w.tim.cycles + 6)] } } := by
    rw [hw, hu]
    rfl
  rw [he]
  refine ⟨by rw [htim], ?_, ?_, hr.with_tim _, fun g hg => ?_⟩
  · exact (State.flag_of_reg hwu _).trans (hu ▸ State.flag_setFlag _ _ _ _ (by decide))
  · calc w.fld (R.TIM_CONE_EVCNT n) F.TIM_CONE_EVCNT_COUNT
        = (u.fld (R.TIM_CONE_EVCNT n) F.TIM_CONE_EVCNT_COUNT + 1) % 2 ^ F.TIM_CONE_EVCNT_COUNT.w := by
          rw [hw, State.countWrap, State.fld_setFld _ _ _ _ (by decide)]
      _ = (s.fld (R.TIM_CONE_EVCNT n) F.TIM_CONE_EVCNT_COUNT + 1) % 2 ^ F.TIM_CONE_EVCNT_COUNT.w := by
          rw [hu, State.fld_setFlag_off _ _ _ _ _ _ hne]
  · exact (State.fld_of_reg hwu _).trans (hu ▸ State.fld_setFlag_fld _ _ _ _ _ hg)

theorem coneMove_eq (s : State) (n k served : Nat) : s.coneMove n k served = s.coneDone n ∨
    ∃ c m, s.coneMove n k served = (s.setCone n c).count (R.TIM_CONE_MISSED n) F.TIM_CONE_MISSED_COUNT m := by
  unfold State.coneMove
  dsimp only
  split
  · exact .inl rfl
  · exact .inr ⟨_, _, rfl⟩

/-- A move of a cone changes only where it stands: no event, no flag of one. -/
theorem coneMove_leaves (s : State) (n k served : Nat) : (∃ c, (s.coneMove n k served).tim = { s.tim with cone := c }) ∧
    Regs (fun off => off = R.TIM_CONE_CTRL n ∨ off = R.TIM_CONE_MISSED n) s (s.coneMove n k served) ∧
    ∀ g : Fld, Apart F.TIM_CONE_CTRL_ARMED g → Apart F.TIM_CONE_CTRL_DONE g →
      (s.coneMove n k served).fld (R.TIM_CONE_CTRL n) g = s.fld (R.TIM_CONE_CTRL n) g := by
  refine ⟨?_, (Regs.refl _ s).coneMove _ _ _ (Or.inl rfl) (Or.inr rfl), fun g h1 h2 => ?_⟩
  · rcases coneMove_eq s n k served with he | ⟨c, m, he⟩
    · exact ⟨s.tim.cone, he ▸ ((Only.refl [.csr] s).coneDone n).same .tim⟩
    · exact ⟨Tbl.set (fun _ => ⟨0, none⟩) s.tim.cone n c, he ▸ ((Only.refl [.csr] (s.setCone n c)).count _ _ _).same .tim⟩
  · rcases coneMove_eq s n k served with he | ⟨c, m, he⟩
    · rw [he, State.coneDone, State.fld_setFlag_fld _ _ _ _ _ h2, State.fld_setFlag_fld _ _ _ _ _ h1]
    · have hreg : (s.setCone n c).reg (R.TIM_CONE_CTRL n) = s.reg (R.TIM_CONE_CTRL n) := rfl
      refine (congrArg (fun u : State => u.fld (R.TIM_CONE_CTRL n) g) he).trans (State.fld_of_reg (Eq.trans ?_ hreg) g)
      refine ((Regs.refl (· ≠ R.TIM_CONE_CTRL n) (s.setCone n c)).count _ _ _ ?_).same
      simp only [R.TIM_CONE_MISSED, R.TIM_CONE_CTRL]
      omega

/-- A flag of a register that another field's value tells. -/
theorem State.flag_of_fld {off : Nat} {f : Fld} (h : t.fld off f = s.fld off f) : t.flag off f = s.flag off f := by
  rw [State.flag, State.flag, h]

/-- How many of its targets a cone has passed as it is armed. -/
def State.coneLate (s : State) (n : Nat) : Nat := passed (s.coneTarget n) (s.conePeriod n) (reached (s.ctr (s.coneDom n)))

/-- A cone as arming it leaves it before its target is compared. -/
def State.coneFresh (s : State) (n : Nat) : State :=
  ((s.setFlag (R.TIM_CONE_CTRL n) F.TIM_CONE_CTRL_ARMED true).setFlag (R.TIM_CONE_CTRL n) F.TIM_CONE_CTRL_DONE false).setCone n
    ⟨s.coneTarget n, if (s.reg (R.TIM_CONE_PERF n)).toNat / 2 ^ 16 = 0 then none else some ((s.reg (R.TIM_CONE_PERF n)).toNat / 2 ^ 16)⟩

theorem coneArm_eq (s : State) (n : Nat) : s.coneArm n =
    if !s.timRun || s.coneLate n = 0 then s.coneFresh n
    else if s.flag (R.TIM_CONE_CTRL n) F.TIM_CONE_CTRL_LATE_OK then (((s.coneFresh n).coneProduce n).coneMove n (s.coneLate n) 1).settleCone n
    else (((s.coneFresh n).setFlag (R.TIM_CONE_CTRL n) F.TIM_CONE_CTRL_LATE true).coneMove n (s.coneLate n) 0).settleCone n := rfl

theorem coneFresh_leaves (s : State) (n : Nat) :
    (s.coneFresh n).flag (R.TIM_CONE_CTRL n) F.TIM_CONE_CTRL_ARMED = true ∧ (s.coneFresh n).flag (R.TIM_CONE_CTRL n) F.TIM_CONE_CTRL_DONE = false ∧
    (s.coneFresh n).cone n = ⟨s.coneTarget n, if (s.reg (R.TIM_CONE_PERF n)).toNat / 2 ^ 16 = 0 then none else some ((s.reg (R.TIM_CONE_PERF n)).toNat / 2 ^ 16)⟩ ∧
    (s.coneFresh n).coneDom n = s.coneDom n ∧ (∃ c, (s.coneFresh n).tim = { s.tim with cone := c }) ∧
    Regs (· = R.TIM_CONE_CTRL n) s (s.coneFresh n) := by
  obtain ⟨c, hc⟩ : ∃ c : Cone, c = ⟨s.coneTarget n, if (s.reg (R.TIM_CONE_PERF n)).toNat / 2 ^ 16 = 0 then none else some ((s.reg (R.TIM_CONE_PERF n)).toNat / 2 ^ 16)⟩ := ⟨_, rfl⟩
  obtain ⟨u, hu⟩ : ∃ u, u = s.setFlag (R.TIM_CONE_CTRL n) F.TIM_CONE_CTRL_ARMED true := ⟨_, rfl⟩
  obtain ⟨w, hw⟩ : ∃ w, w = u.setFlag (R.TIM_CONE_CTRL n) F.TIM_CONE_CTRL_DONE false := ⟨_, rfl⟩
  have he : s.coneFresh n = w.setCone n c := by
    rw [hw, hu, hc]
    rfl
  have htim : w.tim = s.tim := hw ▸ hu ▸ (((Only.refl [.csr] s).setFlag _ _ _).setFlag _ _ _).same .tim
  have hreg : (w.setCone n c).reg (R.TIM_CONE_CTRL n) = w.reg (R.TIM_CONE_CTRL n) := rfl
  have hregs : Regs (· = R.TIM_CONE_CTRL n) s w := by
    rw [hw, hu]
    exact ((Regs.refl (· = R.TIM_CONE_CTRL n) s).setFlag _ _ rfl).setFlag _ _ rfl
  rw [he, ← hc]
  refine ⟨?_, ?_, Tbl.get_set_same _ _ _ _, ?_, ⟨Tbl.set (fun _ => ⟨0, none⟩) w.tim.cone n c, ?_⟩, ?_⟩
  · rw [State.flag_of_reg hreg, hw, State.flag_setFlag_fld _ _ _ _ _ (by decide), hu, State.flag_setFlag _ _ _ _ (by decide)]
  · rw [State.flag_of_reg hreg, hw, State.flag_setFlag _ _ _ _ (by decide)]
  · rw [State.coneDom, State.fld_of_reg hreg, hw, State.fld_setFlag_fld _ _ _ _ _ (by decide), hu, State.fld_setFlag_fld _ _ _ _ _ (by decide)]
    rfl
  · rw [← htim]
    rfl
  · exact hregs.with_tim _

/-- A target that is not passed leaves the cone armed. -/
theorem coneArm_ahead (h : s.timRun = false ∨ s.coneLate n = 0) : s.coneArm n = s.coneFresh n :=
  (coneArm_eq s n).trans (if_pos (by rcases h with h | h <;> simp [h]))

/-- A target already passed gives no event without LATE_OK and sets LATE. -/
theorem coneArm_late (hr : s.timRun = true) (hk : s.coneLate n ≠ 0) (hl : s.flag (R.TIM_CONE_CTRL n) F.TIM_CONE_CTRL_LATE_OK = false) :
    (s.coneArm n).flag (R.TIM_CONE_CTRL n) F.TIM_CONE_CTRL_LATE = true ∧ (s.coneArm n).tim.deliv = s.tim.deliv := by
  rw [coneArm_eq, if_neg (by simp [hr, hk]), if_neg (by simp [hl])]
  obtain ⟨-, -, -, -, ⟨c, hfresh⟩, -⟩ := coneFresh_leaves s n
  obtain ⟨u, hu⟩ : ∃ u, u = (s.coneFresh n).setFlag (R.TIM_CONE_CTRL n) F.TIM_CONE_CTRL_LATE true := ⟨_, rfl⟩
  have hut : u.tim = (s.coneFresh n).tim := hu ▸ ((Only.refl [.csr] (s.coneFresh n)).setFlag _ _ _).same .tim
  obtain ⟨⟨c', hmove⟩, -, hfld⟩ := coneMove_leaves u n (s.coneLate n) 0
  rw [← hu]
  have hset : Only [.ic] (u.coneMove n (s.coneLate n) 0) ((u.coneMove n (s.coneLate n) 0).settleCone n) := (Only.refl _ _).settleCone n
  constructor
  · rw [State.flag_of_reg (State.reg_of_csr (hset.same .csr) _), State.flag_of_fld (hfld _ (by decide) (by decide)), hu,
      State.flag_setFlag _ _ _ _ (by decide)]
  · rw [hset.same .tim, hmove, hut, hfresh]

/-- A target already passed gives an event at once with LATE_OK. -/
theorem coneArm_lateOk (hr : s.timRun = true) (hk : s.coneLate n ≠ 0) (hl : s.flag (R.TIM_CONE_CTRL n) F.TIM_CONE_CTRL_LATE_OK = true) :
    (s.coneArm n).flag (R.TIM_CONE_CTRL n) F.TIM_CONE_CTRL_EVT = true ∧ (s.coneArm n).tim.deliv = s.tim.deliv ++ [(n, s.tim.cycles + 6)] := by
  rw [coneArm_eq, if_neg (by simp [hr, hk]), if_pos hl]
  obtain ⟨-, -, -, -, ⟨c, hfresh⟩, -⟩ := coneFresh_leaves s n
  obtain ⟨u, hu⟩ : ∃ u, u = (s.coneFresh n).coneProduce n := ⟨_, rfl⟩
  obtain ⟨hut, hevt, -, -, -⟩ := coneProduce_leaves (s.coneFresh n) n
  rw [← hu] at hut hevt
  obtain ⟨⟨c', hmove⟩, -, hfld⟩ := coneMove_leaves u n (s.coneLate n) 1
  rw [← hu]
  have hset : Only [.ic] (u.coneMove n (s.coneLate n) 1) ((u.coneMove n (s.coneLate n) 1).settleCone n) := (Only.refl _ _).settleCone n
  constructor
  · rw [State.flag_of_reg (State.reg_of_csr (hset.same .csr) _), State.flag_of_fld (hfld _ (by decide) (by decide)), hevt]
  · rw [hset.same .tim, hmove, hut, hfresh]

/-- Arming a cone that is not enabled (R440). -/
theorem busWrite_coneArm {ep : Nat} {n : Fin 64} {v : Word} (hw : s.mayWrite ep (R.TIM_CONE_CTRL n)) (hen : s.flag (R.TIM_CONE_CTRL n) F.TIM_CONE_CTRL_EN = false) :
    ∃ u level, s.busWrite ep (R.TIM_CONE_CTRL n) (bitOn v F.TIM_CONE_CTRL_EN) = (u.coneArm n).settle (64 + n) level ∧ Regs (· = R.TIM_CONE_CTRL n) s u ∧
      u.tim = s.tim ∧ u.timRun = s.timRun ∧ u.coneTarget n = s.coneTarget n ∧ u.coneDom n = v.fget F.TIM_CONE_CTRL_DOM ∧
      u.flag (R.TIM_CONE_CTRL n) F.TIM_CONE_CTRL_LATE_OK = v.getLsbD 2 ∧
      u.coneLate n = passed (s.coneTarget n) (s.conePeriod n) (reached (s.ctr (v.fget F.TIM_CONE_CTRL_DOM))) := by
  have h0 : (bitOn v F.TIM_CONE_CTRL_EN).getLsbD 0 = true := getLsbD_bitOn_self v (f := F.TIM_CONE_CTRL_EN) rfl (by decide)
  obtain ⟨u, hu, level, he⟩ := busWrite_coneCtrl (w := bitOn v F.TIM_CONE_CTRL_EN) hw
  obtain ⟨hregs, hok, hdom⟩ := hu.opened hen
  have htim : u.tim = s.tim := hu.only.same .tim
  have hother : ∀ off, off ≠ R.TIM_CONE_CTRL n → u.reg off = s.reg off := fun off ho => hregs off ho
  have htarget : u.coneTarget n = s.coneTarget n := by
    unfold State.coneTarget
    rw [hother (R.TIM_CONE_TSEC_HI n) ?_, hother (R.TIM_CONE_TSEC_LO n) ?_, hother (R.TIM_CONE_TNS n) ?_] <;>
      simp only [R.TIM_CONE_TSEC_HI, R.TIM_CONE_TSEC_LO, R.TIM_CONE_TNS, R.TIM_CONE_CTRL] <;> omega
  have hperiod : u.conePeriod n = s.conePeriod n := by
    unfold State.conePeriod
    rw [hother (R.TIM_CONE_PER n) ?_, hother (R.TIM_CONE_PERF n) ?_] <;> simp only [R.TIM_CONE_PER, R.TIM_CONE_PERF, R.TIM_CONE_CTRL] <;> omega
  have hrun : u.timRun = s.timRun := State.flag_of_reg (hother _ (by simp only [R.TIM_STAT, R.TIM_CONE_CTRL]; omega)) _
  have hcd : u.coneDom n = v.fget F.TIM_CONE_CTRL_DOM := hdom.trans (fget_bitOn_apart v rfl (by decide) (by decide))
  refine ⟨u, level, ?_, hregs, htim, hrun, htarget, hcd, hok.trans (getLsbD_bitOn_apart v rfl (by decide) (by decide)), ?_⟩
  · rw [he, h0, hen, Bool.not_false, Bool.and_self, State.when_true rfl, Bool.not_true, State.when_false rfl]
  · rw [State.coneLate, htarget, hperiod, hcd, State.ctr, State.ctr, htim]

/-- A single cone is done. -/
theorem coneMove_single (hp : s.flag (R.TIM_CONE_CTRL n) F.TIM_CONE_CTRL_PERIODIC = false) (k served : Nat) :
    s.coneMove n k served = s.coneDone n := by
  unfold State.coneMove
  dsimp only
  rw [if_pos (by simp [hp])]

/-- A periodic cone without a count moves to a later target. -/
theorem coneMove_periodic {c : Cone} (hc : s.cone n = c) (hp : s.flag (R.TIM_CONE_CTRL n) F.TIM_CONE_CTRL_PERIODIC = true) (hl : c.left = none) (k served : Nat) :
    s.coneMove n k served =
      (s.setCone n ⟨c.tgt + k * s.conePeriod n, none⟩).count (R.TIM_CONE_MISSED n) F.TIM_CONE_MISSED_COUNT (k - served) := by
  unfold State.coneMove
  dsimp only
  rw [hc, hl, if_neg (by simp [hp]), Option.map_none]

theorem coneCounted_leaves (w : State) (n m : Nat) :
    (w.count (R.TIM_CONE_MISSED n) F.TIM_CONE_MISSED_COUNT m).tim = w.tim ∧
    (w.count (R.TIM_CONE_MISSED n) F.TIM_CONE_MISSED_COUNT m).reg (R.TIM_CONE_CTRL n) = w.reg (R.TIM_CONE_CTRL n) := by
  refine ⟨((Only.refl [.csr] w).count _ _ _).same .tim, ((Regs.refl (· ≠ R.TIM_CONE_CTRL n) w).count _ _ _ ?_).same⟩
  simp only [R.TIM_CONE_MISSED, R.TIM_CONE_CTRL]
  omega

theorem State.cone_setCone (s : State) (n : Nat) (c : Cone) : (s.setCone n c).cone n = c := Tbl.get_set_same _ _ _ _

theorem State.reg_setCone (s : State) (n : Nat) (c : Cone) (off : Nat) : (s.setCone n c).reg off = s.reg off := rfl

theorem State.cone_of_tim (h : t.tim = s.tim) (n : Nat) : t.cone n = s.cone n := by rw [State.cone, State.cone, h]

/-- A periodic cone without a count stays armed, at its next target. -/
theorem coneMove_next {c : Cone} (hc : s.cone n = c) (hp : s.flag (R.TIM_CONE_CTRL n) F.TIM_CONE_CTRL_PERIODIC = true) (hl : c.left = none) :
    (s.coneMove n 1 1).cone n = ⟨c.tgt + s.conePeriod n, none⟩ ∧ (s.coneMove n 1 1).reg (R.TIM_CONE_CTRL n) = s.reg (R.TIM_CONE_CTRL n) := by
  have he := coneMove_periodic hc hp hl 1 1
  obtain ⟨m, hm⟩ : ∃ m, m = 1 - 1 := ⟨_, rfl⟩
  rw [Nat.one_mul, ← hm] at he
  obtain ⟨h1, h2⟩ := coneCounted_leaves (s.setCone n ⟨c.tgt + s.conePeriod n, none⟩) n m
  exact he ▸ ⟨(State.cone_of_tim h1 n).trans (State.cone_setCone _ _ _), h2.trans (State.reg_setCone _ _ _ _)⟩

/-- What an event of an armed cone leaves (R443, R444, R445): on its way after six cycles, and the cone done or at its next target. -/
theorem coneServed (ht : t = ((s.coneProduce n).coneMove n 1 1).settleCone n) :
    t.tim.deliv = s.tim.deliv ++ [(n, t.tim.cycles + 6)] ∧ t.flag (R.TIM_CONE_CTRL n) F.TIM_CONE_CTRL_EVT = true ∧
    t.fld (R.TIM_CONE_EVCNT n) F.TIM_CONE_EVCNT_COUNT =
      (s.fld (R.TIM_CONE_EVCNT n) F.TIM_CONE_EVCNT_COUNT + 1) % 2 ^ F.TIM_CONE_EVCNT_COUNT.w ∧
    (s.flag (R.TIM_CONE_CTRL n) F.TIM_CONE_CTRL_PERIODIC = false →
      t.flag (R.TIM_CONE_CTRL n) F.TIM_CONE_CTRL_ARMED = false ∧ t.flag (R.TIM_CONE_CTRL n) F.TIM_CONE_CTRL_DONE = true) ∧
    (s.flag (R.TIM_CONE_CTRL n) F.TIM_CONE_CTRL_PERIODIC = true → (s.cone n).left = none →
      t.cone n = ⟨(s.cone n).tgt + s.conePeriod n, none⟩ ∧
      t.flag (R.TIM_CONE_CTRL n) F.TIM_CONE_CTRL_ARMED = s.flag (R.TIM_CONE_CTRL n) F.TIM_CONE_CTRL_ARMED) := by
  obtain ⟨u, hu⟩ : ∃ u, u = s.coneProduce n := ⟨_, rfl⟩
  obtain ⟨v, hv⟩ : ∃ v, v = u.coneMove n 1 1 := ⟨_, rfl⟩
  obtain ⟨hut, hevt, hcnt, huregs, hufld⟩ := coneProduce_leaves s n
  obtain ⟨⟨c, hvt⟩, hvregs, hvfld⟩ := coneMove_leaves u n 1 1
  rw [← hu] at hut hevt hcnt huregs hufld ht
  rw [← hv] at hvt hvregs hvfld ht
  obtain ⟨htim, hreg, -⟩ : (v.settleCone n).tim = v.tim ∧ (∀ off, (v.settleCone n).reg off = v.reg off) ∧ (v.settleCone n).gate = v.gate := settle_leaves v _ _
  rw [← ht] at htim hreg
  have hper : u.flag (R.TIM_CONE_CTRL n) F.TIM_CONE_CTRL_PERIODIC = s.flag (R.TIM_CONE_CTRL n) F.TIM_CONE_CTRL_PERIODIC :=
    State.flag_of_fld (hufld _ (by decide))
  have hcone : u.cone n = s.cone n := by
    rw [State.cone, State.cone, hut]
  have hperiod : u.conePeriod n = s.conePeriod n := by
    unfold State.conePeriod
    rw [huregs (R.TIM_CONE_PER n) ?_, huregs (R.TIM_CONE_PERF n) ?_] <;>
      simp only [R.TIM_CONE_PER, R.TIM_CONE_PERF, R.TIM_CONE_CTRL, R.TIM_CONE_EVCNT] <;> omega
  refine ⟨?_, ?_, ?_, fun hp => ?_, fun hp hl => ?_⟩
  · rw [htim, hvt, hut]
  · exact (State.flag_of_reg (hreg _) _).trans ((State.flag_of_fld (hvfld _ (by decide) (by decide))).trans hevt)
  · refine (State.fld_of_reg ((hreg _).trans (hvregs _ ?_)) _).trans hcnt
    simp only [R.TIM_CONE_MISSED, R.TIM_CONE_CTRL, R.TIM_CONE_EVCNT]
    omega
  · have hd : v = u.coneDone n := hv.trans (coneMove_single (hper.trans hp) 1 1)
    refine ⟨(State.flag_of_reg (hreg _) _).trans ?_, (State.flag_of_reg (hreg _) _).trans ?_⟩
    · rw [hd, State.coneDone, State.flag_setFlag_fld _ _ _ _ _ (by decide), State.flag_setFlag _ _ _ _ (by decide)]
    · rw [hd, State.coneDone, State.flag_setFlag _ _ _ _ (by decide)]
  · obtain ⟨hc, hr⟩ := coneMove_next hcone (hper.trans hp) hl
    rw [← hv] at hc hr
    refine ⟨?_, (State.flag_of_reg ((hreg _).trans hr) _).trans (State.flag_of_fld (hufld _ (by decide)))⟩
    rw [State.cone, htim, ← State.cone, hc, hperiod]

end

/-- Cones are armed, fire and are disarmed (R440-R445). -/
theorem conesArmFireAndDisarm : ConesArmFireAndDisarm := by
  refine ⟨fun ep n v s hw hen => ?arm, fun ep n v s hw => ?disarm, fun n s ha => ?event, fun n s ha => congrArg Host.Outcome.next (if_neg (by simp [ha]))⟩
  case arm =>
    intro cnt k
    obtain ⟨u, level, he, hregs, htim, hrun, htarget, hdom, hok, hk⟩ := busWrite_coneArm (v := v) hw hen
    obtain ⟨hst, hsr, -⟩ := settle_leaves (u.coneArm n) (64 + n) level
    rw [← he] at hst hsr
    have hexec : exec (.coneArm ep n v) s = .next (s.busWrite ep (R.TIM_CONE_CTRL n) (bitOn v F.TIM_CONE_CTRL_EN)) := rfl
    refine ⟨fun hnot => ⟨_, hexec, ?_⟩, fun hr hl hv => ⟨_, hexec, ?_⟩, fun hr hl hv => ⟨_, hexec, ?_⟩⟩
    · have hfresh : u.coneArm n = u.coneFresh n := coneArm_ahead (hnot.imp hrun.trans hk.trans)
      obtain ⟨harmed, hdone, hcone, hdom', ⟨c, ht⟩, hr⟩ := coneFresh_leaves u n
      rw [← hfresh] at harmed hdone hcone hdom' ht hr
      have hperf : u.reg (R.TIM_CONE_PERF n) = s.reg (R.TIM_CONE_PERF n) := hregs _ (by simp only [R.TIM_CONE_PERF, R.TIM_CONE_CTRL]; omega)
      refine ⟨(State.flag_of_reg (hsr _) _).trans harmed, (State.flag_of_reg (hsr _) _).trans hdone, ?_, (State.fld_of_reg (hsr _) _).trans (hdom'.trans hdom), ?_,
        fun off ho => (hsr off).trans ((hr off fun h => ho (List.mem_singleton.mpr h)).trans (hregs off fun h => ho (List.mem_singleton.mpr h)))⟩
      · rw [State.cone, hst, ← State.cone, hcone, htarget, hperf]
      · rw [hst, ht, htim]
    · obtain ⟨h1, h2⟩ := coneArm_late (hrun.trans hr) (fun h => hl (hk.symm.trans h)) (hok.trans hv)
      exact ⟨(State.flag_of_reg (hsr _) _).trans h1, by rw [hst, h2, htim]⟩
    · obtain ⟨h1, h2⟩ := coneArm_lateOk (hrun.trans hr) (fun h => hl (hk.symm.trans h)) (hok.trans hv)
      exact ⟨(State.flag_of_reg (hsr _) _).trans h1, by rw [hst, h2, htim]⟩
  case disarm =>
    have h0 : (bitOff v F.TIM_CONE_CTRL_EN).getLsbD 0 = false := by
      have h : (bitOff v F.TIM_CONE_CTRL_EN).fget F.TIM_CONE_CTRL_EN = 0 := fget_bitOff_self v (by decide)
      exact (fget_bit (bitOff v F.TIM_CONE_CTRL_EN) (f := F.TIM_CONE_CTRL_EN) rfl).symm.trans (by rw [h]; rfl)
    obtain ⟨u, hu, level, he⟩ := busWrite_coneCtrl (w := bitOff v F.TIM_CONE_CTRL_EN) hw
    rw [h0, Bool.false_and, Bool.not_false, State.when_false rfl, State.when_true rfl] at he
    obtain ⟨hst, hsr, -⟩ := settle_leaves (u.coneDisarm n) (64 + n) level
    rw [← he] at hst hsr
    refine ⟨_, rfl, (State.flag_of_reg (hsr _) _).trans ?_, (State.flag_of_reg (hsr _) _).trans ?_, (State.flag_of_reg (hsr _) _).trans ?_, ?_⟩
    · rw [State.coneDisarm, State.flag_setFlag_fld _ _ _ _ _ (by decide), State.flag_setFlag _ _ _ _ (by decide)]
    · rw [State.coneDisarm, State.flag_setFlag _ _ _ _ (by decide)]
    · rw [State.coneDisarm, State.flag_setFlag_fld _ _ _ _ _ (by decide), State.flag_setFlag_fld _ _ _ _ _ (by decide), hu.en, h0]
    · rw [hst, ((Only.refl [.csr] u).coneDisarm n).same .tim, hu.only.same .tim]
  case event =>
    obtain ⟨a, hadv⟩ : ∃ a, a = s.advanceTo (s.coneDom n) ((s.cone n).tgt / 2 ^ 13 * 2 ^ 13 * 2 ^ 32) := ⟨_, rfl⟩
    obtain ⟨ctr, slew, cycles, heq⟩ := advance_eq s (s.cyclesTo (s.coneDom n) ((s.cone n).tgt / 2 ^ 13 * 2 ^ 13 * 2 ^ 32))
    have hat : a.tim = { s.tim with ctr := ctr, slew := slew, cycles := cycles } := by
      rw [hadv, State.advanceTo, heq]
    have har : ∀ off, a.reg off = s.reg off := State.reg_of_csr (hadv ▸ ((Only.refl [.tim] s).advanceTo _ _).same .csr)
    obtain ⟨h1, h2, h3, h4, h5⟩ := coneServed (s := a) (n := n) rfl
    have hcone : a.cone n = s.cone n := by
      rw [State.cone, State.cone, hat]
    have hperiod : a.conePeriod n = s.conePeriod n := by
      unfold State.conePeriod
      rw [har, har]
    have harmed : s.flag (R.TIM_CONE_CTRL n) F.TIM_CONE_CTRL_ARMED = true := by
      rw [State.coneArmed, Bool.and_eq_true] at ha
      exact ha.1
    refine ⟨_, congrArg Host.Outcome.next ((if_pos ha).trans (by rw [hadv])), h1.trans (by rw [hat]), h2,
      h3.trans (by rw [State.fld_of_reg (har _)]), fun hp => h4 ((State.flag_of_reg (har _) _).trans hp), fun hp hl => ?_⟩
    obtain ⟨h6, h7⟩ := h5 ((State.flag_of_reg (har _) _).trans hp) (hcone ▸ hl)
    exact ⟨h6.trans (by rw [hcone, hperiod]), h7.trans ((State.flag_of_reg (har _) _).trans harmed)⟩

/-! Deliveries (R162, R239, R444, R446). -/

/-- Pulses that start at the outputs of a list leave each of these its end, and nothing else of the time unit moved. -/
theorem pulsesStart_tim (w : Nat → Nat) (l : List Nat) (t : State) : ∃ evt,
    (t.forEach l fun t k => { t with tim := { t.tim with evt := Tbl.set (fun _ => 0) t.tim.evt k (t.tim.cycles + 8 * w k) } }).tim =
      { t.tim with evt := evt } ∧
    ∀ k, (k ∈ l → Tbl.get (fun _ => 0) evt k = t.tim.cycles + 8 * w k) ∧ (k ∉ l → Tbl.get (fun _ => 0) evt k = Tbl.get (fun _ => 0) t.tim.evt k) := by
  induction l generalizing t with
  | nil => exact ⟨t.tim.evt, rfl, fun k => ⟨fun h => absurd h List.not_mem_nil, fun _ => rfl⟩⟩
  | cons a l ih =>
    obtain ⟨evt, he, hk⟩ := ih { t with tim := { t.tim with evt := Tbl.set (fun _ => 0) t.tim.evt a (t.tim.cycles + 8 * w a) } }
    refine ⟨evt, he, fun k => ⟨fun hm => ?_, fun hm => ?_⟩⟩
    · by_cases hl : k ∈ l
      · exact (hk k).1 hl
      · have hka : k = a := by simpa [hl] using hm
        rw [(hk k).2 hl, hka]
        exact Tbl.get_set_same (fun _ => 0) t.tim.evt a _
    · have hka : k ≠ a := fun h => hm (by simp [h])
      rw [(hk k).2 fun h => hm (by simp [h])]
      exact Tbl.get_set_other (fun _ => 0) t.tim.evt a k _ hka

theorem timeEvt_leaves (s : State) (n : Nat) : ∃ evt, (s.timeEvt n).tim = { s.tim with evt := evt } ∧
    ∀ k < 16, s.flag (R.TIM_EVT_CFG k) F.TIM_EVT_CFG_EN = true → s.fld (R.TIM_EVT_CFG k) F.TIM_EVT_CFG_CONE = n →
      Tbl.get (fun _ => 0) evt k = s.tim.cycles + 8 * max 1 (s.fld (R.TIM_EVT_CFG k) F.TIM_EVT_CFG_WIDTH) := by
  obtain ⟨evt, he, hk⟩ := pulsesStart_tim (fun k => max 1 (s.fld (R.TIM_EVT_CFG k) F.TIM_EVT_CFG_WIDTH)) ((List.range 16).filter fun k =>
    s.flag (R.TIM_EVT_CFG k) F.TIM_EVT_CFG_EN && s.fld (R.TIM_EVT_CFG k) F.TIM_EVT_CFG_CONE == n) s
  exact ⟨evt, he, fun k hlt hen hc => (hk k).1 (List.mem_filter.mpr ⟨List.mem_range.mpr hlt, by simp [hen, hc]⟩)⟩

/-- Deliveries of cone events (R162, R239, R444, R446). -/
theorem coneEventsAreDelivered : ConeEventsAreDelivered := by
  refine ⟨fun n due r s hd => ?_, fun s hd => congrArg Host.Outcome.next (by rw [hd])⟩
  obtain ⟨s', hs'⟩ : ∃ s' : State, s' = { s with tim := { s.tim with deliv := r } } := ⟨_, rfl⟩
  obtain ⟨t, ht⟩ : ∃ t, t = s'.advance (due - s.tim.cycles) := ⟨_, rfl⟩
  obtain ⟨u, hu⟩ : ∃ u, u = (t.coneSlices n).coneMaint n := ⟨_, rfl⟩
  obtain ⟨v, hv⟩ : ∃ v, v = u.timeEvt n := ⟨_, rfl⟩
  have hexec : exec .coneEventDelivery s = .next (v.when (!(v.coneRegions n).isEmpty) fun x => x.gatePush ⟨v.coneRegions n, 4, none, []⟩) := by
    refine congrArg Host.Outcome.next ?_
    rw [hd]
    dsimp only
    rw [← hs', ← ht, ← hu, ← hv]
  obtain ⟨ctr, slew, cycles, hadv⟩ := advance_eq s' (due - s.tim.cycles)
  have hs'o : Only [.tim] s s' := hs' ▸ (Only.refl _ s).with_tim _
  have hst : Only [.tim] s t := ht ▸ hs'o.advance _
  have htu : Only [.csr, .fab] t u := hu ▸ ((Only.refl _ t).coneSlices _).coneMaint _
  have hall : Only [.csr, .fab, .tim] s v := hv ▸ ((hst.mono (by simp)).trans (htu.mono (by simp))).timeEvt _
  have hregs : Regs (fun off => 0x2000000 ≤ off) s v := by
    have h1 : Regs (fun off => 0x2000000 ≤ off) s t := fun off _ => State.reg_of_csr (hst.same .csr) off
    rw [hv, hu]
    exact ((h1.coneSlices _).coneMaint _ fun c => by simp only [R.MC_MAINT]; omega).timeEvt _
  have hregu : ∀ off, v.reg off = u.reg off := State.reg_of_csr ((hv ▸ (Only.refl [.tim] u).timeEvt n : Only [.tim] u v).same .csr)
  obtain ⟨evt, hevt, hpulse⟩ := timeEvt_leaves u n
  rw [← hv] at hevt
  have hregions : v.coneRegions n = s.coneRegions n := by
    refine List.filter_congr fun k hk => ?_
    have hk := List.mem_range.mp hk
    rw [State.flag, State.fld, State.flag, State.fld, State.fld, hregs _ (by simp only [R.CFG_RGN_CTRL]; omega)]
    rfl
  have hut : u.tim = t.tim := htu.same .tim
  have htt : t.tim = { s.tim with deliv := r, ctr := ctr, slew := slew, cycles := cycles } := by
    rw [ht, hadv, hs']
  obtain ⟨w, hw⟩ : ∃ w, w = v.when (!(v.coneRegions n).isEmpty) fun x => x.gatePush ⟨v.coneRegions n, 4, none, []⟩ := ⟨_, rfl⟩
  have hvw : Only [.gate] v w := hw ▸ (Only.refl _ v).when _ fun _ h => h.gatePush _
  have hwt : w.tim = v.tim := hvw.same .tim
  refine ⟨w, hw ▸ hexec, ?_, fun hr => ?_, ?_, fun k hen hc => ?_, (hvw.same .act).trans (hall.same .act), (hvw.same .shd).trans (hall.same .shd)⟩
  · rw [hwt, hevt, hut, htt]
  · have hrun : s'.timRun = true := (State.flag_of_reg (State.reg_of_csr (hs'o.same .csr) _) _).trans hr
    have hcyc := advance_cycles s' hrun (due - s.tim.cycles)
    rw [hwt, hevt, hut, ht, hcyc, hs']
    show s.tim.cycles + (due - s.tim.cycles) = max s.tim.cycles due
    omega
  · have hg : v.gate = s.gate := hall.same .gate
    rw [hw, hregions]
    cases hcr : s.coneRegions n with
    | nil => rw [List.isEmpty_nil, Bool.not_true, State.when_false rfl, if_pos rfl, hg]
    | cons a l => rw [List.isEmpty_cons, Bool.not_false, State.when_true rfl, if_neg (by simp), State.gatePush, hg]
  · have hc0 : ∀ f, s.fld (R.TIM_EVT_CFG k) f = u.fld (R.TIM_EVT_CFG k) f := fun f => (State.fld_of_reg ((hregu _).symm.trans
      (hregs _ (by simp only [R.TIM_EVT_CFG]; omega))) f).symm
    rw [hwt, hevt]
    exact (hpulse k k.2 ((State.flag_of_fld (hc0 _)).symm.trans hen) ((hc0 _).symm.trans hc)).trans (by rw [hc0])

/-- Settles O26: by what edges, targets and deliveries leave of the time unit. -/
theorem pulsesAndCones : Obligations.PulsesAndCones := ⟨pulsesPerSecond, conesArmFireAndDisarm, coneEventsAreDelivered⟩

end Sys2Proof.Machine
end

section
/-! ## Captures and lane time stamps (O27) -/

namespace Sys2Proof.Machine

-- Elaborated in order: side by side, so many short proofs would each hold a thread with its stack.
set_option Elab.async false

open Sys2Proof

section
variable {s t : State} {n : Nat}

/-- A read that only gives and acts: no interrupt or log window, no sector. -/
theorem busRead_of {w : Win} {inst loc ep off : Nat} (hw : winOf off = some (w, inst, loc)) (hic : w ≠ .ic) (herr : w ≠ .err) (hsec : w ≠ .sector)
    (hwdt : off ≠ R.WDT_COUNT) (hr : s.mayRead ep off) (hep : ep ≠ 0x6B) :
    s.busRead ep off = { s.readAct off with out := leBytes 4 (s.csrPeek off).toNat } := by
  obtain ⟨h1, h2⟩ := hr
  have hpre : s.readPre off = s := by
    unfold State.readPre
    rw [hw]
    cases w <;> first | exact absurd rfl hsec | exact if_neg hwdt
  unfold State.busRead State.csrRead
  rw [hw, h1, h2, hpre, Bool.not_true, if_neg (by decide), if_neg (by decide)]
  cases w <;> first | exact absurd rfl hic | exact absurd rfl herr | skip
  all_goals
    dsimp only
    rw [Bool.false_and, Bool.false_and, if_neg (by decide), Bool.false_and, State.when_false rfl, if_neg hep]

/-- The one number below a bound that a condition picks. -/
theorem filter_range_single {p : Nat → Bool} {n c : Nat} (hc : c < n) (hp : p c = true) (hother : ∀ k < n, k ≠ c → p k = false) :
    (List.range n).filter p = [c] := by
  have heq : (List.range n).filter p = (List.range n).filter (· == c) := List.filter_congr fun k hk => by
    by_cases h : k = c
    · rw [h, hp, beq_self_eq_true]
    · rw [hother k (List.mem_range.mp hk) h, beq_eq_false_iff_ne.mpr h]
  rw [heq, List.filter_beq, List.count_eq_one_of_mem List.nodup_range (List.mem_range.mpr hc), List.replicate_one]

/-! Captures (R447, R448, R449). -/

/-- What a capture's entry leaves: the FIFO with it, or OVF where 32 wait. -/
theorem capPush_leaves (s : State) (e : CapEntry) :
    ((s.capFifo (e.cap / 4)).length < 32 → (s.capPush e).capFifo (e.cap / 4) = s.capFifo (e.cap / 4) ++ [e] ∧ (s.capPush e).csr = s.csr) ∧
    (32 ≤ (s.capFifo (e.cap / 4)).length → (s.capPush e).capFifo (e.cap / 4) = s.capFifo (e.cap / 4) ∧
      (s.capPush e).flag (R.TIM_CAPF_STAT (e.cap / 4)) F.TIM_CAPF_STAT_OVF = true) ∧
    ∀ g, g ≠ e.cap / 4 → (s.capPush e).capFifo g = s.capFifo g := by
  obtain ⟨f, hf⟩ : ∃ f : State, f = (s.setFlag (R.TIM_CAPF_STAT (e.cap / 4)) F.TIM_CAPF_STAT_OVF true).count (R.TIM_CAPF_STAT (e.cap / 4)) F.TIM_CAPF_STAT_LOST 1 := ⟨_, rfl⟩
  obtain ⟨u, hu⟩ : ∃ u : State, u = if 32 ≤ (s.capFifo (e.cap / 4)).length then f
    else { s with tim := { s.tim with fifo := Tbl.set (fun _ => []) s.tim.fifo (e.cap / 4) (s.capFifo (e.cap / 4) ++ [e]) } } := ⟨_, rfl⟩
  have he : s.capPush e = u.settle (160 + e.cap / 4) (u.capLevel (e.cap / 4)) := by
    rw [hu, hf]
    rfl
  obtain ⟨htim, hreg, -⟩ := settle_leaves u (160 + e.cap / 4) (u.capLevel (e.cap / 4))
  have hcsr : (s.capPush e).csr = u.csr := he ▸ ((Only.refl [.ic] u).settle _ _).same .csr
  rw [← he] at htim hreg
  have hfifo : ∀ g, (s.capPush e).capFifo g = u.capFifo g := fun g => by rw [State.capFifo, State.capFifo, htim]
  have hftim : f.tim = s.tim := hf ▸ (((Only.refl [.csr] s).setFlag _ _ _).count _ _ _).same .tim
  have hffifo : ∀ g, f.capFifo g = s.capFifo g := fun g => by rw [State.capFifo, State.capFifo, hftim]
  refine ⟨fun hlt => ?_, fun hle => ?_, fun g hg => ?_⟩
  · rw [if_neg (by omega)] at hu
    rw [hfifo, hcsr, hu]
    exact ⟨Tbl.get_set_same _ _ _ _, rfl⟩
  · rw [if_pos hle] at hu
    rw [hfifo, hu, hffifo]
    refine ⟨rfl, (State.flag_of_reg (hreg _) _).trans ?_⟩
    rw [hu, hf, State.count, State.flag_setFld_fld _ _ _ _ _ (by decide), State.flag_setFlag _ _ _ _ (by decide)]
  · rw [hfifo, hu]
    split
    · exact hffifo g
    · exact Tbl.get_set_other _ _ _ _ _ hg

/-- A read of the word that pops a capture FIFO. -/
theorem busRead_capW0 {ep : Nat} {g : Fin 16} (hr : s.mayRead ep (R.TIM_CAPF_W0 g)) (hep : ep ≠ 0x6B) :
    s.busRead ep (R.TIM_CAPF_W0 g) = { (s.capPop g).2 with out := leBytes 4 (s.capPop g).1.toNat } := by
  have hg := g.2
  have hw : winOf (R.TIM_CAPF_W0 g) = some (.tim, 0, 0x2100 + 0x20 * g.val) := by
    rw [winOf_tim (by simp only [R.TIM_CAPF_W0]; omega)]
    simp only [R.TIM_CAPF_W0]
    congr 3
    omega
  have hgroup : timGroup (0x2100 + 0x20 * g.val) = some g.val := by
    unfold timGroup
    rw [if_pos (by simp; omega)]
    exact congrArg some (by omega)
  have hdom : timDom (0x2100 + 0x20 * g.val) = none := if_neg (by simp; omega)
  have hmod : (0x2100 + 0x20 * g.val - 0x2100) % 0x20 = 0 := by omega
  rw [busRead_of hw (by decide) (by decide) (by decide) (by simp only [R.TIM_CAPF_W0, R.WDT_COUNT]; omega) hr hep]
  have hact : s.readAct (R.TIM_CAPF_W0 g) = (s.capPop g).2 := by
    unfold State.readAct
    rw [hw]
    dsimp only
    rw [hgroup]
    exact if_pos hmod
  have hpeek : s.csrPeek (R.TIM_CAPF_W0 g) = (s.capPop g).1 := by
    unfold State.csrPeek
    rw [hw]
    dsimp only
    unfold State.timPeek
    rw [hdom, hgroup]
    dsimp only
    rw [hmod]
    rfl
  rw [hact, hpeek]

theorem capPop_cons {g : Nat} {e : CapEntry} {r : List CapEntry} (h : s.capFifo g = e :: r) :
    (s.capPop g).1 = BitVec.ofNat 32 (2 ^ 31 + (if e.fall then 2 else 1) * 2 ^ 8 + e.cap) ∧ (s.capPop g).2.capFifo g = r ∧
    (s.capPop g).2.reg (R.TIM_CAPF_W1 g) = BitVec.ofNat 32 (e.time / 2 ^ 16 % 10 ^ 9) ∧
    (s.capPop g).2.reg (R.TIM_CAPF_W2 g) = BitVec.ofNat 32 (e.time / 2 ^ 16 / 10 ^ 9) := by
  have h12 : R.TIM_CAPF_W1 g ≠ R.TIM_CAPF_W2 g := by simp only [R.TIM_CAPF_W1, R.TIM_CAPF_W2]; omega
  have h13 : R.TIM_CAPF_W1 g ≠ R.TIM_CAPF_W3 g := by simp only [R.TIM_CAPF_W1, R.TIM_CAPF_W3]; omega
  have h23 : R.TIM_CAPF_W2 g ≠ R.TIM_CAPF_W3 g := by simp only [R.TIM_CAPF_W2, R.TIM_CAPF_W3]; omega
  obtain ⟨u, hu⟩ : ∃ u : State, u = { s with tim := { s.tim with fifo := Tbl.set (fun _ => []) s.tim.fifo g r } } := ⟨_, rfl⟩
  obtain ⟨v3, h3⟩ : ∃ v3 : Word, s.capPop g = (BitVec.ofNat 32 (2 ^ 31 + (if e.fall then 2 else 1) * 2 ^ 8 + e.cap),
      ((u.setReg (R.TIM_CAPF_W1 g) (BitVec.ofNat 32 (e.time / 2 ^ 16 % 10 ^ 9))).setReg (R.TIM_CAPF_W2 g) (BitVec.ofNat 32 (e.time / 2 ^ 16 / 10 ^ 9))).setReg
        (R.TIM_CAPF_W3 g) v3) := by
    refine ⟨BitVec.ofNat 32 (e.time % 2 ^ 16 * 2 ^ 16 + e.time / 2 ^ 16 / 10 ^ 9 / 2 ^ 32 % 2 ^ 16), ?_⟩
    rw [hu]
    unfold State.capPop
    rw [h]
  rw [h3]
  refine ⟨rfl, ?_, ?_, ?_⟩
  · have htim := ((((Only.refl [.csr] u).setReg (R.TIM_CAPF_W1 g) (BitVec.ofNat 32 (e.time / 2 ^ 16 % 10 ^ 9))).setReg
      (R.TIM_CAPF_W2 g) (BitVec.ofNat 32 (e.time / 2 ^ 16 / 10 ^ 9))).setReg (R.TIM_CAPF_W3 g) v3).same .tim
    dsimp only at htim ⊢
    rw [State.capFifo, htim, hu]
    exact Tbl.get_set_same _ _ _ _
  · rw [State.reg_setReg_other _ _ _ _ h13, State.reg_setReg_other _ _ _ _ h12, State.reg_setReg_same]
  · rw [State.reg_setReg_other _ _ _ _ h23, State.reg_setReg_same]

theorem capPop_nil {g : Nat} (h : s.capFifo g = []) : s.capPop g = (0, s) := by
  unfold State.capPop
  rw [h]

end

theorem capturesEnterAndLeaveTheFifo : CapturesEnterAndLeaveTheFifo := by
  refine ⟨fun src c rising after sub s => ?edge, fun ep g s hr hep => ⟨fun e r he => ?entry, fun he => ?empty⟩⟩
  case edge =>
    intro t hrun hup hw hothers hedge hlast
    obtain ⟨v, hv⟩ : ∃ v : State, v = { t with tim := { t.tim with capLast := Tbl.set (fun _ => 0) t.tim.capLast c (t.tim.cycles + 1) } } := ⟨_, rfl⟩
    obtain ⟨e, he⟩ : ∃ e : CapEntry, e = ⟨c, !rising, t.stamp (t.fld (R.TIM_CAP_CFG c) F.TIM_CAP_CFG_DOM) sub⟩ := ⟨_, rfl⟩
    have hexec : exec (.captureEdge src rising after sub) s = .next (v.capPush e) := by
      have hspaced : (Tbl.get (fun _ => 0) t.tim.capLast c == 0 || decide (Tbl.get (fun _ => 0) t.tim.capLast c - 1 + 8 ≤ t.tim.cycles)) = true := by
        rcases hlast with h | h <;> simp [h]
      have hactive : ¬(!t.timRun || !t.capPortUp src) = true := by simp [hrun, hup]
      refine congrArg Host.Outcome.next ((if_neg hactive).trans ?_)
      rw [filter_range_single c.2 hw hothers, State.forEach, List.foldl_cons, List.foldl_nil, hv, he]
      refine if_pos ?_
      rw [Bool.and_eq_true]
      exact ⟨hedge, hspaced⟩
    obtain ⟨h1, h2, h3⟩ := capPush_leaves v e
    have hcap : e.cap = c := by rw [he]
    have hfifo : ∀ g, v.capFifo g = t.capFifo g := fun g => by rw [hv]; rfl
    have hcsr : v.csr = t.csr := by rw [hv]
    rw [hcap] at h1 h2 h3
    refine ⟨_, hexec, fun hlt => ?_, fun hle => ?_, fun g hg => (h3 g hg).trans (hfifo g)⟩
    · obtain ⟨h4, h5⟩ := h1 (by rw [hfifo]; exact hlt)
      exact ⟨h4.trans (by rw [hfifo, he]), h5.trans hcsr⟩
    · obtain ⟨h4, h5⟩ := h2 (by rw [hfifo]; exact hle)
      exact ⟨h4.trans (hfifo _), h5⟩
  case entry =>
    obtain ⟨h1, h2, h3, h4⟩ := capPop_cons he
    refine ⟨_, congrArg Host.Outcome.next (busRead_capW0 hr fun h => hep (Fin.ext h)), ?_, h2, h3, h4, ?_⟩
    · rw [h1, BitVec.toNat_ofNat]
    · exact ((Only.refl [.csr, .tim, .out] s).capPop g).with_out _
  case empty =>
    refine ⟨_, congrArg Host.Outcome.next (busRead_capW0 hr fun h => hep (Fin.ext h)), ?_⟩
    rw [capPop_nil he]
    exact ⟨show leBytes 4 (0 : Word).toNat = [0, 0, 0, 0] by decide, rfl, (Only.refl [.out] s).with_out _⟩

/-! Lane time stamps (R453, R454, R458, R459, R463). -/

section
variable {s t : State} {n : Nat}

/-- A frame goes out on a lane. -/
def State.putFrame (s : State) (n : Nat) (f : List Byte) : State :=
  { s with tim := { s.tim with sent := Tbl.set (fun _ => []) s.tim.sent n f } }

theorem State.putFrame_leaves (s : State) (n : Nat) (f : List Byte) :
    Tbl.get (fun _ => []) (s.putFrame n f).tim.sent n = f ∧ (∀ m, (s.putFrame n f).tsFifo m = s.tsFifo m) ∧ (s.putFrame n f).csr = s.csr :=
  ⟨Tbl.get_set_same _ _ _ _, fun _ => rfl, rfl⟩

theorem State.tsFifo_of_tim (h : t.tim = s.tim) (m : Nat) : t.tsFifo m = s.tsFifo m := by rw [State.tsFifo, State.tsFifo, h]

theorem State.tsFifo_setTsFifo (s : State) (n : Nat) (l : List (Nat × Nat)) : (s.setTsFifo n l).tsFifo n = l := Tbl.get_set_same _ _ _ _

theorem State.tsFifo_setTsFifo_other (s : State) (n : Nat) (l : List (Nat × Nat)) {m : Nat} (h : m ≠ n) : (s.setTsFifo n l).tsFifo m = s.tsFifo m :=
  Tbl.get_set_other _ _ _ _ _ h

theorem tsFifo_advance (s : State) (k m : Nat) : (s.advance k).tsFifo m = s.tsFifo m := by
  obtain ⟨ctr, slew, cycles, he⟩ := advance_eq s k
  rw [he]
  rfl

section
variable {n : Fin 144} {cmd : Fin 4} {tag : BitVec 16} {encap : Fin 3} {off : BitVec 8} {base : BitVec 64} {frame : List (BitVec 8)}
  {pos : Int} {after : Nat} {sub : Fin 8}

/-- A frame that asks for no time stamp, or that no stamp reaches, goes out as given (R454). -/
theorem exec_txFrame_plain (ht : s.advance after = t) (ho : t.operates n = true)
    (h : t.stamps n = false ∨ t.flag (R.TIM_LN_CFG n) F.TIM_LN_CFG_TX_EN = false ∨ cmd = 0) :
    exec (.txFrameStart n cmd tag encap off base frame pos after sub) s = .next (t.putFrame n frame) := by
  subst ht
  refine congrArg Host.Outcome.next ((if_neg (by simp [ho])).trans ?_)
  by_cases hp : (!(s.advance after).stamps n || !(s.advance after).flag (R.TIM_LN_CFG n) F.TIM_LN_CFG_TX_EN) = true
  · exact if_pos hp
  · have hcmd : cmd = 0 := by
      rcases h with h | h | h
      · exact absurd (by simp [h]) hp
      · exact absurd (by simp [h]) hp
      · exact h
    rw [hcmd]
    exact (if_neg hp).trans (if_pos rfl)

/-- A two-step command puts the frame's stamp beside the frame (R454, R458). -/
theorem exec_txFrame_twoStep (ht : s.advance after = t) (ho : t.operates n = true) (hs : t.stamps n = true)
    (hx : t.flag (R.TIM_LN_CFG n) F.TIM_LN_CFG_TX_EN = true) (hcmd : cmd = 1) :
    exec (.txFrameStart n cmd tag encap off base frame pos after sub) s =
      .next ((t.twoStep n tag.toNat (t.laneStamp n true pos sub)).putFrame n frame) := by
  subst ht hcmd
  refine congrArg Host.Outcome.next ((if_neg (by simp [ho])).trans ((if_neg (by simp [hs, hx])).trans ?_))
  exact if_pos rfl

/-- A one-step command that nothing hinders updates the frame (R459). -/
theorem exec_txFrame_oneStep (ht : s.advance after = t) (ho : t.operates n = true) (hs : t.stamps n = true)
    (hx : t.flag (R.TIM_LN_CFG n) F.TIM_LN_CFG_TX_EN = true) (hos : t.flag (R.TIM_LN_CFG n) F.TIM_LN_CFG_ONESTEP_EN = true) (hcmd : cmd = 2)
    (hd : (stampDelta (t.laneStamp n true pos sub) base.toNat).natAbs < 8 * 10 ^ 9) (h1 : (if encap = 0 then 14 else 42) ≤ off.toNat)
    (h2 : off.toNat + 20 ≤ frame.length) :
    exec (.txFrameStart n cmd tag encap off base frame pos after sub) s =
      .next (t.putFrame n (oneStep frame encap off.toNat (stampDelta (t.laneStamp n true pos sub) base.toNat))) := by
  subst ht hcmd
  have hencap : (if encap.val = 0 then 14 else 42) = if encap = 0 then 14 else 42 := if_congr Fin.val_eq_zero_iff rfl rfl
  refine congrArg Host.Outcome.next ((if_neg (by simp [ho])).trans ((if_neg (by simp [hs, hx])).trans ((if_neg (by simp [hos])).trans ?_)))
  refine if_neg ?_
  rw [hencap]
  simp only [Bool.or_eq_true, decide_eq_true_eq]
  omega

end

/-- A read of the word that pops a lane's two-step FIFO. -/
theorem busRead_lnTsf0 {ep : Nat} {n : Fin 144} (hr : s.mayRead ep (R.TIM_LN_TSF0 n)) (hep : ep ≠ 0x6B) :
    s.busRead ep (R.TIM_LN_TSF0 n) = { (s.tsPop n).2 with out := leBytes 4 (s.tsPop n).1.toNat } := by
  have hn := n.2
  have hw : winOf (R.TIM_LN_TSF0 n) = some (.tim, 0, 0x4010 + 0x20 * n.val) := by
    rw [winOf_tim (by simp only [R.TIM_LN_TSF0]; omega)]
    simp only [R.TIM_LN_TSF0]
    congr 3
    omega
  have hlane : timLane (0x4010 + 0x20 * n.val) = some n.val := by
    unfold timLane
    rw [if_pos (by simp; omega)]
    exact congrArg some (by omega)
  have hdom : timDom (0x4010 + 0x20 * n.val) = none := if_neg (by simp; omega)
  have hgroup : timGroup (0x4010 + 0x20 * n.val) = none := if_neg (by simp; omega)
  have hmod : (0x4010 + 0x20 * n.val - 0x4000) % 0x20 = 0x10 := by omega
  rw [busRead_of hw (by decide) (by decide) (by decide) (by simp only [R.TIM_LN_TSF0, R.WDT_COUNT]; omega) hr hep]
  have hact : s.readAct (R.TIM_LN_TSF0 n) = (s.tsPop n).2 := by
    unfold State.readAct
    rw [hw]
    dsimp only
    rw [hgroup, hlane]
    exact if_pos hmod
  have hpeek : s.csrPeek (R.TIM_LN_TSF0 n) = (s.tsPop n).1 := by
    unfold State.csrPeek
    rw [hw]
    dsimp only
    unfold State.timPeek
    rw [hdom, hgroup, hlane]
    dsimp only
    rw [hmod]
    rfl
  rw [hact, hpeek]

theorem tsPop_cons {tag w : Nat} {r : List (Nat × Nat)} (h : s.tsFifo n = (tag, w) :: r) (hc : s.flag (R.TIM_LN_CFG n) F.TIM_LN_CFG_TSF_CSR = true) :
    (s.tsPop n).1 = BitVec.ofNat 32 (2 ^ 31 + tag % 2 ^ 16) ∧ (s.tsPop n).2.tsFifo n = r ∧
    (s.tsPop n).2.reg (R.TIM_LN_TSF1 n) = BitVec.ofNat 32 w ∧ (s.tsPop n).2.reg (R.TIM_LN_TSF2 n) = BitVec.ofNat 32 (w / 2 ^ 32) := by
  have h12 : R.TIM_LN_TSF1 n ≠ R.TIM_LN_TSF2 n := by simp only [R.TIM_LN_TSF1, R.TIM_LN_TSF2]; omega
  obtain ⟨u, hu⟩ : ∃ u, u = s.setTsFifo n r := ⟨_, rfl⟩
  have he : s.tsPop n = (BitVec.ofNat 32 (2 ^ 31 + tag % 2 ^ 16),
      (u.setReg (R.TIM_LN_TSF1 n) (BitVec.ofNat 32 w)).setReg (R.TIM_LN_TSF2 n) (BitVec.ofNat 32 (w / 2 ^ 32))) := by
    rw [hu]
    unfold State.tsPop
    rw [hc, h]
  have htim := (((Only.refl [.csr] u).setReg (R.TIM_LN_TSF1 n) (BitVec.ofNat 32 w)).setReg (R.TIM_LN_TSF2 n) (BitVec.ofNat 32 (w / 2 ^ 32))).same .tim
  rw [he]
  refine ⟨rfl, (State.tsFifo_of_tim htim n).trans (hu ▸ State.tsFifo_setTsFifo s n r), ?_, State.reg_setReg_same _ _ _⟩
  rw [State.reg_setReg_other _ _ _ _ h12, State.reg_setReg_same]

end

theorem laneTimeStamps : LaneTimeStamps := by
  refine ⟨fun n pos after sub s => ?receive, fun n cmd tag encap off base frame pos after sub s => ?send,
    fun ep n tag w r s hr hep he hc => ?read, fun n s => ⟨fun hc => ?pop, fun hc => congrArg Host.Outcome.next (if_pos hc)⟩⟩
  case receive =>
    obtain ⟨u, hu'⟩ : ∃ u, u = s.advance after := ⟨_, rfl⟩
    refine ⟨_, rfl, ?_⟩
    dsimp only
    rw [← hu']
    have hu : Only [.tim] s u := hu' ▸ (Only.refl _ s).advance after
    refine ⟨?_, hu.same .csr, hu.with_tim _⟩
    refine (Tbl.get_set_same _ _ _ _).trans ?_
    simp only [Bool.and_eq_true]
  case send =>
    intro u ho
    have hfifo : ∀ m, u.tsFifo m = s.tsFifo m := tsFifo_advance s after
    have hcsr : u.csr = s.csr := ((Only.refl [.tim] s).advance after).same .csr
    obtain ⟨h1, h2, h3⟩ := State.putFrame_leaves u n frame
    refine ⟨fun h => ⟨_, exec_txFrame_plain rfl ho h, h1, (h2 n).trans (hfifo n), h3.trans hcsr⟩,
      fun hst htx hcmd hlen => ⟨_, exec_txFrame_twoStep rfl ho hst htx hcmd, ?_⟩,
      fun hst htx hos hcmd hd h1 h2 => ⟨_, exec_txFrame_oneStep rfl ho hst htx hos hcmd hd h1 h2, ?_⟩⟩
    · obtain ⟨v, hv⟩ : ∃ v, v = u.setTsFifo n (u.tsFifo n ++ [(tag.toNat, u.laneStamp n true pos sub)]) := ⟨_, rfl⟩
      have htwo : u.twoStep n tag.toNat (u.laneStamp n true pos sub) = v := hv ▸ if_neg (by rw [hfifo]; omega)
      obtain ⟨k1, k2, k3⟩ := State.putFrame_leaves v n frame
      rw [htwo]
      refine ⟨k1, (k2 n).trans ?_, k3.trans ?_⟩
      · rw [hv, State.tsFifo_setTsFifo, hfifo]
      · rw [hv]
        exact hcsr
    · obtain ⟨k1, k2, -⟩ := State.putFrame_leaves u n (oneStep frame encap off.toNat (stampDelta (u.laneStamp n true pos sub) base.toNat))
      exact ⟨k1, (k2 n).trans (hfifo n)⟩
  case read =>
    obtain ⟨h1, h2, h3, h4⟩ := tsPop_cons he hc
    refine ⟨_, congrArg Host.Outcome.next (busRead_lnTsf0 hr fun h => hep (Fin.ext h)), ?_, h2, h3, h4, ((Only.refl [.csr, .tim, .out] s).tsPop n).with_out _⟩
    rw [h1, BitVec.toNat_ofNat, Nat.mod_eq_of_lt (by omega)]
  case pop =>
    refine ⟨_, congrArg Host.Outcome.next (if_neg (by simp [hc])), State.tsFifo_setTsFifo _ _ _, fun m hm => State.tsFifo_setTsFifo_other _ _ _ hm,
      (Only.refl _ s).setTsFifo _ _⟩

/-- Settles O27: by what a captured edge, a frame and a read of a FIFO leave. -/
theorem capturesAndLaneTimeStamps : Obligations.CapturesAndLaneTimeStamps := ⟨capturesEnterAndLeaveTheFifo, laneTimeStamps⟩

end Sys2Proof.Machine
end

section
/-! ## Reports enter and leave the log (O54) -/

namespace Sys2Proof.Machine

-- Elaborated in order: side by side, so many short proofs would each hold a thread with its stack.
set_option Elab.async false

open Sys2Proof

/-- One fatal report on its way, from a source number that no reporter has. -/
def strayWaiting : Waiting := ⟨0, ⟨130048, 3, 0, 0⟩, 0⟩

/-- A state with that report: the words of the first-error record of its group lie at the registers of the debug block, and bit 31 of the time is
that of DBG_STAT.HALTED. -/
def strayReport : State := { State.reset with
  boot := { State.reset.boot with inReset := false }
  err := { State.reset.err with waiting := [strayWaiting] }
  tim := { State.reset.tim with ctr := [(0, 2 ^ 79)] } }

theorem strayReport_runs : strayReport.halted = false ∧ strayReport.ic.asleep = false ∧ strayReport.inService 0 = false := by decide

/-- The collector takes the report while the state it leaves reads as halted, so that source 0 is latched and not pending. -/
theorem strayReport_accepted : ∀ t, exec .errorReportAccept strayReport = .next t → t.ic.pending.has 0 = false := by
  intro t ht
  have hexec : exec .errorReportAccept strayReport = .next ((strayReport.icWake.setErr { strayReport.icWake.err with waiting := [] }).accept strayWaiting) := rfl
  have hpend : ((strayReport.icWake.setErr { strayReport.icWake.err with waiting := [] }).accept strayWaiting).ic.pending.has 0 = false := by decide
  rw [hexec] at ht
  injection ht with ht
  exact ht ▸ hpend

/-- Refutes O54: a fatal report of a source number past every reporter's writes its first-error record over DBG_STAT, and source 0 does not become
pending. -/
theorem not_reportsEnterAndLeaveTheLog : ¬ Obligations.ReportsEnterAndLeaveTheLog := by
  intro h
  obtain ⟨haccept, -⟩ := h
  obtain ⟨hrun, hawake, hservice⟩ := strayReport_runs
  obtain ⟨happend, -⟩ := haccept [] [] strayWaiting strayReport rfl hrun rfl hawake (fun x hx => absurd hx List.not_mem_nil)
    (fun x hx => absurd hx List.not_mem_nil)
  obtain ⟨t, ht, ⟨-, -, hfatal, -⟩, -⟩ := happend (fun e he => absurd he List.not_mem_nil) (.inl (by decide))
  obtain ⟨-, hpending⟩ := hfatal rfl
  exact absurd ((hpending hservice).symm.trans (strayReport_accepted t ht)) (by decide)

end Sys2Proof.Machine
end

section
/-! ## Retraining in service (O41) -/

namespace Sys2Proof.Machine

-- Elaborated in order: side by side, so many short proofs would each hold a thread with its stack.
set_option Elab.async false

open Sys2Proof

section
variable {s t : State}

/-! Operations that each change registers of their own. -/

/-- A loop whose steps change disjoint sets of registers: each leaves its own as it left them, with no other step's met before. -/
theorem State.forEach_own {α : Type} {F : State → α → State} {own : α → Nat → Prop} (hF : ∀ u x, Regs (own x) u (F u x)) {l : List α}
    (hl : l.Pairwise fun x y => ∀ off, own x off → ¬ own y off) {x : α} (hx : x ∈ l) (s : State) :
    ∃ u, Regs (fun off => (∃ y ∈ l, own y off) ∧ ¬ own x off) s u ∧ ∀ off, own x off → (s.forEach l F).reg off = (F u x).reg off := by
  obtain ⟨a, c, rfl⟩ := List.append_of_mem hx
  obtain ⟨-, hc, ha⟩ := List.pairwise_append.mp hl
  refine ⟨s.forEach a F, ?_, fun off ho => ?_⟩
  · refine Regs.foldl_mem (Regs.refl _ s) a fun u y hy h => ?_
    refine h.trans ((hF u y).mono fun off ho => ⟨⟨y, by simp [hy], ho⟩, ha y hy x (by simp) off ho⟩)
  · rw [State.forEach_append]
    refine Regs.foldl_mem (Regs.refl (fun o => ¬ own x o) _) c (fun u y hy h => ?_) off fun h => h ho
    refine h.trans ((hF u y).mono fun o hoy hox => ?_)
    exact (List.pairwise_cons.mp hc).1 y hy o hox hoy

/-- A loop that changes one register for each of its keys. -/
theorem State.forEach_reg {F : State → Nat → State} {r : Nat → Nat} (hF : ∀ u k, Regs (· = r k) u (F u k)) (hr : ∀ j k, r j = r k → j = k)
    {n k : Nat} (hk : k < n) (s : State) :
    ∃ u, Regs (fun off => (∃ j < n, off = r j) ∧ off ≠ r k) s u ∧ (s.forEach (List.range n) F).reg (r k) = (F u k).reg (r k) := by
  have hl : (List.range n).Pairwise fun x y => ∀ off, off = r x → ¬ off = r y :=
    List.nodup_range.imp fun hne off h1 h2 => hne (hr _ _ (h1.symm.trans h2))
  obtain ⟨u, h1, h2⟩ := State.forEach_own hF hl (List.mem_range.mpr hk) s
  exact ⟨u, h1.mono fun off ⟨⟨j, hj, ho⟩, hne⟩ => ⟨⟨j, List.mem_range.mp hj, ho⟩, hne⟩, h2 _ rfl⟩

/-! The registers of an RLD channel's window. -/

theorem winOf_mc {c loc : Nat} (hc : c < 8) (hl : loc < 0x10000) : winOf (0x2000000 + 0x10000 * c + loc) = some (.mc, c, loc) := by
  unfold winOf
  rw [if_neg (by omega), if_neg (by omega), if_neg (by omega), if_neg (by omega), if_neg (by omega), if_neg (by omega), if_neg (by omega), if_pos (by omega)]
  congr 3 <;> omega

theorem busWrite_mc {c loc ep off : Nat} (hc : c < 8) (hl : loc < 0x10000) (ho : off = 0x2000000 + 0x10000 * c + loc) (hw : s.mayWrite ep off) (v : Word) :
    s.busWrite ep off v = s.mcWrite c loc off v := by
  rw [busWrite_of_mayWrite hw, State.csrWrite, ho, winOf_mc hc hl]

/-! The delay sets (R504, R505). -/

/-- The active and the shadow registers of a channel's delay sets. -/
theorem mem_mtPairs {c : Nat} {p : Nat × Nat} : p ∈ mtPairs c ↔
    (∃ k < 72, p = (R.MT_ACT_DQ c k, R.MT_SHD_DQ c k)) ∨ ∃ m < 2, p = (R.MT_ACT_CMP c m, R.MT_SHD_CMP c m) := by
  unfold mtPairs
  rw [List.mem_append, List.mem_map, List.mem_map]
  refine or_congr (exists_congr fun k => ?_) (exists_congr fun k => ?_) <;> rw [List.mem_range, eq_comm]

/-- No register of the sets stands in two places. -/
theorem mtPairs_apart (c : Nat) : (mtPairs c).Pairwise fun p q => p.1 ≠ q.1 ∧ p.1 ≠ q.2 ∧ p.2 ≠ q.1 ∧ p.2 ≠ q.2 := by
  refine List.pairwise_append.mpr ⟨?_, ?_, fun p hp q hq => ?_⟩
  · rw [List.pairwise_map]
    refine List.pairwise_lt_range.imp_of_mem fun hj hk hlt => ?_
    have hj := List.mem_range.mp hj
    have hk := List.mem_range.mp hk
    simp only [R.MT_ACT_DQ, R.MT_SHD_DQ]
    omega
  · rw [List.pairwise_map]
    refine List.pairwise_lt_range.imp_of_mem fun hj hk hlt => ?_
    have hj := List.mem_range.mp hj
    have hk := List.mem_range.mp hk
    simp only [R.MT_ACT_CMP, R.MT_SHD_CMP]
    omega
  · obtain ⟨j, hj, rfl⟩ := List.mem_map.mp hp
    obtain ⟨k, hk, rfl⟩ := List.mem_map.mp hq
    have hj := List.mem_range.mp hj
    have hk := List.mem_range.mp hk
    simp only [R.MT_ACT_DQ, R.MT_SHD_DQ, R.MT_ACT_CMP, R.MT_SHD_CMP]
    omega

/-- Within a pair the registers differ, and no active register is a shadow one. -/
theorem mtPairs_ne {c : Nat} {p q : Nat × Nat} (hp : p ∈ mtPairs c) (hq : q ∈ mtPairs c) : p.1 ≠ q.2 := by
  rcases mem_mtPairs.mp hp with ⟨j, hj, rfl⟩ | ⟨j, hj, rfl⟩ <;> rcases mem_mtPairs.mp hq with ⟨k, hk, rfl⟩ | ⟨k, hk, rfl⟩ <;>
    simp only [R.MT_ACT_DQ, R.MT_SHD_DQ, R.MT_ACT_CMP, R.MT_SHD_CMP] <;> omega

/-- Loading the shadow set from the active one (R515). -/
theorem mtReload_leaves (s : State) (c : Nat) : (∀ p ∈ mtPairs c, (s.mtReload c).reg p.2 = s.reg p.1 ∧ (s.mtReload c).reg p.1 = s.reg p.1) ∧
    Regs (fun off => ∃ p ∈ mtPairs c, off = p.2) s (s.mtReload c) := by
  have hstep : ∀ (u : State) (p : Nat × Nat), Regs (· = p.2) u (u.setReg p.2 (u.reg p.1)) := fun u p => (Regs.refl _ u).setReg _ rfl
  have hall : Regs (fun off => ∃ p ∈ mtPairs c, off = p.2) s (s.mtReload c) := by
    unfold State.mtReload State.forEach
    exact Regs.foldl_mem (Regs.refl _ s) _ fun u p hp h => h.trans ((hstep u p).mono fun off ho => ⟨p, hp, ho⟩)
  refine ⟨fun p hp => ⟨?_, hall p.1 ?_⟩, hall⟩
  swap
  · rintro ⟨q, hq, he⟩
    exact mtPairs_ne hp hq he
  obtain ⟨u, h1, h2⟩ := State.forEach_own (own := fun (p : Nat × Nat) off => off = p.2) hstep
    ((mtPairs_apart c).imp fun h off h1 h2 => h.2.2.2 (h1.symm.trans h2)) hp s
  refine (h2 _ rfl).trans ?_
  rw [State.reg_setReg_same]
  refine h1 _ ?_
  rintro ⟨⟨q, hq, he⟩, -⟩
  exact mtPairs_ne hp hq he

/-- What an event of the training helper leaves. -/
theorem mtEvent_leaves (v : State) (c : Nat) {b : Nat} (hb : b < 32) : (v.mtEvent c b).bit (R.MT_INT_STAT c) b = true ∧
    (∀ off, off ≠ R.MT_INT_STAT c → (v.mtEvent c b).reg off = v.reg off) ∧ (v.mtEvent c b).mc = v.mc := by
  obtain ⟨y, hy⟩ : ∃ y, y = v.setBit (R.MT_INT_STAT c) b true := ⟨_, rfl⟩
  have hreg : ∀ off, (v.mtEvent c b).reg off = y.reg off := fun off => hy ▸ ((Regs.refl (fun _ => False) y).settle _ _) off id
  refine ⟨?_, fun off ho => (hreg off).trans ?_, ((Only.refl [.csr, .ic] v).mtEvent _ _).same .mc⟩
  · rw [State.bit_of_reg (hreg _), hy, State.bit_setBit_self _ _ _ _ hb]
  · rw [hy, State.setBit, State.reg_setFld_other _ _ _ _ _ ho]

/-! Enabling the retraining (R514). -/

theorem rowAt_prCtrl : ∀ c : Fin 8, rowAt (R.MT_PR_CTRL c) = some (⟨0x8040, [], 0x20641018, 0x80000000, 0, 0x60FF1F7F, 0, 0, 0, 0⟩, []) := by decide

/-- What a write of MT_PR_CTRL with EN does while EN is 0. -/
theorem busWrite_prEnable {ep : Nat} {c : Fin 8} {w : Word} (hw : s.mayWrite ep (R.MT_PR_CTRL c)) (hoff : s.prOn c = false) (hen : w.getLsbD 31 = true) :
    ∃ u, Regs (· = R.MT_PR_CTRL c) s u ∧ Only [.csr] s u ∧ u.prOn c = true ∧
      s.busWrite ep (R.MT_PR_CTRL c) w = if s.prPage c then u else u.prReject c := by
  obtain ⟨r, hr⟩ : ∃ r : RegRow, r = ⟨0x8040, [], 0x20641018, 0x80000000, 0, 0x60FF1F7F, 0, 0, 0, 0⟩ := ⟨_, rfl⟩
  have hrow : rowAt (R.MT_PR_CTRL c) = some (r, []) := hr ▸ rowAt_prCtrl c
  obtain ⟨u, hu⟩ : ∃ u, u = s.setReg (R.MT_PR_CTRL c) (r.after true (s.reg (R.MT_PR_CTRL c)) w) := ⟨_, rfl⟩
  have hstore : s.store (s.mtOpen c) (R.MT_PR_CTRL c) w (fun t => t.mtLocked c 0x8040) = u := by
    rw [State.mtOpen, hoff, State.store_of_unstaged hrow (by rw [hr]), hu]
    exact State.when_false (by simp [RegRow.lockedHit]) _ _
  have hregs : Regs (· = R.MT_PR_CTRL c) s u := hu ▸ (Regs.refl _ s).setReg _ rfl
  have hpage : u.prPage c = s.prPage c := by
    have hreg : ∀ off, off ≠ R.MT_PR_CTRL c → u.reg off = s.reg off := fun off ho => hregs off ho
    have hretire : ∀ k, u.reg (R.MC_RETIRE c k) = s.reg (R.MC_RETIRE c k) ∨ 64 ≤ k := fun k => by
      by_cases h : k < 64
      · exact .inl (hreg _ (by simp only [R.MC_RETIRE, R.MT_PR_CTRL]; omega))
      · exact .inr (by omega)
    unfold State.prPage State.retired
    rw [State.fld_of_reg (hreg (R.MT_PR_PAGE c) (by simp only [R.MT_PR_PAGE, R.MT_PR_CTRL]; omega)), Bool.eq_iff_iff, List.any_eq_true, List.any_eq_true]
    refine exists_congr fun k => and_congr_right fun hk => ?_
    rw [State.flag_of_reg ((hretire k).resolve_right (by have := List.mem_range.mp hk; omega)),
      State.fld_of_reg ((hretire k).resolve_right (by have := List.mem_range.mp hk; omega))]
  refine ⟨u, hregs, hu ▸ (Only.refl _ s).setReg _ _, ?_, ?_⟩
  · rw [hu, State.prOn, State.flag, State.fld, State.reg_setReg_same, hr, RegRow.fget_after_live (by decide) (by decide)]
    exact (fget_bit w rfl).trans hen
  · rw [busWrite_mc c.2 (loc := 0x8040) (by decide) (by simp only [R.MT_PR_CTRL]; omega) hw, State.mcWrite, if_neg (by decide), hstore]
    unfold State.mtAct
    rw [if_neg (by decide), if_neg (by decide), if_pos rfl, State.prCtrl, if_pos hen, hoff, Bool.false_or, hpage]

/-- Refusing the retraining (R514). -/
theorem prReject_leaves (c : Nat) (hc : c < 8) (u : State) : (u.prReject c).prOn c = false ∧ (u.prReject c).flag (R.MT_STAT c) F.MT_STAT_PR_REJ = true ∧
    (u.prReject c).bit (R.MT_INT_STAT c) 4 = true ∧ Regs (fun off => off ∈ [R.MT_PR_CTRL c, R.MT_STAT c, R.MT_INT_STAT c] ∨ off / 0x10000 = 5) u (u.prReject c) := by
  have h1 : R.MT_PR_CTRL c ≠ R.MT_STAT c := by simp only [R.MT_PR_CTRL, R.MT_STAT]; omega
  have h2 : R.MT_PR_CTRL c ≠ R.MT_INT_STAT c := by simp only [R.MT_PR_CTRL, R.MT_INT_STAT]; omega
  have h3 : R.MT_STAT c ≠ R.MT_INT_STAT c := by simp only [R.MT_STAT, R.MT_INT_STAT]; omega
  obtain ⟨v, hv⟩ : ∃ v, v = (u.setFlag (R.MT_PR_CTRL c) F.MT_PR_CTRL_EN false).setFlag (R.MT_STAT c) F.MT_STAT_PR_REJ true := ⟨_, rfl⟩
  obtain ⟨w, hw⟩ : ∃ w, w = v.setBit (R.MT_INT_STAT c) 4 true := ⟨_, rfl⟩
  have hreg : ∀ off, off / 0x10000 ≠ 5 → (u.prReject c).reg off = w.reg off := fun off h5 => by
    have he : u.prReject c = (w.settle (405 + 4 * c) (w.mtLevel c)).mtRecord c 0x15 0 0 := by
      rw [hw, hv]
      rfl
    rw [he]
    exact (((Regs.refl (fun off => off / 0x10000 = 5) w).settle _ _).mtRecord _ _ _ _ (by omega) (by decide) fun off h => h) off h5
  refine ⟨?_, ?_, ?_, ((Regs.refl _ u).prReject _ (Or.inl (by simp)) (Or.inl (by simp)) (Or.inl (by simp)) (by omega) (by decide) fun off h => Or.inr h)⟩
  · rw [State.prOn, State.flag_of_reg (hreg _ (by simp only [R.MT_PR_CTRL]; omega)), hw, State.flag_setBit_off _ _ _ _ _ _ h2, hv,
      State.flag_setFlag_off _ _ _ _ _ _ h1, State.flag_setFlag _ _ _ _ (by decide)]
  · rw [State.flag_of_reg (hreg _ (by simp only [R.MT_STAT]; omega)), hw, State.flag_setBit_off _ _ _ _ _ _ h3, hv, State.flag_setFlag _ _ _ _ (by decide)]
  · rw [State.bit, hreg _ (by simp only [R.MT_INT_STAT]; omega), ← State.bit, hw]
    exact State.bit_setBit_self _ _ _ _ (by decide)

/-! Sweeps (R510, R515). -/

/-- A window lies between values of the sweep. -/
theorem longestRun_mem {pass : Nat → Bool} {l : List Nat} {cur best : Option (Nat × Nat × Nat)} {P : Nat → Prop} (hl : ∀ v ∈ l, P v)
    (hc : ∀ x ∈ cur, P x.1 ∧ P x.2.1) (hb : ∀ x ∈ best, P x.1 ∧ P x.2.1) {a b : Nat} (h : longestRun pass l cur best = some (a, b)) : P a ∧ P b := by
  induction l generalizing cur best with
  | nil =>
    obtain ⟨x, hx, he⟩ := Option.map_eq_some_iff.mp h
    obtain ⟨h1, h2⟩ := hb x hx
    injection he with ha hb
    exact ⟨ha ▸ h1, hb ▸ h2⟩
  | cons v r ih =>
    have hv : P v := hl v (by simp)
    have hr : ∀ x ∈ r, P x := fun x hx => hl x (by simp [hx])
    unfold longestRun at h
    split at h
    · have hcur : ∀ x ∈ (some (match cur with | none => (v, v, 1) | some c => (c.1, v, c.2.2 + 1)) : Option (Nat × Nat × Nat)), P x.1 ∧ P x.2.1 := by
        intro x hx
        obtain rfl := Option.some.inj hx
        cases cur with
        | none => exact ⟨hv, hv⟩
        | some c => exact ⟨(hc c rfl).1, hv⟩
      refine ih hr hcur ?_ h
      intro x hx
      cases best with
      | none => exact hcur x hx
      | some b =>
        by_cases hlt : b.2.2 < (match cur with | none => (v, v, 1) | some c => (c.1, v, c.2.2 + 1)).2.2
        · exact hcur x ((if_pos hlt).symm.trans hx)
        · exact hb x ((if_neg hlt).symm.trans hx)
    · exact ih hr (fun x hx => by cases hx) hb h

/-- The window of data bit `k` in a sweep around its active delay (R515). -/
def State.prWindow (s : State) (c : Nat) (f : Fld) (pass : List (BitVec 128)) (k : Nat) : Option (Nat × Nat) :=
  window (pass.getD k 0) (sweepValues (s.fld (R.MT_ACT_DQ c k) f - s.fld (R.MT_PR_CTRL c) F.MT_PR_CTRL_RANGE)
    (min 127 (s.fld (R.MT_ACT_DQ c k) f + s.fld (R.MT_PR_CTRL c) F.MT_PR_CTRL_RANGE)) 1)

theorem prWindow_le {c k : Nat} {f : Fld} {pass : List (BitVec 128)} {l r : Nat} (h : s.prWindow c f pass k = some (l, r)) : l ≤ 127 ∧ r ≤ 127 := by
  refine longestRun_mem (P := (· ≤ 127)) (fun v hv => ?_) (fun x hx => by cases hx) (fun x hx => by cases hx) h
  have hle := of_decide_eq_true (List.mem_filter.mp hv).2
  omega

/-- The windows of a sweep noted in MT_WIN. -/
def State.winsNoted (t : State) (c : Nat) (win : Nat → Option (Nat × Nat)) : State :=
  t.forEach (List.range 72) fun t k => t.setReg (R.MT_WIN c k) (winWord (win k))

/-- The shadow set at the middle of every window. -/
def State.winsSet (t : State) (c : Nat) (f : Fld) (win : Nat → Option (Nat × Nat)) : State :=
  t.forEach (List.range 72) fun t k => match win k with
    | none => t
    | some (l, r) => t.setFld (R.MT_SHD_DQ c k) f ((l + r) / 2)

theorem winsNoted_leaves (t : State) (c : Nat) (win : Nat → Option (Nat × Nat)) : (∀ k < 72, (t.winsNoted c win).reg (R.MT_WIN c k) = winWord (win k)) ∧
    Regs (fun off => ∃ k < 72, off = R.MT_WIN c k) t (t.winsNoted c win) ∧ Only [.csr] t (t.winsNoted c win) := by
  have hstep : ∀ (u : State) (k : Nat), Regs (· = R.MT_WIN c k) u (u.setReg (R.MT_WIN c k) (winWord (win k))) := fun u k => (Regs.refl _ u).setReg _ rfl
  refine ⟨fun k hk => ?_, ?_, (Only.refl _ t).forEach _ fun _ _ h => h.setReg _ _⟩
  · obtain ⟨u, -, h⟩ := State.forEach_reg hstep (fun j k h => by simp only [R.MT_WIN] at h; omega) hk t
    exact h.trans (State.reg_setReg_same _ _ _)
  · unfold State.winsNoted State.forEach
    exact Regs.foldl_mem (Regs.refl _ t) _ fun u k hk h => h.trans ((hstep u k).mono fun off ho => ⟨k, List.mem_range.mp hk, ho⟩)

theorem winsSet_leaves (t : State) (c : Nat) {f : Fld} (hf : f.lo + f.w ≤ 32) (win : Nat → Option (Nat × Nat)) :
    (∀ k < 72, ∀ l r, win k = some (l, r) → (t.winsSet c f win).fld (R.MT_SHD_DQ c k) f = (l + r) / 2 % 2 ^ f.w) ∧
    Regs (fun off => ∃ k < 72, off = R.MT_SHD_DQ c k) t (t.winsSet c f win) ∧ Only [.csr] t (t.winsSet c f win) := by
  have hstep : ∀ (u : State) (k : Nat), Regs (· = R.MT_SHD_DQ c k) u (match win k with
      | none => u
      | some (l, r) => u.setFld (R.MT_SHD_DQ c k) f ((l + r) / 2)) := fun u k => by
    cases win k with
    | none => exact Regs.refl _ u
    | some p => exact (Regs.refl _ u).setFld _ _ rfl
  refine ⟨fun k hk l r hw => ?_, ?_, (Only.refl _ t).forEach _ fun u k h => ?_⟩
  · obtain ⟨u, -, h⟩ := State.forEach_reg hstep (fun j k h => by simp only [R.MT_SHD_DQ] at h; omega) hk t
    rw [hw] at h
    exact (State.fld_of_reg h f).trans (State.fld_setFld _ _ _ _ hf)
  · unfold State.winsSet State.forEach
    exact Regs.foldl_mem (Regs.refl _ t) _ fun u k hk h => h.trans ((hstep u k).mono fun off ho => ⟨k, List.mem_range.mp hk, ho⟩)
  · cases win k with
    | none => exact h
    | some p => exact h.setFld _ _ _

/-- The delay that a sweep moves: the read delay in READ, the write delay in WRITE. -/
def State.prFld (s : State) (c : Nat) : Fld := if s.prState c = 1 then F.MT_ACT_DQ_RDLY else F.MT_ACT_DQ_WDLY

/-- A sweep ends: its windows are noted, and then every bit has found a setting or the first that has not ends it (R515, R516). -/
theorem exec_retrainSweepDone {c : Fin 8} {pass : List (BitVec 128)} (hon : s.prOn c = true) (hmc : s.mcState c = 3)
    (hopen : s.flag (R.MT_PR_CTRL c) F.MT_PR_CTRL_WIN = false ∨ s.flag (R.MC_MAINT c) F.MC_MAINT_OPEN = true) (hst : s.prState c = 1 ∨ s.prState c = 2) :
    ∃ w, Only [.rld, .draws] s w ∧
      ((∀ k < 72, prFinds (s.fld (R.MT_PR_CTRL c) F.MT_PR_CTRL_MIN_W) (s.prWindow c (s.prFld c) pass k) = true) → ∃ u, 
        u = (w.winsNoted c (s.prWindow c (s.prFld c) pass)).winsSet c (s.prFld c) (s.prWindow c (s.prFld c) pass) ∧
        exec (.retrainSweepDone c pass) s = .next (if s.prState c = 1 then u.setPr c 2
          else if s.flag (R.MT_PR_CTRL c) F.MT_PR_CTRL_AUTO then ((u.setPr c 0).setMc c { u.mcOf c with commit := true }).mtEvent c 2
          else (u.setPr c 3).mtEvent c 2)) ∧
      ((∃ k < 72, prFinds (s.fld (R.MT_PR_CTRL c) F.MT_PR_CTRL_MIN_W) (s.prWindow c (s.prFld c) pass k) = false) → ∃ k d,
        exec (.retrainSweepDone c pass) s = .next (((((((w.winsNoted c (s.prWindow c (s.prFld c) pass)).mtReload c).setPr c 0).count (R.MT_PR_NOSET c)
          F.MT_PR_NOSET_COUNT 1).setFld (R.MT_PR_STAT c) F.MT_PR_STAT_LAST_BIT k).mtEvent c 3).mtRecord c 0x14 0 d)) := by
  obtain ⟨win, hwin⟩ : ∃ win, win = s.prWindow c (s.prFld c) pass := ⟨_, rfl⟩
  have hzip : (List.range 72).zip (s.prWindows c (s.prFld c) pass) = (List.range 72).map fun k => (k, win k) := by
    rw [hwin]
    unfold State.prWindows
    exact List.map_prod_left_eq_zip.symm
  have hgo : ¬(!s.prOn c || (s.prState c != 1 && s.prState c != 2) || s.mcState c != 3 ||
      !(!s.flag (R.MT_PR_CTRL c) F.MT_PR_CTRL_WIN || s.flag (R.MC_MAINT c) F.MC_MAINT_OPEN)) = true := by
    rcases hst with h | h <;> rcases hopen with ho | ho <;> simp [hon, hmc, h, ho]
  have hnone : (∀ k < 72, prFinds (s.fld (R.MT_PR_CTRL c) F.MT_PR_CTRL_MIN_W) (win k) = true) →
      ((List.range 72).map fun k => (k, win k)).find? (fun p => !prFinds (s.fld (R.MT_PR_CTRL c) F.MT_PR_CTRL_MIN_W) p.2) = none := fun h => by
    refine List.find?_eq_none.mpr fun p hp => ?_
    obtain ⟨k, hk, rfl⟩ := List.mem_map.mp hp
    simp [h k (List.mem_range.mp hk)]
  have hsome : (∃ k < 72, prFinds (s.fld (R.MT_PR_CTRL c) F.MT_PR_CTRL_MIN_W) (win k) = false) → ∃ p,
      ((List.range 72).map fun k => (k, win k)).find? (fun p => !prFinds (s.fld (R.MT_PR_CTRL c) F.MT_PR_CTRL_MIN_W) p.2) = some p := fun ⟨k, hk, h⟩ => by
    refine Option.isSome_iff_exists.mp (List.find?_isSome.mpr ⟨(k, win k), List.mem_map.mpr ⟨k, List.mem_range.mpr hk, rfl⟩, ?_⟩)
    simp [h]
  have hnoted : ∀ w : State, w.forEach ((List.range 72).map fun k => (k, win k)) (fun t p => t.setReg (R.MT_WIN c p.1) (winWord p.2)) = w.winsNoted c win :=
    fun w => List.foldl_map
  have hset : ∀ w : State, w.forEach ((List.range 72).map fun k => (k, win k)) (fun t p => match p.2 with
      | none => t
      | some (l, r) => t.setFld (R.MT_SHD_DQ c p.1) (s.prFld c) ((l + r) / 2)) = w.winsSet c (s.prFld c) win := fun w => List.foldl_map
  rw [← hwin]
  have hexec : exec (.retrainSweepDone c pass) s = execRetrainSweepDone c pass s := rfl
  rw [hexec]
  unfold execRetrainSweepDone
  dsimp only
  rw [if_neg hgo, ← State.prFld, hzip]
  obtain ⟨w, hw⟩ : ∃ w, w = s.helperStore c 0 (64 * s.fld (R.MT_PR_PAGE c) F.MT_PR_PAGE_PAGE) (max 1 (s.fld (R.MT_PR_PAGE c) F.MT_PR_PAGE_BURSTS))
    fun k => if s.prState c = 1 then pass.getD k 0 != 0
      else (pass.getD k 0).getLsbD (min 127 (s.fld (R.MT_ACT_DQ c k) (s.prFld c) + s.fld (R.MT_PR_CTRL c) F.MT_PR_CTRL_RANGE)) := ⟨_, rfl⟩
  refine ⟨w, hw ▸ (Only.refl _ s).helperStore _ _ _ _ _, fun h => ⟨_, rfl, ?_⟩, fun h => ?_⟩
  · rw [← hw, hnone h]
    dsimp only
    rw [hnoted]
    generalize hu : (w.winsNoted c win).forEach ((List.range 72).map fun k => (k, win k)) _ = u
    rw [hu.symm.trans (hset (w.winsNoted c win))]
  · obtain ⟨p, hp⟩ := hsome h
    rw [← hw, hp]
    dsimp only
    rw [hnoted]
    exact ⟨_, _, rfl⟩

/-- Every bit finds a setting: in the words of the statement. -/
theorem prFinds_iff {m : Nat} {o : Option (Nat × Nat)} : prFinds m o = true ↔ ∃ l r, o = some (l, r) ∧ m ≤ r - l := by
  rcases o with _ | ⟨l, r⟩
  · simp [prFinds]
  · constructor
    · exact fun h => ⟨l, r, rfl, of_decide_eq_true h⟩
    · rintro ⟨l', r', he, h⟩
      cases he
      exact decide_eq_true h

theorem prFld_fits (s : State) (c : Nat) : (s.prFld c).lo + (s.prFld c).w ≤ 32 ∧ (s.prFld c).w = 7 := by
  unfold State.prFld
  split <;> decide

/-- The shadow set, the windows and the active set after a sweep that found settings for all bits. -/
structure Swept (s : State) (c : Nat) (win : Nat → Option (Nat × Nat)) (u : State) : Prop where
  only : Only [.csr, .rld, .draws] s u
  shadow : ∀ k < 72, ∀ l r, win k = some (l, r) → u.fld (R.MT_SHD_DQ c k) (s.prFld c) = (l + r) / 2
  noted : ∀ k < 72, u.reg (R.MT_WIN c k) = winWord (win k)
  active : ∀ k < 72, u.reg (R.MT_ACT_DQ c k) = s.reg (R.MT_ACT_DQ c k)

theorem swept {c : Nat} {w : State} {pass : List (BitVec 128)} (hw : Only [.rld, .draws] s w) : Swept s c (s.prWindow c (s.prFld c) pass)
    ((w.winsNoted c (s.prWindow c (s.prFld c) pass)).winsSet c (s.prFld c) (s.prWindow c (s.prFld c) pass)) := by
  obtain ⟨hfits, hw7⟩ := prFld_fits s c
  obtain ⟨h1, h2, h3⟩ := winsNoted_leaves w c (s.prWindow c (s.prFld c) pass)
  obtain ⟨k1, k2, k3⟩ := winsSet_leaves (w.winsNoted c (s.prWindow c (s.prFld c) pass)) c hfits (s.prWindow c (s.prFld c) pass)
  refine ⟨((hw.mono (by simp)).trans (h3.mono (by simp))).trans (k3.mono (by simp)), fun k hk l r he => (k1 k hk l r he).trans ?_, fun k hk => (k2 _ ?_).trans (h1 k hk),
    fun k hk => (k2 _ ?_).trans ((h2 _ ?_).trans (State.reg_of_csr (hw.same .csr) _))⟩
  · obtain ⟨hl, hr⟩ := prWindow_le he
    rw [hw7]
    exact Nat.mod_eq_of_lt (by omega)
  · rintro ⟨j, hj, h⟩
    simp only [R.MT_WIN, R.MT_SHD_DQ] at h
    omega
  · rintro ⟨j, hj, h⟩
    simp only [R.MT_ACT_DQ, R.MT_SHD_DQ] at h
    omega
  · rintro ⟨j, hj, h⟩
    simp only [R.MT_ACT_DQ, R.MT_WIN] at h
    omega

/-- A sweep that did not find a setting for every bit: the shadow set is loaded again and the failure counts. -/
theorem unswept {c : Nat} (hc : c < 8) {w : State} (win : Nat → Option (Nat × Nat)) (hw : Only [.rld, .draws] s w) (k d : Nat) {t : State}
    (ht : t = (((((((w.winsNoted c win).mtReload c).setPr c 0).count (R.MT_PR_NOSET c) F.MT_PR_NOSET_COUNT 1).setFld (R.MT_PR_STAT c) F.MT_PR_STAT_LAST_BIT k).mtEvent c 3).mtRecord
      c 0x14 0 d)) : t.prState c = 0 ∧ t.bit (R.MT_INT_STAT c) 3 = true ∧ (∀ k < 72, t.reg (R.MT_SHD_DQ c k) = s.reg (R.MT_ACT_DQ c k)) ∧
      (t.reg (R.MT_PR_NOSET c)).toNat = min ((s.reg (R.MT_PR_NOSET c)).toNat + 1) (2 ^ 32 - 1) := by
  obtain ⟨a, ha⟩ : ∃ a, a = w.winsNoted c win := ⟨_, rfl⟩
  obtain ⟨b, hb⟩ : ∃ b, b = a.mtReload c := ⟨_, rfl⟩
  obtain ⟨e, he⟩ : ∃ e, e = b.setPr c 0 := ⟨_, rfl⟩
  obtain ⟨f, hf⟩ : ∃ f, f = e.count (R.MT_PR_NOSET c) F.MT_PR_NOSET_COUNT 1 := ⟨_, rfl⟩
  obtain ⟨g, hg⟩ : ∃ g, g = f.setFld (R.MT_PR_STAT c) F.MT_PR_STAT_LAST_BIT k := ⟨_, rfl⟩
  obtain ⟨x, hx⟩ : ∃ x, x = g.setBit (R.MT_INT_STAT c) 3 true := ⟨_, rfl⟩
  have hns : R.MT_PR_NOSET c ≠ R.MT_PR_STAT c := by simp only [R.MT_PR_NOSET, R.MT_PR_STAT]; omega
  have hni : R.MT_PR_NOSET c ≠ R.MT_INT_STAT c := by simp only [R.MT_PR_NOSET, R.MT_INT_STAT]; omega
  have hsi : R.MT_PR_STAT c ≠ R.MT_INT_STAT c := by simp only [R.MT_PR_STAT, R.MT_INT_STAT]; omega
  obtain ⟨-, hnoted, -⟩ := winsNoted_leaves w c win
  obtain ⟨hpairs, hreload⟩ := mtReload_leaves a c
  rw [← ha] at hnoted
  rw [← hb] at hpairs hreload
  have hxt : ∀ off, off / 0x10000 ≠ 5 → t.reg off = x.reg off := fun off h5 => by
    have hs : t = (x.settle (405 + 4 * c) (x.mtLevel c)).mtRecord c 0x14 0 d := by
      rw [ht, hx, hg, hf, he, hb, ha]
      rfl
    rw [hs]
    exact (((Regs.refl (fun off => off / 0x10000 = 5) x).settle _ _).mtRecord _ _ _ _ (by omega) (by decide) fun off h => h) off h5
  have hrest : ∀ off, off ≠ R.MT_PR_STAT c → off ≠ R.MT_PR_NOSET c → off ≠ R.MT_INT_STAT c → x.reg off = b.reg off := fun off h1 h2 h3 => by
    rw [hx, State.setBit, State.reg_setFld_other _ _ _ _ _ h3, hg, State.reg_setFld_other _ _ _ _ _ h1, hf, State.count, State.reg_setFld_other _ _ _ _ _ h2,
      he, State.setPr, State.reg_setFld_other _ _ _ _ _ h1]
  have hbw : ∀ off, (∀ k < 72, off ≠ R.MT_SHD_DQ c k ∧ off ≠ R.MT_WIN c k) → (∀ m < 2, off ≠ R.MT_SHD_CMP c m) → b.reg off = s.reg off := fun off h1 h2 => by
    refine ((hreload off ?_).trans (hnoted off ?_)).trans (State.reg_of_csr (hw.same .csr) off)
    · rintro ⟨p, hp, ho⟩
      rcases mem_mtPairs.mp hp with ⟨j, hj, rfl⟩ | ⟨j, hj, rfl⟩
      · exact (h1 j hj).1 ho
      · exact h2 j hj ho
    · rintro ⟨j, hj, ho⟩
      exact (h1 j hj).2 ho
  refine ⟨?_, ?_, fun j hj => ?_, ?_⟩
  · rw [State.prState, State.fld_of_reg (hxt _ (by simp only [R.MT_PR_STAT]; omega)), hx, State.fld_setBit_off _ _ _ _ _ _ hsi, hg,
      State.fld_setFld_fld _ _ _ _ _ (by decide), hf, State.count, State.fld_setFld_off _ _ _ _ _ _ hns.symm, he, State.setPr, State.fld_setFld _ _ _ _ (by decide)]
    rfl
  · rw [State.bit_of_reg (hxt _ (by simp only [R.MT_INT_STAT]; omega)), hx, State.bit_setBit_self _ _ _ _ (by decide)]
  · rw [hxt _ (by simp only [R.MT_SHD_DQ]; omega), hrest _ (by simp only [R.MT_SHD_DQ, R.MT_PR_STAT]; omega) (by simp only [R.MT_SHD_DQ, R.MT_PR_NOSET]; omega)
      (by simp only [R.MT_SHD_DQ, R.MT_INT_STAT]; omega)]
    refine (hpairs _ (mem_mtPairs.mpr (.inl ⟨j, hj, rfl⟩))).1.trans ((hnoted _ ?_).trans (State.reg_of_csr (hw.same .csr) _))
    rintro ⟨i, hi, ho⟩
    simp only [R.MT_ACT_DQ, R.MT_WIN] at ho
    omega
  · have hen : e.reg (R.MT_PR_NOSET c) = s.reg (R.MT_PR_NOSET c) := by
      rw [he, State.setPr, State.reg_setFld_other _ _ _ _ _ hns]
      refine hbw _ (fun j hj => ?_) fun j hj => ?_ <;> simp only [R.MT_PR_NOSET, R.MT_SHD_DQ, R.MT_WIN, R.MT_SHD_CMP] <;> omega
    rw [hxt _ (by simp only [R.MT_PR_NOSET]; omega), hx, State.setBit, State.reg_setFld_other _ _ _ _ _ hni, hg, State.reg_setFld_other _ _ _ _ _ hns, hf,
      show F.MT_PR_NOSET_COUNT = (⟨0, 32⟩ : Fld) from rfl, State.reg_count, hen, BitVec.toNat_ofNat]
    exact Nat.mod_eq_of_lt (by omega)

end

/-- Settles O41: by what a write of EN, the period and the end of a sweep leave of the delay sets. -/
theorem retrainingInService : Obligations.RetrainingInService := by
  refine ⟨fun ep c v s hw hoff => ?enable, fun c s hon hst hmc hcommit => ?period, fun c pass s hon hmc hopen => ?sweep⟩
  case enable =>
    have hen : (bitOn v F.MT_PR_CTRL_EN).getLsbD 31 = true := getLsbD_bitOn_self v (f := F.MT_PR_CTRL_EN) rfl (by decide)
    obtain ⟨u, hregs, honly, hon, he⟩ := busWrite_prEnable hw hoff hen
    have hbut : RegsBut [R.MT_PR_CTRL c] s u := fun off ho => hregs off fun h => ho (List.mem_singleton.mpr h)
    refine ⟨fun hp => ⟨_, congrArg Host.Outcome.next (he.trans (if_pos hp)), hon, ?_, hbut, honly⟩,
      fun hp => ⟨_, congrArg Host.Outcome.next (he.trans (if_neg (by simp [hp]))), ?_⟩⟩
    · exact State.fld_of_reg (hbut _ (by simp [R.MT_PR_STAT, R.MT_PR_CTRL])) _
    · obtain ⟨h1, h2, h3, h4⟩ := prReject_leaves c c.2 u
      refine ⟨h1, h2, h3, fun off ho h5 => (h4 off fun h => h.elim ho h5).trans (hregs off fun h => ho (by simp [h])), ?_⟩
      exact (honly.mono (by simp)).prReject c
  case period =>
    obtain ⟨hpairs, hreload⟩ := mtReload_leaves s c
    have hset : ∀ off, off ≠ R.MT_PR_STAT c → ((s.mtReload c).setPr c 1).reg off = (s.mtReload c).reg off := fun off ho => State.reg_setFld_other _ _ _ _ _ ho
    refine ⟨_, congrArg Host.Outcome.next (if_pos (by simp [hon, hst, hmc, hcommit])), ?_, fun k hk => ?_, fun m hm => ?_, ((Only.refl _ s).mtReload c).setPr c 1⟩
    · exact State.fld_setFld _ _ _ _ (by decide)
    · obtain ⟨h1, h2⟩ := hpairs _ (mem_mtPairs.mpr (.inl ⟨k, hk, rfl⟩))
      rw [hset _ (by simp only [R.MT_SHD_DQ, R.MT_PR_STAT]; omega), hset _ (by simp only [R.MT_ACT_DQ, R.MT_PR_STAT]; omega)]
      exact ⟨h1, h2⟩
    · obtain ⟨h1, -⟩ := hpairs _ (mem_mtPairs.mpr (.inr ⟨m, hm, rfl⟩))
      rw [hset _ (by simp only [R.MT_SHD_CMP, R.MT_PR_STAT]; omega)]
      exact h1
  case sweep =>
    intro f w found
    have hc := c.2
    have hfound : found ↔ ∀ k < 72, prFinds (s.fld (R.MT_PR_CTRL c) F.MT_PR_CTRL_MIN_W) (s.prWindow c (s.prFld c) pass k) = true :=
      forall_congr' fun k => imp_congr_right fun _ => prFinds_iff.symm
    have hshd : ∀ (u : State) k, k < 72 → ∀ n, (u.setPr c n).reg (R.MT_SHD_DQ c k) = u.reg (R.MT_SHD_DQ c k) := fun u k hk n =>
      State.reg_setFld_other _ _ _ _ _ (by simp only [R.MT_SHD_DQ, R.MT_PR_STAT]; omega)
    refine ⟨fun hst hf => ?_, fun hst hf => ?_, fun hst hf => ?_⟩
    · obtain ⟨x, hx, hall, -⟩ := exec_retrainSweepDone (pass := pass) hon hmc hopen (.inl hst)
      obtain ⟨u, hu, hexec⟩ := hall (hfound.mp hf)
      obtain ⟨-, hs, hn, ha⟩ := hu ▸ swept (pass := pass) (c := c.val) hx
      rw [if_pos hst] at hexec
      refine ⟨_, hexec, State.fld_setFld _ _ _ _ (by decide), fun k hk l r he => ⟨(State.fld_of_reg (hshd u k hk 2) _).trans (hs k hk l r he), ?_, ?_⟩⟩
      · exact (State.reg_setFld_other _ _ _ _ _ (by simp only [R.MT_WIN, R.MT_PR_STAT]; omega)).trans (hn k hk)
      · exact (State.reg_setFld_other _ _ _ _ _ (by simp only [R.MT_ACT_DQ, R.MT_PR_STAT]; omega)).trans (ha k hk)
    · obtain ⟨x, hx, hall, -⟩ := exec_retrainSweepDone (pass := pass) hon hmc hopen (.inr hst)
      obtain ⟨u, hu, hexec⟩ := hall (hfound.mp hf)
      obtain ⟨ho, hs, hn, ha⟩ := hu ▸ swept (pass := pass) (c := c.val) hx
      rw [if_neg (by omega)] at hexec
      have hstat : R.MT_PR_STAT c ≠ R.MT_INT_STAT c := by simp only [R.MT_PR_STAT, R.MT_INT_STAT]; omega
      have hshdNe : ∀ k < 72, R.MT_SHD_DQ c k ≠ R.MT_INT_STAT c := fun k hk => by simp only [R.MT_SHD_DQ, R.MT_INT_STAT]; omega
      cases hauto : s.flag (R.MT_PR_CTRL c) F.MT_PR_CTRL_AUTO with
      | true =>
        rw [if_pos hauto] at hexec
        obtain ⟨y, hy⟩ : ∃ y, y = (u.setPr c 0).setMc c { u.mcOf c with commit := true } := ⟨_, rfl⟩
        rw [← hy] at hexec
        have hreg : ∀ off, y.reg off = (u.setPr c 0).reg off := fun off => by
          rw [hy]
          rfl
        have hcommit : (y.mcOf c).commit = true := by
          rw [hy]
          exact congrArg Mc.commit (Tbl.get_set_same _ _ _ _)
        obtain ⟨h1, h2, h3⟩ := mtEvent_leaves y c (b := 2) (by decide)
        refine ⟨_, hexec, h1, fun k hk l r he => (State.fld_of_reg ((h2 _ (hshdNe k hk)).trans ((hreg _).trans (hshd u k hk 0))) _).trans (hs k hk l r he),
          fun _ => ⟨?_, ?_⟩, fun h => absurd h (by decide)⟩
        · exact (State.fld_of_reg ((h2 _ hstat).trans (hreg _)) _).trans (State.fld_setFld _ _ _ _ (by decide))
        · rw [State.mcOf, h3]
          exact hcommit
      | false =>
        rw [if_neg (by simp [hauto])] at hexec
        obtain ⟨h1, h2, h3⟩ := mtEvent_leaves (u.setPr c 3) c (b := 2) (by decide)
        refine ⟨_, hexec, h1, fun k hk l r he => (State.fld_of_reg ((h2 _ (hshdNe k hk)).trans (hshd u k hk 3)) _).trans (hs k hk l r he),
          fun h => absurd h (by decide), fun _ => ⟨?_, ?_⟩⟩
        · exact (State.fld_of_reg (h2 _ hstat) _).trans (State.fld_setFld _ _ _ _ (by decide))
        · rw [State.mcOf, h3]
          exact congrArg (fun m => Tbl.get (fun _ => Mc.empty) m c) (ho.same .mc)
    · obtain ⟨x, hx, -, hnot⟩ := exec_retrainSweepDone (pass := pass) hon hmc hopen hst
      have hbad : ∃ k < 72, prFinds (s.fld (R.MT_PR_CTRL c) F.MT_PR_CTRL_MIN_W) (s.prWindow c (s.prFld c) pass k) = false := by
        by_contra h
        push Not at h
        exact hf (hfound.mpr fun k hk => by simpa using h k hk)
      obtain ⟨k, d, hexec⟩ := hnot hbad
      exact ⟨_, hexec, unswept hc _ hx k d rfl⟩

end Sys2Proof.Machine
end

section
/-! ## RLD training runs and commits (O40) -/

namespace Sys2Proof.Machine

-- Elaborated in order: side by side, so many short proofs would each hold a thread with its stack.
set_option Elab.async false

open Sys2Proof

section
variable {s t : State} {c : Nat}

/-! What the operations on a channel leave (R468-R471). -/

theorem State.mcOf_setMc (s : State) (c : Nat) (x : Mc) : (s.setMc c x).mcOf c = x := Tbl.get_set_same _ _ _ _

theorem State.mcOf_setMc_other (s : State) (c : Nat) (x : Mc) {d : Nat} (h : d ≠ c) : (s.setMc c x).mcOf d = s.mcOf d := Tbl.get_set_other _ _ _ _ _ h

theorem State.mcOf_of_mc (h : t.mc = s.mc) (d : Nat) : t.mcOf d = s.mcOf d := by rw [State.mcOf, State.mcOf, h]

theorem State.rldWord_of_rld (h : t.rld = s.rld) (d line w : Nat) : t.rldWord d line w = s.rldWord d line w := by
  unfold State.rldWord State.rldLoss
  rw [h]

/-- Of the channels only `c` may have changed. -/
structure ChannelOnly (c : Nat) (s t : State) : Prop where
  state : ∀ d, d < 8 → d ≠ c → t.reg (R.MC_STAT d) = s.reg (R.MC_STAT d)
  mc : ∀ d, d ≠ c → t.mcOf d = s.mcOf d
  words : ∀ d, d ≠ c → ∀ line w, line < 2 ^ 24 → w < 8 → t.rldWord d line w = s.rldWord d line w

theorem ChannelOnly.trans {u : State} (h : ChannelOnly c s t) (k : ChannelOnly c t u) : ChannelOnly c s u :=
  ⟨fun d hd hc => (k.state d hd hc).trans (h.state d hd hc), fun d hc => (k.mc d hc).trans (h.mc d hc),
    fun d hc line w hl hw => (k.words d hc line w hl hw).trans (h.words d hc line w hl hw)⟩

theorem ChannelOnly.others {c : Fin 8} (h : ChannelOnly c s t) : OtherChannels s c t := fun d hd =>
  have hne : d.val ≠ c.val := fun he => hd (Fin.ext he)
  ⟨State.fld_of_reg (h.state d d.2 hne) _, h.mc d hne, h.words d hne⟩

/-- An operation that touches no state register of another channel, no channel and no stored word. -/
theorem ChannelOnly.of_parts {P : Nat → Prop} (hr : Regs P s t) (hP : ∀ d, d < 8 → d ≠ c → ¬ P (R.MC_STAT d)) (hm : t.mc = s.mc) (hw : t.rld = s.rld) :
    ChannelOnly c s t := ⟨fun d hd hc => hr _ (hP d hd hc), fun d _ => State.mcOf_of_mc hm d, fun d _ line w _ _ => State.rldWord_of_rld hw d line w⟩

theorem ChannelOnly.setMc (s : State) (c : Nat) (x : Mc) : ChannelOnly c s (s.setMc c x) :=
  ⟨fun _ _ _ => rfl, fun _ h => State.mcOf_setMc_other s c x h, fun d _ line w _ _ => State.rldWord_of_rld rfl d line w⟩

/-- The state of a channel as given. -/
theorem setMcState_leaves (s : State) (c : Nat) {n : Nat} (hn : n < 2 ^ F.MC_STAT_STATE.w) : (s.setMcState c n).mcState c = n ∧
    Regs (fun off => off = R.MC_STAT c ∨ off = R.MT_PR_STAT c) s (s.setMcState c n) ∧
    (s.setMcState c n).mcOf c = (if n = 3 then s.mcOf c else { s.mcOf c with arrived := List.range 16 }) ∧ ChannelOnly c s (s.setMcState c n) ∧
    Only [.csr, .mc] s (s.setMcState c n) := by
  have hne : R.MC_STAT c ≠ R.MT_PR_STAT c := by simp only [R.MC_STAT, R.MT_PR_STAT]; omega
  obtain ⟨r, hr⟩ : ∃ r, r = if n = 3 then s else s.setMc c { s.mcOf c with arrived := List.range 16 } := ⟨_, rfl⟩
  obtain ⟨u, hu⟩ : ∃ u, u = r.setFld (R.MC_STAT c) F.MC_STAT_STATE n := ⟨_, rfl⟩
  have hcase : s.setMcState c n = u ∨ ∃ p, s.setMcState c n = u.setFld (R.MT_PR_STAT c) F.MT_PR_STAT_STATE p := by
    unfold State.setMcState
    rw [← hr]
    dsimp only
    rw [← hu]
    split
    · exact .inr ⟨_, rfl⟩
    · split
      · exact .inr ⟨_, rfl⟩
      · exact .inl rfl
  have hst : u.mcState c = n := by
    rw [hu, State.mcState, State.fld_setFld _ _ _ _ (by decide)]
    exact Nat.mod_eq_of_lt hn
  have hmc : (s.setMcState c n).mc = r.mc := by
    rcases hcase with h | ⟨p, h⟩
    · rw [h, hu]
      exact ((Only.refl [.csr] r).setFld _ _ _).same .mc
    · rw [h, hu]
      exact (((Only.refl [.csr] r).setFld _ _ _).setFld _ _ _).same .mc
  have hregs : Regs (fun off => off = R.MC_STAT c ∨ off = R.MT_PR_STAT c) s (s.setMcState c n) := (Regs.refl _ s).setMcState _ _ (Or.inl rfl) (Or.inr rfl)
  have honly : Only [.csr, .mc] s (s.setMcState c n) := (Only.refl _ s).setMcState _ _
  have hrc : r.mcOf c = if n = 3 then s.mcOf c else { s.mcOf c with arrived := List.range 16 } := by
    rw [hr]
    split
    · rfl
    · exact State.mcOf_setMc _ _ _
  have hrd : ∀ d, d ≠ c → r.mcOf d = s.mcOf d := fun d hd => by
    rw [hr]
    split
    · rfl
    · exact State.mcOf_setMc_other _ _ _ hd
  refine ⟨?_, hregs, (State.mcOf_of_mc hmc c).trans hrc, ⟨fun d hd hcd => hregs _ fun h => ?_, fun d hd => (State.mcOf_of_mc hmc d).trans (hrd d hd),
    fun d _ line w _ _ => State.rldWord_of_rld (honly.same .rld) d line w⟩, honly⟩
  · rcases hcase with h | ⟨p, h⟩
    · rw [h, hst]
    · rw [h, State.mcState, State.fld_setFld_off _ _ _ _ _ _ hne]
      exact hst
  · simp only [R.MC_STAT, R.MT_PR_STAT] at h
    omega

/-- Answers to a list of requests change the drop counters and the network. -/
theorem turnAways_leave (e : McReq → Nat) (status : Nat) (l : List McReq) (s : State) :
    Regs (fun off => off % 0x1000 = 0x18) s (s.forEach l fun t r => t.turnAway (e r) r.pkt status) ∧
    Only [.csr, .noc] s (s.forEach l fun t r => t.turnAway (e r) r.pkt status) :=
  ⟨(Regs.refl _ s).forEach l fun _ _ h => h.turnAway _ _ _ (by simp only [R.NI_DROP_CNT]; omega), (Only.refl _ s).forEach l fun _ _ h => h.turnAway _ _ _⟩

/-- A channel's requests, queues and conditions forgotten (R496). -/
theorem mcAbandon_leaves (s : State) (c : Nat) : ((s.mcAbandon c).mcOf c).reqs = [] ∧ ((s.mcAbandon c).mcOf c).q = [] ∧
    Regs (fun off => off % 0x1000 = 0x18) s (s.mcAbandon c) ∧ ChannelOnly c s (s.mcAbandon c) ∧ Only [.csr, .mc, .noc] s (s.mcAbandon c) := by
  obtain ⟨u, hu⟩ : ∃ u, u = s.setMc c { s.mcOf c with reqs := [] } := ⟨_, rfl⟩
  obtain ⟨v, hv⟩ : ∃ v, v = u.forEach (s.mcOf c).reqs fun t r => t.turnAway (0x40 + 4 * c + r.port) r.pkt 7 := ⟨_, rfl⟩
  have he : s.mcAbandon c = v.setMc c { Mc.empty with slot := (s.mcOf c).slot, fresh := (s.mcOf c).fresh } := by
    rw [hv, hu]
    rfl
  obtain ⟨h1, h2⟩ := hv ▸ turnAways_leave (fun r => 0x40 + 4 * c + r.port) 7 (s.mcOf c).reqs u
  have hsu : ChannelOnly c s u := hu ▸ ChannelOnly.setMc s c _
  have huv : ChannelOnly c u v := .of_parts h1 (fun d hd hne h => by simp only [R.MC_STAT] at h; omega) (h2.same .mc) (h2.same .rld)
  have honly : Only [.mc] s u := hu ▸ (Only.refl _ s).setMc _ _
  have hregu : ∀ off, u.reg off = s.reg off := State.reg_of_csr (honly.same .csr)
  rw [he]
  refine ⟨?_, ?_, fun off ho => (State.reg_of_csr rfl off).trans ((h1 off ho).trans (hregu off)), (hsu.trans huv).trans (.setMc v c _), ?_⟩
  · rw [State.mcOf_setMc]
    rfl
  · rw [State.mcOf_setMc]
    rfl
  · exact ((honly.mono (by simp)).trans (h2.mono (by simp))).setMc _ _

/-- A channel's written words forgotten (R471). -/
theorem rldDrop_leaves (s : State) (c : Nat) (zero : Bool) : (zero = false → (s.rldDrop c zero).rldLoss c = s.rldLoss c + 1) ∧ ChannelOnly c s (s.rldDrop c zero) ∧
    Only [.rld] s (s.rldDrop c zero) := by
  obtain ⟨words, hwords⟩ : ∃ words, words = s.rld.words.filter fun p => p.1 / 2 ^ 27 != c := ⟨_, rfl⟩
  have he : (s.rldDrop c zero).rld = ⟨words, if zero then s.rld.loss else Tbl.set (fun _ => 0) s.rld.loss c (s.rldLoss c + 1), NSet.put s.rld.zero c zero⟩ := by
    rw [hwords]
    rfl
  refine ⟨fun hz => ?_, ⟨fun _ _ _ => rfl, fun _ _ => rfl, fun d hd line w hl hw => ?_⟩, (Only.refl _ s).rldDrop _ _⟩
  · rw [State.rldLoss, he, hz]
    show Tbl.get (fun _ => 0) (Tbl.set (fun _ => 0) s.rld.loss c (s.rldLoss c + 1)) c = _
    exact Tbl.get_set_same _ _ _ _
  · have hloss : (s.rldDrop c zero).rldLoss d = s.rldLoss d := by
      rw [State.rldLoss, he]
      cases zero with
      | true => rfl
      | false =>
        show Tbl.get (fun _ => 0) (Tbl.set (fun _ => 0) s.rld.loss c (s.rldLoss c + 1)) d = _
        exact Tbl.get_set_other _ _ _ _ _ hd
    have hzero : (s.rldDrop c zero).rld.zero.has d = s.rld.zero.has d := by
      rw [he]
      cases zero with
      | true => simp [NSet.put, NSet.has_add, hd]
      | false => simp [NSet.put, NSet.has_del, hd]
    have hkey : rldKey d line w / 2 ^ 27 = d := by
      unfold rldKey
      omega
    have hword : Tbl.get (fun _ => none) (s.rldDrop c zero).rld.words (rldKey d line w) = Tbl.get (fun _ => none) s.rld.words (rldKey d line w) := by
      rw [he, hwords]
      exact Tbl.get_filter_of _ _ _ _ fun x => by
        show (rldKey d line w / 2 ^ 27 != c) = true
        rw [hkey]
        exact bne_iff_ne.mpr hd
    unfold State.rldWord
    rw [hword, hzero, hloss]

/-- Exchanging the delay sets (R505). -/
theorem mtExchange_leaves (s : State) (c : Nat) : SetsExchanged s c (s.mtExchange c) ∧ (s.mtExchange c).bit (R.MT_INT_STAT c) 5 = true ∧
    Regs (fun off => off = R.MT_INT_STAT c ∨ ∃ p ∈ mtPairs c, off = p.1 ∨ off = p.2) s (s.mtExchange c) ∧ Only [.csr, .ic] s (s.mtExchange c) := by
  obtain ⟨u, hu⟩ : ∃ u, u = s.forEach (mtPairs c) fun t p => t.swapRegs p.1 p.2 := ⟨_, rfl⟩
  have he : s.mtExchange c = u.mtEvent c 5 := by
    rw [hu]
    rfl
  obtain ⟨hbit, hreg, -⟩ := mtEvent_leaves u c (b := 5) (by decide)
  have hstep : ∀ (u : State) (p : Nat × Nat), Regs (fun off => off = p.1 ∨ off = p.2) u (u.swapRegs p.1 p.2) := fun u p =>
    (Regs.refl _ u).swapRegs _ _ (Or.inl rfl) (Or.inr rfl)
  have hall : Regs (fun off => ∃ p ∈ mtPairs c, off = p.1 ∨ off = p.2) s u := by
    rw [hu]
    unfold State.forEach
    exact Regs.foldl_mem (Regs.refl _ s) _ fun u p hp h => h.trans ((hstep u p).mono fun off ho => ⟨p, hp, ho⟩)
  have hswap : ∀ p ∈ mtPairs c, u.reg p.1 = s.reg p.2 ∧ u.reg p.2 = s.reg p.1 := fun p hp => by
    obtain ⟨w, h1, h2⟩ := State.forEach_own (own := fun (p : Nat × Nat) off => off = p.1 ∨ off = p.2) hstep
      ((mtPairs_apart c).imp fun ⟨k1, k2, k3, k4⟩ off h1 h2 => by
        rcases h1 with h1 | h1 <;> rcases h2 with h2 | h2
        · exact k1 (h1.symm.trans h2)
        · exact k2 (h1.symm.trans h2)
        · exact k3 (h1.symm.trans h2)
        · exact k4 (h1.symm.trans h2)) hp s
    have hw1 : w.reg p.1 = s.reg p.1 := h1 _ fun h => h.2 (.inl rfl)
    have hw2 : w.reg p.2 = s.reg p.2 := h1 _ fun h => h.2 (.inr rfl)
    rw [hu, h2 _ (.inl rfl), h2 _ (.inr rfl), State.swapRegs, State.reg_setReg_same, State.reg_setReg_other _ _ _ _ (mtPairs_ne hp hp), State.reg_setReg_same]
    exact ⟨hw2, hw1⟩
  rw [he]
  refine ⟨⟨fun k hk => ?_, fun m hm => ?_⟩, hbit, fun off ho => (hreg off fun h => ho (.inl h)).trans (hall off fun h => ho (.inr h)), ?_⟩
  · obtain ⟨h1, h2⟩ := hswap _ (mem_mtPairs.mpr (.inl ⟨k, hk, rfl⟩))
    rw [hreg _ (by simp only [R.MT_ACT_DQ, R.MT_INT_STAT]; omega), hreg _ (by simp only [R.MT_SHD_DQ, R.MT_INT_STAT]; omega)]
    exact ⟨h1, h2⟩
  · obtain ⟨h1, h2⟩ := hswap _ (mem_mtPairs.mpr (.inr ⟨m, hm, rfl⟩))
    rw [hreg _ (by simp only [R.MT_ACT_CMP, R.MT_INT_STAT]; omega), hreg _ (by simp only [R.MT_SHD_CMP, R.MT_INT_STAT]; omega)]
    exact ⟨h1, h2⟩
  · have hsu : Only [.csr] s u := hu ▸ (Only.refl _ s).forEach _ fun _ _ h => h.swapRegs _ _
    exact (hsu.mono (by simp)).mtEvent _ _

/-- Where the pairs of the delay sets lie. -/
theorem mtPairs_range {c : Nat} {p : Nat × Nat} (hp : p ∈ mtPairs c) :
    0x2008300 + 0x10000 * c ≤ p.1 ∧ p.1 < 0x2008720 + 0x10000 * c ∧ 0x2008300 + 0x10000 * c ≤ p.2 ∧ p.2 < 0x2008720 + 0x10000 * c := by
  rcases mem_mtPairs.mp hp with ⟨k, hk, rfl⟩ | ⟨k, hk, rfl⟩ <;> simp only [R.MT_ACT_DQ, R.MT_SHD_DQ, R.MT_ACT_CMP, R.MT_SHD_CMP] <;> omega

/-- A channel leaves TRAINING (R471, R511). -/
theorem mtLeave_leaves (s : State) (c : Nat) : (s.mtLeave c).flag (R.MT_RUN c) F.MT_RUN_BUSY = false ∧
    Regs (fun off => off = R.MT_RUN c ∨ off = R.MT_STAT c) s (s.mtLeave c) ∧ (∀ d, d ≠ c → ∀ line w, line < 2 ^ 24 → w < 8 → (s.mtLeave c).rldWord d line w = s.rldWord d line w) ∧
    Only [.csr, .rld] s (s.mtLeave c) := by
  have hne : R.MT_RUN c ≠ R.MT_STAT c := by simp only [R.MT_RUN, R.MT_STAT]; omega
  obtain ⟨u, hu⟩ : ∃ u, u = if s.flag (R.MT_RUN c) F.MT_RUN_BUSY then
      (s.setFlag (R.MT_RUN c) F.MT_RUN_BUSY false).setFlag (R.MT_STAT c) F.MT_STAT_ABORT true else s := ⟨_, rfl⟩
  have he : s.mtLeave c = u.rldDrop c false := by
    rw [hu]
    rfl
  have hregu : Regs (fun off => off = R.MT_RUN c ∨ off = R.MT_STAT c) s u := by
    rw [hu]
    exact Regs.ite (((Regs.refl _ s).setFlag _ _ (Or.inl rfl)).setFlag _ _ (Or.inr rfl)) (Regs.refl _ s)
  have honlyu : Only [.csr] s u := by
    rw [hu]
    exact Only.ite (((Only.refl _ s).setFlag _ _ _).setFlag _ _ _) (Only.refl _ s)
  obtain ⟨-, hothers, honly⟩ := rldDrop_leaves u c false
  rw [he]
  refine ⟨?_, fun off ho => (State.reg_of_csr (honly.same .csr) off).trans (hregu off ho),
    fun d hd line w hl hw => (hothers.words d hd line w hl hw).trans (State.rldWord_of_rld (honlyu.same .rld) d line w), (honlyu.mono (by simp)).trans (honly.mono (by simp))⟩
  rw [State.flag_of_reg (State.reg_of_csr (honly.same .csr) _), hu]
  split
  · rw [State.flag_setFlag_off _ _ _ _ _ _ hne, State.flag_setFlag _ _ _ _ (by decide)]
  · next h => exact Bool.eq_false_iff.mpr h

/-- Training fails (R513). -/
theorem mtFail_leaves (s : State) {c : Nat} (hc : c < 8) (code detail : Nat) : (s.mtFail c code detail).mcState c = 9 ∧
    (s.mtFail c code detail).bit (R.MT_INT_STAT c) 1 = true ∧ (s.mtFail c code detail).flag (R.MT_RUN c) F.MT_RUN_BUSY = false ∧
    (∀ k < 72, (s.mtFail c code detail).reg (R.MT_ACT_DQ c k) = s.reg (R.MT_ACT_DQ c k)) ∧ ChannelOnly c s (s.mtFail c code detail) := by
  obtain ⟨a, ha⟩ : ∃ a, a = s.mtLeave c := ⟨_, rfl⟩
  obtain ⟨b, hb⟩ : ∃ b, b = a.setMcState c 9 := ⟨_, rfl⟩
  obtain ⟨e, he⟩ : ∃ e, e = b.mcAbandon c := ⟨_, rfl⟩
  obtain ⟨f, hf⟩ : ∃ f, f = e.mtRecord c code 2 detail := ⟨_, rfl⟩
  obtain ⟨g, hg⟩ : ∃ g, g = f.mtEvent c 1 := ⟨_, rfl⟩
  obtain ⟨t, ht⟩ : ∃ t, t = g.mcEvent c 4 := ⟨_, rfl⟩
  have hfin : s.mtFail c code detail = t := by
    rw [ht, hg, hf, he, hb, ha]
    rfl
  obtain ⟨hbusy, har, haw, hao⟩ := mtLeave_leaves s c
  rw [← ha] at hbusy har haw hao
  obtain ⟨hst, hbr, -, hbc, hbo⟩ := setMcState_leaves a c (n := 9) (by decide)
  rw [← hb] at hst hbr hbc hbo
  obtain ⟨-, -, her, hec, heo⟩ := mcAbandon_leaves b c
  rw [← he] at her hec heo
  have hfr : Regs (fun off => off / 0x10000 = 5) e f := hf ▸ (Regs.refl _ e).mtRecord _ _ _ _ (by omega) (by split <;> decide) fun off h => h
  have hfo : Only [.csr, .ic, .err] e f := hf ▸ (Only.refl _ e).mtRecord _ _ _ _
  obtain ⟨hbit, hgr, hgm⟩ := mtEvent_leaves f c (b := 1) (by decide)
  rw [← hg] at hbit hgr hgm
  have htr : Regs (· = R.MC_INT_STAT c) g t := ht ▸ (Regs.refl _ g).mcEvent _ _ rfl
  have hgo : Only [.csr, .ic] f g := hg ▸ (Only.refl _ f).mtEvent _ _
  have hto : Only [.csr, .ic] g t := ht ▸ (Only.refl _ g).mcEvent _ _
  have hte : ∀ off, off ≠ R.MC_INT_STAT c → off ≠ R.MT_INT_STAT c → off / 0x10000 ≠ 5 → t.reg off = e.reg off := fun off h1 h2 h3 =>
    (htr off h1).trans ((hgr off h2).trans (hfr off h3))
  rw [hfin]
  refine ⟨?_, ?_, ?_, fun k hk => ?_, ?_⟩
  · refine (State.fld_of_reg ((hte _ ?_ ?_ ?_).trans (her _ ?_)) _).trans hst <;> simp only [R.MC_STAT, R.MC_INT_STAT, R.MT_INT_STAT] <;> omega
  · exact (State.bit_of_reg (htr _ (by simp only [R.MC_INT_STAT, R.MT_INT_STAT]; omega)) _).trans hbit
  · refine (State.flag_of_reg ((hte _ ?_ ?_ ?_).trans ((her _ ?_).trans (hbr _ ?_))) _).trans hbusy <;>
      simp only [R.MT_RUN, R.MC_STAT, R.MT_PR_STAT, R.MC_INT_STAT, R.MT_INT_STAT] <;> omega
  · refine (hte _ ?_ ?_ ?_).trans ((her _ ?_).trans ((hbr _ ?_).trans (har _ ?_))) <;>
      simp only [R.MT_ACT_DQ, R.MT_RUN, R.MT_STAT, R.MC_STAT, R.MT_PR_STAT, R.MC_INT_STAT, R.MT_INT_STAT] <;> omega
  · have hsa : ChannelOnly c s a := ⟨fun d hd hne => har _ (by simp only [R.MC_STAT, R.MT_RUN, R.MT_STAT]; omega), fun d _ => State.mcOf_of_mc (hao.same .mc) d, haw⟩
    refine ((hsa.trans hbc).trans hec).trans (.of_parts (P := fun off => off = R.MC_INT_STAT c ∨ off = R.MT_INT_STAT c ∨ off / 0x10000 = 5)
      (fun off ho => hte off (fun h => ho (.inl h)) (fun h => ho (.inr (.inl h))) fun h => ho (.inr (.inr h))) (fun d hd hne h => ?_) ?_ ?_)
    · simp only [R.MC_STAT, R.MC_INT_STAT, R.MT_INT_STAT] at h
      omega
    · exact (hto.same .mc).trans ((hgo.same .mc).trans (hfo.same .mc))
    · exact (hto.same .rld).trans ((hgo.same .rld).trans (hfo.same .rld))

/-! Register writes (R508, R511, R512, R513). -/

theorem rowAt_mtCtrl : ∀ c : Fin 8, rowAt (R.MT_CTRL c) = some (⟨0x8000, [], 0x1F4, 0xFFFF, 0, 0, 0, 0, 0, 0xF0FF0000⟩, []) := by decide

theorem rowAt_mtRun : ∀ c : Fin 8, rowAt (R.MT_RUN c) = some (⟨0x8008, [], 0x40, 0xF80FFFF, 0, 0, 0, 0, 0, 0x80000000⟩, []) := by decide

/-- A write of MT_CTRL acts on a state that differs in that register alone. -/
theorem busWrite_mtCtrl {ep : Nat} {c : Fin 8} {w : Word} (hw : s.mayWrite ep (R.MT_CTRL c)) :
    ∃ u, Regs (· = R.MT_CTRL c) s u ∧ Only [.csr] s u ∧ s.busWrite ep (R.MT_CTRL c) w = u.mtCtrl c w := by
  refine ⟨s.setReg (R.MT_CTRL c) ((s.reg (R.MT_CTRL c) &&& ~~~ 0xFFFF) ||| (w &&& 0xFFFF)), (Regs.refl _ s).setReg _ rfl, (Only.refl _ s).setReg _ _, ?_⟩
  rw [busWrite_mc c.2 (loc := 0x8000) (by decide) (by simp only [R.MT_CTRL]; omega) hw, State.mcWrite, if_neg (by decide), State.store_live (rowAt_mtCtrl c)]
  exact if_pos rfl

/-- A write of START to MT_RUN acts on a state that differs in that register alone. -/
theorem busWrite_mtRunStart {ep : Nat} {c : Fin 8} {w : Word} (hw : s.mayWrite ep (R.MT_RUN c)) (hs : w.getLsbD 31 = true) :
    ∃ u, Regs (· = R.MT_RUN c) s u ∧ Only [.csr] s u ∧ u.flag (R.MT_RUN c) F.MT_RUN_BUSY = s.flag (R.MT_RUN c) F.MT_RUN_BUSY ∧
      u.fld (R.MT_RUN c) F.MT_RUN_OP = w.fget F.MT_RUN_OP ∧ s.busWrite ep (R.MT_RUN c) w = u.mtRun c := by
  obtain ⟨r, hr⟩ : ∃ r : RegRow, r = ⟨0x8008, [], 0x40, 0xF80FFFF, 0, 0, 0, 0, 0, 0x80000000⟩ := ⟨_, rfl⟩
  have hrow : rowAt (R.MT_RUN c) = some (r, []) := hr ▸ rowAt_mtRun c
  have hstore : ∀ l, s.store (s.mtOpen c) (R.MT_RUN c) w l = s.setReg (R.MT_RUN c) (r.after (s.mtOpen c) (s.reg (R.MT_RUN c)) w) := fun l => by
    rw [State.store_of_unstaged hrow (by rw [hr])]
    exact State.when_false (by simp [RegRow.lockedHit, hr]) _ _
  refine ⟨s.setReg (R.MT_RUN c) (r.after (s.mtOpen c) (s.reg (R.MT_RUN c)) w), (Regs.refl _ s).setReg _ rfl, (Only.refl _ s).setReg _ _, ?_, ?_, ?_⟩
  · rw [State.flag, State.fld, State.reg_setReg_same, hr, RegRow.fget_after_kept (by decide) (by decide)]
    rfl
  · rw [State.fld, State.reg_setReg_same, hr, RegRow.fget_after_live (by decide) (by decide)]
  · rw [busWrite_mc c.2 (loc := 0x8008) (by decide) (by simp only [R.MT_RUN]; omega) hw, State.mcWrite, if_neg (by decide), hstore, State.mtAct,
      if_neg (by decide), if_pos rfl, hs, State.when_true rfl]

/-- Starting a run in TRAINING (R508, R511). -/
theorem mtRun_leaves {u : State} {c : Nat} (hst : u.mcState c = 1) (hb : u.flag (R.MT_RUN c) F.MT_RUN_BUSY = false) :
    (u.mtRun c).flag (R.MT_RUN c) F.MT_RUN_BUSY = true ∧ (u.mtRun c).flag (R.MT_STAT c) F.MT_STAT_ABORT = false ∧
    (u.mtRun c).fld (R.MT_RUN c) F.MT_RUN_OP = u.fld (R.MT_RUN c) F.MT_RUN_OP ∧ (u.mtRun c).reg (R.MT_FAIL0 c) = 0 ∧
    (u.mtRun c).reg (R.MT_FAIL1 c) = 0 ∧ (u.mtRun c).reg (R.MT_FAIL2 c) = 0 := by
  have hrs : R.MT_RUN c ≠ R.MT_STAT c := by simp only [R.MT_RUN, R.MT_STAT]; omega
  obtain ⟨v, hv⟩ : ∃ v, v = (u.setFlag (R.MT_RUN c) F.MT_RUN_BUSY true).setFlag (R.MT_STAT c) F.MT_STAT_ABORT false := ⟨_, rfl⟩
  have he : u.mtRun c = ((v.setReg (R.MT_FAIL0 c) 0).setReg (R.MT_FAIL1 c) 0).setReg (R.MT_FAIL2 c) 0 := by
    rw [hv]
    exact if_pos (by simp [hst, hb])
  have hout : ∀ off, off ≠ R.MT_FAIL0 c → off ≠ R.MT_FAIL1 c → off ≠ R.MT_FAIL2 c → (u.mtRun c).reg off = v.reg off := fun off h0 h1 h2 => by
    rw [he, State.reg_setReg_other _ _ _ _ h2, State.reg_setReg_other _ _ _ _ h1, State.reg_setReg_other _ _ _ _ h0]
  have hrun : (u.mtRun c).reg (R.MT_RUN c) = v.reg (R.MT_RUN c) := by
    refine hout _ ?_ ?_ ?_ <;> simp only [R.MT_RUN, R.MT_FAIL0, R.MT_FAIL1, R.MT_FAIL2] <;> omega
  have hstat : (u.mtRun c).reg (R.MT_STAT c) = v.reg (R.MT_STAT c) := by
    refine hout _ ?_ ?_ ?_ <;> simp only [R.MT_STAT, R.MT_FAIL0, R.MT_FAIL1, R.MT_FAIL2] <;> omega
  have h01 : R.MT_FAIL0 c ≠ R.MT_FAIL1 c := by simp only [R.MT_FAIL0, R.MT_FAIL1]; omega
  have h02 : R.MT_FAIL0 c ≠ R.MT_FAIL2 c := by simp only [R.MT_FAIL0, R.MT_FAIL2]; omega
  have h12 : R.MT_FAIL1 c ≠ R.MT_FAIL2 c := by simp only [R.MT_FAIL1, R.MT_FAIL2]; omega
  refine ⟨?_, ?_, ?_, ?_, ?_, ?_⟩
  · rw [State.flag_of_reg hrun, hv, State.flag_setFlag_off _ _ _ _ _ _ hrs, State.flag_setFlag _ _ _ _ (by decide)]
  · rw [State.flag_of_reg hstat, hv, State.flag_setFlag _ _ _ _ (by decide)]
  · rw [State.fld_of_reg hrun, hv, State.fld_setFlag_off _ _ _ _ _ _ hrs, State.fld_setFlag_fld _ _ _ _ _ (by decide)]
  · rw [he, State.reg_setReg_other _ _ _ _ h02, State.reg_setReg_other _ _ _ _ h01, State.reg_setReg_same]
  · rw [he, State.reg_setReg_other _ _ _ _ h12, State.reg_setReg_same]
  · rw [he, State.reg_setReg_same]

/-! The end of a run (R508-R511). -/

/-- The operation of a run: a sweep of the delays of reads or of the address reads whatever OP says. -/
def State.runOp (s : State) (c : Nat) : Nat :=
  if s.flag (R.MT_RUN c) F.MT_RUN_SWEEP && (s.fld (R.MT_SWEEP c) F.MT_SWEEP_TARGET == 1 || s.fld (R.MT_SWEEP c) F.MT_SWEEP_TARGET == 2) then 0
  else s.fld (R.MT_RUN c) F.MT_RUN_OP

/-- The delays of a run's sweep. -/
def State.runValues (s : State) (c : Nat) : List Nat :=
  sweepValues (s.fld (R.MT_SWEEP c) F.MT_SWEEP_LO) (s.fld (R.MT_SWEEP c) F.MT_SWEEP_HI) (s.fld (R.MT_SWEEP c) F.MT_SWEEP_STEP)

/-- The results of a run in the registers. -/
def State.runNoted (t s : State) (c : Nat) (fails : BitVec 72) (errs : Nat) (pass : List (BitVec 128)) : State :=
  if s.flag (R.MT_RUN c) F.MT_RUN_SWEEP then
    if s.fld (R.MT_SWEEP c) F.MT_SWEEP_TARGET = 2 then
      t.forEach (List.range 2) fun t m => t.setReg (R.MT_WIN c (72 + m)) (winWord (window (compPass pass m) (s.runValues c)))
    else t.forEach (List.range 72) fun t k => t.setReg (R.MT_WIN c k) (winWord (window (pass.getD k 0) (s.runValues c)))
  else if s.runOp c = 2 then t
  else (((t.setReg (R.MT_FAIL0 c) (fails.setWidth 32)).setReg (R.MT_FAIL1 c) ((fails >>> 32).setWidth 32)).setReg
    (R.MT_FAIL2 c) ((fails >>> 64).setWidth 32 &&& 0xFF)).count (R.MT_ERRCNT c) F.MT_ERRCNT_VALUE errs

theorem exec_mtRunDone {c : Fin 8} {fails : BitVec 72} {errs : Nat} {given : List (BitVec 128)} (hst : s.mcState c = 1)
    (hb : s.flag (R.MT_RUN c) F.MT_RUN_BUSY = true) : ∃ t, Only [.csr, .rld, .draws] s t ∧ Regs (· = R.MT_RUN c) s t ∧ t.flag (R.MT_RUN c) F.MT_RUN_BUSY = false ∧
      exec (.mtRunDone c fails errs given) s = .next ((t.runNoted s c fails errs
        (if s.runOp c = 2 then List.replicate 72 (BitVec.allOnes 128) else given)).mtEvent c 0) := by
  obtain ⟨w, hw⟩ : ∃ w, w = s.setFlag (R.MT_RUN c) F.MT_RUN_BUSY false := ⟨_, rfl⟩
  have hexec : exec (.mtRunDone c fails errs given) s = execMtRunDone c fails errs given s := rfl
  rw [hexec]
  unfold execMtRunDone
  dsimp only
  rw [if_neg (by simp [hst, hb]), ← hw]
  refine ⟨_, ?_, ?_, ?_, congrArg Host.Outcome.next (congrArg (fun x : State => x.mtEvent c 0) rfl)⟩
  · exact ((hw ▸ (Only.refl [.csr, .rld, .draws] s).setFlag _ _ _)).when _ fun _ h => h.helperStore _ _ _ _ _
  · exact ((hw ▸ (Regs.refl (· = R.MT_RUN c) s).setFlag _ _ rfl)).when _ fun _ h => h.helperStore _ _ _ _ _
  · refine (State.flag_of_reg (((Regs.refl (fun _ => False) w).when _ fun _ h => h.helperStore _ _ _ _ _) _ id) _).trans ?_
    rw [hw, State.flag_setFlag _ _ _ _ (by decide)]

/-- A 32-bit counter counts up to its last value. -/
theorem State.toNat_count (s : State) (off n : Nat) : ((s.count off ⟨0, 32⟩ n).reg off).toNat = min ((s.reg off).toNat + n) (2 ^ 32 - 1) := by
  have hget : ∀ v : Word, v.fget ⟨0, 32⟩ = v.toNat := fun v => by
    show (v.toNat >>> 0) % 2 ^ 32 = _
    rw [Nat.shiftRight_zero]
    exact Nat.mod_eq_of_lt v.isLt
  rw [← hget, State.count, ← State.fld, State.fld_setFld _ _ _ _ (by decide), State.fld, hget]
  exact Nat.mod_eq_of_lt (by simp only [satAdd]; omega)

theorem runNoted_step {t : State} {c : Nat} {fails : BitVec 72} {errs : Nat} {pass : List (BitVec 128)}
    (hsweep : s.flag (R.MT_RUN c) F.MT_RUN_SWEEP = false) (hop : s.fld (R.MT_RUN c) F.MT_RUN_OP ≠ 2) :
    (t.runNoted s c fails errs pass).reg (R.MT_FAIL0 c) = fails.setWidth 32 ∧ (t.runNoted s c fails errs pass).reg (R.MT_FAIL1 c) = (fails >>> 32).setWidth 32 ∧
    (t.runNoted s c fails errs pass).reg (R.MT_FAIL2 c) = ((fails >>> 64).setWidth 32 &&& 0xFF) ∧
    ((t.runNoted s c fails errs pass).reg (R.MT_ERRCNT c)).toNat = min ((t.reg (R.MT_ERRCNT c)).toNat + errs) (2 ^ 32 - 1) := by
  have hro : s.runOp c = s.fld (R.MT_RUN c) F.MT_RUN_OP := if_neg (by simp [hsweep])
  obtain ⟨x, hx⟩ : ∃ x, x = ((t.setReg (R.MT_FAIL0 c) (fails.setWidth 32)).setReg (R.MT_FAIL1 c) ((fails >>> 32).setWidth 32)).setReg
    (R.MT_FAIL2 c) ((fails >>> 64).setWidth 32 &&& 0xFF) := ⟨_, rfl⟩
  have he : t.runNoted s c fails errs pass = x.count (R.MT_ERRCNT c) F.MT_ERRCNT_VALUE errs := by
    rw [State.runNoted, if_neg (by simp [hsweep]), if_neg (by rw [hro]; exact hop), hx]
  have h01 : R.MT_FAIL0 c ≠ R.MT_FAIL1 c := by simp only [R.MT_FAIL0, R.MT_FAIL1]; omega
  have h02 : R.MT_FAIL0 c ≠ R.MT_FAIL2 c := by simp only [R.MT_FAIL0, R.MT_FAIL2]; omega
  have h12 : R.MT_FAIL1 c ≠ R.MT_FAIL2 c := by simp only [R.MT_FAIL1, R.MT_FAIL2]; omega
  have h0e : R.MT_FAIL0 c ≠ R.MT_ERRCNT c := by simp only [R.MT_FAIL0, R.MT_ERRCNT]; omega
  have h1e : R.MT_FAIL1 c ≠ R.MT_ERRCNT c := by simp only [R.MT_FAIL1, R.MT_ERRCNT]; omega
  have h2e : R.MT_FAIL2 c ≠ R.MT_ERRCNT c := by simp only [R.MT_FAIL2, R.MT_ERRCNT]; omega
  rw [he, State.count]
  refine ⟨?_, ?_, ?_, ?_⟩
  · rw [State.reg_setFld_other _ _ _ _ _ h0e, hx, State.reg_setReg_other _ _ _ _ h02, State.reg_setReg_other _ _ _ _ h01, State.reg_setReg_same]
  · rw [State.reg_setFld_other _ _ _ _ _ h1e, hx, State.reg_setReg_other _ _ _ _ h12, State.reg_setReg_same]
  · rw [State.reg_setFld_other _ _ _ _ _ h2e, hx, State.reg_setReg_same]
  · have hxe : x.reg (R.MT_ERRCNT c) = t.reg (R.MT_ERRCNT c) := by
      rw [hx, State.reg_setReg_other _ _ _ _ h2e.symm, State.reg_setReg_other _ _ _ _ h1e.symm, State.reg_setReg_other _ _ _ _ h0e.symm]
    rw [← State.count, show F.MT_ERRCNT_VALUE = (⟨0, 32⟩ : Fld) from rfl, State.toNat_count, hxe]

/-- What a run's results leave of the windows, and of MT_RUN. -/
theorem runNoted_sweep {t : State} {c : Nat} {fails : BitVec 72} {errs : Nat} {pass : List (BitVec 128)}
    (hsweep : s.flag (R.MT_RUN c) F.MT_RUN_SWEEP = true) :
    (s.fld (R.MT_SWEEP c) F.MT_SWEEP_TARGET ≠ 2 → ∀ k < 72,
      (t.runNoted s c fails errs pass).reg (R.MT_WIN c k) = winWord (window (pass.getD k 0) (s.runValues c))) ∧
    (s.fld (R.MT_SWEEP c) F.MT_SWEEP_TARGET = 2 → ∀ m < 2,
      (t.runNoted s c fails errs pass).reg (R.MT_WIN c (72 + m)) = winWord (window (compPass pass m) (s.runValues c))) := by
  refine ⟨fun ht k hk => ?_, fun ht m hm => ?_⟩
  · rw [State.runNoted, if_pos hsweep, if_neg ht]
    obtain ⟨u, -, h⟩ := State.forEach_reg (F := fun t k => t.setReg (R.MT_WIN c k) (winWord (window (pass.getD k 0) (s.runValues c)))) (r := fun k => R.MT_WIN c k)
      (fun u k => (Regs.refl _ u).setReg _ rfl) (fun j k h => by simp only [R.MT_WIN] at h; omega) hk t
    exact h.trans (State.reg_setReg_same _ _ _)
  · rw [State.runNoted, if_pos hsweep, if_pos ht]
    obtain ⟨u, -, h⟩ := State.forEach_reg (F := fun t m => t.setReg (R.MT_WIN c (72 + m)) (winWord (window (compPass pass m) (s.runValues c)))) (r := fun m => R.MT_WIN c (72 + m))
      (fun u m => (Regs.refl _ u).setReg _ rfl) (fun j k h => by simp only [R.MT_WIN] at h; omega) hm t
    exact h.trans (State.reg_setReg_same _ _ _)

theorem runNoted_leaves (t s : State) (c : Nat) (fails : BitVec 72) (errs : Nat) (pass : List (BitVec 128)) :
    Regs (fun off => 0x2008014 + 0x10000 * c ≤ off) t (t.runNoted s c fails errs pass) ∧ Only [.csr] t (t.runNoted s c fails errs pass) := by
  unfold State.runNoted
  constructor
  · refine Regs.ite (Regs.ite ((Regs.refl _ t).forEach _ fun _ _ h => h.setReg _ ?_) ((Regs.refl _ t).forEach _ fun _ _ h => h.setReg _ ?_))
      (Regs.ite (Regs.refl _ t) (((((Regs.refl _ t).setReg _ ?_).setReg _ ?_).setReg _ ?_).count _ _ _ ?_)) <;>
      simp only [R.MT_WIN, R.MT_FAIL0, R.MT_FAIL1, R.MT_FAIL2, R.MT_ERRCNT] <;> omega
  · exact Only.ite (Only.ite ((Only.refl _ t).forEach _ fun _ _ h => h.setReg _ _) ((Only.refl _ t).forEach _ fun _ _ h => h.setReg _ _))
      (Only.ite (Only.refl _ t) (((((Only.refl _ t).setReg _ _).setReg _ _).setReg _ _).count _ _ _))

/-! The bits of a write of MT_CTRL (R512, R513). -/

theorem mtCtrl_start {w : Word} (h31 : w.getLsbD 31 = true) (h30 : w.getLsbD 30 = false) (h29 : w.getLsbD 29 = false) (h28 : w.getLsbD 28 = false) (s : State) (c : Nat) :
    s.mtCtrl c w = s.mtStart c := by
  unfold State.mtCtrl
  dsimp only
  rw [h31, h30, h29, h28, State.when_true rfl, State.when_false (Bool.false_and _), State.when_false (Bool.false_and _), State.when_false rfl]

theorem mtCtrl_endPass {w : Word} (h31 : w.getLsbD 31 = false) (h30 : w.getLsbD 30 = true) (h29 : w.getLsbD 29 = false) (h28 : w.getLsbD 28 = false) {s : State} {c : Nat}
    (hst : s.mcState c = 1) : s.mtCtrl c w = ((s.mtExchange c).mtLeave c).setMcState c 2 := by
  unfold State.mtCtrl
  dsimp only
  have hs : s.when false (fun t => t.mtStart c) = s := State.when_false rfl _ _
  rw [h31, h30, h29, h28, hs, hst, State.when_false rfl, State.when_false (Bool.false_and _), Bool.true_and, beq_self_eq_true, State.when_true rfl]

theorem mtCtrl_endFail {w : Word} (h31 : w.getLsbD 31 = false) (h30 : w.getLsbD 30 = false) (h29 : w.getLsbD 29 = true) (h28 : w.getLsbD 28 = false) {s : State} {c : Nat}
    (hst : s.mcState c = 1) : s.mtCtrl c w = s.mtFail c 0x11 (w.fget F.MT_CTRL_BIT) := by
  unfold State.mtCtrl
  dsimp only
  have hs : s.when false (fun t => t.mtStart c) = s := State.when_false rfl _ _
  have hs2 : ∀ b, s.when (false && b) (fun t => ((t.mtExchange c).mtLeave c).setMcState c 2) = s := fun b => State.when_false (Bool.false_and b) _ _
  rw [h31, h30, h29, h28, hs, hs2, hst, State.when_false rfl, Bool.true_and, beq_self_eq_true, State.when_true rfl]

theorem startable_of {u : State} {c : Fin 8} (hr : Regs (· = R.MT_CTRL c) s u) :
    ((u.mcState c = 0 || u.mcState c = 2 || u.mcState c = 9) && u.bit R.CLK_MC_LOST (8 + c) && 5 ≤ u.fld R.CFG_BOOT_STAT F.CFG_BOOT_STAT_STEP : Bool) =
      ((s.mcState c == 0 || s.mcState c == 2 || s.mcState c == 9) && s.bit R.CLK_MC_LOST (8 + c) && 5 ≤ s.fld R.CFG_BOOT_STAT F.CFG_BOOT_STAT_STEP) := by
  have h1 : u.mcState c = s.mcState c := State.fld_of_reg (hr _ (by simp only [R.MC_STAT, R.MT_CTRL]; omega)) _
  have h2 : u.bit R.CLK_MC_LOST (8 + c) = s.bit R.CLK_MC_LOST (8 + c) := State.bit_of_reg (hr _ (by simp only [R.CLK_MC_LOST, R.MT_CTRL]; omega)) _
  have h3 : u.fld R.CFG_BOOT_STAT F.CFG_BOOT_STAT_STEP = s.fld R.CFG_BOOT_STAT F.CFG_BOOT_STAT_STEP :=
    State.fld_of_reg (hr _ (by simp only [R.CFG_BOOT_STAT, R.MT_CTRL]; omega)) _
  rw [h1, h2, h3]
  rfl

theorem committable_of {u : State} {c : Fin 8} (hr : Regs (· = R.MT_CTRL c) s u) : u.mcState c = s.mcState c ∧ u.prState c = s.prState c :=
  ⟨State.fld_of_reg (hr _ (by simp only [R.MC_STAT, R.MT_CTRL]; omega)) _, State.fld_of_reg (hr _ (by simp only [R.MT_PR_STAT, R.MT_CTRL]; omega)) _⟩

theorem mtCtrl_commit {w : Word} (h31 : w.getLsbD 31 = false) (h30 : w.getLsbD 30 = false) (h29 : w.getLsbD 29 = false) (h28 : w.getLsbD 28 = true) (s : State) (c : Nat) :
    s.mtCtrl c w = s.mtCommit c := by
  unfold State.mtCtrl
  dsimp only
  rw [h31, h30, h29, h28, State.when_false rfl, State.when_false (Bool.false_and _), State.when_false (Bool.false_and _), State.when_true rfl]

end

/-- Settles O40: by what each bit of MT_CTRL, a run and a commit leave of the channel. -/
theorem trainingRunsAndCommits : Obligations.TrainingRunsAndCommits := by
  refine ⟨fun ep c v s hw => ⟨fun h28 h29 h30 => ⟨fun hok => ?start, fun hok => ?noStart⟩, fun h28 h29 h31 hst => ?endPass, fun h28 h30 h31 hst => ?endFail,
      fun h29 h30 h31 => ⟨fun hok => ?commit, fun hok => ?noCommit⟩⟩,
    fun c s => ⟨fun hcm hst => ?done, fun hcm h1 h2 h3 => ?late, fun hcm => congrArg Host.Outcome.next (if_pos (by simp [hcm])), fun hst hh => ?timeout,
      fun hst => congrArg Host.Outcome.next (if_neg (by rcases hst with h | h <;> simp [h]))⟩,
    fun ep c v s hw => ⟨fun hst hb => ?run, fun hst => ?noRun⟩, fun c fails errs pass s hst hb => ?runDone⟩
  case start =>
    obtain ⟨u, hr, ho, he⟩ := busWrite_mtCtrl (w := bitOn v F.MT_CTRL_START) hw
    rw [mtCtrl_start (getLsbD_bitOn_self v (f := F.MT_CTRL_START) rfl (by decide)) ((getLsbD_bitOn_apart v rfl (by decide) (by decide)).trans h30)
      ((getLsbD_bitOn_apart v rfl (by decide) (by decide)).trans h29) ((getLsbD_bitOn_apart v rfl (by decide) (by decide)).trans h28)] at he
    have hsu : ChannelOnly c s u := .of_parts hr (fun d hd hne h => by simp only [R.MC_STAT, R.MT_CTRL] at h; omega) (ho.same .mc) (ho.same .rld)
    obtain ⟨a, ha⟩ : ∃ a, a = u.mcAbandon c := ⟨_, rfl⟩
    obtain ⟨b, hb⟩ : ∃ b, b = a.setMcState c 1 := ⟨_, rfl⟩
    obtain ⟨hreqs, hq, -, hua, hao⟩ := mcAbandon_leaves u c
    obtain ⟨hst, -, hmc, hab, hbo⟩ := setMcState_leaves a c (n := 1) (by decide)
    obtain ⟨hloss, hbt, hto⟩ := rldDrop_leaves b c false
    rw [← ha] at hreqs hq hua hao
    rw [← hb] at hst hmc hab hbo
    have hexec : s.busWrite ep (R.MT_CTRL c) (bitOn v F.MT_CTRL_START) = b.rldDrop c false := by
      rw [he, hb, ha]
      exact if_pos ((startable_of hr).trans hok)
    refine ⟨_, congrArg Host.Outcome.next hexec, (State.fld_of_reg (State.reg_of_csr (hto.same .csr) _) _).trans hst, ?_, ?_, ?_,
      (((hsu.trans hua).trans hab).trans hbt).others⟩
    · rw [State.mcOf_of_mc (hto.same .mc), hmc, if_neg (by decide)]
      exact hreqs
    · rw [State.mcOf_of_mc (hto.same .mc), hmc, if_neg (by decide)]
      exact hq
    · rw [hloss rfl, State.rldLoss, hbo.same .rld, hao.same .rld, ho.same .rld, ← State.rldLoss]
  case noStart =>
    obtain ⟨u, hr, ho, he⟩ := busWrite_mtCtrl (w := bitOn v F.MT_CTRL_START) hw
    rw [mtCtrl_start (getLsbD_bitOn_self v (f := F.MT_CTRL_START) rfl (by decide)) ((getLsbD_bitOn_apart v rfl (by decide) (by decide)).trans h30)
      ((getLsbD_bitOn_apart v rfl (by decide) (by decide)).trans h29) ((getLsbD_bitOn_apart v rfl (by decide) (by decide)).trans h28)] at he
    obtain ⟨d, hd⟩ : ∃ d, d = u.mcState c := ⟨_, rfl⟩
    have hexec : s.busWrite ep (R.MT_CTRL c) (bitOn v F.MT_CTRL_START) = (u.setFlag (R.MT_STAT c) F.MT_STAT_START_REJ true).mtRecord c 0x13 0 d := by
      rw [he, hd]
      exact if_neg (by rw [startable_of hr]; simp [hok])
    obtain ⟨x, hx⟩ : ∃ x, x = u.setFlag (R.MT_STAT c) F.MT_STAT_START_REJ true := ⟨_, rfl⟩
    have hxr : Regs (fun off => off / 0x10000 = 5) x (x.mtRecord c 0x13 0 d) := (Regs.refl _ x).mtRecord _ _ _ _ (by omega) (by decide) fun off h => h
    have hxo : Only [.csr, .ic, .err] x (x.mtRecord c 0x13 0 d) := (Only.refl _ x).mtRecord _ _ _ _
    have hux : Only [.csr] u x := hx ▸ (Only.refl _ u).setFlag _ _ _
    refine ⟨_, congrArg Host.Outcome.next hexec, ?_, ?_, ?_, ?_⟩ <;> rw [← hx]
    · refine State.fld_of_reg ((hxr _ (by simp only [R.MC_STAT]; omega)).trans ?_) _
      rw [hx, State.reg_setFlag_other _ _ _ _ _ (by simp only [R.MC_STAT, R.MT_STAT]; omega)]
      exact hr _ (by simp only [R.MC_STAT, R.MT_CTRL]; omega)
    · rw [State.flag_of_reg (hxr _ (by simp only [R.MT_STAT]; omega)), hx, State.flag_setFlag _ _ _ _ (by decide)]
    · exact (hxo.same .mc).trans ((hux.same .mc).trans (ho.same .mc))
    · exact (hxo.same .rld).trans ((hux.same .rld).trans (ho.same .rld))
  case endPass =>
    obtain ⟨u, hr, ho, he⟩ := busWrite_mtCtrl (w := bitOn v F.MT_CTRL_END_PASS) hw
    have hstu : u.mcState c = 1 := (State.fld_of_reg (hr _ (by simp only [R.MC_STAT, R.MT_CTRL]; omega)) _).trans hst
    rw [mtCtrl_endPass ((getLsbD_bitOn_apart v rfl (by decide) (by decide)).trans h31) (getLsbD_bitOn_self v (f := F.MT_CTRL_END_PASS) rfl (by decide))
      ((getLsbD_bitOn_apart v rfl (by decide) (by decide)).trans h29) ((getLsbD_bitOn_apart v rfl (by decide) (by decide)).trans h28) hstu] at he
    have hsu : ChannelOnly c s u := .of_parts hr (fun d hd hne h => by simp only [R.MC_STAT, R.MT_CTRL] at h; omega) (ho.same .mc) (ho.same .rld)
    obtain ⟨a, ha⟩ : ∃ a, a = u.mtExchange c := ⟨_, rfl⟩
    obtain ⟨b, hb⟩ : ∃ b, b = a.mtLeave c := ⟨_, rfl⟩
    obtain ⟨hexch, hbit, har, hao⟩ := mtExchange_leaves u c
    obtain ⟨hbusy, hbr, hbw, hbo⟩ := mtLeave_leaves a c
    obtain ⟨hst2, htr, -, htc, hto⟩ := setMcState_leaves b c (n := 2) (by decide)
    rw [← ha] at hexch hbit har hao
    rw [← hb] at hbusy hbr hbw hbo
    have hexec : s.busWrite ep (R.MT_CTRL c) (bitOn v F.MT_CTRL_END_PASS) = b.setMcState c 2 := by rw [he, hb, ha]
    have hau : ChannelOnly c u a := .of_parts har (fun d hd hne h => ?_) (hao.same .mc) (hao.same .rld)
    swap
    · rcases h with h | ⟨p, hp, h⟩
      · simp only [R.MC_STAT, R.MT_INT_STAT] at h
        omega
      · have := mtPairs_range hp
        simp only [R.MC_STAT] at h
        omega
    have hab : ChannelOnly c a b := ⟨fun d hd hne => hbr _ (by simp only [R.MC_STAT, R.MT_RUN, R.MT_STAT]; omega), fun d _ => State.mcOf_of_mc (hbo.same .mc) d, hbw⟩
    have hset : ∀ off, 0x2008300 + 0x10000 * c.val ≤ off → off < 0x2008720 + 0x10000 * c.val → (b.setMcState c 2).reg off = a.reg off ∧ u.reg off = s.reg off := fun off h1 h2 => by
      refine ⟨(htr off ?_).trans (hbr off ?_), hr off ?_⟩ <;> simp only [R.MC_STAT, R.MT_PR_STAT, R.MT_RUN, R.MT_STAT, R.MT_CTRL] <;> omega
    obtain ⟨hdq, hcmp⟩ := hexch
    refine ⟨_, congrArg Host.Outcome.next hexec, hst2, ⟨fun k hk => ?_, fun m hm => ?_⟩, ?_, ?_, (((hsu.trans hau).trans hab).trans htc).others⟩
    · obtain ⟨h1, h2, h3, h4⟩ := mtPairs_range (mem_mtPairs.mpr (.inl ⟨k, hk, rfl⟩) : _ ∈ mtPairs c)
      rw [(hset _ h1 h2).1, (hset _ h3 h4).1, ← (hset _ h1 h2).2, ← (hset _ h3 h4).2]
      exact hdq k hk
    · obtain ⟨h1, h2, h3, h4⟩ := mtPairs_range (mem_mtPairs.mpr (.inr ⟨m, hm, rfl⟩) : _ ∈ mtPairs c)
      rw [(hset _ h1 h2).1, (hset _ h3 h4).1, ← (hset _ h1 h2).2, ← (hset _ h3 h4).2]
      exact hcmp m hm
    · exact (State.flag_of_reg (htr _ (by simp only [R.MT_RUN, R.MC_STAT, R.MT_PR_STAT]; omega)) _).trans hbusy
    · refine (State.bit_of_reg ((htr _ ?_).trans (hbr _ ?_)) _).trans hbit <;> simp only [R.MT_INT_STAT, R.MC_STAT, R.MT_PR_STAT, R.MT_RUN, R.MT_STAT] <;> omega
  case endFail =>
    obtain ⟨u, hr, ho, he⟩ := busWrite_mtCtrl (w := bitOn v F.MT_CTRL_END_FAIL) hw
    have hstu : u.mcState c = 1 := (State.fld_of_reg (hr _ (by simp only [R.MC_STAT, R.MT_CTRL]; omega)) _).trans hst
    rw [mtCtrl_endFail ((getLsbD_bitOn_apart v rfl (by decide) (by decide)).trans h31) ((getLsbD_bitOn_apart v rfl (by decide) (by decide)).trans h30)
      (getLsbD_bitOn_self v (f := F.MT_CTRL_END_FAIL) rfl (by decide)) ((getLsbD_bitOn_apart v rfl (by decide) (by decide)).trans h28) hstu] at he
    have hsu : ChannelOnly c s u := .of_parts hr (fun d hd hne h => by simp only [R.MC_STAT, R.MT_CTRL] at h; omega) (ho.same .mc) (ho.same .rld)
    obtain ⟨h1, h2, h3, h4, h5⟩ := mtFail_leaves u c.2 0x11 ((bitOn v F.MT_CTRL_END_FAIL).fget F.MT_CTRL_BIT)
    refine ⟨_, congrArg Host.Outcome.next he, h1, h2, h3, fun k hk => (h4 k hk).trans (hr _ ?_), (hsu.trans h5).others⟩
    simp only [R.MT_ACT_DQ, R.MT_CTRL]
    omega
  case commit =>
    obtain ⟨u, hr, ho, he⟩ := busWrite_mtCtrl (w := bitOn v F.MT_CTRL_COMMIT) hw
    rw [mtCtrl_commit ((getLsbD_bitOn_apart v rfl (by decide) (by decide)).trans h31) ((getLsbD_bitOn_apart v rfl (by decide) (by decide)).trans h30)
      ((getLsbD_bitOn_apart v rfl (by decide) (by decide)).trans h29) (getLsbD_bitOn_self v (f := F.MT_CTRL_COMMIT) rfl (by decide))] at he
    obtain ⟨hk1, hk2⟩ := committable_of hr
    obtain ⟨t, ht⟩ : ∃ t, t = u.setMc c { u.mcOf c with commit := true } := ⟨_, rfl⟩
    have hexec : s.busWrite ep (R.MT_CTRL c) (bitOn v F.MT_CTRL_COMMIT) = if u.prState c = 3 then t.setFld (R.MT_PR_STAT c) F.MT_PR_STAT_STATE 0 else t := by
      rw [he, ht]
      refine if_pos ?_
      rw [← State.prState, hk1, hk2]
      exact hok
    have htm : t.mcOf c = { s.mcOf c with commit := true } := by
      rw [ht, State.mcOf_setMc, State.mcOf_of_mc (ho.same .mc)]
    have htr : ∀ off, t.reg off = u.reg off := fun off => by
      rw [ht]
      rfl
    have hto : Only [.csr, .mc] s t := ht ▸ (ho.mono (by simp)).setMc _ _
    refine ⟨_, congrArg Host.Outcome.next hexec, ?_, ?_, fun off hoff => ?_, ?_⟩
    · split
      · exact (State.mcOf_of_mc (((Only.refl [.csr] t).setFld _ _ _).same .mc) c).trans htm
      · exact htm
    · rw [hk2]
      split
      · exact (State.fld_setFld _ _ _ _ (by decide)).trans (Nat.zero_mod _)
      · rw [State.prState, State.fld_of_reg (htr _), ← State.prState, hk2]
    · simp only [List.mem_cons, List.not_mem_nil, or_false, not_or] at hoff
      split
      · rw [State.reg_setFld_other _ _ _ _ _ hoff.2, htr]
        exact hr off hoff.1
      · rw [htr]
        exact hr off hoff.1
    · exact Only.ite (hto.setFld _ _ _) hto
  case noCommit =>
    obtain ⟨u, hr, ho, he⟩ := busWrite_mtCtrl (w := bitOn v F.MT_CTRL_COMMIT) hw
    rw [mtCtrl_commit ((getLsbD_bitOn_apart v rfl (by decide) (by decide)).trans h31) ((getLsbD_bitOn_apart v rfl (by decide) (by decide)).trans h30)
      ((getLsbD_bitOn_apart v rfl (by decide) (by decide)).trans h29) (getLsbD_bitOn_self v (f := F.MT_CTRL_COMMIT) rfl (by decide))] at he
    obtain ⟨hk1, hk2⟩ := committable_of hr
    have hexec : s.busWrite ep (R.MT_CTRL c) (bitOn v F.MT_CTRL_COMMIT) = u.setFlag (R.MT_STAT c) F.MT_STAT_COMMIT_REJ true := by
      rw [he]
      refine if_neg ?_
      rw [← State.prState, hk1, hk2]
      exact Bool.eq_false_iff.mp hok
    refine ⟨_, congrArg Host.Outcome.next hexec, State.flag_setFlag _ _ _ _ (by decide), fun off hoff => ?_, ho.setFlag _ _ _⟩
    simp only [List.mem_cons, List.not_mem_nil, or_false, not_or] at hoff
    rw [State.reg_setFlag_other _ _ _ _ _ hoff.2]
    exact hr off hoff.1
  case done =>
    obtain ⟨t, ht⟩ : ∃ t, t = s.setMc c { s.mcOf c with commit := false } := ⟨_, rfl⟩
    have hto : Only [.mc] s t := ht ▸ (Only.refl _ s).setMc _ _
    obtain ⟨⟨hdq, hcmp⟩, hbit, -, hxo⟩ := mtExchange_leaves t c
    have hreg : ∀ off, t.reg off = s.reg off := State.reg_of_csr (hto.same .csr)
    have hexec : exec (.mtCommitDone c) s = .next (t.mtExchange c) := by
      rw [ht]
      refine congrArg Host.Outcome.next ((if_neg (by simp [hcm])).trans (if_pos ?_))
      rcases hst with h | h | h <;> simp [h]
    refine ⟨_, hexec, ⟨fun k hk => ?_, fun m hm => ?_⟩, ?_, hbit, (hto.mono (by simp)).trans (hxo.mono (by simp))⟩
    · rw [← hreg, ← hreg]
      exact hdq k hk
    · rw [← hreg, ← hreg]
      exact hcmp m hm
    · rw [State.mcOf_of_mc (hxo.same .mc), ht, State.mcOf_setMc]
  case late =>
    obtain ⟨t, ht⟩ : ∃ t, t = s.setMc c { s.mcOf c with commit := false } := ⟨_, rfl⟩
    have hto : Only [.mc] s t := ht ▸ (Only.refl _ s).setMc _ _
    have hexec : exec (.mtCommitDone c) s = .next (t.setFlag (R.MT_STAT c) F.MT_STAT_COMMIT_REJ true) := by
      rw [ht]
      exact congrArg Host.Outcome.next ((if_neg (by simp [hcm])).trans (if_neg (by simp [h1, h2, h3])))
    refine ⟨_, hexec, State.flag_setFlag _ _ _ _ (by decide), ?_, fun off hoff => ?_, (hto.mono (by simp)).setFlag _ _ _⟩
    · rw [State.mcOf_of_mc (((Only.refl [.csr] t).setFlag _ _ _).same .mc), ht, State.mcOf_setMc]
    · rw [State.reg_setFlag_other _ _ _ _ _ fun h => hoff (List.mem_singleton.mpr h)]
      exact State.reg_of_csr (hto.same .csr) off
  case timeout =>
    obtain ⟨h1, h2, h3, -, h4⟩ := mtFail_leaves s c.2 0x12 0
    exact ⟨_, congrArg Host.Outcome.next (if_pos (by simp [hst, hh])), h1, h2, h3, h4.others⟩
  case run =>
    obtain ⟨u, hr, ho, hbu, hop, he⟩ := busWrite_mtRunStart (w := bitOn v F.MT_RUN_START) hw (getLsbD_bitOn_self v (f := F.MT_RUN_START) rfl (by decide))
    have hstu : u.mcState c = 1 := (State.fld_of_reg (hr _ (by simp only [R.MC_STAT, R.MT_RUN]; omega)) _).trans hst
    obtain ⟨h1, h2, h3, h4, h5, h6⟩ := mtRun_leaves hstu (hbu.trans hb)
    refine ⟨_, congrArg Host.Outcome.next he, h1, h2, (h3.trans hop).trans (fget_bitOn_apart v rfl (by decide) (by decide)), h4, h5, h6, ?_, ho.mtRun c⟩
    refine Regs.but ((hr.mono fun off h => ?_).mtRun c (by simp) (by simp) (by simp) (by simp) (by simp))
    rw [h]
    simp
  case noRun =>
    obtain ⟨u, hr, ho, hbu, hop, he⟩ := busWrite_mtRunStart (w := bitOn v F.MT_RUN_START) hw (getLsbD_bitOn_self v (f := F.MT_RUN_START) rfl (by decide))
    have hk : u.mcState c = s.mcState c := State.fld_of_reg (hr _ (by simp only [R.MC_STAT, R.MT_RUN]; omega)) _
    have hexec : s.busWrite ep (R.MT_RUN c) (bitOn v F.MT_RUN_START) = u.setFlag (R.MT_STAT c) F.MT_STAT_RUN_REJ true := by
      rw [he]
      refine if_neg ?_
      rw [hk, hbu]
      rcases hst with h | h <;> simp [h]
    refine ⟨_, congrArg Host.Outcome.next hexec, State.flag_setFlag _ _ _ _ (by decide), ?_, fun off hoff => ?_, ho.setFlag _ _ _⟩
    · rw [State.flag_setFlag_off _ _ _ _ _ _ (by simp only [R.MT_RUN, R.MT_STAT]; omega)]
      exact hbu
    · simp only [List.mem_cons, List.not_mem_nil, or_false, not_or] at hoff
      rw [State.reg_setFlag_other _ _ _ _ _ hoff.2]
      exact hr off hoff.1
  case runDone =>
    obtain ⟨t, ho, hr, hbt, hexec⟩ := exec_mtRunDone (fails := fails) (errs := errs) (given := pass) hst hb
    obtain ⟨p, hp⟩ : ∃ p, p = if s.runOp c = 2 then List.replicate 72 (BitVec.allOnes 128) else pass := ⟨_, rfl⟩
    obtain ⟨x, hx⟩ : ∃ x, x = t.runNoted s c fails errs p := ⟨_, rfl⟩
    rw [← hp, ← hx] at hexec
    obtain ⟨hnr, hno⟩ := hx ▸ runNoted_leaves t s c fails errs p
    obtain ⟨hbit, her, -⟩ := mtEvent_leaves x c (b := 0) (by decide)
    refine ⟨_, hexec, ?_, hbit, fun hsw hop => ?_, fun hsw => ?_, ?_, (ho.mono (by simp)).trans ((hno.mono (by simp)).mtEvent _ _)⟩
    · refine (State.flag_of_reg ((her _ ?_).trans (hnr _ ?_)) _).trans hbt <;> simp only [R.MT_RUN, R.MT_INT_STAT] <;> omega
    · obtain ⟨h0, h1, h2, h3⟩ := runNoted_step (t := t) (fails := fails) (errs := errs) (pass := p) hsw hop
      rw [← hx] at h0 h1 h2 h3
      refine ⟨(her _ ?_).trans h0, (her _ ?_).trans h1, (her _ ?_).trans h2, ?_⟩
      · simp only [R.MT_FAIL0, R.MT_INT_STAT]
        omega
      · simp only [R.MT_FAIL1, R.MT_INT_STAT]
        omega
      · simp only [R.MT_FAIL2, R.MT_INT_STAT]
        omega
      · rw [her _ (by simp only [R.MT_ERRCNT, R.MT_INT_STAT]; omega), h3, hr _ (by simp only [R.MT_ERRCNT, R.MT_RUN]; omega)]
    · intro vs
      obtain ⟨h1, h2⟩ := runNoted_sweep (t := t) (fails := fails) (errs := errs) (pass := p) hsw
      rw [← hx] at h1 h2
      refine ⟨fun ht hop k hk => ?_, fun ht m hm => ?_⟩
      · have hpp : p = pass := by
          rw [hp, if_neg]
          unfold State.runOp
          split
          · decide
          · next h =>
            rcases hop with hop | hop
            · exact hop
            · exact absurd (by simp [hsw, hop]) h
        rw [her _ (by simp only [R.MT_WIN, R.MT_INT_STAT]; omega), h1 ht k hk, hpp]
        rfl
      · have hpp : p = pass := by
          rw [hp, if_neg]
          unfold State.runOp
          rw [if_pos (by simp [hsw, ht])]
          decide
        rw [her _ (by simp only [R.MT_WIN, R.MT_INT_STAT]; omega), h2 ht m hm, hpp]
        rfl
    · exact (((Only.refl [.csr, .ic] x).mtEvent _ _).same .mc).trans ((hno.same .mc).trans (ho.same .mc))

end Sys2Proof.Machine
end

section
/-! ## States of an RLD channel (O38) -/

namespace Sys2Proof.Machine

-- Elaborated in order: side by side, so many short proofs would each hold a thread with its stack.
set_option Elab.async false

open Sys2Proof

section
variable {s t : State} {c : Nat}

/-! Events and changes of state (R468, R498). -/

theorem mcEvent_leaves (s : State) (c : Nat) {b : Nat} (hb : b < 32) : (s.mcEvent c b).bit (R.MC_INT_STAT c) b = true ∧
    Regs (· = R.MC_INT_STAT c) s (s.mcEvent c b) ∧ Only [.csr, .ic] s (s.mcEvent c b) := by
  obtain ⟨y, hy⟩ : ∃ y, y = s.setBit (R.MC_INT_STAT c) b true := ⟨_, rfl⟩
  have hreg : ∀ off, (s.mcEvent c b).reg off = y.reg off := fun off => by
    have he : s.mcEvent c b = ((y.settle (404 + 4 * c) (y.mcLevel c 0)).settle (406 + 4 * c) (y.mcLevel c 2)).settle (407 + 4 * c) (y.mcLevel c 3) := by
      rw [hy]
      rfl
    rw [he]
    exact ((((Regs.refl (fun _ => False) y).settle _ _).settle _ _).settle _ _) off id
  refine ⟨?_, (Regs.refl _ s).mcEvent _ _ rfl, (Only.refl _ s).mcEvent _ _⟩
  rw [State.bit_of_reg (hreg _), hy, State.bit_setBit_self _ _ _ _ hb]

theorem mcEvent_channel (s : State) (c b : Nat) : ChannelOnly c s (s.mcEvent c b) :=
  .of_parts ((Regs.refl (· = R.MC_INT_STAT c) s).mcEvent _ _ rfl) (fun d _ _ h => by simp only [R.MC_STAT, R.MC_INT_STAT] at h; omega)
    (((Only.refl [.csr, .ic] s).mcEvent _ _).same .mc) (((Only.refl [.csr, .ic] s).mcEvent _ _).same .rld)

theorem mcState_of_reg (h : t.reg (R.MC_STAT c) = s.reg (R.MC_STAT c)) : t.mcState c = s.mcState c := State.fld_of_reg h _

/-- The work of a channel stays where its requests, queue and reads do. -/
theorem workKept_of {x : Mc} (h : t.mcOf c = x) (h1 : x.reqs = (s.mcOf c).reqs) (h2 : x.q = (s.mcOf c).q) (h3 : x.reads = (s.mcOf c).reads) : WorkKept s c t := by
  rw [WorkKept, h]
  exact ⟨h2, h1, h3⟩

theorem setMcState_work (s : State) (c : Nat) {n : Nat} (hn : n < 2 ^ F.MC_STAT_STATE.w) : WorkKept s c (s.setMcState c n) := by
  obtain ⟨-, -, h, -⟩ := setMcState_leaves s c hn
  refine workKept_of h ?_ ?_ ?_ <;> split <;> rfl

theorem mcReady_plain (hw : (s.mcOf c).want = false) (hh : (s.mcOf c).wantHalt = false) : s.mcReady c = s.setMcState c 3 := if_neg (by simp [hw, hh])

/-- A channel that reaches READY with a freeze waiting is FROZEN (R498). -/
theorem mcReady_frozen (h : ((s.mcOf c).want || (s.mcOf c).wantHalt) = true) : (s.mcReady c).mcState c = 8 ∧ (s.mcReady c).bit (R.MC_INT_STAT c) 10 = true ∧
    WorkKept s c (s.mcReady c) ∧ ChannelOnly c s (s.mcReady c) ∧ (s.mcReady c).rld = s.rld := by
  obtain ⟨a, ha⟩ : ∃ a, a = s.setMcState c 8 := ⟨_, rfl⟩
  obtain ⟨hst, -, hmc, hsa, hao⟩ := setMcState_leaves s c (n := 8) (by decide)
  rw [← ha, if_neg (by decide)] at hmc
  rw [← ha] at hst hsa hao
  obtain ⟨m, hm⟩ : ∃ m : Mc, m = { a.mcOf c with want := false, wantHalt := false, halt := (s.mcOf c).wantHalt } := ⟨_, rfl⟩
  obtain ⟨b, hb⟩ : ∃ b, b = a.setMc c m := ⟨_, rfl⟩
  have he : s.mcReady c = b.mcEvent c 10 := by
    rw [hb, hm, ha]
    exact if_pos h
  obtain ⟨hbit, hr, ho⟩ := mcEvent_leaves b c (b := 10) (by decide)
  have hba : ∀ off, b.reg off = a.reg off := fun off => by
    rw [hb]
    rfl
  have hbm : b.mcOf c = m := hb ▸ State.mcOf_setMc a c m
  rw [he]
  refine ⟨?_, hbit, workKept_of ((State.mcOf_of_mc (ho.same .mc) c).trans hbm) ?_ ?_ ?_, ((hsa.trans (hb ▸ .setMc a c m)).trans (mcEvent_channel b c 10)), ?_⟩
  · rw [mcState_of_reg ((hr _ (by simp only [R.MC_STAT, R.MC_INT_STAT]; omega)).trans (hba _))]
    exact hst
  · rw [hm, hmc]
  · rw [hm, hmc]
  · rw [hm, hmc]
  · have hb2 : b.rld = a.rld := by
      rw [hb]
      rfl
    exact (ho.same .rld).trans (hb2.trans (hao.same .rld))

/-! Register writes. -/

theorem rowAt_mcCtrl : ∀ c : Fin 8, rowAt (R.MC_CTRL c) = some (⟨0, [], 0, 0x1D, 0, 0, 0, 0, 0, 0xE0⟩, []) := by decide

theorem rowAt_mcSrCtrl : ∀ c : Fin 8, rowAt (R.MC_SR_CTRL c) = some (⟨0x40, [], 0, 0xFFFF, 0, 0, 0, 0, 0, 0xC0000000⟩, []) := by decide

/-- A write of MC_CTRL acts on a state that differs in that register alone. -/
theorem busWrite_mcCtrl {ep : Nat} {c : Fin 8} {w : Word} (hw : s.mayWrite ep (R.MC_CTRL c)) :
    ∃ u, Regs (· = R.MC_CTRL c) s u ∧ Only [.csr] s u ∧ u.flag (R.MC_CTRL c) F.MC_CTRL_EN = w.getLsbD 0 ∧ s.busWrite ep (R.MC_CTRL c) w = u.mcCtrl s c w := by
  obtain ⟨r, hr⟩ : ∃ r : RegRow, r = ⟨0, [], 0, 0x1D, 0, 0, 0, 0, 0, 0xE0⟩ := ⟨_, rfl⟩
  have hrow : rowAt (R.MC_CTRL c) = some (r, []) := hr ▸ rowAt_mcCtrl c
  obtain ⟨u, hu⟩ : ∃ u, u = s.setReg (R.MC_CTRL c) (r.after (s.mcOpen c) (s.reg (R.MC_CTRL c)) w) := ⟨_, rfl⟩
  have hstore : s.store (s.mcOpen c) (R.MC_CTRL c) w (fun t => t.mcLocked c 0) = u := by
    rw [State.store_of_unstaged hrow (by rw [hr]), hu]
    exact State.when_false (by simp [RegRow.lockedHit, hr]) _ _
  refine ⟨u, hu ▸ (Regs.refl _ s).setReg _ rfl, hu ▸ (Only.refl _ s).setReg _ _, ?_, ?_⟩
  · rw [hu, State.flag, State.fld, State.reg_setReg_same, hr, RegRow.fget_after_live (by decide) (by decide)]
    exact fget_bit w rfl
  · have hmask : mcMask 0 w = w := if_neg (by decide)
    rw [busWrite_mc c.2 (loc := 0) (by decide) (by simp only [R.MC_CTRL]; omega) hw, State.mcWrite, if_pos (by decide), hmask, hstore]
    dsimp only
    rw [State.when_false (by decide), State.mcAct, if_pos rfl]

/-- A write of MC_SR_CTRL acts on a state that differs in that register alone. -/
theorem busWrite_mcSrCtrl {ep : Nat} {c : Fin 8} {w : Word} (hw : s.mayWrite ep (R.MC_SR_CTRL c)) :
    ∃ u, Regs (· = R.MC_SR_CTRL c) s u ∧ Only [.csr] s u ∧ s.busWrite ep (R.MC_SR_CTRL c) w = u.mcSrCtrl c w := by
  refine ⟨s.setReg (R.MC_SR_CTRL c) ((s.reg (R.MC_SR_CTRL c) &&& ~~~ 0xFFFF) ||| (w &&& 0xFFFF)), (Regs.refl _ s).setReg _ rfl, (Only.refl _ s).setReg _ _, ?_⟩
  have hmask : mcMask 0x40 w = w := if_neg (by decide)
  rw [busWrite_mc c.2 (loc := 0x40) (by decide) (by simp only [R.MC_SR_CTRL]; omega) hw, State.mcWrite, if_pos (by decide), hmask, State.store_live (rowAt_mcSrCtrl c)]
  dsimp only
  rw [State.when_false (by decide), State.mcAct, if_neg (by decide), if_pos rfl]

/-- The checks of R470 and R476 do not read MC_CTRL. -/
theorem mcChecks_of {u : State} {c : Fin 8} (hr : Regs (· = R.MC_CTRL c) s u) : u.bankValid c = s.bankValid c ∧ u.timingValid c = s.timingValid c := by
  have hoff : ∀ off, off ≠ R.MC_CTRL c → u.reg off = s.reg off := fun off h => hr off h
  have hmap : ∀ b, u.reg (R.MC_BANK_MAP c b) = s.reg (R.MC_BANK_MAP c b) := fun b => hoff _ (by simp only [R.MC_BANK_MAP, R.MC_CTRL]; omega)
  have hbits : u.lineBits = s.lineBits := by
    unfold State.lineBits
    rw [State.fld_of_reg (hoff _ (by simp only [R.MC_MAP_CTRL, R.MC_CTRL]; omega))]
  have hmhz : u.mcMhz c = s.mcMhz c := by
    unfold State.mcMhz
    rw [State.fld_of_reg (hoff _ (by simp only [R.CLK_MCPLL, R.MC_CTRL]; omega))]
  have h0 : u.reg (R.MC_TP0 c) = s.reg (R.MC_TP0 c) := hoff _ (by simp only [R.MC_TP0, R.MC_CTRL]; omega)
  have h1 : u.reg (R.MC_TP1 c) = s.reg (R.MC_TP1 c) := hoff _ (by simp only [R.MC_TP1, R.MC_CTRL]; omega)
  have h2 : u.reg (R.MC_TP2 c) = s.reg (R.MC_TP2 c) := hoff _ (by simp only [R.MC_TP2, R.MC_CTRL]; omega)
  constructor
  · simp only [State.bankValid, hmap, hbits]
  · have hp0 : u.tRC c = s.tRC c ∧ u.tRL c = s.tRL c ∧ u.tWL c = s.tWL c ∧ u.tRTW c = s.tRTW c := by
      unfold State.tRC State.tRL State.tWL State.tRTW
      rw [h0]
      exact ⟨rfl, rfl, rfl, rfl⟩
    have hp1 : u.tWTR c = s.tWTR c ∧ u.tPAR c = s.tPAR c ∧ u.tPARREC c = s.tPARREC c ∧ u.tCKESR c = s.tCKESR c := by
      unfold State.tWTR State.tPAR State.tPARREC State.tCKESR
      rw [h1]
      exact ⟨rfl, rfl, rfl, rfl⟩
    have hp2 : u.tREFI c = s.tREFI c ∧ u.tXS c = s.tXS c := by
      unfold State.tREFI State.tXS
      rw [h2]
      exact ⟨rfl, rfl⟩
    unfold State.timingValid
    rw [hmhz, hp0.1, hp0.2.1, hp0.2.2.1, hp0.2.2.2, hp1.1, hp1.2.1, hp1.2.2.1, hp1.2.2.2, hp2.1, hp2.2]

/-- What a write of MC_CTRL does about EN (R468, R470). -/
def State.mcEnable (u : State) (old : State) (c : Nat) (en : Bool) : State :=
  if en then
    if old.mcState c = 2 then (if u.bankValid c && u.timingValid c then u.mcReady c else u.mcEnReject c)
    else if old.flag (R.MC_CTRL c) F.MC_CTRL_EN then u else u.mcEnReject c
  else if old.flag (R.MC_CTRL c) F.MC_CTRL_EN then u.mcWake c else u

theorem mcCtrl_eq (u old : State) (c : Nat) (v : Word) : u.mcCtrl old c v =
    (((u.mcEnable old c (v.getLsbD 0)).when (v.getLsbD 7 && old.mcState c == 3) fun t => t.setMcState c 7).when
      (v.getLsbD 6 && old.mcState c == 3 && !v.getLsbD 7) fun t => t.mcFreeze c false).when (v.getLsbD 5) fun t => t.mcThaw c := rfl

/-- A write that asks for no freeze, thaw or initialisation. -/
theorem mcCtrl_enable {u old : State} {v : Word} (h5 : v.getLsbD 5 = false) (h6 : v.getLsbD 6 = false) (h7 : v.getLsbD 7 = false) :
    u.mcCtrl old c v = u.mcEnable old c (v.getLsbD 0) := by
  rw [mcCtrl_eq, h5, h6, h7]
  rfl

/-- Refusing EN (R470). -/
theorem mcEnReject_leaves (s : State) {c : Nat} (hc : c < 8) : (s.mcEnReject c).flag (R.MC_CTRL c) F.MC_CTRL_EN = false ∧
    (s.mcEnReject c).flag (R.MC_STAT c) F.MC_STAT_EN_REJ = true ∧ (s.mcEnReject c).mcState c = s.mcState c ∧ ChannelOnly c s (s.mcEnReject c) ∧
    Regs (fun off => off ∈ [R.MC_CTRL c, R.MC_STAT c] ∨ off / 0x10000 = 5) s (s.mcEnReject c) := by
  have hne : R.MC_CTRL c ≠ R.MC_STAT c := by simp only [R.MC_CTRL, R.MC_STAT]; omega
  obtain ⟨a, ha⟩ : ∃ a, a = s.setFlag (R.MC_CTRL c) F.MC_CTRL_EN false := ⟨_, rfl⟩
  obtain ⟨b, hb⟩ : ∃ b, b = a.setFlag (R.MC_STAT c) F.MC_STAT_EN_REJ true := ⟨_, rfl⟩
  have he : s.mcEnReject c = b.mcRecord c 9 0 0 := by
    rw [hb, ha]
    rfl
  have hr : Regs (fun off => off / 0x10000 = 5) b (s.mcEnReject c) := he ▸ (Regs.refl _ b).mcRecord _ _ _ _ (by omega) (by decide) fun off h => h
  have ho : Only [.csr, .ic, .err] s (s.mcEnReject c) := (Only.refl _ s).mcEnReject c
  have hall : Regs (fun off => off ∈ [R.MC_CTRL c, R.MC_STAT c] ∨ off / 0x10000 = 5) s (s.mcEnReject c) := by
    refine Regs.trans ?_ (hr.mono fun off h => .inr h)
    rw [hb, ha]
    exact ((Regs.refl _ s).setFlag _ _ (Or.inl (by simp))).setFlag _ _ (Or.inl (by simp))
  refine ⟨?_, ?_, ?_, .of_parts hall (fun d hd hne h => ?_) (ho.same .mc) (ho.same .rld), hall⟩
  · rw [State.flag_of_reg (hr _ (by simp only [R.MC_CTRL]; omega)), hb, State.flag_setFlag_off _ _ _ _ _ _ hne, ha, State.flag_setFlag _ _ _ _ (by decide)]
  · rw [State.flag_of_reg (hr _ (by simp only [R.MC_STAT]; omega)), hb, State.flag_setFlag _ _ _ _ (by decide)]
  · rw [State.mcState, State.fld_of_reg (hr _ (by simp only [R.MC_STAT]; omega)), hb, State.fld_setFlag_fld _ _ _ _ _ (by decide), ha,
      State.fld_setFlag_off _ _ _ _ _ _ hne.symm]
    rfl
  · simp only [List.mem_cons, List.not_mem_nil, or_false, R.MC_STAT, R.MC_CTRL] at h
    omega

/-! The queue of a channel answered (R469). -/

/-- Answering every request puts one response into the network for each that expects one. -/
theorem turnAways_flight (e : McReq → Nat) (status : Nat) (l : List McReq) (s : State) :
    (s.forEach l fun t r => t.turnAway (e r) r.pkt status).noc.flight.length = s.noc.flight.length + (l.filter fun r => r.pkt.vn ≠ 2).length := by
  induction l generalizing s with
  | nil => rfl
  | cons r l ih =>
    have hstep : (s.turnAway (e r) r.pkt status).noc.flight.length = s.noc.flight.length + (if r.pkt.vn = 2 then 0 else 1) := by
      unfold State.turnAway
      split
      · rw [((Only.refl [.csr] s).niDrop (e r)).same .noc]
        rfl
      · exact List.length_append
    refine (ih _).trans ?_
    rw [hstep, List.filter_cons]
    by_cases h : r.pkt.vn = 2
    · rw [if_pos h, if_neg (by simp [h])]
      rfl
    · rw [if_neg h, if_pos (by simp [h]), List.length_cons]
      omega

/-- The requests of a channel answered DISABLED. -/
theorem mcAnswerAll_leaves (s : State) (c : Nat) : ((s.mcAnswerAll c).mcOf c).reqs = [] ∧
    (s.mcAnswerAll c).noc.flight.length = s.noc.flight.length + ((s.mcOf c).reqs.filter fun r => r.pkt.vn ≠ 2).length ∧
    Regs (fun off => off % 0x1000 = 0x18) s (s.mcAnswerAll c) ∧ ChannelOnly c s (s.mcAnswerAll c) := by
  obtain ⟨u, hu⟩ : ∃ u, u = s.setMc c { s.mcOf c with reqs := [] } := ⟨_, rfl⟩
  have he : s.mcAnswerAll c = u.forEach (s.mcOf c).reqs fun t r => t.turnAway (0x40 + 4 * c + r.port) r.pkt 7 := by
    rw [hu]
    rfl
  have hlen := turnAways_flight (fun r => 0x40 + 4 * c + r.port) 7 (s.mcOf c).reqs u
  obtain ⟨h1, h2⟩ := turnAways_leave (fun r => 0x40 + 4 * c + r.port) 7 (s.mcOf c).reqs u
  rw [← he] at hlen h1 h2
  have hur : ∀ off, u.reg off = s.reg off := fun off => by
    rw [hu]
    rfl
  have hun : u.noc = s.noc := by
    rw [hu]
    rfl
  have hum : u.mcOf c = { s.mcOf c with reqs := [] } := hu ▸ State.mcOf_setMc s c _
  refine ⟨?_, hlen.trans (by rw [hun]), fun off ho => (h1 off ho).trans (hur off), (hu ▸ ChannelOnly.setMc s c _ : ChannelOnly c s u).trans
    (.of_parts h1 (fun d hd hne h => by simp only [R.MC_STAT] at h; omega) (h2.same .mc) (h2.same .rld))⟩
  rw [State.mcOf_of_mc (h2.same .mc), hum]

/-! Time (R487). -/

/-- Refreshes that fall due move only what is owed. -/
theorem owes_leave (k : List Nat) (m : Mc) : ∃ owed rot, k.foldl (fun m _ => m.owe) m = { m with owed := owed, rot := rot } := by
  induction k generalizing m with
  | nil => exact ⟨m.owed, m.rot, rfl⟩
  | cons a k ih =>
    obtain ⟨o, r, h⟩ := ih m.owe
    exact ⟨o, r, h⟩

/-- Slots that pass at a channel. -/
theorem mcPass_leaves (s : State) (c k : Nat) : ((s.mcPass c k).mcOf c).slot = (s.mcOf c).slot + k ∧ WorkKept s c (s.mcPass c k) ∧
    ((s.mcPass c k).mcOf c).want = (s.mcOf c).want ∧ ((s.mcPass c k).mcOf c).wantHalt = (s.mcOf c).wantHalt ∧
    ((s.mcPass c k).mcOf c).alert = (s.mcOf c).alert ∧
    ChannelOnly c s (s.mcPass c k) ∧ Only [.mc] s (s.mcPass c k) := by
  obtain ⟨acc, per, hm⟩ : ∃ acc per, (s.mcPass c k) = s.setMc c (((List.range (acc / per)).foldl (fun m _ => m.owe) { s.mcOf c with acc := acc % per, slot := (s.mcOf c).slot + k })
      |> fun m1 => { m1 with
        spent := (List.range 4).foldl (fun t p => Tbl.set (fun _ => 0) t p (Tbl.get (fun _ => 0) t p - 25 * ((s.reg (R.MC_PORT_QOS c p)).toNat / 2 ^ 16 % 256) * k)) m1.spent
        buf := if m1.alert then m1.buf else m1.buf.filter fun b => m1.slot < b.1 + slotsOf (s.tPAR c) }) := ⟨_, _, rfl⟩
  obtain ⟨o, r, ho⟩ := owes_leave (List.range (acc / per)) { s.mcOf c with acc := acc % per, slot := (s.mcOf c).slot + k }
  rw [ho] at hm
  obtain ⟨x, hx, h1, h2, h3, h4, h5, h6, h7⟩ : ∃ x : Mc, s.mcPass c k = s.setMc c x ∧ x.slot = (s.mcOf c).slot + k ∧ x.reqs = (s.mcOf c).reqs ∧ x.q = (s.mcOf c).q ∧
      x.reads = (s.mcOf c).reads ∧ x.want = (s.mcOf c).want ∧ x.wantHalt = (s.mcOf c).wantHalt ∧ x.alert = (s.mcOf c).alert := ⟨_, hm, rfl, rfl, rfl, rfl, rfl, rfl, rfl⟩
  have hmc : (s.mcPass c k).mcOf c = x := hx ▸ State.mcOf_setMc s c x
  refine ⟨hmc ▸ h1, workKept_of hmc h2 h3 h4, hmc ▸ h5, hmc ▸ h6, hmc ▸ h7, hx ▸ .setMc s c x, (Only.refl _ s).mcPass _ _⟩

theorem getLsbD_bitOff (v : Word) {f : Fld} (hf : f.w = 1) {i : Nat} (h : i < 32) : (bitOff v f).getLsbD i = (v.getLsbD i && decide (i ≠ f.lo)) := by
  have hm : f.mask.getLsbD i = decide (i = f.lo) := by
    simpa [bitOn] using getLsbD_bitOn 0#32 hf h
  rw [bitOff, BitVec.getLsbD_and, BitVec.getLsbD_not, hm]
  simp [h]

/-! Writes of MC_CTRL (R468, R470, R498). -/

/-- A state that differs in one register alone, which is no MC_STAT. -/
structure StoredAt (off : Nat) (s u : State) : Prop where
  regs : Regs (· = off) s u
  only : Only [.csr] s u
  apart : ∀ d, R.MC_STAT d ≠ off

namespace StoredAt
variable {u : State} {off : Nat}

theorem mcOf (h : StoredAt off s u) (d : Nat) : u.mcOf d = s.mcOf d := State.mcOf_of_mc (h.only.same .mc) d

theorem mcState (h : StoredAt off s u) (d : Nat) : u.mcState d = s.mcState d := mcState_of_reg (h.regs _ (h.apart d))

theorem work (h : StoredAt off s u) (d : Nat) : WorkKept s d u := workKept_of (h.mcOf d) rfl rfl rfl

theorem channel (h : StoredAt off s u) (c : Nat) : ChannelOnly c s u :=
  .of_parts h.regs (fun d _ _ he => h.apart d he) (h.only.same .mc) (h.only.same .rld)

/-- Only registers of a list that holds the one stored change where a later operation keeps to that list. -/
theorem regsBut (h : StoredAt off s u) {l : List Nat} {P : Nat → Prop} (ht : Regs P u t) (hP : ∀ j, P j → j ∈ l) (hc : off ∈ l) : RegsBut l s t :=
  fun j ho => (ht j fun hp => ho (hP j hp)).trans (h.regs j fun he => ho (he ▸ hc))

end StoredAt

theorem mcCtrl_ne_stat (c d : Nat) : R.MC_STAT d ≠ R.MC_CTRL c := by simp only [R.MC_STAT, R.MC_CTRL]; omega

theorem mcSrCtrl_ne_stat (c d : Nat) : R.MC_STAT d ≠ R.MC_SR_CTRL c := by simp only [R.MC_STAT, R.MC_SR_CTRL]; omega

theorem mcEnable_on {u : State} {c : Nat} (hs : s.mcState c ≠ 2) (he : s.flag (R.MC_CTRL c) F.MC_CTRL_EN = true) : u.mcEnable s c true = u := by
  rw [State.mcEnable, if_pos rfl, if_neg hs, if_pos he]

theorem mcEnable_fresh {u : State} {c : Nat} (hs : s.mcState c = 2) :
    u.mcEnable s c true = if (u.bankValid c && u.timingValid c) = true then u.mcReady c else u.mcEnReject c := by
  rw [State.mcEnable, if_pos rfl, if_pos hs]

theorem mcEnable_off {u : State} {c : Nat} (hs : u.mcState c = 3) : u.mcEnable s c false = u := by
  rw [State.mcEnable, if_neg (by decide)]
  split
  · exact if_neg (by rw [hs]; decide)
  · rfl

/-- INIT goes before a freeze, and a thaw then finds no frozen channel. -/
theorem mcCtrl_init {u : State} {w : Word} (h0 : w.getLsbD 0 = true) (h7 : w.getLsbD 7 = true) (he : s.flag (R.MC_CTRL c) F.MC_CTRL_EN = true)
    (hs : s.mcState c = 3) : u.mcCtrl s c w = u.setMcState c 7 := by
  have hst := (setMcState_leaves u c (n := 7) (by decide)).1
  have hthaw : (u.setMcState c 7).mcThaw c = u.setMcState c 7 := if_neg (by rw [hst]; decide)
  rw [mcCtrl_eq, h0, mcEnable_on (by rw [hs]; decide) he, h7, hs]
  cases w.getLsbD 6 <;> cases w.getLsbD 5
  · rfl
  · exact hthaw
  · rfl
  · exact hthaw

theorem mcCtrl_freeze {u : State} {w : Word} (h0 : w.getLsbD 0 = true) (h7 : w.getLsbD 7 = false) (h6 : w.getLsbD 6 = true) (h5 : w.getLsbD 5 = false)
    (he : s.flag (R.MC_CTRL c) F.MC_CTRL_EN = true) (hs : s.mcState c = 3) : u.mcCtrl s c w = u.mcFreeze c false := by
  rw [mcCtrl_eq, h0, mcEnable_on (by rw [hs]; decide) he, h5, h6, h7, hs]
  rfl

theorem mcCtrl_unfreeze {u : State} {w : Word} (h0 : w.getLsbD 0 = true) (h5 : w.getLsbD 5 = true)
    (he : s.flag (R.MC_CTRL c) F.MC_CTRL_EN = true) (hs : s.mcState c = 8) : u.mcCtrl s c w = u.mcThaw c := by
  rw [mcCtrl_eq, h0, mcEnable_on (by rw [hs]; decide) he, h5, hs]
  cases w.getLsbD 6 <;> cases w.getLsbD 7 <;> rfl

/-- A freeze asked for in READY (R498). -/
theorem mcFreeze_ready (hs : s.mcState c = 3) : (s.mcFreeze c false).mcState c = 8 ∧ (s.mcFreeze c false).bit (R.MC_INT_STAT c) 10 = true ∧
    WorkKept s c (s.mcFreeze c false) ∧ ChannelOnly c s (s.mcFreeze c false) ∧ (s.mcFreeze c false).rld = s.rld := by
  obtain ⟨a, ha⟩ : ∃ a, a = s.setMc c { s.mcOf c with want := true } := ⟨_, rfl⟩
  have he : s.mcFreeze c false = a.mcReady c := by
    rw [ha]
    exact if_pos hs
  have hm : a.mcOf c = { s.mcOf c with want := true } := ha ▸ State.mcOf_setMc s c _
  obtain ⟨h1, h2, ⟨hq, hrq, hrd⟩, h4, h5⟩ := mcReady_frozen (s := a) (c := c) (by rw [hm]; rfl)
  rw [hm] at hq hrq hrd
  rw [he]
  refine ⟨h1, h2, ⟨hq, hrq, hrd⟩, (ha ▸ ChannelOnly.setMc s c _ : ChannelOnly c s a).trans h4, h5.trans ?_⟩
  rw [ha]
  rfl

/-- A frozen channel released: FROZEN again where a halt waits (R498). -/
theorem mcThaw_frozen (hs : s.mcState c = 8) : (s.mcThaw c).mcState c = (if (s.mcOf c).wantHalt then 8 else 3) ∧ WorkKept s c (s.mcThaw c) ∧
    ChannelOnly c s (s.mcThaw c) ∧ (s.mcThaw c).rld = s.rld := by
  obtain ⟨a, ha⟩ : ∃ a, a = s.setMc c { s.mcOf c with halt := false, want := false } := ⟨_, rfl⟩
  have he : s.mcThaw c = a.mcReady c := by
    rw [ha]
    exact if_pos hs
  have hm : a.mcOf c = { s.mcOf c with halt := false, want := false } := ha ▸ State.mcOf_setMc s c _
  have hsa : ChannelOnly c s a := ha ▸ ChannelOnly.setMc s c _
  have har : a.rld = s.rld := by
    rw [ha]
    rfl
  rw [he]
  by_cases hw : (s.mcOf c).wantHalt = true
  · obtain ⟨h1, -, ⟨hq, hrq, hrd⟩, h4, h5⟩ := mcReady_frozen (s := a) (c := c) (by rw [hm]; simp [hw])
    rw [hm] at hq hrq hrd
    exact ⟨h1.trans (if_pos hw).symm, ⟨hq, hrq, hrd⟩, hsa.trans h4, h5.trans har⟩
  · rw [mcReady_plain (by rw [hm]) (by rw [hm]; exact Bool.eq_false_iff.mpr hw)]
    obtain ⟨h1, -, -, h4, h5⟩ := setMcState_leaves a c (n := 3) (by decide)
    obtain ⟨hq, hrq, hrd⟩ := setMcState_work a c (n := 3) (by decide)
    rw [hm] at hq hrq hrd
    exact ⟨h1.trans (if_neg hw).symm, ⟨hq, hrq, hrd⟩, hsa.trans h4, (h5.same .rld).trans har⟩

/-- A move to another state leaves EN. -/
theorem setMcState_en (s : State) (c : Nat) {n : Nat} (hn : n < 2 ^ F.MC_STAT_STATE.w) :
    (s.setMcState c n).flag (R.MC_CTRL c) F.MC_CTRL_EN = s.flag (R.MC_CTRL c) F.MC_CTRL_EN :=
  State.flag_of_reg ((setMcState_leaves s c hn).2.1 _ (by simp only [R.MC_CTRL, R.MC_STAT, R.MT_PR_STAT]; omega)) _

/-! Self-refresh, initialisation and the channel map (R471, R474, R486). -/

theorem setMcState_ready_only (s : State) (c : Nat) : Only [.csr] s (s.setMcState c 3) := by
  have h : s.setMcState c 3 = (s.setFld (R.MC_STAT c) F.MC_STAT_STATE 3) ∨ ∃ p, s.setMcState c 3 = (s.setFld (R.MC_STAT c) F.MC_STAT_STATE 3).setFld (R.MT_PR_STAT c) F.MT_PR_STAT_STATE p := by
    unfold State.setMcState
    rw [if_pos rfl]
    dsimp only
    split
    · exact .inr ⟨_, rfl⟩
    · split
      · exact .inr ⟨_, rfl⟩
      · exact .inl rfl
  rcases h with h | ⟨p, h⟩
  · exact h ▸ (Only.refl _ s).setFld _ _ _
  · exact h ▸ ((Only.refl _ s).setFld _ _ _).setFld _ _ _

/-- ENTER moves a channel in READY, and EXIT one in SELF_REFRESH (R486). -/
theorem mcSrCtrl_enter {w : Word} (h31 : w.getLsbD 31 = true) (h30 : w.getLsbD 30 = false) (hs : s.mcState c = 3) : s.mcSrCtrl c w = s.setMcState c 4 := by
  unfold State.mcSrCtrl
  rw [h31, h30, hs]
  rfl

theorem mcSrCtrl_exit {w : Word} (h30 : w.getLsbD 30 = true) (hs : s.mcState c = 5) : s.mcSrCtrl c w = s.setMcState c 6 := by
  have hb : (w.getLsbD 31 && s.mcState c == 3) = false := by simp [hs]
  unfold State.mcSrCtrl
  dsimp only
  rw [hb, h30, State.when_false rfl, hs]
  rfl

/-- A lookup of a key that a filter takes away. -/
theorem Tbl.get_filter_away {α : Type} (d : Nat → α) (l : Tbl α) (p : Nat × α → Bool) (k : Nat) (h : ∀ x, p (k, x) = false) :
    Tbl.get d (l.filter p) k = d k := by
  induction l with
  | nil => rfl
  | cons x r ih =>
    obtain ⟨a, v⟩ := x
    by_cases ha : a = k
    · subst ha
      rw [List.filter_cons_of_neg (by simp [h v])]
      exact ih
    · by_cases hp : p (a, v) = true
      · rw [List.filter_cons_of_pos hp, Tbl.get, if_neg ha]
        exact ih
      · rw [List.filter_cons_of_neg hp]
        exact ih

/-- A channel initialised reads 0 everywhere (R471). -/
theorem rldWord_rldDrop (s : State) (c line w : Nat) (hl : line < 2 ^ 24) (hw : w < 8) : (s.rldDrop c true).rldWord c line w = ⟨0, true, []⟩ := by
  have hk : ∀ x : Option BmWord, ((rldKey c line w, x).1 / 2 ^ 27 != c) = false := fun x => by
    simp only [rldKey, bne_eq_false_iff_eq]
    omega
  have hz : (NSet.put s.rld.zero c true).has c = true := by
    rw [NSet.put, if_pos rfl, NSet.has_add]
    simp
  have he : (s.rldDrop c true).rld = ⟨s.rld.words.filter fun p => p.1 / 2 ^ 27 != c, s.rld.loss, NSet.put s.rld.zero c true⟩ := rfl
  unfold State.rldWord
  rw [he]
  dsimp only
  rw [Tbl.get_filter_away _ _ _ _ hk]
  dsimp only
  rw [if_pos hz]

theorem rowAt_mcMapCtrl : rowAt R.MC_MAP_CTRL = some (⟨0x7000, [], 0x00020040, 0, 0x00137770, 0, 0, 0, 0, 1⟩, []) := by decide

theorem rowAt_mcMapCh : rowAt R.MC_MAP_CH = some (⟨0x7004, [], 0x00fac688, 0, 0x00ffffff, 0, 0, 0, 0, 0⟩, []) := by decide

/-- A write of APPLY: the map register's own bits are staged, and the map is checked (R474). -/
theorem busWrite_mcMap {ep : Nat} {v : Word} (hw : s.mayWrite ep R.MC_MAP_CTRL) : ∃ u, Only [.csr, .stg] s u ∧ (∀ off, u.reg off = s.reg off) ∧
    u.staged R.MC_MAP_CTRL = ((s.staged R.MC_MAP_CTRL &&& ~~~ 0x137770) ||| (v &&& 0x137770)) ∧ u.staged R.MC_MAP_CH = s.staged R.MC_MAP_CH ∧
    s.busWrite ep R.MC_MAP_CTRL (bitOn v F.MC_MAP_CTRL_APPLY) = u.mcMapApply := by
  obtain ⟨r, hr⟩ : ∃ r : RegRow, r = ⟨0x7000, [], 0x00020040, 0, 0x00137770, 0, 0, 0, 0, 1⟩ := ⟨_, rfl⟩
  have hrow : rowAt R.MC_MAP_CTRL = some (r, []) := hr ▸ rowAt_mcMapCtrl
  obtain ⟨w, hwd⟩ : ∃ w, w = bitOn v F.MC_MAP_CTRL_APPLY := ⟨_, rfl⟩
  obtain ⟨o, ho⟩ : ∃ o, o = s.mcOpen 0 := ⟨_, rfl⟩
  have hbit : w &&& 0x137770 = v &&& 0x137770 := by
    rw [hwd, bitOn, show F.MC_MAP_CTRL_APPLY.mask = 1 by decide]
    ext i hi
    have : (1 : Word) &&& 0x137770 = 0 := by decide
    have hz : ((1 : Word) &&& 0x137770).getLsbD i = (0 : Word).getLsbD i := by rw [this]
    simp only [BitVec.getElem_and, BitVec.getElem_or, BitVec.getLsbD_eq_getElem hi] at hz ⊢
    rw [Bool.and_or_distrib_right, hz]
    simp
  have hold : r.after o (s.reg R.MC_MAP_CTRL) w = s.reg R.MC_MAP_CTRL := by
    rw [hr]
    cases o <;> simp [RegRow.after, word_and_ones]
  obtain ⟨u, hu⟩ : ∃ u, u = (s.setReg R.MC_MAP_CTRL (r.after o (s.reg R.MC_MAP_CTRL) w)).setStaged R.MC_MAP_CTRL (r.afterStaged (s.staged R.MC_MAP_CTRL) w) := ⟨_, rfl⟩
  have hstore : s.store o R.MC_MAP_CTRL w (fun t => t.mcLocked 0 0x7000) = u := by
    have hraw : s.rawWrite o R.MC_MAP_CTRL w = (u, r.lockedHit o (s.reg R.MC_MAP_CTRL) w) := by
      rw [State.rawWrite, hrow]
      dsimp only
      rw [if_neg (by rw [hr]; decide), hu]
    rw [State.store, hraw]
    exact State.when_false (by simp [RegRow.lockedHit, hr]) _ _
  refine ⟨u, hu ▸ ((Only.refl [.csr, .stg] s).setReg _ _).setStaged _ _, fun off => ?_, ?_, ?_, ?_⟩
  · rw [hu, State.reg_setStaged, State.reg_setReg, hold]
    split
    · next h => rw [h]
    · rfl
  · rw [hu, State.staged_setStaged, if_pos rfl, RegRow.afterStaged, hr, hbit]
  · rw [hu, State.staged_setStaged, if_neg (by decide), State.staged_setReg]
  · have hmask : mcMask 0x7000 w = w := if_neg (by decide)
    rw [← hwd, busWrite_mc (c := 0) (loc := 0x7000) (by decide) (by decide) (by decide) hw, State.mcWrite, if_pos (by decide), hmask, ← ho, hstore]
    dsimp only
    rw [State.when_false (by decide), State.mcAct, if_neg (by decide), if_neg (by decide), if_pos]
    rw [hwd, getLsbD_bitOn v rfl (by decide)]
    simp [F.MC_MAP_CTRL_APPLY]

/-- The map in effect after an APPLY that passes its check (R474). -/
theorem mcMapApply_valid (h : mapValid (s.staged R.MC_MAP_CTRL) (s.staged R.MC_MAP_CH) = true) :
    (s.mcMapApply.reg R.MC_MAP_CTRL &&& 0x137770) = (s.staged R.MC_MAP_CTRL &&& 0x137770) ∧
    (s.mcMapApply.reg R.MC_MAP_CH &&& 0xFFFFFF) = (s.staged R.MC_MAP_CH &&& 0xFFFFFF) ∧
    RegsBut [R.MC_MAP_CTRL, R.MC_MAP_CH] s s.mcMapApply ∧ Only [.csr, .stg] s s.mcMapApply := by
  have he : s.mcMapApply = (s.applyReg R.MC_MAP_CTRL).applyReg R.MC_MAP_CH := if_pos h
  have hm0 : stgMask R.MC_MAP_CTRL = 0x137770 := by
    rw [stgMask, rowAt_mcMapCtrl]
  have hm1 : stgMask R.MC_MAP_CH = 0xFFFFFF := by
    rw [stgMask, rowAt_mcMapCh]
  have hpick : ∀ a b m : Word, ((a &&& ~~~ m) ||| (b &&& m)) &&& m = b &&& m := fun a b m => by
    ext i hi
    simp only [BitVec.getElem_and, BitVec.getElem_or, BitVec.getElem_not]
    cases a[i] <;> cases b[i] <;> cases m[i] <;> rfl
  rw [he]
  refine ⟨?_, ?_, fun off ho => ?_, ((Only.refl _ s).applyReg _).applyReg _⟩
  · rw [State.reg_applyReg, if_neg (by decide), State.reg_applyReg, if_pos rfl, State.applied, hm0, hpick]
  · rw [State.reg_applyReg, if_pos rfl, State.applied, hm1, hpick, State.staged_applyReg, if_neg (by decide)]
  · simp only [List.mem_cons, List.not_mem_nil, or_false, not_or] at ho
    rw [State.reg_applyReg, if_neg ho.2, State.reg_applyReg, if_neg ho.1]

/-- A map that fails its check is refused and recorded (R474). -/
theorem mcMapApply_invalid (h : mapValid (s.staged R.MC_MAP_CTRL) (s.staged R.MC_MAP_CH) = false) :
    s.mcMapApply.flag (R.MC_STAT 0) F.MC_STAT_MAP_REJ = true ∧ RegsOr [R.MC_STAT 0] s s.mcMapApply := by
  obtain ⟨a, ha⟩ : ∃ a, a = s.setFlag (R.MC_STAT 0) F.MC_STAT_MAP_REJ true := ⟨_, rfl⟩
  have he : s.mcMapApply = a.mcRecord 0 7 0 0 := by
    rw [ha]
    exact if_neg (by simp [h])
  have hr : Regs (fun off => off / 0x10000 = 5) a s.mcMapApply := he ▸ (Regs.refl _ a).mcRecord _ _ _ _ (by omega) (by decide) fun off h => h
  refine ⟨?_, fun off ho h5 => (hr off h5).trans ?_⟩
  · rw [State.flag_of_reg (hr _ (by decide)), ha, State.flag_setFlag _ _ _ _ (by decide)]
  · rw [ha]
    exact (Regs.refl (· = R.MC_STAT 0) s).setFlag _ _ rfl off fun h => ho (List.mem_singleton.mpr h)

end

/-- Settles O38: a state and its work change only in the channel named; the checks of EN and of the map decide what a write does. -/
theorem channelStatesChange : Obligations.ChannelStatesChange := by
  unfold Obligations.ChannelStatesChange
  have hctrl : ∀ (ep : Fin 256) (c : Fin 8) (w : Word) (s : State), s.mayWrite ep (R.MC_CTRL c) → ∃ u, StoredAt (R.MC_CTRL c) s u ∧
      u.flag (R.MC_CTRL c) F.MC_CTRL_EN = w.getLsbD 0 ∧ s.busWrite ep (R.MC_CTRL c) w = u.mcCtrl s c w := fun ep c w s hw => by
    obtain ⟨u, hr, ho, hen, he⟩ := busWrite_mcCtrl (c := c) (w := w) hw
    exact ⟨u, ⟨hr, ho, mcCtrl_ne_stat c⟩, hen, he⟩
  have hsr : ∀ (ep : Fin 256) (c : Fin 8) (w : Word) (s : State), s.mayWrite ep (R.MC_SR_CTRL c) → ∃ u, StoredAt (R.MC_SR_CTRL c) s u ∧
      s.busWrite ep (R.MC_SR_CTRL c) w = u.mcSrCtrl c w := fun ep c w s hw => by
    obtain ⟨u, hr, ho, he⟩ := busWrite_mcSrCtrl (c := c) (w := w) hw
    exact ⟨u, ⟨hr, ho, mcSrCtrl_ne_stat c⟩, he⟩
  refine ⟨fun ep c v s hw => ⟨fun h5 h6 h7 hs => ⟨fun hbank htime hwant hhalt => ?enable, fun hbad => ?reject⟩, fun h5 h6 h7 hen hs => ?disable,
      fun h0 hen hs => ?init, fun h0 h7 h5 hen hs => ?freeze, fun h0 hen hs => ?unfreeze⟩,
    fun ep c v s hw => ⟨fun h30 hs => ?enter, fun hs => ?exit⟩,
    fun c s => ⟨fun hs hen hq hrd => ?drained, fun hs hidle hrq => ?idle, fun hs hq hrd hrq howed halert => ?srEntry, fun hs hcause => ?srExit,
      fun hs hwant hhalt => ?srDone, fun hs hwant hhalt => ?initDone⟩,
    fun ep v s hw => ?map⟩
  case enable =>
    obtain ⟨u, hu, hen, he⟩ := hctrl ep c (bitOn v F.MC_CTRL_EN) s hw
    have h0 : (bitOn v F.MC_CTRL_EN).getLsbD 0 = true := getLsbD_bitOn_self v rfl (by decide)
    obtain ⟨hb, ht⟩ := mcChecks_of hu.regs
    have hrun : s.busWrite ep (R.MC_CTRL c) (bitOn v F.MC_CTRL_EN) = u.setMcState c 3 := by
      rw [he, mcCtrl_enable (by rw [getLsbD_bitOn_apart v rfl (by decide) (by decide), h5]) (by rw [getLsbD_bitOn_apart v rfl (by decide) (by decide), h6])
        (by rw [getLsbD_bitOn_apart v rfl (by decide) (by decide), h7]), h0, mcEnable_fresh hs, hb, ht, hbank, htime,
        if_pos (Bool.and_self true), mcReady_plain (by rw [hu.mcOf]; exact hwant) (by rw [hu.mcOf]; exact hhalt)]
    obtain ⟨hst, hreg, hmc, hch, -⟩ := setMcState_leaves u c (n := 3) (by decide)
    refine ⟨_, congrArg Host.Outcome.next hrun, ?_, hst, (hmc.trans (if_pos rfl)).trans (hu.mcOf c), ((hu.channel c).trans hch).others,
      hu.regsBut hreg (fun j hj => by simpa using .inr hj) (by simp)⟩
    rw [setMcState_en _ _ (by decide), hen, h0]
  case reject =>
    obtain ⟨u, hu, hen, he⟩ := hctrl ep c (bitOn v F.MC_CTRL_EN) s hw
    have h0 : (bitOn v F.MC_CTRL_EN).getLsbD 0 = true := getLsbD_bitOn_self v rfl (by decide)
    obtain ⟨hb, ht⟩ := mcChecks_of hu.regs
    have hrun : s.busWrite ep (R.MC_CTRL c) (bitOn v F.MC_CTRL_EN) = u.mcEnReject c := by
      rw [he, mcCtrl_enable (by rw [getLsbD_bitOn_apart v rfl (by decide) (by decide), h5]) (by rw [getLsbD_bitOn_apart v rfl (by decide) (by decide), h6])
        (by rw [getLsbD_bitOn_apart v rfl (by decide) (by decide), h7]), h0, mcEnable_fresh hs, hb, ht]
      exact if_neg (by rcases hbad with h | h <;> simp [h])
    obtain ⟨ht0, htrej, htst, htch, hreg⟩ := mcEnReject_leaves u c.2
    exact ⟨_, congrArg Host.Outcome.next hrun, ht0, htst.trans ((hu.mcState c).trans hs), htrej, ((hu.channel c).trans htch).others,
      fun off ho h5 => (hreg off (not_or.mpr ⟨ho, h5⟩)).trans (hu.regs off fun h => ho (h ▸ List.mem_cons_self ..))⟩
  case disable =>
    obtain ⟨u, hu, he0, he⟩ := hctrl ep c (bitOff v F.MC_CTRL_EN) s hw
    have hoff : ∀ i, i < 32 → (bitOff v F.MC_CTRL_EN).getLsbD i = (v.getLsbD i && decide (i ≠ 0)) := fun i hi =>
      getLsbD_bitOff v rfl hi
    have hst : u.mcState c = 3 := (hu.mcState c).trans hs
    have hrun : s.busWrite ep (R.MC_CTRL c) (bitOff v F.MC_CTRL_EN) = u := by
      rw [he, mcCtrl_enable (by rw [hoff 5 (by decide), h5]; rfl) (by rw [hoff 6 (by decide), h6]; rfl) (by rw [hoff 7 (by decide), h7]; rfl),
        hoff 0 (by decide), Bool.and_eq_false_iff.mpr (.inr (by decide)), mcEnable_off hst]
    refine ⟨_, congrArg Host.Outcome.next hrun, ?_, hst, hu.regsBut (Regs.refl (fun _ => False) u) (fun _ h => h.elim) (by simp), hu.only⟩
    rw [he0, hoff 0 (by decide)]
    simp
  case init =>
    obtain ⟨u, hu, -, he⟩ := hctrl ep c (bitOn v F.MC_CTRL_INIT) s hw
    have hrun : s.busWrite ep (R.MC_CTRL c) (bitOn v F.MC_CTRL_INIT) = u.setMcState c 7 :=
      he.trans (mcCtrl_init (by rw [getLsbD_bitOn_apart v rfl (by decide) (by decide), h0]) (getLsbD_bitOn_self v rfl (by decide)) hen hs)
    obtain ⟨hst, hreg, -, hch, honly⟩ := setMcState_leaves u c (n := 7) (by decide)
    obtain ⟨hq, hrq, hrd⟩ := setMcState_work u c (n := 7) (by decide)
    rw [hu.mcOf] at hq hrq hrd
    exact ⟨_, congrArg Host.Outcome.next hrun, hst, ⟨hq, hrq, hrd⟩, ((hu.channel c).trans hch).others,
      hu.regsBut hreg (fun j hj => by simpa using .inr hj) (by simp), (hu.only.mono (by simp)).trans honly⟩
  case freeze =>
    obtain ⟨u, hu, -, he⟩ := hctrl ep c (bitOn v F.MC_CTRL_FREEZE) s hw
    have hrun : s.busWrite ep (R.MC_CTRL c) (bitOn v F.MC_CTRL_FREEZE) = u.mcFreeze c false :=
      he.trans (mcCtrl_freeze (by rw [getLsbD_bitOn_apart v rfl (by decide) (by decide), h0]) (by rw [getLsbD_bitOn_apart v rfl (by decide) (by decide), h7])
        (getLsbD_bitOn_self v rfl (by decide)) (by rw [getLsbD_bitOn_apart v rfl (by decide) (by decide), h5]) hen hs)
    obtain ⟨hst, hbit, ⟨hq, hrq, hrd⟩, hch, hrld⟩ := mcFreeze_ready ((hu.mcState c).trans hs)
    rw [hu.mcOf] at hq hrq hrd
    exact ⟨_, congrArg Host.Outcome.next hrun, hst, hbit, ⟨hq, hrq, hrd⟩, hrld.trans (hu.only.same .rld), ((hu.channel c).trans hch).others⟩
  case unfreeze =>
    obtain ⟨u, hu, -, he⟩ := hctrl ep c (bitOn v F.MC_CTRL_UNFREEZE) s hw
    have hrun : s.busWrite ep (R.MC_CTRL c) (bitOn v F.MC_CTRL_UNFREEZE) = u.mcThaw c :=
      he.trans (mcCtrl_unfreeze (by rw [getLsbD_bitOn_apart v rfl (by decide) (by decide), h0]) (getLsbD_bitOn_self v rfl (by decide)) hen hs)
    obtain ⟨hst, ⟨hq, hrq, hrd⟩, hch, hrld⟩ := mcThaw_frozen ((hu.mcState c).trans hs)
    rw [hu.mcOf] at hst hq hrq hrd
    exact ⟨_, congrArg Host.Outcome.next hrun, hst, ⟨hq, hrq, hrd⟩, hrld.trans (hu.only.same .rld), ((hu.channel c).trans hch).others⟩
  case enter =>
    obtain ⟨u, hu, he⟩ := hsr ep c (bitOn v F.MC_SR_CTRL_ENTER) s hw
    have hrun : s.busWrite ep (R.MC_SR_CTRL c) (bitOn v F.MC_SR_CTRL_ENTER) = u.setMcState c 4 :=
      he.trans (mcSrCtrl_enter (getLsbD_bitOn_self v rfl (by decide)) (by rw [getLsbD_bitOn_apart v rfl (by decide) (by decide), h30]) ((hu.mcState c).trans hs))
    obtain ⟨hst, hreg, -, hch, honly⟩ := setMcState_leaves u c (n := 4) (by decide)
    obtain ⟨hq, hrq, hrd⟩ := setMcState_work u c (n := 4) (by decide)
    rw [hu.mcOf] at hq hrq hrd
    exact ⟨_, congrArg Host.Outcome.next hrun, hst, ⟨hq, hrq, hrd⟩, ((hu.channel c).trans hch).others,
      hu.regsBut hreg (fun j hj => by simpa using .inr hj) (by simp), (hu.only.mono (by simp)).trans honly⟩
  case exit =>
    obtain ⟨u, hu, he⟩ := hsr ep c (bitOn v F.MC_SR_CTRL_EXIT) s hw
    have hrun : s.busWrite ep (R.MC_SR_CTRL c) (bitOn v F.MC_SR_CTRL_EXIT) = u.setMcState c 6 :=
      he.trans (mcSrCtrl_exit (getLsbD_bitOn_self v rfl (by decide)) ((hu.mcState c).trans hs))
    obtain ⟨hst, hreg, -, hch, honly⟩ := setMcState_leaves u c (n := 6) (by decide)
    obtain ⟨hq, hrq, hrd⟩ := setMcState_work u c (n := 6) (by decide)
    rw [hu.mcOf] at hq hrq hrd
    exact ⟨_, congrArg Host.Outcome.next hrun, hst, ⟨hq, hrq, hrd⟩, ((hu.channel c).trans hch).others,
      hu.regsBut hreg (fun j hj => by simpa using .inr hj) (by simp), (hu.only.mono (by simp)).trans honly⟩
  case drained =>
    obtain ⟨hst, -, hmc, hch, honly⟩ := setMcState_leaves s c (n := 2) (by decide)
    obtain ⟨hreqs, hflight, hreg, hch'⟩ := mcAnswerAll_leaves (s.setMcState c 2) c
    rw [if_neg (by decide)] at hmc
    rw [hmc, honly.same .noc] at hflight
    refine ⟨_, congrArg Host.Outcome.next (if_pos (by simp [hs, hen, hq, hrd])), ?_, hreqs, hflight, (hch.trans hch').others⟩
    rw [mcState_of_reg (hreg _ (by simp only [R.MC_STAT]; omega)), hst]
  case idle =>
    obtain ⟨hst, hreg, -, hch, honly⟩ := setMcState_leaves s c (n := 4) (by decide)
    exact ⟨_, congrArg Host.Outcome.next (if_pos (by simp [hs, hidle, hrq])), hst, fun j hj => hreg j (by simpa using hj), hch.others, honly.mono (by simp)⟩
  case srEntry =>
    obtain ⟨a, ha⟩ : ∃ a, a = s.setMc c { s.mcOf c with srAt := (s.mcOf c).slot } := ⟨_, rfl⟩
    have ham : a.mcOf c = { s.mcOf c with srAt := (s.mcOf c).slot } := ha ▸ State.mcOf_setMc s c _
    have hareg : ∀ off, a.reg off = s.reg off := fun off => by
      rw [ha]
      rfl
    obtain ⟨hst, hreg, hmc, hch, honly⟩ := setMcState_leaves a c (n := 5) (by decide)
    obtain ⟨hbit, hreg', honly'⟩ := mcEvent_leaves (a.setMcState c 5) c (b := 6) (by decide)
    rw [if_neg (by decide), ham] at hmc
    have hrun : execMcSelfRefreshEntry c s = .next ((a.setMcState c 5).mcEvent c 6) := by
      rw [ha]
      exact congrArg Host.Outcome.next (if_pos (by simp [hs, hq, hrd, hrq, howed, halert]))
    refine ⟨_, hrun, ?_, hbit, ?_, (((ha ▸ ChannelOnly.setMc s c _ : ChannelOnly c s a).trans hch).trans (mcEvent_channel _ c 6)).others, fun j hj => ?_, ?_⟩
    · rw [mcState_of_reg (hreg' _ (by simp only [R.MC_STAT, R.MC_INT_STAT]; omega)), hst]
    · rw [State.mcOf_of_mc (honly'.same .mc), hmc]
    · simp only [List.mem_cons, List.not_mem_nil, or_false, not_or] at hj
      exact (hreg' j hj.2.2).trans ((hreg j (not_or.mpr ⟨hj.1, hj.2.1⟩)).trans (hareg j))
    · exact ((ha ▸ (Only.refl [.csr, .ic, .mc] s).setMc _ _ : Only [.csr, .ic, .mc] s a).trans (honly.mono (by simp))).trans (honly'.mono (by simp))
  case srExit =>
    obtain ⟨k, hk⟩ : ∃ k, k = (s.mcOf c).srAt + slotsOf (s.tCKESR c) - (s.mcOf c).slot := ⟨_, rfl⟩
    obtain ⟨hslot, ⟨-, hrq, -⟩, -, -, -, hch, honly⟩ := mcPass_leaves s c k
    obtain ⟨hst, -, hmc, hch', honly'⟩ := setMcState_leaves (s.mcPass c k) c (n := 6) (by decide)
    rw [if_neg (by decide)] at hmc
    have hrun : execMcSrExitStart c s = .next ((s.mcPass c k).setMcState c 6) := by
      rw [hk]
      exact congrArg Host.Outcome.next (if_pos (by rcases hcause with h | h <;> simp [hs, h]))
    refine ⟨_, hrun, hst, ?_, ?_, (hch.trans hch').others, (honly.mono (by simp)).trans honly'⟩
    · rw [hmc]
      exact hrq
    · rw [hmc]
      show _ ≤ ((s.mcPass c k).mcOf c).slot
      omega
  case srDone =>
    obtain ⟨k, hk⟩ : ∃ k, k = (s.tXS c * s.mcMhz c + 3999) / 4000 := ⟨_, rfl⟩
    obtain ⟨-, ⟨-, hrq, -⟩, hw1, hw2, -, hch, honly⟩ := mcPass_leaves s c k
    obtain ⟨a, ha⟩ : ∃ a, a = (s.mcPass c k).setMc c { (s.mcPass c k).mcOf c with owed := [], acc := 0 } := ⟨_, rfl⟩
    have ham : a.mcOf c = { (s.mcPass c k).mcOf c with owed := [], acc := 0 } := ha ▸ State.mcOf_setMc _ c _
    have hrun : execMcSrExitDone c s = .next ((a.setMcState c 3).mcEvent c 7) := by
      rw [← mcReady_plain (s := a) (c := c) (by rw [ham]; exact hw1.trans hwant) (by rw [ham]; exact hw2.trans hhalt), ha, hk]
      exact congrArg Host.Outcome.next (if_pos hs)
    obtain ⟨hst, -, hmc, hch', honly'⟩ := setMcState_leaves a c (n := 3) (by decide)
    obtain ⟨hbit, hreg', honly''⟩ := mcEvent_leaves (a.setMcState c 3) c (b := 7) (by decide)
    have hm : ((a.setMcState c 3).mcEvent c 7).mcOf c = { (s.mcPass c k).mcOf c with owed := [], acc := 0 } := by
      rw [State.mcOf_of_mc (honly''.same .mc), hmc, if_pos rfl, ham]
    refine ⟨_, hrun, ?_, hbit, by rw [hm], by rw [hm]; exact hrq,
      (((hch.trans (ha ▸ ChannelOnly.setMc _ c _ : ChannelOnly c (s.mcPass c k) a)).trans hch').trans (mcEvent_channel _ c 7)).others, ?_⟩
    · rw [mcState_of_reg (hreg' _ (by simp only [R.MC_STAT, R.MC_INT_STAT]; omega)), hst]
    · exact ((ha ▸ (honly.mono (by simp : _ ⊆ [.csr, .ic, .mc])).setMc _ _ : Only [.csr, .ic, .mc] s a).trans (honly'.mono (by simp))).trans (honly''.mono (by simp))
  case initDone =>
    obtain ⟨-, hch, honly⟩ := rldDrop_leaves s c true
    obtain ⟨a, ha⟩ : ∃ a, a = s.rldDrop c true := ⟨_, rfl⟩
    have hwords := rldWord_rldDrop s c
    rw [← ha] at hch honly hwords
    have ham : a.mcOf c = s.mcOf c := State.mcOf_of_mc (honly.same .mc) c
    have hrun : execMcInitDone c s = .next ((a.setMcState c 3).mcEvent c 8) := by
      rw [← mcReady_plain (s := a) (c := c) (by rw [ham]; exact hwant) (by rw [ham]; exact hhalt), ha]
      exact congrArg Host.Outcome.next (if_pos hs)
    obtain ⟨hst, -, -, hch', -⟩ := setMcState_leaves a c (n := 3) (by decide)
    have honly' := setMcState_ready_only a c
    obtain ⟨hbit, hreg', honly''⟩ := mcEvent_leaves (a.setMcState c 3) c (b := 8) (by decide)
    refine ⟨_, hrun, ?_, hbit, fun line w hl hw => ?_, ((hch.trans hch').trans (mcEvent_channel _ c 8)).others,
      ((honly.mono (by simp)).trans (honly'.mono (by simp))).trans (honly''.mono (by simp))⟩
    · rw [mcState_of_reg (hreg' _ (by simp only [R.MC_STAT, R.MC_INT_STAT]; omega)), hst]
    · rw [State.rldWord_of_rld ((honly''.same .rld).trans (honly'.same .rld))]
      exact hwords line w hl hw
  case map =>
    intro w
    obtain ⟨u, honly, hreg, hst, hch, he⟩ := busWrite_mcMap (v := v) hw
    have hrun : execMcMapApply ep v s = .next u.mcMapApply := congrArg Host.Outcome.next he
    refine ⟨fun hv => ?_, fun hv => ?_⟩
    · obtain ⟨h1, h2, h3, h4⟩ := mcMapApply_valid (s := u) (by rw [hst, hch]; exact hv)
      refine ⟨_, hrun, h1.trans ?_, h2.trans (by rw [hch]), fun j hj => (h3 j hj).trans (hreg j), honly.trans h4⟩
      rw [hst]
      ext i hi
      simp only [BitVec.getElem_and, BitVec.getElem_or, BitVec.getElem_not]
      cases (s.staged R.MC_MAP_CTRL)[i] <;> cases v[i] <;> cases (1275760 : Word)[i] <;> rfl
    · obtain ⟨h1, h2⟩ := mcMapApply_invalid (s := u) (by rw [hst, hch]; exact hv)
      exact ⟨_, hrun, (h2 _ (by decide) (by decide)).trans (hreg _), (h2 _ (by decide) (by decide)).trans (hreg _), h1, fun j hj h5 => (h2 j hj h5).trans (hreg j)⟩

end Sys2Proof.Machine
end

section
/-! ## RLD channels serve requests (O39) -/

namespace Sys2Proof.Machine

-- Elaborated in order: side by side, so many short proofs would each hold a thread with its stack.
set_option Elab.async false

open Sys2Proof

section
variable {s t : State} {c : Nat}

/-! Time, and the pieces of a request (R487, R489). -/

/-- Slots that pass leave the banks and the work of a channel. -/
theorem mcPass_free (s : State) (c k : Nat) : ((s.mcPass c k).mcOf c).free = (s.mcOf c).free := by
  obtain ⟨acc, per, hm⟩ : ∃ acc per, (s.mcPass c k) = s.setMc c (((List.range (acc / per)).foldl (fun m _ => m.owe) { s.mcOf c with acc := acc % per, slot := (s.mcOf c).slot + k })
      |> fun m1 => { m1 with
        spent := (List.range 4).foldl (fun t p => Tbl.set (fun _ => 0) t p (Tbl.get (fun _ => 0) t p - 25 * ((s.reg (R.MC_PORT_QOS c p)).toNat / 2 ^ 16 % 256) * k)) m1.spent
        buf := if m1.alert then m1.buf else m1.buf.filter fun b => m1.slot < b.1 + slotsOf (s.tPAR c) }) := ⟨_, _, rfl⟩
  obtain ⟨o, r, ho⟩ := owes_leave (List.range (acc / per)) { s.mcOf c with acc := acc % per, slot := (s.mcOf c).slot + k }
  rw [hm, ho, State.mcOf_setMc]

theorem mcForget_leaves (s : State) (c id : Nat) : (s.mcForget c id).mcOf c = { s.mcOf c with reqs := (s.mcOf c).reqs.filter fun r => r.id != id } ∧
    Only [.mc] s (s.mcForget c id) := ⟨State.mcOf_setMc _ _ _, (Only.refl _ s).mcForget _ _⟩

/-- An answer is one packet more, at the router of the endpoint (R316). -/
theorem respond_leaves (s : State) (e : Nat) (q : Packet) (status : Nat) (data : List Byte) : Only [.noc] s (s.respond e q status data) ∧
    ∃ p : Packet, (s.respond e q status data).noc.flight = s.noc.flight ++ [⟨routerOf e, p⟩] ∧ p.status = status ∧ p.dst = q.src ∧ p.ltag = q.ltag ∧
      (q.cmd = cmdRd → status = 0 → p.data = sliceBytes data 0 (q.len + 1)) := by
  refine ⟨(Only.refl _ s).respond _ _ _ _, _, rfl, rfl, rfl, rfl, fun hc hs => ?_⟩
  simp [hc, hs]

theorem turnAway_response {q : Packet} (h : q.vn ≠ 2) (s : State) (e status : Nat) : s.turnAway e q status = s.respond e q status [] := if_neg h

/-- Requests without those of an identity do not tell how those were changed. -/
theorem filter_changed (l : List McReq) (id : Nat) (f : McReq → McReq) (hf : ∀ x, x.id = id → (f x).id = id) :
    (l.map fun x => if x.id == id then f x else x).filter (fun x => x.id != id) = l.filter fun x => x.id != id := by
  induction l with
  | nil => rfl
  | cons x l ih =>
    rw [List.map_cons, List.filter_cons, List.filter_cons, ih]
    by_cases h : x.id = id
    · simp [h, hf x h]
    · simp [h]

/-! Admission (R467, R480). -/

/-- A request of one line takes its place. -/
theorem mcPlace_one {r : McReq} (hn : r.next = 0) (hf : (s.mcOf c).reqs.find? (fun x => x.id == r.id) = some r) (hl : r.lines = 1)
    (hroom : ((s.mcOf c).q.filter fun x => x.bank == (s.mcEntry c r 0).bank).length < 64) :
    (s.mcPlace c r.id r.lines).mcOf c = { s.mcOf c with
      q := (s.mcOf c).q ++ [s.mcEntry c r 0]
      reqs := (s.mcOf c).reqs.map fun x => if x.id == r.id then { x with next := x.next + 1 } else x
      arrived := NSet.add (s.mcOf c).arrived (s.mcEntry c r 0).bank } := by
  rw [hl, State.mcPlace]
  dsimp only
  rw [hf]
  dsimp only
  rw [hn, if_neg (by simp [hl]; omega), State.mcPlace, State.mcOf_setMc]

/-- The request placed is done with admission. -/
theorem mcPlace_done {r : McReq} (hn : r.next = 0) (hf : (s.mcOf c).reqs.find? (fun x => x.id == r.id) = some r) (hl : r.lines = 1)
    (hroom : ((s.mcOf c).q.filter fun x => x.bank == (s.mcEntry c r 0).bank).length < 64) :
    ((s.mcPlace c r.id r.lines).mcOf c).reqs.any (fun x => x.id == r.id && x.lines ≤ x.next) = true := by
  rw [mcPlace_one hn hf hl hroom]
  refine List.any_eq_true.mpr ⟨{ r with next := r.next + 1 }, List.mem_map.mpr ⟨r, List.mem_of_find?_eq_some hf, if_pos (by simp)⟩, ?_⟩
  have hlines : McReq.lines { r with next := r.next + 1 } = 1 := hl
  have hle : McReq.lines { r with next := r.next + 1 } ≤ r.next + 1 := by rw [hlines, hn]
  simp only [beq_self_eq_true, Bool.true_and, decide_eq_true_eq]
  exact hle

theorem mcAdmit_retired {port : Nat} {r : McReq} (hh : s.mcHead c port = some r) (hn : r.next = 0) (hl : r.lines = 1) (hr : s.retired c r.first = true) :
    s.mcAdmit c port = ((s.mcForget c r.id).turnAway (0x40 + 4 * c + port) r.pkt 7).count (R.MC_RETIRED_HIT c) F.MC_RETIRED_HIT_COUNT 1 := by
  rw [State.mcAdmit, hh]
  exact if_pos (by simp [hn, hl, hr])

theorem mcAdmit_read {port : Nat} {r : McReq} (hh : s.mcHead c port = some r) (hl : r.lines = 1) (hr : s.retired c r.first = false) (hcmd : r.pkt.cmd = cmdRd) :
    s.mcAdmit c port = s.mcPlace c r.id r.lines := by
  rw [State.mcAdmit, hh]
  dsimp only
  rw [if_neg (by simp [hl, hr]), if_neg (by simp [hcmd])]

theorem mcAdmit_write {port : Nat} {r : McReq} (hh : s.mcHead c port = some r) (hl : r.lines = 1) (hr : s.retired c r.first = false) (hcmd : r.pkt.cmd ≠ cmdRd)
    (hdone : ((s.mcPlace c r.id r.lines).mcOf c).reqs.any (fun x => x.id == r.id && x.lines ≤ x.next) = true) :
    s.mcAdmit c port = if r.pkt.vn = 2 then ((s.mcPlace c r.id r.lines).mcForget c r.id).mcAged c port r.slot
      else (((s.mcPlace c r.id r.lines).mcForget c r.id).mcAged c port r.slot).respond (0x40 + 4 * c + port) r.pkt 0 [] := by
  rw [State.mcAdmit, hh]
  dsimp only
  rw [if_neg (by simp [hl, hr]), hdone, if_pos (by simp [hcmd])]

/-- A write that has its place is forgotten, its age noted. -/
theorem written_leaves {port : Nat} {r : McReq} (hn : r.next = 0) (hf : (s.mcOf c).reqs.find? (fun x => x.id == r.id) = some r) (hl : r.lines = 1)
    (hroom : ((s.mcOf c).q.filter fun x => x.bank == (s.mcEntry c r 0).bank).length < 64) :
    let u := ((s.mcPlace c r.id r.lines).mcForget c r.id).mcAged c port r.slot
    (u.mcOf c).q = (s.mcOf c).q ++ [s.mcEntry c r 0] ∧ (u.mcOf c).reqs = (s.mcOf c).reqs.filter (fun x => x.id != r.id) ∧ Only [.csr, .ic, .mc] s u := by
  obtain ⟨hforget, honly⟩ := mcForget_leaves (s.mcPlace c r.id r.lines) c r.id
  have haged := (Only.refl [.csr, .ic] ((s.mcPlace c r.id r.lines).mcForget c r.id)).mcAged c port r.slot
  have hplace := mcPlace_one hn hf hl hroom
  have hm := (State.mcOf_of_mc (haged.same .mc) c).trans hforget
  refine ⟨?_, ?_, ((((Only.refl [.mc] s).mcPlace c r.id r.lines).trans honly).mono (by simp)).trans (haged.mono (by simp))⟩
  · rw [hm, hplace]
  · rw [hm, hplace]
    exact filter_changed _ _ (fun x => { x with next := x.next + 1 }) fun _ h => h

/-! Stored words (R471, R499). -/

/-- The word a write of a line leaves where it covers the whole word. -/
def wholeWord (bytes : List Byte) (off w : Nat) : BmWord := ⟨BitVec.ofNat 72 (leNat (sliceBytes bytes (8 * w - off) 8)), true, []⟩

theorem rldWord_setRldWord (s : State) (c line w d line' w' : Nat) (x : BmWord) :
    (s.setRldWord c line w x).rldWord d line' w' = if rldKey d line' w' = rldKey c line w then x else s.rldWord d line' w' := by
  unfold State.rldWord State.setRldWord State.rldLoss
  dsimp only
  rw [Tbl.get_set]
  by_cases h : rldKey d line' w' = rldKey c line w
  · rw [if_pos h, if_pos h]
  · rw [if_neg h, if_neg h]

theorem rldWrite_untouched {off w : Nat} {bytes : List Byte} (h : 8 * w + 8 ≤ off ∨ off + bytes.length ≤ 8 * w) (s : State) (c line : Nat) (poison : Bool) :
    s.rldWrite c line w off bytes poison = s := by
  refine if_pos ?_
  simp
  omega

/-- What a write of a word leaves of the others. -/
theorem rldWrite_other (s : State) (c line w off : Nat) (bytes : List Byte) (poison : Bool) {d line' w' : Nat} (hne : rldKey d line' w' ≠ rldKey c line w) :
    (s.rldWrite c line w off bytes poison).rldWord d line' w' = s.rldWord d line' w' := by
  have hmem : ∀ (t : State) (b : Bool) (k : Nat), (t.when b fun t => t.mcMemory c k w line).rld = t.rld := fun t b k =>
    ((Only.refl [.csr, .ic, .err] t).when b fun _ h => h.mcMemory c k w line).same .rld
  unfold State.rldWrite
  dsimp only
  split
  · rfl
  · rw [State.rldWord_of_rld ((hmem _ _ _).trans (hmem _ _ _)), rldWord_setRldWord, if_neg hne]

/-- A write that covers the word leaves the bytes as given. -/
theorem rldWrite_whole (s : State) (c line : Nat) {w off : Nat} {bytes : List Byte} (h1 : off ≤ 8 * w) (h2 : 8 * w + 8 ≤ off + bytes.length) :
    (s.rldWrite c line w off bytes false).rldWord c line w = wholeWord bytes off w := by
  have hmem : ∀ (t : State) (b : Bool) (k : Nat), (t.when b fun t => t.mcMemory c k w line).rld = t.rld := fun t b k =>
    ((Only.refl [.csr, .ic, .err] t).when b fun _ h => h.mcMemory c k w line).same .rld
  have hall : (List.range 8).all (fun i => off ≤ 8 * w + i && 8 * w + i < off + bytes.length) = true := by
    simp
    omega
  have hany : (List.range 8).any (fun i => off ≤ 8 * w + i && 8 * w + i < off + bytes.length) = true := by
    simp
    exact ⟨0, by omega⟩
  have hbytes : (List.range 8).map (fun i => if (off ≤ 8 * w + i && 8 * w + i < off + bytes.length) = true then bytes.getD (8 * w + i - off) 0 else (bytes64 (s.rldRead c line w).1).getD i 0) =
      sliceBytes bytes (8 * w - off) 8 := by
    have hlen : 8 ≤ (bytes.drop (8 * w - off)).length := by
      rw [List.length_drop]
      omega
    rw [sliceBytes, Nat.sub_eq_zero_of_le hlen, List.replicate_zero, List.append_nil]
    refine List.ext_getElem (by rw [List.length_map, List.length_range, List.length_take, Nat.min_eq_left hlen]) fun i hi _ => ?_
    rw [List.length_map, List.length_range] at hi
    rw [List.getElem_map, List.getElem_range, if_pos (List.all_eq_true.mp hall i (List.mem_range.mpr hi)), List.getElem_take, List.getElem_drop,
      List.getD_eq_getElem _ _ (by omega)]
    congr 1
    omega
  unfold State.rldWrite
  dsimp only
  rw [hany, if_neg (by decide), hall, State.rldWord_of_rld ((hmem _ _ _).trans (hmem _ _ _)), rldWord_setRldWord, if_pos rfl, hbytes]
  rfl

/-- A write of a line, word by word: what it leaves of any word that no step of it touches. -/
theorem rldWrites_other (l : List Nat) (s : State) (c line off : Nat) (bytes : List Byte) (poison : Bool) {d line' w' : Nat}
    (h : ∀ w ∈ l, rldKey d line' w' ≠ rldKey c line w ∨ 8 * w + 8 ≤ off ∨ off + bytes.length ≤ 8 * w) :
    (s.forEach l fun t w => t.rldWrite c line w off bytes poison).rldWord d line' w' = s.rldWord d line' w' := by
  induction l generalizing s with
  | nil => rfl
  | cons w l ih =>
    refine (ih (s.rldWrite c line w off bytes poison) fun x hx => h x (List.mem_cons_of_mem _ hx)).trans ?_
    rcases h w (List.mem_cons_self ..) with hne | hno
    · exact rldWrite_other s c line w off bytes poison hne
    · rw [rldWrite_untouched hno]

/-- A write of a line leaves the bytes as given in every word it covers. -/
theorem rldWrites_whole {l : List Nat} {w : Nat} (hw : w ∈ l) (hl : ∀ x ∈ l, x < 8) (s : State) (c line : Nat) {off : Nat} {bytes : List Byte}
    (h1 : off ≤ 8 * w) (h2 : 8 * w + 8 ≤ off + bytes.length) :
    (s.forEach l fun t w => t.rldWrite c line w off bytes false).rldWord c line w = wholeWord bytes off w := by
  induction l generalizing s with
  | nil => exact absurd hw (List.not_mem_nil)
  | cons x l ih =>
    by_cases hin : w ∈ l
    · exact ih hin (fun y hy => hl y (List.mem_cons_of_mem _ hy)) _
    · have hx : w = x := (List.mem_cons.mp hw).resolve_right hin
      subst hx
      refine (rldWrites_other l _ c line off bytes false fun y hy => .inl ?_).trans (rldWrite_whole s c line h1 h2)
      have : y ≠ w := fun he => hin (he ▸ hy)
      simp only [rldKey]
      omega

/-! A channel's work beside its events (R480, R498). -/

/-- The requests, the queue, the reads, the banks and the time of two records of a channel agree. -/
structure SameWork (m n : Mc) : Prop where
  reqs : n.reqs = m.reqs
  q : n.q = m.q
  reads : n.reads = m.reads
  free : n.free = m.free
  slot : n.slot = m.slot

/-- A freeze that an uncorrectable word asks for (R498). -/
theorem mcFreezeUe_leaves (s : State) (c : Nat) (b : Bool) : SameWork (s.mcOf c) ((s.mcFreezeUe c b).mcOf c) ∧ Only [.csr, .ic, .mc] s (s.mcFreezeUe c b) := by
  refine ⟨?_, (Only.refl _ s).mcFreezeUe _ _⟩
  unfold State.mcFreezeUe
  refine State.when_rel (R := fun _ t => SameWork (s.mcOf c) (t.mcOf c)) s _ _ ⟨rfl, rfl, rfl, rfl, rfl⟩ fun _ => ?_
  obtain ⟨a, ha⟩ : ∃ a, a = s.setMc c { s.mcOf c with want := true } := ⟨_, rfl⟩
  have ham : a.mcOf c = { s.mcOf c with want := true } := ha ▸ State.mcOf_setMc s c _
  have he : s.mcFreeze c false = if s.mcState c = 3 then a.mcReady c else a := by
    rw [ha]
    rfl
  obtain ⟨x, hx⟩ : ∃ x, x = a.setMcState c 8 := ⟨_, rfl⟩
  obtain ⟨-, -, hmc, -, -⟩ := hx ▸ setMcState_leaves a c (n := 8) (by decide)
  rw [if_neg (by decide), ham] at hmc
  have hready : a.mcReady c = (x.setMc c { x.mcOf c with want := false, wantHalt := false, halt := (a.mcOf c).wantHalt }).mcEvent c 10 := by
    rw [hx]
    exact if_pos (by rw [ham]; rfl)
  rw [he]
  split
  · rw [hready, State.mcOf_of_mc ((mcEvent_leaves _ c (b := 10) (by decide)).2.2.same .mc), State.mcOf_setMc, hmc]
    exact ⟨rfl, rfl, rfl, rfl, rfl⟩
  · rw [ham]
    exact ⟨rfl, rfl, rfl, rfl, rfl⟩

/-! Command slots (R481, R482, R488). -/

theorem mcCommandIssue_refresh {c : Fin 8} {b : Nat} {f : Bool} (hs : s.mcState c = 3) (ha : (s.mcOf c).alert = false) (hclk : s.bit R.CLK_MC_LOST (8 + c) = true)
    (hp : s.refreshPick c = some (b, f)) : exec (.mcCommandIssue c []) s = .next ((s.issueRefresh c b f).mcPass c 1) := by
  refine congrArg (fun t : State => Host.Outcome.next (t.mcPass c 1)) ?_
  rw [hs, ha, hclk, if_neg (by decide), hp]

theorem mcCommandIssue_data {c : Fin 8} (hs : s.mcState c = 3) (ha : (s.mcOf c).alert = false) (hclk : s.bit R.CLK_MC_LOST (8 + c) = true)
    (hp : s.refreshPick c = none) : exec (.mcCommandIssue c []) s = .next ((s.issueData c []).mcPass c 1) := by
  refine congrArg (fun t : State => Host.Outcome.next (t.mcPass c 1)) ?_
  rw [hs, ha, hclk, if_neg (by decide), hp]
  rfl

theorem issueData_winner {e : McEnt} (hw : s.winner c = some e) (hg : s.gapPassed c e.write = true) : s.issueData c [] = s.issueEntry c e := by
  rw [State.issueData, hw]
  dsimp only
  rw [if_pos hg]
  cases hb : !e.write || e.partialWrite <;> rfl

/-- A refresh of a bank (R482). -/
theorem issueRefresh_leaves (s : State) (c : Nat) (b : Nat) (f : Bool) :
    ((s.issueRefresh c b f).mcOf c).slot = (s.mcOf c).slot ∧ ((s.issueRefresh c b f).mcOf c).q = (s.mcOf c).q ∧
    Tbl.get (fun _ => 0) ((s.issueRefresh c b f).mcOf c).free b = (s.mcOf c).slot + max 1 (slotsOf (s.tRC c)) ∧
    (f = true → (s.issueRefresh c b f).bit (R.MC_INT_STAT c) 5 = true ∧
      ((s.issueRefresh c b f).reg (R.MC_REF_FORCED c)).toNat = min ((s.reg (R.MC_REF_FORCED c)).toNat + 1) (2 ^ 32 - 1)) ∧
    Only [.csr, .ic, .mc] s (s.issueRefresh c b f) := by
  obtain ⟨m, hm⟩ : ∃ m, m = (s.mcOf c).occupy b (s.tRC c) := ⟨_, rfl⟩
  obtain ⟨x, hx⟩ : ∃ x : Mc, x = { m with owed := Tbl.set (fun _ => 0) m.owed b (Tbl.get (fun _ => 0) m.owed b - 1), buf := m.buf ++ [(m.slot, .refresh b)] } := ⟨_, rfl⟩
  obtain ⟨a, ha⟩ : ∃ a, a = s.setMc c x := ⟨_, rfl⟩
  have ham : a.mcOf c = x := ha ▸ State.mcOf_setMc s c x
  have hareg : ∀ off, a.reg off = s.reg off := fun off => by
    rw [ha]
    rfl
  have he : s.issueRefresh c b f = a.when f fun t => (t.count (R.MC_REF_FORCED c) F.MC_REF_FORCED_COUNT 1).mcEvent c 5 := by
    rw [ha, hx, hm]
    rfl
  have honly : Only [.csr, .ic] a (s.issueRefresh c b f) := he ▸ (Only.refl [.csr, .ic] a).when f fun _ h => (h.count _ _ _).mcEvent _ _
  rw [State.mcOf_of_mc (honly.same .mc), ham]
  refine ⟨by rw [hx, hm]; rfl, by rw [hx, hm]; rfl, ?_, fun hf => ?_, (ha ▸ (Only.refl [.csr, .ic, .mc] s).setMc _ _ : Only [.csr, .ic, .mc] s a).trans (honly.mono (by simp))⟩
  · rw [hx, hm]
    exact (Tbl.get_set _ _ _ _ _).trans (if_pos rfl)
  · obtain ⟨hbit, hreg, -⟩ := mcEvent_leaves (a.count (R.MC_REF_FORCED c) F.MC_REF_FORCED_COUNT 1) c (b := 5) (by decide)
    rw [he, hf, State.when_true rfl]
    refine ⟨hbit, ?_⟩
    rw [hreg _ (by simp only [R.MC_REF_FORCED, R.MC_INT_STAT]; omega), ← hareg]
    exact State.toNat_count a _ 1

/-- A line served (R481, R488). -/
theorem issueEntry_leaves (s : State) (c : Nat) (e : McEnt) :
    ((s.issueEntry c e).mcOf c).slot = (s.mcOf c).slot ∧ ((s.issueEntry c e).mcOf c).q = (s.mcOf c).q.erase e ∧
    (e.write = false → (s.issueEntry c e).rld = s.rld ∧ ((s.issueEntry c e).mcOf c).reads = (s.mcOf c).reads ++
      [⟨e, (s.mcOf c).slot, (List.range 8).map fun w => s.rldRead c e.line w⟩]) ∧
    (e.write = true → ∃ t : State, (∀ d line w, t.rldWord d line w = s.rldWord d line w) ∧ ∀ d line w, (s.issueEntry c e).rldWord d line w =
      (t.forEach (List.range 8) fun t w => t.rldWrite c e.line w e.off e.bytes e.poison).rldWord d line w) ∧ (s.issueEntry c e).noc = s.noc := by
  obtain ⟨x, hx, h1, h2, h3⟩ : ∃ x : Mc, s.issueEntry c e = ((s.setMc c x).mcPerform c e (s.mcOf c).slot).mcFreezeUe c (s.mcBadWords c e) ∧
    x.slot = (s.mcOf c).slot ∧ x.q = (s.mcOf c).q.erase e ∧ x.reads = (s.mcOf c).reads := ⟨_, rfl, rfl, rfl, rfl⟩
  obtain ⟨a, ha⟩ : ∃ a, a = s.setMc c x := ⟨_, rfl⟩
  obtain ⟨p, hp⟩ : ∃ p, p = a.mcPerform c e (s.mcOf c).slot := ⟨_, rfl⟩
  have ham : a.mcOf c = x := ha ▸ State.mcOf_setMc s c x
  have har : a.rld = s.rld := by
    rw [ha]
    rfl
  rw [← ha, ← hp] at hx
  obtain ⟨hwork, hfreeze⟩ := mcFreezeUe_leaves p c (s.mcBadWords c e)
  have hnoc : p.noc = a.noc := by
    rw [hp]
    exact ((Only.refl [.csr, .ic, .err, .mc, .rld] a).mcPerform _ _ _).same .noc
  have han : a.noc = s.noc := by
    rw [ha]
    rfl
  rw [hx]
  cases hwr : e.write with
  | true =>
    have he : p = a.forEach (List.range 8) fun t w => t.rldWrite c e.line w e.off e.bytes e.poison := hp.trans (if_pos hwr)
    have hpm : p.mcOf c = x := by
      have honly : Only [.csr, .ic, .err, .rld] a p := he ▸ (Only.refl [.csr, .ic, .err, .rld] a).forEach _ fun _ _ h => h.rldWrite _ _ _ _ _ _
      rw [State.mcOf_of_mc (honly.same .mc), ham]
    refine ⟨by rw [hwork.slot, hpm, h1], by rw [hwork.q, hpm, h2], fun h => absurd h (by simp), fun _ => ⟨a, fun d line w => State.rldWord_of_rld har d line w, fun d line w => ?_⟩,
      (hfreeze.same .noc).trans (hnoc.trans han)⟩
    rw [State.rldWord_of_rld (hfreeze.same .rld), he]
  | false =>
    have he : p = a.setMc c { a.mcOf c with reads := (a.mcOf c).reads ++ [⟨e, (s.mcOf c).slot, (List.range 8).map fun w => a.rldRead c e.line w⟩] } :=
      hp.trans (if_neg (by simp [hwr]))
    have hpm : p.mcOf c = { x with reads := x.reads ++ [⟨e, (s.mcOf c).slot, (List.range 8).map fun w => s.rldRead c e.line w⟩] } := by
      have hread : (fun w => a.rldRead c e.line w) = fun w => s.rldRead c e.line w := by
        funext w
        unfold State.rldRead
        rw [State.rldWord_of_rld har]
      rw [he, State.mcOf_setMc, ham, hread]
    have hpr : p.rld = a.rld := by
      rw [he]
      rfl
    refine ⟨by rw [hwork.slot, hpm, h1], by rw [hwork.q, hpm, h2], fun _ => ⟨(hfreeze.same .rld).trans (hpr.trans har), by rw [hwork.reads, hpm, h3]⟩, fun h => absurd h (by simp),
      (hfreeze.same .noc).trans (hnoc.trans han)⟩

/-! Reads that complete (R484, R494). -/

/-- The one line of a read answers its request. -/
theorem mcDeliver_one {rd : McRead} {r : McReq} (hf : (s.mcOf c).reqs.find? (fun x => x.id == rd.ent.req) = some r) (hl : r.lines = 1) (hgot : r.got = [])
    (hbad : r.bad = false) (hline : rd.ent.line = r.first) (hlen : rd.words.length = 8) (hgood : ∀ p ∈ rd.words, p.2 = 0) :
    ∃ u : State, s.mcDeliver c rd = u.respond (0x40 + 4 * c + r.port) r.pkt 0 ((rd.words.flatMap fun w => bytes64 w.1).drop (r.pkt.loc % 64)) ∧
      (u.mcOf c).reads = (s.mcOf c).reads ∧ (u.mcOf c).reqs = (s.mcOf c).reqs.filter (fun x => x.id != r.id) ∧ Only [.csr, .ic, .mc] s u := by
  obtain ⟨ws, hws⟩ : ∃ ws, ws = ((List.range 8).zip rd.words).filter (fun p =>
      r.pkt.loc ≤ 64 * rd.ent.line + 8 * p.1 + 7 && 64 * rd.ent.line + 8 * p.1 ≤ r.pkt.loc + r.pkt.len) := ⟨_, rfl⟩
  have hzero : ∀ p ∈ ws, p.2.2 = 0 := fun p hp => by
    rw [hws] at hp
    exact hgood p.2 (List.of_mem_zip (List.mem_of_mem_filter hp)).2
  have hnone : ws.any (fun p => p.2.2 == 2) = false := List.any_eq_false.mpr fun p hp => by rw [hzero p hp]; decide
  obtain ⟨data, hdata⟩ : ∃ data, data = rd.words.flatMap fun w => bytes64 w.1 := ⟨_, rfl⟩
  have hne : data ≠ [] := by
    obtain ⟨w, l, hw⟩ : ∃ w l, rd.words = w :: l := List.exists_cons_of_length_eq_add_one hlen
    rw [hdata, hw, List.flatMap_cons]
    exact fun h => absurd (List.append_eq_nil_iff.mp h).1 (by simp [bytes64, leBytes])
  have hset : Tbl.set (fun _ => []) r.got (rd.ent.line - r.first) data = [(0, data)] := by
    rw [hgot, hline, Nat.sub_self]
    exact if_neg hne
  obtain ⟨a, ha⟩ : ∃ a, a = s.setMc c { s.mcOf c with reqs := (s.mcOf c).reqs.map fun x => if x.id == r.id then { r with got := [(0, data)], bad := false } else x } := ⟨_, rfl⟩
  have hloop : ∀ l : List (Nat × BitVec 64 × Nat), (∀ p ∈ l, p.2.2 = 0) → a.forEach l (fun t p => if p.2.2 = 0 then t else t.mcMemory c p.2.2 p.1 rd.ent.line) = a := fun l hl => by
    induction l with
    | nil => rfl
    | cons p l ih =>
      refine Eq.trans ?_ (ih fun x hx => hl x (List.mem_cons_of_mem _ hx))
      show (if p.2.2 = 0 then a else a.mcMemory c p.2.2 p.1 rd.ent.line).forEach l _ = _
      rw [if_pos (hl p (List.mem_cons_self ..))]
  obtain ⟨u, hu⟩ : ∃ u, u = (a.mcForget c r.id).mcAged c r.port r.slot := ⟨_, rfl⟩
  have he : s.mcDeliver c rd = u.respond (0x40 + 4 * c + r.port) r.pkt 0 (data.drop (r.pkt.loc % 64)) := by
    rw [State.mcDeliver, hf]
    dsimp only
    rw [← hws, ← hdata, hnone, hset, hbad, Bool.or_false, ← ha, hloop ws hzero, if_neg (by simp [hl]), hu]
    have hflat : ([(0, data)] : List (Nat × List Byte)).flatMap (fun p => p.2) = data := by simp
    rw [hflat]
    rfl
  obtain ⟨hforget, hmc⟩ := mcForget_leaves a c r.id
  have haged := hu ▸ (Only.refl [.csr, .ic] (a.mcForget c r.id)).mcAged c r.port r.slot
  have ham : a.mcOf c = { s.mcOf c with reqs := (s.mcOf c).reqs.map fun x => if x.id == r.id then { r with got := [(0, data)], bad := false } else x } :=
    ha ▸ State.mcOf_setMc s c _
  have hum := (State.mcOf_of_mc (haged.same .mc) c).trans hforget
  refine ⟨u, hdata ▸ he, ?_, ?_, ((ha ▸ (Only.refl [.mc] s).setMc _ _ : Only [.mc] s a).trans hmc).mono (by simp) |>.trans (haged.mono (by simp))⟩
  · rw [hum, ham]
  · rw [hum, ham]
    exact filter_changed _ _ (fun _ => { r with got := [(0, data)], bad := false }) fun _ _ => rfl

/-! Alerts and replay (R495, R496). -/

theorem mcParityAlert_of {c : Fin 8} (hp : s.flag (R.MC_CFG c) F.MC_CFG_PAR_EN = true) (hb : (s.mcOf c).buf ≠ []) {t : State}
    (ht : t = ((s.count (R.MC_ALERT_CNT c) F.MC_ALERT_CNT_COUNT 1).mcRecord c 1 0 ((s.mcOf c).alerts + 1)).mcEvent c 3) :
    exec (.mcParityAlert c) s = .next (if max 1 (s.fld (R.MC_CFG c) F.MC_CFG_MAX_RETRY) ≤ (s.mcOf c).alerts + 1 then t.mcFail c 2
      else t.setMc c { s.mcOf c with alert := true, alerts := (s.mcOf c).alerts + 1 }) := by
  have hcond : (!s.flag (R.MC_CFG c) F.MC_CFG_PAR_EN || (s.mcOf c).buf.isEmpty) = false := by simp [hp, hb]
  rw [ht]
  exact congrArg Host.Outcome.next (if_neg (by rw [hcond]; decide))

/-- An alert counted, recorded and raised (R495). -/
theorem alertNoted (s : State) (c : Fin 8) (n : Nat) : ∃ t, t = ((s.count (R.MC_ALERT_CNT c) F.MC_ALERT_CNT_COUNT 1).mcRecord c 1 0 n).mcEvent c 3 ∧
    t.bit (R.MC_INT_STAT c) 3 = true ∧ (t.reg (R.MC_ALERT_CNT c)).toNat = min ((s.reg (R.MC_ALERT_CNT c)).toNat + 1) (2 ^ 32 - 1) ∧
    ChannelOnly c s t ∧ t.mcState c = s.mcState c ∧ Only [.csr, .ic, .err] s t := by
  obtain ⟨a, ha⟩ : ∃ a, a = s.count (R.MC_ALERT_CNT c) F.MC_ALERT_CNT_COUNT 1 := ⟨_, rfl⟩
  obtain ⟨b, hb⟩ : ∃ b, b = a.mcRecord c 1 0 n := ⟨_, rfl⟩
  have hsa : Regs (· = R.MC_ALERT_CNT c) s a := ha ▸ (Regs.refl _ s).count _ _ _ rfl
  have hab : Regs (fun off => off / 0x10000 = 5) a b := hb ▸ (Regs.refl _ a).mcRecord _ _ _ _ (by omega) (by decide) fun off h => h
  obtain ⟨hbit, hbt, -⟩ := mcEvent_leaves b c (b := 3) (by decide)
  have honly : Only [.csr, .ic, .err] s (b.mcEvent c 3) := by
    rw [hb, ha]
    exact (((Only.refl [.csr, .ic, .err] s).count _ _ _).mcRecord _ _ _ _).mcEvent _ _
  have hst : ∀ d : Nat, d < 8 → (b.mcEvent c 3).reg (R.MC_STAT d) = s.reg (R.MC_STAT d) := fun d hd =>
    (hbt _ (by simp only [R.MC_STAT, R.MC_INT_STAT]; omega)).trans ((hab _ (by simp only [R.MC_STAT]; omega)).trans
      (hsa _ (by simp only [R.MC_STAT, R.MC_ALERT_CNT]; omega)))
  refine ⟨b.mcEvent c 3, by rw [hb, ha], hbit, ?_, ⟨fun d hd _ => hst d hd, fun d _ => State.mcOf_of_mc (honly.same .mc) d,
    fun d _ line w _ _ => State.rldWord_of_rld (honly.same .rld) d line w⟩, mcState_of_reg (hst c c.2), honly⟩
  rw [hbt _ (by simp only [R.MC_ALERT_CNT, R.MC_INT_STAT]; omega), hab _ (by simp only [R.MC_ALERT_CNT]; omega), ha]
  exact State.toNat_count s _ 1

/-- A channel that fails (R471, R496). -/
theorem mcFail_work (s : State) {c : Nat} (hc : c < 8) : (s.mcFail c 2).mcState c = 9 ∧ (s.mcFail c 2).bit (R.MC_INT_STAT c) 4 = true ∧
    ((s.mcFail c 2).mcOf c).reqs = [] ∧ ((s.mcFail c 2).mcOf c).q = [] ∧ (s.mcFail c 2).rldLoss c = s.rldLoss c + 1 ∧ ChannelOnly c s (s.mcFail c 2) := by
  obtain ⟨a, ha⟩ : ∃ a, a = s.setMcState c 9 := ⟨_, rfl⟩
  obtain ⟨b, hb⟩ : ∃ b, b = a.mcAbandon c := ⟨_, rfl⟩
  obtain ⟨d, hd⟩ : ∃ d, d = b.rldDrop c false := ⟨_, rfl⟩
  obtain ⟨e, he⟩ : ∃ e, e = d.mcRecord c 2 2 0 := ⟨_, rfl⟩
  have hfin : s.mcFail c 2 = e.mcEvent c 4 := by
    rw [he, hd, hb, ha]
    rfl
  obtain ⟨hst, -, -, hac, hao⟩ := ha ▸ setMcState_leaves s c (n := 9) (by decide)
  obtain ⟨hreqs, hq, hbr, hbc, hbo⟩ := hb ▸ mcAbandon_leaves a c
  obtain ⟨hloss, hdc, hdo⟩ := hd ▸ rldDrop_leaves b c false
  have her : Regs (fun off => off / 0x10000 = 5) d e := he ▸ (Regs.refl _ d).mcRecord _ _ _ _ (by omega) (by decide) fun off h => h
  have heo : Only [.csr, .ic, .err] d e := he ▸ (Only.refl _ d).mcRecord _ _ _ _
  have hec : ChannelOnly c d e := .of_parts her (fun j _ _ h => by simp only [R.MC_STAT] at h; omega) (heo.same .mc) (heo.same .rld)
  obtain ⟨hbit, htr, hto⟩ := mcEvent_leaves e c (b := 4) (by decide)
  have hmc : (e.mcEvent c 4).mcOf c = b.mcOf c := by
    rw [State.mcOf_of_mc (hto.same .mc), State.mcOf_of_mc (heo.same .mc), State.mcOf_of_mc (hdo.same .mc)]
  rw [hfin]
  refine ⟨?_, hbit, by rw [hmc, hreqs], by rw [hmc, hq], ?_, (((hac.trans hbc).trans hdc).trans hec).trans (mcEvent_channel e c 4)⟩
  · refine (mcState_of_reg ?_).trans hst
    rw [htr _ (by simp only [R.MC_STAT, R.MC_INT_STAT]; omega), her _ (by simp only [R.MC_STAT]; omega), State.reg_of_csr (hdo.same .csr),
      hbr _ (by simp only [R.MC_STAT]; omega)]
  · rw [State.rldLoss, hto.same .rld, heo.same .rld]
    refine (hloss rfl).trans ?_
    rw [State.rldLoss, hbo.same .rld, hao.same .rld]
    rfl

/-- A command issued again leaves the network and the queue, and time (R496). -/
theorem mcReissue_leaves (s : State) (c : Nat) (cmd : McCmd) : ((s.mcReissue c cmd).mcOf c).q = (s.mcOf c).q ∧
    ((s.mcReissue c cmd).mcOf c).slot = (s.mcOf c).slot ∧ (s.mcReissue c cmd).noc = s.noc := by
  cases cmd with
  | refresh b => exact ⟨rfl, rfl, rfl⟩
  | access e =>
    cases hwr : e.write with
    | true =>
      have he : s.mcReissue c (.access e) = s.forEach (List.range 8) fun t w => t.rldWrite c e.line w e.off e.bytes e.poison :=
        (if_pos hwr).trans (if_pos hwr)
      have honly : Only [.csr, .ic, .err, .rld] s (s.mcReissue c (.access e)) :=
        he ▸ (Only.refl [.csr, .ic, .err, .rld] s).forEach _ fun _ _ h => h.rldWrite _ _ _ _ _ _
      exact ⟨by rw [State.mcOf_of_mc (honly.same .mc)], by rw [State.mcOf_of_mc (honly.same .mc)], honly.same .noc⟩
    | false =>
      by_cases hin : (s.mcOf c).reads.any (fun r => r.ent == e) = true
      · obtain ⟨a, ha⟩ : ∃ a, a = s.setMc c { s.mcOf c with reads := (s.mcOf c).reads.filter fun r => r.ent != e } := ⟨_, rfl⟩
        have ham : a.mcOf c = { s.mcOf c with reads := (s.mcOf c).reads.filter fun r => r.ent != e } := ha ▸ State.mcOf_setMc s c _
        have he : s.mcReissue c (.access e) = a.setMc c { a.mcOf c with
            reads := (a.mcOf c).reads ++ [⟨e, (s.mcOf c).slot, (List.range 8).map fun w => a.rldRead c e.line w⟩] } := by
          rw [ha]
          exact (if_neg (by simp [hwr])).trans ((if_pos hin).trans (if_neg (by simp [hwr])))
        rw [he, State.mcOf_setMc, ham]
        exact ⟨rfl, rfl, by rw [ha]; rfl⟩
      · have he : s.mcReissue c (.access e) = s := (if_neg (by simp [hwr])).trans (if_neg hin)
        rw [he]
        exact ⟨rfl, rfl, rfl⟩

theorem mcReissues_leave (l : List McCmd) (s : State) (c : Nat) : ((s.forEach l fun t cmd => (t.mcReissue c cmd).mcPass c 1).mcOf c).q = (s.mcOf c).q ∧
    (s.mcOf c).slot ≤ ((s.forEach l fun t cmd => (t.mcReissue c cmd).mcPass c 1).mcOf c).slot ∧ (s.forEach l fun t cmd => (t.mcReissue c cmd).mcPass c 1).noc = s.noc := by
  induction l generalizing s with
  | nil => exact ⟨rfl, Nat.le_refl _, rfl⟩
  | cons cmd l ih =>
    obtain ⟨h1, h2, h3⟩ := mcReissue_leaves s c cmd
    obtain ⟨hslot, ⟨hq, -, -⟩, -, -, -, -, honly⟩ := mcPass_leaves (s.mcReissue c cmd) c 1
    obtain ⟨i1, i2, i3⟩ := ih ((s.mcReissue c cmd).mcPass c 1)
    exact ⟨i1.trans (hq.trans h1), Nat.le_trans (by omega) i2, i3.trans ((honly.same .noc).trans h3)⟩

end

/-- Settles O39: a request is placed or turned away, a slot takes a refresh or the winning line, and alerts replay or fail the channel. -/
theorem channelsServeRequests : Obligations.ChannelsServeRequests := by
  unfold Obligations.ChannelsServeRequests
  refine ⟨fun c port r s hs hh hn hf hl => ?place, fun c s hs ha hclk => ⟨fun b f hp => ?refresh, fun e hp hw hg => ?data, fun hp hw => ?idle⟩,
    fun c rd l r s hreads halert hf hl hgot hbad hcmd hline hlen hgood => ?read, fun c s hpar hbuf => ⟨fun hlt => ?alert, fun hle => ?fail⟩, fun c s hno => ?quiet,
    fun c s ha => ?replay⟩
  case place =>
    intro e
    have hrun : exec (.mcRequestAdmit c port) s = .next (s.mcAdmit c port) := congrArg Host.Outcome.next (if_pos (by simp [hs]))
    refine ⟨fun hr hvn => ?_, fun hr hroom => ⟨fun hcmd => ?_, fun hcmd hvn => ?_, fun hcmd hvn => ?_⟩⟩
    · obtain ⟨hforget, honly⟩ := mcForget_leaves s c r.id
      obtain ⟨hresp, p, hflight, hst, hdst, htag, -⟩ := respond_leaves (s.mcForget c r.id) (0x40 + 4 * c + port) r.pkt 7 []
      obtain ⟨a, ha⟩ : ∃ a, a = (s.mcForget c r.id).respond (0x40 + 4 * c + port) r.pkt 7 [] := ⟨_, rfl⟩
      rw [← ha] at hresp hflight
      have he : s.mcAdmit c port = a.count (R.MC_RETIRED_HIT c) F.MC_RETIRED_HIT_COUNT 1 := by
        rw [mcAdmit_retired hh hn hl hr, turnAway_response hvn, ha]
      have hcount := (Only.refl [.csr] a).count (R.MC_RETIRED_HIT c) F.MC_RETIRED_HIT_COUNT 1
      have hm : (a.count (R.MC_RETIRED_HIT c) F.MC_RETIRED_HIT_COUNT 1).mcOf c = { s.mcOf c with reqs := (s.mcOf c).reqs.filter fun x => x.id != r.id } := by
        rw [State.mcOf_of_mc (hcount.same .mc), State.mcOf_of_mc (hresp.same .mc), hforget]
      refine ⟨_, hrun.trans (congrArg _ he), by rw [hm], by rw [hm], ?_, p, ?_, hst, hdst, htag⟩
      · refine (State.toNat_count a _ 1).trans ?_
        rw [State.reg_of_csr (hresp.same .csr), State.reg_of_csr (honly.same .csr)]
      · rw [hcount.same .noc, hflight, honly.same .noc]
    · have hplace := mcPlace_one hn hf hl hroom
      have honly := (Only.refl [.mc] s).mcPlace c r.id r.lines
      refine ⟨_, hrun.trans (congrArg _ (mcAdmit_read hh hl hr hcmd)), by rw [hplace], by rw [hplace]; exact List.length_map .., honly.same .noc, honly.same .rld, honly⟩
    · obtain ⟨hq, hreqs, honly⟩ := written_leaves (port := port) hn hf hl hroom
      obtain ⟨u, hu⟩ : ∃ u, u = ((s.mcPlace c r.id r.lines).mcForget c r.id).mcAged c port r.slot := ⟨_, rfl⟩
      have he : s.mcAdmit c port = u.respond (0x40 + 4 * c + port) r.pkt 0 [] := by
        rw [mcAdmit_write hh hl hr (by rw [hcmd]; decide) (mcPlace_done hn hf hl hroom), if_neg hvn, hu]
      rw [← hu] at hq hreqs honly
      obtain ⟨hresp, p, hflight, hst, hdst, htag, -⟩ := respond_leaves u (0x40 + 4 * c + port) r.pkt 0 []
      refine ⟨_, hrun.trans (congrArg _ he), ?_, ?_, (hresp.same .rld).trans (honly.same .rld), p, ?_, hst, hdst, htag⟩
      · rw [State.mcOf_of_mc (hresp.same .mc), hq]
      · rw [State.mcOf_of_mc (hresp.same .mc), hreqs]
      · rw [hflight, honly.same .noc]
    · obtain ⟨hq, hreqs, honly⟩ := written_leaves (port := port) hn hf hl hroom
      have he := mcAdmit_write hh hl hr (by rw [hcmd]; decide) (mcPlace_done hn hf hl hroom)
      rw [if_pos hvn] at he
      exact ⟨_, hrun.trans (congrArg _ he), hq, hreqs, honly.same .noc⟩
  case refresh =>
    obtain ⟨h1, h2, h3, h4, h5⟩ := issueRefresh_leaves s c b f
    obtain ⟨hslot, ⟨hq, -, -⟩, -, -, -, -, honly⟩ := mcPass_leaves (s.issueRefresh c b f) c 1
    have hreg := State.reg_of_csr (honly.same .csr)
    refine ⟨_, mcCommandIssue_refresh hs ha hclk hp, by rw [hslot, h1], hq.trans h2, (honly.same .rld).trans (h5.same .rld), by rw [mcPass_free, h3], fun hf => ?_⟩
    obtain ⟨hbit, hcount⟩ := h4 hf
    exact ⟨(State.bit_of_reg (hreg _) _).trans hbit, by rw [hreg, hcount]⟩
  case data =>
    obtain ⟨h1, h2, h3, h4, h5⟩ := issueEntry_leaves s c e
    obtain ⟨hslot, ⟨hq, -, hrd⟩, -, -, -, -, honly⟩ := mcPass_leaves (s.issueEntry c e) c 1
    have hword : ∀ d line w, ((s.issueEntry c e).mcPass c 1).rldWord d line w = (s.issueEntry c e).rldWord d line w := State.rldWord_of_rld (honly.same .rld)
    have hrun : exec (.mcCommandIssue c []) s = .next ((s.issueEntry c e).mcPass c 1) := by rw [mcCommandIssue_data hs ha hclk hp, issueData_winner hw hg]
    refine ⟨_, hrun, by rw [hslot, h1], hq.trans h2, (honly.same .noc).trans h5, fun hwr => ⟨(honly.same .rld).trans (h3 hwr).1, hrd.trans (h3 hwr).2⟩,
      fun hwr hpo hline => ?_⟩
    obtain ⟨u, hu, ht⟩ := h4 hwr
    rw [hpo] at ht
    refine ⟨fun w hw8 hlo hhi => ?_, fun w hw8 hno => ?_, fun line w hl hne hw8 => ?_⟩
    · rw [hword, ht]
      exact rldWrites_whole (List.mem_range.mpr hw8) (fun x hx => List.mem_range.mp hx) u c e.line hlo hhi
    · rw [hword, ht, rldWrites_other, hu]
      intro x hx
      by_cases hxw : x = w
      · exact .inr (hxw ▸ hno)
      · refine .inl ?_
        have := List.mem_range.mp hx
        simp only [rldKey]
        omega
    · rw [hword, ht, rldWrites_other, hu]
      intro x hx
      refine .inl ?_
      have := List.mem_range.mp hx
      simp only [rldKey]
      omega
  case idle =>
    obtain ⟨hslot, ⟨hq, -, -⟩, -, -, -, -, honly⟩ := mcPass_leaves s c 1
    have hno : s.issueData c [] = s := by rw [State.issueData, hw]
    exact ⟨_, by rw [mcCommandIssue_data hs ha hclk hp, hno], hslot, hq, honly⟩
  case read =>
    obtain ⟨k, hk⟩ : ∃ k, k = rd.slot + slotsOf (s.tRL c + 4) - (s.mcOf c).slot := ⟨_, rfl⟩
    obtain ⟨a, ha⟩ : ∃ a, a = s.mcPass c k := ⟨_, rfl⟩
    obtain ⟨-, ⟨-, hrq, -⟩, -, -, -, -, honly⟩ := ha ▸ mcPass_leaves s c k
    obtain ⟨b, hb⟩ : ∃ b, b = a.setMc c { a.mcOf c with reads := l } := ⟨_, rfl⟩
    have hbm : b.mcOf c = { a.mcOf c with reads := l } := hb ▸ State.mcOf_setMc a c _
    have hsb : Only [.mc] s b := hb ▸ honly.setMc _ _
    have hbreqs : (b.mcOf c).reqs = (s.mcOf c).reqs := by rw [hbm]; exact hrq
    have hrun : exec (.mcReadComplete c) s = .next (b.mcDeliver c rd) := by
      rw [hb, ha, hk]
      refine congrArg Host.Outcome.next ?_
      rw [hreads]
      exact if_neg (by simp [halert])
    obtain ⟨u, hu, hrd, hreqs, honly'⟩ := mcDeliver_one (s := b) (c := c) (hbreqs ▸ hf) hl hgot hbad hline hlen hgood
    obtain ⟨hresp, p, hflight, hst, hdst, htag, hdata⟩ := respond_leaves u (0x40 + 4 * c + r.port) r.pkt 0 ((rd.words.flatMap fun w => bytes64 w.1).drop (r.pkt.loc % 64))
    refine ⟨_, hrun.trans (congrArg _ hu), ?_, ?_, (hresp.same .rld).trans ((honly'.same .rld).trans (hsb.same .rld)), p, ?_, hst, hdst, htag, hdata hcmd rfl⟩
    · rw [State.mcOf_of_mc (hresp.same .mc), hrd, hbm]
    · rw [State.mcOf_of_mc (hresp.same .mc), hreqs, hbreqs]
    · rw [hflight, honly'.same .noc, hsb.same .noc]
  case alert =>
    obtain ⟨t, ht, hbit, hcount, -, hst, honly⟩ := alertNoted s c ((s.mcOf c).alerts + 1)
    have hrun := (mcParityAlert_of hpar hbuf ht).trans (congrArg _ (if_neg (Nat.not_le.mpr hlt)))
    exact ⟨_, hrun, State.mcOf_setMc t c _, hbit, hcount, hst, honly.same .rld⟩
  case fail =>
    obtain ⟨t, ht, -, -, hch, -, honly⟩ := alertNoted s c ((s.mcOf c).alerts + 1)
    have hrun := (mcParityAlert_of hpar hbuf ht).trans (congrArg _ (if_pos hle))
    obtain ⟨h1, h2, h3, h4, h5, h6⟩ := mcFail_work t c.2
    refine ⟨_, hrun, h1, h2, h3, h4, ?_, (hch.trans h6).others⟩
    rw [h5, State.rldLoss, honly.same .rld]
    rfl
  case quiet =>
    exact congrArg Host.Outcome.next (if_pos (by rcases hno with h | h <;> simp [h]))
  case replay =>
    obtain ⟨k, hk⟩ : ∃ k, k = slotsOf (s.tPARREC c) := ⟨_, rfl⟩
    obtain ⟨hslot, ⟨hq, -, -⟩, -, -, -, -, honly⟩ := mcPass_leaves s c k
    obtain ⟨h1, h2, h3⟩ := mcReissues_leave ((s.mcOf c).buf.map fun b => b.2) (s.mcPass c k) c
    obtain ⟨u, hu⟩ : ∃ u, u = (s.mcPass c k).forEach ((s.mcOf c).buf.map fun b => b.2) fun t cmd => (t.mcReissue c cmd).mcPass c 1 := ⟨_, rfl⟩
    rw [← hu] at h1 h2 h3
    obtain ⟨x, hx⟩ : ∃ x, x = u.mcOf c := ⟨_, rfl⟩
    have hrun : exec (.mcReplay c) s = .next (u.setMc c { x with
        alert := false, alerts := 0
        buf := ((List.range (s.mcOf c).buf.length).zip (s.mcOf c).buf).map fun p => (x.slot - (s.mcOf c).buf.length + p.1, p.2.2) }) := by
      rw [hx, hu, hk]
      exact congrArg Host.Outcome.next (if_neg (by simp [ha]))
    refine ⟨_, hrun, ?_, ?_, ?_, ?_, h3.trans (honly.same .noc), ?_⟩ <;> rw [State.mcOf_setMc]
    · simp
    · show x.q = _
      rw [hx, h1, hq]
    · show _ ≤ x.slot
      rw [hx]
      omega

end Sys2Proof.Machine
end

section
/-! ## Wedgings (O42) -/

namespace Sys2Proof.Machine

-- Elaborated in order: side by side, so many short proofs would each hold a thread with its stack.
set_option Elab.async false

open Sys2Proof

section
variable {f : Frame} {k : Nat}

/-! Frames with inverted bits in one code word (R261). -/

/-- Every inverted bit of a frame lies in one code word. -/
def Frame.FlipsIn (f : Frame) (k : Nat) : Prop := ∀ b ∈ f.flips, b / 72 = k

theorem Frame.flipsOf_in (h : f.FlipsIn k) : f.flipsOf k = f.flips.map (fun b => b - 72 * k) := by
  unfold Frame.flipsOf
  rw [List.filter_eq_self.mpr]
  intro b hb
  have := h b hb
  simp only [Bool.and_eq_true, decide_eq_true_eq]
  omega

theorem Frame.flipsOf_out (h : f.FlipsIn k) {j : Nat} (hj : j ≠ k) : f.flipsOf j = [] := by
  unfold Frame.flipsOf
  rw [List.filter_eq_nil_iff.mpr, List.map_nil]
  intro b hb
  have := h b hb
  simp only [Bool.and_eq_true, decide_eq_true_eq]
  omega

theorem Frame.stored_getD (f : Frame) {i : Nat} (hi : i < 64) : f.stored.getD i 0 =
    (f.flips.filter (fun b => b / 72 == i / 2 && b % 72 < 64 && b % 72 / 32 == i % 2 && b < 2304)).foldl
      (fun w b => w ^^^ BitVec.ofNat 32 (2 ^ (b % 72 % 32))) (f.words.getD i 0) := by
  unfold Frame.stored
  rw [List.getD_eq_getElem _ _ (by simp; omega), List.getElem_append_left (by simpa using hi), List.getElem_map, List.getElem_range]

/-- A word of a frame outside the code word with the inverted bits is stored as it is. -/
theorem Frame.stored_out (h : f.FlipsIn k) {i : Nat} (hi : i < 64) (hne : i / 2 ≠ k) : f.stored.getD i 0 = f.words.getD i 0 := by
  rw [Frame.stored_getD f hi, List.filter_eq_nil_iff.mpr]
  · rfl
  · intro b hb hc
    have := h b hb
    simp only [Bool.and_eq_true, beq_iff_eq, decide_eq_true_eq] at hc
    omega

theorem Frame.stored_crc (h : f.FlipsIn k) (hk : k < 32) : f.stored.getD 64 0 = f.crc := by
  unfold Frame.stored
  rw [List.getD_eq_getElem _ _ (by simp), List.getElem_append_right (by simp)]
  have hnone : f.flips.filter (fun b => 2304 ≤ b) = [] := by
    refine List.filter_eq_nil_iff.mpr fun b hb => ?_
    have := h b hb
    simp only [decide_eq_true_eq]
    omega
  simp [hnone]

/-- The code word with the inverted bits, before they were inverted. -/
def Frame.codeWord (f : Frame) (k : Nat) : BitVec 64 := (f.words.getD (2 * k + 1) 0).append (f.words.getD (2 * k) 0)

theorem Frame.decode_one (h : f.FlipsIn k) (hl : f.flips.length = 1) : f.decode k = (f.codeWord k, true, false) := by
  unfold Frame.decode
  dsimp only
  rw [Frame.flipsOf_in h, BmWord.read, if_neg (by decide), if_neg (by simp [hl]), if_pos (by simp [hl])]
  refine Prod.ext ?_ rfl
  show BitVec.setWidth 64 (BitVec.setWidth 72 (f.codeWord k)) = _
  ext i hi
  simp

theorem Frame.decode_two (h : f.FlipsIn k) (hl : f.flips.length = 2) : (f.decode k).2 = (false, true) := by
  unfold Frame.decode
  dsimp only
  rw [Frame.flipsOf_in h, BmWord.read, if_neg (by decide), if_neg (by simp [hl]), if_neg (by simp [hl]), if_pos (by simp [hl])]

/-- The code words that a scan picks out are the one with the inverted bits, or none. -/
theorem Frame.picked (h : f.FlipsIn k) (hk : k < 32) (hl : f.flips ≠ []) (p : Nat → Bool) :
    (List.range 32).filter (fun j => !(f.flipsOf j).isEmpty && p j) = if p k then [k] else [] := by
  have hone : ∀ j, (!(f.flipsOf j).isEmpty && p j) = (decide (j = k) && p k) := fun j => by
    by_cases hj : j = k
    · subst hj
      rw [Frame.flipsOf_in h]
      cases hf : f.flips with
      | nil => exact absurd hf hl
      | cons a l => simp
    · rw [Frame.flipsOf_out h hj]
      simp [hj]
  split
  · next hp => exact filter_range_single hk (by rw [hone, hp]; simp) fun j _ hj => by rw [hone]; simp [hj]
  · next hp => exact List.filter_eq_nil_iff.mpr fun j _ => by rw [hone]; simp [hp]

theorem Frame.single_one (h : f.FlipsIn k) (hk : k < 32) (hl : f.flips.length = 1) : f.single = [k] ∧ f.double = [] := by
  have hne : f.flips ≠ [] := fun he => by rw [he] at hl; exact absurd hl (by decide)
  constructor
  · exact (Frame.picked h hk hne _).trans (if_pos (by rw [Frame.decode_one h hl]))
  · exact (Frame.picked h hk hne _).trans (if_neg (by rw [Frame.decode_one h hl]; exact Bool.false_ne_true))

theorem Frame.double_two (h : f.FlipsIn k) (hk : k < 32) (hl : f.flips.length = 2) : f.single = [] ∧ f.double = [k] := by
  have hne : f.flips ≠ [] := fun he => by rw [he] at hl; exact absurd hl (by decide)
  constructor
  · exact (Frame.picked h hk hne _).trans (if_neg (by rw [Frame.decode_two h hl]; decide))
  · exact (Frame.picked h hk hne _).trans (if_pos (by rw [Frame.decode_two h hl]))

theorem Frame.single_none (h : f.flips = []) : f.single = [] ∧ f.double = [] := by
  have hno : ∀ j, f.flipsOf j = [] := fun j => by
    unfold Frame.flipsOf
    rw [h]
    rfl
  constructor <;> exact List.filter_eq_nil_iff.mpr fun j _ => by rw [hno]; simp

/-- The halves of a code word are its words. -/
theorem Frame.codeWord_low (f : Frame) (k : Nat) : (f.codeWord k).setWidth 32 = f.words.getD (2 * k) 0 := by
  unfold Frame.codeWord
  generalize f.words.getD (2 * k + 1) 0 = x
  generalize f.words.getD (2 * k) 0 = y
  ext i hi
  simp [BitVec.append, hi]

theorem Frame.codeWord_high (f : Frame) (k : Nat) : (f.codeWord k >>> 32).setWidth 32 = f.words.getD (2 * k + 1) 0 := by
  unfold Frame.codeWord
  generalize f.words.getD (2 * k + 1) 0 = x
  generalize f.words.getD (2 * k) 0 = y
  ext i hi
  simp [BitVec.append, hi]

/-- The scan of one inverted bit gives the frame back (R279). -/
theorem Frame.corrected_one (h : f.FlipsIn k) (hk : k < 32) (hl : f.flips.length = 1) (hw : f.words.length = 64) : f.corrected = { f with flips := [] } := by
  have hwords : (List.range 64).map (fun i => if [k].contains (i / 2) then (if i % 2 = 0 then (f.decode (i / 2)).1.setWidth 32
      else ((f.decode (i / 2)).1 >>> 32).setWidth 32) else f.stored.getD i 0) = f.words := by
    refine List.ext_getElem (by simp [hw]) fun i hi hi' => ?_
    rw [List.length_map, List.length_range] at hi
    rw [List.getElem_map, List.getElem_range, ← List.getD_eq_getElem _ 0 hi']
    by_cases hik : i / 2 = k
    · rw [if_pos (by simp [hik]), hik, Frame.decode_one h hl]
      split
      · next hev => rw [Frame.codeWord_low, show 2 * k = i by omega]
      · next hodd => rw [Frame.codeWord_high, show 2 * k + 1 = i by omega]
    · rw [if_neg (by simp [hik]), Frame.stored_out h hi hik]
  unfold Frame.corrected
  dsimp only
  rw [(Frame.single_one h hk hl).1, hwords, Frame.stored_crc h hk]

/-- A frame without inverted bits is its own correction. -/
theorem Frame.corrected_none (h : f.flips = []) (hw : f.words.length = 64) : f.corrected = f := by
  have hin : ∀ k, f.FlipsIn k := fun k b hb => absurd (h ▸ hb) List.not_mem_nil
  have hwords : (List.range 64).map (fun i => f.stored.getD i 0) = f.words := by
    refine List.ext_getElem (by simp [hw]) fun i hi hi' => ?_
    rw [List.length_map, List.length_range] at hi
    rw [List.getElem_map, List.getElem_range, ← List.getD_eq_getElem _ 0 hi', Frame.stored_out (hin (i / 2 + 1)) hi (by omega)]
  unfold Frame.corrected
  dsimp only
  rw [(Frame.single_none h).1, Frame.stored_crc (hin 0) (by decide)]
  simp only [List.contains_nil, Bool.false_eq_true, if_false, hwords]
  rw [← h]

/-- A frame that reads back has the CRC of its words (R231). -/
theorem Frame.crc_of_readsBack (h : f.flips = []) (hw : f.words.length = 64) (hr : f.readsBack = true) : (f.crc.toNat == frameCrc f.words) = true := by
  have hin : ∀ k, f.FlipsIn k := fun k b hb => absurd (h ▸ hb) List.not_mem_nil
  have hlen : f.stored.length = 65 := by simp [Frame.stored]
  have htake : f.stored.take 64 = f.words := by
    refine List.ext_getElem (by rw [List.length_take, hlen, hw]; rfl) fun i hi hi' => ?_
    rw [List.length_take, hlen] at hi
    rw [List.getElem_take, ← List.getD_eq_getElem _ 0, ← List.getD_eq_getElem _ 0 hi', Frame.stored_out (hin (i / 2 + 1)) (by omega) (by omega)]
  rw [Frame.readsBack, htake, Frame.stored_crc (hin 0) (by decide), beq_iff_eq] at hr
  rw [hr]
  exact beq_self_eq_true _

theorem Frame.finding_none (h : f.flips = []) (hw : f.words.length = 64) (hr : f.readsBack = true) (key : Nat) (shd : Bool) : f.finding key shd = none := by
  unfold Frame.finding
  dsimp only
  rw [(Frame.single_none h).1, (Frame.single_none h).2, Frame.corrected_none h hw, Frame.crc_of_readsBack h hw hr]
  rfl

theorem getLsbD_append_words (x y : Word) (b : Nat) : (x.append y : BitVec 64).getLsbD b = if b < 32 then y.getLsbD b else x.getLsbD (b - 32) := by
  show (x ++ y).getLsbD b = _
  rw [BitVec.getLsbD_append]

theorem getLsbD_inverted (w : Word) {m j : Nat} (hj : j < 32) : (w ^^^ BitVec.ofNat 32 (2 ^ m)).getLsbD j = (w.getLsbD j != decide (j = m)) := by
  rw [BitVec.getLsbD_xor, BitVec.getLsbD_ofNat, Nat.testBit_two_pow]
  simp [hj, eq_comm]

/-- The bit that a correction changes. -/
theorem Frame.fixedBits_one {a : Nat} (hf : f.flips = [a]) (ha : a < 2304) (hd : a % 72 < 64) : f.fixedBits = [64 * (a / 72) + a % 72] := by
  have hin : f.FlipsIn (a / 72) := fun b hb => by
    rw [hf] at hb
    rw [List.mem_singleton.mp hb]
  have hst : ∀ i < 64, f.stored.getD i 0 = if a / 72 = i / 2 ∧ a % 72 / 32 = i % 2 then f.words.getD i 0 ^^^ BitVec.ofNat 32 (2 ^ (a % 72 % 32)) else f.words.getD i 0 := fun i hi => by
    rw [Frame.stored_getD f hi, hf, List.filter_singleton]
    by_cases hc : a / 72 = i / 2 ∧ a % 72 / 32 = i % 2
    · have hyes : (a / 72 == i / 2 && decide (a % 72 < 64) && a % 72 / 32 == i % 2 && decide (a < 2304)) = true := by simp [hc, hd, ha]
      rw [if_pos hc, hyes]
      rfl
    · have hno : (a / 72 == i / 2 && decide (a % 72 < 64) && a % 72 / 32 == i % 2 && decide (a < 2304)) = false := by
        refine Bool.eq_false_iff.mpr fun h => hc ?_
        simp only [Bool.and_eq_true, beq_iff_eq, decide_eq_true_eq] at h
        exact ⟨h.1.1.1, h.1.2⟩
      rw [if_neg hc, hno]
      rfl
  have hdiff : (List.range 64).filter (fun b => ((f.stored.getD (2 * (a / 72) + 1) 0).append (f.stored.getD (2 * (a / 72)) 0) : BitVec 64).getLsbD b != (f.codeWord (a / 72)).getLsbD b) = [a % 72] := by
    have hbit : ∀ b < 64, (((f.stored.getD (2 * (a / 72) + 1) 0).append (f.stored.getD (2 * (a / 72)) 0) : BitVec 64).getLsbD b != (f.codeWord (a / 72)).getLsbD b) = decide (b = a % 72) := fun b hb => by
      rw [Frame.codeWord, getLsbD_append_words, getLsbD_append_words]
      by_cases h : b < 32
      · rw [if_pos h, if_pos h, hst _ (by omega)]
        by_cases hlow : a % 72 < 32
        · rw [if_pos (by omega), getLsbD_inverted _ h, Nat.mod_eq_of_lt hlow]
          cases (f.words.getD (2 * (a / 72)) 0).getLsbD b <;> simp
        · rw [if_neg (by omega), bne_self_eq_false, decide_eq_false (by omega)]
      · rw [if_neg h, if_neg h, hst _ (by omega)]
        by_cases hlow : a % 72 < 32
        · rw [if_neg (by omega), bne_self_eq_false, decide_eq_false (by omega)]
        · have hsame : (b - 32 = a % 72 % 32) = (b = a % 72) := propext (by omega)
          rw [if_pos (by omega), getLsbD_inverted _ (by omega)]
          simp only [hsame]
          cases (f.words.getD (2 * (a / 72) + 1) 0).getLsbD (b - 32) <;> simp
    exact filter_range_single hd (by rw [hbit _ hd]; simp) fun b hb hne => by rw [hbit b hb]; simp [hne]
  unfold Frame.fixedBits
  rw [(Frame.single_one hin (by omega) (by rw [hf]; rfl)).1, List.flatMap_singleton]
  dsimp only
  rw [Frame.decode_one hin (by rw [hf]; rfl), hdiff]
  rfl

/-- One inverted data bit is a correctable finding (R278). -/
theorem Frame.finding_one {a : Nat} (hf : f.flips = [a]) (ha : a < 2304) (hd : a % 72 < 64) (hw : f.words.length = 64)
    (hc : (f.crc.toNat == frameCrc f.words) = true) (key : Nat) (shd : Bool) : f.finding key shd = some ⟨key, shd, 1, [64 * (a / 72) + a % 72], []⟩ := by
  have hin : f.FlipsIn (a / 72) := fun b hb => by
    rw [hf] at hb
    rw [List.mem_singleton.mp hb]
  have hl : f.flips.length = 1 := by rw [hf]; rfl
  obtain ⟨h1, h2⟩ := Frame.single_one hin (by omega) hl
  unfold Frame.finding
  dsimp only
  rw [h1, h2, Frame.corrected_one hin (by omega) hl hw, Frame.fixedBits_one hf ha hd]
  dsimp only
  rw [hc]
  rfl

/-- Two inverted bits of one code word are an uncorrectable finding (R278). -/
theorem Frame.finding_two (h : f.FlipsIn k) (hk : k < 32) (hl : f.flips.length = 2) (key : Nat) (shd : Bool) :
    ∃ bits, f.finding key shd = some ⟨key, shd, 2, bits, [k]⟩ := by
  obtain ⟨h1, h2⟩ := Frame.double_two h hk hl
  unfold Frame.finding
  dsimp only
  rw [h1, h2]
  exact ⟨_, rfl⟩

/-! Inverting bits. -/

theorem Frame.invert_one (h : f.flips = []) (a : Nat) : (f.invert [a]).flips = [a] := by
  unfold Frame.invert
  rw [h]
  rfl

theorem Frame.invert_two (h : f.flips = []) {a b : Nat} (hab : a ≠ b) : (f.invert [a, b]).flips.length = 2 ∧ ∀ i, (f.invert [a, b]).flips.has i = (i == a || i == b) := by
  have hnot : NSet.has [a] b = false := by
    simp [NSet.has, Ne.symm hab]
  have he : (f.invert [a, b]).flips = NSet.add [a] b := by
    unfold Frame.invert
    rw [h]
    show NSet.put [a] b (!NSet.has [a] b) = _
    rw [hnot]
    rfl
  rw [he]
  refine ⟨?_, fun i => ?_⟩
  · have hdel : NSet.del [a] b = [a] := List.filter_eq_self.mpr fun x hx => by rw [List.mem_singleton.mp hx]; simp [hab]
    rw [NSet.add, hdel, NSet.insert]
    split <;> rfl
  · rw [NSet.has_add, Bool.or_comm, NSet.has, List.contains_cons, List.contains_nil, Bool.or_false]

end

section
variable {s t : State}

/-! Scanning a position (R265, R279, R280). -/

/-- What a scan of a frame decides by stays where only the planes and the scrubber change. -/
theorem scrubChecks_of {ps : List Part} (h : Only ps s t) (hc : .csr ∉ ps := by decide) (hr : .rgn ∉ ps := by decide) (key : Nat) (shd : Bool) :
    t.scrubChecks key shd = s.scrubChecks key shd := by
  have hreg := State.reg_of_csr (h.same .csr hc)
  have hrg : ∀ r, t.rg r = s.rg r := fun r => by
    unfold State.rg
    rw [h.same .rgn hr]
  unfold State.scrubChecks
  rw [State.frameRegion_of fun off _ => hreg off]
  unfold State.flag State.shadow
  simp only [State.fld_of_reg (hreg _), hrg]

theorem flagOf_of {ps : List Part} (h : Only ps s t) (hc : .csr ∉ ps := by decide) (key : Nat) : t.flagOf key = s.flagOf key := by
  unfold State.flagOf
  rw [State.frameRegion_of fun off _ => State.reg_of_csr (h.same .csr hc) off]

theorem frame_storeFrame (s : State) (key j : Nat) (f : Frame) : (s.storeFrame key false f).act.frame j = if j = key then f else s.act.frame j :=
  Tbl.get_set _ _ _ _ _

theorem storeFrame_leaves (s : State) (key : Nat) (f : Frame) : Only [.act] s (s.storeFrame key false f) := (Only.refl _ s).with_act _

theorem scrubFrame_unchecked {key : Nat} {shd : Bool} (h : s.scrubChecks key shd = false) : s.scrubFrame key shd = s := if_pos (by simp [h])

theorem scrubFrame_sound {key : Nat} (h : (s.act.frame key).finding key false = none) : s.scrubFrame key false = s := by
  unfold State.scrubFrame
  split
  · rfl
  · dsimp only
    have hp : (s.plane false).frame key = s.act.frame key := rfl
    rw [hp, h]

/-- A correctable finding repairs the frame and waits for its lookup. -/
theorem scrubFrame_repair {key : Nat} {x : Finding} (hc : s.scrubChecks key false = true) (h : (s.act.frame key).finding key false = some x) (hk : x.kind = 1) :
    s.scrubFrame key false = (s.storeFrame key false (s.act.frame key).corrected).setScrub { s.scrub with look := s.scrub.look ++ [x] } := by
  unfold State.scrubFrame
  rw [if_neg (by simp [hc])]
  dsimp only
  have hp : (s.plane false).frame key = s.act.frame key := rfl
  rw [hp, h]
  dsimp only
  rw [if_pos hk, if_neg (by decide)]
  rfl

/-- An uncorrectable finding of a frame that none waits for marks its region and waits for its lookup. -/
theorem scrubFrame_mark {key : Nat} {x : Finding} (hc : s.scrubChecks key false = true) (h : (s.act.frame key).finding key false = some x) (hk : x.kind = 2)
    (hlook : ∀ y ∈ s.scrub.look, y.key ≠ key) (hq : ∀ q ∈ s.scrub.queue, q.1 ≠ key) (hlost : ∀ q ∈ s.scrub.lost, q.1 ≠ key) :
    s.scrubFrame key false = s.setScrub { s.scrub with dirty := NSet.add s.scrub.dirty (s.flagOf key), look := s.scrub.look ++ [x] } := by
  have h1 : s.scrub.queue.any (fun q => q.1 == key && q.2.1 == false) = false := List.any_eq_false.mpr fun q hm => by simp [hq q hm]
  have h2 : s.scrub.lost.contains (key, false) = false := by
    refine Bool.eq_false_iff.mpr fun hm => ?_
    exact hlost _ (List.contains_iff_mem.mp hm) rfl
  have h3 : s.scrub.look.any (fun y => y.key == key && y.shd == false) = false := List.any_eq_false.mpr fun q hm => by simp [hlook q hm]
  unfold State.scrubFrame
  rw [if_neg (by simp [hc])]
  dsimp only
  have hp : (s.plane false).frame key = s.act.frame key := rfl
  rw [hp, h]
  dsimp only
  rw [if_neg (by rw [hk]; decide), h1, h2]
  refine (if_neg ?_).trans rfl
  show ¬ (false || false || s.scrub.look.any fun y => y.key == key && y.shd == false) = true
  rw [h3]
  decide

end

section
variable {s t : State}

/-- What a scan of a position does with its active frame and its shadow frame. -/
def State.scrubAt (s : State) (key : Nat) (up : List Nat) : State :=
  (((if up.isEmpty then s else s.storeFrame key false ((s.act.frame key).invert up)).scrubFrame key false).scrubFrame key true)

/-- An engine moves on to its next position, or is finished (R265). -/
def State.scrubMove (s : State) (k p : Nat) : State :=
  match nextPos (keyTcol p) (keyTrow p) (keyFrame p) with
  | some q => s.setScrub { s.scrub with pos := Tbl.set (fun _ => 0) s.scrub.pos k (mkKey 0 q.1 q.2.1 q.2.2) }
  | none => s.setScrub { s.scrub with finished := NSet.add s.scrub.finished k }

theorem exec_scrubPosition {k : Fin 32} (up : List (Fin 2336)) (hr : s.scrubRuns = true) (hw : s.wedging = true) (hskip : s.scrub.skip.has k = false)
    (hfin : s.scrub.finished.has k = false) : exec (.scrubPosition k up []) s =
      .next ((s.scrubAt (k.val * 2 ^ 17 + Tbl.get (fun _ => 0) s.scrub.pos k) (up.map fun i => i.val)).scrubMove k (Tbl.get (fun _ => 0) s.scrub.pos k)) := by
  have hcond : (!s.scrubRuns || !s.wedging || s.scrub.skip.has k || s.scrub.finished.has k) = false := by rw [hr, hw, hskip, hfin]; rfl
  refine congrArg Host.Outcome.next ((if_neg (by rw [hcond]; decide)).trans ?_)
  cases up <;> rfl

theorem scrubMove_leaves (u : State) (k p : Nat) (hpos : u.scrub.pos = s.scrub.pos) (hfin : u.scrub.finished = s.scrub.finished) :
    (match nextPos (keyTcol p) (keyTrow p) (keyFrame p) with
      | some q => Tbl.get (fun _ => 0) (u.scrubMove k p).scrub.pos k = mkKey 0 q.1 q.2.1 q.2.2 ∧ (u.scrubMove k p).scrub.finished = s.scrub.finished
      | none => (u.scrubMove k p).scrub.finished.has k = true ∧ (u.scrubMove k p).scrub.pos = s.scrub.pos) ∧
    (u.scrubMove k p).scrub.look = u.scrub.look ∧ (u.scrubMove k p).scrub.dirty = u.scrub.dirty ∧ Only [.scrub] u (u.scrubMove k p) := by
  unfold State.scrubMove
  split
  · next q hq => exact ⟨⟨(Tbl.get_set _ _ _ _ _).trans (if_pos rfl), hfin⟩, rfl, rfl, (Only.refl _ u).with_scrub _⟩
  · next hq =>
    refine ⟨⟨?_, hpos⟩, rfl, rfl, (Only.refl _ u).with_scrub _⟩
    show NSet.has (NSet.add u.scrub.finished k) k = true
    rw [NSet.has_add, beq_self_eq_true, Bool.true_or]

end

section
variable {s : State}

/-! The end of a wedging (R267, R285). -/

/-- Bits of a register cleared one after the other. -/
theorem bit_cleared (l : List Nat) (s : State) (off : Nat) {k : Nat} (hk : k < 32) :
    (s.forEach l fun t r => t.setBit off r false).bit off k = (s.bit off k && !l.contains k) := by
  induction l generalizing s with
  | nil => simp [State.forEach]
  | cons r l ih =>
    refine (ih (s.setBit off r false)).trans ?_
    rw [State.bit_setBit _ _ _ _ _ _ hk, List.contains_cons]
    by_cases h : k = r
    · simp [h]
    · simp [h, beq_eq_false_iff_ne.mpr h]

theorem phase_of_scrubRuns (h : s.scrubRuns = true) : s.boot.inReset = false ∧ s.halted = false := by
  simp only [State.scrubRuns, Bool.and_eq_true, decide_eq_true_eq, Bool.not_eq_true'] at h
  obtain ⟨⟨⟨⟨hp, -⟩, -⟩, -⟩, hh⟩ := h
  refine ⟨Bool.eq_false_iff.mpr fun hr => ?_, hh⟩
  rw [State.phase, hr, if_pos rfl] at hp
  exact absurd hp (by decide)

/-- The flags of the regions and of the static frames once a wedging has ended with no frame left to read. -/
def State.wedgingFlags (s : State) : State :=
  (s.forEach ((List.range 32).filter fun r => !s.scrub.dirty.has r) fun t r => t.setBit R.SCR_RGN_FLAG r false).when (!s.scrub.dirty.has 32)
    fun t => t.setFlag R.SCR_FLAG F.SCR_FLAG_STATIC false

theorem wedgingFlags_leaves (s : State) : (∀ r < 32, s.wedgingFlags.bit R.SCR_RGN_FLAG r = (s.bit R.SCR_RGN_FLAG r && s.scrub.dirty.has r)) ∧
    s.wedgingFlags.flag R.SCR_FLAG F.SCR_FLAG_STATIC = (s.flag R.SCR_FLAG F.SCR_FLAG_STATIC && s.scrub.dirty.has 32) ∧
    RegsBut [R.SCR_RGN_FLAG, R.SCR_FLAG] s s.wedgingFlags ∧ Only [.csr] s s.wedgingFlags := by
  obtain ⟨l, hl⟩ : ∃ l, l = (List.range 32).filter fun r => !s.scrub.dirty.has r := ⟨_, rfl⟩
  obtain ⟨u, hu⟩ : ∃ u, u = s.forEach l fun t r => t.setBit R.SCR_RGN_FLAG r false := ⟨_, rfl⟩
  have he : s.wedgingFlags = u.when (!s.scrub.dirty.has 32) fun t => t.setFlag R.SCR_FLAG F.SCR_FLAG_STATIC false := by
    rw [hu, hl]
    rfl
  have hur : Regs (· = R.SCR_RGN_FLAG) s u := hu ▸ (Regs.refl _ s).forEach _ fun _ _ h => h.setBit _ _ rfl
  have hwr : Regs (· = R.SCR_FLAG) u s.wedgingFlags := he ▸ (Regs.refl _ u).when _ fun _ h => h.setFlag _ _ rfl
  refine ⟨fun r hr => ?_, ?_, fun off ho => ?_, ?_⟩
  · rw [State.bit_of_reg (hwr _ (by decide)), hu, bit_cleared l s R.SCR_RGN_FLAG hr]
    have hmem : l.contains r = !s.scrub.dirty.has r := by
      rw [hl, Bool.eq_iff_iff, List.contains_iff_mem, List.mem_filter, List.mem_range]
      exact ⟨fun h => h.2, fun h => ⟨hr, h⟩⟩
    rw [hmem, Bool.not_not]
  · rw [he]
    cases hd : s.scrub.dirty.has 32 with
    | true =>
      rw [State.when_false (by decide), State.flag_of_reg (hur _ (by decide)), Bool.and_true]
    | false => rw [State.when_true (by decide), State.flag_setFlag _ _ _ _ (by decide), Bool.and_false]
  · simp only [List.mem_cons, List.not_mem_nil, or_false, not_or] at ho
    exact (hwr off ho.2).trans (hur off ho.1)
  · rw [he, hu]
    exact ((Only.refl [.csr] s).forEach _ fun _ _ h => h.setBit _ _ _).when _ fun _ h => h.setFlag _ _ _

end

/-- Settles O42: a scan decides by the inverted bits of the one code word they lie in. -/
theorem wedgingsReadAndRepair : Obligations.WedgingsReadAndRepair := by
  unfold Obligations.WedgingsReadAndRepair
  refine ⟨fun s hr hw => ?start, fun s hno => ?idle, fun k a b s hr hw hskip hfin => ?scan, fun ns s hr hw hun hsleep => ?theEnd⟩
  case start =>
    obtain ⟨u, hu⟩ : ∃ u, u = s.setFlag R.SCR_STAT F.SCR_STAT_BUSY true := ⟨_, rfl⟩
    have hrun : exec .wedgingStart s = .next (u.setScrub { s.scrub with pos := [], finished := [], dirty := [], skip := (List.range 32).filter fun k => s.secGoing k }) := by
      rw [hu]
      exact congrArg Host.Outcome.next (if_pos (by simp [hr, hw]))
    refine ⟨_, hrun, ?_, rfl, rfl, rfl, rfl, rfl, fun off ho => ?_, (hu ▸ (Only.refl [.csr, .scrub] s).setFlag _ _ _ : Only [.csr, .scrub] s u).with_scrub _⟩
    · refine (?_ : u.flag R.SCR_STAT F.SCR_STAT_BUSY = true)
      rw [hu, State.flag_setFlag _ _ _ _ (by decide)]
    · refine (?_ : u.reg off = s.reg off)
      rw [hu]
      exact (Regs.refl (· = R.SCR_STAT) s).setFlag _ _ rfl off fun h => ho (List.mem_singleton.mpr h)
  case idle =>
    exact congrArg Host.Outcome.next (if_neg (by rcases hno with h | h <;> simp [h]))
  case scan =>
    intro p key f moved hf hw64 hrb hshd hact hlook hq hlost
    have hmoved : ∀ u : State, u.scrub.pos = s.scrub.pos → u.scrub.finished = s.scrub.finished → moved (u.scrubMove k p) := fun u h1 h2 =>
      (scrubMove_leaves (s := s) u k p h1 h2).1
    have hcrc := Frame.crc_of_readsBack hf hw64 hrb
    refine ⟨?_, fun ha hd => ?_, fun hab ha hb hsame => ?_⟩
    · have he : s.scrubAt key [] = s := by
        show (s.scrubFrame key false).scrubFrame key true = s
        rw [scrubFrame_sound (Frame.finding_none hf hw64 hrb key false), scrubFrame_unchecked hshd]
      obtain ⟨-, hl, -, honly⟩ := scrubMove_leaves (s := s) s k p rfl rfl
      exact ⟨_, (exec_scrubPosition [] hr hw hskip hfin).trans (congrArg (fun u : State => Host.Outcome.next (u.scrubMove k p)) he), hmoved s rfl rfl, hl, honly⟩
    · obtain ⟨x, hx⟩ : ∃ x : Finding, x = ⟨key, false, 1, [64 * (a.val / 72) + a.val % 72], []⟩ := ⟨_, rfl⟩
      obtain ⟨u, hu⟩ : ∃ u, u = s.storeFrame key false (f.invert [a.val]) := ⟨_, rfl⟩
      have hou : Only [.act] s u := hu ▸ storeFrame_leaves s key _
      have huf : u.act.frame key = f.invert [a.val] := by rw [hu, frame_storeFrame, if_pos rfl]
      have hfind : (u.act.frame key).finding key false = some x := by
        rw [huf, hx]
        exact Frame.finding_one (Frame.invert_one hf _) ha hd hw64 hcrc key false
      have hcor : (u.act.frame key).corrected = f := by
        have hin : (f.invert [a.val]).FlipsIn (a.val / 72) := fun b hb => by
          rw [Frame.invert_one hf] at hb
          rw [List.mem_singleton.mp hb]
        rw [huf, Frame.corrected_one hin (by omega) (by rw [Frame.invert_one hf]; rfl) hw64]
        show Frame.mk f.words f.crc [] = f
        rw [← hf]
      obtain ⟨v, hv⟩ : ∃ v, v = u.storeFrame key false f := ⟨_, rfl⟩
      obtain ⟨w, hwd⟩ : ∃ w, w = v.setScrub { u.scrub with look := u.scrub.look ++ [x] } := ⟨_, rfl⟩
      have how : Only [.act, .scrub] s w := by
        rw [hwd]
        exact ((hou.mono (by simp)).trans ((hv ▸ storeFrame_leaves u key f : Only [.act] u v).mono (by simp))).with_scrub _
      have hws : w.scrub = { s.scrub with look := s.scrub.look ++ [x] } := by
        rw [hwd]
        show ({ u.scrub with look := u.scrub.look ++ [x] } : Scrub) = _
        rw [hou.same .scrub]
      have he : s.scrubAt key [a.val] = w := by
        have hstep : u.scrubFrame key false = w := by
          rw [scrubFrame_repair ((scrubChecks_of hou (by decide) (by decide) key false).trans hact) hfind (by rw [hx]), hcor, hwd, hv]
        show (State.storeFrame s key false (f.invert [a.val]) |>.scrubFrame key false |>.scrubFrame key true) = w
        rw [← hu, hstep, scrubFrame_unchecked ((scrubChecks_of how (by decide) (by decide) key true).trans hshd)]
      have hframe : ∀ j, w.act.frame j = if j = key then f else s.act.frame j := fun j => by
        have hwv : w.act = v.act := by
          rw [hwd]
          rfl
        rw [hwv, hv, frame_storeFrame, hu, frame_storeFrame]
        split <;> rfl
      obtain ⟨-, hl, -, honly⟩ := scrubMove_leaves (s := s) w k p (by rw [hws]) (by rw [hws])
      have hactm := honly.same .act
      refine ⟨_, (exec_scrubPosition [a] hr hw hskip hfin).trans (congrArg (fun u : State => Host.Outcome.next (u.scrubMove k p)) he), hmoved w (by rw [hws]) (by rw [hws]),
        ?_, fun j hj => ?_, ⟨x, ?_, by rw [hx], by rw [hx], by rw [hx], by rw [hx]⟩, how.trans (honly.mono (by simp))⟩
      · rw [hactm, hframe, if_pos rfl]
      · rw [hactm, hframe, if_neg hj]
      · rw [hl, hws]
    · obtain ⟨hlen, hhas⟩ := Frame.invert_two hf (a := a.val) (b := b.val) fun h => hab (Fin.ext h)
      obtain ⟨g, hg⟩ : ∃ g, g = f.invert [a.val, b.val] := ⟨_, rfl⟩
      rw [← hg] at hlen hhas
      have hin : g.FlipsIn (a.val / 72) := fun i hi => by
        have h := hhas i
        rw [NSet.has, List.contains_iff_mem.mpr hi] at h
        rcases (Bool.or_eq_true _ _).mp h.symm with h | h
        · rw [beq_iff_eq.mp h]
        · rw [beq_iff_eq.mp h, hsame]
      obtain ⟨bits, hbits⟩ := Frame.finding_two hin (by omega) hlen key false
      obtain ⟨x, hx⟩ : ∃ x : Finding, x = ⟨key, false, 2, bits, [a.val / 72]⟩ := ⟨_, rfl⟩
      obtain ⟨u, hu⟩ : ∃ u, u = s.storeFrame key false g := ⟨_, rfl⟩
      have hou : Only [.act] s u := hu ▸ storeFrame_leaves s key g
      have hframe : ∀ j, u.act.frame j = if j = key then g else s.act.frame j := fun j => by rw [hu, frame_storeFrame]
      have hfind : (u.act.frame key).finding key false = some x := by rw [hframe, if_pos rfl, hx, hbits]
      have hus := hou.same .scrub
      obtain ⟨w, hwd⟩ : ∃ w, w = u.setScrub { u.scrub with dirty := NSet.add u.scrub.dirty (u.flagOf key), look := u.scrub.look ++ [x] } := ⟨_, rfl⟩
      have how : Only [.act, .scrub] s w := hwd ▸ (hou.mono (by simp)).with_scrub _
      have hws : w.scrub = { s.scrub with dirty := NSet.add s.scrub.dirty (s.flagOf key), look := s.scrub.look ++ [x] } := by
        rw [hwd]
        show ({ u.scrub with dirty := NSet.add u.scrub.dirty (u.flagOf key), look := u.scrub.look ++ [x] } : Scrub) = _
        rw [hus, flagOf_of hou]
      have he : s.scrubAt key [a.val, b.val] = w := by
        have hstep : u.scrubFrame key false = w := by
          rw [scrubFrame_mark ((scrubChecks_of hou (by decide) (by decide) key false).trans hact) hfind (by rw [hx]) (hus ▸ hlook) (hus ▸ hq) (hus ▸ hlost), hwd]
        show (State.storeFrame s key false (f.invert [a.val, b.val]) |>.scrubFrame key false |>.scrubFrame key true) = w
        rw [← hg, ← hu, hstep, scrubFrame_unchecked ((scrubChecks_of how (by decide) (by decide) key true).trans hshd)]
      have hwact : w.act = u.act := by
        rw [hwd]
        rfl
      obtain ⟨-, hl, hdirty, honly⟩ := scrubMove_leaves (s := s) w k p (by rw [hws]) (by rw [hws])
      have hactm := (honly.same .act).trans hwact
      refine ⟨_, (exec_scrubPosition [a, b] hr hw hskip hfin).trans (congrArg (fun u : State => Host.Outcome.next (u.scrubMove k p)) he), hmoved w (by rw [hws]) (by rw [hws]),
        fun i => ?_, ?_, fun j hj => ?_, ⟨x, ?_, by rw [hx], by rw [hx], by rw [hx]⟩, ?_, how.trans (honly.mono (by simp))⟩
      · rw [hactm, hframe, if_pos rfl, hhas]
      · rw [hactm, hframe, if_pos rfl, hg]
        rfl
      · rw [hactm, hframe, if_neg hj]
      · rw [hl, hws]
      · rw [hdirty, hws]
        show NSet.has (NSet.add _ _) _ = true
        rw [NSet.has_add, beq_self_eq_true, Bool.true_or]
  case theEnd =>
    obtain ⟨hreset, hhalt⟩ := phase_of_scrubRuns hr
    obtain ⟨v, hv⟩ : ∃ v, v = s.wedgingFlags := ⟨_, rfl⟩
    obtain ⟨hrgn, hstatic, hvr, hvo⟩ := hv ▸ wedgingFlags_leaves s
    obtain ⟨w, hwd⟩ : ∃ w, w = (v.setFlag R.SCR_STAT F.SCR_STAT_BUSY false).countWrap R.SCR_STAT F.SCR_STAT_PASS_CNT 1 := ⟨_, rfl⟩
    obtain ⟨x, hx⟩ : ∃ x, x = w.setReg R.SCR_PASS_TIME ns := ⟨_, rfl⟩
    have hrun : exec (.wedgingEnd ns) s = .next (x.pulse 32) := by
      rw [hx, hwd, hv]
      refine congrArg Host.Outcome.next ((if_neg (by simp [hr, hw])).trans ?_)
      rw [hun]
      rfl
    have hwr : Regs (· = R.SCR_STAT) v w := hwd ▸ ((Regs.refl (· = R.SCR_STAT) v).setFlag _ _ rfl).countWrap _ _ _ rfl
    have hxr : Regs (· = R.SCR_PASS_TIME) w x := hx ▸ (Regs.refl _ w).setReg _ rfl
    have hpr : ∀ off, (x.pulse 32).reg off = x.reg off := fun off => (Regs.refl (fun _ => False) x).pulse 32 off id
    have hstat : (x.pulse 32).reg R.SCR_STAT = w.reg R.SCR_STAT := (hpr _).trans (hxr _ (by decide))
    have hxo : Only [.csr] s x := by
      rw [hx, hwd]
      exact ((hvo.setFlag _ _ _).countWrap _ _ _).setReg _ _
    have hv0 : v.reg R.SCR_STAT = s.reg R.SCR_STAT := hvr _ (by decide)
    refine ⟨_, hrun, ?_, ?_, ?_, ?_, fun r hr32 => ?_, ?_, fun off ho => ?_, (hxo.mono (by simp)).pulse _⟩
    · rw [State.wedging, State.flag_of_reg hstat, hwd, State.countWrap, State.flag_setFld_fld _ _ _ _ _ (by decide), State.flag_setFlag _ _ _ _ (by decide)]
    · rw [hpr, hx, State.reg_setReg_same]
    · rw [State.fld_of_reg hstat, hwd, State.countWrap, State.fld_setFld _ _ _ _ (by decide), State.fld_setFlag_fld _ _ _ _ _ (by decide), State.fld_of_reg hv0]
      rfl
    · refine State.pending_pulse_of (by decide) (by decide) (by decide) ?_ ?_ ?_
      · rw [hxo.same .boot, hreset]
      · rw [hxo.same .ic, hsleep]
      · refine Eq.trans ?_ hhalt
        refine State.flag_of_reg ?_ _
        rw [hxr _ (by decide), hwr _ (by decide), hvr _ (by decide)]
    · rw [State.bit_of_reg ((hpr _).trans ((hxr _ (by decide)).trans (hwr _ (by decide)))), hrgn r hr32]
    · rw [State.flag_of_reg ((hpr _).trans ((hxr _ (by decide)).trans (hwr _ (by decide)))), hstatic]
    · simp only [List.mem_cons, List.not_mem_nil, or_false, not_or] at ho
      refine (hpr off).trans ((hxr off ho.2.1).trans ((hwr off ho.1).trans (hvr off ?_)))
      simp [ho.2.2.1, ho.2.2.2]

end Sys2Proof.Machine
end

section
/-! ## Packets enter the network, move and arrive (O35) -/

namespace Sys2Proof.Machine

-- Elaborated in order: side by side, so many short proofs would each hold a thread with its stack.
set_option Elab.async false

open Sys2Proof

section
variable {s t : State}

/-! Counters and records of the network (R327). -/

/-- A record of the network changes the error unit alone. -/
theorem nocRecord_leaves (s : State) (unit : Nat) {router : Nat} (hr : router < 64) (event sev port src dst : Nat) :
    Regs (fun off => off / 0x10000 = 5) s (s.nocRecord unit router event sev port src dst) ∧ Only [.csr, .ic, .err] s (s.nocRecord unit router event sev port src dst) := by
  refine ⟨(Regs.refl _ s).nocRecord _ _ _ _ _ _ _ (by omega) (by split <;> decide) fun off h => h, (Only.refl _ s).nocRecord _ _ _ _ _ _ _⟩

theorem linkOf_lt {n port m : Nat} (hn : n < 64) (h : linkOf n port = some m) : m < 64 := by
  unfold linkOf at h
  dsimp only at h
  split at h
  · split at h
    · cases h
      omega
    · exact absurd h (by simp)
  · split at h
    · cases h
      omega
    · exact absurd h (by simp)
  · split at h
    · cases h
      omega
    · exact absurd h (by simp)
  · split at h
    · cases h
      omega
    · exact absurd h (by simp)
  · cases h
    split <;> omega
  · cases h
    split <;> omega
  · exact absurd h (by simp)

/-- A counter that wraps (R328). -/
theorem State.toNat_countWrap (s : State) (off n : Nat) : ((s.countWrap off ⟨0, 32⟩ n).reg off).toNat = ((s.reg off).toNat + n) % 2 ^ 32 := by
  have hget : ∀ v : Word, v.fget ⟨0, 32⟩ = v.toNat := fun v => by
    show (v.toNat >>> 0) % 2 ^ 32 = _
    rw [Nat.shiftRight_zero]
    exact Nat.mod_eq_of_lt v.isLt
  have h := State.fld_setFld s off ⟨0, 32⟩ (s.fld off ⟨0, 32⟩ + n) (by decide)
  rw [State.fld, hget, State.fld, hget] at h
  rw [State.countWrap, State.fld, hget, h]

/-! A hop (R305, R306). -/

/-- A packet that moves over a link, as it leaves. -/
def Packet.hopped (p : Packet) : Packet := { p with route := p.route / 16 + 15 * 2 ^ 44 }

theorem flits_ne_ce (n p m : Nat) (hp : p < 16) : R.NOC_FLITS n p ≠ R.NOC_CE_CNT m := by
  simp only [R.NOC_FLITS, R.NOC_CE_CNT]
  omega

theorem flits_high (n p : Nat) (hn : n < 64) (hp : p < 16) : R.NOC_FLITS n p / 0x10000 ≠ 5 := by
  simp only [R.NOC_FLITS]
  omega

theorem routerOf_lt (e : Fin 256) : routerOf e < 64 := (by decide +kernel : ∀ e : Fin 256, routerOf e < 64) e

/-- The flits of a packet are counted at the port that it leaves by, and nothing else changes. -/
theorem flitsCounted (s : State) (n p k : Nat) : ((s.countWrap (R.NOC_FLITS n p) F.NOC_FLITS_COUNT k).reg (R.NOC_FLITS n p)).toNat =
    ((s.reg (R.NOC_FLITS n p)).toNat + k) % 2 ^ 32 ∧ Regs (· = R.NOC_FLITS n p) s (s.countWrap (R.NOC_FLITS n p) F.NOC_FLITS_COUNT k) ∧
    Only [.csr] s (s.countWrap (R.NOC_FLITS n p) F.NOC_FLITS_COUNT k) :=
  ⟨State.toNat_countWrap s _ k, (Regs.refl _ s).countWrap _ _ _ rfl, (Only.refl _ s).countWrap _ _ _⟩

theorem noc_nocRecord (s : State) (unit router event sev port src dst : Nat) : (s.nocRecord unit router event sev port src dst).noc = s.noc :=
  ((Only.refl [.csr, .ic, .err] s).nocRecord _ _ _ _ _ _ _).same .noc

/-- A packet over a link, by what the link does to it. -/
theorem linkHop_leaves {n port m : Nat} (hn : n < 64) (hp : port < 16) (hm : m < 64) (s : State) (k : Nat) (p : Packet) (err : LinkErr) :
    (err = .none → (s.linkHop k n port m p err).noc = { s.noc with flight := s.noc.flight.set k ⟨m, p.hopped⟩ } ∧
      RegsBut [R.NOC_FLITS n port] s (s.linkHop k n port m p err) ∧ Only [.csr, .noc] s (s.linkHop k n port m p err)) ∧
    (err = .corrected → (s.linkHop k n port m p err).noc.flight = s.noc.flight.set k ⟨m, p.hopped⟩ ∧
      ((s.linkHop k n port m p err).reg (R.NOC_CE_CNT m)).toNat = min ((s.reg (R.NOC_CE_CNT m)).toNat + 1) (2 ^ 32 - 1)) ∧
    (err = .header → (s.linkHop k n port m p err).noc = { s.noc with flight := s.noc.flight.eraseIdx k }) ∧
    (err = .data → p.data ≠ [] → (s.linkHop k n port m p err).noc.flight = s.noc.flight.set k ⟨m, { p.hopped with poison := true }⟩) ∧
    ((s.linkHop k n port m p err).reg (R.NOC_FLITS n port)).toNat = ((s.reg (R.NOC_FLITS n port)).toNat + p.flits) % 2 ^ 32 := by
  obtain ⟨t, ht⟩ : ∃ t, t = s.countWrap (R.NOC_FLITS n port) F.NOC_FLITS_COUNT p.flits := ⟨_, rfl⟩
  obtain ⟨hflits, hreg, honly⟩ := ht ▸ flitsCounted s n port p.flits
  have hnoc : t.noc = s.noc := honly.same .noc
  have hrec : ∀ (u : State) (event sev far : Nat), (u.nocRecord m m event sev far p.src p.dst).reg (R.NOC_FLITS n port) = u.reg (R.NOC_FLITS n port) :=
    fun u event sev far => (nocRecord_leaves u m hm event sev far p.src p.dst).1 _ (flits_high n port hn hp)
  cases err with
  | none =>
    obtain ⟨x, hx⟩ : ∃ x, x = t.setNoc { t.noc with flight := t.noc.flight.set k ⟨m, p.hopped⟩ } := ⟨_, rfl⟩
    have he : s.linkHop k n port m p .none = x := by
      rw [hx, ht]
      rfl
    have hxr : ∀ off, x.reg off = t.reg off := fun off => by
      rw [hx]
      rfl
    rw [he]
    refine ⟨fun _ => ⟨?_, fun off ho => (hxr off).trans (hreg off fun h => ho (List.mem_singleton.mpr h)), hx ▸ (honly.mono (by simp)).setNoc _⟩,
      fun h => absurd h (by decide), fun h => absurd h (by decide), fun h => absurd h (by decide), by rw [hxr, hflits]⟩
    rw [hx]
    show ({ t.noc with flight := t.noc.flight.set k ⟨m, p.hopped⟩ } : Noc) = _
    rw [hnoc]
  | corrected =>
    obtain ⟨x, hx⟩ : ∃ x, x = t.setNoc { t.noc with flight := t.noc.flight.set k ⟨m, p.hopped⟩ } := ⟨_, rfl⟩
    obtain ⟨y, hy⟩ : ∃ y, y = x.count (R.NOC_CE_CNT m) F.NOC_CE_CNT_COUNT 1 := ⟨_, rfl⟩
    have he : s.linkHop k n port m p .corrected = y.nocRecord m m 1 0 (farPort port) p.src p.dst := by
      rw [hy, hx, ht]
      rfl
    have hxr : ∀ off, x.reg off = t.reg off := fun off => by
      rw [hx]
      rfl
    have hyn : y.noc = x.noc := hy ▸ ((Only.refl [.csr] x).count _ _ _).same .noc
    rw [he]
    refine ⟨fun h => absurd h (by decide), fun _ => ⟨?_, ?_⟩, fun h => absurd h (by decide), fun h => absurd h (by decide), ?_⟩
    · rw [noc_nocRecord, hyn, hx]
      show t.noc.flight.set k ⟨m, p.hopped⟩ = _
      rw [hnoc]
    · rw [(nocRecord_leaves y m hm _ _ _ _ _).1 _ (by simp only [R.NOC_CE_CNT]; omega), hy]
      refine (State.toNat_count x _ 1).trans ?_
      rw [hxr, hreg _ (flits_ne_ce n port m hp).symm]
    · rw [hrec, hy, (Regs.refl (· = R.NOC_CE_CNT m) x).count _ _ _ rfl _ (flits_ne_ce n port m hp), hxr, hflits]
  | header =>
    obtain ⟨x, hx⟩ : ∃ x, x = t.setNoc { t.noc with flight := t.noc.flight.eraseIdx k } := ⟨_, rfl⟩
    have he : s.linkHop k n port m p .header = x.nocRecord m m 2 2 (farPort port) p.src p.dst := by
      rw [hx, ht]
      rfl
    have hxr : ∀ off, x.reg off = t.reg off := fun off => by
      rw [hx]
      rfl
    rw [he]
    refine ⟨fun h => absurd h (by decide), fun h => absurd h (by decide), fun _ => ?_, fun h => absurd h (by decide), by rw [hrec, hxr, hflits]⟩
    rw [noc_nocRecord, hx]
    show ({ t.noc with flight := t.noc.flight.eraseIdx k } : Noc) = _
    rw [hnoc]
  | data =>
    obtain ⟨x, hx⟩ : ∃ x, x = t.setNoc { t.noc with flight := t.noc.flight.set k ⟨m, { p.hopped with poison := true }⟩ } := ⟨_, rfl⟩
    obtain ⟨y, hy⟩ : ∃ y, y = t.setNoc { t.noc with flight := t.noc.flight.set k ⟨m, p.hopped⟩ } := ⟨_, rfl⟩
    have he : s.linkHop k n port m p .data = if p.data.isEmpty then y else x.nocRecord m m 3 1 (farPort port) p.src p.dst := by
      rw [hx, hy, ht]
      rfl
    have hxr : ∀ off, x.reg off = t.reg off := fun off => by
      rw [hx]
      rfl
    have hyr : ∀ off, y.reg off = t.reg off := fun off => by
      rw [hy]
      rfl
    rw [he]
    refine ⟨fun h => absurd h (by decide), fun h => absurd h (by decide), fun h => absurd h (by decide), fun _ hd => ?_, ?_⟩
    · rw [if_neg (by simpa using hd), noc_nocRecord, hx]
      show t.noc.flight.set k ⟨m, { p.hopped with poison := true }⟩ = _
      rw [hnoc]
    · split
      · rw [hyr, hflits]
      · rw [hrec, hxr, hflits]

/-- An undeliverable packet is counted, and answered where it expects a response (R327). -/
theorem undeliverable_leaves {n : Nat} (hn : n < 64) (s : State) (port : Nat) (p : Packet) :
    ((s.undeliverable n port p).reg (R.NOC_UNDELIV_CNT n)).toNat = min ((s.reg (R.NOC_UNDELIV_CNT n)).toNat + 1) (2 ^ 32 - 1) ∧
    (s.undeliverable n port p).noc.arrived = s.noc.arrived ∧
    (p.isRsp = true ∨ p.vn = 2 → (s.undeliverable n port p).noc.flight = s.noc.flight) ∧
    (p.isRsp = false → p.vn ≠ 2 → ∃ q : Packet, (s.undeliverable n port p).noc.flight = s.noc.flight ++ [⟨n, q⟩] ∧ q.status = 3 ∧ q.dst = p.src ∧ q.ltag = p.ltag) := by
  obtain ⟨t, ht⟩ : ∃ t, t = s.count (R.NOC_UNDELIV_CNT n) F.NOC_UNDELIV_CNT_COUNT 1 := ⟨_, rfl⟩
  have hnoc : t.noc = s.noc := ht ▸ ((Only.refl [.csr] s).count _ _ _).same .noc
  have hcount : (t.reg (R.NOC_UNDELIV_CNT n)).toNat = min ((s.reg (R.NOC_UNDELIV_CNT n)).toNat + 1) (2 ^ 32 - 1) := ht ▸ State.toNat_count s _ 1
  have hrec : ∀ (u : State) (event sev : Nat), (u.nocRecord n n event sev port p.src p.dst).reg (R.NOC_UNDELIV_CNT n) = u.reg (R.NOC_UNDELIV_CNT n) :=
    fun u event sev => (nocRecord_leaves u n hn event sev port p.src p.dst).1 _ (by simp only [R.NOC_UNDELIV_CNT]; omega)
  by_cases h : (p.isRsp || p.vn = 2) = true
  · have he : s.undeliverable n port p = t.nocRecord n n 5 2 port p.src p.dst := by
      rw [ht]
      exact if_pos h
    rw [he, hrec, noc_nocRecord, hnoc]
    refine ⟨hcount, rfl, fun _ => rfl, fun h1 h2 => ?_⟩
    simp [h1, h2] at h
  · have he : s.undeliverable n port p = (t.routerAnswer n p 3).nocRecord n n 4 2 port p.src p.dst := by
      rw [ht]
      exact if_neg h
    rw [he, hrec, noc_nocRecord]
    refine ⟨hcount, ?_, fun h' => ?_, fun _ _ => ⟨_, congrArg (fun x : Noc => x.flight ++ _) hnoc, rfl, rfl, rfl⟩⟩
    · show t.noc.arrived = s.noc.arrived
      rw [hnoc]
    simp [h'] at h

/-- A packet at its endpoint (R321). -/
theorem deliver_endpoint {n port : Nat} {p : Packet} (hf : port ≠ 0 ∨ s.fencePass n p = true) (he : endpointOn n port = some p.dst) :
    (s.deliver n port p).noc = { s.noc with arrived := s.noc.arrived ++ [p] } ∧ RegsBut [R.NOC_FLITS n port] s (s.deliver n port p) ∧
    Only [.csr, .noc] s (s.deliver n port p) := by
  obtain ⟨t, ht⟩ : ∃ t, t = s.countWrap (R.NOC_FLITS n port) F.NOC_FLITS_COUNT p.flits := ⟨_, rfl⟩
  obtain ⟨-, hreg, honly⟩ := ht ▸ flitsCounted s n port p.flits
  have hrun : s.deliver n port p = t.setNoc { t.noc with arrived := t.noc.arrived ++ [p] } := by
    rw [ht, State.deliver, if_neg (by rcases hf with h | h <;> simp [h]), if_neg (by simp [he])]
  rw [hrun]
  refine ⟨?_, fun off ho => (State.reg_of_csr rfl off).trans (hreg off fun h => ho (List.mem_singleton.mpr h)), (honly.mono (by simp)).setNoc _⟩
  show ({ t.noc with arrived := t.noc.arrived ++ [p] } : Noc) = _
  rw [honly.same .noc]

theorem deliver_elsewhere {n port : Nat} {p : Packet} (hf : port ≠ 0) (he : endpointOn n port ≠ some p.dst) : s.deliver n port p = s.undeliverable n port p := by
  rw [State.deliver, if_neg (by simp [hf]), if_pos (by simpa using he)]

/-- A request that a closed fence stops is answered FENCED (R321). -/
theorem deliver_fenced {n : Nat} {p : Packet} (hf : s.fence n = 2) (hr : p.isRsp = false) (hv : p.vn ≠ 2) :
    (∃ q : Packet, (s.deliver n 0 p).noc.flight = s.noc.flight ++ [⟨n, q⟩] ∧ q.status = 4 ∧ q.isRsp = true ∧ q.dst = p.src ∧ q.ltag = p.ltag ∧ q.route = defaultRoute n p.src) ∧
    ((s.deliver n 0 p).reg (R.NOC_FENCED_CNT n)).toNat = min ((s.reg (R.NOC_FENCED_CNT n)).toNat + 1) (2 ^ 32 - 1) ∧ Only [.csr, .noc] s (s.deliver n 0 p) := by
  have hpass : s.fencePass n p = false := by
    unfold State.fencePass
    rw [hf]
    rfl
  obtain ⟨t, ht⟩ : ∃ t, t = s.count (R.NOC_FENCED_CNT n) F.NOC_FENCED_CNT_COUNT 1 := ⟨_, rfl⟩
  have hrun : s.deliver n 0 p = t.routerAnswer n p 4 := by
    rw [ht, State.deliver, if_pos (by simp [hpass]), State.fenced, if_neg (by simp [hr, hv])]
  have hnoc : t.noc = s.noc := ht ▸ ((Only.refl [.csr] s).count _ _ _).same .noc
  rw [hrun]
  refine ⟨⟨_, congrArg (fun x : Noc => x.flight ++ _) hnoc, rfl, ?_, rfl, rfl, rfl⟩, ?_, (ht ▸ (Only.refl [.csr, .noc] s).count _ _ _ : Only [.csr, .noc] s t).routerAnswer _ _ _⟩
  · simp only [Packet.isRsp]
    split
    · split <;> decide
    · rfl
  · rw [ht]
    exact State.toNat_count s _ 1

/-! The command (R315, R325, R327). -/

section
variable {k : Nat} {f : Flight} (err : LinkErr)

/-- The state without the packet that leaves. -/
def State.withoutFlight (s : State) (k : Nat) : State := s.setNoc { s.noc with flight := s.noc.flight.eraseIdx k }

theorem routerHop_link {m : Nat} (hk : s.noc.flight[k]? = some f) (hb : Noc.blocked s.noc.flight k f = false) (hc : s.portChanging f.at' (f.pkt.route % 16) = false)
    (hm : f.pkt.matched = true) (hu : s.portUp f.at' (f.pkt.route % 16) = true) (hp : 8 ≤ f.pkt.route % 16) (hl : linkOf f.at' (f.pkt.route % 16) = some m)
    (hfar : s.portChanging m (farPort (f.pkt.route % 16)) = false) :
    exec (.routerHop k err) s = .next (s.linkHop k f.at' (f.pkt.route % 16) m f.pkt err) := by
  refine congrArg Host.Outcome.next ?_
  rw [hk]
  dsimp only
  rw [hb, hc, hm, hu, if_neg (by decide), if_neg (by decide), if_neg (by omega), hl]
  dsimp only
  rw [hfar, if_neg (by decide)]

theorem routerHop_local (hk : s.noc.flight[k]? = some f) (hb : Noc.blocked s.noc.flight k f = false) (hc : s.portChanging f.at' (f.pkt.route % 16) = false)
    (hm : f.pkt.matched = true) (hu : s.portUp f.at' (f.pkt.route % 16) = true) (hp : f.pkt.route % 16 < 8) :
    exec (.routerHop k err) s = .next ((s.withoutFlight k).deliver f.at' (f.pkt.route % 16) f.pkt) := by
  refine congrArg Host.Outcome.next ?_
  rw [hk]
  dsimp only
  rw [hb, hc, hm, hu, if_neg (by decide), if_neg (by decide), if_pos hp]
  rfl

theorem routerHop_stopped (hk : s.noc.flight[k]? = some f) (hb : Noc.blocked s.noc.flight k f = false) (hc : s.portChanging f.at' (f.pkt.route % 16) = false)
    (hno : f.pkt.matched = false ∨ s.portUp f.at' (f.pkt.route % 16) = false) :
    exec (.routerHop k err) s = .next ((s.withoutFlight k).undeliverable f.at' (f.pkt.route % 16) f.pkt) := by
  refine congrArg Host.Outcome.next ?_
  rw [hk]
  dsimp only
  rw [hb, hc, if_neg (by decide), if_pos (by rcases hno with h | h <;> simp [h])]
  rfl

end

/-! Requests that enter (R298, R313, R316). -/

theorem issue_open {e ltag : Nat} (hend : (endpointAt e).isSome) (hr : s.boot.inReset = false) (ho : s.niOpen e = true)
    (htag : ∀ g ∈ s.noc.tags, g.ni = e → g.ltag ≠ ltag) :
    ((endpointAt e).isNone || s.boot.inReset || !s.niOpen e || ((0 == 0 || 0 == 3) && s.noc.tags.any (fun g => g.ni == e && g.ltag == ltag))) = false := by
  have hany : s.noc.tags.any (fun g => g.ni == e && g.ltag == ltag) = false := List.any_eq_false.mpr fun g hg h => by
    simp only [Bool.and_eq_true, beq_iff_eq] at h
    exact htag g hg h.1 h.2
  rw [hany, hr, ho, Option.isNone_eq_false_iff.mpr hend]
  rfl

theorem issue_off {e cmd addr len ltag : Nat} {data : List Byte} {dst : Dest} (hend : (endpointAt e).isSome) (hr : s.boot.inReset = false) (ho : s.niOpen e = true)
    (htag : ∀ g ∈ s.noc.tags, g.ni = e → g.ltag ≠ ltag) (hcmd : cmd = 1 ∨ cmd = 2) (hoff : s.niOn e = false) :
    s.issue e cmd 0 addr len data ltag dst = s.complete ⟨e, ltag, 7, []⟩ := by
  have h := issue_open hend hr ho htag
  unfold State.issue
  dsimp only
  rw [if_neg (by rw [h]; decide), if_pos (by simp [hoff]), if_neg (by rcases hcmd with h | h <;> simp [h, cmdPwr])]

theorem issue_none {e cmd addr len ltag : Nat} {data : List Byte} (hend : (endpointAt e).isSome) (hr : s.boot.inReset = false) (ho : s.niOpen e = true)
    (htag : ∀ g ∈ s.noc.tags, g.ni = e → g.ltag ≠ ltag) (hcmd : cmd = 1 ∨ cmd = 2) (hon : s.niOn e = true) :
    s.issue e cmd 0 addr len data ltag .none = (s.decErr e).complete ⟨e, ltag, 1, []⟩ := by
  have h := issue_open hend hr ho htag
  unfold State.issue
  dsimp only
  rw [if_neg (by rw [h]; decide), if_neg (by simp [hon])]
  exact if_neg (by rcases hcmd with h | h <;> simp [h, cmdPwr])

theorem issue_endp {e cmd addr len ltag d loc : Nat} {data : List Byte} (hend : (endpointAt e).isSome) (hr : s.boot.inReset = false) (ho : s.niOpen e = true)
    (htag : ∀ g ∈ s.noc.tags, g.ni = e → g.ltag ≠ ltag) (hon : s.niOn e = true) (hroute : s.niRouteOf e d ≠ 2 ^ 48 - 1)
    (hpool : rspFlits cmd len ≤ s.poolFree e) : ∃ p : Packet,
    p = { route := s.niRouteOf e d, vn := 0, dbg := e == 0x6B, poison := false, status := 0, cmd := cmd, ltag := ltag, src := e, dst := d, addr := addr, loc := loc
          len := len, data := if cmd = cmdWr || cmd = cmdPwr then sliceBytes data 0 (len + 1) else [] } ∧
    s.issue e cmd 0 addr len data ltag (.endp d loc) =
      s.setNoc { s.noc with flight := s.noc.flight ++ [⟨routerOf e, p⟩], tags := s.noc.tags ++ [⟨e, ltag, rspFlits cmd len, p⟩] } := by
  have h := issue_open hend hr ho htag
  refine ⟨_, rfl, ?_⟩
  unfold State.issue
  dsimp only
  rw [if_neg (by rw [h]; decide), if_neg (by simp [hon])]
  refine (if_neg hroute).trans ((if_neg ?_).trans rfl)
  simp only [Bool.and_eq_true, decide_eq_true_eq, not_and]
  intro _
  omega

end

/-- Settles O35: a packet moves by the port its route names, and is answered where it cannot. -/
theorem packetsEnterMoveAndArrive : Obligations.PacketsEnterMoveAndArrive := by
  unfold Obligations.PacketsEnterMoveAndArrive
  refine ⟨fun e cmd addr len data ltag s hi hcmd hend hr ho htag => ⟨fun d loc hon hd hroute hpool => ?enter, fun hoff => ?off, fun hon hd => ?none⟩,
    fun k f err s hk hn hb hc hm hu => ⟨fun m hp hl hfar => ?link, fun hp hf he => ?endpoint, fun hp hf hrsp hvn => ?fenced, fun hp h0 he => ?elsewhere⟩,
    fun k f err s hk hn hb hc hno => ?stopped, fun k err s hk => ?gone⟩
  case enter =>
    have hrun : exec (.nocRequestIssue e cmd 0 addr len data ltag) s = .next (s.issue e cmd 0 addr.toNat len data ltag (s.nocDest e addr.toNat len)) :=
      congrArg Host.Outcome.next (if_pos (by rcases hcmd with h | h <;> simp [hi, h]))
    obtain ⟨p, hp, hissue⟩ := issue_endp (cmd := cmd) (addr := addr.toNat) (len := len) (loc := loc) (data := data) hend hr ho htag hon hroute hpool
    refine ⟨_, hrun.trans (by rw [hd, hissue]), p, ?_⟩
    rw [hp]
    refine ⟨rfl, rfl, rfl, rfl, rfl, rfl, rfl, rfl, rfl, rfl, rfl, fun h => ?_, fun h => ?_, rfl, (Only.refl _ s).setNoc _⟩
    · simp [h, cmdWr]
    · simp [h, cmdWr, cmdPwr]
  case off =>
    have hrun : exec (.nocRequestIssue e cmd 0 addr len data ltag) s = .next (s.issue e cmd 0 addr.toNat len data ltag (s.nocDest e addr.toNat len)) :=
      congrArg Host.Outcome.next (if_pos (by rcases hcmd with h | h <;> simp [hi, h]))
    exact ⟨_, hrun.trans (congrArg _ (issue_off hend hr ho htag hcmd hoff)), rfl, rfl, rfl, (Only.refl _ s).complete _⟩
  case none =>
    have hrun : exec (.nocRequestIssue e cmd 0 addr len data ltag) s = .next (s.issue e cmd 0 addr.toNat len data ltag (s.nocDest e addr.toNat len)) :=
      congrArg Host.Outcome.next (if_pos (by rcases hcmd with h | h <;> simp [hi, h]))
    obtain ⟨t, ht⟩ : ∃ t, t = s.count (R.NI_DECERR_CNT e) F.NI_DECERR_CNT_COUNT 1 := ⟨_, rfl⟩
    have hdec : s.decErr e = t.nocRecord (64 + e) (routerOf e) 9 0 0 e 0 := by
      rw [ht]
      rfl
    have honly : Only [.csr, .ic, .err] s (s.decErr e) := (Only.refl _ s).decErr e
    refine ⟨_, hrun.trans (by rw [hd, issue_none hend hr ho htag hcmd hon]), rfl, ?_, ?_, (honly.mono (by simp)).complete _⟩
    · show (s.decErr e).noc.flight = _
      rw [honly.same .noc]
    · show ((s.decErr e).reg (R.NI_DECERR_CNT e)).toNat = _
      rw [hdec, (nocRecord_leaves t (64 + e) (routerOf_lt e) _ _ _ _ _).1 _ (by simp only [R.NI_DECERR_CNT]; omega), ht]
      exact State.toNat_count s _ 1
  case link =>
    obtain ⟨h1, h2, h3, h4, h5⟩ := linkHop_leaves hn (Nat.mod_lt _ (by decide) : f.pkt.route % 16 < 16) (linkOf_lt hn hl) s k f.pkt err
    exact ⟨_, routerHop_link err hk hb hc hm hu hp hl hfar, h1, h2, h3, h4, h5⟩
  case endpoint =>
    obtain ⟨h1, h2, h3⟩ := deliver_endpoint (s := s.withoutFlight k) hf he
    exact ⟨_, routerHop_local err hk hb hc hm hu hp, h1, fun off ho => h2 off ho, ((Only.refl [.csr, .noc] s).setNoc _).trans h3⟩
  case fenced =>
    obtain ⟨h1, h2, h3⟩ := deliver_fenced (s := s.withoutFlight k) (p := f.pkt) hf hrsp hvn
    have hrun := routerHop_local err hk hb hc hm hu (by rw [hp]; decide)
    rw [hp] at hrun
    exact ⟨_, hrun, h1, h2, ((Only.refl [.csr, .noc] s).setNoc _).trans h3⟩
  case elsewhere =>
    obtain ⟨h1, h2, h3, h4⟩ := undeliverable_leaves hn (s.withoutFlight k) (f.pkt.route % 16) f.pkt
    exact ⟨_, (routerHop_local err hk hb hc hm hu hp).trans (congrArg _ (deliver_elsewhere h0 he)), h1, h2, h3, h4⟩
  case stopped =>
    obtain ⟨h1, h2, h3, h4⟩ := undeliverable_leaves hn (s.withoutFlight k) (f.pkt.route % 16) f.pkt
    exact ⟨_, routerHop_stopped err hk hb hc hno, h1, h2, h3, h4⟩
  case gone =>
    refine congrArg Host.Outcome.next ?_
    rw [List.getElem?_eq_none hk]

end Sys2Proof.Machine
end
